-- ==== Sys2Proof/Word.lean ====
section
/-! DEFINITION. The word types of the ZK4832-H and the sparse table type that every indexed piece of state uses. -/

namespace Sys2Proof

/-- A register word of the 32-bit management map (R497). -/
abbrev W32 := BitVec 32

/-- A byte of a frame, a transfer or an image. -/
abbrev Byte := BitVec 8

/-- A sparse table: (index, value) pairs with strictly rising indexes; an index not listed has the
collection's default value, and no listed value equals that default (`Table.wf`). -/
abbrev Table (α : Type) := List (Nat × α)

/-- The two coherent engines (R5). -/
inductive Eng where
  | A
  | B
  deriving DecidableEq, Repr

/-- Engine number as events and records carry it: 0 for A, 1 for B. -/
def Eng.num : Eng → Nat
  | .A => 0
  | .B => 1

/-- The engine that is not the one given. -/
def Eng.other : Eng → Eng
  | .A => .B
  | .B => .A

/-- The two telecom feeds (R35). -/
inductive Feed where
  | A
  | B
  deriving DecidableEq, Repr

/-- Feed number as events carry it (R73). -/
def Feed.num : Feed → Nat
  | .A => 0
  | .B => 1

/-- The feed that is not the one given. -/
def Feed.other : Feed → Feed
  | .A => .B
  | .B => .A

/-- The eighteen islands, in the row order of R17. -/
inductive Isl where
  | aon | pwr | mgt | key | tod | dmem | flow | cryp | cltx | clrx
  | aTxc | aTxd | aRxc | aRxd | bTxc | bTxd | bRxc | bRxd
  deriving DecidableEq, Repr

/-- The 8-bit island ID of R17. -/
def Isl.id : Isl → Nat
  | .aon => 0x01 | .pwr => 0x02 | .mgt => 0x03 | .key => 0x04 | .tod => 0x05 | .dmem => 0x06
  | .flow => 0x07 | .cryp => 0x08 | .cltx => 0x09 | .clrx => 0x0A
  | .aTxc => 0x10 | .aTxd => 0x11 | .aRxc => 0x12 | .aRxd => 0x13
  | .bTxc => 0x20 | .bTxd => 0x21 | .bRxc => 0x22 | .bRxd => 0x23

/-- The row of an island in R17, which is its bit in the island masks of R549. -/
def Isl.row : Isl → Nat
  | .aon => 0 | .pwr => 1 | .mgt => 2 | .key => 3 | .tod => 4 | .dmem => 5
  | .flow => 6 | .cryp => 7 | .cltx => 8 | .clrx => 9
  | .aTxc => 10 | .aTxd => 11 | .aRxc => 12 | .aRxd => 13
  | .bTxc => 14 | .bTxd => 15 | .bRxc => 16 | .bRxd => 17

/-- All islands in the row order of R17. -/
def Isl.all : List Isl :=
  [.aon, .pwr, .mgt, .key, .tod, .dmem, .flow, .cryp, .cltx, .clrx,
   .aTxc, .aTxd, .aRxc, .aRxd, .bTxc, .bTxd, .bRxc, .bRxd]

/-- The engine's transmit-converter, transmit-DSP, receive-converter and receive-DSP islands (R17). -/
def Eng.txc : Eng → Isl
  | .A => .aTxc
  | .B => .bTxc
def Eng.txd : Eng → Isl
  | .A => .aTxd
  | .B => .bTxd
def Eng.rxc : Eng → Isl
  | .A => .aRxc
  | .B => .bRxc
def Eng.rxd : Eng → Isl
  | .A => .aRxd
  | .B => .bRxd

/-- The engine an island belongs to, for the eight engine islands (R17). -/
def Isl.eng? : Isl → Option Eng
  | .aTxc | .aTxd | .aRxc | .aRxd => some .A
  | .bTxc | .bTxd | .bRxc | .bRxd => some .B
  | .aon | .pwr | .mgt | .key | .tod | .dmem | .flow | .cryp | .cltx | .clrx => none

/-- The four islands of an engine. -/
def Eng.isls (e : Eng) : List Isl := [e.txc, e.txd, e.rxc, e.rxd]

/-- A subcarrier, a downstream group, a client port or lane, and the other fixed ranges of the manual. -/
abbrev Sc := Fin 32
abbrev Grp := Fin 8
abbrev LeafId := Fin 4096
abbrev SsetIx := Fin 512
abbrev Cid := Fin 32768
abbrev PortIx := Fin 32
abbrev KeySlotIx := Fin 20480
abbrev BankIx := Fin 64
abbrev FlowIx := Fin 1048576

/-- Unsigned field `[msb:lsb]` of a word (R7). -/
def fld (w : BitVec n) (hi lo : Nat) : Nat := (w.toNat >>> lo) % 2 ^ (hi + 1 - lo)

/-- One bit of a word (R7). -/
def bit (w : BitVec n) (i : Nat) : Bool := w.getLsbD i

/-- A Bool as the bit it is read as. -/
def b01 (b : Bool) : Nat := if b then 1 else 0

end Sys2Proof
end

