-- ==== Sys2Proof/Syntax.lean ====
section
/-! DEFINITION. The commands the block takes: one constructor per row of the spec's table of operations and events, with
the operands the row's rule names (an engine, an index, a written value, a measured quantity, the bytes that arrived). -/

namespace Sys2Proof

/-- The three gate cases of R170. -/
inductive GateKind where
  | granted | square | ranging
  deriving DecidableEq, Repr

/-- A complex sample or symbol as a pair of its I and Q parts. -/
abbrev Cpx := Int × Int

/-- A dual-polarization sample or symbol: its X and its Y part. -/
abbrev DpCpx := Cpx × Cpx

/-- A word (R202): 256 consecutive samples of each of the four ADCs, oldest first. -/
structure RxWord where
  xi : List Int
  xq : List Int
  yi : List Int
  yq : List Int
  deriving DecidableEq, Repr

/-- One sample of the transmit monitor (R232): the four outputs' samples, the number of the DAC sample that they fall in, counted from the
start of the collection, and the sampling phase in 1/64 sample. -/
structure MonWord where
  vals : List Int
  pos : Nat
  phase : Nat
  deriving DecidableEq, Repr

/-- A window a burst receiver's gate opens for: R170 (bounds in upstream symbols), R171, R183 and R312.
For a square `gs` is its first symbol and `ge` its last symbol + 1. -/
structure Window where
  kind : GateKind
  gs : Nat
  ge : Nat
  leaf : LeafId
  fmt : Fin 4
  short : Bool
  dedicated : Bool
  deriving DecidableEq, Repr

/-- One entry of a SQUARES message (R307). -/
structure Square where
  sc : Sc
  dedicated : Bool
  leaf : LeafId
  start : Nat
  len16 : Nat
  deriving DecidableEq, Repr

/-- One entry of a MAP message (R306); `ranging` is KIND 0b10, otherwise KIND is 0b00 (data). -/
structure Grant where
  leaf : LeafId
  sc : Sc
  ranging : Bool
  fmt : Fin 4
  short : Bool
  start : Nat
  len : Nat
  deriving DecidableEq, Repr

/-- What the flash answered during one read of an image copy (R88, R89): whether an SFDP signature was found, whether
the density it gives is at least 8 MiB, the read modes it lists (WIDTH codes of R94), and the dummy cycles that its basic
parameter table gives each of the three modes. -/
structure FlashRead where
  sfdp : Bool
  big : Bool
  modes : List Nat
  dummies : List Nat
  deriving DecidableEq, Repr

/-- A frame at the end of its reception on a client port (R402): its bytes from the destination address to the byte
before the check sequence, and what CLRX saw of it. -/
structure RxFrame where
  bytes : List Byte
  aborted : Bool
  crcOk : Bool
  bits : List Bool := []
  deriving DecidableEq, Repr

/-- Bits that the checker of a looped lane takes, two for a PAM4 symbol, and the register of its pattern before them once it is locked
(R409). -/
structure LaneRx where
  lane : PortIx
  reg : Nat := 0
  bits : List Bool
  deriving DecidableEq, Repr

/-- A PTP message at the PTP port (R371). An Announce carries the grandmaster's class, accuracy, variance, priority 2 and identity and the
steps to it. A one-step Sync and a Follow_Up carry the master's sending time, and a Delay_Resp its receiving time and the port
identity it answers, in 0.5 ps. -/
inductive PtpMsg where
  | announce (cls acc var pri2 : Nat) (gm : BitVec 64) (steps : Nat)
  | sync (origin : Option Int)
  | followUp (origin : Int)
  | delayReq
  | delayResp (received : Int) (asker : BitVec 80)
  | unsupported
  deriving DecidableEq, Repr

/-- What the bus made of a private write: received whole, damaged by a parity failure in SDR or a CRC failure in HDR-DDR, or begun with a
command byte that the module does not know (R490, R496, R523). -/
inductive XferFault where
  | none | damaged | command
  deriving DecidableEq, Repr

/-- The data bytes of a private write, and what the bus made of the transfer. -/
structure WriteXfer where
  bytes : List Byte
  fault : XferFault := .none
  deriving DecidableEq, Repr

/-- Why an UP port leaves UP (R406, R417). The loss of alignment of an NRZ lane comes with the bits it has received (R399). -/
inductive LinkLoss where
  | signal | cdr | align (bits : List Bool) | autoneg
  deriving DecidableEq, Repr

/-- The two causes of a transmit fault that a row reports (R283). -/
inductive TxCause where
  | laser | booster
  deriving DecidableEq, Repr

/-- The bits in error in each SECDED codeword of an SRAM word, or the symbols in error of a DRAM word, and whether the on-die code of the HBM
stacks has corrected the word (R469). -/
structure WordErrs where
  counts : List Nat := []
  onDie : Bool := false
  deriving DecidableEq, Repr

/-- Outcome of a memory read (R470). -/
inductive EccOutcome where
  | clean | correctable | uncorrectable
  deriving DecidableEq, Repr

/-- Outcome of the fetch of a host read: every word good, a word uncorrectable (R470), or a collision (R468). -/
inductive ReadOutcome where
  | clean
  /-- The `k`-th 64-byte memory word of the span was corrected. -/
  | corrected (k : Nat)
  /-- The `k`-th 64-byte memory word of the span was uncorrectable. -/
  | poison (k : Nat)
  /-- A word of the SRAM window was written in the cycle it was read (R468). -/
  | collision
  deriving DecidableEq, Repr

/-- What the droop sensors of an island report (R54): the island, and how far its core rail has fallen below the nominal one, in 0.01 %. -/
structure Sag where
  isl : Isl
  depth : Nat
  deriving DecidableEq, Repr

/-- What a finished self-test reports (R575, R576). -/
structure TestResult where
  failure : Bool
  committed : Nat
  sigMatch : Bool
  detail : Nat
  deriving DecidableEq, Repr

/-- The commands, in the order of the table. -/
inductive Instr where
  /-- FEED_MATED (R41). A feed is mated and its hot-swap switch starts charging the bulk capacitance at 1.0 V/ms. -/
  | feedMated (f : Feed) (mv caseTemp : Int)
  /-- POWER_GOOD (R42). All isolated logic rails reach regulation, the start origin is set and the start sequence begins, unless SHDN_N holds the module in standby. -/
  | powerGood (f : Feed) (mv : Int) (adrSel0 adrSel1 : Bool)
  /-- HOLDUP_CHARGED (R43). The hold-up store reaches 90 V and HOLDUP_RDY becomes 1. -/
  | holdupCharged
  /-- PWR_LOW (R44). A feed stays below 38.0 V for 10 ms, and the PWR_LOW flag and event are raised for that feed. -/
  | pwrLow (f : Feed) (mv : Int)
  /-- PWR_LOW_CLEAR (R44). A feed stays at or above 38.5 V for 10 ms after PWR_LOW, and FEED_x_LOW returns to 0. -/
  | pwrLowClear (f : Feed) (mv : Int)
  /-- PWR_FEED_LOST (R44). A feed stays below 20 V or reversed for 100 µs, is declared lost, and any running PWR_LOW persistence is cancelled. -/
  | pwrFeedLost (f : Feed) (mv : Int)
  /-- PWR_FEED_HIGH (R44). A feed stays above 76.0 V for 100 µs, and FEED_x_OK becomes 0. -/
  | pwrFeedHigh (f : Feed) (mv : Int)
  /-- FEED_OVERVOLT_SWITCH_OPEN (R44). A feed stays above 80.0 V for 10 µs, and its hot-swap switch opens. -/
  | feedOvervoltSwitchOpen (f : Feed) (mv : Int)
  /-- FEED_SWITCH_RECLOSE (R44). After 1 s below 76.0 V, the opened hot-swap switch recloses. -/
  | feedSwitchReclose (f : Feed) (mv : Int)
  /-- FEED_RESTORED (R44). A lost or high feed stays within 35.5 V to 76.0 V with its switch closed for 100 ms, FEED_x_OK returns to 1, and PWR_LOW persistence starts afresh. -/
  | feedRestored (f : Feed) (mv : Int)
  /-- PWR_FAIL (R47). The OR-ed bus stays below 34.0 V for 50 µs, and the feed-loss shutdown begins: FAULT_N is asserted, maps stop and the lasers ramp off. -/
  | pwrFail (mv : Int)
  /-- SHUTDOWN_LASER_RAMP_DONE (R47). The fixed 1 ms laser ramp of a feed-loss or THERM_CRIT shutdown ends, the converters, optics, lanes and DRAM are unpowered, and the event records are written to flash. -/
  | shutdownLaserRampDone
  /-- EMERGENCY_SHUTDOWN_END (R47). At 20 ms after a feed-loss or THERM_CRIT shutdown began, the shutdown record is written last, READY is deasserted and all rails go off. -/
  | emergencyShutdownEnd (written : Nat) (recOk : Bool)
  /-- FEED_LOSS_RESTART (R46). After a feed-loss shutdown, the OR-ed bus stays at or above 35.5 V for 100 ms, and the module restarts from the beginning. -/
  | feedLossRestart (mv : Int)
  /-- SAG_START (R55). The droop sensor of an island reports a sag, and the island's clock generator stretches cycles. -/
  | sagStart (q : Sag)
  /-- SAG_CLEAR (R56). The sag of an island clears, and its stretch episode ends. -/
  | sagClear (i : Isl)
  /-- PWR_DROOP_LONG (R62). The stretch budget of an island is spent while the sag is still present, and the island moves to its first held step. -/
  | pwrDroopLong (i : Isl)
  /-- DROOP_STEP_DOWN (R64). A sag persists for 100 µs at a held step, and the island moves down one step. -/
  | droopStepDown (i : Isl)
  /-- PWR_DROOP_FLOOR (R64). A sag persists for 1 ms at the island's floor, PWR_DROOP_FLOOR is raised and FAULT_N is asserted. -/
  | pwrDroopFloor (i : Isl)
  /-- DROOP_STEP_UP (R65). The sag has been clear for HOLD_TIME, the island moves up one step, and PWR_STEP is raised. -/
  | droopStepUp (i : Isl)
  /-- PWR_ELASTIC_SLIP (R60). A converter elastic buffer underflows or overflows, and the converter island inserts zero words or drops words. -/
  | pwrElasticSlip (e : Eng) (rx : Bool) (words : Nat)
  /-- PWR_CAP_HIT (R66). The input power exceeds PWR_CAP.LIMIT for 10 ms, CAP_ACTIVE is set and stepping down begins. -/
  | pwrCapHit (power : Nat)
  /-- CAP_STEP_DOWN (R66). At each 1 ms while the input power is over the cap, the next island in the cap order steps down one step. -/
  | capStepDown (power : Nat)
  /-- CAP_STEP_UP (R67). The input power stays 5 W below the limit for 100 ms, and one island steps up in the reverse order. -/
  | capStepUp (power : Nat)
  /-- THERM_HIGH (R71). The case temperature stays above PWR_THERM_CFG.HIGH for 1 s, and the THERM_HIGH flag and event are raised. -/
  | thermHigh (temp : Int)
  /-- THERM_HIGH_CLEAR (R71). The case temperature stays 2 °C or more below HIGH for 1 s, and THERM_HIGH_CLEAR is raised. -/
  | thermHighClear (temp : Int)
  /-- THERM_CRIT (R72). The case exceeds 95 °C or a die sensor exceeds 120 °C for 10 ms, and a THERM_CRIT shutdown begins on feed power. -/
  | thermCrit (sensor : Nat) (temp : Int)
  /-- RESET_N_ASSERTED (R81). RESET_N is held low for at least 10 µs, and the module stops with no self-test and no record, unless a feed-loss or THERM_CRIT shutdown is running. -/
  | resetNAsserted
  /-- RESET_N_RELEASED (R504). RESET_N is released, the address pins are sampled, and the start begins at step 1 of R77. -/
  | resetNReleased (adrSel0 adrSel1 : Bool) (caseTemp : Int)
  /-- SHDN_N_ASSERTED (R567). SHDN_N is low for 1 ms, which abandons the start before READY or requests an orderly shutdown after READY. -/
  | shdnNAsserted
  /-- SHDN_N_RELEASED (R504). SHDN_N stays high for 10 ms while the module is in standby, and the module starts at step 1 of R77. -/
  | shdnNReleased
  /-- FUSES_READ (R86). The fuses are read, the life-cycle state becomes known, and the start is gated by that state. -/
  | fusesRead
  /-- SRAM_INIT_DONE (R77). All 64 shared SRAM banks are written with zeros and valid check bits. -/
  | sramInitDone
  /-- FIRMWARE_AUTH_DONE (R84). The boot ROM finishes authenticating the firmware, falling back to the other bank or staying in the boot ROM on failure. -/
  | firmwareAuthDone (ok0 ok1 : Bool)
  /-- IMAGE_COPY_CHECKED (R102). The read of one image copy ends at its first failing check or at acceptance, and the next copy is tried under R103 when it fails. -/
  | imageCopyChecked (copy : List Byte) (rd : FlashRead)
  /-- CAL_RECORDS_CHECKED (R243). The calibration records in internal flash are checked, and the latest good record of each converter island or its factory record is loaded. -/
  | calRecordsChecked
  /-- DRAM_READY (R77). The HBM3E stacks finish training, and the quick self-test or the flow-context initialisation begins. -/
  | dramReady
  /-- QUICK_SUITE_DONE (R578). The quick start-up suite ends, and its result is written as a QUICK record. -/
  | quickSuiteDone
  /-- CONTEXT_INIT_DONE (R77). The flow-context region of DRAM finishes initialisation. -/
  | contextInitDone
  /-- DRAM_INIT_DONE (R77). All other DRAM regions that the module uses finish initialisation. -/
  | dramInitDone
  /-- MODULE_READY (R77). The module-scoped records are applied, a STARTED record is written, READY is asserted, and the engines leave WAITING. -/
  | moduleReady
  /-- ENGINE_LASERS_LOCKED (R109). Both lasers of a tuning engine lock, and the engine enters CALIBRATING with the booster off. -/
  | engineLasersLocked (e : Eng)
  /-- ENGINE_TUNE_TIMEOUT (R109). An engine is still in TUNING 30 s from the start origin, and it enters FAILED. -/
  | engineTuneTimeout (e : Eng)
  /-- CALIBRATION_DONE (R234). The transmit calibration of CALIBRATING ends, and the engine enters RAMPING or STANDBY. -/
  | calibrationDone (e : Eng)
  /-- ENGINE_RAMP_COMPLETE (R109). The laser and groups are ramped on and the first open square map is sent, and the engine enters TRAFFIC_READY. -/
  | engineRampComplete (e : Eng) (fuseOk : Bool)
  /-- ENGINE_START_TIMEOUT (R109). An engine is not TRAFFIC_READY 45 s from the start origin, enters FAILED and ramps its optics off. -/
  | engineStartTimeout (e : Eng)
  /-- BOOT_CTL_RESTART (R115). A write of 0xB007 to BOOT_CTL.RESTART restarts the module as a RESET_N pulse does, and it is refused while NVM_BUSY is 1. -/
  | bootCtlRestart (v : W32)
  /-- FRAME_LAUNCH (R123). An engine launches the next frame on all subcarriers, with its marker, header fields, pilots and cells. -/
  | frameLaunch (e : Eng)
  /-- DS_GRP_EN_WRITE (R143). A write of DS_GRP_EN enables or disables subcarrier groups, subject to the refusals of R147. -/
  | dsGrpEnWrite (e : Eng) (v : W32)
  /-- GROUP_RAMP_ON_START (R143). A group in WAITING reaches a multiframe boundary, restarts its stream at block 0 and begins its envelope ramp. -/
  | groupRampOnStart (e : Eng) (g : Grp)
  /-- GROUP_ENVELOPE_FULL (R143). A group's rising envelope reaches full, and the group enters SETTLING. -/
  | groupEnvelopeFull (e : Eng) (g : Grp)
  /-- DS_GROUP_ON (R143). A settling group reaches a multiframe boundary at least 8 frames after full envelope, and it becomes ON. -/
  | dsGroupOn (e : Eng) (g : Grp)
  /-- DS_GROUP_OFF (R143). A group's falling envelope reaches zero, and the group goes dark and enters OFF. -/
  | dsGroupOff (e : Eng) (g : Grp)
  /-- LASER_RAMP_ON_START (R145). At the first multiframe boundary after transmit calibration, the laser and booster begin to ramp on with groups 0 and 4. -/
  | laserRampOnStart (e : Eng)
  /-- DS_LASER_ON (R145). The laser and booster ramp-on ends, and the other enabled groups enter WAITING. -/
  | dsLaserOn (e : Eng)
  /-- DS_LASER_OFF (R145). The laser and booster ramp-off ends at an engine stop or an orderly shutdown. -/
  | dsLaserOff (e : Eng)
  /-- BRX_GATE_OPEN (R171). A burst receiver's gate opens for a granted window, ranging window or open square, and its presets are loaded. `ws` is here and below
  the words that the engine's ADCs gave since the command before that carried some. -/
  | brxGateOpen (e : Eng) (sc : Sc) (w : Window) (ws : List RxWord)
  /-- BRX_GATE_CLOSE (R170). A burst receiver's gate closes, and an expected burst without a good header is judged missing. -/
  | brxGateClose (e : Eng) (sc : Sc)
  /-- BURST_DETECTED (R173). The 16th consecutive above-threshold symbol inside an open gate declares detection, freezes the gain and starts speculative reception. -/
  | burstDetected (e : Eng) (sc : Sc) (ws : List RxWord)
  /-- SYNC_MATCH (R177). The sync word matches by d + 320, which commits the reception, freezes the frequency and latches power and arrival time. -/
  | syncMatch (e : Eng) (sc : Sc) (ws : List RxWord)
  /-- SYNC_DEADLINE_MISS (R185). No sync match arrives by d + 320, and the receiver rewinds to d + 16 or closes the gate at the third false run. -/
  | syncDeadlineMiss (e : Eng) (sc : Sc) (ws : List RxWord)
  /-- HEADER_CHECKED (R183). The combined burst header is checked, and the burst either proceeds to PAYLOAD or is discarded and waits for the fall. -/
  | headerChecked (e : Eng) (sc : Sc) (ws : List RxWord)
  /-- BLOCK_DECODED (R180). A payload block is decoded, and it is handed to reassembly with its status, which releases, holds or aligns the leaf's stream. -/
  | blockDecoded (e : Eng) (sc : Sc) (ws : List RxWord)
  /-- BURST_END (R185). The last block of a burst is decoded, the burst record is written and the seed is stored when every block was good. -/
  | burstEnd (e : Eng) (sc : Sc)
  /-- CAPTURE_RISE (R187). A rise held for 32 symbols during a reception is doubles, and it causes a capture with rewind or a run-on. `c0` is its onset. -/
  | captureRise (e : Eng) (sc : Sc) (c0 : Int) (ws : List RxWord)
  /-- BURST_FALL (R185). In WAIT_FALL, 16 consecutive symbols fall below threshold, and the receiver re-arms or closes. -/
  | burstFall (e : Eng) (sc : Sc) (ws : List RxWord)
  /-- SSN_HOLD_TIMEOUT (R265). A held burst has waited 18 µs, and every missing SSN below it is declared lost with unknown length. -/
  | ssnHoldTimeout (e : Eng) (l : LeafId)
  /-- FE_GAIN_TURN_UPDATE (R204). At the start of a turn, the front-end gain loop moves each ADC gain toward TARGET and clip counts are judged. -/
  | feGainTurnUpdate (e : Eng) (adc : Fin 4) (ws : List RxWord)
  /-- CAL_TEMP_CHECK (R236). A converter island's once-per-second check compares its mean temperature with T_last and marks a run due. -/
  | calTempCheck (e : Eng) (rx : Bool) (temp : Int)
  /-- CAL_RUN_RX (R237). A write of CAL_CTL.RUN_RX requests a receive calibration run. -/
  | calRunRx (e : Eng)
  /-- CAL_RUN_TX (R237). A write of CAL_CTL.RUN_TX requests a transmit calibration run. -/
  | calRunTx (e : Eng)
  /-- CAL_RUN_START (R237). A due run begins once its island is eligible and not fenced, and the statistic sums are snapshotted. -/
  | calRunStart (e : Eng) (rx : Bool) (temp : Int)
  /-- CAL_COLLECT_DONE (R237). RUN_MS of qualified words are collected, and the estimates are computed and clamped. `mon` is
  what the transmit monitor gave. -/
  | calCollectDone (e : Eng) (rx : Bool) (ws : List RxWord) (mon : List MonWord)
  /-- CAL_STARVED (R237). A receive run spends 10 s in COLLECT short of qualified words, and only offset and gain are updated. -/
  | calStarved (e : Eng) (ws : List RxWord)
  /-- CAL_STEP_DONE (R237). All coefficients reach their new values, and the run either iterates again or ends with CAL_RUN_DONE. -/
  | calStepDone (e : Eng) (rx : Bool)
  /-- CAL_RECORD_WRITE (R242). A pending calibration result is written to the next ring slot once 600 s have passed since the previous write. -/
  | calRecordWrite (e : Eng) (rx : Bool) (ok : Bool)
  /-- CAL_SC_GO (R235). A write of CAL_CTL.SC_GO with SC_REQ requests a per-subcarrier run. -/
  | calScGo (e : Eng) (sc : Sc)
  /-- CAL_SC_RUN_START (R548). A requested per-subcarrier run starts once no full transmit run of its island is in COLLECT or STEP. -/
  | calScRunStart (e : Eng)
  /-- CAL_SC_DONE (R235). A per-subcarrier run ends after 20 ms and updates that subcarrier's pre-emphasis and receive preset. -/
  | calScDone (e : Eng) (pre : Int)
  /-- FRM_SSET_WRITE (R258). A write of a slot-set word is checked under R260, and its change is scheduled for a multiframe boundary, or applied at once when the framer is not running. -/
  | frmSsetWrite (e : Eng) (ss : SsetIx) (w : Fin 8) (v : W32)
  /-- FRM_SSET_DONE (R258). The multiframe boundary of a pending slot-set change passes, PEND returns to 0 and the change takes effect. -/
  | frmSsetDone (e : Eng) (ss : SsetIx)
  /-- FRM_CTR_WRITE (R260). A write of a container entry is checked, a cleared EN discards the container's queued units, and an SSET change is scheduled. -/
  | frmCtrWrite (e : Eng) (c : Cid) (w : Fin 2) (v : W32)
  /-- CONTAINER_CHANGE_EFFECTIVE (R259). The boundary of a pending container SSET change passes, and the container moves to its new slot set. -/
  | containerChangeEffective (e : Eng) (c : Cid)
  /-- ENGINE_DEFECT_TURN_EVAL (R274). At the end of a turn with an expected burst, the engine LOS, LOF, AIS and RDI counts are advanced and defects enter or exit. -/
  | engineDefectTurnEval (e : Eng) (input : Int)
  /-- SF_SD_HOLDOFF_EXPIRY (R283). The HOLDOFF of a signal-fail or signal-degrade cause expires, and the protection request in force is re-evaluated. -/
  | sfSdHoldoffExpiry (e : Eng) (sd : Bool)
  /-- APS_PLANNED_NOTICE_DONE (R286). For a planned switch, 2 × N frames carrying TARGET = O have been sent, and the working engine begins its ramp-off. -/
  | apsPlannedNoticeDone
  /-- APS_RAMP_OFF_DONE (R286). The old working engine's output is ramped off, and the new engine's booster begins to ramp on. -/
  | apsRampOffDone
  /-- APS_NEW_ENGINE_FULL_POWER (R285). The new engine reaches full power, and it issues maps with widened gates in SETTLING. -/
  | apsNewEngineFullPower
  /-- APS_COMMON_OFFSET_APPLIED (R286). At the turn boundary after 64 good bursts, the median offset is applied, normal gates are restored and FRM_APS_DONE is raised. -/
  | apsCommonOffsetApplied
  /-- APS_SETTLE_TIMEOUT (R285). At 50 ms after entering SWITCHING with no offset measured, the predicted offset is kept and the controller returns to STEADY. -/
  | apsSettleTimeout
  /-- APS_WTR_EXPIRY (R285). The wait-to-restore timer ends, and a planned switch to the home engine begins. -/
  | apsWtrExpiry
  /-- APS_CMD_CLEAR (R291). FRM_APS_CMD code 0 clears LO, FS and MS. -/
  | apsCmdClear
  /-- APS_CMD_LO (R291). FRM_APS_CMD code 1 sets lockout to the home engine. -/
  | apsCmdLo
  /-- APS_CMD_FS_A (R291). FRM_APS_CMD code 2 forces a switch to engine A. -/
  | apsCmdFsA
  /-- APS_CMD_FS_B (R291). FRM_APS_CMD code 3 forces a switch to engine B. -/
  | apsCmdFsB
  /-- APS_CMD_MS_A (R291). FRM_APS_CMD code 4 requests a manual switch to engine A. -/
  | apsCmdMsA
  /-- APS_CMD_MS_B (R291). FRM_APS_CMD code 5 requests a manual switch to engine B. -/
  | apsCmdMsB
  /-- MAP_COMPUTE (R328). At the start of DSC turn TN − 3, the scheduler computes the speculative map and squares for turn TN. -/
  | mapCompute (e : Eng) (squares : List Square) (grants : List Grant)
  /-- MAP_RECOMPUTE_DONE (R328). The recomputation of a struck speculative map finishes within 30 µs. -/
  | mapRecomputeDone (e : Eng) (tn : Nat) (grants : List Grant)
  /-- HELD_MESSAGES_SEND (R606). Control messages held while groups 0 and 4 were not ON, or while maps had stopped, are sent in order once control cells flow again. -/
  | heldMessagesSend (e : Eng)
  /-- TIME_MESSAGE_SEND (R374). Once per second, each engine sends a TIME control message in both control streams. -/
  | timeMessageSend (e : Eng)
  /-- DISCOVERY_BURST_PROCESS (R316). The scheduler checks a good discovery burst, assigns an ID with ASSIGN and a ranging grant, or rejects the leaf with DEREG. -/
  | discoveryBurstProcess (e : Eng) (sc : Sc)
  /-- RANGING_BURST_PROCESS (R317). A good ranging burst gives a landing error, which corrects the leaf's EqD and advances the entry to REGISTERING or ends re-ranging. -/
  | rangingBurstProcess (e : Eng) (l : LeafId)
  /-- RANGING_WINDOW_MISSED (R311). A ranging window closes without a good header, and the miss counts for the ASSIGNED limit and for wide re-ranging windows. -/
  | rangingWindowMissed (e : Eng) (l : LeafId)
  /-- BURST_REPORT_PROCESS (R319). The scheduler takes a burst record, updates ranging and power means, QREPORT and seeds, and starts re-ranging when required. -/
  | burstReportProcess (e : Eng) (sc : Sc)
  /-- BANKER_REG_SUCCESS (R311). The Banker reports a successful exchange, and the entry becomes ACTIVE with ACTIVATE, CTR, SSET and GROUP messages. -/
  | bankerRegSuccess (e : Eng) (l : LeafId)
  /-- BANKER_REG_FAILURE (R311). The Banker reports a failed exchange, and the entry is freed with DEREG AUTH_FAIL. -/
  | bankerRegFailure (e : Eng) (l : LeafId)
  /-- REG_TIMEOUT (R311). SCHED_REG.TIMEOUT_MS elapses in REGISTERING, and the entry is freed with cause TIMEOUT. -/
  | regTimeout (e : Eng) (l : LeafId)
  /-- LEAF_DEPART_TIMEOUT (R311). An entry stays LOST for SCHED_AGE.DEPART_S, and it departs as GONE with cause DEPARTED. -/
  | leafDepartTimeout (e : Eng) (l : LeafId)
  /-- LEAF_STICKY_EXPIRY (R332). An unpinned GONE entry reaches STICKY_H since its departure, becomes FREE and clears its SERIAL. -/
  | leafStickyExpiry (e : Eng) (l : LeafId)
  /-- LEAF_CTL_DEREG (R331). A write of LEAF_CTL.DEREG, with or without RELEASE, makes the leaf depart with cause HOST. -/
  | leafCtlDereg (e : Eng) (l : LeafId) (release : Bool)
  /-- LEAF_CTL_RERANGE (R320). A write of LEAF_CTL.RERANGE starts re-ranging of an ACTIVE or LOST leaf. -/
  | leafCtlRerange (e : Eng) (l : LeafId)
  /-- LEAF_SERIAL_WRITE (R339). A write of LEAF_SERIAL_x is checked, and a write to a GONE entry makes it FREE. -/
  | leafSerialWrite (e : Eng) (l : LeafId) (x : Fin 4) (v : W32)
  /-- LEAF_GRP_WRITE (R323). A write of LEAF_GRP_g changes a leaf's group memberships and starts the group-key delivery or change. -/
  | leafGrpWrite (e : Eng) (l : LeafId) (g : Fin 8) (v : W32)
  /-- GROUP_MEMBERSHIP_EFFECTIVE (R323). The EFF_FN boundary after the group key was delivered passes, and the membership change takes effect. -/
  | groupMembershipEffective (e : Eng) (l : LeafId)
  /-- CLIENT_FRAME_RECEIVED (R402). CLRX finishes receiving a frame, checks it and either discards it with a count or passes it to FLOW. -/
  | clientFrameReceived (p : PortIx) (fr : RxFrame)
  /-- DS_PACKET_LOOKUP (R344). FLOW classifies a downstream packet, polices it and queues it on its container, or discards it. -/
  | dsPacketLookup
  /-- CONTEXT_FETCH_DONE (R352). A context miss returns from DRAM, and the packets that waited for that context are processed in order. -/
  | contextFetchDone (f : FlowIx) (poison : Bool)
  /-- US_UNIT_LOOKUP (R344). FLOW maps a decrypted upstream unit to its flow and egress port queue, or discards it. -/
  | usUnitLookup
  /-- CLIENT_FRAME_TRANSMIT (R403). CLTX sends an upstream frame with a new frame check sequence on its port. -/
  | clientFrameTransmit (p : PortIx)
  /-- CONTEXT_SWEEP (R354). The 12 ms background sweep refills buckets and ages idle flows. -/
  | contextSweep
  /-- FLOW_MOVE_TIMEOUT (R364). A container-move hold reaches TIMEOUT_US and ends, which allows overtaking. -/
  | flowMoveTimeout (f : FlowIx)
  /-- FLOW_CONTEXT_WRITE (R377). A host write of a context settings word is checked and applied, and setting VALID inserts the key and zeroes the module bytes. -/
  | flowContextWrite (f : FlowIx) (w : Fin 12) (v : W32)
  /-- KEY_INDEX_REBUILD (R471). After a poisoned key-index read, FLOW rewrites the bucket from the flow contexts within 100 µs. -/
  | keyIndexRebuild (bucket : Fin 393216)
  /-- TOD_OFFSET_MEASURED (R368). An offset against the time source is measured, and the timebase steps or steers and changes state. `pps` is
  the offset that an edge of PPS_IN shows, in 1/16 ns. -/
  | todOffsetMeasured (pps : Int)
  /-- TOD_SOURCE_LOST (R368). The PTP or PPS source times out, and TOD enters HOLDOVER. -/
  | todSourceLost
  /-- TOD_HOLDOVER_EXPIRY (R372). HOLDOVER lasts beyond TOD_HOLD.HOLD_S, and the announced clock class becomes 165. -/
  | todHoldoverExpiry
  /-- PPS_IN_EDGE (R504). A rising edge on PPS_IN is timestamped, and it takes an armed seconds value. -/
  | ppsInEdge
  /-- TOD_SET_LO_WRITE (R382). A write of TOD_SET_LO arms the next PPS_IN pulse with the seconds value. -/
  | todSetLoWrite (v : W32)
  /-- TOD_NOW_HI_READ (R382). A read of TOD_NOW_HI latches TOD_NOW_LO and TOD_NOW_NS. -/
  | todNowHiRead
  /-- PTP_MESSAGE_RECEIVED (R371). The PTP port takes an Announce, Sync, Follow_Up or Delay_Resp message, or discards an unsupported one. -/
  | ptpMessageReceived (domain : Nat) (src : BitVec 80) (m : PtpMsg)
  /-- PTP_ANNOUNCE_TX (R371). The PTP port sends Announce at 8 per second. -/
  | ptpAnnounceTx
  /-- PTP_SYNC_DELAY_TX (R371). The PTP port sends Sync or Delay_Req at 16 per second. -/
  | ptpSyncDelayTx
  /-- SECOND_BOUNDARY (R552). A TOD second boundary passes, and the blocks latch their counters and PPS_OUT rises. -/
  | secondBoundary
  /-- CLN_PORT_WRITE (R413). A write of CLN_PORT_p is checked, and its EN change enables the port into WAIT_REF or disables it. -/
  | clnPortWrite (p : PortIx) (v : W32)
  /-- CLN_LANE_WRITE (R408). A write of CLN_LANE_k is checked, and its loop and pattern take effect, which moves the port to or from TEST. -/
  | clnLaneWrite (k : PortIx) (v : W32)
  /-- CLN_PORT_REF_READY (R406). A port in WAIT_REF finds READY and a valid reference, and it enters TEST, TRAINING or ALIGN. -/
  | clnPortRefReady (p : PortIx)
  /-- CLN_TRAINING_DONE (R406). Every lane of a training port finishes link training, and the port enters ALIGN. -/
  | clnTrainingDone (p : PortIx) (reqTx : Nat) (snr : List Nat) (eq : List (List Int))
  /-- CLN_TRAIN_FAIL (R406). LT_MS elapses before all lanes are trained, and training restarts. -/
  | clnTrainFail (p : PortIx) (mask : Nat)
  /-- CLN_LINK_UP (R406). Receive alignment is reached, and the port enters UP. -/
  | clnLinkUp (p : PortIx) (bits : List Bool) (partner : BitVec 16)
  /-- CLN_ALIGN_FAIL (R406). A port spends 100 ms in ALIGN without aligning, and it retrains or stays in ALIGN. -/
  | clnAlignFail (p : PortIx) (mask : Nat)
  /-- CLN_LINK_DOWN (R406). An UP port loses signal, CDR, alignment or synchronisation, and it leaves UP. -/
  | clnLinkDown (p : PortIx) (cause : LinkLoss)
  /-- CLN_REFCLK_LOST (R392). REFCLK_C is invalid for 100 µs, the transmitters idle and every enabled port enters WAIT_REF. -/
  | clnRefclkLost (ppm : Int)
  /-- CLN_REFCLK_OK (R392). REFCLK_C stays valid for 10 ms, and it is restored. -/
  | clnRefclkOk (ppm : Int)
  /-- CLN_HI_SER (R398). The RS-FEC hi_ser condition begins on a PAM4 port, received frames are discarded and Remote Fault is sent. -/
  | clnHiSer (p : PortIx) (symCorr : Nat)
  /-- UNIT_ENCRYPT (R437). A unit enters a cipher lane, binds to its generation, takes its IC and is encrypted, or is discarded. -/
  | unitEncrypt (e : Eng) (c : Cid)
  /-- UNIT_DECRYPT (R438). CRYP checks the key, IC, replay and tag of an upstream unit, and it decrypts the unit or discards it. -/
  | unitDecrypt
  /-- SLOT_GENERATION_DRAINED (R434). The in-flight count of a draining or erasing generation reaches 0, and that generation is zeroised. -/
  | slotGenerationDrained (k : KeySlotIx)
  /-- REKEY_START (R443). A pending rekey of a slot starts once the slot is ONE and no acknowledgement is awaited, and the Banker derives and sends REKEY. -/
  | rekeyStart (k : KeySlotIx)
  /-- REG_RECORD_RESEND (R448). Every 8 turns, the module repeats its last unanswered registration, rekey or group-key record. -/
  | regRecordResend (e : Eng) (l : LeafId)
  /-- LEAF_KEX_RECEIVED (R451). The Banker checks a LEAF_KEX record and answers with HUB_FIN, or fails the exchange. -/
  | leafKexReceived (e : Eng) (l : LeafId) (body : List Byte)
  /-- LEAF_FIN_RECEIVED (R449). A good LEAF_FIN makes the Banker write epoch 0 of both leaf slots and report success. -/
  | leafFinReceived (e : Eng) (l : LeafId) (body : List Byte)
  /-- LEAF_FAIL_RECEIVED (R451). A FAIL record from the leaf ends the exchange with cause LEAF_ABORT. -/
  | leafFailReceived (e : Eng) (l : LeafId) (cause : Nat)
  /-- REKEY_ACK_RECEIVED (R441). A valid REKEY_ACK arrives, and the downstream slot is rewritten or the upstream rekey completes. -/
  | rekeyAckReceived (e : Eng) (l : LeafId) (body : List Byte)
  /-- GROUP_ACK_RECEIVED (R453). A GROUP_ACK arrives, and when all members have acknowledged, the group slot is rewritten. -/
  | groupAckReceived (e : Eng) (l : LeafId) (body : List Byte)
  /-- GROUP_REKEY_START (R453). A membership ends or a member departs, and the Banker draws a new group key and sends GROUP_KEY to the remaining members. -/
  | groupRekeyStart (e : Eng) (g : Fin 2048)
  /-- GROUP_KEY_REWRITE_TIMEOUT (R453). 100 ms after the first GROUP_KEY record, the group slot is rewritten although some members have not acknowledged. -/
  | groupKeyRewriteTimeout (e : Eng) (g : Fin 2048)
  /-- SHAKER_HEALTH_FAIL (R429). A noise-source health test fails, and the source restarts, with SHAKER_OK cleared after three failures in 1 s. -/
  | shakerHealthFail (test : Fin 3) (raw : List Bool)
  /-- SHAKER_RETRY (R429). Every 10 s the failed source retries its start-up tests, and deferred requests resume when it passes. -/
  | shakerRetry (raw : List Bool)
  /-- SEC_KEY_CMD_REKEY (R458). A write of SEC_KEY_CMD with OP 1 requests a rekey of a slot. -/
  | secKeyCmdRekey (k : KeySlotIx)
  /-- SEC_PROV_COMMIT (R425). A write of 0xC0DE to SEC_PROV_CMD blows SIGN_HASH from SEC_PROV_HASH and raises SEC_HASH_SET. -/
  | secProvCommit
  /-- LC_RETURN_ARM (R424). A write of 0x5254 to SEC_LC_CMD arms the return sequence. -/
  | lcReturnArm
  /-- LC_RETURN_COMMIT (R424). A write of 0x4E44 within 1 s of the arm commits the return, and zeroisation begins. -/
  | lcReturnCommit
  /-- LC_VOID_ARM (R424). A write of 0x564F to SEC_LC_CMD arms the void sequence. -/
  | lcVoidArm
  /-- LC_VOID_COMMIT (R424). A write of 0x4944 within 1 s of the arm commits the void, and zeroisation begins. -/
  | lcVoidCommit
  /-- LC_ARM_EXPIRY (R424). An armed life-cycle sequence receives no commit within 1 s, and the arm lapses. -/
  | lcArmExpiry
  /-- SEC_LC_CHANGE (R424). Zeroisation and the fuse blows finish, SEC_LC_CHANGE is raised, and the module restarts or stays in the boot ROM. -/
  | secLcChange (a b c : BitVec 8)
  /-- MEM_MOVE_GO (R466). A write of MEM_MOVE with GO starts copying a bank to a FREE bank, or is refused. -/
  | memMoveGo (src dst : BankIx)
  /-- MEM_MOVE_DONE (R466). The last word is copied, ownership passes to the destination bank, and the source is zeroed and freed. -/
  | memMoveDone
  /-- MEM_MOVE_TIMEOUT (R466). A bank move has not ended 1 s after GO, and it is abandoned with the failure flag. -/
  | memMoveTimeout
  /-- SCRUB_LAP_END (R476). The scrubber finishes a lap over a region, records its time and raises MEM_SCRUB_SLOW when the lap was too long. -/
  | scrubLapEnd (r : Fin 16) (ms : Nat)
  /-- BGT_BORROW (R477). The background tester borrows 64 words of an unpinned bank and starts a march test on them. -/
  | bgtBorrow (b : BankIx) (word : Nat)
  /-- BGT_MARCH_DONE (R477). A march test finishes, the words are restored from the shadow, and MEM_BGT_FAIL is raised for failing words. -/
  | bgtMarchDone (failWord : Option Nat) (mask : W32)
  /-- BGT_YIELD (R478). An owner access to a borrowed bank makes the tester end its element, restore the words and release the bank within 2 µs. -/
  | bgtYield
  /-- SCRATCHPAD_WRITE (R473). A host write to the scratchpad is stored, with a read-modify-write for parts of 64-byte words. -/
  | scratchpadWrite (adr : Nat) (data : List Byte) (poison : Bool)
  /-- I3C_PRIVATE_WRITE (R492). A private write transfer with command 0x01 is received whole, checked, and its words are applied one by one. -/
  | i3cPrivateWrite (adr : W32) (len : Nat) (data : WriteXfer)
  /-- REGISTER_WRITE (R10). A write to a register word without behaviour of its own is checked for access, range and refusals, and then applied alone. -/
  | registerWrite (adr v : W32)
  /-- FLAG_W1C_WRITE (R502). A write of 1 to a W1C flag clears it and its re-set count, unless hardware sets the flag in the same cycle. -/
  | flagW1cWrite (adr v : W32) (setNow : W32)
  /-- I3C_READ_SETUP (R488). Command 0x02 sets up a read at ADDR and LEN, and the module starts the fetch. -/
  | i3cReadSetup (adr : W32) (len : Nat)
  /-- I3C_READ_CONTINUE (R488). Command 0x03 continues the previous read for LEN bytes, and the module starts the fetch. -/
  | i3cReadContinue (len : Nat)
  /-- READ_FETCH_DONE (R491). The fetch of a pending read completes, and its data are ready for the private read. -/
  | readFetchDone (outcome : ReadOutcome)
  /-- I3C_PRIVATE_READ (R489). A private read returns the status byte and the pending read's bytes or MGT_WSTAT, and BUSY pulses BUSY_N. -/
  | i3cPrivateRead
  /-- BRX_LAST_READ_LATCH (R193). A read of word 0 of BRX_LAST_n latches all eight words of the record. -/
  | brxLastReadLatch (e : Eng) (sc : Sc)
  /-- SEC_SLOT_IC_HI_READ (R457). A read of the high word of SEC_SLOT_IC_s latches its low word. -/
  | secSlotIcHiRead (k : KeySlotIx)
  /-- EVT_HEAD_HI_READ (R521). A read of EVT_HEAD_HI latches EVT_HEAD_LO. -/
  | evtHeadHiRead
  /-- EVT_HEAD_LO_READ (R508). A read of EVT_HEAD_LO returns the latched or live value and collects a pending EVENT interrupt. -/
  | evtHeadLoRead
  /-- MGT_FAULT_READ (R508). A read of MGT_FAULT collects a pending FAULT interrupt. -/
  | mgtFaultRead
  /-- CCC_ENEC (R487). ENEC enables in-band interrupts. -/
  | cccEnec (events : Byte)
  /-- CCC_DISEC (R487). DISEC disables in-band interrupts. -/
  | cccDisec (events : Byte)
  /-- CCC_ENTAS (R487). ENTAS0 to ENTAS3 are accepted with no effect. -/
  | cccEntas (n : Fin 4)
  /-- CCC_RSTDAA (R487). RSTDAA clears the dynamic address and raises MGT_DA_LOST. -/
  | cccRstdaa
  /-- CCC_ENTDAA (R487). ENTDAA makes the target take part in address assignment when it has no dynamic address. -/
  | cccEntdaa (da : BitVec 7)
  /-- CCC_SETMWL (R495). SETMWL sets the maximum write length within 16 to 262. -/
  | cccSetmwl (n : Nat)
  /-- CCC_SETMRL (R495). SETMRL sets the maximum read length within 16 to 257. -/
  | cccSetmrl (n : Nat)
  /-- CCC_ENTHDR0 (R496). ENTHDR0 enters HDR-DDR for private transfers. -/
  | cccEnthdr0
  /-- CCC_RSTACT (R487). RSTACT arms no reset or a module reset for the next target reset pattern. -/
  | cccRstact (arg : Byte)
  /-- CCC_SETDASA (R487). SETDASA sets the dynamic address from the static address and raises MGT_DA_SET. -/
  | cccSetdasa (sa da : BitVec 7)
  /-- CCC_SETNEWDA (R487). SETNEWDA sets a new dynamic address and raises MGT_DA_SET. -/
  | cccSetnewda (da : BitVec 7)
  /-- CCC_GETMWL (R487). GETMWL reports the maximum write length. -/
  | cccGetmwl
  /-- CCC_GETMRL (R487). GETMRL reports the maximum read length. -/
  | cccGetmrl
  /-- CCC_GETPID (R486). GETPID reports the provisioned ID. -/
  | cccGetpid
  /-- CCC_GETBCR (R486). GETBCR reports BCR 0x27. -/
  | cccGetbcr
  /-- CCC_GETDCR (R486). GETDCR reports DCR 0x00. -/
  | cccGetdcr
  /-- CCC_GETMXDS (R486). GETMXDS reports 12.5 MHz with no read turnaround limit. -/
  | cccGetmxds
  /-- CCC_GETCAPS (R487). GETCAPS reports HDR-DDR only. -/
  | cccGetcaps
  /-- CCC_GETSTATUS (R487). GETSTATUS reports the pending-interrupt count and the protocol-error bit, and clears the bit. -/
  | cccGetstatus
  /-- TARGET_RESET_PATTERN (R487). A target reset pattern resets the module when armed by RSTACT, or otherwise resets the I3C target alone with MGT_DA_LOST. -/
  | targetResetPattern
  /-- EVENT_RECORD_APPEND (R517). An event record crosses from its island FIFO and is appended to the ring, which makes an EVENT interrupt pending when its block is enabled. -/
  | eventRecordAppend (i : Isl)
  /-- IBI_REQUEST (R508). MGT raises a pending EVENT or FAULT IBI once HOLDOFF_US has passed and the bus is free. -/
  | ibiRequest
  /-- MGT_IBI_NACK (R509). The controller NACKs an IBI, which is retried, and requests stop after 3 NACKs in a row. -/
  | mgtIbiNack
  /-- ISLAND_SOFT_RESTART_CMD (R528). A write of UPD_ISL_ID.CMD 1 requests a soft restart, and the island enters QUIESCE. -/
  | islandSoftRestartCmd (i : Isl)
  /-- ISLAND_HARD_RESET_CMD (R528). A write of UPD_ISL_ID.CMD 2 requests a hard reset, and the island enters QUIESCE. -/
  | islandHardResetCmd (i : Isl)
  /-- FENCE_NOTICE_ACKED (R528). Every bridge partner acknowledges the fence notice, and the island enters DRAIN. -/
  | fenceNoticeAcked (i : Isl)
  /-- ISLAND_DRAINED (R528). Every accepted request is answered and every own request is replied, and the island enters FENCED. -/
  | islandDrained (i : Isl)
  /-- DRAIN_TIMEOUT (R528). An island spends 10 µs in DRAIN with work left, and it enters FENCED. -/
  | drainTimeout (i : Isl)
  /-- STATE_SAVE_DONE (R529). The island's FENCED state save completes, and the island enters RESET. -/
  | stateSaveDone (i : Isl)
  /-- ISLAND_RESET_DONE (R528). An island's reset completes with its firmware loaded, and the island enters RESUME. -/
  | islandResetDone (i : Isl)
  /-- UPD_ISL_RESUME (R528). A resuming island finishes initialisation, increments its incarnation, sends resume notices and returns to RUN. -/
  | updIslResume (i : Isl)
  /-- RESUME_BOUND_EXCEEDED (R527). An island has not left RESUME by its bound, and it is reset again with FAULT_N asserted. -/
  | resumeBoundExceeded (i : Isl)
  /-- WATCHDOG_RESTART (R532). An island's controller misses its watchdog for 100 ms, and it takes a soft restart. -/
  | watchdogRestart (i : Isl) (poison : Bool)
  /-- ENGINE_CMD_RESTART (R535). UPD_ENG_CTL CMD 1 requests an engine restart under R536, or is refused. -/
  | engineCmdRestart (e : Eng) (force : Bool)
  /-- ENGINE_CMD_STOP (R535). UPD_ENG_CTL CMD 2 requests an engine stop under R536, or is refused. -/
  | engineCmdStop (e : Eng) (force : Bool)
  /-- ENGINE_CMD_TX_DARK (R536). The transmitter of an engine under command is dark, and its four islands enter QUIESCE. -/
  | engineCmdTxDark (e : Eng)
  /-- ENGINE_IMAGE_REREAD_DONE (R108). The image reread after an engine restart ends, and the engine takes its engine-scoped records and enters TUNING. -/
  | engineImageRereadDone (e : Eng) (reads : List (List Byte × FlashRead))
  /-- UPD_STAGING_WRITE (R539). A host write to the staging window stores package bytes and marks their words in the bitmap. -/
  | updStagingWrite (ofs : Nat) (data : List Byte)
  /-- UPD_CMD_VERIFY (R545). UPD_CTL CMD 1 starts verification of the staged package. -/
  | updCmdVerify
  /-- UPD_VERIFIED (R542). Verification ends, and the package is copied and VERIFIED, or the update enters FAILED with its code. -/
  | updVerified
  /-- UPD_CMD_APPLY (R543). UPD_CTL CMD 2 starts applying the package island by island. -/
  | updCmdApply
  /-- UPD_CMD_COMMIT (R545). UPD_CTL CMD 3 commits a trial update. -/
  | updCmdCommit
  /-- UPD_CMD_ROLLBACK (R545). UPD_CTL CMD 4 rolls back an update in APPLYING or TRIAL. -/
  | updCmdRollback
  /-- UPD_CMD_CLEAR (R545). UPD_CTL CMD 5 clears the bitmap and returns the update state to IDLE. -/
  | updCmdClear
  /-- UPD_TRIAL_EXPIRY (R545). The trial timer ends, which commits when AUTO_COMMIT is 1 or otherwise waits. -/
  | updTrialExpiry
  /-- UPD_COMMIT (R546). The inactive flash bank is written and made active and ARB_FW is raised, or the update rolls back. -/
  | updCommit (flashOk fuseOk : Bool)
  /-- TALLY_CLEAR_TOT (R563). A write of TALLY_CTL.CLEAR_TOT sets every total to 0. -/
  | tallyClearTot
  /-- BIST_CTL_SHUTDOWN_TEST (R567). A write of 0x5D01 to BIST_CTL requests an orderly shutdown with self-test. -/
  | bistCtlShutdownTest
  /-- BIST_CTL_SHUTDOWN_NOTEST (R567). A write of 0x5D02 to BIST_CTL requests an orderly shutdown without self-test. -/
  | bistCtlShutdownNotest
  /-- BIST_SHUTDOWN (R568). A shutdown request is accepted, at once or when a fence ends, and maps, lasers, ports and FLOW stop. -/
  | bistShutdown
  /-- SHUTDOWN_STOP_DONE (R568). Phase 1 ends, and the pending calibration records and the last event records are written. -/
  | shutdownStopDone
  /-- SHUTDOWN_RECORDS_SAVED (R568). Phase 2 ends, and the self-test suite starts. -/
  | shutdownRecordsSaved
  /-- BIST_TEST_DONE (R575). A self-test finishes, its result is decided and the next test or group begins. -/
  | bistTestDone (t : TestResult)
  /-- BIST_TEST_CUT (R574). The suite's cut time passes, and unfinished tests are cut and the rest are not run. -/
  | bistTestCut (committed : Nat)
  /-- SHUTDOWN_RECORD_WRITTEN (R577). The shutdown record is written to the flash ring. -/
  | shutdownRecordWritten
  /-- SHUTDOWN_RAILS_OFF (R570). READY deasserts and every rail except AON and PWR goes off, so the module is in standby. -/
  | shutdownRailsOff
  /-- APR_REDUCE (R591). The reflected ratio stays above −20 dB for 10 ms with the booster on, and the launch power is reduced. -/
  | aprReduce (e : Eng) (refl : Int)
  /-- APR_RESTORE_START (R591). The reflected ratio stays at or below −24 dB for 1 s, and the power ramps back toward full. -/
  | aprRestoreStart (e : Eng) (refl : Int)
  /-- APR_RESTORE_DONE (R591). The APR restore ramp completes, and APR returns to NORMAL. -/
  | aprRestoreDone (e : Eng) (refl : Int)
  /-- MAKER_PROGRAMMING (R423). The maker's programming blows LC bit 0, and a BLANK part becomes MAKER_TEST. -/
  | makerProgramming
  /-- MAKER_SHIP_COMMAND (R423). The maker's ship command, with DRK present and the full suite passed, blows LC bit 1, DEBUG_LOCK and TEST_LOCK, and the part becomes SHIPPED. -/
  | makerShipCommand
  /-- MAKER_VOID_COMMAND (R423). The maker's void command blows DRK, SIGN_HASH and LC to all ones, and a BLANK part becomes VOID. -/
  | makerVoidCommand
  /-- TRANSMIT_FAULT (R283). A signal laser loses lock or a booster leaves its range, and the engine has a transmit fault that is a cause of SF. -/
  | transmitFault (e : Eng) (cause : TxCause)
  /-- TRANSMIT_FAULT_CLEAR (R283). The laser relocks or the booster returns to range, and the transmit-fault cause of SF clears. -/
  | transmitFaultClear (e : Eng) (cause : TxCause)
  /-- HI_SER_CLEAR (R398). The RS-FEC hi_ser condition of a PAM4 port ends, received frames are no longer discarded, and Remote Fault stops. -/
  | hiSerClear (p : PortIx)
  /-- PRBS_LOCK_ACQUIRED (R409). A lane checker in loop 1 or 2 sees 64 consecutive error-free symbols and sets PRBS_LOCK. -/
  | prbsLockAcquired (x : LaneRx)
  /-- PRBS_LOCK_LOST (R409). A lane checker counts 64 errors within 1,024 symbols and loses PRBS lock. -/
  | prbsLockLost (x : LaneRx)
  /-- UPSTREAM_OLD_GENERATION_EXPIRY (R434). 1 ms after the first good unit of the new parity, an upstream slot in TWO zeroises its old generation and returns to ONE. -/
  | upstreamOldGenerationExpiry (k : KeySlotIx)
  /-- SCRUBBER_READ (R475). The scrubber reads the next word of a region in an idle cycle and applies the outcomes of R470, with write-back or MEM_UNCORR. -/
  | scrubberRead (r : Fin 16) (word : Nat) (errs : WordErrs)
  deriving DecidableEq, Repr

end Sys2Proof
end

