-- ==== Sys2Proof/Decode.lean ====
section
/-! DEFINITION. The command a table word spells. The table gives no bits for any of its rows (every row's `fields` is empty
and no row has `fixed`), so no word spells a command: commands reach the block as themselves, through the queue. -/

namespace Sys2Proof

/-- The command that `w` spells by the bits of the spec's table: the table gives bits for no row. -/
def decodeTableWord (_nbits _w : Nat) : Option Instr := none

end Sys2Proof
end

