-- ==== Sys2Proof/Config.lean ====
section
/-! DEFINITION. What an implementation fixes and the spec leaves open: the free values, and the standard algorithms the spec
names by their standards and does not define itself. Every constant here has no body, so nothing can be proved about the
value it gives (notes/assumptions/5.md and 6.md). -/

namespace Sys2Proof

/-- A free value of each kind; the argument is the model's counter, which the meaning advances at every draw. -/
opaque Config.freeNat : Nat → Nat
opaque Config.freeByte : Nat → Byte
opaque Config.freeBool : Nat → Bool

/-- A measured quantity as a read finds it: the number of the read and the address read (DS_OPT_TX, US_DET and the like). -/
opaque Config.measured : Nat → Nat → W32

/-- The values the maker fixes in a part and the manual prints no number for, by an index the reader names (R233, R211). -/
opaque Config.factory : Nat → Int

/-- SHA-256 (R97, R419). -/
opaque Config.sha256 : List Byte → BitVec 256

/-- Ed25519 verification under a 32-byte public key (R97, R541): key, message, signature. -/
opaque Config.ed25519Ok : List Byte → List Byte → List Byte → Bool

/-- The vendor key fixed in the boot ROM (R84, R540). -/
opaque Config.vendorKey : List Byte

/-- Ed25519 signature by a 32-byte private key (R447): key, message. -/
opaque Config.ed25519Sign : List Byte → List Byte → List Byte

/-- The Ed25519 public key of a private key (R447). -/
opaque Config.ed25519Pub : List Byte → List Byte

/-- X25519: scalar and point (R446). -/
opaque Config.x25519 : List Byte → List Byte → List Byte

/-- The X25519 base point. -/
opaque Config.x25519Base : List Byte

/-- ML-KEM-768 (R446): encapsulation key of a seed, decapsulation under a seed, and the check of a ciphertext's form. -/
opaque Config.mlkemPub : List Byte → List Byte
opaque Config.mlkemDecaps : List Byte → List Byte → List Byte

/-- HMAC-SHA-256 (R452): key, message. -/
opaque Config.hmac : List Byte → List Byte → List Byte

/-- HKDF-SHA-256 (R440, R449): extract (salt, input) and expand (secret, info, length). -/
opaque Config.hkdfExtract : List Byte → List Byte → List Byte
opaque Config.hkdfExpand : List Byte → List Byte → Nat → List Byte

/-! ## Receive signal processing: algorithms that the spec names and does not give (R174, R180) -/

/-- One symbol of a burst receiver's fast gain loop, whose time constant in symbols is the first argument (R174, R223): the gain,
and the detectors' envelope and peak, all in 0.01 dB. -/
opaque Config.agcStep : Nat → Int → Int → Int → Int

/-- The soft values of the bits of a format's symbol, negative for a 1 (R180). -/
opaque Config.softBits : Nat → (Int × Int) × (Int × Int) → List Int

/-- Soft decoding of one row, and of one column, of a block (R180). -/
opaque Config.softRow : List Int → List Int
opaque Config.softColumn : List Int → List Int

/-! ## The converter front end and the extraction (R206 to R224, R232): functions the spec names by what they do -/

/-- The samples that the TXD island sends in CALIBRATING, by output and number (R232, R234). -/
opaque Config.calSignal : Nat → Nat → Int

/-- The estimate of a transmit coefficient from the correlations of the monitor's samples with the samples sent, by output, phase
and lag (R232). -/
opaque Config.txEstimate : Nat → List (List (List Int)) → Int

/-- AES-256 of one block: key and block (R426). -/
opaque Config.aes256 : BitVec 256 → BitVec 128 → BitVec 128

/-- The raw bits that the noise source gives, in blocks of 128 by their number, and the key of the CBC-MAC conditioning component
(R426, R427). -/
opaque Config.noise : Nat → BitVec 128
opaque Config.condKey : BitVec 256

/-- The 16 check bits of a DRK (R418). -/
opaque Config.drkCode : BitVec 256 → BitVec 16

/-- The bit pairs in which the PCS and FEC of IEEE 802.3 send the octets of a frame on a lane of a PAM4 port (R386, R388): port type, lane,
octets, and a number that tells frames apart. And the indexes in which a lane receives one. -/
opaque Config.pcsPairs : Nat → Nat → List Byte → Nat → List (Bool × Bool)
opaque Config.pcsIndexes : Nat → Nat → List Byte → Nat → List Nat

/-- The bucket that the keyed cuckoo hash gives a key (R345): hash key, key type and key. -/
opaque Config.flowHash : BitVec 128 → Bool → Nat → BitVec 96 → Nat

/-- Four bytes, by their number in the bank, of the contents that a number names; and of a bucket that holds these entries: key type, key and
flow (R345, R472). -/
opaque Config.sramWord : Nat → Nat → W32
opaque Config.bucketWord : List (Nat × BitVec 96 × Nat) → Nat → W32

end Sys2Proof
end

