-- ==== Sys2Proof/Machine/State.lean ====
section
/-! DEFINITION. The whole state of the block as plain data, its value right after reset, and the reasons a step can stop.
Every field's default is its reset value: the spec's where the spec gives one, and otherwise the value that
notes/assumptions/3.md or 4.md names. -/

namespace Sys2Proof.Machine

/-! ## Events, islands and power -/

/-- A 32-byte event record (R511); `data` is DATA[79:0]. -/
structure EvtRec where
  isl : Nat
  code : Nat
  epoch : Nat
  seq : Nat
  sec : Nat
  ns : Nat
  obj : Nat
  data : BitVec 80
  deriving DecidableEq, Repr

/-- A record of the log in internal flash, and whether its check word passes (R520). -/
structure SavedEvt where
  evt : EvtRec
  crcOk : Bool
  deriving DecidableEq, Repr

/-- The fence states of R528. -/
inductive Fence where
  | run | quiesce | drain | fenced | reset | resume
  deriving DecidableEq, Repr

/-- Why an island is being restarted (the cause of UPD_ISL_RESUME, R551). -/
inductive FenceCause where
  | host | update | engine | watchdog | poison
  deriving DecidableEq, Repr

/-- A request across a bridge that awaits its reply: the requester and its incarnation, and the responder with its incarnation
when it accepted the request (R24, R530). -/
structure BridgeReq where
  src : Isl
  srcInc : Nat
  dst : Isl
  dstInc : Nat
  deriving DecidableEq, Repr

/-- One island: clock steps and sag (R54 to R68), fence (R528), incarnation (R24), event FIFO and counts (R513, R516). -/
structure IslSt where
  fence : Fence := .run
  hard : Bool := false
  cause : FenceCause := .host
  overdue : Bool := false            -- the bound of R527 was exceeded in this restart
  fenceAt : Nat := 0              -- module time at which it entered QUIESCE, for the timers that stop (R534)
  incarn : Nat := 1
  stale : Nat := 0                -- UPD_STALE_ID
  seq : Nat := 0                  -- SEQ of the next record
  fifo : List EvtRec := []
  lost : Nat := 0                 -- EVT_LOST_ID
  lostSec : Nat := 0              -- records lost in this second
  sag : Bool := false             -- the droop sensor reports a sag
  stretching : Bool := false
  carried : Bool := false         -- the held rate carries the sag in progress (R63)
  sagStep : Nat := 0              -- steps held by a long sag
  capStep : Nat := 0              -- steps held by the power cap
  floorFault : Bool := false      -- held at the floor after the 1 ms of R64
  floorDone : Bool := false       -- PWR_DROOP_FLOOR was raised for the sag in progress
  deriving DecidableEq, Repr

/-- One feed (R35 to R44). -/
structure FeedSt where
  mated : Bool := false
  volt : Int := 0                 -- PWR_FEED_x.VOLT, signed, 10 mV
  lost : Bool := false            -- PWR_FEED_LOST in force
  high : Bool := false            -- PWR_FEED_HIGH in force
  low : Bool := false             -- PWR_LOW in force
  swOpen : Bool := false          -- hot-swap switch open under the 80.0 V row
  deriving DecidableEq, Repr

/-- Whether the module has power and how far it runs (R42, R77, R81, R504, R570). -/
inductive RunState where
  | off          -- no logic power
  | standby      -- only AON and PWR run
  | held         -- RESET_N low
  | starting     -- from the start origin to READY
  | bootRom      -- stopped in the boot ROM (R84, R86)
  | ready        -- READY asserted
  deriving DecidableEq, Repr

/-- The running emergency shutdown (R47, R72). -/
inductive Emerg where
  | none | powerFail | thermCrit
  deriving DecidableEq, Repr

/-- Power entry, cap and temperature (R41 to R72). -/
structure Power where
  run : RunState := .off
  feedA : FeedSt := {}
  feedB : FeedSt := {}
  holdup : Bool := false          -- PWR_STATUS.HOLDUP_RDY
  capActive : Bool := false
  capStepping : Bool := false     -- the steps down of R66 go on
  emerg : Emerg := .none
  emergStep : Nat := 0            -- 0 before the end of the 1 ms ramp, 1 after it
  pfInCrit : Bool := false        -- PWR_FAIL came during the THERM_CRIT shutdown
  critOff : Bool := false         -- off after a THERM_CRIT shutdown
  lossOff : Bool := false         -- off after a feed-loss shutdown
  cmdOff : Bool := false          -- standby was entered by command (R570)
  therm : Bool := false           -- THERM_HIGH in force
  caseT : Int := 0                -- 1/16 °C
  reported : Option (Nat × Bool × Bool) := none  -- SOURCE, HOLDUP_RDY and CAP_ACTIVE as PWR last reported them, while it is fenced (R605)
  deriving DecidableEq, Repr

/-- Input pins and the pulse and strobe outputs (R503, R504). READY, FAULT_N and ALERT_N are computed from the state. -/
structure Pins where
  resetN : Bool := true
  shdnN : Bool := true
  adr0 : Bool := false            -- ADDR_SEL_0 as last sampled (R483)
  adr1 : Bool := false
  ready : Bool := false
  busyPulses : Nat := 0           -- BUSY_N pulses given
  ppsEdges : Nat := 0             -- PPS_OUT edges given
  deriving DecidableEq, Repr

/-- Module time since the start origin and the TOD time (R79, R368). -/
structure Clock where
  now : Nat := 0                  -- ns since the start origin
  up : Nat := 0                   -- ns from power good to the start origin (R77, R226)
  sec : Nat := 0                  -- TOD seconds, 48 bits
  ns : Nat := 0                   -- TOD nanoseconds, 0 to 999,999,999
  epoch : Nat := 0                -- EVT_EPOCH
  deriving DecidableEq, Repr

/-! ## Fuses and internal flash -/

/-- The fuses of R418 and the identity fuses of R500. -/
structure Fuses where
  lcA : BitVec 8 := 0             -- the three copies of LC
  lcB : BitVec 8 := 0
  lcC : BitVec 8 := 0
  drk : BitVec 256 := 0
  drkSum : BitVec 16 := 0         -- the 16 check bits of DRK
  signHash : BitVec 256 := 0
  arbCfg : Nat := 0
  arbFw : Nat := 0
  debugLock : Bool := false
  testLock : Bool := false
  order : BitVec 2 := 0
  stepping : Byte := 0
  serial : BitVec 128 := 0
  mac : BitVec 48 := 0
  deriving DecidableEq, Repr

/-- An entry of a self-test record (R576). -/
structure TestEntry where
  id : Nat
  result : Nat
  sigMatch : Bool
  cut : Bool
  abandoned : Bool
  programmed : Nat
  committed : Nat
  detail : Nat
  deriving DecidableEq, Repr

/-- A self-test or shutdown record (R576). -/
structure TestRec where
  kind : Nat
  suite : Nat
  overall : Nat
  seq : Nat
  sec : Nat
  ns : Nat
  lc : Nat
  fw : W32
  durMs : Nat
  peak : Nat
  entries : List TestEntry
  crcOk : Bool := true
  deriving DecidableEq, Repr

/-- A section of firmware as a bank holds it: its island row and kind, the signed header and section table of the package it came
from, and its bytes (R546). -/
structure FwSec where
  isl : Nat
  kind : Nat
  table : List Byte
  bytes : List Byte
  deriving DecidableEq, Repr

/-- A change of an island's DSP and datapath tables to those staged, or back: at the frame of its engine with number `frame`, or at once
(R543). -/
structure TabChange where
  isl : Nat
  staged : Bool
  frame : Option Nat
  deriving DecidableEq, Repr

/-- Internal flash: firmware banks (R84, R546), calibration rings (R240), self-test ring (R577), saved events (R520). -/
structure Flash where
  active : Nat := 0               -- active firmware bank, 0 or 1
  ver0 : W32 := 0
  ver1 : W32 := 0
  bank0 : List FwSec := []        -- sections that a commit wrote into the banks
  bank1 : List FwSec := []
  arbOwed : Nat := 0              -- ARB_VALUE of a commit whose fuse write failed, 0 when none (R547)
  cal : Table (List (List Byte)) := []   -- record slots by converter island row, as their bytes (R241); newest first, at most 64
  calWr : Table (Option Int) := []       -- module time of the last write of such a record, ns; before this start it is negative (R242)
  recs : List TestRec := []       -- newest first, at most 8
  events : List SavedEvt := []      -- oldest first, at most 4,096
  evValid : Bool := false         -- EVT_PREV.VALID
  deriving DecidableEq, Repr

/-! ## Start-up -/

/-- A record of the configuration image (R96). -/
structure ImgRec where
  typ : Nat
  scope : Nat
  critical : Bool
  payload : List Byte
  deriving DecidableEq, Repr

/-- An accepted configuration image (R94, R114). -/
structure Image where
  version : W32
  len : Nat
  arb : Nat
  arbCommit : Bool
  skipped : Nat
  digest : BitVec 256
  recs : List ImgRec
  deriving DecidableEq, Repr

/-- A command that the module issued to the configuration flash (R87, R89): its code, the NVM_SCK divider (none: 25 MHz), and
its dummy cycles. -/
structure NvmCmd where
  op : Nat
  div : Option Nat
  dummy : Nat
  deriving DecidableEq, Repr

/-- The start sequence and the BOOT_ registers (R77, R109, R114). -/
structure Boot where
  phase : Nat := 0                -- BOOT_STATUS.PHASE
  imgState : Nat := 0             -- 0 NOT_READ .. 5 NONE
  nvmBusy : Bool := true
  fuses : Bool := false           -- step 2 done
  sram : Bool := false            -- step 3 done
  fw : Bool := false              -- step 4 done
  imgDone : Bool := false         -- step 5 done
  cal : Bool := false             -- step 6 done
  dram : Bool := false            -- step 7 done
  quickRun : Bool := false        -- the quick suite runs
  quickDone : Bool := false
  ctx : Bool := false             -- step 9 done
  dramInit : Bool := false        -- step 10 done
  attempt : Nat := 1              -- the copy read in progress: 1 primary, 2 its re-read, 3 secondary, 4 its re-read
  reads : Nat := 0                -- copy reads made at this start
  second : Bool := true           -- a secondary copy is looked for (R88)
  magic : Bool := false           -- some copy showed MAGIC (R105)
  img : Option Image := none      -- image in force
  err : Nat := 0
  errRec : Nat := 0
  err2 : Nat := 0
  err2Rec : Nat := 0
  engErrA : Nat := 0
  engErrB : Nat := 0
  width : Nat := 0
  div : Nat := 0
  nvm : List NvmCmd := []         -- commands issued to the flash at the last read of a copy, in order
  skipped : Nat := 0
  readyUs : Nat := 0
  trMs : Nat := 0
  traffic : Bool := false         -- BOOT_STATUS.TRAFFIC_READY
  risen : Bool := false           -- TRAFFIC_READY has risen in this start
  differs : Bool := false         -- BOOT_STATUS.IMG_DIFFERS
  quickRan : Bool := false        -- BOOT_STATUS.QUICK_TEST
  arbDone : Bool := false         -- the anti-rollback commit of this start was made or tried
  bank : Nat := 0                 -- firmware bank running
  imgRejected : Bool := false     -- MGT_FAULT bit 1
  bootRomFault : Bool := false    -- MGT_FAULT bit 0
  paired : Bool := false          -- MODULE_MODE.MODE
  debug : Bool := false           -- the maker's debug access is open (R421, R422)
  maker : Bool := false           -- the maker's private test modes are open
  deriving DecidableEq, Repr

/-! ## Engines: downstream -/

/-- Engine states of R109. -/
inductive EngState where
  | disabled | waiting | tuning | calibrating | ramping | trafficReady | standby | failed
  deriving DecidableEq, Repr

/-- Group states of R143. -/
inductive GrpState where
  | off | waiting | rampOn | settling | on | rampOff
  deriving DecidableEq, Repr

/-- A raised-cosine ramp (R144): its direction, where it began and when, and its duration, in ns. Positions run from 0, dark, to
`dur`, full. -/
structure Env where
  rising : Bool := true
  origin : Nat := 0
  since : Nat := 0
  dur : Nat := 0
  still : Bool := false           -- it stands at `origin` (R146)
  deriving DecidableEq, Repr

/-- A subcarrier group: its state, the frame at which the envelope reached full, and its envelope. -/
structure GrpSt where
  st : GrpState := .off
  fullAt : Nat := 0
  env : Env := {}
  deriving DecidableEq, Repr

/-- The laser and booster (R145). -/
inductive Laser where
  | dark | rampingOn | lit | rampingOff
  deriving DecidableEq, Repr

/-- A downstream control message (R304), with its destination. -/
inductive Msg where
  | map (tn : Nat) (half : Nat) (grants : List Grant)
  | squares (tn : Nat) (sq : List Square) (eqdDisc : Nat) (discLaunch : Int) (margin wide : Nat)
  | assign (serial nonce : BitVec 128) (leaf : LeafId) (eqd : Int) (launch : Int)
  | range (leaf : LeafId) (eqd : Option Int) (applyTurn : Nat)
  | power (leaf : LeafId) (launch : Int)
  | sset (index : Nat) (effFn : Nat) (words : List W32)
  | ctr (leaf : LeafId) (cid : Nat) (effFn : Nat) (word0 : W32)
  | group (leaf : LeafId) (effFn : Nat) (words : List W32)
  | reg (leaf : LeafId) (rtype : Nat) (body : List Byte)
  | activate (leaf : LeafId)
  | deregLeaf (leaf : LeafId) (cause hold : Nat)
  | deregSerial (serial : BitVec 128) (cause hold : Nat)
  | time (fn secHi : Nat) (secLo : W32) (ns : Nat) (z : Nat) (asym : W32)
  | echoReq (leaf : LeafId) (payload : List Byte)
  | echoRsp (leaf : LeafId) (payload : List Byte)
  deriving DecidableEq, Repr

/-- An enciphered unit waiting for cells, as stream bytes (R253), with the flow and sequence number it came from. -/
structure TxUnit where
  cid : Nat
  flow : Nat
  fsn : Nat
  bytes : List Byte
  dram : Nat := 0                 -- of them, those beyond the leaf's share, which lie in DRAM (R358)
  deriving DecidableEq, Repr

/-- A cell of the present frame (R137, R138). -/
structure Cell where
  sc : Nat
  slot : Nat
  header : W32
  payload : List Byte
  deriving DecidableEq, Repr

/-- A dual-polarization symbol: its unnormalised levels, and the square of the number that divides them (R119, R122). -/
structure Sym where
  xi : Int
  xq : Int
  yi : Int
  yq : Int
  scaleSq : Nat
  deriving DecidableEq, Repr

/-- What automatic power reduction makes of the amplitude of the whole transmitter (R591, R592): its state, the reduced part in units of 2^−14,
when the state began and how long its change takes, and the part while the power falls. -/
structure AprEnv where
  st : Nat := 0
  low : Int := 0
  since : Nat := 0
  dur : Nat := 0
  fall : Int := 0
  deriving DecidableEq, Repr

/-- The frame of one subcarrier as it leaves: twice its centre frequency in MHz (R116), its 8,320 symbols (R123), the time of
its first symbol, the envelopes of its group and of the whole output, which scale them (R144, R145), the pre-emphasis in force, 0.01 dB
(R233), and the amplitudes of the last symbols before it. -/
structure LineFrame where
  centre2 : Int
  syms : List Sym
  start : Nat
  grpEnv : Env
  outEnv : Env
  pre : Int := 0
  apr : AprEnv := {}              -- power reduction (R592)
  lead : List DpCpx := []
  deriving DecidableEq, Repr

/-- The stream of one subcarrier: where its cells stand (R127, R139), and the bits and rows between its cells and the line (R132
to R135). -/
structure ScSt where
  live : Bool := false            -- the stream has begun
  carry : List Bool := []         -- bits of the last cell that the frames launched did not take
  scr : Nat := 0                  -- scrambler state
  blk : List (List Bool) := []    -- rows of the block in progress
  hist : List (List (List Bool)) := []  -- rows of the last 7 undelayed frames, newest first
  ptr : Nat := 0                  -- CELL_PTR of the current multiframe
  pos : Nat := 0                  -- information bit of the multiframe at which the next cell begins
  slot : Nat := 0                 -- slot of the next cell
  deriving DecidableEq, Repr

/-- A HOLD on its way in the control streams of subcarriers 0 and 16: the leaf, and the offsets at which the message ends (R328). -/
structure HoldOut where
  leaf : Nat
  end0 : Nat
  end16 : Nat
  deriving DecidableEq, Repr

/-- Downstream side of one engine. -/
structure Down where
  scs : Table ScSt := []
  laser : Laser := .dark
  framer : Bool := false          -- the framer runs (R296)
  frames : Nat := 0               -- continuous frame count F of R296
  aisWas : Bool := false          -- AIS was sent in the last frame
  rdiAllWas : Bool := false
  rdiWas : List Nat := []         -- leaves whose RDI_MAP bit was set in the last frame
  grp : Table GrpSt := []
  hdr : Table (BitVec 128) := []  -- header launched last on each subcarrier
  cells : List Cell := []         -- cells of the frame launched last
  line : Table LineFrame := []    -- the frame launched last on each subcarrier
  dac : List (List Int) := []     -- the samples that the DACs of XI, XQ, YI and YQ take in it (R11 step 8)
  zeros : Nat := 0                -- zero-valued samples that a slip still puts before those of the next frame (R60)
  env : Env := {}                 -- envelope of the whole output in a switch or an emergency shutdown
  offing : Bool := false          -- the other groups ramp off, and the laser follows them (R145)
  ctl : List Msg := []            -- control messages in order, waiting for control cells
  held : List Msg := []           -- held under R606
  ctlBytes0 : List Byte := []     -- control stream of subcarrier 0, not yet in cells
  ctlBytes16 : List Byte := []    -- control stream of subcarrier 16
  ctlSeq0 : Nat := 0
  ctlSeq16 : Nat := 0
  ctlNext0 : List Nat := []       -- offsets of message starts in the two streams
  ctlNext16 : List Nat := []
  holds : List HoldOut := []      -- HOLDs whose last cell has not left (R328)
  mapAt : Option Nat := none      -- frame in which the next map's first control cell begins
  apr : Nat := 0                  -- DS_OPT_STATE.APR
  refl : Int := 0                 -- reflected ratio that APR judged last
  aprEnv : AprEnv := {}
  seen : Bool := false            -- the transmitter has sent light since the engine's reset
  sigLock : Bool := false
  loLock : Bool := false
  laserFault : Bool := false
  boosterFault : Bool := false
  deriving DecidableEq, Repr

/-! ## Engines: burst receivers -/

/-- Burst receiver states of R185. -/
inductive BrxState where
  | closed | armed | spec | header | payload | waitFall
  deriving DecidableEq, Repr

/-- A burst record (R191). -/
structure BurstRec where
  leaf : Nat := 0
  sc : Nat := 0
  eng : Nat := 0
  kind : Nat := 0
  fmt : Nat := 0
  outcome : Nat := 0
  short : Bool := false
  seeded : Bool := false
  falseRun : Nat := 0
  wrongWindow : Bool := false
  hdrValid : Bool := false
  ssn : Nat := 0
  blocks : Nat := 0
  failed : Nat := 0
  arrSec : Nat := 0
  arrNs : Nat := 0
  arrFrac : Nat := 0
  power : Int := 0
  fofs : Int := 0
  corrected : Nat := 0
  syncErrs : Nat := 0
  snr : Nat := 0
  deriving DecidableEq, Repr

/-- Presets a receiver loads at gate opening (R171): from a seed, or the nominal gain with the centre spike. -/
structure Presets where
  seeded : Bool := false
  gain : Int := 0
  fofs : Int := 0
  taps : List W32 := []
  deriving DecidableEq, Repr

/-- A gate of a burst receiver (R170, R186): its window, the symbols it is open for, what is in force for receptions in it,
and what was seen in it. -/
structure Gate where
  w : Window
  lo : Int                           -- first symbol
  hi : Int                           -- first symbol after the gate
  closed : Bool := false
  idle : Bool := false               -- the window went idle (R328)
  pre : Presets := {}
  cfgW : W32 := 0                    -- BRX_CFG in force when the gate opened
  agcW : W32 := 0                    -- BRX_AGC in force when the gate opened
  margin : Nat := 0                  -- symbols that a ranging burst begins after its window's start (R318)
  shift : Int := 0                   -- symbols by which the window is shifted at this engine (R15, R286)
  detected : Bool := false
  synced : Bool := false
  header : Bool := false             -- a good header naming the window's leaf
  goodBlk : Bool := false            -- that burst gave a good block
  deriving DecidableEq, Repr

/-- A capture whose later leaf is not yet named (R189): a reception detected at or before `till` is the captured burst's. -/
structure CapWait where
  earlier : Option Nat
  granted : Option Nat               -- the leaf granted the window of the rise, when it differs from the earlier leaf
  kind : GateKind
  till : Int
  deriving DecidableEq, Repr

/-- A symbol of a subcarrier at the output of its channel filter (R218, R223): its two samples at 18 GS/s, the envelope
there in 0.01 dBm, the peak in 0.01 dB relative to full scale, and what readings take off the power in 0.01 dB (R224). -/
structure RxSym where
  a : DpCpx := ((0, 0), (0, 0))
  b : DpCpx := ((0, 0), (0, 0))
  env : Int := 0
  peak : Int := 0
  off : Int := 0
  deriving DecidableEq, Repr

/-- Why a byte of a leaf's upstream stream is lost with known length: its block failed (R266), the meter of DRAM had no allowance for it (R34),
or its word in a memory region read as POISON (R471). -/
inductive LostWhy where
  | block | meter
  | poison (region : Nat)
  deriving DecidableEq, Repr

/-- A byte of a leaf's upstream stream: a good byte, or one lost with known length (R266). -/
inductive SByte where
  | got (b : Byte)
  | lost (why : LostWhy)
  deriving DecidableEq, Repr

/-- A burst record on its way to the scheduler (R191), with its window and the payload of a discovery burst. -/
structure Report where
  r : BurstRec
  w : Window
  qreport : Nat
  payload : List SByte
  arr : Int := 0                     -- arrival symbol in 1/64 symbol (R230)
  margin : Nat := 0                  -- margin of a ranging window, symbols (R318)
  deriving DecidableEq, Repr

/-- One burst receiver (R169 to R193). -/
structure BrxSt where
  st : BrxState := .closed
  gates : List Gate := []            -- gates open, or closed with a reception in progress; oldest first
  loaded : Option Gate := none       -- the gate whose presets are loaded
  falseRun : Nat := 0
  lag : Nat := 0                     -- lag at the read position `pos`
  pos : Int := 0                     -- the next symbol to be read, at the last event
  strm : List RxSym := []            -- symbols received, oldest first: those of the replay buffer and those a reception still needs (R169)
  s0 : Int := 0                      -- arrival symbol of the first of them
  openTo : Int := 0                  -- symbols before this one since the receiver was ARMED lay in gates that have closed (R170)
  rms : Int := 0                     -- 4,096 times the mean power of the symbols outside gates, at the receive input (R173, R223, R224)
  noise : Int := 0                   -- noise floor, 0.01 dBm (R173)
  gain : Int := 0                    -- gain of the fast loop, frozen during a reception (R174), 0.01 dB
  fofs : Int := 0                    -- frequency offset in force, kHz
  snapGain : Int := 0                -- the snapshot of R173
  snapFofs : Int := 0
  level : Int := 0                   -- envelope at the point where the gain froze (R187)
  eq : List W32 := []                -- equalizer taps in the order of R226
  phase : Int := 0                   -- carrier phase, unwrapped, 1/256 turn (R179)
  arr : Int := 0                     -- arrival symbol of the reception in 1/64 symbol (R230)
  d : Int := 0                       -- detection symbol
  k : Int := 0                       -- symbol at which the sync word matched
  win : Option Window := none        -- the window of the reception in progress
  cfgW : W32 := 0                    -- BRX_CFG in force for it, and for the fall after it (R186, R196)
  cur : BurstRec := {}
  hdr : BitVec 128 := 0
  blk : Nat := 0                     -- blocks decoded
  blks : List (Bool × Nat) := []     -- of each: whether it was good, and the bits corrected
  tail : List DpCpx := []            -- the last symbols behind the equalizer before the next block (R227)
  bytes : List SByte := []           -- payload bytes of the blocks decoded
  scr : Nat := 0                     -- scrambler state (R167)
  anyGood : Bool := false
  rises : List (Int × Option Nat) := []   -- run-on rises: onset, and the leaf granted the window there (R187, R189)
  charged : List Int := []           -- onsets of those whose collision has been charged (R187)
  cap : Option CapWait := none
  replay : Option (Int × Window) := none  -- detection is allowed for 64 symbols from here whatever the gate, under this window's presets (R187)
  last : BurstRec := {}              -- BRX_LAST_n
  deriving DecidableEq, Repr

/-! ## Engines: calibration, scheduler, defects -/

/-- Calibration run states of R237. -/
inductive CalState where
  | idle | due | collect | step
  deriving DecidableEq, Repr

/-- The running statistic sums of an RXC island (R207), modulo 2^64, and the words counted. -/
structure Sums where
  s1 : Table (BitVec 64) := []    -- S1, S2 and S12 of sub-converter k of ADC a at 64 a + k
  s2 : Table (BitVec 64) := []
  s12 : Table (BitVec 64) := []
  cii : Table (BitVec 64) := []   -- C_II(τ) of polarization p at 4 p + τ
  cqq : Table (BitVec 64) := []   -- C_QQ(0) of polarization p
  ciq : Table (BitVec 64) := []   -- C_IQ(τ) of polarization p at 8 p + τ + 3
  n : Nat := 0                    -- words
  nq : Nat := 0                   -- qualified words
  deriving DecidableEq, Repr

/-- One converter island's calibration controller (R236 to R243). -/
structure CalSt where
  st : CalState := .idle
  iter : Nat := 0
  tLast : Int := 0
  tRun : Int := 0
  trigger : Nat := 0              -- 0 temperature, 1 host, 2 start
  noted : Bool := false           -- a request written during STEP
  again : Bool := false           -- due at the next check or when eligible, after an abandoned run or from the factory record
  partialRun : Bool := false
  holdTo : Nat := 0               -- end of the retry hold, ns
  coef : Table (Option Int) := [] -- coefficients in force by index; none: the factory record's
  target : Table (Option Int) := []  -- values the STEP state moves to
  converged : Bool := false       -- the last iteration changed no coefficient by more than its limit
  pend : Bool := false            -- a record waits for storage
  writes : Nat := 0
  runMs : Nat := 0                -- RUN_MS and MIN_LEVEL taken at the entry to COLLECT (R246)
  minLvl : Nat := 0
  snap : Sums := {}               -- snapshot of the sums at that entry
  res : Table (Option Int) := []  -- the result that waits for storage (R242)
  sent : List (List Int) := []    -- the DAC samples of XI, XQ, YI and YQ since the frame in which the collection began (R232)
  deriving DecidableEq, Repr

/-- What a leaf's containers give it: rates in Mb/s, format code, and subcarriers minus 1. -/
structure Share where
  fixed : Nat := 0
  assured : Nat := 0
  max : Nat := 0
  weight : Nat := 1
  fmt : Nat := 2
  scMax : Nat := 0
  deriving DecidableEq, Repr

/-- What the scheduler took of a leaf when it began to compute a map (R325, R328): its state, whether it may have data windows, the
ranging window it is due (blocks, wide margin), whether it is due a dedicated square and a poll, the bytes it needs, its share, and
whether its bursts use the short preamble. -/
structure LeafDue where
  leaf : Nat
  active : Bool
  lost : Bool
  data : Bool
  ranging : Option (Nat × Bool)
  ded : Bool
  poll : Bool
  need : Nat
  sh : Share
  short : Bool
  deriving DecidableEq, Repr

/-- What the scheduler computes a map on: the settings and the leaves in force when it began (R328), and the leaves that the limit on
grants kept out of the map before (R326). -/
structure Basis where
  margin : Nat := 0
  wide : Nat := 0
  sqLen : Nat := 0
  sqPeriod : Nat := 0
  eqd : Int := 0
  launch : Int := 0
  dues : List LeafDue := []
  first : List Nat := []
  deriving DecidableEq, Repr

/-- A computed map (R306, R328). -/
structure MapSt where
  tn : Nat
  committed : Bool
  recompute : Bool                -- a recomputation is running
  idle : List Grant := []         -- windows of a committed map that went idle
  squares : List Square
  grants : List Grant
  struckSyms : Nat := 0           -- capacity struck and not yet filled, symbols
  unserved : List Nat := []       -- leaves that the limit on grants left unserved (R326)
  basis : Basis := {}             -- what it was computed on
  next : Option Basis := none     -- what its recomputation in progress began on (R328)
  scaled : Bool := false          -- its turn was counted as overbooked (R327)
  deriving DecidableEq, Repr

/-- Entry and exit run lengths of one defect and whether it is present (R274, R275). -/
structure Defect where
  on : Bool := false
  cnt : Nat := 0
  deriving DecidableEq, Repr

/-- The four defects in rank order (R273). -/
structure Defects where
  los : Defect := {}
  lof : Defect := {}
  ais : Defect := {}
  rdi : Defect := {}
  deriving DecidableEq, Repr

/-- What one turn showed an engine (R274). -/
structure TurnStat where
  expected : Bool := false
  sync : Bool := false
  good : Bool := false
  leafGood : Bool := false        -- a good header of a leaf, not a discovery header
  notAis : Bool := false          -- a good header from a leaf not in AIS
  anyRdi0 : Bool := false         -- a good header whose RDI is 0
  blocks : Nat := 0
  failedBlocks : Nat := 0
  no : Nat := 0                   -- once evaluated: the turn's number, plus 1
  deriving DecidableEq, Repr

/-- Alignment states of R272. -/
inductive Align where
  | unknown | search | confirm1 | confirm2 | aligned
  deriving DecidableEq, Repr

/-- A burst of a leaf in reassembly: its SSN, kind and CPTR, the bytes of its blocks decoded so far, and whether its last block is among
them (R180, R264). -/
structure Seg where
  ssn : Nat
  ranging : Bool
  cptr : Nat
  bytes : List SByte
  done : Bool := true
  dram : Nat := 0                 -- bytes of it that lie in DRAM (R34)
  deriving DecidableEq, Repr

/-- Reassembly and defect state of one leaf (R264 to R275, R282). -/
structure LeafRx where
  next : Option Nat := none       -- NEXT_SSN
  held : List Seg := []           -- in the order of their last blocks, and then those that have more blocks to come
  cur : Option Nat := none        -- SSN of a released burst that has more blocks to come
  lose : Option (Nat × Option Nat) := none   -- a loss that waits for it: the SSN up to which it goes, and NEXT_SSN before a jump (R264)
  wait : List Seg := []           -- bursts that arrived behind it and have not been judged
  align : Align := .unknown
  buf : List SByte := []          -- stream bytes not yet consumed, from the present position
  cfc : Nat := 0                  -- CFC last seen or expected
  skip : Nat := 0                 -- ALIGNED: bytes from the head of `buf` to the expected CAW; CONFIRM: CAW positions passed after the hit
  miss : Nat := 0                 -- CAW misses in a row
  hist : List SByte := []         -- bytes from the first of those misses
  unit : List SByte := []         -- container payload bytes gathered, from a unit start
  synced : Bool := false          -- unit boundaries are known
  lead : Option Nat := none       -- payload bytes before the first unit header of a frame whose UPTR is used
  defs : Defects := {}
  losCause : Nat := 0             -- 0 rule, 1 DGASP
  apsRun : Nat := 0               -- identical receptions in a row
  apsLast : Nat := 0              -- last APS field received
  apsAcc : Nat := 0               -- accepted APS field
  lastHdr : Option Nat := none    -- turn of the last good header
  deriving DecidableEq, Repr

/-- The per-second readings of a subcarrier's detectors as they gather (R223): sum of the symbols' powers, their number, and the lowest and
highest envelope, 0.01 dBm, and the highest peak, 0.01 dB relative to full scale. -/
structure DetAcc where
  sum : Nat := 0
  n : Nat := 0
  lo : Int := 0
  hi : Int := 0
  peak : Int := 0
  deriving DecidableEq, Repr

/-- What an ADC gave in the turn in progress: sum of its squares, clips and samples (R204, R205). -/
structure AdcAcc where
  sq : Nat := 0
  clips : Nat := 0
  n : Nat := 0
  deriving DecidableEq, Repr

/-- The words that an engine's ADCs gave, and the phases of its extraction (R203, R216, R217, R222). -/
structure RxIn where
  n : Nat := 0                    -- words since the start
  past : List RxWord := []        -- the last of them, oldest first: what the filters remember
  usc : Int := 0                  -- upstream symbol count at the first sample of the first word, 1/64 symbol (R297)
  mix : Table Nat := []           -- mixer phase of each subcarrier at the next word, 2^−32 turn
  res : Nat := 0                  -- resampler phase at the next word, of 192
  adc : Table AdcAcc := []
  idle : Nat × Nat := (0, 0)      -- idle words of the second in progress: sum of their powers, and words (R207)
  det : Table DetAcc := []        -- by subcarrier
  deriving DecidableEq, Repr

/-- The word count of an RXC island (R203): the module time at which it began, ns, and the count and the TOD time, ns, of its last
tie to TOD. -/
structure WordTie where
  origin : Nat := 0
  count : Nat := 0
  tod : Nat := 0
  deriving DecidableEq, Repr

/-- Scheduler, defects and calibration of one engine. -/
structure EngSt where
  st : EngState := .disabled
  enable : Bool := false          -- ENABLE_x of the image in force
  illegal : Bool := false         -- engine-scoped records illegal (R104)
  selfFail : Bool := false        -- quick-suite FAIL in the engine's group
  stopped : Bool := false
  origin : Nat := 0               -- origin of the 30 s and 45 s limits, ns
  updStep : Nat := 0              -- UPD_ENG_ST.STEP_x
  updCmd : Nat := 0               -- 0 none, 1 RESTART, 2 STOP
  updForce : Bool := false        -- FORCE of the command in progress
  updBy : Bool := false           -- the command is a step of a firmware update
  reread : Bool := false          -- the image is being read again (R108)
  down : Down := {}
  rx : Table BrxSt := []
  feGain : Table Int := []        -- front-end gain by ADC, 0.01 dB
  life : Nat := 0                 -- starts of the engine, which tell its turns apart (R197)
  inp : RxIn := {}                -- what the ADCs gave (R202, R203)
  words : WordTie := {}           -- word count of the RXC island (R203)
  sums : Sums := {}               -- the running sums of R207
  idleRef : Nat × Nat := (0, 0)   -- idle reference: sum of word powers, and words
  det : Table (BitVec 64) := []   -- per-second detector values by subcarrier: RMS, PEAK, ENV_MIN, ENV_MAX, 16 bits each (R224)
  calRx : CalSt := {}
  calTx : CalSt := {}
  scReq : Nat := 0                -- subcarrier of the per-subcarrier run
  scBusy : Bool := false
  scRun : Bool := false           -- the per-subcarrier run has started
  pwrs : Table (List Int) := []   -- latched powers of the last 64 good bursts by subcarrier (R235), newest first
  lrx : Table LeafRx := []        -- reassembly and defects by leaf
  reports : List Report := []     -- burst records waiting for the scheduler
  missed : List (Nat × Bool) := []  -- ranging windows that closed without a good header: leaf, and whether the window was wide (R311, R320)
  maps : List MapSt := []
  mapsStopped : Bool := true      -- the scheduler sends no maps
  squareSent : Bool := false      -- the first map with an open square was sent (R109)
  list : List (BitVec 128 × Option Nat × Bool) := []   -- LEAF_LIST in force: serial, pinned ID, DENY (R334)
  holds : List (BitVec 128 × Nat) := []   -- serials on hold and the end of the hold, ns (R316)
  defs : Defects := {}
  turns : Table TurnStat := []    -- of the turns not yet evaluated, by the turn whose map grants a window (R274, R326)
  sfHeld : Bool := false          -- SF after its hold-off (R283)
  sdHeld : Bool := false
  sfWait : Bool := false          -- the cause of SF, and of SD, stands and its hold-off runs (R283, R293)
  sdWait : Bool := false
  sfSymp : Bool := false          -- the SF is sympathetic
  sfAt : Nat := 0                 -- ns at which the SF took effect
  sfHold : Bool := false          -- SF of a restart or stop, from its QUIESCE until the engine serves again (R536)
  turnPrev : TurnStat := {}       -- the turn evaluated last
  ratioTurns : Nat := 0           -- consecutive turns of the SD block-failure rule
  deriving DecidableEq, Repr

/-! ## Leaves -/

/-- Leaf-table states of R311. -/
inductive LeafState where
  | free | assigned | registering | active | lost | gone
  deriving DecidableEq, Repr

/-- A seed (R226). -/
structure Seed where
  taps : List (BitVec 32)
  fofs : Int
  power : Int
  sc : Nat
  time : Nat                      -- ns since the start origin
  deriving DecidableEq, Repr

/-- Registration exchange of one leaf (R448, R457). -/
structure Exch where
  reg : Nat := 0                  -- SEC_LEAF_e_l.REG
  cause : Nat := 0
  viaInt : Bool := false
  running : Bool := false
  began : Nat := 0                -- ns
  lastRec : Option (Nat × List Byte) := none   -- last record the module sent, until it is answered
  want : Bool := false            -- an exchange is to begin once the Shaker gives bits
  em : List Byte := []            -- X25519 private key
  km : List Byte := []            -- ML-KEM-768 seed
  macM : List Byte := []          -- MAC_M sent
  klf : List Byte := []           -- K_LF
  th2 : List Byte := []           -- TH2
  hello : List Byte := []         -- HUB_HELLO body sent
  kex : List Byte := []           -- LEAF_KEX body received
  ms : List Byte := []            -- session secret, kept after the exchange
  epochDs : Nat := 0
  epochUs : Nat := 0
  wcount : Nat := 0
  ackWait : Nat := 0              -- record type whose acknowledgement is awaited: 0 none, 5 REKEY, 7 GROUP_KEY
  ackDir : Nat := 0
  ackEpoch : Nat := 0
  ackGroup : Nat := 0
  grpTodo : List Nat := []        -- groups whose key is to be delivered
  deriving DecidableEq, Repr

/-- One leaf-table entry (R311, R338). -/
structure Leaf where
  st : LeafState := .free
  pin : Bool := false
  serial : BitVec 128 := 0
  cause : Nat := 0
  rerange : Bool := false
  trig : Nat := 0                 -- trigger row of R320
  wideMiss : Nat := 0
  dedOnly : Bool := false         -- only dedicated squares from now on (R320 step 5)
  oldEqd : Int := 0
  eqd : Int := 0
  rtd : Int := 0
  launch : Int := 0               -- 0.1 dBm
  rxPow : Int := 0                -- 0.01 dBm
  seen : Nat := 0
  qreport : Nat := 0
  caps : Nat := 0
  k : Nat := 0
  grps : Table W32 := []
  seed : Option Seed := none
  applyTurn : Option Nat := none  -- APPLY_TURN of an outstanding RANGE
  eqdWas : Int := 0               -- the delay in force until that turn
  dataWait : Bool := false        -- data grants wait for the APPLY_TURN of a RANGE that has not been sent
  missRow : Nat := 0              -- ranging windows in a row without a good header
  errs : List Int := []           -- landing errors of the last good data bursts, newest first
  pows : List Int := []           -- latched powers since the last POWER decision
  discAt : Nat := 0               -- ns of discovery
  goneAt : Nat := 0               -- ns of departure
  grpEff : List (Nat × Table W32) := []   -- announced memberships and the frame each takes effect at (EFF_FN)
  grpNow : Table W32 := []        -- memberships in force
  reportGs : Nat := 0             -- G_s of the window whose header gave `qreport`
  after : List (Nat × Nat) := []  -- committed data windows later than the burst that reported: G_s and bytes
  dataFrom : Nat := 0             -- first turn of data grants after a re-ranging
  lastGrant : Nat := 0            -- turn of the last grant
  lastDed : Option Nat := none    -- turn of the last dedicated square
  rerangeDue : Nat := 0           -- row of a re-ranging trigger that waits for TXD's control functions (R534), or 0
  exch : Exch := {}
  deriving DecidableEq, Repr

/-! ## Containers, slot sets, flows -/

/-- A slot set (R251, R258). -/
structure Sset where
  words : Table W32 := []         -- words in force
  newWords : Table W32 := []      -- words written last
  pend : Bool := false
  effFn : Nat := 0
  effFrame : Nat := 0             -- the same boundary as a continuous frame count
  cseq : Nat := 0                 -- CSEQ of the next container cell sent by engine A, or by the set's own engine
  cseqB : Nat := 0                -- CSEQ of the next container cell that engine B sends for the tree in Paired mode
  rr : List Nat := []             -- round-robin order: containers with units waiting
  quantum : Nat := 0              -- bytes left to the container at the head of `rr`
  stream : List Byte := []        -- stream bytes not yet in cells
  units : List (Nat × Nat × Bool) := []   -- units in `stream`: CID, bytes left, and whether its header is still to come
  deriving DecidableEq, Repr

/-- A packet queued for a container (R357), or a unit still in clear. -/
structure QPkt where
  flow : Nat
  fsn : Nat
  yellow : Bool
  dram : Nat                      -- bytes of the unit beyond the leaf's share, which lie in DRAM (R358)
  body : List Byte
  deriving DecidableEq, Repr

/-- A container entry (R250, R292). -/
structure Ctr where
  w0 : W32 := 0
  profile : W32 := 0
  pend : Bool := false
  effFn : Nat := 0
  effFrame : Nat := 0
  ssetNow : Nat := 0              -- slot set in force until the boundary
  queue : List QPkt := []
  out : List TxUnit := []         -- enciphered units waiting for cells
  debt : Nat := 0                 -- bytes sent beyond its quanta in the round robin (R359)
  share : Bool := false           -- a multicast container holds a cut-through share (R465)
  deriving DecidableEq, Repr

/-- A flow context (R347). -/
structure Flow where
  key : BitVec 96 := 0
  ctl : W32 := 0
  map : W32 := 0
  tag : W32 := 0
  repl : W32 := 0
  pol : W32 := 0
  cir : W32 := 0
  pir : W32 := 0
  pbs : W32 := 0
  keySlot : Nat := 0
  tc : Int := 0
  tp : Int := 0
  tcRem : Nat := 0                -- parts of a byte in the buckets, in 1/8,000,000 (R355)
  tpRem : Nat := 0
  tUpd : Option Nat := none       -- T_UPD; none is the time of the last sweep (R354)
  fsn : Nat := 0
  moveFsn : Nat := 0
  moveActive : Bool := false
  oldEng : Nat := 0
  oldCid : Nat := 0
  lastSec : Nat := 0
  pkts : Nat := 0
  bytes : Nat := 0
  dropRed : Nat := 0
  dropYel : Nat := 0
  dropQfull : Nat := 0
  dropDram : Nat := 0
  dropCtr : Nat := 0
  dropFrame : Nat := 0
  poison : Bool := false          -- the context's words read as POISON (R353)
  second : Bool := false          -- its entry in the key index lies in the bucket of the second hash (R345)
  deriving DecidableEq, Repr

/-- An ingress packet on its way through FLOW. -/
structure InPkt where
  port : Nat
  bytes : List Byte
  deriving DecidableEq, Repr

/-- A packet at a context: downstream from a port, or the body of an upstream unit of a container. -/
inductive FlowPkt where
  | ds (port : Nat) (bytes : List Byte)
  | us (eng : Eng) (cid : Nat) (bytes : List Byte)
  deriving DecidableEq, Repr

/-- An upstream unit after reassembly, before and after decryption (R12). -/
structure UsUnit where
  eng : Eng
  leaf : LeafId
  header : BitVec 96
  body : List Byte
  tag : List Byte
  deriving DecidableEq, Repr

/-- A packet in an egress queue (R355, R360): its flow, whether it is marked discard-eligible, and its frame body. -/
structure EgPkt where
  flow : Nat
  yellow : Bool
  body : List Byte
  deriving DecidableEq, Repr

/-- FLOW: contexts, cache, ingress and egress queues (R342 to R367). -/
structure FlowSt where
  ctx : Table Flow := []
  cache : Table (List Nat) := []     -- cached flow indexes by set, most recent first
  hits : Nat := 0                    -- lookups of this second
  misses : Nat := 0
  missPm : Nat := 0                  -- FLOW_CACHE.MISS_PM
  ingress : List InPkt := []         -- packets from CLRX
  fetch : Table (List (FlowPkt × Nat)) := []   -- packets waiting for a context, with the contexts visited before it
  reqs : Table (List BridgeReq) := []   -- context reads that DMEM has not answered, by flow index, oldest first (R24)
  usClear : List UsUnit := []        -- upstream units in clear, for the flow mapper
  egress : Table (List EgPkt) := []  -- egress queues by port
  dramUsed : Nat := 0                -- bytes written to DRAM in the present meter window
  pktUsed : Nat := 0                 -- of the present microsecond, what packets of both directions have taken, in 1/18,000 (R31, R351)
  swept : Nat := 0                   -- time of the last sweep as T_UPD has it (R354)
  badBuckets : List Nat := []        -- poisoned key-index buckets
  hashKey : BitVec 128 := 0
  movePend : Table (List QPkt) := [] -- units held by a container move, by flow
  deriving DecidableEq, Repr

/-! ## Timebase -/

/-- What a message that the PTP port sends carries beside its head (R371, R372): times are in 0.5 ps. -/
inductive PtpBody where
  | announce (cls pri2 : Nat)
  | sync (origin : Option Int)        -- none in two-step operation
  | followUp (origin : Int)
  | delayReq
  | delayResp (received : Int) (asker : BitVec 80)
  deriving DecidableEq, Repr

/-- A message that the PTP port sends: destination address, domain, and the port identity of the sender (R370, R371). -/
structure PtpFrame where
  dst : BitVec 48
  domain : Nat
  src : BitVec 80
  body : PtpBody
  deriving DecidableEq, Repr

/-- TOD servo and PTP port (R368 to R374, R382). -/
structure TodSt where
  st : Nat := 0                   -- 0 FREE, 1 ACQ, 2 LOCKED, 3 HOLDOVER
  source : Nat := 0               -- 0 none, 1 PTP, 2 PPS_IN
  portState : Nat := 0
  parent : Nat := 248             -- parent's clock class
  run : Nat := 0                  -- good offsets in a row
  badFrom : Option Nat := none    -- start of the run of offsets above 10 µs, ns
  holdExpired : Bool := false
  ofs : Int := 0                  -- TOD_OFFSET
  setHi : Nat := 0
  setLo : Nat := 0
  armed : Bool := false           -- TOD_SET_LO was written
  ppsSec : Option Nat := none     -- seconds value of the last PPS_IN pulse
  ppsOfs : Option Int := none     -- offset that the last PPS_IN edge showed, 1/16 ns, until the servo takes it
  ptpTx : List PtpFrame := []     -- messages sent, newest first
  master : Option (BitVec 80) := none   -- port identity of the master selected
  rank : List Nat := []           -- the followed master as the comparison of masters sees it (R371)
  annAge : Nat := 0               -- Announce intervals without an Announce
  t1 : Option Int := none         -- times of the delay mechanism (R371, R373) in 0.5 ps: Sync sent and received, Delay_Req sent and received
  t2 : Option Int := none
  t3 : Option Int := none
  t4 : Option Int := none
  ptpPort : Nat := 0
  ptpRole : Nat := 0
  ptpWord : W32 := 0
  ptpOn : Bool := false           -- a PTP record is in force
  latLo : Option Nat := none      -- latches of TOD_NOW_HI (R494)
  latNs : Option Nat := none
  deriving DecidableEq, Repr

/-! ## Client lanes -/

/-- Port states of R406. -/
inductive PortState where
  | disabled | waitRef | training | align | up | test
  deriving DecidableEq, Repr

/-- A client port (R406, R412). -/
structure PortSt where
  st : PortState := .disabled
  hiSer : Bool := false
  anDone : Bool := false
  page : BitVec 16 := 0           -- the base page the port advertises; 0 without auto-negotiation (R400)
  rxPam : Nat := 0                -- the PAM4 lanes with which it was in ALIGN or UP in this second (R416)
  rxNrz : Bool := false           -- it was in ALIGN or UP as an NRZ port in this second
  deriving DecidableEq, Repr

/-- The receiver of an NRZ lane (R399): its place in the synchronisation process, the good groups since a bad one, whether the last group
was an even one, the running disparity, and bits of a group not complete. -/
structure NrzRx where
  st : Nat := 0
  good : Nat := 0
  even : Bool := false
  pos : Bool := false
  tail : List Bool := []
  deriving DecidableEq, Repr

/-- A frame as CLTX sends it (R403): preamble, start-of-frame delimiter, frame and check sequence, and the octets of the gap behind it. -/
structure TxFrame where
  bytes : List Byte
  gap : Nat
  deriving DecidableEq, Repr

/-- A client lane (R408, R409, R412). -/
structure LaneSt where
  cfg : W32 := 0                  -- PRE and POL in force, taken at WAIT_REF (R414)
  signal : Bool := false
  cdr : Bool := false
  preTx : Bool := false
  preRx : Bool := false
  pTx : Nat := 0                  -- P_prev of the transmitter and of the receiver (R395)
  pRx : Nat := 0
  prbs : Bool := false
  prbsSec : Bool := false         -- the checker was locked in this second (R416)
  gen : Nat := 0                  -- register of the pattern generator (R409)
  test : List Bool := []          -- bits of the pattern it sent last
  snr : Nat := 0
  hostReq : Nat := 0              -- what the module last asked the host's transmitter for in training (R397)
  eq : List Int := []             -- the transmit equalizer's taps (R397)
  out : List Int := []            -- PAM4 levels of the frame sent last (R394)
  inp : List Nat := []            -- Gray indexes of the frame received last (R394)
  txPos : Bool := false           -- running disparity of an NRZ transmitter, positive or not (R399)
  codes : List (BitVec 10) := []  -- code groups of the frame sent last, with the gap behind it
  nrz : NrzRx := {}
  deriving DecidableEq, Repr

/-- CLTX and CLRX. -/
structure ClnSt where
  refOk : Bool := false
  ppm : Int := 0
  ports : Table PortSt := []
  lanes : Table LaneSt := []
  sent : Table (List TxFrame) := []   -- frames sent by port, newest first
  buf : List InPkt := []          -- frames held in the ingress buffers while FLOW is in QUIESCE (R404)
  deriving DecidableEq, Repr

/-! ## Security -/

/-- Key slot states of R434. -/
inductive SlotState where
  | empty | one | two | erasing
  deriving DecidableEq, Repr

/-- One generation of a key slot (R432, R437, R438). -/
structure Gen where
  share : BitVec 256 := 0         -- the key as two shares, x ⊕ m and m (R444)
  mask : BitVec 256 := 0
  hShare : BitVec 128 := 0        -- the hash subkey as two shares
  hMask : BitVec 128 := 0
  salt : W32 := 0
  ctr : Nat := 0                  -- encryption counter, or last accepted value + 1
  ck : Nat := 0                   -- last checkpoint
  deriving DecidableEq, Repr

/-- A generation as the Banker keeps it (R432), the key as two shares, x ⊕ m and m (R444). -/
structure BankKey where
  share : BitVec 256 := 0
  mask : BitVec 256 := 0
  salt : W32 := 0
  deriving DecidableEq, Repr

/-- A key slot (R430 to R434): the Banker's generations, and the copies of them that CRYP works with. -/
structure KeySlot where
  st : SlotState := .empty
  gen : Nat := 0
  bank : BankKey := {}
  bankOld : BankKey := {}
  cur : Gen := {}
  old : Gen := {}
  newSeen : Bool := false         -- the first good unit of the new parity was seen
  want : Option Nat := none       -- a pending rekey and its trigger
  deriving DecidableEq, Repr

/-- A group-key change in progress (R453). -/
structure GrpKey where
  want : Bool := false            -- a membership ended: a new key is due
  epoch : Nat := 0
  key : BitVec 256 := 0
  salt : W32 := 0
  wait : List Nat := []           -- members whose acknowledgement is awaited
  busy : Bool := false
  deriving DecidableEq, Repr

/-- What waits for the Banker (R429, R450, R453, R454): an exchange or a group key for a leaf, an erase of a slot, a rekey of a slot or a change
of its group's key, the end of such a change, and the hash key of R345. -/
inductive KeyWait where
  | exchange (e : Eng) (l : Nat)
  | deliver (e : Eng) (l : Nat)
  | erase (k : Nat)
  | rekey (k : Nat)
  | finish (e : Eng) (g : Nat)
  | hashKey
  deriving DecidableEq, Repr

/-- An armed life-cycle sequence (R424). -/
inductive LcArm where
  | none | return | void | returnGo | voidGo
  deriving DecidableEq, Repr

/-- The state of a CTR_DRBG (R426), and the requests since it was seeded. -/
structure Drbg where
  key : BitVec 256 := 0
  v : BitVec 128 := 0
  cnt : Nat := 0
  deriving DecidableEq, Repr

/-- KEY and CRYP. -/
structure SecSt where
  shakerOk : Bool := false
  fails : List Nat := []          -- module times of the health failures of the last second
  restarts : Nat := 0
  draws : Nat := 0                -- blocks of 128 raw bits the noise source has given, over all starts
  drbg : Drbg := {}               -- the central DRBG (R426)
  lanes : Table Drbg := []        -- the lane DRBGs
  blocks : Table (BitVec 128 × BitVec 128) := []   -- the present block of each lane, x ⊕ m and m (R444)
  laneNo : Nat := 0               -- units that have entered a lane
  slots : Table KeySlot := []
  grp : Table GrpKey := []        -- by 2,048 × engine + group
  prov : Table W32 := []          -- SEC_PROV_HASH words
  arm : LcArm := .none
  armAt : Nat := 0
  anchor : List Byte := []        -- ANCHOR_PUB of the image in force
  hub : List Byte := []           -- hub chain in use
  icLat : Table (Option Nat) := []     -- latches of SEC_SLOT_IC low words, by slot (R494)
  usIn : List UsUnit := []        -- upstream units on their way to CRYP
  waits : List KeyWait := []      -- what waits for the Banker, in the order it arose (R429)
  deriving DecidableEq, Repr

/-! ## Memories -/

/-- Shared SRAM, DRAM services and the host scratchpad (R461 to R479). -/
structure MemSt where
  place : Table (Option Nat) := []     -- place of a bank in the bank lists, where a move has changed it (R466, R467)
  sram : Table Nat := []               -- what a bank holds: 0 zeros, else the number of its contents (R466, R472)
  move : Option (Nat × Nat) := none    -- SRC and DST of the move in progress
  moveWords : Nat := 0
  eccRegion : Nat := 0
  eccAddr : Nat := 0
  bgt : Option (Nat × Nat) := none     -- borrowed bank and first word
  lap : Table Nat := []                -- MEM_LAP_r
  scratch : Table (Option Byte) := []  -- scratchpad bytes written; none: never written
  poisoned : List (Nat × Nat) := []    -- (region, word) known uncorrectable until written
  deriving DecidableEq, Repr

/-! ## Management -/

/-- Status codes of R490. -/
inductive Status where
  | ok | busy | retry | errAddr | errAccess | errRange | errState | poison | collided
  deriving DecidableEq, Repr

/-- One kind of in-band interrupt (R506 to R509). -/
structure Ibi where
  pending : Bool := false
  requested : Bool := false       -- sent and not NACKed since, awaiting collection
  lastAt : Option Nat := none     -- module time of the previous IBI of the kind
  retry : Bool := false           -- NACKed: requested again at the next bus-free condition (R509)
  deriving DecidableEq, Repr

/-- The pending read of R488 and R489. -/
structure PendRead where
  adr : Nat
  len : Nat
  fetched : Bool := false
  head : Nat := 0                 -- EVT_HEAD at the fetch, for COLLIDED
  status : Status := .ok
  data : List Byte := []
  reqs : List BridgeReq := []     -- the requests it made of other islands (R24)
  deriving DecidableEq, Repr

/-- The I3C target, interrupts and the event ring (R482 to R522). -/
structure Mgt where
  da : Option (BitVec 7) := none
  ibiEn : Bool := false
  ibiOff : Bool := false          -- DISEC has disabled IBIs (R510)
  evCrit : Bool := false          -- the pending EVENT has a record of block 0x02 or 0x03
  nacks : Nat := 0
  ibiTry : Bool := false          -- the last IBI requested has not been NACKed
  evCount : Nat := 0              -- records of enabled blocks since the last collection
  mwl : Nat := 262
  mrl : Nat := 257
  hdr : Bool := false             -- in HDR-DDR
  arm : Option Byte := none       -- RSTACT
  protoErr : Bool := false
  wCode : Status := .ok
  wWords : Nat := 0
  wSeq : Nat := 0
  lastWrite : Bool := false       -- the latest command was 0x01
  badCmd : Bool := false          -- the latest command byte was unknown (R490)
  rd : Option PendRead := none
  reply : List Byte := []         -- bytes of the last private read
  cccReply : List Byte := []      -- bytes of the last direct GET CCC
  cccAck : Bool := false
  ibiOut : List Byte := []        -- payload of the last IBI
  ev : Ibi := {}
  fl : Ibi := {}
  head : Nat := 0                 -- EVT_HEAD
  ring : Table (Option EvtRec) := []
  ibiHead : Nat := 0              -- EVT_IBI_HEAD
  headLat : Option Nat := none    -- latch of EVT_HEAD_LO (R494)
  brxLat : Table (Option (BurstRec × List Nat)) := []  -- latched BRX_LAST records and their unread words, by 32 × engine + subcarrier
  prev : List EvtRec := []        -- records of the last shutdown
  prevValid : Bool := false
  deriving DecidableEq, Repr

/-! ## Update, counters, self-test -/

/-- Update states of R545. -/
inductive UpdState where
  | idle | verifying | verified | applying | trial | committing | rollingBack | failed
  deriving DecidableEq, Repr

/-- A section descriptor (R541). -/
structure Section where
  isl : Nat
  kind : Nat
  hard : Bool
  ofs : Nat
  len : Nat
  hash : List Byte
  deriving DecidableEq, Repr

/-- Firmware update (R539 to R549). -/
structure UpdSt where
  st : UpdState := .idle
  err : Nat := 0
  isl : Nat := 0
  stage : Table Byte := []        -- bytes of the staging window; 0 until written
  marks : Table Bool := []        -- 64-byte words written since the last CLEAR
  ver : W32 := 0
  len : Nat := 0
  arb : Nat := 0
  arbCommit : Bool := false
  sections : List Section := []
  copy : List Byte := []          -- the verified package, in the staging region beyond the window (R542)
  todo : List Isl := []           -- islands left to update or roll back
  done : Nat := 0                 -- UPD_DONE
  trialEnd : Option Nat := none   -- end of the trial timer, ns
  expired : Bool := false
  rollFrom : Nat := 0             -- island at failure
  tabs : List TabChange := []     -- changes of DSP and datapath tables, latest last (R543)
  deriving DecidableEq, Repr

/-- Occurrences in a second of an event whose record tells how many there were: object IDs of two kinds that coincide differ above
bit 31. -/
structure SecSum where
  isl : Isl
  code : Nat
  obj : Nat
  n : Nat
  deriving DecidableEq, Repr

/-- The Tally (R552 to R566). -/
structure TallySt where
  sums : List SecSum := []        -- occurrences in this second that events report at its end
  acc : Table Nat := []           -- accumulators by cell address
  latched : Table Nat := []       -- values latched at the last second boundary or step
  totals : Table Nat := []        -- by 16 × set + index
  second : Nat := 0               -- the second latched last
  latStep : Bool := false         -- the latched cells carry STEP
  latFenced : List Nat := []      -- island rows whose latched cells carry FENCED
  latChain : Table Nat := []      -- chain masks of the latched second
  stepNext : Bool := false        -- the next cells carry STEP too (R557)
  fenced : List Nat := []         -- island rows fenced at some time in this second
  chain : Table Nat := []         -- TALLY_CHAIN_s in force since a second boundary
  mode : Table Nat := []          -- TALLY_MODE_s in force since a second boundary
  modeReg : Table Nat := []       -- TALLY_MODE_s as written
  deriving DecidableEq, Repr

/-- Self-test and shutdown (R567 to R581). -/
structure BistSt where
  st : Nat := 0                   -- 0 RUN, 1 STOPPING, 2 TESTING, 3 RECORDING
  phase : Nat := 0                -- phase of R568 in progress
  req : Option Nat := none        -- a request waiting for a fence to end: 0 SHDN_N, 1 test, 2 no test
  cause : Nat := 0
  suite : Nat := 0
  acceptAt : Nat := 0
  suiteAt : Nat := 0
  quick : Bool := false           -- the suite running is the quick suite
  todo : List Nat := []           -- tests left
  entries : List TestEntry := []
  peak : Nat := 0
  durMs : Nat := 0
  last : Option TestRec := none   -- record read at start
  quickRec : Option TestRec := none
  quickFailed : Nat := 0          -- BIST_QUICK.FAILED_GROUPS
  quickOverall : Nat := 0
  deriving DecidableEq, Repr

/-- The protection controller (R283 to R292). -/
structure Aps where
  work : Option Eng := none       -- working engine
  st : Nat := 0                   -- 0 STEADY, 1 WTR, 2 SWITCHING, 3 SETTLING
  lo : Bool := false
  fs : Option Eng := none
  ms : Option Eng := none
  dnr : Bool := false
  own : Option (Nat × Nat) := none   -- request and source of a switch in progress that no row of R284 asks for
  back : Bool := false            -- an FS or MS away from H was cleared (R285)
  rampNs : Nat := 0               -- length of the ramps of the switch in progress (R293)
  target : Option Eng := none     -- engine becoming working
  planned : Bool := false
  rampOn : Bool := false          -- the new booster ramps on
  notice : Bool := false          -- the planned notice is being sent
  since : Nat := 0                -- SWITCHING entered, ns
  moved : Bool := false           -- an SF or SD moved traffic from the home engine
  turns : Nat := 0                -- turns of the pair that have begun (R295)
  req : Nat := 0                  -- request in force, REQ code
  source : Nat := 0
  wtrEnd : Nat := 0
  reqEng : Option Eng := none     -- engine the request in force names
  ofs : Int := 0
  dup : Int := 0
  errs : List (Nat × Int) := []   -- leaf and landing error of the good bursts since full power, newest first
  lastUs : Nat := 0
  updEng : Option Eng := none     -- the switch belongs to step 1 of R536
  deriving DecidableEq, Repr

/-! ## The whole block -/

/-- The state of the block (plain data). -/
structure State where
  pending : List Instr := []      -- commands waiting, first in first out
  free : Nat := 0                 -- the model's own counter of free values
  status : Status := .ok          -- the status the last host write returned
  got : W32 := 0                  -- the word the last read of a single word gave
  pwr : Power := {}
  pins : Pins := {}
  clk : Clock := {}
  fuse : Fuses := {}
  flash : Flash := {}
  boot : Boot := {}
  regs : Table W32 := []          -- setting words (RW, LIVE and IMG) by address
  flags : Table W32 := []         -- W1C flag words by address
  rsc : Table Nat := []           -- re-set counts by 32 × address + bit
  seenTurn : List (Nat × Nat × Nat) := []  -- (code, object, turn) of events limited to one a turn
  seenSec : List (Nat × Nat) := []         -- (code, object) of events raised in this second
  isls : Table IslSt := []        -- by row of R17
  engA : EngSt := {}
  engB : EngSt := {}
  aps : Aps := {}
  leaves : Table Leaf := []       -- by 4,096 × engine + LEAF ID
  ssets : Table Sset := []        -- by 512 × engine + slot set
  ctrs : Table Ctr := []          -- by 32,768 × engine + CID
  flow : FlowSt := {}
  tod : TodSt := {}
  cln : ClnSt := {}
  sec : SecSt := {}
  mem : MemSt := {}
  mgt : Mgt := {}
  upd : UpdSt := {}
  tally : TallySt := {}
  bist : BistSt := {}
  deriving DecidableEq, Repr

/-- Right after reset: the part as it comes, with no feed mated, no fuse blown and every register at its reset value
(notes/assumptions/3.md and 4.md name the values the spec does not give). -/
def State.reset : State := {}

/-- Why a step could fault. The block has no command whose effect the spec gives as a stop, so no meaning raises one; the
constructor stands for an operand the table does not have and is raised by none of the meanings (safe). -/
inductive Fault where
  /-- Raised by no meaning: reserved for a command outside the table (safe: it would stop where the block cannot be asked). -/
  | noSuchCommand
  deriving DecidableEq, Repr

/-- Why a step is refused. -/
inductive Refusal where
  /-- Raised by exec's arm of a command that has no meaning yet (safe: the model stops where the block goes on). -/
  | notModelled (mnemonic : String)
  deriving DecidableEq, Repr

/-- The outcome of one command. -/
abbrev Out := Host.Outcome State Fault Refusal

end Sys2Proof.Machine
end

