-- ==== Sys2Proof/Machine/Table.lean ====
section
/-! DEFINITION. Reading and writing the sparse tables that hold every indexed piece of state, in one canonical form. -/

namespace Sys2Proof.Machine

/-- The entry of index `k`, or the collection's default. -/
def tget {α : Type} (d : α) : Table α → Nat → α
  | [], _ => d
  | (a, v) :: t, k => if a = k then v else tget d t k

/-- Remove the entry of an index. -/
def tdel {α : Type} : Table α → Nat → Table α
  | [], _ => []
  | (a, v) :: t, k => if a = k then tdel t k else (a, v) :: tdel t k

/-- Put an entry at its place in the rising order. -/
def tput {α : Type} : Table α → Nat → α → Table α
  | [], k, v => [(k, v)]
  | (a, w) :: t, k, v =>
    if k < a then (k, v) :: (a, w) :: t
    else if k = a then (k, v) :: t
    else (a, w) :: tput t k v

/-- Write an entry; writing the default removes it, so that equal collections are equal lists. -/
def tset {α : Type} [DecidableEq α] (d : α) (t : Table α) (k : Nat) (v : α) : Table α :=
  if v = d then tdel t k else tput t k v

/-- Indexes rise strictly from above `lo`. -/
def tasc {α : Type} : Option Nat → Table α → Bool
  | _, [] => true
  | none, (a, _) :: t => tasc (some a) t
  | some b, (a, _) :: t => b < a && tasc (some a) t

/-- The canonical form: indexes rise strictly, and no listed entry is the default. -/
def twf {α : Type} [DecidableEq α] (d : α) (t : Table α) : Bool :=
  tasc none t && t.all (fun p => p.2 ≠ d)

/-- The canonical form of a table whose default depends on the index (register words and their reset values). -/
def twfBy {α : Type} [DecidableEq α] (d : Nat → α) (t : Table α) : Bool :=
  tasc none t && t.all (fun p => p.2 ≠ d p.1)

end Sys2Proof.Machine
end

