-- ==== Sys2Proof/Machine/RegMap.lean ====
section
/-! DEFINITION. The register map of R497 and of the chapters' register tables: where every register lies, its access
class under R9, its writable and defined bits, its reset value and the ranges of its fields. -/

namespace Sys2Proof.Machine

/-- The registers, one name per row of the register tables (R75, R114, R152, R195, R244, R245, R292, R336, R380, R382,
R412, R456, R457, R479, R500, R521, R549, R565, R581, R593). The leaf table, the flow contexts, the Tally cells, the
event ring and the byte windows are not in this list. `apsAbsent` is the span of R292 that engine B's block lacks. -/
inductive Reg where
  | idPart | idVariant | idPidHi | idPidLo | idSerial | idMacHi | idMacLo | idFw | idLc | pwrFeedA | pwrFeedB
  | pwrIn | pwrStatus | pwrFlags | pwrRsc | pwrCap | pwrDroopCfg | pwrThermCfg | pwrTempCase | pwrTempLsrA
  | pwrTempLsrB | pwrIsl | bootStatus | bootImgErr | bootImgErr2 | bootEngErr | bootImgVer | bootImgLen
  | bootArb | bootNvmMode | bootImgSkipped | bootTime | bootTimeTr | bootImgDigest | bootFlags | bootRsc
  | bootCtl | flowQcfg | flowLeafq | flowEgq | flowMove | flowCount | flowCache | flowFlags | flowRsc
  | flowPort | flowPortCnt | todStatus | todCfg | todHold | todSetHi | todSetLo | todNowHi | todNowLo
  | todNowNs | todOffset | todPtpAsym | todLeafAsym | todFlags | todRsc | mgtWstat | mgtI3c | mgtLimits
  | mgtIbi | mgtPinCfg | mgtFault | mgtAlert | mgtFlags | mgtRsc | evtHeadHi | evtHeadLo | evtIbiHead | evtPrev
  | evtEpoch | evtLost | dsGrpEn | dsGrpFmt | dsRamp | dsFrame | dsGrpState | dsTx | dsAis | dsRdi | dsFlags
  | dsRsc | dsSc | dsOptTx | dsOptState | dsOptFlags | dsOptRsc | usTreeDs | usTreeUs | usTreeCd | usTreeReach
  | usFeCfg | usFeGainX | usFeGainY | usGd | usFlags | usRsc | usScDly | usScNco | usDet | brxCfg | brxAgc
  | brxSeed | brxFlags | brxRsc | brxSc | brxLast | frmDefCfg | frmDefStatus | frmDefLeaves | frmFlags | frmRsc
  | apsCfg | apsRamp | apsCmd | apsStatus | apsOfs | apsDup | apsLast | apsAbsent | frmSset | frmLeaf | frmCtr
  | schedCfg | schedQuiet | schedPwr | schedRng | schedReg | schedAge | schedZ | schedEqdDisc | schedSqLen
  | schedTurn | schedLeaves | schedFlags | schedRsc | schedProf0 | schedProf1 | schedProf2 | schedProf3
  | calCfg | calCtl | calStatus | calTlast | calFeDly | calRec | calFlags | calRsc | calIq | calTx | calSc
  | calIlv | clnCfg | clnStatus | clnFlags | clnRsc | clnGrp | clnPort | clnPortSt | clnLane | clnLaneSt
  | secStatus | secCfg | secKeyCmd | secFlags | secRsc | secDevPub | secKeyhash | secProvHash | secProvCmd
  | secLcCmd | secAnchor | secSlot | secSlotIc | secLeaf | memStatus | memScrub | memBgt | memScratch | memMove
  | memMoveSt | memEccAddr | memFlags | memRsc | memBank | memLap | tallyStatus | tallyCtl | tallyFlags
  | tallyRsc | tallySet | tallyChain | tallyMode | updCtl | updStatus | updCfg | updPkgVer | updPkgLen
  | updSect | updHard | updDone | updFlags | updRsc | updEngCtl | updEngSt | updIsl | updStale | bistCtl
  | bistCfg | bistStatus | bistLast | bistQuick | bistFlags | bistRsc | bistPrevRec | bistQuickRec
  deriving DecidableEq, Repr

/-- Access class of a register word (R9): read only, write only, a stored setting, a W1C flag word with its number of
flags, a re-set count word, or a word whose owner composes and checks it. -/
inductive RegCls where
  | ro | wo | setting | flags (n : Nat) | rsc | own
  deriving DecidableEq, Repr

/-- Where a row applies: the whole module, both engine windows, or the window of one engine (R292). -/
inductive RegScope where
  | module | engine | onlyA | onlyB
  deriving DecidableEq, Repr

/-- The legal range of a field of a setting. -/
structure FldRange where
  hi : Nat
  lo : Nat
  min : Int
  max : Int
  signed : Bool := false
  deriving DecidableEq, Repr

/-- A row of the register map: `count` elements `stride` bytes apart, each of `words` words from `base`, which is the
address, or the offset from the engine base. -/
structure RegRow where
  scope : RegScope
  base : Nat
  stride : Nat := 4
  count : Nat := 1
  words : Nat := 1
  cls : RegCls := .ro
  wmask : W32 := 0
  mask : W32 := 0
  reset : W32 := 0
  ranges : List FldRange := []
  deriving DecidableEq, Repr

/-- The rows of the map. -/
def Reg.row : Reg → RegRow
  | .idPart => { scope := .module, base := 0x00000000 }
  | .idVariant => { scope := .module, base := 0x00000004 }
  | .idPidHi => { scope := .module, base := 0x00000008 }
  | .idPidLo => { scope := .module, base := 0x0000000C }
  | .idSerial => { scope := .module, base := 0x00000010, count := 4 }
  | .idMacHi => { scope := .module, base := 0x00000020 }
  | .idMacLo => { scope := .module, base := 0x00000024 }
  | .idFw => { scope := .module, base := 0x00000028 }
  | .idLc => { scope := .module, base := 0x00000040 }
  | .pwrFeedA => { scope := .module, base := 0x01000000 }
  | .pwrFeedB => { scope := .module, base := 0x01000004 }
  | .pwrIn => { scope := .module, base := 0x01000008 }
  | .pwrStatus => { scope := .module, base := 0x0100000C }
  | .pwrFlags => { scope := .module, base := 0x01000010, cls := .flags 11 }
  | .pwrRsc => { scope := .module, base := 0x01000014, count := 3, cls := .rsc }
  | .pwrCap => { scope := .module, base := 0x01000020, cls := .setting, wmask := 0xFF, mask := 0xFF, reset := 175, ranges := [⟨7, 0, 120, 175, false⟩] }
  | .pwrDroopCfg => { scope := .module, base := 0x01000024, cls := .setting, wmask := 0x03FF000F, mask := 0x03FF000F, reset := 0x00640004, ranges := [⟨3, 0, 2, 8, false⟩, ⟨25, 16, 1, 1000, false⟩] }
  | .pwrThermCfg => { scope := .module, base := 0x01000028, cls := .setting, wmask := 0xFF, mask := 0xFF, reset := 85, ranges := [⟨7, 0, 70, 90, false⟩] }
  | .pwrTempCase => { scope := .module, base := 0x01000040 }
  | .pwrTempLsrA => { scope := .module, base := 0x01000044 }
  | .pwrTempLsrB => { scope := .module, base := 0x01000048 }
  | .pwrIsl => { scope := .module, base := 0x01000100, count := 64 }
  | .bootStatus => { scope := .module, base := 0x02000000 }
  | .bootImgErr => { scope := .module, base := 0x02000004 }
  | .bootImgErr2 => { scope := .module, base := 0x02000008 }
  | .bootEngErr => { scope := .module, base := 0x0200000C }
  | .bootImgVer => { scope := .module, base := 0x02000010 }
  | .bootImgLen => { scope := .module, base := 0x02000014 }
  | .bootArb => { scope := .module, base := 0x02000018 }
  | .bootNvmMode => { scope := .module, base := 0x0200001C }
  | .bootImgSkipped => { scope := .module, base := 0x02000020 }
  | .bootTime => { scope := .module, base := 0x02000024 }
  | .bootTimeTr => { scope := .module, base := 0x02000028 }
  | .bootImgDigest => { scope := .module, base := 0x02000030, count := 8 }
  | .bootFlags => { scope := .module, base := 0x02000050, cls := .flags 7 }
  | .bootRsc => { scope := .module, base := 0x02000054, count := 2, cls := .rsc }
  | .bootCtl => { scope := .module, base := 0x02000060, cls := .wo }
  | .flowQcfg => { scope := .module, base := 0x03000000, cls := .setting, wmask := 0x007FFFFF, mask := 0x007FFFFF, reset := 0x00320800, ranges := [⟨15, 0, 64, 65535, false⟩, ⟨22, 16, 10, 100, false⟩] }
  | .flowLeafq => { scope := .module, base := 0x03000004, cls := .setting, wmask := 0x0007FFFF, mask := 0x0007FFFF, reset := 8192, ranges := [⟨18, 0, 64, 262144, false⟩] }
  | .flowEgq => { scope := .module, base := 0x03000008, cls := .setting, wmask := 0x7FFF, mask := 0x7FFF, reset := 1024, ranges := [⟨14, 0, 64, 16384, false⟩] }
  | .flowMove => { scope := .module, base := 0x0300000C, cls := .setting, wmask := 0xFFFF, mask := 0xFFFF, reset := 1000, ranges := [⟨15, 0, 10, 60000, false⟩] }
  | .flowCount => { scope := .module, base := 0x03000010 }
  | .flowCache => { scope := .module, base := 0x03000014 }
  | .flowFlags => { scope := .module, base := 0x03000020, cls := .flags 4 }
  | .flowRsc => { scope := .module, base := 0x03000024, cls := .rsc }
  | .flowPort => { scope := .module, base := 0x03000100, count := 32, cls := .setting, wmask := 0x8FFFFF0F, mask := 0x8FFFFF0F, reset := 0, ranges := [⟨3, 0, 0, 4, false⟩] }
  | .flowPortCnt => { scope := .module, base := 0x03000200, count := 32 }
  | .todStatus => { scope := .module, base := 0x04000000 }
  | .todCfg => { scope := .module, base := 0x04000004, cls := .setting, wmask := 0xFF0FFFFF, mask := 0xFF0FFFFF, reset := 0xF80003E8, ranges := [⟨19, 0, 50, 1000000, false⟩] }
  | .todHold => { scope := .module, base := 0x04000008, cls := .setting, wmask := 0xFFFF, mask := 0xFFFF, reset := 1000, ranges := [⟨15, 0, 10, 65535, false⟩] }
  | .todSetHi => { scope := .module, base := 0x0400000C, cls := .wo }
  | .todSetLo => { scope := .module, base := 0x04000010, cls := .wo }
  | .todNowHi => { scope := .module, base := 0x04000014 }
  | .todNowLo => { scope := .module, base := 0x04000018 }
  | .todNowNs => { scope := .module, base := 0x0400001C }
  | .todOffset => { scope := .module, base := 0x04000020 }
  | .todPtpAsym => { scope := .module, base := 0x04000024, cls := .setting, wmask := 0xFFFFFFFF, mask := 0xFFFFFFFF, reset := 0 }
  | .todLeafAsym => { scope := .module, base := 0x04000028, cls := .setting, wmask := 0xFFFFFFFF, mask := 0xFFFFFFFF, reset := 0 }
  | .todFlags => { scope := .module, base := 0x04000030, cls := .flags 4 }
  | .todRsc => { scope := .module, base := 0x04000034, cls := .rsc }
  | .mgtWstat => { scope := .module, base := 0x05000000 }
  | .mgtI3c => { scope := .module, base := 0x05000004 }
  | .mgtLimits => { scope := .module, base := 0x05000008 }
  | .mgtIbi => { scope := .module, base := 0x0500000C, cls := .setting, wmask := 0x3FFFFFFF, mask := 0x3FFFFFFF, reset := 0x0064FFFC, ranges := [⟨29, 16, 10, 10000, false⟩] }
  | .mgtPinCfg => { scope := .module, base := 0x05000010, cls := .setting, wmask := 1, mask := 1, reset := 1 }
  | .mgtFault => { scope := .module, base := 0x05000014 }
  | .mgtAlert => { scope := .module, base := 0x05000018 }
  | .mgtFlags => { scope := .module, base := 0x05000020, cls := .flags 4 }
  | .mgtRsc => { scope := .module, base := 0x05000024, cls := .rsc }
  | .evtHeadHi => { scope := .module, base := 0x05000100 }
  | .evtHeadLo => { scope := .module, base := 0x05000104 }
  | .evtIbiHead => { scope := .module, base := 0x05000108 }
  | .evtPrev => { scope := .module, base := 0x0500010C }
  | .evtEpoch => { scope := .module, base := 0x05000110 }
  | .evtLost => { scope := .module, base := 0x05000200, count := 64 }
  | .dsGrpEn => { scope := .engine, base := 0x00000000, cls := .setting, wmask := 0xFF, mask := 0xFF, reset := 0xFF }
  | .dsGrpFmt => { scope := .engine, base := 0x00000004, cls := .setting, wmask := 0x00FFFFFF, mask := 0x00FFFFFF, reset := 0x006DB6DB }
  | .dsRamp => { scope := .engine, base := 0x00000008, cls := .setting, wmask := 0x000003FF, mask := 0x007F03FF, reset := 0x000A0064, ranges := [⟨9, 0, 1, 1000, false⟩] }
  | .dsFrame => { scope := .engine, base := 0x0000000C }
  | .dsGrpState => { scope := .engine, base := 0x00000010 }
  | .dsTx => { scope := .engine, base := 0x00000014 }
  | .dsAis => { scope := .engine, base := 0x00000018 }
  | .dsRdi => { scope := .engine, base := 0x0000001C }
  | .dsFlags => { scope := .engine, base := 0x00000020, cls := .flags 4 }
  | .dsRsc => { scope := .engine, base := 0x00000024, cls := .rsc }
  | .dsSc => { scope := .engine, base := 0x00000040, count := 32 }
  | .dsOptTx => { scope := .engine, base := 0x00000100 }
  | .dsOptState => { scope := .engine, base := 0x00000104 }
  | .dsOptFlags => { scope := .engine, base := 0x00000110, cls := .flags 2 }
  | .dsOptRsc => { scope := .engine, base := 0x00000114, cls := .rsc }
  | .usTreeDs => { scope := .engine, base := 0x01000000, cls := .setting, wmask := 0, mask := 0xFFFFFFFF, reset := 0 }
  | .usTreeUs => { scope := .engine, base := 0x01000004, cls := .setting, wmask := 0, mask := 0xFFFFFFFF, reset := 0 }
  | .usTreeCd => { scope := .engine, base := 0x01000008, cls := .setting, wmask := 0, mask := 0xFFFF, reset := 0 }
  | .usTreeReach => { scope := .engine, base := 0x0100000C, cls := .setting, wmask := 0, mask := 0xFFFFFFFF, reset := 0 }
  | .usFeCfg => { scope := .engine, base := 0x01000010, cls := .setting, wmask := 0x1F00, mask := 0x1F01, reset := 0x0E00, ranges := [⟨12, 8, 8, 20, false⟩] }
  | .usFeGainX => { scope := .engine, base := 0x01000014 }
  | .usFeGainY => { scope := .engine, base := 0x01000018 }
  | .usGd => { scope := .engine, base := 0x0100001C }
  | .usFlags => { scope := .engine, base := 0x01000020, cls := .flags 2 }
  | .usRsc => { scope := .engine, base := 0x01000024, cls := .rsc }
  | .usScDly => { scope := .engine, base := 0x01000100, count := 32 }
  | .usScNco => { scope := .engine, base := 0x01000200, count := 32 }
  | .usDet => { scope := .engine, base := 0x01000400, stride := 16, count := 32, words := 3 }
  | .brxCfg => { scope := .engine, base := 0x02000000, cls := .setting, wmask := 0x0F0F011F, mask := 0x0F0F011F, reset := 0x0806010A, ranges := [⟨4, 0, 0, 16, false⟩, ⟨19, 16, 3, 12, false⟩, ⟨27, 24, 3, 15, false⟩] }
  | .brxAgc => { scope := .engine, base := 0x02000004, cls := .setting, wmask := 0xF, mask := 0xF, reset := 12, ranges := [⟨3, 0, 3, 15, false⟩] }
  | .brxSeed => { scope := .engine, base := 0x02000008, cls := .setting, wmask := 0xFFFF, mask := 0xFFFF, reset := 2000, ranges := [⟨15, 0, 1, 60000, false⟩] }
  | .brxFlags => { scope := .engine, base := 0x02000010, cls := .flags 6 }
  | .brxRsc => { scope := .engine, base := 0x02000014, count := 2, cls := .rsc }
  | .brxSc => { scope := .engine, base := 0x02000100, count := 32 }
  | .brxLast => { scope := .engine, base := 0x02001000, stride := 32, count := 32, words := 8 }
  | .frmDefCfg => { scope := .engine, base := 0x03000000, cls := .setting, wmask := 0x7FFF, mask := 0x7FFF, reset := 0x000032DD, ranges := [⟨7, 0, -45, -15, true⟩, ⟨14, 8, 10, 100, false⟩] }
  | .frmDefStatus => { scope := .engine, base := 0x03000004 }
  | .frmDefLeaves => { scope := .engine, base := 0x03000008, count := 2 }
  | .frmFlags => { scope := .engine, base := 0x03000020, cls := .flags 9 }
  | .frmRsc => { scope := .engine, base := 0x03000024, count := 3, cls := .rsc }
  | .apsCfg => { scope := .onlyA, base := 0x03000800, cls := .setting, wmask := 0x03FF7F17, mask := 0x03FF7F17, reset := 0x012C0013, ranges := [⟨2, 0, 2, 7, false⟩, ⟨14, 8, 0, 100, false⟩, ⟨25, 16, 10, 720, false⟩] }
  | .apsRamp => { scope := .onlyA, base := 0x03000804, cls := .setting, wmask := 0x3FFF, mask := 0x3FFF, reset := 1000, ranges := [⟨13, 0, 100, 10000, false⟩] }
  | .apsCmd => { scope := .onlyA, base := 0x03000808, cls := .wo }
  | .apsStatus => { scope := .onlyA, base := 0x0300080C }
  | .apsOfs => { scope := .onlyA, base := 0x03000810 }
  | .apsDup => { scope := .onlyA, base := 0x03000814 }
  | .apsLast => { scope := .onlyA, base := 0x03000818 }
  | .apsAbsent => { scope := .onlyB, base := 0x03000800, count := 7 }
  | .frmSset => { scope := .engine, base := 0x03008000, stride := 64, count := 512, words := 9, cls := .own }
  | .frmLeaf => { scope := .engine, base := 0x03020000, count := 4096 }
  | .frmCtr => { scope := .engine, base := 0x03100000, stride := 16, count := 32768, words := 3, cls := .own }
  | .schedCfg => { scope := .engine, base := 0x04000000, cls := .setting, wmask := 0x0FFF7F01, mask := 0x0FFF7F01, reset := 0x00010800, ranges := [⟨14, 8, 1, 64, false⟩, ⟨27, 16, 1, 4000, false⟩] }
  | .schedQuiet => { scope := .engine, base := 0x04000004, cls := .setting, wmask := 0x3FF, mask := 0x3FF, reset := 50, ranges := [⟨9, 0, 10, 500, false⟩] }
  | .schedPwr => { scope := .engine, base := 0x04000008, cls := .setting, wmask := 0xFFFF, mask := 0xFFFF, reset := 0x02EA, ranges := [⟨7, 0, -30, -10, true⟩, ⟨15, 8, -4, 6, true⟩] }
  | .schedRng => { scope := .engine, base := 0x0400000C, cls := .setting, wmask := 0xFFFF0FFF, mask := 0xFFFF0FFF, reset := 0x80000100, ranges := [⟨11, 0, 64, 4095, false⟩, ⟨31, 16, 4096, 65535, false⟩] }
  | .schedReg => { scope := .engine, base := 0x04000010, cls := .setting, wmask := 0x0FFF3FFF, mask := 0x0FFF3FFF, reset := 0x003C07D0, ranges := [⟨13, 0, 100, 10000, false⟩, ⟨27, 16, 0, 3600, false⟩] }
  | .schedAge => { scope := .engine, base := 0x04000014, cls := .setting, wmask := 0x3FFF0FFF, mask := 0x3FFF0FFF, reset := 0x0018000A, ranges := [⟨11, 0, 1, 3600, false⟩, ⟨29, 16, 0, 8760, false⟩] }
  | .schedZ => { scope := .engine, base := 0x04000020 }
  | .schedEqdDisc => { scope := .engine, base := 0x04000024 }
  | .schedSqLen => { scope := .engine, base := 0x04000028 }
  | .schedTurn => { scope := .engine, base := 0x0400002C }
  | .schedLeaves => { scope := .engine, base := 0x04000030 }
  | .schedFlags => { scope := .engine, base := 0x04000040, cls := .flags 8 }
  | .schedRsc => { scope := .engine, base := 0x04000044, count := 2, cls := .rsc }
  | .schedProf0 => { scope := .engine, base := 0x04001000, stride := 16, count := 1024, cls := .setting, wmask := 0xFFFFF, mask := 0xFFFFF, reset := 0, ranges := [⟨19, 0, 0, 600000, false⟩] }
  | .schedProf1 => { scope := .engine, base := 0x04001004, stride := 16, count := 1024, cls := .setting, wmask := 0xFFFFF, mask := 0xFFFFF, reset := 0, ranges := [⟨19, 0, 0, 600000, false⟩] }
  | .schedProf2 => { scope := .engine, base := 0x04001008, stride := 16, count := 1024, cls := .setting, wmask := 0xFFFFF, mask := 0xFFFFF, reset := 600000, ranges := [⟨19, 0, 1, 600000, false⟩] }
  | .schedProf3 => { scope := .engine, base := 0x0400100C, stride := 16, count := 1024, cls := .setting, wmask := 0x73FF, mask := 0x73FF, reset := 0x7201, ranges := [⟨7, 0, 1, 255, false⟩, ⟨9, 8, 0, 2, false⟩] }
  | .calCfg => { scope := .engine, base := 0x05000000, cls := .setting, wmask := 0x1F03FF1F, mask := 0x1F03FF1F, reset := 0x06006404, ranges := [⟨4, 0, 1, 16, false⟩, ⟨17, 8, 10, 1000, false⟩, ⟨28, 24, 0, 20, false⟩] }
  | .calCtl => { scope := .engine, base := 0x05000004, cls := .wo }
  | .calStatus => { scope := .engine, base := 0x05000008 }
  | .calTlast => { scope := .engine, base := 0x0500000C }
  | .calFeDly => { scope := .engine, base := 0x05000010 }
  | .calRec => { scope := .engine, base := 0x05000014 }
  | .calFlags => { scope := .engine, base := 0x05000020, cls := .flags 5 }
  | .calRsc => { scope := .engine, base := 0x05000024, count := 2, cls := .rsc }
  | .calIq => { scope := .engine, base := 0x05000040, stride := 16, count := 2, words := 2 }
  | .calTx => { scope := .engine, base := 0x05000100, count := 4 }
  | .calSc => { scope := .engine, base := 0x05000200, count := 32 }
  | .calIlv => { scope := .engine, base := 0x05001000, count := 256 }
  | .clnCfg => { scope := .module, base := 0x50000000, cls := .setting, wmask := 0x3FFF, mask := 0x3FFF, reset := 3000, ranges := [⟨13, 0, 100, 10000, false⟩] }
  | .clnStatus => { scope := .module, base := 0x50000004 }
  | .clnFlags => { scope := .module, base := 0x50000010, cls := .flags 6 }
  | .clnRsc => { scope := .module, base := 0x50000014, count := 2, cls := .rsc }
  | .clnGrp => { scope := .module, base := 0x50000040, count := 8, cls := .setting, wmask := 3, mask := 3, reset := 0 }
  | .clnPort => { scope := .module, base := 0x50000100, count := 32, cls := .setting, wmask := 0x3FFF0077, mask := 0x3FFF0077, reset := 0x25800040, ranges := [⟨29, 16, 1518, 9600, false⟩] }
  | .clnPortSt => { scope := .module, base := 0x50000200, count := 32 }
  | .clnLane => { scope := .module, base := 0x50000300, count := 32, cls := .setting, wmask := 0x133F, mask := 0x133F, reset := 0 }
  | .clnLaneSt => { scope := .module, base := 0x50000400, count := 32 }
  | .secStatus => { scope := .module, base := 0x60000000 }
  | .secCfg => { scope := .module, base := 0x60000004, cls := .setting, wmask := 0x3F, mask := 0x3F, reset := 40, ranges := [⟨5, 0, 32, 60, false⟩] }
  | .secKeyCmd => { scope := .module, base := 0x60000008, cls := .wo }
  | .secFlags => { scope := .module, base := 0x60000010, cls := .flags 8 }
  | .secRsc => { scope := .module, base := 0x60000014, count := 2, cls := .rsc }
  | .secDevPub => { scope := .module, base := 0x60000020, count := 8 }
  | .secKeyhash => { scope := .module, base := 0x60000040, count := 8 }
  | .secProvHash => { scope := .module, base := 0x60000060, count := 8, cls := .wo }
  | .secProvCmd => { scope := .module, base := 0x60000080, cls := .wo }
  | .secLcCmd => { scope := .module, base := 0x60000084, cls := .wo }
  | .secAnchor => { scope := .module, base := 0x60000088 }
  | .secSlot => { scope := .module, base := 0x60000100, count := 20480 }
  | .secSlotIc => { scope := .module, base := 0x60040000, stride := 8, count := 20480, words := 2 }
  | .secLeaf => { scope := .module, base := 0x60100000, count := 8192 }
  | .memStatus => { scope := .module, base := 0x70000000 }
  | .memScrub => { scope := .module, base := 0x70000004, cls := .setting, wmask := 0xFFFF3F03, mask := 0xFFFF3F03, reset := 0x003C2003, ranges := [⟨13, 8, 4, 40, false⟩, ⟨31, 16, 1, 3600, false⟩] }
  | .memBgt => { scope := .module, base := 0x70000008, cls := .setting, wmask := 1, mask := 1, reset := 1 }
  | .memScratch => { scope := .module, base := 0x7000000C, cls := .setting, wmask := 1, mask := 1, reset := 0 }
  | .memMove => { scope := .module, base := 0x70000010, cls := .wo }
  | .memMoveSt => { scope := .module, base := 0x70000014 }
  | .memEccAddr => { scope := .module, base := 0x70000018 }
  | .memFlags => { scope := .module, base := 0x70000020, cls := .flags 7 }
  | .memRsc => { scope := .module, base := 0x70000024, count := 2, cls := .rsc }
  | .memBank => { scope := .module, base := 0x70000100, count := 64, cls := .own }
  | .memLap => { scope := .module, base := 0x70000200, count := 16 }
  | .tallyStatus => { scope := .module, base := 0x90000000 }
  | .tallyCtl => { scope := .module, base := 0x90000008, cls := .wo }
  | .tallyFlags => { scope := .module, base := 0x90000010, cls := .flags 3 }
  | .tallyRsc => { scope := .module, base := 0x90000014, cls := .rsc }
  | .tallySet => { scope := .module, base := 0x90000104, count := 24 }
  | .tallyChain => { scope := .module, base := 0x90000204, count := 24, cls := .setting, wmask := 0x7FFF, mask := 0x7FFF, reset := 0 }
  | .tallyMode => { scope := .module, base := 0x90000304, count := 24, cls := .own }
  | .updCtl => { scope := .module, base := 0xA0000000, cls := .wo }
  | .updStatus => { scope := .module, base := 0xA0000004 }
  | .updCfg => { scope := .module, base := 0xA0000008, cls := .setting, wmask := 0x00030FFF, mask := 0x00030FFF, reset := 60, ranges := [⟨11, 0, 10, 3600, false⟩] }
  | .updPkgVer => { scope := .module, base := 0xA000000C }
  | .updPkgLen => { scope := .module, base := 0xA0000010 }
  | .updSect => { scope := .module, base := 0xA0000014 }
  | .updHard => { scope := .module, base := 0xA0000018 }
  | .updDone => { scope := .module, base := 0xA000001C }
  | .updFlags => { scope := .module, base := 0xA0000020, cls := .flags 7 }
  | .updRsc => { scope := .module, base := 0xA0000024, count := 2, cls := .rsc }
  | .updEngCtl => { scope := .module, base := 0xA0000040, cls := .wo }
  | .updEngSt => { scope := .module, base := 0xA0000044 }
  | .updIsl => { scope := .module, base := 0xA0000100, count := 64, cls := .own }
  | .updStale => { scope := .module, base := 0xA0000200, count := 64 }
  | .bistCtl => { scope := .module, base := 0xB0000000, cls := .wo }
  | .bistCfg => { scope := .module, base := 0xB0000004, cls := .setting, wmask := 1, mask := 1, reset := 0 }
  | .bistStatus => { scope := .module, base := 0xB0000008 }
  | .bistLast => { scope := .module, base := 0xB000000C }
  | .bistQuick => { scope := .module, base := 0xB0000010 }
  | .bistFlags => { scope := .module, base := 0xB0000020, cls := .flags 3 }
  | .bistRsc => { scope := .module, base := 0xB0000024, cls := .rsc }
  | .bistPrevRec => { scope := .module, base := 0xB0001000, count := 137 }
  | .bistQuickRec => { scope := .module, base := 0xB0002000, count := 137 }

/-- The registers of the window at 0x0000_0000, in map order. -/
def regs0 : List Reg :=
  [.idPart, .idVariant, .idPidHi, .idPidLo, .idSerial, .idMacHi, .idMacLo, .idFw, .idLc]

/-- The registers of the window at 0x0100_0000, in map order. -/
def regs1 : List Reg :=
  [.pwrFeedA, .pwrFeedB, .pwrIn, .pwrStatus, .pwrFlags, .pwrRsc, .pwrCap, .pwrDroopCfg, .pwrThermCfg,
   .pwrTempCase, .pwrTempLsrA, .pwrTempLsrB, .pwrIsl]

/-- The registers of the window at 0x0200_0000, in map order. -/
def regs2 : List Reg :=
  [.bootStatus, .bootImgErr, .bootImgErr2, .bootEngErr, .bootImgVer, .bootImgLen, .bootArb, .bootNvmMode,
   .bootImgSkipped, .bootTime, .bootTimeTr, .bootImgDigest, .bootFlags, .bootRsc, .bootCtl]

/-- The registers of the window at 0x0300_0000, in map order. -/
def regs3 : List Reg :=
  [.flowQcfg, .flowLeafq, .flowEgq, .flowMove, .flowCount, .flowCache, .flowFlags, .flowRsc, .flowPort,
   .flowPortCnt]

/-- The registers of the window at 0x0400_0000, in map order. -/
def regs4 : List Reg :=
  [.todStatus, .todCfg, .todHold, .todSetHi, .todSetLo, .todNowHi, .todNowLo, .todNowNs, .todOffset,
   .todPtpAsym, .todLeafAsym, .todFlags, .todRsc]

/-- The registers of the window at 0x0500_0000, in map order. -/
def regs5 : List Reg :=
  [.mgtWstat, .mgtI3c, .mgtLimits, .mgtIbi, .mgtPinCfg, .mgtFault, .mgtAlert, .mgtFlags, .mgtRsc, .evtHeadHi,
   .evtHeadLo, .evtIbiHead, .evtPrev, .evtEpoch, .evtLost]

/-- The registers of an engine block 0, in map order. -/
def regs6 : List Reg :=
  [.dsGrpEn, .dsGrpFmt, .dsRamp, .dsFrame, .dsGrpState, .dsTx, .dsAis, .dsRdi, .dsFlags, .dsRsc, .dsSc,
   .dsOptTx, .dsOptState, .dsOptFlags, .dsOptRsc]

/-- The registers of an engine block 1, in map order. -/
def regs7 : List Reg :=
  [.usTreeDs, .usTreeUs, .usTreeCd, .usTreeReach, .usFeCfg, .usFeGainX, .usFeGainY, .usGd, .usFlags, .usRsc,
   .usScDly, .usScNco, .usDet]

/-- The registers of an engine block 2, in map order. -/
def regs8 : List Reg :=
  [.brxCfg, .brxAgc, .brxSeed, .brxFlags, .brxRsc, .brxSc, .brxLast]

/-- The registers of an engine block 3, in map order. -/
def regs9 : List Reg :=
  [.frmDefCfg, .frmDefStatus, .frmDefLeaves, .frmFlags, .frmRsc, .apsCfg, .apsRamp, .apsCmd, .apsStatus,
   .apsOfs, .apsDup, .apsLast, .apsAbsent, .frmSset, .frmLeaf, .frmCtr]

/-- The registers of an engine block 4, in map order. -/
def regs10 : List Reg :=
  [.schedCfg, .schedQuiet, .schedPwr, .schedRng, .schedReg, .schedAge, .schedZ, .schedEqdDisc, .schedSqLen,
   .schedTurn, .schedLeaves, .schedFlags, .schedRsc, .schedProf0, .schedProf1, .schedProf2, .schedProf3]

/-- The registers of an engine block 5, in map order. -/
def regs11 : List Reg :=
  [.calCfg, .calCtl, .calStatus, .calTlast, .calFeDly, .calRec, .calFlags, .calRsc, .calIq, .calTx, .calSc,
   .calIlv]

/-- The registers of the window at 0x5000_0000, in map order. -/
def regs12 : List Reg :=
  [.clnCfg, .clnStatus, .clnFlags, .clnRsc, .clnGrp, .clnPort, .clnPortSt, .clnLane, .clnLaneSt]

/-- The registers of the window at 0x6000_0000, in map order. -/
def regs13 : List Reg :=
  [.secStatus, .secCfg, .secKeyCmd, .secFlags, .secRsc, .secDevPub, .secKeyhash, .secProvHash, .secProvCmd,
   .secLcCmd, .secAnchor, .secSlot, .secSlotIc, .secLeaf]

/-- The registers of the window at 0x7000_0000, in map order. -/
def regs14 : List Reg :=
  [.memStatus, .memScrub, .memBgt, .memScratch, .memMove, .memMoveSt, .memEccAddr, .memFlags, .memRsc,
   .memBank, .memLap]

/-- The registers of the window at 0x9000_0000, in map order. -/
def regs15 : List Reg :=
  [.tallyStatus, .tallyCtl, .tallyFlags, .tallyRsc, .tallySet, .tallyChain, .tallyMode]

/-- The registers of the window at 0xA000_0000, in map order. -/
def regs16 : List Reg :=
  [.updCtl, .updStatus, .updCfg, .updPkgVer, .updPkgLen, .updSect, .updHard, .updDone, .updFlags, .updRsc,
   .updEngCtl, .updEngSt, .updIsl, .updStale]

/-- The registers of the window at 0xB000_0000, in map order. -/
def regs17 : List Reg :=
  [.bistCtl, .bistCfg, .bistStatus, .bistLast, .bistQuick, .bistFlags, .bistRsc, .bistPrevRec, .bistQuickRec]

/-- Every register, in map order. -/
def allRegs : List Reg :=
  List.flatten [regs0, regs1, regs2, regs3, regs4, regs5, regs6, regs7, regs8, regs9, regs10, regs11, regs12, regs13, regs14, regs15, regs16, regs17]

/-- Base address of an engine's blocks (R497). -/
def Eng.base : Eng → Nat
  | .A => 0x10000000
  | .B => 0x20000000

/-- Address of word `w` of element `i` of a register; module registers ignore the engine. -/
def Reg.addr (r : Reg) (e : Eng) (i w : Nat) : Nat :=
  (match r.row.scope with
   | .module => 0
   | .engine | .onlyA | .onlyB => Eng.base e) + r.row.base + r.row.stride * i + 4 * w

/-- The 18 island IDs of R17 are the only indexes of the per-island registers (R75, R521, R549). -/
def islOfId (n : Nat) : Option Isl := Isl.all.find? (fun i => i.id = n)

/-- Whether element `i` of a register exists. -/
def Reg.exists (r : Reg) (i : Nat) : Bool :=
  match r with
  | .pwrIsl | .evtLost | .updIsl | .updStale => (islOfId i).isSome
  | _ => i < r.row.count

/-- A register word as an access names it. -/
structure RegAt where
  reg : Reg
  eng : Eng
  idx : Nat
  word : Nat
  deriving DecidableEq, Repr

/-- The element and word of a row that offset `o` names. -/
def Reg.at? (r : Reg) (e : Eng) (o : Nat) : Option RegAt :=
  let d := o - r.row.base
  let i := d / r.row.stride
  let w := d % r.row.stride / 4
  if r.row.base ≤ o ∧ o % 4 = 0 ∧ w < r.row.words ∧ r.exists i then some ⟨r, e, i, w⟩ else none

/-- Whether a row belongs to the module-wide map, or to the window of engine `e`. -/
def RegScope.covers (sc : RegScope) (e : Option Eng) : Bool :=
  match sc, e with
  | .module, none => true
  | .engine, some _ => true
  | .onlyA, some .A => true
  | .onlyB, some .B => true
  | _, _ => false

/-- The engine whose blocks (R497) hold an address. -/
def engWindow (a : Nat) : Option Eng :=
  if 0x10000000 ≤ a ∧ a < 0x16000000 then some .A
  else if 0x20000000 ≤ a ∧ a < 0x26000000 then some .B
  else none

/-- The register word at an address, if one is defined there. -/
def regAt? (a : Nat) : Option RegAt :=
  let e := engWindow a
  allRegs.findSome? (fun r =>
    if r.row.scope.covers e then r.at? (e.getD .A) (a - (e.elim 0 Eng.base)) else none)

/-- A field of a value lies in its range. -/
def FldRange.ok (f : FldRange) (v : W32) : Bool :=
  let u := fld v f.hi f.lo
  let n := 2 ^ (f.hi + 1 - f.lo)
  let x : Int := if f.signed ∧ n ≤ 2 * u then (u : Int) - n else u
  f.min ≤ x ∧ x ≤ f.max

end Sys2Proof.Machine
end

