-- ==== Sys2Proof/Machine/Ops.lean ====
section
/-! DEFINITION. The named operations over the state that the meanings share: the parts of the state, free values, settings,
event records and counters. -/

namespace Sys2Proof.Machine

/-! ## Outcomes -/

/-- The outcome of a command whose rule applies when `g` holds: its effect, or no effect when the rule's condition does not
hold in this state (notes/assumptions/2.md). -/
def act (g : Bool) (f : State → State) (s : State) : Out := .next (if g then f s else s)

/-- A 64-bit counter of a context saturates (R348). -/
def satAdd (a n : Nat) : Nat := min (a + n) (2 ^ 64 - 1)

/-! ## Parts of the state -/

def getIsl (s : State) (i : Isl) : IslSt := tget {} s.isls i.row
def setIsl (i : Isl) (x : IslSt) (s : State) : State := { s with isls := tset {} s.isls i.row x }
def modIsl (i : Isl) (f : IslSt → IslSt) (s : State) : State := setIsl i (f (getIsl s i)) s

/-- The fence state as the island's datapath sees it: a soft restart fences requests only (R526). -/
def dpFence (s : State) (i : Isl) : Fence := if (getIsl s i).hard then (getIsl s i).fence else .run

/-- An island's datapath works on what it has until DRAIN of a hard reset, and takes what waits at its inputs only before QUIESCE
(R528, R533). -/
def dpServes (s : State) (i : Isl) : Bool :=
  match dpFence s i with
  | .run | .quiesce => true
  | .drain | .fenced | .reset | .resume => false
def dpTakes (s : State) (i : Isl) : Bool := dpFence s i = .run

/-- An island's datapath has not been stopped by a hard reset. -/
def islRuns (s : State) (i : Isl) : Bool :=
  match dpFence s i with
  | .run | .quiesce | .drain => true
  | .fenced | .reset | .resume => false

/-- The step an island runs at: the lower rate of its two holds (R68). -/
def heldStep (x : IslSt) : Nat := max x.sagStep x.capStep

/-- The control functions of an island run: no restart of either kind pauses them (R534). -/
def ctlRuns (s : State) (i : Isl) : Bool := (getIsl s i).fence = .run

def getFeed (s : State) : Feed → FeedSt
  | .A => s.pwr.feedA
  | .B => s.pwr.feedB
def modFeed (f : Feed) (g : FeedSt → FeedSt) (s : State) : State :=
  match f with
  | .A => { s with pwr := { s.pwr with feedA := g s.pwr.feedA } }
  | .B => { s with pwr := { s.pwr with feedB := g s.pwr.feedB } }

def getEng (s : State) : Eng → EngSt
  | .A => s.engA
  | .B => s.engB
def setEng (e : Eng) (x : EngSt) (s : State) : State :=
  match e with
  | .A => { s with engA := x }
  | .B => { s with engB := x }
def modEng (e : Eng) (f : EngSt → EngSt) (s : State) : State := setEng e (f (getEng s e)) s
def modDown (e : Eng) (f : Down → Down) (s : State) : State :=
  modEng e (fun x => { x with down := f x.down }) s

/-- Nothing is being sent. -/
def Down.silent (d : Down) : Down := { d with hdr := [], line := [], dac := [], zeros := 0, aisWas := false, rdiAllWas := false, rdiWas := [] }

def getGrp (s : State) (e : Eng) (g : Nat) : GrpSt := tget {} (getEng s e).down.grp g
def setGrp (e : Eng) (g : Nat) (x : GrpSt) (s : State) : State :=
  modDown e (fun d => { d with grp := tset {} d.grp g x }) s

def getBrx (s : State) (e : Eng) (n : Nat) : BrxSt := tget {} (getEng s e).rx n
def setBrx (e : Eng) (n : Nat) (x : BrxSt) (s : State) : State :=
  modEng e (fun y => { y with rx := tset {} y.rx n x }) s
def modBrx (e : Eng) (n : Nat) (f : BrxSt → BrxSt) (s : State) : State := setBrx e n (f (getBrx s e n)) s

/-- The engine under which the tree's leaves, containers and slot sets are held: in Paired mode there is one table (R14),
held as engine A's. -/
def treeOf (s : State) (e : Eng) : Eng := if s.boot.paired then .A else e

def leafKey (s : State) (e : Eng) (l : Nat) : Nat := 4096 * (treeOf s e).num + l
def getLeaf (s : State) (e : Eng) (l : Nat) : Leaf := tget {} s.leaves (leafKey s e l)
def setLeaf (e : Eng) (l : Nat) (x : Leaf) (s : State) : State :=
  { s with leaves := tset {} s.leaves (leafKey s e l) x }
def modLeaf (e : Eng) (l : Nat) (f : Leaf → Leaf) (s : State) : State := setLeaf e l (f (getLeaf s e l)) s

def ssetKey (s : State) (e : Eng) (i : Nat) : Nat := 512 * (treeOf s e).num + i
def getSset (s : State) (e : Eng) (i : Nat) : Sset := tget {} s.ssets (ssetKey s e i)
def setSset (e : Eng) (i : Nat) (x : Sset) (s : State) : State :=
  { s with ssets := tset {} s.ssets (ssetKey s e i) x }
def modSset (e : Eng) (i : Nat) (f : Sset → Sset) (s : State) : State := setSset e i (f (getSset s e i)) s

def ctrKey (s : State) (e : Eng) (c : Nat) : Nat := 32768 * (treeOf s e).num + c
def getCtr (s : State) (e : Eng) (c : Nat) : Ctr := tget {} s.ctrs (ctrKey s e c)
def setCtr (e : Eng) (c : Nat) (x : Ctr) (s : State) : State :=
  { s with ctrs := tset {} s.ctrs (ctrKey s e c) x }
def modCtr (e : Eng) (c : Nat) (f : Ctr → Ctr) (s : State) : State := setCtr e c (f (getCtr s e c)) s

def getFlow (s : State) (f : Nat) : Flow := tget {} s.flow.ctx f
def setFlow (f : Nat) (x : Flow) (s : State) : State :=
  { s with flow := { s.flow with ctx := tset {} s.flow.ctx f x } }
def modFlow (f : Nat) (g : Flow → Flow) (s : State) : State := setFlow f (g (getFlow s f)) s

def getPort (s : State) (p : Nat) : PortSt := tget {} s.cln.ports p
def setPort (p : Nat) (x : PortSt) (s : State) : State :=
  { s with cln := { s.cln with ports := tset {} s.cln.ports p x } }
def modPort (p : Nat) (f : PortSt → PortSt) (s : State) : State := setPort p (f (getPort s p)) s

def getLane (s : State) (k : Nat) : LaneSt := tget {} s.cln.lanes k
def setLane (k : Nat) (x : LaneSt) (s : State) : State :=
  { s with cln := { s.cln with lanes := tset {} s.cln.lanes k x } }
def modLane (k : Nat) (f : LaneSt → LaneSt) (s : State) : State := setLane k (f (getLane s k)) s

def getSlot (s : State) (k : Nat) : KeySlot := tget {} s.sec.slots k
def setSlot (k : Nat) (x : KeySlot) (s : State) : State :=
  { s with sec := { s.sec with slots := tset {} s.sec.slots k x } }
def modSlot (k : Nat) (f : KeySlot → KeySlot) (s : State) : State := setSlot k (f (getSlot s k)) s

/-- The engines, in the order of their numbers. -/
def engines : List Eng := [.A, .B]

/-- Apply an operation for every element of a list, in order. -/
def forAll {α : Type} (l : List α) (f : α → State → State) (s : State) : State := l.foldl (fun t a => f a t) s

/-- Apply an operation only when a condition holds. -/
def when (g : Bool) (f : State → State) (s : State) : State := if g then f s else s

/-! ## Free values -/

/-- Draw the next free value with a function of Config (notes/assumptions/5.md). -/
def draw {α : Type} (f : Nat → α) (s : State) : α × State := (f s.free, { s with free := s.free + 1 })

/-! ## Settings -/

/-- MEM_BANK_b in the default allocation (R463): USE in bits 11 to 8, OWNER in bits 7 to 0, PIN in bit 16. -/
def defaultBank (b : Nat) : W32 :=
  if b < 24 then 0x10107
  else if b < 48 then 0x00207
  else if b < 51 then 0x00313
  else if b < 54 then 0x00323
  else if b < 58 then 0x10403
  else if b = 58 then 0x10511
  else if b = 59 then 0x10521
  else 0

/-- The value of element `i` of a register at reset; that of MEM_BANK depends on the bank (R463). -/
def Reg.resetAt (r : Reg) (i : Nat) : W32 := if r = .memBank then defaultBank i else r.row.reset

/-- A stored setting word; one never written holds its reset value. -/
def getReg (s : State) (r : Reg) (e : Eng) (i : Nat) : W32 := tget (r.resetAt i) s.regs (r.addr e i 0)

/-- Store a setting word. -/
def setReg (r : Reg) (e : Eng) (i : Nat) (v : W32) (s : State) : State :=
  { s with regs := tset (r.resetAt i) s.regs (r.addr e i 0) v }

/-- A field of a stored setting. -/
def regF (s : State) (r : Reg) (e : Eng) (i hi lo : Nat) : Nat := fld (getReg s r e i) hi lo

/-- Two's complement value of an unsigned field of `n` bits. -/
def asSigned (n u : Nat) : Int := if 2 ^ n ≤ 2 * u then (u : Int) - 2 ^ n else u

/-- Unsigned value of an integer in `n` bits, two's complement. -/
def toBits (n : Nat) (x : Int) : Nat := (x % 2 ^ n).toNat

/-! ## Counters (R552 to R560) -/

/-- Counters N of a set (R559). -/
def tallyN : Nat → Nat
  | 1 => 3 | 2 => 1 | 3 => 15 | 4 => 10 | 5 => 1 | 6 => 4 | 7 => 6 | 8 => 1 | 9 => 13 | 10 => 4 | 11 => 1
  | 12 => 15 | 13 => 5 | 14 => 4 | 15 => 4 | 16 => 2 | 17 => 15 | 18 => 3 | 19 => 5 | 20 => 1 | 21 => 3
  | 22 => 3 | 23 => 5 | 24 => 5
  | _ => 0

/-- Objects of a set (R559). -/
def tallyObjects : Nat → Nat
  | 1 => 18 | 2 => 2 | 3 => 64 | 4 => 8192 | 5 => 8 | 6 => 4 | 7 => 65536 | 8 => 1024 | 9 => 8192 | 10 => 2
  | 11 => 1 | 12 => 2 | 13 => 8192 | 14 => 32 | 15 => 65536 | 16 => 1 | 17 => 32 | 18 => 32 | 19 => 65536
  | 20 => 20480 | 21 => 8192 | 22 => 2 | 23 => 16 | 24 => 18
  | _ => 0

/-- Address of the cell of counter `i` of object `o` in set `k` (R559, R561). -/
def cellAddr (k o i : Nat) : Nat := 0x90000000 + 0x00800000 * k + 16 * (tallyN k * o + i)

/-- The accumulators saturate here (R553). -/
def accMax : Nat := 2 ^ 48 - 1

/-- The LEVEL defaults of R554 as a mode mask of a set. -/
def modeDefault : Nat → Nat
  | 1 => 4
  | 10 => 14
  | _ => 0

/-- The mode mask in force for a set. -/
def modeMask (s : State) (k : Nat) : Nat := tget (modeDefault k) s.tally.mode k

/-- The chain mask in force for a set. -/
def chainMask (s : State) (k : Nat) : Nat := tget 0 s.tally.chain k

/-- Add `n` to counter `i`, wrapping at 2^32 and carrying into the next counter while the chain bit is 1 (R555). -/
def addCount (k o : Nat) : Nat → Nat → Nat → State → State
  | 0, _, _, s => s
  | fuel + 1, i, n, s =>
    let a := cellAddr k o i
    let v := tget 0 s.tally.acc a + n
    if (chainMask s k).testBit i then
      addCount k o fuel (i + 1) (v / 2 ^ 32)
        { s with tally := { s.tally with acc := tset 0 s.tally.acc a (v % 2 ^ 32) } }
    else
      { s with tally := { s.tally with acc := tset 0 s.tally.acc a (min v accMax) } }

/-- Count `n` occurrences of an event source; a counter that counts carries counts none of its own source (R555). -/
def count (k o i n : Nat) (s : State) : State :=
  if n = 0 ∨ (0 < i ∧ (chainMask s k).testBit (i - 1)) then s else addCount k o (tallyN k) i n s

/-- Count a condition source: entries in EDGE mode, units in LEVEL mode (R554). -/
def countCond (k o i entries units : Nat) (s : State) : State :=
  count k o i (if (modeMask s k).testBit i then units else entries) s

/-- The tree object number of a leaf, container or slot set as the Tally numbers it (R559, R564). -/
def leafObj (s : State) (e : Eng) (l : Nat) : Nat := leafKey s e l
def ctrObj (s : State) (e : Eng) (c : Nat) : Nat := ctrKey s e c

/-- The tree's objects count the work of the working engine only (R564). -/
def countsTree (s : State) (e : Eng) : Bool := ¬ s.boot.paired || s.aps.work = some e

/-- Count for a leaf of an engine. -/
def countLeaf (k : Nat) (e : Eng) (l i n : Nat) (s : State) : State :=
  if countsTree s e then count k (leafObj s e l) i n s else s

/-- Count for a container of an engine. -/
def countCtr (k : Nat) (e : Eng) (c i n : Nat) (s : State) : State :=
  if countsTree s e then count k (ctrObj s e c) i n s else s

/-! ## Event records (R511 to R516) -/

/-- Pack data items, each with its size in bits, from DATA[0] upward (R512). -/
def packData (items : List (Nat × Int)) : BitVec 80 :=
  BitVec.ofNat 80 (items.foldl (fun (p : Nat × Nat) x => (p.1 + x.1, p.2 + toBits x.1 x.2 * 2 ^ p.1)) (0, 0)).2

/-- Capacity of an island's event FIFO (R516). -/
def fifoCap : Nat := 64

/-- Raise a record on an island: it takes the next SEQ and the island's time, and enters the FIFO, or is lost when the FIFO
is full (R513, R514, R516). -/
def raise (i : Isl) (code obj : Nat) (data : BitVec 80) (s : State) : State :=
  modIsl i (fun x =>
    let y := { x with seq := (x.seq + 1) % 2 ^ 32 }
    if x.fifo.length < fifoCap then
      { y with fifo := x.fifo ++
          [⟨i.id, code, s.clk.epoch, x.seq, s.clk.sec, s.clk.ns, obj % 2 ^ 32, data⟩] }
    else { y with lost := min (x.lost + 1) (2 ^ 32 - 1), lostSec := x.lostSec + 1 }) s

/-! ## Small helpers -/

/-- Serial-number order: `a` precedes `b` in counts of `w` bits with a window of half the range. -/
def serBefore (w a b : Nat) : Bool :=
  let d := (b + 2 ^ w - a % 2 ^ w) % 2 ^ w
  d ≠ 0 && d < 2 ^ (w - 1)

/-- The lowest number below `n` with a property. -/
def lowest (n : Nat) (p : Nat → Bool) : Option Nat := (List.range n).find? p

/-- The module's present time in ns since the start origin. -/
def now (s : State) : Nat := s.clk.now

end Sys2Proof.Machine
end

