-- ==== Sys2Proof/Machine/Operands.lean ====
section
/-! DEFINITION. Reading numbers and fields from the bytes that commands carry, most significant byte first (R8), and
writing them back. -/

namespace Sys2Proof.Machine

/-- The number that bytes spell, most significant byte first (R8). -/
def beNat (l : List Byte) : Nat := l.foldl (fun a b => 256 * a + b.toNat) 0

/-- `n` bytes from offset `o`. -/
def slice (l : List Byte) (o n : Nat) : List Byte := (l.drop o).take n

/-- The number in the `n` bytes at offset `o`; bytes beyond the end count as absent. -/
def beAt (l : List Byte) (o n : Nat) : Nat := beNat (slice l o n)

/-- The 32-bit word at a byte offset. -/
def wordAt (l : List Byte) (o : Nat) : W32 := BitVec.ofNat 32 (beAt l o 4)

/-- The byte at an offset; 0 beyond the end. -/
def byteAt (l : List Byte) (o : Nat) : Nat := (l.getD o 0).toNat

/-- A number as `n` bytes, most significant byte first. -/
def toBytes : Nat → Nat → List Byte
  | 0, _ => []
  | n + 1, v => BitVec.ofNat 8 (v / 256 ^ n) :: toBytes n v

/-- A word as its four bytes. -/
def wordBytes (w : W32) : List Byte := toBytes 4 w.toNat

/-- The words of a byte list, whole words only. -/
def words : Nat → List Byte → List W32
  | 0, _ => []
  | n + 1, l => wordAt l 0 :: words n (l.drop 4)

/-- A word of fields, each placed at its lowest bit. -/
def wordOf (fs : List (Nat × Nat)) : W32 := BitVec.ofNat 32 (fs.foldl (fun a f => a ||| (f.2 <<< f.1)) 0)

/-- Bytes that are all zero. -/
def allZero (l : List Byte) : Bool := l.all (fun b => b = 0)

/-- Exclusive-or of two byte lists of one length. -/
def xorBytes (a b : List Byte) : List Byte := List.zipWith (fun x y => x ^^^ y) a b

/-- A list cut into pieces of `n` elements; `fuel` bounds the number of pieces. -/
def chunks {α : Type} [DecidableEq α] (n : Nat) : Nat → List α → List (List α)
  | 0, _ => []
  | fuel + 1, l => if l = [] then [] else l.take n :: chunks n fuel (l.drop n)

end Sys2Proof.Machine
end

