-- ==== Sys2Proof/Machine/Flags.lean ====
section
/-! DEFINITION. W1C flags and their re-set counts (R501, R502), events that set a flag and are limited in rate, the fault
sources (R505) and the interrupt pins they drive (R504, R510). -/

namespace Sys2Proof.Machine

/-! ## Flags -/

/-- A flag word, by the address of its register. -/
def getFlags (s : State) (a : Nat) : W32 := tget 0 s.flags a

/-- Key of the re-set count of a flag. -/
def rscKey (a b : Nat) : Nat := 32 * a + b

/-- Hardware sets flag `b` of the flag register at `a`: a flag already 1 adds 1 to its count, which saturates (R502). -/
def setFlagAt (a b : Nat) (s : State) : State :=
  let w := getFlags s a
  if w.getLsbD b then
    { s with rsc := tset 0 s.rsc (rscKey a b) (min 255 (tget 0 s.rsc (rscKey a b) + 1)) }
  else { s with flags := tset 0 s.flags a (w ||| BitVec.ofNat 32 (2 ^ b)) }

/-- Where the flags of a register of an engine, or of the module, are held: in Paired mode both engines' scheduler blocks show one set
(R336). -/
def sharedEng (s : State) (r : Reg) (e : Eng) : Eng := if (r = .schedFlags || r = .schedRsc) && s.boot.paired then .A else e
def flagAddr (s : State) (r : Reg) (e : Eng) : Nat := r.addr (sharedEng s r e) 0 0

/-- Hardware sets flag `b` of a flag register of an engine, or of the module. -/
def setFlag (r : Reg) (e : Eng) (b : Nat) (s : State) : State := setFlagAt (flagAddr s r e) b s

/-- A host write of 1 to flag `b`: the flag and its count clear, unless hardware sets the flag in that cycle; then the flag
stays 1 and the count becomes 1 (R9, R502). -/
def clearFlagAt (a b : Nat) (setNow : Bool) (s : State) : State :=
  let w := getFlags s a
  let m : W32 := BitVec.ofNat 32 (2 ^ b)
  { s with
    flags := tset 0 s.flags a (if setNow then w ||| m else w &&& ~~~ m)
    rsc := tset 0 s.rsc (rscKey a b) (b01 setNow) }

/-- A host write to a flag register of `n` flags, with the flags that hardware sets in the same cycle. -/
def w1cWrite (a n : Nat) (v setNow : W32) (s : State) : State :=
  forAll (List.range n) (fun b t =>
    if v.getLsbD b then clearFlagAt a b (setNow.getLsbD b) t
    else if setNow.getLsbD b then setFlagAt a b t else t) s

/-- Re-set count register `k` of the flag register at `a` (R501). -/
def rscWord (s : State) (a n k : Nat) : W32 :=
  wordOf ((List.range 4).map (fun j => (8 * j, if 4 * k + j < n then tget 0 s.rsc (rscKey a (4 * k + j)) else 0)))

/-! ## Events with their flag and their rate limit -/

/-- Raise a record and set the flag of the same name. -/
def raiseF (i : Isl) (code obj : Nat) (data : BitVec 80) (r : Reg) (e : Eng) (b : Nat) (s : State) : State :=
  setFlag r e b (raise i code obj data s)

/-- Run an event at most once per object per second. -/
def oncePerSec (code obj : Nat) (f : State → State) (s : State) : State :=
  if (code, obj) ∈ s.seenSec then s else f { s with seenSec := (code, obj) :: s.seenSec }

/-- Two objects whose occurrences of a code are counted as one: those of MEM_CORR and MEM_COLLIDE that lie in one region (R481). -/
def sameSum (code a b : Nat) : Bool := if code = 0x0C01 || code = 0x0C03 then a / 2 ^ 28 = b / 2 ^ 28 else a = b

/-- Add `n` occurrences to those of a code and object; the first of a second gives the record its island and its object. -/
def addSecSum (i : Isl) (code obj n : Nat) : List SecSum → List SecSum
  | [] => [⟨i, code, obj, n⟩]
  | x :: l => if x.code = code && sameSum code x.obj obj then { x with n := x.n + n } :: l else x :: addSecSum i code obj n l

/-- `n` occurrences of an event whose record gives those of the second: it is raised when the second ends (R383, R460, R482, R551;
notes/assumptions/35.md). -/
def perSecond (i : Isl) (code obj n : Nat) (s : State) : State :=
  { s with tally := { s.tally with sums := addSecSum i code obj n s.tally.sums } }

/-- The second ends: the events it counted are raised, once per object, with their numbers. -/
def raiseSums (s : State) : State :=
  forAll s.tally.sums (fun x => raise x.isl x.code (x.obj % 2 ^ 32) (packData [(32, min x.n (2 ^ 32 - 1))]))
    { s with tally := { s.tally with sums := [] } }

/-- Run an event at most once per object per turn. -/
def oncePerTurn (code obj turn : Nat) (f : State → State) (s : State) : State :=
  if (code, obj, turn) ∈ s.seenTurn then s
  else f { s with seenTurn := (code, obj, turn) :: s.seenTurn.filter (fun x => x.1 ≠ code ∨ x.2.1 ≠ obj) }

/-- The turn's part of the key of events limited to one a turn: the turns of an engine count anew after each of its restarts, which its
incarnation tells apart (R24). -/
def turnKeyOf (incarn turn : Nat) : Nat := incarn * 2 ^ 64 + turn

/-! ## Fault sources and the pins they drive -/

/-- LC as it is read: the majority of its three copies (R418). -/
def Fuses.lc (f : Fuses) : BitVec 8 := (f.lcA &&& f.lcB) ||| (f.lcA &&& f.lcC) ||| (f.lcB &&& f.lcC)

/-- Bits of the copies of LC are blown; a blown bit stays (R418). -/
def Fuses.blowLc (a b c : BitVec 8) (f : Fuses) : Fuses := { f with lcA := f.lcA ||| a, lcB := f.lcB ||| b, lcC := f.lcC ||| c }

/-- The life-cycle state code of R420 from the LC fuses: 0 BLANK, 1 MAKER_TEST, 2 SHIPPED, 3 DEPLOYED, 4 RETURNED, 5 VOID.
LC 0x01 with a lock blown reads VOID. -/
def lcState (s : State) : Nat :=
  let l := s.fuse.lc.toNat
  if l = 0 then 0 else if l = 1 then (if s.fuse.debugLock || s.fuse.testLock then 5 else 1) else if l = 3 then 2 else if l = 7 then 3 else if l = 15 then 4 else 5

/-- Whether the shut-down rail set still powers AON and MGT's view of the fault sources. -/
def powered (s : State) : Bool := s.pwr.run ≠ .off

/-- MGT_FAULT (R505). -/
def faultBits (s : State) : Nat :=
  b01 s.boot.bootRomFault
  + 2 * b01 s.boot.imgRejected
  + 4 * b01 (engines.any (fun e => (getEng s e).st = .failed))
  + 8 * b01 (Isl.all.any (fun i => (getIsl s i).floorFault))
  + 16 * b01 (s.pwr.emerg = .powerFail)
  + 32 * b01 (s.boot.fw && ! s.sec.shakerOk)
  + 64 * b01 (s.boot.fuses && (lcState s = 0 || lcState s = 5))
  + 128 * b01 (s.pwr.emerg = .thermCrit)

/-- An island that exceeded the bound of R527 and has not resumed yet asserts FAULT_N; MGT_FAULT has no bit for it. -/
def resumeOverdue (s : State) : Bool :=
  Isl.all.any (fun i => (getIsl s i).overdue && (getIsl s i).fence ≠ .run)

/-- FAULT_N is low while any source is 1 (R504, R527); without logic power it is high-impedance. -/
def faultLow (s : State) : Bool := powered s && (faultBits s ≠ 0 || resumeOverdue s)

/-- Make a FAULT interrupt pending when a command changed MGT_FAULT (R506, R509). -/
def noteFault (s t : State) : State :=
  if faultBits t = faultBits s then t
  else { t with mgt := { t.mgt with fl := { t.mgt.fl with pending := true }
                                    nacks := if t.mgt.fl.pending then t.mgt.nacks else 0 } }

/-- As `act`, for a command that may change a fault source. -/
def actF (g : Bool) (f : State → State) (s : State) : Out := .next (if g then noteFault s (f s) else s)

/-- MGT is in FENCED, RESET or RESUME (R485, R510). -/
def mgtDown (s : State) : Bool :=
  match (getIsl s .mgt).fence with
  | .fenced | .reset | .resume => true
  | .run | .quiesce | .drain => false

/-- An EVENT or a FAULT is pending. -/
def irqPending (s : State) : Bool := s.mgt.ev.pending || s.mgt.fl.pending

/-- Causes of R510 in the bit order of MGT_ALERT: no dynamic address, IBIs disabled by DISEC, the IBI NACKed three times. They hold while an
interrupt is pending (DESIGN CHOICE, unsafe; notes/assumptions/228.md). -/
def alertNoDa (s : State) : Bool := irqPending s && s.mgt.da = none
def alertIbiOff (s : State) : Bool := irqPending s && s.mgt.ibiOff
def alertNacked (s : State) : Bool := irqPending s && s.mgt.nacks = 3

/-- ALERT_N is low (R510); while MGT is down, AON drives it on a FAULT and on an EVENT of block 0x02 or 0x03. -/
def alertLow (s : State) : Bool :=
  powered s &&
    ((alertNoDa s || alertIbiOff s || alertNacked s)
      || (mgtDown s && (s.mgt.fl.pending || (s.mgt.ev.pending && s.mgt.evCrit))))

end Sys2Proof.Machine
end

