-- ==== Sys2Proof/Machine/Banks.lean ====
section
/-! DEFINITION. The shared SRAM's banks, the regions of memory, and what a read of a word of memory can be answered with (R461 to R474,
R480, R481). -/

namespace Sys2Proof.Machine

/-! ## Banks (R461 to R464) -/

/-- Words of a bank. -/
def bankWords : Nat := 16384

/-- OWNER, USE and PIN of a bank; the key index is pinned whatever its PIN (R346). -/
def bankWord (s : State) (b : Nat) : W32 := getReg s .memBank .A b
def bankUse (w : W32) : Nat := fld w 11 8
def bankPin (w : W32) : Bool := w.getLsbD 16 || bankUse w = 1
def bankOwner (w : W32) : Nat := fld w 7 0

/-- The place of a bank in the order of the bank lists: its number, until a move gives it another's (R462, R467). -/
def bankPlace (s : State) (b : Nat) : Nat := (tget none s.mem.place b).getD b

/-- Two banks change places. -/
def swapPlaces (a b : Nat) (s : State) : State :=
  let p := bankPlace s a
  let q := bankPlace s b
  { s with mem := { s.mem with place := tset none (tset none s.mem.place a (some q)) b (some p) } }

/-- The bank list of a region (R462, R467). -/
def regionBanks (s : State) (owner use : Nat) : List Nat :=
  (List.range 64).flatMap (fun p => (List.range 64).filter (fun b =>
    bankPlace s b = p && bankUse (bankWord s b) = use && bankOwner (bankWord s b) = owner))

/-- The island IDs that own banks of a use (R463). -/
def useOwners (use : Nat) : List Nat :=
  match use with
  | 0 => [0x00]
  | 1 | 2 => [0x07]
  | 3 => [0x13, 0x23]
  | 4 => [0x03]
  | 5 => [0x11, 0x21]
  | _ => []

/-- The bank lists of the regions of one use, in the order of their engines. Words of US_REASM and SCHED are numbered through both engines'
lists, those of B after those of A; FREE banks are taken as a region with the index of their use, 0 (DESIGN CHOICE, unsafe;
notes/assumptions/227.md). -/
def useBanks (s : State) (use : Nat) : List (List Nat) := (useOwners use).map (fun o => regionBanks s o use)

/-- The number of word `k` of bank `b` among the words of its use, consecutive ones lying in consecutive banks of a list (R462). -/
def wordNo (b k : Nat) : List (List Nat) → Nat
  | [] => 0
  | l :: rest => if b ∈ l then l.length * k + l.idxOf b else bankWords * l.length + wordNo b k rest

/-- The bank that holds word `w` of a use, and the word's number in the bank. -/
def wordBank (w : Nat) : List (List Nat) → Option (Nat × Nat)
  | [] => none
  | l :: rest =>
    if w < bankWords * l.length then some (l.getD (w % l.length) 64, w / l.length) else wordBank (w - bankWords * l.length) rest

/-- The bank that holds a word of an SRAM region, and the word's number in the bank. -/
def bankOf (s : State) (r word : Nat) : Option (Nat × Nat) := wordBank word (useBanks s r)

/-- Write the whole allocation; every bank list is in ascending order, and a word known to be bad goes by its new region and number. -/
def setBanks (f : Nat → W32) (s : State) : State :=
  let t := forAll (List.range 64) (fun b t => setReg .memBank .A b (f b) t) { s with mem := { s.mem with place := [] } }
  { t with mem := { t.mem with poisoned := s.mem.poisoned.map (fun p =>
      match if p.1 < 8 then bankOf s p.1 p.2 else none with
      | some (b, k) => let u := bankUse (bankWord t b); (u, wordNo b k (useBanks t u))
      | none => p) } }

/-- 64-byte words of a region (R463, R474). -/
def regionWords (s : State) (r : Nat) : Nat :=
  let mib := 16384
  match r with
  | 8 => 256 * mib | 9 => 10240 * mib | 10 => 2048 * mib | 11 => 512 * mib | 12 => 256 * mib | 13 => 8 * mib | 14 => 64 * mib
  | _ => if r ≤ 5 then bankWords * ((List.range 64).filter (fun b => bankUse (bankWord s b) = r)).length else 0

/-! ## What the banks hold (R466, R472)

A bank's contents go by a number: 0 for the zeros of the start and of a freed bank, and any other for words that nothing constrains
(notes/assumptions/247.md). -/

/-- A bank takes contents with a number that no bank had before. -/
def freshBank (b : Nat) (s : State) : State :=
  { s with free := s.free + 1, mem := { s.mem with sram := tset 0 s.mem.sram b (s.free + 1) } }

/-- SRAM_INIT_DONE: every bank holds zeros with valid check bits (R472). -/
def zeroBanks (s : State) : State :=
  { s with mem := { s.mem with sram := [], poisoned := s.mem.poisoned.filter (fun p => ¬ p.1 < 8) } }

/-! ## Outcomes of a read (R468, R470, R478, R480, R481) -/

/-- Object IDs of memory events: the region with a word address, or with a bank. -/
def memObj (r low : Nat) : Nat := r * 2 ^ 28 + low % 2 ^ 28

/-- The readers of R481. -/
def rdPort0 : Nat := 0
def rdPort1 : Nat := 1
def rdScrubber : Nat := 2
def rdHost : Nat := 3

/-- The island of a memory event: the owner of the SRAM bank that port 0 read, and DMEM for every other read (R463, R481). -/
def memIsle (s : State) (r word reader : Nat) : Isl :=
  match if r < 8 && reader = rdPort0 then bankOf s r word else none with
  | some (b, _) => (islOfId (bankOwner (bankWord s b))).getD .dmem
  | none => .dmem

/-- A correction is counted, and raised for its region once the second ends (R482). -/
def memCorr (r word reader : Nat) (s : State) : State :=
  setFlag .memFlags .A 0
    (perSecond (memIsle s r word reader) 0x0C01 (memObj r word) 1 (count 23 r 0 1 s))

/-- An uncorrectable word: counted, raised with its address and reader, held in MEM_ECC_ADDR, and known to be bad until it is
written; a bucket of the key index so read is a miss until it is rebuilt. -/
def memUncorr (r word reader : Nat) (s : State) : State :=
  let s := { s with
    mem := { s.mem with eccRegion := r, eccAddr := word
                        poisoned := if (r, word) ∈ s.mem.poisoned then s.mem.poisoned else (r, word) :: s.mem.poisoned } }
  let s := if r = 1 && ! (word ∈ s.flow.badBuckets) then
      { s with flow := { s.flow with badBuckets := s.flow.badBuckets ++ [word] } }
    else s
  raiseF (memIsle s r word reader) 0x0C02 (memObj r word) (packData [(8, reader)]) .memFlags .A 1 (count 23 r 1 1 s)

/-- Collisions at a word are counted, and raised for its region once the second ends (R468, R482). -/
def memCollide (r word reader n : Nat) (s : State) : State :=
  if n = 0 then s
  else setFlag .memFlags .A 2
    (perSecond (memIsle s r word reader) 0x0C03 (memObj r word) n (count 23 r 2 n s))

/-- A word is written: it is good again. -/
def memWritten (r word : Nat) (s : State) : State :=
  { s with mem := { s.mem with poisoned := s.mem.poisoned.filter (fun p => p ≠ (r, word)) } }

/-- The tester yields: it releases its bank (R478, R480). -/
def bgtYield (s : State) : State :=
  match s.mem.bgt with
  | none => s
  | some (b, _) =>
    setFlag .memFlags .A 3 (count 23 (bankUse (bankWord s b)) 3 1 { s with mem := { s.mem with bgt := none } })

/-- The tester holds words of one of these banks. -/
def bgtIn (s : State) (l : List Nat) : Bool :=
  match s.mem.bgt with
  | some (b, _) => b ∈ l
  | none => false

/-- The bank that holds a word, as a list. -/
def wordBanks (s : State) (r word : Nat) : List Nat :=
  match if r < 8 then bankOf s r word else none with
  | some (b, _) => [b]
  | none => []

/-- What the reading port meets besides its outcome: in SRAM the tester, which yields (R478), and collisions, after each of which the port
reads again (R468); in DRAM what the on-die code of the HBM stacks corrects (R469). How many these are is open
(notes/assumptions/5.md). -/
def memAccess (r word reader : Nat) (s : State) : State :=
  let s := when (bgtIn s (wordBanks s r word)) bgtYield s
  let n := draw Config.freeNat s
  if r < 8 then memCollide r word reader n.1 n.2 else count 23 r 0 n.1 n.2

/-- The module reads a word of memory: whether it reads as POISON, and what the read leaves (R468 to R470). A word known to be bad does until
it is written; what any other read finds is open: clean, corrected or uncorrectable (notes/assumptions/5.md). -/
def memRead (r word reader : Nat) (s : State) : Bool × State :=
  let s := memAccess r word reader s
  let d := draw Config.freeNat s
  if (r, word) ∈ s.mem.poisoned || d.1 % 3 = 1 then (true, memUncorr r word reader d.2)
  else if d.1 % 3 = 2 then (false, memCorr r word reader d.2)
  else (false, d.2)

/-- The module reads those of `n` words for which `p` holds, the first of them word `lo` of a region: those known to be bad report it, and how
many others do not read clean, and which these are, is open (R470; notes/assumptions/5.md). -/
def memScan (r reader lo n : Nat) (p : Nat → Bool) (s : State) : State :=
  let known := s.mem.poisoned.filter (fun q => q.1 = r && decide (lo ≤ q.2) && decide (q.2 < lo + n) && p q.2)
  let s := forAll known (fun q t => memUncorr q.1 q.2 reader (memAccess q.1 q.2 reader t)) s
  let k := draw Config.freeNat s
  forAll (List.range (if n = 0 then 0 else k.1 % (n + 1))) (fun _ t =>
    let w := draw Config.freeNat t
    let x := lo + w.1 % n
    if (r, x) ∈ t.mem.poisoned || ! p x then w.2 else (memRead r x reader w.2).2) k.2

/-- Words that hold some bytes of a unit. -/
def unitWords (bytes : Nat) : Nat := (bytes + 63) / 64

/-- The words of a unit are read in some banks of an SRAM region, and whether one reads as POISON: which words they are is open (R471;
notes/assumptions/5.md). -/
def unitPoison (r reader : Nat) (l : List Nat) : Nat → State → Bool × State
  | 0, s => (false, s)
  | n + 1, s =>
    let w := draw Config.freeNat s
    let x := memRead r (wordNo (l.getD (w.1 % l.length) 64) (w.1 / l.length % bankWords) (useBanks s r)) reader w.2
    let y := unitPoison r reader l n x.2
    (x.1 || y.1, y.2)

/-- The same in a region of DRAM. -/
def unitPoisonFar (r : Nat) : Nat → State → Bool × State
  | 0, s => (false, s)
  | n + 1, s =>
    let w := draw Config.freeNat s
    let x := memRead r (w.1 % regionWords s r) rdPort0 w.2
    let y := unitPoisonFar r n x.2
    (x.1 || y.1, y.2)

/-- A unit is written to the buffers of a region of DRAM: of the words known to be bad there, those it covers are good again, and which these
are is open (R470, R472; notes/assumptions/5.md). -/
def farWritten (r : Nat) (s : State) : State :=
  forAll (s.mem.poisoned.filter (fun p => p.1 = r)) (fun p t =>
    let d := draw Config.freeBool t
    when d.1 (memWritten p.1 p.2) d.2) s

/-- A unit is written to the buffers that lie in some banks of an SRAM region: which of their words it covers is open, so the banks take fresh
contents, words known to be bad may be good again, and the tester yields where it holds a bank that is written (R470, R472, R478;
notes/assumptions/5.md). -/
def bufWritten (r : Nat) (l : List Nat) (s : State) : State :=
  let y := draw Config.freeBool s
  let s := forAll l freshBank (when (y.1 && bgtIn s l) bgtYield y.2)
  forAll (s.mem.poisoned.filter (fun p => p.1 = r && (wordBanks s r p.2).any (fun b => b ∈ l))) (fun p t =>
    let d := draw Config.freeBool t
    when d.1 (memWritten p.1 p.2) d.2) s

end Sys2Proof.Machine
end

