-- ==== Sys2Proof/Machine/Reset.lean ====
section
/-! DEFINITION. What the starts and stops of the module share: the state a start begins from, loss of power, the event ring
and the records kept in internal flash. -/

namespace Sys2Proof.Machine

/-! ## The event ring (R516 to R520) -/

/-- Records the ring holds (R518). -/
def ringCap : Nat := 8388608

/-- Whether a code block raises an EVENT interrupt: bit b of MGT_IBI.MASK, and block 0x03 always (R506). -/
def blockEnabled (s : State) (code : Nat) : Bool :=
  code / 256 = 3 || (getReg s .mgtIbi .A 0).getLsbD (code / 256)

/-- MGT appends a record to the ring; a record of an enabled block makes an EVENT pending (R506, R517, R518), and an
interrupt that becomes pending starts the IBI attempts again (R509). The word of the ring it is written to is no longer known
bad (R470). -/
def appendRecord (r : EvtRec) (s : State) : State :=
  let en := blockEnabled s r.code
  { s with mem := { s.mem with poisoned := s.mem.poisoned.filter (fun p => p ≠ (12, s.mgt.head % ringCap / 2)) }
           mgt := { s.mgt with
      ring := tset none s.mgt.ring (s.mgt.head % ringCap) (some r)
      head := s.mgt.head + 1
      ev := { s.mgt.ev with pending := s.mgt.ev.pending || en }
      evCount := s.mgt.evCount + b01 en
      nacks := if en && ! s.mgt.ev.pending then 0 else s.mgt.nacks
      evCrit := s.mgt.evCrit || (en && (r.code / 256 = 2 || r.code / 256 = 3)) } }

/-- The oldest record of an island's FIFO crosses to MGT (R517). -/
def appendHead (i : Isl) (s : State) : State :=
  match (getIsl s i).fifo with
  | [] => s
  | r :: t => appendRecord r (modIsl i (fun x => { x with fifo := t }) s)

/-- Every record still in a FIFO crosses to MGT; it does so within 20 µs of being raised (R517). -/
def appendAll (s : State) : State :=
  forAll Isl.all (fun i t =>
    forAll (getIsl t i).fifo appendRecord (modIsl i (fun x => { x with fifo := [] }) t)) s

/-- The record with number `n` (R518). -/
def ringRec (s : State) (n : Nat) : Option EvtRec := tget none s.mgt.ring (n % ringCap)

/-- Records that a shutdown writes to internal flash (R520). -/
def savedCap : Nat := 4096

/-- The word of the ring that holds record `n`, and a record of zeros (R471, R518). -/
def slotWord (n : Nat) : Nat := n % ringCap / 2
def zeroRec : EvtRec := { isl := 0, code := 0, epoch := 0, seq := 0, sec := 0, ns := 0, obj := 0, data := 0 }

/-- The last records of the log, oldest first, at most 4,096, each with its check word (R520); one whose word reads as POISON is zeros
(R471). -/
def lastRecords (s : State) : List SavedEvt :=
  let n := min savedCap s.mgt.head
  (List.range n).filterMap (fun k =>
    let i := s.mgt.head - n + k
    (ringRec s i).map (fun r => ⟨if (12, slotWord i) ∈ s.mem.poisoned then zeroRec else r, true⟩))

/-- The words of the last records are read, each with its outcome (R470, R471). -/
def ringReads (s : State) : State :=
  let n := min savedCap s.mgt.head
  memScan 12 rdPort0 0 (ringCap / 2) (fun w => (List.range n).any (fun k => slotWord (s.mgt.head - n + k) = w)) s

/-- The last records go to internal flash; their shutdown record is not written yet (R520). -/
def saveRecords (s : State) : State :=
  let s := ringReads s
  { s with flash := { s.flash with events := lastRecords s, evValid := false } }

/-! ## Self-test and shutdown records (R576, R577) -/

/-- Slots of the record ring in internal flash (R577). -/
def recCap : Nat := 8

/-- KIND codes of R576. -/
def kindOrderly : Nat := 1
def kindOrderlyNoTest : Nat := 2
def kindPowerFail : Nat := 3
def kindAbortedStart : Nat := 4
def kindThermCrit : Nat := 5
def kindStarted : Nat := 6
def kindQuick : Nat := 7

/-- RESULT codes of R576. -/
def resPass : Nat := 0
def resFail : Nat := 1
def resIncomplete : Nat := 2
def resNotRun : Nat := 3

/-- Version of the firmware running (ID_FW, R500). -/
def fwVersion (s : State) : W32 := if s.boot.bank = 0 then s.flash.ver0 else s.flash.ver1

/-- Write a record to the next slot of the ring, with a sequence number one above the last (R577). -/
def writeRec (kind suite overall : Nat) (entries : List TestEntry) (dur peak : Nat) (s : State) : State :=
  let q := match s.flash.recs with
    | [] => 0
    | r :: _ => (r.seq + 1) % 2 ^ 32
  let r : TestRec := { kind := kind, suite := suite, overall := overall, seq := q, sec := s.clk.sec, ns := s.clk.ns
                       lc := lcState s, fw := fwVersion s, durMs := dur, peak := peak, entries := entries }
  { s with flash := { s.flash with recs := (r :: s.flash.recs).take recCap } }

/-- Step of R573, 1 to 5, of a test. -/
def testStep (id : Nat) : Nat :=
  if id < 0x10 then 1 else if id < 0x20 then 2 else if id < 0x30 then 3 else if id < 0x40 then 4 else 5

/-- The engine whose group a test belongs to. -/
def testEng (id : Nat) : Option Eng := if testStep id = 2 then some .A else if testStep id = 3 then some .B else none

/-- A test is skipped at an orderly shutdown: its engine is DISABLED (R573). -/
def testSkipped (s : State) (id : Nat) : Bool :=
  match testEng id with
  | some e => (getEng s e).st = .disabled
  | none => false

/-- Suite time so far, ms. -/
def suiteMs (s : State) : Nat := (now s - s.bist.suiteAt) / 1000000

/-- The highest input power of a suite, 0.1 W: measurements that no command brings are among those it comes from, so it is open, and no less than
those that one brought (R66, R576; notes/assumptions/5.md). -/
def suitePeak (s : State) : State :=
  let d := draw Config.freeNat s
  { d.2 with bist := { d.2.bist with peak := max s.bist.peak (d.1 % 65536) } }

/-- The suite ends, or is cut: its time and its highest input power stand (R576). -/
def closeSuite (s : State) : State :=
  let s := suitePeak s
  { s with bist := { s.bist with durMs := suiteMs s } }

/-- The overall result of a list of test results; `skipped` names tests of a skipped group (R575). -/
def overallOf (es : List TestEntry) (skipped : Nat → Bool) : Nat :=
  if es.any (fun x => x.result = resFail) then resFail
  else if es.any (fun x => x.result = resIncomplete || (x.result = resNotRun && ! skipped x.id)) then resIncomplete
  else resPass

/-- Patterns, words, vectors or measurements that a test of a suite must commit; the manual gives no number, so the maker's value
is open (R572; notes/assumptions/11.md). -/
def testCount (suite id : Nat) : Nat := (Config.factory (700000 + 1000 * suite + id)).toNat % 2 ^ 32

/-- An entry for a test of a suite that a power failure or a THERM_CRIT ended (R569). -/
def abandonedEntry (suite i : Nat) : TestEntry :=
  { id := i, result := resIncomplete, sigMatch := false, cut := false, abandoned := true
    programmed := testCount suite i, committed := 0, detail := 0 }

/-! ## Starts and stops -/

/-- Module time begins again: what was written at a time of the old one was that much before the new one (R242;
notes/assumptions/186.md). -/
def Flash.aged (t : Nat) (f : Flash) : Flash := { f with calWr := f.calWr.map (fun p => (p.1, p.2.map (fun u => u - t))) }

/-- What outlives every stop: the queue, the model's counters, of which that of the noise source's blocks is one, fuses, internal flash,
feeds, pins and the case temperature. -/
def keep (s : State) : State :=
  { State.reset with
    pending := s.pending, free := s.free, status := s.status, fuse := s.fuse, flash := s.flash.aged s.clk.now
    pins := { s.pins with ready := false }
    sec := { draws := s.sec.draws }
    pwr := { feedA := s.pwr.feedA, feedB := s.pwr.feedB, caseT := s.pwr.caseT, run := .off } }

/-- All rails off: nothing but `keep` remains. -/
def powerOff (s : State) : State := keep s

/-- The state in which AON and PWR run and the rest of the module does not: the power registers, the hold-up store and the
time of the TOD island stay, and the time since power good goes on but for the standby, whose end makes power good again (R75, R77, R79, R226,
R504). -/
def keepPowered (run : RunState) (s : State) : State :=
  let k := keep s
  { k with
    pwr := { k.pwr with run := run, holdup := s.pwr.holdup, therm := s.pwr.therm, cmdOff := s.pwr.cmdOff }
    clk := { up := if run = .standby then 0 else s.clk.up + s.clk.now, sec := s.clk.sec, ns := s.clk.ns }
    flags := tset 0 [] (Reg.pwrFlags.addr .A 0 0) (getFlags s (Reg.pwrFlags.addr .A 0 0))
    rsc := forAll' (List.range 11) (fun b t =>
      tset 0 t (rscKey (Reg.pwrFlags.addr .A 0 0) b) (tget 0 s.rsc (rscKey (Reg.pwrFlags.addr .A 0 0) b))) [] }
where
  forAll' (l : List Nat) (f : Nat → Table Nat → Table Nat) (t : Table Nat) : Table Nat := l.foldl (fun t a => f a t) t

/-- Bits of LC are blown by a command that does not tell which of them took in which copy: that is open (R418, R423; notes/assumptions/5.md). -/
def blowOpen (want : BitVec 8) (s : State) : State :=
  let a := draw Config.freeNat s
  let b := draw Config.freeNat a.2
  let c := draw Config.freeNat b.2
  { c.2 with fuse := c.2.fuse.blowLc (BitVec.ofNat 8 a.1 &&& want) (BitVec.ofNat 8 b.1 &&& want) (BitVec.ofNat 8 c.1 &&& want) }

/-- The latest record whose check word passes (R577). -/
def latestRec (s : State) : Option TestRec := s.flash.recs.find? (fun r => r.crcOk)

/-- Steps 1 and 2 of R77 begin: the fuses are being read, the NVM pins may be driven (R90), the saved records of the last
shutdown are read back to the first whose check word fails (R520), and the latest self-test record is copied (R577). -/
def beginStart (s : State) : State :=
  { s with
    pwr := { s.pwr with run := .starting, cmdOff := false }
    clk := { s.clk with now := 0, epoch := 0 }
    boot := { phase := 2 }
    bist := { last := latestRec s }
    mgt := { prev := (s.flash.events.takeWhile (fun r => r.crcOk)).map (fun r => r.evt), prevValid := s.flash.evValid } }

/-- The module starts again at step 1 of R77 with its rails on (R81, R115, R487, R504). -/
def restart (s : State) : State := beginStart (keepPowered .starting s)

/-- Stop every downstream and upstream function at once: schedulers send no map and burst receivers close (R47). -/
def stopSchedulers (s : State) : State :=
  forAll engines (fun e => modEng e (fun x => { x with mapsStopped := true, maps := [], rx := [] })) s

/-- Lasers, groups, converters and client lanes without power (R47). -/
def darken (s : State) : State :=
  let s := forAll engines (fun e => modDown e (fun d =>
    { d.silent with laser := .dark, grp := [], scs := [], framer := false, cells := [], env := {}, offing := false, sigLock := false, loLock := false })) s
  { s with cln := { s.cln with ports := [], lanes := [] } }

/-- The DRAM loses its power and with it all it held: flow contexts and their packets, the event ring and the scratchpad
(R47, R474). -/
def dramOff (s : State) : State :=
  { s with
    boot := { s.boot with dram := false, ctx := false, dramInit := false }
    flow := { hashKey := s.flow.hashKey }
    ctrs := s.ctrs.foldl (fun t p => tset {} t p.1 { p.2 with queue := [], out := [] }) s.ctrs
    upd := { s.upd with stage := [], marks := [] }
    mem := { s.mem with scratch := [], poisoned := s.mem.poisoned.filter (fun p => p.1 < 8) }
    mgt := { s.mgt with ring := [] } }

/-- The module runs: it is starting, ready or in its boot ROM, and no emergency shutdown has begun. -/
def alive (s : State) : Bool :=
  (s.pwr.run = .starting || s.pwr.run = .ready || s.pwr.run = .bootRom) && s.pwr.emerg = .none

/-- READY is asserted, and neither an emergency nor an orderly shutdown has begun. -/
def inService (s : State) : Bool := s.pwr.run = .ready && s.pwr.emerg = .none && s.bist.st = 0

end Sys2Proof.Machine
end

