-- ==== Sys2Proof/Machine/Access.lean ====
section
/-! DEFINITION. Who owns a register, and what the state of the module, of an engine or of an island makes of a host access
(R80, R485, R498, R499, R531, R568, R605). -/

namespace Sys2Proof.Machine

/-- The island that owns a register (R605; notes/assumptions/10.md for the registers whose owner no rule names). -/
def Reg.owner (r : Reg) (e : Eng) : Isl :=
  match r with
  | .idPart | .idVariant | .idPidHi | .idPidLo | .idSerial | .idMacHi | .idMacLo | .idFw | .idLc => .aon
  | .pwrFeedA | .pwrFeedB | .pwrStatus | .pwrFlags | .pwrRsc | .pwrThermCfg | .pwrTempCase | .pwrTempLsrA
  | .pwrTempLsrB => .aon
  | .pwrIn | .pwrCap | .pwrDroopCfg | .pwrIsl => .pwr
  | .flowQcfg | .flowLeafq | .flowEgq | .flowMove | .flowCount | .flowCache | .flowFlags | .flowRsc | .flowPort
  | .flowPortCnt => .flow
  | .todStatus | .todCfg | .todHold | .todSetHi | .todSetLo | .todNowHi | .todNowLo | .todNowNs | .todOffset
  | .todPtpAsym | .todLeafAsym | .todFlags | .todRsc => .tod
  | .dsGrpEn | .dsGrpFmt | .dsRamp | .dsFrame | .dsGrpState | .dsTx | .dsAis | .dsRdi | .dsFlags | .dsRsc | .dsSc => e.txd
  | .dsOptTx | .dsOptState | .dsOptFlags | .dsOptRsc => e.txc
  | .usFeCfg | .usFeGainX | .usFeGainY | .usFlags | .usRsc => e.rxc
  | .usTreeDs | .usTreeUs | .usTreeCd | .usTreeReach | .usGd | .usScDly | .usScNco | .usDet => e.rxd
  | .brxCfg | .brxAgc | .brxSeed | .brxFlags | .brxRsc | .brxSc | .brxLast => e.rxd
  | .frmDefCfg | .frmDefStatus | .frmDefLeaves | .frmFlags | .frmRsc | .frmLeaf => e.rxd
  | .apsCfg | .apsRamp | .apsCmd | .apsStatus | .apsOfs | .apsDup | .apsLast | .apsAbsent | .frmSset | .frmCtr => e.txd
  | .schedCfg | .schedQuiet | .schedPwr | .schedRng | .schedReg | .schedAge | .schedZ | .schedEqdDisc | .schedSqLen
  | .schedTurn | .schedLeaves | .schedFlags | .schedRsc | .schedProf0 | .schedProf1 | .schedProf2 | .schedProf3 => e.txd
  | .calCfg | .calCtl | .calStatus | .calTlast | .calFeDly | .calRec | .calFlags | .calRsc | .calIq | .calIlv => e.rxc
  | .calTx | .calSc => e.txc
  | .clnCfg | .clnStatus | .clnFlags | .clnRsc | .clnGrp | .clnPort | .clnPortSt | .clnLane | .clnLaneSt => .cltx
  | .secStatus | .secCfg | .secKeyCmd | .secFlags | .secRsc | .secDevPub | .secKeyhash | .secProvHash | .secProvCmd
  | .secLcCmd | .secAnchor | .secSlot | .secSlotIc | .secLeaf => .key
  | .memStatus | .memScrub | .memBgt | .memScratch | .memMove | .memMoveSt | .memEccAddr | .memFlags | .memRsc
  | .memBank | .memLap => .dmem
  | .bootStatus | .bootImgErr | .bootImgErr2 | .bootEngErr | .bootImgVer | .bootImgLen | .bootArb | .bootNvmMode
  | .bootImgSkipped | .bootTime | .bootTimeTr | .bootImgDigest | .bootFlags | .bootRsc | .bootCtl => .mgt
  | .mgtWstat | .mgtI3c | .mgtLimits | .mgtIbi | .mgtPinCfg | .mgtFault | .mgtAlert | .mgtFlags | .mgtRsc | .evtHeadHi
  | .evtHeadLo | .evtIbiHead | .evtPrev | .evtEpoch | .evtLost => .mgt
  | .tallyStatus | .tallyCtl | .tallyFlags | .tallyRsc | .tallySet | .tallyChain | .tallyMode => .mgt
  | .updCtl | .updStatus | .updCfg | .updPkgVer | .updPkgLen | .updSect | .updHard | .updDone | .updFlags | .updRsc
  | .updEngCtl | .updEngSt | .updIsl | .updStale => .mgt
  | .bistCtl | .bistCfg | .bistStatus | .bistLast | .bistQuick | .bistFlags | .bistRsc | .bistPrevRec
  | .bistQuickRec => .mgt

/-- What an island's fence makes of an access (R490, R531). -/
def fenceStatus (s : State) (i : Isl) : Status :=
  match (getIsl s i).fence with
  | .run => .ok
  | .quiesce | .drain => .retry
  | .fenced | .reset | .resume => .errState

/-- The first status that is not OK. -/
def Status.orElse (a b : Status) : Status := if a = .ok then b else a

/-- The worse of two statuses in the order of R490. -/
def Status.rank : Status → Nat
  | .errAddr => 0 | .errAccess => 1 | .errRange => 2 | .errState => 3 | .retry => 4 | .busy => 5 | .collided => 6
  | .poison => 7 | .ok => 8
def Status.worse (a b : Status) : Status := if a.rank ≤ b.rank then a else b

/-- The second island of a register whose receive fields belong to RXC and whose transmit fields to TXC (R245); what concerns both belongs to
both. -/
def Reg.also (r : Reg) (e : Eng) : Option Isl :=
  match r with
  | .calCfg | .calStatus | .calTlast | .calRec | .calFlags | .calRsc => some e.txc
  | .calSc => some e.rxc
  | _ => none

/-- What the fences of its islands make of an access to a register; a word with fields of two islands follows both (notes/assumptions/10.md). -/
def regFence (s : State) (r : Reg) (e : Eng) : Status :=
  (fenceStatus s (r.owner e)).worse (match r.also e with
    | some i => fenceStatus s i
    | none => .ok)

/-- What the state of the module makes of an access: before READY only reads of ID_ and BOOT_ registers are answered, and in
BLANK and VOID only reads of ID_ registers (R80, R86); from an accepted shutdown every write is refused (R568). -/
def moduleStatus (s : State) (wr idReg bootReg : Bool) : Status :=
  match s.pwr.run with
  | .ready => if wr && s.bist.st ≠ 0 then .errState else .ok
  | .starting => if wr || ! (idReg || bootReg) then .errState else .ok
  | .bootRom =>
    if wr || ! (idReg || (bootReg && s.boot.bootRomFault)) then .errState else .ok
  | .off | .standby | .held => .errState

/-- The status byte of R490. -/
def Status.code : Status → Nat
  | .ok => 0x00 | .busy => 0x01 | .retry => 0x02 | .errAddr => 0x10 | .errAccess => 0x11 | .errRange => 0x12
  | .errState => 0x13 | .poison => 0x20 | .collided => 0x21

/-- A register of the ID_ or BOOT_ blocks, by its address. -/
def isIdAddr (a : Nat) : Bool := a < 0x01000000
def isBootAddr (a : Nat) : Bool := 0x02000000 ≤ a && a < 0x03000000

/-- Whether a host write to a word of island `i` may be applied: the module, then the fence of the island (R499, R531). -/
def writeGate (s : State) (i : Isl) : Status :=
  (moduleStatus s true false false).worse (fenceStatus s i)

/-- As `writeGate`, for a word in an engine's window: every write to the window of a DISABLED engine is refused (R498). -/
def engWriteGate (s : State) (e : Eng) (i : Isl) : Status :=
  (writeGate s i).worse (if (getEng s e).st = .disabled then .errState else .ok)

/-- A host write: applied when its gate and its own refusals allow it. -/
def refuseOr (st : Status) (f : State → State) (s : State) : State × Status :=
  if st = .ok then (f s, .ok) else (s, st)

/-- Record the status a host write returned. -/
def setStatus (p : State × Status) : State := { p.1 with status := p.2 }

end Sys2Proof.Machine
end

