-- ==== Sys2Proof/Machine/Gcm.lean ====
section
/-! DEFINITION. AES-256-GCM as R436 uses it (NIST SP 800-38D), over the AES block cipher of Config. -/

namespace Sys2Proof.Machine

/-- The 128-bit block of up to 16 bytes, zero bits behind them. -/
def gcmBlock (l : List Byte) : BitVec 128 := BitVec.ofNat 128 (beNat (l ++ List.replicate (16 - l.length) 0))

/-- The blocks of a byte string, the last one padded with zero bits. -/
def gcmBlocks (l : List Byte) : List (BitVec 128) := (chunks 16 l.length l).map gcmBlock

/-- The product in GF(2^128) of GCM: bit 0 of a block is its most significant one. -/
def gcmMul (x y : BitVec 128) : BitVec 128 :=
  ((List.range 128).foldl (fun (p : BitVec 128 × BitVec 128) i =>
    (if x.getMsbD i then p.1 ^^^ p.2 else p.1,
     if p.2.getLsbD 0 then (p.2 >>> 1) ^^^ (0xE1 : BitVec 128) <<< 120 else p.2 >>> 1)) (0, y)).1

/-- GHASH of associated data and ciphertext, each padded, and the block of their lengths in bits. -/
def ghash (h : BitVec 128) (aad text : List Byte) : BitVec 128 :=
  let lens : BitVec 128 := BitVec.ofNat 128 (8 * aad.length * 2 ^ 64 + 8 * text.length)
  (gcmBlocks aad ++ gcmBlocks text ++ [lens]).foldl (fun a b => gcmMul (a ^^^ b) h) 0

/-- The counter block of a 96-bit IV: 1 for the tag, 2 and up for the text. -/
def gcmCounter (iv : List Byte) (n : Nat) : BitVec 128 := BitVec.ofNat 128 (beNat (iv.take 12) * 2 ^ 32 + n % 2 ^ 32)

/-- The blocks of keystream for `n` bytes. -/
def gcmStream (key : BitVec 256) (iv : List Byte) (n : Nat) : List (BitVec 128) :=
  (List.range ((n + 15) / 16)).map (fun i => Config.aes256 key (gcmCounter iv (i + 2)))

/-- Text under the keystream, which is cut to the bytes there are. -/
def gcmCrypt (key : BitVec 256) (iv text : List Byte) : List Byte :=
  List.zipWith (fun a b => a ^^^ b) text ((gcmStream key iv text.length).flatMap (fun b => toBytes 16 b.toNat))

/-- The tag of a ciphertext; `h` is the hash subkey. -/
def gcmTag (key : BitVec 256) (h : BitVec 128) (iv aad text : List Byte) : List Byte :=
  toBytes 16 (ghash h aad text ^^^ Config.aes256 key (gcmCounter iv 1)).toNat

/-- Ciphertext and tag of a body. -/
def gcmSeal (key : BitVec 256) (h : BitVec 128) (iv aad body : List Byte) : List Byte × List Byte :=
  let c := gcmCrypt key iv body
  (c, gcmTag key h iv aad c)

/-- The body of a ciphertext whose tag agrees. -/
def gcmOpen (key : BitVec 256) (h : BitVec 128) (iv aad text tag : List Byte) : Option (List Byte) :=
  if gcmTag key h iv aad text = tag then some (gcmCrypt key iv text) else none

end Sys2Proof.Machine
end

