-- ==== Sys2Proof/Machine/Shaker.lean ====
section
/-! DEFINITION. The Shaker: the CTR_DRBGs of KEY and of the cipher lanes, their reseeding, and the shares in which CRYP holds keys
(R426 to R428, R432, R444). -/

namespace Sys2Proof.Machine

/-! ## CTR_DRBG with AES-256, without derivation function (R426) -/

/-- Blocks of output: V counts on before each. -/
def drbgBlocks : Nat → Drbg → List (BitVec 128) × Drbg
  | 0, d => ([], d)
  | n + 1, d =>
    let v := d.v + 1
    let r := drbgBlocks n { d with v := v }
    (Config.aes256 d.key v :: r.1, r.2)

/-- The update function with 384 provided bits. -/
def drbgUpdate (d : Drbg) (data : BitVec 384) : Drbg :=
  let t : BitVec 384 := BitVec.ofNat 384 ((drbgBlocks 3 d).1.foldl (fun a b => a * 2 ^ 128 + b.toNat) 0) ^^^ data
  { d with key := (t >>> 128).setWidth 256, v := t.setWidth 128 }

/-- Instantiation, and reseeding, from 384 bits of full entropy. -/
def drbgSeed (e : BitVec 384) : Drbg := drbgUpdate {} e
def drbgReseed (d : Drbg) (e : BitVec 384) : Drbg := { drbgUpdate d e with cnt := 0 }

/-- One request for `n` bytes. -/
def drbgGen (n : Nat) (d : Drbg) : List Byte × Drbg :=
  let r := drbgBlocks ((n + 15) / 16) d
  ((r.1.flatMap (fun b => toBytes 16 b.toNat)).take n, { drbgUpdate r.2 0 with cnt := d.cnt + 1 })

/-! ## The central DRBG (R426, R428) -/

/-- The next `n` blocks of raw bits from the noise source, which is the module's only random source: free values. -/
def rawBlocks (n : Nat) (s : State) : List (BitVec 128) × State :=
  ((List.range n).map (fun i => Config.noise (s.sec.draws + i)), { s with sec := { s.sec with draws := s.sec.draws + n } })

/-- AES-256 CBC-MAC of whole blocks, the conditioning component (R426). -/
def cbcMac (bs : List (BitVec 128)) : BitVec 128 := bs.foldl (fun a b => Config.aes256 Config.condKey (a ^^^ b)) 0

/-- 384 full-entropy bits: three conditioned blocks. Each takes 3 raw blocks: at 0.5 bit a bit they hold 192 bits, the 64 above the output
that SP 800-90B asks for; the spec gives neither the number nor the key (DESIGN CHOICE, unsafe; notes/assumptions/222.md). -/
def entropy (s : State) : BitVec 384 × State :=
  let p := rawBlocks 9 s
  ((List.range 3).foldl (fun a i => a <<< 128 ||| (cbcMac ((p.1.drop (3 * i)).take 3)).setWidth 384) 0, p.2)

/-- Change the central DRBG. -/
def setDrbg (d : Drbg) (s : State) : State := { s with sec := { s.sec with drbg := d } }

/-- The central DRBG reseeds, and is instantiated, from the noise source. -/
def reseedCentral (s : State) : State :=
  let p := entropy s
  setDrbg (drbgReseed s.sec.drbg p.1) p.2
def seedCentral (s : State) : State :=
  let p := entropy s
  setDrbg (drbgSeed p.1) p.2

/-- Requests after which the central DRBG, and a lane DRBG, reseeds (R428). -/
def centralLife : Nat := 2 ^ 16
def laneLife : Nat := 2 ^ 20

/-- A request to the Shaker for `n` bytes; `fresh` asks for prediction resistance, which reseeds first (R428). -/
def shake (fresh : Bool) (n : Nat) (s : State) : List Byte × State :=
  let t := if (fresh || centralLife ≤ s.sec.drbg.cnt) && s.sec.shakerOk then reseedCentral s else s
  let p := drbgGen n t.sec.drbg
  (p.1, setDrbg p.2 t)

/-! ## The lane DRBGs (R426, R428, R444) -/

/-- Cipher lanes (R435). -/
def cipherLanes : Nat := 64

/-- A lane DRBG takes 384 bits of the central one over the private key bus: it is seeded with them, or reseeds. -/
def laneBits (k : Nat) (f : Drbg → BitVec 384 → Drbg) (s : State) : State :=
  let p := shake false 48 s
  { p.2 with sec := { p.2.sec with
      lanes := tset {} p.2.sec.lanes k (f (tget {} p.2.sec.lanes k) (BitVec.ofNat 384 (beNat p.1))) } }
def seedLane (k : Nat) (s : State) : State := laneBits k (fun _ b => drbgSeed b) s
def reseedLane (k : Nat) (s : State) : State := laneBits k drbgReseed s

/-- All lanes are seeded at power good, and reseed at every CRYP resume (R426, R428). -/
def seedLanes (s : State) : State := forAll (List.range cipherLanes) seedLane s
def reseedLanes (s : State) : State := forAll (List.range cipherLanes) reseedLane s

/-- A lane holds a block `x` as x ⊕ m and m, and refreshes m with a request of its own DRBG, which reseeds after 2^20 requests while the
Shaker gives bits (R428, R429, R444). -/
def laneBlock (k : Nat) (x : BitVec 128) (s : State) : State :=
  let t := if laneLife ≤ (tget {} s.sec.lanes k).cnt && s.sec.shakerOk then reseedLane k s else s
  let p := drbgGen 16 (tget {} t.sec.lanes k)
  let m := BitVec.ofNat 128 (beNat p.1)
  { t with sec := { t.sec with lanes := tset {} t.sec.lanes k p.2, blocks := tset (0, 0) t.sec.blocks k (x ^^^ m, m) } }

/-- The blocks of a unit pass through the next lane, each under a fresh mask (R435, R444; notes/assumptions/172.md for the order of the
lanes). -/
def throughLane (bs : List (BitVec 128)) (s : State) : State :=
  let k := s.sec.laneNo % cipherLanes
  forAll bs (laneBlock k) { s with sec := { s.sec with laneNo := s.sec.laneNo + 1 } }

/-! ## Keys in two shares (R432, R444) -/

/-- The key that the two shares stand for. No field of the state holds it: it stands for what the masked AES core computes with the shares
(DESIGN CHOICE, safe; notes/assumptions/172.md). -/
def Gen.key (g : Gen) : BitVec 256 := g.share ^^^ g.mask

/-- The hash subkey that the two shares stand for. -/
def Gen.subkey (g : Gen) : BitVec 128 := g.hShare ^^^ g.hMask

/-- A key as the Banker keeps it, with a mask from the Shaker, and the key that its shares stand for (R444). -/
def makeBank (key : BitVec 256) (salt : W32) (s : State) : BankKey × State :=
  let p := shake false 32 s
  let m := BitVec.ofNat 256 (beNat p.1)
  ({ share := key ^^^ m, mask := m, salt := salt }, p.2)
def BankKey.key (b : BankKey) : BitVec 256 := b.share ^^^ b.mask

/-- A generation written: its key and its hash subkey are held as x ⊕ m and m, with masks from the Shaker. -/
def makeGen (key : BitVec 256) (salt : W32) (s : State) : Gen × State :=
  let p := shake false 48 s
  let m := BitVec.ofNat 256 (beNat (p.1.take 32))
  let h := BitVec.ofNat 128 (beNat (p.1.drop 32))
  ({ share := key ^^^ m, mask := m, hShare := Config.aes256 key 0 ^^^ h, hMask := h, salt := salt }, p.2)

end Sys2Proof.Machine
end

