-- ==== Sys2Proof/Machine/Line.lean ====
section
/-! DEFINITION. The downstream line signal as functions of what is sent: constellations, markers, header and cell checks, the
product code, the scrambler, the interleaver and where cells begin (R116 to R141). -/

namespace Sys2Proof.Machine

/-! ## Bits -/

/-- The `n` low bits of a number, most significant first (R8). -/
def bitsOf : Nat → Nat → List Bool
  | 0, _ => []
  | n + 1, v => v.testBit n :: bitsOf n v

/-- The number that bits spell, most significant first. -/
def ofBits (l : List Bool) : Nat := l.foldl (fun a b => 2 * a + b01 b) 0

/-! ## Constellations (R119 to R122) -/

/-- Bits per dual-polarization symbol of a format code (R119, R127). -/
def bitsPerSymbol : Nat → Nat
  | 0 => 4 | 1 => 6 | 2 => 8 | 3 => 10 | 4 => 12
  | _ => 0

/-- The Gray levels of one coordinate from 1, 2 or 3 bits (R120). -/
def grayLevel : List Bool → Int
  | [false] => 1 | [true] => -1
  | [false, false] => 3 | [false, true] => 1 | [true, true] => -1 | [true, false] => -3
  | [false, false, false] => 7 | [false, false, true] => 5 | [false, true, true] => 3 | [false, true, false] => 1
  | [true, true, false] => -1 | [true, true, true] => -3 | [true, false, true] => -5 | [true, false, false] => -7
  | _ => 0

/-- The magnitudes of DP-32QAM from e[2:0] (R121). -/
def crossLevel : Nat → Int × Int
  | 0 => (1, 1) | 1 => (3, 1) | 3 => (5, 1) | 6 => (1, 5) | 4 => (1, 3) | 5 => (3, 3) | 7 => (5, 3) | 2 => (3, 5)
  | _ => (0, 0)

/-- The unnormalised point of one polarization from its m = b/2 bits, e[m−1] first (R120, R121). -/
def constPoint (fmt : Nat) (e : List Bool) : Int × Int :=
  match fmt with
  | 0 => (grayLevel (e.take 1), grayLevel (e.drop 1))
  | 1 => (grayLevel (e.take 2), grayLevel (e.drop 2))
  | 2 => (grayLevel (e.take 2), grayLevel (e.drop 2))
  | 3 =>
    let m := crossLevel (ofBits (e.drop 2))
    ((if e.getD 0 false then -m.1 else m.1), (if e.getD 1 false then -m.2 else m.2))
  | 4 => (grayLevel (e.take 3), grayLevel (e.drop 3))
  | _ => (0, 0)

/-- The square of the scale divisor of a format (R122). -/
def constScaleSq : Nat → Nat
  | 0 => 2 | 1 => 6 | 2 => 10 | 3 => 20 | 4 => 42
  | _ => 0

/-- The points of the X and Y polarizations of one symbol (R119). -/
def dpSymbol (fmt : Nat) (e : List Bool) : (Int × Int) × (Int × Int) :=
  let m := bitsPerSymbol fmt / 2
  (constPoint fmt (e.take m), constPoint fmt (e.drop m))

/-! ## Marker and pilots (R124) -/

/-- `k` bits of the generator of R124 from its two 9-bit states. -/
def markerGen : Nat → Nat → Nat → List Bool
  | 0, _, _ => []
  | k + 1, a, c =>
    let m := (a.testBit 8).xor (c.testBit 8)
    let fa := b01 ((a.testBit 8).xor (a.testBit 4))
    let fc := b01 ((c.testBit 8).xor (c.testBit 3))
    m :: markerGen k ((2 * a + fa) % 512) ((2 * c + fc) % 512)

/-- The 896 marker and pilot bits of subcarrier `n`. -/
def markerBits (n : Nat) : List Bool := markerGen 896 0x1FF (n + 1)

/-- The four bits of marker symbol `k`, and of pilot `j`, in the order XI, XQ, YI, YQ. -/
def markerSymbol (n k : Nat) : List Bool := ((markerBits n).drop (4 * k)).take 4
def pilotSymbol (n j : Nat) : List Bool := ((markerBits n).drop (384 + 4 * j)).take 4

/-! ## Checks -/

/-- One byte of a CRC of width 8, most significant bit first. -/
def crc8Bits : Nat → Nat → Nat
  | 0, c => c
  | k + 1, c => crc8Bits k (if c.testBit 7 then ((2 * c) % 256) ^^^ 0x07 else 2 * c)

/-- CRC-8 with x^8 + x^2 + x + 1, initial value 0, no reflection (R126). -/
def crc8 (l : List Byte) : Nat := l.foldl (fun c b => crc8Bits 8 (c ^^^ b.toNat)) 0

/-- CRC-16 and CRC-32 steps for the other frames of the manual. -/
def crc16Bits (poly : Nat) : Nat → Nat → Nat
  | 0, c => c
  | k + 1, c => crc16Bits poly k (if c.testBit 15 then ((2 * c) % 65536) ^^^ poly else 2 * c)

/-- A CRC of width 16, most significant bit first, no reflection. -/
def crc16 (poly init : Nat) (l : List Byte) : Nat :=
  l.foldl (fun c b => crc16Bits poly 8 (c ^^^ (b.toNat * 256))) init

/-- One byte of the reflected CRC-32C. -/
def crc32cBits : Nat → Nat → Nat
  | 0, c => c
  | k + 1, c => crc32cBits k (if c % 2 = 1 then (c / 2) ^^^ 0x82F63B78 else c / 2)

/-- CRC-32C: polynomial 0x1EDC_6F41 bit-reflected, initial value and final XOR 0xFFFF_FFFF (R97). -/
def crc32c (l : List Byte) : Nat :=
  (l.foldl (fun c b => crc32cBits 8 (c ^^^ b.toNat)) 0xFFFFFFFF) ^^^ 0xFFFFFFFF

/-! ## Header (R125 to R128) -/

/-- The fields of a frame header, without its CRC (R125). -/
structure Header where
  fc : Nat
  mfc : Nat
  aps : Nat
  ais : Bool
  rdiAll : Bool
  eng : Nat
  mapPtr : Nat
  aux : Nat
  rdiMap : Nat
  deriving DecidableEq, Repr

/-- Bits [127:8] of a header. -/
def Header.body (h : Header) : Nat :=
  h.fc * 2 ^ 112 + h.mfc * 2 ^ 104 + h.aps * 2 ^ 88 + b01 h.ais * 2 ^ 87 + b01 h.rdiAll * 2 ^ 86 + h.eng * 2 ^ 85
    + h.mapPtr * 2 ^ 76 + h.aux * 2 ^ 64 + h.rdiMap

/-- The 128 bits of a header with its CRC (R125, R126). -/
def Header.bits (h : Header) : BitVec 128 :=
  BitVec.ofNat 128 (h.body * 256 + crc8 (toBytes 15 h.body))

/-- A received header's CRC is good (R126). -/
def headerCrcOk (h : BitVec 128) : Bool := crc8 (toBytes 15 (h.toNat / 256)) = h.toNat % 256

/-- AUX of an odd frame: format code and GROUP_STATE (R127). -/
def auxOdd (fmt grpState : Nat) : Nat := fmt * 512 + grpState * 128

/-- Leaf block index of RDI_MAP on subcarrier `n` in a frame with count `fc` (R128). -/
def rdiBlock (n fc : Nat) : Nat := 32 * (fc % 2) + n

/-- RDI_MAP as a 64-bit number: bit 63 − i is the leaf 64 q + i (R128). -/
def rdiMapOf (q : Nat) (rdi : Nat → Bool) : Nat :=
  ofBits ((List.range 64).map (fun i => rdi (64 * q + i)))

/-- Frame number order (R129): `a` is later than `b`. -/
def fnLater (a b : Nat) : Bool := serBefore 16 b a

/-! ## Cells (R137 to R140) -/

/-- A cell header from its fields, with its HEC (R138). -/
def cellHeader (typ slot cseq boundary : Nat) : W32 :=
  let top := typ * 2 ^ 22 + slot * 2 ^ 18 + cseq * 2 ^ 10 + boundary * 2
  BitVec.ofNat 32 (top * 256 + (crc8 (toBytes 3 top) ^^^ 0x55))

/-- BOUNDARY when no unit begins in the cell (R138). -/
def noBoundary : Nat := 511

/-- Payload bytes of a cell (R137). -/
def cellBytes : Nat := 260

/-- Bits of a cell (R137). -/
def cellBits : Nat := 2112

/-- The idle cell of a slot (R140). -/
def idleHeader (slot : Nat) : W32 := cellHeader 0 slot 0 noBoundary

/-! ## Rows, blocks and where cells begin (R132 to R136) -/

/-- Rows of 256 bits in a frame of a format, H = 31.5 b (R134). -/
def rowsPerFrame (fmt : Nat) : Nat := 63 * bitsPerSymbol fmt / 2

/-- Row and block of row `p` of undelayed frame `fc` (R134). -/
def rowOf (fmt fc p : Nat) : Nat × Nat :=
  let k := fc * rowsPerFrame fmt + p
  (k % 256, k / 256)

/-- The undelayed frame whose row stands at position `p` of frame `f`; none before the subcarrier's first frame (R135). -/
def rowFrame (f p : Nat) : Option Nat := if p % 8 ≤ f then some (f - p % 8) else none

/-- Information bits of a multiframe's row stream before row `k` (R132, R134). -/
def infoBefore (k : Nat) : Nat := (k / 256) * 57121 + min (k % 256) 239 * 239

/-- Information bits of a whole multiframe of a format. -/
def infoPerMultiframe (fmt : Nat) : Nat := infoBefore (256 * rowsPerFrame fmt)

/-- Cells that begin in undelayed frame `fc` when the next cell begins at information bit `pos` of the multiframe. -/
def cellsInFrame (fmt fc pos : Nat) : Nat :=
  let stop := infoBefore ((fc + 1) * rowsPerFrame fmt)
  if pos < stop then (stop - pos + cellBits - 1) / cellBits else 0

/-! ## Scrambler and product code (R130 to R133) -/

/-- The additive scrambler over a stream of information bits from a 31-bit state (R133). -/
def scramble : Nat → List Bool → List Bool
  | _, [] => []
  | s, u :: l =>
    let z := (s.testBit 30).xor (s.testBit 2)
    (u.xor z) :: scramble ((2 * s + b01 z) % 2 ^ 31) l

/-- Start state of the scrambler of subcarrier `n`. -/
def scrambleInit (n : Nat) : Nat := 0x7FFFFFFF - n

/-- Remainder register of a division by x^w + poly, one bit after another. -/
def polyRem (w poly : Nat) (l : List Bool) : Nat :=
  l.foldl (fun r b =>
    let t := (2 * r) % 2 ^ w
    if (r.testBit (w - 1)).xor b then t ^^^ poly else t) 0

/-- The low bits of g(x) = 0x1_6F63 (R130). -/
def bchPoly : Nat := 0x6F63

/-- A codeword of eBCH(256,239): 239 information bits, 16 parity bits, and the XOR of the first 255 positions (R131). -/
def bchRow (u : List Bool) : List Bool :=
  let c := u ++ bitsOf 16 (polyRem 16 bchPoly u)
  c ++ [c.foldl Bool.xor false]

/-- Column `c` of a list of rows. -/
def column (rows : List (List Bool)) (c : Nat) : List Bool := rows.map (fun r => r.getD c false)

/-- Row 239 + `r` of a block from its rows 0 to 238: the parity of every column (R132). -/
def parityRow (top : List (List Bool)) (r : Nat) : List Bool :=
  (List.range 256).map (fun c => (bchRow (column top c)).getD (239 + r) false)

/-- A block of 239 rows of 239 information bits, encoded by rows and then by columns (R132). -/
def encodeBlock (rows : List (List Bool)) : List (List Bool) :=
  let top := rows.map bchRow
  top ++ (List.range 17).map (parityRow top)

/-- State of the scrambler after `n` information bits. -/
def scrambleState : Nat → Nat → Nat
  | 0, s => s
  | n + 1, s => scrambleState n ((2 * s + b01 ((s.testBit 30).xor (s.testBit 2))) % 2 ^ 31)

/-! ## Rows of a frame (R132 to R135) -/

/-- `n` rows of the row stream from row `k` on, from scrambled information bits and the rows of the block in progress; with the
rows of the block that is in progress after them (R132, R134). -/
def nextRows : Nat → Nat → List Bool → List (List Bool) → List (List Bool) × List (List Bool)
  | 0, _, _, blk => ([], blk)
  | n + 1, k, info, blk =>
    if k % 256 < 239 then
      let row := bchRow (info.take 239)
      let r := nextRows n (k + 1) (info.drop 239) (blk ++ [row])
      (row :: r.1, r.2)
    else
      let row := parityRow blk (k % 256 - 239)
      let r := nextRows n (k + 1) info (if k % 256 = 255 then [] else blk)
      (row :: r.1, r.2)

/-- A row of zeros, which is sent in place of a row before the subcarrier's first frame (R135). -/
def zeroRow : List Bool := List.replicate 256 false

/-- The rows launched in a frame: at position `p` row `p` of the undelayed frame `p mod 8` before it (R135). -/
def interleave (now : List (List Bool)) (hist : List (List (List Bool))) : List (List Bool) :=
  (List.range now.length).map (fun p => (((now :: hist)[p % 8]?).getD []).getD p zeroRow)

/-- The bits of a cell in the order they are sent: the header from bit 31, then the payload bytes, most significant bit first
(R137). -/
def Cell.bits (c : Cell) : List Bool := bitsOf 32 c.header.toNat ++ c.payload.flatMap (fun b => bitsOf 8 b.toNat)

/-- Take the cells that begin in undelayed frame `fc` into the stream of subcarrier `n`: the rows launched, and the stream after
them (R133 to R137). -/
def launchRows (n fmt fc : Nat) (cells : List Cell) (x : ScSt) : List (List Bool) × ScSt :=
  let h := rowsPerFrame fmt
  let scr := if fc = 0 then scrambleInit n else x.scr
  let need := infoBefore ((fc + 1) * h) - infoBefore (fc * h)
  let bits := x.carry ++ cells.flatMap Cell.bits
  let r := nextRows h (fc * h) (scramble scr (bits.take need)) (if fc = 0 then [] else x.blk)
  (interleave r.1 x.hist,
    { x with carry := bits.drop need, scr := scrambleState need scr, blk := r.2, hist := (r.1 :: x.hist).take 7 })

/-! ## Symbols of a frame (R119, R122 to R124, R126, R136) -/

/-- The symbol that `b` bits of a format give. -/
def symOf (fmt : Nat) (e : List Bool) : Sym :=
  let p := dpSymbol fmt e
  ⟨p.1.1, p.1.2, p.2.1, p.2.2, constScaleSq fmt⟩

/-- `k` groups of `b` bits from the head of a list. -/
def groupsFrom (b : Nat) : Nat → List Bool → List (List Bool)
  | 0, _ => []
  | k + 1, l => l.take b :: groupsFrom b k (l.drop b)

/-- Data blocks of a frame: a pilot and 63 data symbols each. -/
def dataSyms (n : Nat) : Nat → List Sym → List Sym
  | 0, _ => []
  | k + 1, l => symOf 0 (pilotSymbol n (127 - k)) :: l.take 63 ++ dataSyms n k (l.drop 63)

/-- The 8,320 symbols of a frame of subcarrier `n`: marker, header, and pilots with the data symbols that the rows fill in order
(R123, R136). -/
def frameSymbols (n fmt : Nat) (hdr : BitVec 128) (rows : List (List Bool)) : List Sym :=
  (List.range 96).map (fun k => symOf 0 (markerSymbol n k))
    ++ (groupsFrom 4 32 (bitsOf 128 hdr.toNat)).map (symOf 0)
    ++ dataSyms n 128 ((groupsFrom (bitsPerSymbol fmt) 8064 rows.flatten).map (symOf fmt))

/-! ## Ramps (R144) -/

/-- Position of a ramp at a time: 0 is dark and `dur` is full. -/
def Env.pos (x : Env) (t : Nat) : Nat :=
  if x.still then x.origin else if x.rising then min x.dur (x.origin + (t - x.since)) else x.origin - (t - x.since)

/-- A ramp from dark to full, and from full to dark, of a duration in ns. -/
def Env.up (t dur : Nat) : Env := { rising := true, origin := 0, since := t, dur := dur }
def Env.down (t dur : Nat) : Env := { rising := false, origin := dur, since := t, dur := dur }

/-- A ramp reverses: it starts from the present level and reaches its end in the time elapsed. -/
def Env.reverse (x : Env) (t : Nat) : Env := { x with rising := ! x.rising, origin := x.pos t, since := t }

/-- A ramp stops where it stands. -/
def Env.stop (x : Env) (t : Nat) : Env := { x with origin := x.pos t, still := true }

/-- The digital amplitude at symbol `k` of a frame as an angle: the symbol is scaled by sin(π p / 2q) for the pair (p, q), which is
sin(π t / 2T) of a rising ramp and cos(π t / 2T) of a falling one; a group without a ramp has the whole amplitude. -/
def Env.angle (x : Env) (start k : Nat) : Nat × Nat :=
  if x.dur = 0 then (1, 1)
  else if x.still then (x.origin, x.dur)
  else if x.rising then (min (9 * x.dur) (9 * (x.origin + (start - x.since)) + k), 9 * x.dur)
  else (9 * x.origin - (9 * (start - x.since) + k), 9 * x.dur)

/-- The two angles that scale symbol `k` of a frame: its group's, and that of the whole output. -/
def LineFrame.angles (f : LineFrame) (k : Nat) : (Nat × Nat) × (Nat × Nat) :=
  (f.grpEnv.angle f.start k, f.outEnv.angle f.start k)

/-- Twice the centre frequency of subcarrier `n` in MHz: f_c + (n − 15.5) × 9.375 GHz (R116). -/
def centre2 (fc n : Nat) : Int := 2 * fc + 18750 * n - 290625

end Sys2Proof.Machine
end

