-- ==== Sys2Proof/Machine/DownGroups.lean ====
section
/-! DEFINITION. Subcarrier groups, the laser ramps and the writes of DS_GRP_EN and DS_GRP_FMT (R142 to R147). -/

namespace Sys2Proof.Machine

/-- Frame count and multiframe count of the frame being launched, and the frame number (R123, R129). Between two FRAME_LAUNCH commands they are
those of the frame to be launched next, also in the FN of an event (R197; DESIGN CHOICE, unsafe, notes/assumptions/192.md). -/
def fcOf (s : State) (e : Eng) : Nat := (getEng s e).down.frames % 256
def mfcOf (s : State) (e : Eng) : Nat := (getEng s e).down.frames / 256 % 256
def fnOf (s : State) (e : Eng) : Nat := (getEng s e).down.frames % 65536

/-- The frame being launched stands at a multiframe boundary. -/
def atMultiframe (s : State) (e : Eng) : Bool := fcOf s e = 0

/-- Object ID of a downstream event: engine and subcarrier (R153). -/
def dsObj (e : Eng) (n : Nat) : Nat := 256 * e.num + n

/-- Groups are enabled by their bit of DS_GRP_EN (R142). -/
def grpEn (s : State) (e : Eng) (g : Nat) : Bool := (getReg s .dsGrpEn e 0).getLsbD g

/-- Format code of a group. -/
def grpFmt (s : State) (e : Eng) (g : Nat) : Nat := regF s .dsGrpFmt e 0 (3 * g + 2) (3 * g)

/-- Laser and booster at operating power. -/
def lit (s : State) (e : Eng) : Bool := (getEng s e).down.laser = .lit

/-- Give each subcarrier of a group a stream state. -/
def setStream (e : Eng) (g : Nat) (x : Nat → ScSt) (s : State) : State :=
  modDown e (fun d => { d with scs := [0, 1, 2, 3].foldl (fun t k => tset {} t (4 * g + k) (x (4 * g + k))) d.scs }) s

/-- A group's undelayed stream, scramblers and cells start at block 0 with CELL_PTR 0 (R143), and the first cell belongs to slot 0, which R139
leaves open (DESIGN CHOICE, unsafe; notes/assumptions/234.md). -/
def startStream (e : Eng) (g : Nat) (s : State) : State :=
  setStream e g (fun n => { live := true, scr := scrambleInit n }) s

/-- A group has no stream. -/
def endStream (e : Eng) (g : Nat) (s : State) : State := setStream e g (fun _ => {}) s

/-- DS_RAMP.GRP_US and LASER_MS, in ns. -/
def grpNs (s : State) (e : Eng) : Nat := 1000 * regF s .dsRamp e 0 9 0
def laserMs (s : State) (e : Eng) : Nat := regF s .dsRamp e 0 22 16
def laserNs (s : State) (e : Eng) : Nat := 1000000 * laserMs s e

/-- Put a group in a state, with its envelope. -/
def rampGrp (e : Eng) (g : Nat) (st : GrpState) (x : Env) (s : State) : State :=
  setGrp e g { getGrp s e g with st := st, env := x } s

/-- Put a group in a state that does not ramp. -/
def setGrpSt (e : Eng) (g : Nat) (st : GrpState) (s : State) : State := rampGrp e g st {} s

/-- A group's EN bit is written to 1 (R143, R144). While the engine is being taken dark (R145) no group begins again, neither from OFF nor
from RAMP_OFF: the table names no such condition, and the laser could not follow the groups otherwise (DESIGN CHOICE, unsafe;
notes/assumptions/191.md). In an emergency shutdown no group ramp runs (R146). -/
def grpOn (e : Eng) (g : Nat) (s : State) : State :=
  let free := ! (getEng s e).down.offing && s.pwr.emerg = .none
  match (getGrp s e g).st with
  | .off => when (lit s e && free) (setGrpSt e g .waiting) s
  | .rampOff => when free (rampGrp e g .rampOn ((getGrp s e g).env.reverse s.clk.now)) s
  | .waiting | .rampOn | .settling | .on => s

/-- A group goes dark over a ramp of a duration in ns, or back from where its ramp up stands (R143, R144). -/
def grpDim (e : Eng) (g dur : Nat) (s : State) : State :=
  match (getGrp s e g).st with
  | .waiting => setGrpSt e g .off s
  | .rampOn => rampGrp e g .rampOff ((getGrp s e g).env.reverse s.clk.now) s
  | .settling | .on => rampGrp e g .rampOff (.down s.clk.now dur) s
  | .off => endStream e g s
  | .rampOff => s

/-- A group's EN bit is written to 0 (R143); in an emergency shutdown no group ramp runs (R146). -/
def grpOff (e : Eng) (g : Nat) (s : State) : State := when (s.pwr.emerg = .none) (grpDim e g (grpNs s e)) s

/-- A group holds a slot of a slot set named by an enabled container with DS_EN (R147): words 0 to 7 of the set name a
subcarrier of the group with at least one slot. -/
def grpInUse (s : State) (e : Eng) (g : Nat) : Bool :=
  s.ctrs.any (fun p =>
    p.1 / 32768 = (treeOf s e).num && p.2.w0.getLsbD 31 && p.2.w0.getLsbD 29 &&
      (let x := getSset s e (fld p.2.w0 8 0)
       (List.range 8).any (fun w =>
         let v := tget 0 x.words w
         let n := tget 0 x.newWords w
         (v.getLsbD 31 && fld v 20 16 / 4 = g && fld v 15 0 ≠ 0)
           || (x.pend && n.getLsbD 31 && fld n 20 16 / 4 = g && fld n 15 0 ≠ 0))))

/-- States in which bits 0 and 4 of DS_GRP_EN may not be cleared (R147). -/
def grpLocked : EngState → Bool
  | .tuning | .calibrating | .ramping | .standby | .trafficReady => true
  | .disabled | .waiting | .failed => false

/-- A write of DS_GRP_EN that R147 refuses for an engine. -/
def grpEnRefused (s : State) (e : Eng) (v : W32) : Bool :=
  (grpLocked (getEng s e).st && (! v.getLsbD 0 || ! v.getLsbD 4)) ||
    (List.range 8).any (fun g => grpEn s e g && ! v.getLsbD g && grpInUse s e g)

/-- The engines a write through one engine's window applies to: both in Paired mode (R249, R287, R336). -/
def writeTargets (s : State) (e : Eng) : List Eng := if s.boot.paired then engines else [e]

/-- Apply an accepted DS_GRP_EN value to one engine: its changed bits act on their groups (R143). -/
def grpEnApply (e : Eng) (v : W32) (s : State) : State :=
  forAll (List.range 8) (fun g t =>
    if grpEn s e g && ! v.getLsbD g then grpOff e g t
    else if ! grpEn s e g && v.getLsbD g then grpOn e g t else t)
    (setReg .dsGrpEn e 0 (v &&& 0xFF) s)

/-- A host write of DS_GRP_EN (R143, R147, R287). -/
def writeGrpEn (e : Eng) (v : W32) (s : State) : State × Status :=
  let ts := writeTargets s e
  refuseOr ((engWriteGate s e e.txd).worse (if ts.any (fun t => grpEnRefused s t v) then .errState else .ok))
    (forAll ts (fun t => grpEnApply t v)) s

/-- A write of DS_GRP_FMT that R147 refuses for an engine: a changed format of a group not in OFF, or a reserved code. -/
def grpFmtRefused (s : State) (e : Eng) (v : W32) : Bool :=
  (List.range 8).any (fun g =>
    let c := fld v (3 * g + 2) (3 * g)
    4 < c || (c ≠ grpFmt s e g && (getGrp s e g).st ≠ .off))

/-- A host write of DS_GRP_FMT (R147, R287). -/
def writeGrpFmt (e : Eng) (v : W32) (s : State) : State × Status :=
  let ts := writeTargets s e
  refuseOr ((engWriteGate s e e.txd).worse (if ts.any (fun t => grpFmtRefused s t v) then .errState else .ok))
    (forAll ts (fun t => setReg .dsGrpFmt t 0 (v &&& 0xFFFFFF))) s

/-- GROUP_RAMP_ON_START (R143): a WAITING group begins its ramp at a multiframe boundary. -/
def execGroupRampOnStart (e : Eng) (g : Grp) (s : State) : Out :=
  act (inService s && (getGrp s e g).st = .waiting && atMultiframe s e && lit s e) (fun s =>
    startStream e g (rampGrp e g .rampOn (.up s.clk.now (grpNs s e)) s)) s

/-- GROUP_ENVELOPE_FULL (R143): the frame at which the envelope reached full is kept for the 8 frames of SETTLING. The ramp of
groups 0 and 4 at engine start ends with the laser ramp (R145). -/
def execGroupEnvelopeFull (e : Eng) (g : Grp) (s : State) : Out :=
  act (inService s && (getGrp s e g).st = .rampOn && lit s e) (fun s =>
    setGrp e g { st := .settling, fullAt := (getEng s e).down.frames } s) s

/-- DS_GROUP_ON (R143): a multiframe boundary at least 8 frames after the envelope reached full. -/
def execDsGroupOn (e : Eng) (g : Grp) (s : State) : Out :=
  let x := getGrp s e g
  act (inService s && x.st = .settling && atMultiframe s e && x.fullAt + 8 ≤ (getEng s e).down.frames) (fun s =>
    raiseF e.txd 0x0401 (dsObj e (4 * g)) (packData [(8, grpFmt s e g), (16, fnOf s e)]) .dsFlags e 0
      (setGrpSt e g .on s)) s

/-- A group's ramp off ends: the group is dark, with DS_GROUP_OFF (R143). -/
def grpDark (e : Eng) (g : Nat) (s : State) : State :=
  raiseF e.txd 0x0402 (dsObj e (4 * g)) (packData [(16, fnOf s e)]) .dsFlags e 1 (endStream e g (setGrp e g {} s))

/-- The groups without control slots, and whether one of them still sends. -/
def dataGroups : List Nat := [1, 2, 3, 5, 6, 7]
def dataGroupsDark (s : State) (e : Eng) : Bool := dataGroups.all (fun g => (getGrp s e g).st = .off)

/-- The laser and booster begin to ramp off over LASER_MS, with groups 0 and 4; a standby engine ramps its laser off (R145, R536). -/
def laserOff (e : Eng) (s : State) : State :=
  let t := forAll [0, 4] (fun g u => grpDim e g (laserNs u e) u) s
  modDown e (fun d => { d with laser := if d.laser = .dark && (getEng s e).st ≠ .standby then .dark else .rampingOff, offing := false }) t

/-- DS_GROUP_OFF (R143): the envelope is at zero. When an engine is being taken dark, its laser follows the last of the other
groups (R145). In an emergency shutdown no group ramp runs (R146). -/
def execDsGroupOff (e : Eng) (g : Grp) (s : State) : Out :=
  act ((getGrp s e g).st = .rampOff && s.pwr.emerg = .none) (fun s =>
    let t := grpDark e g s
    if (getEng t e).down.offing && dataGroupsDark t e then laserOff e t else t) s

/-- LASER_RAMP_ON_START (R145): at the first multiframe boundary after the transmit calibration, laser and booster ramp on
with groups 0 and 4, whose streams start at block 0. -/
def execLaserRampOnStart (e : Eng) (s : State) : Out :=
  act (inService s && (getEng s e).st = .ramping && (getEng s e).down.laser = .dark && atMultiframe s e) (fun s =>
    forAll [0, 4] (fun g t => startStream e g (rampGrp e g .rampOn (.up s.clk.now (laserNs s e)) t))
      (modDown e (fun d => { d with laser := .rampingOn, seen := true }) s)) s

/-- DS_LASER_ON (R145): the laser ramp ends; groups 0 and 4 settle from here and the other enabled groups wait. -/
def execDsLaserOn (e : Eng) (s : State) : Out :=
  act (inService s && (getEng s e).st = .ramping && (getEng s e).down.laser = .rampingOn) (fun s =>
    let t := modDown e (fun d => { d with laser := .lit }) s
    let t := forAll [0, 4] (fun g u =>
      if (getGrp u e g).st = .rampOn then setGrp e g { st := .settling, fullAt := (getEng u e).down.frames } u else u) t
    let t := forAll dataGroups (fun g u => when (grpEn u e g) (grpOn e g) u) t
    raiseF e.txd 0x0403 (dsObj e 0) (packData [(8, laserMs s e)]) .dsFlags e 2 t) s

/-- The engine's output is being taken dark by a protection switch, whose own commands mark its ramps (R286). -/
def switchesOff (s : State) (e : Eng) : Bool := inService s && s.aps.st = 2 && s.aps.work = some e

/-- The engine still has the optics that frames need (R109). -/
def framesOn : EngState → Bool
  | .ramping | .standby | .trafficReady => true
  | .disabled | .waiting | .tuning | .calibrating | .failed => false

/-- DS_LASER_OFF (R145): the laser is dark, and groups 0 and 4 with it; in an emergency shutdown no group ramp runs, and the ramp
time reads 1 (R146, R153). -/
def execDsLaserOff (e : Eng) (s : State) : Out :=
  act ((getEng s e).down.laser = .rampingOff && ! switchesOff s e) (fun s =>
    let t := if s.pwr.emerg = .none then forAll [0, 4] (fun g u => if (getGrp u e g).st = .rampOff then grpDark e g u else u) s else s
    let ms := if s.pwr.emerg = .none then laserMs s e else 1
    raiseF e.txd 0x0404 (dsObj e 0) (packData [(8, ms)]) .dsFlags e 3
      (modDown e (fun d => { d.silent with laser := .dark, grp := [], env := {}, framer := d.framer && framesOn (getEng s e).st }) t)) s

/-- Begin to take a transmitter dark (R145): all groups but 0 and 4 ramp off together, and then laser and booster with groups 0
and 4. In an emergency shutdown no group ramp runs: the whole transmitter follows its envelope already (R48, R146). -/
def rampTxOff (e : Eng) (s : State) : State :=
  let t := forAll dataGroups (fun g u => grpOff e g u) s
  if s.pwr.emerg ≠ .none then t
  else if (getEng t e).down.laser = .dark || dataGroupsDark t e then laserOff e t
  else modDown e (fun d => { d with offing := true }) t

end Sys2Proof.Machine
end

