-- ==== Sys2Proof/Machine/Tree.lean ====
section
/-! DEFINITION. The tree of an engine as its scheduler sees it: the reach constants and the symbol counts, what containers and profiles
give each leaf, and the basis on which a map is computed (R296 to R298, R313, R318, R324, R325, R328). -/

namespace Sys2Proof.Machine

/-! ## Engines and the tree -/

/-- The engine whose scheduler serves the tree of engine `e`: in Paired mode the working one (R14, R329). -/
def treeEng (s : State) (e : Eng) : Eng := if s.boot.paired then s.aps.work.getD .A else e

/-- A TREE record is in force for an engine; and the shortest and longest reach in metres, in Paired mode the smaller and the
larger of the TREE records in force (R298). -/
def hasTree (s : State) (e : Eng) : Bool := getReg s .usTreeDs e 0 ≠ 0
def reachMin (s : State) (e : Eng) : Nat :=
  let m := fun x => regF s .usTreeReach x 0 15 0
  if s.boot.paired && hasTree s e.other then (if hasTree s e then min (m .A) (m .B) else m e.other) else m e
def reachMax (s : State) (e : Eng) : Nat :=
  let m := fun x => regF s .usTreeReach x 0 31 16
  if s.boot.paired && hasTree s e.other then max (m .A) (m .B) else m e

/-- Quotient of natural numbers rounded up. -/
def ceilDiv (a b : Nat) : Nat := (a + b - 1) / b

/-- The zero-distance delay Z in symbols of a longest reach in metres (R298). -/
def zSym (maxM : Nat) : Nat := 9000 * ceilDiv (98 * maxM + 300000) 10000

/-- RTD_min in 1/64 symbol, rounded down (R313). -/
def rtdMin64 (minM : Nat) : Nat := minM * 28224 / 5

/-- EQD_DISC in 1/64 symbol and SQ_LEN in symbols (R313). -/
def eqdDisc64 (minM maxM : Nat) : Int := 64 * (zSym maxM : Int) - rtdMin64 minM + 64 * 8820
def sqLenOf (minM maxM : Nat) : Nat := 16 * ceilDiv (441 * (maxM - minM) + 111080) 80

def zOf (s : State) (e : Eng) : Nat := zSym (reachMax s e)
def eqdDisc (s : State) (e : Eng) : Int := eqdDisc64 (reachMin s e) (reachMax s e)
def sqLen (s : State) (e : Eng) : Nat := sqLenOf (reachMin s e) (reachMax s e)

/-- Symbols of a turn and of a frame (R296). -/
def turnSyms : Nat := 1125000
def frameSyms : Nat := 8320

/-- The turn whose map grants a window (R326). -/
def turnNo (w : Window) : Nat := w.gs / turnSyms

/-- DSC at the start of the frame to be launched next, the turn it lies in, and the upstream count of that instant
(R296, R297). -/
def dscOf (s : State) (e : Eng) : Nat := frameSyms * (getEng s e).down.frames
def turnOf (s : State) (e : Eng) : Nat := dscOf s e / turnSyms
/-- The turn as part of a key of events limited to one a turn. -/
def turnKey (s : State) (e : Eng) : Nat := turnKeyOf (getEng s e).life (turnOf s e)

/-- What the landings at an engine are off from the grants in Paired mode, in 1/64 symbol: the common offset in force, and at the
standby the arrival offset it measured beside it (R15, R172, R286; notes/assumptions/164.md); and in symbols. -/
def offsetHere (s : State) (e : Eng) : Int :=
  if ! s.boot.paired then 0 else if s.aps.work = some e then s.aps.ofs else s.aps.ofs + s.aps.dup
def windowShift (s : State) (e : Eng) : Int := offsetHere s e / 64

/-- The upstream count by the engine's own frames, in which its samples are numbered, and USC, to which a switch applies the offset of
the landings (R297, R329). -/
def rawUsc (s : State) (e : Eng) : Int := (dscOf s e : Int) - zOf s e
def uscOf (s : State) (e : Eng) : Int := rawUsc s e - windowShift s e

/-- First symbol and end of a grant's window. -/
def grantGs (tn : Nat) (g : Grant) : Nat := turnSyms * tn + g.start
def grantGe (tn : Nat) (g : Grant) : Nat := turnSyms * tn + g.start + g.len

/-! ## Containers and seeds -/

/-- The fields of a container word 0 (R250). -/
def ctrEn (w : W32) : Bool := w.getLsbD 31
def ctrMcast (w : W32) : Bool := w.getLsbD 30
def ctrDs (w : W32) : Bool := w.getLsbD 29
def ctrUs (w : W32) : Bool := w.getLsbD 28
def ctrTarget (w : W32) : Nat := fld w 27 16
def ctrSset (w : W32) : Nat := fld w 8 0

/-- A leaf's seed, when it is valid (R182). -/
def validSeed (s : State) (e : Eng) (l : Nat) : Option Seed :=
  match (getLeaf s e l).seed with
  | some x => if now s < x.time + 1000000 * regF s .brxSeed e 0 15 0 then some x else none
  | none => none

/-- Symbols of a block in a payload format (R154). -/
def blockSyms : Nat → Nat
  | 0 => 4096 | 1 => 2731 | _ => 2048

/-- Payload bytes of a block (R164). -/
def blockBytes : Nat := 1695

/-! ## What a leaf may be granted (R324, R325) -/

/-- The highest upstream format and the bonded subcarriers minus 1 of a leaf's CAPS (R315). -/
def capsFmt (caps : Nat) : Nat := caps % 4
def capsSc (caps : Nat) : Nat := caps / 16 % 8

/-- Profiles named by the enabled upstream containers of a leaf. -/
def leafProfiles (s : State) (e : Eng) (l : Nat) : List Nat :=
  (s.ctrs.filter (fun p => p.1 / 32768 = (treeOf s e).num && ctrEn p.2.w0 && ctrUs p.2.w0 && ! ctrMcast p.2.w0
    && ctrTarget p.2.w0 = l)).map (fun p => fld p.2.profile 15 0)

/-- Symbols of a block as a leaf's format counts them. -/
def fmtSyms (f : Nat) : Nat := blockSyms f

/-- Mb/s that `n` subcarriers carry at a format: whole blocks of a turn at 1,695 bytes. -/
def scRate (f n : Nat) : Nat := n * (turnSyms / fmtSyms f) * blockBytes * 8 / 125

/-- A leaf's share from its containers' profiles and its CAPS (R324). -/
def shareOf (s : State) (e : Eng) (l : Nat) : Share :=
  let caps := (getLeaf s e l).caps
  let ps := leafProfiles s e l
  let f := fun (r : Reg) (p hi lo : Nat) => regF s r e p hi lo
  if ps = [] then { fmt := min 2 (capsFmt caps) }
  else
    let fmt := (ps.map (fun p => f .schedProf3 p 9 8)).foldl min (capsFmt caps)
    let sc := min (capsSc caps) ((ps.map (fun p => f .schedProf3 p 14 12)).foldl max 0)
    { fixed := (ps.map (fun p => f .schedProf0 p 19 0)).sum
      assured := (ps.map (fun p => f .schedProf1 p 19 0)).sum
      max := min (ps.map (fun p => f .schedProf2 p 19 0)).sum (scRate fmt (sc + 1))
      weight := min 255 (ps.map (fun p => f .schedProf3 p 7 0)).sum
      fmt := fmt, scMax := sc }

/-- Mb/s as bytes per turn, and bytes as blocks (R325). -/
def turnBytes (mbps : Nat) : Nat := mbps * 125 / 8
def blocksFor (bytes : Nat) : Nat := ceilDiv bytes blockBytes

/-- Symbols of a burst before its payload (R154). -/
def preSyms (short : Bool) : Nat := if short then 288 else 416

/-- Blocks of a data window, when its LEN is exactly a burst of the leaf's format of 1 to 255 blocks (R326). -/
def dataBlocks (g : Grant) : Option Nat :=
  let n := (g.len - preSyms g.short) / fmtSyms g.fmt.val
  if g.len = preSyms g.short + n * fmtSyms g.fmt.val ∧ 1 ≤ n ∧ n ≤ 255 then some n else none

/-- SCHED_RNG: the margin and the wide margin. -/
def margin (s : State) (e : Eng) : Nat := regF s .schedRng e 0 11 0
def wideMargin (s : State) (e : Eng) : Nat := regF s .schedRng e 0 31 16

/-- Leaves of the tree in a state. -/
def leavesIn (s : State) (e : Eng) (p : Leaf → Bool) : List Nat :=
  (s.leaves.filter (fun x => x.1 / 4096 = (treeOf s e).num && p x.2)).map (fun x => x.1 % 4096)

/-- Bytes granted to a leaf in maps that are not committed. -/
def specBytes (s : State) (e : Eng) (tn l : Nat) : Nat :=
  (((getEng s e).maps.filter (fun m => ! m.committed && m.tn ≠ tn)).map (fun m =>
    ((m.grants.filter (fun g => g.leaf.val = l && ! g.ranging)).map (fun g => (dataBlocks g).getD 0 * blockBytes)).sum)).sum

/-- What a leaf still needs (R325). -/
def needOf (s : State) (e : Eng) (tn l : Nat) : Nat :=
  let x := getLeaf s e l
  4096 * x.qreport - ((x.after.map (fun p => p.2)).sum + specBytes s e tn l)

/-- The last turn before `tn` whose map grants a leaf a window. -/
def lastGrantOf (s : State) (e : Eng) (tn l : Nat) : Nat :=
  ((getEng s e).maps.filter (fun m => m.tn < tn && m.grants.any (fun g => g.leaf.val = l))).foldl
    (fun a m => max a m.tn) (getLeaf s e l).lastGrant

/-- The last turn before `tn` with a dedicated square for a leaf. -/
def lastDedOf (s : State) (e : Eng) (tn l : Nat) : Option Nat :=
  ((getEng s e).maps.filter (fun m => m.tn < tn && m.squares.any (fun q => q.dedicated && q.leaf.val = l))).foldl
    (fun a m => some (max (a.getD 0) m.tn)) (getLeaf s e l).lastDed

/-- SCHED_CFG.POLL_TURNS and SQ_PERIOD. -/
def pollTurns (s : State) (e : Eng) : Nat := regF s .schedCfg e 0 14 8
def sqPeriod (s : State) (e : Eng) : Nat := regF s .schedCfg e 0 27 16

/-- A leaf without a grant for POLL_TURNS turns is due a poll. -/
def pollDue (s : State) (e : Eng) (tn l : Nat) : Bool := lastGrantOf s e tn l + pollTurns s e ≤ tn

/-- Data windows may be granted to a leaf: it is ACTIVE or LOST, not re-ranging, and its turn has come (R311, R320). -/
def mayHaveData (x : Leaf) (tn : Nat) : Bool :=
  (x.st = .active || x.st = .lost) && ! x.rerange && ! x.dataWait && x.dataFrom ≤ tn

/-- The ranging window a leaf is due in every turn: blocks and wide margin (R318, R320, R322, R441, R453). -/
def rangingDue (x : Leaf) : Option (Nat × Bool) :=
  match x.st with
  | .assigned | .registering => some (4, false)
  | .active | .lost =>
    if x.rerange then (if x.dedOnly then none else some (1, true))
    else if x.exch.ackWait ≠ 0 then some (1, false) else none
  | .free | .gone => none

/-- A leaf is due a dedicated square: it is LOST, or re-ranged by dedicated squares, every 64 turns (R311, R320). -/
def dedDue (s : State) (e : Eng) (tn l : Nat) : Bool :=
  let x := getLeaf s e l
  (x.st = .lost || (x.rerange && x.dedOnly)) &&
    (match lastDedOf s e tn l with
     | some t => decide (t + 64 ≤ tn)
     | none => true)

/-! ## The basis of a map (R328) -/

/-- SCHED_PWR.TARGET and DISC, in dBm. -/
def pwrTarget (s : State) (e : Eng) : Int := asSigned 8 (regF s .schedPwr e 0 7 0)
def pwrDisc (s : State) (e : Eng) : Int := asSigned 8 (regF s .schedPwr e 0 15 8)

/-- What the scheduler takes of the leaves and settings of a tree when it begins to compute the map for turn `tn`. -/
def basisOf (s : State) (e : Eng) (tn : Nat) : Basis := {
  margin := margin s e, wide := wideMargin s e, sqLen := sqLen s e, sqPeriod := sqPeriod s e, eqd := eqdDisc s e
  launch := 10 * pwrDisc s e
  dues := (leavesIn s e (fun x => (x.st = .assigned || x.st = .registering) || (x.st = .active || x.st = .lost))).map (fun l =>
    let x := getLeaf s e l
    { leaf := l, active := x.st = .active, lost := x.st = .lost, data := mayHaveData x tn, ranging := rangingDue x
      ded := dedDue s e tn l, poll := pollDue s e tn l, need := needOf s e tn l, sh := shareOf s e l
      short := (getReg s .brxCfg e 0).getLsbD 8 && (validSeed s e l).isSome })
  first := match (getEng s e).maps.find? (fun m => m.tn + 1 = tn) with
    | some m => m.unserved
    | none => [] }

end Sys2Proof.Machine
end

