-- ==== Sys2Proof/Machine/Leaves.lean ====
section
/-! DEFINITION. What every rule about leaves shares: the reach constants, control messages, striking of grants, key slots,
re-ranging, departure, and the defects an engine reports of its leaves (R273, R296 to R305, R320, R328, R331, R430 to R434). -/

namespace Sys2Proof.Machine

/-! ## Control messages (R304, R606) -/

/-- The control slots carry control cells: groups 0 and 4 are ON and the scheduler sends maps. -/
def ctlUp (s : State) (e : Eng) : Bool :=
  (getGrp s e 0).st = .on && (getGrp s e 4).st = .on && ! (getEng s e).mapsStopped

/-- A control message for the tree arises: it is sent in order, or held until control cells run (R606). -/
def sendMsg (e : Eng) (m : Msg) (s : State) : State :=
  let x := treeEng s e
  if ctlUp s x && (getEng s x).down.held = [] then modDown x (fun d => { d with ctl := d.ctl ++ [m] }) s
  else modDown x (fun d => { d with held := d.held ++ [m] }) s

/-- The engine that becomes working takes over the tree's messages that the other has not sent (R606). -/
def takeMsgs (w o : Eng) (s : State) : State :=
  let d := (getEng s w).down
  modDown o (fun x => { x with held := x.held ++ (d.ctl ++ d.held) }) (modDown w (fun x => { x with ctl := [], held := [] }) s)

/-! ## Scheduler events (R341) -/

/-- Object ID of a leaf and of an engine. -/
def leafObjId (e : Eng) (l : Nat) : Nat := 65536 * e.num + l
def engObjId (e : Eng) : Nat := 256 * e.num + 255

/-- Raise a scheduler event with its flag, at most once per object per turn. -/
def schedEvent (e : Eng) (code obj : Nat) (data : BitVec 80) (bit : Nat) (s : State) : State :=
  oncePerTurn code obj (turnKey s e) (raiseF e.txd code obj data .schedFlags e bit) s

/-- Count for the engine and for the leaf in the scheduler's sets (R340). -/
def countSched (e : Eng) (l i j n : Nat) (s : State) : State :=
  countLeaf 13 e l j n (count 12 e.num i n s)

/-! ## Windows and striking (R306, R328) -/

/-- Symbols of capacity in a list of grants. -/
def capacity (l : List Grant) : Nat := (l.map (fun g => g.len)).sum

/-- Strike grants from a speculative map; a map that loses any is computed again (R328). -/
def strikeMap (p : Grant → Bool) (m : MapSt) : MapSt :=
  if m.committed then m
  else
    let out := m.grants.filter p
    if out = [] then m
    else { m with grants := m.grants.filter (fun g => ! p g), recompute := true, struckSyms := m.struckSyms + capacity out }

/-- Mark windows of a committed map as gone idle (R328). -/
def idleMap (p : Nat → Grant → Bool) (m : MapSt) : MapSt :=
  if m.committed then { m with idle := m.idle ++ m.grants.filter (fun g => p m.tn g && ! (g ∈ m.idle)) } else m

/-- A map that loses grants begins to be computed again, on what is in force now; what stays of it until then keeps the basis it was
computed on (R328). -/
def rebase (s : State) (e : Eng) (p : Grant → Bool) (m : MapSt) : MapSt :=
  if m.committed || m.grants.filter p = [] then m else { strikeMap p m with next := some (basisOf s e m.tn) }

/-- Strike the grants that satisfy `p` from every speculative map, and count them (SPEC_STRUCK). -/
def strike (e : Eng) (p : Grant → Bool) (s : State) : State :=
  let ms := (getEng s e).maps
  let n := ((ms.filter (fun m => ! m.committed)).map (fun m => (m.grants.filter p).length)).sum
  let t := modEng e (fun x => { x with maps := x.maps.map (strikeMap p) }) s
  count 12 e.num 3 n (modEng e (fun x => { x with maps := ms.map (rebase t e p) }) t)

/-- Speculative maps are dropped: capacity that was struck from them and is not placed again stays unused (R328, SPEC_UNFILLED). -/
def dropMaps (e : Eng) (p : MapSt → Bool) (s : State) : State :=
  let out := (getEng s e).maps.filter (fun m => ! m.committed && p m)
  count 12 e.num 4 ((out.map (fun m => m.struckSyms)).sum)
    (modEng e (fun x => { x with maps := x.maps.filter (fun m => m.committed || ! p m) }) s)

/-- Windows of committed maps that `p` idles: marked, and counted for the engine and each leaf (GRANT_IDLE). -/
def idleWindows (e : Eng) (p : Nat → Grant → Bool) (s : State) : State :=
  let news := ((getEng s e).maps.filter (fun m => m.committed)).flatMap (fun m =>
    m.grants.filter (fun g => p m.tn g && ! (g ∈ m.idle)))
  forAll news (fun g t => countSched e g.leaf 2 2 1 t)
    (modEng e (fun x => { x with maps := x.maps.map (idleMap p) }) s)

/-- A window has not begun yet at the receive input. -/
def ahead (s : State) (e : Eng) (tn : Nat) (g : Grant) : Bool := uscOf s e ≤ (grantGs tn g : Int)

/-- The first upstream symbol that a leaf under HOLD no longer sends a data window from: 30 µs after the last cell of the HOLD message has
arrived, whose last bit leaves `k` frames behind the one launched now and is spread over the 7.396 µs interleave (R310, R328). -/
def holdFrom (s : State) (e : Eng) (k : Nat) (eqd64 : Int) : Int :=
  (dscOf s e : Int) + frameSyms * (k + 1 : Nat) + 66564 + 270000 - eqd64 / 64

/-! ## Key slots (R430 to R434) -/

/-- Slots of a leaf and of a group; in Paired mode the engine A ranges serve the tree (R430). -/
def dsSlot (s : State) (e : Eng) (l : Nat) : Nat := 4096 * (treeOf s e).num + l
def usSlot (s : State) (e : Eng) (l : Nat) : Nat := 8192 + 4096 * (treeOf s e).num + l
def grpSlot (s : State) (e : Eng) (g : Nat) : Nat := 16384 + 2048 * (treeOf s e).num + g

/-- KEY does no rewrite, erase, rekey or group change while it is fenced (R454). -/
def keyDown (s : State) : Bool :=
  match (getIsl s .key).fence with
  | .drain | .fenced | .reset | .resume => true
  | .run | .quiesce => false

/-- The Banker serves requests: KEY is not fenced, and the Shaker gives bits (R429, R454). -/
def bankerUp (s : State) : Bool := ! keyDown s && s.sec.shakerOk

/-- Erase a slot: both generations are marked erased, and the slot empties when nothing is in flight (R434). -/
def eraseNow (k : Nat) (s : State) : State :=
  modSlot k (fun x => match x.st with
    | .one | .two => { x with st := .erasing }
    | .empty | .erasing => x) s

/-- A request waits for the Banker, behind those that arose before it (R429). -/
def addWait (w : KeyWait) (s : State) : State :=
  if w ∈ s.sec.waits then s else { s with sec := { s.sec with waits := s.sec.waits ++ [w] } }

/-- A rekey or group change that the Banker cannot start now is among what waits for it (R429, R454). -/
def deferRekey (k : Nat) (s : State) : State := if bankerUp s then s else addWait (.rekey k) s

/-- As `eraseNow`; the erase waits while KEY is fenced. -/
def eraseSlot (k : Nat) (s : State) : State := if keyDown s then addWait (.erase k) s else eraseNow k s

/-- Write the first generation of an EMPTY slot (R434). -/
def writeSlot (k : Nat) (key : BitVec 256) (salt : W32) (s : State) : State :=
  if (getSlot s k).st = .empty then
    let b := makeBank key salt s
    let g := makeGen key salt b.2
    count 20 k 0 1 (setSlot k { st := .one, gen := 0, cur := g.1, bank := b.1 } g.2)
  else s

/-- Rewrite a ONE slot: the new generation is current and the old one drains (R434). -/
def rewriteSlot (k : Nat) (key : BitVec 256) (salt : W32) (trigger : Nat) (s : State) : State :=
  let x := getSlot s k
  if x.st = .one then
    let b := makeBank key salt s
    let g := makeGen key salt b.2
    let t := setSlot k { x with st := .two, gen := x.gen + 1, old := x.cur, cur := g.1, bankOld := x.bank, bank := b.1
                                newSeen := false, want := none } g.2
    oncePerSec 0x0B03 k (raise .key 0x0B03 k (packData [(32, x.gen + 1), (8, trigger)])) (count 20 k 0 1 t)
  else s

/-! ## Groups (R431, R453) -/

/-- The groups a membership word names. -/
def wordGroups (w : W32) : List Nat :=
  (if w.getLsbD 15 then [fld w 11 0] else []) ++ (if w.getLsbD 31 then [fld w 27 16] else [])

/-- The groups of a table of membership words. -/
def groupsOf (t : Table W32) : List Nat := (List.range 8).flatMap (fun g => wordGroups (tget 0 t g))

/-- The ACTIVE members of a group of the tree. -/
def activeMembers (s : State) (e : Eng) (g : Nat) : List Nat :=
  (s.leaves.filter (fun p => p.1 / 4096 = (treeOf s e).num && p.2.st = .active && g ∈ groupsOf p.2.grps)).map
    (fun p => p.1 % 4096)

/-- The LOST members of a group of the tree. -/
def lostMembers (s : State) (e : Eng) (g : Nat) : List Nat :=
  (s.leaves.filter (fun p => p.1 / 4096 = (treeOf s e).num && p.2.st = .lost && g ∈ groupsOf p.2.grps)).map
    (fun p => p.1 % 4096)

/-- Any leaf holds a membership of the group. -/
def hasMember (s : State) (e : Eng) (g : Nat) : Bool :=
  s.leaves.any (fun p => p.1 / 4096 = (treeOf s e).num && (p.2.st = .active || p.2.st = .lost) && g ∈ groupsOf p.2.grps)

/-- An enabled multicast container names the group. -/
def groupNamed (s : State) (e : Eng) (g : Nat) : Bool :=
  s.ctrs.any (fun p => p.1 / 32768 = (treeOf s e).num && p.2.w0.getLsbD 31 && p.2.w0.getLsbD 30 && fld p.2.w0 27 16 = g)

/-- State of a group's key. -/
def getGk (s : State) (e : Eng) (g : Nat) : GrpKey := tget {} s.sec.grp (2048 * (treeOf s e).num + g)
def modGk (e : Eng) (g : Nat) (f : GrpKey → GrpKey) (s : State) : State :=
  { s with sec := { s.sec with grp := tset {} s.sec.grp (2048 * (treeOf s e).num + g) (f (getGk s e g)) } }

/-- A membership of a group ended: a new key is due, and the slot is erased when no member is left and no enabled multicast container
names the group (R453). -/
def groupLeft (e : Eng) (g : Nat) (s : State) : State :=
  if hasMember s e g || groupNamed s e g then deferRekey (grpSlot s e g) (modGk e g (fun x => { x with want := true }) s)
  else modGk e g (fun _ => {}) (eraseSlot (grpSlot s e g) s)

/-! ## The life of an entry (R311, R320, R331) -/

/-- A leaf is registered for the checks of R183 (R312). -/
def registered (x : Leaf) : Bool :=
  match x.st with
  | .assigned | .registering | .active | .lost => true
  | .free | .gone => false

/-- Cause codes of R338. -/
def causeHost : Nat := 1
def causeDeparted : Nat := 2
def causeAuthFail : Nat := 3
def causeTimeout : Nat := 4
def causeRangeFail : Nat := 5
def causeTableFull : Nat := 6
def causeNotListed : Nat := 7
def causeRediscovered : Nat := 8
def causeRangeOut : Nat := 9

/-- EqD in whole symbols, as LEAF_RERANGE carries it. -/
def eqdSym (eqd64 : Int) : Int := eqd64 / 64

/-- Raise LEAF_RERANGE in a phase: 0 begun, 1 ended, 2 abandoned by departure (R341). -/
def rerangeEvent (e : Eng) (l phase : Nat) (x : Leaf) (new : Int) (s : State) : State :=
  schedEvent e 0x0806 (leafObjId e l)
    (packData [(8, x.trig), (8, phase), (32, eqdSym x.oldEqd), (32, if phase = 1 then eqdSym new else 0xFFFFFFFF)]) 5 s

/-- Re-ranging of an ACTIVE or LOST leaf begins: HOLD arises and its grants are struck; the data windows it will no longer send go idle when
HOLD is sent (R320, R328, `noteSentRange`). `row` is the row of R320's trigger table, the first row 1. While the control functions of TXD pause, the
trigger waits for their return (R534; notes/assumptions/193.md). The APPLY_TURN of a HOLD is sent as 0 (DESIGN CHOICE, unsafe;
notes/assumptions/244.md). -/
def startRerange (e : Eng) (l row : Nat) (s : State) : State :=
  let x := getLeaf s e l
  if ! ((x.st = .active || x.st = .lost) && ! x.rerange && countsTree s e) then s
  else if ! ctlRuns s e.txd then setLeaf e l { x with rerangeDue := row } s
  else
    let y := { x with rerange := true, trig := row, wideMiss := 0, dedOnly := false, oldEqd := x.eqd, lastDed := none, rerangeDue := 0 }
    let t := sendMsg e (.range (Fin.ofNat 4096 l) none 0) (setLeaf e l y s)
    let t := strike e (fun g => g.leaf.val = l) t
    rerangeEvent e l 0 y 0 (countSched e l 11 3 1 t)

/-- TXD has returned: the re-rangings that waited for it begin (R320, R534). -/
def rerangeDues (e : Eng) (s : State) : State :=
  if countsTree s e then
    forAll ((s.leaves.filter (fun p => p.1 / 4096 = (treeOf s e).num && p.2.rerangeDue ≠ 0)).map (fun p => (p.1 % 4096, p.2.rerangeDue)))
      (fun p t => startRerange e p.1 p.2 t) s
  else s

/-- Erase what a leaf's session holds: its key slots, session secret and exchange (R331, R311). -/
def eraseLeafKeys (e : Eng) (l : Nat) (s : State) : State :=
  modLeaf e l (fun x => { x with exch := {} }) (eraseSlot (usSlot s e l) (eraseSlot (dsSlot s e l) s))

/-- Reassembly and defects of a leaf return to their start: NEXT_SSN and alignment unknown, RDI_MAP bit clear (R331). -/
def resetLeafRx (e : Eng) (l : Nat) (s : State) : State :=
  forAll (if s.boot.paired then engines else [e]) (fun x =>
    modEng x (fun y => { y with lrx := tset {} y.lrx l {} })) s

/-- What a departed entry keeps: GONE its serial and memberships; FREE its serial only when pinned (R331, R332). -/
def departedEntry (x : Leaf) (free : Bool) (cause at' : Nat) : Leaf :=
  { st := if free then .free else .gone, pin := x.pin, serial := if free && ! x.pin then 0 else x.serial
    cause := cause, grps := x.grps, caps := x.caps, k := x.k, seen := x.seen, goneAt := at' }

/-- SCHED_AGE.STICKY_H. -/
def stickyH (s : State) (e : Eng) : Nat := regF s .schedAge e 0 29 16

/-- Units that moves of flows hold for a container (R364). -/
def movedTo (s : State) (e : Eng) (c : Nat) : Table (List QPkt) :=
  s.flow.movePend.filter (fun p =>
    let m := (getFlow s p.1).map
    treeOf s (if m.getLsbD 31 then .B else .A) = treeOf s e && fld m 30 16 = c)

/-- Queued units of a container are discarded and counted per flow, those that moves hold for it among them (R261, R331, R364). -/
def dropQueued (e : Eng) (c : Nat) (s : State) : State :=
  let x := getCtr s e c
  let fs := x.queue.map (fun q => q.flow) ++ x.out.map (fun u => u.flow) ++ (movedTo s e c).flatMap (fun p => p.2.map (fun q => q.flow))
  let s := forAll (movedTo s e c) (fun p t => { t with flow := { t.flow with movePend := tset [] t.flow.movePend p.1 [] } }) s
  forAll fs (fun f t => modFlow f (fun y => { y with dropCtr := satAdd y.dropCtr 1 }) t)
    (setCtr e c { x with queue := [], out := [] } s)

/-- The containers that name a leaf, as the table of the tree has them (R250). -/
def ctrsOfLeaf (s : State) (e : Eng) (l : Nat) : List Nat :=
  (s.ctrs.filter (fun p => p.1 / 32768 = (treeOf s e).num && ! ctrMcast p.2.w0 && ctrTarget p.2.w0 = l)).map (fun p => p.1 % 32768)

/-- Downstream units that wait for a leaf which is no longer ACTIVE or LOST are discarded (R331). -/
def dropForLeaf (e : Eng) (l : Nat) (s : State) : State := forAll (ctrsOfLeaf s e l) (dropQueued e) s

/-- What every departure does to a leaf that the tree of engine `e` holds, the DEREG message apart (R331): keys, stream, waiting units and
memberships end, its grants are struck and go idle at the engine that serves the tree, and that engine counts and reports it. -/
def leave (e : Eng) (l cause : Nat) (toFree : Bool) (s : State) : State :=
  let x := getLeaf s e l
  let w := treeEng s e
  let t := if x.rerange then rerangeEvent w l 2 x 0 s else s
  let t := dropForLeaf e l (resetLeafRx e l (eraseLeafKeys e l t))
  let t := setLeaf e l (departedEntry x (toFree || stickyH s e = 0) cause (now s)) t
  let t := strike w (fun g => g.leaf.val = l) t
  let t := idleWindows w (fun tn g => g.leaf.val = l && ahead s w tn g) t
  let t := forAll (groupsOf x.grps) (groupLeft e) t
  schedEvent w 0x0804 (leafObjId w l) (packData [(8, cause)]) 3 (count 12 w.num 13 1 t)

/-- A departure (R331): DEREG, which carries HOLD_S `hold`, and what follows from it. -/
def depart (e : Eng) (l cause hold : Nat) (toFree : Bool) (s : State) : State :=
  leave e l cause toFree (sendMsg e (.deregLeaf (Fin.ofNat 4096 l) cause hold) s)

/-! ## Leaf and engine defects (R273 to R276, R295) -/

/-- One observation for a defect with entry and exit run lengths (R274, R275). -/
def Defect.observe (nIn nOut : Nat) (bad good : Bool) (d : Defect) : Defect :=
  if d.on then (if good then (if nOut ≤ d.cnt + 1 then {} else { d with cnt := d.cnt + 1 }) else { d with cnt := 0 })
  else if bad then (if nIn ≤ d.cnt + 1 then { on := true } else { d with cnt := d.cnt + 1 })
  else { d with cnt := 0 }

/-- The highest-ranked defect in force: 0 LOS, 1 LOF, 2 AIS, 3 RDI (R273). -/
def Defects.top (d : Defects) : Option Nat :=
  if d.los.on then some 0 else if d.lof.on then some 1 else if d.ais.on then some 2 else if d.rdi.on then some 3 else none

/-- A defect by its number. -/
def Defects.isOn (d : Defects) : Nat → Bool
  | 0 => d.los.on | 1 => d.lof.on | 2 => d.ais.on | _ => d.rdi.on

/-- A defect that was reported ends: it is no longer in force, and no higher one takes its place. A defect that a higher one masks raises no
event (R273). -/
def exits (d : Defects) (was : Nat) (is : Option Nat) : Bool :=
  ! d.isOn was && (match is with
    | some k => decide (was < k)
    | none => true)

/-- Reassembly and defect state of a leaf at an engine. -/
def getRx (s : State) (e : Eng) (l : Nat) : LeafRx := tget {} (getEng s e).lrx l
def modRx (e : Eng) (l : Nat) (f : LeafRx → LeafRx) (s : State) : State :=
  modEng e (fun x => { x with lrx := tset {} x.lrx l (f (tget {} x.lrx l)) }) s

/-- Engine LOS or LOF is in force, which silences every leaf defect of the engine (R273). -/
def engSilent (s : State) (e : Eng) : Bool := (getEng s e).defs.los.on || (getEng s e).defs.lof.on

/-- The defect an engine reports of a leaf. R273 does not say whether the standby engine of a pair reports what it detects, nor whether a switch
that moves the reporting raises an event: it reports nothing, and the move raises none (DESIGN CHOICE, unsafe; notes/assumptions/212.md). -/
def leafRep (s : State) (e : Eng) (l : Nat) : Option Nat :=
  if engSilent s e || ! countsTree s e || ! registered (getLeaf s e l) then none else (getRx s e l).defs.top

/-- The defect an engine reports of itself. -/
def engRep (s : State) (e : Eng) : Option Nat := (getEng s e).defs.top

/-- The leaf's bit of RDI_MAP: LOS, LOF or AIS reported (R276). -/
def rdiBit (s : State) (e : Eng) (l : Nat) : Bool :=
  match leafRep s e l with
  | some d => d < 3
  | none => false

/-- OR bits into an accumulator that counts no occurrences (DEF_SECONDS of R279). -/
def markCount (k o i m : Nat) (s : State) : State :=
  let a := cellAddr k o i
  { s with tally := { s.tally with acc := tset 0 s.tally.acc a ((tget 0 s.tally.acc a) ||| m) } }

/-- Raise FRM_LEAF_DEFECT (R295): entry 1, exit 0; the cause tells a dying gasp. -/
def leafDefEvent (e : Eng) (l d entry : Nat) (s : State) : State :=
  let cause := if d = 0 then (getRx s e l).losCause else 0
  oncePerTurn 0x0702 (leafObjId e l) (turnKey s e)
    (raiseF e.rxd 0x0702 (leafObjId e l) (packData [(8, d), (8, entry), (8, cause)]) .frmFlags e 4) s

/-- LOS or LOF reported moves an ACTIVE leaf to LOST, and the defect's exit moves it back (R311). -/
def followLost (e : Eng) (l : Nat) (s : State) : State :=
  let x := getLeaf s e l
  let d := (getRx s e l).defs
  match leafRep s e l with
  | some r =>
    if r < 2 && x.st = .active then
      schedEvent e 0x0803 (leafObjId e l) (packData [(8, r)]) 2 (setLeaf e l { x with st := .lost } s)
    else if x.st = .lost && ! d.los.on && ! d.lof.on && countsTree s e then setLeaf e l { x with st := .active } s
    else s
  | none =>
    if x.st = .lost && ! d.los.on && ! d.lof.on && countsTree s e then setLeaf e l { x with st := .active } s else s

/-- After a change of what an engine reports of a leaf: its events, its seconds, and the move to or from LOST. -/
def leafReports (e : Eng) (l : Nat) (was : Option Nat) (s : State) : State :=
  let is := leafRep s e l
  let t := if was = is then s
    else
      let t := match was with
        | some d => when (exits (getRx s e l).defs d is) (leafDefEvent e l d 0) s
        | none => s
      match is with
        | some d => markCount 9 (leafObj s e l) 12 (2 ^ d) (leafDefEvent e l d 1 t)
        | none => t
  followLost e l t

/-- Change the defects of a leaf, with what follows from it. -/
def modDefs (e : Eng) (l : Nat) (f : LeafRx → LeafRx) (s : State) : State :=
  leafReports e l (leafRep s e l) (modRx e l f s)

end Sys2Proof.Machine
end

