-- ==== Sys2Proof/Machine/Burst.lean ====
section
/-! DEFINITION. The upstream burst as functions of what it carries: preamble, sync word, header, block code, scrambling and
arrival time (R154 to R167, R228 to R230). -/

namespace Sys2Proof.Machine

/-! ## Preamble and sync word (R157, R158) -/

/-- `n` bits of a left-shifting generator of width `w` fed by its two top bits. -/
def lfsrBits (w : Nat) : Nat → Nat → List Bool
  | 0, _ => []
  | n + 1, r =>
    let f := b01 ((r.testBit (w - 1)).xor (r.testBit (w - 2)))
    r.testBit (w - 1) :: lfsrBits w n ((2 * r + f) % 2 ^ w)

/-- The 64 preamble bits q. -/
def preambleBits : List Bool := lfsrBits 6 63 0x3F ++ [false]

/-- Preamble symbol `p` in the order XI, XQ, YI, YQ; the short preamble is symbols 128 to 255. -/
def preambleSymbol (p : Nat) : List Bool := (preambleBits.drop (4 * (p % 16))).take 4

/-- The 128 sync word bits w, w[0] first, and as a number with w[0] most significant. -/
def syncBits : List Bool := lfsrBits 7 127 0x7F ++ [false]
def syncWord : BitVec 128 := BitVec.ofNat 128 (ofBits syncBits)

/-- Sync symbol `k` in the order XI, XQ, YI, YQ. -/
def syncSymbol (k : Nat) : List Bool :=
  let a := syncBits.getD (2 * k) false
  let b := syncBits.getD (2 * k + 1) false
  [a, b, b, ! a]

/-- Bit errors of 128 received bits against the sync word (R177). -/
def syncErrs (v : BitVec 128) : Nat := ((bitsOf 128 (v ^^^ syncWord).toNat).filter (fun b => b)).length

/-! ## Header (R159 to R161) -/

def hdrLeaf (h : BitVec 128) : Nat := fld h 127 116
def hdrKind (h : BitVec 128) : Nat := fld h 115 114
def hdrSsn (h : BitVec 128) : Nat := fld h 113 98
def hdrBlocks (h : BitVec 128) : Nat := fld h 97 90
def hdrFmt (h : BitVec 128) : Nat := fld h 89 88
def hdrCptr (h : BitVec 128) : Nat := fld h 87 77
def hdrAps (h : BitVec 128) : Nat := fld h 76 61
def hdrRdi (h : BitVec 128) : Bool := h.getLsbD 60
def hdrDgasp (h : BitVec 128) : Bool := h.getLsbD 59
def hdrQreport (h : BitVec 128) : Nat := fld h 58 43

/-- The CRC-16 of R160. -/
def burstCrc (l : List Byte) : Nat := crc16 0x1021 0xFFFF l

/-- The header's CRC is good. -/
def hdrCrcOk (h : BitVec 128) : Bool := burstCrc (toBytes 14 (h.toNat / 65536)) = h.toNat % 65536

/-- Both copies of a header as sent: the bits, then their complement (R161). -/
def headerCopies (h : BitVec 128) : List Bool :=
  let b := bitsOf 128 h.toNat
  b ++ b.map (fun x => ! x)

/-! ## Payload code (R162 to R165) -/

/-- A component codeword of `k` information bits over 127 positions and its extension bit (R163). -/
def usCodeword (w poly : Nat) (u : List Bool) : List Bool :=
  let c := u ++ bitsOf w (polyRem w poly u)
  c ++ [c.foldl Bool.xor false]

/-- The row code eBCH(128,120), g1 = 0x89, and the column code eBCH(128,113), g2 = 0x4377 (R162). -/
def usRow (u : List Bool) : List Bool := usCodeword 7 0x09 u
def usCol (u : List Bool) : List Bool := usCodeword 14 0x0377 u

/-- A block of 13,560 information bits as its 128 × 128 array (R164). -/
def usBlock (bits : List Bool) : List (List Bool) :=
  let top := (List.range 113).map (fun r => usRow ((bits.drop (120 * r)).take 120))
  let cols := (List.range 128).map (fun c => (usCol (column top c)).drop 113)
  top ++ (List.range 15).map (fun r => column cols r)

/-- A row or a column is a codeword of its component code (R180). -/
def usRowOk (r : List Bool) : Bool := usRow (r.take 120) = r
def usColOk (c : List Bool) : Bool := usCol (c.take 113) = c

/-- Every row and every column of an array is a codeword: the block is good (R180). -/
def usBlockOk (a : List (List Bool)) : Bool :=
  a.all usRowOk && (List.range 128).all (fun c => usColOk (column a c))

/-- Coded bit `j` of a block, read column by column (R165). -/
def codedBit (a : List (List Bool)) (j : Nat) : Bool := (a.getD (j % 128) []).getD (j / 128) false

/-- The bits of block symbol `k` at a format of `b` bits per symbol and `n` symbols per block (R165). -/
def blockSymbol (a : List (List Bool)) (b n k : Nat) : List Bool :=
  (List.range b).map (fun i => n * i + k < 16384 && codedBit a (n * i + k))

/-! ## Scrambling (R167) -/

/-- The scrambler state at the first information bit of a burst. -/
def burstSeed (leaf ssn : Nat) : Nat := 0x40000000 ||| (leaf <<< 16) ||| ssn

/-- Run the scrambler of R133 over one byte: the state after it, and the byte with its 8 bits scrambled or descrambled. -/
def scrambleByte (s : Nat) (b : Byte) : Nat × Byte :=
  let step := fun (p : Nat × Nat) (_ : Nat) =>
    let z := b01 ((p.1.testBit 30).xor (p.1.testBit 2))
    ((2 * p.1 + z) % 2 ^ 31, 2 * p.2 + z)
  let r := [0, 1, 2, 3, 4, 5, 6, 7].foldl step (s, 0)
  (r.1, b ^^^ BitVec.ofNat 8 r.2)

/-- Run the scrambler over bytes. -/
def scrambleBytes : Nat → List Byte → Nat × List Byte
  | s, [] => (s, [])
  | s, b :: l =>
    let p := scrambleByte s b
    let q := scrambleBytes p.1 l
    (q.1, p.2 :: q.2)

/-- The scrambler state after `n` bytes. -/
def scrambleSkip : Nat → Nat → Nat
  | 0, s => s
  | n + 1, s => scrambleSkip n (scrambleByte s 0).1

/-! ## Arrival time (R228 to R230) -/

/-- G_LIN and G_MIN in fs (R228), and the one in force (US_GD). -/
def gLin : Nat := 56311632
def gMin : Nat := 16367187
def groupDelay (s : State) (e : Eng) : Nat := if (getReg s .usFeCfg e 0).getLsbD 0 then gMin else gLin

/-- D_A in fs, measured at manufacture, within 5 ps of 1.850 ns (R228, R240; notes/assumptions/11.md). -/
def feDelay (e : Eng) : Int := max 1845000 (min 1855000 (Config.factory (0x05000010 + 0x10000000 * (e.num + 1))))

/-- τ_cd of subcarrier `n` in fs: CD_PSNM × λ_u² / c × (n − 15.5) × 9.375 GHz (R229), with f_u in MHz. -/
def tauCd (s : State) (e : Eng) (n : Nat) : Int :=
  let f : Int := (getReg s .usTreeUs e 0).toNat
  let cd := asSigned 16 (regF s .usTreeCd e 0 15 0)
  cd * (2 * n - 31) * 299792458000000 * 9375 / (2 * f * f)

/-- Arrival time of the first sync symbol in 1/65,536 ns from the time tag of its centre sample (R229, R230). -/
def arrival (s : State) (e : Eng) (n : Nat) (tag : Int) : Nat :=
  (tag - (feDelay e + groupDelay s e + tauCd s e n) * 65536 / 1000000).toNat

end Sys2Proof.Machine
end

