-- ==== Sys2Proof/Machine/Trig.lean ====
section
/-! DEFINITION. Decibels and angles in integers: the arithmetic behind the gains, phases and frequencies of the signal processing.
Every result is the exact one to the nearest unit; sines and cosines are summed in units of 2^−60 (notes/assumptions/166.md). -/

namespace Sys2Proof.Machine

/-! ## Search by bits -/

/-- The largest number from `lo` on, less than 2^n above it, that satisfies a property which holds up to a bound and not beyond. -/
def bitSearch (p : Int → Bool) : Nat → Int → Int
  | 0, lo => lo
  | n + 1, lo => if p (lo + 2 ^ n) then bitSearch p n (lo + 2 ^ n) else bitSearch p n lo

/-! ## Decibels -/

/-- Ten times the common logarithm of a ratio of two positive numbers, in `parts` of a dB, at least −400 dB: the nearest whole number
`n`, for which (num / den)^(20 parts) lies between 10^(2n − 1) and 10^(2n + 1). -/
def powerDb (parts : Nat) (num den : Int) : Int :=
  let a := num.toNat ^ (20 * parts)
  let b := den.toNat ^ (20 * parts)
  bitSearch (fun n => if 1 ≤ 2 * n then decide (b * 10 ^ (2 * n - 1).toNat ≤ a) else decide (b ≤ a * 10 ^ (1 - 2 * n).toNat))
    24 (-400 * (parts : Int))

/-- The ratio of amplitudes that a gain of `g` in `parts` of a dB stands for, in units of 2^−14: the nearest whole number `r`, for which
(2r − 1)^(20 parts) is at most 10^g × 2^(300 parts). -/
def gainRatio (parts : Nat) (g : Int) : Int :=
  let q := 20 * parts
  bitSearch (fun r => if 0 ≤ g then decide ((2 * r - 1).toNat ^ q ≤ 10 ^ g.toNat * 2 ^ (15 * q))
    else decide ((2 * r - 1).toNat ^ q * 10 ^ (-g).toNat ≤ 2 ^ (15 * q))) 32 0

/-! ## Constellation levels -/

/-- A level of a constellation whose scale divisor has the square `sq`, in units of 2^−14: the nearest whole number. -/
def levelAmp (sq : Nat) (l : Int) : Int :=
  let a := bitSearch (fun r => decide ((2 * r - 1) ^ 2 * sq ≤ (2 * 16384 * l) ^ 2)) 18 0
  if l < 0 then -a else a

/-! ## Sines and cosines -/

/-- One, π and the natural logarithm of 10, in units of 2^−60. -/
def fixOne : Int := 2 ^ 60
def fixPi : Int := 3622009729038561421
def fixLn10 : Int := 2654699869899991814

/-- The sum of the power series whose term of order `k` is `t`, with `x2` the square of the angle. -/
def trigSum (x2 : Int) : Nat → Nat → Int → Int
  | 0, _, _ => 0
  | n + 1, k, t => t + trigSum x2 n (k + 2) (-(t * x2 / fixOne) / (((k + 1) * (k + 2) : Nat) : Int))

/-- Sine and cosine of an angle of at most a turn in units of 2^−60. -/
def fixSin (x : Int) : Int := trigSum (x * x / fixOne) 20 1 x
def fixCos (x : Int) : Int := trigSum (x * x / fixOne) 20 0 fixOne

/-- An angle in 2^−32 turn, from −2^31 to 2^31, and an angle in 0.001°, in units of 2^−60. -/
def turnAngle (t : Int) : Int := t * fixPi / 2 ^ 31
def milliAngle (m : Int) : Int := m * fixPi / 180000

/-- The angle in 0.001° whose sine is a ratio of two integers, from −90° to 90°: the nearest whole number. -/
def arcsinMilli (num den : Int) : Int :=
  let n := if den < 0 then -num else num
  min 90000 (bitSearch (fun m => decide (90000 < m) || decide (fixSin (milliAngle (2 * m - 1) / 2) * den.natAbs ≤ n * fixOne)) 18 (-90000))

/-- A phase in 2^−32 turn as an angle from −half a turn on. -/
def halfTurn (t : Int) : Int := (t + 2 ^ 31) % 2 ^ 32 - 2 ^ 31

/-- A sample turned back by a phase in 2^−32 turn (R222), and by one in 1/256 turn. -/
def rotateFine (t : Int) (z : Int × Int) : Int × Int :=
  let a := turnAngle (halfTurn t)
  let c := fixCos a
  let s := fixSin a
  ((z.1 * c + z.2 * s + fixOne / 2) / fixOne, (z.2 * c - z.1 * s + fixOne / 2) / fixOne)
def rotate (p : Int) (z : Int × Int) : Int × Int := rotateFine (p * 2 ^ 24) z

/-- Sine and cosine of `p` / `q` half turns in units of 2^−60. -/
def sinHalves (p : Int) (q : Nat) : Int := fixSin (fixPi * ((p + q) % (2 * q) - q) / q)
def cosHalves (p : Int) (q : Nat) : Int := fixCos (fixPi * ((p + q) % (2 * q) - q) / q)

/-- Quotient of two integers to the nearest integer (notes/assumptions/166.md). -/
def rdiv (a b : Int) : Int := (2 * a + b) / (2 * b)

/-- The root-raised-cosine impulse of roll-off 1/25 and unit energy (R117, R155, R218) at `a` / `b` symbols from its centre, in units of
2^−14: (sin(24πt/25) + (4t/25) cos(26πt/25)) / (πt (1 − (4t/25)²)), 24/25 + 4/(25π) at the centre and 1/25 at 6.25 symbols. -/
def rootRaised (a : Int) (b : Nat) : Int :=
  let n : Int := a.natAbs
  let den : Int := 625 * (b : Int) ^ 2 - 16 * n ^ 2
  if n = 0 then rdiv (16384 * (24 * fixPi + 4 * fixOne)) (25 * fixPi)
  else if den = 0 then rdiv 16384 25
  else
    let num := sinHalves (24 * n) (25 * b) + 4 * n * cosHalves (26 * n) (25 * b) / (25 * b)
    if 0 < den then rdiv (num * 625 * (b : Int) ^ 3 * 16384) (fixPi * n * den)
    else rdiv (-num * 625 * (b : Int) ^ 3 * 16384) (fixPi * n * -den)

/-- The angle of a complex number in 2^−32 turn, from −2^31 to 2^31; 0 of zero. In the upper half plane it is the largest angle that the
number has reached to the nearest unit. -/
def angleOf (re im : Int) : Int :=
  let up := fun (x y : Int) => bitSearch (fun a => decide (a ≤ 2 ^ 31)
    && decide (0 ≤ y * fixCos (turnAngle (2 * a - 1) / 2) - x * fixSin (turnAngle (2 * a - 1) / 2))) 32 0
  if re = 0 && im = 0 then 0 else if im = 0 then (if re < 0 then 2 ^ 31 else 0) else if 0 < im then up re im else -(up re (-im))

end Sys2Proof.Machine
end

