-- ==== Sys2Proof/Machine/Front.lean ====
section
/-! DEFINITION. The converter front end and the extraction as functions of the samples: the statistics of blind calibration and the
estimates from them, the front-end correction, the dispersion filter, the branches, the resampler, the channel filter and the
detectors (R201 to R224, R232). -/

namespace Sys2Proof.Machine

/-! ## Words and samples (R202) -/

/-- ADC `a` of a word: 0 XI, 1 XQ, 2 YI, 3 YQ. -/
def adcOf (w : RxWord) : Nat → List Int
  | 0 => w.xi | 1 => w.xq | 2 => w.yi | _ => w.yq

/-- A word with no samples, for the time beyond what was received. -/
def noWord : RxWord := ⟨[], [], [], []⟩

/-- Sample `m` of ADC `a` about a word, the word before it and the word after it (notes/assumptions/166.md). -/
def sampleAt (p w n : RxWord) (a : Nat) (m : Int) : Int :=
  if m < 0 then (adcOf p a).getD (m + 256).toNat 0
  else if m < 256 then (adcOf w a).getD m.toNat 0
  else (adcOf n a).getD (m - 256).toNat 0

/-- Mean of a list of values, rounded down; 0 of none. -/
def meanOf (l : List Int) : Int := if l = [] then 0 else l.sum / l.length

/-- Clamp a value between two bounds. -/
def clamp (lo hi x : Int) : Int := max lo (min hi x)

/-! ## The statistics of blind calibration (R206 step 1, R207) -/

/-- Step 1 of R206 on one sample: the offset correction in 1/8 LSB is added, then the gain correction in 0.0001 dB multiplies. The result,
and every sample after it, is in 1/128 LSB, 2^−14 of full scale (notes/assumptions/166.md). -/
def frontStep1 (o g x : Int) : Int := (8 * x + o) * gainRatio 10000 g / 1024

/-- Sample `m` of ADC `a` about a word after step 1, under the coefficients in force (R211's indexes: 3 (64 a + k)). -/
def correctedAt (coef : Nat → Int) (p w n : RxWord) (a : Nat) (m : Int) : Int :=
  let i := 3 * (64 * a + (m % 64).toNat)
  frontStep1 (coef i) (coef (i + 1)) (sampleAt p w n a m)

/-- Add to one sum, modulo 2^64. -/
def addSum (t : Table (BitVec 64)) (i : Nat) (v : Int) : Table (BitVec 64) := tset 0 t i (tget 0 t i + BitVec.ofInt 64 v)

/-- Add a list of values to a table of sums from an index on. -/
def addSums (t : Table (BitVec 64)) (vs : List (Nat × Int)) : Table (BitVec 64) := vs.foldl (fun u p => addSum u p.1 p.2) t

/-- The sum over the samples of a word that sub-converter `k` took. -/
def overSub (f : Int → Int) (k : Nat) : Int := ((List.range 4).map (fun j => f (64 * j + k))).sum

/-- The sum over all samples of a word of products of samples after step 1, in squares of an LSB. -/
def overWord (f : Int → Int) : Int := rdiv ((List.range 256).map (fun m => f m)).sum 16384

/-- A word enters the sums of R207; the sums over qualified words take it when `q`. -/
def Sums.add (coef : Nat → Int) (q : Bool) (p w n : RxWord) (s : Sums) : Sums :=
  let x := sampleAt p w n
  let y := correctedAt coef p w n
  let subs := (List.range 256).map (fun i => (i, i / 64, i % 64))
  let lags := fun (t : Nat) => ((t : Int) - 3)
  let s := { s with
    s1 := addSums s.s1 (subs.map (fun i => (i.1, overSub (x i.2.1) i.2.2)))
    s2 := addSums s.s2 (subs.map (fun i => (i.1, overSub (fun m => x i.2.1 m ^ 2) i.2.2)))
    n := s.n + 1 }
  if q then
    { s with
      s12 := addSums s.s12 (subs.map (fun i => (i.1, overSub (fun m => x i.2.1 m * x i.2.1 (m + 1)) i.2.2)))
      cii := addSums s.cii ((List.range 6).map (fun i =>
        (4 * (i / 3) + i % 3, overWord (fun m => y (2 * (i / 3)) m * y (2 * (i / 3)) (m + (i % 3 : Nat))))))
      cqq := addSums s.cqq ((List.range 2).map (fun p => (p, overWord (fun m => y (2 * p + 1) m ^ 2))))
      ciq := addSums s.ciq ((List.range 14).map (fun i =>
        (8 * (i / 7) + i % 7, overWord (fun m => y (2 * (i / 7)) (m + lags (i % 7)) * y (2 * (i / 7) + 1) m))))
      nq := s.nq + 1 }
  else s

/-- Power of a word over the four ADCs, as a sum over its 1,024 samples. -/
def wordPower (w : RxWord) : Nat := ((List.range 4).map (fun a => ((adcOf w a).map (fun x => x.natAbs ^ 2)).sum)).sum

/-- A word is qualified: its mean power is at least MIN_LEVEL dB above the idle reference (R207). -/
def qualified (lvl : Nat) (ref : Nat × Nat) (w : RxWord) : Bool := ref.1 ^ 10 * 10 ^ lvl ≤ (wordPower w * ref.2) ^ 10

/-- The idle reference after a second: the mean over its idle words, or the previous one when there was none (R207). -/
def idleAfter (ref idle : Nat × Nat) : Nat × Nat := if idle.2 = 0 then ref else idle

/-- A sample is a clip (R205). -/
def isClip (x : Int) : Bool := x = -128 || x = 127

/-- A word enters what an ADC gives in a turn (R204, R205). -/
def AdcAcc.add (l : List Int) (x : AdcAcc) : AdcAcc :=
  { sq := x.sq + (l.map (fun v => v.natAbs ^ 2)).sum, clips := x.clips + (l.filter isClip).length, n := x.n + l.length }

/-- RMS of an ADC in 0.01 dB relative to full scale, 128 (R204). -/
def AdcAcc.rms (x : AdcAcc) : Int := powerDb 100 x.sq (16384 * x.n)

/-! ## The estimates of the receive front end (R208 to R210) -/

/-- The increase of a sum between two snapshots, modulo 2^64 (R222). -/
def sumRise (a b : Table (BitVec 64)) (i : Nat) : Int := (tget 0 b i - tget 0 a i).toInt

/-- N², times P_k, of sub-converter `k` of ADC `a`; and the sum of that over the ADC. -/
def varOf (a b : Sums) (adc k : Nat) : Int :=
  4 * ((b.n - a.n : Nat) : Int) * sumRise a.s2 b.s2 (64 * adc + k) - sumRise a.s1 b.s1 (64 * adc + k) ^ 2
def varSum (a b : Sums) (adc : Nat) : Int := ((List.range 64).map (varOf a b adc)).sum

/-- N² N' times A_k of R208. -/
def covOf (a b : Sums) (adc k : Nat) : Int :=
  let n : Int := 4 * (b.n - a.n : Nat)
  let q : Int := 4 * (b.nq - a.nq : Nat)
  n ^ 2 * sumRise a.s12 b.s12 (64 * adc + k) - q * sumRise a.s1 b.s1 (64 * adc + k) * sumRise a.s1 b.s1 (64 * adc + (k + 1) % 64)

/-- The offset correction o_k = −μ_k in 1/8 LSB. -/
def offsetEst (a b : Sums) (adc k : Nat) : Option Int :=
  if b.n ≤ a.n then none else some (rdiv (-8 * sumRise a.s1 b.s1 (64 * adc + k)) (4 * (b.n - a.n : Nat)))

/-- The gain correction g_k = √(P̄ / P_k) in 0.0001 dB. Here and below an estimate whose formula would divide by zero, or take a root of
what is not positive, is skipped, and its coefficient stays: the rule does not say what such a collection gives (DESIGN CHOICE, unsafe;
notes/assumptions/184.md). -/
def gainEst (a b : Sums) (adc k : Nat) : Option Int :=
  if varOf a b adc k ≤ 0 then none else some (powerDb 10000 (varSum a b adc) (64 * varOf a b adc k))

/-- The trim change of sub-converter `k` in 1/64 ps: −0.5 ps × (A_k − A_(k−1)) / P̄, at most ±0.25 ps. -/
def trimChange (a b : Sums) (adc k : Nat) : Int :=
  clamp (-16) 16 (rdiv (-2048 * (covOf a b adc k - covOf a b adc ((k + 63) % 64))) (4 * ((b.nq - a.nq : Nat) : Int) * varSum a b adc))

/-- The trims of an ADC after the change, their mean subtracted. -/
def trimEst (a b : Sums) (coef : Nat → Int) (adc : Nat) : Option (List Int) :=
  if b.nq ≤ a.nq || varSum a b adc ≤ 0 then none
  else
    let ts := (List.range 64).map (fun k => coef (3 * (64 * adc + k) + 2) + trimChange a b adc k)
    some (ts.map (fun t => t - rdiv ts.sum 64))

/-- C_II(τ), C_QQ(0) and C_IQ(τ) of a collection; C_II is even. -/
def cII (a b : Sums) (p : Nat) (t : Int) : Int := sumRise a.cii b.cii (4 * p + t.natAbs)
def cQQ (a b : Sums) (p : Nat) : Int := sumRise a.cqq b.cqq p
def cIQ (a b : Sums) (p : Nat) (t : Int) : Int := sumRise a.ciq b.ciq (8 * p + (t + 3).toNat)

/-- Twice E(τ) and twice D(τ) of R209. -/
def evenPart (a b : Sums) (p : Nat) (t : Int) : Int := cIQ a b p t + cIQ a b p (-t)
def slopePart (a b : Sums) (p : Nat) (t : Int) : Int := cIQ a b p (t + 1) - cIQ a b p (t - 1)

/-- A sum over τ = −2 to +2. -/
def overLags (f : Int → Int) : Int := ([-2, -1, 0, 1, 2].map f).sum

/-- The least-squares solution of E(τ) = sin φ × C_II(τ) − δ × D(τ): the numerators of sin φ and of δ, and their denominator. -/
def iqFit (a b : Sums) (p : Nat) : Int × Int × Int :=
  let e := evenPart a b p
  let d := slopePart a b p
  let c := fun t => 2 * cII a b p t
  let ec := overLags (fun t => e t * c t)
  let ed := overLags (fun t => e t * d t)
  let cc := overLags (fun t => c t * c t)
  let cd := overLags (fun t => c t * d t)
  let dd := overLags (fun t => d t * d t)
  (ec * dd - ed * cd, ec * cd - ed * cc, cc * dd - cd * cd)

/-- The skew is observable: |O(1)| is at least 0.02 × C_II(0) (R210), and the fit has one solution. A fit without one is treated as R210
treats a small O(1): the skew is held, and the phase is E(0) / C_II(0) (DESIGN CHOICE, unsafe; notes/assumptions/184.md). -/
def skewSeen (a b : Sums) (p : Nat) : Bool :=
  decide (cII a b p 0 ≤ 25 * (slopePart a b p 0).natAbs) && decide ((iqFit a b p).2.2 ≠ 0)

/-- g_IQ in 0.001 dB, φ in 0.001° and δ in fs of a polarization (R209, R210). -/
def iqGainEst (a b : Sums) (p : Nat) : Option Int :=
  if cII a b p 0 ≤ 0 || cQQ a b p ≤ 0 then none else some (powerDb 1000 (cII a b p 0) (cQQ a b p))
def iqPhaseEst (a b : Sums) (p : Nat) : Option Int :=
  if cII a b p 0 ≤ 0 then none
  else if skewSeen a b p then some (arcsinMilli (iqFit a b p).1 (iqFit a b p).2.2)
  else some (arcsinMilli (cIQ a b p 0) (cII a b p 0))
def iqSkewEst (a b : Sums) (p : Nat) : Option Int :=
  if cII a b p 0 ≤ 0 || ! skewSeen a b p then none
  else some (((iqFit a b p).2.1 * 15625) / ((iqFit a b p).2.2 * 6))

/-- The estimate of receive coefficient `i` from a collection, in its resolution; none where it is not updated. -/
def rxEstimate (a b : Sums) (coef : Nat → Int) (i : Nat) : Option Int :=
  if i < 768 then
    let adc := i / 192
    let k := i / 3 % 64
    match i % 3 with
    | 0 => offsetEst a b adc k
    | 1 => gainEst a b adc k
    | _ => (trimEst a b coef adc).map (fun l => l.getD k 0)
  else
    let p := (i - 768) / 3
    match i % 3 with
    | 0 => iqGainEst a b p
    | 1 => iqPhaseEst a b p
    | _ => iqSkewEst a b p

/-! ## The estimates of the transmit side (R232) -/

/-- Sample `i` of those that the TXD island sent on output `d` since a collection began. What it sends in CALIBRATING, where no frame runs, no
rule states: those samples are free (R232, R234; notes/assumptions/238.md). -/
def sentSample (sent : List (List Int)) (d i : Nat) : Int :=
  if sent.getD d [] = [] then Config.calSignal d i else (sent.getD d []).getD i 0

/-- Correlation of an output's monitor samples at one sampling phase with the DAC samples sent on it, `lag` − 128 samples away. -/
def monCorr (sent : List (List Int)) (l : List MonWord) (d ph lag : Nat) : Int :=
  ((l.filter (fun x => x.phase = ph && decide (128 ≤ x.pos + lag))).map (fun x =>
    x.vals.getD d 0 * sentSample sent d (x.pos + lag - 128))).sum

/-- The correlations of every output, phase and lag. -/
def monCorrs (sent : List (List Int)) (l : List MonWord) : List (List (List Int)) :=
  (List.range 4).map (fun d => (List.range 64).map (fun ph => (List.range 256).map (monCorr sent l d ph)))

/-- The estimate of transmit coefficient `i`. -/
def txEstimate (sent : List (List Int)) (l : List MonWord) (i : Nat) : Int := Config.txEstimate i (monCorrs sent l)

/-! ## The front-end correction (R206) -/

/-- A stream of complex samples by their number. -/
abbrev Stream := Int → Cpx

/-- Tap `t` of the fractional-delay filter, for a skew in fs: the 16 taps that delay every polynomial of degree 15 by 8 − δ samples exactly
(R206; DESIGN CHOICE, unsafe, notes/assumptions/218.md). -/
def delayTap (skew : Int) (t : Nat) : Int :=
  let others := (List.range 16).filter (fun k => k ≠ t)
  let num := others.foldl (fun (a : Int) (k : Nat) => a * (8000000 - 384 * skew - 1000000 * k)) 16384
  let den := others.foldl (fun (a : Int) (k : Nat) => a * (1000000 * ((t : Int) - k))) 1
  if 0 < den then rdiv num den else rdiv (-num) (-den)

/-- The I stream and the Q stream of a polarization, after step 1. -/
def frontDelay (skew : Int) (i q : Int → Int) : Stream := fun m =>
  (i (m - 8), rdiv ((List.range 16).map (fun t => delayTap skew t * q (m - t))).sum 16384)

/-- Step 3: I' = I; Q' = (g_IQ × Q − sin φ × I) / cos φ. -/
def frontMatrix (g phi : Int) (z : Cpx) : Cpx :=
  (z.1, (gainRatio 1000 g * z.2 * 2 ^ 46 - fixSin (milliAngle phi) * z.1) / fixCos (milliAngle phi))

/-- The front-end correction of polarization `p` on the samples of its two ADCs. -/
def frontCorrect (coef : Nat → Int) (p : Nat) (x : Nat → Int → Int) : Stream := fun m =>
  let step1 := fun (a : Nat) (t : Int) =>
    let i := 3 * (64 * a + (t % 64).toNat)
    frontStep1 (coef i) (coef (i + 1)) (x a t)
  frontMatrix (coef (768 + 3 * p)) (coef (769 + 3 * p))
    (frontDelay (coef (770 + 3 * p)) (step1 (2 * p)) (step1 (2 * p + 1)) m)

/-! ## Filters -/

/-- Product of complex numbers in units of 2^−14, and the conjugate. -/
def cmul (a b : Cpx) : Cpx := ((a.1 * b.1 - a.2 * b.2) / 16384, (a.1 * b.2 + a.2 * b.1) / 16384)
def conj (a : Cpx) : Cpx := (a.1, -a.2)

/-- A stream through a filter of `n` real taps. -/
def fir (n : Nat) (tap : Nat → Int) (x : Stream) : Stream := fun m =>
  (rdiv ((List.range n).map (fun t => tap t * (x (m - t)).1)).sum 16384, rdiv ((List.range n).map (fun t => tap t * (x (m - t)).2)).sum 16384)

/-- Phase of the all-pass response at `k` × 46.875 MHz from f_u, in 2^−32 turn: a delay of CD_PSNM × λ_u² × f / c turns the component at f
back by half of it times f. -/
def dispersionTurns (cd : Int) (fu : Nat) (k : Int) : Int :=
  rdiv (cd * 299792458 * 140625 * k ^ 2 * 2 ^ 32) (128000 * (fu : Int) ^ 2)

/-- Tap `t` of the filter: its response at the 8,192 frequencies that divide 384 GHz, each of magnitude 1, and 4,096 samples late (DESIGN
CHOICE, unsafe; notes/assumptions/218.md). -/
def dispersionTap (cd : Int) (fu t : Nat) : Cpx :=
  let z := (List.range 8192).foldl (fun (a : Cpx) (i : Nat) =>
    let k : Int := i - 4096
    let u := rotateFine (dispersionTurns cd fu k - k * (t - 4096) * 2 ^ 19) (2 ^ 30, 0)
    (a.1 + u.1, a.2 + u.2)) (0, 0)
  (rdiv z.1 (2 ^ 29), rdiv z.2 (2 ^ 29))

/-- The dispersion filter (R213): an all-pass response for CD_PSNM `cd` about f_u in MHz, 4,096 samples late at f_u. -/
def dispersion (cd : Int) (fu : Nat) (x : Stream) : Stream := fun m =>
  let z := (List.range 8192).foldl (fun (a : Cpx) t =>
    let c := dispersionTap cd fu t
    let y := x (m - t)
    (a.1 + c.1 * y.1 - c.2 * y.2, a.2 + c.1 * y.2 + c.2 * y.1)) (0, 0)
  (rdiv z.1 16384, rdiv z.2 16384)

/-- Delay of the dispersion filter at an offset of `f` kHz from f_u beyond its delay there, in fs (R213): CD_PSNM × λ_u² × f / c. -/
def cdDelay (cd : Int) (fu : Nat) (f : Int) : Int :=
  cd * f * 299792458000 / (fu * fu)

/-! ## Branches (R214 to R216) -/

/-- A sample turned by `k` quarter turns. -/
def quarterTurns (k : Int) (z : Cpx) : Cpx :=
  match (k % 4).toNat with
  | 0 => z | 1 => (-z.2, z.1) | 2 => (-z.1, -z.2) | _ => (z.2, -z.1)

/-- Taps of half-band level 1 to 4, from its delay (R228). -/
def halfTaps : Nat → Nat
  | 1 => 23 | 2 => 31 | 3 => 47 | _ => 95

/-- A window that falls from 1 at its centre to 0 at `n` from it, as half a cosine period, in units of 2^−60. -/
def window (d n : Nat) : Int := (fixOne + cosHalves d n) / 2

/-- Tap `t` of a half-band filter: 1/2 at its centre, nothing at the other even distances from it, and the ideal half-band filter under a window
at the odd ones, the same on both sides (R214, R228; DESIGN CHOICE, unsafe, notes/assumptions/218.md). -/
def halfTap (level t : Nat) : Int :=
  let d := ((t : Int) - (halfTaps level - 1) / 2).natAbs
  if d = 0 then 8192 else if d % 2 = 0 then 0
  else rdiv ((if d % 4 = 1 then 16384 else -16384) * window d ((halfTaps level + 1) / 2)) (fixPi * d)

/-- One half-band level: the half of the band above its centre, or below it, is mixed down by a quarter of the input rate, filtered and
decimated by 2. -/
def halfBand (level : Nat) (upper : Bool) (x : Stream) : Stream := fun m =>
  fir (halfTaps level) (halfTap level) (fun k => quarterTurns (if upper then -k else k) (x k)) (2 * m)

/-- The copy shifted down by 12 GHz, 1/32 of the rate of 384 GS/s. -/
def shifted12 (x : Stream) : Stream := fun m => rotateFine (m % 32 * 2 ^ 27) (x m)

/-- Branch `j` at 24 GS/s, centred at f_u + (12 j − 180) GHz: four levels of the signal, or of its shifted copy for an odd branch. -/
def branch (j : Nat) (x : Stream) : Stream :=
  let y := if j % 2 = 0 then x else shifted12 x
  let half := fun (i : Nat) => (j / 2).testBit i
  halfBand 4 (half 0) (halfBand 3 (half 1) (halfBand 2 (half 2) (halfBand 1 (half 3) y)))

/-- The branch j(n) that serves a subcarrier (R215): 2.890,625 + 0.781,25 n, rounded. -/
def branchOf (n : Nat) : Nat := (185 + 50 * n + 32) / 64

/-- INC_n (R216): Δ_n in units of 0.187,5 GHz, times 2^25. -/
def mixerInc (n : Nat) : Int := (50 * (n : Int) - 775 + 960 - 64 * (branchOf n : Int)) * 2 ^ 25

/-- Samples at 24 GS/s and at 18 GS/s of a word of 256 samples at 384 GS/s. -/
def branchPerWord : Nat := 16
def outPerWord : Nat := 12

/-- Phase of subcarrier `n`'s mixer after `m` more samples, in 2^−32 turn; it wraps on purpose (R216, R222). -/
def mixerStep (n : Nat) (ph : Nat) (m : Int) : Nat := ((ph + mixerInc n * m) % 2 ^ 32).toNat

/-- The branch stream of a subcarrier mixed down by Δ_n, the mixer having the phase `ph` at sample `m0`. -/
def mixed (n ph : Nat) (m0 : Int) (x : Stream) : Stream := fun m => rotateFine (mixerStep n ph (m - m0)) (x m)

/-! ## Resampler and channel filter (R217 to R221) -/

/-- How much later than branch 0 a branch leaves level 4, in 1/64 of a 24 GS/s sample: j/48 ns (R220). -/
def shareDelay (j : Nat) : Nat := 32 * j

/-- FIXED_n (R221). -/
def fixedDelay (n : Nat) : Nat := 32 * (31 - branchOf n)

/-- TRIM_n as measured at manufacture, −127 to +127 (R221, R240). -/
def skewTrim (e : Eng) (n : Nat) : Int := clamp (-127) 127 (Config.factory (0x01000100 + 0x10000000 * (e.num + 1) + 4 * n))

/-- The resampler's phase after `k` more outputs, modulo 192 (R217, R222). -/
def resampleStep (ph : Nat) (k : Int) : Nat := ((ph + 256 * k) % 192).toNat

/-- Position of output `k` of the resampler in 1/192 of a 24 GS/s sample, for a delay of `d` units of 1/64, its phase having been `ph` at
the output `outPerWord` × w and the sample `branchPerWord` × w. -/
def resamplePos (ph : Nat) (w d k : Int) : Int := 192 * (branchPerWord * w) + ph + 256 * (k - outPerWord * w) - 3 * d

/-- Tap `t` of a phase of the resampler's linear-phase filter, whose centre lies 71 samples of 72 GS/s, 4,544 of 1/192 sample, after its start:
the ideal filter of 9 GHz, halfway between the passband's edge and the stopband's, under a window (R217, R228; DESIGN CHOICE, unsafe,
notes/assumptions/218.md). -/
def resampleTap (ph t : Nat) : Int :=
  let d := ((192 * t + ph : Nat) - 4544 : Int).natAbs
  if d = 0 then 12288 else if 4544 < d then 0
  else rdiv (192 * 16384 * sinHalves d 256 * window d 4545) (fixPi * d * fixOne)

/-- The 3:4 resampler: a phase of the stored filter holds 48 taps at 24 GS/s of its 143 taps at 72 GS/s. -/
def resample (ph : Nat) (w d : Int) (x : Stream) : Stream := fun k =>
  fir 48 (resampleTap (resamplePos ph w d k % 192).toNat) x (resamplePos ph w d k / 192)

/-- Taps of the channel filter, and tap `t` with linear phase: the root-raised cosine of R117 at 2 samples a symbol, whose centre is tap 768
(R218). -/
def channelTaps : Nat := 1537
def linearTap (t : Nat) : Int := rdiv (rootRaised (t - 768) 2) 2

/-- Magnitude of the channel filter's response at `k` / 4,096 of its rate, in 0.001 dB. -/
def channelMag (k : Nat) : Int :=
  let a := (List.range 768).foldl (fun (a : Int) t => a + 2 * linearTap (769 + t) * cosHalves (2 * (t + 1) * k) 4096) (linearTap 768 * fixOne)
  powerDb 1000 (a ^ 2) (2 ^ 148)

/-- Coefficient `n` of the Fourier series of the logarithm of that magnitude, in units of 2^−60. -/
def channelSeries (n : Nat) : Int :=
  let d := ((List.range 4096).map (fun k => channelMag k * cosHalves (2 * k * n) 4096)).sum
  rdiv (d * fixLn10) (20000 * 4096 * fixOne)

/-- The first `n` taps of the minimum-phase filter of that magnitude, in units of 2^−60. -/
def minPhaseTaps : Nat → List Int
  | 0 => []
  | n + 1 =>
    let l := minPhaseTaps n
    let tap := if n = 0 then gainRatio 1000 (rdiv (((List.range 4096).map channelMag).sum) 4096) * 2 ^ 46
      else rdiv ((List.range n).map (fun k => 2 * (k + 1 : Nat) * channelSeries (k + 1) * l.getD (n - 1 - k) 0)).sum (n * fixOne)
    l ++ [tap]

/-- Its group delay at the centre in whole samples, and tap `t` of the filter that MINPHASE selects: of the same magnitude, and 49 samples late at
the centre (R219; DESIGN CHOICE, unsafe, notes/assumptions/218.md). -/
def minPhaseDelay : Nat := (rdiv ((List.range 2048).map (fun (n : Nat) => 2 * (n : Int) * channelSeries n)).sum fixOne).toNat
def minPhaseTap (t : Nat) : Int :=
  let late := 49 - minPhaseDelay
  if t < late then 0 else rdiv ((minPhaseTaps channelTaps).getD (t - late) 0) (2 ^ 46)

/-- Tap `t` of the channel filter (R218, R219). -/
def channelTap (minPhase : Bool) (t : Nat) : Int := if minPhase then minPhaseTap t else linearTap t
def channelFilter (minPhase : Bool) (x : Stream) : Stream := fir channelTaps (channelTap minPhase) x

/-- Sample `t` of ADC `a` of those that the engine remembers, numbered since its start; 0 of any other. -/
def RxIn.sample (r : RxIn) (a : Nat) (t : Int) : Int :=
  let j := t / 256 - (r.n - r.past.length)
  if j < 0 then 0 else (adcOf (r.past.getD j.toNat noWord) a).getD (t % 256).toNat 0

/-- The 18 GS/s stream of subcarrier `n` from the samples of the ADCs of polarization `p`, numbered since the engine's start: the front-end
correction, the dispersion filter, the branch and the lateness of its time share, the mixer, the resampler and the channel filter (R206, R213
to R221). Its phases are those
at the word numbered `w`. -/
def extract (e : Eng) (coef : Nat → Int) (cd : Int) (fu : Nat) (minPhase : Bool) (r : RxIn) (w : Int) (n p : Nat) : Stream :=
  channelFilter minPhase (resample r.res w (shareDelay (branchOf n) + fixedDelay n + skewTrim e n)
    (mixed n (tget 0 r.mix n) (branchPerWord * w) (branch (branchOf n) (dispersion cd fu (frontCorrect coef p r.sample)))))

/-! ## Detectors (R223, R224) -/

/-- Power of a sample of both polarizations. -/
def dpPower (x y : Stream) (m : Int) : Int := (x m).1 ^ 2 + (x m).2 ^ 2 + (y m).1 ^ 2 + (y m).2 ^ 2

/-- Envelope at symbol `k`: the mean over the 8 samples of symbols k − 3 to k. -/
def envelopeAt (x y : Stream) (k : Int) : Int := (((List.range 8).map (fun (i : Nat) => dpPower x y (2 * (k - 3) + i))).sum) / 8

/-- Peak at symbol `k`: the largest magnitude of a component over its 4 symbols. -/
def peakAt (x y : Stream) (k : Int) : Nat :=
  ((List.range 8).map (fun (i : Nat) =>
    let m : Int := 2 * (k - 3) + i
    max (max (x m).1.natAbs (x m).2.natAbs) (max (y m).1.natAbs (y m).2.natAbs))).foldl max 0

/-- The RMS detector's exponential mean, of time constant 4,096 symbols, is held as 4,096 times its value: one symbol, and the value. -/
def rmsStep (r p : Int) : Int := r + p - r / 4096
def rmsMean (r : Int) : Int := r / 4096

/-- Path gain of a subcarrier's detectors, 0.01 dB, measured at manufacture (R224, R240). -/
def pathGain (e : Eng) (n : Nat) : Int := Config.factory (0x01000400 + 0x10000000 * (e.num + 1) + 16 * n)

/-- What a reading in 0.01 dBm at the receive input takes off a subcarrier's level: the front-end gain in force, the mean of the four
ADCs', and the path gain (R224; notes/assumptions/165.md). -/
def detOffset (x : EngSt) (e : Eng) (n : Nat) : Int := meanOf ((List.range 4).map (tget 0 x.feGain)) + pathGain e n

/-- A power as a reading in 0.01 dBm. -/
def detReading (off : Int) (p : Int) : Int := powerDb 100 p 1 - off

/-- A power as it is at the receive input, under the gains in force at its symbol and scaled up by 30 dB, and such a power, or a mean of some,
as a reading in 0.01 dBm (R224). -/
def inputPower (off : Int) (pw : Nat) : Nat := (gainRatio 100 (2 * (3000 - off)) * pw / 16384).toNat
def inputReading (p : Int) : Int := powerDb 100 p 1 - 3000

/-- A symbol enters the per-second readings of its subcarrier (R223). -/
def DetAcc.add (pw : Nat) (y : RxSym) (x : DetAcc) : DetAcc :=
  { sum := x.sum + pw, n := x.n + 1
    lo := if x.n = 0 then y.env else min x.lo y.env
    hi := if x.n = 0 then y.env else max x.hi y.env
    peak := if x.n = 0 then y.peak else max x.peak y.peak }

/-- The per-second detector values of a subcarrier: RMS in [15:0], PEAK in [31:16], ENV_MIN in [47:32], ENV_MAX in [63:48] (R223,
R244). -/
def DetAcc.word (x : DetAcc) : BitVec 64 :=
  let r := fun (v : Int) => toBits 16 v
  BitVec.ofNat 64 (r (inputReading (x.sum / x.n)) + r x.peak * 2 ^ 16 + r x.lo * 2 ^ 32 + r x.hi * 2 ^ 48)

end Sys2Proof.Machine
end

