-- ==== Sys2Proof/Machine/Coef.lean ====
section
/-! DEFINITION. The coefficients of blind calibration and those in force (R211, R233, R238, R240). -/

namespace Sys2Proof.Machine

/-! ## Coefficients (R211, R233, R238, R241) -/

/-- The converter island of a controller, its controller, and its object in the Tally (R236, R559). -/
def calIsl (e : Eng) (rx : Bool) : Isl := if rx then e.rxc else e.txc
def getCal (s : State) (e : Eng) (rx : Bool) : CalSt := if rx then (getEng s e).calRx else (getEng s e).calTx
def modCal (e : Eng) (rx : Bool) (f : CalSt → CalSt) (s : State) : State :=
  modEng e (fun x => if rx then { x with calRx := f x.calRx } else { x with calTx := f x.calTx }) s
def calTally (e : Eng) (rx : Bool) : Nat := 2 * e.num + b01 rx

/-- A coefficient kind: its place in the order of R211 or R233, counted from 0 (notes/assumptions/167.md), and in units of its
resolution, or of 0.1 fs for a path delay, the lowest and highest value, the convergence limit and the largest change per turn
(R211, R233, R238). The limit of ±1.98 ps of a timing trim is no whole number of 1/64 ps and is taken as ±126 of them, within it (DESIGN
CHOICE, unsafe; notes/assumptions/185.md). -/
structure CoefKind where
  kind : Nat
  lo : Int
  hi : Int
  conv : Int
  turn : Int
  deriving DecidableEq, Repr

/-- The kind of coefficient `i` of a converter island. RXC: 256 sub-converters of offset, gain and timing, then gain, phase and
skew of each polarization, then 32 presets. TXC: delay and gain of each path, then 32 pre-emphases. -/
def coefKind (rx : Bool) (i : Nat) : CoefKind :=
  if rx then
    if i < 768 then
      match i % 3 with
      | 0 => ⟨0, -128, 127, 4, 2⟩
      | 1 => ⟨1, -10000, 10000, 100, 20⟩
      | _ => ⟨2, -126, 126, 3, 1⟩
    else
      match i % 3 with
      | 0 => ⟨3, -1500, 1500, 20, 5⟩
      | 1 => ⟨4, -10000, 10000, 100, 10⟩
      | _ => ⟨5, -5000, 5000, 50, 10⟩
  else if i < 8 then
    if i % 2 = 0 then ⟨0, -100000, 100000, 1000, 407⟩ else ⟨1, -2000, 2000, 20, 5⟩
  else ⟨2, -600, 600, 5, 5⟩

/-- ADC or path, and sub-converter, of coefficient `i`, as CAL_LIMIT carries them (R247): for an IQ coefficient the polarization and 0,
for a pre-emphasis the subcarrier and 0 (notes/assumptions/167.md). -/
def coefPlace (rx : Bool) (i : Nat) : Nat × Nat :=
  if rx then (if i < 768 then (i / 3 / 64, i / 3 % 64) else ((i - 768) / 3, 0))
  else if i < 8 then (i / 2, 0) else (i - 8, 0)

/-- Coefficients that a run estimates. -/
def coefCount (rx : Bool) : Nat := if rx then 774 else 40

/-- Factory value of a coefficient, within its range (R211, R240; notes/assumptions/11.md). A receive preset has no range but that
of its 16 bits. -/
def coefFactory (e : Eng) (rx : Bool) (i : Nat) : Int :=
  let x := Config.factory (100000 * (2 * e.num + b01 rx + 1) + i)
  if rx && 774 ≤ i then clamp (-32768) 32767 x else clamp (coefKind rx i).lo (coefKind rx i).hi x

/-- The coefficient in force. -/
def coefNow (s : State) (e : Eng) (rx : Bool) (i : Nat) : Int :=
  (tget none (getCal s e rx).coef i).getD (coefFactory e rx i)

/-- Index of a subcarrier's pre-emphasis among the coefficients of a TXC island. -/
def txPre (n : Nat) : Nat := 8 + n

end Sys2Proof.Machine
end

