-- ==== Sys2Proof/Machine/RxIn.lean ====
section
/-! DEFINITION. The words of an engine's ADCs on their way to the burst receivers: statistics, gain and clip counts, the symbols of every
subcarrier with their detectors, and the replay buffers (R12, R202 to R207, R213 to R224, R229 to R231). -/

namespace Sys2Proof.Machine

/-- The receivers of an engine run: it is STANDBY or TRAFFIC_READY, and its RXD island takes what RXC gives it, which a hard reset holds
from QUIESCE on (R528). -/
def rxUp (s : State) (e : Eng) : Bool :=
  s.pwr.run = .ready && s.pwr.emerg = .none
    && ((getEng s e).st = .trafficReady || (getEng s e).st = .standby)
    && dpTakes s e.rxd

/-! ## Where a sample lands (R229 to R231) -/

/-- What is taken off the time of a channel-filter sample of subcarrier `n`, in 1/64 symbol: D_A, the group delay in force and τ_cd. -/
def delay64 (s : State) (e : Eng) (n : Nat) : Int := rdiv ((feDelay e + groupDelay s e + tauCd s e n) * 576) 1000000

/-- The half symbol, counted from that of USC 0, in which the first channel-filter sample since the start lands, and how late in it the
sample lands, in 1/64 symbol (R231). -/
def half0 (s : State) (e : Eng) (n : Nat) : Int := ((getEng s e).inp.usc - delay64 s e n) / 32
def halfFrac (s : State) (e : Eng) (n : Nat) : Int := ((getEng s e).inp.usc - delay64 s e n) % 32

/-- The ADC sample, numbered since the start, that produced channel-filter sample `k` (R229). -/
def adcOfOut (k : Int) : Int := 64 * k / 3

/-! ## The symbols of a subcarrier (R223) -/

/-- The streams of both polarizations of a subcarrier by half symbol, with the newest word and the phases before it. -/
def halves (s : State) (e : Eng) (n : Nat) (r : RxIn) (p : Nat) : Stream := fun h =>
  extract e (coefNow s e true) (asSigned 16 (regF s .usTreeCd e 0 15 0)) (getReg s .usTreeUs e 0).toNat
    ((getReg s .usFeCfg e 0).getLsbD 0) r (r.n - 1) n p (h - half0 s e n)

/-- Symbol `p` of a subcarrier with its detectors. -/
def symAt (s : State) (e : Eng) (n : Nat) (r : RxIn) (p : Int) : RxSym :=
  let x := halves s e n r 0
  let y := halves s e n r 1
  let off := detOffset (getEng s e) e n
  { a := (x (2 * p), y (2 * p)), b := (x (2 * p + 1), y (2 * p + 1)), off := off
    env := detReading off (envelopeAt x y p), peak := powerDb 100 ((peakAt x y p) ^ 2 : Nat) (2 ^ 28) }

/-- Power of a sample of both polarizations, and mean power of a symbol. -/
def cpxPower (z : DpCpx) : Nat := z.1.1.natAbs ^ 2 + z.1.2.natAbs ^ 2 + z.2.1.natAbs ^ 2 + z.2.2.natAbs ^ 2
def symPower (y : RxSym) : Nat := (cpxPower y.a + cpxPower y.b) / 2

/-- Mean power of a symbol at the receive input (R224). -/
def symInput (y : RxSym) : Nat := inputPower y.off (symPower y)

/-- Symbols of a word (R202), and the first of those that the newest word completes. -/
def symsPerWord : Nat := 6
def firstSym (s : State) (e : Eng) (n : Nat) : Int := (half0 s e n + outPerWord * (getEng s e).inp.n) / 2

/-! ## The replay buffer (R169) -/

/-- The symbol after the last that a receiver has been given. -/
def topSym (x : BrxSt) : Int := x.s0 + x.strm.length

/-- The first symbol that a receiver still needs: the 1,024 last ones for a rewind, and what a reception has yet to read, with the 64
symbols of a sync word and the taps of the equalizer before it (R169, R177). -/
def keepFrom (x : BrxSt) : Int :=
  let back := topSym x - 1120
  match x.st with
  | .closed => back
  | .armed | .waitFall => min back (x.pos - 96)
  | .spec => min back (x.d - 96)
  | .header => min back (x.k - 96)
  | .payload => min back (x.k + 65 + x.blk * blockSyms (hdrFmt x.hdr) - 32)

/-- Symbols join a receiver's stream, which begins anew where some before them are missing; those it no longer needs go. -/
def BrxSt.push (first : Int) (l : List RxSym) (x : BrxSt) : BrxSt :=
  let y := if x.strm = [] || first ≠ topSym x then { x with s0 := first, strm := l } else { x with strm := x.strm ++ l }
  let n := (keepFrom y - y.s0).toNat
  { y with strm := y.strm.drop n, s0 := y.s0 + n }

/-- A symbol lies in an open gate of a receiver (R170). -/
def inGate (x : BrxSt) (p : Int) : Bool := x.gates.any (fun g => decide (g.lo ≤ p) && decide (p < g.hi))

/-- A symbol outside every gate enters the RMS detector that gives the noise floor (R173, R223). -/
def BrxSt.hear (x : BrxSt) (p : Int) (y : RxSym) : BrxSt :=
  if inGate x p then x else { x with rms := rmsStep x.rms (symInput y) }

/-- Every gate of an engine's receivers is closed (R207). -/
def gatesClosed (s : State) (e : Eng) : Bool := (getEng s e).rx.all (fun p => p.2.gates.all (fun g => g.closed))

/-! ## Words (R202) -/

/-- Words that the filters remember: the channel filter takes 128, the dispersion filter 32, and the others less than 10. -/
def pastWords : Nat := 192

/-- MIN_LEVEL in force: that of the collection in progress (R207, R246). -/
def minLevel (s : State) (e : Eng) : Nat :=
  if (getEng s e).calRx.st = .collect then (getEng s e).calRx.minLvl else regF s .calCfg e 0 28 24

/-- A word enters the statistics: the word before it enters the sums of R207, with the samples on both sides of it, and the word itself
what each ADC gives in the turn and, with every gate closed, the idle words of the second (R204, R205, R207). -/
def noteWord (e : Eng) (w : RxWord) (s : State) : State :=
  let x := getEng s e
  let r := x.inp
  let v := r.past.getLast?
  let u := (r.past.dropLast.getLast?).getD noWord
  let sums := match v with
    | some v => if v = noWord then x.sums else x.sums.add (coefNow s e true) (qualified (minLevel s e) x.idleRef v) u v w
    | none => x.sums
  let idle := if gatesClosed s e then (r.idle.1 + wordPower w, r.idle.2 + 1) else r.idle
  modEng e (fun x => { x with
    sums := sums
    inp := { r with idle := idle, adc := (List.range 4).foldl (fun t a => tset {} t a ((tget {} t a).add (adcOf w a))) r.adc } }) s

/-- The symbols that the newest word completes on subcarrier `n` go to its receiver and its detectors. -/
def noteSyms (e : Eng) (r : RxIn) (n : Nat) (s : State) : State :=
  let p := firstSym s e n
  let l := (List.range symsPerWord).map (fun (i : Nat) => (p + i, symAt s e n r (p + i)))
  let s := modBrx e n (fun x => (l.foldl (fun y q => y.hear q.1 q.2) x).push p (l.map (fun q => q.2))) s
  let add := fun (a : DetAcc) => l.foldl (fun a q => a.add (symInput q.2) q.2) a
  modEng e (fun x => { x with inp := { x.inp with det := tset {} x.inp.det n (add (tget {} x.inp.det n)) } }) s

/-- A word goes through the extraction to every burst receiver (R12, R203, R222). -/
def passWord (e : Eng) (w : RxWord) (s : State) : State :=
  let past := (getEng s e).inp.past ++ [w]
  let r := { (getEng s e).inp with past := past.drop (past.length - pastWords), n := (getEng s e).inp.n + 1 }
  let s := forAll (List.range 32) (noteSyms e r) s
  modEng e (fun x => { x with inp := { x.inp with
    past := r.past, n := r.n, res := resampleStep r.res outPerWord
    mix := (List.range 32).foldl (fun t n => tset 0 t n (mixerStep n (tget 0 t n) branchPerWord)) x.inp.mix } }) s

/-- A word of an engine's ADCs goes through the front end to the extraction (R12, R203). -/
def takeWord (e : Eng) (w : RxWord) (s : State) : State := passWord e w (noteWord e w s)

/-- The RXC island gives every word its count, also those that nothing takes (R203). -/
def missWords (e : Eng) (k : Nat) (s : State) : State :=
  modEng e (fun x => { x with inp := { x.inp with n := x.inp.n + k, past := [] } }) s

/-- The words of an engine that have passed by now and that no command brought, `k` words being brought now: a converter gives 3 words every
2 ns (R202, R203; notes/assumptions/239.md). -/
def passedWords (s : State) (e : Eng) (k : Nat) : Nat := (now s - (getEng s e).words.origin) * 3 / 2 - ((getEng s e).inp.n + k)
def catchWords (e : Eng) (k : Nat) (s : State) : State := if passedWords s e k = 0 then s else missWords e (passedWords s e k) s

/-- The words that a command brings, the latest that the converters gave: the receivers take them while they run. -/
def takeWords (e : Eng) (ws : List RxWord) (s : State) : State :=
  if ws = [] then s
  else
    let s := catchWords e ws.length s
    if rxUp s e then forAll ws (takeWord e) s else missWords e ws.length s

/-! ## Slips (R60) -/

/-- The receive converter island drops words: their counts pass, and the filters have no samples of them (DEDUCED, unsafe;
notes/assumptions/216.md). -/
def dropWords (e : Eng) (k : Nat) (s : State) : State :=
  if rxUp s e then forAll (List.range k) (fun _ => passWord e noWord) s else missWords e k s

/-- Samples from `p` on, `k` of them, become 0. -/
def zeroSpan (p k : Nat) (l : List Int) : List Int := l.zipIdx.map (fun q => if p ≤ q.2 ∧ q.2 < p + k then 0 else q.1)

/-- The transmit converter island sends zero-valued words: they take the place of samples of the frame on the line from a word on that the rule
leaves open, and what goes beyond the frame stands in those that follow (R60, R202; a free value, notes/assumptions/216.md). -/
def zeroWords (e : Eng) (k : Nat) (s : State) : State :=
  let d := draw Config.freeNat s
  let n := ((getEng s e).down.dac.headD []).length
  let p := 256 * (d.1 % (n / 256 + 1))
  modDown e (fun x => { x with dac := x.dac.map (zeroSpan p (256 * k)), zeros := x.zeros + 256 * k - min (256 * k) (n - p) }) d.2

/-- The outcome of a command that brings words: they are taken, and then its rule applies. -/
def heard (e : Eng) (ws : List RxWord) (f : State → Out) (s : State) : Out := f (takeWords e ws s)

end Sys2Proof.Machine
end

