-- ==== Sys2Proof/Machine/Calib.lean ====
section
/-! DEFINITION. The front-end gain loop and blind calibration (R204 to R211, R232 to R248, R548). -/

namespace Sys2Proof.Machine

/-! ## Front-end gain (R204, R205) -/

/-- The ends of the gain range, 0.01 dB (R204; notes/assumptions/12.md). -/
def gainMin : Int := 0
def gainMax : Int := 3000

/-- One turn of movement of a coefficient toward its target (R239). -/
def moveToward (step now' target : Int) : Int := clamp (now' - step) (now' + step) target

/-- At the first word of a turn every coefficient of an island in STEP moves toward its new value (R239). -/
def stepCoefs (e : Eng) (rx : Bool) (s : State) : State :=
  let c := getCal s e rx
  if c.st = .step then
    forAll c.target (fun p t =>
      match p.2 with
      | some v =>
        let w := moveToward (coefKind rx p.1).turn (coefNow t e rx p.1) v
        modCal e rx (fun y => { y with coef := tset none y.coef p.1 (some w) }) t
      | none => t) s
  else s

/-- The gain of an ADC after a turn that gave `x`: it moves toward TARGET dB below full scale by at most 0.05 dB; a turn that gave no
sample moves it not. -/
def nextGain (s : State) (e : Eng) (x : AdcAcc) (old : Int) : Int :=
  if x.n = 0 then old else clamp gainMin gainMax (old + clamp (-5) 5 (-(100 * (regF s .usFeCfg e 0 12 8 : Int)) - x.rms))

/-- FE_GAIN_TURN_UPDATE (R204, R205, R239): the gain of an ADC moves toward TARGET on the RMS of the turn; the turn's clips are counted,
and more than 10^−5 of its samples raise US_CLIP once a second. The update of ADC 0 begins the turn's calibration moves. The loop and
the counting run while the engine is TRAFFIC_READY or STANDBY; the rule names no state (DESIGN CHOICE, notes/assumptions/168.md). A restart of
RXC holds the gain (R534). -/
def execFeGainTurnUpdate (e : Eng) (adc : Fin 4) (ws : List RxWord) : State → Out :=
  heard e ws (fun s => act (inService s && ((getEng s e).st = .trafficReady || (getEng s e).st = .standby)) (fun s =>
    let old := tget 0 (getEng s e).feGain adc.val
    let x := tget {} (getEng s e).inp.adc adc.val
    let new := if ctlRuns s e.rxc then nextGain s e x old else old
    let clips := x.clips
    let s := modEng e (fun y => { y with
      feGain := tset 0 y.feGain adc.val new, inp := { y.inp with adc := tset {} y.inp.adc adc.val {} } }) s
    let s := if new ≠ old && (new = gainMin || new = gainMax) then
        raiseF e.rxc 0x0608 (engObjId e) (packData [(8, adc.val), (8, b01 (new = gainMax))]) .usFlags e 1 s
      else s
    let s := count 5 (4 * e.num + adc.val) 0 clips s
    let s := if x.n < clips * 100000 then
        oncePerSec 0x0607 (4 * engObjId e + adc.val)
          (raiseF e.rxc 0x0607 (engObjId e) (packData [(8, adc.val), (32, clips)]) .usFlags e 0) s
      else s
    if adc.val = 0 then stepCoefs e true (stepCoefs e false s) else s) s)

/-! ## The run state machine (R236, R237) -/

/-- An island is eligible for a run: its engine's state allows one and it is not fenced (R237). -/
def calEligible (s : State) (e : Eng) (rx : Bool) : Bool :=
  let st := (getEng s e).st
  (st = .standby || st = .trafficReady || (! rx && st = .calibrating)) && (getIsl s (calIsl e rx)).fence = .run

/-- CAL_TEMP_CHECK (R236, R237): once a second; a difference above DELTA_T, or a run left over, makes a run due. A run left over keeps the trigger
of the abandoned one, which R247 leaves open (DESIGN CHOICE, unsafe; notes/assumptions/241.md). -/
def execCalTempCheck (e : Eng) (rx : Bool) (temp : Int) (s : State) : Out :=
  act (inService s) (fun s =>
    let c := getCal s e rx
    let apart := 16 * (regF s .calCfg e 0 4 0 : Int) < (temp - c.tLast).natAbs
    if c.st = .idle && c.holdTo ≤ now s && (apart || c.again) then
      modCal e rx (fun c => { c with st := .due, trigger := if c.again then c.trigger else 0, again := false }) s
    else s) s

/-- A host request for a run (R237): due from IDLE, noted in STEP, and otherwise without effect. -/
def requestRun (e : Eng) (rx : Bool) (s : State) : State :=
  modCal e rx (fun c => match c.st with
    | .idle => { c with st := .due, trigger := 1 }
    | .step => { c with noted := true }
    | .due | .collect => c) s

/-- SC_GO is refused (R246). -/
def scGoRefused (s : State) (e : Eng) : Bool :=
  (getEng s e).scBusy || ! ((getEng s e).st = .standby || (getEng s e).st = .trafficReady)

/-- A host write of CAL_CTL (R235, R237, R245, R246): the fields it sets belong to RXC or to TXC; a write that sets none is RXC's. -/
def writeCalCtl (e : Eng) (v : W32) (s : State) : State × Status :=
  let gate := fun (b : Bool) (i : Isl) => if b then engWriteGate s e i else .ok
  let rxGate := gate (v.getLsbD 0 || ! (v.getLsbD 1 || v.getLsbD 15)) e.rxc
  let txGate := gate (v.getLsbD 1 || v.getLsbD 15) e.txc
  let own := if v.getLsbD 15 && scGoRefused s e then .errState else .ok
  refuseOr (rxGate.worse (txGate.worse own)) (fun s =>
    let s := when (v.getLsbD 0) (requestRun e true) s
    let s := when (v.getLsbD 1) (requestRun e false) s
    when (v.getLsbD 15) (modEng e (fun x => { x with scReq := fld v 12 8, scBusy := true, scRun := false })) s) s

/-- CAL_RUN_RX and CAL_RUN_TX (R237, R245). -/
def execCalRunRx (e : Eng) (s : State) : Out := .next (setStatus (writeCalCtl e 1 s))
def execCalRunTx (e : Eng) (s : State) : Out := .next (setStatus (writeCalCtl e 2 s))

/-- Enter COLLECT: RUN_MS and MIN_LEVEL are taken, the sums are snapshotted and the samples sent are noted from the frame on the line on (R232,
R237, R246). -/
def beginCollect (e : Eng) (rx : Bool) (s : State) : State :=
  let sums := (getEng s e).sums
  let ms := regF s .calCfg e 0 17 8
  let lvl := regF s .calCfg e 0 28 24
  let dac := (getEng s e).down.dac
  modCal e rx (fun c => { c with st := .collect, iter := c.iter + 1, snap := sums, runMs := ms, minLvl := lvl, sent := dac }) s

/-- CAL_RUN_START (R237): an eligible island begins to collect. PARTIAL returns to 0 here, which R237 and R245 leave open (DESIGN CHOICE, unsafe;
notes/assumptions/240.md). -/
def execCalRunStart (e : Eng) (rx : Bool) (temp : Int) (s : State) : Out :=
  act (inService s && (getCal s e rx).st = .due && calEligible s e rx) (fun s =>
    let trig := (getCal s e rx).trigger
    raise (calIsl e rx) 0x0601 (engObjId e) (packData [(8, trig), (16, temp)])
      (beginCollect e rx (modCal e rx (fun c => { c with iter := 0, tRun := temp, partialRun := false }) s))) s

/-- A coefficient was clamped to its range (R211, R237, R247, R248). -/
def coefClamped (e : Eng) (rx : Bool) (i : Nat) (s : State) : State :=
  let k := coefKind rx i
  let p := coefPlace rx i
  count 6 (calTally e rx) 3 1
    (raiseF (calIsl e rx) 0x0604 (engObjId e) (packData [(8, k.kind), (8, p.1), (8, p.2)]) .calFlags e 2 s)

/-- One estimate enters the step: clamped to its range, with CAL_LIMIT when it was outside (R211, R237). -/
def takeEstimate (e : Eng) (rx : Bool) (i : Nat) (v : Int) (s : State) : State :=
  let k := coefKind rx i
  let w := clamp k.lo k.hi v
  let near := (w - coefNow s e rx i).natAbs ≤ k.conv
  let s := modCal e rx (fun c => { c with target := tset none c.target i (some w), converged := c.converged && near }) s
  if w = v then s else coefClamped e rx i s

/-- Enter STEP with the estimates of `est`, where it gives one; in CALIBRATING the transmit coefficients take their values at once. -/
def enterStep (e : Eng) (rx : Bool) (est : Nat → Option Int) (s : State) : State :=
  let s := modCal e rx (fun c => { c with st := .step, target := [], converged := true, sent := [] }) s
  let s := forAll (List.range (coefCount rx)) (fun i t =>
    match est i with
    | some v => takeEstimate e rx i v t
    | none => t) s
  if ! rx && (getEng s e).st = .calibrating then
    modCal e rx (fun c => { c with coef := c.target.foldl (fun t p => tset none t p.1 p.2) c.coef }) s
  else s

/-- Words that a converter takes in a millisecond (R202). -/
def wordsPerMs : Nat := 1500000

/-- Qualified words of a collection: of the receive side those of R207 since the snapshot, of the transmit side every word, one monitor
sample each (R232, R237). -/
def qualifiedWords (s : State) (e : Eng) (rx : Bool) (mon : List MonWord) : Nat :=
  if rx then (getEng s e).sums.nq - (getCal s e true).snap.nq else mon.length

/-- The estimate of a coefficient from the sums since the snapshot, or from the monitor (R208 to R210, R232). -/
def estimate (s : State) (e : Eng) (rx : Bool) (mon : List MonWord) (i : Nat) : Option Int :=
  if rx then rxEstimate (getCal s e true).snap (getEng s e).sums (coefNow s e true) i else some (10 ^ b01 (i < 8 && i % 2 = 0) * txEstimate (getCal s e false).sent mon i)

/-- CAL_COLLECT_DONE (R237): RUN_MS of qualified words were counted, and the estimates are made from them. -/
def execCalCollectDone (e : Eng) (rx : Bool) (ws : List RxWord) (mon : List MonWord) : State → Out :=
  heard e ws (fun s => act (inService s && (getCal s e rx).st = .collect
      && (getCal s e rx).runMs * wordsPerMs ≤ qualifiedWords s e rx mon) (fun s =>
    enterStep e rx (estimate s e rx mon) s) s)

/-- CAL_STARVED (R237): 10 s in COLLECT without enough qualified words; offset and gain estimates only. -/
def execCalStarved (e : Eng) (ws : List RxWord) : State → Out :=
  heard e ws (fun s => act (inService s && (getCal s e true).st = .collect
      && qualifiedWords s e true [] < (getCal s e true).runMs * wordsPerMs) (fun s =>
    let ms := qualifiedWords s e true [] / wordsPerMs
    let s := enterStep e true (fun i => if i < 768 && i % 3 < 2 then estimate s e true [] i else none) s
    let s := modCal e true (fun c => { c with partialRun := true, holdTo := now s + 60000000000 }) s
    raiseF e.rxc 0x0603 (engObjId e) (packData [(16, ms)]) .calFlags e 1 s) s)

/-- Every coefficient of the step stands at its new value. -/
def stepReached (s : State) (e : Eng) (rx : Bool) : Bool :=
  (getCal s e rx).target.all (fun p => p.2 = none || p.2 = some (coefNow s e rx p.1))

/-- CAL_STEP_DONE (R237, R242): a converged run, or its eighth iteration, ends; otherwise the next iteration collects. -/
def execCalStepDone (e : Eng) (rx : Bool) (s : State) : Out :=
  let c := getCal s e rx
  act (inService s && c.st = .step && stepReached s e rx) (fun s =>
    if c.converged || 8 ≤ c.iter then
      let last := if c.partialRun then c.tLast else c.tRun
      let s := modCal e rx (fun c => { c with
        st := if c.noted then .due else .idle, trigger := if c.noted then 1 else c.trigger, noted := false
        iter := 0, tLast := last, pend := true, res := c.coef, target := [] }) s
      let s := count 6 (calTally e rx) (if c.partialRun then 1 else 0) 1 s
      raiseF (calIsl e rx) 0x0602 (engObjId e) (packData [(8, c.iter), (16, last), (8, b01 c.partialRun)]) .calFlags e 0 s
    else beginCollect e rx s) s

/-- A run is abandoned because its island is fenced or its engine left the eligible states (R237); a per-subcarrier run ends
with a fence of its TXC island (R548). -/
def calAbandon (e : Eng) (rx : Bool) (s : State) : State :=
  let c := getCal s e rx
  let s := if c.st = .idle then s
    else count 6 (calTally e rx) 2 1
      (modCal e rx (fun c => { c with st := .idle, iter := 0, noted := false, again := true, target := [], sent := [] }) s)
  if rx then s else modEng e (fun x => { x with scBusy := false, scRun := false }) s

/-! ## Records (R240 to R243) -/

/-- Record slots in an island's ring (R240). -/
def calSlots : Nat := 64

/-- The records of a converter island as their bytes, newest first. -/
def calRecs (s : State) (i : Isl) : List (List Byte) := tget [] s.flash.cal i.row

/-- Bytes of a coefficient's field in a register word or a record, and the coefficient's units in one unit of the field. -/
def coefUnits (rx : Bool) (i : Nat) : Int := if ! rx && i < 8 && i % 2 = 0 then 10 else 1

/-- The fields of a record's payload in order (R241, R244): coefficient, or none for the upper half of a skew word, and bits; each word most
significant field first. Presets and pre-emphases take 2 bytes each (notes/assumptions/169.md). -/
def recFields (rx : Bool) : List (Option Nat × Nat) :=
  if rx then
    (List.range 256).flatMap (fun k => [(some (3 * k + 2), 1), (some (3 * k), 1), (some (3 * k + 1), 2)])
      ++ (List.range 2).flatMap (fun p => [(some (769 + 3 * p), 2), (some (768 + 3 * p), 2), (none, 2), (some (770 + 3 * p), 2)])
      ++ (List.range 32).map (fun n => (some (774 + n), 2))
  else
    (List.range 4).flatMap (fun d => [(some (2 * d + 1), 2), (some (2 * d), 2)]) ++ (List.range 32).map (fun n => (some (txPre n), 2))

/-- Payload of a record with coefficients `f`. -/
def recPayload (rx : Bool) (f : Nat → Int) : List Byte :=
  (recFields rx).flatMap (fun p => match p.1 with
    | some i => toBytes p.2 (toBits (8 * p.2) (f i / coefUnits rx i))
    | none => toBytes p.2 0)

/-- The coefficients that a payload holds. -/
def recCoefs (rx : Bool) : List (Option Nat × Nat) → List Byte → Table (Option Int) → Table (Option Int)
  | [], _, t => t
  | (some i, n) :: fs, l, t => recCoefs rx fs (l.drop n) (tset none t i (some (asSigned (8 * n) (beAt l 0 n) * coefUnits rx i)))
  | (none, n) :: fs, l, t => recCoefs rx fs (l.drop n) t

/-- A calibration record (R241). -/
structure CalRec where
  seq : Nat
  tLast : Int
  sec : Nat
  coef : Nat → Int

/-- The bytes of a record of an island. -/
def CalRec.bytes (i : Isl) (rx : Bool) (r : CalRec) : List Byte :=
  let p := recPayload rx r.coef
  let b := toBytes 1 i.id ++ toBytes 1 1 ++ toBytes 2 p.length ++ toBytes 4 r.seq ++ toBytes 2 (toBits 16 r.tLast) ++ toBytes 2 0
    ++ toBytes 4 r.sec ++ p
  b ++ toBytes 4 (crc32c b)

/-- A record passes: its CRC-32C is good, and it is one of this island in format 0x01 (R241, R243). -/
def recOk (i : Isl) (b : List Byte) : Bool :=
  let n := 16 + beAt b 2 2
  decide (b.length = n + 4) && decide (crc32c (b.take n) = beAt b n 4) && decide (byteAt b 0 = i.id) && decide (byteAt b 1 = 1)

/-- Sequence number, T_last and coefficients of a record. -/
def recSeq (b : List Byte) : Nat := beAt b 4 4
def recTLast (b : List Byte) : Int := asSigned 16 (beAt b 8 2)
def recTable (rx : Bool) (b : List Byte) : Table (Option Int) := recCoefs rx (recFields rx) (b.drop 16) []

/-- The record that a start loads: of those that pass, the one with the latest sequence number (R222, R243). -/
def latestCal (s : State) (i : Isl) : Option (List Byte) :=
  ((calRecs s i).filter (recOk i)).foldl (fun a b => match a with
    | none => some b
    | some c => if serBefore 32 (recSeq c) (recSeq b) then some b else a) none

/-- The pending result of a converter island goes to the next slot of its ring, or its write fails (R241, R242). Of what the rules leave
open: the first record of a ring has the number 0, a slot is named by its record's number modulo 64, and a write that fails counts as the
previous write for the 600 s (DESIGN CHOICE, unsafe; notes/assumptions/186.md). -/
def storeCalRec (e : Eng) (rx ok : Bool) (s : State) : State :=
  let c := getCal s e rx
  let i := calIsl e rx
  let q := match calRecs s i with
    | [] => 0
    | r :: _ => (recSeq r + 1) % 2 ^ 32
  let t : Int := s.clk.now
  let s := modCal e rx (fun c => { c with pend := false }) { s with flash := { s.flash with calWr := tset none s.flash.calWr i.row (some t) } }
  if ok then
    let r : CalRec := { seq := q, tLast := c.tLast, sec := s.clk.sec % 2 ^ 32,
                        coef := fun n => (tget none c.res n).getD (coefFactory e rx n) }
    modCal e rx (fun c => { c with writes := min 65535 (c.writes + 1) })
      { s with flash := { s.flash with cal := tset [] s.flash.cal i.row ((r.bytes i rx :: calRecs s i).take calSlots) } }
  else raiseF i 0x0605 (engObjId e) (packData [(8, q % calSlots)]) .calFlags e 3 s

/-- At least 600 s have passed since the previous write of an island's record (R242). -/
def calWriteDue (s : State) (i : Isl) : Bool :=
  match tget none s.flash.calWr i.row with
  | none => true
  | some t => t + 600000000000 ≤ (s.clk.now : Int)

/-- CAL_RECORD_WRITE (R242): the latest result is written, at least 600 s after the previous write, and not in a feed-loss shutdown. -/
def execCalRecordWrite (e : Eng) (rx ok : Bool) (s : State) : Out :=
  act (powered s && s.pwr.emerg ≠ .powerFail && (getCal s e rx).pend && calWriteDue s (calIsl e rx)) (storeCalRec e rx ok) s

/-! ## Per-subcarrier runs (R235, R548) -/

/-- CAL_SC_GO (R235, R246): the host requests a run of one subcarrier. -/
def execCalScGo (e : Eng) (sc : Sc) (s : State) : Out :=
  .next (setStatus (writeCalCtl e (BitVec.ofNat 32 (0x8000 + 256 * sc.val)) s))

/-- CAL_SC_RUN_START (R548): the run starts once no full transmit run collects or steps. -/
def execCalScRunStart (e : Eng) (s : State) : Out :=
  let c := (getEng s e).calTx.st
  act (inService s && (getEng s e).scBusy && ! (getEng s e).scRun && c ≠ .collect && c ≠ .step)
    (modEng e (fun x => { x with scRun := true })) s

/-- CAL_SC_DONE (R235): the run sets the subcarrier's pre-emphasis to the measured `pre`, and its receive preset to the mean
power of the last 64 good bursts on it. With no good burst noted the preset stays (DESIGN CHOICE, notes/assumptions/170.md). -/
def execCalScDone (e : Eng) (pre : Int) (s : State) : Out :=
  act (inService s && (getEng s e).scRun) (fun s =>
    let n := (getEng s e).scReq
    let ps := tget [] (getEng s e).pwrs n
    let seen := pre
    let pre := clamp (-600) 600 pre
    let oldPre := coefNow s e false (txPre n)
    let oldSet := coefNow s e true (774 + n)
    let newSet := if ps = [] then oldSet else meanOf ps
    let s := modCal e false (fun c => { c with coef := tset none c.coef (txPre n) (some pre) }) s
    let s := if ps = [] then s else modCal e true (fun c => { c with coef := tset none c.coef (774 + n) (some newSet) }) s
    let s := modEng e (fun x => { x with scBusy := false, scRun := false }) s
    let s := if pre = seen then s else coefClamped e false (txPre n) s
    raiseF e.txc 0x0606 (256 * e.num + n) (packData [(16, pre - oldPre), (16, newSet - oldSet)]) .calFlags e 4 s) s

end Sys2Proof.Machine
end

