-- ==== Sys2Proof/Machine/Containers.lean ====
section
/-! DEFINITION. Slot sets and containers: their tables, refused writes and changes at a multiframe boundary
(R249 to R252, R258 to R261, R323, R431). -/

namespace Sys2Proof.Machine

/-! ## Framer and boundaries (R258) -/

/-- The framer of the tree's serving engine runs; that of a FAILED or stopped engine does not (R258). -/
def framerRuns (s : State) (e : Eng) : Bool :=
  let x := getEng s (treeEng s e)
  x.down.framer && x.st ≠ .failed && ! x.stopped

/-- Continuous frame count of the first multiframe boundary at least 4 multiframes on (R258). -/
def boundaryAfter (f : Nat) : Nat := 256 * ceilDiv (f + 1024) 256

/-- Frames launched so far on the tree's serving engine. -/
def treeFrames (s : State) (e : Eng) : Nat := (getEng s (treeEng s e)).down.frames

/-! ## Slot sets (R251) -/

/-- V, SC and MASK of a slot set word. -/
def ssV (w : W32) : Bool := w.getLsbD 31
def ssSc (w : W32) : Nat := fld w 20 16
def ssMask (w : W32) : Nat := fld w 15 0

/-- Ones in a 16-bit mask. -/
def popcount16 (m : Nat) : Nat := ((List.range 16).filter (fun i => m.testBit i)).length

/-- The eight words of a table of words. -/
def wordList (t : Table W32) : List W32 := (List.range 8).map (tget 0 t)

/-- The slots a word holds, as (subcarrier, slot) bits: its mask on its subcarrier, none when it is not valid. -/
def heldMask (w : W32) (sc : Nat) : Nat := if ssV w && ssSc w = sc then ssMask w else 0

/-- Words of a set that hold slots: those in force and, while a change is pending, those written. -/
def heldWords (x : Sset) : List W32 := if x.pend then wordList x.words ++ wordList x.newWords else wordList x.words

/-- A slot set holds a valid word. -/
def hasWord (t : Table W32) : Bool := (wordList t).any ssV

/-- The words a set will have: those written last when a change is pending. -/
def writtenWords (x : Sset) : Table W32 := if x.pend then x.newWords else x.words

/-- An enabled container with DS_EN names the slot set (R260). -/
def ssetNamed (s : State) (e : Eng) (i : Nat) : Bool :=
  s.ctrs.any (fun p => p.1 / 32768 = (treeOf s e).num && p.2.w0.getLsbD 31 && p.2.w0.getLsbD 29
    && (fld p.2.w0 8 0 = i || (p.2.pend && p.2.ssetNow = i)))

/-- The mask names a control slot: slot 0 of subcarrier 0 or 16 (R139). -/
def namesControl (w : W32) : Bool := (ssSc w = 0 || ssSc w = 16) && ssMask w % 2 = 1

/-- The group of a subcarrier is ON on the engine whose groups R260 judges; in Paired mode that is the working engine, and none
working refuses. -/
def groupOnFor (s : State) (e : Eng) (sc : Nat) : Bool :=
  if s.boot.paired && s.aps.work = none then false else (getGrp s (treeEng s e) (sc / 4)).st = .on

/-- A write of word `w` of slot set `i` that R260 refuses. A word written with V 0 holds nothing, and only the rows on PEND and on the last
valid word judge it; the rows on control slots, slots held and the total name no V (DESIGN CHOICE, unsafe; notes/assumptions/195.md). -/
def ssetRefused (s : State) (e : Eng) (i w : Nat) (v : W32) : Bool :=
  let x := getSset s e i
  let new := tset 0 x.words w v
  let others := (List.range 8).filter (fun k => k ≠ w)
  x.pend
    || (ssV v &&
        (! groupOnFor s e (ssSc v) || namesControl v
          || others.any (fun k => (heldMask (tget 0 x.words k) (ssSc v)) &&& ssMask v ≠ 0)
          || s.ssets.any (fun p => p.1 / 512 = (treeOf s e).num && p.1 % 512 ≠ i
              && (heldWords p.2).any (fun u => heldMask u (ssSc v) &&& ssMask v ≠ 0))
          || 128 < ((wordList new).map (fun u => if ssV u then popcount16 (ssMask u) else 0)).sum))
    || (! hasWord new && ssetNamed s e i)

/-- A host write of a slot set word (R258, R260). -/
def writeSset (e : Eng) (i w : Nat) (v : W32) (s : State) : State × Status :=
  let v := v &&& 0x801FFFFF
  refuseOr ((engWriteGate s e e.txd).worse (if ssetRefused s e i w v then .errState else .ok)) (fun s =>
    let x := getSset s e i
    let new := tset 0 x.words w v
    if framerRuns s e then
      let b := boundaryAfter (treeFrames s e)
      sendMsg e (.sset i (b % 65536) (wordList new))
        (setSset e i { x with newWords := new, pend := true, effFn := b % 65536, effFrame := b } s)
    else setSset e i { x with words := new, newWords := new } s) s

/-- FRM_SSET_WRITE (R258, R260). -/
def execFrmSsetWrite (e : Eng) (ss : SsetIx) (w : Fin 8) (v : W32) (s : State) : Out :=
  .next (setStatus (writeSset e ss.val w.val v s))

/-- Object ID of a slot set. -/
def ssetObjId (e : Eng) (i : Nat) : Nat := 65536 * e.num + i

/-- FRM_SSET_DONE (R258): the boundary passes and the words written take effect. -/
def execFrmSsetDone (e : Eng) (ss : SsetIx) (s : State) : Out :=
  let x := getSset s e ss.val
  act (inService s && x.pend && x.effFrame ≤ treeFrames s e) (fun s =>
    let te := treeEng s e
    oncePerTurn 0x0705 (ssetObjId te ss.val) (turnKey s te)
      (raiseF te.txd 0x0705 (ssetObjId te ss.val) (packData [(16, x.effFn)]) .frmFlags te 8)
      (setSset e ss.val { x with words := x.newWords, pend := false, effFn := 0, effFrame := 0 } s)) s

/-! ## Containers (R250, R259 to R261) -/

/-- A write of word 0 of container `c` that R260 or R431 refuses. -/
def ctrRefused (s : State) (e : Eng) (c : Nat) (v : W32) : Bool :=
  let x := getCtr s e c
  let valid := hasWord (writtenWords (getSset s e (ctrSset v)))
  (ctrEn v && ctrDs v && ! valid)
    || (ctrMcast v && ctrUs v)
    || (ctrMcast v && 2047 < ctrTarget v)
    || (ctrEn v && ctrEn x.w0 && fld v 30 16 ≠ fld x.w0 30 16)
    || (ctrSset v ≠ ctrSset x.w0 && (x.pend || ! valid))

/-- The leaves that hear of a container: its leaf once it is active, LOST or not, or each ACTIVE member of its group (R323). -/
def ctrHearers (s : State) (e : Eng) (w : W32) : List Nat :=
  if ctrMcast w then activeMembers s e (ctrTarget w)
  else match (getLeaf s e (ctrTarget w)).st with
    | .active | .lost => [ctrTarget w]
    | .free | .assigned | .registering | .gone => []

/-- Put a container in the round robin of the slot set it rides, once (R256). -/
def joinRr (e : Eng) (c : Nat) (s : State) : State :=
  let x := getCtr s e c
  if x.out = [] then s
  else modSset e x.ssetNow (fun y => if c ∈ y.rr then y else { y with rr := y.rr ++ [c] }) s

/-- A container rides the slot set its word 0 names: it leaves the round robin of the old one and joins the new one's. -/
def rideNow (e : Eng) (c : Nat) (s : State) : State :=
  let x := getCtr s e c
  let s := if x.ssetNow = ctrSset x.w0 then s
    else modSset e x.ssetNow (fun y => { y with rr := y.rr.filter (fun k => k ≠ c)
                                                quantum := if y.rr.head? = some c then 0 else y.quantum }) s
  joinRr e c (setCtr e c { x with pend := false, effFn := 0, effFrame := 0, ssetNow := ctrSset x.w0 } s)

/-- A container carries multicast and is enabled. -/
def mcastOn (w : W32) : Bool := ctrEn w && ctrMcast w

/-- Cut-through shares for multicast containers: what the DS_QUEUE banks hold beyond those of the leaves (R465). -/
def mcastShares (s : State) : Nat :=
  512 * ((List.range 64).filter (fun b => bankUse (bankWord s b) = 2)).length - 8192

/-- The share of a container whose word 0 was `old`: a multicast container that is enabled now takes one while one is free, one that stays
enabled keeps what it has, and any other gives it up (R465). -/
def shareAfter (e : Eng) (c : Nat) (old : W32) (s : State) : State :=
  let w := (getCtr s e c).w0
  if mcastOn w && mcastOn old then s
  else
    let s := modCtr e c (fun x => { x with share := false }) s
    if mcastOn w && (s.ctrs.filter (fun p => p.2.share)).length < mcastShares s then modCtr e c (fun x => { x with share := true }) s
    else s

/-- A host write of a container word 0 (R250, R259 to R261). While the framer does not run, no message announces a change of SSET (R258). -/
def writeCtr0 (e : Eng) (c : Nat) (v : W32) (s : State) : State × Status :=
  let v := v &&& 0xFFFF01FF
  refuseOr ((engWriteGate s e e.txd).worse (if ctrRefused s e c v then .errState else .ok)) (fun s =>
    let x := getCtr s e c
    let moves := ctrEn v && ctrEn x.w0 && ctrSset v ≠ ctrSset x.w0 && framerRuns s e
    let b := boundaryAfter (treeFrames s e)
    let y := if moves then { x with w0 := v, pend := true, effFn := b % 65536, effFrame := b }
      else if ctrEn v && x.pend then { x with w0 := v }
      else { x with w0 := v, pend := false, effFn := 0, effFrame := 0 }
    let s := shareAfter e c x.w0 (setCtr e c y s)
    let s := if y.pend then s else rideNow e c s
    let s := if ! ctrEn v && ctrEn x.w0 then dropQueued e c s else s
    let fn := if y.pend then y.effFn else treeFrames s e % 65536
    let hear := if ctrEn v then v else x.w0
    let quiet := ctrEn v && ctrEn x.w0 && ! framerRuns s e
    if v = x.w0 || ! (ctrEn v || ctrEn x.w0) || quiet then s
    else forAll (ctrHearers s e hear) (fun l => sendMsg e (.ctr (Fin.ofNat 4096 l) c fn v)) s) s

/-- A host write of a container word 1: the bandwidth profile, 0 to 1,023 (R292, R324). -/
def writeCtr1 (e : Eng) (c : Nat) (v : W32) (s : State) : State × Status :=
  refuseOr ((engWriteGate s e e.txd).worse (if 1023 < fld v 15 0 then .errState else .ok))
    (modCtr e c (fun x => { x with profile := v &&& 0xFFFF })) s

/-- FRM_CTR_WRITE (R250, R259, R260). -/
def execFrmCtrWrite (e : Eng) (c : Cid) (w : Fin 2) (v : W32) (s : State) : Out :=
  .next (setStatus (if w.val = 0 then writeCtr0 e c.val v s else writeCtr1 e c.val v s))

/-- CONTAINER_CHANGE_EFFECTIVE (R259): the boundary passes and the container rides its new slot set. -/
def execContainerChangeEffective (e : Eng) (c : Cid) (s : State) : Out :=
  let x := getCtr s e c.val
  act (inService s && x.pend && x.effFrame ≤ treeFrames s e) (fun s =>
    rideNow e c.val s) s

end Sys2Proof.Machine
end

