-- ==== Sys2Proof/Machine/Traffic.lean ====
section
/-! DEFINITION. TRAFFIC_READY of the module and the three things that follow its first rise in a start (R106, R111, R423). -/

namespace Sys2Proof.Machine

/-- An engine on its way to traffic (R111). -/
def engComing (st : EngState) : Bool :=
  match st with
  | .waiting | .tuning | .calibrating | .ramping => true
  | .disabled | .trafficReady | .standby | .failed => false

/-- BOOT_STATUS.TRAFFIC_READY (R111). -/
def trafficNow (s : State) : Bool :=
  engines.any (fun e => (getEng s e).st = .trafficReady)
    && engines.all (fun e => ! ((getEng s e).enable && engComing (getEng s e).st))

/-- SEC_LC_CHANGE: the states, and whether a fuse write failed; once a second (R460). -/
def lcEvent (old new : Nat) (failed : Bool) (s : State) : State :=
  oncePerSec 0x0B0A 0 (raise .key 0x0B0A 0 (packData [(8, old), (8, new), (8, b01 failed)])) s

/-- The life-cycle step of R423 at the first rise: a SHIPPED part becomes DEPLOYED. A failed fuse write is reported, and the state reads from
whatever pattern results. -/
def lcDeploy (fuseOk : Bool) (s : State) : State :=
  if lcState s ≠ 2 ∨ s.boot.img = none then s
  else if fuseOk then
    lcEvent 2 3 false { s with fuse := s.fuse.blowLc 4 4 4 }
  else
    let t := blowOpen 4 s
    lcEvent 2 (lcState t) true t

/-- Bits blown before a fuse failed: a count from the old one up to just below the wanted one, otherwise open
(notes/assumptions/5.md). -/
def partialCount (old want : Nat) (s : State) : Nat × State :=
  let d := draw Config.freeNat s
  (old + d.1 % (want - old), d.2)

/-- The anti-rollback commit of the image in force (R106). -/
def arbCommit (fuseOk : Bool) (s : State) : State :=
  match s.boot.img with
  | none => s
  | some m =>
    let old := s.fuse.arbCfg
    if ! m.arbCommit || m.arb ≤ old then s
    else if fuseOk then
      raise .mgt 0x0309 0 (packData [(8, old), (8, m.arb)]) { s with fuse := { s.fuse with arbCfg := m.arb } }
    else
      let p := partialCount old m.arb s
      raiseF .mgt 0x030A 0 (packData [(8, p.1)]) .bootFlags .A 5
        { p.2 with fuse := { p.2.fuse with arbCfg := p.1 } }

/-- TRAFFIC_READY is brought up to date: each rise is reported, and the first rise of a start is timed and followed by the
life-cycle step and the anti-rollback commit, in this order (R111, R113). The rules leave two points open: TRAFFIC_MS stays at 65,535 for a
later rise, and one outcome tells whether the fuses of both writes program (DESIGN CHOICE, unsafe; notes/assumptions/207.md and 208.md). -/
def trafficRise (fuseOk : Bool) (s : State) : State :=
  let was := s.boot.traffic
  let is := trafficNow s
  let s := { s with boot := { s.boot with traffic := is } }
  if was || ! is then s
  else
    let ms := now s / 1000000
    let s := raise .mgt 0x0308 0 (packData [(32, ms)]) s
    if s.boot.risen then s
    else
      arbCommit fuseOk (lcDeploy fuseOk { s with boot := { s.boot with risen := true, arbDone := true, trMs := min 65535 ms } })

/-- As `trafficRise`, where the command does not tell whether fuses program: that is open (notes/assumptions/5.md). -/
def trafficUpdate (s : State) : State :=
  if trafficNow s && ! s.boot.traffic && ! s.boot.risen then
    let d := draw Config.freeBool s
    trafficRise d.1 d.2
  else trafficRise true s

end Sys2Proof.Machine
end

