-- ==== Sys2Proof/Machine/Aps.lean ====
section
/-! DEFINITION. Engine defects, signal fail and degrade, and protection switching (R274, R276, R280 to R291). -/

namespace Sys2Proof.Machine

/-! ## Causes of SF and SD (R283) -/

/-- A transmit fault of an engine: a laser unlocked, the booster out of range, or APR not NORMAL (R283, R592). -/
def txFault (x : EngSt) : Bool := x.down.laserFault || x.down.boosterFault || x.down.apr ≠ 0

/-- Cause of SF on an engine (R283, R536). -/
def sfCause (s : State) (e : Eng) : Bool :=
  let x := getEng s e
  x.defs.los.on || x.defs.lof.on || (txFault x && s.aps.work = some e) || x.st = .failed || x.sfHold
    || dpFence s e.txd ≠ .run || dpFence s e.txc ≠ .run

/-- Leaves with a good header in the last 8 turns, and those of them whose accepted request is SD to the other engine. -/
def sdLeaves (s : State) (e : Eng) : Nat × Nat :=
  let x := getEng s e
  let t := turnOf s e
  let seen := x.lrx.filter (fun p => match p.2.lastHdr with
    | some h => decide (t < h + 8)
    | none => false)
  (seen.length, (seen.filter (fun p =>
    p.2.apsAcc / 4096 = 9 && (p.2.apsAcc / 2048 % 2 = 1) = decide (e.other.num = 1))).length)

/-- SD from the leaves: the share of FRM_DEF_CFG.SD_FRAC, and at least 8. -/
def sdByLeaves (s : State) (e : Eng) : Bool :=
  let p := sdLeaves s e
  8 ≤ p.2 && regF s .frmDefCfg e 0 14 8 * p.1 ≤ 100 * p.2

/-- Cause of SD on an engine (R283). -/
def sdCause (s : State) (e : Eng) : Bool :=
  let x := getEng s e
  (x.defs.rdi.on && s.aps.work = some e) || sdByLeaves s e || 10 ≤ x.ratioTurns

/-- FRM_APS_CFG.HOLDOFF, in 100 ms. -/
def apsHoldoff (s : State) : Nat := regF s .apsCfg .A 0 14 8

/-- An SF takes effect: on the standby within 2 ms of one on the working engine it is sympathetic, whichever came first. -/
def startSf (e : Eng) (s : State) : State :=
  let o := getEng s e.other
  let close := o.sfHeld && (now s - o.sfAt) ≤ 2000000
  let s := modEng e (fun x => { x with sfHeld := true, sfWait := false, sfAt := now s, sfSymp := close && s.aps.work = some e.other }) s
  if close && s.aps.work = some e then modEng e.other (fun x => { x with sfSymp := true }) s else s

/-- SF and SD follow their causes: they clear at once, and without a hold-off they take effect at once. HOLDOFF is taken as the cause
begins (R283, R293). -/
def followCauses (e : Eng) (s : State) : State :=
  let x := getEng s e
  let s := if ! sfCause s e then modEng e (fun x => { x with sfHeld := false, sfSymp := false, sfWait := false }) s
    else if x.sfHeld || x.sfWait then s
    else if apsHoldoff s = 0 then startSf e s
    else modEng e (fun x => { x with sfWait := true }) s
  if ! sdCause s e then modEng e (fun x => { x with sdHeld := false, sdWait := false }) s
  else if x.sdHeld || x.sdWait then s
  else if apsHoldoff s = 0 then modEng e (fun x => { x with sdHeld := true }) s
  else modEng e (fun x => { x with sdWait := true }) s

/-! ## The request in force (R284) -/

/-- A request: its REQ code, its source code, and the engine it names. -/
structure ApsReq where
  req : Nat
  source : Nat
  eng : Eng
  deriving DecidableEq, Repr

/-- The home engine (R284). -/
def homeEng : Eng := .A

/-- The highest row of R284 whose condition holds. -/
def apsRow (s : State) (w : Eng) : ApsReq :=
  let o := w.other
  let a := s.aps
  let hw := getEng s w
  let ho := getEng s o
  if a.lo then ⟨15, 1, homeEng⟩
  else match a.fs with
    | some x => ⟨13, 1, x⟩
    | none =>
      if hw.sfHeld && ! (ho.sfHeld && ! ho.sfSymp) then ⟨11, 2, o⟩
      else if hw.sdHeld && ! ho.sfHeld && ! ho.sdHeld then ⟨9, if sdByLeaves s w then 3 else 2, o⟩
      else match a.ms with
        | some x => ⟨7, 1, x⟩
        | none => if a.st = 1 then ⟨5, 4, w⟩ else if a.dnr then ⟨1, 2, w⟩ else ⟨0, 0, w⟩

/-- The request in force by the table of R284. Above every row a standby engine takes the place of a FAILED working engine, as on a signal fail,
and no row moves traffic to a FAILED engine (R110; notes/assumptions/160.md). -/
def apsRequest (s : State) (w : Eng) : ApsReq :=
  let r := apsRow s w
  if (getEng s w).st = .failed && (getEng s w.other).st = .standby then ⟨11, 2, w.other⟩
  else if (getEng s w.other).st = .failed && r.eng = w.other then { r with eng := w }
  else r

/-- The request in force. The end of a WTR, a cleared FS or MS and an engine command name no row: their request stands until the new engine
has full power, unless a row above it asks otherwise (R285, R286, R536). -/
def requestNow (s : State) (w : Eng) : ApsReq :=
  let r := apsRequest s w
  match (if s.aps.st = 2 then s.aps.own else none) with
  | some p => if r.req < p.1 then ⟨p.1, p.2, w.other⟩ else r
  | none => r

/-- The turn of the pair, whichever engine works: the turns that have begun by its frames, counted from the start (`pairFrame`). -/
def pairTurn (s : State) : Nat := s.aps.turns

/-- Raise a protection event of MGT, at most once per object per turn (R295). -/
def apsEvent (code obj : Nat) (data : BitVec 80) (s : State) : State :=
  oncePerTurn code obj (pairTurn s) (raise .mgt code obj data) s

/-- Take a request as the one in force; a change is reported (FRM_APS_REQ). The request NR of the engine that becomes working first counts as a
change, which R295 leaves open (DESIGN CHOICE, unsafe; notes/assumptions/214.md). -/
def noteReq (r : ApsReq) (s : State) : State :=
  let a := s.aps
  if a.req = r.req && a.source = r.source && a.reqEng = some r.eng then s
  else apsEvent 0x0708 (engObjId r.eng) (packData [(8, r.req), (8, r.source)])
    { s with aps := { a with req := r.req, source := r.source, reqEng := some r.eng } }

/-! ## The switch (R285, R286, R288) -/

/-- Units in the transmit pipeline of the working engine are lost and counted (R288): those whose bytes lie in a slot set's
stream. -/
def losePipeline (e : Eng) (s : State) : State :=
  let ks := (s.ssets.filter (fun p => p.1 / 512 = (treeOf s e).num)).map (fun p => p.1)
  forAll ks (fun k t =>
    let x := tget {} t.ssets k
    forAll x.units (fun u t => count 7 (ctrObj t e u.1) 2 1 t)
      { t with ssets := tset {} t.ssets k { x with stream := [], units := [] } }) s

/-- Length of the ramps of the switch in progress, ns: FRM_APS_RAMP.RAMP_US as it stood when the switch began (R293). -/
def switchNs (s : State) : Nat := s.aps.rampNs

/-- The laser output of an engine begins to ramp off, all groups together (R286 step 3); in an emergency shutdown it follows the envelope of
R48 already (R146). -/
def switchRampOff (w : Eng) (s : State) : State :=
  modDown w (fun d => if d.laser = .dark || s.pwr.emerg ≠ .none then d else
    { d with laser := .rampingOff, env := .down s.clk.now (switchNs s) }) s

/-- The old output of a switch is dark; its streams go on in lockstep (R286). -/
def switchDark (w : Eng) (s : State) : State :=
  modDown w (fun d => { d.silent with laser := .dark, grp := [], env := {} }) s

/-- The new booster ramps on, every enabled group together, with no WAITING or SETTLING state (R286 step 4). -/
def switchRampOn (o : Eng) (s : State) : State :=
  forAll (List.range 8) (fun g t => when (grpEn t o g) (setGrpSt o g .rampOn) t)
    (modDown o (fun d => { d with laser := .rampingOn, seen := true, env := .up s.clk.now (switchNs s) }) s)

/-- A switch from `w` to the other engine begins (R286 steps 1 to 3): speculative grants are struck, no further map is sent,
the windows of maps already sent go idle, and a planned switch first announces itself. `own` tells that no row of R284 asks for it. -/
def startSwitch (w : Eng) (r : ApsReq) (planned own : Bool) (s : State) : State :=
  let o := w.other
  let s := noteReq ⟨r.req, r.source, o⟩ s
  let s := idleWindows w (fun tn g => ahead s w tn g) (strike w (fun _ => true) s)
  let s := modEng w (fun x => { x with mapsStopped := true }) (dropMaps w (fun _ => true) s)
  let s := losePipeline w s
  let a := s.aps
  let s := { s with aps := { a with
    st := 2, target := some o, planned := planned, notice := planned, rampOn := false, since := now s, errs := []
    own := if own then some (r.req, r.source) else none, back := false, rampNs := 1000 * regF s .apsRamp .A 0 13 0
    moved := if w = homeEng then (r.req = 11 || r.req = 9) else a.moved
    dnr := false } }
  let s := apsEvent 0x0706 (engObjId o) (packData [(8, r.req), (8, r.source)]) s
  if planned then s else switchRampOff w s

/-- FRM_APS_CFG.REVERT. -/
def revertive (s : State) : Bool := (getReg s .apsCfg .A 0).getLsbD 4

/-- The protection controller evaluates the request in STEADY or WTR (R284, R285). The planned switch home after a cleared FS or MS, for which
R284 and R285 name no request, reports MS from the host (DESIGN CHOICE, unsafe; notes/assumptions/213.md). -/
def apsEval (s : State) : State :=
  if ! s.boot.paired then s
  else match s.aps.work with
    | none => s
    | some w =>
      let bad := fun (x : Eng) => (getEng s x).sfHeld || (getEng s x).sdHeld
      -- MS is cancelled by SF or SD on the engine it names
      let s := match s.aps.ms with
        | some x => if bad x then { s with aps := { s.aps with ms := none } } else s
        | none => s
      -- a WTR ends with SF or SD on H, or with a request above it
      let above := 5 < (apsRequest s w).req
      let s := if s.aps.st = 1 && (bad homeEng || above) then { s with aps := { s.aps with st := 0 } } else s
      let r := requestNow s w
      let s := noteReq r s
      if s.aps.st ≠ 0 then s
      else
      -- a group that is not revertive keeps its traffic where a cleared FS or MS left it
      let s := if s.aps.back && ! revertive s then { s with aps := { s.aps with back := false } } else s
      if r.eng ≠ w then startSwitch w r (r.req = 13 || r.req = 7 || r.req = 15) false s
      -- an FS or MS that held traffic away from H was cleared
      else if w ≠ homeEng && s.aps.back && revertive s && (getEng s homeEng).st ≠ .failed then startSwitch w ⟨7, 1, homeEng⟩ true true s
      else if w ≠ homeEng && s.aps.moved && ! bad homeEng && r.req < 5 && s.aps.updEng = none then
        if revertive s then
          let s := { s with aps := { s.aps with st := 1, wtrEnd := now s + 1000000000 * regF s .apsCfg .A 0 25 16 } }
          noteReq (apsRequest s w) s
        else
          let s := { s with aps := { s.aps with dnr := true, moved := false } }
          noteReq (apsRequest s w) s
      else s

/-- SF and SD of both engines are brought up to date, and the controller evaluates. -/
def apsUpdate (s : State) : State := apsEval (followCauses .B (followCauses .A s))

/-! ## Engine defects (R274) -/

/-- Change an engine's defects, with the events of the engine and of the leaves it silences or gives back (R273, R295). -/
def modEngDefs (e : Eng) (f : Defects → Defects) (s : State) : State :=
  let was := engRep s e
  let leaves := (getEng s e).lrx.map (fun p => (p.1, leafRep s e p.1))
  let s := modEng e (fun x => { x with defs := f x.defs }) s
  let is := engRep s e
  let ev := fun (d entry : Nat) (t : State) =>
    oncePerTurn 0x0701 (engObjId e) (turnKey t e)
      (raiseF e.rxd 0x0701 (engObjId e) (packData [(8, d), (8, entry)]) .frmFlags e d) t
  let s := if was = is then s
    else
      let t := match was with
        | some d => when (exits (getEng s e).defs d is) (ev d 0) s
        | none => s
      match is with
        | some d => markCount 10 e.num 0 (2 ^ d) (ev d 1 t)
        | none => t
  forAll leaves (fun p t => leafReports e p.1 p.2 t) s

/-- The failed-block ratio of a turn is above 10^−3, and below 10^−4 (R283). -/
def ratioHigh (t : TurnStat) : Bool := t.blocks < 1000 * t.failedBlocks
def ratioLow (t : TurnStat) : Bool := 0 < t.blocks && 10000 * t.failedBlocks < t.blocks

/-- The oldest turn that has shown an engine anything and has not been evaluated, with what it showed. -/
def turnDue (x : EngSt) : Nat × TurnStat := x.turns.head?.getD (0, {})

/-- Some window of a turn is still open, or a burst in it is being received. -/
def turnOpen (x : EngSt) (n : Nat) : Bool := x.rx.any (fun p => p.2.gates.any (fun g => turnNo g.w = n))

/-- What a turn has shown an engine, evaluated or not. -/
def turnSeen (x : EngSt) (n : Nat) : TurnStat := if x.turnPrev.no = n + 1 then x.turnPrev else tget {} x.turns n

/-- ENGINE_DEFECT_TURN_EVAL (R274, R283, R326): a turn with an expected burst counts toward the engine's defects, once every window that
its map grants is over. `input` is the input power over the turn in 0.01 dBm. In Paired mode the failed-block ratio is held against the
other engine's over the same turn, which that one may have evaluated already; in Independent mode no other engine hears the same bursts. -/
def execEngineDefectTurnEval (e : Eng) (input : Int) (s : State) : Out :=
  actF (inService s && ((getEng s e).st = .trafficReady || (getEng s e).st = .standby)
      && ! turnOpen (getEng s e) (turnDue (getEng s e)).1) (fun s =>
    let due := turnDue (getEng s e)
    let t := due.2
    let th := 100 * asSigned 8 (regF s .frmDefCfg e 0 7 0)
    let s := if ! t.expected then s
      else modEngDefs e (fun d => { d with
        los := d.los.observe 8 2 (decide (input < th) && ! t.sync) (decide (th + 200 ≤ input) || t.sync)
        lof := d.lof.observe 8 2 (t.sync && ! t.good) t.good
        ais := d.ais.observe 8 2 (t.leafGood && ! t.notAis) t.notAis
        rdi := d.rdi.observe 8 2 (t.leafGood && ! t.anyRdi0) t.anyRdi0 }) s
    let cleaner := s.boot.paired && ratioLow (turnSeen (getEng s e.other) due.1)
    let s := modEng e (fun x => { x with
      turns := x.turns.tail, turnPrev := { t with no := due.1 + 1 }
      ratioTurns := if ratioHigh t && cleaner then x.ratioTurns + 1 else 0 }) s
    apsUpdate s) s

/-- SF_SD_HOLDOFF_EXPIRY (R283, R285): the hold-off of a cause that still stands ends. -/
def execSfSdHoldoffExpiry (e : Eng) (sd : Bool) (s : State) : Out :=
  let x := getEng s e
  act (inService s && (if sd then x.sdWait && sdCause s e else x.sfWait && sfCause s e)) (fun s =>
    apsEval (if sd then modEng e (fun x => { x with sdHeld := true, sdWait := false }) s else startSf e s)) s

/-- The lasers' locks as a fault begins or clears: which of the two lost its lock, or whether both did, the command does not tell
(R283, R593; notes/assumptions/5.md); they lock again with the fault's end, where they had locked (R109). -/
def laserLocks (k : Nat) (fault : Bool) (st : EngState) (d : Down) : Down :=
  let had : Bool := st ≠ .disabled && st ≠ .waiting && st ≠ .tuning && st ≠ .failed
  if fault then { d with sigLock := d.sigLock && k % 3 = 1, loLock := d.loLock && k % 3 = 2 }
  else { d with sigLock := d.sigLock || had, loLock := d.loLock || had }

/-- TRANSMIT_FAULT and TRANSMIT_FAULT_CLEAR (R283): a laser loses its lock or the booster leaves its range, and comes back. -/
def setTxFault (e : Eng) (c : TxCause) (b : Bool) (s : State) : State :=
  match c with
  | .booster => modDown e (fun d => { d with boosterFault := b }) s
  | .laser =>
    let k := draw Config.freeNat s
    modDown e (fun d => laserLocks k.1 b ((getEng s e).st) { d with laserFault := b }) k.2
def execTransmitFault (e : Eng) (cause : TxCause) (s : State) : Out :=
  act (inService s) (fun s => apsUpdate (setTxFault e cause true s)) s
def execTransmitFaultClear (e : Eng) (cause : TxCause) (s : State) : Out :=
  act (inService s) (fun s => apsUpdate (setTxFault e cause false s)) s

/-! ## Steps of a switch (R286) -/

/-- APS_PLANNED_NOTICE_DONE: the request was sent for at least 2 × N frames, and the working engine ramps off. -/
def execApsPlannedNoticeDone (s : State) : Out :=
  act (inService s && s.aps.st = 2 && s.aps.notice) (fun s =>
    match s.aps.work with
    | none => s
    | some w => switchRampOff w { s with aps := { s.aps with notice := false } }) s

/-- APS_RAMP_OFF_DONE: the old output is dark and the new booster ramps on. -/
def execApsRampOffDone (s : State) : Out :=
  act (inService s && s.aps.st = 2 && ! s.aps.notice && ! s.aps.rampOn) (fun s =>
    match s.aps.work, s.aps.target with
    | some w, some o =>
      let s := switchRampOn o (switchDark w s)
      { s with aps := { s.aps with rampOn := true } }
    | _, _ => s) s

/-- APS_NEW_ENGINE_FULL_POWER (R286 steps 4 and 5, R606): every enabled group of the new engine is ON, it sends maps under the
predicted offset 2 × Δ_up, and it takes over the messages the tree held. The causes of SF and SD that lie on the working engine move (R283). -/
def execApsNewEngineFullPower (s : State) : Out :=
  act (inService s && s.aps.st = 2 && s.aps.rampOn) (fun s =>
    match s.aps.work, s.aps.target with
    | some w, some o =>
      let s := modEng w (fun x => { x with st := if x.st = .trafficReady then .standby else x.st }) (takeMsgs w o s)
      let s := modEng o (fun x => { x with
        st := if x.st = .standby then .trafficReady else x.st, mapsStopped := false
        down := { x.down with laser := .lit, env := {} } }) s
      let s := forAll (List.range 8) (fun g t => if grpEn t o g then setGrp o g { st := .on } t else t) s
      let s := trafficUpdate { s with aps := { s.aps with work := some o, st := 3, rampOn := false, ofs := s.aps.ofs + 2 * s.aps.dup, errs := [] } }
      followCauses .B (followCauses .A s)
    | _, _ => s) s

/-! ## Steps 1 and 2 of an engine command (R535 to R537) -/

/-- UPD_ENGINE at a step of R536 that an engine command reached, with the flag of a refusal by a state change (R551). -/
def engMark (e : Eng) (step refused : Nat) (s : State) : State :=
  let s := modEng e (fun x => { x with updStep := step }) s
  raiseF .mgt 0x0E07 e.num (packData [(8, (getEng s e).updCmd), (8, step), (8, refused)]) .updFlags .A 6 s

/-- An engine can take over from the other (R535). -/
def canTakeOver (s : State) (o : Eng) : Bool :=
  let x := getEng s o
  ! x.sfHeld && ! x.sdHeld && x.st ≠ .failed && ! x.stopped

/-- The command ends. -/
def engCmdEnd (e : Eng) (s : State) : State :=
  modEng e (fun x => { x with updStep := 0, updCmd := 0, updForce := false, updBy := false }) s

/-- Downstream units queued for the containers of an engine are discarded and counted per flow (R537). -/
def dropEngineQueues (e : Eng) (s : State) : State :=
  let cs := (s.ctrs.filter (fun p => p.1 / 32768 = e.num)).map (fun p => p.1 % 32768)
  let s := forAll cs (dropQueued e) s
  forAll (s.flow.movePend.filter (fun p => (getFlow s p.1).map.getLsbD 31 = (e = .B))) (fun p t =>
    modFlow p.1 (fun y => { y with dropCtr := satAdd y.dropCtr p.2.length })
      { t with flow := { t.flow with movePend := tset [] t.flow.movePend p.1 [] } }) s

/-- Step 2 of R536: the transmitter begins to go dark; in Independent mode its queued units are lost from here (R537). -/
def engDark (e : Eng) (s : State) : State :=
  let s := rampTxOff e (engMark e 2 0 s)
  let s := modEng e (fun x => { x with mapsStopped := true }) s
  if s.boot.paired then s else dropEngineQueues e s

/-- Step 1 of R536 goes on: a working engine of a pair is first replaced by a planned switch; when the other engine can no longer
take over, FORCE skips the switch, and a command without it ends; a step of a firmware update waits. -/
def engTry (e : Eng) (s : State) : State :=
  let x := getEng s e
  let o := e.other
  if x.updStep ≠ 1 || s.aps.st = 2 || s.aps.st = 3 then s
  else if ! s.boot.paired || s.aps.work ≠ some e then engDark e s
  else if canTakeOver s o then
    if (getEng s o).st = .standby then
      startSwitch e ⟨7, 1, o⟩ true true { s with aps := { s.aps with st := 0, moved := false, updEng := some e } }
    else s
  else if x.updForce then engDark e s
  else if x.updBy then s
  else engCmdEnd e (engMark e 1 1 s)

/-- The switch ends: duration, counts and FRM_APS_DONE; leaves that land more than 4 symbols off the offset are re-ranged, and
SF on the standby is judged again (R283, R285, R286, R290). -/
def finishSwitch (ofs : Int) (predictedOnly : Bool) (s : State) : State :=
  match s.aps.work with
  | none => s
  | some w =>
    let us := (now s - s.aps.since) / 1000
    let off := ((s.aps.errs.filter (fun p => 256 < (p.2 - ofs).natAbs)).map (fun p => p.1)).eraseDups
    let s := { s with aps := { s.aps with st := 0, target := none, ofs := ofs, lastUs := us, errs := [], updEng := none } }
    let s := forAll engines (fun e => modEng e (fun x => { x with sfSymp := false })) s
    let s := forAll off (fun l => startRerange w l 3) (count 11 0 0 1 s)
    let s := apsEvent 0x0707 (engObjId w) (packData [(32, us), (8, b01 predictedOnly)]) s
    forAll engines engTry (apsUpdate (if w = homeEng then { s with aps := { s.aps with moved := false, back := false } } else s))

/-- Insert a value in a rising list. -/
def insertUp (x : Int) : List Int → List Int
  | [] => [x]
  | y :: l => if x ≤ y then x :: y :: l else y :: insertUp x l

/-- Median of a list of values: the middle one, or the mean of the two in the middle, rounded down. -/
def medianOf (l : List Int) : Int :=
  let t := l.foldr insertUp []
  let n := t.length
  if n % 2 = 1 then t.getD (n / 2) 0 else (t.getD (n / 2 - 1) 0 + t.getD (n / 2) 0) / 2

/-- APS_COMMON_OFFSET_APPLIED (R286 step 6): the median landing error of the first 64 good bursts becomes the common offset. -/
def execApsCommonOffsetApplied (s : State) : Out :=
  act (inService s && s.aps.st = 3 && 64 ≤ s.aps.errs.length)
    (fun s => finishSwitch (medianOf ((s.aps.errs.reverse.take 64).map (fun p => p.2))) false s) s

/-- APS_SETTLE_TIMEOUT (R285): 50 ms after SWITCHING was entered, with the offset not measured, the predicted one is kept. -/
def execApsSettleTimeout (s : State) : Out :=
  act (inService s && s.aps.st = 3 && s.aps.errs.length < 64) (fun s => finishSwitch s.aps.ofs true s) s

/-- APS_WTR_EXPIRY (R285): the timer ends and a planned switch to the home engine begins. -/
def execApsWtrExpiry (s : State) : Out :=
  act (inService s && s.boot.paired && s.aps.st = 1) (fun s =>
    match s.aps.work with
    | none => s
    | some w => startSwitch w ⟨5, 4, homeEng⟩ true true { s with aps := { s.aps with moved := false } }) s

/-! ## Host commands (R291) -/

/-- A host write of FRM_APS_CMD is refused. -/
def apsCmdRefused (s : State) (c : Nat) : Bool :=
  let bad := fun (x : Eng) => (getEng s x).sfHeld || (getEng s x).sdHeld
  let failed := fun (x : Eng) => decide ((getEng s x).st = .failed)
  let locked := s.aps.lo || s.aps.fs.isSome
  ! s.boot.paired ||
    (match c with
     | 0 => false
     | 1 => failed .A
     | 2 => failed .A
     | 3 => failed .B
     | 4 => bad .A || locked
     | 5 => bad .B || locked
     | _ => true)

/-- Clearing an FS or MS that held traffic away from H is a planned switch back when the group is revertive; during a switch it is noted, and
evaluated in STEADY (R285). -/
def clearHost (s : State) : State :=
  let away := s.aps.fs = some homeEng.other || s.aps.ms = some homeEng.other
  apsEval { s with aps := { s.aps with lo := false, fs := none, ms := none, back := away || s.aps.back } }

/-- A host write of FRM_APS_CMD (R291). -/
def writeApsCmd (v : W32) (s : State) : State × Status :=
  let c := fld v 3 0
  refuseOr ((engWriteGate s .A .aTxd).worse (if apsCmdRefused s c then .errState else .ok)) (fun s =>
    match c with
    | 0 => clearHost s
    | 1 => apsEval { s with aps := { s.aps with lo := true } }
    | 2 => apsEval { s with aps := { s.aps with fs := some .A } }
    | 3 => apsEval { s with aps := { s.aps with fs := some .B } }
    | 4 => apsEval { s with aps := { s.aps with ms := some .A } }
    | _ => apsEval { s with aps := { s.aps with ms := some .B } }) s

def execApsCmdClear (s : State) : Out := .next (setStatus (writeApsCmd 0 s))
def execApsCmdLo (s : State) : Out := .next (setStatus (writeApsCmd 1 s))
def execApsCmdFsA (s : State) : Out := .next (setStatus (writeApsCmd 2 s))
def execApsCmdFsB (s : State) : Out := .next (setStatus (writeApsCmd 3 s))
def execApsCmdMsA (s : State) : Out := .next (setStatus (writeApsCmd 4 s))
def execApsCmdMsB (s : State) : Out := .next (setStatus (writeApsCmd 5 s))

end Sys2Proof.Machine
end

