-- ==== Sys2Proof/Machine/Apr.lean ====
section
/-! DEFINITION. Automatic power reduction (R590 to R594). -/

namespace Sys2Proof.Machine

/-- Codes of DS_OPT_STATE.APR. -/
def aprNormal : Nat := 0
def aprReduced : Nat := 1
def aprRestoring : Nat := 2

/-- The booster is on. -/
def boosterOn (s : State) (e : Eng) : Bool := (getEng s e).down.laser ≠ .dark

/-- DS_APR (R594): at most once per engine per second. -/
def aprEvent (e : Eng) (refl : Int) (entry : Nat) (s : State) : State :=
  oncePerSec 0x0405 (dsObj e 0) (raise e.txc 0x0405 (dsObj e 0) (packData [(16, refl), (8, entry)])) s

/-- The amplitude, in units of 2^−14, at which a transmitter of +21 dBm, the most that R588 allows with all groups ON, sends +10.0 dBm (R591). -/
def aprCap : Nat := (gainRatio 100 (-1100)).toNat

/-- What APR makes of the transmitter in a state: all of its power, a reduced part that keeps the total at or below +10.0 dBm and is reached
within 100 ms, or the ramp from there back to full over LASER_MS (R591; notes/assumptions/250.md). -/
def aprRamp (e : Eng) (n : Nat) (s : State) : AprEnv × State :=
  let d := draw Config.freeNat s
  (match n with
   | 0 => {}
   | 1 => { st := 1, low := (d.1 % (aprCap + 1) : Nat), since := now s, dur := 100000000 }
   | _ => { (getEng s e).down.aprEnv with st := 2, since := now s, dur := laserNs s e }, d.2)

/-- APR takes a state with the ratio that led to it; a change between NORMAL and the others is a transmit fault's (R592). -/
def setApr (e : Eng) (n : Nat) (refl : Int) (s : State) : State :=
  let r := aprRamp e n s
  apsUpdate (modDown e (fun d => { d with apr := n, refl := refl, aprEnv := r.1 }) r.2)

/-- APR_REDUCE (R591): above −20 dB. -/
def execAprReduce (e : Eng) (refl : Int) (s : State) : Out :=
  act (alive s && boosterOn s e && (getEng s e).down.apr ≠ aprReduced && -2000 < refl)
    (fun s => setFlag .dsOptFlags e 0 (aprEvent e refl 1 (setApr e aprReduced refl s))) s

/-- APR_RESTORE_START (R591): at or below −24 dB. -/
def execAprRestoreStart (e : Eng) (refl : Int) (s : State) : Out :=
  act (alive s && boosterOn s e && (getEng s e).down.apr = aprReduced && refl ≤ -2400) (setApr e aprRestoring refl) s

/-- APR_RESTORE_DONE (R591). -/
def execAprRestoreDone (e : Eng) (refl : Int) (s : State) : Out :=
  act (alive s && boosterOn s e && (getEng s e).down.apr = aprRestoring)
    (fun s => setFlag .dsOptFlags e 1 (aprEvent e refl 0 (setApr e aprNormal refl s))) s

end Sys2Proof.Machine
end

