-- ==== Sys2Proof/Machine/Power.lean ====
section
/-! DEFINITION. Feeds, droop, the power cap and temperature (R35 to R76). -/

namespace Sys2Proof.Machine

/-! ## Feeds (R41 to R47) -/

/-- A feed is present and in range (FEED_x_OK, R44). -/
def feedOk (x : FeedSt) : Bool := x.mated && ! x.lost && ! x.high && ! x.swOpen

/-- A feed can carry load through its switch: mated at correct polarity with the switch closed, whatever FEED_x_OK says (R37,
R44). -/
def feedCarries (x : FeedSt) : Bool := x.mated && ! x.swOpen && 0 < x.volt

/-- PWR_STATUS.SOURCE: the higher feed, or both within 0.3 V (R37). With no feed to carry the load the module runs on its
hold-up store, for which the table lists no code; the field reads 0b00 then (notes/assumptions/151.md). Within 0.3 V both feeds may
carry part of the load (R37), and the field reads 0b11 there (DESIGN CHOICE, unsafe; notes/assumptions/205.md). -/
def feedSource (s : State) : Nat :=
  let a := s.pwr.feedA
  let b := s.pwr.feedB
  if feedCarries a && feedCarries b then
    (if (a.volt - b.volt).natAbs ≤ 30 then 3 else if b.volt < a.volt then 1 else 2)
  else if feedCarries a then 1 else if feedCarries b then 2 else 0

/-- Raise a feed event on AON, when AON has power, with the voltage in 10 mV (R73). -/
def feedEvent (code : Nat) (f : Feed) (mv : Int) (s : State) : State :=
  when (powered s) (raise .aon code f.num (packData [(16, mv)])) s

/-- As `feedEvent`, with the PWR_FLAGS bit of the event. -/
def feedEventF (code : Nat) (f : Feed) (mv : Int) (b : Nat) (s : State) : State :=
  when (powered s) (raiseF .aon code f.num (packData [(16, mv)]) .pwrFlags .A (b + f.num)) s

/-- FEED_MATED (R41): the feed is present and its switch charges the bulk capacitance. When neither feed carried the module
before, the feeds have been cycled, which ends the stay off after a THERM_CRIT shutdown once the case is below 80 °C (R72). A feed above
its limit still carries the module until its switch opens (R44). -/
def execFeedMated (f : Feed) (mv caseTemp : Int) (s : State) : Out :=
  let x := getFeed s f
  act (! x.mated || x.lost) (fun s =>
    let y := getFeed s f.other
    let hot := (feedCarries y && ! y.lost) || ! decide (caseTemp < 80 * 16)
    let s := modFeed f (fun x => { x with mated := true, volt := mv, lost := x.lost && powered s }) s
    { s with pwr := { s.pwr with critOff := s.pwr.critOff && hot, caseT := caseTemp } }) s

/-- What a feed's thresholds say at power good: the feed that started the module is present at its voltage, and no PWR_LOW is
in force (R42, R75). -/
def freshFeeds (f : Feed) (mv : Int) (s : State) : State :=
  modFeed f (fun x => { x with volt := mv, lost := false, high := false })
    (modFeed .A (fun x => { x with low := false }) (modFeed .B (fun x => { x with low := false }) s))

/-- POWER_GOOD (R42, R77, R79): the first feed to stay at or above 35.5 V starts the module. Time and TOD start at 0, the
address pins are sampled (R483), and the start begins, or the module stays in standby while SHDN_N is low (R504), or held while
RESET_N is low (R77). -/
def execPowerGood (f : Feed) (mv : Int) (adrSel0 adrSel1 : Bool) (s : State) : Out :=
  actF (s.pwr.run = .off && (getFeed s f).mated && ! (getFeed s f).swOpen && 3550 ≤ mv && ! s.pwr.lossOff && ! s.pwr.critOff) (fun s =>
    let k := freshFeeds f mv (keep s)
    let t := { k with pins := { k.pins with adr0 := adrSel0, adr1 := adrSel1 }
                      pwr := { k.pwr with run := if s.pins.resetN then .standby else .held } }
    if s.pins.resetN && s.pins.shdnN then beginStart t else t) s

/-- HOLDUP_CHARGED (R43): the hold-up store is full. -/
def execHoldupCharged (s : State) : Out :=
  act (powered s) (fun s => { s with pwr := { s.pwr with holdup := true } }) s

/-- PWR_LOW (R44): not while the feed is lost. -/
def execPwrLow (f : Feed) (mv : Int) (s : State) : Out :=
  let x := getFeed s f
  act (x.mated && ! x.lost && ! x.low && mv < 3800) (fun s =>
    feedEventF 0x0201 f mv 0 (modFeed f (fun x => { x with volt := mv, low := true }) s)) s

/-- PWR_LOW_CLEAR (R44). -/
def execPwrLowClear (f : Feed) (mv : Int) (s : State) : Out :=
  let x := getFeed s f
  act (x.low && ! x.lost && 3850 ≤ mv) (fun s =>
    feedEvent 0x0202 f mv (modFeed f (fun x => { x with volt := mv, low := false }) s)) s

/-- PWR_FEED_LOST (R44): below 20 V or reversed; FEED_x_LOW reads 0 from here. -/
def execPwrFeedLost (f : Feed) (mv : Int) (s : State) : Out :=
  let x := getFeed s f
  act (! x.lost && mv < 2000) (fun s =>
    feedEventF 0x0203 f mv 2 (modFeed f (fun x => { x with volt := mv, lost := true, low := false }) s)) s

/-- PWR_FEED_HIGH (R44). -/
def execPwrFeedHigh (f : Feed) (mv : Int) (s : State) : Out :=
  let x := getFeed s f
  act (x.mated && ! x.high && 7600 < mv) (fun s =>
    feedEventF 0x0204 f mv 4 (modFeed f (fun x => { x with volt := mv, high := true }) s)) s

/-- FEED_OVERVOLT_SWITCH_OPEN (R44). -/
def execFeedOvervoltSwitchOpen (f : Feed) (mv : Int) (s : State) : Out :=
  act (! (getFeed s f).swOpen && 8000 < mv) (modFeed f (fun x => { x with volt := mv, swOpen := true })) s

/-- FEED_SWITCH_RECLOSE (R44). -/
def execFeedSwitchReclose (f : Feed) (mv : Int) (s : State) : Out :=
  act ((getFeed s f).swOpen && mv < 7600) (modFeed f (fun x => { x with volt := mv, swOpen := false })) s

/-- FEED_RESTORED (R44): 35.5 V to 76.0 V with the switch closed. -/
def execFeedRestored (f : Feed) (mv : Int) (s : State) : Out :=
  let x := getFeed s f
  act (x.mated && (x.lost || x.high) && ! x.swOpen && 3550 ≤ mv && mv ≤ 7600)
    (modFeed f (fun x => { x with volt := mv, lost := false, high := false, low := false })) s

/-- DATA of PWR_FAIL: the bus voltage in 10 mV, with HOLDUP_RDY in bit 31 (R73). -/
def pwrFailData (mv : Int) (holdup : Bool) : BitVec 80 :=
  BitVec.ofNat 80 (toBits 16 mv + b01 holdup * 2 ^ 31)

/-- Internal flash can be written: MGT runs. In standby and while RESET_N holds the module, only AON and PWR run (R504, R570;
notes/assumptions/16.md). -/
def flashWrites (s : State) : Bool := s.pwr.run ≠ .standby && s.pwr.run ≠ .held

/-- An orderly shutdown has written its record, so its last event records and its record are in internal flash (R568 phase 5). -/
def recordDone (s : State) : Bool := 5 ≤ s.bist.phase

/-- The end of the 1 ms of R47: optics, lanes and DRAM lose power, and the last event records go to internal flash (R520). -/
def emergDark (s : State) : State :=
  let t := darken s
  let t := if flashWrites s && ! recordDone s then
      saveRecords (appendAll t)
    else t
  let t := dramOff t
  { t with pwr := { t.pwr with emergStep := 1 } }

/-- The whole of each lit transmitter follows the fixed 1 ms envelope (R48, R146). It falls from full also where the envelope of a
protection switch was running, which the rules leave open (DESIGN CHOICE, unsafe; notes/assumptions/204.md). -/
def dimLasers (s : State) : State :=
  forAll engines (fun e => modDown e (fun d => if d.laser = .dark then d else
    { d with laser := .rampingOff, offing := false, grp := d.grp.map (fun p => (p.1, { p.2 with env := p.2.env.stop s.clk.now }))
             env := { rising := false, origin := 1000000, since := s.clk.now, dur := 1000000 } })) s

/-- The outputs are dark in an orderly shutdown that has passed its phase 1 (R568). -/
def darkAlready (s : State) : Bool := s.pwr.run = .ready && s.bist.st ≠ 0 && 2 ≤ s.bist.phase

/-- A shutdown of R47 begins, and cuts a suite that runs (R569, R576). An orderly shutdown whose outputs are dark already has reached the end of the ramp, and the
sequence goes on from there (R51, R568). -/
def beginEmerg (k : Emerg) (s : State) : State :=
  let s := when (s.bist.st = 2) closeSuite s
  let t := dimLasers (stopSchedulers { s with pwr := { s.pwr with emerg := k, emergStep := 0 } })
  if darkAlready s then emergDark t else t

/-- PWR_FAIL (R47, R51, R72): the feed-loss shutdown begins; during a THERM_CRIT shutdown the failure is only logged and
that sequence goes on. -/
def execPwrFail (mv : Int) (s : State) : Out :=
  actF (powered s && s.pwr.emerg ≠ .powerFail && ! s.pwr.pfInCrit && mv < 3400) (fun s =>
    let t := raise .aon 0x0205 0 (pwrFailData mv s.pwr.holdup) s
    if s.pwr.emerg = .thermCrit then { t with pwr := { t.pwr with pfInCrit := true } } else beginEmerg .powerFail t) s

/-- SHUTDOWN_LASER_RAMP_DONE (R47): the 1 ms ramp ends. -/
def execShutdownLaserRampDone (s : State) : Out :=
  act (s.pwr.emerg ≠ .none && s.pwr.emergStep = 0) emergDark s

/-- Entries of the record of a shutdown that ended a suite: the finished tests, and the others abandoned (R569). -/
def cutEntries (s : State) : List TestEntry := s.bist.entries ++ s.bist.todo.map (abandonedEntry s.bist.suite)

/-- Whether a suite began in this shutdown (R576). -/
def suiteBegan (s : State) : Bool := 2 ≤ s.bist.st && s.bist.suite ≠ 0

/-- Whether the writes of the running shutdown are sure to complete: it has feed power, or the hold-up store was full when
feed power failed (R50, R72). -/
def writesSure (s : State) : Bool :=
  s.pwr.holdup || (s.pwr.emerg = .thermCrit && ! s.pwr.pfInCrit)

/-- The writes to internal flash of an emergency shutdown end (R47, R50): the event records, and the shutdown record last. When
the stored energy does not suffice, the first `written` event records are kept, the check word of the one after them fails, and the record is
kept only if `recOk`. -/
def emergRecord (written : Nat) (recOk : Bool) (s : State) : State :=
  let n := if writesSure s then s.flash.events.length else min written s.flash.events.length
  let ok := writesSure s || (recOk && n = s.flash.events.length)
  let es := if suiteBegan s then cutEntries s else []
  let kind := if s.pwr.emerg = .thermCrit then kindThermCrit else kindPowerFail
  let suite := if suiteBegan s then s.bist.suite else 0
  let all := if suiteBegan s then overallOf es (testSkipped s) else resNotRun
  let cut := ((s.flash.events.drop n).take 1).map (fun r => { r with crcOk := false })
  let t := { s with flash := { s.flash with events := s.flash.events.take n ++ cut, evValid := ok } }
  if ok then writeRec kind suite all es (if suiteBegan s then s.bist.durMs else 0) (if suiteBegan s then s.bist.peak else 0) t
  else t

/-- EMERGENCY_SHUTDOWN_END (R47, R50, R51, R72): the shutdown record is written last, READY falls, and all rails go off. -/
def execEmergencyShutdownEnd (written : Nat) (recOk : Bool) (s : State) : Out :=
  actF (s.pwr.emerg ≠ .none && s.pwr.emergStep = 1) (fun s =>
    let u := powerOff (if flashWrites s && ! recordDone s then emergRecord written recOk s else s)
    { u with pwr := { u.pwr with critOff := s.pwr.emerg = .thermCrit, lossOff := s.pwr.emerg = .powerFail } }) s

/-- FEED_LOSS_RESTART (R46): the bus has held 35.5 V for 100 ms, and the module may start from the beginning: its rails come
up and POWER_GOOD follows. -/
def execFeedLossRestart (mv : Int) (s : State) : Out :=
  act (s.pwr.run = .off && s.pwr.lossOff && 3550 ≤ mv)
    (fun s => { s with pwr := { s.pwr with lossOff := false } }) s

/-! ## Droop (R54 to R65) -/

/-- The islands with a droop sensor (R54). -/
def droops : Isl → Bool
  | .flow | .cryp | .aTxd | .aRxd | .bTxd | .bRxd => true
  | .aon | .pwr | .mgt | .key | .tod | .dmem | .cltx | .clrx | .aTxc | .aRxc | .bTxc | .bRxc => false

/-- Held steps below nominal down to the floor (R62). -/
def floorStep : Isl → Nat
  | .flow | .cryp => 4
  | .aTxd | .aRxd | .bTxd | .bRxd => 1
  | .aon | .pwr | .mgt | .key | .tod | .dmem | .cltx | .clrx | .aTxc | .aRxc | .bTxc | .bRxc => 0

/-- Nominal clock in MHz (R17); 1.328,125 GHz reads as its whole MHz. -/
def nominalMhz : Isl → Nat
  | .aon => 25 | .pwr => 100 | .mgt => 800 | .key => 400 | .tod => 1000 | .dmem => 1600
  | .flow | .cryp => 1800
  | .cltx | .clrx => 1328
  | .aTxc | .aRxc | .bTxc | .bRxc => 1500
  | .aTxd | .aRxd | .bTxd | .bRxd => 1600

/-- Island clock in MHz at its held step; FLOW and CRYP steps are 112.5 MHz, and a rate that is not whole reads as its whole
MHz (R62; notes/assumptions/152.md). -/
def clockMhz (i : Isl) (x : IslSt) : Nat :=
  match i with
  | .flow | .cryp => (18000 - 1125 * heldStep x) / 10
  | .aTxd | .aRxd | .bTxd | .bRxd => 1600 - 50 * heldStep x
  | .aon | .pwr | .mgt | .key | .tod | .dmem | .cltx | .clrx | .aTxc | .aRxc | .bTxc | .bRxc => nominalMhz i

/-- Change an island's holds; a change of the step it runs at raises PWR_STEP with the old step, the new step and the cause
(R65, R73), and an entry to a step other than nominal is counted (R74). -/
def stepIsl (i : Isl) (cause : Nat) (f : IslSt → IslSt) (s : State) : State :=
  let old := heldStep (getIsl s i)
  let t := modIsl i f s
  let new := heldStep (getIsl t i)
  if old = new then t
  else
    let t := if old = 0 then countCond 1 i.row 2 1 0 t else t
    raise i 0x0207 0 (packData [(8, old), (8, new), (8, cause)]) t

/-- PWR_DROOP_CFG.TH in 0.01 % (R54). -/
def sagLimit (s : State) : Nat := 100 * regF s .pwrDroopCfg .A 0 3 0

/-- SAG_START (R54, R55, R63, R76): the rail has fallen below the threshold set, which the row's operand tells by the depth of the dip (DESIGN
CHOICE, unsafe; notes/assumptions/215.md), the clock generator stretches, and a stretch episode begins. -/
def execSagStart (q : Sag) (s : State) : Out :=
  act (alive s && droops q.isl && ! (getIsl s q.isl).sag && sagLimit s < q.depth) (fun s =>
    countCond 1 q.isl.row 0 1 0
      (modIsl q.isl (fun x => { x with sag := true, stretching := true, carried := false, floorDone := false }) s)) s

/-- SAG_CLEAR (R56): the sag and its stretch episode end. -/
def execSagClear (i : Isl) (s : State) : Out :=
  act (getIsl s i).sag (modIsl i (fun x => { x with sag := false, stretching := false, carried := false, floorDone := false })) s

/-- PWR_DROOP_LONG (R56, R62, R64): the budget is spent with the sag present; the island moves down one step from the step it
stretched at, or stays at its floor, and its held rate carries the sag from here. -/
def execPwrDroopLong (i : Isl) (s : State) : Out :=
  act ((getIsl s i).sag && (getIsl s i).stretching) (fun s =>
    let x := getIsl s i
    let new := min (floorStep i) (heldStep x + 1)
    let t := count 1 i.row 1 1 (raiseF i 0x0206 0 (packData [(8, new)]) .pwrFlags .A 6 s)
    stepIsl i 1 (fun x => { x with stretching := false, carried := true, sagStep := max x.sagStep new }) t) s

/-- DROOP_STEP_DOWN (R64): the sag has persisted 100 µs at a held step. -/
def execDroopStepDown (i : Isl) (s : State) : Out :=
  let x := getIsl s i
  act (x.sag && x.carried && 0 < x.sagStep && x.sagStep < floorStep i)
    (stepIsl i 1 (fun x => { x with sagStep := x.sagStep + 1 })) s

/-- PWR_DROOP_FLOOR (R64): the sag has persisted 1 ms at the floor; each sag raises it once. -/
def execPwrDroopFloor (i : Isl) (s : State) : Out :=
  let x := getIsl s i
  actF (x.sag && x.carried && x.sagStep = floorStep i && 0 < floorStep i && ! x.floorDone) (fun s =>
    raiseF i 0x0208 0 (packData [(8, floorStep i)]) .pwrFlags .A 7
      (modIsl i (fun x => { x with floorFault := true, floorDone := true }) s)) s

/-- DROOP_STEP_UP (R65): the sag has been clear for HOLD_TIME; the island is no longer held at its floor. -/
def execDroopStepUp (i : Isl) (s : State) : Out :=
  let x := getIsl s i
  actF (! x.sag && 0 < x.sagStep && ctlRuns s .pwr)
    (stepIsl i 1 (fun x => { x with sagStep := x.sagStep - 1, floorFault := false })) s

/-- PWR_ELASTIC_SLIP (R60): the transmit converter island sends zero words in place of the missing ones, and the receive converter island
drops words. -/
def execPwrElasticSlip (e : Eng) (rx : Bool) (words : Nat) (s : State) : Out :=
  act (alive s && 0 < words) (fun s =>
    let s := if rx then dropWords e words s else zeroWords e words s
    count 2 e.num 0 1
      (raiseF (if rx then e.rxc else e.txc) 0x020A e.num (packData [(16, words)]) .pwrFlags .A 10 s)) s

/-! ## Power cap (R66 to R69) -/

/-- PWR_CAP.LIMIT in units of 10 mW. -/
def capLimit (s : State) : Nat := 100 * regF s .pwrCap .A 0 7 0

/-- A measurement of the input power; the highest one during a suite is kept for its record (R576). -/
def takePower (p : Nat) (s : State) : State :=
  { s with bist := if s.bist.st = 2 || s.bist.quick then { s.bist with peak := max s.bist.peak (p / 10) } else s.bist }

/-- The four DSP islands, which the cap steps together (R66). -/
def dspIsls : List Isl := [.aTxd, .aRxd, .bTxd, .bRxd]

/-- The next step down in the cap order: CRYP to its floor, FLOW to its floor, then the four DSP islands (R66). -/
def capDown (s : State) : State :=
  let up1 := fun (x : IslSt) => { x with capStep := x.capStep + 1 }
  if (getIsl s .cryp).capStep < floorStep .cryp then stepIsl .cryp 2 up1 s
  else if (getIsl s .flow).capStep < floorStep .flow then stepIsl .flow 2 up1 s
  else if (getIsl s .aTxd).capStep < floorStep .aTxd then forAll dspIsls (fun i => stepIsl i 2 up1) s
  else s

/-- The cap holds an island (PWR_STATUS.CAP_ACTIVE). -/
def capHolds (s : State) : Bool := Isl.all.any (fun i => 0 < (getIsl s i).capStep)

/-- One step up, in the reverse order; the cap holds no island once all are back (R67). -/
def capUp (s : State) : State :=
  let dn1 := fun (x : IslSt) => { x with capStep := x.capStep - 1 }
  let t :=
    if 0 < (getIsl s .aTxd).capStep then forAll dspIsls (fun i => stepIsl i 2 dn1) s
    else if 0 < (getIsl s .flow).capStep then stepIsl .flow 2 dn1 s
    else if 0 < (getIsl s .cryp).capStep then stepIsl .cryp 2 dn1 s
    else s
  { t with pwr := { t.pwr with capActive := capHolds t, capStepping := false } }

/-- PWR_CAP_HIT (R66): each excess of 10 ms, once the steps for the one before it have stopped. -/
def execPwrCapHit (power : Nat) (s : State) : Out :=
  act (alive s && ctlRuns s .pwr && capLimit s < power && ! s.pwr.capStepping) (fun s =>
    let t := takePower power s
    raiseF .pwr 0x0209 0 (packData [(16, power)]) .pwrFlags .A 8
      { t with pwr := { t.pwr with capActive := true, capStepping := true } }) s

/-- CAP_STEP_DOWN (R66): the millisecond's step, or the end of stepping when the power is at or below the limit; a cap that
holds no island is not active. -/
def execCapStepDown (power : Nat) (s : State) : Out :=
  act (alive s && ctlRuns s .pwr && s.pwr.capStepping) (fun s =>
    let t := takePower power s
    if capLimit s < power then capDown t
    else { t with pwr := { t.pwr with capStepping := false, capActive := capHolds t } }) s

/-- CAP_STEP_UP (R67): the power has stayed at least 5 W below the limit. -/
def execCapStepUp (power : Nat) (s : State) : Out :=
  act (alive s && ctlRuns s .pwr && s.pwr.capActive && power + 500 ≤ capLimit s) (fun s => capUp (takePower power s)) s

/-! ## Temperature (R70 to R72) -/

/-- Index of the case sensor (R73). -/
def caseSensor : Nat := 0x40

/-- PWR_THERM_CFG.HIGH in 1/16 °C. -/
def thermLimit (s : State) : Int := 16 * (regF s .pwrThermCfg .A 0 7 0 : Int)

/-- Take a case temperature. -/
def setCase (temp : Int) (s : State) : State := { s with pwr := { s.pwr with caseT := temp } }

/-- THERM_HIGH (R71). -/
def execThermHigh (temp : Int) (s : State) : Out :=
  act (powered s && ! s.pwr.therm && thermLimit s < temp) (fun s =>
    let t := setCase temp s
    raiseF .aon 0x020B caseSensor (packData [(16, temp)]) .pwrFlags .A 9
      { t with pwr := { t.pwr with therm := true } }) s

/-- THERM_HIGH_CLEAR (R71): 2 °C or more below HIGH. -/
def execThermHighClear (temp : Int) (s : State) : Out :=
  act (powered s && s.pwr.therm && temp ≤ thermLimit s - 32) (fun s =>
    let t := setCase temp s
    raise .aon 0x020C caseSensor (packData [(16, temp)]) { t with pwr := { t.pwr with therm := false } }) s

/-- A sensor reads above its THERM_CRIT threshold: 95 °C for the case, 120 °C for a die sensor (R71). -/
def critTemp (sensor : Nat) (temp : Int) : Bool :=
  (sensor = caseSensor && 95 * 16 < temp) || ((islOfId sensor).isSome && 120 * 16 < temp)

/-- Take the temperature of the sensor of an index; a die temperature is held nowhere, and a read measures it anew (R70, R73). -/
def setSensor (sensor : Nat) (temp : Int) (s : State) : State :=
  if sensor = caseSensor then setCase temp s else s

/-- THERM_CRIT (R71, R72): the shutdown of R47 begins on feed power, also in standby and in reset, where AON and PWR run; a
feed-loss shutdown that runs goes on to its end with its own record and restart rule, where R72 is silent (DESIGN CHOICE, unsafe;
notes/assumptions/203.md). -/
def execThermCrit (sensor : Nat) (temp : Int) (s : State) : Out :=
  actF (powered s && s.pwr.emerg ≠ .thermCrit && critTemp sensor temp) (fun s =>
    let t := raise .aon 0x020D sensor (packData [(16, temp)]) (setSensor sensor temp s)
    if s.pwr.emerg = .powerFail then t else beginEmerg .thermCrit t) s

end Sys2Proof.Machine
end

