-- ==== Sys2Proof/Machine/Nrz.lean ====
section
/-! DEFINITION. The NRZ lanes: 8b/10b code groups, running disparity, comma alignment and the synchronisation process of IEEE 802.3
(R385, R386, R388, R399, R400). The code and the process are that standard's; R399 names them (notes/assumptions/200.md). -/

namespace Sys2Proof.Machine

/-! ## The 8b/10b code -/

/-- The first six bits of the code group of a data octet's low five bits, and the last four of its high three bits, at negative running
disparity; the first bit on the line is the most significant. -/
def sixOf (x : Nat) : BitVec 6 :=
  ([0b100111, 0b011101, 0b101101, 0b110001, 0b110101, 0b101001, 0b011001, 0b111000, 0b111001, 0b100101, 0b010101, 0b110100,
    0b001101, 0b101100, 0b011100, 0b010111, 0b011011, 0b100011, 0b010011, 0b110010, 0b001011, 0b101010, 0b011010, 0b111010,
    0b110011, 0b100110, 0b010110, 0b110110, 0b001110, 0b101110, 0b011110, 0b101011] : List (BitVec 6)).getD x 0
def fourOf (y : Nat) : BitVec 4 :=
  ([0b1011, 0b1001, 0b0101, 0b1100, 0b1101, 0b1010, 0b0110, 0b1110] : List (BitVec 4)).getD y 0

/-- Ones of a word of `n` bits. -/
def onesOf (n v : Nat) : Nat := ((List.range n).map (fun i => b01 (v.testBit i))).sum

/-- Running disparity, positive or not, after six and after four bits. -/
def rdAfterSix (c : BitVec 6) (pos : Bool) : Bool :=
  let n := onesOf 6 c.toNat
  if 3 < n || c = 0b000111 then true else if n < 3 || c = 0b111000 then false else pos
def rdAfterFour (c : BitVec 4) (pos : Bool) : Bool :=
  let n := onesOf 4 c.toNat
  if 2 < n || c = 0b0011 then true else if n < 2 || c = 0b1100 then false else pos

/-- The six and the four bits that a running disparity requires, of a data octet or of a control one (`k`). -/
def encSix (k : Bool) (x : Nat) (pos : Bool) : BitVec 6 :=
  let c := if k && x = 28 then 0b001111 else sixOf x
  if pos && (onesOf 6 c.toNat ≠ 3 || x = 7) then ~~~ c else c
def encFour (k : Bool) (x y : Nat) (pos : Bool) : BitVec 4 :=
  let alt := if pos then x = 11 || x = 13 || x = 14 else x = 17 || x = 18 || x = 20
  let c := if y = 7 && (k || alt) then 0b0111 else fourOf y
  if pos && (onesOf 4 c.toNat ≠ 2 || y = 3) then ~~~ c
  else if k && ! pos && onesOf 4 c.toNat = 2 && y ≠ 3 then ~~~ c
  else c

/-- The code group of an octet at a running disparity, and the running disparity after it (R399). -/
def codeGroup (k : Bool) (octet : Nat) (pos : Bool) : BitVec 10 × Bool :=
  let a := encSix k (octet % 32) pos
  let mid := rdAfterSix a pos
  let b := encFour k (octet % 32) (octet / 32) mid
  (a ++ b, rdAfterFour b mid)

/-- Code groups one after another. -/
def encodeGroups : Bool → List (Bool × Nat) → List (BitVec 10) × Bool
  | pos, [] => ([], pos)
  | pos, (k, o) :: l =>
    let c := codeGroup k o pos
    let r := encodeGroups c.2 l
    (c.1 :: r.1, r.2)

/-- Octets of the control code groups: K28.0 to K28.7, K23.7, K27.7, K29.7 and K30.7. -/
def controlOctets : List Nat := [0x1C, 0x3C, 0x5C, 0x7C, 0x9C, 0xBC, 0xDC, 0xFC, 0xF7, 0xFB, 0xFD, 0xFE]

/-- A code group is that of a data octet, or of any octet, at a running disparity. -/
def isDataGroup (g : BitVec 10) (pos : Bool) : Bool := (List.range 256).any (fun o => (codeGroup false o pos).1 = g)
def isCodeGroup (g : BitVec 10) (pos : Bool) : Bool :=
  isDataGroup g pos || controlOctets.any (fun o => (codeGroup true o pos).1 = g)

/-! ## Sending (R399, R403) -/

/-- Start of a packet of `n` octets, its end, and the halves of the idle sets /I1/ and /I2/. Behind an odd number of octets the end has a
second carrier extend, so that the comma of the idle set stands at an even place. -/
def startOctet : Bool × Nat := (true, 0xFB)
def endOctets (n : Nat) : List (Bool × Nat) := (true, 0xFD) :: List.replicate (1 + n % 2) (true, 0xF7)
def idleOne : List (Bool × Nat) := [(true, 0xBC), (false, 0xC5)]
def idleTwo : List (Bool × Nat) := [(true, 0xBC), (false, 0x50)]

/-- The code groups of a packet, preamble and check sequence among its octets, and of the gap of 12 octets or more behind it: the first idle set
brings the running disparity to negative. -/
def packetGroups (pos : Bool) (octets : List Byte) : List (BitVec 10) × Bool :=
  let p := encodeGroups pos (startOctet :: (octets.drop 1).map (fun b => (false, b.toNat)) ++ endOctets octets.length)
  let g := encodeGroups p.2 ((if p.2 then idleOne else idleTwo) ++ (List.replicate 4 idleTwo).flatten)
  (p.1 ++ g.1, g.2)

/-! ## Receiving (R399) -/

/-- The group begins with a comma, and the running disparity before it. -/
def commaOf (g : List Bool) : Option Bool :=
  if g.take 7 = [false, false, true, true, true, true, true] then some false
  else if g.take 7 = [true, true, false, false, false, false, false] then some true
  else none

/-- The bits of a group as a word, the first most significant. -/
def groupBits (g : List Bool) : BitVec 10 := BitVec.ofNat 10 (g.foldl (fun a b => 2 * a + b01 b) 0)

/-- One code group in the synchronisation process: 0 is loss of synchronisation, 1 to 5 acquire it, 6 to 9 hold it with up to three bad
groups to forgive. -/
def syncStep (y : NrzRx) (comma bad data : Bool) : NrzRx :=
  let y' := { y with even := ! y.even }
  let wrong := bad || (comma && y.even)
  match y.st with
  | 0 => if comma then { y' with st := 1, even := true } else y'
  | 1 | 3 | 5 => if data then { y' with st := y.st + 1, good := 0 } else { y' with st := 0 }
  | 2 | 4 => if wrong then { y' with st := 0 } else if comma then { y' with st := y.st + 1 } else y'
  | 6 => if wrong then { y' with st := 7, good := 0 } else y'
  | n =>
    if wrong then { y' with st := if n = 9 then 0 else n + 1, good := 0 }
    else if y.good = 3 then { y' with st := n - 1, good := 0 }
    else { y' with good := y.good + 1 }

/-- The code group of the error character, /V/. -/
def isErrorChar (g : BitVec 10) (pos : Bool) : Bool := (codeGroup true 0xFE pos).1 = g

/-- The receiver takes bits: without synchronisation it looks for a comma, else it takes group after group; with it, of each group whether it
is invalid or has the wrong disparity, and whether it is the error character. -/
def nrzTake : Nat → NrzRx → List Bool → NrzRx × List (Bool × Bool)
  | 0, y, l => ({ y with tail := l }, [])
  | fuel + 1, y, l =>
    if l.length < 10 then ({ y with tail := l }, [])
    else
      let g := l.take 10
      let c := commaOf g
      if y.st = 0 && c.isNone then nrzTake fuel y (l.drop 1)
      else
        let pos := if y.st = 0 then c.getD false else y.pos
        let w := groupBits g
        let bad := ! isCodeGroup w pos
        let four := rdAfterFour (w.extractLsb' 0 4) (rdAfterSix (w.extractLsb' 4 6) pos)
        let r := nrzTake fuel { syncStep y c.isSome bad (isDataGroup w pos) with pos := four } (l.drop 10)
        (r.1, (bad, isErrorChar w pos) :: r.2)

/-- The receiver after bits, and the code violations among them (R399). -/
def nrzReceive (y : NrzRx) (bits : List Bool) : NrzRx × Nat :=
  let l := y.tail ++ bits
  let r := nrzTake l.length y l
  (r.1, (r.2.filter (fun g => g.1)).length)

/-- Bits hold a code violation or an error character (R402). -/
def nrzFaulty (y : NrzRx) (bits : List Bool) : Bool :=
  let l := y.tail ++ bits
  (nrzTake l.length y l).2.any (fun g => g.1 || g.2)

/-- The lane has synchronisation. -/
def nrzSynced (y : NrzRx) : Bool := 6 ≤ y.st

/-! ## Auto-negotiation (R400) -/

/-- The base page that the module advertises: full duplex, no half duplex, and both pause bits 0. -/
def anAbility : BitVec 16 := 0x0020

/-- A partner's base page offers full duplex. -/
def fullDuplex (page : BitVec 16) : Bool := (page &&& anAbility).getLsbD 5

end Sys2Proof.Machine
end

