-- ==== Sys2Proof/Machine/Prbs.lean ====
section
/-! DEFINITION. The test patterns of the client lanes: generators and checkers (R408, R409). R409 names the patterns by IEEE 802.3 or by their
polynomials (notes/assumptions/225.md). -/

namespace Sys2Proof.Machine

/-! ## Patterns (R409) -/

/-- Bits of a symbol of a lane. -/
def symBits (pam : Bool) : Nat := if pam then 2 else 1

/-- Length of the register of a pattern, the distances its next bit depends on, and whether the sequence is sent inverted. -/
def prbsOrder (pam : Bool) (pat : Nat) : Nat := if pat = 0 then 31 else if pam then 13 else 7
def prbsTaps (pam : Bool) (pat : Nat) : List Nat := if pat = 0 then [31, 28] else if pam then [13, 12, 2, 1] else [7, 6]
def prbsInv (pam : Bool) (pat : Nat) : Bool := pam && pat = 0

/-- The bit that follows a register, whose bit 0 is the newest, and the register with a bit behind it. -/
def prbsNext (pam : Bool) (pat r : Nat) : Bool :=
  ((prbsTaps pam pat).map (fun t => r.testBit (t - 1))).foldl Bool.xor (prbsInv pam pat)
def prbsPush (pam : Bool) (pat r : Nat) (b : Bool) : Nat := (2 * r + b01 b) % 2 ^ prbsOrder pam pat

/-- The register that no pattern passes through. -/
def prbsStuck (pam : Bool) (pat : Nat) : Nat := if prbsInv pam pat then 2 ^ prbsOrder pam pat - 1 else 0

/-- A start of the generator: any register of the pattern. -/
def prbsSeed (pam : Bool) (pat n : Nat) : Nat :=
  let m := n % (2 ^ prbsOrder pam pat - 1)
  if prbsInv pam pat then m else m + 1

/-- `n` bits of a pattern from a register, and the register after them. -/
def prbsRun (pam : Bool) (pat : Nat) : Nat → Nat → List Bool × Nat
  | 0, r => ([], r)
  | n + 1, r =>
    let b := prbsNext pam pat r
    let x := prbsRun pam pat n (prbsPush pam pat r b)
    (b :: x.1, x.2)

/-! ## The checker (R409) -/

/-- The register that received bits leave. -/
def prbsFill (pam : Bool) (pat : Nat) (r : Nat) (l : List Bool) : Nat := l.foldl (prbsPush pam pat) r

/-- Every bit of a list is the one that the bits received before it ask for. -/
def prbsClean (pam : Bool) (pat : Nat) : Nat → List Bool → Bool
  | _, [] => true
  | r, b :: l => (b == prbsNext pam pat r) && prbsClean pam pat (prbsPush pam pat r b) l

/-- The checker locks on bits that end with 64 error-free symbols. -/
def prbsLocks (pam : Bool) (pat : Nat) (l : List Bool) : Bool :=
  let n := prbsOrder pam pat
  let m := 64 * symBits pam
  let r := prbsFill pam pat 0 (l.take (l.length - m))
  n + m ≤ l.length && r ≠ prbsStuck pam pat && prbsClean pam pat r (l.drop (l.length - m))

/-- The bit errors of received bits against a pattern that runs on from a register. -/
def prbsErrors (pam : Bool) (pat r : Nat) (l : List Bool) : Nat :=
  ((List.zip l (prbsRun pam pat l.length r).1).filter (fun p => p.1 != p.2)).length

/-- The checker loses lock on 64 errors within 1,024 symbols. -/
def prbsLoses (pam : Bool) (pat r : Nat) (l : List Bool) : Bool :=
  l.length ≤ 1024 * symBits pam && 64 ≤ prbsErrors pam pat r l

end Sys2Proof.Machine
end

