-- ==== Sys2Proof/Machine/Bridge.lean ====
section
/-! DEFINITION. Requests across bridges: the incarnations they carry, and the replies that are discarded (R24, R530). -/

namespace Sys2Proof.Machine

/-- A request that island `src` sends to island `dst` now, and that `dst` accepts in its present incarnation (R24). -/
def bridgeReq (s : State) (src dst : Isl) : BridgeReq :=
  { src := src, srcInc := (getIsl s src).incarn, dst := dst, dstInc := (getIsl s dst).incarn }

/-- The reply to a request is discarded: an incarnation it carries is not current (R24, R530). -/
def replyStale (s : State) (r : BridgeReq) : Bool :=
  r.dstInc ≠ (getIsl s r.dst).incarn || r.srcInc ≠ (getIsl s r.src).incarn

/-- Replies that an island discards are counted for it and reported (R530, R551). -/
def staleReplies (i : Isl) (n : Nat) (s : State) : State :=
  if n = 0 then s
  else
    let s := modIsl i (fun x => { x with stale := min (2 ^ 32 - 1) (x.stale + n) }) s
    let s := count 24 i.row 4 n s
    setFlag .updFlags .A 5 (perSecond .mgt 0x0E06 i.id n s)

end Sys2Proof.Machine
end

