-- ==== Sys2Proof/Machine/Index.lean ====
section
/-! DEFINITION. The words of a flow context, keys and the key index (R342 to R347). -/

namespace Sys2Proof.Machine

/-! ## Contexts (R347) -/

def flowValid (x : Flow) : Bool := x.ctl.getLsbD 31
def flowUp (x : Flow) : Bool := x.ctl.getLsbD 30
def flowKtype (x : Flow) : Nat := fld x.ctl 27 24
def flowPort (x : Flow) : Nat := fld x.ctl 20 16
def flowAge (x : Flow) : Nat := fld x.ctl 15 0
def flowEng (x : Flow) : Eng := if x.map.getLsbD 31 then .B else .A
def flowCid (x : Flow) : Nat := fld x.map 30 16
def flowTagOp (x : Flow) : Nat := fld x.map 2 0
def flowRepl (x : Flow) : Bool := x.repl.getLsbD 31
def flowNext (x : Flow) : Nat := fld x.repl 19 0
def flowMode (x : Flow) : Nat := fld x.pol 31 30
def flowCbs (x : Flow) : Nat := fld x.pol 23 0
def flowPbs (x : Flow) : Nat := fld x.pbs 23 0

/-! ## Tags and keys (R342, R343) -/

def tpidC : Nat := 0x8100
def tpidS : Nat := 0x88A8

/-- A frame has an outer tag, and a second tag behind it. -/
def outerTag (b : List Byte) : Bool := beAt b 12 2 = tpidC || beAt b 12 2 = tpidS
def innerTag (b : List Byte) : Bool := outerTag b && beAt b 16 2 = tpidC

/-- VIDs and PCP as keys use them: 0xFFF for a tag the packet lacks. -/
def sVid (b : List Byte) : Nat := if outerTag b then beAt b 14 2 % 4096 else 0xFFF
def cVid (b : List Byte) : Nat := if innerTag b then beAt b 18 2 % 4096 else 0xFFF
def outerPcp (b : List Byte) : Nat := if outerTag b then beAt b 14 2 / 8192 else 0

/-- The key of a downstream packet under a key type. -/
def dsKey (ktype port : Nat) (b : List Byte) : Nat :=
  let p := port * 2 ^ 91
  match ktype with
  | 0 => p
  | 1 => p + sVid b * 2 ^ 79
  | 2 => p + sVid b * 2 ^ 79 + cVid b * 2 ^ 67
  | 3 => p + sVid b * 2 ^ 79 + cVid b * 2 ^ 67 + outerPcp b * 2 ^ 64
  | _ => p + sVid b * 2 ^ 79 + beAt b 0 6 * 2 ^ 31

/-- The keys of an upstream unit: CID_V and CID. -/
def usKey (e : Eng) (cid : Nat) : Nat := e.num * 2 ^ 95 + cid * 2 ^ 80
def usKeyV (e : Eng) (cid : Nat) (b : List Byte) : Nat := usKey e cid + sVid b * 2 ^ 68

/-! ## The key index (R345) -/

/-- A context has an entry in the key index. -/
def inIndex (x : Flow) : Bool := flowValid x && flowKtype x ≠ 15

/-- The two buckets of a context's key (R345): keyed hashes that the manual leaves to the module; and the one its entry lies in. -/
def bucketFor (s : State) (second : Bool) (ktype : Nat) (key : BitVec 96) : Nat := Config.flowHash s.flow.hashKey second ktype key % 393216
def keyBucket (s : State) (second : Bool) (x : Flow) : Nat := bucketFor s second (flowKtype x) x.key
def bucketOf (s : State) (x : Flow) : Nat := keyBucket s x.second x

/-- The flows with an entry in a bucket, and the entries a bucket holds at most. -/
def bucketFlows (s : State) (b : Nat) : List Nat :=
  (s.flow.ctx.filter (fun p => inIndex p.2 && bucketOf s p.2 = b)).map (fun p => p.1)
def bucketSize : Nat := 4

/-- Move a flow's entry to its other bucket. -/
def moveEntry (f : Nat) (s : State) : State := modFlow f (fun x => { x with second := ! x.second }) s

/-- Entries are displaced, one after another, from a bucket that holds too many; the entry that came last stays, and which of the others
goes is open (R345; notes/assumptions/5.md). None where the displacements run out. -/
def displace : Nat → Nat → Nat → State → Option State
  | 0, _, _, _ => none
  | n + 1, b, last, s =>
    let p := draw Config.freeNat s
    let l := (bucketFlows s b).filter (fun f => f ≠ last)
    let v := l.getD (p.1 % l.length) last
    let s := moveEntry v p.2
    let b := bucketOf s (getFlow s v)
    if (bucketFlows s b).length ≤ bucketSize then some s else displace n b v s

/-- Displacements of an insertion at most (R345). -/
def maxDisplaced : Nat := 64

/-- A context that has just become valid gets its entry: in either of its buckets that has room, else by displacement. -/
def insertKey (f : Nat) (s : State) : Option State :=
  let x := getFlow s f
  if ! inIndex x || (bucketFlows s (bucketOf s x)).length ≤ bucketSize then some s
  else if (bucketFlows s (keyBucket s true x)).length < bucketSize then some (moveEntry f s)
  else displace maxDisplaced (bucketOf s x) f s

/-- A lookup reads the two buckets of a key (R345): the valid flow with that key, and a miss where either bucket reads as POISON (R344,
R471). -/
def findFlow (ktype key : Nat) (s : State) : Option Nat × State :=
  let a := memRead 1 (bucketFor s false ktype (BitVec.ofNat 96 key)) rdPort0 s
  let b := memRead 1 (bucketFor s true ktype (BitVec.ofNat 96 key)) rdPort0 a.2
  (if a.1 || b.1 then none
   else (s.flow.ctx.find? (fun p => flowValid p.2 && flowKtype p.2 = ktype && p.2.key.toNat = key)).map (fun p => p.1), b.2)

end Sys2Proof.Machine
end

