-- ==== Sys2Proof/Machine/Reasm.lean ====
section
/-! DEFINITION. Upstream reassembly: segments in SSN order, container alignment and units (R253 to R255, R263 to R272). -/

namespace Sys2Proof.Machine

/-! ## Reading the stream -/

/-- Bytes that are all present, as one number most significant first; none when any is lost. -/
def sNat (l : List SByte) : Option Nat :=
  l.foldl (fun a b => match a, b with
    | some n, .got x => some (256 * n + x.toNat)
    | _, _ => none) (some 0)

/-- Whether a byte is lost, and its value; a lost one as zero. -/
def SByte.isLost : SByte → Bool
  | .got _ => false
  | .lost _ => true
def SByte.val : SByte → Byte
  | .got b => b
  | .lost _ => 0

/-- Some byte is lost. -/
def anyLost (l : List SByte) : Bool := l.any SByte.isLost

/-- What a unit with lost bytes counts for: the meter of DRAM where it refused any of them (R34), else a failed block where one held any, else
the POISON of a memory region (R471). -/
def whyLost (l : List SByte) : LostWhy :=
  if (.lost .meter : SByte) ∈ l then .meter
  else if (.lost .block : SByte) ∈ l then .block
  else match l.find? SByte.isLost with
    | some (.lost w) => w
    | _ => .block

/-- The bytes, a lost one as zero; used only where none is lost. -/
def sBytes (l : List SByte) : List Byte := l.map SByte.val

/-- A CAW that is a hit (R269, R270): its CFC, AIS and UPTR. -/
structure Caw where
  cfc : Nat
  ais : Bool
  uptr : Nat
  deriving DecidableEq, Repr

/-- A container alignment word with its HEC (R269). -/
def cawWord (cfc : Nat) (ais : Bool) (uptr : Nat) : Nat :=
  let top := 0b1100101 * 2 ^ 17 + cfc * 2 ^ 10 + b01 ais * 2 ^ 9 + uptr
  top * 256 + (crc8 (toBytes 3 top) ^^^ 0x5A)

/-- What the four bytes at an expected or searched position are: lost in part, a hit, or a miss (R270, R272). -/
inductive CawSeen where
  | lost
  | hit (c : Caw)
  | miss
  deriving DecidableEq, Repr

def seeCaw (l : List SByte) : CawSeen :=
  match sNat (l.take 4) with
  | none => .lost
  | some w =>
    let c : Caw := ⟨w / 2 ^ 18 % 128, w.testBit 17, w / 2 ^ 8 % 512⟩
    if w = cawWord c.cfc c.ais c.uptr then .hit c else .miss

/-! ## Units (R253 to R255, R266) -/

/-- Body length, KIND, CLEAR and CID of a unit header, from its first word (R253). -/
def unitLen (w : Nat) : Nat := w / 2 ^ 18
def unitKind (w : Nat) : Nat := w / 2 ^ 16 % 4
def unitClear (w : Nat) : Bool := w.testBit 15
def unitCid (w : Nat) : Nat := w % 2 ^ 15

/-- The first word of a unit is malformed (R255). -/
def unitBad (w : Nat) : Bool :=
  unitLen w = 0 || 9600 < unitLen w || 2 ≤ unitKind w || (unitClear w && unitKind w = 0)

/-- Bytes of a whole unit: header, body, tag unless clear, and zero bytes to a multiple of 4 (R253). -/
def unitBytes (w : Nat) : Nat := 4 * ceilDiv (12 + unitLen w + (if unitClear w then 0 else 16)) 4

/-- What reassembly reports as it goes through a stream. -/
inductive RxOut where
  | caw (ais : Bool)                       -- a hit (R275)
  | missed                                 -- an expected CAW missed
  | alignLost (cfc : Nat)
  | realigned
  | unaligned (n : Nat)                    -- bytes discarded outside ALIGNED
  | unitLost (cid : Option Nat) (why : LostWhy)
  | malformed
  | unit (bytes : List Byte)               -- a whole unit, zero bytes included
  deriving DecidableEq, Repr

/-- The CID of a unit that starts in bytes some of which are lost: bytes 2 and 3 carry it, when they can be read (R253, R266). -/
def seenCid (l : List SByte) : Option Nat := if l.length < 4 then none else (sNat ((l.drop 2).take 2)).map (fun w => w % 2 ^ 15)

/-- Take whole units from the bytes gathered since a unit start; the rest stays in `unit` (R254, R255, R266). -/
def takeUnits : Nat → LeafRx → LeafRx × List RxOut
  | 0, x => (x, [])
  | fuel + 1, x =>
    if x.unit.length < 4 then (x, [])
    else
      match sNat (x.unit.take 4) with
      | none => ({ x with unit := [], synced := false, lead := none }, [.unitLost (seenCid x.unit) (whyLost x.unit)])
      | some 0 => takeUnits fuel { x with unit := x.unit.drop 4 }
      | some w =>
        if unitBad w then ({ x with unit := [], synced := false }, [.malformed])
        else if x.unit.length < unitBytes w then (x, [])
        else
          let u := x.unit.take (unitBytes w)
          let y := takeUnits fuel { x with unit := x.unit.drop (unitBytes w) }
          (y.1, (if anyLost u then .unitLost (some (unitCid w)) (whyLost u) else .unit (sBytes u)) :: y.2)

/-- The unit in progress is discarded (R272). -/
def dropUnit (x : LeafRx) : LeafRx := { x with unit := [], synced := false, lead := none }

/-- What counts of the unit in progress when bytes of it are lost: nothing of padding or of no unit, else the unit, against its CID where that
can be read (R266, R279). -/
def unitCut (x : LeafRx) : List RxOut :=
  if ! x.synced || x.unit = [] || sNat (x.unit.take 4) = some 0 then [] else [.unitLost (seenCid x.unit) (whyLost x.unit)]

/-- The unit in progress is discarded with the alignment: it counts as lost when bytes of it were (R266, R272). -/
def lostCut (x : LeafRx) : List RxOut := if anyLost x.unit then unitCut x else []

/-! ## Alignment (R272) -/

/-- Bytes of a container frame and of its payload (R269). -/
def cfrBytes : Nat := 1028
def cfrPayload : Nat := 1024

/-- A CAW is used in ALIGNED: the payload begins after it, and an unsynchronised unit search starts at UPTR (R270, R272). -/
def useCaw (c : Caw) (x : LeafRx) : LeafRx :=
  { x with buf := x.buf.drop 4, skip := cfrPayload
           lead := if ! x.synced && c.uptr ≤ 255 then some (4 * c.uptr) else none }

/-- Payload bytes reach the unit search: gathered when unit boundaries are known, else discarded up to the first unit
header that UPTR named. -/
def usePayload (p : List SByte) (x : LeafRx) : LeafRx × List RxOut :=
  let y := if x.synced then { x with unit := x.unit ++ p }
    else match x.lead with
      | none => x
      | some k =>
        if k < p.length then { x with synced := true, lead := none, unit := p.drop k }
        else { x with lead := some (k - p.length) }
  if y.synced then takeUnits (y.unit.length / 4 + 1) y else (y, [])

/-- The frame count after the one noted (R269). -/
def nextCfc (c : Nat) : Nat := (c + 1) % 128

/-- First position at which the bytes hold a hit, at most `n` positions on. -/
def findHit : Nat → List SByte → Nat → Option (Nat × Caw)
  | 0, _, _ => none
  | n + 1, l, p =>
    if l.length < 4 then none
    else match seeCaw l with
      | .hit c => some (p, c)
      | .lost | .miss => findHit n (l.drop 1) (p + 1)

/-- One move of the alignment machine over the bytes it holds; none when it needs more bytes (R272). An expected CAW that is a hit with
another frame count than expected, for which the table has no row, is a miss (DESIGN CHOICE, unsafe; notes/assumptions/188.md). -/
def alignStep (x : LeafRx) : Option (LeafRx × List RxOut) :=
  match x.align with
  | .unknown => if x.buf = [] then none else some ({ x with buf := [] }, [.unaligned x.buf.length])
  | .search =>
    match findHit x.buf.length x.buf 0 with
    | some (p, c) => some ({ x with buf := x.buf.drop p, align := .confirm1, cfc := c.cfc, skip := 0 },
        (if p = 0 then [] else [.unaligned p]) ++ [.caw c.ais])
    | none =>
      let n := x.buf.length - 3
      if n = 0 then none else some ({ x with buf := x.buf.drop n }, [.unaligned n])
  | .confirm1 =>
    confirm x (fun _ => ({ x with align := .confirm2, skip := x.skip + 1 }, []))
  | .confirm2 =>
    let n := (x.skip + 1) * cfrBytes
    confirm x (fun c => (useCaw c { x with align := .aligned, buf := x.buf.drop n, cfc := nextCfc c.cfc, miss := 0
                                           hist := [], unit := [], synced := false, lead := none }, [.unaligned n]))
  | .aligned =>
    if 0 < x.skip then
      if x.buf = [] then none
      else
        let n := min x.skip x.buf.length
        let p := x.buf.take n
        let y := { x with buf := x.buf.drop n, skip := x.skip - n, hist := if x.miss = 0 then [] else x.hist ++ p }
        some (usePayload p y)
    else if x.buf.length < 4 then none
    else match seeCaw x.buf with
      | .lost => some ({ x with cfc := nextCfc x.cfc, buf := x.buf.drop 4, skip := cfrPayload
                                hist := if x.miss = 0 then [] else x.hist ++ x.buf.take 4 }, [])
      | .hit c =>
        if c.cfc = x.cfc then some (useCaw c { x with miss := 0, hist := [], cfc := nextCfc x.cfc }, [.caw c.ais])
        else missCaw x
      | .miss => missCaw x
where
  /-- The next CAW position after a hit at the head of the bytes, `skip` positions having passed: a hit with the frame count expected there
  goes on with `next`, a position in lost bytes is neither a hit nor a miss, and anything else resumes the search one byte on. -/
  confirm (x : LeafRx) (next : Caw → LeafRx × List RxOut) : Option (LeafRx × List RxOut) :=
    let k := x.skip + 1
    if x.buf.length < k * cfrBytes + 4 then none
    else match seeCaw (x.buf.drop (k * cfrBytes)) with
      | .lost => some ({ x with skip := k }, [])
      | .hit c =>
        if c.cfc = (x.cfc + k) % 128 then some ((next c).1, (next c).2 ++ [.caw c.ais]) else some (resume x)
      | .miss => some (resume x)
  /-- The search resumes one byte after the hit. -/
  resume (x : LeafRx) : LeafRx × List RxOut := ({ x with align := .search, buf := x.buf.drop 1, skip := 0 }, [.unaligned 1])
  /-- An expected CAW is missed: its payload is used by position, and the third miss in a row loses alignment. Every miss is counted, the
  third too (DESIGN CHOICE, unsafe; notes/assumptions/242.md). -/
  missCaw (x : LeafRx) : Option (LeafRx × List RxOut) :=
    if 2 ≤ x.miss then
      some ({ dropUnit x with align := .search, buf := (x.hist ++ x.buf).drop 1, miss := 0, hist := [], skip := 0 },
        [.missed, .alignLost x.cfc] ++ lostCut x)
    else some ({ x with miss := x.miss + 1, cfc := nextCfc x.cfc, buf := x.buf.drop 4, skip := cfrPayload
                        hist := x.hist ++ x.buf.take 4 }, [.missed])

/-- Run the alignment machine until it needs more bytes. -/
def alignRun : Nat → LeafRx → LeafRx × List RxOut
  | 0, x => (x, [])
  | fuel + 1, x =>
    match alignStep x with
    | none => (x, [])
    | some (y, o) => let z := alignRun fuel y; (z.1, o ++ z.2)

/-- The CAW that CPTR names in a burst's payload, when CPTR is valid and the CAW a hit (R271, R272). -/
def cptrCaw (g : Seg) : Option Caw :=
  if 1027 < g.cptr then none
  else match seeCaw (g.bytes.drop g.cptr) with
    | .hit c => some c
    | .lost | .miss => none

/-- Bytes of a released burst join the stream (R263, R272). -/
def joinBurst (g : Seg) (x : LeafRx) : LeafRx × List RxOut :=
  if g.ranging then (x, [])
  else
    match x.align, cptrCaw g with
    | .unknown, some c =>
      (useCaw c { x with align := .aligned, buf := g.bytes.drop g.cptr, skip := 0, cfc := nextCfc c.cfc, miss := 0
                         hist := [], unit := [], synced := false, lead := none },
        (if g.cptr = 0 then [] else [.unaligned g.cptr]) ++ [.caw c.ais])
    | .unknown, none => ({ x with align := .search, buf := g.bytes }, [])
    | .aligned, some c =>
      if (x.skip + cfrBytes - x.buf.length % cfrBytes) % cfrBytes = g.cptr then ({ x with buf := x.buf ++ g.bytes }, [])
      else
        (useCaw c { dropUnit x with buf := g.bytes.drop g.cptr, skip := 0, cfc := nextCfc c.cfc, miss := 0, hist := [] },
          [.realigned, .caw c.ais] ++ lostCut x)
    | .aligned, none | .search, _ | .confirm1, _ | .confirm2, _ => ({ x with buf := x.buf ++ g.bytes }, [])

/-- A loss of unknown length: alignment is UNKNOWN and the unit in progress is discarded; bytes held outside ALIGNED are counted
(R266, R272). -/
def unknownLoss (x : LeafRx) : LeafRx × List RxOut :=
  let held : List RxOut := if x.align = .aligned || x.buf = [] then [] else [.unaligned x.buf.length]
  ({ dropUnit x with align := .unknown, buf := [], skip := 0, miss := 0, hist := [] }, held ++ unitCut x)

/-- Further bytes of a released burst join the stream (R180, R263). -/
def joinMore (g : Seg) (x : LeafRx) : LeafRx × List RxOut :=
  (if g.ranging then x else { x with buf := x.buf ++ g.bytes }, [])

/-! ## The reassembly buffer (R34, R463) -/

/-- 2.4 Tb/s over a window of 1 µs, in bytes (R34). -/
def meterBytes : Nat := 300000

/-- Bytes of SRAM that a leaf's reassembly buffer has before it needs DRAM: the maker divides the US_REASM region of the engine,
and the manual gives no number (notes/assumptions/155.md). -/
def reasmShare (s : State) (e : Eng) : Nat :=
  (Config.factory (720000 + ((List.range 64).filter (fun b =>
    bankUse (bankWord s b) = 3 && bankOwner (bankWord s b) = e.rxd.id)).length)).toNat

/-- Bytes that a leaf's reassembly holds in SRAM: bursts out of order but for what of them lies in DRAM, and the stream not yet consumed (R34,
R263, R264). -/
def reasmBytes (x : LeafRx) : Nat :=
  ((x.held ++ x.wait).map (fun g => g.bytes.length - g.dram)).sum + x.buf.length + x.unit.length

/-- Bytes of a burst that waits for an earlier one are kept in the leaf's buffer: those within its share in SRAM, and those beyond it in
DRAM, whose number is given back, under the meter that both directions share; bytes for which there is no allowance are lost with known length (R34, R266;
notes/assumptions/155.md), and the unit they belong to counts in its flow context (`noteRefused`). -/
def keepBytes (e : Eng) (l : LeafId) (b : List SByte) (s : State) : (List SByte × Nat) × State :=
  let room := reasmShare s e - reasmBytes (getRx s e l.val)
  let far := min (b.length - room) (meterBytes - s.flow.dramUsed)
  let near := min b.length room
  ((b.take (near + far) ++ List.replicate (b.length - (near + far)) (.lost .meter), far),
   when (0 < far) (farWritten 10) { s with flow := { s.flow with dramUsed := s.flow.dramUsed + far } })

/-! ## Effects on the block -/

/-- An upstream unit is delivered to decryption, or is foreign (R267); the standby engine's units are discarded (R268), and so is
one that contains a POISON word of US_REASM (R471). -/
def deliverUnit (e : Eng) (l : LeafId) (u : List Byte) (s : State) : State :=
  let w := beAt u 0 4
  let c := getCtr s e (unitCid w)
  let p := unitPoison 3 rdPort0 (regionBanks s e.rxd.id 3) (unitWords u.length) s
  if p.1 then count 23 3 4 1 p.2
  else if ! countsTree s e then p.2
  else if ! (c.w0.getLsbD 31 && c.w0.getLsbD 28 && fld c.w0 27 16 = l.val) then countLeaf 9 e l.val 2 1 p.2
  else
    let t := countCtr 7 e (unitCid w) 4 u.length (countCtr 7 e (unitCid w) 3 1 p.2)
    { t with sec := { t.sec with usIn := t.sec.usIn ++
      [{ eng := e, leaf := l, header := BitVec.ofNat 96 (beAt u 0 12), body := slice u 12 (unitLen w)
         tag := if unitClear w then [] else slice u (12 + unitLen w) 16 }] } }

/-- A unit of a container that the meter refused in part counts in the flow context of the container (R34); the body of the unit, which
could tell a flow by its tag, cannot be read (notes/assumptions/155.md). -/
def noteRefused (e : Eng) (c : Nat) (s : State) : State :=
  let h := findFlow 8 (usKey (treeOf s e) c) s
  match h.1 with
  | some f => modFlow f (fun x => { x with dropDram := satAdd x.dropDram 1 }) h.2
  | none => h.2

/-- An event of a leaf's stream with its flag (R292, R295): the flag is set with the count of its name, which the engine that serves the
tree makes, and with the event. -/
def rxEvent (e : Eng) (l : LeafId) (code bit : Nat) (data : BitVec 80) (s : State) : State :=
  let once := oncePerTurn code (leafObjId e l.val) (turnKey s e)
  if countsTree s e then once (raise e.rxd code (leafObjId e l.val) data) (setFlag .frmFlags e bit s)
  else once (raiseF e.rxd code (leafObjId e l.val) data .frmFlags e bit) s

/-- What one report of reassembly does to the block (R272, R275, R279). -/
def applyOut (e : Eng) (l : LeafId) (o : RxOut) (s : State) : State :=
  match o with
  | .caw ais => modDefs e l.val (fun x => { x with defs := { x.defs with ais := x.defs.ais.observe 3 3 ais (! ais) } }) s
  | .missed => countLeaf 9 e l.val 8 1 s
  | .alignLost c => rxEvent e l 0x0703 5 (packData [(8, c)]) (countLeaf 9 e l.val 9 1 s)
  | .realigned => countLeaf 9 e l.val 10 1 s
  | .unaligned n => countLeaf 9 e l.val 11 n s
  | .unitLost _ (.poison r) => count 23 r 4 1 s
  | .unitLost (some c) why => when (why = .meter && countsTree s e) (noteRefused e c) (countCtr 7 e c 5 1 s)
  | .unitLost none _ => countLeaf 9 e l.val 0 1 s
  | .malformed => when (countsTree s e) (setFlag .frmFlags e 7) (countLeaf 9 e l.val 1 1 s)
  | .unit u => deliverUnit e l u s

/-- Apply a change of a leaf's stream and what it reports. -/
def streamDo (e : Eng) (l : LeafId) (f : LeafRx → LeafRx × List RxOut) (s : State) : State :=
  let p := f (getRx s e l.val)
  forAll p.2 (applyOut e l) (modRx e l.val (fun _ => p.1) s)

/-- Fuel that outlasts the alignment machine on a stream: each move consumes a byte or a frame, or passes a CAW position. -/
def alignFuel (x : LeafRx) : Nat := (x.buf.length + x.hist.length) * (x.buf.length / cfrBytes + 4) + 8

/-- Bytes join the stream, and the alignment machine takes them. -/
def streamBytes (e : Eng) (l : LeafId) (f : LeafRx → LeafRx × List RxOut) (s : State) : State :=
  streamDo e l (fun x => alignRun (alignFuel x) x) (streamDo e l f s)

/-- Bytes of a burst that lie in one word of memory are lost: which ones these are is open (R471; notes/assumptions/5.md). -/
def poisonBytes (r k : Nat) (l : List SByte) : List SByte :=
  let n := k % (l.length + 1)
  l.take n ++ ((l.drop n).take 64).map (fun b => if b.isLost then b else .lost (.poison r)) ++ l.drop (n + 64)

/-- The bytes of a burst that lie in DRAM are read: those of a word that reads as POISON are lost, be it in DRAM or in US_REASM when DMEM's
transfer read it there through port 1 (R34, R461, R471; notes/assumptions/248.md). -/
def fromDram (e : Eng) (g : Seg) (s : State) : Seg × State :=
  let spill := unitPoison 3 rdPort1 (regionBanks s e.rxd.id 3) (unitWords g.dram) s
  let far := unitPoisonFar 10 (unitWords g.dram) spill.2
  if spill.1 || far.1 then
    let k := draw Config.freeNat far.2
    ({ g with bytes := poisonBytes (if spill.1 then 3 else 10) k.1 g.bytes }, k.2)
  else (g, far.2)

/-- Release a burst to the stream and advance NEXT_SSN past it (R264); blocks of it that are still to come follow (R180). -/
def releaseSeg (e : Eng) (l : LeafId) (g : Seg) (s : State) : State :=
  let h := fromDram e g s
  modRx e l.val (fun x => { x with next := some ((g.ssn + 1) % 65536), cur := if g.done then none else some g.ssn })
    (streamBytes e l (joinBurst h.1) h.2)

/-- A burst leaves those that are held. -/
def unhold (e : Eng) (l : LeafId) (ssn : Nat) (s : State) : State :=
  modRx e l.val (fun y => { y with held := y.held.filter (fun h => h.ssn ≠ ssn) }) s

/-- SSN distance from the next expected one (R264). -/
def ssnAhead (next ssn : Nat) : Nat := (ssn + 65536 - next % 65536) % 65536

/-- Every missing SSN from the next expected one up to `ssn` is lost with unknown length; held bursts on the way are released
in order (R264, R265), and the loss waits for the blocks of one that has more to come (notes/assumptions/163.md). -/
def loseUpTo (e : Eng) (l : LeafId) (ssn : Nat) : Nat → State → State
  | 0, s => s
  | fuel + 1, s =>
    let x := getRx s e l.val
    match x.next with
    | none => s
    | some n =>
      if n = ssn || x.cur.isSome then s
      else
        match x.held.find? (fun g => g.ssn = n) with
        | some g => loseUpTo e l ssn fuel (releaseSeg e l g (unhold e l n s))
        | none =>
          -- the next held SSN below `ssn`, or `ssn` itself, ends this run of missing ones
          let stop := (x.held.map (fun g => ssnAhead n g.ssn)).foldl min (ssnAhead n ssn)
          let t := streamDo e l unknownLoss (countLeaf 9 e l.val 5 stop s)
          loseUpTo e l ssn fuel (modRx e l.val (fun y => { y with next := some ((n + stop) % 65536) }) t)

/-- Steps that a loss can take: runs of missing SSNs and the bursts held between them, at most 64. -/
def lossFuel : Nat := 160

/-- A burst is kept until those before it have joined: in the order of last blocks, those with more to come last. -/
def holdSeg (e : Eng) (l : LeafId) (g : Seg) (s : State) : State :=
  modRx e l.val (fun y =>
    let rest := y.held.filter (fun h => h.ssn ≠ g.ssn)
    { y with held := if g.done then rest.filter (fun h => h.done) ++ [g] ++ rest.filter (fun h => ! h.done) else rest ++ [g] }) s

/-- A burst waits to be judged, behind those that wait; one whose jump has begun stands before them. -/
def waitSeg (e : Eng) (l : LeafId) (g : Seg) (s : State) : State := modRx e l.val (fun y => { y with wait := y.wait ++ [g] }) s
def waitFirst (e : Eng) (l : LeafId) (g : Seg) (s : State) : State := modRx e l.val (fun y => { y with wait := g :: y.wait }) s

/-- A burst whose bytes are still to be kept is kept. -/
def keepSeg (e : Eng) (l : LeafId) (keep : LeafId → Seg → State → State) (g : Seg) (s : State) : State :=
  let k := keepBytes e l g.bytes s
  keep l { g with bytes := k.1.1, dram := k.1.2 } k.2

/-- SSN_JUMP: the gap of a jump from `n` to a burst has been lost, and the burst is released (R264). -/
def landJump (e : Eng) (l : LeafId) (n : Nat) (g : Seg) (s : State) : State :=
  releaseSeg e l g (rxEvent e l 0x0704 6 (packData [(16, n), (16, g.ssn)]) (countLeaf 9 e l.val 7 1 s))

/-- Every SSN below `ssn` is lost; where a released burst with more blocks to come stops that, the rest of it waits (R264; `progress`). `before`
is NEXT_SSN before a jump. -/
def beginLoss (e : Eng) (l : LeafId) (ssn : Nat) (before : Option Nat) (s : State) : State :=
  let t := loseUpTo e l ssn lossFuel s
  when (getRx t e l.val).cur.isSome (modRx e l.val (fun y => { y with lose := some (ssn, before) })) t

/-- A burst is judged by its SSN while no released burst has more blocks to come (R264); `keep` keeps one that is to be held or must wait. -/
def judgeSeg (e : Eng) (l : LeafId) (keep : (LeafId → Seg → State → State) → Seg → State → State) (g : Seg) (s : State) : State :=
  match (getRx s e l.val).next with
  | none => releaseSeg e l g s
  | some n =>
    let d := ssnAhead n g.ssn
    if d = 0 then releaseSeg e l g s
    else if d ≤ 64 then keep (holdSeg e) g s
    else if d ≤ 32767 then
      let t := beginLoss e l g.ssn (some n) s
      if (getRx t e l.val).cur.isSome then keep (waitFirst e) g t else landJump e l n g t
    else countLeaf 9 e l.val 6 1 s

/-- A loss that waited goes on, and a jump whose gap is lost lands (R264). -/
def resumeLoss (e : Eng) (l : LeafId) (ssn : Nat) (before : Option Nat) (s : State) : State :=
  let t := beginLoss e l ssn before (modRx e l.val (fun y => { y with lose := none }) s)
  let x := getRx t e l.val
  if x.cur.isSome then t
  else
    match before, x.wait.find? (fun g => g.ssn = ssn) with
    | some n, some g => landJump e l n g (modRx e l.val (fun y => { y with wait := y.wait.filter (fun h => h.ssn ≠ ssn) }) t)
    | _, _ => t

/-- While no released burst has more blocks to come, a loss that waited for one goes on, held bursts that follow in sequence are released,
and then bursts that waited are judged (R264). -/
def progress (e : Eng) (l : LeafId) : Nat → State → State
  | 0, s => s
  | fuel + 1, s =>
    let x := getRx s e l.val
    if x.cur.isSome then s
    else
      match x.lose with
      | some p => progress e l fuel (resumeLoss e l p.1 p.2 s)
      | none => match x.held.find? (fun g => some g.ssn = x.next) with
        | some g => progress e l fuel (releaseSeg e l g (unhold e l g.ssn s))
        | none => match x.wait with
          | [] => s
          | g :: rest => progress e l fuel (judgeSeg e l (fun f => f l) g (modRx e l.val (fun y => { y with wait := rest }) s))

/-- Bursts that a leaf's reassembly can go through at once: those held, at most 64, and as many that wait. -/
def progressFuel : Nat := 160

/-- A further block of a burst that reassembly keeps. -/
def growSeg (b : List SByte × Nat) (done : Bool) (g : Seg) : Seg := { g with bytes := g.bytes ++ b.1, dram := g.dram + b.2, done := done }

/-- A decoded block enters reassembly (R180, R264), which US_REASM holds: the first of a burst is judged by its SSN, once no released burst has more blocks to
come; a later one follows its burst into the stream or to where that is kept, and is discarded with a burst that was. -/
def enterBlock (e : Eng) (l : LeafId) (first : Bool) (g : Seg) (s : State) : State :=
  let s := bufWritten 3 (regionBanks s e.rxd.id 3) s
  let x := getRx s e l.val
  if first then
    if x.cur.isSome then keepSeg e l (waitSeg e) g s
    else progress e l progressFuel (judgeSeg e l (keepSeg e l) g s)
  else if x.cur = some g.ssn then
    progress e l progressFuel (modRx e l.val (fun y => { y with cur := if g.done then none else y.cur }) (streamBytes e l (joinMore g) s))
  else
    match x.held.find? (fun h => h.ssn = g.ssn && ! h.done) with
    | some h =>
      let k := keepBytes e l g.bytes s
      holdSeg e l (growSeg k.1 g.done h) k.2
    | none =>
      if x.wait.any (fun h => h.ssn = g.ssn && ! h.done) then
        let k := keepBytes e l g.bytes s
        modRx e l.val (fun y => { y with wait := y.wait.map (fun h => if h.ssn = g.ssn && ! h.done then growSeg k.1 g.done h else h) }) k.2
      else s

/-- SSN_HOLD_TIMEOUT (R265): the burst held longest behind its last block has waited 18 µs; every missing SSN below it is lost, and it
and what follows in sequence are released. -/
def execSsnHoldTimeout (e : Eng) (l : LeafId) (s : State) : Out :=
  act (inService s && (getRx s e l.val).cur = none && ((getRx s e l.val).held.find? (fun g => g.done)).isSome) (fun s =>
    match (getRx s e l.val).held.find? (fun g => g.done) with
    | none => s
    | some g => progress e l progressFuel (beginLoss e l g.ssn none s)) s

end Sys2Proof.Machine
end

