-- ==== Sys2Proof/Machine/Receive.lean ====
section
/-! DEFINITION. What a burst receiver does with the symbols of its subcarrier: detection, the fast gain loop, the frequency
estimate, the equalizer, the sync word, the header, carrier phase and the decoder (R173 to R180, R225, R227). -/

namespace Sys2Proof.Machine

/-! ## The symbols held (R169) -/

/-- Symbol `p` of those that a receiver holds. -/
def BrxSt.sym (x : BrxSt) (p : Int) : RxSym := if p < x.s0 then {} else x.strm.getD (p - x.s0).toNat {}

/-- `n` symbols from `p` on. -/
def BrxSt.syms (x : BrxSt) (p : Int) (n : Nat) : List RxSym := (List.range n).map (fun (i : Nat) => x.sym (p + i))

/-- The symbols from `p` to `q` have all been received and are still held. -/
def BrxSt.holds (x : BrxSt) (p q : Int) : Bool := decide (x.s0 ≤ p) && decide (q < topSym x)

/-- The first `n` symbols from `p` on that satisfy a property: the first position at which it holds. -/
def firstFrom (p : Int) (n : Nat) (f : Int → Bool) : Option Int :=
  ((List.range n).find? (fun (i : Nat) => f (p + i))).map (fun i => p + i)

/-! ## Detection and gain (R173, R174, R187) -/

/-- The fast gain loop's time constant in symbols (R174). -/
def agcSymbols : Nat := 4

/-- The loop is clamped to the preset gain ± BRX_AGC.RANGE (R174). -/
def agcClamp (g : Gate) (x : Int) : Int :=
  let r : Int := 100 * fld g.agcW 3 0
  max (g.pre.gain - r) (min (g.pre.gain + r) x)

/-- One symbol of the loop under a gate's presets: the overload guard keeps the peak 2 dB below the gain stage's full scale as far as the clamp
allows (R174, R223; which of the two wins is a DESIGN CHOICE, unsafe, notes/assumptions/219.md). -/
def agcOne (g : Gate) (a : Int) (y : RxSym) : Int := agcClamp g (min (Config.agcStep agcSymbols a y.env y.peak) (-200 - y.peak))

/-- The loop of an ARMED receiver: the gain, and the gate whose presets it took last. -/
structure Loop where
  gain : Int
  gate : Option Gate
  deriving DecidableEq, Repr

/-- The loop reads symbol `p`: a gate that opens there loads its presets, and the loop runs on the symbol (R171, R174). -/
def loopStep (x : BrxSt) (a : Loop) (p : Int) : Loop :=
  let a : Loop := match (x.gates.filter (fun g => g.lo = p)).getLast? with
    | some g => { gain := g.pre.gain, gate := some g }
    | none => a
  match a.gate with
  | some g => { a with gain := agcOne g a.gain (x.sym p) }
  | none => a

/-- The loop of a receiver that has been ARMED since its read position, before symbol `p` (R174). -/
def loopTo (x : BrxSt) (p : Int) : Loop :=
  (List.range (p - x.pos).toNat).foldl (fun (a : Loop) (i : Nat) => loopStep x a (x.pos + i)) { gain := x.gain, gate := x.loaded }

/-- Every envelope is at least `lo`. -/
def allAtLeast (lo : Int) (l : List RxSym) : Bool := l.all (fun y => decide (lo ≤ y.env))

/-- A symbol is above threshold (R173). -/
def aboveTh (x : BrxSt) (cfg : W32) (y : RxSym) : Bool := decide (x.noise + 100 * fld cfg 27 24 < y.env)

/-- Symbols for which a detection, and for which a rise, is held (R173, R187). -/
def detectSyms : Nat := 16
def riseSyms : Nat := 32

/-- A detection at `d` is one on a capture's replay (R187). -/
def replays (x : BrxSt) (d : Int) : Bool :=
  match x.replay with
  | some c => decide (c.1 ≤ d - 15) && decide (d < c.1 + 64)
  | none => false

/-- Gates that are open. -/
def openGates (x : BrxSt) : List Gate := x.gates.filter (fun g => ! g.closed)

/-- The newest open gate that holds a symbol (R170). -/
def gateOf (x : BrxSt) (p : Int) : Option Gate := ((openGates x).filter (fun g => decide (g.lo ≤ p) && decide (p < g.hi))).getLast?

/-- Symbol `p` lies in an open gate, in one that has closed since the receiver was last ARMED, or in the replay of a capture (R170, R187). -/
def hearsAt (x : BrxSt) (p : Int) : Bool :=
  (gateOf x p).isSome || decide (p < x.openTo) || x.replay.any (fun c => decide (c.1 ≤ p) && decide (p < c.1 + 64))

/-- The gate in which a detection at `d` falls: the newest open one there; for 64 symbols from a rise onset the replay needs no open gate
(R170, R173, R187). -/
def gateAt (x : BrxSt) (d : Int) : Option Gate :=
  match gateOf x d with
  | some g => some g
  | none => match x.replay with
    | some c => if replays x d then x.gates.find? (fun g => g.w = c.2) else none
    | none => none

/-- Detection is declared at symbol `d`: 16 symbols end there above threshold, each inside an open gate (R173). -/
def detects (x : BrxSt) (d : Int) : Bool :=
  match gateAt x d with
  | none => false
  | some g => x.holds (d - 15) d && (List.range detectSyms).all (fun (i : Nat) => hearsAt x (d - 15 + i)) && (x.syms (d - 15) detectSyms).all (aboveTh x g.cfgW)

/-- The first symbol at which detection is declared from the read position on (R173, R185). -/
def detectAt (x : BrxSt) : Option Int :=
  let p := max x.pos x.s0 + 15
  firstFrom p (topSym x - p).toNat (detects x)

/-- A rise of at least `db` in 0.01 dB over the level at which the gain froze begins at `c` (R187). -/
def risesAt (x : BrxSt) (db c : Int) : Bool := x.holds c (c + 31) && allAtLeast (x.level + db) (x.syms c riseSyms)

/-- BRX_CFG.CAP_TH of the reception, 0.01 dB. -/
def capTh (x : BrxSt) : Int := 100 * fld x.cfgW 19 16

/-- `c0` is the onset of a rise that has not been noted: 32 symbols from it on are at least 3 dB above the level at which the gain froze,
and the symbol before it is not (R187). -/
def riseOnset (x : BrxSt) (c0 : Int) : Bool :=
  decide (x.d < c0) && risesAt x 300 c0 && (decide (c0 = x.d + 1) || decide ((x.sym (c0 - 1)).env < x.level + 300))
    && x.rises.all (fun c => decide (c.1 ≠ c0))

/-- The rise with onset `c0` captures: its height is the envelope at the last of its 32 symbols, where the envelope's own 4 symbols all lie
in the rise (R187; DESIGN CHOICE, unsafe, notes/assumptions/217.md). -/
def captures (x : BrxSt) (c0 : Int) : Bool := decide (x.level + capTh x ≤ (x.sym (c0 + 31)).env)

/-- A rise at or before symbol `q` of the reception has not been taken yet (R187, R188). -/
def risePending (x : BrxSt) (q : Int) : Bool := (firstFrom (x.d + 1) (q - x.d).toNat (riseOnset x)).isSome

/-- The first symbol from the read position on at which 16 symbols have been below threshold (R185). The threshold is that of the reception that
ended, also where a gate was noted meanwhile (R186 leaves it open; DESIGN CHOICE, unsafe, notes/assumptions/236.md). -/
def fallAt (x : BrxSt) : Option Int :=
  firstFrom (x.pos + 15) (topSym x - (x.pos + 15)).toNat (fun p => (x.syms (p - 15) detectSyms).all (fun y => ! aboveTh x x.cfgW y))

/-! ## Gain and frequency of a reception (R174, R175) -/

/-- The window of the reception uses the short preamble: only a data window's SHORT says so (R306). -/
def shortWindow (w : Window) : Bool := w.kind = .granted && w.short
def shortNow (x : BrxSt) : Bool := (x.win.map shortWindow).getD false

/-- The frequency window: its first symbol, its symbols and its last one (R175). -/
def freqFrom (x : BrxSt) : Int := x.d + (if shortNow x then 17 else 49)
def freqSyms (x : BrxSt) : Nat := if shortNow x then 64 else 128
def freqEnd (x : BrxSt) : Int := x.d + (if shortNow x then 80 else 176)

/-- Phase in 2^−32 turn that an offset in kHz gathers in `m` samples at 18 GS/s. -/
def turnsOf (khz m : Int) : Int := rdiv (khz * m * 2 ^ 32) 18000000

/-- Both polarizations of a sample under an operation. -/
def onBoth (f : Cpx → Cpx) (z : DpCpx) : DpCpx := (f z.1, f z.2)

/-- Half-symbol sample `m` of a reception behind the gain stage and the frequency correction: the preset offset turns it back from
detection on, and what the estimate added from the end of the frequency window on (R174, R175). -/
def stage (x : BrxSt) (m : Int) : DpCpx :=
  let y := x.sym (m / 2)
  let ph := turnsOf x.snapFofs (m - 2 * x.d) + (if freqEnd x < m / 2 then turnsOf (x.fofs - x.snapFofs) (m - 2 * (freqEnd x + 1)) else 0)
  let g := gainRatio 100 x.gain
  onBoth (fun z => rotateFine ph (g * z.1 / 16384, g * z.2 / 16384)) (if m % 2 = 0 then y.a else y.b)

/-- Sum of x(m + 16) × conj x(m) over both polarizations. -/
def lag16 (l : List DpCpx) : Int × Int :=
  (l.zip (l.drop 16)).foldl (fun a p =>
    let f := fun (u v : Cpx) (b : Int × Int) => (b.1 + v.1 * u.1 + v.2 * u.2, b.2 + v.2 * u.1 - v.1 * u.2)
    f p.1.1 p.2.1 (f p.1.2 p.2.2 a)) (0, 0)

/-- The frequency that a lag-16 autocorrelation of symbols shows, kHz. -/
def lagFrequency (z : Int × Int) : Int := rdiv (angleOf z.1 z.2 * 9000000) (16 * 2 ^ 32)

/-- The frequency estimate of a reception's window (R175). -/
def freqEstimate (x : BrxSt) : Int :=
  lagFrequency (lag16 ((List.range (freqSyms x)).map (fun (i : Nat) => stage { x with fofs := x.snapFofs } (2 * (freqFrom x + i)))))

/-! ## Constellations at the receiver (R119 to R122) -/

/-- The points of a format on one polarization, in units of 2^−14. -/
def points (fmt : Nat) : List Cpx :=
  let m := bitsPerSymbol fmt / 2
  (List.range (2 ^ m)).map (fun v =>
    let p := constPoint fmt (bitsOf m v)
    (levelAmp (constScaleSq fmt) p.1, levelAmp (constScaleSq fmt) p.2))

/-- Square of the distance of two points. -/
def apart (a b : Cpx) : Nat := (a.1 - b.1).natAbs ^ 2 + (a.2 - b.2).natAbs ^ 2

/-- The point of a format nearest to a sample, and the square of its distance (R227). -/
def nearest (fmt : Nat) (z : Cpx) : Cpx :=
  match points fmt with
  | [] => (0, 0)
  | p :: l => l.foldl (fun a b => if apart b z < apart a z then b else a) p
def distance (fmt : Nat) (z : Cpx) : Nat := apart (nearest fmt z) z

/-- Levels XI, XQ, YI, YQ of a symbol's bits, and the symbol in units of 2^−14. -/
def levelsOf (fmt : Nat) (e : List Bool) : DpCpx := dpSymbol fmt e
def ampsOf (fmt : Nat) (e : List Bool) : DpCpx :=
  let p := dpSymbol fmt e
  let f := levelAmp (constScaleSq fmt)
  ((f p.1.1, f p.1.2), (f p.2.1, f p.2.2))

/-! ## Equalizer (R176, R225) -/

/-- Parts of a tap, and a tap from its parts held at the limits of their range (R225). -/
def tapOf (w : W32) : Cpx := (asSigned 16 (fld w 31 16), asSigned 16 (fld w 15 0))
def tapWord (z : Cpx) : W32 :=
  let h := fun (x : Int) => toBits 16 (max (-32768) (min 32767 x))
  wordOf [(16, h z.1), (0, h z.2)]

/-- The sample that tap `t` of a path takes at symbol `i`: tap 7 takes the symbol's own (R225; notes/assumptions/187.md). -/
def eqIn (x : BrxSt) (i : Int) (t : Nat) : DpCpx := stage x (2 * i - 7 + t)

/-- Tap `t` of path `p` (R226), and the output of the equalizer at symbol `i`. -/
def eqTap (taps : List W32) (p t : Nat) : Cpx := tapOf (taps.getD (15 * p + t) 0)
def eqOut (x : BrxSt) (taps : List W32) (i : Int) : DpCpx :=
  let path := fun (p : Nat) => (List.range 15).foldl (fun a t =>
    let u := cmul (eqTap taps p t) (eqIn x i t).1
    let v := cmul (eqTap taps (p + 1) t) (eqIn x i t).2
    (a.1 + u.1 + v.1, a.2 + u.2 + v.2)) ((0, 0) : Cpx)
  (path 0, path 2)

/-- One least-mean-square update of every tap with a step of 2^−k toward the wanted symbol `i` (R225). -/
def lmsStep (x : BrxSt) (k : Nat) (taps : List W32) (i : Int) (want : DpCpx) : List W32 :=
  let o := eqOut x taps i
  let err := fun (p : Nat) => if p = 0 then (want.1.1 - o.1.1, want.1.2 - o.1.2) else (want.2.1 - o.2.1, want.2.2 - o.2.2)
  (List.range 60).map (fun j =>
    let z := eqIn x i (j % 15)
    let g := cmul (err (j / 30)) (conj (if j / 15 % 2 = 0 then z.1 else z.2))
    let c := tapOf (taps.getD j 0)
    tapWord (c.1 + g.1 / 2 ^ k, c.2 + g.2 / 2 ^ k))

/-- Steps of data-aided adaptation on the preamble, and of decision-directed adaptation from the header on (R225). -/
def dataAided : Nat := 6
def decisionDirected : Nat := 9

/-- The last preamble symbol of a burst detected at its true start, and the preamble symbol sent at `i` (R157, R176). -/
def preambleEnd (x : BrxSt) : Int := x.d + (if shortNow x then 112 else 240)
def preambleAt (x : BrxSt) (i : Int) : DpCpx := ampsOf 0 (preambleSymbol ((i - x.d + 15) % 16).toNat)

/-- The taps after symbol `i` of the preamble; after the preamble they stay until the sync word has matched. -/
def trainStep (x : BrxSt) (taps : List W32) (i : Int) : List W32 :=
  if i ≤ preambleEnd x then lmsStep x dataAided taps i (preambleAt x i) else taps

/-- Decision-directed symbols from `i` on under a carrier phase: the taps after them, and the equalizer's outputs. -/
def ddRun (x : BrxSt) (fmt : Nat) (ph : Int) : Nat → Int → List W32 → List W32 × List DpCpx
  | 0, _, taps => (taps, [])
  | n + 1, i, taps =>
    let o := eqOut x taps i
    let want := onBoth (fun z => rotate (-ph) (nearest fmt (rotate ph z))) o
    let r := ddRun x fmt ph n (i + 1) (lmsStep x decisionDirected taps i want)
    (r.1, o :: r.2)

/-! ## The sync word (R158, R177) -/

/-- The 128 bits that 64 symbols spell, each decided from the X and the Y estimate (R158). -/
def syncSeen (l : List DpCpx) : BitVec 128 :=
  BitVec.ofNat 128 (ofBits (l.flatMap (fun z => [decide (z.1.1 - z.2.2 < 0), decide (z.1.2 + z.2.1 < 0)])))

/-- A sync match: its last symbol, the taps after it and the 64 symbols compared. -/
structure SyncAt where
  k : Int
  taps : List W32
  syms : List DpCpx
  deriving DecidableEq, Repr

/-- The comparisons at `n` symbols from `i` on, with the taps and the 63 outputs before them: the first with few enough errors (R177). -/
def syncRun (x : BrxSt) : Nat → Int → List W32 → List DpCpx → Option SyncAt
  | 0, _, _, _ => none
  | n + 1, i, taps, before =>
    let l := before ++ [eqOut x taps i]
    let taps := trainStep x taps i
    if syncErrs (syncSeen l) ≤ fld x.cfgW 4 0 then some ⟨i, taps, l⟩ else syncRun x n (i + 1) taps (l.drop 1)

/-- A reception with its frequency estimate in force from the end of the window on (R175). -/
def tuned (x : BrxSt) : BrxSt := { x with fofs := x.snapFofs + freqEstimate x }

/-- Symbols for which the receiver looks for the sync word (R177). -/
def syncReach : Nat := 320

/-- The sync match of a reception among the symbols received (R177): the equalizer reads 4 symbols beyond. -/
def syncFind (x : BrxSt) : Option SyncAt :=
  let y := tuned x
  syncRun y (min syncReach (topSym x - 4 - x.d).toNat) (x.d + 1) x.eq ((List.range 63).map (fun (i : Nat) => eqOut y x.eq (x.d - 62 + i)))

/-- The mean power of the 64 sync symbols, 0.01 dBm at the receive input (R178, R224). -/
def syncPower (x : BrxSt) (k : Int) : Int :=
  inputReading (((x.syms (k - 63) 64).map symInput).sum / 64 : Nat)

/-! ## Carrier phase (R179, R227) -/

/-- The phase of received symbols against the known ones, in 1/256 turn. -/
def pilotPhase (l sent : List DpCpx) : Int :=
  let z := (l.zip sent).foldl (fun a p =>
    let f := fun (u v : Cpx) (b : Int × Int) => (b.1 + u.1 * v.1 + u.2 * v.2, b.2 + u.2 * v.1 - u.1 * v.2)
    f p.1.1 p.2.1 (f p.1.2 p.2.2 a)) ((0, 0) : Int × Int)
  rdiv (angleOf z.1 z.2) (2 ^ 24)

/-- Symbols on each side of the one being decided in the averaging window of 31. -/
def bpsHalf : Nat := 15

/-- Decision distance of a symbol turned back by test phase `p` of 64 over a quarter turn. -/
def phaseCost (fmt p : Nat) (z : DpCpx) : Nat := distance fmt (rotate p z.1) + distance fmt (rotate p z.2)

/-- The test phase with the least distance over a window. -/
def bestPhase (fmt : Nat) (win : List DpCpx) : Nat :=
  let cost := fun (p : Nat) => (win.map (phaseCost fmt p)).sum
  (List.range 64).foldl (fun a p => if cost p < cost a then p else a) 0

/-- A phase within a quarter turn, unwrapped against the previous one by whole quarter turns. -/
def unwrap (prev : Int) (p : Nat) : Int := p + 64 * ((prev - p + 32) / 64)

/-- The phases of `n` symbols, of which the first stands behind `i` others in `l`, from the phase before them (R227). -/
def trackPhase (fmt : Nat) (l : List DpCpx) : Nat → Nat → Int → List Int
  | 0, _, _ => []
  | n + 1, i, prev =>
    let q := unwrap prev (bestPhase fmt ((l.drop (i - bpsHalf)).take (min i bpsHalf + 1 + bpsHalf)))
    q :: trackPhase fmt l n (i + 1) q

/-- Symbols turned back by their phases. -/
def derotate (l : List DpCpx) (ps : List Int) : List DpCpx := (l.zip ps).map (fun p => onBoth (rotate p.2) p.1)

/-- The known symbols of the sync word, and those of the header copies (R158, R161). -/
def syncLevels : List DpCpx := (List.range 64).map (fun k => levelsOf 0 (syncSymbol k))
def headerLevels (h : BitVec 128) : List DpCpx := (groupsFrom 4 64 (headerCopies h)).map (levelsOf 0)

/-! ## The header (R161, R176, R179) -/

/-- The header that 64 symbols turned back to their phase spell: each bit from the difference of its two copies (R161). -/
def headerSeen (l : List DpCpx) : BitVec 128 :=
  let v := l.flatMap (fun z => [z.1.1, z.1.2, z.2.1, z.2.2])
  BitVec.ofNat 128 (ofBits ((List.range 128).map (fun i => decide (v.getD i 0 - v.getD (128 + i) 0 < 0))))

/-- What a header gives: its bits, the carrier phase after it, the taps, the equalizer's outputs, and the SNR over it, 0.01 dB. -/
structure HeaderRead where
  hdr : BitVec 128
  phase : Int
  taps : List W32
  outs : List DpCpx
  snr : Nat
  deriving DecidableEq, Repr

/-- Power of symbols, and of what they differ by from others. -/
def powerOf (l : List DpCpx) : Nat := (l.map (fun z => apart z.1 (0, 0) + apart z.2 (0, 0))).sum
def errorOf (l m : List DpCpx) : Nat := ((l.zip m).map (fun p => apart p.1.1 p.2.1 + apart p.1.2 p.2.2)).sum

/-- Read the header of a reception whose sync word matched. -/
def readHeader (x : BrxSt) : HeaderRead :=
  let pilots := x.tail
  let ph := pilotPhase pilots syncLevels
  let r := ddRun x 0 ph 64 (x.k + 1) x.eq
  let h := headerSeen (r.2.map (onBoth (rotate ph)))
  let ph2 := pilotPhase (pilots ++ r.2) (syncLevels ++ headerLevels h)
  let sent := (groupsFrom 4 64 (headerCopies h)).map (ampsOf 0)
  { hdr := h, phase := ph2, taps := r.1, outs := r.2
    snr := (max 0 (min 65535 (powerDb 100 (powerOf sent) (errorOf (r.2.map (onBoth (rotate ph2))) sent)))).toNat }

/-! ## The decoder (R165, R180) -/

/-- The soft values of a block as its array, from the soft values of its symbols (R165). -/
def softBlock (fmt : Nat) (l : List DpCpx) : List (List Int) :=
  let v := l.map (Config.softBits fmt)
  let n := blockSyms fmt
  (List.range 128).map (fun r => (List.range 128).map (fun c =>
    let j := 128 * c + r
    (v.getD (j % n) []).getD (j / n) 0))

/-- Hard decisions. -/
def hardBlock (a : List (List Int)) : List (List Bool) := a.map (fun r => r.map (fun v => decide (v < 0)))

/-- Rows become columns. -/
def flipBlock (a : List (List Int)) : List (List Int) := (List.range 128).map (fun c => a.map (fun r => r.getD c 0))

/-- One iteration: all rows, then all columns. -/
def decodeOnce (a : List (List Int)) : List (List Int) := flipBlock ((flipBlock (a.map Config.softRow)).map Config.softColumn)

/-- Iterations of the decoder (R180): the array at the end of the iteration after which every row and column is a codeword, if
there is one. -/
def decodeBlock : Nat → List (List Int) → Option (List (List Bool))
  | 0, _ => none
  | n + 1, a =>
    let b := decodeOnce a
    if usBlockOk (hardBlock b) then some (hardBlock b) else decodeBlock n b

/-- Iterations of R180. -/
def decodeIters : Nat := 4

/-- The 13,560 information bits of an array as 1,695 bytes (R164, R166). -/
def blockInfo (a : List (List Bool)) : List Byte :=
  (groupsFrom 8 blockBytes ((a.take 113).flatMap (fun r => r.take 120))).map (fun b => BitVec.ofNat 8 (ofBits b))

/-- Bits in which two arrays differ. -/
def bitsApart (a b : List (List Bool)) : Nat := ((a.flatten.zip b.flatten).filter (fun p => p.1 ≠ p.2)).length

/-- What decoding a block gives: whether it is good, the bits corrected, its scrambled bytes, and the carrier phase, the taps and the last
outputs after it. -/
structure Decoded where
  good : Bool
  corrected : Nat
  data : List Byte
  phase : Int
  taps : List W32
  tail : List DpCpx
  deriving DecidableEq, Repr

/-- The first and the last symbol of block `b` of a reception, and the last of all. -/
def blockFrom (x : BrxSt) (b : Nat) : Int := x.k + 65 + b * blockSyms (hdrFmt x.hdr)
def blockEnd (x : BrxSt) (b : Nat) : Int := x.k + 64 + (b + 1) * blockSyms (hdrFmt x.hdr)
def burstLast (x : BrxSt) : Int := x.k + 64 + hdrBlocks x.hdr * blockSyms (hdrFmt x.hdr)

/-- Payload symbols after block `b` that its averaging window reads. -/
def bpsAfter (x : BrxSt) (b : Nat) : Nat := min bpsHalf (burstLast x - blockEnd x b).toNat

/-- Decode the next block of a reception (R179, R180, R225, R227; at a burst's ends the window of 31 is cut to its payload symbols, which the rule
leaves open: DESIGN CHOICE, unsafe, notes/assumptions/211.md): its symbols pass the equalizer, which adapts on decisions at the phase of
the pilot field before; the phase is tracked over windows that run into the blocks before and behind; a decoded block, re-modulated, is
a pilot field for the blocks that follow. -/
def decodeNext (x : BrxSt) : Decoded :=
  let fmt := hdrFmt x.hdr
  let n := blockSyms fmt
  let r := ddRun x fmt x.phase n (blockFrom x x.blk) x.eq
  let behind := (ddRun x fmt x.phase (bpsAfter x x.blk) (blockEnd x x.blk + 1) r.1).2
  let ps := trackPhase fmt (x.tail ++ r.2 ++ behind) n x.tail.length x.phase
  let a := softBlock fmt (derotate r.2 ps)
  let tail := r.2.drop (n - bpsHalf)
  match decodeBlock decodeIters a with
  | some b =>
    let sent := (List.range n).map (fun k => levelsOf fmt (blockSymbol b (bitsPerSymbol fmt) n k))
    ⟨true, bitsApart (hardBlock a) b, blockInfo b, pilotPhase r.2 sent, r.1, tail⟩
  | none => ⟨false, 0, [], ps.getLastD x.phase, r.1, tail⟩

/-! ## Arrival (R203, R229, R230) -/

/-- The TOD time of an ADC sample, numbered since the engine's start, in 1/65,536 ns, from its word's count and its place in the word
(R203). -/
def sampleTime (x : WordTie) (n : Int) : Int := 65536 * (x.tod : Int) + (n - 256 * x.count) * 65536 / 384

/-- The arrival symbol of a burst whose sync word ended at `k` on subcarrier `n`, in 1/64 symbol (R230, R231), and its arrival time, in
1/65,536 ns (R229). -/
def arrivalSymbol (s : State) (e : Eng) (n : Nat) (k : Int) : Int := 64 * (k - 63) + halfFrac s e n
def arrivalTime (s : State) (e : Eng) (n : Nat) (k : Int) : Nat :=
  arrival s e n (sampleTime (getEng s e).words (adcOfOut (2 * (k - 63) - half0 s e n)))

/-- Landing error of a burst in 1/64 symbol (R317): its arrival symbol less the one expected, which follows the first guard symbol
by 32 symbols and the preamble. In a ranging window that symbol stands the window's margin after its start (R318). -/
def landingError (q : Report) : Int :=
  q.arr - 64 * (q.w.gs + q.margin + 32 + (if q.r.short then 128 else 256))

end Sys2Proof.Machine
end

