-- ==== Sys2Proof/Machine/Brx.lean ====
section
/-! DEFINITION. The burst receivers: gates, detection, sync, header, blocks, capture and doubles (R169 to R197), with the
leaf defects and the turn statistics that follow from them (R274, R275, R282). -/

namespace Sys2Proof.Machine

/-! ## Windows and gates (R170 to R172) -/

/-- The windows a map opens on a subcarrier, with those that went idle marked. A ranging window's `short` is its wide margin. -/
def mapWindows (sc : Nat) (m : MapSt) : List (Window × Bool) :=
  (m.grants.filter (fun g => g.sc.val = sc)).map (fun g =>
    (⟨if g.ranging then .ranging else .granted, grantGs m.tn g, grantGe m.tn g, g.leaf, g.fmt, g.short, false⟩,
      decide (g ∈ m.idle)))
  ++ (m.squares.filter (fun q => q.sc.val = sc)).map (fun q =>
    (⟨.square, turnSyms * m.tn + q.start, turnSyms * m.tn + q.start + 16 * q.len16, q.leaf, 0, false, q.dedicated⟩, false))

/-- A gate's window is one a committed map of the serving engine opens on the subcarrier; the answer says whether it is idle. -/
def windowOf (s : State) (e : Eng) (sc : Nat) (w : Window) : Option Bool :=
  ((((getEng s (treeEng s e)).maps.filter (fun m => m.committed)).flatMap (mapWindows sc)).find?
    (fun p => p.1 = w)).map (fun p => p.2)

/-- The margin of a ranging window under the map that opens it (R318). -/
def marginOf (s : State) (e : Eng) (w : Window) : Nat :=
  match w.kind, (getEng s (treeEng s e)).maps.find? (fun m => m.committed && decide (m.tn = turnNo w)) with
  | .ranging, some m => if w.short then m.basis.wide else m.basis.margin
  | _, _ => 0

/-- Between a switch and its common offset the new engine's gates use the predicted offset (R286). -/
def switchSettles (s : State) (e : Eng) : Bool := s.boot.paired && s.aps.st = 3 && s.aps.work = some e

/-- The symbols a gate is open for (R170); between a switch and its common offset they are shifted by the predicted offset
and widened by 128 (R286). -/
def gateBounds (s : State) (e : Eng) (w : Window) : Int × Int :=
  let settling := switchSettles s e
  let shift := windowShift s e
  let widen : Int := if settling then 128 else 0
  let edge : Int := if w.kind = .square then 0 else 32
  ((w.gs : Int) - edge + shift - widen, (w.ge : Int) + edge + shift + widen)

/-- Code of a gate's case in events (R197). -/
def caseCode : GateKind → Nat
  | .granted => 0 | .square => 1 | .ranging => 2

/-- The leaf a window is granted to: every granted and ranging window, and a dedicated square (R170, R312). -/
def windowLeaf (w : Window) : Option Nat :=
  match w.kind with
  | .granted | .ranging => some w.leaf.val
  | .square => if w.dedicated then some w.leaf.val else none

/-- The centre-spike preset: tap 7 of xx and of yy at 1.0 (R225). -/
def centreSpike : List W32 := (List.range 60).map (fun i => if i = 7 || i = 52 then 0x40000000 else 0)

/-- Index of a subcarrier's receive preset among the coefficients of an RXC island (R241). -/
def rxPreset (n : Nat) : Nat := 774 + n

/-- Nominal gain of a subcarrier: the receive preset in force, or the factory's (R171, R235, R240), 0.01 dB. -/
def nominalGain (s : State) (e : Eng) (n : Nat) : Int := coefNow s e true (rxPreset n)

/-- The presets of a gate (R171). -/
def presetsFor (s : State) (e : Eng) (n : Nat) (w : Window) : Presets :=
  match (if w.kind = .square then none else validSeed s e w.leaf.val) with
  | some x => { seeded := true, gain := x.power, fofs := x.fofs, taps := x.taps }
  | none => { gain := nominalGain s e n, taps := centreSpike }

/-- Symbols that have arrived since the last event. -/
def newSyms (x : BrxSt) : Nat := (topSym x - 1 - (x.pos + x.lag)).toNat

/-- The read position and the lag now: since the last event the receiver has read 2 symbols per symbol period while it lagged (R169). -/
def posNow (x : BrxSt) : Int := min (x.pos + 2 * newSyms x) (x.pos + newSyms x + x.lag)
def lagNow (x : BrxSt) : Nat := x.lag - newSyms x

/-- The gate at the read position is open (R185, R195). -/
def gateNow (x : BrxSt) : Bool := (gateOf x (posNow x)).isSome

/-- Detection is still allowed on a capture's replay, whatever the gate (R187). -/
def replayOpen (x : BrxSt) : Bool :=
  match x.replay with
  | some c => decide (x.pos + 15 < c.1 + 64)
  | none => false

/-- Load a gate's presets, with the settings that it took when it opened (R171, R196). -/
def loadPresets (g : Gate) (x : BrxSt) : BrxSt :=
  { x with loaded := some g, falseRun := 0, gain := g.pre.gain, fofs := g.pre.fofs, cfgW := g.cfgW }

/-- The receiver looks for bursts again: it enters ARMED under the gate at the read position, whose presets it loads when they are
not loaded yet, and whose frequency it takes again; with no gate there it is ARMED for the rest of a replay, or CLOSED (R171, R175, R185
to R187). -/
def rearm (x : BrxSt) : BrxSt :=
  let x := if replayOpen x then x else { x with replay := none }
  match gateOf x x.pos with
  | none => { x with st := if x.replay.isSome then .armed else .closed, win := none }
  | some g =>
    let y := { x with st := .armed, win := none, fofs := g.pre.fofs }
    if x.loaded.map (fun g => g.w) = some g.w then y else loadPresets g y

/-- A reception is in progress (R186). -/
def receiving (x : BrxSt) : Bool :=
  match x.st with
  | .spec | .header | .payload => true
  | .closed | .armed | .waitFall => false

/-- Change the gate of a window. -/
def modGate (w : Window) (f : Gate → Gate) (x : BrxSt) : BrxSt :=
  { x with gates := x.gates.map (fun g => if g.w = w then f g else g) }

/-- Change the gate of the reception in progress. -/
def modWin (f : Gate → Gate) (x : BrxSt) : BrxSt :=
  match x.win with
  | some w => modGate w f x
  | none => x

/-- The gate of the reception in progress. -/
def curGate (x : BrxSt) : Option Gate := x.gates.find? (fun g => some g.w = x.win)

/-- Lag after reading on from one position to another at 2 symbols per symbol period (R169). -/
def catchUp (x : BrxSt) (p : Int) : BrxSt := { x with lag := x.lag - (p - x.pos).toNat / 2, pos := p }

/-- The largest lag (R169). -/
def maxLag : Nat := 640

/-- Move the read position back to a symbol (R169), and take the gain and the frequency of the snapshot again (R185). -/
def rewind (x : BrxSt) (p : Int) : BrxSt :=
  { x with lag := min maxLag (x.lag + (x.pos - p).toNat), pos := p, gain := x.snapGain, fofs := x.snapFofs }

/-! ## Counts, flags and events of a receiver (R194 to R197) -/

/-- Object ID of a receiver's event. -/
def brxObj (e : Eng) (n : Nat) : Nat := 256 * e.num + n

/-- Count on the subcarrier, and on a leaf when one is named. -/
def countSc (e : Eng) (n i k : Nat) (s : State) : State := count 3 (32 * e.num + n) i k s
def countScLeaf (e : Eng) (n i : Nat) (l : Option Nat) (j k : Nat) (s : State) : State :=
  match l with
  | some l => countLeaf 4 e l j k (countSc e n i k s)
  | none => countSc e n i k s

/-- Raise a receiver event, at most once per subcarrier per turn. -/
def brxEvent (e : Eng) (n code : Nat) (data : BitVec 80) (s : State) : State :=
  oncePerTurn code (brxObj e n) (turnKey s e) (raise e.rxd code (brxObj e n) data) s

/-- BRX_SEED_MISS (R182): the leaf's seed is invalidated; the cause is 0 for no sync match, 1 for a failed block 0. A miss counts
and is reported also when the seed was invalid already (DESIGN CHOICE, unsafe; notes/assumptions/161.md). -/
def seedMiss (e : Eng) (n l cause : Nat) (s : State) : State :=
  let t := modLeaf e l (fun x => { x with seed := none }) s
  brxEvent e n 0x0504 (packData [(16, l), (8, cause)]) (setFlag .brxFlags e 3 (countScLeaf e n 14 (some l) 9 1 t))

/-! ## Expected bursts (R274, R275) -/

/-- A change of what the turn whose map grants a window showed the engine (R274, R326). -/
def modTurn (e : Eng) (w : Window) (f : TurnStat → TurnStat) (s : State) : State :=
  modEng e (fun x => { x with turns := tset {} x.turns (turnNo w) (f (tget {} x.turns (turnNo w))) }) s

/-- A window of a leaf is judged once its gate has closed and nothing in it is being received: the leaf's LOS and LOF, its
counts, the seed of a short-preamble window that showed no sync match, and a ranging window that the scheduler hears was missed (R182, R275,
R279, R311). -/
def judge (e : Eng) (n : Nat) (g : Gate) (s : State) : State :=
  match g.w.kind with
  | .square => s
  | .granted | .ranging =>
    let l := g.w.leaf.val
    if g.idle || ! registered (getLeaf s e l) then s
    else
      let s := modTurn e g.w (fun x => { x with expected := true }) s
      let s := countLeaf 9 e l 3 1 s
      let s := countLeaf 9 e l 4 (b01 (! (g.header && g.goodBlk))) s
      let s := if shortWindow g.w && ! g.synced then seedMiss e n l 0 s else s
      let s := if g.w.kind = .ranging && ! g.header && countsTree s e then
          modEng e (fun x => { x with missed := x.missed ++ [(l, g.w.short)] }) s else s
      modDefs e l (fun x => { x with
        defs := { x.defs with los := x.defs.los.observe 8 2 (! g.detected) g.synced
                              lof := x.defs.lof.observe 8 2 (! (g.header && g.goodBlk)) (g.header && g.goodBlk) }
        losCause := if x.defs.los.on then x.losCause else 0 }) s

/-- A window in which something is being received, or may be on a replay. -/
def windowBusy (x : BrxSt) (w : Window) : Bool :=
  (receiving x && x.win = some w) || x.replay.any (fun c => c.2 = w)

/-- Judge and drop the closed gates in which nothing is being received. -/
def settle (e : Eng) (n : Nat) (s : State) : State :=
  let x := getBrx s e n
  let done := x.gates.filter (fun g => g.closed && ! windowBusy x g.w)
  forAll done (judge e n) (setBrx e n { x with gates := x.gates.filter (fun g => ! (g ∈ done)) } s)

/-! ## Doubles (R187 to R190) -/

/-- A doubles is charged: to the later leaf when one is named, else to the subcarrier only. In a granted or ranging window the
later leaf is re-ranged. The standby raises no event and re-ranges nobody (R172). An earlier leaf that is not named reads 0xFFFF in
the event, as the table says of the later one (DESIGN CHOICE, unsafe; notes/assumptions/162.md). -/
def doubles (e : Eng) (n : Nat) (earlier later : Option Nat) (runOn : Bool) (kind : GateKind) (s : State) : State :=
  let t := setFlag .brxFlags e 1 (countScLeaf e n 9 later 6 1 s)
  if ! countsTree s e then t
  else
    let t := brxEvent e n 0x0502
      (packData [(16, earlier.getD 0xFFFF), (16, later.getD 0xFFFF), (8, b01 runOn), (8, caseCode kind)]) t
    match later with
    | some l => if kind = .square then t else startRerange e l 1 t
    | none => t

/-- The leaf granted the window that contains a rise onset, and that leaf when it differs from the earlier one (R189). -/
def windowLeafAt (x : BrxSt) (c0 : Int) : Option Nat :=
  match x.gates.find? (fun g => decide (g.w.gs + g.shift ≤ c0) && decide (c0 < g.w.ge + g.shift)) with
  | none => none
  | some g => windowLeaf g.w
def windowLater (x : BrxSt) (c0 : Int) (earlier : Option Nat) : Option Nat :=
  match windowLeafAt x c0 with
  | some l => if earlier = some l then none else some l
  | none => none

/-- The later leaf of a capture is settled: by the captured burst's header when it was decoded, else by the window (R189). -/
def resolveCap (e : Eng) (n : Nat) (named : Option Nat) (s : State) : State :=
  let x := getBrx s e n
  match x.cap with
  | none => s
  | some c =>
    let later := match named with
      | some l => some l
      | none => c.granted
    doubles e n c.earlier later false c.kind (setBrx e n { x with cap := none } s)

/-- A capture is settled without its burst's header when nothing is being received and the symbols in which that burst could begin have been
read (R187, R189). -/
def lapseCap (e : Eng) (n : Nat) (s : State) : State :=
  let x := getBrx s e n
  match x.cap with
  | none => s
  | some c => if receiving x || decide (posNow x ≤ c.till) then s else resolveCap e n none s

/-! ## Burst records (R191, R192) -/

def outGood : Nat := 0
def outPartial : Nat := 1
def outCollided : Nat := 2
def outHdrBad : Nat := 3
def outMalformed : Nat := 4

/-- Write the burst record: it is the subcarrier's latest, and it goes to the scheduler: a standby engine's without its
payload, and not at all when it is a discovery burst's (R15). -/
def writeBurst (e : Eng) (n : Nat) (r : BurstRec) (s : State) : State :=
  let x := getBrx s e n
  match x.win with
  | none => setBrx e n { x with last := r } s
  | some w =>
    let rep : Report :=
      { r := r, w := w, qreport := hdrQreport x.hdr, payload := if countsTree s e then x.bytes else [], arr := x.arr
        margin := ((curGate x).map (fun g => g.margin)).getD 0 }
    let s := setBrx e n { x with last := r } s
    if r.kind = 1 && ! countsTree s e then s else modEng e (fun y => { y with reports := y.reports ++ [rep] }) s

/-! ## The commands -/

/-- The gate that opens for a window of a map (R170, R171, R186). Its presets come from the leaf's seed as it stands when the gate opens, also for a
gate noted during a reception (R171 and R186 leave it open; DESIGN CHOICE, unsafe, notes/assumptions/235.md). -/
def gateFor (s : State) (e : Eng) (n : Nat) (w : Window) : Gate :=
  let b := gateBounds s e w
  { w := w, lo := b.1, hi := b.2, shift := windowShift s e, idle := (windowOf s e n w).getD false, margin := marginOf s e w
    pre := presetsFor s e n w, cfgW := getReg s .brxCfg e 0, agcW := getReg s .brxAgc e 0 }

/-- The receiver's gate of a window is noted and open. -/
def noted (x : BrxSt) (w : Window) : Bool := x.gates.any (fun g => g.w = w && ! g.closed)

/-- BRX_GATE_OPEN (R170, R171, R173, R186): a gate of a window that a map opens. CLOSED becomes ARMED; a receiver that is busy notes the gate,
one that is ARMED loads its presets at the gate's first symbol, and one in WAIT_FALL loads them at once. A receiver that has become CLOSED behind a noted gate is ARMED when it
reads on to that gate. The noise floor is the RMS detector's reading from before the gate. -/
def execBrxGateOpen (e : Eng) (sc : Sc) (w : Window) (ws : List RxWord) : State → Out :=
  heard e ws (fun s =>
    let x := getBrx s e sc.val
    act (rxUp s e && (windowOf s e sc.val w).isSome && (! x.gates.any (fun g => g.w = w) || (x.st = .closed && noted x w))) (fun s =>
      let s := lapseCap e sc.val s
      let x := getBrx s e sc.val
      let g := gateFor s e sc.val w
      let y := if noted x w then x
        else { x with gates := x.gates ++ [g], noise := if openGates x = [] then inputReading (rmsMean x.rms) else x.noise }
      match x.st with
      | .closed => setBrx e sc.val (rearm (if y.pos < g.lo then catchUp y g.lo else y)) s
      | .armed => setBrx e sc.val (if y.pos ≤ g.lo then { y with falseRun := 0 } else loadPresets g y) s
      | .waitFall => setBrx e sc.val (loadPresets g y) s
      | .spec | .header | .payload => setBrx e sc.val y s) s)

/-- BRX_GATE_CLOSE (R170, R185, R187): the oldest open gate closes; a reception that began in it goes on, and otherwise the expected burst
is judged. A receiver that is ARMED stays so under another open gate at its read position, and a run of symbols goes on (R173, R174). A
receiver that is ARMED on a replay only stays so for its symbols, and with no gate open this command ends them. -/
def execBrxGateClose (e : Eng) (sc : Sc) (s : State) : Out :=
  let x := getBrx s e sc.val
  act (rxUp s e && (openGates x ≠ [] || (x.st = .armed && x.replay.isSome))) (fun s =>
    match openGates x with
    | [] => settle e sc.val (modBrx e sc.val (fun x => rearm { x with replay := none }) (resolveCap e sc.val none s))
    | g :: _ =>
      let s := lapseCap e sc.val s
      let y := modGate g.w (fun g => { g with closed := true }) (getBrx s e sc.val)
      let y := { y with openTo := max y.openTo g.hi }
      settle e sc.val (setBrx e sc.val (if x.st = .armed && ! gateNow y then rearm (catchUp y (posNow y)) else y) s)) s

/-- BURST_DETECTED (R173 to R176): the gain freezes, the snapshot of the 16 symbols before is kept, the equalizer starts from its
preset, and the sync search starts. -/
def execBurstDetected (e : Eng) (sc : Sc) (ws : List RxWord) : State → Out :=
  heard e ws (fun s =>
    let x := getBrx s e sc.val
    act (rxUp s e && x.st = .armed && (detectAt x).isSome) (fun s =>
      let d := (detectAt x).getD 0
      match gateAt x d with
      | none => s
      | some g =>
        let s := if x.cap.any (fun c => decide (c.till < d)) then resolveCap e sc.val none s else s
        let x := getBrx s e sc.val
        let x := if (loopTo x (d + 1)).gate.map (fun g => g.w) = some g.w then x else loadPresets g x
        let y := catchUp (modGate g.w (fun g => { g with detected := true }) x) d
        setBrx e sc.val { y with
          st := .spec, d := d, win := some g.w, cfgW := g.cfgW
          loaded := some g, falseRun := if x.pos < g.lo then 0 else x.falseRun
          snapGain := (loopTo x (d - 15)).gain, snapFofs := g.pre.fofs, fofs := g.pre.fofs, gain := (loopTo x (d + 1)).gain
          level := (x.sym d).env, eq := g.pre.taps
          cur := {}, bytes := [], blk := 0, blks := [], tail := [], anyGood := false, rises := [], charged := [] } s) s)

/-- SYNC_MATCH (R175 to R178, R203, R225, R229, R230): the reception commits; the frequency is the preset's, and the estimate's where its
window ended before the match, and it is frozen; power and arrival time are latched. -/
def execSyncMatch (e : Eng) (sc : Sc) (ws : List RxWord) : State → Out :=
  heard e ws (fun s =>
    let x := getBrx s e sc.val
    act (rxUp s e && x.st = .spec && (syncFind x).isSome) (fun s =>
      match syncFind x, x.win with
      | some m, some w =>
        let t := arrivalTime s e sc.val m.k
        let ns := t / 65536
        let fofs := if freqEnd x < m.k then (tuned x).fofs else x.snapFofs
        let pre := ((curGate x).map (fun g => g.pre)).getD {}
        let r : BurstRec := { sc := sc.val, eng := e.num, falseRun := x.falseRun, power := syncPower x m.k, fofs := fofs
                              short := shortNow x, seeded := pre.seeded
                              syncErrs := syncErrs (syncSeen m.syms), arrSec := ns / 1000000000 % 2 ^ 32, arrNs := ns % 1000000000
                              arrFrac := t % 65536 }
        let y := modWin (fun g => { g with synced := true }) (catchUp x m.k)
        modTurn e w (fun z => { z with sync := true })
          (setBrx e sc.val { y with st := .header, k := m.k, falseRun := 0, cur := r, fofs := fofs, eq := m.taps, tail := m.syms
                                    replay := none, arr := arrivalSymbol s e sc.val m.k } s)
      | _, _ => s) s)

/-- SYNC_DEADLINE_MISS (R185): the candidate is abandoned. The first two in a row rewind to d + 16; the third closes the receiver
until the next gate opens (R182, R189): a next gate that is open already, and was noted (R186), arms it at once, which the rule does not
settle (DESIGN CHOICE, unsafe; notes/assumptions/189.md). -/
def execSyncDeadlineMiss (e : Eng) (sc : Sc) (ws : List RxWord) : State → Out :=
  heard e ws (fun s =>
    let x := getBrx s e sc.val
    act (rxUp s e && x.st = .spec && decide (x.d + syncReach + 4 < topSym x) && syncFind x = none) (fun s =>
      let x := catchUp x (x.d + syncReach)
      if x.falseRun < 2 then
        let y := rewind { x with falseRun := x.falseRun + 1 } (x.d + 16)
        let back := fun (g : Gate) => decide (g.lo ≤ x.d + 16) && decide (x.d + 16 < g.hi)
        let y := modWin (fun g => { g with closed := g.closed && ! back g }) y
        let y := { y with cap := y.cap.map (fun c => { c with till := max c.till (x.d + 80) }) }
        settle e sc.val (setBrx e sc.val (rearm y) (countSc e sc.val 5 1 s))
      else
        let s := countSc e sc.val 5 1 (resolveCap e sc.val none s)
        let w := ((curGate x).map (fun g => g.w.kind)).getD .granted
        let y := modWin (fun g => { g with closed := true }) { x with falseRun := 3, cap := none, replay := none }
        let s := setFlag .brxFlags e 0 (countSc e sc.val 6 1 (setBrx e sc.val (rearm y) s))
        settle e sc.val (brxEvent e sc.val 0x0501 (packData [(16, fnOf s e), (8, caseCode w)]) s)) s)

/-- The kinds allowed in a window (R312): data 0, discovery 1, ranging 2. -/
def kindAllowed (w : Window) (h : BitVec 128) : Bool :=
  match w.kind with
  | .granted => hdrKind h = 0
  | .ranging => hdrKind h = 2
  | .square => if w.dedicated then hdrKind h = 2 && hdrLeaf h = w.leaf.val else hdrKind h = 1

/-- The last payload symbol of the burst whose sync word ended at `k`. -/
def lastSymbol (k : Int) (h : BitVec 128) : Int := k + 64 + hdrBlocks h * blockSyms (hdrFmt h)

/-- The checks of R183 after the CRC, in order: true when every one passes. Between a switch and its common offset the end of the gate that
limits the granted leaf's burst is the widened one, which R183 and R286 leave open (DESIGN CHOICE, unsafe; notes/assumptions/210.md). -/
def headerOk (s : State) (e : Eng) (x : BrxSt) (g : Gate) (h : BitVec 128) : Bool :=
  let fmt := if g.w.kind = .granted then g.w.fmt.val else 0
  kindAllowed g.w h && (hdrFmt h ≠ 3 && hdrFmt h = fmt) && hdrBlocks h ≠ 0
    && (hdrKind h = 1 || registered (getLeaf s e (hdrLeaf h)))
    && (if hdrKind h ≠ 1 && windowLeaf g.w = some (hdrLeaf h) then decide (lastSymbol x.k h ≤ g.hi + (if g.w.kind = .square then 32 else 0))
        else decide (lastSymbol x.k h - (x.k + 64) ≤ 1044480))

/-- A good header updates what the module knows of its leaf, and ends a row of ranging windows without one (R275, R282, R311, R320, R325,
R338). -/
def noteHeader (e : Eng) (g : Gate) (h : BitVec 128) (s : State) : State :=
  let l := hdrLeaf h
  let s := modTurn e g.w (fun x => { x with good := true }) s
  if hdrKind h = 1 then s
  else
    let s := if countsTree s e then
        modLeaf e l (fun x => { x with seen := s.clk.sec % 2 ^ 32, qreport := hdrQreport h, reportGs := g.w.gs
                                       after := x.after.filter (fun p => g.w.gs < p.1)
                                       missRow := if g.w.kind = .ranging then 0 else x.missRow
                                       wideMiss := if g.w.kind = .ranging then 0 else x.wideMiss }) s
      else s
    let n := regF s .apsCfg .A 0 2 0
    let req := hdrAps h / 4096
    let turn := turnOf s e
    let known := req = 15 || req = 13 || req = 11 || req = 9 || req = 7 || req = 5 || req = 1 || req = 0
    let s := modRx e l (fun x =>
      let x := { x with lastHdr := some turn }
      if ! s.boot.paired then x
      else if ! known then { x with apsRun := 0 }
      else
        let run := if x.apsRun ≠ 0 && x.apsLast = hdrAps h then min 7 (x.apsRun + 1) else 1
        { x with apsRun := run, apsLast := hdrAps h, apsAcc := if n ≤ run then hdrAps h else x.apsAcc }) s
    let ais := (getRx s e l).defs.ais.on
    let s := modTurn e g.w (fun x => { x with leafGood := true, notAis := x.notAis || ! ais, anyRdi0 := x.anyRdi0 || ! hdrRdi h }) s
    modDefs e l (fun x =>
      let rdi := x.defs.rdi.observe 2 2 (hdrRdi h) (! hdrRdi h)
      if hdrDgasp h && ! x.defs.los.on then { x with defs := { x.defs with rdi := rdi, los := { on := true } }, losCause := 1 }
      else { x with defs := { x.defs with rdi := rdi } }) s

/-- What a burst record takes from its header (R191). -/
def withHeader (h : BitVec 128) (snr : Nat) (r : BurstRec) : BurstRec :=
  { r with leaf := hdrLeaf h, kind := hdrKind h, fmt := hdrFmt h, ssn := hdrSsn h, blocks := hdrBlocks h, snr := snr }

/-- The receiver has read its header: the loops stand behind it, and a rise whose burst it names is settled (R161, R187). -/
def headerRead (e : Eng) (sc : Sc) (s : State) : State :=
  let x := getBrx s e sc.val
  let r := readHeader x
  let y := catchUp { x with hdr := r.hdr, phase := r.phase, eq := r.taps, tail := [] } (x.k + 64)
  resolveCap e sc.val (if hdrCrcOk r.hdr && hdrKind r.hdr ≠ 1 then some (hdrLeaf r.hdr) else none) (setBrx e sc.val y s)

/-- HEADER_CHECKED (R161, R179, R183, R184): both copies of the header are combined and checked. A failed header ends the burst with its
record; a good one starts the payload, with the carrier phase that the sync word and the header give as pilot fields, and SD of the leaves is
judged on what it says (R283). -/
def execHeaderChecked (e : Eng) (sc : Sc) (ws : List RxWord) : State → Out :=
  heard e ws (fun s =>
    let x := getBrx s e sc.val
    act (rxUp s e && x.st = .header && (curGate x).isSome && decide (x.k + 68 < topSym x)) (fun s =>
      match curGate x with
      | none => s
      | some g =>
        let r := readHeader x
        let hdr := r.hdr
        let crc := hdrCrcOk hdr
        let s := headerRead e sc s
        let y := getBrx s e sc.val
        if crc && headerOk s e y g hdr then
          let wrong := hdrKind hdr = 0 && hdrLeaf hdr ≠ g.w.leaf.val
          let cur := { withHeader hdr r.snr y.cur with wrongWindow := wrong, hdrValid := true }
          let mine := windowLeaf g.w = some (hdrLeaf hdr)
          let y := modWin (fun g => { g with header := g.header || mine })
            { y with st := .payload, cur := cur, scr := burstSeed (hdrLeaf hdr) (hdrSsn hdr) }
          let s := apsUpdate (noteHeader e g hdr (setBrx e sc.val y s))
          if wrong then
            let s := setFlag .brxFlags e 2 (countScLeaf e sc.val 13 (some (hdrLeaf hdr)) 8 1 s)
            let s := brxEvent e sc.val 0x0503 (packData [(16, g.w.leaf.val), (16, hdrLeaf hdr)]) s
            startRerange e (hdrLeaf hdr) 2 s
          else s
        else
          let cur := { withHeader hdr r.snr y.cur with outcome := if crc then outMalformed else outHdrBad }
          let s := writeBurst e sc.val cur (setBrx e sc.val { y with st := .waitFall, cur := cur } s)
          let s := if crc then setFlag .brxFlags e 5 (countSc e sc.val 12 1 s) else setFlag .brxFlags e 4 (countSc e sc.val 11 1 s)
          settle e sc.val s) s)

/-- Blocks of a reception enter reassembly as they are decoded: `bytes` from block `b` on, the last of them the burst's last when `done`; a
discovery burst stands outside the stream (R166, R180, R263, R266). -/
def handOver (e : Eng) (x : BrxSt) (b : Nat) (done : Bool) (bytes : List SByte) (s : State) : State :=
  if hdrKind x.hdr = 1 || ! registered (getLeaf s e (hdrLeaf x.hdr)) then s
  else enterBlock e (Fin.ofNat 4096 (hdrLeaf x.hdr)) (b = 0)
    { ssn := hdrSsn x.hdr, ranging := hdrKind x.hdr = 2, cptr := hdrCptr x.hdr, bytes := bytes, done := done } s

/-- A run-on collision is charged to both leaves when a block that reaches past the rise fails: the one that the header names and the one
granted the window of the rise, when it is another; what names no leaf, as a discovery burst, is charged to the subcarrier only (R187,
R189). -/
def chargeCollision (e : Eng) (n : Nat) (x : BrxSt) (c : Int × Option Nat) (s : State) : State :=
  let mine := if hdrKind x.hdr = 1 then none else some (hdrLeaf x.hdr)
  let one := fun (l : Option Nat) (t : State) => match l with
    | some l => countLeaf 4 e l 7 1 t
    | none => t
  one (if c.2 = mine then none else c.2) (one mine (countSc e n 10 1 s))

/-- The reception is in a window of its own leaf. -/
def windowLeafIs (x : BrxSt) (l : Nat) : Bool :=
  match x.win with
  | some w => windowLeaf w = some l
  | none => false

/-- A decoded block is taken: its bytes are descrambled, or lost with known length, and handed to reassembly (R166, R167, R180, R266); run-on
rises and a short preamble are judged on it (R182, R187). -/
def takeBlock (e : Eng) (n : Nat) (q : Decoded) (s : State) : State :=
  let x := getBrx s e n
  let l := hdrLeaf x.hdr
  let p := if q.good then scrambleBytes x.scr q.data else (scrambleSkip blockBytes x.scr, [])
  let last := blockEnd x x.blk
  let bytes : List SByte := if q.good then p.2.map .got else List.replicate blockBytes (.lost .block)
  let hit := if q.good then [] else x.rises.filter (fun c => decide (c.1 ≤ last) && ! (c.1 ∈ x.charged))
  let r := { x.cur with corrected := x.cur.corrected + (if q.good then q.corrected else 0)
                        failed := x.cur.failed + b01 (! q.good) }
  let y := { catchUp x last with
    blk := x.blk + 1, blks := x.blks ++ [(q.good, q.corrected)], cur := r, scr := p.1, anyGood := x.anyGood || q.good
    charged := x.charged ++ hit.map (fun c => c.1), phase := q.phase, eq := q.taps, tail := q.tail, bytes := x.bytes ++ bytes }
  let y := if q.good && windowLeafIs y l then modWin (fun g => { g with goodBlk := true }) y else y
  let s := setBrx e n y s
  let s := match x.win with
    | some w => modTurn e w (fun z => { z with blocks := z.blocks + 1, failedBlocks := z.failedBlocks + b01 (! q.good) }) s
    | none => s
  let s := forAll hit (chargeCollision e n x) s
  let s := if x.blk = 0 && ! q.good && x.cur.short && windowLeafIs x l then seedMiss e n l 1 s else s
  handOver e x x.blk (decide (x.blk + 1 = hdrBlocks x.hdr)) bytes s

/-- BLOCK_DECODED (R167, R179, R180, R188, R225, R227): the next block is decoded once its symbols and those in which a rise within it would
show have arrived, and every rise in it has been taken. -/
def execBlockDecoded (e : Eng) (sc : Sc) (ws : List RxWord) : State → Out :=
  heard e ws (fun s =>
    let x := getBrx s e sc.val
    act (rxUp s e && x.st = .payload && x.blk < hdrBlocks x.hdr && decide (blockEnd x x.blk + 31 < topSym x)
        && ! risePending x (blockEnd x x.blk)) (takeBlock e sc.val (decodeNext x)) s)

/-- Counts of a finished burst (R192, R194). -/
def countBurst (e : Eng) (n : Nat) (r : BurstRec) (s : State) : State :=
  let l := if r.kind = 1 then none else some r.leaf
  let s := countScLeaf e n 2 l 2 (r.blocks - r.failed) s
  let s := countScLeaf e n 3 l 3 r.failed s
  countScLeaf e n 4 l 4 r.corrected s

/-- Keep the last 64 powers of good bursts of a subcarrier (R235). -/
def notePower (e : Eng) (n : Nat) (p : Int) (s : State) : State :=
  modEng e (fun x => { x with pwrs := tset [] x.pwrs n ((p :: tget [] x.pwrs n).take 64) }) s

/-- BURST_END (R181, R185, R192, R226): the record is written, and a burst whose every block was good stores its seed. -/
def execBurstEnd (e : Eng) (sc : Sc) (s : State) : Out :=
  let x := getBrx s e sc.val
  act (rxUp s e && x.st = .payload && x.blk = hdrBlocks x.hdr) (fun s =>
    let bad := x.cur.failed ≠ 0
    let r : BurstRec := { x.cur with outcome := if bad then outPartial else outGood }
    let l := if r.kind = 1 then none else some r.leaf
    let s := writeBurst e sc.val r s
    let s := countBurst e sc.val r (countScLeaf e sc.val (b01 bad) l (b01 bad) 1 s)
    let s := notePower e sc.val r.power s
    let s := if bad || r.kind = 1 then s
      else
        let seed : Seed := { taps := x.eq, fofs := r.fofs, power := r.power, sc := sc.val, time := now s }
        modLeaf e r.leaf (fun y => { y with seed := some seed }) s
    settle e sc.val (modBrx e sc.val (fun y => rearm { catchUp y (y.pos + 1) with cur := {}, bytes := [], tail := [], rises := [], charged := [] }) s)) s

/-- The earlier leaf of doubles: the header's once it has been checked, else the leaf granted the window (R189). -/
def earlierLeaf (x : BrxSt) (w : Window) : Option Nat :=
  if x.st = .payload && hdrKind x.hdr ≠ 1 then some (hdrLeaf x.hdr) else windowLeaf w

/-- Blocks of a reception that end before a symbol. -/
def wholeBlocks (x : BrxSt) (c0 : Int) : Nat := min (hdrBlocks x.hdr) ((c0 - (x.k + 65)) / blockSyms (hdrFmt x.hdr)).toNat

/-- Decode the blocks of a reception that end before a rise and have not been decoded (R188). -/
def decodeUpTo (e : Eng) (n m : Nat) : Nat → State → State
  | 0, s => s
  | fuel + 1, s => if (getBrx s e n).blk < m then decodeUpTo e n m fuel (takeBlock e n (decodeNext (getBrx s e n)) s) else s

/-- A reception is abandoned by capture: a committed one ends with its record, and of its payload the blocks before the rise are delivered
and the rest is lost with known length (R188, R192). -/
def endByCapture (e : Eng) (n : Nat) (c0 : Int) (s : State) : State :=
  let x := getBrx s e n
  if x.st = .payload then
    let s := decodeUpTo e n (wholeBlocks x c0) 256 s
    let y := getBrx s e n
    let left := hdrBlocks y.hdr - y.blk
    let s := if left = 0 then s else handOver e y y.blk true (List.replicate (left * blockBytes) (.lost .block)) s
    let ok := (y.blks.take (wholeBlocks x c0)).filter (fun b => b.1)
    let r := { y.cur with outcome := outCollided, failed := hdrBlocks y.hdr - ok.length, corrected := (ok.map (fun b => b.2)).sum }
    countBurst e n r (writeBurst e n r s)
  else if x.st = .header then writeBurst e n { x.cur with outcome := outCollided } s
  else s

/-- CAPTURE_RISE (R187, R188): 32 symbols from the onset on, at least 3 dB above the level at which the gain froze, are a rise. One of
CAP_TH or more abandons the reception and rewinds to its onset; a smaller one lets it run on. -/
def execCaptureRise (e : Eng) (sc : Sc) (c0 : Int) (ws : List RxWord) : State → Out :=
  heard e ws (fun s =>
    let x := getBrx s e sc.val
    act (rxUp s e && receiving x && (curGate x).isSome && riseOnset x c0) (fun s =>
      match curGate x with
      | none => s
      | some g =>
        let earlier := earlierLeaf x g.w
        let later := windowLater x c0 earlier
        if ! captures x c0 then
          doubles e sc.val earlier later true g.w.kind (setBrx e sc.val { x with rises := x.rises ++ [(c0, windowLeafAt x c0)] } s)
        else
          let s := countSc e sc.val 7 1 (countScLeaf e sc.val 8 earlier 5 1 (resolveCap e sc.val none s))
          let s := endByCapture e sc.val c0 s
          let y := rewind (catchUp (getBrx s e sc.val) (c0 + 31)) c0
          let y := modWin (fun g => { g with closed := g.closed && ! (decide (g.lo ≤ c0) && decide (c0 < g.hi)) }) y
          let y := { y with replay := some (c0, g.w), cap := some ⟨earlier, later, g.w.kind, c0 + 63⟩
                            cur := {}, bytes := [], tail := [], rises := [], charged := [], st := .armed, win := none }
          settle e sc.val (setBrx e sc.val y s)) s)

/-- BURST_FALL (R185): 16 symbols below threshold end WAIT_FALL. -/
def execBurstFall (e : Eng) (sc : Sc) (ws : List RxWord) : State → Out :=
  heard e ws (fun s =>
    let x := getBrx s e sc.val
    act (rxUp s e && x.st = .waitFall && (fallAt x).isSome) (fun s =>
      settle e sc.val (setBrx e sc.val (rearm (catchUp x ((fallAt x).getD 0 + 1))) s)) s)

end Sys2Proof.Machine
end

