-- ==== Sys2Proof/Machine/Dac.lean ====
section
/-! DEFINITION. The transmit DSP: the 32 subcarriers of a frame, shaped, pre-emphasised and put together, and the samples that the four
DACs of an engine take after the pre-compensation of their paths (R11 step 8, R116, R117, R144, R233; notes/assumptions/190.md). -/

namespace Sys2Proof.Machine

/-- Symbols over which the shaping of one symbol is spread, and the shaping at a time after its start in 1/192 of a DAC sample, 8,192 of them to
a symbol: a root-raised cosine of roll-off 0.04 (R117; notes/assumptions/190.md). -/
def pulseSyms : Nat := 768
def pulse (t : Int) : Int := rootRaised (t - 384 * 8192) 8192

/-- The part of full amplitude that an angle of R144 leaves, in units of 2^−60. -/
def envelopePart (a : Nat × Nat) : Int := if a.2 = 0 then fixOne else fixSin (fixPi * a.1 / (2 * a.2))

/-- The part of the amplitude that automatic power reduction leaves at symbol `k` of a frame that starts at a time, in units of 2^−14: all in
NORMAL, an open part while the power falls and then the reduced one, and in RESTORING the rise from there to all, shaped as R144
(R591, R592; notes/assumptions/250.md). -/
def AprEnv.part (x : AprEnv) (start k : Nat) : Int :=
  match x.st with
  | 0 => 16384
  | 1 => if start < x.since + x.dur then x.fall else x.low
  | _ => x.low + (16384 - x.low) * envelopePart ((Env.up x.since x.dur).angle start k) / fixOne

/-- The amplitude of symbol `k` of a frame in units of 2^−14: its levels, the pre-emphasis of the subcarrier, the envelopes of its group
and of the whole output, and the power reduction (R122, R144, R145, R233, R592). -/
def LineFrame.amp (f : LineFrame) (k : Nat) (y : Sym) : DpCpx :=
  let a := f.angles k
  let g := gainRatio 100 f.pre * f.apr.part f.start k
  let p := envelopePart a.1 * envelopePart a.2
  let h := fun (l : Int) => levelAmp y.scaleSq l * g * p / (16384 * 16384 * fixOne * fixOne)
  ((h y.xi, h y.xq), (h y.yi, h y.yq))

/-- The amplitudes of the symbols of a frame, and those of the last symbols at its end. -/
def LineFrame.amps (f : LineFrame) : List DpCpx := f.syms.zipIdx.map (fun p => f.amp p.2 p.1)
def LineFrame.ending (f : LineFrame) : List DpCpx :=
  let l := f.lead ++ f.amps
  l.drop (l.length - pulseSyms)

/-- The amplitude of symbol `k` about a frame with the amplitudes `l`: those before it are the ones it follows. -/
def ampAt (lead l : List DpCpx) (k : Int) : DpCpx :=
  if 0 ≤ k then l.getD k.toNat ((0, 0), (0, 0))
  else if k + lead.length < 0 then ((0, 0), (0, 0)) else lead.getD (k + lead.length).toNat ((0, 0), (0, 0))

/-- A subcarrier's shaped baseband at a time in 1/192 of a DAC sample, counted from the first frame: a symbol takes 8,192 of them (R117). -/
def shapedAt (first : Int) (lead l : List DpCpx) (t : Int) : DpCpx :=
  let k := t / 8192
  let z := (List.range pulseSyms).foldl (fun (a : DpCpx) (j : Nat) =>
    let y := ampAt lead l (k - j - first)
    let w := pulse (t - 8192 * (k - j))
    ((a.1.1 + w * y.1.1, a.1.2 + w * y.1.2), (a.2.1 + w * y.2.1, a.2.2 + w * y.2.2))) ((0, 0), (0, 0))
  ((z.1.1 / 16384, z.1.2 / 16384), (z.2.1 / 16384, z.2.2 / 16384))

/-- The sum of the subcarriers at that time about the channel centre: subcarrier `n` lies (n − 15.5) × 9.375 GHz off it, which at 384 GS/s
is 2n − 31 times 52,428,800 of 2^−32 turn a sample (R116). -/
def lineAt (first : Int) (l : List (Nat × List DpCpx × List DpCpx)) (t : Int) : DpCpx :=
  l.foldl (fun (a : DpCpx) p =>
    let z := shapedAt first p.2.1 p.2.2 t
    let ph := -(((2 * (p.1 : Int) - 31) * 52428800 * t) / 192)
    let x := rotateFine ph z.1
    let y := rotateFine ph z.2
    ((a.1.1 + x.1, a.1.2 + x.2), (a.2.1 + y.1, a.2.2 + y.2))) ((0, 0), (0, 0))

/-- The path of XI, XQ, YI and YQ in a sample. -/
def pathOf (a : Nat) (z : DpCpx) : Int :=
  match a with
  | 0 => z.1.1 | 1 => z.1.2 | 2 => z.2.1 | _ => z.2.2

/-- The correction of a path: its delay in steps of 1/64 sample, 40.7 fs, and its gain in 0.001 dB (R233). -/
def pathNow (s : State) (e : Eng) (a : Nat) : Int × Int :=
  (rdiv (coefNow s e false (2 * a) * 24576) 10000000, coefNow s e false (2 * a + 1))

/-- Sample `m` of the DAC of path `a`, counted from the first frame. -/
def dacSample (first : Int) (l : List (Nat × List DpCpx × List DpCpx)) (a : Nat) (c : Int × Int) (m : Int) : Int :=
  gainRatio 1000 c.2 * pathOf a (lineAt first l (3 * (64 * m - c.1))) / 16384

/-- The first DAC sample of frame `f`: a frame is 8,320 symbols of 128/3 samples. -/
def firstSample (f : Nat) : Nat := (8320 * 128 * f + 2) / 3

/-- The samples that the four DACs take in frame `f`. -/
def dacFrame (s : State) (e : Eng) (f : Nat) (line : Table LineFrame) : List (List Int) :=
  let l := line.map (fun p => (p.1, p.2.lead, p.2.amps))
  (List.range 4).map (fun a => (List.range (firstSample (f + 1) - firstSample f)).map (fun (i : Nat) =>
    dacSample (8320 * (f : Int)) l a (pathNow s e a) (firstSample f + i : Nat)))

end Sys2Proof.Machine
end

