-- ==== Sys2Proof/Machine/Keys.lean ====
section
/-! DEFINITION. The Banker: identity, registration exchanges, rekeying, group keys and the Shaker (R419, R426 to R429,
R440 to R453). -/

namespace Sys2Proof.Machine

/-! ## Bytes and identity -/

/-- The ASCII bytes of a label. -/
def label (t : String) : List Byte := t.toList.map (fun c => BitVec.ofNat 8 c.toNat)

/-- SHA-256 as 32 bytes. -/
def sha (l : List Byte) : List Byte := toBytes 32 (Config.sha256 l).toNat

/-- DRK is present: its check bits agree and it is neither all zeros nor all ones (R419). -/
def drkOk (s : State) : Bool := s.fuse.drkSum = Config.drkCode s.fuse.drk && s.fuse.drk ≠ 0 && s.fuse.drk ≠ BitVec.allOnes 256

/-- The private seed and the public key of the hub identity (R419). -/
def hubSeed (s : State) : List Byte := Config.hkdfExpand (toBytes 32 s.fuse.drk.toNat) (label "ZK hub-id") 32
def hubPub (s : State) : List Byte := Config.ed25519Pub (hubSeed s)

/-- SEC_DEV_PUB: zeros when DRK is absent (R419). -/
def devPub (s : State) : List Byte := if drkOk s then hubPub s else List.replicate 32 0

/-! ## Certificates (R445, R446) -/

def certBytes : Nat := 144
def certKind (c : List Byte) : Nat := byteAt c 1
def certSerial (c : List Byte) : List Byte := slice c 4 16
def certFrom (c : List Byte) : Nat := beAt c 20 8
def certTo (c : List Byte) : Nat := beAt c 28 8
def certIssuer (c : List Byte) : List Byte := slice c 36 8
def certPub (c : List Byte) : List Byte := slice c 44 32
def certSig (c : List Byte) : List Byte := slice c 80 64

/-- Reserved fields of a certificate are 0. -/
def certReserved (c : List Byte) : Bool := allZero (slice c 2 2) && allZero (slice c 76 4)

/-- A certificate is issued by the holder of a public key: ISSUER_ID and SIG are correct. -/
def issuedBy (c pub : List Byte) : Bool :=
  certIssuer c = (sha pub).take 8 && Config.ed25519Ok pub (c.take 80) (certSig c)

/-- A chain of one or two certificates, subject first, is valid to an anchor; `kind` is the subject's (R446). -/
def chainOk (anchor : List Byte) (kind : Nat) (cs : List (List Byte)) : Bool :=
  match cs with
  | [c] => byteAt c 0 = 1 && certKind c = kind && certReserved c && issuedBy c anchor
  | [c, i] => byteAt c 0 = 1 && byteAt i 0 = 1 && certKind c = kind && certKind i = 1 && certReserved c && certReserved i
      && issuedBy c (certPub i) && issuedBy i anchor
  | _ => false

/-- Validity times are checked when TOD is LOCKED or HOLDOVER (R446). -/
def timesChecked (s : State) : Bool := s.tod.st = 2 || s.tod.st = 3

/-- Every certificate of a chain is within its validity times. -/
def timesOk (s : State) (cs : List (List Byte)) : Bool :=
  cs.all (fun c => certFrom c ≤ s.clk.sec && s.clk.sec ≤ certTo c)

/-! ## Events and counts (R459, R460) -/

/-- Raise a security event, at most once per object per second. -/
def secEvent (i : Isl) (code obj : Nat) (data : BitVec 80) (s : State) : State :=
  oncePerSec code obj (raise i code obj data) s

/-- Count an exchange outcome for the engine and the leaf. -/
def countReg (e : Eng) (l i : Nat) (s : State) : State := countLeaf 21 e l i 1 (count 22 e.num i 1 s)

/-! ## Records (R448) -/

/-- Send a registration record to a leaf and keep it for repetition. -/
def sendRec (e : Eng) (l : LeafId) (rtype : Nat) (body : List Byte) (s : State) : State :=
  sendMsg e (.reg l rtype body)
    (modLeaf e l.val (fun x => { x with exch := { x.exch with lastRec := some (rtype, body) } }) s)

/-- LEAF_ID as 2 bytes. -/
def leafBytes (l : Nat) : List Byte := toBytes 2 l

/-- Keys of a session (R449). -/
def kMgmt (ms : List Byte) : List Byte := Config.hkdfExpand ms (label "ZK mgmt") 32
def kWrap (ms : List Byte) : List Byte := Config.hkdfExpand ms (label "ZK wrap") 32

/-- A leaf's key and salt of an epoch, downstream or upstream (R449). -/
def leafKeyBytes (ms : List Byte) (us : Bool) (epoch l : Nat) : List Byte :=
  Config.hkdfExpand ms (label (if us then "ZK us" else "ZK ds") ++ toBytes 4 epoch ++ leafBytes l) 36
def keyOf (b : List Byte) : BitVec 256 := BitVec.ofNat 256 (beAt b 0 32)
def saltOf (b : List Byte) : W32 := wordAt b 32

/-- MAC of a record (R449). -/
def recMac (ms : List Byte) (rtype l : Nat) (body : List Byte) : List Byte :=
  Config.hmac (kMgmt ms) (toBytes 1 rtype ++ leafBytes l ++ body)

/-! ## Registration (R447 to R451) -/

/-- Cause codes of R451. -/
def rcCertChain : Nat := 1
def rcCertTime : Nat := 2
def rcSerial : Nat := 3
def rcSignature : Nat := 4
def rcKem : Nat := 5
def rcMac : Nat := 6
def rcFormat : Nat := 7
def rcAbort : Nat := 8
def rcShaker : Nat := 9

/-- Exchanges that the Banker runs at once (R450). -/
def exchangeCap : Nat := 64
def exchangesRunning (s : State) : Nat := (s.leaves.filter (fun p => p.2.exch.running)).length

/-- An exchange begins: HUB_HELLO with fresh values from the Shaker goes out (R448, R449). With no bits it waits (R429), and so it does while
64 run (R450); with no DRK none starts (R419). -/
def startExchange (e : Eng) (l : LeafId) (s : State) : State :=
  if ! drkOk s || s.sec.hub = [] then s
  else if ! bankerUp s || exchangeCap ≤ exchangesRunning s then
    addWait (.exchange e l.val) (modLeaf e l.val (fun x => { x with exch := { x.exch with want := true } }) s)
  else
    let a := shake false 32 s
    let b := shake true 32 a.2
    let c := shake true 64 b.2
    let s := c.2
    let em := Config.x25519 b.1 Config.x25519Base
    let ek := Config.mlkemPub c.1
    let n := s.sec.hub.length / certBytes
    let t1 := a.1 ++ em ++ ek ++ toBytes 4 n ++ s.sec.hub
    let serial := toBytes 16 (getLeaf s e l.val).serial.toNat
    let sig := Config.ed25519Sign (hubSeed s) (label "ZK-REG-H" ++ serial ++ leafBytes l.val ++ t1)
    let body := t1 ++ sig
    let s := modLeaf e l.val (fun x => { x with exch :=
      { reg := 1, running := true, began := now s, hello := body, em := b.1, km := c.1 } }) s
    sendRec e l 0x01 body s

/-- An exchange fails with a cause; its ephemeral values are erased (R449, R451). -/
def failExchange (e : Eng) (l : LeafId) (cause : Nat) (s : State) : State :=
  let s := modLeaf e l.val (fun x => { x with exch := { reg := 4, cause := cause, viaInt := x.exch.viaInt } }) s
  setFlag .secFlags e 6
    (secEvent .key 0x0B02 (leafObjId e l.val) (packData [(8, cause)]) (countReg e l.val 1 s))

/-! ## Delivery of group keys (R453), and what waits (R429) -/

/-- Deliver the current key of a group to a leaf in a GROUP_KEY record. -/
def deliverGroup (e : Eng) (l : LeafId) (g : Nat) (s : State) : State :=
  let x := (getLeaf s e l.val).exch
  let k := getGk s e g
  let head := toBytes 4 g ++ toBytes 4 k.epoch
  let kw := makeGen (keyOf (kWrap x.ms)) 0 s
  let s := kw.2
  let w := gcmSeal kw.1.key kw.1.subkey (toBytes 4 0 ++ toBytes 8 x.wcount) (head ++ leafBytes l.val)
    (toBytes 32 k.key.toNat ++ wordBytes k.salt)
  let s := modLeaf e l.val (fun y => { y with exch := { y.exch with
    ackWait := 7, ackGroup := g, ackEpoch := k.epoch, wcount := y.exch.wcount + 1 } }) s
  sendRec e l 0x07 (head ++ toBytes 8 x.wcount ++ w.1 ++ w.2) s

/-- A key of a group that has none is drawn and written (R453). -/
def firstKey (e : Eng) (g : Nat) (s : State) : State :=
  if (getSlot s (grpSlot s e g)).st = .empty then
    let p := shake true 36 s
    let s := modGk e g (fun x => { x with key := keyOf p.1, salt := saltOf p.1, epoch := x.epoch + 1 }) p.2
    writeSlot (grpSlot s e g) (keyOf p.1) (saltOf p.1) s
  else s

/-- A group key may go to a leaf now: the slot is not being erased, and while a change runs the new key goes to those that the change
awaits; a leaf that joins meanwhile gets it once it is current (R434, R453). -/
def groupFree (s : State) (e : Eng) (l g : Nat) : Bool :=
  (getSlot s (grpSlot s e g)).st ≠ .erasing && (! (getGk s e g).busy || l ∈ (getGk s e g).wait)

/-- Serve a leaf's next group key delivery when no record of it waits for an acknowledgement; what cannot be served now waits. Only a key that
is still to be drawn needs the Shaker (R429, R453). A LOST leaf is served too, by repeating the record until it answers (R441, R453; notes/assumptions/223.md). -/
def pumpLeaf (e : Eng) (l : LeafId) (s : State) : State :=
  let x := getLeaf s e l.val
  match x.exch.grpTodo with
  | [] => s
  | g :: _ =>
    if x.exch.ackWait ≠ 0 || ! (x.st = .active || x.st = .lost) then s
    else if ! keyDown s && (s.sec.shakerOk || (getSlot s (grpSlot s e g)).st ≠ .empty) && groupFree s e l.val g then deliverGroup e l g (firstKey e g s)
    else addWait (.deliver e l.val) s

/-- A key is to be delivered to a leaf. -/
def wantGroup (e : Eng) (l : LeafId) (g : Nat) (s : State) : State :=
  pumpLeaf e l (modLeaf e l.val (fun x => { x with exch :=
    { x.exch with grpTodo := if g ∈ x.exch.grpTodo then x.exch.grpTodo else x.exch.grpTodo ++ [g] } }) s)

/-! ## Requests that wait (R429, R443) -/

/-- Engine range and leaf of a leaf slot, and whether it is an upstream one (R430); none for a group slot. -/
def slotLeaf (k : Nat) : Option (Bool × Eng × Nat) :=
  if k < 16384 then some (8192 ≤ k, if k / 4096 % 2 = 0 then .A else .B, k % 4096) else none

/-- Engine range and group of a group slot. -/
def slotGroup (k : Nat) : Option (Eng × Nat) :=
  if 16384 ≤ k ∧ k < 20480 then some (if k < 18432 then .A else .B, (k - 16384) % 2048) else none

/-- Request a rekey of a slot; a request already waiting stands (R443). For a group slot it is a group change. -/
def requestRekey (k trigger : Nat) (s : State) : State :=
  let s := modSlot k (fun x => if x.want = none then { x with want := some trigger } else x) s
  deferRekey k (match slotGroup k with
    | some (e, g) => modGk e g (fun x => { x with want := true }) s
    | none => s)

/-- The body of a REKEY record before its MAC (R448). -/
def rekeyBody (us : Bool) (epoch : Nat) : List Byte := toBytes 4 (if us then 2 else 1) ++ toBytes 4 epoch

/-- The epoch that follows the one in force for a direction. -/
def nextEpoch (x : Exch) (us : Bool) : Nat := (if us then x.epochUs else x.epochDs) + 1

/-- A waiting rekey of a leaf slot begins (R441 to R443). Downstream the record goes out first; upstream the slot is rewritten first. -/
def startRekey (k : Nat) (s : State) : State :=
  let x := getSlot s k
  match slotLeaf k with
  | none => s
  | some (us, e, l) =>
    let y := getLeaf s e l
    if x.want.isNone || x.st ≠ .one || ! (y.st = .active) || y.exch.ackWait ≠ 0 then s
    else
      let ep := nextEpoch y.exch us
      let body := rekeyBody us ep
      let kb := leafKeyBytes y.exch.ms us ep l
      let s := if us then
          modLeaf e l (fun y => { y with exch := { y.exch with epochUs := ep } })
            (rewriteSlot k (keyOf kb) (saltOf kb) (x.want.getD 0) s)
        else s
      let s := modLeaf e l (fun y => { y with exch := { y.exch with
        ackWait := 5, ackDir := if us then 2 else 1, ackEpoch := ep } }) s
      sendRec e (Fin.ofNat 4096 l) 0x05 (body ++ recMac y.exch.ms 0x05 l body) s

/-- The change of a group's key ends: the slot is rewritten with the key drawn. -/
def closeGroup (e : Eng) (g : Nat) (s : State) : State :=
  let k := getGk s e g
  let slot := grpSlot s e g
  let trig := (getSlot s slot).want.getD 2
  modGk e g (fun x => { x with busy := false, wait := [] }) (rewriteSlot slot k.key k.salt trig s)

/-- A waiting change of a group's key begins (R453): a new key is drawn and delivered to the remaining ACTIVE members, and to LOST ones once
it is current; with no ACTIVE member the slot is rewritten at once. -/
def startGroup (e : Eng) (g : Nat) (s : State) : State :=
  let k := getGk s e g
  if ! k.want || k.busy || (getSlot s (grpSlot s e g)).st ≠ .one then s
  else
    let p := shake true 36 s
    let ms := activeMembers s e g
    let ls := lostMembers s e g
    let s := modGk e g (fun x => { x with
      want := false, busy := true, epoch := x.epoch + 1, key := keyOf p.1, salt := saltOf p.1, wait := ms }) p.2
    let s := forAll (ms ++ ls) (fun l => wantGroup e (Fin.ofNat 4096 l) g) s
    when (ms = []) (closeGroup e g) s

/-- The hash key of R345 is drawn with prediction resistance (R428); while the Shaker gives no bits it waits (notes/assumptions/245.md). -/
def drawHashKey (s : State) : State :=
  if s.sec.shakerOk then
    let k := shake true 16 s
    { k.2 with flow := { k.2.flow with hashKey := BitVec.ofNat 128 (beNat k.1) } }
  else addWait .hashKey s

/-- One request that waited is served, or waits again. -/
def serveWait (w : KeyWait) (s : State) : State :=
  match w with
  | .exchange e l =>
    let x := (getLeaf s e l)
    if x.exch.want && x.st = .registering then startExchange e (Fin.ofNat 4096 l) s else s
  | .deliver e l => pumpLeaf e (Fin.ofNat 4096 l) s
  | .erase k => eraseSlot k s
  | .rekey k =>
    if ! bankerUp s then addWait (.rekey k) s
    else match slotGroup k with
      | some (e, g) => startGroup e g s
      | none => startRekey k s
  | .finish e g => if keyDown s then addWait (.finish e g) s else when (getGk s e g).busy (closeGroup e g) s
  | .hashKey => drawHashKey s

/-- Requests that waited are served in the order in which they arose (R429, R454), and then those that they held up. -/
def serveOnce (s : State) : State := forAll s.sec.waits serveWait { s with sec := { s.sec with waits := [] } }
def serveDeferred (s : State) : State := serveOnce (serveOnce s)

/-! ## The records of a leaf (R448, R451) -/

/-- The fields of a LEAF_KEX body (R448): LN, E_L, CT, the chain, SIG_L; T2 is all but the signature. -/
def kexN (b : List Byte) : Nat := beAt b 1152 4
def kexLen (b : List Byte) : Nat := 1156 + certBytes * kexN b + 64
def kexChain (b : List Byte) : List (List Byte) := (List.range (kexN b)).map (fun i => slice b (1156 + certBytes * i) certBytes)
def kexT2 (b : List Byte) : List Byte := b.take (kexLen b - 64)
def kexSig (b : List Byte) : List Byte := b.drop (kexLen b - 64)

/-- T1 and SIG_M of the HUB_HELLO sent. -/
def helloT1 (h : List Byte) : List Byte := h.take (h.length - 64)
def helloSig (h : List Byte) : List Byte := h.drop (h.length - 64)

/-- The first check of R451 that a LEAF_KEX fails. -/
def kexFault (s : State) (x : Leaf) (b : List Byte) : Option Nat :=
  let h := x.exch.hello
  let cs := kexChain b
  let th := sha (helloT1 h ++ helloSig h ++ kexT2 b)
  let subject := cs.headD []
  if ¬ (b.length = kexLen b ∧ (kexN b = 1 ∨ kexN b = 2) ∧ cs.all certReserved = true) then some rcFormat
  else if ! chainOk s.sec.anchor 2 cs then some rcCertChain
  else if timesChecked s && ! timesOk s cs then some rcCertTime
  else if beNat (certSerial subject) ≠ x.serial.toNat then some rcSerial
  else if ! Config.ed25519Ok (certPub subject) (label "ZK-REG-L" ++ th) (kexSig b) then some rcSignature
  else if allZero (Config.x25519 x.exch.em (slice b 32 32)) then some rcKem
  else if ! s.sec.shakerOk then some rcShaker
  else none

/-- The checks come to the validity times, and skip them (R446, R451). -/
def timesSkipped (s : State) (x : Leaf) (b : List Byte) : Bool :=
  ! timesChecked s && kexFault s x b ≠ some rcFormat && kexFault s x b ≠ some rcCertChain

/-- LEAF_KEX_RECEIVED (R448, R449, R451): checked in order; when good, the secrets are formed and HUB_FIN goes out. A repeat of
the record already received is ignored. -/
def execLeafKexReceived (e : Eng) (l : LeafId) (body : List Byte) (s : State) : Out :=
  let x := getLeaf s e l.val
  act (inService s && x.st = .registering && x.exch.running && x.exch.reg = 1 && x.exch.kex ≠ body && ! keyDown s) (fun s =>
    let s := when (timesSkipped s x body) (countReg e l.val 2) s
    match kexFault s x body with
    | some c => serveDeferred (failExchange e l c s)
    | none =>
      let h := x.exch.hello
      let th2 := sha (helloT1 h ++ helloSig h ++ kexT2 body ++ kexSig body)
      let ss := Config.x25519 x.exch.em (slice body 32 32) ++ Config.mlkemDecaps x.exch.km (slice body 64 1088)
      let prk := Config.hkdfExtract (h.take 32 ++ body.take 32) ss
      let ms := Config.hkdfExpand prk (label "ZK ms" ++ th2) 32
      let khf := Config.hkdfExpand prk (label "ZK hf" ++ th2) 32
      let klf := Config.hkdfExpand prk (label "ZK lf" ++ th2) 32
      let macM := Config.hmac khf th2
      let s := modLeaf e l.val (fun y => { y with exch := { y.exch with
        reg := 2, kex := body, ms := ms, macM := macM, klf := klf, th2 := th2, viaInt := kexN body = 2 } }) s
      sendRec e l 0x03 macM s) s

/-- LEAF_FIN_RECEIVED (R449, R451): a good MAC_L writes epoch 0 of both slots and the Banker has succeeded. -/
def execLeafFinReceived (e : Eng) (l : LeafId) (body : List Byte) (s : State) : Out :=
  let x := getLeaf s e l.val
  let ds := dsSlot s e l.val
  let us := usSlot s e l.val
  act (inService s && x.st = .registering && x.exch.running && x.exch.reg = 2 && ! keyDown s
        && (getSlot s ds).st = .empty && (getSlot s us).st = .empty) (fun s =>
    serveDeferred (if body.length ≠ 32 then failExchange e l rcFormat s
    else if Config.hmac x.exch.klf (x.exch.th2 ++ x.exch.macM) ≠ body then failExchange e l rcMac s
    else if ! s.sec.shakerOk then failExchange e l rcShaker s
    else
      let kd := leafKeyBytes x.exch.ms false 0 l.val
      let ku := leafKeyBytes x.exch.ms true 0 l.val
      let s := writeSlot us (keyOf ku) (saltOf ku) (writeSlot ds (keyOf kd) (saltOf kd) s)
      let s := modLeaf e l.val (fun y => { y with exch := { reg := 3, viaInt := y.exch.viaInt, ms := y.exch.ms } }) s
      secEvent .key 0x0B01 (leafObjId e l.val) (packData [(32, (now s - x.exch.began) / 1000)]) (countReg e l.val 0 s))) s

/-- LEAF_FAIL_RECEIVED (R451): the leaf aborts the exchange; `cause` is the leaf's own and is not kept. -/
def execLeafFailReceived (e : Eng) (l : LeafId) (_cause : Nat) (s : State) : Out :=
  let x := getLeaf s e l.val
  act (inService s && x.st = .registering && x.exch.running && ! keyDown s) (fun s => serveDeferred (failExchange e l rcAbort s)) s

/-- REG_RECORD_RESEND (R441, R448): the module repeats its last record every 8 turns until it is answered. -/
def execRegRecordResend (e : Eng) (l : LeafId) (s : State) : Out :=
  let x := (getLeaf s e l.val).exch
  act (inService s && (x.running || x.ackWait ≠ 0) && x.lastRec.isSome) (fun s =>
    match x.lastRec with
    | some (t, b) => sendMsg e (.reg l t b) s
    | none => s) s

/-! ## Rekeying (R440 to R443) -/

/-- REKEY_START (R441 to R443): the Banker begins a waiting rekey of a leaf slot. -/
def execRekeyStart (k : KeySlotIx) (s : State) : Out :=
  let x := getSlot s k.val
  act (inService s && x.want.isSome && x.st = .one && bankerUp s) (startRekey k.val) s

/-! ## Group keys (R453) -/

/-- The group slot is rewritten with the key drawn, and the leaves that waited for it are served. -/
def finishGroup (e : Eng) (g : Nat) (s : State) : State := serveDeferred (closeGroup e g s)

/-- GROUP_REKEY_START (R453): a waiting change of a group's key begins. -/
def execGroupRekeyStart (e : Eng) (g : Fin 2048) (s : State) : Out :=
  let k := getGk s e g.val
  act (inService s && k.want && ! k.busy && bankerUp s && (getSlot s (grpSlot s e g.val)).st = .one) (fun s =>
    when (activeMembers s e g.val = []) serveDeferred (startGroup e g.val s)) s

/-- The memberships last announced to a leaf. -/
def announced (x : Leaf) : Table W32 :=
  match x.grpEff.getLast? with
  | some p => p.2
  | none => x.grpNow

/-- A membership change that is not announced yet is announced, with the frame count at which it takes effect (R323, R304). -/
def scheduleMembership (e : Eng) (l : LeafId) (s : State) : State :=
  let x := getLeaf s e l.val
  let old := announced x
  if x.grps = old then s
  else
    let b := boundaryAfter (treeFrames s e)
    let joined := (groupsOf x.grps).filter (fun g => ! (g ∈ groupsOf old))
    let cs := s.ctrs.filter (fun p => p.1 / 32768 = (treeOf s e).num && ctrEn p.2.w0 && ctrMcast p.2.w0
      && ctrTarget p.2.w0 ∈ joined)
    let sets := (cs.map (fun p => ctrSset p.2.w0)).eraseDups
    let s := setLeaf e l.val { x with grpEff := x.grpEff ++ [(b, x.grps)] } s
    let s := sendMsg e (.group l (b % 65536) (wordList x.grps)) s
    let s := forAll cs (fun p => sendMsg e (.ctr l (p.1 % 32768) (b % 65536) p.2.w0)) s
    forAll sets (fun i t =>
      let y := getSset t e i
      sendMsg e (.sset i (if y.pend then y.effFn else treeFrames t e % 65536) (wordList (writtenWords y))) t) s

/-- GROUP_ACK_RECEIVED (R453): a valid acknowledgement of the key delivered. One of a key that a change has replaced meanwhile leaves the
delivery of the new one due. -/
def execGroupAckReceived (e : Eng) (l : LeafId) (body : List Byte) (s : State) : Out :=
  let x := getLeaf s e l.val
  let g := x.exch.ackGroup
  let head := toBytes 4 g ++ toBytes 4 x.exch.ackEpoch
  act (inService s && x.exch.ackWait = 7 && ! keyDown s && body = head ++ recMac x.exch.ms 0x08 l.val head) (fun s =>
    let isNow := x.exch.ackEpoch = (getGk s e g).epoch
    let s := modLeaf e l.val (fun y => { y with exch := { y.exch with
      ackWait := 0, lastRec := none, grpTodo := if isNow then y.exch.grpTodo.filter (fun h => h ≠ g) else y.exch.grpTodo } }) s
    let s := if isNow then modGk e g (fun k => { k with wait := k.wait.filter (fun m => m ≠ l.val) }) s else s
    let s := if (getGk s e g).busy && (getGk s e g).wait = [] then finishGroup e g s else s
    let s := if (getLeaf s e l.val).exch.grpTodo = [] then scheduleMembership e l s else s
    pumpLeaf e l s) s

/-- GROUP_KEY_REWRITE_TIMEOUT (R453, R454): 100 ms after the first record the slot is rewritten whoever has answered; while KEY is fenced the
rewrite waits. -/
def execGroupKeyRewriteTimeout (e : Eng) (g : Fin 2048) (s : State) : Out :=
  act (inService s && (getGk s e g.val).busy) (fun s =>
    if keyDown s then addWait (.finish e g.val) s else finishGroup e g.val s) s

/-- REKEY_ACK_RECEIVED (R441, R442): a valid acknowledgement; downstream the slot is rewritten now. -/
def execRekeyAckReceived (e : Eng) (l : LeafId) (body : List Byte) (s : State) : Out :=
  let x := getLeaf s e l.val
  let us := x.exch.ackDir = 2
  let head := rekeyBody us x.exch.ackEpoch
  act (inService s && x.exch.ackWait = 5 && ! keyDown s && body = head ++ recMac x.exch.ms 0x06 l.val head) (fun s =>
    let done := fun (y : Leaf) => { y with exch := { y.exch with ackWait := 0, lastRec := none } }
    if us then pumpLeaf e l (modLeaf e l.val done s)
    else
      let kb := leafKeyBytes x.exch.ms false x.exch.ackEpoch l.val
      let k := dsSlot s e l.val
      let s := rewriteSlot k (keyOf kb) (saltOf kb) ((getSlot s k).want.getD 0) s
      pumpLeaf e l (modLeaf e l.val (fun y => done { y with exch := { y.exch with epochDs := x.exch.ackEpoch } }) s)) s

/-- A host write of LEAF_GRP_g (R323, R338, R431). -/
def writeLeafGrp (e : Eng) (l : LeafId) (g : Nat) (v : W32) (s : State) : State × Status :=
  let v := v &&& 0x8FFF8FFF
  refuseOr ((writeGate s e.txd).worse (if (wordGroups v).any (fun x => 2047 < x) then .errState else .ok)) (fun s =>
    let x := getLeaf s e l.val
    let new := tset 0 x.grps g v
    let left := (groupsOf x.grps).filter (fun h => ! (h ∈ groupsOf new))
    let joined := (groupsOf new).filter (fun h => ! (h ∈ groupsOf x.grps))
    let s := setLeaf e l.val { x with grps := new
                                      exch := { x.exch with grpTodo := x.exch.grpTodo.filter (fun h => h ∈ groupsOf new) } } s
    if x.st = .active || x.st = .lost then
      let s := forAll left (groupLeft e) s
      let s := forAll joined (wantGroup e l) s
      if (getLeaf s e l.val).exch.grpTodo = [] then scheduleMembership e l s else s
    else s) s

/-- LEAF_GRP_WRITE (R338). -/
def execLeafGrpWrite (e : Eng) (l : LeafId) (g : Fin 8) (v : W32) (s : State) : Out :=
  .next (setStatus (writeLeafGrp e l g.val v s))

/-- GROUP_MEMBERSHIP_EFFECTIVE (R323): the boundary passes and the memberships announced for it are in force. -/
def execGroupMembershipEffective (e : Eng) (l : LeafId) (s : State) : Out :=
  let x := getLeaf s e l.val
  act (inService s && x.grpEff.head?.any (fun p => p.1 ≤ treeFrames s e))
    (setLeaf e l.val { x with grpNow := (x.grpEff.head?.map (fun p => p.2)).getD x.grpNow, grpEff := x.grpEff.drop 1 }) s

/-! ## The Shaker (R427, R429) -/

/-- The longest run of equal samples. -/
def longestRun : List Bool → Nat
  | [] => 0
  | a :: l => max (1 + (l.takeWhile (fun b => b = a)).length) (longestRun l)

/-- Samples of a window of the adaptive proportion test, its cutoff, and the cutoff of the repetition count test (R427): SP 800-90B gives
1 + the binomial quantile for a false-alarm rate of 2^−20 at 0.5 bit a sample, 793 (notes/assumptions/173.md). -/
def aptWindow : Nat := 1024
def aptCutoff : Nat := 793
def rctCutoff : Nat := 41

/-- Samples of the noise source fail the repetition count test, and the adaptive proportion test in some window (R427). -/
def rctFails (l : List Bool) : Bool := rctCutoff ≤ longestRun l
def aptFails (l : List Bool) : Bool :=
  (chunks aptWindow l.length l).any (fun w => w.length = aptWindow && aptCutoff ≤ w.countP (fun b => b = w.headD false))

/-- Samples fail a test by its number in R460: the start-up tests are both, over 1,024 samples. -/
def healthFails (test : Nat) (l : List Bool) : Bool :=
  match test with
  | 0 => rctFails l
  | 1 => aptFails l
  | _ => l.length = aptWindow && (rctFails l || aptFails l)

/-- A health test has failed: the failure counts as a restart of the source, and the third within 1 s makes SHAKER_OK 0 (R429). -/
def healthFailed (test : Nat) (s : State) : State :=
  let recent := (now s :: s.sec.fails).filter (fun t => now s < t + 1000000000)
  let n := s.sec.restarts + 1
  let s := { s with sec := { s.sec with fails := recent, restarts := n } }
  if 3 ≤ recent.length && s.sec.shakerOk then
    setFlag .secFlags .A 0
      (secEvent .key 0x0B09 0 (packData [(8, test), (32, n)]) { s with sec := { s.sec with shakerOk := false } })
  else s

/-- The bits of raw blocks, most significant first. -/
def blockBits (bs : List (BitVec 128)) : List Bool := bs.flatMap (fun b => (List.range 128).map b.getMsbD)

/-- The source starts with its start-up tests over 1,024 samples, and starts again after a failure, up to `n` times while SHAKER_OK is 1
(R427, R429). -/
def startSource : Nat → State → State
  | 0, s => s
  | n + 1, s =>
    if ! s.sec.shakerOk then s
    else
      let p := rawBlocks (aptWindow / 128) s
      if healthFails 2 (blockBits p.1) then startSource n (healthFailed 2 p.2) else p.2

/-- SHAKER_HEALTH_FAIL (R427, R429): raw samples fail a health test and the source restarts, with its start-up tests; the third failure
within 1 s makes SHAKER_OK 0. -/
def execShakerHealthFail (test : Fin 3) (raw : List Bool) (s : State) : Out :=
  actF (powered s && s.boot.fw && healthFails test.val raw) (fun s => startSource 3 (healthFailed test.val s)) s

/-- SHAKER_RETRY (R427, R429): the source retries every 10 s over fresh samples; when it passes, deferred requests are served. -/
def execShakerRetry (raw : List Bool) (s : State) : Out :=
  actF (powered s && s.boot.fw && ! s.sec.shakerOk && raw.length = aptWindow) (fun s =>
    if ! healthFails 2 raw then serveDeferred { s with sec := { s.sec with shakerOk := true, fails := [] } } else s) s

/-! ## Host rekey (R443, R458) -/

/-- A REKEY command on a slot is refused (R443, R458). -/
def rekeyRefused (s : State) (k : Nat) : Bool :=
  let x := getSlot s k
  x.st ≠ .one || ! s.sec.shakerOk ||
    (match slotLeaf k with
     | some (_, e, l) => (getLeaf s e l).st ≠ .active || (getLeaf s e l).exch.ackWait = 5
     | none => match slotGroup k with
       | some (e, g) => (getGk s e g).busy
       | none => true)

/-- A host write of SEC_KEY_CMD (R457, R458). -/
def writeKeyCmd (v : W32) (s : State) : State × Status :=
  let k := fld v 14 0
  refuseOr ((writeGate s .key).worse (if fld v 17 16 ≠ 1 || rekeyRefused s k then .errState else .ok))
    (requestRekey k 1) s

/-- SEC_KEY_CMD_REKEY (R443, R458). -/
def execSecKeyCmdRekey (k : KeySlotIx) (s : State) : Out :=
  .next (setStatus (writeKeyCmd (BitVec.ofNat 32 (0x10000 + k.val)) s))

/-! ## Draining and expiry of generations (R434) -/

/-- SLOT_GENERATION_DRAINED (R434): the in-flight count of an old or an erased generation reaches 0; a first group key that waited for the
slot to empty is drawn then (R453). -/
def execSlotGenerationDrained (k : KeySlotIx) (s : State) : Out :=
  let x := getSlot s k.val
  act (x.st = .erasing || (x.st = .two && ! (match slotLeaf k.val with
      | some (us, _, _) => us
      | none => false))) (fun s =>
    if x.st = .erasing then serveDeferred (setSlot k.val {} s)
    else setSlot k.val { x with st := .one, old := {}, bankOld := {} } s) s

/-- UPSTREAM_OLD_GENERATION_EXPIRY (R434): 1 ms after the first good unit of the new parity the old generation is zeroised. -/
def execUpstreamOldGenerationExpiry (k : KeySlotIx) (s : State) : Out :=
  let x := getSlot s k.val
  act (x.st = .two && x.newSeen && (match slotLeaf k.val with
      | some (us, _, _) => us
      | none => false))
    (setSlot k.val { x with st := .one, old := {}, bankOld := {}, newSeen := false }) s

end Sys2Proof.Machine
end

