-- ==== Sys2Proof/Machine/Sched.lean ====
section
/-! DEFINITION. The scheduler: which maps are legal, maps and their recomputation, discovery, ranging, power, registration,
departure and the leaf table's writes (R296 to R333, R338 to R341, R374). -/

namespace Sys2Proof.Machine

/-! ## Legal maps (R306, R307, R309, R313, R318, R325 to R327) -/

/-- A window placed on a subcarrier, in upstream symbols. -/
structure Placed where
  sc : Nat
  gs : Nat
  ge : Nat
  square : Bool
  leaf : Nat
  deriving DecidableEq, Repr

/-- The windows of a turn's squares and grants. -/
def placed (tn : Nat) (sq : List Square) (gr : List Grant) : List Placed :=
  sq.map (fun q => ⟨q.sc.val, turnSyms * tn + q.start, turnSyms * tn + q.start + 16 * q.len16, true, q.leaf.val⟩)
  ++ gr.map (fun g => ⟨g.sc.val, grantGs tn g, grantGe tn g, false, g.leaf.val⟩)

/-- Every pair of a list, the earlier element first, satisfies a relation. -/
def allPairs {α : Type} (r : α → α → Bool) : List α → Bool
  | [] => true
  | a :: l => l.all (r a) && allPairs r l

/-- Two windows stand clear: no overlap on a subcarrier, and 32 symbols between a square and another window's gate, which
reaches 32 symbols past it (R170, R313, R326). -/
def clearOf (a b : Placed) : Bool :=
  let gap := if a.square && b.square then 32 else if a.square || b.square then 64 else 0
  a.sc ≠ b.sc || a.ge + gap ≤ b.gs || b.ge + gap ≤ a.gs

/-- The skew R265 assumes: for two windows of a leaf, the one that begins first ends at most 144,000 symbols later. -/
def skewOk (a b : Placed) : Bool :=
  a.square || b.square || a.leaf ≠ b.leaf
    || ((b.gs ≤ a.gs || a.ge ≤ b.ge + 144000) && (a.gs ≤ b.gs || b.ge ≤ a.ge + 144000))

/-- Entries rise by START and then SC (R306). -/
def grantOrder (a b : Grant) : Bool := a.start < b.start || (a.start = b.start && a.sc.val < b.sc.val)

/-- Windows of the other maps of the engine. -/
def otherWindows (s : State) (e : Eng) (tn : Nat) : List Placed :=
  ((getEng s e).maps.filter (fun m => m.tn ≠ tn)).flatMap (fun m => placed m.tn m.squares m.grants)

/-- What a basis says of a leaf. -/
def Basis.due (b : Basis) (l : Nat) : Option LeafDue := b.dues.find? (fun d => d.leaf = l)

/-- Length of a ranging window of `n` blocks, and the blocks of a grant (R318). -/
def rangingLen (b : Basis) (n : Nat) (wide : Bool) : Nat := n * 4096 + 416 + 2 * (if wide then b.wide else b.margin)
def grantBlocks (b : Basis) (g : Grant) : Nat :=
  if g.ranging then (g.len - 416 - 2 * (if g.short then b.wide else b.margin)) / 4096 else (dataBlocks g).getD 0

/-- The form of a grant for its leaf (R306, R318, R322, R324, R326). -/
def grantOk (b : Basis) (g : Grant) : Bool :=
  g.start < turnSyms && g.start + g.len ≤ 2097151 &&
    (match b.due g.leaf.val with
     | none => false
     | some d =>
       if g.ranging then
         g.fmt.val = 0 && (match d.ranging with
           | some (n, wide) => g.short = wide && g.len = rangingLen b n wide
           | none => false)
       else d.data && g.fmt.val = d.sh.fmt && g.short = d.short && (dataBlocks g).isSome)

/-- Windows of a leaf open at the first symbol of a window, and the most it may have open (R326). -/
def openAt (l : List Placed) (w : Placed) : Nat :=
  (l.filter (fun v => ! v.square && v.leaf = w.leaf && v.gs ≤ w.gs && w.gs < v.ge)).length
def openMax (b : Basis) (l : Nat) : Nat :=
  match b.due l with
  | some d => min 8 (d.sh.scMax + 1)
  | none => 1

/-- A square of the turn (R307, R311, R313, R320). -/
def squareOk (b : Basis) (q : Square) : Bool :=
  q.start < turnSyms && 16 * q.len16 = b.sqLen && q.start + 16 * q.len16 ≤ 2 * turnSyms
    && (! q.dedicated || b.dues.any (fun d => d.leaf = q.leaf.val && d.ded))

/-- A turn has its squares: one open square in every SQ_PERIOD turns, at most 15 in all, and one for each leaf that is due
one while there is room in the message. -/
def squaresOk (b : Basis) (tn : Nat) (sq : List Square) : Bool :=
  let ded := sq.filter (fun q => q.dedicated)
  sq.all (squareOk b) && sq.length ≤ 15
    && (sq.filter (fun q => ! q.dedicated)).length = (if tn % b.sqPeriod = 0 then 1 else 0)
    && allPairs (fun a c => a.leaf ≠ c.leaf) ded
    && (sq.length = 15 || b.dues.all (fun d => ! d.ded || ded.any (fun q => q.leaf.val = d.leaf)))

/-- Symbols of turn `tn` that windows take on a subcarrier. -/
def takenIn (tn sc : Nat) (l : List Placed) : Nat :=
  ((l.filter (fun w => w.sc = sc)).map (fun w =>
    min w.ge (turnSyms * (tn + 1)) - max w.gs (turnSyms * tn))).sum

/-- Symbols of a turn that squares, ranging windows and earlier windows leave for data (`avail` of R325). -/
def availOf (others : List Placed) (tn : Nat) (sq : List Square) (gr : List Grant) : Nat :=
  let l := others ++ placed tn sq (gr.filter (fun g => g.ranging))
  ((List.range 32).map (fun n => turnSyms - takenIn tn n l)).sum

/-- A window of a leaf can stand among windows: clear of them, and within what its leaf may have open (R326). -/
def standsIn (cap : Nat) (l : List Placed) (w : Placed) : Bool :=
  l.all (clearOf w) && l.all (skewOk w) && (w :: l).all (fun v => v.square || v.leaf ≠ w.leaf || openAt (w :: l) v ≤ cap)

/-- The half of the subcarriers that holds `n` carries all the grants that its message may (R309). -/
def halfFull (gr : List Grant) (n : Nat) : Bool := (gr.filter (fun g => decide (g.sc.val < 16) = decide (n < 16))).length = 2048

/-- The symbols at which a window of `len` symbols of a leaf can first stand on subcarrier `n` of turn `tn`, wherever a rule begins to allow it:
the turn's start, the end of a window on the subcarrier, and, by a window of the leaf on any subcarrier, where that ends (what it may have
open), where it begins and where the new one ends 144,000 symbols before it (the skew of R326). -/
def places (tn n leaf len : Nat) (l : List Placed) : List Nat :=
  (turnSyms * tn :: (l.filter (fun v => v.sc = n)).map (fun v => v.ge + (if v.square then 64 else 0)))
    ++ (l.filter (fun v => ! v.square && v.leaf = leaf)).flatMap (fun v => [v.ge, v.gs, v.ge - (144000 + len)])

/-- There is room in turn `tn` for one more window of `len` symbols of a leaf beside the grants `gr`, on some subcarrier. -/
def hasRoom (b : Basis) (tn leaf len : Nat) (gr : List Grant) (l : List Placed) : Bool :=
  (List.range 32).any (fun n => ! halfFull gr n &&
    (places tn n leaf len l).any (fun p =>
      turnSyms * tn ≤ p && p < turnSyms * (tn + 1) && standsIn (openMax b leaf) l ⟨n, p, p + len, false, leaf⟩))

/-- A data window of a leaf among the grants `gr` can be longer by a block where it stands (R326). -/
def canGrow (b : Basis) (tn : Nat) (d : LeafDue) (gr : List Grant) (l : List Placed) : Bool :=
  gr.any (fun g => g.leaf.val = d.leaf && ! g.ranging && decide ((dataBlocks g).getD 255 < 255)
    && decide (g.start + g.len + fmtSyms d.sh.fmt ≤ 2097151)
    && standsIn (openMax b d.leaf) (l.filter (fun v => decide (v ≠ ⟨g.sc.val, grantGs tn g, grantGe tn g, false, d.leaf⟩)))
      ⟨g.sc.val, grantGs tn g, grantGe tn g + fmtSyms d.sh.fmt, false, d.leaf⟩)

/-- The limit on grants is reached, in the map or in one of its messages (R309). -/
def limited (gr : List Grant) : Bool :=
  let half := (gr.filter (fun g => g.sc.val < 16)).length
  gr.length = 4096 || half = 2048 || gr.length - half = 2048

/-- What the turn's ACTIVE leaves are owed: FIXED, and FIXED raised to the assured part, in bytes. -/
structure Owed where
  d : LeafDue
  fixed : Nat
  base : Nat
  deriving DecidableEq, Repr

def owedOf (b : Basis) : List Owed :=
  (b.dues.filter (fun d => d.active && d.data)).map (fun d =>
    let f := turnBytes d.sh.fixed
    ⟨d, f, max f (min d.need (turnBytes d.sh.assured))⟩)

/-- Symbols that a number of bytes takes for each leaf. -/
def owedSyms (f : Owed → Nat) (l : List Owed) : Nat := (l.map (fun o => blocksFor (f o) * fmtSyms o.d.sh.fmt)).sum

/-- How a turn is overbooked (R327): not, in its FIXED sum, or in its ASSURED portions, with the factor in 1/256. -/
inductive Overbook where
  | none | fixed (scale : Nat) | assured (scale : Nat)
  deriving DecidableEq, Repr

def overbookOf (avail : Nat) (l : List Owed) : Overbook :=
  let f := owedSyms (fun o => o.fixed) l
  let b := owedSyms (fun o => o.base) l
  if avail < f then .fixed (256 * avail / f)
  else if avail < b then .assured (256 * (avail - f) / (b - f))
  else .none

/-- Least and most bytes a leaf is granted, polls apart. -/
def bounds (k : Overbook) (o : Owed) : Nat × Nat :=
  match k with
  | .fixed n => let v := o.fixed * n / 256; (v, v)
  | .assured n => let v := o.fixed + (o.base - o.fixed) * n / 256; (v, v)
  | .none => (o.base, max o.base (min o.d.need (turnBytes o.d.sh.max)))

/-- Blocks of data granted to a leaf. -/
def blocksOf (gr : List Grant) (l : Nat) : Nat :=
  ((gr.filter (fun g => g.leaf.val = l && ! g.ranging)).map (fun g => (dataBlocks g).getD 0)).sum

/-- What the scheduler grants a leaf before capacity is shared, in blocks: its least share, or the block of a poll; and the most (R325). -/
def leastBlocks (k : Overbook) (o : Owed) : Nat := max (blocksFor (bounds k o).1) (b01 o.d.poll)
def mostBlocks (k : Overbook) (o : Owed) : Nat := max (blocksFor (bounds k o).2) (b01 o.d.poll)

/-- A leaf in the sharing: its weight, and the symbols it can take and takes. -/
structure Taker where
  leaf : Nat
  weight : Nat
  cap : Nat
  got : Nat := 0
  deriving DecidableEq, Repr

/-- Share symbols in proportion to WEIGHT among the leaves below their caps, and what a capped leaf cannot take among the others in the
same way (R325); `fuel` bounds the rounds. -/
def shareOut : Nat → Nat → List Taker → List Taker
  | 0, _, l => l
  | fuel + 1, rest, l =>
    let w := ((l.filter (fun r => r.got < r.cap)).map (fun r => r.weight)).sum
    let l' := l.map (fun r => if r.got < r.cap then { r with got := min r.cap (r.got + rest * r.weight / w) } else r)
    let used := (l'.map (fun r => r.got)).sum - (l.map (fun r => r.got)).sum
    if used = 0 then l' else shareOut fuel (rest - used) l'

/-- Blocks that the sharing gives each leaf beyond its least (R325). -/
def sharesOf (avail : Nat) (k : Overbook) (owed : List Owed) : List (Nat × Nat) :=
  let least := (owed.map (fun o => leastBlocks k o * fmtSyms o.d.sh.fmt)).sum
  let parts := owed.map (fun o =>
    ({ leaf := o.d.leaf, weight := o.d.sh.weight, cap := (mostBlocks k o - leastBlocks k o) * fmtSyms o.d.sh.fmt } : Taker))
  (shareOut (parts.length + 2) (avail - least) parts).map (fun r =>
    (r.leaf, r.got / fmtSyms (((owed.find? (fun o => o.d.leaf = r.leaf)).map (fun o => o.d.sh.fmt)).getD 0)))

/-- Capacity is shared in proportion to WEIGHT: where a leaf is not at its cap, no other leaf has a larger share for its weight, a block
apart, but for a leaf that is `stuck`: no further block of it finds a place (R325, R326; notes/assumptions/20.md). -/
def fairPair (k : Overbook) (gr : List Grant) (stuck : Owed → Bool) (x y : Owed) : Bool :=
  let extra := fun (o : Owed) => blocksOf gr o.d.leaf - leastBlocks k o
  mostBlocks k y ≤ blocksOf gr y.d.leaf || stuck y
    || (extra x - 1) * y.d.sh.weight ≤ (extra y + 1) * x.d.sh.weight

/-- The windows of a turn as a map and the other maps place them: squares, ranging windows and windows of other maps; with the data
windows of the leaves served first; and all of them. -/
structure Layout where
  fixed : List Placed
  first : List Placed
  all : List Placed
  deriving DecidableEq, Repr

def layoutOf (b : Basis) (others : List Placed) (tn : Nat) (sq : List Square) (gr : List Grant) : Layout := {
  fixed := others ++ placed tn sq (gr.filter (fun g => g.ranging))
  first := others ++ placed tn sq (gr.filter (fun g => g.ranging || decide (g.leaf.val ∈ b.first)))
  all := others ++ placed tn sq gr }

/-- A leaf's next block of data finds no place among windows: none in a window of its own, which the limit on grants also bars, and none at the
end of a window that it has. -/
def crowded (b : Basis) (tn : Nat) (d : LeafDue) (gr : List Grant) (l : List Placed) : Bool :=
  ! hasRoom b tn d.leaf (preSyms d.short + fmtSyms d.sh.fmt) gr l && ! canGrow b tn d gr l

/-- A leaf may have less than its least where its next block finds no place, although nothing was shared or as the limit on grants is reached.
A leaf that the limit kept out of the map before is served first: only the windows of such leaves may stand in its way (R326). -/
def mayMiss (b : Basis) (tn : Nat) (y : Layout) (gr : List Grant) (shared : Bool) (d : LeafDue) : Bool :=
  if d.leaf ∈ b.first then crowded b tn d (gr.filter (fun g => g.ranging || decide (g.leaf.val ∈ b.first))) y.first
  else (limited gr || ! shared) && crowded b tn d gr y.all

/-- The data grants answer to R325 and R327: no leaf has more than its share, none has less than its least unless it may miss some of it,
capacity left is shared, and shares follow the weights. -/
def sharesOk (b : Basis) (tn avail : Nat) (y : Layout) (k : Overbook) (gr : List Grant) : Bool :=
  let owed := owedOf b
  let shared := owed.any (fun o => decide (leastBlocks k o < blocksOf gr o.d.leaf))
  let shares := sharesOf avail k owed
  owed.all (fun o =>
    let n := blocksOf gr o.d.leaf
    let due := leastBlocks k o + ((shares.find? (fun p => p.1 = o.d.leaf)).map (fun p => p.2)).getD 0
    (leastBlocks k o ≤ n || mayMiss b tn y gr shared o.d) && n ≤ mostBlocks k o
      && (due ≤ n + 1 || crowded b tn o.d gr y.all))
  && owed.all (fun x => owed.all (fairPair k gr (fun o => crowded b tn o.d gr y.all) x))
  && (b.dues.filter (fun d => d.lost && d.data)).all (fun d =>
    let n := blocksOf gr d.leaf
    (b01 d.poll ≤ n || mayMiss b tn y gr shared d) && n ≤ b01 d.poll)

/-- Every leaf due a ranging window has exactly one; it may miss it only where ranging windows, the limit on grants
and the squares leave it no room, since they are placed before all data (R322, R325). -/
def rangingOk (b : Basis) (tn : Nat) (y : Layout) (gr : List Grant) : Bool :=
  b.dues.all (fun d => match d.ranging with
    | none => true
    | some (n, wide) =>
      let k := (gr.filter (fun g => g.leaf.val = d.leaf && g.ranging)).length
      k = 1 || (k = 0 && ! hasRoom b tn d.leaf (rangingLen b n wide) (gr.filter (fun g => g.ranging)) y.fixed))

/-- Leaves that a map at the limit on grants leaves without a window they are due (R326). -/
def leftOver (b : Basis) (k : Overbook) (gr : List Grant) : List Nat :=
  if ! limited gr then []
  else
    let has := fun (l : Nat) (ranging : Bool) => gr.any (fun g => g.leaf.val = l && g.ranging = ranging)
    ((owedOf b).filter (fun o => 0 < leastBlocks k o && ! has o.d.leaf false)).map (fun o => o.d.leaf)
      ++ (b.dues.filter (fun d => (d.ranging.isSome && ! has d.leaf true) || (d.lost && d.data && d.poll && ! has d.leaf false))).map
        (fun d => d.leaf)

/-- How turn `tn` is overbooked under a map (R327). -/
def overbook (s : State) (e : Eng) (b : Basis) (tn : Nat) (sq : List Square) (gr : List Grant) : Overbook :=
  overbookOf (availOf (otherWindows s e tn) tn sq gr) (owedOf b)

/-- No leaf has more windows open at any symbol than it may (R326). The most are open where one begins: at the start of a window of the map,
or of a window of another map while one of the map is open. -/
def openOk (b : Basis) (others mine : List Placed) : Bool :=
  (mine ++ others.filter (fun v => mine.any (fun a => ! a.square && a.leaf = v.leaf && a.gs ≤ v.gs && v.gs < a.ge))).all (fun v =>
    v.square || openAt (others ++ mine) v ≤ openMax b v.leaf)

/-- A map for turn `tn` is one the rules allow the scheduler to compute on a basis, among the windows of its other maps
(notes/assumptions/20.md). -/
def legalMap (s : State) (e : Eng) (b : Basis) (tn : Nat) (sq : List Square) (gr : List Grant) : Bool :=
  let mine := placed tn sq gr
  let others := otherWindows s e tn
  let half := (gr.filter (fun g => g.sc.val < 16)).length
  let y := layoutOf b others tn sq gr
  gr.length ≤ 4096 && half ≤ 2048 && gr.length - half ≤ 2048
    && allPairs grantOrder gr && gr.all (grantOk b)
    && allPairs clearOf mine && mine.all (fun a => others.all (clearOf a))
    && allPairs skewOk mine && mine.all (fun a => others.all (skewOk a))
    && openOk b others mine
    && rangingOk b tn y gr
    && sharesOk b tn (availOf others tn sq gr) y (overbook s e b tn sq gr) gr

/-! ## Maps (R328) -/

/-- The engine's scheduler computes maps: it serves the tree, runs, and its control slots can carry them. -/
def schedRuns (s : State) (e : Eng) : Bool :=
  inService s && treeEng s e = e && ! (getEng s e).mapsStopped
    && ((getEng s e).st = .ramping || (getEng s e).st = .trafficReady) && dpFence s e.txd = .run

/-- Maps whose windows may still matter: those whose turn ended less than two turns ago at the receive input. -/
def keepMaps (s : State) (e : Eng) (l : List MapSt) : List MapSt :=
  l.filter (fun m => uscOf s e < (turnSyms * (m.tn + 4) : Nat))

/-- A turn is scaled under R327: raised at most once per second, and counted once a turn. -/
def noteOverbook (e : Eng) (k : Overbook) (counted : Bool) (s : State) : State :=
  let f := fun (n : Nat) => oncePerSec 0x0807 (engObjId e)
    (schedEvent e 0x0807 (engObjId e) (packData [(16, n)]) 6) (count 12 e.num 14 (b01 (! counted)) s)
  match k with
  | .none => s
  | .fixed n => f n
  | .assured n => f n

/-- A map computed on a basis. -/
def computed (s : State) (e : Eng) (b : Basis) (tn : Nat) (sq : List Square) (gr : List Grant) (counted : Bool) : MapSt :=
  let k := overbook s e b tn sq gr
  { tn := tn, committed := false, recompute := false, squares := sq, grants := gr, unserved := leftOver b k gr, basis := b
    scaled := counted || k ≠ .none }

/-- MAP_COMPUTE (R325 to R328): at the start of turn TN − 3 the scheduler computes the map for turn TN. Which of the legal maps
it computes is the command's operand. -/
def execMapCompute (e : Eng) (squares : List Square) (grants : List Grant) (s : State) : Out :=
  let tn := turnOf s e + 3
  let b := basisOf s e tn
  act (schedRuns s e && ! (getEng s e).maps.any (fun m => m.tn = tn) && squaresOk b tn squares
        && legalMap s e b tn squares grants) (fun s =>
    noteOverbook e (overbook s e b tn squares grants) false (modEng e (fun x => { x with
      maps := keepMaps s e x.maps ++ [computed s e b tn squares grants false] }) s)) s

/-- The map of a turn whose recomputation is running, and what that began on. -/
def recomputing (s : State) (e : Eng) (tn : Nat) : Option MapSt :=
  (getEng s e).maps.find? (fun m => m.tn = tn && m.recompute && ! m.committed)
def nextBasis (m : MapSt) : Basis := m.next.getD m.basis

/-- MAP_RECOMPUTE_DONE (R328): the recomputation of a speculative map ends before its first cell, and the struck capacity is
placed again, on what was in force when it began. -/
def execMapRecomputeDone (e : Eng) (tn : Nat) (grants : List Grant) (s : State) : Out :=
  act (schedRuns s e && (match recomputing s e tn with
      | some m => legalMap s e (nextBasis m) tn m.squares grants
      | none => false)) (fun s =>
    match recomputing s e tn with
    | none => s
    | some m =>
      noteOverbook e (overbook s e (nextBasis m) tn m.squares grants) m.scaled (modEng e (fun x => { x with maps := x.maps.map (fun y =>
        if y.tn = tn then computed s e (nextBasis m) tn m.squares grants m.scaled else y) }) s)) s

/-- HELD_MESSAGES_SEND (R606): the control slots carry control cells again, and the held messages go out in their order. -/
def execHeldMessagesSend (e : Eng) (s : State) : Out :=
  act (inService s && treeEng s e = e && ctlUp s e && (getEng s e).down.held ≠ [])
    (modDown e (fun d => { d with ctl := d.ctl ++ d.held, held := [] })) s

/-- TIME_MESSAGE_SEND (R374): a TIME message arises, with the zero-distance delay and TOD_LEAF_ASYM. FN and the time at which that frame
begins are those of the moment it is sent (`Msg.stamp`). -/
def execTimeMessageSend (e : Eng) (s : State) : Out :=
  act (inService s && dpFence s .tod = .run && treeEng s e = e && (getEng s e).down.framer)
    (fun s => sendMsg e (.time 0 0 0 0 (zOf s e) (getReg s .todLeafAsym .A 0)) s) s

/-! ## Burst records (R317) -/

/-- A report is of a good burst (R317): its header passed and its outcome is GOOD or PARTIAL. -/
def goodReport (p : Report) : Bool := p.r.hdrValid && p.r.outcome ≤ 1

/-- Remove the first report that satisfies `p`. -/
def dropFirst (p : Report → Bool) : List Report → List Report
  | [] => []
  | a :: l => if p a then l else a :: dropFirst p l

/-- Take the first report that satisfies `p`. -/
def takeReport (e : Eng) (p : Report → Bool) (s : State) : Option Report × State :=
  ((getEng s e).reports.find? p, modEng e (fun x => { x with reports := dropFirst p x.reports }) s)

/-- A report of a good discovery burst, of a good ranging burst, and of anything else. -/
def isDisc (p : Report) : Bool := goodReport p && p.r.kind = 1
def isRang (p : Report) : Bool := goodReport p && p.r.kind = 2

/-- Landing error bounds in 1/64 symbol. -/
def oneSym : Nat := 64
def fourSym : Nat := 256

/-- A RANGE for a leaf has arisen and waits to be sent. -/
def rangeWaits (s : State) (e : Eng) (l : LeafId) : Bool :=
  let d := (getEng s (treeEng s e)).down
  (d.ctl ++ d.held).any (fun m => match m with
    | .range k (some _) _ => k = l
    | _ => false)

/-- A RANGE is outstanding: it has not been sent, or its APPLY_TURN has not passed (R322). -/
def rangePending (s : State) (e : Eng) (l : LeafId) : Bool :=
  rangeWaits s e l || (match (getLeaf s e l).applyTurn with
    | some t => decide (turnOf s (treeEng s e) ≤ t)
    | none => false)

/-- The delay at which a leaf launched a burst of a window: EQD_DISC in a square, and otherwise its EqD, which a RANGE changes from
APPLY_TURN on (R310, R317, R319). -/
def eqdFor (s : State) (e : Eng) (l : LeafId) (w : Window) : Int :=
  let x := getLeaf s e l
  if w.kind = .square then eqdDisc s e
  else if rangeWaits s e l then x.eqdWas
  else match x.applyTurn with
    | some t => if turnNo w < t then x.eqdWas else x.eqd
    | none => x.eqd

/-- A RANGE with a corrected delay arises; it is given its APPLY_TURN when it is sent (R319, `Msg.stamp`). -/
def sendRange (e : Eng) (l : LeafId) (eqd : Int) (s : State) : State :=
  let was := if rangeWaits s e l then (getLeaf s e l).eqdWas else (getLeaf s e l).eqd
  sendMsg e (.range l (some eqd) 0) (modLeaf e l.val (fun x => { x with eqd := eqd, eqdWas := was, errs := [] }) s)

/-- LEAF_RTD after a burst with a good header that landed with error `err` (R317). -/
def noteRtd (e : Eng) (l : LeafId) (w : Window) (err : Int) (s : State) : State :=
  modLeaf e l.val (fun x => { x with rtd := 64 * (zOf s e : Int) - (eqdFor s e l w - err) }) s

/-- A number held within bounds. -/
def clampInt (lo hi x : Int) : Int := max lo (min hi x)

/-- A good burst's latched power joins its leaf's mean; after every 8 the launch power follows the target (R321). -/
def notePow (e : Eng) (l : LeafId) (p : Int) (s : State) : State :=
  let x := getLeaf s e l.val
  let ps := p :: x.pows
  if ps.length < 8 then setLeaf e l.val { x with pows := ps } s
  else
    let mean := ps.sum / 8
    let diff := 100 * pwrTarget s e - mean
    let x := { x with pows := [], rxPow := mean }
    if 100 < diff.natAbs && ctlRuns s (treeEng s e).txd then
      let v := clampInt (-40) 60 (x.launch + clampInt (-30) 30 (diff.tdiv 10))
      sendMsg e (.power l v) (setLeaf e l.val { x with launch := v } s)
    else setLeaf e l.val x s

/-! ## Discovery (R315, R316) -/

/-- Bytes of a discovery payload, when every byte is good. -/
def payloadBytes (l : List SByte) : Option (List Byte) := if anyLost l then none else some (sBytes l)

def discSerial (b : List Byte) : BitVec 128 := BitVec.ofNat 128 (beAt b 0 16)
def discNonce (b : List Byte) : BitVec 128 := BitVec.ofNat 128 (beAt b 16 16)
def discCaps (b : List Byte) : Nat := beAt b 32 2
def discK (b : List Byte) : Nat := byteAt b 34
def discCrcOk (b : List Byte) : Bool := crc32c (b.take 1691) = beAt b 1691 4

/-- An enabled container names a leaf as TARGET. -/
def targeted (s : State) (e : Eng) (l : Nat) : Bool :=
  s.ctrs.any (fun p => p.1 / 32768 = (treeOf s e).num && ctrEn p.2.w0 && ! ctrMcast p.2.w0 && ctrTarget p.2.w0 = l)

/-- The unpinned GONE entry with the oldest departure that no enabled container names. -/
def oldestGone (s : State) (e : Eng) : Option Nat :=
  let l := leavesIn s e (fun x => x.st = .gone && ! x.pin)
  (l.filter (fun i => ! targeted s e i)).foldl (fun a i => match a with
    | some j => if (getLeaf s e i).goneAt < (getLeaf s e j).goneAt then some i else some j
    | none => some i) none

/-- The ID for a serial, by the first rule of R316 that applies. -/
def chooseId (s : State) (e : Eng) (serial : BitVec 128) : Option Nat :=
  match (leavesIn s e (fun x => x.pin && x.serial = serial)).head? with
  | some l => some l
  | none =>
    match (leavesIn s e (fun x => x.st ≠ .free && x.serial = serial)).head? with
    | some l => some l
    | none =>
      match lowest 4096 (fun l => (getLeaf s e l).st = .free && ! (getLeaf s e l).pin && ! targeted s e l) with
      | some l => some l
      | none => oldestGone s e

/-- SCHED_REG.HOLD_S. -/
def holdSecs (s : State) (e : Eng) : Nat := regF s .schedReg e 0 27 16

/-- A serial is on hold until the end of its hold (R316). -/
def onHold (s : State) (e : Eng) (serial : BitVec 128) : Bool :=
  (getEng s (treeOf s e)).holds.any (fun p => p.1 = serial && now s < p.2)
def holdSerial (e : Eng) (serial : BitVec 128) (s : State) : State :=
  modEng (treeOf s e) (fun x => { x with
    holds := (serial, now s + 1000000000 * holdSecs s e) :: x.holds.filter (fun p => now s < p.2 && p.1 ≠ serial) }) s

/-- The LEAF_LIST entries that judge a serial: in Paired mode those of both engines' records, since one table serves the tree (R14, R334; DESIGN
CHOICE, unsafe; notes/assumptions/220.md). -/
def listOf (s : State) (e : Eng) : List (BitVec 128 × Option Nat × Bool) :=
  if s.boot.paired then (getEng s .A).list ++ (getEng s .B).list else (getEng s e).list

/-- LEAF_LIST refuses a serial: DENY, or ADMIT is LIST and it is not listed (R316, R334). -/
def notListed (s : State) (e : Eng) (serial : BitVec 128) : Bool :=
  let l := listOf s e
  l.any (fun p => p.1 = serial && p.2.2) || ((getReg s .schedCfg e 0).getLsbD 0 && ! l.any (fun p => p.1 = serial))

/-- Serial bytes 12 to 15, as events carry them. -/
def serialTail (v : BitVec 128) : Nat := v.toNat % 2 ^ 32

/-- A discovery DEREG (R316, R340, R341). -/
def reject (e : Eng) (serial : BitVec 128) (cause : Nat) (s : State) : State :=
  schedEvent e 0x0805 (engObjId e) (packData [(8, cause), (32, serialTail serial)]) 4
    (count 12 e.num 10 1 (sendMsg e (.deregSerial serial cause (holdSecs s e)) s))

/-- Registered entries of the tree. -/
def registeredCount (s : State) (e : Eng) : Nat := (leavesIn s e registered).length

/-- What the entry of a leaf seen again in the states from ASSIGNED to LOST leaves behind (R311): its old keys are erased, its
windows and its stream end, and LEAF_DEPARTED carries REDISCOVERED. -/
def rediscover (e : Eng) (l : Nat) (s : State) : State :=
  let x := getLeaf s e l
  if ! registered x then s
  else
    let s := idleWindows e (fun tn g => g.leaf.val = l && ahead s e tn g) s
    let s := if x.rerange then rerangeEvent e l 2 x 0 s else s
    let s := dropForLeaf e l (resetLeafRx e l (eraseLeafKeys e l s))
    schedEvent e 0x0804 (leafObjId e l) (packData [(8, causeRediscovered)]) 3
      (modLeaf e l (fun y => { y with cause := causeRediscovered }) s)

/-- A serial is admitted at an ID (R311, R316, R317): the entry is ASSIGNED with the delay its landing gives. Its LAUNCH is SCHED_PWR.DISC
(DESIGN CHOICE, unsafe; notes/assumptions/244.md). -/
def admitLeaf (e : Eng) (l : Nat) (b : List Byte) (err power : Int) (s : State) : State :=
  let s := rediscover e l s
  let x := getLeaf s e l
  let eqd := eqdDisc s e - err
  let launch := 10 * pwrDisc s e
  let y : Leaf := {
    st := .assigned, pin := x.pin, serial := discSerial b, cause := x.cause, grps := x.grps
    eqd := eqd, rtd := 64 * (zOf s e : Int) - eqd, launch := launch, rxPow := power, seen := s.clk.sec % 2 ^ 32
    caps := discCaps b, k := discK b, discAt := now s }
  let s := strike e (fun g => g.leaf.val = l) (setLeaf e l y s)
  let s := sendMsg e (.assign (discSerial b) (discNonce b) (Fin.ofNat 4096 l) eqd launch) s
  schedEvent e 0x0801 (leafObjId e l) (packData [(32, serialTail (discSerial b)), (32, eqd)]) 0 (count 12 e.num 9 1 s)

/-- DISCOVERY_BURST_PROCESS (R316): the checks in their order. -/
def execDiscoveryBurstProcess (e : Eng) (sc : Sc) (s : State) : Out :=
  let p := fun (q : Report) => isDisc q && q.r.sc = sc.val
  act (inService s && treeEng s e = e && (getEng s e).reports.any p) (fun s =>
    let t := takeReport e p s
    let s := t.2
    match t.1 with
    | none => s
    | some q =>
      -- while TXD restarts, a discovery burst stays unanswered (R534)
      if ! ctlRuns s e.txd then s else
      match payloadBytes q.payload with
      | none => s
      | some b =>
        let serial := discSerial b
        let err := landingError q - offsetHere s e
        if ! discCrcOk b || serial = 0 then count 12 e.num 7 1 s
        else if onHold s e serial then count 12 e.num 8 1 s
        else if notListed s e serial then holdSerial e serial (reject e serial causeNotListed s)
        else if err < 0 || 64 * ((sqLen s e : Int) - 4512) < err then holdSerial e serial (reject e serial causeRangeOut s)
        else match chooseId s e serial with
          | none =>
            schedEvent e 0x0808 (engObjId e) (packData [(16, registeredCount s e)]) 7 (reject e serial causeTableFull s)
          | some l => serveDeferred (admitLeaf e l b err q.r.power (count 12 e.num 6 1 s))) s

/-! ## Ranging (R311, R317 to R322) -/

/-- RANGING_BURST_PROCESS (R311, R317, R320, R322): a good ranging burst of a leaf. -/
def execRangingBurstProcess (e : Eng) (l : LeafId) (s : State) : Out :=
  let p := fun (q : Report) => isRang q && q.r.leaf = l.val
  act (inService s && treeEng s e = e && ctlRuns s e.txd && (getEng s e).reports.any p) (fun s =>
    let t := takeReport e p s
    match t.1 with
    | none => t.2
    | some q =>
      let s := notePow e l q.r.power t.2
      let err := landingError q - offsetHere s e
      let x := getLeaf s e l.val
      let new := eqdFor s e l q.w - err
      let pending := rangePending s e l
      let s := modLeaf e l.val (fun y => { y with missRow := 0, wideMiss := 0 }) (noteRtd e l q.w err s)
      match x.st with
      | .assigned =>
        if err.natAbs ≤ fourSym then
          let s := modLeaf e l.val (fun y => { y with st := .registering }) s
          let s := if oneSym < err.natAbs && ! pending then sendRange e l new s else s
          startExchange e l s
        else if pending then s else sendRange e l new s
      | .registering => if oneSym < err.natAbs && ! pending then sendRange e l new s else s
      | .active | .lost =>
        if x.rerange then
          let s := rerangeEvent e l.val 1 x new (modLeaf e l.val (fun y => { y with rerange := false, dedOnly := false }) s)
          sendRange e l new (modLeaf e l.val (fun y => { y with dataWait := true }) s)
        else s
      | .free | .gone => s) s

/-- Take the first ranging window of a leaf that closed without a good header. -/
def dropMissed (l : Nat) : List (Nat × Bool) → List (Nat × Bool)
  | [] => []
  | p :: r => if p.1 = l then r else p :: dropMissed l r

/-- The first such window of a leaf: whether it was wide. -/
def missedOf (s : State) (e : Eng) (l : Nat) : Option Bool := ((getEng s e).missed.find? (fun p => p.1 = l)).map (fun p => p.2)

/-- RANGING_WINDOW_MISSED (R311, R320): a ranging window has closed without a good header. Only a wide one counts for re-ranging. -/
def execRangingWindowMissed (e : Eng) (l : LeafId) (s : State) : Out :=
  let x := getLeaf s e l.val
  let wide := (missedOf s e l.val).getD false
  act (inService s && treeEng s e = e && ctlRuns s e.txd && (missedOf s e l.val).isSome) (fun s =>
    let s := modEng e (fun y => { y with missed := dropMissed l.val y.missed }) s
    match x.st with
    | .assigned =>
      if x.missRow + 1 < 4 then setLeaf e l.val { x with missRow := x.missRow + 1 } s
      else serveDeferred (depart e l.val causeRangeFail 0 true s)
    | .active | .lost =>
      if x.rerange && ! x.dedOnly && wide then
        setLeaf e l.val { x with wideMiss := x.wideMiss + 1, dedOnly := 2 ≤ x.wideMiss + 1 } s
      else s
    | .registering | .free | .gone => s) s

/-- The mean of a list of landing errors, rounded toward zero. -/
def landingMean (l : List Int) : Int := l.sum.tdiv l.length

/-- A good data burst of a leaf of the tree moves its means: re-ranging on the mean of two, RANGE on the mean of eight
(R319, R320). Bursts under an outstanding RANGE do not count. -/
def noteLanding (e : Eng) (l : LeafId) (err : Int) (s : State) : State :=
  let x := getLeaf s e l.val
  if rangePending s e l || x.rerange then s
  else
    let es := (err :: x.errs).take 8
    let s := setLeaf e l.val { x with errs := es } s
    if es.length ≥ 2 && 2 * fourSym < (es.take 2).sum.natAbs && (x.st = .active || x.st = .lost) then
      startRerange e l.val 3 (modLeaf e l.val (fun y => { y with errs := [] }) s)
    else if es.length = 8 && 8 * oneSym < es.sum.natAbs && ctlRuns s (treeEng s e).txd then sendRange e l (x.eqd - landingMean es) s
    else s

/-- BURST_REPORT_PROCESS (R15, R286, R319, R321): the scheduler takes the next burst record of a subcarrier. The standby's
records give its arrival offset; while a switch settles they give the common offset. The spec does not say how the standby forms its
offset from landings: it starts at 0, each good burst's landing error about the offset so far is added, and it keeps its sign after a
switch (DESIGN CHOICE, unsafe; notes/assumptions/164.md). -/
def execBurstReportProcess (e : Eng) (sc : Sc) (s : State) : Out :=
  let p := fun (q : Report) => ! isDisc q && ! isRang q && q.r.sc = sc.val
  act (inService s && (getEng s e).reports.any p) (fun s =>
    let t := takeReport e p s
    let s := t.2
    match t.1 with
    | none => s
    | some q =>
      let l : LeafId := Fin.ofNat 4096 q.r.leaf
      let err := landingError q - offsetHere s e
      if ! q.r.hdrValid || q.r.kind = 1 || ! registered (getLeaf s e l) then s
      else if s.boot.paired && s.aps.work ≠ some e then
        when (goodReport q && ! q.r.wrongWindow) (fun s => { s with aps := { s.aps with dup := s.aps.dup + err } }) s
      else
        let s := noteRtd e l q.w err s
        if ! goodReport q then s
        else
          let s := notePow e l q.r.power s
          if s.boot.paired && s.aps.st = 3 then
            { s with aps := { s.aps with errs := if s.aps.errs.length < 64 then (l.val, landingError q) :: s.aps.errs else s.aps.errs } }
          else noteLanding e l err s) s

/-! ## Registration (R311, R322, R323) -/

/-- The containers a leaf hears of: those whose TARGET is it, and the multicast ones of its groups (R323). -/
def leafCtrs (s : State) (e : Eng) (l : Nat) (groups : List Nat) : List (Nat × Ctr) :=
  s.ctrs.filter (fun p => p.1 / 32768 = (treeOf s e).num && ctrEn p.2.w0
    && (if ctrMcast p.2.w0 then decide (ctrTarget p.2.w0 ∈ groups) else decide (ctrTarget p.2.w0 = l)))

/-- BANKER_REG_SUCCESS (R311, R323, R453): the leaf is ACTIVE; ACTIVATE, CTR, SSET and GROUP go out, and the keys of its groups
are delivered. -/
def execBankerRegSuccess (e : Eng) (l : LeafId) (s : State) : Out :=
  let x := getLeaf s e l.val
  act (inService s && treeEng s e = e && ctlRuns s e.txd && x.st = .registering && x.exch.reg = 3) (fun s =>
    let gs := groupsOf x.grps
    let s := setLeaf e l.val { x with st := .active, grpNow := x.grps, exch := { x.exch with running := false }
                                      lastGrant := turnOf s e } s
    let s := sendMsg e (.activate l) s
    let cs := leafCtrs s e l.val gs
    let fn := treeFrames s e % 65536
    let s := forAll cs (fun p => sendMsg e (.ctr l (p.1 % 32768) (if p.2.pend then p.2.effFn else fn) p.2.w0)) s
    let s := forAll (cs.map (fun p => ctrSset p.2.w0)).eraseDups (fun i t =>
      let y := getSset t e i
      sendMsg e (.sset i (if y.pend then y.effFn else fn) (wordList (writtenWords y))) t) s
    let s := sendMsg e (.group l fn (wordList x.grps)) s
    let s := forAll gs (wantGroup e l) s
    schedEvent e 0x0802 (leafObjId e l) (packData [(32, (now s - x.discAt) / 1000)]) 1 s) s

/-- A registration ends without success: DEREG with HOLD_S, departure to FREE, and the serial is held (R311). -/
def endRegistration (e : Eng) (l : LeafId) (cause : Nat) (s : State) : State :=
  let serial := (getLeaf s e l.val).serial
  holdSerial e serial (depart e l.val cause (holdSecs s e) true s)

/-- BANKER_REG_FAILURE (R311). -/
def execBankerRegFailure (e : Eng) (l : LeafId) (s : State) : Out :=
  let x := getLeaf s e l.val
  act (inService s && treeEng s e = e && ctlRuns s e.txd && x.st = .registering && x.exch.reg = 4)
    (fun s => serveDeferred (endRegistration e l causeAuthFail s)) s

/-- REG_TIMEOUT (R311): SCHED_REG.TIMEOUT_MS elapses in REGISTERING. -/
def execRegTimeout (e : Eng) (l : LeafId) (s : State) : Out :=
  act (inService s && treeEng s e = e && ctlRuns s e.txd && (getLeaf s e l.val).st = .registering)
    (fun s => serveDeferred (endRegistration e l causeTimeout s)) s

/-! ## Departure and the leaf table (R311, R331 to R333, R338, R339) -/

/-- LEAF_DEPART_TIMEOUT (R311): a leaf has been LOST for DEPART_S. -/
def execLeafDepartTimeout (e : Eng) (l : LeafId) (s : State) : Out :=
  act (inService s && treeEng s e = e && (getLeaf s e l.val).st = .lost)
    (fun s => serveDeferred (depart e l.val causeDeparted 0 false s)) s

/-- A GONE entry becomes FREE; its memberships stay. -/
def freedEntry (x : Leaf) (serial : BitVec 128) : Leaf :=
  { pin := x.pin, serial := serial, cause := x.cause, grps := x.grps }

/-- LEAF_STICKY_EXPIRY (R311, R332): STICKY_H after its departure an unpinned GONE entry becomes FREE. -/
def execLeafStickyExpiry (e : Eng) (l : LeafId) (s : State) : Out :=
  let x := getLeaf s e l.val
  act (inService s && x.st = .gone && ! x.pin) (setLeaf e l.val (freedEntry x 0)) s

/-- A host write of LEAF_CTL (R338, R339). -/
def writeLeafCtl (e : Eng) (l : LeafId) (v : W32) (s : State) : State × Status :=
  let x := getLeaf s e l.val
  let dereg := v.getLsbD 0
  let rer := v.getLsbD 1
  let rel := v.getLsbD 2
  let out := x.st = .free || x.st = .gone
  let bad := (rel && ! dereg) || (dereg && out) || (rer && (out || x.st = .assigned || x.st = .registering))
  refuseOr ((writeGate s e.txd).worse (if bad then .errState else .ok)) (fun s =>
    if dereg then serveDeferred (depart e l.val causeHost 0 rel s) else if rer then startRerange (treeEng s e) l.val 4 s else s) s

/-- LEAF_CTL_DEREG and LEAF_CTL_RERANGE (R311, R320). -/
def execLeafCtlDereg (e : Eng) (l : LeafId) (release : Bool) (s : State) : Out :=
  .next (setStatus (writeLeafCtl e l (if release then 5 else 1) s))
def execLeafCtlRerange (e : Eng) (l : LeafId) (s : State) : Out :=
  .next (setStatus (writeLeafCtl e l 2 s))

/-- A serial with its word `x` replaced; word 0 holds bytes 0 to 3. -/
def serialWith (v : BitVec 128) (x : Nat) (w : W32) : BitVec 128 :=
  let k := 32 * (3 - x)
  (v &&& ~~~ (BitVec.ofNat 128 0xFFFFFFFF <<< k)) ||| (w.setWidth 128 <<< k)

/-- A host write of LEAF_SERIAL_x (R339): a GONE entry becomes FREE. -/
def writeLeafSerial (e : Eng) (l : LeafId) (i : Fin 4) (v : W32) (s : State) : State × Status :=
  let x := getLeaf s e l.val
  refuseOr ((writeGate s e.txd).worse (if ! (x.st = .free || x.st = .gone) || x.pin then .errState else .ok)) (fun s =>
    let n := serialWith x.serial i.val v
    setLeaf e l.val (if x.st = .gone then freedEntry x n else { x with serial := n }) s) s

/-- LEAF_SERIAL_WRITE (R338, R339). -/
def execLeafSerialWrite (e : Eng) (l : LeafId) (i : Fin 4) (v : W32) (s : State) : Out :=
  .next (setStatus (writeLeafSerial e l i v s))

/-- A host write of LEAF_STATE: PIN (R339). -/
def writeLeafState (e : Eng) (l : LeafId) (v : W32) (s : State) : State × Status :=
  let x := getLeaf s e l.val
  let pin := v.getLsbD 4
  let twin := (leavesIn s e (fun y => y.serial = x.serial)).any (fun k => k ≠ l.val)
  refuseOr ((writeGate s e.txd).worse (if pin && (x.serial = 0 || twin) then .errState else .ok))
    (setLeaf e l.val { x with pin := pin }) s

end Sys2Proof.Machine
end

