-- ==== Sys2Proof/Machine/Launch.lean ====
section
/-! DEFINITION. FRAME_LAUNCH: headers, control streams with their maps, the cells of slot sets and what a frame counts
(R118, R123 to R140, R253 to R258, R276, R277, R279 to R281, R296, R301 to R309, R359, R364). -/

namespace Sys2Proof.Machine

/-! ## Control messages on the wire (R303, R304, R306, R307, R374, R448) -/

/-- DEST of every message to all leaves, and to an unregistered leaf. -/
def destAll : Nat := 0xFFFF
def destSerial : Nat := 0xFFFE

/-- A message: header, payload and CRC-32C (R303). -/
def wire (mtype dest : Nat) (payload : List Byte) : List Byte :=
  let h := toBytes 1 mtype ++ [0] ++ toBytes 2 dest ++ toBytes 2 payload.length ++ [0, 0]
  h ++ payload ++ toBytes 4 (crc32c (h ++ payload))

/-- A grant entry (R306). -/
def grantEntry (g : Grant) : Nat :=
  g.leaf.val * 2 ^ 52 + g.sc.val * 2 ^ 47 + (if g.ranging then 2 else 0) * 2 ^ 45 + g.fmt.val * 2 ^ 43
    + b01 g.short * 2 ^ 42 + g.start % 2 ^ 21 * 2 ^ 21 + g.len % 2 ^ 21

/-- A square entry (R307). -/
def squareEntry (q : Square) : Nat :=
  q.sc.val * 2 ^ 59 + b01 q.dedicated * 2 ^ 58 + (if q.dedicated then q.leaf.val else 0) * 2 ^ 46
    + q.start % 2 ^ 21 * 2 ^ 25 + q.len16 % 2 ^ 17 * 2 ^ 8

/-- START_FN and START_SYM of a turn (R306). -/
def turnWord (tn : Nat) : W32 :=
  let d := turnSyms * tn
  wordOf [(16, d / frameSyms % 65536), (0, d % frameSyms)]

/-- A registration record (R448): RTYPE, RLEN and the body, padded to a whole word. -/
def regRecord (rtype : Nat) (body : List Byte) : List Byte :=
  wordBytes (wordOf [(24, rtype), (0, body.length)]) ++ body ++ List.replicate ((4 - body.length % 4) % 4) 0

/-- A message as bytes (R304). REG goes to the leaf alone (R448). Echoes travel in management units, where DEST is the leaf at the other end;
no rule has the module send one (notes/assumptions/194.md). -/
def Msg.bytes : Msg → List Byte
  | .map tn half gs => wire 0x01 destAll (wordBytes (wordOf [(16, tn % 65536), (0, half)]) ++ wordBytes (turnWord tn)
      ++ wordBytes (wordOf [(0, gs.length)]) ++ gs.flatMap (fun g => toBytes 8 (grantEntry g)))
  | .squares tn sq eqd dl m w => wire 0x02 destAll (wordBytes (wordOf [(16, tn % 65536), (0, sq.length)])
      ++ wordBytes (turnWord tn) ++ toBytes 4 eqd ++ toBytes 4 (toBits 16 dl)
      ++ wordBytes (wordOf [(16, w), (0, m)]) ++ sq.flatMap (fun q => toBytes 8 (squareEntry q)))
  | .assign serial nonce leaf eqd launch => wire 0x03 destSerial (toBytes 16 serial.toNat ++ toBytes 16 nonce.toNat
      ++ toBytes 4 leaf.val ++ toBytes 4 (toBits 32 eqd) ++ toBytes 4 (toBits 16 launch))
  | .range leaf eqd at' => wire 0x04 leaf.val (toBytes 4 (match eqd with
      | some x => toBits 32 x
      | none => 0xFFFFFFFF) ++ toBytes 4 at')
  | .power leaf launch => wire 0x05 leaf.val (toBytes 4 (toBits 16 launch))
  | .sset i fn ws => wire 0x06 destAll (wordBytes (wordOf [(16, fn), (0, i)]) ++ ws.flatMap wordBytes)
  | .ctr leaf c fn w => wire 0x07 leaf.val (wordBytes (wordOf [(16, fn), (0, c)]) ++ wordBytes w)
  | .group leaf fn ws => wire 0x08 leaf.val (wordBytes (wordOf [(0, fn)]) ++ ws.flatMap wordBytes)
  | .reg leaf rtype body => wire 0x09 leaf.val (regRecord rtype body)
  | .activate leaf => wire 0x0A leaf.val []
  | .deregLeaf leaf cause hold => wire 0x0B leaf.val (wordBytes (wordOf [(16, hold), (0, cause)]))
  | .deregSerial serial cause hold => wire 0x0B destSerial (toBytes 16 serial.toNat
      ++ wordBytes (wordOf [(16, hold), (0, cause)]))
  | .time fn hi lo ns z asym => wire 0x20 destAll (wordBytes (wordOf [(16, fn), (0, hi)]) ++ wordBytes lo ++ toBytes 4 ns
      ++ toBytes 4 z ++ wordBytes asym)
  | .echoReq leaf b => wire 0x10 leaf.val b
  | .echoRsp leaf b => wire 0x11 leaf.val b

/-! ## Where cells begin (R127, R135 to R139) -/

/-- The row of a multiframe in which an information bit lies, and its column (R132, R134). -/
def bitRow (pos : Nat) : Nat × Nat := (pos / 57121 * 256 + pos % 57121 / 239, pos % 57121 % 239)

/-- Cell starts of a subcarrier in undelayed frame `fc`: (information bit, slot), and where the next cell stands after it. -/
def cellStarts (fmt fc : Nat) (x : ScSt) : List (Nat × Nat) × ScSt :=
  let k := cellsInFrame fmt fc x.pos
  let next := x.pos + cellBits * k
  let y := { x with slot := (x.slot + k) % 16 }
  ((List.range k).map (fun j => (x.pos + cellBits * j, (x.slot + j) % 16)),
    if fc = 255 then
      let p := next - infoPerMultiframe fmt
      { y with pos := p, ptr := p }
    else { y with pos := next })

/-- Place of a cell's first bit within its frame, on one scale for every format (R256). -/
def startKey (fmt fc pos : Nat) : Nat :=
  let p := bitRow pos
  ((p.1 - fc * rowsPerFrame fmt) * 256 + p.2) * (120 / bitsPerSymbol fmt)

/-- Control cells, those of slot 0, among the cells that begin in a frame. -/
def ctlIn (l : List (Nat × Nat)) : Nat := (l.filter (fun c => c.2 = 0)).length

/-- The first frame at or after `f0` in which a slot-0 cell of a subcarrier begins, past `skip` of them, from its state before
frame `f`; `fuel` bounds the frames looked at. -/
def nextControl (fmt f0 : Nat) : Nat → Nat → Nat → ScSt → Option Nat
  | 0, _, _, _ => none
  | fuel + 1, skip, f, x =>
    let p := cellStarts fmt (f % 256) x
    let k := if f0 ≤ f then ctlIn p.1 else 0
    if skip < k then some f else nextControl fmt f0 fuel (skip - k) (f + 1) p.2

/-- Control cells of a subcarrier that begin in the frames from `f` to before `stop`; `fuel` bounds the frames looked at. -/
def ctlCells (fmt stop : Nat) : Nat → Nat → ScSt → Nat
  | 0, _, _ => 0
  | fuel + 1, f, x =>
    if stop ≤ f then 0
    else
      let p := cellStarts fmt (f % 256) x
      ctlIn p.1 + ctlCells fmt stop fuel (f + 1) p.2

/-- A group sends frames: the laser is not dark and the group is in RAMP_ON, SETTLING, ON or RAMP_OFF (R143). -/
def grpSends (s : State) (e : Eng) (g : Nat) : Bool :=
  (getEng s e).down.laser ≠ .dark &&
    (match (getGrp s e g).st with
     | .rampOn | .settling | .on | .rampOff => true
     | .off | .waiting => false)

/-- An engine of a pair keeps step in the dark: it stands by, or it was working and a switch has taken its output dark (R118, R286). -/
def inLockstep (s : State) (e : Eng) : Bool :=
  (getEng s e).st = .standby || (s.boot.paired && s.aps.st = 2 && s.aps.rampOn && s.aps.work = some e)

/-- A group's streams run: it sends, or its engine keeps step. -/
def grpRuns (s : State) (e : Eng) (g : Nat) : Bool := grpSends s e g || (inLockstep s e && grpEn s e g)

def getScSt (s : State) (e : Eng) (n : Nat) : ScSt := tget {} (getEng s e).down.scs n

/-- A subcarrier's stream runs and has begun. -/
def scRuns (s : State) (e : Eng) (n : Nat) : Bool := grpRuns s e (n / 4) && (getScSt s e n).live

/-- The samples of an engine's ADCs are numbered from the upstream count that its frames give (R230, R297): 9 symbols a nanosecond
since the first word. -/
def tieUsc (e : Eng) (s : State) : State :=
  let u := 64 * (rawUsc s e - 9 * ((s.clk.now : Int) - (getEng s e).words.origin))
  modEng e (fun x => { x with inp := { x.inp with usc := u } }) s

/-- The streams of a standby engine begin at its first multiframe boundary, as though it had been sending (R286;
notes/assumptions/158.md). -/
def startLockstep (e : Eng) (s : State) : State :=
  if ! atMultiframe s e then s
  else forAll (List.range 8) (fun g t => when (grpRuns t e g && ! (getScSt t e (4 * g)).live) (startStream e g) t) s

/-! ## Maps in the control streams (R301, R305, R307, R328) -/

/-- The first frame in which the map for a turn may begin (R301). -/
def mapFrame (tn : Nat) : Nat := ceilDiv (turnSyms * (tn - 2)) frameSyms

/-- The undelayed frame in which the control cell number `k` of a subcarrier, counted from frame `f`, has its last bit; `fuel` bounds the
frames looked at. -/
def controlEnd (fmt : Nat) : Nat → Nat → Nat → ScSt → Option Nat
  | 0, _, _, _ => none
  | fuel + 1, k, f, x =>
    let p := cellStarts fmt (f % 256) x
    match (p.1.filter (fun c => c.2 = 0))[k]? with
    | some c => some (if c.1 + cellBits ≤ infoBefore ((f % 256 + 1) * rowsPerFrame fmt) then f else f + 1)
    | none => controlEnd fmt fuel (k - ctlIn p.1) (f + 1) p.2

/-- Bytes at the head of a control stream that go before the next map: those of a message that has begun. -/
def begunBytes (d : Down) (n : Nat) : Nat :=
  if n = 0 then d.ctlNext0.headD d.ctlBytes0.length else d.ctlNext16.headD d.ctlBytes16.length

/-- The MAP and SQUARES messages of a map for a half of the subcarriers (R305, R307), with the settings it was computed on (R328). -/
def mapBytes (m : MapSt) (half : Nat) : List (List Byte) :=
  [(Msg.map m.tn half (m.grants.filter (fun g => g.sc.val / 16 = half))).bytes,
    (Msg.squares m.tn m.squares (toBits 32 m.basis.eqd) m.basis.launch m.basis.margin m.basis.wide).bytes]

/-- Begun in frame `f`, a map would have every bit of its last cell launched before DSC turn TN − 1, the 8 frames over which its rows are
spread included (R135, R301). -/
def mapInTime (s : State) (e : Eng) (m : MapSt) : Bool :=
  let f := (getEng s e).down.frames
  [0, 1].all (fun h =>
    let n := 16 * h
    let bytes := begunBytes (getEng s e).down n + (mapBytes m h).flatten.length
    match controlEnd (grpFmt s e (n / 4)) 300 (ceilDiv bytes cellBytes - 1) f (getScSt s e n) with
    | some y => decide (frameSyms * (y + 8) ≤ turnSyms * (m.tn - 1))
    | none => false)

/-- A map is due, and too late to be sent. -/
def mapLate (s : State) (e : Eng) (m : MapSt) : Bool :=
  ! m.committed && mapFrame m.tn ≤ (getEng s e).down.frames && ! mapInTime s e m

/-- The next map to be sent: the lowest turn among those computed, not committed and not too late. -/
def nextMap (s : State) (e : Eng) : Option MapSt :=
  ((getEng s e).maps.filter (fun m => ! m.committed && ! mapLate s e m)).foldl (fun a m => match a with
    | some x => if m.tn < x.tn then some m else some x
    | none => some m) none

/-- The frame after `f` in which the map of a later turn may begin. -/
def nextMapFrame (f : Nat) : Nat := mapFrame (f * frameSyms / turnSyms + 3)

/-- MAP_PTR before frame `f` (R125): the distance to the first control cell of either stream in which the next map begins. A map
that is due waits for the message that has begun; before that, no message begins that would hold it up (`fillControl`). -/
def mapPtr (s : State) (e : Eng) : Nat :=
  let f := (getEng s e).down.frames
  match nextMap s e with
  | none => 0xFF
  | some m =>
    if ! ctlUp s e then 0xFF
    else
      let skip := fun (n : Nat) => if mapFrame m.tn ≤ f then begunBytes (getEng s e).down n / cellBytes else 0
      let at' := fun (n : Nat) => nextControl (grpFmt s e (n / 4)) (max f (mapFrame m.tn)) 137 (skip n) f (getScSt s e n)
      let d := match at' 0, at' 16 with
        | some a, some b => some (min a b - f)
        | some a, none => some (a - f)
        | none, some b => some (b - f)
        | none, none => none
      match d with
      | some k => if k ≤ 135 then k else 0xFF
      | none => 0xFF

/-- Where a message that ends at offset `o` of a stream ends once `n` bytes have been put behind those of the message that has begun. -/
def endBehind (n begun o : Nat) : Nat := if begun < o then o + n else o

/-- Put bytes into a control stream ahead of every message that has not begun; the offsets of message starts move with it. -/
def insertAhead (new : List (List Byte)) (bytes : List Byte) (starts : List Nat) : List Byte × List Nat :=
  let p := starts.headD bytes.length
  let all := new.flatten
  let offs := (new.foldl (fun (a : List Nat × Nat) b => (a.1 ++ [a.2], a.2 + b.length)) (([] : List Nat), p)).1
  (bytes.take p ++ all ++ bytes.drop p, offs ++ starts.map (fun x => x + all.length))

/-- The grants of a committed map are counted, and its leaves' needs, polls and dedicated squares follow (R325, R340). -/
def commitGrant (e : Eng) (b : Basis) (tn : Nat) (g : Grant) (s : State) : State :=
  let n := grantBlocks b g
  let s := countSched e g.leaf 0 0 1 (countSched e g.leaf 1 1 n s)
  modLeaf e g.leaf (fun x => { x with
    lastGrant := max x.lastGrant tn
    after := if g.ranging then x.after else x.after ++ [(grantGs tn g, n * blockBytes)] }) s

def commitSquare (e : Eng) (tn : Nat) (q : Square) (s : State) : State :=
  if q.dedicated then modLeaf e q.leaf (fun x => { x with lastDed := some tn }) (countSched e q.leaf 12 4 1 s)
  else modEng e (fun x => { x with squareSent := true }) (count 12 e.num 5 1 s)

/-- The map for a turn is committed: MAP and SQUARES enter both control streams; what a recomputation has not placed again is
lost (R328). -/
def commitMap (e : Eng) (m : MapSt) (s : State) : State :=
  let s := modDown e (fun d =>
    let a := insertAhead (mapBytes m 0) d.ctlBytes0 d.ctlNext0
    let b := insertAhead (mapBytes m 1) d.ctlBytes16 d.ctlNext16
    let grow := fun (h : Nat) => endBehind (mapBytes m h).flatten.length (begunBytes d (16 * h))
    { d with ctlBytes0 := a.1, ctlNext0 := a.2, ctlBytes16 := b.1, ctlNext16 := b.2
             holds := d.holds.map (fun o => { o with end0 := grow 0 o.end0, end16 := grow 1 o.end16 }) }) s
  let s := modEng e (fun x => { x with maps := x.maps.map (fun y => if y.tn = m.tn then { y with committed := true } else y) }) s
  let s := count 12 e.num 4 (if m.recompute then m.struckSyms else 0) s
  forAll m.squares (commitSquare e m.tn) (forAll m.grants (commitGrant e m.basis m.tn) s)

/-- Frames from the one launched next to the frame FN that a TIME message names (R374: it begins within 2 ms of the message). -/
def timeAhead : Nat := 1024

/-- What a message carries of the moment at which it is sent: APPLY_TURN of a RANGE is the DSC turn plus 3 (R319); TIME names a frame that
begins within 2 ms, and the TOD time at which it does: the frame launched now begins now (R374). -/
def Msg.stamp (s : State) (e : Eng) : Msg → Msg
  | .range l (some x) _ => .range l (some x) ((turnOf s e + 3) % 65536)
  | .time _ _ _ _ z asym =>
    let t := s.clk.sec * 1000000000 + s.clk.ns + timeAhead * frameSyms / 9
    .time (((getEng s e).down.frames + timeAhead) % 65536) (t / 1000000000 / 2 ^ 32 % 65536) (BitVec.ofNat 32 (t / 1000000000))
      (t % 1000000000) z asym
  | m => m

/-- A leaf's entry follows a RANGE that is sent to it: its delay changes at APPLY_TURN, from which data grants that waited may be given
(R319, R320). -/
def noteSentRange (e : Eng) (m : Msg) (s : State) : State :=
  match m with
  | .range l (some _) _ =>
    let t := turnOf s e + 3
    modLeaf e l.val (fun x => { x with applyTurn := some t, dataWait := false, dataFrom := if x.dataWait then t else x.dataFrom }) s
  | _ => s

/-- The last cell of a HOLD begins in the frame launched now and has its last bit `k` frames on: the data windows that the leaf, still under
HOLD, will no longer send go idle (R328). -/
def holdLeft (e : Eng) (k : Nat) (h : HoldOut) (s : State) : State :=
  let x := getLeaf s e h.leaf
  if x.rerange then idleWindows e (fun tn g => g.leaf.val = h.leaf && ! g.ranging && decide (holdFrom s e k x.eqd < (grantGs tn g : Int))) s else s

/-- Bytes of the messages waiting enter both control streams until each can fill `k` cells (R305). A message begins only when it
ends before the cell in which the next map begins, of the `room0` and `room16` control cells up to there (R125;
notes/assumptions/159.md). -/
def fillControl (stamp : Msg → Msg) (k room0 room16 : Nat) : Nat → Down → Down
  | 0, d => d
  | fuel + 1, d =>
    match d.ctl with
    | [] => d
    | m :: l =>
      let b := (stamp m).bytes
      if cellBytes * k ≤ d.ctlBytes0.length && cellBytes * k ≤ d.ctlBytes16.length then d
      else if cellBytes * (room0 + 1) ≤ d.ctlBytes0.length + b.length
        || cellBytes * (room16 + 1) ≤ d.ctlBytes16.length + b.length then d
      else
        fillControl stamp k room0 room16 fuel { d with
          ctl := l
          holds := match m with
            | .range leaf none _ => d.holds ++ [⟨leaf.val, d.ctlBytes0.length + b.length, d.ctlBytes16.length + b.length⟩]
            | _ => d.holds
          ctlNext0 := d.ctlNext0 ++ [d.ctlBytes0.length], ctlBytes0 := d.ctlBytes0 ++ b
          ctlNext16 := d.ctlNext16 ++ [d.ctlBytes16.length], ctlBytes16 := d.ctlBytes16 ++ b }

/-- What must happen before the cells of a frame in which control cells begin: a due map is committed, one whose time has
passed is dropped, and messages fill the streams. -/
def prepareControl (e : Eng) (k : Nat) (s : State) : State :=
  if ! ctlUp s e then s
  else
    let f := (getEng s e).down.frames
    let s := dropMaps e (mapLate s e) s
    let s := match nextMap s e with
      | some m => if 0 < k && mapFrame m.tn ≤ f then commitMap e m s else s
      | none => s
    let room := fun (n : Nat) => ctlCells (grpFmt s e (n / 4)) (nextMapFrame f) 300 f (getScSt s e n)
    let d := (getEng s e).down
    let d' := fillControl (Msg.stamp s e) k (room 0) (room 16) (d.ctl.length + 1) d
    forAll (d.ctl.take (d.ctl.length - d'.ctl.length)) (noteSentRange e) (modDown e (fun _ => d') s)

/-! ## Moves between containers (R364) -/

/-- A container move ends: the units held go to the new container's queue (R364). -/
def endMove (f : Nat) (s : State) : State :=
  let x := getFlow s f
  let e : Eng := if x.map.getLsbD 31 then .B else .A
  let c := fld x.map 30 16
  let held := tget [] s.flow.movePend f
  let s := setFlow f { x with moveActive := false } s
  let s := { s with flow := { s.flow with movePend := tset [] s.flow.movePend f [] } }
  modCtr e c (fun y => { y with queue := y.queue ++ held }) s

/-- The old container sent a unit: the hold of its flow ends with the unit before MOVE_FSN. -/
def noteSent (e : Eng) (u : TxUnit) (s : State) : State :=
  let x := getFlow s u.flow
  if x.moveActive && x.oldCid = u.cid && x.oldEng = (treeOf s e).num && (u.fsn + 1) % 2 ^ 32 = x.moveFsn then endMove u.flow s
  else s

/-! ## Cells of a slot set (R256, R359) -/

/-- Quantum of a container in a round (R359). -/
def rrQuantum : Nat := 9600

/-- Take the next unit for a slot set's stream: the container at the head of the round robin sends until its quantum is used, and what its
last unit took beyond it comes off its next quantum; none when no container has a unit. -/
def pullUnit (e : Eng) (i : Nat) : Nat → State → Option State
  | 0, _ => none
  | fuel + 1, s =>
    let x := getSset s e i
    match x.rr with
    | [] => none
    | c :: rest =>
      let y := getCtr s e c
      match y.out with
      | [] => pullUnit e i fuel (setSset e i { x with rr := rest, quantum := 0 } s)
      | u :: more =>
        let q := if x.quantum = 0 then rrQuantum - y.debt else x.quantum
        if q = 0 then
          pullUnit e i fuel (setCtr e c { y with debt := y.debt - rrQuantum } (setSset e i { x with rr := rest ++ [c] } s))
        else
          let n := u.bytes.length
          let x := { x with
            stream := x.stream ++ u.bytes
            units := x.units ++ [(c, n, true)]
            rr := if more = [] then rest else if q ≤ n then rest ++ [c] else x.rr
            quantum := if more = [] then 0 else q - n }
          some (noteSent e u (setCtr e c { y with out := more, debt := if more = [] then 0 else n - q } (setSset e i x s)))

/-- Fill a slot set's stream to a whole cell as far as units wait. -/
def fillStream (e : Eng) (i : Nat) : Nat → State → State
  | 0, s => s
  | fuel + 1, s =>
    if cellBytes ≤ (getSset s e i).stream.length then s
    else match pullUnit e i 513 s with
      | some t => fillStream e i fuel t
      | none => s

/-- Take `n` stream bytes off the list of units: what is left, the offset of the first unit header, and per container the bytes
and whole units that went (R256, R279). -/
def eatUnits : Nat → Nat → List (Nat × Nat × Bool) → List (Nat × Nat × Bool) × Option Nat × List (Nat × Nat × Nat)
  | _, _, [] => ([], none, [])
  | n, off, (c, k, h) :: l =>
    if n = 0 then ((c, k, h) :: l, none, [])
    else
      let m := min n k
      let b := if h then some off else none
      if k ≤ n then
        let r := eatUnits (n - k) (off + k) l
        (r.1, b.orElse (fun _ => r.2.1), (c, m, 1) :: r.2.2)
      else ((c, k - n, false) :: l, b, [(c, m, 0)])

/-- CSEQ of the next cell an engine sends for a slot set. -/
def cseqOf (s : State) (e : Eng) (x : Sset) : Nat := if s.boot.paired && e = .B then x.cseqB else x.cseq
def bumpCseq (s : State) (e : Eng) (x : Sset) : Sset :=
  if s.boot.paired && e = .B then { x with cseqB := (x.cseqB + 1) % 256 } else { x with cseq := (x.cseq + 1) % 256 }

/-- The slot set that holds a slot (R251). -/
def ssetAt (s : State) (e : Eng) (n k : Nat) : Option Nat :=
  (s.ssets.find? (fun p => p.1 / 512 = (treeOf s e).num
    && (wordList p.2.words).any (fun w => (heldMask w n).testBit k))).map (fun p => p.1 % 512)

/-- A cell takes its place in the frame. -/
def sendCell (e : Eng) (c : Cell) (s : State) : State := modDown e (fun d => { d with cells := d.cells ++ [c] }) s

/-- The idle cell of a slot (R140). -/
def idleCell (n k : Nat) : Cell := ⟨n, k, idleHeader k, List.replicate cellBytes 0⟩

/-- The container cell of a slot, or the idle cell. -/
def containerCell (e : Eng) (n k i : Nat) (s : State) : State :=
  let s := fillStream e i (cellBytes + 1) s
  let x := getSset s e i
  if x.stream = [] then sendCell e (idleCell n k) s
  else
    let pay := x.stream.take cellBytes
    let r := eatUnits pay.length 0 x.units
    let cell : Cell := ⟨n, k, cellHeader 1 k (cseqOf s e x) (r.2.1.getD noBoundary),
      pay ++ List.replicate (cellBytes - pay.length) 0⟩
    let y := bumpCseq s e { x with stream := x.stream.drop cellBytes, units := r.1 }
    let s := count 8 (ssetKey s e i) 0 1 (setSset e i y s)
    let s := forAll r.2.2 (fun u t => count 7 (ctrObj t e u.1) 1 u.2.1 (count 7 (ctrObj t e u.1) 0 u.2.2 t)) s
    sendCell e cell s

/-- A control cell takes its bytes from a stream: a HOLD whose last byte is among them has left, in the first of the two streams to carry it
(R328). -/
def takeHolds (e : Eng) (n : Nat) (s : State) : State :=
  let d := (getEng s e).down
  let off := fun (h : HoldOut) => if n = 0 then h.end0 else h.end16
  let fmt := grpFmt s e (n / 4)
  let made := (d.cells.filter (fun c => c.sc = n && c.slot = 0)).length
  let k := ((controlEnd fmt 2 made d.frames (getScSt s e n)).getD d.frames) - d.frames
  forAll (d.holds.filter (fun h => off h ≤ cellBytes)) (holdLeft e k)
    (modDown e (fun d => { d with holds := (d.holds.filter (fun h => cellBytes < off h)).map (fun h =>
      if n = 0 then { h with end0 := h.end0 - cellBytes } else { h with end16 := h.end16 - cellBytes }) }) s)

/-- The control cell of a control slot, when a message is pending (R139, R302). -/
def controlCell (e : Eng) (n : Nat) (s : State) : State :=
  let d := (getEng s e).down
  let bytes := if n = 0 then d.ctlBytes0 else d.ctlBytes16
  let starts := if n = 0 then d.ctlNext0 else d.ctlNext16
  if ! ctlUp s e || bytes = [] then sendCell e (idleCell n 0) s
  else
    let pay := bytes.take cellBytes
    let b := match starts.head? with
      | some o => if o < cellBytes then o else noBoundary
      | none => noBoundary
    let q := if n = 0 then d.ctlSeq0 else d.ctlSeq16
    let cell : Cell := ⟨n, 0, cellHeader 2 0 q b, pay ++ List.replicate (cellBytes - pay.length) 0⟩
    let rest := bytes.drop cellBytes
    let next := (starts.filter (fun o => cellBytes ≤ o)).map (fun o => o - cellBytes)
    sendCell e cell (modDown e (fun d =>
      if n = 0 then { d with ctlBytes0 := rest, ctlNext0 := next, ctlSeq0 := (q + 1) % 256 }
      else { d with ctlBytes16 := rest, ctlNext16 := next, ctlSeq16 := (q + 1) % 256 }) (takeHolds e n s))

/-- One cell of the frame: control, container or idle (R139, R140, R143, R277). From the start of a switch on, units go to the new
engine's cells (R288). -/
def oneCell (e : Eng) (ais : Bool) (n k : Nat) (s : State) : State :=
  if (getGrp s e (n / 4)).st ≠ .on then sendCell e (idleCell n k) s
  else if (n = 0 || n = 16) && k = 0 then controlCell e n s
  else if ais || switchesOff s e then sendCell e (idleCell n k) s
  else match ssetAt s e n k with
    | some i => containerCell e n k i s
    | none => sendCell e (idleCell n k) s

/-- Insert a cell start in the order of R256: by place, then by subcarrier. -/
def insertStart (x : Nat × Nat × Nat) : List (Nat × Nat × Nat) → List (Nat × Nat × Nat)
  | [] => [x]
  | y :: l => if x.1 < y.1 || (x.1 = y.1 && x.2.1 ≤ y.2.1) then x :: y :: l else y :: insertStart x l

/-! ## Headers (R125 to R128, R276, R277, R280, R281) -/

/-- FLOW or CRYP gives no container bytes (R277); AIS clears when the island has resumed. -/
def aisOn (s : State) : Bool :=
  [Isl.flow, Isl.cryp].any (fun i => match dpFence s i with
    | .drain | .fenced | .reset | .resume => true
    | .run | .quiesce => false)

/-- The APS field an engine sends (R280, R281). -/
def apsField (s : State) (e : Eng) : Nat :=
  let rev := b01 ((getReg s .apsCfg .A 0).getLsbD 4)
  let n := regF s .apsCfg .A 0 2 0
  let f := fun (req t w : Nat) => req * 4096 + t * 2048 + w * 1024 + rev * 512 + n * 64
  if s.boot.paired then
    let w := (s.aps.work.getD .A)
    f s.aps.req (s.aps.reqEng.getD w).num w.num
  else f 0 e.num e.num

/-- Leaves of the engine's tree whose RDI_MAP bit is set. -/
def rdiLeaves (s : State) (e : Eng) : List Nat := (leavesIn s e registered).filter (rdiBit s e)

/-- GROUP_STATE of a header (R143). -/
def grpStateCode : GrpState → Nat
  | .rampOn | .settling => 1
  | .rampOff => 2
  | .off | .waiting | .on => 0

/-- The header of a subcarrier in the frame launched now. -/
def headerOf (s : State) (e : Eng) (ais : Bool) (ptr : Nat) (n : Nat) : Header :=
  let fc := fcOf s e
  let g := n / 4
  { fc := fc, mfc := mfcOf s e, aps := apsField s e, ais := ais, rdiAll := engSilent s e, eng := e.num, mapPtr := ptr
    aux := if fc % 2 = 0 then (getScSt s e n).ptr else auxOdd (grpFmt s e g) (grpStateCode (getGrp s e g).st)
    rdiMap := rdiMapOf (rdiBlock n fc) (rdiBit s e) }

/-! ## The frame -/

/-- The framer may launch: the engine has both lasers locked, or its output is still on the way to dark, and TXD is not stopped;
in Paired mode the two framers keep step (R47, R118, R145, R296). -/
def mayLaunch (s : State) (e : Eng) : Bool :=
  s.pwr.run = .ready && (s.pwr.emerg = .none || s.pwr.emergStep = 0)
    && (framesOn (getEng s e).st || (getEng s e).down.laser ≠ .dark)
    && (match dpFence s e.txd with
        | .run | .quiesce | .drain => true
        | .fenced | .reset | .resume => false)
    && (! s.boot.paired || ! (getEng s e).down.framer || ! (getEng s e.other).down.framer
        || (getEng s e).down.frames ≤ (getEng s e.other).down.frames)

/-- The engine whose frames count the turns of a pair: the working one while its frames run, else the other. -/
def turnEng (s : State) : Eng :=
  let w := s.aps.work.getD .A
  if framesOn (getEng s w).st then w else w.other

/-- A frame was launched at an engine, whose turn before it was `was`: where a turn begins the pair counts it (R295). -/
def pairFrame (e : Eng) (was : Nat) (s : State) : State :=
  if turnEng s = e && turnOf s e ≠ was then { s with aps := { s.aps with turns := s.aps.turns + 1 } } else s

/-- The first frame after a start: the count begins at 0, or at the other framer's count in Paired mode (R118, R296). -/
def startFramer (e : Eng) (s : State) : State :=
  if (getEng s e).down.framer then s
  else
    let o := (getEng s e.other).down
    tieUsc e (modDown e (fun d => { d with framer := true, frames := if s.boot.paired && o.framer then o.frames else 0 }) s)

/-- The power reduction of a frame: while the power falls, the part in force is open, between the reduced one and all (R591;
notes/assumptions/250.md). -/
def aprOf (e : Eng) (s : State) : AprEnv × State :=
  let x := (getEng s e).down.aprEnv
  let d := draw Config.freeNat s
  ({ x with fall := x.low + (d.1 : Int) % (16385 - x.low) }, d.2)

/-- The frame of each subcarrier takes its cells from its stream, and goes to the line where its group sends (R116, R123 to
R136, R143, R144). `starts` gives each stream as it stands behind the cells that begin in the frame. -/
def launchLine (e : Eng) (fc : Nat) (starts : List (Nat × ScSt)) (hs : Table (BitVec 128)) (s : State) : State :=
  let r := aprOf e s
  let s := r.2
  let centre := fun (n : Nat) => centre2 (getReg s .usTreeDs e 0).toNat n
  let out := starts.map (fun p =>
    (p.1, launchRows p.1 (grpFmt s e (p.1 / 4)) fc ((getEng s e).down.cells.filter (fun c => c.sc = p.1)) p.2))
  let lines := hs.map (fun h => (h.1, ({
    centre2 := centre h.1
    syms := frameSymbols h.1 (grpFmt s e (h.1 / 4)) h.2 ((out.find? (fun p => p.1 = h.1)).map (fun p => p.2.1) |>.getD [])
    start := s.clk.now, grpEnv := (getGrp s e (h.1 / 4)).env, outEnv := (getEng s e).down.env
    pre := coefNow s e false (txPre h.1), apr := r.1
    lead := (((getEng s e).down.line.find? (fun p => p.1 = h.1)).map (fun p => p.2.ending)).getD [] } : LineFrame)))
  let z := (getEng s e).down.zeros
  let dac := (dacFrame s e (getEng s e).down.frames lines).map (zeroSpan 0 z)
  let s := modDown e (fun d => { d with
    scs := out.foldl (fun t p => tset {} t p.1 p.2.2) d.scs, line := lines, dac := dac, zeros := z - (dac.headD []).length }) s
  modCal e false (fun c => if c.st = .collect then { c with sent := (List.range 4).map (fun a => c.sent.getD a [] ++ dac.getD a []) } else c) s

/-- FRAME_LAUNCH (R123): the next frame leaves on every subcarrier. -/
def execFrameLaunch (e : Eng) (s : State) : Out :=
  act (mayLaunch s e) (fun s =>
    let s := startLockstep e (startFramer e s)
    let fc := fcOf s e
    let scs := (List.range 32).filter (fun n => scRuns s e n)
    let starts := scs.map (fun n => (n, cellStarts (grpFmt s e (n / 4)) fc (getScSt s e n)))
    let ctl := (starts.filter (fun p => p.1 = 0 || p.1 = 16)).map (fun p => ctlIn p.2.1)
    let order := (starts.flatMap (fun p => p.2.1.map (fun c => (startKey (grpFmt s e (p.1 / 4)) fc c.1, p.1, c.2)))).foldr
      insertStart []
    let ais := aisOn s
    let sent := scs.filter (fun n => grpSends s e (n / 4))
    let hs := sent.map (fun n => (n, (headerOf s e ais (mapPtr s e) n).bits))
    let rdi := rdiLeaves s e
    let was := (getEng s e).down
    let live := sent ≠ []
    let s := modDown e (fun d => { d with cells := [], hdr := hs }) s
    let s := forAll order (fun c t => oneCell e ais c.2.1 c.2.2 t) (when live (prepareControl e (ctl.foldl max 0)) s)
    let s := launchLine e fc (starts.map (fun p => (p.1, p.2.2))) hs s
    let s := if live then
        let all := engSilent s e
        let new := (rdi.filter (fun l => ! (l ∈ was.rdiWas))).length
        countCond 10 e.num 3 new rdi.length
          (countCond 10 e.num 2 (b01 (all && ! was.rdiAllWas)) (b01 all)
            (countCond 10 e.num 1 (b01 (ais && ! was.aisWas)) (b01 ais) s))
      else s
    let turn := turnOf s e
    pairFrame e turn (modDown e (fun d => { d with
      frames := d.frames + 1
      aisWas := live && ais, rdiAllWas := live && engSilent s e, rdiWas := if live then rdi else [] }) s)) s

/-- DS_GRP_EN_WRITE (R143, R147). -/
def execDsGrpEnWrite (e : Eng) (v : W32) (s : State) : Out := .next (setStatus (writeGrpEn e v s))

end Sys2Proof.Machine
end

