-- ==== Sys2Proof/Machine/Tally.lean ====
section
/-! DEFINITION. The Tally: cells, their owners and flags, the latch of a second and of a step, summaries and totals, and the
passing of a microsecond (R552 to R566, R369, R516). -/

namespace Sys2Proof.Machine

/-! ## Cells (R559, R561) -/

/-- Set, object and counter index of a cell address. -/
structure CellRef where
  set : Nat
  obj : Nat
  idx : Nat
  deriving DecidableEq, Repr

/-- The cell at a 16-byte aligned address of the Tally window, if one is defined there. -/
def cellAt? (a : Nat) : Option CellRef :=
  let o := a - 0x90000000
  let k := o / 0x800000
  let c := o % 0x800000 / 16
  if 0x90000000 ≤ a ∧ 1 ≤ k ∧ k ≤ 24 ∧ c < tallyN k * tallyObjects k then some ⟨k, c / tallyN k, c % tallyN k⟩ else none

/-- The defect-second counters (R556). -/
def isDefSeconds (k i : Nat) : Bool := (k = 9 && i = 12) || (k = 10 && i = 0)

/-- Engine of an object of a set that is kept per engine; tree objects belong to the working engine in Paired mode (R564). -/
def objEng (s : State) (k o : Nat) : Option Eng :=
  let e := fun (n : Nat) => if o / n = 0 then Eng.A else Eng.B
  let tree := fun (n : Nat) => if s.boot.paired then s.aps.work.getD .A else e n
  match k with
  | 2 | 10 | 12 | 22 => some (e 1)
  | 3 => some (e 32)
  | 4 | 9 | 13 | 21 => some (tree 4096)
  | 5 => some (e 4)
  | 6 => some (e 2)
  | 7 => some (tree 32768)
  | 8 => some (tree 512)
  | 15 | 19 => some (tree 32768)
  | 20 => some (if s.boot.paired then s.aps.work.getD .A
      else if (if o < 16384 then o / 4096 % 2 else (o - 16384) / 2048) = 0 then .A else .B)
  | _ => none

/-- The island that holds the accumulator of counter `i` of object `o` in set `k` (R552, R559). -/
def cellIsl (s : State) (k o i : Nat) : Isl :=
  let e := (objEng s k o).getD .A
  match k with
  | 1 => .pwr
  | 2 => e.rxc
  | 3 | 4 | 9 => e.rxd
  | 5 => e.rxc
  | 6 => if o % 2 = 0 then e.txc else e.rxc
  | 7 => if i < 3 then e.txd else e.rxd
  | 8 | 11 | 12 | 13 => e.txd
  | 10 => if i = 0 then e.rxd else e.txd
  | 14 | 15 | 16 => .flow
  | 17 => if i = 8 || i = 9 then .cltx else .clrx
  | 18 => .clrx
  | 19 => .cryp
  | 20 | 21 | 22 => .key
  | 23 => .dmem
  | _ => .mgt

/-- The objects of an engine that is DISABLED or stopped read 0 with no flag (R558). -/
def cellMute (s : State) (k o : Nat) : Bool :=
  match objEng s k o with
  | some e => (getEng s e).st = .disabled || (getEng s e).stopped
  | none => false

/-- Some cell of an island can carry a flag: its engine is neither DISABLED nor stopped, FRM_MOD's cell of A-TXD belongs to no engine, and
TOD and AON hold no cell (R558, R559). -/
def holdsCells (s : State) (i : Isl) : Bool :=
  match i.eng? with
  | some e => i = .aTxd || ! ((getEng s e).st = .disabled || (getEng s e).stopped)
  | none => i ≠ .tod && i ≠ .aon

/-- Latched value of a cell. -/
def cellValue (s : State) (k o i : Nat) : Nat :=
  if cellMute s k o then 0 else tget 0 s.tally.latched (cellAddr k o i)

/-- Flags of a latched cell: SAT, STEP, FENCED, CHAIN, CARRY (R553, R555, R557, R558). -/
def cellFlags (s : State) (k o i : Nat) : Nat :=
  if cellMute s k o then 0
  else
    let m := tget 0 s.tally.latChain k
    b01 (tget 0 s.tally.latched (cellAddr k o i) = accMax)
      + 2 * b01 s.tally.latStep
      + 4 * b01 (decide ((cellIsl s k o i).row ∈ s.tally.latFenced))
      + 8 * b01 (m.testBit i || (0 < i && m.testBit (i - 1)))
      + 16 * b01 (0 < i && m.testBit (i - 1))

/-- The cells whose latched value comes from a saturated accumulator, in address order (R553). -/
def satCells (s : State) : List CellRef :=
  s.tally.latched.filterMap (fun p => match cellAt? p.1 with
    | some c => if p.2 = accMax && ! cellMute s c.set c.obj then some c else none
    | none => none)

/-- TALLY_SAT (R582): one record for each set with a saturated cell, which names the first of them (notes/assumptions/229.md). -/
def raiseSat (s : State) : State :=
  forAll ((List.range 24).filterMap (fun k => (satCells s).find? (fun c => c.set = k + 1))) (fun c =>
    raise .mgt 0x0101 (c.set * 2 ^ 24 + c.idx * 2 ^ 20 + c.obj) (packData [(32, s.tally.second)])) s

/-! ## Summaries (R556, R563) -/

/-- Latched values of a counter over the objects of its set: those that are not 0. -/
def latchedOf (s : State) (k i : Nat) : List (Nat × Nat) :=
  s.tally.latched.filterMap (fun p => match cellAt? p.1 with
    | some c => if c.set = k && c.idx = i && ! cellMute s k c.obj then some (c.obj, p.2) else none
    | none => none)

/-- Counters of the chain that begins at index `i`: their number, from the chain mask. -/
def chainLen (m : Nat) : Nat → Nat → Nat
  | 0, _ => 1
  | fuel + 1, i => if m.testBit i then 1 + chainLen m fuel (i + 1) else 1

/-- Value of a summary cell; bits 63 to 48 are 0 but for defect seconds (R561). -/
def summaryValue (s : State) (k i : Nat) : Nat :=
  let m := tget 0 s.tally.latChain k
  if isDefSeconds k i then
    let l := latchedOf s k i
    let n := fun (b : Nat) => (l.filter (fun p => p.2.testBit b)).length % 2 ^ 16
    n 0 + n 1 * 2 ^ 16 + n 2 * 2 ^ 32 + n 3 * 2 ^ 48
  else if 0 < i && m.testBit (i - 1) then 0
  else ((List.range (chainLen m (tallyN k) i)).map (fun j =>
    ((latchedOf s k (i + j)).map (fun p => p.2 * 2 ^ (32 * j))).sum)).sum % 2 ^ 48

/-- Flags of a summary cell: the union over the cells summed, those of its whole chain. -/
def summaryFlags (s : State) (k i : Nat) : Nat :=
  let m := tget 0 s.tally.latChain k
  let n := if 0 < i && m.testBit (i - 1) then 1 else chainLen m (tallyN k) i
  (List.range (tallyObjects k)).foldl (fun a o => (List.range n).foldl (fun b j => b ||| cellFlags s k o (i + j)) a) 0

/-- The lowest counter of the chain that a counter belongs to. -/
def chainHead (m : Nat) : Nat → Nat
  | 0 => 0
  | i + 1 => if m.testBit i then chainHead m i else i + 1

/-- Add each summary to its total (R563). -/
def addTotals (s : State) : State :=
  let ks := (s.tally.latched.filterMap (fun p => (cellAt? p.1).map (fun c =>
    (c.set, chainHead (tget 0 s.tally.latChain c.set) c.idx)))).eraseDups
  forAll ks (fun c t =>
    let a := 16 * c.1 + c.2
    let v := min (2 ^ 64 - 1) (tget 0 t.tally.totals a + summaryValue s c.1 c.2)
    { t with tally := { t.tally with totals := tset 0 t.tally.totals a v } }) s

/-! ## Counts of the client lanes (R384 to R387, R416) -/

def grpMode (s : State) (g : Nat) : Nat := regF s .clnGrp .A g 1 0
def portReg (s : State) (p : Nat) : W32 := getReg s .clnPort .A p
def portEn (w : W32) : Bool := w.getLsbD 0
def portLanes (w : W32) : Nat := 2 ^ fld w 2 1
def portLt (w : W32) : Bool := w.getLsbD 6

/-- Type code of R386; 0 for a port that is not enabled. -/
def portType (s : State) (p : Nat) : Nat :=
  let w := portReg s p
  if ! portEn w then 0
  else if grpMode s (p / 4) = 2 then (if w.getLsbD 4 then 5 else 6) else 1 + fld w 2 1

/-- The lanes of a port with a register value. -/
def lanesOf (p : Nat) (w : W32) : List Nat := (List.range (portLanes w)).map (fun j => p + j)

/-- A port is PAM4. -/
def portPam4 (s : State) (p : Nat) : Bool := grpMode s (p / 4) = 1

/-- Count a free number, up to `hi` where there is a bound (notes/assumptions/5.md). -/
def countFree (k o i : Nat) (hi : Option Nat) (s : State) : Nat × State :=
  let d := draw Config.freeNat s
  let n := match hi with
    | none => d.1
    | some m => d.1 % (m + 1)
  (n, count k o i n d.2)

/-- A port receives, on so many PAM4 lanes or on an NRZ lane (R416). -/
def PortSt.received (x : PortSt) (pam : Bool) (lanes : Nat) : PortSt :=
  if pam then { x with rxPam := max x.rxPam lanes } else { x with rxNrz := true }

/-- What the receive lanes counted in the second that ends (R416), which no command carries: the codewords of a PAM4 port that was aligned
or aligning in it, the corrected and the uncorrectable ones among them and the symbols corrected on its lanes, the code
violations of an NRZ lane (R399), and the bit errors of a lane whose checker was locked in it (R409). A valid reference has had some mean
offset within its range (R392, R412). -/
def lineCounts (s : State) : State :=
  let s := forAll (s.cln.ports.filter (fun p => 0 < p.2.rxPam)) (fun p t =>
    let a := countFree 17 p.1 10 none t
    let b := countFree 17 p.1 11 (some a.1) a.2
    let c := countFree 17 p.1 12 (some (a.1 - b.1)) b.2
    forAll (List.range p.2.rxPam) (fun j u => (countFree 18 (p.1 + j) 0 none u).2) c.2) s
  let s := forAll (s.cln.ports.filter (fun p => p.2.rxNrz)) (fun p t => (countFree 18 p.1 1 none t).2) s
  let s := forAll (s.cln.lanes.filter (fun p => p.2.prbsSec)) (fun p t => (countFree 18 p.1 2 none t).2) s
  let s := forAll s.cln.ports (fun p t => modPort p.1 (fun x =>
    let y := { x with rxPam := 0, rxNrz := false }
    if x.st = .align || x.st = .up then y.received (portPam4 t p.1) (portLanes (portReg t p.1)) else y) t) s
  let s := forAll s.cln.lanes (fun p => modLane p.1 (fun x => { x with prbsSec := x.prbs })) s
  if s.cln.refOk then
    let d := draw Config.freeNat s
    { d.2 with cln := { d.2.cln with ppm := (d.1 % 5601 : Nat) - 5300 } }
  else s

/-! ## The latch (R552, R555, R557, R558) -/

/-- Islands that are in DRAIN, FENCED, RESET or RESUME now. -/
def fencedNow (s : State) : List Nat :=
  (Isl.all.filter (fun i => match dpFence s i with
    | .drain | .fenced | .reset | .resume => true
    | .run | .quiesce => false)).map Isl.row

/-- An island enters DRAIN or a later state: the second's cells carry FENCED. -/
def noteFenced (i : Isl) (s : State) : State :=
  if i.row ∈ s.tally.fenced then s else { s with tally := { s.tally with fenced := s.tally.fenced ++ [i.row] } }

/-- Defects still reported mark the second that begins (R279). -/
def remark (s : State) : State :=
  forAll engines (fun e t =>
    let t := match engRep t e with
      | some d => markCount 10 e.num 0 (2 ^ d) t
      | none => t
    forAll ((getEng t e).lrx.map (fun p => p.1)) (fun l u => match leafRep u e l with
      | some d => markCount 9 (leafObj u e l) 12 (2 ^ d) u
      | none => u) t) s

/-- What the receive side of an engine ties and latches on a second boundary and at a step of TOD: the word count to the time (R203), the
detector values of its subcarriers (R224, R248, R557), and the idle words of the second (R207). -/
def latchEngine (e : Eng) (s : State) : State :=
  modEng e (fun x => { x with
    words := { x.words with count := (now s - x.words.origin) * 3 / 2, tod := s.clk.sec * 1000000000 + s.clk.ns }
    det := x.inp.det.foldl (fun t p => if p.2.n = 0 then t else tset 0 t p.1 p.2.word) []
    idleRef := idleAfter x.idleRef x.inp.idle
    inp := { x.inp with det := [], idle := (0, 0) } }) s
def latchReceive (s : State) : State := latchEngine .B (latchEngine .A s)

/-- The counters of every block are latched and begin anew; `step` marks a second that a TOD step interrupted. -/
def latch (sec : Nat) (step : Bool) (s : State) : State :=
  let s := lineCounts s
  let y := s.tally
  let st := step || y.stepNext
  let s := { s with tally := { y with
    latched := y.acc, acc := [], second := sec % 2 ^ 32, latStep := st, stepNext := step
    latFenced := y.fenced, fenced := fencedNow s, latChain := y.chain } }
  let s := addTotals s
  let s := when (satCells s ≠ []) (setFlag .tallyFlags .A 0) s
  let s := when st (setFlag .tallyFlags .A 1) s
  let s := when (Isl.all.any (fun i => i.row ∈ s.tally.latFenced && holdsCells s i)) (setFlag .tallyFlags .A 2) s
  let chain := (List.range 24).foldl (fun (t : Table Nat) j =>
    tset 0 t (j + 1) (getReg s .tallyChain .A j).toNat) ([] : Table Nat)
  remark { s with tally := { s.tally with chain := chain, mode := s.tally.modeReg } }

/-- TALLY_CLEAR_TOT (R563, R565). -/
def writeTallyCtl (v : W32) (s : State) : State × Status :=
  refuseOr (writeGate s .mgt) (fun s => if v.getLsbD 0 then { s with tally := { s.tally with totals := [] } } else s) s
def execTallyClearTot (s : State) : Out := .next (setStatus (writeTallyCtl 1 s))

/-! ## The second boundary (R516, R552) -/

/-- EVT_LOST (R516): once a second for each island that lost records. -/
def reportLost (s : State) : State :=
  forAll Isl.all (fun i t =>
    let n := (getIsl t i).lostSec
    if n = 0 then t
    else raiseF .mgt 0x0D04 i.id (packData [(32, n)]) .mgtFlags .A 1 (modIsl i (fun x => { x with lostSec := 0 }) t)) s

/-- FLOW_CACHE.MISS_PM over the second that ends (R380). -/
def latchMiss (s : State) : State :=
  let f := s.flow
  let n := f.hits + f.misses
  { s with flow := { f with hits := 0, misses := 0, missPm := if n = 0 then 0 else 1000 * f.misses / n } }

/-- PPS_OUT is held low: TOD is FREE or ACQ and MGT_PIN_CFG.PPS_SQUELCH is 1 (R504). -/
def ppsSquelched (s : State) : Bool := s.tod.st < 2 && (getReg s .mgtPinCfg .A 0).getLsbD 0

/-- SECOND_BOUNDARY (R552, R79, R503): the TOD seconds advance, every block latches its counters, PPS_OUT rises, and events
limited to one a second may be raised again. -/
def execSecondBoundary (s : State) : Out :=
  act (powered s && s.pwr.run ≠ .standby && s.pwr.run ≠ .held) (fun s =>
    let sec := s.clk.sec
    let s := latch sec false s
    let edge := b01 (! ppsSquelched s)
    let s := { s with clk := { s.clk with sec := (sec + 1) % 2 ^ 48, ns := 0 }
                      pins := { s.pins with ppsEdges := s.pins.ppsEdges + edge }
                      seenSec := [] }
    latchMiss (raiseSums (reportLost (raiseSat (latchReceive s))))) s

/-! ## A microsecond passes (R554) -/

/-- What FLOW can do in a microsecond, in 1/18,000 of it: 18,000 at its nominal clock, and less in step with the clock at a held step
(R31, R62, R351; notes/assumptions/156.md). -/
def rateBound (s : State) : Nat := 18000 - 1125 * heldStep (getIsl s .flow)

/-- Units of the conditions that LEVEL mode counts in microseconds: stretch in progress, step other than nominal, and ports
enabled and not UP. -/
def levelMicros (s : State) : State :=
  let s := forAll Isl.all (fun i t =>
    let x := getIsl t i
    countCond 1 i.row 2 0 (b01 (0 < x.sagStep || 0 < x.capStep)) (countCond 1 i.row 0 0 (b01 x.stretching) t)) s
  forAll s.cln.ports (fun p t => countCond 17 p.1 13 0 (b01 (p.2.st ≠ .disabled && p.2.st ≠ .up)) t) s

/-- The block idles for a microsecond (notes/assumptions/1.md): time passes, the meter window of R34 and the rate window of R31 end, and the conditions
of R554 are counted. What misses and copies took beyond the rate of the window falls to the next one (R351, R367). -/
def tick (s : State) : State :=
  if s.pwr.run = .off then s
  else
    let s := { s with clk := { s.clk with now := s.clk.now + 1000, ns := min (s.clk.ns + 1000) 999999999 }
                      flow := { s.flow with dramUsed := 0, pktUsed := s.flow.pktUsed - rateBound s } }
    if alive s then levelMicros s else s

end Sys2Proof.Machine
end

