-- ==== Sys2Proof/Machine/Flow.lean ====
section
/-! DEFINITION. FLOW: contexts and their cache, policers, queues, order, moves, replication and the host's writes of a
context (R29 to R34, R112, R342 to R367, R376 to R383, R402, R404). -/

namespace Sys2Proof.Machine

/-! ## Rates (R31, R351) -/

/-- FLOW processes packets it has accepted: it is not stopped by a fence. -/
def flowRuns (s : State) : Bool :=
  s.pwr.run = .ready && s.pwr.emerg = .none && islRuns s .flow

/-- FLOW takes what waits at its inputs: they are held from QUIESCE of a hard reset (R404, R528). -/
def flowTakes (s : State) : Bool := flowRuns s && dpFence s .flow = .run

/-- FLOW accepts new packets: it is in RUN, and no orderly shutdown has begun (R404, R568). -/
def flowAccepts (s : State) : Bool := inService s && dpFence s .flow = .run

/-- What a packet takes of it at 3.6 Gpackets/s, and what a miss of the cache adds, which brings it to 2.0 Gpackets/s (R351). -/
def pktCost : Nat := 5
def missCost : Nat := 4

/-- A packet offered now exceeds the shared packet rate (R31). -/
def overRate (s : State) : Bool := rateBound s < s.flow.pktUsed + pktCost

/-- A packet or a copy is taken (R31, R367). -/
def takePkt (s : State) : State := { s with flow := { s.flow with pktUsed := s.flow.pktUsed + pktCost } }

/-! ## The context cache (R350, R352) -/

/-- The set of a context, and whether the cache holds it. -/
def cacheSet (f : Nat) : Nat := f % 4096
def cached (s : State) (f : Nat) : Bool := f ∈ tget [] s.flow.cache (cacheSet f)

/-- A word of the context's 256 bytes in DRAM is known to be uncorrectable (R470, R474); a cached context is not read there. -/
def ctxPoisoned (s : State) (f : Nat) : Bool := ! cached s f && s.mem.poisoned.any (fun p => p.1 = 8 && p.2 / 4 = f)

/-- A context is read from DRAM, unless the cache holds it: what its four words report (R350, R470, R474). -/
def readContext (reader f : Nat) (s : State) : State := if cached s f then s else memScan 8 reader (4 * f) 4 (fun _ => true) s

/-- A context that leaves the cache is written back: its words in DRAM are good (R32, R350, R470). -/
def writeBack (f : Nat) (s : State) : State :=
  { s with mem := { s.mem with poisoned := s.mem.poisoned.filter (fun p => ! (p.1 = 8 && p.2 / 4 = f)) } }

/-- Use a context: it becomes the most recent of its set, and the least recent of 17 leaves and is written back. -/
def touch (f : Nat) (s : State) : State :=
  let l := f :: (tget [] s.flow.cache (cacheSet f)).filter (fun g => g ≠ f)
  forAll (l.drop 16) writeBack
    { s with flow := { s.flow with cache := tset [] s.flow.cache (cacheSet f) (l.take 16) } }

/-- Count a lookup for MISS_PM; a miss takes more of the packet rate (R351). -/
def noteLookup (hit : Bool) (s : State) : State :=
  { s with flow := { s.flow with hits := s.flow.hits + b01 hit, misses := s.flow.misses + b01 (! hit)
                                 pktUsed := s.flow.pktUsed + (if hit then 0 else missCost) } }

/-- A host access uses a context through the cache; it is no packet (R350, R351). One that reads as POISON does not enter the cache
(R353). -/
def hostTouch (f : Nat) (s : State) : State :=
  let t := noteLookup (cached s f) s
  let t := { t with flow := { t.flow with pktUsed := s.flow.pktUsed } }
  if (getFlow s f).poison || ctxPoisoned s f then modFlow f (fun x => { x with poison := true }) t else touch f t

/-- Misses outstanding at most (R352). -/
def maxMisses : Nat := 4096

/-! ## Policers (R354 to R356) -/

/-- TOD nanoseconds modulo 2^32. -/
def todNs32 (s : State) : Nat := (s.clk.sec * 1000000000 + s.clk.ns) % 2 ^ 32

/-- A bucket with `v` bytes and the part `rem` of a byte after `d` ns at `rate` kb/s, up to its size: a full bucket has no part. -/
def fillBucket (v : Int) (rem d rate size : Nat) : Int × Nat :=
  let n := d * rate + rem
  if (size : Int) ≤ v + (n / 8000000 : Nat) then (size, 0) else (v + (n / 8000000 : Nat), n % 8000000)

/-- T_UPD of a context. -/
def tUpdOf (s : State) (x : Flow) : Nat := x.tUpd.getD s.flow.swept

/-- Refill both buckets for the time since the last update, at CIR and PIR up to CBS and PBS; parts of a byte are kept
(notes/assumptions/54.md). -/
def refill (s : State) (x : Flow) : Flow :=
  let t := todNs32 s
  let d := (t + 2 ^ 32 - tUpdOf s x) % 2 ^ 32
  let c := fillBucket x.tc x.tcRem d x.cir.toNat (flowCbs x)
  let p := fillBucket x.tp x.tpRem d x.pir.toNat (flowPbs x)
  { x with tc := c.1, tcRem := c.2, tp := p.1, tpRem := p.2, tUpd := some t }

inductive Colour where
  | green | yellow | red
  deriving DecidableEq, Repr

/-- Colour of a packet of `n` bytes (R355), with the buckets after it. -/
def police (s : State) (n : Nat) (x : Flow) : Colour × Flow :=
  match flowMode x with
  | 1 =>
    let x := refill s x
    if (n : Int) ≤ x.tc then (.green, { x with tc := x.tc - n }) else (.red, x)
  | 2 =>
    let x := refill s x
    if x.tp < n then (.red, x)
    else if x.tc < n then (.yellow, { x with tp := x.tp - n })
    else (.green, { x with tp := x.tp - n, tc := x.tc - n })
  | _ => (.green, x)

/-- The policer settings are legal (R356); the fourth MODE code has no meaning. -/
def policerOk (x : Flow) : Bool :=
  match flowMode x with
  | 0 => true
  | 1 => 64 ≤ x.cir.toNat && 9600 ≤ flowCbs x
  | 2 => 64 ≤ x.cir.toNat && 9600 ≤ flowCbs x && x.cir.toNat ≤ x.pir.toNat && 9600 ≤ flowPbs x
  | _ => false

/-! ## Tag operations (R347, R361) -/

/-- The frame after the context's tag operation; none for a pop or swap without an outer tag (R365). Codes 4 to 7, which R347 does not
name, change nothing (notes/assumptions/55.md). -/
def tagOp (x : Flow) (b : List Byte) : Option (List Byte) :=
  let vid := fld x.tag 27 16
  match flowTagOp x with
  | 1 => if outerTag b then some (b.take 12 ++ b.drop 16) else none
  | 2 =>
    let tpid := if x.tag.getLsbD 31 then tpidS else tpidC
    some (b.take 12 ++ toBytes 2 tpid ++ toBytes 2 (fld x.tag 30 28 * 8192 + vid) ++ b.drop 12)
  | 3 => if outerTag b then some (b.take 14 ++ toBytes 2 (beAt b 14 2 / 4096 * 4096 + vid) ++ b.drop 16) else none
  | _ => some b

/-! ## Queues (R357, R358, R465) -/

/-- Bytes of a unit of a body: header, body, tag and zero bytes (R253). -/
def unitSize (body : Nat) : Nat := 4 * ceilDiv (28 + body) 4

/-- Units held for a container by moves of flows. -/
def heldFor (s : State) (e : Eng) (c : Nat) : List QPkt :=
  s.flow.movePend.flatMap (fun p =>
    let x := getFlow s p.1
    if treeOf s (flowEng x) = treeOf s e && flowCid x = c then p.2 else [])

/-- Units as a queue holds them: the bytes of each, and how many of these lie in DRAM. Those still in clear, and those sealed that wait for
cells. -/
def clearUnits (l : List QPkt) : List (Nat × Nat) := l.map (fun q => (unitSize q.body.length, q.dram))
def sealedUnits (l : List TxUnit) : List (Nat × Nat) := l.map (fun u => (u.bytes.length, u.dram))
def qSize (l : List (Nat × Nat)) : Nat := (l.map (fun x => x.1)).sum
def qDram (l : List (Nat × Nat)) : Nat := (l.map (fun x => x.2)).sum

/-- What a container's queue holds (R357): units stay in it until they go into cells. -/
def queueOf (s : State) (e : Eng) (c : Nat) : List (Nat × Nat) :=
  let x := getCtr s e c
  sealedUnits x.out ++ clearUnits x.queue ++ clearUnits (heldFor s e c)

/-- Containers of the tree that share a leaf's share with `c`: those of the same leaf, or the multicast container itself. -/
def sharers (s : State) (e : Eng) (c : Nat) : List Nat :=
  let w := (getCtr s e c).w0
  if ctrMcast w then [c]
  else (s.ctrs.filter (fun p => p.1 / 32768 = (treeOf s e).num && ! ctrMcast p.2.w0 && ctrTarget p.2.w0 = ctrTarget w)).map
    (fun p => p.1 % 32768)

/-- Bytes of a leaf's or a multicast container's queues, and those of them in its cut-through share. -/
def shareBytes (s : State) (e : Eng) (c : Nat) : Nat := ((sharers s e c).map (fun d => qSize (queueOf s e d))).sum
def shareSram (s : State) (e : Eng) (c : Nat) : Nat :=
  ((sharers s e c).map (fun d => qSize (queueOf s e d) - qDram (queueOf s e d))).sum

/-- A container has a cut-through share: every leaf's, and a multicast container's while it holds one. -/
def hasShare (s : State) (e : Eng) (c : Nat) : Bool := ! ctrMcast (getCtr s e c).w0 || (getCtr s e c).share

/-- Bytes of downstream queues in DRAM. -/
def dramBytes (s : State) : Nat :=
  (s.ctrs.map (fun p => qDram (sealedUnits p.2.out ++ clearUnits p.2.queue))).sum
    + (s.flow.movePend.map (fun p => qDram (clearUnits p.2))).sum

def shareCap : Nat := 2048
def dramRegion : Nat := 10240 * 1048576

/-- Why a unit is not queued, in the order of R357, or how many of its bytes lie in DRAM. -/
inductive Enqueue where
  | dropYel | dropQfull | dropDram
  | ok (dram : Nat)
  deriving DecidableEq, Repr

/-- Bytes of a unit of `n` bytes that the leaf's share has no room for (R358). -/
def beyondShare (s : State) (e : Eng) (c n : Nat) : Nat := if hasShare s e c then n - (shareCap - shareSram s e c) else n

/-- What becomes of a unit of `n` bytes (R357, R358). -/
def enqueue (s : State) (e : Eng) (c n : Nat) (yellow : Bool) : Enqueue :=
  let q := qSize (queueOf s e c)
  let qmax := 1024 * regF s .flowQcfg .A 0 15 0
  let far := beyondShare s e c n
  if yellow && regF s .flowQcfg .A 0 22 16 * qmax < 100 * q then .dropYel
  else if qmax < q + n then .dropQfull
  else if ! ctrMcast (getCtr s e c).w0 && 1024 * regF s .flowLeafq .A 0 18 0 < shareBytes s e c + n then .dropQfull
  else if 0 < far && dramRegion < dramBytes s + far then .dropQfull
  else if 0 < far && meterBytes < s.flow.dramUsed + far then .dropDram
  else .ok far

/-- A container cannot carry downstream packets (R112, R261, R331, R347, R537): its engine does not serve traffic, or is being stopped from
step 2 on in Independent mode, it is not enabled
for it, or its leaf is neither ACTIVE nor LOST. -/
def ctrDead (s : State) (e : Eng) (c : Nat) : Bool :=
  let w := (getCtr s e c).w0
  let te := treeEng s e
  (! s.boot.paired && (getEng s te).updStep = 2)
    || (getEng s te).st ≠ .trafficReady && ! (s.boot.paired && s.aps.work.isSome && s.aps.st = 2)
    || dpFence s te.txd ≠ .run
    || ! ctrEn w || ! ctrDs w
    || (! ctrMcast w && (getLeaf s e (ctrTarget w)).st ≠ .active && (getLeaf s e (ctrTarget w)).st ≠ .lost)

/-- The key slot of a container (R349). -/
def ctrSlot (s : State) (e : Eng) (c : Nat) (up : Bool) : Nat :=
  let w := (getCtr s e c).w0
  if up then usSlot s e (ctrTarget w) else if ctrMcast w then grpSlot s e (ctrTarget w) else dsSlot s e (ctrTarget w)

/-! ## One context (R347, R355, R357, R361, R363 to R365) -/

/-- The context of an accepted packet of `n` bytes. -/
def accepted (s : State) (n : Nat) (x : Flow) : Flow :=
  { x with fsn := (x.fsn + 1) % 2 ^ 32, lastSec := s.clk.sec % 2 ^ 32, pkts := satAdd x.pkts 1, bytes := satAdd x.bytes n }

/-- A downstream packet under a context: tag operation, container, policer, queue. -/
def processDs (f : Nat) (b : List Byte) (s : State) : State :=
  let x := getFlow s f
  let e := flowEng x
  let c := flowCid x
  let x := { x with keySlot := ctrSlot s e c false }
  match tagOp x b with
  | none => setFlow f { x with dropFrame := satAdd x.dropFrame 1 } s
  | some body =>
    if ctrDead s e c then setFlow f { x with dropCtr := satAdd x.dropCtr 1 } s
    else
      let p := police s (b.length + 4) x
      let x := p.2
      if p.1 = .red then setFlow f { x with dropRed := satAdd x.dropRed 1 } s
      else
        let n := unitSize body.length
        match enqueue s e c n (p.1 = .yellow) with
        | .dropYel => setFlow f { x with dropYel := satAdd x.dropYel 1 } s
        | .dropQfull => setFlow f { x with dropQfull := satAdd x.dropQfull 1 } s
        | .dropDram => setFlow f { x with dropDram := satAdd x.dropDram 1 } s
        | .ok dram =>
          let q : QPkt := ⟨f, x.fsn, p.1 = .yellow, dram, body⟩
          let s := setFlow f (accepted s (b.length + 4) x) s
          let s := { s with flow := { s.flow with dramUsed := s.flow.dramUsed + dram } }
          let s := when (0 < dram) (farWritten 9) (when (dram < n) (bufWritten 2 (regionBanks s 0x07 2)) s)
          if x.moveActive then
            { s with flow := { s.flow with movePend := tset [] s.flow.movePend f (tget [] s.flow.movePend f ++ [q]) } }
          else modCtr e c (fun y => { y with queue := y.queue ++ [q] }) s

/-- MTU of a port. -/
def portMtu (s : State) (p : Nat) : Nat := regF s .clnPort .A p 29 16

/-- Bytes in an egress queue. -/
def egressBytes (s : State) (p : Nat) : Nat := ((tget [] s.flow.egress p).map (fun q => q.body.length)).sum

/-- An upstream body under a context: tag operation, MTU, policer, port and egress queue (R360, R407, R410). -/
def processUs (f : Nat) (e : Eng) (cid : Nat) (b : List Byte) (s : State) : State :=
  let x := getFlow s f
  let x := { x with keySlot := ctrSlot s e cid true }
  let port := flowPort x
  match tagOp x b with
  | none => setFlow f { x with dropFrame := satAdd x.dropFrame 1 } s
  | some body =>
    if portMtu s port < body.length + 4 then setFlow f { x with dropFrame := satAdd x.dropFrame 1 } s
    else
      let p := police s (b.length + 4) x
      let x := p.2
      let yellow : Bool := p.1 = .yellow
      if p.1 = .red then setFlow f { x with dropRed := satAdd x.dropRed 1 } s
      else if (getPort s port).st ≠ .up || 1024 * regF s .flowEgq .A 0 14 0 < egressBytes s port + body.length then
        setFlow f { x with dropQfull := satAdd x.dropQfull 1 } s
      else
        let s := setFlow f (accepted s (b.length + 4) x) s
        { s with flow := { s.flow with egress := tset [] s.flow.egress port (tget [] s.flow.egress port ++ [⟨f, yellow, body⟩]) } }

/-- A packet under a context, in the direction of the packet and the context: a copy that a downstream context replicates stays
a downstream packet. -/
def processPkt (f : Nat) (k : FlowPkt) (s : State) : State :=
  match k with
  | .ds _ b => processDs f b s
  | .us e c b => if flowUp (getFlow s f) then processUs f e c b s else processDs f b s

/-- A packet meets a poisoned context: discarded, counted for its port or container, flagged, and raised at most once a second for the
flow (R353, R380, R383). -/
def dropPoison (f : Nat) (k : FlowPkt) (s : State) : State :=
  let s := match k with
    | .ds p _ => count 14 p 3 1 s
    | .us e c _ => countCtr 15 e c 2 1 s
  setFlag .flowFlags .A 2 (oncePerSec 0x0903 f (raise .flow 0x0903 f 0) s)

/-- Most contexts a packet visits (R367). -/
def maxVisits : Nat := 8

/-- FLOW asks DMEM for a context, for the packets that wait for it (R24, R352). -/
def askContext (f : Nat) (s : State) : State :=
  { s with flow := { s.flow with reqs := tset [] s.flow.reqs f (tget [] s.flow.reqs f ++ [bridgeReq s .flow .dmem]) } }

/-- A packet visits a context, and then the contexts it replicates to (R352, R353, R367). It waits where the context is being
fetched. -/
def visit : Nat → Nat → FlowPkt → Nat → State → State
  | 0, _, _, _, s => s
  | fuel + 1, f, k, n, s =>
    let w := tget [] s.flow.fetch f
    let wait := fun (t : State) => { t with flow := { t.flow with fetch := tset [] t.flow.fetch f (w ++ [(k, n)]) } }
    if w ≠ [] then wait (noteLookup false s)
    else if (getFlow s f).poison then dropPoison f k s
    else if ! flowValid (getFlow s f) then s
    else if cached s f then
      let s := processPkt f k (touch f (noteLookup true s))
      let x := getFlow s f
      if flowRepl x && n + 1 < maxVisits then visit fuel (flowNext x) k (n + 1) (takePkt s) else s
    else askContext f (wait (noteLookup false s))

/-! ## The packet commands -/

/-- NO_FLOW (R344, R383): counted, flagged, and raised once the second ends with the packets of its port or container. -/
def noFlow (obj : Nat) (cnt : State → State) (s : State) : State :=
  perSecond .flow 0x0901 obj 1 (setFlag .flowFlags .A 0 (cnt s))

/-- The object of a container among those of FLOW_NO_FLOW: ports and the containers of engine A have the same object IDs, and are
counted apart. -/
def noFlowCtr (e : Eng) (c : Nat) : Nat := 2 ^ 32 + 65536 * e.num + c

/-- EtherType of PTP. -/
def ptpType : Nat := 0x88F7

/-- DS_PACKET_LOOKUP (R344, R361, R365): the next ingress packet is matched. PTP frames of the PTP port go to TOD. -/
def execDsPacketLookup (s : State) : Out :=
  act (flowTakes s && s.flow.ingress ≠ [] && s.flow.fetch.length < maxMisses) (fun s =>
    match s.flow.ingress with
    | [] => s
    | k :: rest =>
      let s := { s with flow := { s.flow with ingress := rest } }
      if k.bytes.length + 4 < 64 then count 14 k.port 1 1 s
      else if beAt k.bytes 12 2 = ptpType then
        if s.tod.ptpOn && s.tod.ptpPort = k.port then s else count 14 k.port 2 1 s
      else
        let w := getReg s .flowPort .A k.port
        let kt := fld w 3 0
        let def? := if w.getLsbD 31 && flowValid (getFlow s (fld w 27 8)) then some (fld w 27 8) else none
        let hit := findFlow kt (dsKey kt k.port k.bytes) s
        match hit.1.orElse (fun _ => def?) with
        | some f => visit maxVisits f (.ds k.port k.bytes) 0 hit.2
        | none => noFlow k.port (count 14 k.port 0 1) hit.2) s

/-- The reply that answers a request for a context is discarded: an incarnation it carries is not current, or it reaches FLOW in
FENCED, RESET or RESUME (R24, R530). Packets that still wait for the context have it asked for again. -/
def staleContext (f : Nat) (s : State) : State :=
  let s := staleReplies .flow 1 s
  if tget [] s.flow.fetch f ≠ [] && tget [] s.flow.reqs f = [] then askContext f s else s

/-- The word of a context in DRAM that reads as POISON (R470, R474): the first known to be bad, and where none is, one of the four. -/
def badCtxWord (f : Nat) (s : State) : Nat × State :=
  match s.mem.poisoned.find? (fun p => p.1 = 8 && p.2 / 4 = f) with
  | some p => (p.2, s)
  | none =>
    let d := draw Config.freeNat s
    (4 * f + d.1 % 4, d.2)

/-- A word of a context arrives: what the on-die code corrected in it counts, and so does a correction of a word that is not known to be bad
(R469, R470); that a word is uncorrectable the command tells. -/
def ctxWordRead (f k : Nat) (s : State) : State :=
  let s := memAccess 8 (4 * f + k) rdPort0 s
  let d := draw Config.freeBool s
  if d.1 && ! ((8, 4 * f + k) ∈ s.mem.poisoned) then memCorr 8 (4 * f + k) rdPort0 d.2 else d.2

/-- CONTEXT_FETCH_DONE (R24, R350, R352, R353): a context arrives from DRAM, and the packets that waited go on in their order; a
context that reads as POISON discards them. -/
def execContextFetchDone (f : FlowIx) (poison : Bool) (s : State) : Out :=
  act (s.pwr.run = .ready && s.pwr.emerg = .none && tget [] s.flow.reqs f.val ≠ []) (fun s =>
    let rs := tget [] s.flow.reqs f.val
    let stale := ! islRuns s .flow || (rs.take 1).any (fun r => replyStale s r)
    let s := { s with flow := { s.flow with reqs := tset [] s.flow.reqs f.val (rs.drop 1) } }
    if stale then staleContext f.val s
    else
    let w := tget [] s.flow.fetch f.val
    let s := { s with flow := { s.flow with fetch := tset [] s.flow.fetch f.val [] } }
    let s := forAll (List.range 4) (ctxWordRead f.val) s
    if poison || ctxPoisoned s f.val then
      let b := badCtxWord f.val s
      let s := modFlow f.val (fun x => { x with poison := true }) (memUncorr 8 b.1 rdPort0 b.2)
      forAll w (fun p => dropPoison f.val p.1) s
    else
      let s := touch f.val s
      forAll w (fun p t =>
        let t := processPkt f.val p.1 t
        let x := getFlow t f.val
        if flowRepl x && p.2 + 1 < maxVisits then visit maxVisits (flowNext x) p.1 (p.2 + 1) (takePkt t) else t) s) s

/-- US_UNIT_LOOKUP (R31, R344, R365): the next decrypted unit is matched by CID_V and then by CID. A management unit carries no
client packet (R253, R304). -/
def execUsUnitLookup (s : State) : Out :=
  act (flowTakes s && s.flow.usClear ≠ [] && s.flow.fetch.length < maxMisses) (fun s =>
    match s.flow.usClear with
    | [] => s
    | u :: rest =>
      let s := { s with flow := { s.flow with usClear := rest } }
      let w := fld u.header 95 64
      let c := unitCid w
      let e := treeOf s u.eng
      if unitKind w = 1 then s
      else if overRate s then countCtr 15 u.eng c 3 1 s
      else if u.body.length < 60 || 9596 < u.body.length then countCtr 15 u.eng c 1 1 (takePkt s)
      else
        let s := takePkt s
        let v := if outerTag u.body then findFlow 9 (usKeyV e c u.body) s else (none, s)
        let hit := if v.1.isSome then v else findFlow 8 (usKey e c) v.2
        match hit.1 with
        | some f => visit maxVisits f (.us u.eng c u.body) 0 hit.2
        | none => noFlow (noFlowCtr e c) (countCtr 15 u.eng c 0 1) hit.2) s

/-- A valid flow that no packet has used for its AGE_S (R354). -/
def agedOut (s : State) (x : Flow) : Bool :=
  flowValid x && flowAge x ≠ 0 && x.lastSec + flowAge x ≤ s.clk.sec % 2 ^ 32

/-- The sweep reads every context that the cache does not hold in DRAM, and each has its outcome (R350, R470). -/
def sweepReads (s : State) : State := memScan 8 rdPort0 0 (regionWords s 8) (fun w => ! cached s (w / 4)) s

/-- CONTEXT_SWEEP (R32, R354): every context is visited: its buckets are refilled, T_UPD becomes the present time, and a valid flow idle
for AGE_S ages. A context that reads as POISON stays as it is (notes/assumptions/198.md). -/
def execContextSweep (s : State) : Out :=
  act (flowAccepts s) (fun s =>
    let s := sweepReads s
    let bad := fun (f : Nat) => (getFlow s f).poison || ctxPoisoned s f
    let all := s.flow.ctx.map (fun p => p.1)
    let aged := all.filter (fun f => ! bad f && agedOut s (getFlow s f))
    let time := todNs32 s
    let s0 := s
    let s := forAll all (fun f t =>
      if bad f then t
      else
        let x := { refill s0 (getFlow s0 f) with tUpd := none }
        setFlow f (if f ∈ aged then { x with ctl := x.ctl &&& 0x7FFFFFFF } else x) t) s
    let s := { s with flow := { s.flow with swept := time } }
    if aged = [] then s
    else
      let n := aged.length
      setFlag .flowFlags .A 1 (perSecond .flow 0x0902 0 n (count 16 0 0 n s))) s

/-- FLOW_MOVE_TIMEOUT (R364): the hold of a move ends though units of the flow still wait in the old container. -/
def execFlowMoveTimeout (f : FlowIx) (s : State) : Out :=
  let x := getFlow s f.val
  act (flowRuns s && x.moveActive) (fun s =>
    let e : Eng := if x.oldEng = 0 then .A else .B
    let y := getCtr s e x.oldCid
    let n := (y.queue.filter (fun q => q.flow = f.val)).length + (y.out.filter (fun u => u.flow = f.val)).length
    setFlag .flowFlags .A 3 (oncePerSec 0x0904 f.val
      (raise .flow 0x0904 f.val (packData [(16, x.oldCid), (32, n)])) (endMove f.val s))) s

/-- KEY_INDEX_REBUILD (R471): FLOW writes a poisoned bucket again from the contexts. -/
def execKeyIndexRebuild (bucket : Fin 393216) (s : State) : Out :=
  act (flowRuns s && bucket.val ∈ s.flow.badBuckets)
    (fun s => { s with flow := { s.flow with badBuckets := s.flow.badBuckets.filter (fun b => b ≠ bucket.val) }
                       mem := { s.mem with poisoned := s.mem.poisoned.filter (fun p => p ≠ (1, bucket.val)) } }) s

/-! ## The host's window (R376 to R378) -/

/-- Settings of a context with word `w` replaced; only named bits are kept. -/
def flowWith (x : Flow) (w : Nat) (v : W32) : Flow :=
  match w with
  | 0 | 1 | 2 => { x with key := (x.key &&& ~~~ (BitVec.ofNat 96 0xFFFFFFFF <<< (32 * (2 - w))))
                                 ||| (v.setWidth 96 <<< (32 * (2 - w))) }
  | 3 => { x with ctl := v &&& 0xCF1FFFFF }
  | 4 => { x with map := v &&& 0xFFFF0007 }
  | 5 => { x with tag := v &&& 0xFFFF0000 }
  | 6 => { x with repl := v &&& 0x800FFFFF }
  | 7 => { x with pol := v &&& 0xC0FFFFFF }
  | 8 => { x with cir := v }
  | 9 => { x with pir := v }
  | 10 => { x with pbs := v &&& 0x00FFFFFF }
  | _ => x

/-- A settings word of a context. -/
def flowWord (x : Flow) (w : Nat) : W32 :=
  match w with
  | 0 | 1 | 2 => (x.key >>> (32 * (2 - w))).setWidth 32
  | 3 => x.ctl | 4 => x.map | 5 => x.tag | 6 => x.repl | 7 => x.pol | 8 => x.cir | 9 => x.pir | 10 => x.pbs
  | _ => 0

/-- A key type suits a direction (R342). -/
def ktypeSuits (up : Bool) (k : Nat) : Bool := k = 15 || (if up then k = 8 || k = 9 else k ≤ 4)

/-- The settings of a context that VALID would refuse, the key index apart (R377). -/
def validRefused (s : State) (f : Nat) (x : Flow) : Bool :=
  ! ktypeSuits (flowUp x) (flowKtype x)
    || (! flowUp x && flowKtype x ≠ 15 && flowKtype x ≠ fld (getReg s .flowPort .A (fld x.key 95 91)) 3 0)
    || (flowKtype x ≠ 15 && s.flow.ctx.any (fun p => p.1 ≠ f && flowValid p.2 && flowKtype p.2 = flowKtype x && p.2.key = x.key))
    || (x.map.getLsbD 31 && s.boot.paired)

/-- The context holds a valid flow as far as a write sees it: a poisoned one is written anew (R353). -/
def liveFlow (x : Flow) : Bool := flowValid x && ! x.poison

/-- VALID goes from 0 to 1: bytes 48 to 143 are zeroed and both buckets filled (R348). -/
def freshFlow (x : Flow) : Flow :=
  { key := x.key, ctl := x.ctl, map := x.map, tag := x.tag, repl := x.repl, pol := x.pol, cir := x.cir, pir := x.pir
    pbs := x.pbs, tc := flowCbs x, tp := flowPbs x, tUpd := some 0 }

/-- Make a context valid with its entry in the key index; none where the insertion fails (R345, R348). Zeroing MOVE ends a move that a flow
deleted meanwhile had begun (R364; notes/assumptions/199.md). -/
def makeValid (f : Nat) (y : Flow) (s : State) : Option State :=
  insertKey f (setFlow f (freshFlow y) (if (getFlow s f).moveActive then endMove f s else s))

/-- A write of word `w` of context `f` that R377 refuses. -/
def flowRefused (s : State) (f w : Nat) (v : W32) : Bool :=
  let x := getFlow s f
  let y := flowWith x w v
  match w with
  | 0 | 1 | 2 => liveFlow x
  | 3 =>
    if liveFlow x && flowValid y then (x.ctl ^^^ y.ctl) &&& 0x4F1F0000 ≠ 0
    else if flowValid y then validRefused s f y || (makeValid f y s).isNone
    else liveFlow x && (x.ctl ^^^ y.ctl) &&& 0x4F1F0000 ≠ 0
  | 4 => x.moveActive
  | 6 => flowRepl y && (let z := getFlow s (flowNext y); flowValid z && flowUp z)
  | 7 | 8 | 9 | 10 => ! policerOk y
  | _ => false

/-- A new container of a valid downstream flow with units of it queued in the old one: the move begins (R364). -/
def startMove (s : State) (f : Nat) (x y : Flow) : Flow :=
  let e := flowEng x
  let c := flowCid x
  let old := getCtr s e c
  let moved := flowEng y ≠ e || flowCid y ≠ c
  if liveFlow x && ! flowUp x && moved && (old.queue.any (fun q => q.flow = f) || old.out.any (fun u => u.flow = f)) then
    { y with moveActive := true, oldEng := e.num, oldCid := c, moveFsn := x.fsn }
  else y

/-- A host write of a settings word of a context (R376, R377). -/
def writeFlow (f w : Nat) (v : W32) (s : State) : State × Status :=
  refuseOr ((writeGate s .flow).worse (if flowRefused s f w v then .errState else .ok)) (fun s =>
    let s := readContext rdHost f s
    let x := getFlow s f
    let y := flowWith x w v
    if w = 3 && flowValid y && ! liveFlow x then
      let s := writeBack f s
      hostTouch f ((makeValid f y s).getD s)
    else hostTouch f (setFlow f (if w = 4 then startMove s f x y else y) s)) s

/-- FLOW_CONTEXT_WRITE (R376 to R378). -/
def execFlowContextWrite (f : FlowIx) (w : Fin 12) (v : W32) (s : State) : Out :=
  .next (setStatus (writeFlow f.val w.val v s))

/-- Valid flows, and valid downstream flows of a port, KTYPE 15 excluded (R380). -/
def flowCount (s : State) : Nat := (s.flow.ctx.filter (fun p => flowValid p.2)).length
def portFlows (s : State) (p : Nat) : Nat :=
  (s.flow.ctx.filter (fun q => flowValid q.2 && ! flowUp q.2 && flowKtype q.2 ≠ 15 && fld q.2.key 95 91 = p)).length

/-- A host write of FLOW_PORT_p (R381). -/
def portRefused (s : State) (p : Nat) (v : W32) : Bool :=
  let x := getFlow s (fld v 27 8)
  (fld v 3 0 ≠ fld (getReg s .flowPort .A p) 3 0 && portFlows s p ≠ 0)
    || (v.getLsbD 31 && ! (flowValid x && ! flowUp x))

end Sys2Proof.Machine
end

