-- ==== Sys2Proof/Machine/Tod.lean ====
section
/-! DEFINITION. The timebase: the servo of TOD, its sources, the PTP port and the host's time registers (R368 to R373, R382,
R383, R504). -/

namespace Sys2Proof.Machine

/-- TOD does its work: the module is in service and the island is not stopped by a hard reset. -/
def todRuns (s : State) : Bool := inService s && islRuns s .tod

/-- The servo works: a restart of either kind holds its last frequency (R534). -/
def servoRuns (s : State) : Bool := todRuns s && ctlRuns s .tod

/-- IEEE 1588 port state codes (R368, R382). -/
def ptpListening : Nat := 4
def ptpMaster : Nat := 6
def ptpPassive : Nat := 7
def ptpUncalibrated : Nat := 8
def ptpSlave : Nat := 9

/-- The source TOD takes time from (R368): 1 the PTP port while it is SLAVE, else 2 PPS_IN once it has a seconds value. -/
def todSourceOf (s : State) : Nat :=
  if s.tod.ptpOn && s.tod.portState = ptpSlave then 1 else if s.tod.ppsSec.isSome then 2 else 0

/-- The clock class announced (R372). -/
def clockClass (s : State) : Nat :=
  if s.tod.st = 2 then (if s.tod.source = 1 then s.tod.parent else regF s .todCfg .A 0 31 24)
  else if s.tod.st = 3 then (if s.tod.holdExpired then 165 else 135)
  else 248

/-- The servo changes state with TOD_STATE (R368, R383), and the flag of a state that has one. -/
def todMove (new : Nat) (s : State) : State :=
  let old := s.tod.st
  let s := { s with tod := { s.tod with st := new, run := 0, badFrom := none, holdExpired := false } }
  let s := oncePerSec 0x0906 0 (raise .tod 0x0906 0 (packData [(8, old), (8, new), (8, s.tod.source)])) s
  if new = 2 then setFlag .todFlags .A 1 s else if new = 3 then setFlag .todFlags .A 2 s else s

/-- The time a step leads to: the present time less the offset, in 1/16 ns (R368). -/
def steppedTime (s : State) (ofs : Int) : Nat × Nat :=
  let t := ((s.clk.sec * 1000000000 + s.clk.ns : Nat) - ofs / 16 : Int) % (2 ^ 48 * 1000000000)
  (t.toNat / 1000000000, t.toNat % 1000000000)

/-- A step (R368, R369, R514, R557): the Tally latches at the moment of the step, every island takes the new time, the epoch
counts on, and TOD_STEP carries the old time in its data and the new one as its own. -/
def todStep (ofs : Int) (s : State) : State :=
  let c := s.clk
  let s := latch c.sec true s
  let n := steppedTime s ofs
  let s := { s with clk := { s.clk with sec := n.1, ns := n.2, epoch := (s.clk.epoch + 1) % 256 }
                    tod := { s.tod with t1 := none, t2 := none, t3 := none, t4 := none, ppsOfs := none } }
  let s := raiseSat (latchReceive s)
  setFlag .todFlags .A 0 (oncePerSec 0x0905 0 (raise .tod 0x0905 0 (packData [(32, c.ns), (48, c.sec)])) s)

/-! ## Timestamps of the PTP port (R371, R373) -/

/-- Receive and transmit correction of a port type in 0.1 ns (R373, R386). -/
def ptpCorrections : Nat → Nat × Nat
  | 4 => (928, 811) | 3 => (970, 845) | 2 => (1046, 883) | 1 => (1184, 962) | 5 => (1568, 1216) | 6 => (3120, 2440) | _ => (0, 0)

/-- TOD's time in 0.5 ps. -/
def todHalfPs (s : State) : Int := 2000 * ((s.clk.sec * 1000000000 + s.clk.ns : Nat) : Int)

/-- The time at the lane pins of a message that TOD's time finds received, or sent, inside the port: 0.1 ns are 200 units. -/
def rxStamp (s : State) : Int := todHalfPs s - 200 * (ptpCorrections (portType s s.tod.ptpPort)).1
def txStamp (s : State) : Int := todHalfPs s + 200 * (ptpCorrections (portType s s.tod.ptpPort)).2

/-- The offset from the master in 1/16 ns: the Sync's transit less the mean path delay and TOD_PTP_ASYM (R373), once all four times
are known. -/
def ptpOffset (s : State) : Option Int :=
  match s.tod.t1, s.tod.t2, s.tod.t3, s.tod.t4 with
  | some t1, some t2, some t3, some t4 =>
    some ((t2 - t1 - ((t2 - t1) + (t4 - t3)) / 2 - 2 * asSigned 32 (getReg s .todPtpAsym .A 0).toNat) / 125)
  | _, _, _, _ => none

/-- The offset measured: that of the PTP port's timestamps, or the one that the last edge of PPS_IN showed; `pps` are the sixteenths of a
nanosecond of its time stamp, which the TOD count of nanoseconds does not show. -/
def offsetOf (s : State) (pps : Int) : Option Int :=
  if todSourceOf s = 1 then ptpOffset s else s.tod.ppsOfs.map (fun o => o + pps % 16)

/-- TOD_CFG.STEP_NS in 1/16 ns. -/
def stepLimit (s : State) : Nat := 16 * regF s .todCfg .A 0 19 0

/-- TOD_OFFSET_MEASURED (R368): an offset against the source in 1/16 ns, taken by the servo's table: what the last edge of PPS_IN showed or,
while the source is PTP, that of the port's timestamps (R373). -/
def execTodOffsetMeasured (pps : Int) (s : State) : Out :=
  act (servoRuns s && todSourceOf s ≠ 0 && (offsetOf s pps).isSome) (fun s =>
    let ofs := (offsetOf s pps).getD 0
    let s := { s with tod := { s.tod with ofs := ofs, source := todSourceOf s, ppsOfs := none } }
    let a := ofs.natAbs
    match s.tod.st with
    | 0 => { s with tod := { s.tod with st := 1, run := 0 } }
    | 1 =>
      if stepLimit s < a then todStep ofs { s with tod := { s.tod with run := 0 } }
      else if a < 1600 then
        let n := s.tod.run + 1
        if 16 ≤ n then todMove 2 s else { s with tod := { s.tod with run := n } }
      else { s with tod := { s.tod with run := 0 } }
    | 2 =>
      if a ≤ 160000 then { s with tod := { s.tod with badFrom := none } }
      else match s.tod.badFrom with
        | none => { s with tod := { s.tod with badFrom := some (now s) } }
        | some t => if t + 10000000000 ≤ now s then todMove 1 s else s
    | _ => todMove 1 s) s

/-- The IEEE 1588 state of the PTP port changes (R371, R383). -/
def setPtpState (new : Nat) (s : State) : State :=
  if s.tod.portState = new then s
  else
    oncePerSec 0x0907 s.tod.ptpPort (raise .tod 0x0907 s.tod.ptpPort (packData [(8, new)]))
      { s with tod := { s.tod with portState := new } }

/-- The port has no master any more, and the times of its delay mechanism are void (notes/assumptions/65.md). -/
def noMaster (s : State) : State :=
  { s with tod := { s.tod with master := none, rank := [], annAge := 0, t1 := none, t2 := none, t3 := none, t4 := none } }

/-- A port without a master listens. -/
def dropMaster (s : State) : State := setPtpState ptpListening (noMaster s)

/-- The source of time is gone (R368): LOCKED goes to HOLDOVER. -/
def sourceGone (s : State) : State :=
  let s := { s with tod := { s.tod with source := 0, ppsOfs := none } }
  setFlag .todFlags .A 3 (if s.tod.st = 2 then todMove 3 s else s)

/-- The source of time is lost (R368): a lost PTP source leaves the port without a master. -/
def loseSource (s : State) : State :=
  if s.tod.source = 1 then dropMaster (sourceGone s) else sourceGone s

/-- TOD_SOURCE_LOST (R368). -/
def execTodSourceLost (s : State) : Out := act (servoRuns s && s.tod.source ≠ 0) loseSource s

/-- TOD_HOLDOVER_EXPIRY (R372). -/
def execTodHoldoverExpiry (s : State) : Out :=
  act (servoRuns s && s.tod.st = 3) (fun s => { s with tod := { s.tod with holdExpired := true } }) s

/-- The seconds value of a pulse of PPS_IN: an armed one, or the last one counted on (R382). -/
def ppsNext (t : TodSt) : Option Nat :=
  if t.armed then some (t.setHi * 2 ^ 32 + t.setLo) else t.ppsSec.map (fun n => (n + 1) % 2 ^ 48)

/-- PPS_IN_EDGE (R368, R382, R504): an armed seconds value is taken once, and later pulses count on from it; the edge is timestamped, and its
offset is TOD's time less the pulse's seconds. -/
def execPpsInEdge (s : State) : Out :=
  act (todRuns s) (fun s =>
    let t := s.tod
    let n := ppsNext t
    let ofs := n.map (fun k => 16 * (((s.clk.sec * 1000000000 + s.clk.ns : Nat) : Int) - 1000000000 * (k : Int)))
    { s with tod := { t with ppsSec := n, armed := false, ppsOfs := ofs } }) s

/-- Host writes of TOD_SET_HI and TOD_SET_LO (R382). -/
def writeTodSetHi (v : W32) (s : State) : State × Status :=
  refuseOr (writeGate s .tod) (fun s => { s with tod := { s.tod with setHi := fld v 15 0 } }) s
def writeTodSetLo (v : W32) (s : State) : State × Status :=
  refuseOr (writeGate s .tod) (fun s => { s with tod := { s.tod with setLo := v.toNat, armed := true } }) s

/-- TOD_SET_LO_WRITE (R382). -/
def execTodSetLoWrite (v : W32) (s : State) : Out := .next (setStatus (writeTodSetLo v s))

/-- A read of TOD_NOW_HI latches the two other words (R382, R494). -/
def latchTodNow (s : State) : State :=
  { s with tod := { s.tod with latLo := some (s.clk.sec % 2 ^ 32), latNs := some s.clk.ns } }

/-- TOD_NOW_HI_READ (R382). -/
def execTodNowHiRead (s : State) : Out :=
  act (moduleStatus s false false false = .ok && (getIsl s .tod).fence = .run) (fun s =>
    { latchTodNow s with got := BitVec.ofNat 32 (s.clk.sec / 2 ^ 32) }) s

/-- The PTP port takes part: a PTP record is in force and its client port is UP. -/
def ptpUp (s : State) : Bool := todRuns s && s.tod.ptpOn && (getPort s s.tod.ptpPort).st = .up

/-! ## The PTP record and the head of a message (R370, R371) -/

def ptpOneStep (s : State) : Bool := s.tod.ptpWord.getLsbD 24
def ptpDomain (s : State) : Nat := fld s.tod.ptpWord 22 16
def ptpPri2 (s : State) : Nat := fld s.tod.ptpWord 15 8
def ptpLocal (s : State) : Nat := fld s.tod.ptpWord 7 0

/-- The destination address that DA names. -/
def ptpDst (s : State) : BitVec 48 := if s.tod.ptpWord.getLsbD 23 then 0x0180C200000E else 0x011B19000000

/-- The clock identity that IEEE 1588 forms from a MAC address, and the identity of the clock's one port
(notes/assumptions/201.md). -/
def clockId (s : State) : BitVec 64 :=
  s.fuse.mac.extractLsb' 24 24 ++ (0xFFFE : BitVec 16) ++ s.fuse.mac.extractLsb' 0 24
def portId (s : State) : BitVec 80 := clockId s ++ (1 : BitVec 16)

/-- A message leaves the PTP port. -/
def ptpSend (b : PtpBody) (s : State) : State :=
  { s with tod := { s.tod with ptpTx := ⟨ptpDst s, ptpDomain s, portId s, b⟩ :: s.tod.ptpTx } }

/-! ## The best master (R370, R371; notes/assumptions/201.md) -/

/-- A clock as ITU-T G.8275.1 compares it, the better one lower: class, accuracy, variance, priority 2, local priority, identity, steps. -/
def clockRank (cls acc var pri2 loc : Nat) (gm : BitVec 64) (steps : Nat) : List Nat := [cls, acc, var, pri2, loc, gm.toNat, steps]

/-- The class of the module's own clock, which while it follows a master is that of a clock without a source: the parent's class is only what
it announces (R372). -/
def ownClass (s : State) : Nat := if s.tod.st = 2 && s.tod.source = 1 then 248 else clockClass s

/-- The module's own clock, of accuracy unknown. -/
def ownRank (s : State) : List Nat := clockRank (ownClass s) 0xFE 0xFFFF (ptpPri2 s) (ptpLocal s) (clockId s) 0

/-- The port state that the comparison with an Announce recommends under ROLE: a master only port is MASTER, and a slave only port never;
a clock of class 127 or better that loses is PASSIVE. A port that is to follow a master is UNCALIBRATED until the next Announce of the
same master. -/
def bestState (s : State) (src : BitVec 80) (rank : List Nat) : Nat :=
  let better : Bool := rank < ownRank s
  if s.tod.ptpRole = 1 then ptpMaster
  else if ! better then (if s.tod.ptpRole = 2 then ptpListening else ptpMaster)
  else if s.tod.ptpRole = 0 && ownClass s ≤ 127 then ptpPassive
  else if s.tod.master = some src && (s.tod.portState = ptpUncalibrated || s.tod.portState = ptpSlave) then ptpSlave
  else ptpUncalibrated

/-- An Announce is of a master other than the one followed, and no better than that one. -/
def outranked (s : State) (src : BitVec 80) (rank : List Nat) : Bool :=
  match s.tod.master with
  | some m => m ≠ src && ! (rank < s.tod.rank)
  | none => false

/-- The port leaves the master that it follows: TOD loses a source that it had from it. -/
def leaveMaster (s : State) : State := noMaster (if s.tod.source = 1 then sourceGone s else s)

/-- An Announce (R368, R371): the parent's class is held while its master is followed; another master's counts only where it is better than the
one followed. A master that turns out no better than the module's own clock is followed no longer, and nor is one that a better one replaces. -/
def takeAnnounce (src : BitVec 80) (cls : Nat) (rank : List Nat) (s : State) : State :=
  if outranked s src rank then s
  else
  let new := bestState s src rank
  let follow := new = ptpUncalibrated || new = ptpSlave
  let s := when (s.tod.master.isSome && (! follow || s.tod.master ≠ some src)) leaveMaster s
  let t := s.tod
  setPtpState new { s with tod := if follow then { t with parent := cls % 256, master := some src, rank := rank, annAge := 0 } else { t with annAge := 0 } }

/-- PTP_MESSAGE_RECEIVED (R371, R373, R383): messages of the record's domain are taken. An Announce is compared with the module's own clock;
the Syncs of the master are stamped, its Follow_Up and Delay_Resp complete the times of the delay mechanism; a master port stamps a
Delay_Req and answers it; and the frames of features that are not supported are counted. -/
def execPtpMessageReceived (domain : Nat) (src : BitVec 80) (m : PtpMsg) (s : State) : Out :=
  act (ptpUp s && domain = ptpDomain s) (fun s =>
    let mine : Bool := s.tod.master = some src
    match m with
    | .announce cls acc var pri2 gm steps => takeAnnounce src cls (clockRank cls acc var pri2 (ptpLocal s) gm steps) s
    | .unsupported => count 16 0 1 1 s
    | .sync t => if mine then { s with tod := { s.tod with t1 := t, t2 := some (rxStamp s) } } else s
    | .followUp t => if mine then { s with tod := { s.tod with t1 := some t } } else s
    | .delayReq => if s.tod.portState = ptpMaster then ptpSend (.delayResp (rxStamp s) src) s else s
    | .delayResp t asker => if mine && asker = portId s then { s with tod := { s.tod with t4 := some t } } else s) s

/-- PTP_ANNOUNCE_TX (R368, R371, R372): eight times a second, a master port sends Announce with the class of R372 and the record's
PRIORITY2. A port that hears no Announce for three intervals follows no master: it becomes MASTER, or listens where it is slave only. One
whose time TOD takes has then lost the source, which TOD_SOURCE_LOST says (notes/assumptions/201.md). -/
def execPtpAnnounceTx (s : State) : Out :=
  act (ptpUp s) (fun s =>
    if s.tod.portState = ptpMaster then ptpSend (.announce (clockClass s) (ptpPri2 s)) s
    else
      let s := { s with tod := { s.tod with annAge := s.tod.annAge + 1 } }
      if s.tod.annAge < 3 || (s.tod.portState = ptpSlave && s.tod.source = 1) then s
      else if s.tod.ptpRole = 2 then when s.tod.master.isSome dropMaster s
      else setPtpState ptpMaster (noMaster s)) s

/-- PTP_SYNC_DELAY_TX (R371, R373): a master port sends Sync with its transmit stamp, in two-step operation by a Follow_Up, and a port that
follows a master sends Delay_Req, which is stamped. -/
def execPtpSyncDelayTx (s : State) : Out :=
  act (ptpUp s && (s.tod.portState = ptpMaster || s.tod.portState = ptpSlave || s.tod.portState = ptpUncalibrated))
    (fun s =>
      let t := txStamp s
      if s.tod.portState = ptpMaster then
        if ptpOneStep s then ptpSend (.sync (some t)) s else ptpSend (.followUp t) (ptpSend (.sync none) s)
      else ptpSend .delayReq { s with tod := { s.tod with t3 := some t, t4 := none } }) s

end Sys2Proof.Machine
end

