-- ==== Sys2Proof/Machine/Client.lean ====
section
/-! DEFINITION. The client lanes: port types, the port state machine, loops, the frames at the MAC and the refusals of
R413 (R384 to R417). -/

namespace Sys2Proof.Machine

/-! ## Ports and lanes (R384 to R387) -/

/-- The enabled port that holds a lane. -/
def portOfLane (s : State) (k : Nat) : Option Nat :=
  lowest 32 (fun p => portEn (portReg s p) && decide (k ∈ lanesOf p (portReg s p)))

/-- A port trains (R406). -/
def trains (s : State) (p : Nat) : Bool := portPam4 s p && portLt (portReg s p)

/-- LOOP of a lane. -/
def laneLoop (s : State) (k : Nat) : Nat := regF s .clnLane .A k 9 8

/-- Raise a client event on CLRX with its flag (R412, R417). -/
def clnEvent (code p : Nat) (data : BitVec 80) (b : Nat) (s : State) : State :=
  setFlag .clnFlags .A b (oncePerSec code p (raise .clrx code p data) s)

/-! ## Symbols of a PAM4 lane (R394, R395) -/

/-- Gray index of a bit pair, the first bit more significant, and the level of an index (R394). -/
def grayIndex (first second : Bool) : Nat := if first then (if second then 2 else 3) else b01 second
def pam4Level (g : Nat) : Int := 2 * (g : Int) - 3

/-- 1/(1+D) precoding of indexes from P_prev, and its reverse: the indexes, and P_prev after them (R395). -/
def precode : Nat → List Nat → List Nat × Nat
  | p, [] => ([], p)
  | p, g :: l =>
    let q := (g + 4 - p % 4) % 4
    let r := precode q l
    (q :: r.1, r.2)
def unprecode : Nat → List Nat → List Nat × Nat
  | p, [] => ([], p)
  | p, q :: l =>
    let r := unprecode q l
    ((q + p) % 4 :: r.1, r.2)

/-- POL_TX and POL_RX in force: the lane's P and N are inverted (R412, R414). -/
def polTx (x : LaneSt) : Bool := x.cfg.getLsbD 4
def polRx (x : LaneSt) : Bool := x.cfg.getLsbD 5

/-- The levels that a lane sends for bit pairs, and the pairs' indexes that it receives from indexes (R394 to R396). -/
def laneLevels (x : LaneSt) (l : List (Bool × Bool)) : List Int :=
  let gs := l.map (fun p => grayIndex p.1 p.2)
  ((if x.preTx then (precode x.pTx gs).1 else gs).map pam4Level).map (fun v => if polTx x then -v else v)
def laneIndexes (x : LaneSt) (l : List Nat) : List Nat :=
  let l := if polRx x then l.map (fun g => 3 - g) else l
  if x.preRx then (unprecode x.pRx l).1 else l

/-- A lane sends bit pairs, or receives indexes: its levels, or the pairs' indexes, and P_prev after them. -/
def sendPairs (l : List (Bool × Bool)) (x : LaneSt) : LaneSt :=
  { x with out := laneLevels x l, pTx := if x.preTx then (precode x.pTx (l.map (fun p => grayIndex p.1 p.2))).2 else x.pTx }
def takeIndexes (l : List Nat) (x : LaneSt) : LaneSt :=
  { x with inp := laneIndexes x l
           pRx := if x.preRx then (unprecode x.pRx (if polRx x then l.map (fun g => 3 - g) else l)).2 else x.pRx }

/-! ## The port state machine (R406) -/

/-- Lane mask of a property, bit j for the port's lane j. -/
def laneMask (s : State) (p : Nat) (f : LaneSt → Bool) : Nat :=
  (lanesOf p (portReg s p)).foldr (fun k a => 2 * a + b01 (f (getLane s k))) 0

/-- A port leaves UP: the departure is counted, and what its reconciliation sublayer received is void; a cause raises CLN_LINK_DOWN. -/
def leaveUp (p : Nat) (cause : Option Nat) (s : State) : State :=
  if (getPort s p).st = .up then
    let s := countCond 17 p 13 1 0 (modPort p (fun x => { x with hiSer := false, anDone := false }) s)
    match cause with
    | some c => clnEvent 0x0A02 p (packData [(8, c)]) 1 s
    | none => s
  else s

/-- A port enters WAIT_REF; the lane settings take effect (R406, R414). -/
def toWaitRef (p : Nat) (s : State) : State :=
  let s := modPort p (fun x => { x with st := .waitRef }) s
  forAll (lanesOf p (portReg s p)) (fun k t =>
    modLane k (fun x => { x with cfg := getReg t .clnLane .A k, preTx := false, preRx := false }) t) s

/-- Precoding of the port's lanes when its signalling begins or its training ends (R396): masks bear on code 0. P_prev is 0 (R395). -/
def setPrecoding (p tx rx : Nat) (s : State) : State :=
  forAll (List.range (portLanes (portReg s p))) (fun j t =>
    modLane (p + j) (fun x =>
      let on := fun (c : Nat) (m : Nat) => c = 2 || (c = 0 && m.testBit j)
      { x with preTx := portPam4 t p && on (fld x.cfg 1 0) tx, preRx := portPam4 t p && on (fld x.cfg 3 2) rx, pTx := 0, pRx := 0 }) t) s

/-- The transmit equalizer of a lane as it was measured at manufacture (R397). -/
def madeEq (k : Nat) : List Int := (List.range 5).map (fun i => Config.factory (730000 + 8 * k + i))

/-- A port runs auto-negotiation (R400). -/
def runsAn (s : State) (p : Nat) : Bool := (portReg s p).getLsbD 5 && portType s p = 6

/-- A port enters ALIGN: it receives (R416), and with auto-negotiation it advertises its base page (R400). -/
def enterAlign (p : Nat) (s : State) : State :=
  modPort p (fun x => { x.received (portPam4 s p) (portLanes (portReg s p)) with st := .align, page := if runsAn s p then anAbility else 0 }) s

/-- A port begins to signal: TRAINING when it trains, otherwise ALIGN, with the equalizer of manufacture (R397). An NRZ transmitter starts with
negative running disparity, and its receiver without synchronisation (R399). -/
def toSignal (p : Nat) (s : State) : State :=
  let s := forAll (lanesOf p (portReg s p)) (fun k => modLane k (fun x => { x with txPos := false, nrz := {} })) s
  if trains s p then modPort p (fun x => { x with st := .training }) s
  else
    let s := forAll (lanesOf p (portReg s p)) (fun k => modLane k (fun x => { x with eq := madeEq k })) s
    setPrecoding p 0 0 (enterAlign p s)

/-- A port goes down to training or alignment; where it does not train, P_prev is 0 again (R395). An NRZ lane keeps its synchronisation, which
the process of IEEE 802.3 loses only by what it receives (R399). -/
def retrain (p : Nat) (s : State) : State :=
  if trains s p then modPort p (fun x => { x with st := .training }) s
  else
    let s := enterAlign p s
    forAll (List.range (portLanes (portReg s p))) (fun j t => modLane (p + j) (fun x => { x with pTx := 0, pRx := 0 }) t) s

/-- The client lanes work: the module is in service and neither client island has reached DRAIN of a hard reset (R404, R533). -/
def clnRuns (s : State) : Bool := inService s && dpServes s .cltx && dpServes s .clrx

/-- Training and auto-negotiation, which a restart of either client island pauses (R534). -/
def clnTrains (s : State) : Bool := clnRuns s && ctlRuns s .cltx && ctlRuns s .clrx

/-- The pattern generator of a lane in loop 1 or 2 starts, at a place of the pattern that is open, and its checker without lock (R406, R408,
R409; notes/assumptions/5.md). -/
def startPattern (k : Nat) (s : State) : State :=
  if laneLoop s k = 1 || laneLoop s k = 2 then
    let d := draw Config.freeNat s
    modLane k (fun x => { x with prbs := false, test := []
                                 gen := prbsSeed (grpMode s (k / 4) = 1) (regF s .clnLane .A k 12 12) d.1 }) d.2
  else modLane k (fun x => { x with prbs := false, test := [], gen := 0 }) s

/-- A port enters TEST: pattern generators and checkers start (R406). -/
def enterTest (p : Nat) (s : State) : State :=
  forAll (lanesOf p (portReg s p)) startPattern (modPort p (fun x => { x with st := .test }) s)

/-- CLN_PORT_REF_READY (R406): READY and a valid reference. -/
def execClnPortRefReady (p : PortIx) (s : State) : Out :=
  act (clnRuns s && s.cln.refOk && (getPort s p.val).st = .waitRef) (fun s =>
    if (lanesOf p.val (portReg s p.val)).any (fun k => laneLoop s k ≠ 0) then enterTest p.val s
    else toSignal p.val s) s

/-- The lanes, bit j for the port's lane j, whose receiver estimates its SNR, in 0.01 dB, below 17.0 dB: the module asks the host for
precoding there (R396). -/
def lowSnr (snr : List Nat) (n : Nat) : Nat := (List.range n).foldr (fun j a => 2 * a + b01 (snr.getD j 0 % 65536 < 1700)) 0

/-- CLN_TRAINING_DONE (R396, R397, R406): `reqTx` names the lanes whose host asks for precoding; each lane has its receiver's estimate of the
SNR, and its transmit equalizer as the host's requests have left it, and shows signal and clock. What the module last asked of the host's transmitter is open
(notes/assumptions/5.md). -/
def execClnTrainingDone (p : PortIx) (reqTx : Nat) (snr : List Nat) (eq : List (List Int)) (s : State) : Out :=
  act (clnTrains s && (getPort s p.val).st = .training) (fun s =>
    let n := portLanes (portReg s p.val)
    let s := forAll (List.range n) (fun j t =>
      let d := draw Config.freeNat t
      modLane (p.val + j) (fun x => { x with signal := true, cdr := true, snr := snr.getD j 0 % 65536, eq := eq.getD j [], hostReq := d.1 }) d.2) s
    setPrecoding p.val reqTx (lowSnr snr n) (enterAlign p.val s)) s

/-- CLN_TRAIN_FAIL (R406). -/
def execClnTrainFail (p : PortIx) (mask : Nat) (s : State) : Out :=
  act (clnTrains s && (getPort s p.val).st = .training) (fun s =>
    clnEvent 0x0A03 p.val (packData [(8, mask)]) 3 (count 17 p.val 14 1 s)) s

/-- The receive side of a port is aligned (R399, R400, R406): an NRZ lane has synchronisation and, with auto-negotiation, a partner that
offers full duplex; a PAM4 port is what its PCS finds. -/
def rxAligned (s : State) (p : Nat) (partner : BitVec 16) : Bool :=
  portPam4 s p || (nrzSynced (getLane s p).nrz && (! runsAn s p || fullDuplex partner))

/-- An NRZ lane receives bits: its synchronisation follows, and code violations are counted (R399). -/
def takeNrz (p : Nat) (bits : List Bool) (s : State) : State :=
  if portPam4 s p then s
  else
    let x := getLane s p
    let r := nrzReceive x.nrz (if polRx x then bits.map (fun b => ! b) else bits)
    count 18 p 1 r.2 (modLane p (fun x => { x with nrz := r.1 }) s)

/-- CLN_LINK_UP (R399, R400, R406): `bits` are what an NRZ lane has received, and `partner` the base page of its link partner; where the lane is
then not synchronised, or the partner offers no full duplex, the port stays in ALIGN. Else each lane has signal and clock; the SNR of
a lane that did not train is open (notes/assumptions/5.md). -/
def execClnLinkUp (p : PortIx) (bits : List Bool) (partner : BitVec 16) (s : State) : Out :=
  act (clnRuns s && (getPort s p.val).st = .align && (! runsAn s p.val || clnTrains s)) (fun s =>
    let s := takeNrz p.val bits s
    if ! rxAligned s p.val partner then s
    else
    let s := forAll (lanesOf p.val (portReg s p.val)) (fun k t =>
      let d := draw Config.freeNat t
      modLane k (fun x => { x with
        signal := true, cdr := true
        snr := if trains t p.val then x.snr else if portPam4 t p.val then d.1 % 65536 else 0 }) d.2) s
    let an := runsAn s p.val
    let s := modPort p.val (fun x => { x with st := .up, anDone := an }) s
    clnEvent 0x0A01 p.val
      (packData [(8, portType s p.val), (8, laneMask s p.val (fun x => x.preTx)), (8, laneMask s p.val (fun x => x.preRx))]) 0 s) s

/-- CLN_ALIGN_FAIL (R406). -/
def execClnAlignFail (p : PortIx) (mask : Nat) (s : State) : Out :=
  act (clnRuns s && (getPort s p.val).st = .align) (fun s =>
    clnEvent 0x0A04 p.val (packData [(8, mask)]) 5 (retrain p.val s)) s

/-- Cause code of R417. -/
def lossCode : LinkLoss → Nat
  | .signal => 0 | .cdr => 1 | .align _ => 2 | .autoneg => 3

/-- The bits that an NRZ lane has received when a link is lost. -/
def lossBits : LinkLoss → List Bool
  | .align l => l
  | .signal | .cdr | .autoneg => []

/-- The receive side of the client lanes works: CLTX may be fenced (R404). -/
def rxRuns (s : State) : Bool := inService s && dpServes s .clrx

/-- CLN_LINK_DOWN (R399, R400, R404, R406, R417): an NRZ lane that keeps synchronisation over the bits stays UP, and a partner restarts
auto-negotiation only where the port runs it. Without a signal an NRZ lane has no synchronisation. Which lane of several lost its signal or clock is open (notes/assumptions/5.md). -/
def execClnLinkDown (p : PortIx) (cause : LinkLoss) (s : State) : Out :=
  act (rxRuns s && (getPort s p.val).st = .up && (cause ≠ .autoneg || runsAn s p.val)) (fun s =>
    let s := takeNrz p.val (lossBits cause) s
    if lossCode cause = 2 && ! portPam4 s p.val && nrzSynced (getLane s p.val).nrz then s
    else
    let w := portReg s p.val
    let hurt := fun (f : LaneSt → LaneSt) (t : State) =>
      if portLanes w = 1 then modLane p.val f t
      else forAll (lanesOf p.val w) (fun k t =>
        let d := draw Config.freeBool t
        if d.1 then modLane k f d.2 else d.2) t
    let s := match cause with
      | .signal => hurt (fun x => { x with signal := false, cdr := false, nrz := {} }) s
      | .cdr => hurt (fun x => { x with cdr := false }) s
      | .align _ | .autoneg => s
    retrain p.val (leaveUp p.val (some (lossCode cause)) s)) s

/-- The reference is valid between these offsets (R392). -/
def refValid (ppm : Int) : Bool := -5300 ≤ ppm && ppm ≤ 300

/-- Raise a reference event on CLTX. -/
def refEvent (code : Nat) (ppm : Int) (s : State) : State :=
  oncePerSec code 0 (raise .cltx code 0 (packData [(16, ppm)])) s

/-- CLN_REFCLK_LOST (R392, R406): no edge, or an offset out of range; `ppm` is the last mean offset. Every transmitter goes to electrical
idle, and with it the checkers of looped lanes lose lock. -/
def execClnRefclkLost (ppm : Int) (s : State) : Out :=
  act (alive s && s.cln.refOk) (fun s =>
    let s := setFlag .clnFlags .A 2 (refEvent 0x0A06 ppm { s with cln := { s.cln with refOk := false, ppm := ppm } })
    let s := forAll (List.range 32) (fun k => modLane k (fun x => { x with prbs := false })) s
    forAll (List.range 32) (fun p t =>
      if (getPort t p).st = .disabled then t else toWaitRef p (leaveUp p (some 4) t)) s) s

/-- CLN_REFCLK_OK (R392): the reference has stayed valid for 10 ms. -/
def execClnRefclkOk (ppm : Int) (s : State) : Out :=
  act (alive s && ! s.cln.refOk && refValid ppm)
    (fun s => refEvent 0x0A07 ppm { s with cln := { s.cln with refOk := true, ppm := ppm } }) s

/-- CLN_HI_SER (R398): the data are the symbols corrected in the second. -/
def execClnHiSer (p : PortIx) (symCorr : Nat) (s : State) : Out :=
  act (rxRuns s && (getPort s p.val).st = .up && portPam4 s p.val && ! (getPort s p.val).hiSer) (fun s =>
    clnEvent 0x0A05 p.val (packData [(32, symCorr)]) 4 (modPort p.val (fun x => { x with hiSer := true }) s)) s

/-- HI_SER_CLEAR (R398). -/
def execHiSerClear (p : PortIx) (s : State) : Out :=
  act (rxRuns s && (getPort s p.val).hiSer) (modPort p.val (fun x => { x with hiSer := false })) s

/-- The transmitter of a lane is in electrical idle (R47, R385, R392, R404 to R406, R568): its group is OFF, the module is not in service,
the reference is lost, CLTX does not run, or no port signals on it and no loop drives it. -/
def elecIdle (s : State) (k : Nat) : Bool :=
  grpMode s (k / 4) = 0 || ! inService s || ! s.cln.refOk || ! dpServes s .cltx
    || (laneLoop s k = 0 && (match portOfLane s k with
        | none => true
        | some p => (getPort s p).st = .disabled || (getPort s p).st = .waitRef))

/-- PAM4, and PATTERN, of a lane. -/
def lanePam (s : State) (k : Nat) : Bool := grpMode s (k / 4) = 1
def lanePat (s : State) (k : Nat) : Nat := regF s .clnLane .A k 12 12

/-- The generator of a lane drives its transmitter with as many bits of the pattern as the checker takes (R408, R409). -/
def drivePattern (k n : Nat) (s : State) : State :=
  let pam := lanePam s k
  modLane k (fun x =>
    let r := prbsRun pam (lanePat s k) n x.gen
    let y := { x with gen := r.2, test := if polTx x && ! pam then r.1.map (fun b => ! b) else r.1 }
    if pam then sendPairs ((chunks 2 n r.1).map (fun c => (c.getD 0 false, c.getD 1 false))) y else y) s

/-- The checker of a lane works: the lane is in loop 1 or 2 and its transmitter drives the pattern (R392, R408, R409). -/
def checks (s : State) (k : Nat) : Bool := clnRuns s && ! elecIdle s k && (laneLoop s k = 1 || laneLoop s k = 2)

/-- PRBS_LOCK_ACQUIRED (R409): the bits end with 64 error-free symbols of the lane's pattern. -/
def execPrbsLockAcquired (x : LaneRx) (s : State) : Out :=
  let k := x.lane.val
  act (checks s k && ! (getLane s k).prbs && prbsLocks (lanePam s k) (lanePat s k) x.bits) (fun s =>
    modLane k (fun y => { y with prbs := true, prbsSec := true }) (drivePattern k x.bits.length s)) s

/-- PRBS_LOCK_LOST (R409, R416): 64 errors within 1,024 symbols, which are counted. -/
def execPrbsLockLost (x : LaneRx) (s : State) : Out :=
  let k := x.lane.val
  act (checks s k && (getLane s k).prbs && prbsLoses (lanePam s k) (lanePat s k) x.reg x.bits) (fun s =>
    let n := prbsErrors (lanePam s k) (lanePat s k) x.reg x.bits
    count 18 k 2 n (modLane k (fun y => { y with prbs := false }) (drivePattern k x.bits.length s))) s

/-- A port sends Remote Fault (R398, R403, R404). -/
def sendsRf (s : State) (p : Nat) : Bool :=
  match (getPort s p).st with
  | .training | .align => true
  | .up => (getPort s p).hiSer || ! dpServes s .clrx
  | .disabled | .waitRef | .test => false

/-! ## Host writes (R408, R413, R414) -/

/-- Every ranged field of a setting lies in its range. -/
def rangesOk (r : Reg) (v : W32) : Bool := r.row.ranges.all (fun f => f.ok v)

/-- An enabled port has a lane in group `g`. -/
def clnGrpUsed (s : State) (g : Nat) : Bool :=
  (List.range 4).any (fun j => (portOfLane s (4 * g + j)).isSome)

/-- A value of CLN_GRP_g is refused. -/
def clnGrpRefused (s : State) (g : Nat) (v : W32) : Bool :=
  fld v 1 0 = 3 || (fld v 1 0 ≠ grpMode s g && clnGrpUsed s g)

/-- An enabled port with a register value is not possible: lane count, group modes, lanes of other ports. -/
def portShapeBad (s : State) (p : Nat) (v : W32) : Bool :=
  let n := portLanes v
  p % n ≠ 0
    || (lanesOf p v).any (fun k => grpMode s (k / 4) = 0)
    || (1 < n && grpMode s (p / 4) = 2)
    || (n = 8 && (grpMode s (p / 4) ≠ 1 || grpMode s (p / 4 + 1) ≠ 1))
    || (lanesOf p v).any (fun k => match portOfLane s k with
        | some q => q ≠ p
        | none => false)

/-- A value of CLN_PORT_p is refused. -/
def clnPortRefused (s : State) (p : Nat) (v : W32) : Bool :=
  let old := portReg s p
  (portEn old && portEn v && (old ^^^ v) &&& 0x76 ≠ 0)
    || (portEn v && portShapeBad s p v)
    || (v.getLsbD 5 && v.getLsbD 4)
    || ! rangesOk .clnPort v

/-- A value of CLN_LANE_k is refused. -/
def clnLaneRefused (s : State) (k : Nat) (v : W32) : Bool :=
  fld v 1 0 = 3 || fld v 3 2 = 3 || (fld v 9 8 ≠ 0 && grpMode s (k / 4) = 0)

/-- A port's EN is cleared (R406, R414): the PTP source is lost when it was the PTP port's. Its lanes use no precoding and read no signal, clock
or SNR any more, which the rules leave open (DESIGN CHOICE, unsafe; notes/assumptions/226.md). -/
def disablePort (p : Nat) (s : State) : State :=
  let s := modPort p (fun x => { rxPam := x.rxPam, rxNrz := x.rxNrz }) (leaveUp p none s)
  let s := forAll (lanesOf p (portReg s p)) (fun k =>
    modLane k (fun x => { x with signal := false, cdr := false, preTx := false, preRx := false, snr := 0 })) s
  if s.tod.ptpOn && s.tod.ptpPort = p then (if s.tod.source = 1 then loseSource s else dropMaster s) else s

/-- A group goes to OFF: its lanes are unpowered and keep nothing (R385); the bit errors of the second are counted at its end (R416). -/
def unpowerGrp (g : Nat) (s : State) : State :=
  forAll (List.range 4) (fun j => modLane (4 * g + j) (fun x => { prbsSec := x.prbsSec })) s

/-- MODE of a group changes: OFF leaves its lanes without power, and a lane that is looped begins with the pattern of the new mode (R385, R408,
R409). -/
def enterMode (g mode : Nat) (s : State) : State :=
  if mode = 0 then unpowerGrp g s else forAll (List.range 4) (fun j => startPattern (4 * g + j)) s

/-- A host write of CLN_PORT_p. It is taken whether an image is accepted or not: the lanes that R105 leaves disabled come up when the host
enables their port (DESIGN CHOICE, unsafe; notes/assumptions/233.md). -/
def writeClnPort (p : Nat) (v : W32) (s : State) : State × Status :=
  let v := v &&& Reg.clnPort.row.wmask
  refuseOr ((writeGate s .cltx).worse (if clnPortRefused s p v then .errState else .ok)) (fun s =>
    let was := portEn (portReg s p)
    let s := if was && ! portEn v then disablePort p s else s
    let s := setReg .clnPort .A p v s
    if ! was && portEn v then toWaitRef p s else s) s

/-- CLN_PORT_WRITE (R406, R413). -/
def execClnPortWrite (p : PortIx) (v : W32) (s : State) : Out := .next (setStatus (writeClnPort p.val v s))

/-- The port of a lane whose LOOP has been written: its first loop takes it to TEST, and the end of its last to WAIT_REF (R406, R408). -/
def portFollowsLoop (k : Nat) (v : W32) (s : State) : State :=
  match portOfLane s k with
  | none => s
  | some p =>
    let st := (getPort s p).st
    if fld v 9 8 ≠ 0 && st ≠ .disabled && st ≠ .test then enterTest p (leaveUp p (some 5) s)
    else if st = .test && (lanesOf p (portReg s p)).all (fun j => laneLoop s j = 0) then toWaitRef p s
    else s

/-- A host write of CLN_LANE_k (R406, R408, R409, R413). -/
def writeClnLane (k : Nat) (v : W32) (s : State) : State × Status :=
  let v := v &&& Reg.clnLane.row.wmask
  refuseOr ((writeGate s .cltx).worse (if clnLaneRefused s k v then .errState else .ok)) (fun s =>
    let old := laneLoop s k
    let pat := lanePat s k
    let s := setReg .clnLane .A k v s
    portFollowsLoop k v (if fld v 9 8 = old && lanePat s k = pat then s else startPattern k s)) s

/-- CLN_LANE_WRITE (R408). -/
def execClnLaneWrite (k : PortIx) (v : W32) (s : State) : Out := .next (setStatus (writeClnLane k.val v s))

/-! ## Frames (R402, R403, R407) -/

/-- One byte of the reflected CRC-32 of IEEE 802.3. -/
def crc32Bits : Nat → Nat → Nat
  | 0, c => c
  | k + 1, c => crc32Bits k (if c % 2 = 1 then (c / 2) ^^^ 0xEDB88320 else c / 2)

/-- The frame check sequence of IEEE 802.3 as it is sent, least significant byte first. -/
def fcs (l : List Byte) : List Byte :=
  (toBytes 4 ((l.foldl (fun c b => crc32Bits 8 (c ^^^ b.toNat)) 0xFFFFFFFF) ^^^ 0xFFFFFFFF)).reverse

/-- EtherType of MAC Control. -/
def macControl : Nat := 0x8808

/-- A frame is offered to FLOW: it passes and is counted, or is discarded at ingress above the shared packet rate (R31). -/
def passFrame (p : Nat) (b : List Byte) (s : State) : State :=
  if overRate s then count 17 p 7 1 s
  else
    let s := takePkt s
    count 17 p 1 (b.length + 4) (count 17 p 0 1 { s with flow := { s.flow with ingress := s.flow.ingress ++ [⟨p, b⟩] } })

/-- The lanes of a port receive a frame: a PAM4 port in indexes that the PCS and FEC of IEEE 802.3 make of it (R394, R395), an NRZ lane in the
bits that come with it (R399). -/
def takeFrame (p : Nat) (fr : RxFrame) (s : State) : State :=
  if portPam4 s p then
    forAll (lanesOf p (portReg s p)) (fun k => modLane k (takeIndexes (Config.pcsIndexes (portType s p) k fr.bytes s.free)))
      { s with free := s.free + 1 }
  else takeNrz p fr.bits s

/-- The lanes on which the host's symbols meet a loop: those of a port in TEST, or the one of this number where no port holds it (R408). -/
def loopLanes (s : State) (p : Nat) : List Nat :=
  if (getPort s p).st = .test then lanesOf p (portReg s p) else if (portOfLane s p).isNone then [p] else []

/-- Lanes meet the host's symbols (R408): in loop 3 they are sent unchanged, and in loops 1 and 2 CL_RX is ignored. -/
def loopFrame (p : Nat) (fr : RxFrame) (s : State) : State :=
  forAll (loopLanes s p) (fun k t =>
    if laneLoop t k ≠ 3 || elecIdle t k then t
    else if lanePam t k then
      modLane k (fun x => { x with out := (Config.pcsIndexes (portType s p) k fr.bytes s.free).map pam4Level }) t
    else modLane k (fun x => { x with test := fr.bits }) t) { s with free := s.free + 1 }

/-- The octets that CLTX sends for a frame (R403): preamble, start-of-frame delimiter, frame and check sequence; and the minimum gap. -/
def wireBytes (b : List Byte) : List Byte := List.replicate 7 0x55 ++ [0xD5] ++ b ++ fcs b
def minGap : Nat := 12

/-- The lanes of a port send the octets of a frame: PAM4 levels, or the code groups of an NRZ lane (R394, R395, R399). -/
def driveLanes (p : Nat) (b : List Byte) (s : State) : State :=
  if portPam4 s p then
    forAll (lanesOf p (portReg s p)) (fun k => modLane k (sendPairs (Config.pcsPairs (portType s p) k b s.free)))
      { s with free := s.free + 1 }
  else modLane p (fun x =>
    let g := packetGroups x.txPos b
    { x with codes := if polTx x then g.1.map (fun c => ~~~ c) else g.1, txPos := g.2 }) s

/-- An NRZ lane has lost its synchronisation over bits that came with a frame (R399, R406). -/
def syncLost (p : Nat) (s t : State) : Bool :=
  ! portPam4 s p && nrzSynced (getLane s p).nrz && ! nrzSynced (getLane t p).nrz

/-- The bits of a frame on an NRZ lane hold a code violation or an error control character (R402). -/
def nrzErrors (s : State) (p : Nat) (fr : RxFrame) : Bool :=
  ! portPam4 s p && nrzFaulty (getLane s p).nrz (if polRx (getLane s p) then fr.bits.map (fun b => ! b) else fr.bits)

/-- CLIENT_FRAME_RECEIVED (R402, R404): the first case that applies decides. While FLOW is in QUIESCE the frame is held where
the ingress buffer has room, which is open (notes/assumptions/5.md). A frame in which an NRZ lane loses synchronisation is cut short and takes
the link down (R406), and at a looped lane there is no frame but what it sends back (R408). -/
def execClientFrameReceived (p : PortIx) (fr : RxFrame) (s : State) : Out :=
  act (rxRuns s && ((getPort s p.val).st = .up || loopLanes s p.val ≠ [] || fr.aborted)) (fun s =>
    if loopLanes s p.val ≠ [] && ! fr.aborted then loopFrame p.val fr s
    else
    let was := s
    let s := takeFrame p.val fr s
    let n := fr.bytes.length + 4
    if syncLost p.val was s then
      let t := count 17 p.val 5 1 s
      if (getPort t p.val).st = .up then retrain p.val (leaveUp p.val (some 2) t) else t
    else if fr.aborted then count 17 p.val 5 1 s
    else if portMtu s p.val < n then count 17 p.val 3 1 s
    else if ! fr.crcOk || nrzErrors was p.val fr || (getPort s p.val).hiSer then count 17 p.val 2 1 s
    else if beAt fr.bytes 12 2 = macControl then count 17 p.val 4 1 s
    else
      match dpFence s .flow with
      | .run =>
        passFrame p.val fr.bytes s
      | .quiesce =>
        let d := draw Config.freeBool s
        if d.1 then { d.2 with cln := { d.2.cln with buf := d.2.cln.buf ++ [⟨p.val, fr.bytes⟩] } }
        else count 17 p.val 6 1 d.2
      | .drain | .fenced | .reset | .resume => count 17 p.val 6 1 s) s

/-- Frames held in the ingress buffers are retried once FLOW is in RUN again, and lost once it is in DRAIN (R404). -/
def retryHeld (s : State) : State :=
  forAll s.cln.buf (fun k t => passFrame k.port k.bytes t) { s with cln := { s.cln with buf := [] } }
def dropHeld (s : State) : State :=
  forAll s.cln.buf (fun k t => count 17 k.port 6 1 t) { s with cln := { s.cln with buf := [] } }

/-- CLIENT_FRAME_TRANSMIT (R361, R398, R403, R404, R407): the next unit of the port's egress queue is sent with preamble, delimiter, a new
check sequence and the gap; one directed to a port that is not UP is discarded, and so is a MAC Control frame, which the module never
sends. While an UP port sends Remote Fault its units wait (notes/assumptions/202.md), and from QUIESCE of a hard reset of CLTX they wait at
its input (R528). -/
def execClientFrameTransmit (p : PortIx) (s : State) : Out :=
  act (inService s && dpTakes s .flow && dpTakes s .cltx && dpServes s .clrx
    && ! ((getPort s p.val).st = .up && sendsRf s p.val)) (fun s =>
    match tget [] s.flow.egress p.val with
    | [] => s
    | ⟨f, _, b⟩ :: rest =>
      let s := { s with flow := { s.flow with egress := tset [] s.flow.egress p.val rest } }
      if (getPort s p.val).st = .up && beAt b 12 2 = macControl then s
      else if (getPort s p.val).st = .up then
        let s := driveLanes p.val (wireBytes b) s
        let s := count 17 p.val 9 (b.length + 4) (count 17 p.val 8 1 s)
        let l := tget [] s.cln.sent p.val
        { s with cln := { s.cln with sent := tset [] s.cln.sent p.val (⟨wireBytes b, minGap⟩ :: l) } }
      else modFlow f (fun x => { x with dropQfull := satAdd x.dropQfull 1 }) s) s

end Sys2Proof.Machine
end

