-- ==== Sys2Proof/Machine/Cipher.lean ====
section
/-! DEFINITION. The cipher engines, the resume of CRYP, and the life-cycle and provisioning commands (R422 to R425, R434 to
R438, R454 to R460). -/

namespace Sys2Proof.Machine

/-! ## Counters of a generation (R437, R438, R454) -/

/-- 2^20, the checkpoint stride, and 2^62, the hard stop. -/
def ckStride : Nat := 2 ^ 20
def hardStop : Nat := 2 ^ 62

/-- A counter moved from `a` to `b` reaches the soft threshold, or a multiple of 2^32 above it. -/
def softReached (log2 a b : Nat) : Bool :=
  (a < 2 ^ log2 && 2 ^ log2 ≤ b) || (2 ^ log2 < b && a / 2 ^ 32 < b / 2 ^ 32)

/-- Object ID of a container (R460). -/
def ctrObjId (e : Eng) (c : Nat) : Nat := 65536 * e.num + c

/-- A unit is discarded: counted for its container, flagged, and raised once the second ends (R460). -/
def cipherDrop (e : Eng) (c idx flag code obj : Nat) (s : State) : State :=
  setFlag .secFlags .A flag
    (perSecond .cryp code obj 1 (countCtr 19 e c idx 1 s))

def dropAbsent (e : Eng) (c k : Nat) : State → State := cipherDrop e c 0 3 0x0B08 k
def dropNonce (e : Eng) (c k : Nat) : State → State := cipherDrop e c 1 5 0x0B05 k
def dropReplay (e : Eng) (c : Nat) : State → State := cipherDrop e c 2 2 0x0B07 (ctrObjId e c)
def dropAuth (e : Eng) (c : Nat) : State → State := cipherDrop e c 3 1 0x0B06 (ctrObjId e c)

/-- A counter that reached its threshold asks for a rekey, with SEC_NONCE_SOFT (R437, R443). -/
def softRekey (k old new : Nat) (s : State) : State :=
  if softReached (regF s .secCfg .A 0 5 0) old new then
    setFlag .secFlags .A 4
      (oncePerSec 0x0B04 k (raise .cryp 0x0B04 k (packData [(32, new / 2 ^ 32)])) (requestRekey k 0 s))
  else s

/-- CRYP takes new units: the inputs of its datapath are held from QUIESCE of a hard reset (R23, R528). -/
def crypTakes (s : State) : Bool := dpFence s .cryp = .run

/-- Upstream units that reach an island from DRAIN of its hard reset to its return to RUN are discarded (R454, R533). -/
def usLost (s : State) (i : Isl) : Bool :=
  match dpFence s i with
  | .run | .quiesce => false
  | .drain | .fenced | .reset | .resume => true

/-! ## Units (R253, R436) -/

/-- The unit header as 12 bytes. -/
def unitHeader (len cid ic : Nat) : List Byte := toBytes 4 (len * 2 ^ 18 + cid) ++ toBytes 8 ic

/-- The 96-bit IV of a generation and an invocation counter. -/
def ivOf (salt : W32) (ic : Nat) : List Byte := wordBytes salt ++ toBytes 8 ic

/-- Zero bytes that bring a unit to a multiple of 4. -/
def padUnit (l : List Byte) : List Byte := l ++ List.replicate ((4 - l.length % 4) % 4) 0

/-- A body sealed under a generation as a whole unit (R436). -/
def sealUnit (g : Gen) (cid ic : Nat) (body : List Byte) : List Byte :=
  let h := unitHeader body.length cid ic
  let c := gcmSeal g.key g.subkey (ivOf g.salt ic) h body
  padUnit (h ++ c.1 ++ c.2)

/-- The region of memory whose POISON a queued unit contains, or 0: DS_QUEUE for what lies in its leaf's share, and for what DMEM's transfer
read through port 1 on its way to DRAM; the downstream queues for what lies there (R358, R461, R471; notes/assumptions/248.md). -/
def queuePoison (q : QPkt) (s : State) : Nat × State :=
  let l := regionBanks s 0x07 2
  let near := unitPoison 2 rdPort0 l (unitWords (unitSize q.body.length - q.dram)) s
  let spill := unitPoison 2 rdPort1 l (unitWords q.dram) near.2
  let far := unitPoisonFar 9 (unitWords q.dram) spill.2
  (if near.1 || spill.1 then 2 else if far.1 then 9 else 0, far.2)

/-- UNIT_ENCRYPT (R433 to R437): the unit at the head of the container's queue binds to the current generation, takes its IC,
and waits for cells; one that contains a POISON word of its queue's memory is discarded (R471). -/
def execUnitEncrypt (e : Eng) (c : Cid) (s : State) : Out :=
  act (inService s && flowRuns s && crypTakes s) (fun s =>
    let y := getCtr s e c.val
    match y.queue with
    | [] => s
    | q :: rest =>
      let k := ctrSlot s e c.val false
      let x := getSlot s k
      let p := queuePoison q (setCtr e c.val { y with queue := rest } s)
      let s := p.2
      if p.1 ≠ 0 then count 23 p.1 4 1 s
      else if x.st = .empty || x.st = .erasing then dropAbsent e c.val k s
      else if hardStop ≤ x.cur.ctr then dropNonce e c.val k s
      else
        let n := x.cur.ctr + 1
        let ic := x.gen % 2 * 2 ^ 63 + x.cur.ctr
        let g := { x.cur with ctr := n, ck := if n % ckStride = 0 then n else x.cur.ck }
        let s := softRekey k x.cur.ctr n (setSlot k { x with cur := g } s)
        let s := throughLane (gcmStream x.cur.key (ivOf x.cur.salt ic) q.body.length) s
        let u : TxUnit := ⟨c.val, q.flow, q.fsn, sealUnit x.cur c.val ic q.body, q.dram⟩
        joinRr e c.val (modCtr e c.val (fun z => { z with out := z.out ++ [u] }) s)) s

/-- The generation of a slot that a parity names: the current one (true) or the old one. -/
def genOfParity (x : KeySlot) (p : Nat) : Option (Bool × Gen) :=
  match x.st with
  | .one => if x.gen % 2 = p then some (true, x.cur) else none
  | .two => if x.gen % 2 = p then some (true, x.cur) else some (false, x.old)
  | .empty | .erasing => none

/-- The last accepted value of a generation moves to `ic`; a checkpoint is written when it passes a multiple of 2^20. -/
def acceptIc (g : Gen) (ic : Nat) : Gen :=
  { g with ctr := ic + 1, ck := if (g.ctr - 1) / ckStride < ic / ckStride then ic + 1 else g.ck }

/-- UNIT_DECRYPT (R435, R438, R454, R528, R533): the next upstream unit is checked in order, and its body goes to FLOW. A fenced CRYP or FLOW
discards it. -/
def execUnitDecrypt (s : State) : Out :=
  act (inService s && s.sec.usIn ≠ [] && dpFence s .cryp ≠ .quiesce) (fun s =>
    match s.sec.usIn with
    | [] => s
    | u :: rest =>
      let s := { s with sec := { s.sec with usIn := rest } }
      let w := fld u.header 95 64
      let c := unitCid w
      let hand := fun (b : List Byte) (t : State) =>
        if usLost t .flow then countCtr 19 u.eng c 4 1 t
        else { t with flow := { t.flow with usClear := t.flow.usClear ++ [{ u with body := b, tag := [] }] } }
      if usLost s .cryp then countCtr 19 u.eng c 4 1 s
      else if unitClear w then hand u.body s
      else
        let k := usSlot s u.eng u.leaf
        let x := getSlot s k
        let ic := fld u.header 61 0
        match genOfParity x (fld u.header 63 63) with
        | none => dropAbsent u.eng c k s
        | some (isCur, g) =>
          if u.header.getLsbD 62 then dropNonce u.eng c k s
          else if ic < g.ctr then dropReplay u.eng c s
          else
            let s := throughLane (gcmStream g.key (ivOf g.salt (fld u.header 63 0)) u.body.length) s
            match gcmOpen g.key g.subkey (ivOf g.salt (fld u.header 63 0)) (toBytes 12 u.header.toNat) u.body u.tag with
            | none => dropAuth u.eng c s
            | some b =>
              let h := acceptIc g ic
              let s := setSlot k (if isCur then { x with cur := h, newSeen := x.newSeen || x.st = .two } else { x with old := h }) s
              hand b (softRekey k g.ctr h.ctr s)) s

/-! ## Resume of CRYP (R454) -/

/-- Counters of a slot after CRYP has resumed: a downstream or group counter goes on 2^20 above its checkpoint, and an upstream
generation accepts what lies above its own. -/
def resumeGen (up : Bool) (g : Gen) : Gen :=
  if up then { g with ctr := g.ck } else { g with ctr := g.ck + ckStride, ck := g.ck + ckStride }

/-- The Banker writes a generation to CRYP again over the private key bus (R432, R454). -/
def reloadGen (up : Bool) (b : BankKey) (g : Gen) (s : State) : Gen × State :=
  let p := makeGen b.key b.salt s
  let r := resumeGen up g
  ({ p.1 with ctr := r.ctr, ck := r.ck }, p.2)

/-- Every present generation of a slot is reloaded. -/
def resumeSlot (k : Nat) (s : State) : State :=
  let up := 8192 ≤ k && k < 16384
  let x := getSlot s k
  match x.st with
  | .empty | .erasing => s
  | .one =>
    let p := reloadGen up x.bank x.cur s
    setSlot k { x with cur := p.1 } p.2
  | .two =>
    let p := reloadGen up x.bank x.cur s
    let q := reloadGen up x.bankOld x.old p.2
    setSlot k { x with cur := p.1, old := q.1 } q.2

/-- CRYP resumes: keys and counters, and a rekey of the upstream of every ACTIVE leaf. -/
def crypResume (s : State) : State :=
  let s := forAll (s.sec.slots.map (fun p => p.1)) resumeSlot s
  forAll (s.leaves.filter (fun p => p.2.st = .active)) (fun p t => requestRekey (8192 + p.1) 3 t) s

/-! ## Provisioning (R425) -/

/-- SEC_PROV_HASH as 256 bits, word 0 first. -/
def provHash (s : State) : BitVec 256 :=
  BitVec.ofNat 256 ((List.range 8).foldl (fun a i => a * 2 ^ 32 + (tget 0 s.sec.prov i).toNat) 0)

/-- A host write of SEC_PROV_HASH_i. -/
def writeProvHash (i : Nat) (v : W32) (s : State) : State × Status :=
  refuseOr (writeGate s .key) (fun s => { s with sec := { s.sec with prov := tset 0 s.sec.prov i v } }) s

/-- A host write of SEC_PROV_CMD (R425); a value other than 0xC0DE commits nothing. -/
def writeProvCmd (v : W32) (s : State) : State × Status :=
  refuseOr ((writeGate s .key).worse
      (if lcState s ≠ 2 || s.fuse.signHash ≠ 0 || provHash s = 0 then .errState else .ok)) (fun s =>
    if fld v 15 0 ≠ 0xC0DE then s
    else
      let s := { s with fuse := { s.fuse with signHash := provHash s } }
      setFlag .secFlags .A 7
        (secEvent .key 0x0B0B 0 (packData [(32, (tget 0 s.sec.prov 0).toNat)]) s)) s

/-- SEC_PROV_COMMIT (R425). -/
def execSecProvCommit (s : State) : Out := .next (setStatus (writeProvCmd 0xC0DE s))

/-! ## Life cycle (R423, R424) -/

/-- The time an arm stays valid. -/
def armNs : Nat := 1000000000

/-- The states in which the return and the void sequence are transitions (R423). -/
def mayReturn (s : State) : Bool := lcState s = 2 || lcState s = 3
def mayVoid (s : State) : Bool := 1 ≤ lcState s && lcState s ≤ 4

/-- An arm is valid: no more than 1 s has passed. -/
def armValid (s : State) : Bool := now s ≤ s.sec.armAt + armNs

/-- Steps 1 to 3 of R424: lit engines ramp off, every key, secret and DRBG state is zeroised, and DRK and SIGN_HASH are blown. -/
def zeroise (s : State) : State :=
  let s := forAll engines (fun e t => if (getEng t e).down.laser = .dark then t else rampTxOff e t) s
  let s := { s with leaves := s.leaves.filterMap (fun (p : Nat × Leaf) =>
    let y : Leaf := { p.2 with exch := {} }
    if y = ({} : Leaf) then none else some (p.1, y)) }
  { s with
    sec := { s.sec with slots := [], grp := [], waits := [], drbg := {}, lanes := [], blocks := [] }
    fuse := { s.fuse with drk := BitVec.allOnes 256, signHash := BitVec.allOnes 256 } }

/-- What a code written to SEC_LC_CMD does: the new arm, or none when it is refused. -/
def lcNext (s : State) (code : Nat) : Option LcArm :=
  match s.sec.arm with
  | .returnGo | .voidGo => none
  | a =>
    if code = 0x5254 then (if mayReturn s then some .return else none)
    else if code = 0x564F then (if mayVoid s then some .void else none)
    else if code = 0x4E44 then (if a = .return && armValid s then some .returnGo else none)
    else if code = 0x4944 then (if a = .void && armValid s then some .voidGo else none)
    else none

/-- A host write of SEC_LC_CMD (R424): arm, commit, or ERR_STATE with the arm cancelled. -/
def writeLcCmd (v : W32) (s : State) : State × Status :=
  match writeGate s .key with
  | .ok =>
    match lcNext s (fld v 15 0) with
    | some a =>
      let s := { s with sec := { s.sec with arm := a, armAt := now s } }
      (if a = .returnGo || a = .voidGo then zeroise s else s, .ok)
    | none =>
      if s.sec.arm = .returnGo || s.sec.arm = .voidGo then (s, .errState)
      else ({ s with sec := { s.sec with arm := .none } }, .errState)
  | g => (s, g)

/-- The four rows of R424. -/
def execLcReturnArm (s : State) : Out := .next (setStatus (writeLcCmd 0x5254 s))
def execLcReturnCommit (s : State) : Out := .next (setStatus (writeLcCmd 0x4E44 s))
def execLcVoidArm (s : State) : Out := .next (setStatus (writeLcCmd 0x564F s))
def execLcVoidCommit (s : State) : Out := .next (setStatus (writeLcCmd 0x4944 s))

/-- LC_ARM_EXPIRY (R424). -/
def execLcArmExpiry (s : State) : Out :=
  act (s.sec.arm = .return || s.sec.arm = .void) (fun s => { s with sec := { s.sec with arm := .none } }) s

/-- SEC_LC_CHANGE (R418, R423, R424): the bits that took in each of the three copies of LC stand beside what was blown; the event tells
the states and whether the fuse write failed, and the module starts again, where R86 keeps a VOID part in its boot ROM. -/
def execSecLcChange (a b c : BitVec 8) (s : State) : Out :=
  actF (powered s && (s.sec.arm = .returnGo || s.sec.arm = .voidGo)) (fun s =>
    let old := lcState s
    let want : BitVec 8 := if s.sec.arm = .returnGo then s.fuse.lc ||| 0x0F else 0xFF
    let s := { s with fuse := s.fuse.blowLc (a &&& want) (b &&& want) (c &&& want) }
    let s := lcEvent old (lcState s) (s.fuse.lc ≠ want) s
    restart s) s

end Sys2Proof.Machine
end

