-- ==== Sys2Proof/Machine/Memory.lean ====
section
/-! DEFINITION. Shared SRAM banks and their moves, the outcomes of memory reads, the scrubber, the background tester and the host
scratchpad (R461 to R481). -/

namespace Sys2Proof.Machine

/-! ## Banks (R461 to R464) -/

/-- An owner suits a use (R463). -/
def ownerSuits (use owner : Nat) : Bool :=
  match use with
  | 0 => owner = 0x00
  | 1 | 2 => owner = 0x07
  | 3 => owner = 0x13 || owner = 0x23
  | 4 => owner = 0x03
  | 5 => owner = 0x11 || owner = 0x21
  | _ => false

/-- An allocation is legal for the enabled engines (R463, R464). -/
def banksLegal (enA enB : Bool) (f : Nat → W32) : Bool :=
  let all := (List.range 64).map f
  let n := fun (use owner : Nat) => (all.filter (fun w => bankUse w = use && (use ≠ 3 && use ≠ 5 || bankOwner w = owner))).length
  all.all (fun w => w &&& 0xFFFEF000 = 0 && ownerSuits (bankUse w) (bankOwner w))
    && n 1 0 = 24 && 16 ≤ n 2 0 && n 2 0 ≤ 32 && 4 ≤ n 4 0 && n 4 0 ≤ 8
    && [(enA, 0x13, 0x11), (enB, 0x23, 0x21)].all (fun (e, us, sc) =>
        if e then 2 ≤ n 3 us && n 3 us ≤ 8 && 1 ≤ n 5 sc && n 5 sc ≤ 2 else n 3 us = 0 && n 5 sc = 0)

/-- DMEM's scrubber, tester and move engine work; a restart of DMEM pauses them (R534). -/
def dmemRuns (s : State) : Bool := inService s && ctlRuns s .dmem

/-! ## Moving a bank (R466, R467) -/

/-- A move command is refused. -/
def moveRefused (s : State) (src dst : Nat) : Bool :=
  bankUse (bankWord s src) = 0 || bankUse (bankWord s dst) ≠ 0 || src = dst || s.mem.move.isSome
    || (match s.mem.bgt with
        | some (b, _) => b = dst
        | none => false)

/-- A host write of MEM_MOVE. -/
def writeMemMove (v : W32) (s : State) : State × Status :=
  let src := fld v 5 0
  let dst := fld v 13 8
  let go := v.getLsbD 15
  refuseOr ((writeGate s .dmem).worse (if go && moveRefused s src dst then .errState else .ok)) (fun s =>
    if go then { s with mem := { s.mem with move := some (src, dst), moveWords := 0 } } else s) s

/-- MEM_MOVE_GO (R466, R467). -/
def execMemMoveGo (src dst : BankIx) (s : State) : Out :=
  .next (setStatus (writeMemMove (wordOf [(0, src.val), (8, dst.val), (15, 1)]) s))

/-- The event of a move's end. -/
def moveEvent (src dst abandoned : Nat) (s : State) : State :=
  raiseF .dmem 0x0C06 (memObj (bankUse (bankWord s src)) src) (packData [(8, src), (8, dst), (8, abandoned)]) .memFlags .A 6 s

/-- The move engine has read every word of SRC through port 1: those known to be bad report it, and of the others any may (R461, R468,
R470). -/
def moveReads (src : Nat) (s : State) : State :=
  let r := bankUse (bankWord s src)
  let at' := fun (k : Nat) => wordNo src k (useBanks s r)
  let known := s.mem.poisoned.filter (fun p => p.1 = r && wordBanks s r p.2 = [src])
  let s := forAll known (fun p t => memUncorr p.1 p.2 rdPort1 (memAccess p.1 p.2 rdPort1 t)) s
  let n := draw Config.freeNat s
  forAll (List.range (n.1 % (bankWords + 1))) (fun _ t =>
    let k := draw Config.freeNat t
    let w := at' (k.1 % bankWords)
    if (r, w) ∈ t.mem.poisoned then k.2 else (memRead r w rdPort1 k.2).2) n.2

/-- What the banks hold after a move: DST what SRC held, writes during the copy among it, and SRC zeros with valid check bits; a word that
was bad in SRC stays so in DST (R466, R472; notes/assumptions/247.md). -/
def moveContents (src dst : Nat) (s : State) : State :=
  let v := tget 0 s.mem.sram src
  { s with mem := { s.mem with
      sram := tset 0 (tset 0 s.mem.sram dst v) src 0
      poisoned := s.mem.poisoned.filter (fun p => ! (p.1 = 0 && wordBanks s 0 p.2 = [dst])) } }

/-- MEM_MOVE_DONE (R466): DST takes SRC's contents, owner, use, pin and place, and SRC becomes FREE and zero. -/
def execMemMoveDone (s : State) : Out :=
  act (dmemRuns s && s.mem.move.isSome) (fun s =>
    match s.mem.move with
    | none => s
    | some (src, dst) =>
      let w := bankWord s src
      let s := moveEvent src dst 0 (moveContents src dst (moveReads src s))
      let s := swapPlaces src dst (setReg .memBank .A src 0 (setReg .memBank .A dst w s))
      { s with mem := { s.mem with move := none, moveWords := bankWords } }) s

/-- MEM_MOVE_TIMEOUT (R466): the copy is abandoned and DST is FREE again; how far it came is open. -/
def execMemMoveTimeout (s : State) : Out :=
  act (dmemRuns s && s.mem.move.isSome) (fun s =>
    match s.mem.move with
    | none => s
    | some (src, dst) =>
      let d := draw Config.freeNat (freshBank dst s)
      let s := moveEvent src dst 1 d.2
      { s with mem := { s.mem with move := none, moveWords := d.1 % bankWords } }) s

/-! ## The scrubber (R475, R476) -/

/-- The start has written a region, so that the module may read it (R77 steps 3, 9 and 10, R82); the scratchpad is the host's to
write. -/
def regionReady (s : State) (r : Nat) : Bool :=
  if r < 8 then s.boot.sram else if r = 8 then s.boot.ctx else if r = 14 then s.boot.dram else s.boot.dramInit

/-- The scrubber covers a region. -/
def scrubs (s : State) (r : Nat) : Bool :=
  let sram := (getReg s .memScrub .A 0).getLsbD 0
  let dram := (getReg s .memScrub .A 0).getLsbD 1
  regionReady s r
    && ((sram && 1 ≤ r && r ≤ 5) || (dram && 8 ≤ r && r ≤ 13) || (dram && r = 14 && (getReg s .memScratch .A 0).getLsbD 0))

/-- Words the tester borrows. -/
def bgtWords : Nat := 64

/-- Codewords of a 64-byte word: eight of SECDED in SRAM, one over 16-bit symbols in DRAM (R469). -/
def codewords (r : Nat) : Nat := if r < 8 then 8 else 1

/-- What the code makes of a word whose codewords hold these numbers of bits or symbols in error (R469): one in a codeword is corrected, two
are detected, and what more than two do is open (notes/assumptions/5.md). -/
def eccOf (errs : List Nat) (s : State) : EccOutcome × State :=
  let worst := errs.foldl max 0
  if worst = 0 then (.clean, s)
  else if worst = 1 then (.correctable, s)
  else if worst = 2 then (.uncorrectable, s)
  else
    let d := draw Config.freeNat s
    ((if errs.any (fun n => n = 2) || d.1 % 3 = 2 then .uncorrectable else if d.1 % 3 = 1 then .correctable else .clean), d.2)

/-- The background tester holds a word of a region. -/
def bgtHoldsWord (s : State) (r w : Nat) : Bool :=
  match s.mem.bgt, wordBank w (useBanks s r) with
  | some (b, o), some (c, k) => b = c && o ≤ k && k < o + bgtWords
  | _, _ => false

/-- SCRUBBER_READ (R469, R470, R475): words that the tester holds are skipped; a word known to be bad stays so until it is written. What the
on-die code of the HBM stacks corrects is counted and nothing else. -/
def execScrubberRead (r : Fin 16) (word : Nat) (errs : WordErrs) (s : State) : Out :=
  act (dmemRuns s && scrubs s r.val && word < regionWords s r.val && ! bgtHoldsWord s r.val word) (fun s =>
    let s := when (errs.onDie && 8 ≤ r.val) (count 23 r.val 0 1) s
    let o := eccOf (errs.counts.take (codewords r.val)) s
    if (r.val, word) ∈ s.mem.poisoned then memUncorr r.val word rdScrubber o.2
    else match o.1 with
      | .clean => o.2
      | .correctable => memCorr r.val word rdScrubber o.2
      | .uncorrectable => memUncorr r.val word rdScrubber o.2) s

/-- SCRUB_LAP_END (R476). -/
def execScrubLapEnd (r : Fin 16) (ms : Nat) (s : State) : Out :=
  act (dmemRuns s && scrubs s r.val) (fun s =>
    let s := { s with mem := { s.mem with lap := tset 0 s.mem.lap r.val (ms % 2 ^ 32) } }
    if 1000 * regF s .memScrub .A 0 31 16 < ms then
      raiseF .dmem 0x0C04 (memObj r.val 0) (packData [(32, ms)]) .memFlags .A 4 s
    else s) s

/-! ## The background tester (R477, R478) -/

/-- BGT_BORROW (R477): never a pinned bank nor one that is being moved. -/
def execBgtBorrow (b : BankIx) (word : Nat) (s : State) : Out :=
  act (dmemRuns s && (getReg s .memBgt .A 0).getLsbD 0 && s.mem.bgt = none && ! bankPin (bankWord s b.val)
      && word + bgtWords ≤ bankWords && (match s.mem.move with
        | some (x, y) => b.val ≠ x && b.val ≠ y
        | none => true))
    (fun s => { s with mem := { s.mem with bgt := some (b.val, word) } }) s

/-- A word lies among those the tester holds. -/
def bgtHolds (s : State) (w : Nat) : Bool :=
  match s.mem.bgt with
  | some (_, o) => o ≤ w && w < o + bgtWords
  | none => false

/-- BGT_MARCH_DONE (R477): the words are restored; a failing word is raised with its mask. -/
def execBgtMarchDone (failWord : Option Nat) (mask : W32) (s : State) : Out :=
  act (dmemRuns s && s.mem.bgt.isSome && failWord.all (bgtHolds s)) (fun s =>
    match s.mem.bgt with
    | none => s
    | some (b, _) =>
      let s := { s with mem := { s.mem with bgt := none } }
      match failWord with
      | none => s
      | some w =>
        raiseF .dmem 0x0C05 (memObj (bankUse (bankWord s b)) b) (packData [(16, w), (32, mask.toNat)]) .memFlags .A 5 s) s

/-- BGT_YIELD (R478, R480). -/
def execBgtYield (s : State) : Out :=
  act (dmemRuns s && s.mem.bgt.isSome) bgtYield s

/-! ## The scratchpad (R473, R479) -/

def scratchBase : Nat := 0x74000000
def scratchBytes : Nat := 0x04000000

/-- Bytes of the scratchpad from an offset. -/
def storeScratch (o : Nat) (data : List Byte) (s : State) : State :=
  forAll (data.zipIdx) (fun p t =>
    { t with mem := { t.mem with scratch := tset none t.mem.scratch (o + p.2) (some p.1) } }) s

/-- One 64-byte word of a host write: bytes `data` at offset `o`, all within the word. A piece is a read-modify-write; when its
read is uncorrectable, the bytes not written become zeros. -/
def writeScratchWord (o : Nat) (data : List Byte) (poison : Bool) (s : State) : State :=
  let w := o / 64
  let bad := data.length < 64 && (poison || decide ((14, w) ∈ s.mem.poisoned))
  let s := if bad then storeScratch (64 * w) (List.replicate 64 0) (memUncorr 14 w rdHost s) else s
  memWritten 14 w (storeScratch o data s)

/-- The 64-byte words of a host write, in order. -/
def writeScratchRun : Nat → Nat → List Byte → Bool → State → State
  | 0, _, _, _, s => s
  | fuel + 1, o, data, poison, s =>
    if data = [] then s
    else
      let n := 64 - o % 64
      writeScratchRun fuel (o + n) (data.drop n) poison (writeScratchWord o (data.take n) poison s)

/-- A host write to the scratchpad at an address of its window. -/
def writeScratch (adr : Nat) (data : List Byte) (poison : Bool) (s : State) : State × Status :=
  let o := adr - scratchBase
  refuseOr ((if adr < scratchBase ∨ scratchBytes ≤ o then .errAddr
      else if scratchBytes < o + data.length then .errRange else writeGate s .dmem)) (fun s =>
    writeScratchRun (data.length + 1) o data poison s) s

/-- SCRATCHPAD_WRITE (R473). -/
def execScratchpadWrite (adr : Nat) (data : List Byte) (poison : Bool) (s : State) : Out :=
  .next (setStatus (writeScratch adr data poison s))

end Sys2Proof.Machine
end

