-- ==== Sys2Proof/Machine/Settings.lean ====
section
/-! DEFINITION. The values of settings: what a host write is refused for (R147, R337, R381, R413, R566), what the final value of
an image must be (R101, R104), and how a word of an image is loaded (R98, R100). -/

namespace Sys2Proof.Machine

/-! ## Refused values -/

/-- The counters of R554 whose source is a condition. -/
def isCondCounter (k i : Nat) : Bool :=
  (k = 1 && (i = 0 || i = 2)) || (k = 10 && 1 ≤ i && i ≤ 3) || (k = 17 && i = 13)

/-- A value of TALLY_CHAIN_k is refused (R566). -/
def tallyChainBad (k : Nat) (v : W32) : Bool :=
  (List.range 15).any (fun i => v.getLsbD i && (tallyN k ≤ i + 1 || isDefSeconds k i || isDefSeconds k (i + 1)))

/-- A value of TALLY_MODE_k is refused (R566). -/
def tallyModeBad (k : Nat) (v : W32) : Bool := (List.range 15).any (fun i => v.getLsbD i && ! isCondCounter k i)

/-- FIXED, ASSURED and MAX of a profile are out of order (R337). -/
def profOrderBad (f a m : Nat) : Bool := a < f || m < a

/-- A word of a profile of an engine. -/
def profWord (s : State) (e : Eng) (p w : Nat) : Nat :=
  match w with
  | 0 => (getReg s .schedProf0 e p).toNat
  | 1 => (getReg s .schedProf1 e p).toNat
  | 2 => (getReg s .schedProf2 e p).toNat
  | _ => (getReg s .schedProf3 e p).toNat

/-- The reserve cannot hold the squares (R337). -/
def reserveBad (s : State) (e : Eng) (quiet period : Nat) : Bool := 32 * quiet * period * turnSyms < 1000 * sqLen s e

/-- The value a setting would have after a write through a mask: the other bits stay. -/
def mergeMask (old v m : W32) : W32 := (old &&& ~~~ m) ||| (v &&& m)

/-- A field that takes listed values only has another one: PPS_CLASS (R382). -/
def listedBad (r : Reg) (v : W32) : Bool :=
  match r with
  | .todCfg => ! (fld v 31 24 ∈ [6, 7, 135, 165, 248])
  | _ => false

/-- A new value of a stored setting is refused, apart from the fence of its island. DS_GRP_EN, DS_GRP_FMT, CLN_PORT and CLN_LANE
have their own writes. -/
def settingRefused (s : State) (a : RegAt) (v : W32) : Bool :=
  ! rangesOk a.reg v || listedBad a.reg v ||
    (match a.reg with
     | .schedCfg => reserveBad s a.eng (regF s .schedQuiet a.eng 0 9 0) (fld v 27 16)
     | .schedQuiet => reserveBad s a.eng (fld v 9 0) (regF s .schedCfg a.eng 0 27 16)
     | .schedProf0 => profOrderBad (fld v 19 0) (profWord s a.eng a.idx 1) (profWord s a.eng a.idx 2)
     | .schedProf1 => profOrderBad (profWord s a.eng a.idx 0) (fld v 19 0) (profWord s a.eng a.idx 2)
     | .schedProf2 => profOrderBad (profWord s a.eng a.idx 0) (profWord s a.eng a.idx 1) (fld v 19 0)
     | .clnGrp => clnGrpRefused s a.idx v
     | .flowPort => portRefused s a.idx v
     | .tallyChain => tallyChainBad (a.idx + 1) v
     | _ => false)

/-- Settings that both engines of a pair share (R287, R336): a write through either window applies to both. -/
def pairShared : Reg → Bool
  | .schedCfg | .schedQuiet | .schedPwr | .schedRng | .schedReg | .schedAge | .schedProf0 | .schedProf1 | .schedProf2
  | .schedProf3 | .dsGrpEn | .dsGrpFmt => true
  | _ => false

/-- Store a setting, in both windows when the pair shares it. -/
def storeSetting (a : RegAt) (v : W32) (s : State) : State :=
  if pairShared a.reg then forAll (writeTargets s a.eng) (fun e => setReg a.reg e a.idx v) s
  else setReg a.reg a.eng a.idx v s

/-! ## Loading a word of an image (R98, R100) -/

/-- The IMG and LIVE bits of a register word; none when it has no such field. -/
def loadMask (a : RegAt) : Option W32 :=
  match a.reg with
  | .memBank => some 0x00010FFF
  | .tallyMode => some 0x7FFF
  | .frmSset => if a.word < 8 then some 0x801FFFFF else none
  | .frmCtr => if a.word = 0 then some 0xFFFF01FF else if a.word = 1 then some 0x0000FFFF else none
  | r => if r.row.cls = .setting then some r.row.mask else none

/-- A word of the leaf table: engine, leaf and offset in its entry. -/
structure LeafAt where
  eng : Eng
  leaf : LeafId
  ofs : Nat
  deriving DecidableEq, Repr

/-- The leaf-table word at an address (R338). -/
def leafAt? (a : Nat) : Option LeafAt :=
  let mk := fun (e : Eng) (o : Nat) => some (LeafAt.mk e (Fin.ofNat 4096 (o / 512)) (o % 512))
  if a % 4 ≠ 0 then none
  else if 0x30000000 ≤ a ∧ a < 0x30200000 then mk .A (a - 0x30000000)
  else if 0x31000000 ≤ a ∧ a < 0x31200000 then mk .B (a - 0x31000000)
  else none

/-- The leaf-table words with a LIVE field: PIN, the serial and the memberships. -/
def leafLive (o : Nat) : Bool := o = 0 || (4 ≤ o && o ≤ 0x10) || (0x40 ≤ o && o < 0x60)

/-- Whether an address may stand in a SETTINGS record (R100). -/
def loadable (a : Nat) : Bool :=
  match leafAt? a with
  | some l => leafLive l.ofs
  | none => match regAt? a with
    | some r => (loadMask r).isSome
    | none => false

/-- Load a word of the leaf table. -/
def loadLeaf (a : LeafAt) (v : W32) (s : State) : State :=
  modLeaf a.eng a.leaf.val (fun x =>
    if a.ofs = 0 then { x with pin := v.getLsbD 4 }
    else if a.ofs ≤ 0x10 then { x with serial := serialWith x.serial (a.ofs / 4 - 1) v }
    else { x with grps := tset 0 x.grps ((a.ofs - 0x40) / 4) (v &&& 0x8FFF8FFF) }) s

/-- Load a word of an image: while a block is disabled nothing else follows from it (R101). -/
def loadWord (a : Nat) (v : W32) (s : State) : State :=
  match leafAt? a with
  | some l => loadLeaf l v s
  | none => match regAt? a with
    | none => s
    | some r => match loadMask r with
      | none => s
      | some m =>
        let v := v &&& m
        match r.reg with
        | .frmSset => modSset r.eng r.idx (fun x => { x with words := tset 0 x.words r.word v, newWords := tset 0 x.words r.word v }) s
        | .frmCtr =>
          if r.word = 0 then shareAfter r.eng r.idx (getCtr s r.eng r.idx).w0 (modCtr r.eng r.idx (fun x => { x with w0 := v, ssetNow := ctrSset v }) s)
          else modCtr r.eng r.idx (fun x => { x with profile := v }) s
        | .tallyMode =>
          let k := r.idx + 1
          { s with tally := { s.tally with modeReg := tset (modeDefault k) s.tally.modeReg k v.toNat, mode := tset (modeDefault k) s.tally.mode k v.toNat } }
        | _ => storeSetting r v s

/-! ## Final values (R101, R104, R147, R294) -/

/-- A channel frequency of R198, in MHz. -/
def freqOk (f : Nat) : Bool := (f + 1781250 - 193100000) % 6250 = 0 && 193100000 ≤ f + 1781250 && f ≤ 193100000 + 2831250

/-- The two channel frequencies of a tree, its dispersion and its reach are legal (R198). -/
def treeFreqsOk (ds us : Nat) : Bool := freqOk ds && freqOk us && (700000 ≤ ds - us || 700000 ≤ us - ds)
def treeCdOk (cd : Nat) : Bool := -100 ≤ asSigned 16 cd && asSigned 16 cd ≤ 1500
def treeReachOk (lo hi : Nat) : Bool := lo ≤ 60000 && lo ≤ hi && hi ≤ 60000 && hi ≤ lo + 20000

/-- The final value of a register word is illegal. The tree's words are judged as they stand after every record (R101, R199). -/
def finalBad (s : State) (a : RegAt) (v : W32) : Bool :=
  ! rangesOk a.reg v || listedBad a.reg v ||
    (match a.reg with
     | .dsGrpFmt => (List.range 8).any (fun g => 4 < fld v (3 * g + 2) (3 * g))
     | .usTreeDs | .usTreeUs => ! treeFreqsOk (getReg s .usTreeDs a.eng 0).toNat (getReg s .usTreeUs a.eng 0).toNat
     | .usTreeCd => ! treeCdOk (fld v 15 0)
     | .usTreeReach => ! treeReachOk (fld v 15 0) (fld v 31 16)
     | .dsRamp => fld v 22 16 < 1 || 100 < fld v 22 16
     | .clnGrp => fld v 1 0 = 3
     | .clnPort => (portEn v && portShapeBad s a.idx v) || (v.getLsbD 5 && v.getLsbD 4)
     | .clnLane => clnLaneRefused s a.idx v
     | .flowPort => v.getLsbD 31 && (let x := getFlow s (fld v 27 8); ! (flowValid x && ! flowUp x))
     | .tallyChain => tallyChainBad (a.idx + 1) v
     | _ => false)

/-- Every stored setting of a scope has a legal final value: of the module, or of the window of an engine. -/
def finalsOk (s : State) (e : Option Eng) : Bool :=
  s.regs.all (fun p => engWindow p.1 ≠ e || (match regAt? p.1 with
    | some r => ! finalBad s r p.2
    | none => true))

/-- PIN stands only at an entry with a serial of its own (R339). -/
def leavesOk (s : State) : Bool :=
  s.leaves.all (fun p =>
    ! p.2.pin || (p.2.serial ≠ 0 && ! s.leaves.any (fun q => q.1 ≠ p.1 && q.1 / 4096 = p.1 / 4096 && q.2.serial = p.2.serial)))

/-- No membership of a tree's leaf names a group above 2,047, which in an image is an engine-scoped value (R104, R431). -/
def membersOk (s : State) (e : Eng) : Bool :=
  s.leaves.all (fun p => p.1 / 4096 ≠ (treeOf s e).num || (groupsOf p.2.grps).all (fun g => g ≤ 2047))

/-- The slot sets of a tree keep R251: no control slot, no slot held twice, 1 to 128 slots where a word is valid. -/
def ssetsOk (s : State) (e : Eng) : Bool :=
  let sets := s.ssets.filter (fun p => p.1 / 512 = (treeOf s e).num)
  let ws := sets.flatMap (fun p => (wordList p.2.words).filter ssV)
  sets.all (fun p =>
    let n := ((wordList p.2.words).map (fun u => if ssV u then popcount16 (ssMask u) else 0)).sum
    n ≤ 128 && (! hasWord p.2.words || 1 ≤ n))
    && ws.all (fun w => ! namesControl w)
    && (List.range 32).all (fun sc =>
      let ms := ws.map (fun w => heldMask w sc)
      (ms.map popcount16).sum = popcount16 (ms.foldl (fun a b => a ||| b) 0))

/-- The containers of a tree keep R260 and R431, and name a profile that exists. -/
def ctrsOk (s : State) (e : Eng) : Bool :=
  s.ctrs.all (fun p => p.1 / 32768 ≠ (treeOf s e).num ||
    (! (ctrEn p.2.w0 && ctrDs p.2.w0 && ! hasWord (getSset s e (ctrSset p.2.w0)).words)
      && ! (ctrMcast p.2.w0 && ctrUs p.2.w0)
      && ! (ctrMcast p.2.w0 && 2047 < ctrTarget p.2.w0)
      && fld p.2.profile 15 0 ≤ 1023))

/-- Every profile of an engine is in order (R335). -/
def profsOk (s : State) (e : Eng) : Bool :=
  (List.range 1024).all (fun p => ! profOrderBad (profWord s e p 0) (profWord s e p 1) (profWord s e p 2))

/-- Groups 0 and 4 are enabled, and no group is disabled that a named slot set uses (R142, R147). -/
def groupsOk (s : State) (e : Eng) : Bool :=
  grpEn s e 0 && grpEn s e 4 && (List.range 8).all (fun g => grpEn s e g || ! grpInUse s e g)

/-- The final values and combinations of an engine's settings and tables are legal (R104). -/
def engineFinalOk (s : State) (e : Eng) : Bool :=
  finalsOk s (some e) && groupsOk s e && ssetsOk s e && ctrsOk s e && profsOk s e && membersOk s e
    && ! reserveBad s e (regF s .schedQuiet e 0 9 0) (regF s .schedCfg e 0 27 16)

end Sys2Proof.Machine
end

