-- ==== Sys2Proof/Machine/Image.lean ====
section
/-! DEFINITION. The configuration image: its header and records, the checks of R102 in their order, the legality of its module
records and of each engine's records, and how it is applied (R87 to R108, R198 to R200, R294, R334, R335, R370, R379, R411, R447,
R464). -/

namespace Sys2Proof.Machine

/-! ## Codes (R102, R114) -/

def imgNoMagic : Nat := 0x01
def imgHdrCrc : Nat := 0x02
def imgHdrField : Nat := 0x03
def imgDevice : Nat := 0x04
def imgKeyHash : Nat := 0x05
def imgRollback : Nat := 0x06
def imgLayout : Nat := 0x07
def imgRecordCrc : Nat := 0x08
def imgSignature : Nat := 0x09
def imgScope : Nat := 0x0A
def imgOccurrence : Nat := 0x0B
def imgUnknownCritical : Nat := 0x0C
def imgSettingAddr : Nat := 0x0D
def imgModuleValue : Nat := 0x0E
def engineValue : Nat := 0x0F
def tuneTimeout : Nat := 0x10
def startTimeout : Nat := 0x11
def selfTest : Nat := 0x12

/-- A failed check: its code, and the index of the failing record where one record fails it. -/
abbrev ImgFail := Nat × Option Nat

/-! ## Header (R94) -/

def imgMagic : Nat := 0x5A4B4349
def imgHeaderLen : Nat := 132
def imgDeviceCode : Nat := 0x00004832
def imgLen (b : List Byte) : Nat := beAt b 0x08 4
def imgCount (b : List Byte) : Nat := beAt b 0x0C 4
def imgArb (b : List Byte) : Nat := byteAt b 0x14
def imgFlags (b : List Byte) : Nat := byteAt b 0x15
def imgMode (b : List Byte) : Nat := beAt b 0x18 4
def imgWidth (b : List Byte) : Nat := imgMode b % 4
def imgDiv (b : List Byte) : Nat := imgMode b / 256 % 256
def imgPub (b : List Byte) : List Byte := slice b 0x20 32
def imgSig (b : List Byte) : List Byte := slice b 0x40 64

/-- The header fields of check 0x03. -/
def headerFieldsOk (b : List Byte) : Bool :=
  beAt b 4 2 = 1 && beAt b 6 2 = imgHeaderLen && 256 ≤ imgLen b && imgLen b ≤ 4194304 && imgLen b % 4 = 0
    && imgArb b ≤ 64 && imgFlags b ≤ 1 && beAt b 0x16 2 = 0 && imgMode b / 65536 = 0 && imgMode b / 4 % 64 = 0
    && imgWidth b ≠ 3 && 8 ≤ imgDiv b && imgDiv b ≤ 64

/-- Checks 0x01 to 0x06. -/
def checkHeader (s : State) (b : List Byte) : Option Nat :=
  if beAt b 0 4 ≠ imgMagic then some imgNoMagic
  else if b.length < imgHeaderLen ∨ crc32c (b.take 0x80) ≠ beAt b 0x80 4 then some imgHdrCrc
  else if ! headerFieldsOk b then some imgHdrField
  else if beAt b 0x1C 4 ≠ imgDeviceCode then some imgDevice
  else if s.fuse.signHash = 0 ∨ Config.sha256 (imgPub b) ≠ s.fuse.signHash then some imgKeyHash
  else if imgArb b < s.fuse.arbCfg then some imgRollback
  else none

/-! ## Records (R96, R98) -/

def tPad : Nat := 0x0000
def tModuleMode : Nat := 0x0001
def tSettings : Nat := 0x0002
def tTrustAnchor : Nat := 0x0003
def tSramBanks : Nat := 0x0004
def tFlows : Nat := 0x0005
def tContainers : Nat := 0x0006
def tProfiles : Nat := 0x0007
def tTree : Nat := 0x0008
def tLanes : Nat := 0x0009
def tPtp : Nat := 0x000A
def tLeafList : Nat := 0x000B

/-- Checks 0x07 and 0x08 while streaming: the records from `l`, the rest of the copy, of which `n` were read before. -/
def readRecords (count : Nat) : Nat → Nat → List Byte → Except ImgFail (List ImgRec)
  | 0, n, _ => .error (imgLayout, some n)
  | fuel + 1, n, l =>
    if l = [] then (if n = count then .ok [] else .error (imgLayout, some n))
    else
      let len := beAt l 4 4
      let typ := beAt l 0 2
      if count ≤ n ∨ l.length < 12 + len ∨ len % (if typ = tSettings then 8 else 4) ≠ 0 ∨ 1 < byteAt l 3 then
        .error (imgLayout, some n)
      else if crc32c (l.take (8 + len)) ≠ beAt l (8 + len) 4 then .error (imgRecordCrc, some n)
      else match readRecords count fuel (n + 1) (l.drop (12 + len)) with
        | .error f => .error f
        | .ok rs => .ok ({ typ := typ, scope := byteAt l 2, critical := byteAt l 3 % 2 = 1, payload := slice l 8 len } :: rs)

/-- The bytes of the copy from its first record to IMAGE_LEN; bytes the flash did not give read as erased flash. -/
def imgBody (b : List Byte) : List Byte :=
  let n := imgLen b - imgHeaderLen
  let l := (b.drop imgHeaderLen).take n
  l ++ List.replicate (n - l.length) 0xFF

/-- The message of R95. -/
def imgMessage (b : List Byte) : List Byte := b.take 0x40 ++ imgBody b

/-! ## The records as a whole -/

/-- MODULE_MODE: Paired, and the enabled engines. -/
def modeWord (rs : List ImgRec) : Nat :=
  match rs.find? (fun r => r.typ = tModuleMode) with
  | some r => beAt r.payload 0 4
  | none => 0
def imgPaired (rs : List ImgRec) : Bool := (modeWord rs).testBit 0
def imgEnable (rs : List ImgRec) (e : Eng) : Bool := (modeWord rs).testBit (1 + e.num)

/-- A record's scope names an engine. -/
def covers (r : ImgRec) (e : Eng) : Bool := r.scope = 3 || r.scope = e.num + 1

/-- The record types of R98. -/
def knownType (t : Nat) : Bool := t ≤ 0x000B

/-- The scope is legal for the type and the mode. -/
def scopeOk (paired : Bool) (r : ImgRec) : Bool :=
  if r.typ = tPad ∨ r.typ = tSettings then r.scope ≤ 3
  else if r.typ = tTree then 1 ≤ r.scope && r.scope ≤ 3
  else if r.typ = tContainers ∨ r.typ = tProfiles ∨ r.typ = tLeafList then
    (if paired then r.scope = 3 else 1 ≤ r.scope && r.scope ≤ 3)
  else ! knownType r.typ || r.scope = 0

/-- Indexes of the records with a property. -/
def idxOf (p : ImgRec → Bool) (rs : List ImgRec) : List Nat := (rs.zipIdx.filter (fun q => p q.1)).map (fun q => q.2)

/-- The occurrence rules: which records, and at least and at most how many. -/
def occRules (rs : List ImgRec) : List ((ImgRec → Bool) × Nat × Nat) :=
  [(fun r => r.typ = tModuleMode, 1, 1), (fun r => r.typ = tTrustAnchor, 1, 1), (fun r => r.typ = tSramBanks, 0, 1),
   (fun r => r.typ = tTree && covers r .A, b01 (imgEnable rs .A), 1),
   (fun r => r.typ = tTree && covers r .B, b01 (imgEnable rs .B), 1),
   (fun r => r.typ = tLanes, 1, 1), (fun r => r.typ = tPtp, 0, 1)]

/-- The first broken occurrence rule: the first record too many, or no record where one is missing. -/
def occFail (rs : List ImgRec) : Option ImgFail :=
  (occRules rs).findSome? (fun p =>
    let is := idxOf p.1 rs
    if p.2.2 < is.length then some (imgOccurrence, is[p.2.2]?)
    else if is.length < p.2.1 then some (imgOccurrence, none)
    else none)

/-- Address and value pairs of a SETTINGS record. -/
def pairsOf (r : ImgRec) : List (Nat × W32) :=
  (chunks 8 r.payload.length r.payload).map (fun c => (beAt c 0 4, wordAt c 4))

/-- The full addresses a pair of a record is applied at. -/
def pairAddrs (r : ImgRec) (a : Nat) : List Nat :=
  if r.scope = 0 then [a] else (engines.filter (covers r)).map (fun e => Eng.base e + a)

/-- The address of a pair is one that R100 allows. -/
def pairOk (r : ImgRec) (a : Nat) : Bool :=
  (if r.scope = 0 then ! (0x10000000 ≤ a && a < 0x30000000) else a < 0x10000000)
    && (pairAddrs r a).all loadable

/-! ## Payloads of the module records -/

/-- The certificates of a counted list at an offset. -/
def certList (p : List Byte) (o n : Nat) : List (List Byte) := (List.range n).map (fun i => slice p (o + certBytes * i) certBytes)

/-- The intermediates and the hub certificates of a TRUST_ANCHOR record, when its length fits (R447). -/
def anchorParts (p : List Byte) : Option (List (List Byte) × List (List Byte)) :=
  let ni := beAt p 32 4
  let o := 36 + certBytes * ni
  let nh := beAt p o 4
  if ni ≤ 4 ∧ 1 ≤ nh ∧ nh ≤ 16 ∧ p.length = o + 4 + certBytes * nh then some (certList p 36 ni, certList p (o + 4) nh) else none

/-- The chain of a hub certificate to the anchor: alone, or with an intermediate. -/
def hubChain (anchor : List Byte) (is : List (List Byte)) (h : List Byte) : Option (List (List Byte)) :=
  if chainOk anchor 3 [h] then some [h]
  else (is.find? (fun i => chainOk anchor 3 [h, i])).map (fun i => [h, i])

/-- The chain the module uses: that of the certificate whose SUBJECT_PUB is the module's own (R447). -/
def ownChain (s : State) (p : List Byte) : Option (List Byte) :=
  match anchorParts p with
  | none => none
  | some (is, hs) =>
    let anchor := p.take 32
    if is.all (fun i => certKind i = 1) && hs.all (fun h => (hubChain anchor is h).isSome) then
      match hs.find? (fun h => certPub h = devPub s) with
      | none => none
      | some h => (hubChain anchor is h).map List.flatten
    else none

/-- The words of an SRAM_BANKS payload. -/
def bankWords' (p : List Byte) (b : Nat) : W32 := wordAt p (4 * b)

/-- A FLOWS entry: its INDEX word and the twelve settings words. -/
def flowEntries (p : List Byte) : List (Nat × List W32) :=
  (chunks 52 p.length p).map (fun c => (beAt c 0 4, words 12 (c.drop 4)))

/-- Settings of a context from its twelve words. -/
def flowOfWords (ws : List W32) : Flow := (List.range 12).foldl (fun x w => flowWith x w (ws.getD w 0)) {}

/-- A FLOWS entry has no non-zero reserved bit: reading its words back gives them unchanged. -/
def flowEntryOk (x : Nat × List W32) : Bool :=
  x.1 < 1048576 && (List.range 12).all (fun w => flowWord (flowOfWords x.2) w = x.2.getD w 0)

/-- LANES: the register and element of word `i`. -/
def laneReg (i : Nat) : Reg × Nat := if i < 8 then (.clnGrp, i) else if i < 40 then (.clnPort, i - 8) else (.clnLane, i - 40)

/-- A LANES payload has its length, no bit outside the named fields, and no loop. -/
def lanesRecOk (p : List Byte) : Bool :=
  p.length = 288 && (List.range 72).all (fun i =>
    let v := wordAt p (4 * i)
    let r := (laneReg i).1
    v &&& ~~~ r.row.mask = 0 && rangesOk r v && (i < 40 || fld v 9 8 = 0))

/-- The PTP word has every field in range (R370). -/
def ptpRecOk (p : List Byte) : Bool :=
  let v := wordAt p 0
  p.length = 4 && fld v 26 25 ≤ 2 && 24 ≤ fld v 22 16 && fld v 22 16 ≤ 43 && 1 ≤ fld v 7 0

/-- A module record taken alone is legal. A MODULE_MODE payload is one word with no bit set but the three that R98 names, which gives
neither its length nor what becomes of other bits (DESIGN CHOICE, unsafe; notes/assumptions/206.md). -/
def moduleRecOk (s : State) (rs : List ImgRec) (r : ImgRec) : Bool :=
  if r.typ = tModuleMode then r.payload.length = 4 && beAt r.payload 0 4 < 8
  else if r.typ = tTrustAnchor then (ownChain s r.payload).isSome
  else if r.typ = tSramBanks then
    r.payload.length = 256 && banksLegal (imgEnable rs .A) (imgEnable rs .B) (bankWords' r.payload)
  else if r.typ = tFlows then r.payload.length % 52 = 0 && (flowEntries r.payload).all flowEntryOk
  else if r.typ = tLanes then lanesRecOk r.payload
  else if r.typ = tPtp then ptpRecOk r.payload
  else true

/-! ## Applying the module records -/

/-- Apply the pairs of a SETTINGS record whose address an engine, or the module, takes. -/
def loadPairs (l : List (Nat × W32)) (s : State) : State := forAll l (fun p => loadWord p.1 p.2) s

/-- Apply one module record. A flow whose insertion fails is not valid (R377, R379). -/
def loadModuleRec (r : ImgRec) (s : State) : State :=
  if r.scope ≠ 0 then s
  else if r.typ = tSettings then loadPairs (pairsOf r) s
  else if r.typ = tTrustAnchor then
    { s with sec := { s.sec with anchor := r.payload.take 32, hub := (ownChain s r.payload).getD [] } }
  else if r.typ = tSramBanks then setBanks (bankWords' r.payload) s
  else if r.typ = tFlows then
    forAll (flowEntries r.payload) (fun x t =>
      let y := flowOfWords x.2
      let f := x.1 % 1048576
      if flowValid y then (makeValid f y t).getD t else setFlow f y t) s
  else if r.typ = tLanes then
    forAll (List.range 72) (fun i t => setReg (laneReg i).1 .A (laneReg i).2 (wordAt r.payload (4 * i)) t) s
  else if r.typ = tPtp then
    let v := wordAt r.payload 0
    { s with tod := { s.tod with ptpOn := true, ptpWord := v, ptpPort := fld v 31 27, ptpRole := fld v 26 25, portState := ptpListening } }
  else s

/-- Apply the module records of an image in the order of the image (R100). -/
def loadModule (rs : List ImgRec) (s : State) : State :=
  let s := setBanks defaultBank { s with boot := { s.boot with paired := imgPaired rs } }
  let s := forAll engines (fun e => modEng e (fun x => { x with enable := imgEnable rs e })) s
  forAll rs loadModuleRec s

/-- Every context loaded is one that R377 would accept, its place in the key index among them. -/
def flowsOk (s : State) : Bool :=
  s.flow.ctx.all (fun p =>
    (! flowValid p.2 || ! validRefused s p.1 p.2) && policerOk p.2
      && (! inIndex p.2 || (bucketFlows s (bucketOf s p.2)).length ≤ bucketSize)
      && (! flowRepl p.2 || (let z := getFlow s (flowNext p.2); ! (flowValid z && flowUp z))))

/-- The index of the last record that gives an address its value. -/
def blame (rs : List ImgRec) (a : Nat) : Option Nat :=
  ((idxOf (fun r => r.typ = tSettings && r.scope = 0 && (pairsOf r).any (fun p => p.1 = a)) rs).getLast?).or
    (idxOf (fun r => r.typ = tLanes) rs).getLast?

/-- A word of the bank allocation stands in a SETTINGS record. -/
def namesBanks (rs : List ImgRec) : Bool :=
  rs.any (fun r => r.typ = tSettings && r.scope = 0 && (pairsOf r).any (fun p => 0x70000100 ≤ p.1 && p.1 < 0x70000200))

/-- Check 0x0E: module records one by one, and then the final values (R101). -/
def moduleValueFail (s : State) (rs : List ImgRec) : Option ImgFail :=
  match (idxOf (fun r => ! moduleRecOk s rs r) rs).head? with
  | some i => some (imgModuleValue, some i)
  | none =>
    let t := loadModule rs { State.reset with fuse := s.fuse, free := s.free, flow := { hashKey := s.flow.hashKey } }
    let fs := rs.flatMap (fun r => if r.typ = tFlows then flowEntries r.payload else [])
    let is := fs.map (fun x => x.1)
    let failed := fs.any (fun x => flowValid (flowOfWords x.2) && ! flowValid (getFlow t x.1))
    match t.regs.find? (fun p => engWindow p.1 = none && (match regAt? p.1 with
      | some a => finalBad t a p.2
      | none => false)) with
    | some p => some (imgModuleValue, blame rs p.1)
    | none =>
      if is.eraseDups.length ≠ is.length || failed || ! flowsOk t then some (imgModuleValue, (idxOf (fun r => r.typ = tFlows) rs).getLast?)
      else if ! leavesOk t
          || (List.range 24).any (fun k => tallyModeBad (k + 1) (BitVec.ofNat 32 (tget (modeDefault (k + 1)) t.tally.modeReg (k + 1))))
          || (namesBanks rs && ! banksLegal (imgEnable rs .A) (imgEnable rs .B) (bankWord t)) then some (imgModuleValue, none)
      else none

/-! ## The checks (R102) -/

/-- Checks 0x0A to 0x0E. -/
def recordsFail (s : State) (rs : List ImgRec) : Option ImgFail :=
  match (idxOf (fun r => ! scopeOk (imgPaired rs) r) rs).head? with
  | some i => some (imgScope, some i)
  | none => match occFail rs with
    | some f => some f
    | none => match (idxOf (fun r => ! knownType r.typ && r.critical) rs).head? with
      | some i => some (imgUnknownCritical, some i)
      | none => match (idxOf (fun r => r.typ = tSettings && ! (pairsOf r).all (fun p => pairOk r p.1)) rs).head? with
        | some i => some (imgSettingAddr, some i)
        | none => moduleValueFail s rs

/-- The whole check of one copy: its first failure, or the image it holds. -/
def checkCopy (s : State) (b : List Byte) : Except ImgFail Image :=
  match checkHeader s b with
  | some c => .error (c, none)
  | none =>
    let body := imgBody b
    let n := imgCount b
    if n = 0 ∨ 65535 < n then .error (imgLayout, none)
    else match readRecords n (body.length + 1) 0 body with
      | .error f => .error f
      | .ok rs =>
        if ! Config.ed25519Ok (imgPub b) (imgMessage b) (imgSig b) then .error (imgSignature, none)
        else match recordsFail s rs with
          | some f => .error f
          | none => .ok
            { version := wordAt b 0x10, len := imgLen b, arb := imgArb b, arbCommit := imgFlags b % 2 = 1
              skipped := (rs.filter (fun r => ! knownType r.typ)).length
              digest := Config.sha256 (b.take imgHeaderLen ++ body), recs := rs }

/-! ## Engine records (R104) -/

/-- The entries of a CONTAINERS payload: ETYPE, INDEX and body words; none when an entry is not legal (R294). -/
def ctrEntries : Nat → List Byte → Option (List (Nat × Nat × List W32))
  | 0, _ => none
  | fuel + 1, l =>
    if l = [] then some []
    else
      let w := beAt l 0 4
      let t := w / 2 ^ 24
      let i := w % 65536
      let n := if t = 1 then 8 else 2
      if (t = 1 ∧ i < 512 ∨ t = 2 ∧ i < 32768) ∧ w / 65536 % 256 = 0 ∧ 4 + 4 * n ≤ l.length then
        (ctrEntries fuel (l.drop (4 + 4 * n))).map (fun r => (t, i, words n (l.drop 4)) :: r)
      else none

/-- The entries of a PROFILES payload. -/
def profEntries (p : List Byte) : List (Nat × List W32) := (chunks 20 p.length p).map (fun c => (beAt c 0 4, words 4 (c.drop 4)))

/-- The registers of the four words of a profile. -/
def profReg (w : Nat) : Reg :=
  match w with
  | 0 => .schedProf0
  | 1 => .schedProf1
  | 2 => .schedProf2
  | _ => .schedProf3

/-- A PROFILES entry is legal (R335). -/
def profEntryOk (x : Nat × List W32) : Bool :=
  x.1 < 1024 && (List.range 4).all (fun w =>
    let v := x.2.getD w 0
    v &&& ~~~ (profReg w).row.mask = 0 && rangesOk (profReg w) v)
    && ! profOrderBad (x.2.getD 0 0).toNat (x.2.getD 1 0).toNat (x.2.getD 2 0).toNat

/-- The entries of a LEAF_LIST payload: serial, LEAF_ID word, FLAGS word. -/
def listEntries (p : List Byte) : List (BitVec 128 × Nat × Nat) :=
  (chunks 24 p.length p).map (fun c => (BitVec.ofNat 128 (beAt c 0 16), beAt c 16 4, beAt c 20 4))

/-- A LEAF_LIST entry is legal (R334). -/
def listEntryOk (x : BitVec 128 × Nat × Nat) : Bool := (x.2.1 ≤ 4095 || x.2.1 = 0xFFFF) && x.2.2 ≤ 1

/-- The fields of a TREE payload are legal (R198). -/
def treeOk (p : List Byte) : Bool :=
  p.length = 20 && beAt p 10 2 = 0 && treeFreqsOk (beAt p 0 4) (beAt p 4 4) && treeCdOk (beAt p 8 2) && treeReachOk (beAt p 12 4) (beAt p 16 4)

/-- The entries of all LEAF_LIST records of an engine. -/
def allListEntries (rs : List ImgRec) (e : Eng) : List (BitVec 128 × Nat × Nat) :=
  rs.flatMap (fun r => if r.typ = tLeafList && covers r e then listEntries r.payload else [])

/-- The records that name an engine are legal in themselves. -/
def engineRecsOk (rs : List ImgRec) (e : Eng) : Bool :=
  let le := allListEntries rs e
  let pins := (le.filter (fun x => x.2.1 ≠ 0xFFFF)).map (fun x => x.2.1)
  rs.all (fun r => ! covers r e ||
    (if r.typ = tContainers then (ctrEntries (r.payload.length + 1) r.payload).isSome
     else if r.typ = tProfiles then r.payload.length % 20 = 0 && (profEntries r.payload).all profEntryOk
     else if r.typ = tLeafList then r.payload.length % 24 = 0
     else if r.typ = tTree then treeOk r.payload
     else true))
    && le.all listEntryOk && le.length ≤ 4096 && pins.eraseDups.length = pins.length
    && (le.map (fun x => x.1)).eraseDups.length = le.length

/-! ## Applying the engine records -/

/-- Apply the entries of a CONTAINERS record. -/
def loadCtrs (e : Eng) (p : List Byte) (s : State) : State :=
  forAll ((ctrEntries (p.length + 1) p).getD []) (fun x t =>
    if x.1 = 1 then
      let ws := (List.range 8).foldl (fun (y : Table W32) w => tset 0 y w (x.2.2.getD w 0 &&& 0x801FFFFF)) ([] : Table W32)
      modSset e x.2.1 (fun y => { y with words := ws, newWords := ws }) t
    else
      let w0 := x.2.2.getD 0 0 &&& 0xFFFF01FF
      shareAfter e x.2.1 (getCtr t e x.2.1).w0
        (modCtr e x.2.1 (fun y => { y with w0 := w0, profile := x.2.2.getD 1 0 &&& 0xFFFF, ssetNow := ctrSset w0 }) t)) s

/-- A pinned entry of the leaf list: the entry is FREE with PIN 1 and its serial; a GONE entry of that serial stays GONE (R332,
R334). -/
def loadPin (e : Eng) (ser : BitVec 128) (l : Nat) (s : State) : State :=
  modLeaf e l (fun x => if x.st = .gone && x.serial = ser then { x with pin := true } else { pin := true, serial := ser, grps := x.grps }) s

/-- Apply the entries of a LEAF_LIST record. -/
def loadList (e : Eng) (p : List Byte) (s : State) : State :=
  forAll (listEntries p) (fun x t =>
    let pin := if x.2.1 ≤ 4095 then some x.2.1 else none
    let t := modEng e (fun y => { y with list := y.list ++ [(x.1, pin, decide (x.2.2 % 2 = 1))] }) t
    match pin with
    | some l => loadPin e x.1 l t
    | none => t) s

/-- Apply a TREE record (R198, R244). -/
def loadTree (e : Eng) (p : List Byte) (s : State) : State :=
  setReg .usTreeReach e 0 (wordOf [(0, beAt p 12 4), (16, beAt p 16 4)])
    (setReg .usTreeCd e 0 (wordOf [(0, beAt p 8 2)]) (setReg .usTreeUs e 0 (wordAt p 4) (setReg .usTreeDs e 0 (wordAt p 0) s)))

/-- A word that belongs to the tree and is kept when one engine of a pair restarts (R538): of the leaf table, the profiles, the slot sets and
the containers. -/
def treeWord (a : Nat) : Bool :=
  (leafAt? a).isSome || (match regAt? a with
    | some r => r.reg ∈ [.schedProf0, .schedProf1, .schedProf2, .schedProf3, .frmSset, .frmCtr]
    | none => false)

/-- A word of the scheduler blocks of a pair that is one with the other engine's, profiles apart (R336). -/
def schedWord (a : Nat) : Bool :=
  match regAt? a with
  | some r => r.reg ∈ [.schedCfg, .schedQuiet, .schedPwr, .schedRng, .schedReg, .schedAge]
  | none => false

/-- A setting that a pair loads as one at the start (R287, R336). -/
def pairWord (a : Nat) : Bool :=
  match regAt? a with
  | some r => pairShared r.reg
  | none => false

/-- Load a word at the restart of an engine of a pair (R107, R538): the scheduler words stay one set; DS_GRP_EN and DS_GRP_FMT return to
their image values, from either engine's records, at the restarted engine alone, whose groups are dark (DESIGN CHOICE, unsafe; notes/assumptions/92.md). -/
def loadRestart (a : Nat) (v : W32) (s : State) : State :=
  match regAt? a with
  | some r => if r.reg = .dsGrpEn || r.reg = .dsGrpFmt then setReg r.reg r.eng r.idx (v &&& (loadMask r).getD 0) s else loadWord a v s
  | none => loadWord a v s

/-- Apply one record to an engine; `whole` is false at the restart of an engine of a pair (R538). -/
def loadEngineRec (e : Eng) (whole : Bool) (r : ImgRec) (s : State) : State :=
  if ! covers r e then s
  else if r.typ = tSettings then
    let ps := (pairsOf r).map (fun p => (Eng.base e + p.1, p.2))
    if whole then loadPairs ps s else forAll (ps.filter (fun p => ! treeWord p.1)) (fun p => loadRestart p.1 p.2) s
  else if r.typ = tTree then loadTree e r.payload s
  else if ! whole then s
  else if r.typ = tContainers then loadCtrs e r.payload s
  else if r.typ = tProfiles then
    forAll (profEntries r.payload) (fun x t =>
      forAll (List.range 4) (fun w => storeSetting ⟨profReg w, e, x.1 % 1024, 0⟩ (x.2.getD w 0)) t) s
  else if r.typ = tLeafList then loadList e r.payload s
  else s

/-- Apply the records of an engine in the order of the image. -/
def loadEngine (e : Eng) (whole : Bool) (rs : List ImgRec) (s : State) : State := forAll rs (loadEngineRec e whole) s

/-- The words of one record that a pair shares, where its engine takes the image's records: those that `p` picks (R104, R336). -/
def loadSharedRec (p : Nat → Bool) (profiles : Bool) (r : ImgRec) (s : State) : State :=
  forAll engines (fun e t =>
    if ! covers r e || ! (getEng t e).enable || (getEng t e).illegal then t
    else if r.typ = tSettings then
      loadPairs (((pairsOf r).map (fun q => (Eng.base e + q.1, q.2))).filter (fun q => p q.1)) t
    else if r.typ = tProfiles && profiles then loadEngineRec e true r t
    else t) s

/-- The words that a pair shares take their image values in the order of the image, whichever engine a record names (R100, R107, R336; DEDUCED,
unsafe, notes/assumptions/221.md). -/
def loadShared (p : Nat → Bool) (profiles : Bool) (rs : List ImgRec) (s : State) : State :=
  if s.boot.paired then forAll rs (loadSharedRec p profiles) s else s

/-- DS_GRP_EN and DS_GRP_FMT of one record, at the restarted engine of a pair: the image gives a pair one value, whichever engine the record
names (R107, R287). -/
def loadGrpRec (e : Eng) (r : ImgRec) (s : State) : State :=
  if r.typ = tSettings && engines.any (fun o => covers r o && (getEng s o).enable && ! (getEng s o).illegal) then
    forAll ((pairsOf r).map (fun p => (Eng.base e + p.1, p.2)))
      (fun p t => if pairWord p.1 && ! schedWord p.1 && ! treeWord p.1 then loadRestart p.1 p.2 t else t) s
  else s

/-- The words of a pair that return to their image values at the restart of one engine (R107; notes/assumptions/92.md). -/
def loadPairRestart (e : Eng) (rs : List ImgRec) (s : State) : State :=
  if s.boot.paired then forAll rs (loadGrpRec e) (loadShared schedWord false rs s) else s

/-- The two channel frequencies of an engine's TREE record: those in force, or those of the image's record, which an engine whose
records are illegal does not apply (R200). -/
def treeFreqs (s : State) (rs : List ImgRec) (e : Eng) : W32 × W32 :=
  if getReg s .usTreeDs e 0 ≠ 0 then (getReg s .usTreeDs e 0, getReg s .usTreeUs e 0)
  else match rs.find? (fun r => r.typ = tTree && covers r e) with
    | some r => (wordAt r.payload 0, wordAt r.payload 4)
    | none => (0, 0)

/-- Engine B of a pair runs on other frequencies than engine A's (R200). -/
def treesDiffer (s : State) : Bool :=
  s.boot.paired && (getEng s .B).st ≠ .disabled && (getEng s .B).st ≠ .failed && getReg s .usTreeDs .B 0 ≠ 0
    && (getReg s .usTreeDs .A 0 ≠ getReg s .usTreeDs .B 0 || getReg s .usTreeUs .A 0 ≠ getReg s .usTreeUs .B 0)

/-- The state in which an engine's final values are judged: in Paired mode the reach is that of both TREE records, the other engine's
included before it is applied (R298). -/
def withOtherTree (rs : List ImgRec) (e : Eng) (s : State) : State :=
  if ! s.boot.paired || ! (getEng s e.other).enable || hasTree s e.other then s
  else match rs.find? (fun r => r.typ = tTree && covers r e.other) with
    | some r => if treeOk r.payload then loadTree e.other r.payload s else s
    | none => s

/-- The engine's records and final values are legal; engine B of a pair must have engine A's frequencies (R104, R199, R200). -/
def engineLegal (s : State) (rs : List ImgRec) (e : Eng) : Bool :=
  engineRecsOk rs e && engineFinalOk (withOtherTree rs e s) e
    && (e = .A || ! s.boot.paired || ! (getEng s .A).enable
        || treeFreqs s rs .A = treeFreqs s rs .B)

/-- Settings and tables of an engine return to their reset values before its records are applied again (R107, R537); in a pair
what belongs to the tree stays (R538). -/
def clearEngine (e : Eng) (s : State) : State :=
  let paired := s.boot.paired
  let s := { s with regs := s.regs.filter (fun p =>
    if paired then treeWord p.1 || (engWindow p.1 ≠ some e && ! schedWord p.1) else engWindow p.1 ≠ some e) }
  if paired then s
  else
    modEng e (fun x => { x with list := [] })
      { s with ssets := s.ssets.filter (fun p => p.1 / 512 ≠ e.num), ctrs := s.ctrs.filter (fun p => p.1 / 32768 ≠ e.num) }

/-- SHA-256 over the module-scoped records of an image (R108). -/
def moduleDigest (rs : List ImgRec) : BitVec 256 :=
  Config.sha256 ((rs.filter (fun r => r.scope = 0)).flatMap (fun r =>
    toBytes 2 r.typ ++ toBytes 1 r.scope ++ toBytes 1 (b01 r.critical) ++ toBytes 4 r.payload.length ++ r.payload))

/-! ## Reading a copy from the flash (R88, R89, R103) -/

/-- A read that goes no faster than 1-1-1 at 25 MHz: no SFDP was found, or it is the re-read of R103. -/
def slowRead (again : Bool) (rd : FlashRead) : Bool := again || ! rd.sfdp

/-- The width used for a copy whose header names `w`: the widest listed mode not above it (R89). -/
def widthUsed (rd : FlashRead) (w : Nat) : Nat := (rd.modes.filter (fun m => m ≤ w)).foldl max 0

/-- The commands that one read of a copy issues, in order (R87, R89): the reset, the SFDP tables and the header at 25 MHz, and the
rest of the copy in the mode used; a copy whose header fails is read no further. -/
def flashCommands (again : Bool) (b : List Byte) (rd : FlashRead) (headerBad : Bool) : List NvmCmd :=
  let w := widthUsed rd (imgWidth b)
  [⟨0x66, none, 0⟩, ⟨0x99, none, 0⟩, ⟨0x5A, none, 8⟩, ⟨0x03, none, 0⟩]
    ++ (if headerBad then []
        else if slowRead again rd then [⟨0x03, none, 0⟩]
        else [⟨if w = 0 then 0x0B else if w = 1 then 0x3B else 0x6B, some (imgDiv b), rd.dummies.getD w 0⟩])

/-- The mode used for the last read (BOOT_NVM_MODE), and NVM_NARROWED. The manual gives no DIV for 25 MHz: it is a free value. -/
def noteMode (again : Bool) (b : List Byte) (rd : FlashRead) (headerBad : Bool) (s : State) : State :=
  if headerBad || slowRead again rd then
    let d := draw Config.freeNat s
    { d.2 with boot := { d.2.boot with width := 0, div := d.1 % 256 } }
  else
    let w := widthUsed rd (imgWidth b)
    let s := { s with boot := { s.boot with width := w, div := imgDiv b } }
    when (w ≠ imgWidth b) (setFlag .bootFlags .A 0) s

/-- The record index that a report carries: the failing record's, or a free value where no record fails. -/
def failIndex (f : ImgFail) (s : State) : Nat × State :=
  match f.2 with
  | some i => (i % 65536, s)
  | none => let d := draw Config.freeNat s; (d.1 % 65536, d.2)

/-- One read of a copy: `n` is the attempt number of the report and `again` tells the slow re-read. BOOT_IMG_REJECTED and the
error register of the copy follow a failure (R105). -/
def readCopy (again second : Bool) (n : Nat) (b : List Byte) (rd : FlashRead) (s : State) : Option (Image) × Option Nat × State :=
  let r := checkCopy s b
  let bad := (checkHeader s b).isSome
  let s := noteMode again b rd bad { s with boot := { s.boot with nvm := flashCommands again b rd bad } }
  let put := fun (c i : Nat) (t : State) =>
    if second then { t with boot := { t.boot with err2 := c, err2Rec := i } }
    else { t with boot := { t.boot with err := c, errRec := i } }
  match r with
  | .ok m => (some m, none, put 0 0 s)
  | .error f =>
    let p := failIndex f s
    (none, some f.1, raise .mgt 0x0303 (b01 second) (packData [(8, f.1), (16, p.1), (8, n)]) (put f.1 p.1 p.2))

/-- A failure that the slow re-read of R103 follows. -/
def rereads (again : Bool) (rd : FlashRead) (c : Nat) : Bool := (c = imgLayout || c = imgRecordCrc) && ! slowRead again rd

end Sys2Proof.Machine
end

