-- ==== Sys2Proof/Machine/Fence.lean ====
section
/-! DEFINITION. Fences: which restarts an island allows, the fence state machine of R528 with what each island saves, stops and
loses at its steps (R24, R526 to R534), and replies that come too late (R530). -/

namespace Sys2Proof.Machine

/-! ## What is allowed (R527, R532) -/

/-- Kinds of restart an island allows in service by itself (R527). -/
def fenceAllowed (i : Isl) (hard : Bool) : Bool :=
  match i with
  | .aon => false
  | .mgt | .key | .tod | .flow | .cryp | .cltx | .clrx => true
  | .pwr | .dmem | .aTxc | .aTxd | .aRxc | .aRxd | .bTxc | .bTxd | .bRxc | .bRxd => ! hard

/-- A firmware update fences its islands: it is being applied or rolled back. -/
def updFencing (s : State) : Bool :=
  match s.upd.st with
  | .applying | .rollingBack => true
  | .idle | .verifying | .verified | .trial | .committing | .failed => false

/-- A firmware update is in progress, from APPLY to its end (R535, R569). -/
def updInProgress (s : State) : Bool :=
  match s.upd.st with
  | .applying | .trial | .committing | .rollingBack => true
  | .idle | .verifying | .verified | .failed => false

/-- An engine command is in progress. -/
def engCmdRuns (s : State) : Bool := engines.any (fun e => (getEng s e).updStep ≠ 0)

/-- A host-requested fence of a single island is in progress. -/
def islFenceRuns (s : State) : Bool :=
  Isl.all.any (fun i => (getIsl s i).fence ≠ .run && (getIsl s i).cause = .host)

/-- A host-requested fence is in progress: of an island, by an engine command, or by a step of a firmware update (R532). -/
def hostFence (s : State) : Bool := islFenceRuns s || engCmdRuns s || updFencing s

/-- Any fence is in progress (R567): of an update, the step that is being taken. -/
def anyFence (s : State) : Bool :=
  islFenceRuns s || engCmdRuns s || Isl.all.any (fun i => (getIsl s i).fence ≠ .run
    && ! (match i.eng? with
      | some e => (getEng s e).stopped
      | none => false))

/-! ## Helpers over leaves and key slots -/

/-- Change every leaf entry. -/
def mapLeaves (f : Leaf → Leaf) (s : State) : State :=
  { s with leaves := s.leaves.foldl (fun t p => tset {} t p.1 (f p.2)) s.leaves }

/-- Exchanges in progress are abandoned; the entry times out under R311 (R454, R534). -/
def abandonExch (x : Leaf) : Leaf :=
  if x.exch.running then
    { x with exch := { x.exch with running := false, lastRec := none, em := [], km := [], klf := [], macM := [], th2 := [] } }
  else x

/-- CRYP saves its counters and last accepted values as checkpoints (R529), and its reset clears its copies of the keys, which the Banker
keeps (R454). -/
def dropCopy (g : Gen) : Gen := { ctr := g.ctr, ck := g.ctr }
def saveCounters (s : State) : State :=
  forAll (s.sec.slots.map (fun p => p.1)) (fun k t => modSlot k (fun x => { x with cur := dropCopy x.cur, old := dropCopy x.old }) t) s

/-! ## What a step of the fence does to an island (R404, R454, R529, R533, R534, R558) -/

/-- Upstream units on their way through FLOW are discarded and counted in FENCE_DROP of their containers (R533). -/
def dropUsFlow (s : State) : State :=
  let us := s.flow.usClear.map (fun u => (u.eng, unitCid (fld u.header 95 64)))
  let fs := s.flow.fetch.flatMap (fun p => p.2.filterMap (fun q => match q.1 with
    | .us e c _ => some (e, c)
    | .ds _ _ => none))
  forAll (us ++ fs) (fun p t => countCtr 19 p.1 p.2 4 1 t) s

/-- Client packets on their way through FLOW are discarded as frames that meet a fenced FLOW (R404). -/
def dropDsFlow (s : State) : State :=
  let fs := s.flow.fetch.flatMap (fun p => p.2.filterMap (fun q => match q.1 with
    | .ds port _ => some port
    | .us _ _ _ => none))
  forAll (s.flow.ingress.map (fun k => k.port) ++ fs) (fun p t => count 17 p 6 1 t) s

/-- Units queued in FLOW for a container are discarded and counted in DROP_CTR of their flows (R533). -/
def dropFlowQueue (k : Nat) (s : State) : State :=
  let x := tget {} s.ctrs k
  forAll (x.queue.map (fun q => q.flow)) (fun f t => modFlow f (fun y => { y with dropCtr := satAdd y.dropCtr 1 }) t)
    { s with ctrs := tset {} s.ctrs k { x with queue := [] } }

/-- What waits at FLOW's inputs is discarded from DRAIN on (R404, R533). -/
def dropInputs (s : State) : State :=
  let t := { s with flow := { s.flow with fetch := [] } }
  let t := dropDsFlow (dropUsFlow t)
  { t with flow := { t.flow with fetch := s.flow.fetch, ingress := [], usClear := [] } }

/-- The dirty lines of the context cache are written back (R529), and the cache is empty. -/
def flushCache (s : State) : State :=
  let s := forAll (s.flow.cache.flatMap (fun p => p.2)) writeBack s
  { s with flow := { s.flow with cache := [] } }

/-- Every downstream queue and cut-through share is emptied; a move with no unit left in its old container ends (R364, R533). -/
def emptyFlow (s : State) : State :=
  let s := dropDsFlow (dropUsFlow (flushCache s))
  let s := forAll (s.ctrs.map (fun p => p.1)) dropFlowQueue s
  let held := s.flow.movePend
  let s := forAll held (fun p t => modFlow p.1 (fun y => { y with dropCtr := satAdd y.dropCtr p.2.length }) t) s
  let s := { s with flow := { s.flow with ingress := [], fetch := [], usClear := [], movePend := [] } }
  forAll ((s.flow.ctx.filter (fun p => p.2.moveActive)).map (fun p => p.1)) (fun f t =>
    let x := getFlow t f
    let e : Eng := if x.oldEng = 0 then .A else .B
    if (getCtr t e x.oldCid).out.any (fun u => u.flow = f) then t else endMove f t) s

/-- Effects at entry to QUIESCE: calibration runs of a converter island are abandoned (R237, R534, R548), and AON shows from here
what PWR last reported (R605). R605 does not say from which fence state on; the model takes QUIESCE, although R528 stops the island's own
requests only at DRAIN (DESIGN CHOICE, unsafe; notes/assumptions/196.md). -/
def onQuiesce (i : Isl) (s : State) : State :=
  match i with
  | .aTxc => calAbandon .A false s
  | .aRxc => calAbandon .A true s
  | .bTxc => calAbandon .B false s
  | .bRxc => calAbandon .B true s
  | .pwr => { s with pwr := { s.pwr with reported := some (feedSource s, s.pwr.holdup, s.pwr.capActive) } }
  | _ => s

/-- Effects at entry to DRAIN. -/
def onDrain (i : Isl) (hard : Bool) (s : State) : State :=
  let s := when hard (noteFenced i) s
  match i with
  | .key => mapLeaves abandonExch s
  | .flow => when hard (fun t => dropHeld (dropInputs t)) s
  | _ => s

/-- Effects at entry to FENCED. -/
def onFenced (i : Isl) (hard : Bool) (s : State) : State :=
  match i with
  | .flow => when hard emptyFlow s
  | _ => s

/-- Effects at entry to RESET: CRYP has saved its counters, and a hard reset clears the accumulators the island holds (R529,
R558). -/
def onReset (i : Isl) (hard : Bool) (s : State) : State :=
  let s := if i = .cryp && hard then saveCounters s else s
  when hard (fun t => { t with tally := { t.tally with acc := t.tally.acc.filter (fun p => match cellAt? p.1 with
    | some c => cellIsl t c.set c.obj c.idx ≠ i
    | none => true) } }) s

/-- Every enabled port enters WAIT_REF (R404). -/
def portsWait (s : State) : State :=
  forAll (List.range 32) (fun p t => if (getPort t p).st = .disabled then t else toWaitRef p (leaveUp p none t)) s

/-- The end of a timer that stood still from `t0` on (R534). -/
def laterEnd (t0 now' t : Nat) : Nat := if t0 < t then t + (now' - t0) else t

/-- The timers of the functions that a soft restart has paused go on (R534): the retry hold of calibration, and the holds of refused
registrations. -/
def resumeTimers (i : Isl) (s : State) : State :=
  let t0 := (getIsl s i).fenceAt
  match i.eng? with
  | none => s
  | some e =>
    if i = e.rxc || i = e.txc then modCal e (i = e.rxc) (fun c => { c with holdTo := laterEnd t0 (now s) c.holdTo }) s
    else if i = e.txd && (! s.boot.paired || s.aps.work = some e) then
      modEng (treeOf s e) (fun x => { x with holds := x.holds.map (fun p => (p.1, laterEnd t0 (now s) p.2)) }) s
    else s

/-- The 10 s of the servo, which a soft restart of TOD paused, go on (R368, R534). -/
def servoTimer (s : State) : State :=
  { s with tod := { s.tod with badFrom := s.tod.badFrom.map (fun t => t + (now s - (getIsl s .tod).fenceAt)) } }

/-- Effects at the return to RUN (R404, R429, R454, R533). -/
def onRun (i : Isl) (hard : Bool) (s : State) : State :=
  match i with
  | .key => serveDeferred s
  | .flow => retryHeld s
  | .pwr => { s with pwr := { s.pwr with reported := none } }
  | .cryp => when hard crypResume (when s.sec.shakerOk reseedLanes s)
  | .tod => when hard (fun t =>
      let t := if t.tod.st = 1 then t else todMove 1 t
      let t := { t with tod := { t.tod with source := 0, ppsOfs := none } }
      if t.tod.ptpOn then dropMaster t else t) (when (! hard) servoTimer s)
  | .cltx | .clrx => when hard portsWait s
  | _ => when (! hard) (resumeTimers i) s

/-! ## The fence state machine (R528) -/

/-- The islands that share each fence state with an island: the four of its engine under a hard reset, else itself (R536). -/
def fenceGroup (s : State) (i : Isl) : List Isl :=
  match i.eng? with
  | some e => if (getIsl s i).hard then e.isls else [i]
  | none => [i]

/-- An island enters QUIESCE, and the fence is counted by kind (R528, R550). -/
def enterQuiesce (i : Isl) (hard : Bool) (cause : FenceCause) (s : State) : State :=
  let s := modIsl i (fun x => { x with fence := .quiesce, hard := hard, cause := cause, overdue := false, fenceAt := now s }) s
  onQuiesce i (count 24 i.row (b01 hard) 1 s)

/-- An island enters a later fence state, with its effects there. -/
def enterFence (f : Fence) (i : Isl) (s : State) : State :=
  let hard := (getIsl s i).hard
  let s := modIsl i (fun x => { x with fence := f }) s
  match f with
  | .drain => onDrain i hard s
  | .fenced => onFenced i hard s
  | .reset => onReset i hard s
  | .run => onRun i hard s
  | .quiesce | .resume => s

/-- The group of an island goes from one fence state to the next; SF of an engine is judged again (R283). -/
def moveFence (f : Fence) (i : Isl) (s : State) : State :=
  let g := fenceGroup s i
  let s := forAll g (enterFence f) s
  if i.eng?.isSome then apsUpdate s else s

/-- An island is in a fence state. -/
def inFence (s : State) (i : Isl) (f : Fence) : Bool := (getIsl s i).fence = f

/-- FENCE_NOTICE_ACKED (R528). -/
def execFenceNoticeAcked (i : Isl) (s : State) : Out :=
  act (inFence s i .quiesce) (moveFence .drain i) s

/-- ISLAND_DRAINED (R528). -/
def execIslandDrained (i : Isl) (s : State) : Out :=
  act (inFence s i .drain) (moveFence .fenced i) s

/-- DRAIN_TIMEOUT (R528, R530): work is left, and how many of the replies of the requests that the model does not follow one by one
come too late is open (notes/assumptions/5.md and 154.md). -/
def execDrainTimeout (i : Isl) (s : State) : Out :=
  act (inFence s i .drain) (fun s =>
    let s := moveFence .fenced i s
    forAll (fenceGroup s i) (fun j t =>
      let d := draw Config.freeNat t
      staleReplies j d.1 d.2) s) s

/-- UPD_ISL_RESUME raised by MGT for an island that returned to RUN (R551). -/
def resumeEvent (i : Isl) (old : Nat) (s : State) : State :=
  let x := getIsl s i
  let c := match x.cause with
    | .host => 0 | .update => 1 | .engine => 2 | .watchdog => 3 | .poison => 4
  raiseF .mgt 0x0E05 i.id (packData [(8, c), (8, old), (8, x.incarn), (8, b01 x.overdue)]) .updFlags .A 4 s

/-- The next incarnation: 255 is followed by 1 (R24). -/
def nextIncarn (n : Nat) : Nat := if 255 ≤ n then 1 else n + 1

/-- An island returns to RUN with a new incarnation (R24, R528). -/
def enterRun (i : Isl) (s : State) : State :=
  let old := (getIsl s i).incarn
  let s := modIsl i (fun x => { x with incarn := nextIncarn x.incarn }) (enterFence .run i s)
  let s := modIsl i (fun x => { x with overdue := false }) (resumeEvent i old s)
  forAll engines (fun e => when (i = e.txd) (rerangeDues e)) s

/-- The group of an island returns to RUN. -/
def runFence (i : Isl) (s : State) : State :=
  let g := fenceGroup s i
  let s := forAll g enterRun s
  if i.eng?.isSome then apsUpdate s else s

/-! ## Requests for one island (R527, R528, R532, R549) -/

/-- A command written to UPD_ISL_ID is refused. -/
def islCmdRefused (s : State) (i : Isl) (cmd : Nat) : Bool :=
  ! ((cmd = 1 || cmd = 2) && fenceAllowed i (cmd = 2)) || hostFence s || (getIsl s i).fence ≠ .run

/-- A host write of UPD_ISL_ID. -/
def writeIslCmd (i : Isl) (v : W32) (s : State) : State × Status :=
  let c := fld v 17 16
  refuseOr ((writeGate s .mgt).worse (if islCmdRefused s i c then .errState else .ok))
    (fun s =>
      let s := enterQuiesce i (c = 2) .host s
      if i.eng?.isSome then apsUpdate s else s) s

/-- ISLAND_SOFT_RESTART_CMD and ISLAND_HARD_RESET_CMD (R528). -/
def execIslandSoftRestartCmd (i : Isl) (s : State) : Out := .next (setStatus (writeIslCmd i 0x10000 s))
def execIslandHardResetCmd (i : Isl) (s : State) : Out := .next (setStatus (writeIslCmd i 0x20000 s))

end Sys2Proof.Machine
end

