-- ==== Sys2Proof/Machine/Engines.lean ====
section
/-! DEFINITION. The engine states of R109 and what a change of them does to the rest of the block, and the re-reading of the
image for an engine (R103 to R111, R537, R538). -/

namespace Sys2Proof.Machine

/-! ## Engine states (R109) -/

/-- Code of an engine state as BOOT_STATUS reads it. -/
def engStateCode : EngState → Nat
  | .disabled => 0 | .waiting => 1 | .tuning => 2 | .calibrating => 3 | .ramping => 4 | .trafficReady => 5
  | .standby => 6 | .failed => 7

/-- Store a BOOT_ENG_ERR code. -/
def setEngErr (e : Eng) (c : Nat) (s : State) : State :=
  match e with
  | .A => { s with boot := { s.boot with engErrA := c } }
  | .B => { s with boot := { s.boot with engErrB := c } }

/-- A step of R77 begins: PHASE is the highest number that has begun. -/
def beginPhase (n : Nat) (s : State) : State := { s with boot := { s.boot with phase := max s.boot.phase n } }

/-- What follows a change of an engine's state: SF and SD are judged, commands that waited for it go on, and TRAFFIC_READY is
brought up to date. -/
def engChanged (s : State) : State := trafficUpdate (forAll engines engTry (apsUpdate s))

/-- BOOT_ENGINE_FAIL (R113). -/
def engFailEvent (e : Eng) (left code : Nat) (s : State) : State :=
  raiseF .mgt 0x0305 e.num (packData [(8, left), (8, code)]) .bootFlags .A 4 s

/-- Optics of an engine without power: its lasers have no lock, and nothing is framed once its output is dark. -/
def opticsOff (e : Eng) (s : State) : State :=
  modDown e (fun d =>
    let d := { d with sigLock := false, loLock := false }
    if d.laser = .dark then { d.silent with framer := false, scs := [], cells := [] } else d) s

/-- An engine enters FAILED (R109); a lit output ramps off, and calibration runs end with the eligible states (R237). -/
def engFail (e : Eng) (code : Nat) (s : State) : State :=
  let left := engStateCode (getEng s e).st
  let s := engFailEvent e left code (setEngErr e code s)
  let s := opticsOff e (rampTxOff e (calAbandon e true (calAbandon e false s)))
  engChanged (modEng e (fun x => { x with st := .failed, mapsStopped := true, maps := [] }) s)

/-- An engine enters TUNING: its laser and cooler are powered (R109). -/
def engTune (e : Eng) (s : State) : State :=
  modEng e (fun x => { x with st := .tuning, squareSent := false }) s

/-- The engine that serves the tree is on its way to traffic or carries it. -/
def engServes (s : State) (e : Eng) : Bool := (getEng s e).st = .ramping || (getEng s e).st = .trafficReady

/-- Calibration is done (R109, R110): the engine becomes working and ramps, or becomes STANDBY behind the other. -/
def engCalibrated (e : Eng) (s : State) : State :=
  if s.boot.paired && s.aps.work = some e.other && engServes s e.other then
    engChanged (modEng e (fun x => { x with st := .standby, sfHold := false }) s)
  else
    let s := if s.boot.paired then takeMsgs e.other e { s with aps := { s.aps with work := some e } } else s
    engChanged (beginPhase 13 (modEng e (fun x => { x with st := .ramping, mapsStopped := false, sfHold := false }) s))

/-- What an engine loses in its hard reset (R536, R537): receivers, reassembly, maps and the downstream, with its control
messages (R606). -/
def engReset (e : Eng) (s : State) : State :=
  let keep := s.boot.paired
  let s := modEng e (fun x => { x with
    rx := [], lrx := [], reports := [], maps := [], mapsStopped := true, squareSent := false, feGain := [], det := [], words := { origin := now s }
    life := x.life + 1, inp := {}, idleRef := (0, 0)
    defs := {}, turns := [], turnPrev := {}, ratioTurns := 0, pwrs := []
    down := { apr := x.down.apr, refl := x.down.refl, aprEnv := x.down.aprEnv } }) s
  if keep then s
  else { s with ssets := s.ssets.foldl (fun t p =>
          if p.1 / 512 = e.num then tset {} t p.1 { p.2 with stream := [], units := [], rr := [], quantum := 0 } else t) s.ssets }

/-! ## Which copy is read next (R88, R103) -/

/-- A place in the order of R103: the secondary copy, and the slow re-read. -/
structure CopyPos where
  second : Bool
  again : Bool
  deriving DecidableEq, Repr

/-- Number of a place, 1 to 4, and back. -/
def CopyPos.num (p : CopyPos) : Nat := 1 + 2 * b01 p.second + b01 p.again
def copyPos (n : Nat) : CopyPos := ⟨3 ≤ n, n % 2 = 0⟩

/-- The read that follows a failed one with a check code, if any. -/
def nextCopy (p : CopyPos) (rd : FlashRead) (code : Nat) : Option CopyPos :=
  if rereads p.again rd code then some ⟨p.second, true⟩
  else if p.second then none
  else if ! rd.sfdp || rd.big then some ⟨true, false⟩
  else none

/-- BOOT_IMG_ACCEPTED of a copy (R113). -/
def acceptedEvent (p : CopyPos) (m : Image) (n : Nat) (s : State) : State :=
  let s := raise .mgt 0x0302 (b01 p.second) (packData [(32, m.version.toNat), (8, n)]) s
  when p.second (setFlag .bootFlags .A 2) s

/-- The reads of an engine's re-read, in order (R108): the image accepted, if any. -/
def rereadImage : Nat → CopyPos → List (List Byte × FlashRead) → State → Option Image × State
  | _, _, [], s => (none, s)
  | n, p, (b, rd) :: rest, s =>
    let r := readCopy p.again p.second n b rd s
    match r.1 with
    | some m => (some m, acceptedEvent p m n r.2.2)
    | none => match nextCopy p rd (r.2.1.getD 0) with
      | none => (none, r.2.2)
      | some q => rereadImage (n + 1) q rest (when q.again (setFlag .bootFlags .A 1) r.2.2)

/-! ## Engine records (R104, R107, R108) -/

/-- The records of the engines of `es` that are legal in themselves, and then what a pair shares, applied to see what they come to. -/
def tryRecs (es : List Eng) (whole : Bool) (shared : State → State) (rs : List ImgRec) (s : State) : State :=
  shared (forAll es (fun e t =>
    let ok := engineRecsOk rs e
    let t := modEng e (fun x => { x with illegal := ! ok }) t
    if (getEng t e).enable && ok then loadEngine e whole rs t else t) s)

/-- Apply the records of the engines of `es` that are legal once all of them stand, and what a pair shares; an engine whose records are not is
marked, and nothing of them applies (R101, R104). -/
def takeRecs (es : List Eng) (whole : Bool) (shared : State → State) (rs : List ImgRec) (s : State) : State :=
  let c := tryRecs es whole shared rs s
  shared (forAll es (fun e t =>
    if ! (getEng t e).enable then t
    else if engineLegal c rs e then loadEngine e whole rs (modEng e (fun x => { x with illegal := false }) t)
    else modEng e (fun x => { x with illegal := true }) t) s)

/-- In a pair the final values are judged again without the words of an engine that is marked: one whose own become illegal is marked too
(R101, R104). -/
def judgeAgain (es : List Eng) (rs : List ImgRec) (s : State) : State :=
  if ! s.boot.paired then s
  else forAll es (fun e t =>
    if (getEng t e).enable && ! engineLegal s rs e then modEng e (fun x => { x with illegal := true }) t else t) s

/-- An engine restart that changes MINPHASE or CD_PSNM invalidates every seed of the engine (R219). -/
def dropSeeds (e : Eng) (s : State) : State :=
  { s with leaves := s.leaves.foldl (fun t p =>
      if p.1 / 4096 = (treeOf s e).num then tset {} t p.1 { p.2 with seed := none } else t) s.leaves }

/-- The image is re-read for an engine (R108, R536 step 5): its records come from the copy accepted, or from the image in force,
and are judged. -/
def rereadJudged (e : Eng) (reads : List (List Byte × FlashRead)) (s : State) : State :=
  let r := rereadImage 1 ⟨false, false⟩ reads s
  let s := r.2
  let old := match s.boot.img with
    | some m => m.recs
    | none => []
  let s := match r.1 with
    | some m => if moduleDigest m.recs = moduleDigest old then s else { s with boot := { s.boot with differs := true } }
    | none => s
  let recs := match r.1 with
    | some m => m.recs
    | none => old
  let filt := regF s .usFeCfg e 0 0 0
  let cd := getReg s .usTreeCd e 0
  let s := { s with boot := { s.boot with nvmBusy := false } }
  let s := judgeAgain [e] recs (takeRecs [e] (! s.boot.paired) (loadPairRestart e recs) recs (clearEngine e s))
  if filt = regF s .usFeCfg e 0 0 0 && cd = getReg s .usTreeCd e 0 then s else dropSeeds e s

/-- The re-read has ended, and with it the restart: the engine tunes, or fails where its words are illegal (R108, R109). -/
def rereadDone (e : Eng) (reads : List (List Byte × FlashRead)) (s : State) : State :=
  let s := rereadJudged e reads s
  let s := engCmdEnd e (modEng e (fun x => { x with reread := false }) s)
  if (getEng s e).illegal then engFail e engineValue s
  else
    let s := if e = .A && treesDiffer s then engFail .B engineValue s else s
    engChanged (engTune e s)

end Sys2Proof.Machine
end

