-- ==== Sys2Proof/Machine/EngCmd.lean ====
section
/-! DEFINITION. Engine restart and stop: UPD_ENG_CTL, the steps of R536 and their consequences for the leaves (R535 to R538). -/

namespace Sys2Proof.Machine

/-! ## Acceptance (R535) -/

/-- A command of UPD_ENG_CTL is refused: 1 RESTART, 2 STOP. -/
def engCmdRefused (s : State) (e : Eng) (cmd : Nat) (force : Bool) : Bool :=
  ! (cmd = 1 || cmd = 2) || hostFence s || updInProgress s
    || (cmd = 1 && (s.boot.nvmBusy || s.boot.img = none || ! (getEng s e).enable))
    || (cmd = 2 && (getEng s e).st = .disabled)
    || (s.boot.paired && s.aps.work = some e && ! force && ! canTakeOver s e.other)

/-- An accepted command begins (R536): a stopped engine is only taken out of RESET; a working engine of a pair begins with step 1,
every other with step 2. `byUpd` marks a step of a firmware update. -/
def engCmdBegin (e : Eng) (cmd : Nat) (force byUpd : Bool) (s : State) : State :=
  let s := modEng e (fun x => { x with updCmd := cmd, updForce := force, updBy := byUpd }) s
  if cmd = 1 && (getEng s e).stopped then
    moveFence .resume e.txc (engMark e 3 0 s)
  else if s.boot.paired && s.aps.work = some e then engTry e (engMark e 1 0 s)
  else engDark e s

/-- A host write of UPD_ENG_CTL. -/
def writeEngCtl (v : W32) (s : State) : State × Status :=
  let e : Eng := if v.getLsbD 0 then .B else .A
  refuseOr ((writeGate s .mgt).worse (if engCmdRefused s e (fld v 5 4) (v.getLsbD 8) then .errState else .ok))
    (engCmdBegin e (fld v 5 4) (v.getLsbD 8) false) s

/-- The word of UPD_ENG_CTL for a command. -/
def engCtlWord (e : Eng) (cmd : Nat) (force : Bool) : W32 := wordOf [(0, e.num), (4, cmd), (8, b01 force)]

/-- ENGINE_CMD_RESTART and ENGINE_CMD_STOP (R535). -/
def execEngineCmdRestart (e : Eng) (force : Bool) (s : State) : Out := .next (setStatus (writeEngCtl (engCtlWord e 1 force) s))
def execEngineCmdStop (e : Eng) (force : Bool) (s : State) : Out := .next (setStatus (writeEngCtl (engCtlWord e 2 force) s))

/-! ## Step 3 (R536 to R538) -/

/-- A leaf entry of an engine in Independent mode becomes GONE with cause HOST; no DEREG is sent, and it keeps its serial (R331,
R537). -/
def leafGoneQuiet (e : Eng) (l : Nat) (s : State) : State :=
  let x := getLeaf s e l
  if registered x then leave e l causeHost false s
  else if x.st = .gone then setLeaf e l { x with cause := causeHost } s
  else s

/-- Every leaf of an engine in Independent mode departs, and exchanges that waited for theirs begin (R450). -/
def leavesGone (e : Eng) (s : State) : State :=
  serveDeferred (forAll ((s.leaves.filter (fun p => p.1 / 4096 = e.num)).map (fun p => p.1 % 4096)) (leafGoneQuiet e) s)

/-- ENGINE_CMD_TX_DARK (R536): the transmitter is dark, the four islands enter QUIESCE together, and the engine has SF. -/
def execEngineCmdTxDark (e : Eng) (s : State) : Out :=
  actF ((getEng s e).updStep = 2 && (getEng s e).down.laser = .dark) (fun s =>
    let s := opticsOff e (engMark e 3 0 s)
    let cause : FenceCause := if (getEng s e).updBy then .update else .engine
    let s := modEng e (fun x => { x with st := if x.enable then .waiting else .disabled, sfHold := true }) s
    let s := forAll e.isls (fun i => enterQuiesce i true cause) s
    let s := if s.boot.paired then s else leavesGone e s
    engChanged s) s

/-- The islands of an engine reach RESET: what the engine holds is lost, and a STOP ends here with the engine DISABLED (R536 step
4). -/
def engAtReset (e : Eng) (s : State) : State :=
  let s := engReset e s
  if (getEng s e).updCmd = 2 then
    engChanged (engCmdEnd e (engMark e 4 0 (modEng e (fun x => { x with st := .disabled, stopped := true }) s)))
  else s

/-- An engine whose hard reset an island's fence belongs to. -/
def hardEng (s : State) (i : Isl) : Option Eng := if (getIsl s i).hard then i.eng? else none

/-- STATE_SAVE_DONE (R528, R529). -/
def execStateSaveDone (i : Isl) (s : State) : Out :=
  actF (inFence s i .fenced) (fun s =>
    let s := moveFence .reset i s
    match hardEng s i with
    | some e => engAtReset e s
    | none => s) s

/-- An island waits in RESET because its engine is stopped. -/
def heldInReset (s : State) (i : Isl) : Bool :=
  match hardEng s i with
  | some e => (getEng s e).stopped
  | none => false

/-- ISLAND_RESET_DONE (R528). -/
def execIslandResetDone (i : Isl) (s : State) : Out :=
  act (inFence s i .reset && ! heldInReset s i) (moveFence .resume i) s

/-- The four islands of an engine have resumed (R536 step 5): the image is read again, and the limits of R109 run from here. An
engine that is not enabled stays DISABLED. -/
def engResumed (e : Eng) (s : State) : State :=
  let s := modEng e (fun x => { x with stopped := false, origin := now s }) (engMark e 5 0 s)
  if (getEng s e).enable && s.boot.img.isSome then
    engChanged { (modEng e (fun x => { x with st := .waiting, reread := true }) s) with
      boot := { s.boot with nvmBusy := true } }
  else engChanged (engCmdEnd e (modEng e (fun x => { x with st := .disabled, sfHold := false }) s))

end Sys2Proof.Machine
end

