-- ==== Sys2Proof/Machine/Update.lean ====
section
/-! DEFINITION. Firmware update: staging, the checks of a package, its application island by island, trial, commit and rollback
(R539 to R547), and the restarts that bear on it (R527, R532, R545). -/

namespace Sys2Proof.Machine

/-! ## Codes (R542, R549) -/

def updNoMagic : Nat := 0x01
def updUnwritten : Nat := 0x02
def updFormat : Nat := 0x03
def updDevice : Nat := 0x04
def updSignature : Nat := 0x05
def updRollbackCode : Nat := 0x06
def updSectionHash : Nat := 0x07
def updResumeFail : Nat := 0x08
def updTrialFail : Nat := 0x09
def updFlashWrite : Nat := 0x0A
def updHost : Nat := 0x0B

/-! ## Staging (R539) -/

/-- The staging window. -/
def stageBase : Nat := 0xA1000000
def stageBytes : Nat := 0x0F000000

/-- The window is written in these states. -/
def stageOpen (s : State) : Bool :=
  match s.upd.st with
  | .idle | .verified | .failed => true
  | .verifying | .applying | .trial | .committing | .rollingBack => false

/-- Store bytes in the window and mark their words, which are good again (R470); in a word that was bad, the bytes not written become zeros, as
in the scratchpad (R473; notes/assumptions/106.md). -/
def storeStage (ofs : Nat) (data : List Byte) (s : State) : State :=
  let bad := s.mem.poisoned.filter (fun p => p.1 = 11 && data ≠ [] && decide (ofs / 64 ≤ p.2) && decide (64 * p.2 < ofs + data.length))
  let s := forAll bad (fun p t => memWritten 11 p.2 { t with upd := { t.upd with
    stage := (List.range 64).foldl (fun m i => tset 0 m (64 * p.2 + i) 0) t.upd.stage } }) s
  forAll data.zipIdx (fun p t =>
    let a := ofs + p.2
    { t with upd := { t.upd with stage := tset 0 t.upd.stage a p.1, marks := tset false t.upd.marks (a / 64) true } }) s

/-- A host write to the window; in VERIFIED it returns the state to IDLE. -/
def writeStage (ofs : Nat) (data : List Byte) (s : State) : State × Status :=
  refuseOr ((writeGate s .mgt).worse
      ((if stageBytes < ofs + data.length then Status.errRange else .ok).worse (if stageOpen s then .ok else .errState)))
    (fun s =>
      let s := storeStage ofs data s
      if s.upd.st = .verified then { s with upd := { s.upd with st := .idle } } else s) s

/-- UPD_STAGING_WRITE (R539). -/
def execUpdStagingWrite (ofs : Nat) (data : List Byte) (s : State) : Out := .next (setStatus (writeStage ofs data s))

/-- Bytes of the staged package; those of a word that reads as POISON are zeros (R470). -/
def pkgBytes (s : State) (o n : Nat) : List Byte :=
  (List.range n).map (fun i => if (11, (o + i) / 64) ∈ s.mem.poisoned then 0 else tget 0 s.upd.stage (o + i))
def pkgNum (s : State) (o n : Nat) : Nat := beNat (pkgBytes s o n)

/-! ## The package (R540, R541) -/

def pkgLen (s : State) : Nat := pkgNum s 0x08 4
def pkgSections (s : State) : Nat := pkgNum s 0x06 2
def pkgVer (s : State) : W32 := BitVec.ofNat 32 (pkgNum s 0x0C 4)
def pkgArb (s : State) : Nat := pkgNum s 0x10 1

/-- Section descriptor `k`; an island ID outside R17 gives none. -/
def pkgSection (s : State) (k : Nat) : Option Section :=
  let o := 0x60 + 48 * k
  (islOfId (pkgNum s o 1)).map (fun i =>
    { isl := i.row, kind := pkgNum s (o + 1) 1, hard := pkgNum s (o + 2) 1 % 2 = 1, ofs := pkgNum s (o + 4) 4
      len := pkgNum s (o + 8) 4, hash := pkgBytes s (o + 16) 32 })

/-- A descriptor is legal in itself. -/
def descriptorOk (s : State) (k : Nat) : Bool :=
  let o := 0x60 + 48 * k
  match pkgSection s k with
  | none => false
  | some x => x.isl ≠ Isl.aon.row && (x.kind = 1 || x.kind = 2) && pkgNum s (o + 2) 1 < 2 && pkgNum s (o + 3) 1 = 0
      && pkgNum s (o + 12) 4 = 0 && 1 ≤ x.len && x.ofs + x.len ≤ pkgLen s

/-- The sections of the package. -/
def pkgTable (s : State) : List Section := (List.range (pkgSections s)).filterMap (pkgSection s)

/-- Two sections are of one kind and island, or overlap. -/
def sectionsClash (a b : Section) : Bool :=
  (a.isl = b.isl && a.kind = b.kind) || (a.ofs < b.ofs + b.len && b.ofs < a.ofs + a.len)

/-- Check 0x03. -/
def pkgFormatOk (s : State) : Bool :=
  let n := pkgSections s
  let l := pkgTable s
  pkgNum s 4 2 = 1 && 1 ≤ n && n ≤ 34 && 96 + 48 * n ≤ pkgLen s && pkgLen s ≤ 251658240 && pkgArb s ≤ 64
    && pkgNum s 0x11 1 ≤ 1 && pkgNum s 0x12 2 = 0 && allZero (pkgBytes s 0x18 8)
    && (List.range n).all (descriptorOk s)
    && (List.range l.length).all (fun i => (List.range i).all (fun j =>
      match l[i]?, l[j]? with
      | some a, some b => ! sectionsClash a b
      | _, _ => true))

/-- Every word of the package is marked (check 0x02). -/
def pkgWritten (s : State) : Bool :=
  let n := (pkgLen s + 63) / 64
  (s.upd.marks.filter (fun p => p.1 < n && p.2)).length = n

/-- The first failing check of R542, 0 when none fails. An unmarked first word is not read, and shows no MAGIC. -/
def pkgCheck (s : State) : Nat :=
  if ! tget false s.upd.marks 0 || pkgNum s 0 4 ≠ 0x5A4B5550 then updNoMagic
  else if ! pkgWritten s then updUnwritten
  else if ! pkgFormatOk s then updFormat
  else if pkgNum s 0x14 4 ≠ 0x00004832 then updDevice
  else if ! Config.ed25519Ok Config.vendorKey (pkgBytes s 0 0x20 ++ pkgBytes s 0x60 (48 * pkgSections s)) (pkgBytes s 0x20 64) then
    updSignature
  else if pkgArb s < s.fuse.arbFw then updRollbackCode
  else if ! (pkgTable s).all (fun x => toBytes 32 (Config.sha256 (pkgBytes s x.ofs x.len)).toNat = x.hash) then updSectionHash
  else 0

/-- The words that VERIFY reads, each with its outcome, as far as the checks come: the first, those of the section table once every word of the
package is marked, and the sections' when no check before theirs fails (R470, R539, R542). -/
def stageReads (s : State) : State :=
  let marked := fun (w : Nat) => tget false s.upd.marks w
  let n := (pkgLen s + 63) / 64
  let t := memScan 11 rdPort0 0 1 marked s
  if pkgNum t 0 4 ≠ 0x5A4B5550 || ! pkgWritten t then t
  else
    let k := min n ((96 + 48 * pkgSections t + 63) / 64)
    let u := memScan 11 rdPort0 1 (k - 1) marked t
    if pkgCheck u = 0 || pkgCheck u = updSectionHash then memScan 11 rdPort0 k (n - k) marked u else u

/-! ## Islands of the package (R543, R544) -/

def updHas (s : State) (i : Isl) : Bool := s.upd.sections.any (fun x => x.isl = i.row)
def updHard (s : State) (i : Isl) : Bool := s.upd.sections.any (fun x => x.isl = i.row && x.hard)
def updCount (s : State) (i : Isl) : Nat := (s.upd.sections.filter (fun x => x.isl = i.row)).length
def updIsDone (s : State) (i : Isl) : Bool := s.upd.done.testBit i.row

/-- Islands as a mask of R549. -/
def islMask (p : Isl → Bool) : Nat := (Isl.all.map (fun i => b01 (p i) * 2 ^ i.row)).sum

/-- Engine islands in the order of R543. -/
def engOrder (e : Eng) : List Isl := [e.rxc, e.rxd, e.txc, e.txd]

/-- The order of R543. -/
def updOrder (s : State) : List Isl :=
  let w := if s.boot.paired then s.aps.work.getD .B else .B
  [.pwr, .tod, .dmem, .key, .cryp, .flow, .clrx, .cltx] ++ engOrder w.other ++ engOrder w ++ [.mgt]

/-- A HARD section of PWR or DMEM is deferred (R544). -/
def updDeferred (s : State) (i : Isl) : Bool := (i = .pwr || i = .dmem) && updHard s i

/-- An engine is updated by the steps of R536: one of its islands has a HARD section. -/
def updEngHard (s : State) (e : Eng) : Bool := e.isls.any (updHard s)

/-- UPD_ISLAND of an island (R551). Of a deferred island no section has been applied (R544; notes/assumptions/230.md). -/
def updIslEvent (i : Isl) (kind : Nat) (s : State) : State :=
  raiseF .mgt 0x0E02 i.id (packData [(8, kind), (8, if kind = 2 then 0 else updCount s i)]) .updFlags .A 1 s

/-- Set or clear an island's bit of UPD_DONE. -/
def setDone (i : Isl) (b : Bool) (s : State) : State :=
  let m := s.upd.done
  { s with upd := { s.upd with done := if m.testBit i.row = b then m else if b then m + 2 ^ i.row else m - 2 ^ i.row } }

/-- An island that needs no fence of its own: that of a stopped engine takes its sections when it leaves RESET. -/
def updStopped (s : State) (i : Isl) : Bool :=
  match i.eng? with
  | some e => (getEng s e).stopped
  | none => false

/-! ## Applying and rolling back (R543, R545) -/

/-- A step of the update is in progress, or a fence that the host requested: only one runs at a time (R532). -/
def updBusy (s : State) : Bool :=
  islFenceRuns s ||
  Isl.all.any (fun i => (getIsl s i).fence ≠ .run && (getIsl s i).cause = .update && ! updStopped s i)
    || engines.any (fun e => (getEng s e).updBy && (getEng s e).updStep ≠ 0)

/-- Fence the next island of the update, or its whole engine. -/
def updFence (i : Isl) (s : State) : State :=
  let s := { s with upd := { s.upd with isl := i.id } }
  match i.eng? with
  | some e =>
    if updEngHard s e then engCmdBegin e 1 false true s
    else apsUpdate (enterQuiesce i false .update s)
  | none => enterQuiesce i (updHard s i) .update s

/-- The last island has resumed: the trial begins, or the rollback is complete. -/
def updFinish (s : State) : State :=
  match s.upd.st with
  | .applying =>
    { s with upd := { s.upd with st := .trial, isl := 0, expired := false, trialEnd := some (now s + 1000000000 * regF s .updCfg .A 0 11 0) } }
  | .rollingBack =>
    raiseF .mgt 0x0E04 s.upd.rollFrom (packData [(8, s.upd.err)]) .updFlags .A 3
      { s with upd := { s.upd with st := .failed, isl := 0 } }
  | _ => s

/-- An island's DSP and datapath tables change with its sections: at the first multiframe boundary from now on for an engine island, and at
once for any other (R543). -/
def changeTables (i : Isl) (staged : Bool) (s : State) : State :=
  if s.upd.sections.any (fun x => x.isl = i.row && x.kind = 2) then
    let frame := i.eng?.map (fun e => 256 * ceilDiv (getEng s e).down.frames 256)
    { s with upd := { s.upd with tabs := s.upd.tabs.filter (fun c => c.isl ≠ i.row) ++ [⟨i.row, staged, frame⟩] } }
  else s

/-- The staged tables of an island are in force: its last change has come, or is one back that has yet to come. -/
def tablesStaged (s : State) (i : Isl) : Bool :=
  match s.upd.tabs.find? (fun c => c.isl = i.row), i.eng? with
  | some c, some e => if c.frame.any (fun f => (getEng s e).down.frames < f) then ! c.staged else c.staged
  | some c, none => c.staged
  | none, _ => false

/-- An island has taken, or given back, its staged sections. -/
def updTaken (i : Isl) (s : State) : State :=
  match s.upd.st with
  | .applying => updIslEvent i (b01 ((getIsl s i).hard)) (setDone i true (changeTables i true s))
  | .rollingBack => setDone i false (changeTables i false s)
  | _ => s

/-- Go on with the islands left: deferred islands and those of a stopped engine pass at once, and the next other one is fenced
when it is in RUN; an engine's islands with it leave the list. -/
def updGo : List Isl → State → State
  | [], s => updFinish { s with upd := { s.upd with todo := [] } }
  | i :: rest, s =>
    if updDeferred s i then
      updGo rest (if s.upd.st = .applying then updIslEvent i 2 s else s)
    else if updStopped s i then updGo rest (updTaken i s)
    else if (getIsl s i).fence ≠ .run then { s with upd := { s.upd with todo := i :: rest } }
    else
      let left := match i.eng? with
        | some e => if updEngHard s e then rest.filter (fun j => j.eng? ≠ some e) else rest
        | none => rest
      updFence i { s with upd := { s.upd with todo := left } }

/-- Take the update further when nothing of it is in progress, and no shutdown has been requested, which is accepted as soon as the fence in
progress has ended (R567, R569). -/
def updKick (s : State) : State := if updFencing s && ! updBusy s && s.bist.req.isNone then updGo s.upd.todo s else s

/-- The update rolls back with a cause: the islands done return in the reverse order; an island in the middle of its fence
resumes with its section in force (R545). -/
def updRoll (cause : Nat) (s : State) : State :=
  updKick { s with upd := { s.upd with
    st := .rollingBack, err := cause, rollFrom := s.upd.isl, trialEnd := none, todo := ((updOrder s).filter (updIsDone s)).reverse } }

/-- An update that can fail in trial is in APPLYING or TRIAL. -/
def updOnTrial (s : State) : Bool := s.upd.st = .applying || s.upd.st = .trial

/-- Roll back when the update is in APPLYING or TRIAL (R545). -/
def updFailed (cause : Nat) (isl : Nat) (s : State) : State :=
  if updOnTrial s then updRoll cause { s with upd := { s.upd with isl := isl } } else s

/-- Number of enabled engines that are FAILED. -/
def failedCount (s : State) : Nat := (engines.filter (fun e => (getEng s e).st = .failed)).length

/-- Run an operation; an engine that becomes FAILED during a trial rolls the update back (R545). -/
def watchFail (f : State → State) (s : State) : State :=
  let t := f s
  if failedCount s < failedCount t then updFailed updTrialFail t.upd.isl t else t

/-! ## The commands of UPD_CTL (R545, R549) -/

/-- A command is refused. -/
def updCmdRefused (s : State) (c : Nat) : Bool :=
  match c with
  | 1 => s.upd.st ≠ .idle
  | 2 => s.upd.st ≠ .verified || hostFence s
      || (s.upd.sections.any (fun x => x.hard) && ! (getReg s .updCfg .A 0).getLsbD 17)
  | 3 => s.upd.st ≠ .trial
  | 4 => ! updOnTrial s
  | 5 => ! stageOpen s
  | _ => true

/-- A host write of UPD_CTL. -/
def writeUpdCtl (v : W32) (s : State) : State × Status :=
  let c := fld v 3 0
  refuseOr ((writeGate s .mgt).worse (if updCmdRefused s c then .errState else .ok)) (fun s =>
    match c with
    | 1 => { s with upd := { s.upd with st := .verifying } }
    | 2 => updKick { s with upd := { s.upd with st := .applying, done := 0, tabs := [], todo := (updOrder s).filter (updHas s) } }
    | 3 => { s with upd := { s.upd with st := .committing, trialEnd := none } }
    | 4 => updRoll updHost s
    | _ => { s with upd := { s.upd with st := .idle, stage := [], marks := [] } }) s

/-- UPD_CMD_VERIFY, UPD_CMD_APPLY, UPD_CMD_COMMIT, UPD_CMD_ROLLBACK and UPD_CMD_CLEAR (R545). -/
def execUpdCmdVerify (s : State) : Out := .next (setStatus (writeUpdCtl 1 s))
def execUpdCmdApply (s : State) : Out := .next (setStatus (writeUpdCtl 2 s))
def execUpdCmdCommit (s : State) : Out := .next (setStatus (writeUpdCtl 3 s))
def execUpdCmdRollback (s : State) : Out := .next (setStatus (writeUpdCtl 4 s))
def execUpdCmdClear (s : State) : Out := .next (setStatus (writeUpdCtl 5 s))

/-- UPD_VERIFIED (R542): the first failing check decides. -/
def execUpdVerified (s : State) : Out :=
  act (powered s && s.upd.st = .verifying) (fun s =>
    let s := stageReads s
    let c := pkgCheck s
    let ver := pkgVer s
    let u := s.upd
    let s := if c = 0 then
        { s with upd := { u with
          st := .verified, err := 0, ver := ver, len := pkgLen s, arb := pkgArb s, done := 0
          arbCommit := pkgNum s 0x11 1 % 2 = 1, sections := pkgTable s, copy := pkgBytes s 0 (pkgLen s) } }
      else { s with upd := { u with st := .failed, err := c } }
    raiseF .mgt 0x0E01 0 (packData [(8, c), (32, ver.toNat)]) .updFlags .A 0 s) s

/-- UPD_TRIAL_EXPIRY (R545): the time of the trial timer has come. -/
def execUpdTrialExpiry (s : State) : Out :=
  act (powered s && s.upd.st = .trial && ! s.upd.expired && s.upd.trialEnd.any (fun t => t ≤ now s)) (fun s =>
    if (getReg s .updCfg .A 0).getLsbD 16 then { s with upd := { s.upd with st := .committing, trialEnd := none } }
    else { s with upd := { s.upd with expired := true, trialEnd := none } }) s

/-- The ARB_FW count that a commit is to reach: ARB_VALUE of a package with ARB_COMMIT, and what a fuse write that failed at an earlier commit
still owes (R547). That a start leaves this in internal flash is the model's (DESIGN CHOICE, unsafe; notes/assumptions/249.md). -/
def arbTarget (s : State) : Nat := max s.flash.arbOwed (if s.upd.arbCommit then s.upd.arb else 0)

/-- The ARB_FW count after a commit, and whether a fuse write failed (R547). -/
def raiseArbFw (fuseOk : Bool) (s : State) : Bool × State :=
  let old := s.fuse.arbFw
  let want := arbTarget s
  if want ≤ old then (false, { s with flash := { s.flash with arbOwed := 0 } })
  else if fuseOk then (false, { s with fuse := { s.fuse with arbFw := want }, flash := { s.flash with arbOwed := 0 } })
  else
    let p := partialCount old want s
    (true, { p.2 with fuse := { p.2.fuse with arbFw := p.1 }, flash := { p.2.flash with arbOwed := want } })

/-- The sections a commit writes: those of the verified copy with its header and section table, and the others in force as the
bank that runs holds them (R84, R546). -/
def bankSections (s : State) : List FwSec :=
  let u := s.upd
  let new := u.sections.map (fun x =>
    ({ isl := x.isl, kind := x.kind, table := u.copy.take (96 + 48 * u.sections.length)
       bytes := (u.copy.drop x.ofs).take x.len } : FwSec))
  let old := if s.boot.bank = 0 then s.flash.bank0 else s.flash.bank1
  new ++ old.filter (fun x => ! u.sections.any (fun y => y.isl = x.isl && y.kind = x.kind))

/-- The bank that is not active takes the firmware and becomes the active one. -/
def writeBank (s : State) : Flash :=
  let f := s.flash
  if f.active = 0 then { f with ver1 := s.upd.ver, bank1 := bankSections s, active := 1 }
  else { f with ver0 := s.upd.ver, bank0 := bankSections s, active := 0 }

/-- UPD_COMMIT (R546, R547): the bank that is not active takes the firmware and is made active, and ARB_FW is raised; when the bank
write fails the update rolls back. -/
def execUpdCommit (flashOk fuseOk : Bool) (s : State) : Out :=
  act (powered s && s.upd.st = .committing) (fun s =>
    if flashOk then
      let old := s.fuse.arbFw
      let s := { s with flash := writeBank s }
      let s := { s with boot := { s.boot with bank := s.flash.active } }
      let r := raiseArbFw fuseOk s
      raiseF .mgt 0x0E03 0 (packData [(32, s.upd.ver.toNat), (8, old), (8, r.2.fuse.arbFw), (8, b01 r.1)]) .updFlags .A 2
        { r.2 with upd := { r.2.upd with st := .idle } }
    else updRoll updFlashWrite { s with upd := { s.upd with isl := 0 } }) s

/-! ## Restarts that bear on the update (R527, R532, R545) -/

/-- UPD_ISL_RESUME (R528): the island, or the four of its engine, return to RUN; an update goes on from there. -/
def execUpdIslResume (i : Isl) (s : State) : Out :=
  actF (inFence s i .resume) (fun s =>
    let g := fenceGroup s i
    let byUpd := (getIsl s i).cause = .update
    let eng := hardEng s i
    let s := runFence i s
    let s := if byUpd then forAll (g.filter (updHas s)) updTaken s else s
    let s := match eng with
      | some e => watchFail (engResumed e) s
      | none => s
    updKick s) s

/-- RESUME_BOUND_EXCEEDED (R527): the island is reset again, with FAULT_N until it resumes; an update rolls back when the
island is being updated, or was, whatever has restarted it (R545). -/
def execResumeBoundExceeded (i : Isl) (s : State) : Out :=
  act ((inFence s i .reset || inFence s i .resume) && ! heldInReset s i) (fun s =>
    let byUpd := (getIsl s i).cause = .update || (fenceGroup s i).any (updIsDone s)
    let s := forAll (fenceGroup s i) (modIsl · (fun x => { x with fence := .reset, overdue := true })) s
    if byUpd then updFailed updResumeFail i.id s else s) s

/-- The SRAM region of an island that a poison restart may take, MGT or an owner of SCHED, and its reader (R461, R471, R532). -/
def poisonRegion : Isl → Option (Nat × Nat)
  | .mgt => some (4, rdPort1)
  | .aTxd | .bTxd => some (5, rdPort0)
  | _ => none

/-- The islands a poison restart may take: those that own banks of their region. -/
def poisonIsl (s : State) (i : Isl) : Bool := (poisonRegion i).any (fun p => regionBanks s i.id p.1 ≠ [])

/-- The read that a poison restart follows: a word of the island's banks, the first known to be bad, reports POISON, and any other that none
is known; the restart writes the structure anew, and the word is good again (R470, R471). -/
def poisonRead (i : Isl) (s : State) : State :=
  match poisonRegion i with
  | none => s
  | some (r, reader) =>
    let l := regionBanks s i.id r
    let d := draw Config.freeNat s
    let w := match s.mem.poisoned.find? (fun p => p.1 = r && (wordBanks s r p.2).any (fun b => b ∈ l)) with
      | some p => p.2
      | none => wordNo (l.getD (d.1 % l.length) 64) (d.1 / l.length % bankWords) (useBanks s r)
    memWritten r w (memUncorr r w reader (memAccess r w reader d.2))

/-- WATCHDOG_RESTART (R532): a soft restart without a request, counted by its cause; a watchdog restart of an updated island rolls
the update back (R545). -/
def execWatchdogRestart (i : Isl) (poison : Bool) (s : State) : Out :=
  act (alive s && i ≠ .aon && (getIsl s i).fence = .run && (! poison || poisonIsl s i)) (fun s =>
    let s := when poison (poisonRead i) s
    let s := count 24 i.row (if poison then 3 else 2) 1 s
    let s := enterQuiesce i false (if poison then .poison else .watchdog) s
    let s := if i.eng?.isSome then apsUpdate s else s
    if ! poison && updIsDone s i then updFailed updTrialFail i.id s else s) s

/-- ENGINE_IMAGE_REREAD_DONE (R108, R536). -/
def execEngineImageRereadDone (e : Eng) (reads : List (List Byte × FlashRead)) (s : State) : Out :=
  actF ((getEng s e).reread) (fun s => updKick (watchFail (rereadDone e reads) s)) s

end Sys2Proof.Machine
end

