-- ==== Sys2Proof/Machine/Bist.lean ====
section
/-! DEFINITION. Orderly shutdown, the self-test suites and their records, and the maker's life-cycle commands (R423, R567 to R579).
-/

namespace Sys2Proof.Machine

/-! ## Tests and suites (R571 to R574) -/

/-- The groups of R573 in their order, with their tests. -/
def testGroups : List (List Nat) :=
  [[0x01, 0x02, 0x03, 0x04], [0x10, 0x11, 0x12], [0x20, 0x21, 0x22], [0x30, 0x31, 0x32], [0x40, 0x41, 0x42, 0x43]]

/-- Signature tests (R572). -/
def isSignature (id : Nat) : Bool :=
  id = 0x02 || id = 0x03 || id = 0x04 || id = 0x10 || id = 0x20 || id = 0x31 || id = 0x43

/-- Suite codes of R576. -/
def suiteCustomer : Nat := 1
def suiteFull : Nat := 2
def suiteQuick : Nat := 3

/-- The suite of an orderly shutdown with self-test (R571). -/
def shutdownSuite (s : State) : Nat :=
  match lcState s with
  | 2 | 3 => suiteCustomer
  | 1 | 4 => suiteFull
  | _ => 0

/-- An entry of a test that was not run. -/
def notRunEntry (suite id : Nat) : TestEntry :=
  { id := id, result := resNotRun, sigMatch := false, cut := false, abandoned := false
    programmed := testCount suite id, committed := 0, detail := 0 }

/-- A suite begins: the skipped tests have their entries, the others are left to run. The tests that the full suite adds are not described
(R572; notes/assumptions/231.md). -/
def beginSuite (suite : Nat) (skip : Nat → Bool) (s : State) : State :=
  let ids := testGroups.flatten
  { s with bist := { s.bist with
      suite := suite, suiteAt := now s, quick := suite = suiteQuick, peak := 0, durMs := 0
      entries := (ids.filter skip).map (notRunEntry suite), todo := ids.filter (fun i => ! skip i) } }

/-- Result of a finished test: the first row of R575 that applies. -/
def testResult (id programmed : Nat) (t : TestResult) : Nat :=
  if t.failure then resFail
  else if t.committed ≠ programmed then resIncomplete
  else if isSignature id && ! t.sigMatch then resFail
  else resPass

/-- A test ends with its entry; in the quick suite a test that is not PASS raises BIST_FAULT (R579). -/
def addEntry (x : TestEntry) (s : State) : State :=
  let s := { s with bist := { s.bist with entries := s.bist.entries ++ [x], todo := s.bist.todo.drop 1 } }
  if s.bist.quick && x.result ≠ resPass then
    raise .mgt 0x0F04 x.id (packData [(8, x.result), (32, x.detail)]) s
  else s

/-- The suite of a shutdown ends (R576, R582). -/
def endSuite (s : State) : State :=
  let s := closeSuite s
  let s := { s with bist := { s.bist with st := 3, phase := 4 } }
  raise .mgt 0x0F02 0 (packData [(8, overallOf s.bist.entries (testSkipped s)), (16, s.bist.durMs), (16, s.bist.peak)]) s

/-- With no test left, a shutdown's suite ends; the quick suite ends with QUICK_SUITE_DONE. -/
def afterTest (s : State) : State := if s.bist.todo = [] && s.bist.st = 2 then endSuite s else s

/-- A suite runs: in phase 3 of a shutdown, or the quick suite of a start. -/
def suiteRuns (s : State) : Bool := s.pwr.emerg = .none && (s.bist.st = 2 || (s.pwr.run = .starting && s.boot.quickRun))

/-- BIST_TEST_DONE (R575). -/
def execBistTestDone (t : TestResult) (s : State) : Out :=
  act (suiteRuns s) (fun s =>
    match s.bist.todo with
    | [] => s
    | id :: _ =>
      let n := testCount s.bist.suite id
      afterTest (addEntry
        { id := id, result := testResult id n t, sigMatch := isSignature id && t.sigMatch, cut := false, abandoned := false
          programmed := n, committed := t.committed % 2 ^ 32, detail := t.detail % 2 ^ 32 } s)) s

/-- BIST_TEST_CUT (R574, R575): the test in progress is cut, and those not begun are not run. Whether a failure had been observed in it, and its
detail, the command does not tell: that is open (notes/assumptions/5.md). -/
def execBistTestCut (committed : Nat) (s : State) : Out :=
  act (suiteRuns s) (fun s =>
    match s.bist.todo with
    | [] => s
    | id :: rest =>
      let f := draw Config.freeBool s
      let d := draw Config.freeNat f.2
      let s := addEntry
        { id := id, result := if f.1 then resFail else resIncomplete, sigMatch := false, cut := true, abandoned := false
          programmed := testCount s.bist.suite id, committed := committed % 2 ^ 32, detail := if f.1 then d.1 % 2 ^ 32 else 0 } d.2
      let s := forAll rest (fun i t => addEntry (notRunEntry t.bist.suite i) t) s
      afterTest (setFlag .bistFlags .A 2 s)) s

/-! ## Orderly shutdown (R567 to R570) -/

/-- The shutdown runs without self-test: by command, or by SHDN_N with PIN_NOTEST (R567). -/
def noTest (s : State) (cause : Nat) : Bool := cause = 2 || (cause = 0 && (getReg s .bistCfg .A 0).getLsbD 0)

/-- A request is accepted (R568 phase 1): no further map, lit engines ramp off, calibration runs are abandoned, and an update ends
without rollback (R569). -/
def acceptShutdown (cause : Nat) (s : State) : State :=
  let suite := if noTest s cause then 0 else shutdownSuite s
  let s := raise .mgt 0x0F01 0 (packData [(8, cause), (8, suite)]) s
  let s := forAll engines (fun e t =>
    modEng e (fun x => { x with mapsStopped := true }) (rampTxOff e (calAbandon e true (calAbandon e false t)))) s
  let s := if updInProgress s then { s with upd := { s.upd with st := .idle, trialEnd := none, todo := [] } } else s
  { s with bist := { s.bist with st := 1, phase := 1, req := none, cause := cause, suite := suite, acceptAt := now s
                                 entries := [], todo := [], quick := false } }

/-- A shutdown is requested after READY: it waits while a fence is in progress (R567). -/
def requestShutdown (cause : Nat) (s : State) : State :=
  if anyFence s then { s with bist := { s.bist with req := some (s.bist.req.getD cause) } } else acceptShutdown cause s

/-- A start is abandoned before READY: a record of kind ABORTED_START, and standby (R81). -/
def abortStart (s : State) : State := keepPowered .standby (writeRec kindAbortedStart 0 resNotRun [] 0 0 s)

/-- The module is on its way to READY, or has stopped on it. -/
def beforeReady (s : State) : Bool := (s.pwr.run = .starting || s.pwr.run = .bootRom) && s.pwr.emerg = .none

/-- A host write of BIST_CTL (R51, R72, R567, R569). Before READY a shutdown command is answered with ERR_STATE under R80 and
abandons the start under R81 (notes/assumptions/153.md). -/
def writeBistCtl (v : W32) (s : State) : State × Status :=
  let c := fld v 15 0
  let cmd := c = 0x5D01 || c = 0x5D02
  if cmd && beforeReady s then
    let t := abortStart s
    ({ t with pwr := { t.pwr with cmdOff := true } }, .errState)
  else
    refuseOr ((writeGate s .mgt).worse (if cmd && s.pwr.emerg = .none then .ok else .errState))
      (requestShutdown (if c = 0x5D01 then 1 else 2)) s

/-- BIST_CTL_SHUTDOWN_TEST and BIST_CTL_SHUTDOWN_NOTEST (R567). -/
def execBistCtlShutdownTest (s : State) : Out := .next (noteFault s (setStatus (writeBistCtl 0x5D01 s)))
def execBistCtlShutdownNotest (s : State) : Out := .next (noteFault s (setStatus (writeBistCtl 0x5D02 s)))

/-- BIST_SHUTDOWN (R567): the fence a request waited for has ended. -/
def execBistShutdown (s : State) : Out :=
  act (inService s && s.bist.req.isSome && ! anyFence s) (fun s => acceptShutdown (s.bist.req.getD 0) s) s

/-- A pending calibration record is written in an orderly shutdown; whether its write fails is a free outcome (R242). -/
def storePending (e : Eng) (rx : Bool) (s : State) : State :=
  if (getCal s e rx).pend then
    let d := draw Config.freeBool s
    storeCalRec e rx d.1 d.2
  else s

/-- SHUTDOWN_STOP_DONE (R568): phase 1 ends with every output dark; pending calibration records and the last event records go to
internal flash. The command does not tell whether a record's write fails: that is open (R242; notes/assumptions/5.md). -/
def execShutdownStopDone (s : State) : Out :=
  act (s.bist.st = 1 && s.bist.phase = 1 && s.pwr.emerg = .none && engines.all (fun e => (getEng s e).down.laser = .dark)) (fun s =>
    let s := forAll engines (fun e t => storePending e true (storePending e false t)) s
    let s := appendAll s
    let s := saveRecords s
    { s with bist := { s.bist with phase := 2 } }) s

/-- SHUTDOWN_RECORDS_SAVED (R568): phase 2 ends; the suite starts, or there is none. -/
def execShutdownRecordsSaved (s : State) : Out :=
  act (s.bist.st = 1 && s.bist.phase = 2 && s.pwr.emerg = .none) (fun s =>
    if s.bist.suite = 0 then { s with bist := { s.bist with st := 3, phase := 4 } }
    else
      let s := beginSuite s.bist.suite (testSkipped s) s
      { s with bist := { s.bist with st := 2, phase := 3 } }) s

/-- SHUTDOWN_RECORD_WRITTEN (R568 phase 4, R576, R577). -/
def execShutdownRecordWritten (s : State) : Out :=
  act (s.bist.st = 3 && s.bist.phase = 4 && s.pwr.emerg = .none) (fun s =>
    let b := s.bist
    let s := if b.suite = 0 then writeRec kindOrderlyNoTest 0 resNotRun [] 0 0 s
      else writeRec kindOrderly b.suite (overallOf b.entries (testSkipped s)) b.entries b.durMs b.peak s
    { s with flash := { s.flash with evValid := true }, bist := { s.bist with phase := 5 } }) s

/-- SHUTDOWN_RAILS_OFF (R568 phase 5, R570): READY falls and the module is in standby. -/
def execShutdownRailsOff (s : State) : Out :=
  actF (s.bist.phase = 5 && s.pwr.emerg = .none) (fun s =>
    let t := keepPowered .standby s
    { t with pwr := { t.pwr with cmdOff := s.bist.cause ≠ 0 } }) s

/-! ## RESET_N and SHDN_N (R81, R504, R569, R570) -/

/-- SHDN_N_ASSERTED (R51, R72, R81, R567, R569). -/
def execShdnNAsserted (s : State) : Out :=
  actF true (fun s =>
    let s := { s with pins := { s.pins with shdnN := false } }
    if s.pwr.emerg ≠ .none then s
    else match s.pwr.run with
      | .starting | .bootRom => abortStart s
      | .ready => if s.bist.st = 0 then requestShutdown 0 s else s
      | .off | .standby | .held => s) s

/-- SHDN_N_RELEASED (R504, R570): SHDN_N has been high for 10 ms, which from standby starts the module; a pin that was high already when the
standby began counts too, unless a command had the module shut down, after which the pin has to rise. -/
def execShdnNReleased (s : State) : Out :=
  actF (! s.pins.shdnN || (s.pwr.run = .standby && ! s.pwr.cmdOff)) (fun s =>
    let s := { s with pins := { s.pins with shdnN := true } }
    if s.pwr.run = .standby && s.pwr.emerg = .none then restart s else s) s

/-- RESET_N_ASSERTED (R72, R81, R504): the module stops with no record; an emergency shutdown goes on. -/
def execResetNAsserted (s : State) : Out :=
  actF true (fun s =>
    let s := { s with pins := { s.pins with resetN := false } }
    if s.pwr.emerg ≠ .none || s.pwr.run = .off then s else keepPowered .held s) s

/-- RESET_N_RELEASED (R72, R77, R483, R504): the address pins are sampled and the start begins; after a THERM_CRIT shutdown a
pulse counts once the case is below 80 °C. -/
def execResetNReleased (adrSel0 adrSel1 : Bool) (caseTemp : Int) (s : State) : Out :=
  actF (! s.pins.resetN) (fun s =>
    let s := { s with pins := { s.pins with resetN := true, adr0 := adrSel0, adr1 := adrSel1 } }
    match s.pwr.run with
    | .held => if s.pwr.emerg = .none then restart s else s
    | .off => { s with pwr := { s.pwr with caseT := caseTemp, critOff := s.pwr.critOff && ! decide (caseTemp < 80 * 16) } }
    | .standby | .starting | .bootRom | .ready => s) s

/-! ## The maker's commands (R423) -/

/-- A request for the maker's debug access or test modes, and its signature (R422). -/
structure MakerReq where
  bytes : List Byte
  sig : List Byte
  deriving DecidableEq, Repr

/-- What a lock closes is open: in MAKER_TEST while the lock is not blown, and in RETURNED, whatever the lock, once the boot ROM has a request
signed under the vendor key (R421, R422). -/
def makerOpen (s : State) (lock : Bool) (req : Option MakerReq) : Bool :=
  (lcState s = 1 && ! lock)
    || (lcState s = 4 && req.any (fun r => Config.ed25519Ok Config.vendorKey r.bytes r.sig))

/-- The maker's debug access and private test modes open, or close, by the life cycle and a request. No row of the table brings a request, so
that in RETURNED they stay closed (notes/assumptions/246.md). -/
def openMaker (req : Option MakerReq) (s : State) : State :=
  { s with boot := { s.boot with debug := makerOpen s s.fuse.debugLock req, maker := makerOpen s s.fuse.testLock req } }
def makerModes (s : State) : State := openMaker none s

/-- MAKER_PROGRAMMING (R423): LC bit 0 is blown. A fuse write may fail, and the state reads from the pattern that results. -/
def execMakerProgramming (s : State) : Out := actF (powered s && lcState s = 0) (fun s => makerModes (blowOpen 1 s)) s

/-- The full self-test passed: the latest record of a full suite is PASS. -/
def fullPassed (s : State) : Bool :=
  match s.flash.recs.find? (fun r => r.crcOk && r.suite = suiteFull) with
  | some r => r.overall = resPass
  | none => false

/-- SIGN_HASH as the maker blows it to the purchaser's order: a free value, 0 where the order names none (R418). The spec does not say when it
is blown; the model takes the ship command (DESIGN CHOICE, unsafe; notes/assumptions/224.md). -/
def orderHash (s : State) : State :=
  let d := draw Config.freeNat s
  { d.2 with fuse := { d.2.fuse with signHash := d.2.fuse.signHash ||| BitVec.ofNat 256 d.1 } }

/-- The two locks are blown, where their fuse writes take. -/
def blowLocks (s : State) : State :=
  let a := draw Config.freeBool s
  let b := draw Config.freeBool a.2
  { b.2 with fuse := { b.2.fuse with debugLock := b.2.fuse.debugLock || a.1, testLock := b.2.fuse.testLock || b.1 } }

/-- MAKER_SHIP_COMMAND (R423): LC bit 1 and the locks are blown. A fuse write may fail, and the state reads from the pattern that results. -/
def execMakerShipCommand (s : State) : Out :=
  actF (powered s && lcState s = 1 && drkOk s && fullPassed s) (fun s =>
    let t := blowLocks (blowOpen 2 (orderHash s))
    makerModes (lcEvent 1 (lcState t) (lcState t ≠ 2 || ! t.fuse.debugLock || ! t.fuse.testLock) t)) s

/-- MAKER_VOID_COMMAND (R423): LC is blown where the writes take, and DRK and SIGN_HASH to all ones. -/
def execMakerVoidCommand (s : State) : Out :=
  actF (powered s && lcState s = 0) (fun s =>
    let t := blowOpen 0xFF s
    makerModes { t with fuse := { t.fuse with drk := BitVec.allOnes 256, signHash := BitVec.allOnes 256 } }) s

end Sys2Proof.Machine
end

