-- ==== Sys2Proof/Machine/Start.lean ====
section
/-! DEFINITION. The start sequence of R77 and the engines from READY to traffic (R77 to R115, R243, R577 to R579). -/

namespace Sys2Proof.Machine

/-- The start runs. -/
def starting (s : State) : Bool := s.pwr.run = .starting && s.pwr.emerg = .none

/-- The module stops in its boot ROM (R84, R86). It reads no image, and drives the NVM pins no longer (DESIGN CHOICE, unsafe;
notes/assumptions/232.md). -/
def stopInRom (s : State) : State :=
  { s with pwr := { s.pwr with run := .bootRom }, boot := { s.boot with phase := 0xF, nvmBusy := false } }

/-- Step 11 begins with the latest of steps 5, 6 and 9 (R77). -/
def step11 (s : State) : State := if s.boot.imgDone && s.boot.cal && s.boot.ctx then beginPhase 11 s else s

/-- The life-cycle states that load firmware, and those that read the image (R86). -/
def loadsFirmware (s : State) : Bool := 1 ≤ lcState s && lcState s ≤ 4
def readsImage (s : State) : Bool := lcState s = 2 || lcState s = 3

/-- The latest record is PASS; a POWER_FAIL record counts as a missing one (BIST_FLAGS.PREV_NOT_PASS, R49). -/
def prevPassed (s : State) : Bool :=
  match s.bist.last with
  | some r => r.kind ≠ kindPowerFail && r.overall = resPass
  | none => false

/-- FUSES_READ (R77 step 2, R86). In a state that reads no image NVM_BUSY falls here (DESIGN CHOICE, unsafe; notes/assumptions/232.md). -/
def execFusesRead (s : State) : Out :=
  actF (starting s && ! s.boot.fuses) (fun s =>
    let s := makerModes { s with boot := { s.boot with fuses := true } }
    if ! loadsFirmware s then stopInRom s
    else
      let s := beginPhase 7 (if prevPassed s then s else setFlag .bistFlags .A 0 s)
      if readsImage s then { s with boot := { s.boot with imgState := 1 } }
      else { s with boot := { s.boot with imgDone := true, nvmBusy := false } }) s

/-- SRAM_INIT_DONE (R77 step 3). -/
def execSramInitDone (s : State) : Out :=
  act (starting s && s.boot.fuses) (fun s => zeroBanks { s with boot := { s.boot with sram := true } }) s

/-- Firmware runs: the Shaker has run its start-up tests, and the hash key of R345 is drawn. -/
def firmwareUp (bank : Nat) (s : State) : State :=
  let s := startSource 3 { s with boot := { s.boot with fw := true, bank := bank }, sec := { s.sec with shakerOk := true } }
  drawHashKey (seedLanes (seedCentral s))

/-- A section of a bank passes under its table: the table's header and descriptors carry the vendor's signature, and the section's descriptor
its hash (R540, R541, R546). -/
def secAuthentic (x : FwSec) : Bool :=
  let n := (x.table.length - 96) / 48
  let at' := fun (o k : Nat) => (x.table.drop o).take k
  Config.ed25519Ok Config.vendorKey (at' 0 0x20 ++ at' 0x60 (48 * n)) (at' 0x20 64)
    && (List.range n).any (fun k =>
      let o := 0x60 + 48 * k
      ((islOfId (beNat (at' o 1))).map (fun i => i.row)) = some x.isl && beNat (at' (o + 1) 1) = x.kind
        && at' (o + 16) 32 = toBytes 32 (Config.sha256 x.bytes).toNat)

/-- The boot ROM finds a bank authentic: `ok` of the maker's sections, and every section that a commit wrote under its own table (R84, R546). -/
def bankAuthentic (s : State) (n : Nat) (ok : Bool) : Bool := ok && (if n = 0 then s.flash.bank0 else s.flash.bank1).all secAuthentic

/-- FIRMWARE_AUTH_DONE (R77 step 4, R84): the active bank, else the other bank with BOOT_FW_FALLBACK, else the boot ROM. The
failing bank's check code is open (notes/assumptions/5.md). -/
def execFirmwareAuthDone (ok0 ok1 : Bool) (s : State) : Out :=
  actF (starting s && s.boot.fuses && ! s.boot.fw) (fun s =>
    let a := s.flash.active
    let okOf := fun (n : Nat) => bankAuthentic s n (if n = 0 then ok0 else ok1)
    if okOf a then firmwareUp a s
    else if okOf (1 - a) then
      let d := draw Config.freeNat s
      firmwareUp (1 - a) (raiseF .aon 0x0301 (1 - a) (packData [(8, d.1)]) .bootFlags .A 6 d.2)
    else stopInRom { s with boot := { s.boot with bootRomFault := true } }) s

/-- A copy is accepted: its image is in force, and its engines wait for READY (R103, R109). -/
def acceptImage (p : CopyPos) (m : Image) (n : Nat) (s : State) : State :=
  let s := acceptedEvent p m n s
  let s := { s with boot := { s.boot with
    img := some m, imgState := if p.second then 3 else 2, imgDone := true, nvmBusy := false, skipped := m.skipped, paired := imgPaired m.recs } }
  step11 (forAll engines (fun e => modEng e (fun x => { x with
    enable := imgEnable m.recs e, st := if imgEnable m.recs e then .waiting else .disabled })) s)

/-- No copy is accepted (R105). -/
def rejectImages (s : State) : State :=
  step11 { s with boot := { s.boot with imgState := if s.boot.magic then 4 else 5, imgDone := true, nvmBusy := false } }

/-- IMAGE_COPY_CHECKED (R102, R103, R105): one read of a copy ends. -/
def execImageCopyChecked (copy : List Byte) (rd : FlashRead) (s : State) : Out :=
  act (starting s && s.boot.imgState = 1) (fun s =>
    let p := copyPos s.boot.attempt
    let n := s.boot.reads + 1
    let magic := beAt copy 0 4 = imgMagic
    let s := { s with boot := { s.boot with reads := n, magic := s.boot.magic || magic } }
    let r := readCopy p.again p.second n copy rd s
    match r.1 with
    | some m => acceptImage p m n r.2.2
    | none => match nextCopy p rd (r.2.1.getD 0) with
      | none => rejectImages r.2.2
      | some q =>
        let t := when q.again (setFlag .bootFlags .A 1) r.2.2
        { t with boot := { t.boot with attempt := q.num } }) s

/-- Load a converter island's calibration: the latest good record, or its factory record with a run due (R85, R243). -/
def loadCal (e : Eng) (rx : Bool) (s : State) : State :=
  let i := calIsl e rx
  match latestCal s i with
  | some r => modCal e rx (fun c => { c with coef := recTable rx r, tLast := recTLast r }) s
  | none =>
    let s := modCal e rx (fun c => { c with coef := [], again := true, trigger := 2 }) s
    raiseF .mgt 0x0304 i.id (packData [(8, b01 (calRecs s i ≠ []))]) .bootFlags .A 3 s

/-- CAL_RECORDS_CHECKED (R77 step 6, R85, R243). -/
def execCalRecordsChecked (s : State) : Out :=
  act (starting s && s.boot.fw && ! s.boot.cal) (fun s =>
    let s := forAll engines (fun e t => loadCal e true (loadCal e false t)) (beginPhase 6 s)
    step11 { s with boot := { s.boot with cal := true } }) s

/-- The quick suite is due (R49, R81, R578). -/
def quickDue (s : State) : Bool :=
  readsImage s && (match s.bist.last with
    | none => true
    | some r => r.kind ≠ kindOrderly || r.overall ≠ resPass)

/-- DRAM_READY (R77 steps 7 to 9). -/
def execDramReady (s : State) : Out :=
  act (starting s && s.boot.fuses && ! s.boot.dram) (fun s =>
    let s := { s with boot := { s.boot with dram := true } }
    if quickDue s then
      beginSuite suiteQuick (fun _ => false) (beginPhase 8 { s with boot := { s.boot with quickRun := true } })
    else beginPhase 9 s) s

/-- Groups of the quick suite with a test that is not PASS, bit 0 for step 1. -/
def failedGroups (es : List TestEntry) : Nat :=
  ((List.range 5).map (fun g => b01 (es.any (fun x => testStep x.id = g + 1 && x.result ≠ resPass)) * 2 ^ g)).sum

/-- QUICK_SUITE_DONE (R578, R579): the QUICK record is written, and a FAIL in an engine's group is kept for READY. -/
def execQuickSuiteDone (s : State) : Out :=
  act (starting s && s.boot.quickRun && ! s.boot.quickDone && s.bist.todo = []) (fun s =>
    let es := s.bist.entries
    let all := overallOf es (fun _ => false)
    let fg := failedGroups es
    let s := closeSuite s
    let s := writeRec kindQuick suiteQuick all es s.bist.durMs s.bist.peak s
    let s := forAll engines (fun e => modEng e (fun x => { x with
      selfFail := es.any (fun y => testEng y.id = some e && y.result = resFail) })) s
    let s := { s with
      boot := { s.boot with quickRun := false, quickDone := true, quickRan := true }
      bist := { s.bist with quick := false, quickFailed := fg, quickOverall := all, quickRec := s.flash.recs.head? } }
    let s := when (fg ≠ 0) (setFlag .bistFlags .A 1) s
    beginPhase 9 (raise .mgt 0x0F03 0 (packData [(8, all), (8, fg)]) s)) s

/-- CONTEXT_INIT_DONE (R77 step 9). -/
def execContextInitDone (s : State) : Out :=
  act (starting s && s.boot.dram && ! s.boot.quickRun && ! s.boot.ctx) (fun s =>
    step11 (beginPhase 10 { s with boot := { s.boot with ctx := true } })) s

/-- DRAM_INIT_DONE (R77 step 10). -/
def execDramInitDone (s : State) : Out :=
  act (powered s && s.boot.ctx) (fun s => { s with boot := { s.boot with dramInit := true } }) s

/-! ## READY (R77 step 11, R109) -/

/-- The records of the accepted image are applied (R78, R100, R104); with none the defaults stand. SETTINGS records that name an engine which the
image leaves disabled are not applied, which the rules leave open (DESIGN CHOICE, unsafe; notes/assumptions/209.md). -/
def applyImage (s : State) : State :=
  match s.boot.img with
  | none => setBanks defaultBank s
  | some m =>
    let s := loadModule m.recs s
    judgeAgain engines m.recs (takeRecs engines true (loadShared pairWord true m.recs) m.recs s)

/-- An engine leaves WAITING at READY (R109, R579). -/
def engAtReady (e : Eng) (x : EngSt) (s : State) : State :=
  if x.st ≠ .waiting then s
  else if x.selfFail then
    let s := engFail e selfTest s
    if x.illegal then engFailEvent e 1 engineValue s else s
  else if x.illegal then engFail e engineValue s
  else engTune e s

/-- DRK is generated in MAKER_TEST, where it is absent; bits that were blown stay blown, and the check bits fit a key that was
blown into blank fuses (R418, R419, R421). It needs bits with prediction resistance, which a failing Shaker does not give (R428, R429). -/
def makeDrk (s : State) : State :=
  if lcState s = 1 && ! drkOk s && s.sec.shakerOk then
    let k := shake true 32 s
    { k.2 with fuse := { k.2.fuse with drk := k.2.fuse.drk ||| keyOf k.1, drkSum := k.2.fuse.drkSum ||| Config.drkCode (keyOf k.1) } }
  else s

/-- Client ports that are enabled begin (R112, R406). -/
def portsAtReady (s : State) : State :=
  forAll (List.range 32) (fun p t => if portEn (portReg t p) then toWaitRef p t else t) s

/-- MODULE_READY (R77 step 11, R105, R577): records applied, STARTED written, READY, and the engines leave WAITING. -/
def execModuleReady (s : State) : Out :=
  actF (starting s && s.boot.sram && s.boot.fw && s.boot.imgDone && s.boot.cal && s.boot.ctx) (fun s =>
    let s := makeDrk (applyImage s)
    let s := writeRec kindStarted 0 resNotRun [] 0 0 s
    let us := now s / 1000
    let s := { s with
      pwr := { s.pwr with run := .ready }
      pins := { s.pins with ready := true }
      boot := { s.boot with readyUs := us % 2 ^ 32, imgRejected := readsImage s && s.boot.img = none } }
    let s := raise .mgt 0x0307 0 (packData [(32, us)]) s
    let s := portsAtReady s
    let s := if s.boot.img.isSome then beginPhase 12 s else s
    forAll engines (fun e => engAtReady e (getEng s e)) s) s

/-! ## Engines (R109, R234) -/

/-- ENGINE_LASERS_LOCKED (R109, R234): the transmit run begins, with the booster off. -/
def execEngineLasersLocked (e : Eng) (s : State) : Out :=
  act (inService s && (getEng s e).st = .tuning) (fun s =>
    let s := modDown e (fun d => { d with sigLock := true, loLock := true }) s
    modCal e false (fun c => { c with st := .due, trigger := 2, again := false }) (modEng e (fun x => { x with st := .calibrating }) s)) s

/-- ENGINE_TUNE_TIMEOUT (R109). -/
def execEngineTuneTimeout (e : Eng) (s : State) : Out :=
  actF (inService s && (getEng s e).st = .tuning) (watchFail (engFail e tuneTimeout)) s

/-- CALIBRATION_DONE (R109, R110, R234): the transmit run has ended. -/
def execCalibrationDone (e : Eng) (s : State) : Out :=
  act (inService s && (getEng s e).st = .calibrating && (getEng s e).calTx.st = .idle && ! (getEng s e).calTx.again)
    (engCalibrated e) s

/-- The conditions of R109 for TRAFFIC_READY. -/
def rampDone (s : State) (e : Eng) : Bool :=
  (getEng s e).st = .ramping && lit s e && grpEn s e 0 && grpEn s e 4
    && (List.range 8).all (fun g => ! grpEn s e g || (getGrp s e g).st = .on) && (getEng s e).squareSent

/-- ENGINE_RAMP_COMPLETE (R109, R111): `fuseOk` tells whether fuses program, should this be the first rise of TRAFFIC_READY. -/
def execEngineRampComplete (e : Eng) (fuseOk : Bool) (s : State) : Out :=
  act (inService s && rampDone s e) (fun s =>
    let s := modEng e (fun x => { x with st := .trafficReady }) s
    let s := raise .mgt 0x0306 e.num (packData [(32, now s / 1000000)]) s
    trafficRise fuseOk (forAll engines engTry (apsUpdate s))) s

/-- ENGINE_START_TIMEOUT (R109). -/
def execEngineStartTimeout (e : Eng) (s : State) : Out :=
  actF (inService s && ((getEng s e).st = .tuning || (getEng s e).st = .calibrating || (getEng s e).st = .ramping))
    (watchFail (engFail e startTimeout)) s

/-! ## BOOT_CTL (R114, R115) -/

/-- A host write of BOOT_CTL: 0xB007 restarts the module as a RESET_N pulse does, which an emergency shutdown ignores (R72, R81). -/
def writeBootCtl (v : W32) (s : State) : State × Status :=
  refuseOr ((writeGate s .mgt).worse (if fld v 15 0 = 0xB007 && ! s.boot.nvmBusy && s.pwr.emerg = .none then .ok else .errState))
    restart s

/-- BOOT_CTL_RESTART (R115). -/
def execBootCtlRestart (v : W32) (s : State) : Out :=
  let p := writeBootCtl v s
  .next (noteFault s (setStatus p))

end Sys2Proof.Machine
end

