-- ==== Sys2Proof/Machine/RegRead.lean ====
section
/-! DEFINITION. What a register reads as: the word that each row of the register tables shows in a state (R75, R114, R152,
R195, R244, R245, R292, R336, R338, R347, R380, R382, R412, R456, R457, R479, R500, R521, R549, R565, R576, R581, R593). -/

namespace Sys2Proof.Machine

/-! ## Helpers -/

/-- A word of fields that may be signed: lowest bit, width and value. -/
def wordOfS (fs : List (Nat × Nat × Int)) : W32 := wordOf (fs.map (fun f => (f.1, toBits f.2.1 f.2.2)))

/-- A 48-bit, 64-bit or longer number's word, counted from the most significant of `n` words. -/
def wordPart (n v k : Nat) : W32 := BitVec.ofNat 32 (v / 2 ^ (32 * (n - 1 - k)))

/-- A measured quantity, as the read under way finds it (notes/assumptions/7.md). -/
def sensed (s : State) (r : Reg) (e : Eng) (i w : Nat) : W32 := Config.measured s.free (r.addr e i w)

/-- A value the maker stored in the part (R240; notes/assumptions/11.md). -/
def made (r : Reg) (e : Eng) (i : Nat) : Int := Config.factory (r.addr e i 0)

/-! ## Identity and life cycle (R486, R500, R456) -/

/-- ADDR_SEL_1 and ADDR_SEL_0 as sampled (R483). -/
def addrSel (s : State) : Nat := 2 * b01 s.pins.adr1 + b01 s.pins.adr0

/-- The static address (R483). -/
def staticAddr (s : State) : BitVec 7 := BitVec.ofNat 7 (0x48 + addrSel s)

/-- The 48-bit provisioned ID (R486). -/
def provisionedId (s : State) : Nat := 0x2D4C * 2 ^ 33 + 0x4832 * 2 ^ 16 + addrSel s * 2 ^ 12

def readId (s : State) (r : Reg) (i : Nat) : W32 :=
  match r with
  | .idPart => 0x4832
  | .idVariant => wordOf [(0, s.fuse.order.toNat), (8, s.fuse.stepping.toNat)]
  | .idPidHi => BitVec.ofNat 32 (provisionedId s / 2 ^ 32)
  | .idPidLo => BitVec.ofNat 32 (provisionedId s)
  | .idSerial => wordPart 4 s.fuse.serial.toNat i
  | .idMacHi => wordOf [(0, s.fuse.mac.toNat / 2 ^ 32), (24, 64)]
  | .idMacLo => BitVec.ofNat 32 s.fuse.mac.toNat
  | .idFw => fwVersion s
  | .idLc => wordOf [(0, lcState s), (4, b01 s.fuse.debugLock), (5, b01 s.fuse.testLock), (6, b01 (s.fuse.signHash ≠ 0)), (7, b01 (drkOk s))]
  | _ => 0

/-! ## Power (R75) -/

/-- PWR_FEED_x: the voltage last measured, and the current as the read finds it (notes/assumptions/7.md); a reversed feed draws none
(R38). -/
def readFeed (s : State) (r : Reg) (x : FeedSt) : W32 :=
  wordOfS [(0, 16, x.volt), (16, 16, if x.volt < 0 then 0 else (sensed s r .A 0 0).toNat % 65536)]

/-- SOURCE, HOLDUP_RDY and CAP_ACTIVE as AON shows them: what PWR reports, or reported last while it is fenced (R605). -/
def pwrReport (s : State) : Nat × Bool × Bool := s.pwr.reported.getD (feedSource s, s.pwr.holdup, s.pwr.capActive)

def readPwr (s : State) (r : Reg) (i : Nat) : W32 :=
  match r with
  | .pwrFeedA => readFeed s r s.pwr.feedA
  | .pwrFeedB => readFeed s r s.pwr.feedB
  | .pwrStatus => wordOf [(0, b01 (feedOk s.pwr.feedA)), (1, b01 (feedOk s.pwr.feedB)), (2, b01 s.pwr.feedA.low), (3, b01 s.pwr.feedB.low), (4, b01 (pwrReport s).2.1), (5, (pwrReport s).1), (7, b01 (pwrReport s).2.2)]
  | .pwrTempCase => wordOfS [(0, 16, s.pwr.caseT)]
  | .pwrIn | .pwrTempLsrA | .pwrTempLsrB => wordOf [(0, (sensed s r .A 0 0).toNat % 65536)]
  | .pwrIsl => match islOfId i with
    | none => 0
    | some k =>
      let x := getIsl s k
      let own := droops k
      wordOfS [(0, 12, clockMhz k x), (12, 3, if own then heldStep x else 0), (15, 1, b01 (own && x.stretching)), (16, 16, (sensed s r .A i 0).toNat % 65536)]
  | _ => 0

/-! ## Start-up (R114) -/

/-- BOOT_STATUS.PHASE: the step, or 0xF in the boot ROM. -/
def bootPhase (s : State) : Nat := if s.pwr.run = .bootRom then 15 else s.boot.phase

def readBoot (s : State) (r : Reg) (i : Nat) : W32 :=
  let b := s.boot
  match r with
  | .bootStatus => wordOf [(0, bootPhase s), (4, b.imgState), (8, b01 b.traffic), (9, engStateCode s.engA.st), (12, engStateCode s.engB.st), (16, b01 b.nvmBusy), (17, b01 b.differs), (18, b01 b.quickRan)]
  | .bootImgErr => wordOf [(0, b.err % 256), (16, b.errRec % 65536)]
  | .bootImgErr2 => wordOf [(0, b.err2 % 256), (16, b.err2Rec % 65536)]
  | .bootEngErr => wordOf [(0, b.engErrA % 256), (8, b.engErrB % 256)]
  | .bootImgVer => match b.img with
    | some m => m.version
    | none => 0
  | .bootImgLen => match b.img with
    | some m => BitVec.ofNat 32 (m.len % 2 ^ 23)
    | none => 0
  | .bootArb => wordOf [(0, match b.img with
      | some m => m.arb % 128
      | none => 0), (8, s.fuse.arbCfg % 128)]
  | .bootNvmMode => wordOf [(0, b.width % 4), (8, b.div % 256)]
  | .bootImgSkipped => wordOf [(0, b.skipped % 65536)]
  | .bootTime => BitVec.ofNat 32 b.readyUs
  | .bootTimeTr => wordOf [(0, min b.trMs 65535)]
  | .bootImgDigest => match b.img with
    | some m => wordPart 8 m.digest.toNat i
    | none => 0
  | _ => 0

/-! ## Flows and timebase (R380, R382) -/

def readFlowCtl (s : State) (r : Reg) (i : Nat) : W32 :=
  match r with
  | .flowCount => BitVec.ofNat 32 (flowCount s)
  | .flowCache => wordOf [(0, (s.flow.cache.map (fun p => p.2.length)).sum), (18, s.flow.missPm)]
  | .flowPortCnt => BitVec.ofNat 32 (portFlows s i)
  | _ => 0

def readTod (s : State) (r : Reg) : W32 :=
  match r with
  | .todStatus => wordOf [(0, s.tod.st), (2, s.tod.source), (4, s.tod.portState % 16), (8, clockClass s % 256)]
  | .todNowHi => BitVec.ofNat 32 (s.clk.sec / 2 ^ 32)
  | .todNowLo => BitVec.ofNat 32 s.clk.sec
  | .todNowNs => BitVec.ofNat 32 s.clk.ns
  | .todOffset => BitVec.ofInt 32 s.tod.ofs
  | _ => 0

/-! ## Management and events (R521) -/

/-- MGT_WSTAT. -/
def wstat (s : State) : W32 := wordOf [(0, s.mgt.wCode.code), (8, s.mgt.wWords), (16, s.mgt.wSeq)]

def readMgt (s : State) (r : Reg) (i : Nat) : W32 :=
  match r with
  | .mgtWstat => wstat s
  | .mgtI3c => wordOf [(0, (s.mgt.da.getD 0).toNat), (7, b01 s.mgt.da.isSome), (8, (staticAddr s).toNat), (16, b01 s.mgt.ibiEn), (24, min s.mgt.nacks 3)]
  | .mgtLimits => wordOf [(0, s.mgt.mwl), (16, s.mgt.mrl)]
  | .mgtFault => BitVec.ofNat 32 (faultBits s)
  | .mgtAlert => wordOf [(0, b01 (alertLow s)), (1, b01 (alertNoDa s)), (2, b01 (alertIbiOff s)), (3, b01 (alertNacked s))]
  | .evtHeadHi => BitVec.ofNat 32 (s.mgt.head / 2 ^ 32)
  | .evtHeadLo => BitVec.ofNat 32 s.mgt.head
  | .evtIbiHead => BitVec.ofNat 32 s.mgt.ibiHead
  | .evtPrev => wordOf [(0, s.mgt.prev.length), (15, b01 s.mgt.prevValid)]
  | .evtEpoch => wordOf [(0, s.clk.epoch % 256)]
  | .evtLost => match islOfId i with
    | some k => BitVec.ofNat 32 (getIsl s k).lost
    | none => 0
  | _ => 0

/-! ## Downstream (R152, R593) -/

/-- Group state codes of R143. -/
def grpCode : GrpState → Nat
  | .off => 0 | .waiting => 1 | .rampOn => 2 | .settling => 3 | .on => 4 | .rampOff => 5

/-- DS_TX.ROLE: 0 while the laser is dark, 2 for a standby, 1 for a working or Independent engine. -/
def dsRole (x : EngSt) : Nat := if x.st = .standby then 2 else if x.down.laser = .dark then 0 else 1

/-- DS_OPT_TX (R588, R590, R593): 0 until the transmitter has sent light; the power as it is measured, at most −40 dBm while dark; the reflected
ratio as it is computed every 100 µs, and with the booster off the one judged last (notes/assumptions/7.md). -/
def optTx (m : Nat) (d : Down) : W32 :=
  let p : Int := if d.laser = .dark then -4000 - (m % 28769 : Nat) else (m % 65536 : Nat)
  if ! d.seen then 0 else wordOf [(0, toBits 16 p), (16, if d.laser = .dark then toBits 16 d.refl else m / 65536)]

/-- DS_FRAME gives the counts of the frame that FRAME_LAUNCH launches next: between two of them no frame is being launched, and the rule
does not say which of the two it reads (DESIGN CHOICE, unsafe; notes/assumptions/192.md). -/
def readDs (s : State) (r : Reg) (e : Eng) (i : Nat) : W32 :=
  let x := getEng s e
  match r with
  | .dsFrame => wordOf [(0, fcOf s e), (8, mfcOf s e)]
  | .dsGrpState => wordOf ((List.range 8).map (fun g => (3 * g, grpCode (getGrp s e g).st)))
  | .dsTx => wordOf [(0, b01 (x.down.laser = .lit)), (1, dsRole x)]
  | .dsAis => wordOf ((List.range 32).map (fun n => (n, b01 ((tget 0 x.down.hdr n).getLsbD 95))))
  | .dsRdi => wordOf [(0, b01 x.down.rdiAllWas), (16, x.down.rdiWas.length)]
  | .dsSc => wordOf [(0, (getScSt s e i).ptr % 4096), (16, grpFmt s e (i / 4))]
  | .dsOptTx => optTx (sensed s r e 0 0).toNat x.down
  | .dsOptState => wordOf [(0, x.down.apr), (4, b01 x.down.sigLock), (5, b01 x.down.loLock)]
  | _ => 0

/-! ## Upstream front end and burst receivers (R244, R195, R191) -/

def readUs (s : State) (r : Reg) (e : Eng) (i w : Nat) : W32 :=
  let g := fun (k : Nat) => tget 0 (getEng s e).feGain k
  match r with
  | .usFeGainX => wordOfS [(0, 16, g 0), (16, 16, g 1)]
  | .usFeGainY => wordOfS [(0, 16, g 2), (16, 16, g 3)]
  | .usGd => BitVec.ofNat 32 (groupDelay s e)
  | .usScDly => wordOfS [(0, 10, fixedDelay i), (11, 5, branchOf i), (16, 8, skewTrim e i)]
  | .usScNco => BitVec.ofInt 32 (mixerInc i)
  | .usDet =>
    let d := tget 0 (getEng s e).det i
    let x := tget {} (getEng s e).rx i
    match w with
    | 0 => wordOf [(0, fld d 15 0), (16, fld d 31 16)]
    | 1 => wordOfS [(0, 16, x.noise), (16, 16, if rxUp s e then (x.sym (topSym x - 1)).env else 0)]
    | _ => wordOf [(0, fld d 47 32), (16, fld d 63 48)]
  | _ => 0

/-- State codes of R185. -/
def brxCode : BrxState → Nat
  | .closed => 0 | .armed => 1 | .spec => 2 | .header => 3 | .payload => 4 | .waitFall => 5

/-- The eight words of a burst record (R191). -/
def burstWord (r : BurstRec) (w : Nat) : W32 :=
  match w with
  | 0 => wordOf [(20, r.leaf), (15, r.sc), (14, r.eng), (12, r.kind), (10, r.fmt), (6, r.outcome), (5, b01 r.short), (4, b01 r.seeded), (2, r.falseRun), (1, b01 r.wrongWindow), (0, b01 r.hdrValid)]
  | 1 => wordOf [(16, r.ssn), (8, r.blocks), (0, r.failed)]
  | 2 => BitVec.ofNat 32 r.arrSec
  | 3 => BitVec.ofNat 32 r.arrNs
  | 4 => wordOfS [(16, 16, r.arrFrac), (0, 16, r.power)]
  | 5 => BitVec.ofInt 32 r.fofs
  | 6 => BitVec.ofNat 32 r.corrected
  | 7 => wordOf [(24, r.syncErrs), (8, r.snr % 65536)]
  | _ => 0

def readBrx (s : State) (r : Reg) (e : Eng) (i w : Nat) : W32 :=
  let x := getBrx s e i
  match r with
  | .brxSc => wordOf [(0, brxCode x.st), (4, min x.falseRun 3), (6, lagNow x % 2048), (17, b01 (gateNow x))]
  | .brxLast => burstWord x.last w
  | _ => 0

/-! ## Framing and protection (R292) -/

/-- Alignment codes of R272. -/
def alignCode : Align → Nat
  | .unknown => 0 | .search => 1 | .confirm1 => 2 | .confirm2 => 3 | .aligned => 4

/-- The one-hot of a reported defect. -/
def defBits : Option Nat → Nat
  | some d => 2 ^ d
  | none => 0

/-- Leaves of an engine that report defect `d`. -/
def leavesWith (s : State) (e : Eng) (d : Nat) : Nat :=
  ((getEng s e).lrx.filter (fun p => leafRep s e p.1 = some d)).length

/-- A leaf's accepted APS field asks for the other engine with SD (R282). -/
def leafSd (e : Eng) (x : LeafRx) : Bool := x.apsAcc / 4096 = 9 && ((x.apsAcc / 2048 % 2 = 1) = decide (e.other.num = 1))

/-- Whole seconds left, rounded up, until a module time. -/
def secsLeft (s : State) (t : Nat) : Nat := ceilDiv (t - now s) 1000000000

/-- Words of block 0x07 (R264, R272, R282, R285, R292). While NEXT_SSN is unknown its field reads 0 (DESIGN CHOICE, unsafe;
notes/assumptions/243.md). -/
def readFrm (s : State) (r : Reg) (e : Eng) (i w : Nat) : W32 :=
  let x := getEng s e
  match r with
  | .frmDefStatus => wordOf [(0, defBits (engRep s e)), (8, b01 x.sfHeld), (9, b01 x.sdHeld), (10, b01 x.sfSymp)]
  | .frmDefLeaves => if i = 0 then wordOf [(0, leavesWith s e 0), (16, leavesWith s e 1)] else wordOf [(0, leavesWith s e 2), (16, leavesWith s e 3)]
  | .apsStatus => wordOf [(0, b01 (s.aps.work = some .B)), (1, s.aps.st), (4, s.aps.req), (8, s.aps.source), (12, b01 s.engA.sfHeld), (13, b01 s.engB.sfHeld), (14, b01 s.engA.sdHeld), (15, b01 s.engB.sdHeld), (16, if s.aps.st = 1 then min 1023 (secsLeft s s.aps.wtrEnd) else 0)]
  | .apsOfs => BitVec.ofInt 32 s.aps.ofs
  | .apsDup => BitVec.ofInt 32 s.aps.dup
  | .apsLast => BitVec.ofNat 32 s.aps.lastUs
  | .frmSset =>
    let y := getSset s e i
    if w < 8 then tget 0 (writtenWords y) w else wordOf [(31, b01 y.pend), (0, y.effFn % 65536)]
  | .frmLeaf =>
    let y := getRx s e i
    wordOf [(0, defBits (leafRep s e i)), (4, alignCode y.align), (7, b01 (leafSd e y)), (16, y.next.getD 0 % 65536)]
  | .frmCtr =>
    let y := getCtr s e i
    match w with
    | 0 => y.w0
    | 1 => y.profile
    | _ => wordOf [(31, b01 y.pend), (0, y.effFn % 65536)]
  | _ => 0

/-! ## Scheduler and leaf table (R336, R338) -/

/-- Leaf-table state codes of R311. -/
def leafCode : LeafState → Nat
  | .free => 0 | .assigned => 1 | .registering => 2 | .active => 3 | .lost => 4 | .gone => 5

def readSched (s : State) (r : Reg) (e : Eng) : W32 :=
  match r with
  | .schedZ => BitVec.ofNat 32 (zOf s e)
  | .schedEqdDisc => BitVec.ofInt 32 (eqdDisc s e)
  | .schedSqLen => BitVec.ofNat 32 (sqLen s e)
  | .schedTurn => BitVec.ofNat 32 (turnOf s e)
  | .schedLeaves => wordOf [(0, (leavesIn s e (fun x => x.st = .active)).length), (16, registeredCount s e)]
  | _ => 0

/-- The 256 bytes of a seed (R226). -/
def seedWord (up : Nat) (x : Seed) (k : Nat) : W32 :=
  if k < 60 then x.taps.getD k 0
  else if k = 60 then BitVec.ofInt 32 x.fofs
  else if k = 61 then wordOfS [(16, 16, x.power), (8, 8, x.sc)]
  else if k = 62 then BitVec.ofNat 32 ((up + x.time) / 1000 / 2 ^ 32)
  else BitVec.ofNat 32 ((up + x.time) / 1000)

/-- The word of a leaf-table entry at an offset. -/
def readLeaf (s : State) (a : LeafAt) : W32 :=
  let x := getLeaf s a.eng a.leaf.val
  if 0x100 ≤ a.ofs then (match x.seed with
    | some q => seedWord s.clk.up q ((a.ofs - 0x100) / 4)
    | none => 0)
  else if 0x40 ≤ a.ofs then tget 0 x.grps ((a.ofs - 0x40) / 4)
  else match a.ofs / 4 with
    | 0 => wordOf [(0, leafCode x.st), (4, b01 x.pin), (5, b01 x.rerange), (8, x.cause)]
    | 1 | 2 | 3 | 4 => wordPart 4 x.serial.toNat (a.ofs / 4 - 1)
    | 5 => BitVec.ofInt 32 x.eqd
    | 6 => BitVec.ofInt 32 x.rtd
    | 7 => wordOfS [(0, 16, x.launch), (16, 16, x.rxPow)]
    | 8 => BitVec.ofNat 32 x.seen
    | 9 => wordOf [(0, (shareOf s a.eng a.leaf.val).fmt), (4, (shareOf s a.eng a.leaf.val).scMax), (16, x.qreport % 65536)]
    | 10 => wordOf [(0, x.caps % 65536), (16, x.k % 256)]
    | _ => 0

/-- The offsets of the leaf table's registers. -/
def leafDefined (o : Nat) : Bool := o < 0x30 || (0x40 ≤ o && o < 0x60) || 0x100 ≤ o

/-! ## Calibration (R245) -/

/-- Run state codes of R237. -/
def calCode : CalState → Nat
  | .idle => 0 | .due => 1 | .collect => 2 | .step => 3

def readCal (s : State) (r : Reg) (e : Eng) (i w : Nat) : W32 :=
  let rx := (getEng s e).calRx
  let tx := (getEng s e).calTx
  let cr := coefNow s e true
  let ct := coefNow s e false
  match r with
  | .calStatus => wordOf [(0, calCode rx.st), (4, calCode tx.st), (8, rx.iter % 16), (12, tx.iter % 16), (16, b01 (getEng s e).scBusy), (17, b01 rx.partialRun)]
  | .calTlast => wordOfS [(0, 16, rx.tLast), (16, 16, tx.tLast)]
  | .calFeDly => wordOfS [(0, 22, feDelay e)]
  | .calRec => wordOf [(0, b01 rx.pend), (1, b01 tx.pend), (16, min 65535 (rx.writes + tx.writes))]
  | .calIq => if w = 0 then wordOfS [(0, 16, cr (768 + 3 * i)), (16, 16, cr (769 + 3 * i))] else wordOfS [(0, 16, cr (770 + 3 * i))]
  | .calTx => wordOfS [(0, 16, ct (2 * i) / coefUnits false (2 * i)), (16, 16, ct (2 * i + 1))]
  | .calSc => wordOfS [(0, 16, ct (txPre i)), (16, 16, cr (rxPreset i))]
  | .calIlv => wordOfS [(0, 16, cr (3 * i + 1)), (16, 8, cr (3 * i)), (24, 8, cr (3 * i + 2))]
  | _ => 0

/-! ## Client lanes (R412) -/

/-- Port state codes of R406. -/
def portCode : PortState → Nat
  | .disabled => 0 | .waitRef => 1 | .training => 2 | .align => 3 | .up => 4 | .test => 5

/-- The model knows whether a lane has signal and clock: no enabled port holds it (notes/assumptions/226.md), its port is UP, or it has
trained. In every other state of the port they are what the lane meets. -/
def laneSeen (s : State) (k : Nat) : Bool :=
  match portOfLane s k with
  | none => true
  | some p => match (getPort s p).st with
    | .up => true
    | .align => trains s p
    | .disabled | .waitRef | .training | .test => false

/-- Words of the client lanes (R392, R406, R412). Whether the host sends Remote Fault to an UP port, and the signal and clock of a lane that
are not known, are open (notes/assumptions/5.md). -/
def readCln (s : State) (r : Reg) (i : Nat) : W32 :=
  match r with
  | .clnStatus => wordOfS [(0, 1, b01 s.cln.refOk), (16, 16, s.cln.ppm)]
  | .clnPortSt =>
    let x := getPort s i
    wordOf [(0, portCode x.st), (4, portType s i), (8, b01 (sendsRf s i)), (9, if x.st = .up then (sensed s r .A i 0).toNat % 2 else 0), (10, b01 x.hiSer), (11, b01 x.anDone)]
  | .clnLaneSt =>
    let m := (sensed s r .A i 0).toNat
    let x := getLane s i
    wordOf [(0, if laneSeen s i then b01 x.signal else m % 2), (1, if laneSeen s i then b01 x.cdr else m / 2 % 2), (2, b01 x.preTx), (3, b01 x.preRx), (4, b01 x.prbs), (16, x.snr % 65536)]
  | _ => 0

/-! ## Security (R457) -/

/-- Key slot codes of R434. -/
def slotCode : SlotState → Nat
  | .empty => 0 | .one => 1 | .two => 2 | .erasing => 3

/-- KIND of a slot: a leaf's downstream or upstream key, or a group key. -/
def slotKind (k : Nat) : Nat := if k < 8192 then 0 else if k < 16384 then 1 else 2

/-- IC of a slot: the encryption counter, or the last value accepted upstream. -/
def slotIc (s : State) (k : Nat) : Nat := if slotKind k = 1 then (getSlot s k).cur.ctr - 1 else (getSlot s k).cur.ctr

def readSec (s : State) (r : Reg) (i w : Nat) : W32 :=
  match r with
  | .secStatus => wordOf [(0, b01 s.sec.shakerOk), (8, (s.leaves.filter (fun p => p.2.exch.running)).length), (16, (s.sec.slots.filter (fun p => p.2.st ≠ .empty)).length)]
  | .secDevPub => wordAt (devPub s) (4 * i)
  | .secKeyhash => wordPart 8 s.fuse.signHash.toNat i
  | .secAnchor => if s.sec.anchor = [] then 0 else wordAt (sha s.sec.anchor) 0
  | .secSlot => wordOf [(0, slotCode (getSlot s i).st), (4, slotKind i), (8, (getSlot s i).gen % 2 ^ 24)]
  | .secSlotIc => wordPart 2 (slotIc s i % 2 ^ 62) w
  | .secLeaf =>
    let x := (getLeaf s (if i < 4096 then .A else .B) (i % 4096)).exch
    wordOf [(0, x.reg), (8, x.cause), (16, b01 x.viaInt), (20, x.epochDs % 16), (24, x.epochUs % 16)]
  | _ => 0

/-! ## Memories (R479) -/

def readMem (s : State) (r : Reg) (i : Nat) : W32 :=
  match r with
  | .memStatus => wordOf [(0, b01 s.boot.dram), (1, b01 s.boot.ctx), (2, b01 s.boot.dramInit), (8, match s.mem.bgt with
      | some p => p.1
      | none => 0), (14, b01 s.mem.bgt.isSome), (15, b01 s.mem.move.isSome)]
  | .memMoveSt =>
    if s.mem.move.isSome then BitVec.ofNat 32 ((Config.measured s.free 0x70000014).toNat % (bankWords + 1))
    else BitVec.ofNat 32 (s.mem.moveWords % 2 ^ 15)
  | .memEccAddr => wordOf [(0, s.mem.eccAddr % 2 ^ 28), (28, s.mem.eccRegion % 16)]
  | .memBank => bankWord s i
  | .memLap => BitVec.ofNat 32 (tget 0 s.mem.lap i)
  | _ => 0

/-! ## Tally, update, self-test (R565, R549, R581) -/

def readTally (s : State) (r : Reg) (i : Nat) : W32 :=
  let k := i + 1
  match r with
  | .tallyStatus => BitVec.ofNat 32 s.tally.second
  | .tallySet => wordOf [(0, tallyObjects k), (20, tallyN k)]
  | .tallyMode => BitVec.ofNat 32 (tget (modeDefault k) s.tally.modeReg k)
  | _ => 0

/-- Update state codes of R545, and fence codes of R528. -/
def updCode : UpdState → Nat
  | .idle => 0 | .verifying => 1 | .verified => 2 | .applying => 3 | .trial => 4 | .committing => 5 | .rollingBack => 6 | .failed => 7
def fenceCode : Fence → Nat
  | .run => 0 | .quiesce => 1 | .drain => 2 | .fenced => 3 | .reset => 4 | .resume => 5

def readUpd (s : State) (r : Reg) (i : Nat) : W32 :=
  let u := s.upd
  match r with
  | .updStatus => wordOf [(0, updCode u.st), (8, u.err), (16, u.isl), (24, match u.trialEnd with
      | some t => min 255 (ceilDiv (secsLeft s t) 16)
      | none => 0)]
  | .updPkgVer => u.ver
  | .updPkgLen => BitVec.ofNat 32 (u.len % 2 ^ 28)
  | .updSect => BitVec.ofNat 32 (islMask (updHas s))
  | .updHard => BitVec.ofNat 32 (islMask (updHard s))
  | .updDone => BitVec.ofNat 32 u.done
  | .updEngSt => wordOf [(0, s.engA.updStep), (4, s.engB.updStep), (8, b01 s.engA.stopped), (9, b01 s.engB.stopped)]
  | .updIsl => match islOfId i with
    | some k => wordOf [(0, fenceCode (getIsl s k).fence), (3, b01 (getIsl s k).hard), (8, (getIsl s k).incarn)]
    | none => 0
  | .updStale => match islOfId i with
    | some k => BitVec.ofNat 32 (getIsl s k).stale
    | none => 0
  | _ => 0

/-- The bytes of a self-test record: header, entries and CRC-32C (R576). -/
def recBytes (r : TestRec) : List Byte :=
  let head := toBytes 1 r.kind ++ toBytes 1 r.suite ++ toBytes 1 r.overall ++ toBytes 1 r.entries.length
    ++ toBytes 4 r.seq ++ toBytes 6 r.sec ++ toBytes 4 r.ns ++ toBytes 1 r.lc ++ toBytes 1 0 ++ toBytes 4 r.fw.toNat
    ++ toBytes 4 r.durMs ++ toBytes 2 r.peak ++ toBytes 2 0
  let entry := fun (x : TestEntry) => toBytes 1 x.id ++ toBytes 1 x.result
    ++ toBytes 1 (b01 x.sigMatch + 2 * b01 x.cut + 4 * b01 x.abandoned) ++ toBytes 1 0
    ++ toBytes 4 x.programmed ++ toBytes 4 x.committed ++ toBytes 4 x.detail
  let body := head ++ r.entries.flatMap entry
  body ++ toBytes 4 (crc32c body)

/-- Word `k` of a record that may be absent; bytes beyond a record read 0. -/
def recWord (r : Option TestRec) (k : Nat) : W32 :=
  match r with
  | some x => BitVec.ofNat 32 (beNat ((recBytes x ++ [0, 0, 0, 0]).drop (4 * k) |>.take 4))
  | none => 0

def readBist (s : State) (r : Reg) (i : Nat) : W32 :=
  let b := s.bist
  let id := if b.st = 2 then b.todo.headD 0 else 0
  match r with
  | .bistStatus => wordOf [(0, b.st), (4, if b.st = 2 then testStep id else 0), (8, id), (16, if b.st = 0 then 0 else min 65535 ((now s - b.acceptAt) / 1000000))]
  | .bistLast => match b.last with
    | some x => wordOf [(0, x.kind), (8, x.suite), (12, x.overall), (15, 1)]
    | none => 0
  | .bistQuick => wordOf [(0, b01 s.boot.quickRan), (4, b.quickOverall), (8, b.quickFailed % 32)]
  | .bistPrevRec => recWord b.last i
  | .bistQuickRec => recWord b.quickRec i
  | _ => 0

/-! ## Any register -/

/-- What a word of a row that is neither a setting, a flag word nor a re-set count reads as; write-only words read zeros (R9). -/
def readLive (s : State) (a : RegAt) : W32 :=
  match a.reg with
  | .idPart | .idVariant | .idPidHi | .idPidLo | .idSerial | .idMacHi | .idMacLo | .idFw | .idLc => readId s a.reg a.idx
  | .pwrFeedA | .pwrFeedB | .pwrIn | .pwrStatus | .pwrTempCase | .pwrTempLsrA | .pwrTempLsrB | .pwrIsl => readPwr s a.reg a.idx
  | .bootStatus | .bootImgErr | .bootImgErr2 | .bootEngErr | .bootImgVer | .bootImgLen | .bootArb | .bootNvmMode
  | .bootImgSkipped | .bootTime | .bootTimeTr | .bootImgDigest => readBoot s a.reg a.idx
  | .flowCount | .flowCache | .flowPortCnt => readFlowCtl s a.reg a.idx
  | .todStatus | .todNowHi | .todNowLo | .todNowNs | .todOffset => readTod s a.reg
  | .mgtWstat | .mgtI3c | .mgtLimits | .mgtFault | .mgtAlert | .evtHeadHi | .evtHeadLo | .evtIbiHead | .evtPrev | .evtEpoch
  | .evtLost => readMgt s a.reg a.idx
  | .dsFrame | .dsGrpState | .dsTx | .dsAis | .dsRdi | .dsSc | .dsOptTx | .dsOptState => readDs s a.reg a.eng a.idx
  | .usFeGainX | .usFeGainY | .usGd | .usScDly | .usScNco | .usDet => readUs s a.reg a.eng a.idx a.word
  | .brxSc | .brxLast => readBrx s a.reg a.eng a.idx a.word
  | .frmDefStatus | .frmDefLeaves | .apsStatus | .apsOfs | .apsDup | .apsLast | .frmSset | .frmLeaf | .frmCtr =>
    readFrm s a.reg a.eng a.idx a.word
  | .schedZ | .schedEqdDisc | .schedSqLen | .schedTurn | .schedLeaves => readSched s a.reg a.eng
  | .calStatus | .calTlast | .calFeDly | .calRec | .calIq | .calTx | .calSc | .calIlv => readCal s a.reg a.eng a.idx a.word
  | .clnStatus | .clnPortSt | .clnLaneSt => readCln s a.reg a.idx
  | .secStatus | .secDevPub | .secKeyhash | .secAnchor | .secSlot | .secSlotIc | .secLeaf => readSec s a.reg a.idx a.word
  | .memStatus | .memMoveSt | .memEccAddr | .memBank | .memLap => readMem s a.reg a.idx
  | .tallyStatus | .tallySet | .tallyMode => readTally s a.reg a.idx
  | .updStatus | .updPkgVer | .updPkgLen | .updSect | .updHard | .updDone | .updEngSt | .updIsl | .updStale => readUpd s a.reg a.idx
  | .bistStatus | .bistLast | .bistQuick | .bistPrevRec | .bistQuickRec => readBist s a.reg a.idx
  | _ => 0

/-- The present value of a register word. -/
def readReg (s : State) (a : RegAt) : W32 :=
  match a.reg.row.cls with
  | .setting => if a.reg = .mgtIbi then getReg s .mgtIbi .A 0 ||| 8 else getReg s a.reg a.eng a.idx
  | .flags _ => getFlags s (flagAddr s a.reg a.eng)
  | .rsc => rscWord s (flagAddr s a.reg a.eng - 4) 32 a.idx
  | .wo => 0
  | .ro | .own => readLive s a

end Sys2Proof.Machine
end

