-- ==== Sys2Proof/Machine/Registers.lean ====
section
/-! DEFINITION. Words of the address map: where each window lies, what a word there reads as, what a read does besides, and what
a host write of the word does (R9, R10, R376, R490 to R499, R502, R518 to R520, R539, R561 to R563). -/

namespace Sys2Proof.Machine

/-! ## The windows (R497) -/

/-- First and last address of each window. -/
def windows : List (Nat × Nat) :=
  [(0x00000000, 0x00FFFFFF), (0x01000000, 0x01FFFFFF), (0x02000000, 0x02FFFFFF), (0x03000000, 0x03FFFFFF),
   (0x04000000, 0x04FFFFFF), (0x05000000, 0x0500FFFF), (0x05010000, 0x0502FFFF), (0x10000000, 0x10FFFFFF),
   (0x11000000, 0x11FFFFFF), (0x12000000, 0x12FFFFFF), (0x13000000, 0x13FFFFFF), (0x14000000, 0x14FFFFFF),
   (0x15000000, 0x15FFFFFF), (0x20000000, 0x20FFFFFF), (0x21000000, 0x21FFFFFF), (0x22000000, 0x22FFFFFF),
   (0x23000000, 0x23FFFFFF), (0x24000000, 0x24FFFFFF), (0x25000000, 0x25FFFFFF), (0x30000000, 0x301FFFFF),
   (0x31000000, 0x311FFFFF), (0x40000000, 0x4FFFFFFF), (0x50000000, 0x50FFFFFF), (0x60000000, 0x60FFFFFF),
   (0x70000000, 0x70FFFFFF), (0x74000000, 0x77FFFFFF), (0x78000000, 0x7BFFFFFF), (0x80000000, 0x8FFFFFFF),
   (0x90000000, 0x9FFFFFFF), (0xA0000000, 0xAFFFFFFF), (0xB0000000, 0xB0FFFFFF)]

/-- Last address of the window an address lies in. -/
def windowEnd (a : Nat) : Option Nat := (windows.find? (fun w => w.1 ≤ a && a ≤ w.2)).map (fun w => w.2)

/-- Windows in which ADDR and LEN need not be multiples of 4: scratchpad, staging and flow contexts (R493). -/
def byteWindow (a : Nat) : Bool :=
  (0x74000000 ≤ a && a < 0x78000000) || (stageBase ≤ a && a < 0xB0000000) || (0x40000000 ≤ a && a < 0x50000000)

/-! ## The words -/

/-- A defined word of the map. -/
inductive Place where
  | reg (a : RegAt)
  | leaf (a : LeafAt)
  /-- Word `w` of flow context `f`. -/
  | flow (f w : Nat)
  /-- Word `w` of a Tally cell, of a summary cell, or of a total. -/
  | cell (c : CellRef) (w : Nat)
  | sum (k i w : Nat)
  | total (k i w : Nat)
  /-- Word of the event ring, and of the records of the last shutdown. -/
  | ring (n : Nat)
  | prev (n : Nat)
  /-- Four bytes of the scratchpad or of the staging window, by offset. -/
  | scratch (o : Nat)
  | stage (o : Nat)
  /-- 32-bit part `k` of the SRAM window. -/
  | sram (b k : Nat)
  deriving DecidableEq, Repr

/-- The Tally word at an address (R561, R563). -/
def tallyPlace (a : Nat) : Option Place :=
  if 0x90010000 ≤ a ∧ a < 0x90012000 then
    let k := (a - 0x90010000) / 256
    let i := (a - 0x90010000) % 256 / 16
    if i < tallyN k then some (.sum k i (a % 16 / 4)) else none
  else if 0x90020000 ≤ a ∧ a < 0x90022000 then
    let k := (a - 0x90020000) / 256
    let i := (a - 0x90020000) % 256 / 8
    if i < tallyN k then some (.total k i (a % 8 / 4)) else none
  else match cellAt? a with
    | some c => some (.cell c (a % 16 / 4))
    | none => none

/-- The defined word at an address that is a multiple of 4. -/
def place (a : Nat) : Option Place :=
  if 0x40000000 ≤ a ∧ a < 0x50000000 then some (.flow ((a - 0x40000000) / 256) (a % 256 / 4))
  else if 0x80000000 ≤ a ∧ a < 0x90000000 then some (.ring ((a - 0x80000000) / 4))
  else if 0x05010000 ≤ a ∧ a < 0x05030000 then some (.prev ((a - 0x05010000) / 4))
  else if 0x74000000 ≤ a ∧ a < 0x78000000 then some (.scratch (a - 0x74000000))
  else if 0x78000000 ≤ a ∧ a < 0x7C000000 then some (.sram ((a - 0x78000000) / 0x100000) ((a - 0x78000000) % 0x100000 / 4))
  else if stageBase ≤ a ∧ a < 0xB0000000 then some (.stage (a - stageBase))
  else if 0x30000000 ≤ a ∧ a < 0x40000000 then (match leafAt? a with
    | some l => if leafDefined l.ofs then some (.leaf l) else none
    | none => none)
  else match regAt? a with
    | some r => some (.reg r)
    | none => if 0x90000000 ≤ a ∧ a < 0xA0000000 then tallyPlace a else none

/-- What the fence of the island that owns a word makes of an access (R499, R531; notes/assumptions/10.md). -/
def Place.fence (s : State) : Place → Status
  | .reg a => regFence s a.reg a.eng
  | .leaf a => fenceStatus s a.eng.txd
  | .flow _ _ => fenceStatus s .flow
  | .cell _ _ | .sum _ _ _ | .total _ _ _ | .ring _ | .prev _ | .stage _ => fenceStatus s .mgt
  | .scratch _ | .sram _ _ => fenceStatus s .dmem

/-- The island that MGT asks for a word. -/
def Place.home : Place → Isl
  | .reg a => a.reg.owner a.eng
  | .leaf a => a.eng.txd
  | .flow _ _ => .flow
  | .cell _ _ | .sum _ _ _ | .total _ _ _ | .ring _ | .prev _ | .stage _ => .mgt
  | .scratch _ | .sram _ _ => .dmem

/-- A word lies in DRAM that has been written since power good: no other is read (R82). -/
def Place.written (s : State) : Place → Bool
  | .ring _ => regionReady s 12
  | .stage _ => regionReady s 11
  | .flow _ _ => regionReady s 8
  | .reg _ | .leaf _ | .cell _ _ | .sum _ _ _ | .total _ _ _ | .prev _ | .scratch _ | .sram _ _ => true

/-- The engine in whose window a word lies (R498). -/
def Place.engine : Place → Option Eng
  | .reg a => match a.reg.row.scope with
    | .module => none
    | .engine | .onlyA | .onlyB => some a.eng
  | .leaf _ | .flow _ _ | .cell _ _ | .sum _ _ _ | .total _ _ _ | .ring _ | .prev _ | .stage _ | .scratch _ | .sram _ _ => none

/-- A word of the window of a DISABLED engine, which reads zeros (R498). -/
def muted (s : State) (p : Place) : Bool :=
  match p.engine with
  | some e => (getEng s e).st = .disabled
  | none => false

/-- A register of the ID_ or BOOT_ blocks (R80). -/
def Place.isId : Place → Bool
  | .reg a => isIdAddr (a.reg.addr a.eng 0 0)
  | _ => false
def Place.isBoot : Place → Bool
  | .reg a => isBootAddr (a.reg.addr a.eng 0 0)
  | _ => false

/-- What a read of a word is answered with: the module's state, then the fence of the owner (R80, R490, R499); its data is not fetched before
the module has written the region it lies in (R82, R77; notes/assumptions/197.md). -/
def readGate (s : State) (p : Place) : Status :=
  ((moduleStatus s false p.isId p.isBoot).worse (if muted s p then .ok else p.fence s)).worse (if p.written s then .ok else .busy)

/-! ## Words as they read -/

/-- The 32 bytes of an event record (R511). -/
def evtBytes (r : EvtRec) : List Byte :=
  toBytes 1 r.isl ++ toBytes 2 r.code ++ toBytes 1 r.epoch ++ toBytes 4 r.seq ++ toBytes 6 r.sec ++ toBytes 4 r.ns
    ++ toBytes 4 r.obj ++ toBytes 10 r.data.toNat

/-- The words that the module keeps in a flow context (R347). -/
def flowKept (s : State) (x : Flow) (w : Nat) : W32 :=
  let pair := fun (n : Nat) => wordPart 2 n (w % 2)
  match w / 2 with
  | 6 => if w = 12 then BitVec.ofNat 32 x.keySlot else BitVec.ofInt 32 x.tc
  | 7 => if w = 14 then BitVec.ofInt 32 x.tp else BitVec.ofNat 32 (tUpdOf s x)
  | 8 => if w = 16 then BitVec.ofNat 32 x.fsn else BitVec.ofNat 32 x.moveFsn
  | 9 => if w = 18 then wordOf [(31, b01 x.moveActive), (30, x.oldEng), (0, x.oldCid)] else BitVec.ofNat 32 x.lastSec
  | 10 => pair x.pkts
  | 11 => pair x.bytes
  | 12 => pair x.dropRed
  | 13 => pair x.dropYel
  | 14 => pair x.dropQfull
  | 15 => pair x.dropDram
  | 16 => pair x.dropCtr
  | 17 => pair x.dropFrame
  | _ => 0

/-- A word of a flow context. -/
def readFlow (s : State) (x : Flow) (w : Nat) : W32 := if w < 12 then flowWord x w else flowKept s x w

/-- A word of a cell: value, second and flags (R561). -/
def cellWord (s : State) (v fl w : Nat) : W32 :=
  match w with
  | 0 | 1 => wordPart 2 v w
  | 2 => BitVec.ofNat 32 s.tally.second
  | _ => BitVec.ofNat 32 fl

/-- Four bytes of the scratchpad: bytes that no write has set are open (R472). -/
def scratchWord (s : State) (o : Nat) : W32 :=
  BitVec.ofNat 32 (beNat ((List.range 4).map (fun i => (tget none s.mem.scratch (o + i)).getD (Config.freeByte (s.free + i)))))

/-- A move is copying to a bank (R466). -/
def moveFills (s : State) (b : Nat) : Bool :=
  match s.mem.move with
  | some m => m.2 = b
  | none => false

/-- Four bytes of a bucket of the key index: its entries, at most four, in a layout that is the module's own; one without entries holds the
zeros of the start (R345, R472; notes/assumptions/247.md). -/
def bucketPart (s : State) (bucket k : Nat) : W32 :=
  let l := bucketFlows s bucket
  if l = [] then 0 else Config.bucketWord (l.map (fun f => let x := getFlow s f; (flowKtype x, x.key, f))) k

/-- Four bytes of a read of the SRAM window. A bank before the start's write and one to which a move copies are open at each read; so are those
of MGT and SCHED, which the module's own programs write when they like; the key index holds its entries, and any other bank the
contents that the last write to it left (R461, R466, R472; notes/assumptions/247.md). -/
def sramWord (s : State) (b k : Nat) : W32 :=
  let use := bankUse (bankWord s b)
  if ! s.boot.sram || moveFills s b || use = 4 || use = 5 then Config.measured s.free (0x78000000 + 0x100000 * b + 4 * k)
  else if use = 1 then bucketPart s (wordNo b (k / 16) (useBanks s 1)) (k % 16)
  else match tget 0 s.mem.sram b with
    | 0 => 0
    | n + 1 => Config.sramWord (n + 1) k

/-- The present value of a word. A ring slot that no record has reached is open. -/
def readPlace (s : State) (p : Place) : W32 :=
  if muted s p then 0
  else match p with
    | .reg a => readReg s a
    | .leaf a => readLeaf s a
    | .flow f w => readFlow s (getFlow s f) w
    | .cell c w => cellWord s (cellValue s c.set c.obj c.idx) (cellFlags s c.set c.obj c.idx) w
    | .sum k i w => cellWord s (summaryValue s k i) (summaryFlags s k i) w
    | .total k i w => wordPart 2 (tget 0 s.tally.totals (16 * k + i)) w
    | .ring n => match tget none s.mgt.ring (n / 8) with
      | some r => wordAt (evtBytes r) (4 * (n % 8))
      | none => Config.measured s.free (0x80000000 + 4 * n)
    | .prev n => match s.mgt.prev[n / 8]? with
      | some r => wordAt (evtBytes r) (4 * (n % 8))
      | none => 0
    | .scratch o => scratchWord s o
    | .stage o => BitVec.ofNat 32 (pkgNum s o 4)
    | .sram b k => sramWord s b k

/-! ## What a read does besides (R193, R350, R382, R457, R494, R508) -/

/-- The host collects the pending EVENT (R508). -/
def collectEvent (s : State) : State :=
  let m := s.mgt
  { s with mgt := { m with ev := { m.ev with pending := false, requested := false, retry := false }, evCrit := false, evCount := 0
                           nacks := if m.ev.pending then 0 else m.nacks } }

/-- The host collects the pending FAULT (R508). -/
def collectFault (s : State) : State :=
  let m := s.mgt
  { s with mgt := { m with fl := { m.fl with pending := false, requested := false, retry := false }
                           nacks := if m.fl.pending then 0 else m.nacks } }

/-- A read of BRX_LAST word 0 latches the record; each other word is released from the latch by its first read. -/
def readLast (e : Eng) (i w : Nat) (s : State) : W32 × State :=
  let k := 32 * e.num + i
  let set := fun (x : Option (BurstRec × List Nat)) => { s with mgt := { s.mgt with brxLat := tset none s.mgt.brxLat k x } }
  let now' := (getBrx s e i).last
  if w = 0 then (burstWord now' 0, set (some (now', [1, 2, 3, 4, 5, 6, 7])))
  else match tget none s.mgt.brxLat k with
    | some (r, l) =>
      if w ∈ l then (burstWord r w, set (if l = [w] then none else some (r, l.filter (fun x => x ≠ w))))
      else (burstWord now' w, s)
    | none => (burstWord now' w, s)

/-- A read of the high word of SEC_SLOT_IC latches the low word, which its first read releases. -/
def readIc (k w : Nat) (s : State) : W32 × State :=
  let set := fun (x : Option Nat) => { s with sec := { s.sec with icLat := tset none s.sec.icLat k x } }
  let v := slotIc s k % 2 ^ 62
  if w = 0 then (wordPart 2 v 0, set (some (v % 2 ^ 32)))
  else match tget none s.sec.icLat k with
    | some low => (BitVec.ofNat 32 low, set none)
    | none => (wordPart 2 v 1, s)

/-- A word of the TOD_NOW group. -/
def readNow (r : Reg) (s : State) : W32 × State :=
  match r with
  | .todNowHi => (readTod s .todNowHi, latchTodNow s)
  | .todNowLo => match s.tod.latLo with
    | some v => (BitVec.ofNat 32 v, { s with tod := { s.tod with latLo := none } })
    | none => (readTod s .todNowLo, s)
  | _ => match s.tod.latNs with
    | some v => (BitVec.ofNat 32 v, { s with tod := { s.tod with latNs := none } })
    | none => (readTod s .todNowNs, s)

/-- EVT_HEAD_HI latches EVT_HEAD_LO; a read of EVT_HEAD_LO releases the latch and collects a pending EVENT. -/
def readHead (hi : Bool) (s : State) : W32 × State :=
  if hi then (readMgt s .evtHeadHi 0, { s with mgt := { s.mgt with headLat := some (s.mgt.head % 2 ^ 32) } })
  else
    let t := collectEvent { s with mgt := { s.mgt with headLat := none } }
    (match s.mgt.headLat with
     | some v => BitVec.ofNat 32 v
     | none => readMgt s .evtHeadLo 0, t)

/-- A register word as the fetch of a read takes it. -/
def fetchReg (a : RegAt) (s : State) : W32 × State :=
  match a.reg with
  | .brxLast => readLast a.eng a.idx a.word s
  | .secSlotIc => readIc a.idx a.word s
  | .todNowHi | .todNowLo | .todNowNs => readNow a.reg s
  | .evtHeadHi => readHead true s
  | .evtHeadLo => readHead false s
  | .mgtFault => (readReg s a, collectFault s)
  | _ => (readReg s a, s)

/-- A word as the fetch of a read takes it; each read draws afresh. -/
def fetchPlace (p : Place) (s : State) : W32 × State :=
  let s := { s with free := s.free + 4 }
  if muted s p then (0, s)
  else match p with
    | .reg a => fetchReg a s
    | _ => (readPlace s p, s)

/-! ## Host writes of a word (R9, R10, R492) -/

/-- A word holds a writable field (R9). -/
def writableReg (a : RegAt) : Bool :=
  match a.reg.row.cls with
  | .ro | .rsc => false
  | .wo | .flags _ => true
  | .setting => a.reg.row.wmask ≠ 0
  | .own => match a.reg with
    | .frmSset => a.word < 8
    | .frmCtr => a.word < 2
    | .tallyMode | .updIsl => true
    | _ => false

def writable : Place → Bool
  | .reg a => writableReg a
  | .leaf a => a.ofs = 0 || (4 ≤ a.ofs && a.ofs ≤ 0x10) || a.ofs = 0x2C || (0x40 ≤ a.ofs && a.ofs < 0x60)
  | .flow _ w => w < 12
  | .scratch _ | .stage _ => true
  | .cell _ _ | .sum _ _ _ | .total _ _ _ | .ring _ | .prev _ | .sram _ _ => false

/-- The gate of a register word: an engine's window is refused while the engine is DISABLED (R498). -/
def regGate (s : State) (a : RegAt) : Status :=
  let own := match a.reg.row.scope with
    | .module => writeGate s (a.reg.owner a.eng)
    | .engine | .onlyA | .onlyB => engWriteGate s a.eng (a.reg.owner a.eng)
  own.worse (regFence s a.reg a.eng)

/-- MEM_BGT.EN 0 releases the bank the tester has borrowed (R479), and a change of MODE gives the lanes of a
group power or takes it (R385). -/
def afterSetting (a : RegAt) (v : W32) (s : State) : State :=
  match a.reg with
  | .memBgt => if v.getLsbD 0 then s else { s with mem := { s.mem with bgt := none } }
  | .clnGrp => enterMode a.idx (fld v 1 0) s
  | _ => s

/-- A host write of a stored setting. -/
def writeSetting (a : RegAt) (v : W32) (s : State) : State × Status :=
  match a.reg with
  | .dsGrpEn => writeGrpEn a.eng v s
  | .dsGrpFmt => writeGrpFmt a.eng v s
  | .clnPort => writeClnPort a.idx v s
  | .clnLane => writeClnLane a.idx v s
  | _ =>
    let w := mergeMask (getReg s a.reg a.eng a.idx) v a.reg.row.wmask
    refuseOr ((regGate s a).worse (if settingRefused s a w then .errState else .ok)) (fun t =>
      when (w ≠ getReg s a.reg a.eng a.idx || a.reg ≠ .clnGrp) (afterSetting a w) (storeSetting a w t)) s

/-- A host write of TALLY_MODE_k, which takes effect at the next second boundary (R566). -/
def writeTallyMode (k : Nat) (v : W32) (s : State) : State × Status :=
  let w := v &&& 0x7FFF
  refuseOr ((writeGate s .mgt).worse (if tallyModeBad k w then .errState else .ok)) (fun t =>
    { t with tally := { t.tally with modeReg := tset (modeDefault k) t.tally.modeReg k w.toNat } }) s

/-- A host write of a command or of a word whose owner checks it. -/
def writeOwn (a : RegAt) (v : W32) (s : State) : State × Status :=
  match a.reg with
  | .bootCtl => writeBootCtl v s
  | .todSetHi => writeTodSetHi v s
  | .todSetLo => writeTodSetLo v s
  | .apsCmd => writeApsCmd v s
  | .calCtl => writeCalCtl a.eng v s
  | .secKeyCmd => writeKeyCmd v s
  | .secProvHash => writeProvHash a.idx v s
  | .secProvCmd => writeProvCmd v s
  | .secLcCmd => writeLcCmd v s
  | .memMove => writeMemMove v s
  | .tallyCtl => writeTallyCtl v s
  | .tallyMode => writeTallyMode (a.idx + 1) v s
  | .updCtl => writeUpdCtl v s
  | .updEngCtl => writeEngCtl v s
  | .updIsl => match islOfId a.idx with
    | some i => writeIslCmd i v s
    | none => (s, .errAddr)
  | .bistCtl => writeBistCtl v s
  | .frmSset => writeSset a.eng a.idx a.word v s
  | .frmCtr => if a.word = 0 then writeCtr0 a.eng a.idx v s else writeCtr1 a.eng a.idx v s
  | _ => (s, .errAccess)

/-- A host write of a register word, with the flags that hardware sets in the same cycle (R9, R502). -/
def writeReg (a : RegAt) (v setNow : W32) (s : State) : State × Status :=
  if writableReg a then
    match a.reg.row.cls with
    | .flags n => refuseOr (regGate s a) (w1cWrite (flagAddr s a.reg a.eng) n v setNow) s
    | .setting => writeSetting a v s
    | .wo | .own => writeOwn a v s
    | .ro | .rsc => (s, .errAccess)
  else (s, .errAccess)

/-- A host write of a leaf-table word (R338, R339). -/
def writeLeaf (a : LeafAt) (v : W32) (s : State) : State × Status :=
  if a.ofs = 0 then writeLeafState a.eng a.leaf v s
  else if a.ofs = 0x2C then writeLeafCtl a.eng a.leaf v s
  else if 0x40 ≤ a.ofs ∧ a.ofs < 0x60 then writeLeafGrp a.eng a.leaf ((a.ofs - 0x40) / 4) v s
  else if 4 ≤ a.ofs ∧ a.ofs ≤ 0x10 then writeLeafSerial a.eng a.leaf (Fin.ofNat 4 (a.ofs / 4 - 1)) v s
  else (s, .errAccess)

/-- A host write of one word. Whether a key finds its place in the key index is open (R345). -/
def writePlace (p : Place) (v : W32) (s : State) : State × Status :=
  match p with
  | .reg a => writeReg a v 0 s
  | .leaf a => writeLeaf a v s
  | .flow f w => if w < 12 then writeFlow f w v s else (s, .errAccess)
  | .scratch o => writeScratch (scratchBase + o) (wordBytes v) false s
  | .stage o => writeStage o (wordBytes v) s
  | .cell _ _ | .sum _ _ _ | .total _ _ _ | .ring _ | .prev _ | .sram _ _ => (s, .errAccess)

/-- A host write of a word at an address: a misaligned access is refused, and so is an address with no defined word (R490). -/
def writeAt (adr : Nat) (v : W32) (s : State) : State × Status :=
  match place (4 * (adr / 4)) with
  | none => (s, .errAddr)
  | some p => if adr % 4 ≠ 0 then (s, .errAccess) else writePlace p v s

/-- REGISTER_WRITE (R10, R492). -/
def execRegisterWrite (adr v : W32) (s : State) : Out :=
  let p := writeAt adr.toNat v s
  .next (setStatus (noteFault s p.1, p.2))

/-- FLAG_W1C_WRITE (R9, R502): the bits of `setNow` are the flags that hardware sets in the cycle of the write; a refused write
clears nothing, and those flags are set all the same. -/
def execFlagW1cWrite (adr v setNow : W32) (s : State) : Out :=
  match regAt? adr.toNat with
  | none => .next (setStatus (s, .errAddr))
  | some a => match a.reg.row.cls with
    | .flags n =>
      let p := writeReg a v setNow s
      .next (setStatus (if p.2 = .ok then p else (w1cWrite (flagAddr s a.reg a.eng) n 0 setNow s, p.2)))
    | .ro | .wo | .setting | .rsc | .own => .next (setStatus (s, .errAccess))

/-! ## Reads of single words -/

/-- The fetch of a word reaches it: its read is not refused. -/
def readsOk (s : State) (p : Place) : Bool := readGate s p = .ok

/-- A read of one word: its value is `got`. -/
def readOne (p : Place) (s : State) : Out :=
  act (readsOk s p) (fun s =>
    let r := fetchPlace p s
    { r.2 with got := r.1 }) s

/-- BRX_LAST_READ_LATCH (R193, R494). -/
def execBrxLastReadLatch (e : Eng) (sc : Sc) (s : State) : Out := readOne (.reg ⟨.brxLast, e, sc.val, 0⟩) s

/-- SEC_SLOT_IC_HI_READ (R457, R494). -/
def execSecSlotIcHiRead (k : KeySlotIx) (s : State) : Out := readOne (.reg ⟨.secSlotIc, .A, k.val, 0⟩) s

/-- EVT_HEAD_HI_READ (R521, R494). -/
def execEvtHeadHiRead (s : State) : Out := readOne (.reg ⟨.evtHeadHi, .A, 0, 0⟩) s

/-- EVT_HEAD_LO_READ (R494, R508). -/
def execEvtHeadLoRead (s : State) : Out := readOne (.reg ⟨.evtHeadLo, .A, 0, 0⟩) s

/-- MGT_FAULT_READ (R505, R508). -/
def execMgtFaultRead (s : State) : Out := readOne (.reg ⟨.mgtFault, .A, 0, 0⟩) s

end Sys2Proof.Machine
end

