-- ==== Sys2Proof/Machine/Mgt.lean ====
section
/-! DEFINITION. The I3C target: private transfers, common command codes, in-band interrupts and the way of event records to the
ring (R482 to R496, R506 to R509, R517). -/

namespace Sys2Proof.Machine

/-! ## When the target answers (R484, R485) -/

/-- The target answers addresses: the fuses are read, and MGT is not FENCED, in RESET or in RESUME. -/
def targetUp (s : State) : Bool :=
  (s.pwr.run = .starting || s.pwr.run = .bootRom || s.pwr.run = .ready) && s.boot.fuses && ! mgtDown s

/-- The target answers its dynamic address. -/
def addressed (s : State) : Bool := targetUp s && s.mgt.da.isSome

/-- What every private transfer is answered with while MGT is in QUIESCE or DRAIN (R485, R531). -/
def mgtBusy (s : State) : Status := if (getIsl s .mgt).fence = .run then .ok else .retry

def modMgt (f : Mgt → Mgt) (s : State) : State := { s with mgt := f s.mgt }

/-- Raise a management event with its flag, at most once per object per second (R523); the flag is set each time. -/
def mgtEvent (code obj : Nat) (data : BitVec 80) (b : Nat) (s : State) : State :=
  setFlag .mgtFlags .A b (oncePerSec code obj (raise .mgt code obj data) s)

/-- MGT_PROTO_ERR (R523): 0 SDR parity, 1 HDR-DDR CRC, 2 unknown command, 3 length mismatch, 4 over MWL; GETSTATUS reports it once (R487). -/
def protoErr (kind : Nat) (s : State) : State :=
  modMgt (fun m => { m with protoErr := true }) (mgtEvent 0x0D05 0 (packData [(8, kind)]) 2 s)

/-! ## Private writes (R488, R490, R492, R495) -/

/-- LEN of a transfer: 0x00 means 256 (R488). -/
def lenOf (n : Nat) : Nat := if n = 0 then 256 else n

/-- Addresses of the words that a span touches inside its window. -/
def spanWords (adr len last : Nat) : List Nat :=
  let a := 4 * (adr / 4)
  let z := min (adr + len) (last + 1)
  (List.range (ceilDiv (z - a) 4)).map (fun i => a + 4 * i)

/-- What a write of the word at an address is refused for before any word is applied (R9, R376, R490). -/
def wordFault (a : Nat) : Status :=
  match place a with
  | none => .errAddr
  | some p => if writable p then .ok else .errAccess

/-- The worst of a list of statuses. -/
def worst (l : List Status) : Status := l.foldl Status.worse .ok

/-- The checks of a whole write transfer (R492). -/
def writeCheck (s : State) (adr len : Nat) (data : List Byte) : Status :=
  match windowEnd adr with
  | none => .errAddr
  | some last =>
    let big := last < adr + len - 1 || data.length ≠ len || s.mgt.mwl < 6 + data.length
    let odd := (! byteWindow adr || (0x40000000 ≤ adr && adr < 0x50000000)) && (adr % 4 ≠ 0 || len % 4 ≠ 0)
    worst ([if big then .errRange else .ok, if odd then .errAccess else .ok, mgtBusy s]
      ++ (spanWords adr len last).map wordFault)

/-- Apply the words of a transfer in ascending order, and stop at the first that is refused: the words applied and the status. -/
def applyWords : Nat → Nat → List Byte → Nat → State → State × Nat × Status
  | 0, _, _, n, s => (s, n, .ok)
  | fuel + 1, adr, data, n, s =>
    if data = [] then (s, n, .ok)
    else
      let r := writeAt adr (wordAt data 0) s
      if r.2 = .ok then applyWords fuel (adr + 4) (data.drop 4) (n + 1) r.1 else (r.1, n, r.2)

/-- Apply a checked transfer: the scratchpad and the staging window take it as bytes, every other window word by word. -/
def applyWrite (adr : Nat) (data : List Byte) (s : State) : State × Nat × Status :=
  let n := ceilDiv data.length 4
  let all := fun (r : State × Status) => (r.1, if r.2 = .ok then n else 0, r.2)
  if 0x74000000 ≤ adr ∧ adr < 0x78000000 then all (writeScratch adr data false s)
  else if stageBase ≤ adr ∧ adr < 0xB0000000 then all (writeStage (adr - stageBase) data s)
  else applyWords (n + 1) adr data 0 s

/-- Store MGT_WSTAT; the next private read returns it (R489). -/
def noteWrite (c : Status) (n : Nat) (s : State) : State :=
  modMgt (fun m => { m with wCode := c, wWords := n, wSeq := (m.wSeq + 1) % 2 ^ 16, lastWrite := true, badCmd := false, hdr := false }) s

/-- A write transfer, received whole. One that starts the module again leaves MGT_WSTAT and the pending read as a start does (R489, R521). -/
def privateWrite (adr len : Nat) (data : List Byte) (s : State) : State :=
  let s := if s.mgt.mwl < 6 + data.length then protoErr 4 s else if data.length ≠ len then protoErr 3 s else s
  let c := writeCheck s adr len data
  if c = .ok then (let r := applyWrite adr data s; if r.1.boot.fuses then noteWrite r.2.2 r.2.1 r.1 else r.1) else noteWrite c 0 s

/-- I3C_PRIVATE_WRITE (R490, R492, R496): a damaged transfer is discarded whole, and one with an unknown command byte has its private read
answered with ERR_ACCESS (notes/assumptions/201.md). -/
def execI3cPrivateWrite (adr : W32) (len : Nat) (data : WriteXfer) (s : State) : Out :=
  actF (addressed s) (fun s =>
    match data.fault with
    | .none => privateWrite adr.toNat (lenOf len) data.bytes s
    | .damaged => modMgt (fun m => { m with hdr := false }) (protoErr (b01 s.mgt.hdr) s)
    | .command => modMgt (fun m => { m with badCmd := true, hdr := false }) (protoErr 2 s)) s

/-! ## Read set-up and fetch (R488 to R491, R494) -/

/-- The places of a span, none where no register is defined (R493). -/
def spanPlaces (adr len last : Nat) : List (Option Place) := (spanWords adr len last).map place

/-- The requests that MGT makes of the islands that hold the words of a read (R24). -/
def askSpan (s : State) (adr len : Nat) : List BridgeReq :=
  match windowEnd adr with
  | none => []
  | some last =>
    ((((spanPlaces adr len last).filterMap id).map Place.home).filter (fun i => i ≠ .mgt && i ≠ .aon)).eraseDups.map (bridgeReq s .mgt)

/-- A set-up: the latest command is a read. -/
def setUp (adr len : Nat) (s : State) : State :=
  let q := askSpan s adr len
  modMgt (fun m => { m with rd := some { adr := adr, len := len, reqs := q }, lastWrite := false, badCmd := false, hdr := false }) s

/-- I3C_READ_SETUP (R488). -/
def execI3cReadSetup (adr : W32) (len : Nat) (s : State) : Out := act (addressed s) (setUp adr.toNat (lenOf len)) s

/-- I3C_READ_CONTINUE (R488): from the end of the previous set-up or continue; without one nothing is pending, and a private
read returns ERR_STATE (R490). -/
def execI3cReadContinue (len : Nat) (s : State) : Out :=
  act (addressed s) (fun s =>
    match s.mgt.rd with
    | some r => setUp (r.adr + r.len) (lenOf len) s
    | none => modMgt (fun m => { m with lastWrite := false, badCmd := false, hdr := false }) s) s

/-- A read of a Tally cell runs past the last one of its object, or a read of a summary or a total past the last one of its set (R561;
notes/assumptions/126.md). -/
def pastTally (l : List (Option Place)) : Bool :=
  match l.head? with
  | some (some (.cell c _)) => ! l.all (fun p => match p with
      | some (.cell d _) => d.set = c.set && d.obj = c.obj
      | _ => false)
  | some (some (.sum _ _ _)) | some (some (.total _ _ _)) => l.any (fun p => p.isNone)
  | _ => false

/-- The checks of a read, and the states of the islands it reaches (R490, R493). -/
def readCheck (s : State) (adr len : Nat) : Status :=
  match windowEnd adr with
  | none => .errAddr
  | some last =>
    let ps := spanPlaces adr len last
    let first := match ps.head? with
      | some (some _) => Status.ok
      | _ => .errAddr
    worst ([first, if pastTally ps then .errAddr else .ok, if ! byteWindow adr && (adr % 4 ≠ 0 || len % 4 ≠ 0) then .errAccess else .ok,
        if last < adr + len - 1 then .errRange else .ok, mgtBusy s]
      ++ ps.map (fun p => match p with
        | some q => readGate s q
        | none => .ok))

/-- The memory region and 64-byte word that hold a word of the map (R462, R474, R479); a cached flow context is not read in DRAM (R350). -/
def memOf (s : State) (p : Place) : Option (Nat × Nat) :=
  match p with
  | .flow f w => if cached s f then none else some (8, 4 * f + w / 16)
  | .ring n => some (12, n / 16)
  | .scratch o => some (14, o / 64)
  | .stage o => some (11, o / 64)
  | .sram b k =>
    let use := bankUse (bankWord s b)
    some (use, wordNo b (k / 16) (useBanks s use))
  | .reg _ | .leaf _ | .cell _ _ | .sum _ _ _ | .total _ _ _ | .prev _ => none

/-- A word of memory that reads as POISON whatever the fetch finds (R353, R470). -/
def knownBad (s : State) (p : Place) : Bool :=
  (match memOf s p with
   | some m => m ∈ s.mem.poisoned
   | none => false)
  || (match p with
      | .flow f _ => (getFlow s f).poison
      | _ => false)

/-- The host reads a borrowed bank (R478). -/
def borrowed (s : State) (p : Place) : Bool :=
  match p, s.mem.bgt with
  | .sram b _, some (c, _) => b = c
  | _, _ => false

/-- A word of the SRAM window. -/
def isSram : Place → Bool
  | .sram _ _ => true
  | _ => false

/-- The memory words of a span, once each. -/
def memWords (s : State) (l : List (Option Place)) : List (Nat × Nat) := (l.filterMap (fun p => p.bind (memOf s))).eraseDups

/-- The flow contexts of a span, once each: they are read through the cache (R350). -/
def spanFlows (l : List (Option Place)) : List Nat :=
  (l.filterMap (fun p => match p with
    | some (.flow f _) => some f
    | _ => none)).eraseDups

/-- The words of a span in ascending order, as the fetch takes them: undefined words and words for which `bad` holds are zeros. -/
def fetchWords (bad : Place → Bool) : List (Option Place) → State → List W32 × State
  | [], s => ([], s)
  | none :: t, s =>
    let r := fetchWords bad t s
    (0 :: r.1, r.2)
  | some p :: t, s =>
    let x := fetchPlace p s
    let r := fetchWords bad t x.2
    ((if bad p then 0 else x.1) :: r.1, r.2)

/-- Bytes whose value is open: those after a status that gives no data. -/
def openBytes (n : Nat) (s : State) : List Byte × State :=
  ((List.range n).map (fun i => Config.freeByte (s.free + i)), { s with free := s.free + n })

/-- Store what a fetch gave. -/
def setFetched (r : PendRead) (c : Status) (data : List Byte) (s : State) : State :=
  modMgt (fun m => { m with rd := some { r with fetched := true, head := m.head, status := c, data := data } }) s

/-- What the on-die code of the HBM stacks corrects in the words of a span counts; how much that is is open (R469; notes/assumptions/5.md). -/
def onDieReads (ms : List (Nat × Nat)) (s : State) : State :=
  forAll (ms.filter (fun m => 8 ≤ m.1)) (fun m t =>
    let d := draw Config.freeNat t
    count 23 m.1 0 d.1 d.2) s

/-- What the memory of the span reports (R470). -/
def memReport (o : ReadOutcome) (ms : List (Nat × Nat)) (s : State) : State :=
  match o with
  | .corrected k => (match ms[k]? with
    | some m => memCorr m.1 m.2 rdHost s
    | none => s)
  | .clean | .poison _ | .collision => s

/-- The fetch of a span that no check refuses (R468, R470, R478, R494). -/
def fetchSpan (r : PendRead) (ps : List (Option Place)) (o : ReadOutcome) (s : State) : State :=
  let ds := ps.filterMap id
  let ms := memWords s ps
  let hit := match o with
    | .poison k => ms[k]?
    | .clean | .corrected _ | .collision => none
  let bad := fun (p : Place) => knownBad s p || (hit.isSome && memOf s p = hit)
  if ds.any (borrowed s) then setFetched r .busy [] s
  else if o = .collision && ds.any isSram then
    setFetched r .busy [] (match ms.head? with
      | some m => memCollide m.1 m.2 rdHost 1 s
      | none => s)
  else
    let bads := ms.filter (fun m => m ∈ s.mem.poisoned || some m = hit)
    let s := memReport o ms (onDieReads ms s)
    let s := forAll bads (fun m => memUncorr m.1 m.2 rdHost) s
    let s := forAll (spanFlows ps) hostTouch s
    let f := fetchWords bad ps s
    let bytes := ((f.1.flatMap wordBytes).drop (r.adr % 4)).take r.len
    setFetched r (if ds.any bad then .poison else .ok) bytes f.2

/-- READ_FETCH_DONE (R491): the checks are made and the words, with their latches and collections, are taken. Replies whose incarnations are
no longer current are discarded and counted, and MGT asks again (R24, R530). -/
def execReadFetchDone (outcome : ReadOutcome) (s : State) : Out :=
  act (targetUp s) (fun s =>
    match s.mgt.rd with
    | none => s
    | some r =>
      let lost := (r.reqs.filter (replyStale s)).length
      if r.fetched then s
      else if lost ≠ 0 then
        let q := askSpan s r.adr r.len
        modMgt (fun m => { m with rd := some { r with reqs := q } }) (staleReplies .mgt lost s)
      else
        let c := readCheck s r.adr r.len
        if c = .ok then fetchSpan r (spanPlaces r.adr r.len ((windowEnd r.adr).getD 0)) outcome s
        else setFetched r c [] s) s

/-! ## Private reads (R489, R491, R495, R519) -/

/-- A slot of the ring within the span was written since the fetch (R519). -/
def overwritten (s : State) (r : PendRead) : Bool :=
  let lo := (r.adr - 0x80000000) / 32
  let hi := (r.adr + r.len - 1 - 0x80000000) / 32
  0x80000000 ≤ r.adr && r.adr < 0x90000000
    && (List.range (hi + 1 - lo)).any (fun k => (lo + k + ringCap - r.head % ringCap) % ringCap < s.mgt.head - r.head)

/-- The status of the pending read. -/
def readStatus (s : State) (r : PendRead) : Status :=
  if mgtBusy s ≠ .ok then .retry
  else if ! r.fetched then .busy
  else if (r.status = .ok || r.status = .poison) && overwritten s r then .collided
  else r.status

/-- The bytes a private read gives, before MRL cuts them, and the status they begin with. -/
def readReply (s : State) : Status × List Byte × State :=
  if s.mgt.badCmd then (.errAccess, toBytes 1 Status.errAccess.code, s)
  else if s.mgt.lastWrite then
    let c := if mgtBusy s = .ok then s.mgt.wCode else .retry
    (c, toBytes 1 c.code ++ wordBytes (wstat s), s)
  else match s.mgt.rd with
    | none => (.errState, toBytes 1 Status.errState.code, s)
    | some r =>
      let c := readStatus s r
      if c = .ok || c = .poison then (c, toBytes 1 c.code ++ r.data, s)
      else
        let b := openBytes r.len s
        (c, toBytes 1 c.code ++ b.1, b.2)

/-- In HDR-DDR the bytes are paired, and an odd last byte is followed by 0x00 (R496). -/
def pairBytes (l : List Byte) : List Byte := if l.length % 2 = 1 then l ++ [0] else l

/-- A BUSY read stays pending: its fetch starts again (R468, R491). -/
def again (s : State) (c : Status) (r : PendRead) : PendRead :=
  if c = .busy && r.status = .busy then { r with fetched := false, reqs := askSpan s r.adr r.len } else r

/-- I3C_PRIVATE_READ (R489): every BUSY is accompanied by a pulse of BUSY_N (R491). -/
def execI3cPrivateRead (s : State) : Out :=
  act (addressed s) (fun s =>
    let p := readReply s
    let out := p.2.1.take s.mgt.mrl
    let t := p.2.2
    let t := modMgt (fun m => { m with reply := if m.hdr then pairBytes out else out, hdr := false, rd := m.rd.map (again s p.1) }) t
    if p.1 = .busy then { t with pins := { t.pins with busyPulses := t.pins.busyPulses + 1 } } else t) s

/-! ## Common command codes (R487) -/

/-- The answer to a CCC: acknowledged, with the bytes it reports. -/
def ccc (f : State → State) (bytes : State → List Byte) (s : State) : State :=
  modMgt (fun m => { m with cccAck := true, cccReply := bytes s }) (f s)

/-- A CCC the module does not accept is NACKed. -/
def cccNack (s : State) : State := modMgt (fun m => { m with cccAck := false, cccReply := [] }) s

/-- A CCC that is accepted when `g` holds in a module whose target answers, and NACKed otherwise. -/
def cccIf (g : Bool) (f : State → State) (bytes : State → List Byte) (s : State) : Out :=
  .next (if targetUp s && g then ccc f bytes s else cccNack s)

def noBytes (_ : State) : List Byte := []

/-- ENINT of an ENEC or DISEC byte; the other event bits are ignored. -/
def setIbi (on : Bool) (events : Byte) (s : State) : State :=
  if events.getLsbD 0 then modMgt (fun m => { m with ibiEn := on, ibiOff := ! on }) s else s

/-- CCC_ENEC (R487). -/
def execCccEnec (events : Byte) (s : State) : Out := cccIf true (setIbi true events) noBytes s

/-- CCC_DISEC (R487). -/
def execCccDisec (events : Byte) (s : State) : Out := cccIf true (setIbi false events) noBytes s

/-- CCC_ENTAS (R487): accepted with no effect. -/
def execCccEntas (_n : Fin 4) (s : State) : Out := cccIf true id noBytes s

/-- The dynamic address is lost: MGT_DA_LOST with its cause (R523). -/
def loseDa (cause : Nat) (s : State) : State :=
  mgtEvent 0x0D02 0 (packData [(8, cause)]) 3 (modMgt (fun m => { m with da := none }) s)

/-- The dynamic address is set: MGT_DA_SET with its method (R523). -/
def setDa (da : BitVec 7) (method : Nat) (s : State) : State :=
  oncePerSec 0x0D01 0 (raise .mgt 0x0D01 0 (packData [(8, da.toNat), (8, method)])) (modMgt (fun m => { m with da := some da }) s)

/-- CCC_RSTDAA (R485, R487); a module with no dynamic address loses none. -/
def execCccRstdaa (s : State) : Out := cccIf true (fun s => if s.mgt.da.isSome then loseDa 0 s else s) noBytes s

/-- CCC_ENTDAA (R486, R487): a target without a dynamic address sends its PID, BCR and DCR and takes the address. -/
def execCccEntdaa (da : BitVec 7) (s : State) : Out :=
  cccIf s.mgt.da.isNone (setDa da 0) (fun s => toBytes 6 (provisionedId s) ++ [0x27, 0x00]) s

/-- CCC_SETMWL (R495). -/
def execCccSetmwl (n : Nat) (s : State) : Out :=
  cccIf (16 ≤ n && n ≤ 262) (modMgt (fun m => { m with mwl := n })) noBytes s

/-- CCC_SETMRL (R495). -/
def execCccSetmrl (n : Nat) (s : State) : Out :=
  cccIf (16 ≤ n && n ≤ 257) (modMgt (fun m => { m with mrl := n })) noBytes s

/-- CCC_ENTHDR0 (R496). -/
def execCccEnthdr0 (s : State) : Out := cccIf true (modMgt (fun m => { m with hdr := true })) noBytes s

/-- CCC_RSTACT (R487): 0x00 arms no reset, 0x01 a module reset; other defining bytes are NACKed. -/
def execCccRstact (arg : Byte) (s : State) : Out :=
  cccIf (arg = 0 || arg = 1) (modMgt (fun m => { m with arm := some arg })) noBytes s

/-- CCC_SETDASA (R483, R487): for a module at the static address that has no dynamic address. -/
def execCccSetdasa (sa da : BitVec 7) (s : State) : Out := cccIf (sa = staticAddr s && s.mgt.da.isNone) (setDa da 1) noBytes s

/-- CCC_SETNEWDA (R487). -/
def execCccSetnewda (da : BitVec 7) (s : State) : Out := cccIf s.mgt.da.isSome (setDa da 2) noBytes s

/-- A direct GET is answered at the dynamic address. -/
def cccGet (bytes : State → List Byte) (s : State) : Out := cccIf s.mgt.da.isSome id bytes s

/-- CCC_GETMWL and CCC_GETMRL (R487, R495); GETMRL adds the payload size of an IBI. -/
def execCccGetmwl (s : State) : Out := cccGet (fun s => toBytes 2 s.mgt.mwl) s
def execCccGetmrl (s : State) : Out := cccGet (fun s => toBytes 2 s.mgt.mrl ++ [5]) s

/-- CCC_GETPID, CCC_GETBCR, CCC_GETDCR, CCC_GETMXDS (R486, R487). -/
def execCccGetpid (s : State) : Out := cccGet (fun s => toBytes 6 (provisionedId s)) s
def execCccGetbcr (s : State) : Out := cccGet (fun _ => [0x27]) s
def execCccGetdcr (s : State) : Out := cccGet (fun _ => [0x00]) s
def execCccGetmxds (s : State) : Out := cccGet (fun _ => [0x00, 0x00]) s

/-- CCC_GETCAPS (R487): HDR-DDR only. -/
def execCccGetcaps (s : State) : Out := cccGet (fun _ => [0x01]) s

/-- Pending interrupts as GETSTATUS counts them: the records that wait for collection, and a changed MGT_FAULT. -/
def pendingCount (s : State) : Nat := min 15 (s.mgt.evCount + b01 s.mgt.fl.pending)

/-- CCC_GETSTATUS (R487). -/
def execCccGetstatus (s : State) : Out :=
  cccIf s.mgt.da.isSome (modMgt (fun m => { m with protoErr := false }))
    (fun s => toBytes 2 (pendingCount s + 32 * b01 s.mgt.protoErr)) s

/-- The I3C target alone is reset (R487). -/
def resetTarget (s : State) : State :=
  loseDa 1 (modMgt (fun m => { m with ibiEn := false, ibiOff := false, mwl := 262, mrl := 257, rd := none, lastWrite := false, badCmd := false, hdr := false }) s)

/-- TARGET_RESET_PATTERN (R487): the armed action is taken once. -/
def execTargetResetPattern (s : State) : Out :=
  actF (s.pwr.run = .starting || s.pwr.run = .bootRom || s.pwr.run = .ready) (fun s =>
    match s.mgt.arm with
    | some a => if a = 1 && s.pwr.emerg = .none then restart s else modMgt (fun m => { m with arm := none }) s
    | none => resetTarget s) s

/-! ## The order of records (R515) -/

/-- Serial-number comparison of two counts below `2 * half`: -1 the first is older, 1 the second is, 0 undefined. -/
def serialOrder (half x y : Nat) : Int :=
  let d := (y + 2 * half - x) % (2 * half)
  if 0 < d ∧ d < half then -1 else if half < d then 1 else 0

/-- The order of two event records: -1 the first came first, 1 the second did, 0 no defined order. -/
def evtOrder (a b : EvtRec) : Int :=
  if a.isl = b.isl then serialOrder (2 ^ 31) a.seq b.seq
  else if a.epoch ≠ b.epoch then serialOrder 128 a.epoch b.epoch
  else
    let t : Int := ((a.sec : Int) - b.sec) * 1000000000 + ((a.ns : Int) - b.ns)
    if t ≤ -8 then -1 else if 8 ≤ t then 1 else 0

/-! ## Event records and interrupts (R506 to R509, R517) -/

/-- MGT runs: it does neither in standby nor while RESET_N holds the module (R504). -/
def mgtRuns (s : State) : Bool := powered s && s.pwr.run ≠ .standby && s.pwr.run ≠ .held && ! mgtDown s

/-- EVENT_RECORD_APPEND (R517): a record crosses from an island's FIFO to MGT. -/
def execEventRecordAppend (i : Isl) (s : State) : Out := act (mgtRuns s) (appendHead i) s

/-- An interrupt of a kind may be requested now: it is pending, not yet sent, and HOLDOFF_US has passed (R508). -/
def ibiDue (s : State) (x : Ibi) : Bool :=
  x.pending && ! x.requested && (x.retry || match x.lastAt with
    | some t => t + 1000 * regF s .mgtIbi .A 0 29 16 ≤ now s
    | none => true)

/-- The bus part of an IBI: five payload bytes (R507), and NACKs in a row end when the one before was acknowledged. -/
def sendIbi (mdb : Byte) (word : W32) (s : State) : State :=
  modMgt (fun m => { m with ibiOut := mdb :: wordBytes word, nacks := if m.ibiTry then 0 else m.nacks, ibiTry := true }) s

/-- IBI_REQUEST (R506 to R508): FAULT before EVENT. -/
def execIbiRequest (s : State) : Out :=
  act (addressed s && s.mgt.ibiEn && s.mgt.nacks < 3) (fun s =>
    let sent := fun (x : Ibi) => { x with requested := true, retry := false, lastAt := some (now s) }
    if ibiDue s s.mgt.fl then
      modMgt (fun m => { m with fl := sent m.fl }) (sendIbi 0x02 (BitVec.ofNat 32 (faultBits s)) s)
    else if ibiDue s s.mgt.ev then
      modMgt (fun m => { m with ev := sent m.ev, ibiHead := m.head % 2 ^ 32 }) (sendIbi 0x01 (BitVec.ofNat 32 s.mgt.head) s)
    else s) s

/-- An interrupt is requested again at the next bus-free condition (R509). -/
def retryIbi (x : Ibi) : Ibi := { x with requested := false, retry := true }

/-- MGT_IBI_NACK (R509): the IBI on the bus is NACKed; the third in a row raises the event and stops the requests. -/
def execMgtIbiNack (s : State) : Out :=
  act (addressed s && s.mgt.ibiTry) (fun s =>
    let mdb := s.mgt.ibiOut.headD 0
    let n := s.mgt.nacks + 1
    let s := modMgt (fun m => { m with
      ibiTry := false, nacks := n, fl := if mdb = 0x02 then retryIbi m.fl else m.fl, ev := if mdb = 0x01 then retryIbi m.ev else m.ev }) s
    if n = 3 then mgtEvent 0x0D03 0 (packData [(8, mdb.toNat)]) 0 s else s) s

end Sys2Proof.Machine
end

