-- ==== Sys2Proof/Machine/Dispatch.lean ====
section
/-! DEFINITION. The effect of each command on everything but the queue: one arm per command of the table. -/

namespace Sys2Proof.Machine

def exec (i : Instr) (s : State) : Host.Outcome State Fault Refusal :=
  match i with
  | .feedMated f mv caseTemp => Sys2Proof.Machine.execFeedMated f mv caseTemp s
  | .powerGood f mv adrSel0 adrSel1 => Sys2Proof.Machine.execPowerGood f mv adrSel0 adrSel1 s
  | .holdupCharged => Sys2Proof.Machine.execHoldupCharged s
  | .pwrLow f mv => Sys2Proof.Machine.execPwrLow f mv s
  | .pwrLowClear f mv => Sys2Proof.Machine.execPwrLowClear f mv s
  | .pwrFeedLost f mv => Sys2Proof.Machine.execPwrFeedLost f mv s
  | .pwrFeedHigh f mv => Sys2Proof.Machine.execPwrFeedHigh f mv s
  | .feedOvervoltSwitchOpen f mv => Sys2Proof.Machine.execFeedOvervoltSwitchOpen f mv s
  | .feedSwitchReclose f mv => Sys2Proof.Machine.execFeedSwitchReclose f mv s
  | .feedRestored f mv => Sys2Proof.Machine.execFeedRestored f mv s
  | .pwrFail mv => Sys2Proof.Machine.execPwrFail mv s
  | .shutdownLaserRampDone => Sys2Proof.Machine.execShutdownLaserRampDone s
  | .emergencyShutdownEnd written recOk => Sys2Proof.Machine.execEmergencyShutdownEnd written recOk s
  | .feedLossRestart mv => Sys2Proof.Machine.execFeedLossRestart mv s
  | .sagStart isl => Sys2Proof.Machine.execSagStart isl s
  | .sagClear isl => Sys2Proof.Machine.execSagClear isl s
  | .pwrDroopLong isl => Sys2Proof.Machine.execPwrDroopLong isl s
  | .droopStepDown isl => Sys2Proof.Machine.execDroopStepDown isl s
  | .pwrDroopFloor isl => Sys2Proof.Machine.execPwrDroopFloor isl s
  | .droopStepUp isl => Sys2Proof.Machine.execDroopStepUp isl s
  | .pwrElasticSlip e rx words => Sys2Proof.Machine.execPwrElasticSlip e rx words s
  | .pwrCapHit power => Sys2Proof.Machine.execPwrCapHit power s
  | .capStepDown power => Sys2Proof.Machine.execCapStepDown power s
  | .capStepUp power => Sys2Proof.Machine.execCapStepUp power s
  | .thermHigh temp => Sys2Proof.Machine.execThermHigh temp s
  | .thermHighClear temp => Sys2Proof.Machine.execThermHighClear temp s
  | .thermCrit sensor temp => Sys2Proof.Machine.execThermCrit sensor temp s
  | .resetNAsserted => Sys2Proof.Machine.execResetNAsserted s
  | .resetNReleased adrSel0 adrSel1 caseTemp => Sys2Proof.Machine.execResetNReleased adrSel0 adrSel1 caseTemp s
  | .shdnNAsserted => Sys2Proof.Machine.execShdnNAsserted s
  | .shdnNReleased => Sys2Proof.Machine.execShdnNReleased s
  | .fusesRead => Sys2Proof.Machine.execFusesRead s
  | .sramInitDone => Sys2Proof.Machine.execSramInitDone s
  | .firmwareAuthDone ok0 ok1 => Sys2Proof.Machine.execFirmwareAuthDone ok0 ok1 s
  | .imageCopyChecked copy rd => Sys2Proof.Machine.execImageCopyChecked copy rd s
  | .calRecordsChecked => Sys2Proof.Machine.execCalRecordsChecked s
  | .dramReady => Sys2Proof.Machine.execDramReady s
  | .quickSuiteDone => Sys2Proof.Machine.execQuickSuiteDone s
  | .contextInitDone => Sys2Proof.Machine.execContextInitDone s
  | .dramInitDone => Sys2Proof.Machine.execDramInitDone s
  | .moduleReady => Sys2Proof.Machine.execModuleReady s
  | .engineLasersLocked e => Sys2Proof.Machine.execEngineLasersLocked e s
  | .engineTuneTimeout e => Sys2Proof.Machine.execEngineTuneTimeout e s
  | .calibrationDone e => Sys2Proof.Machine.execCalibrationDone e s
  | .engineRampComplete e fuseOk => Sys2Proof.Machine.execEngineRampComplete e fuseOk s
  | .engineStartTimeout e => Sys2Proof.Machine.execEngineStartTimeout e s
  | .bootCtlRestart v => Sys2Proof.Machine.execBootCtlRestart v s
  | .frameLaunch e => Sys2Proof.Machine.execFrameLaunch e s
  | .dsGrpEnWrite e v => Sys2Proof.Machine.execDsGrpEnWrite e v s
  | .groupRampOnStart e g => Sys2Proof.Machine.execGroupRampOnStart e g s
  | .groupEnvelopeFull e g => Sys2Proof.Machine.execGroupEnvelopeFull e g s
  | .dsGroupOn e g => Sys2Proof.Machine.execDsGroupOn e g s
  | .dsGroupOff e g => Sys2Proof.Machine.execDsGroupOff e g s
  | .laserRampOnStart e => Sys2Proof.Machine.execLaserRampOnStart e s
  | .dsLaserOn e => Sys2Proof.Machine.execDsLaserOn e s
  | .dsLaserOff e => Sys2Proof.Machine.execDsLaserOff e s
  | .brxGateOpen e sc w ws => Sys2Proof.Machine.execBrxGateOpen e sc w ws s
  | .brxGateClose e sc => Sys2Proof.Machine.execBrxGateClose e sc s
  | .burstDetected e sc ws => Sys2Proof.Machine.execBurstDetected e sc ws s
  | .syncMatch e sc ws => Sys2Proof.Machine.execSyncMatch e sc ws s
  | .syncDeadlineMiss e sc ws => Sys2Proof.Machine.execSyncDeadlineMiss e sc ws s
  | .headerChecked e sc ws => Sys2Proof.Machine.execHeaderChecked e sc ws s
  | .blockDecoded e sc ws => Sys2Proof.Machine.execBlockDecoded e sc ws s
  | .burstEnd e sc => Sys2Proof.Machine.execBurstEnd e sc s
  | .captureRise e sc c0 ws => Sys2Proof.Machine.execCaptureRise e sc c0 ws s
  | .burstFall e sc ws => Sys2Proof.Machine.execBurstFall e sc ws s
  | .ssnHoldTimeout e l => Sys2Proof.Machine.execSsnHoldTimeout e l s
  | .feGainTurnUpdate e adc ws => Sys2Proof.Machine.execFeGainTurnUpdate e adc ws s
  | .calTempCheck e rx temp => Sys2Proof.Machine.execCalTempCheck e rx temp s
  | .calRunRx e => Sys2Proof.Machine.execCalRunRx e s
  | .calRunTx e => Sys2Proof.Machine.execCalRunTx e s
  | .calRunStart e rx temp => Sys2Proof.Machine.execCalRunStart e rx temp s
  | .calCollectDone e rx ws mon => Sys2Proof.Machine.execCalCollectDone e rx ws mon s
  | .calStarved e ws => Sys2Proof.Machine.execCalStarved e ws s
  | .calStepDone e rx => Sys2Proof.Machine.execCalStepDone e rx s
  | .calRecordWrite e rx ok => Sys2Proof.Machine.execCalRecordWrite e rx ok s
  | .calScGo e sc => Sys2Proof.Machine.execCalScGo e sc s
  | .calScRunStart e => Sys2Proof.Machine.execCalScRunStart e s
  | .calScDone e pre => Sys2Proof.Machine.execCalScDone e pre s
  | .frmSsetWrite e ss w v => Sys2Proof.Machine.execFrmSsetWrite e ss w v s
  | .frmSsetDone e ss => Sys2Proof.Machine.execFrmSsetDone e ss s
  | .frmCtrWrite e c w v => Sys2Proof.Machine.execFrmCtrWrite e c w v s
  | .containerChangeEffective e c => Sys2Proof.Machine.execContainerChangeEffective e c s
  | .engineDefectTurnEval e input => Sys2Proof.Machine.execEngineDefectTurnEval e input s
  | .sfSdHoldoffExpiry e sd => Sys2Proof.Machine.execSfSdHoldoffExpiry e sd s
  | .apsPlannedNoticeDone => Sys2Proof.Machine.execApsPlannedNoticeDone s
  | .apsRampOffDone => Sys2Proof.Machine.execApsRampOffDone s
  | .apsNewEngineFullPower => Sys2Proof.Machine.execApsNewEngineFullPower s
  | .apsCommonOffsetApplied => Sys2Proof.Machine.execApsCommonOffsetApplied s
  | .apsSettleTimeout => Sys2Proof.Machine.execApsSettleTimeout s
  | .apsWtrExpiry => Sys2Proof.Machine.execApsWtrExpiry s
  | .apsCmdClear => Sys2Proof.Machine.execApsCmdClear s
  | .apsCmdLo => Sys2Proof.Machine.execApsCmdLo s
  | .apsCmdFsA => Sys2Proof.Machine.execApsCmdFsA s
  | .apsCmdFsB => Sys2Proof.Machine.execApsCmdFsB s
  | .apsCmdMsA => Sys2Proof.Machine.execApsCmdMsA s
  | .apsCmdMsB => Sys2Proof.Machine.execApsCmdMsB s
  | .mapCompute e squares grants => Sys2Proof.Machine.execMapCompute e squares grants s
  | .mapRecomputeDone e tn grants => Sys2Proof.Machine.execMapRecomputeDone e tn grants s
  | .heldMessagesSend e => Sys2Proof.Machine.execHeldMessagesSend e s
  | .timeMessageSend e => Sys2Proof.Machine.execTimeMessageSend e s
  | .discoveryBurstProcess e sc => Sys2Proof.Machine.execDiscoveryBurstProcess e sc s
  | .rangingBurstProcess e l => Sys2Proof.Machine.execRangingBurstProcess e l s
  | .rangingWindowMissed e l => Sys2Proof.Machine.execRangingWindowMissed e l s
  | .burstReportProcess e sc => Sys2Proof.Machine.execBurstReportProcess e sc s
  | .bankerRegSuccess e l => Sys2Proof.Machine.execBankerRegSuccess e l s
  | .bankerRegFailure e l => Sys2Proof.Machine.execBankerRegFailure e l s
  | .regTimeout e l => Sys2Proof.Machine.execRegTimeout e l s
  | .leafDepartTimeout e l => Sys2Proof.Machine.execLeafDepartTimeout e l s
  | .leafStickyExpiry e l => Sys2Proof.Machine.execLeafStickyExpiry e l s
  | .leafCtlDereg e l release => Sys2Proof.Machine.execLeafCtlDereg e l release s
  | .leafCtlRerange e l => Sys2Proof.Machine.execLeafCtlRerange e l s
  | .leafSerialWrite e l x v => Sys2Proof.Machine.execLeafSerialWrite e l x v s
  | .leafGrpWrite e l g v => Sys2Proof.Machine.execLeafGrpWrite e l g v s
  | .groupMembershipEffective e l => Sys2Proof.Machine.execGroupMembershipEffective e l s
  | .clientFrameReceived p fr => Sys2Proof.Machine.execClientFrameReceived p fr s
  | .dsPacketLookup => Sys2Proof.Machine.execDsPacketLookup s
  | .contextFetchDone f poison => Sys2Proof.Machine.execContextFetchDone f poison s
  | .usUnitLookup => Sys2Proof.Machine.execUsUnitLookup s
  | .clientFrameTransmit p => Sys2Proof.Machine.execClientFrameTransmit p s
  | .contextSweep => Sys2Proof.Machine.execContextSweep s
  | .flowMoveTimeout f => Sys2Proof.Machine.execFlowMoveTimeout f s
  | .flowContextWrite f w v => Sys2Proof.Machine.execFlowContextWrite f w v s
  | .keyIndexRebuild bucket => Sys2Proof.Machine.execKeyIndexRebuild bucket s
  | .todOffsetMeasured ofs => Sys2Proof.Machine.execTodOffsetMeasured ofs s
  | .todSourceLost => Sys2Proof.Machine.execTodSourceLost s
  | .todHoldoverExpiry => Sys2Proof.Machine.execTodHoldoverExpiry s
  | .ppsInEdge => Sys2Proof.Machine.execPpsInEdge s
  | .todSetLoWrite v => Sys2Proof.Machine.execTodSetLoWrite v s
  | .todNowHiRead => Sys2Proof.Machine.execTodNowHiRead s
  | .ptpMessageReceived domain src m => Sys2Proof.Machine.execPtpMessageReceived domain src m s
  | .ptpAnnounceTx => Sys2Proof.Machine.execPtpAnnounceTx s
  | .ptpSyncDelayTx => Sys2Proof.Machine.execPtpSyncDelayTx s
  | .secondBoundary => Sys2Proof.Machine.execSecondBoundary s
  | .clnPortWrite p v => Sys2Proof.Machine.execClnPortWrite p v s
  | .clnLaneWrite k v => Sys2Proof.Machine.execClnLaneWrite k v s
  | .clnPortRefReady p => Sys2Proof.Machine.execClnPortRefReady p s
  | .clnTrainingDone p reqTx snr eq => Sys2Proof.Machine.execClnTrainingDone p reqTx snr eq s
  | .clnTrainFail p mask => Sys2Proof.Machine.execClnTrainFail p mask s
  | .clnLinkUp p bits partner => Sys2Proof.Machine.execClnLinkUp p bits partner s
  | .clnAlignFail p mask => Sys2Proof.Machine.execClnAlignFail p mask s
  | .clnLinkDown p cause => Sys2Proof.Machine.execClnLinkDown p cause s
  | .clnRefclkLost ppm => Sys2Proof.Machine.execClnRefclkLost ppm s
  | .clnRefclkOk ppm => Sys2Proof.Machine.execClnRefclkOk ppm s
  | .clnHiSer p symCorr => Sys2Proof.Machine.execClnHiSer p symCorr s
  | .unitEncrypt e c => Sys2Proof.Machine.execUnitEncrypt e c s
  | .unitDecrypt => Sys2Proof.Machine.execUnitDecrypt s
  | .slotGenerationDrained k => Sys2Proof.Machine.execSlotGenerationDrained k s
  | .rekeyStart k => Sys2Proof.Machine.execRekeyStart k s
  | .regRecordResend e l => Sys2Proof.Machine.execRegRecordResend e l s
  | .leafKexReceived e l body => Sys2Proof.Machine.execLeafKexReceived e l body s
  | .leafFinReceived e l body => Sys2Proof.Machine.execLeafFinReceived e l body s
  | .leafFailReceived e l cause => Sys2Proof.Machine.execLeafFailReceived e l cause s
  | .rekeyAckReceived e l body => Sys2Proof.Machine.execRekeyAckReceived e l body s
  | .groupAckReceived e l body => Sys2Proof.Machine.execGroupAckReceived e l body s
  | .groupRekeyStart e g => Sys2Proof.Machine.execGroupRekeyStart e g s
  | .groupKeyRewriteTimeout e g => Sys2Proof.Machine.execGroupKeyRewriteTimeout e g s
  | .shakerHealthFail test raw => Sys2Proof.Machine.execShakerHealthFail test raw s
  | .shakerRetry raw => Sys2Proof.Machine.execShakerRetry raw s
  | .secKeyCmdRekey k => Sys2Proof.Machine.execSecKeyCmdRekey k s
  | .secProvCommit => Sys2Proof.Machine.execSecProvCommit s
  | .lcReturnArm => Sys2Proof.Machine.execLcReturnArm s
  | .lcReturnCommit => Sys2Proof.Machine.execLcReturnCommit s
  | .lcVoidArm => Sys2Proof.Machine.execLcVoidArm s
  | .lcVoidCommit => Sys2Proof.Machine.execLcVoidCommit s
  | .lcArmExpiry => Sys2Proof.Machine.execLcArmExpiry s
  | .secLcChange a b c => Sys2Proof.Machine.execSecLcChange a b c s
  | .memMoveGo src dst => Sys2Proof.Machine.execMemMoveGo src dst s
  | .memMoveDone => Sys2Proof.Machine.execMemMoveDone s
  | .memMoveTimeout => Sys2Proof.Machine.execMemMoveTimeout s
  | .scrubLapEnd r ms => Sys2Proof.Machine.execScrubLapEnd r ms s
  | .bgtBorrow b word => Sys2Proof.Machine.execBgtBorrow b word s
  | .bgtMarchDone failWord mask => Sys2Proof.Machine.execBgtMarchDone failWord mask s
  | .bgtYield => Sys2Proof.Machine.execBgtYield s
  | .scratchpadWrite adr data poison => Sys2Proof.Machine.execScratchpadWrite adr data poison s
  | .i3cPrivateWrite adr len data => Sys2Proof.Machine.execI3cPrivateWrite adr len data s
  | .registerWrite adr v => Sys2Proof.Machine.execRegisterWrite adr v s
  | .flagW1cWrite adr v setNow => Sys2Proof.Machine.execFlagW1cWrite adr v setNow s
  | .i3cReadSetup adr len => Sys2Proof.Machine.execI3cReadSetup adr len s
  | .i3cReadContinue len => Sys2Proof.Machine.execI3cReadContinue len s
  | .readFetchDone outcome => Sys2Proof.Machine.execReadFetchDone outcome s
  | .i3cPrivateRead => Sys2Proof.Machine.execI3cPrivateRead s
  | .brxLastReadLatch e sc => Sys2Proof.Machine.execBrxLastReadLatch e sc s
  | .secSlotIcHiRead k => Sys2Proof.Machine.execSecSlotIcHiRead k s
  | .evtHeadHiRead => Sys2Proof.Machine.execEvtHeadHiRead s
  | .evtHeadLoRead => Sys2Proof.Machine.execEvtHeadLoRead s
  | .mgtFaultRead => Sys2Proof.Machine.execMgtFaultRead s
  | .cccEnec events => Sys2Proof.Machine.execCccEnec events s
  | .cccDisec events => Sys2Proof.Machine.execCccDisec events s
  | .cccEntas n => Sys2Proof.Machine.execCccEntas n s
  | .cccRstdaa => Sys2Proof.Machine.execCccRstdaa s
  | .cccEntdaa da => Sys2Proof.Machine.execCccEntdaa da s
  | .cccSetmwl n => Sys2Proof.Machine.execCccSetmwl n s
  | .cccSetmrl n => Sys2Proof.Machine.execCccSetmrl n s
  | .cccEnthdr0 => Sys2Proof.Machine.execCccEnthdr0 s
  | .cccRstact arg => Sys2Proof.Machine.execCccRstact arg s
  | .cccSetdasa sa da => Sys2Proof.Machine.execCccSetdasa sa da s
  | .cccSetnewda da => Sys2Proof.Machine.execCccSetnewda da s
  | .cccGetmwl => Sys2Proof.Machine.execCccGetmwl s
  | .cccGetmrl => Sys2Proof.Machine.execCccGetmrl s
  | .cccGetpid => Sys2Proof.Machine.execCccGetpid s
  | .cccGetbcr => Sys2Proof.Machine.execCccGetbcr s
  | .cccGetdcr => Sys2Proof.Machine.execCccGetdcr s
  | .cccGetmxds => Sys2Proof.Machine.execCccGetmxds s
  | .cccGetcaps => Sys2Proof.Machine.execCccGetcaps s
  | .cccGetstatus => Sys2Proof.Machine.execCccGetstatus s
  | .targetResetPattern => Sys2Proof.Machine.execTargetResetPattern s
  | .eventRecordAppend isl => Sys2Proof.Machine.execEventRecordAppend isl s
  | .ibiRequest => Sys2Proof.Machine.execIbiRequest s
  | .mgtIbiNack => Sys2Proof.Machine.execMgtIbiNack s
  | .islandSoftRestartCmd isl => Sys2Proof.Machine.execIslandSoftRestartCmd isl s
  | .islandHardResetCmd isl => Sys2Proof.Machine.execIslandHardResetCmd isl s
  | .fenceNoticeAcked isl => Sys2Proof.Machine.execFenceNoticeAcked isl s
  | .islandDrained isl => Sys2Proof.Machine.execIslandDrained isl s
  | .drainTimeout isl => Sys2Proof.Machine.execDrainTimeout isl s
  | .stateSaveDone isl => Sys2Proof.Machine.execStateSaveDone isl s
  | .islandResetDone isl => Sys2Proof.Machine.execIslandResetDone isl s
  | .updIslResume isl => Sys2Proof.Machine.execUpdIslResume isl s
  | .resumeBoundExceeded isl => Sys2Proof.Machine.execResumeBoundExceeded isl s
  | .watchdogRestart isl poison => Sys2Proof.Machine.execWatchdogRestart isl poison s
  | .engineCmdRestart e force => Sys2Proof.Machine.execEngineCmdRestart e force s
  | .engineCmdStop e force => Sys2Proof.Machine.execEngineCmdStop e force s
  | .engineCmdTxDark e => Sys2Proof.Machine.execEngineCmdTxDark e s
  | .engineImageRereadDone e reads => Sys2Proof.Machine.execEngineImageRereadDone e reads s
  | .updStagingWrite ofs data => Sys2Proof.Machine.execUpdStagingWrite ofs data s
  | .updCmdVerify => Sys2Proof.Machine.execUpdCmdVerify s
  | .updVerified => Sys2Proof.Machine.execUpdVerified s
  | .updCmdApply => Sys2Proof.Machine.execUpdCmdApply s
  | .updCmdCommit => Sys2Proof.Machine.execUpdCmdCommit s
  | .updCmdRollback => Sys2Proof.Machine.execUpdCmdRollback s
  | .updCmdClear => Sys2Proof.Machine.execUpdCmdClear s
  | .updTrialExpiry => Sys2Proof.Machine.execUpdTrialExpiry s
  | .updCommit flashOk fuseOk => Sys2Proof.Machine.execUpdCommit flashOk fuseOk s
  | .tallyClearTot => Sys2Proof.Machine.execTallyClearTot s
  | .bistCtlShutdownTest => Sys2Proof.Machine.execBistCtlShutdownTest s
  | .bistCtlShutdownNotest => Sys2Proof.Machine.execBistCtlShutdownNotest s
  | .bistShutdown => Sys2Proof.Machine.execBistShutdown s
  | .shutdownStopDone => Sys2Proof.Machine.execShutdownStopDone s
  | .shutdownRecordsSaved => Sys2Proof.Machine.execShutdownRecordsSaved s
  | .bistTestDone t => Sys2Proof.Machine.execBistTestDone t s
  | .bistTestCut committed => Sys2Proof.Machine.execBistTestCut committed s
  | .shutdownRecordWritten => Sys2Proof.Machine.execShutdownRecordWritten s
  | .shutdownRailsOff => Sys2Proof.Machine.execShutdownRailsOff s
  | .aprReduce e refl => Sys2Proof.Machine.execAprReduce e refl s
  | .aprRestoreStart e refl => Sys2Proof.Machine.execAprRestoreStart e refl s
  | .aprRestoreDone e refl => Sys2Proof.Machine.execAprRestoreDone e refl s
  | .makerProgramming => Sys2Proof.Machine.execMakerProgramming s
  | .makerShipCommand => Sys2Proof.Machine.execMakerShipCommand s
  | .makerVoidCommand => Sys2Proof.Machine.execMakerVoidCommand s
  | .transmitFault e cause => Sys2Proof.Machine.execTransmitFault e cause s
  | .transmitFaultClear e cause => Sys2Proof.Machine.execTransmitFaultClear e cause s
  | .hiSerClear p => Sys2Proof.Machine.execHiSerClear p s
  | .prbsLockAcquired x => Sys2Proof.Machine.execPrbsLockAcquired x s
  | .prbsLockLost x => Sys2Proof.Machine.execPrbsLockLost x s
  | .upstreamOldGenerationExpiry k => Sys2Proof.Machine.execUpstreamOldGenerationExpiry k s
  | .scrubberRead r word errs => Sys2Proof.Machine.execScrubberRead r word errs s

end Sys2Proof.Machine
end

