-- ==== Sys2Proof/Safety.lean ====
section
/-! DEFINITION. What a safe run is, and the words in which statements say what a command leaves unchanged. -/

namespace Sys2Proof.Machine

/-- A step answers a next state. -/
def stepSafe (s : State) : Prop := ∃ t, step s = .next t

/-- The next `n` steps all answer a next state. -/
def safeFor : Nat → State → Prop
  | 0, _ => True
  | n + 1, s => ∃ t, step s = .next t ∧ safeFor n t

/-- The parts of the state: every field of `State`, and five groups of fields inside them that a command can leave alone while
it changes other fields beside them. -/
inductive Part where
  | pending | free | status | got | pwr | pins | clk | fuse | flash | boot | regs | flags | rsc | seenTurn | seenSec | isls
  | engA | engB | aps | leaves | ssets | ctrs | flow | tod | cln | sec | mem | mgt | upd | tally | bist
  /-- Fence state, kind and cause of restart, incarnation and stale replies of every island (R24, R528). -/
  | fences
  /-- Sag and clock steps and faults at the floor of every island (R54 to R68). -/
  | steps
  /-- The states of R109 of both engines. -/
  | engSt
  /-- Everything of MGT but its interrupts: the I3C target, the transfers, the event ring. -/
  | bus
  /-- The incarnation number of every island (R24). -/
  | incarns
  deriving DecidableEq, Repr

/-- The fields of an island that `Part.fences` names, and those that `Part.steps` names. -/
def IslSt.fencing (x : IslSt) : Fence × Bool × FenceCause × Bool × Nat × Nat :=
  (x.fence, x.hard, x.cause, x.overdue, x.incarn, x.fenceAt)
def IslSt.stepping (x : IslSt) : Bool × Bool × Bool × Nat × Nat × Bool × Bool :=
  (x.sag, x.stretching, x.carried, x.sagStep, x.capStep, x.floorFault, x.floorDone)

/-- MGT without its interrupts. -/
def Mgt.quiet (x : Mgt) : Mgt := { x with ev := {}, fl := {}, nacks := 0, evCrit := false, evCount := 0 }

/-- Two states agree on a part. -/
def Part.same (s t : State) : Part → Prop
  | .pending => t.pending = s.pending
  | .free => t.free = s.free
  | .status => t.status = s.status
  | .got => t.got = s.got
  | .pwr => t.pwr = s.pwr
  | .pins => t.pins = s.pins
  | .clk => t.clk = s.clk
  | .fuse => t.fuse = s.fuse
  | .flash => t.flash = s.flash
  | .boot => t.boot = s.boot
  | .regs => t.regs = s.regs
  | .flags => t.flags = s.flags
  | .rsc => t.rsc = s.rsc
  | .seenTurn => t.seenTurn = s.seenTurn
  | .seenSec => t.seenSec = s.seenSec
  | .isls => t.isls = s.isls
  | .engA => t.engA = s.engA
  | .engB => t.engB = s.engB
  | .aps => t.aps = s.aps
  | .leaves => t.leaves = s.leaves
  | .ssets => t.ssets = s.ssets
  | .ctrs => t.ctrs = s.ctrs
  | .flow => t.flow = s.flow
  | .tod => t.tod = s.tod
  | .cln => t.cln = s.cln
  | .sec => t.sec = s.sec
  | .mem => t.mem = s.mem
  | .mgt => t.mgt = s.mgt
  | .upd => t.upd = s.upd
  | .tally => t.tally = s.tally
  | .bist => t.bist = s.bist
  | .fences => ∀ i, (getIsl t i).fencing = (getIsl s i).fencing
  | .steps => ∀ i, (getIsl t i).stepping = (getIsl s i).stepping
  | .engSt => t.engA.st = s.engA.st ∧ t.engB.st = s.engB.st
  | .bus => t.mgt.quiet = s.mgt.quiet
  | .incarns => ∀ i, (getIsl t i).incarn = (getIsl s i).incarn

/-- `t` agrees with `s` on every part that is not listed. -/
def changesOnly (ps : List Part) (s t : State) : Prop := ∀ p, p ∉ ps → p.same s t

end Sys2Proof.Machine
end

