-- ==== Sys2Proof/Claims.lean ====
section
/-! DEFINITION. The words in which the statements say what a command does: that it completes, what it leaves alone, the event
record it makes, the flag it sets and the counter it counts. -/

namespace Sys2Proof.Machine

/-- Every part of the state. -/
def Part.all : List Part :=
  [.pending, .free, .status, .got, .pwr, .pins, .clk, .fuse, .flash, .boot, .regs, .flags, .rsc, .seenTurn, .seenSec, .isls,
   .engA, .engB, .aps, .leaves, .ssets, .ctrs, .flow, .tod, .cln, .sec, .mem, .mgt, .upd, .tally, .bist,
   .fences, .steps, .engSt, .bus, .incarns]

/-- Every part but the listed ones. -/
def Part.but (ps : List Part) : List Part := Part.all.filter (fun p => ! ps.contains p)

/-- The command completes: it answers a next state that agrees with `s` outside the listed parts, and `post` holds of it. -/
def Acts (c : Instr) (s : State) (ps : List Part) (post : State → Prop) : Prop :=
  ∃ t, exec c s = .next t ∧ changesOnly ps s t ∧ post t

/-- Under `g` the command acts so. Elsewhere it changes nothing, which is the model's reading (notes/assumptions/2.md). -/
def ActsIf (g : Bool) (c : Instr) (s : State) (ps : List Part) (post : State → Prop) : Prop :=
  (g = true → Acts c s ps post) ∧ (g = false → exec c s = .next s)

/-- A command that brings words of an engine's converters: they are taken first (R12, R202), and then it acts so on `u`, the state with
them taken; where it does not act, taking them is all. -/
def Hears (e : Eng) (ws : List RxWord) (g : State → Bool) (c : Instr) (s : State) (ps : List Part) (post : State → State → Prop) : Prop :=
  let u := takeWords e ws s
  (g u = true → Acts c s ps (post u)) ∧ (g u = false → exec c s = .next u)

/-- A host write that the module accepts (answer OK) acts so; one it refuses changes nothing but the answer. -/
def Writes (answer : Status) (c : Instr) (s : State) (ps : List Part) (post : State → Prop) : Prop :=
  (answer = .ok → Acts c s ps (fun t => t.status = .ok ∧ post t)) ∧
  (answer ≠ .ok → exec c s = .next { s with status := answer })

/-- Between `s` and `t` the island made one event record (R511, R513, R516): its sequence number advanced by 1, and the record
stands last in its FIFO of 64, or is counted as lost where the FIFO was full. The FIFOs of the other islands are as they were. -/
def recorded (i : Isl) (code obj : Nat) (data : BitVec 80) (s t : State) : Prop :=
  let x := getIsl s i
  let y := getIsl t i
  y.seq = (x.seq + 1) % 2 ^ 32 ∧
  y.fifo = (if x.fifo.length < 64 then
      x.fifo ++ [⟨i.id, code, s.clk.epoch, x.seq, s.clk.sec, s.clk.ns, obj % 2 ^ 32, data⟩] else x.fifo) ∧
  y.lost = (if x.fifo.length < 64 then x.lost else min (x.lost + 1) (2 ^ 32 - 1)) ∧
  ∀ j, j ≠ i → (getIsl t j).fifo = (getIsl s j).fifo ∧ (getIsl t j).seq = (getIsl s j).seq ∧ (getIsl t j).lost = (getIsl s j).lost

/-- Between `s` and `t` the island made this record first, and perhaps others after it: it stands in the FIFO where there was room. -/
def logged (i : Isl) (code obj : Nat) (data : BitVec 80) (s t : State) : Prop :=
  let x := getIsl s i
  x.fifo.length < 64 → ∃ l, (getIsl t i).fifo =
    x.fifo ++ ⟨i.id, code, s.clk.epoch, x.seq, s.clk.sec, s.clk.ns, obj % 2 ^ 32, data⟩ :: l

/-- Between `s` and `t` the held clock step of the island went from its old to its new value, with the record of R65 where they
differ. -/
def stepped (i : Isl) (cause : Nat) (s t : State) : Prop :=
  heldStep (getIsl t i) ≠ heldStep (getIsl s i) →
    recorded i 0x0207 0 (packData [(8, heldStep (getIsl s i)), (8, heldStep (getIsl t i)), (8, cause)]) s t

/-- Between `s` and `t` the hardware set bit `b` of the flag word of `r` (R498): that bit is set, its set count, which saturates at
255, went up by 1 where the bit was set before, and every other flag and count is as it was. In Paired mode the two engines' windows
show one SCHED_FLAGS word (R9, R12, `flagAddr`). -/
def flagged (r : Reg) (e : Eng) (b : Nat) (s t : State) : Prop :=
  let a := flagAddr s r e
  (getFlags t a).getLsbD b = true ∧
  (∀ c n, (c ≠ a ∨ n ≠ b) → (getFlags t c).getLsbD n = (getFlags s c).getLsbD n) ∧
  (∀ k, tget 0 t.rsc k =
    if k = rscKey a b ∧ (getFlags s a).getLsbD b = true then min 255 (tget 0 s.rsc k + 1) else tget 0 s.rsc k)

/-- Between `s` and `t` counter `i` of object `o` of set `k` counted `n`, and no other counter counted. -/
def counted (k o i n : Nat) (s t : State) : Prop := t.tally = (count k o i n s).tally

/-- The event record and the flag of one event. -/
def reported (i : Isl) (code obj : Nat) (data : BitVec 80) (r : Reg) (e : Eng) (b : Nat) (s t : State) : Prop :=
  recorded i code obj data s t ∧ flagged r e b s t

/-- The control messages of an engine that wait for control cells, in their order (R303, R606). -/
def queued (s : State) (e : Eng) : List Msg := (getEng s e).down.ctl ++ (getEng s e).down.held

/-- A transmitter that was lit begins to go dark (R145, R568): its groups without control slots ramp off first, and its laser with the
control groups begins at once where none of them sends. -/
def goesDark (s t : State) (e : Eng) : Prop :=
  (getEng s e).down.laser ≠ .dark →
    (if dataGroups.all (fun g => (getGrp s e g).st = .off || (getGrp s e g).st = .waiting) then (getEng t e).down.laser = .rampingOff
     else (getEng t e).down.laser = (getEng s e).down.laser ∧ (getEng t e).down.offing = true)

/-- Between `s` and `t` the held clock step of the island changed together with those of others: its record of R65 stands in its FIFO where there
was room. -/
def steppedAmong (i : Isl) (cause : Nat) (s t : State) : Prop :=
  heldStep (getIsl t i) ≠ heldStep (getIsl s i) →
    logged i 0x0207 0 (packData [(8, heldStep (getIsl s i)), (8, heldStep (getIsl t i)), (8, cause)]) s t

/-- The manual switch that another request of the host leaves standing (R285): one that names an engine with a held SF or SD is cancelled as
soon as requests are judged, which they are while an engine of the pair works. -/
def msLeft (s : State) : Option Eng :=
  if s.aps.work.isSome && s.aps.ms.any (fun x => (getEng s x).sfHeld || (getEng s x).sdHeld) then none else s.aps.ms

/-- The parts that every loss of logic power and every start clears. -/
def volatileParts : List Part :=
  [.got, .regs, .seenTurn, .seenSec, .isls, .engA, .engB, .aps, .leaves, .ssets, .ctrs, .flow, .tod, .cln, .sec, .mem, .upd, .tally]

/-- Every volatile part is as it is right after reset. -/
def cleared (t : State) : Prop := ∀ p, p ∈ volatileParts → p.same State.reset t

/-- A start has begun (R77, R79): the volatile state is cleared, module time and the epoch count from 0, the boot sequence stands
at its first phase, and the events of the previous run are those saved in flash up to the first whose check word fails. -/
def started (s t : State) : Prop :=
  cleared t ∧ t.pwr.run = .starting ∧ t.clk.now = 0 ∧ t.clk.epoch = 0 ∧ t.boot = { phase := 2 } ∧
    t.mgt.prev = (s.flash.events.takeWhile (fun r => r.crcOk)).map (fun r => r.evt) ∧ t.mgt.prevValid = s.flash.evValid ∧ t.mgt.head = 0 ∧ t.mgt.da = none

/-! ## Which commands may change what -/

/-- The commands that may blow a fuse (R418). -/
def mayBlowFuses : Instr → Bool
  | .moduleReady | .engineTuneTimeout _ | .calibrationDone _ | .engineRampComplete _ _ | .engineStartTimeout _
  | .apsNewEngineFullPower | .secProvCommit | .lcReturnArm | .lcReturnCommit | .lcVoidArm | .lcVoidCommit | .secLcChange _ _ _
  | .i3cPrivateWrite _ _ _ | .registerWrite _ _ | .flagW1cWrite _ _ _ | .stateSaveDone _ | .updIslResume _
  | .engineCmdTxDark _ | .engineImageRereadDone _ _ | .updCommit _ _ | .makerProgramming | .makerShipCommand
  | .makerVoidCommand => true
  | _ => false

/-- The commands that may write the internal flash: shutdowns, starts, calibration records and a commit (R47, R242, R546, R577); an end of
a run takes the age of the last calibration write over into the next (R242). -/
def mayWriteFlash : Instr → Bool
  | .shutdownLaserRampDone | .emergencyShutdownEnd _ _ | .shdnNAsserted | .quickSuiteDone | .moduleReady
  | .powerGood _ _ _ _ | .resetNAsserted | .resetNReleased _ _ _ | .shdnNReleased | .bootCtlRestart _ | .secLcChange _ _ _
  | .targetResetPattern | .shutdownRailsOff
  | .calRecordWrite _ _ _ | .updCommit _ _ | .shutdownStopDone | .shutdownRecordWritten | .pwrFail _ | .thermCrit _ _
  | .i3cPrivateWrite _ _ _ | .registerWrite _ _ | .flagW1cWrite _ _ _ | .bistCtlShutdownTest | .bistCtlShutdownNotest => true
  | _ => false

/-- The commands that may move the fence state of an island, or end one by a start (R528). -/
def mayFence : Instr → Bool
  | .powerGood _ _ _ _ | .emergencyShutdownEnd _ _ | .resetNAsserted | .resetNReleased _ _ _ | .shdnNAsserted
  | .shdnNReleased | .engineTuneTimeout _ | .engineStartTimeout _ | .bootCtlRestart _ | .secLcChange _ _ _
  | .i3cPrivateWrite _ _ _ | .registerWrite _ _ | .flagW1cWrite _ _ _ | .targetResetPattern | .islandSoftRestartCmd _
  | .islandHardResetCmd _ | .fenceNoticeAcked _ | .islandDrained _ | .drainTimeout _ | .stateSaveDone _ | .islandResetDone _
  | .updIslResume _ | .resumeBoundExceeded _ | .watchdogRestart _ _ | .engineCmdRestart _ _ | .engineCmdStop _ _
  | .engineCmdTxDark _ | .engineImageRereadDone _ _ | .updCmdVerify | .updCmdApply | .updCmdCommit | .updCmdRollback
  | .updCmdClear | .updCommit _ _ | .shutdownRailsOff
  | .bistCtlShutdownTest | .bistCtlShutdownNotest => true
  | _ => false

/-- The commands that may change an incarnation number: a resume, and the ends of power and starts (R24). -/
def mayResume : Instr → Bool
  | .powerGood _ _ _ _ | .emergencyShutdownEnd _ _ | .resetNAsserted | .resetNReleased _ _ _ | .shdnNAsserted
  | .shdnNReleased | .bootCtlRestart _ | .secLcChange _ _ _ | .i3cPrivateWrite _ _ _ | .registerWrite _ _ | .flagW1cWrite _ _ _
  | .targetResetPattern | .updIslResume _ | .shutdownRailsOff
  | .bistCtlShutdownTest | .bistCtlShutdownNotest => true
  | _ => false

/-- The commands that may change a clock: the second, a step of the time, and the ends of power and starts (R18, R369, R552). -/
def maySetTime : Instr → Bool
  | .powerGood _ _ _ _ | .emergencyShutdownEnd _ _ | .resetNAsserted | .resetNReleased _ _ _ | .shdnNAsserted
  | .shdnNReleased | .bootCtlRestart _ | .todOffsetMeasured _ | .secondBoundary | .secLcChange _ _ _ | .i3cPrivateWrite _ _ _
  | .registerWrite _ _ | .flagW1cWrite _ _ _ | .targetResetPattern | .shutdownRailsOff
  | .bistCtlShutdownTest | .bistCtlShutdownNotest => true
  | _ => false

/-- The host's writes, but for FLAG_W1C_WRITE, whose hardware sets happen although the write is refused. -/
def isHostWrite : Instr → Bool
  | .bootCtlRestart _ | .dsGrpEnWrite _ _ | .calRunRx _ | .calRunTx _ | .calScGo _ _ | .frmSsetWrite _ _ _ _
  | .frmCtrWrite _ _ _ _ | .apsCmdClear | .apsCmdLo | .apsCmdFsA | .apsCmdFsB | .apsCmdMsA | .apsCmdMsB | .leafCtlDereg _ _ _
  | .leafCtlRerange _ _ | .leafSerialWrite _ _ _ _ | .leafGrpWrite _ _ _ _ | .flowContextWrite _ _ _ | .todSetLoWrite _
  | .clnPortWrite _ _ | .clnLaneWrite _ _ | .secKeyCmdRekey _ | .secProvCommit | .lcReturnArm | .lcReturnCommit | .lcVoidArm
  | .lcVoidCommit | .memMoveGo _ _ | .scratchpadWrite _ _ _ | .registerWrite _ _ | .islandSoftRestartCmd _
  | .islandHardResetCmd _ | .engineCmdRestart _ _ | .engineCmdStop _ _ | .updStagingWrite _ _ | .updCmdVerify | .updCmdApply
  | .updCmdCommit | .updCmdRollback | .updCmdClear | .tallyClearTot | .bistCtlShutdownTest | .bistCtlShutdownNotest => true
  | _ => false

/-- The state with other contents of the fuses of DRK and of its check bits. -/
def withDrk (k : BitVec 256) (c : BitVec 16) (s : State) : State := { s with fuse := { s.fuse with drk := k, drkSum := c } }

/-- The state with every secret of KEY and CRYP hidden: the keys and salts of every slot and group, the DRBGs and the blocks of their lanes, and the session
secrets of every leaf. -/
def hideKeys (s : State) : State :=
  let gen := fun (g : Gen) => { g with share := 0, mask := 0, hShare := 0, hMask := 0, salt := 0 }
  { s with
    sec := { s.sec with slots := s.sec.slots.map (fun p => (p.1, { p.2 with cur := gen p.2.cur, old := gen p.2.old, bank := {}, bankOld := {} })),
                        grp := s.sec.grp.map (fun p => (p.1, { p.2 with key := 0, salt := 0 })),
                        drbg := { key := 0, v := 0, cnt := s.sec.drbg.cnt }, lanes := [], blocks := [] }
    leaves := s.leaves.map (fun p => (p.1, { p.2 with exch :=
      { p.2.exch with em := [], km := [], klf := [], macM := [], th2 := [], ms := [] } })) }

/-- No fuse bit of `s` is back at 0 in `t`, and no count of fuses is lower (R418). -/
def fusesKept (s t : State) : Prop :=
  s.fuse.lcA &&& t.fuse.lcA = s.fuse.lcA ∧ s.fuse.lcB &&& t.fuse.lcB = s.fuse.lcB ∧ s.fuse.lcC &&& t.fuse.lcC = s.fuse.lcC ∧ s.fuse.drk &&& t.fuse.drk = s.fuse.drk ∧
    s.fuse.drkSum &&& t.fuse.drkSum = s.fuse.drkSum ∧
    s.fuse.signHash &&& t.fuse.signHash = s.fuse.signHash ∧ s.fuse.arbCfg ≤ t.fuse.arbCfg ∧ s.fuse.arbFw ≤ t.fuse.arbFw ∧
    (s.fuse.debugLock = true → t.fuse.debugLock = true) ∧ (s.fuse.testLock = true → t.fuse.testLock = true)

/-- The incarnation number of every island is one of 1 to 255 (R24). -/
def incarnOk (s : State) : Prop := ∀ i : Isl, 1 ≤ (getIsl s i).incarn ∧ (getIsl s i).incarn ≤ 255

end Sys2Proof.Machine
end

