-- ==== Sys2Proof/Certificates/Slice0/Obligations.lean ====
section
/-! DEFINITION. The statements for the provers. A statement about commands has one clause a command: where it acts, what it leaves
alone and what holds after it; a record or flag it names is the one of the spec's event table. -/

open Sys2Proof Sys2Proof.Machine

/-- A step takes the command at the front of the queue and runs it with the queue's rest (00_scope.md). -/
def Obligations.StepRunsFrontCommand : Prop :=
  ∀ (c : Instr) (rest : List Instr) (s : State),
    step { s with pending := c :: rest } = exec c { s with pending := rest }

/-- On an empty queue a microsecond passes, the model's choice (R554). -/
def Obligations.IdleTick : Prop :=
  ∀ s : State, s.pending = [] → ∃ t, step s = .next t ∧ changesOnly [.clk, .flow, .tally] s t ∧
    (s.pwr.run = .off → t = s) ∧ (s.pwr.run ≠ .off → t.clk.now = s.clk.now + 1000 ∧ t.clk.sec = s.clk.sec ∧ t.clk.ns = min (s.clk.ns + 1000) 999999999)

/-- The state before power: nothing pending, no power, every setting at its reset value, every table empty (R24, R463, R495). -/
def Obligations.ResetState : Prop :=
  let s := State.reset
  s.pending = [] ∧ s.pwr.run = .off ∧ s.mgt.da = none ∧ s.mgt.ibiEn = false ∧ s.mgt.mwl = 262 ∧ s.mgt.mrl = 257 ∧ s.upd.st = .idle ∧
    (∀ r e k, getReg s r e k = r.resetAt k) ∧ (∀ a, getFlags s a = 0) ∧ (∀ k, (getSlot s k).st = .empty) ∧
    (∀ e l, (getLeaf s e l).st = .free) ∧ (∀ p, (getPort s p).st = .disabled) ∧
    (∀ i, (getIsl s i).fence = .run ∧ (getIsl s i).fifo = [] ∧ (getIsl s i).seq = 0) ∧ incarnOk s

/-- Every step keeps every incarnation number in 1 to 255 (R24). -/
def Obligations.IncarnationNeverZero : Prop :=
  ∀ s t : State, incarnOk s → step s = .next t → incarnOk t

/-- No step returns a blown fuse bit to 0 (R418). -/
def Obligations.FusesNeverClear : Prop :=
  ∀ s t : State, step s = .next t → fusesKept s t

/-- Every command completes in every state (00_scope.md). -/
def Obligations.EveryCommandCompletes : Prop :=
  ∀ (c : Instr) (s : State), ∃ t, exec c s = .next t

/-- No command changes the queue of waiting commands (00_scope.md). -/
def Obligations.CommandsKeepQueue : Prop :=
  ∀ (c : Instr) (s t : State), exec c s = .next t → t.pending = s.pending

/-- Only the listed commands blow a fuse, write flash, move a fence, change an incarnation or set a clock (R24, R418, R528,
R577). -/
def Obligations.OnlyTheseChange : Prop :=
  ∀ (c : Instr) (s t : State), exec c s = .next t →
    (mayBlowFuses c = false → t.fuse = s.fuse) ∧ (mayWriteFlash c = false → t.flash = s.flash) ∧
    (mayFence c = false → ∀ i, (getIsl t i).fence = (getIsl s i).fence) ∧
    (mayResume c = false → ∀ i, (getIsl t i).incarn = (getIsl s i).incarn) ∧ (maySetTime c = false → t.clk = s.clk)

/-- Raising an event makes one record with the next sequence number, or loses it in a full FIFO (R511, R513, R516). -/
def Obligations.RecordsAreMade : Prop :=
  ∀ (i : Isl) (code obj : Nat) (data : BitVec 80) (s : State),
    recorded i code obj data s (raise i code obj data s) ∧ changesOnly [.isls] s (raise i code obj data s)

/-- A set flag counts its re-sets up to 255, and a written 1 clears both unless hardware sets the flag in that cycle (R502).
-/
def Obligations.ResetCounts : Prop :=
  (∀ (r : Reg) (e : Eng) (b : Nat) (s : State), b < 32 → flagged r e b s (setFlag r e b s)) ∧
  (∀ (a n b : Nat) (v setNow : W32) (s : State), b < n → n ≤ 32 → v.getLsbD b = true →
    (getFlags (w1cWrite a n v setNow s) a).getLsbD b = setNow.getLsbD b ∧
    tget 0 (w1cWrite a n v setNow s).rsc (rscKey a b) = (if setNow.getLsbD b then 1 else 0))

/-- An accumulator stops at 2^48 - 1, and the latched value then carries SAT (R553). -/
def Obligations.CountersSaturate : Prop :=
  (∀ (k o n j : Nat) (s : State), 0 < n → 0 < tallyN k → tget 0 s.tally.chain k = 0 →
    tget 0 (count k o j n s).tally.acc (cellAddr k o j) = min (tget 0 s.tally.acc (cellAddr k o j) + n) (2 ^ 48 - 1)) ∧
  (∀ (k o n j : Nat) (s : State), (∀ a, tget 0 s.tally.acc a ≤ 2 ^ 48 - 1) → ∀ a, tget 0 (count k o j n s).tally.acc a ≤ 2 ^ 48 - 1) ∧
  (∀ (k o j : Nat) (s : State), cellMute s k o = false →
    ((cellFlags s k o j).testBit 0 = true ↔ tget 0 s.tally.latched (cellAddr k o j) = 2 ^ 48 - 1))

/-- The settings of a policer are legal where R356 says so; with MODE 3, of which R356 says nothing, they are not (DESIGN CHOICE;
notes/assumptions/55.md). -/
def Obligations.PolicerSettings : Prop :=
  ∀ x : Flow, policerOk x = true ↔
    (flowMode x = 0 ∨ ((flowMode x = 1 ∨ flowMode x = 2) ∧ 64 ≤ x.cir.toNat ∧ 9600 ≤ fld x.pol 23 0 ∧
      (flowMode x = 2 → x.cir.toNat ≤ x.pir.toNat ∧ 9600 ≤ fld x.pbs 23 0)))

/-- A policed packet takes its bytes from the buckets that R355 names, and a red one takes none (R355). -/
def Obligations.PolicerColours : Prop :=
  ∀ (s : State) (n : Nat) (x : Flow), let y := refill s x; let r := police s n x
    (flowMode x = 1 → (n : Int) ≤ y.tc → r.1 = .green ∧ r.2.tc = y.tc - n ∧ r.2.tp = y.tp) ∧
    (flowMode x = 1 → y.tc < n → r.1 = .red ∧ r.2 = y) ∧
    (flowMode x = 2 → y.tp < n → r.1 = .red ∧ r.2 = y) ∧
    (flowMode x = 2 → (n : Int) ≤ y.tp → y.tc < n → r.1 = .yellow ∧ r.2.tp = y.tp - n ∧ r.2.tc = y.tc) ∧
    (flowMode x = 2 → (n : Int) ≤ y.tp → (n : Int) ≤ y.tc → r.1 = .green ∧ r.2.tp = y.tp - n ∧ r.2.tc = y.tc - n) ∧
    (flowMode x = 0 → r = (.green, x)) ∧ y.tc ≤ fld x.pol 23 0 ∧ y.tp ≤ fld x.pbs 23 0

/-- When several statuses apply, the first of R490's table is answered (R490). -/
def Obligations.StatusPrecedence : Prop :=
  (∀ l : List Status, (worst l = .ok ∨ worst l ∈ l) ∧ ∀ c, c ∈ l → (worst l).rank ≤ c.rank) ∧
  [Status.errAddr, .errAccess, .errRange, .errState, .retry, .busy, .collided, .poison, .ok].map Status.code =
    [0x10, 0x11, 0x12, 0x13, 0x02, 0x01, 0x21, 0x20, 0x00] ∧
  [Status.errAddr, .errAccess, .errRange, .errState, .retry, .busy, .collided, .poison, .ok].map Status.rank = List.range 9

/-- The window of a DISABLED engine reads zeros and takes no write (R498, R499). -/
def Obligations.DisabledWindow : Prop :=
  ∀ (s : State) (a : RegAt) (e : Eng), (Place.reg a).engine = some e →
    ((getEng s e).st = .disabled → s.pwr.run = .ready → readGate s (.reg a) = .ok ∧ (fetchPlace (.reg a) s).1 = 0) ∧
    ((getEng s e).st = .disabled → s.pwr.run = .ready → ∀ adr v : W32, adr.toNat % 4 = 0 → place adr.toNat = some (.reg a) → writableReg a = true →
      exec (.registerWrite adr v) s = .next { s with status := .errState }) ∧
    ((getEng s e).st ≠ .disabled → regGate s a = (writeGate s (a.reg.owner a.eng)).worse (regFence s a.reg a.eng))

/-- From an accepted shutdown every host write is refused (R568). -/
def Obligations.ShutdownRefusesWrites : Prop :=
  ∀ (c : Instr) (s : State), isHostWrite c = true → s.bist.st ≠ 0 → beforeReady s = false →
    ∃ t, exec c s = .next t ∧ changesOnly [.free, .status] s t ∧ t.status ≠ .ok

/-- No read of any place depends on a key, a salt, a session secret or the state of a DRBG, nor on DRK beyond its presence and the
public key that R419 shows (R455). -/
def Obligations.SecretsAreNotRead : Prop :=
  (∀ (p : Place) (s : State), (fetchPlace p (hideKeys s)).1 = (fetchPlace p s).1) ∧
  (∀ (p : Place) (k : BitVec 256) (c : BitVec 16) (s : State), drkOk (withDrk k c s) = drkOk s → devPub (withDrk k c s) = devPub s →
    (fetchPlace p (hideKeys (withDrk k c s))).1 = (fetchPlace p s).1)

/-- Every step keeps the scratchpad and the staging memory in their canonical form (R473, R539). -/
def Obligations.MemoriesKeepForm : Prop :=
  (∀ s t : State, twf none s.mem.scratch = true → twf 0 s.upd.stage = true → step s = .next t →
    twf none t.mem.scratch = true ∧ twf 0 t.upd.stage = true) ∧
  twf none State.reset.mem.scratch = true ∧ twf 0 State.reset.upd.stage = true

/-- Each event of a feed sets the feed's measured voltage and its conditions, and makes its record and flag (R44, R72, R73,
R75). -/
def Obligations.PowerFeeds : Prop :=
  (∀ (f : Feed) (mv ct : Int) (s : State), ActsIf (! (getFeed s f).mated || (getFeed s f).lost) (.feedMated f mv ct) s [.pwr] fun t =>
      getFeed t f = { getFeed s f with mated := true, volt := mv, lost := (getFeed s f).lost && powered s } ∧
      getFeed t f.other = getFeed s f.other ∧ t.pwr.caseT = ct ∧ t.pwr.run = s.pwr.run ∧
      t.pwr.critOff = (s.pwr.critOff && ((feedCarries (getFeed s f.other) && ! (getFeed s f.other).lost) || ! decide (ct < 80 * 16)))) ∧
  (∀ (f : Feed) (mv : Int) (s : State), ActsIf ((getFeed s f).mated && ! (getFeed s f).lost && ! (getFeed s f).low && mv < 3800) (.pwrLow f mv) s [.pwr, .flags, .rsc, .isls] fun t =>
      t.pwr = (modFeed f (fun x => { x with volt := mv, low := true }) s).pwr ∧
      (powered s = true → reported .aon 0x0201 f.num (packData [(16, mv)]) .pwrFlags .A (0 + f.num) s t)) ∧
  (∀ (f : Feed) (mv : Int) (s : State), ActsIf ((getFeed s f).low && ! (getFeed s f).lost && 3850 ≤ mv) (.pwrLowClear f mv) s [.pwr, .isls] fun t =>
      t.pwr = (modFeed f (fun x => { x with volt := mv, low := false }) s).pwr ∧
      (powered s = true → recorded .aon 0x0202 f.num (packData [(16, mv)]) s t)) ∧
  (∀ (f : Feed) (mv : Int) (s : State), ActsIf (! (getFeed s f).lost && mv < 2000) (.pwrFeedLost f mv) s [.pwr, .flags, .rsc, .isls] fun t =>
      t.pwr = (modFeed f (fun x => { x with volt := mv, lost := true, low := false }) s).pwr ∧
      (powered s = true → reported .aon 0x0203 f.num (packData [(16, mv)]) .pwrFlags .A (2 + f.num) s t)) ∧
  (∀ (f : Feed) (mv : Int) (s : State), ActsIf ((getFeed s f).mated && ! (getFeed s f).high && 7600 < mv) (.pwrFeedHigh f mv) s [.pwr, .flags, .rsc, .isls] fun t =>
      t.pwr = (modFeed f (fun x => { x with volt := mv, high := true }) s).pwr ∧
      (powered s = true → reported .aon 0x0204 f.num (packData [(16, mv)]) .pwrFlags .A (4 + f.num) s t)) ∧
  (∀ (f : Feed) (mv : Int) (s : State), ActsIf (! (getFeed s f).swOpen && 8000 < mv) (.feedOvervoltSwitchOpen f mv) s [.pwr] fun t =>
      t.pwr = (modFeed f (fun x => { x with volt := mv, swOpen := true }) s).pwr) ∧
  (∀ (f : Feed) (mv : Int) (s : State), ActsIf ((getFeed s f).swOpen && mv < 7600) (.feedSwitchReclose f mv) s [.pwr] fun t =>
      t.pwr = (modFeed f (fun x => { x with volt := mv, swOpen := false }) s).pwr) ∧
  (∀ (f : Feed) (mv : Int) (s : State), ActsIf ((getFeed s f).mated && ((getFeed s f).lost || (getFeed s f).high) && ! (getFeed s f).swOpen && 3550 ≤ mv && mv ≤ 7600) (.feedRestored f mv) s [.pwr] fun t =>
      t.pwr = (modFeed f (fun x => { x with volt := mv, lost := false, high := false, low := false }) s).pwr)

/-- A sag stretches an island, a long sag holds it one step down, and clear times and the floor follow R62 to R65 (R54, R55,
R60, R62, R63, R64, R65, R73, R74). The first held step is the larger of the two holds (the model's: notes/assumptions/14.md), a dip as deep
as TH is no sag (215.md), and what dropped and zero-valued words read as is 216.md's. -/
def Obligations.DroopSteps : Prop :=
  (∀ (q : Sag) (s : State), let i := q.isl
    ActsIf (alive s && droops i && ! (getIsl s i).sag && decide (100 * regF s .pwrDroopCfg .A 0 3 0 < q.depth)) (.sagStart q) s [.isls, .tally, .steps] fun t =>
      getIsl t i = { getIsl s i with sag := true, stretching := true, carried := false, floorDone := false } ∧ (∀ j, j ≠ i → getIsl t j = getIsl s j) ∧
      t.tally = (countCond 1 i.row 0 1 0 s).tally) ∧
  (∀ (i : Isl) (s : State), ActsIf ((getIsl s i).sag) (.sagClear i) s [.isls, .steps] fun t =>
      getIsl t i = { getIsl s i with sag := false, stretching := false, carried := false, floorDone := false } ∧ (∀ j, j ≠ i → getIsl t j = getIsl s j)) ∧
  (∀ (i : Isl) (s : State), ActsIf ((getIsl s i).sag && (getIsl s i).stretching) (.pwrDroopLong i) s [.flags, .rsc, .isls, .tally, .steps] fun t =>
      (getIsl t i).stepping = IslSt.stepping { getIsl s i with stretching := false, carried := true, sagStep := max (getIsl s i).sagStep (min (floorStep i) (heldStep (getIsl s i) + 1)) } ∧ (∀ j, j ≠ i → getIsl t j = getIsl s j) ∧
      logged i 0x0206 0 (packData [(8, min (floorStep i) (heldStep (getIsl s i) + 1))]) s t ∧ flagged .pwrFlags .A 6 s t ∧
      stepped i 1 (raiseF i 0x0206 0 (packData [(8, min (floorStep i) (heldStep (getIsl s i) + 1))]) .pwrFlags .A 6 s) t) ∧
  (∀ (i : Isl) (s : State), ActsIf ((getIsl s i).sag && (getIsl s i).carried && 0 < (getIsl s i).sagStep && (getIsl s i).sagStep < floorStep i) (.droopStepDown i) s [.isls, .tally, .steps] fun t =>
      (getIsl t i).stepping = IslSt.stepping { getIsl s i with sagStep := (getIsl s i).sagStep + 1 } ∧ (∀ j, j ≠ i → getIsl t j = getIsl s j) ∧ stepped i 1 s t) ∧
  (∀ (i : Isl) (s : State), ActsIf ((getIsl s i).sag && (getIsl s i).carried && (getIsl s i).sagStep = floorStep i && 0 < floorStep i && ! (getIsl s i).floorDone) (.pwrDroopFloor i) s [.flags, .rsc, .isls, .mgt, .steps] fun t =>
      (getIsl t i).stepping = IslSt.stepping { getIsl s i with floorFault := true, floorDone := true } ∧ (∀ j, j ≠ i → getIsl t j = getIsl s j) ∧ (powered s = true → faultLow t = true) ∧
      reported i 0x0208 0 (packData [(8, floorStep i)]) .pwrFlags .A 7 s t) ∧
  (∀ (i : Isl) (s : State), ActsIf (! (getIsl s i).sag && 0 < (getIsl s i).sagStep && ctlRuns s .pwr) (.droopStepUp i) s [.isls, .mgt, .tally, .steps] fun t =>
      (getIsl t i).stepping = IslSt.stepping { getIsl s i with sagStep := (getIsl s i).sagStep - 1, floorFault := false } ∧ (∀ j, j ≠ i → getIsl t j = getIsl s j) ∧ stepped i 1 s t) ∧
  (∀ (e : Eng) (rx : Bool) (words : Nat) (s : State), ActsIf (alive s && 0 < words) (.pwrElasticSlip e rx words) s [.free, .flags, .rsc, .isls, .engA, .engB, .tally] fun t =>
      (let u := if rx then dropWords e words s else zeroWords e words s
       reported (if rx then e.rxc else e.txc) 0x020A e.num (packData [(16, words)]) .pwrFlags .A 10 s t ∧ counted 2 e.num 0 1 u t ∧
       getEng t e = getEng u e ∧ getEng t e.other = getEng s e.other ∧ (getEng u e).inp.n = (getEng s e).inp.n + (if rx then words else 0)))

/-- The power cap and the temperature limits act on the measured value as R66 to R72 say (R47, R66, R67, R70, R71, R72,
R73). That a feed-loss shutdown goes on when the temperature turns critical is the model's choice (notes/assumptions/203.md). -/
def Obligations.PowerCapAndHeat : Prop :=
  (∀ (power : Nat) (s : State), ActsIf (alive s && ctlRuns s .pwr && capLimit s < power && ! s.pwr.capStepping) (.pwrCapHit power) s [.pwr, .flags, .rsc, .isls, .bist] fun t =>
      t.pwr = { s.pwr with capActive := true, capStepping := true } ∧ (∀ j, (getIsl t j).stepping = (getIsl s j).stepping) ∧
      reported .pwr 0x0209 0 (packData [(16, power)]) .pwrFlags .A 8 s t) ∧
  (∀ (power : Nat) (s : State), ActsIf (alive s && ctlRuns s .pwr && s.pwr.capStepping) (.capStepDown power) s [.pwr, .isls, .tally, .bist, .steps] fun t =>
      (power ≤ capLimit s → t.isls = s.isls ∧ t.pwr.capStepping = false ∧ t.pwr.capActive = Isl.all.any (fun i => 0 < (getIsl s i).capStep)) ∧
      (capLimit s < power → t.pwr.capStepping = true ∧ t.pwr.capActive = s.pwr.capActive) ∧
      (capLimit s < power → (getIsl s .cryp).capStep < 4 → (getIsl t .cryp).capStep = (getIsl s .cryp).capStep + 1 ∧ stepped .cryp 2 s t ∧ ∀ j, j ≠ .cryp → getIsl t j = getIsl s j) ∧
      (capLimit s < power → 4 ≤ (getIsl s .cryp).capStep → (getIsl s .flow).capStep < 4 →
        (getIsl t .flow).capStep = (getIsl s .flow).capStep + 1 ∧ stepped .flow 2 s t ∧ ∀ j, j ≠ .flow → getIsl t j = getIsl s j) ∧
      (capLimit s < power → 4 ≤ (getIsl s .cryp).capStep → 4 ≤ (getIsl s .flow).capStep → (getIsl s .aTxd).capStep = 0 →
        (∀ j, j ∈ dspIsls → (getIsl t j).capStep = (getIsl s j).capStep + 1 ∧ steppedAmong j 2 s t) ∧ ∀ j, j ∉ dspIsls → getIsl t j = getIsl s j)) ∧
  (∀ (power : Nat) (s : State), ActsIf (alive s && ctlRuns s .pwr && s.pwr.capActive && power + 500 ≤ capLimit s) (.capStepUp power) s [.pwr, .isls, .tally, .bist, .steps] fun t =>
      t.pwr.capStepping = false ∧ (t.pwr.capActive = Isl.all.any (fun i => 0 < (getIsl t i).capStep)) ∧
      (0 < (getIsl s .aTxd).capStep → (∀ j, j ∈ dspIsls → (getIsl t j).capStep = (getIsl s j).capStep - 1 ∧ steppedAmong j 2 s t) ∧ ∀ j, j ∉ dspIsls → getIsl t j = getIsl s j) ∧
      ((getIsl s .aTxd).capStep = 0 → 0 < (getIsl s .flow).capStep →
        (getIsl t .flow).capStep = (getIsl s .flow).capStep - 1 ∧ stepped .flow 2 s t ∧ ∀ j, j ≠ .flow → getIsl t j = getIsl s j) ∧
      ((getIsl s .aTxd).capStep = 0 → (getIsl s .flow).capStep = 0 → 0 < (getIsl s .cryp).capStep →
        (getIsl t .cryp).capStep = (getIsl s .cryp).capStep - 1 ∧ stepped .cryp 2 s t ∧ ∀ j, j ≠ .cryp → getIsl t j = getIsl s j)) ∧
  (∀ (temp : Int) (s : State), ActsIf (powered s && ! s.pwr.therm && thermLimit s < temp) (.thermHigh temp) s [.pwr, .flags, .rsc, .isls] fun t =>
      t.pwr = { s.pwr with caseT := temp, therm := true } ∧ reported .aon 0x020B 0x40 (packData [(16, temp)]) .pwrFlags .A 9 s t) ∧
  (∀ (temp : Int) (s : State), ActsIf (powered s && s.pwr.therm && temp ≤ thermLimit s - 32) (.thermHighClear temp) s [.pwr, .isls] fun t =>
      t.pwr = { s.pwr with caseT := temp, therm := false } ∧ recorded .aon 0x020C 0x40 (packData [(16, temp)]) s t) ∧
  (∀ (sensor : Nat) (temp : Int) (s : State), ActsIf (powered s && s.pwr.emerg ≠ .thermCrit && critTemp sensor temp) (.thermCrit sensor temp) s [.free, .pwr, .flash, .boot, .flags, .rsc, .isls, .engA, .engB, .ctrs, .flow, .cln, .mem, .mgt, .upd, .tally, .bist, .bus] fun t =>
      (s.pwr.emerg = .powerFail → t.pwr.emerg = .powerFail ∧ t.pwr.emergStep = s.pwr.emergStep ∧ recorded .aon 0x020D sensor (packData [(16, temp)]) s t) ∧
      (s.pwr.emerg = .none → t.pwr.emerg = .thermCrit ∧ (getEng t .A).mapsStopped = true ∧ (getEng t .B).mapsStopped = true ∧
        (darkAlready s = false → t.pwr.emergStep = 0 ∧ recorded .aon 0x020D sensor (packData [(16, temp)]) s t) ∧
        (darkAlready s = true → t.pwr.emergStep = 1 ∧ ∀ e, (getEng t e).down.laser = .dark)))

/-- Power, RESET_N, SHDN_N and the restart command start the module, stop it and clear what is volatile (R42, R43, R46, R51,
R72, R77, R81, R115, R483, R504, R567, R570). What a start and an end of power clear, and the NOT_RUN of an aborted start, are the model's
(notes/assumptions/13.md, 18.md). -/
def Obligations.PowerCycles : Prop :=
  (∀ (f : Feed) (mv : Int) (a0 a1 : Bool) (s : State), ActsIf (s.pwr.run = .off && (getFeed s f).mated && ! (getFeed s f).swOpen && 3550 ≤ mv && ! s.pwr.lossOff && ! s.pwr.critOff) (.powerGood f mv a0 a1) s (Part.but [.pending, .free, .status, .fuse]) fun t =>
      t.flash = s.flash.aged s.clk.now ∧
      t.pins.adr0 = a0 ∧ t.pins.adr1 = a1 ∧ t.pins.ready = false ∧ cleared t ∧
      getFeed t f = { getFeed s f with volt := mv, lost := false, high := false, low := false } ∧ getFeed t f.other = { getFeed s f.other with low := false } ∧
      t.pwr.run = (if s.pins.resetN && s.pins.shdnN then .starting else if s.pins.resetN then .standby else .held) ∧
      (s.pins.resetN = true → s.pins.shdnN = true → started s t)) ∧
  (∀ (s : State), ActsIf (powered s) .holdupCharged s [.pwr] fun t =>
      t = { s with pwr := { s.pwr with holdup := true } }) ∧
  (∀ (mv : Int) (s : State), ActsIf (s.pwr.run = .off && s.pwr.lossOff && 3550 ≤ mv) (.feedLossRestart mv) s [.pwr] fun t =>
      t = { s with pwr := { s.pwr with lossOff := false } }) ∧
  (∀ (s : State), ActsIf (true) .resetNAsserted s (Part.but [.pending, .free, .status, .fuse]) fun t =>
      { t.flash with calWr := [] } = { s.flash with calWr := [] } ∧
      t.pins.resetN = false ∧ t.pins.shdnN = s.pins.shdnN ∧
      (s.pwr.emerg = .none → s.pwr.run ≠ .off → t.pwr.run = .held ∧ cleared t ∧ t.pins.ready = false) ∧
      ((s.pwr.emerg ≠ .none ∨ s.pwr.run = .off) → t.pwr = s.pwr ∧ t.regs = s.regs ∧ t.mem = s.mem)) ∧
  (∀ (a0 a1 : Bool) (ct : Int) (s : State), ActsIf (! s.pins.resetN) (.resetNReleased a0 a1 ct) s (Part.but [.pending, .free, .status, .fuse]) fun t =>
      { t.flash with calWr := [] } = { s.flash with calWr := [] } ∧
      t.pins.resetN = true ∧ t.pins.adr0 = a0 ∧ t.pins.adr1 = a1 ∧
      (s.pwr.run = .held → s.pwr.emerg = .none → started s t) ∧ (s.pwr.run = .held → s.pwr.emerg ≠ .none → t.pwr = s.pwr) ∧
      (s.pwr.run = .off → t.pwr = { s.pwr with caseT := ct, critOff := s.pwr.critOff && ! decide (ct < 80 * 16) }) ∧
      (s.pwr.run ≠ .held → s.pwr.run ≠ .off → t.pwr = s.pwr)) ∧
  (∀ (s : State), ActsIf (true) .shdnNAsserted s (Part.but [.pending, .free, .status, .fuse]) fun t =>
      t.pins.shdnN = false ∧
      (s.pwr.emerg = .none → s.pwr.run = .starting ∨ s.pwr.run = .bootRom → t.pwr.run = .standby ∧ cleared t ∧
        (t.flash.recs.head?.map (fun r => (r.kind, r.overall))) = some (kindAbortedStart, resNotRun)) ∧
      (s.pwr.emerg = .none → s.pwr.run = .ready → s.bist.st = 0 → anyFence s = true → t.bist.req = some (s.bist.req.getD 0)) ∧
      (s.pwr.emerg = .none → s.pwr.run = .ready → s.bist.st = 0 → anyFence s = false → t.bist.st = 1 ∧ t.bist.phase = 1 ∧ t.bist.cause = 0)) ∧
  (∀ (s : State), ActsIf (! s.pins.shdnN || (s.pwr.run = .standby && ! s.pwr.cmdOff)) .shdnNReleased s (Part.but [.pending, .free, .status, .fuse]) fun t =>
      { t.flash with calWr := [] } = { s.flash with calWr := [] } ∧
      t.pins.shdnN = true ∧ (s.pwr.run = .standby → s.pwr.emerg = .none → started s t) ∧
      ((s.pwr.run ≠ .standby ∨ s.pwr.emerg ≠ .none) → t.pwr = s.pwr)) ∧
  (∀ (v : W32) (s : State), Writes ((writeGate s .mgt).worse (if fld v 15 0 = 0xB007 && ! s.boot.nvmBusy && s.pwr.emerg = .none then .ok else .errState)) (.bootCtlRestart v) s (Part.but [.pending, .free, .fuse]) fun t =>
      t.flash = s.flash.aged s.clk.now ∧
      started s t)

/-- The emergency shutdown stops the schedulers, darkens the outputs, saves the events and its record, and ends without
power (R44, R46, R47, R48, R50, R51, R72, R520, R577). What the end of power clears is the model's (notes/assumptions/13.md). -/
def Obligations.EmergencyShutdown : Prop :=
  (∀ (mv : Int) (s : State), ActsIf (powered s && s.pwr.emerg ≠ .powerFail && ! s.pwr.pfInCrit && mv < 3400) (.pwrFail mv) s [.free, .pwr, .flash, .boot, .flags, .rsc, .isls, .engA, .engB, .ctrs, .flow, .cln, .mem, .mgt, .upd, .tally, .bist, .bus] fun t =>
      (s.pwr.emerg = .thermCrit → t.pwr = { s.pwr with pfInCrit := true } ∧ recorded .aon 0x0205 0 (pwrFailData mv s.pwr.holdup) s t) ∧
      (s.pwr.emerg = .none → (getEng t .A).mapsStopped = true ∧ (getEng t .B).mapsStopped = true ∧
        (darkAlready s = false → t.pwr = { s.pwr with emerg := .powerFail, emergStep := 0 } ∧ recorded .aon 0x0205 0 (pwrFailData mv s.pwr.holdup) s t ∧
          ∀ e, (getEng s e).down.laser ≠ .dark → (getEng t e).down.laser = .rampingOff ∧ (getEng t e).down.env.dur = 1000000) ∧
        (darkAlready s = true → t.pwr = { s.pwr with emerg := .powerFail, emergStep := 1 } ∧ ∀ e, (getEng t e).down.laser = .dark))) ∧
  (∀ (s : State), ActsIf (s.pwr.emerg ≠ .none && s.pwr.emergStep = 0) .shutdownLaserRampDone s [.free, .pwr, .flash, .boot, .flags, .rsc, .isls, .engA, .engB, .ctrs, .flow, .cln, .mem, .mgt, .upd, .tally, .bus] fun t =>
      t.pwr = { s.pwr with emergStep := 1 } ∧ (∀ e, (getEng t e).down.laser = .dark ∧ (getEng t e).down.sigLock = false) ∧
      t.boot.dram = false ∧ t.flow.ctx = [] ∧ t.mem.scratch = [] ∧ t.mgt.ring = [] ∧
      (flashWrites s = true → recordDone s = false → let u := appendAll (darken s)
        (∀ i, (getIsl u i).fifo = []) ∧ t.flash.events = lastRecords (ringReads u) ∧ t.flash.evValid = false ∧ t.flash.recs = s.flash.recs) ∧
      ((flashWrites s = false ∨ recordDone s = true) → t.flash = s.flash)) ∧
  (∀ (n : Nat) (recOk : Bool) (s : State), ActsIf (s.pwr.emerg ≠ .none && s.pwr.emergStep = 1) (.emergencyShutdownEnd n recOk) s (Part.but [.pending, .free, .status, .fuse]) fun t =>
      t.pwr.run = .off ∧ cleared t ∧ t.pwr.critOff = decide (s.pwr.emerg = .thermCrit) ∧ t.pwr.lossOff = decide (s.pwr.emerg = .powerFail) ∧
      ((flashWrites s = false ∨ recordDone s = true) → t.flash = s.flash.aged s.clk.now) ∧
      (flashWrites s = true → recordDone s = false → writesSure s = true → t.flash.events = s.flash.events ∧ t.flash.evValid = true ∧
        t.flash.recs.head?.map (fun r => r.kind) = some (if s.pwr.emerg = .thermCrit then 5 else 3)) ∧
      (flashWrites s = true → recordDone s = false → writesSure s = false →
        t.flash.events = s.flash.events.take n ++ ((s.flash.events.drop n).take 1).map (fun r => { r with crcOk := false })) ∧
      (flashWrites s = true → recordDone s = false → writesSure s = false → recOk = false → t.flash.evValid = false ∧ t.flash.recs = s.flash.recs))

/-- Each step of the start sequence does what R77 and R82 to R86 say and lets the next step begin (R77, R82, R83, R84, R85,
R86, R113, R243, R578). -/
def Obligations.StartSteps : Prop :=
  (∀ (s : State), ActsIf (starting s && ! s.boot.fuses) .fusesRead s [.pwr, .boot, .flags, .rsc, .mgt] fun t =>
      t.boot.fuses = true ∧
      (loadsFirmware s = false → t.pwr.run = .bootRom ∧ t.boot.phase = 0xF ∧ t.boot.nvmBusy = false) ∧
      (loadsFirmware s = true → t.pwr = s.pwr ∧ t.boot.phase = max s.boot.phase 7 ∧ (readsImage s = true → t.boot.imgState = 1) ∧
        (readsImage s = false → t.boot.imgDone = true ∧ t.boot.nvmBusy = false) ∧
        (prevPassed s = true → t.flags = s.flags) ∧ (prevPassed s = false → flagged .bistFlags .A 0 s t))) ∧
  (∀ (s : State), ActsIf (starting s && s.boot.fuses) .sramInitDone s [.boot, .mem] fun t =>
      t.boot = { s.boot with sram := true } ∧ t.mem.sram = [] ∧ (∀ p, p ∈ t.mem.poisoned ↔ p ∈ s.mem.poisoned ∧ ¬ p.1 < 8) ∧
        t.mem = { s.mem with sram := t.mem.sram, poisoned := t.mem.poisoned }) ∧
  (∀ (ok0 ok1 : Bool) (s : State), ActsIf (starting s && s.boot.fuses && ! s.boot.fw) (.firmwareAuthDone ok0 ok1) s [.free, .pwr, .boot, .flags, .rsc, .seenSec, .isls, .flow, .sec, .mgt] fun t =>
      (bankAuthentic s s.flash.active (if s.flash.active = 0 then ok0 else ok1) = true → t.boot.fw = true ∧ t.boot.bank = s.flash.active ∧ t.pwr = s.pwr ∧
        (t.sec.shakerOk = true → t.flags = s.flags) ∧ (t.sec.shakerOk = false → flagged .secFlags .A 0 s t)) ∧
      (bankAuthentic s s.flash.active (if s.flash.active = 0 then ok0 else ok1) = false → bankAuthentic s (1 - s.flash.active) (if 1 - s.flash.active = 0 then ok0 else ok1) = true →
        t.boot.fw = true ∧ t.boot.bank = 1 - s.flash.active ∧ t.pwr = s.pwr ∧ logged .aon 0x0301 (1 - s.flash.active) (packData [(8, Config.freeNat s.free)]) s t ∧
        (t.sec.shakerOk = true → reported .aon 0x0301 (1 - s.flash.active) (packData [(8, Config.freeNat s.free)]) .bootFlags .A 6 s t) ∧
        (t.sec.shakerOk = false → (getFlags t (Reg.addr .bootFlags .A 0 0)).getLsbD 6 = true ∧ (getFlags t (Reg.addr .secFlags .A 0 0)).getLsbD 0 = true)) ∧
      (bankAuthentic s s.flash.active (if s.flash.active = 0 then ok0 else ok1) = false → bankAuthentic s (1 - s.flash.active) (if 1 - s.flash.active = 0 then ok0 else ok1) = false →
        t.boot.fw = false ∧ t.pwr.run = .bootRom ∧ t.boot.bootRomFault = true)) ∧
  (∀ (s : State), ActsIf (starting s && s.boot.fw && ! s.boot.cal) .calRecordsChecked s [.boot, .flags, .rsc, .isls, .engA, .engB] fun t =>
      t.boot.cal = true ∧ 6 ≤ t.boot.phase ∧
      ∀ e rx, (∀ r, latestCal s (calIsl e rx) = some r → (getCal t e rx).coef = recTable rx r ∧ (getCal t e rx).tLast = recTLast r) ∧
        (latestCal s (calIsl e rx) = none →
          (getCal t e rx).coef = [] ∧ (getCal t e rx).again = true ∧ (getCal t e rx).trigger = 2)) ∧
  (∀ (s : State), ActsIf (starting s && s.boot.fuses && ! s.boot.dram) .dramReady s [.boot, .bist] fun t =>
      t.boot.dram = true ∧ (quickDue s = false → t.boot.phase = max s.boot.phase 9 ∧ t.bist = s.bist) ∧
      (quickDue s = true → t.boot.phase = max s.boot.phase 8 ∧ t.boot.quickRun = true ∧ t.bist.suite = 3 ∧ t.bist.quick = true ∧
        t.bist.suiteAt = s.clk.now ∧ t.bist.entries = [] ∧ t.bist.todo = testGroups.flatten)) ∧
  (∀ (s : State), ActsIf (starting s && s.boot.dram && ! s.boot.quickRun && ! s.boot.ctx) .contextInitDone s [.boot] fun t =>
      t.boot.ctx = true ∧ t.boot.phase = max (max s.boot.phase 10) (if s.boot.imgDone && s.boot.cal then 11 else 0) ∧ t.boot.imgDone = s.boot.imgDone ∧ t.boot.img = s.boot.img) ∧
  (∀ (s : State), ActsIf (powered s && s.boot.ctx) .dramInitDone s [.boot] fun t =>
      t = { s with boot := { s.boot with dramInit := true } })

/-- A copy of the image is taken, tried again or given up as R88 and R103 say, and the module becomes READY (R77, R88, R90,
R98, R102, R103, R109, R576, R577, R578, R579). The NOT_RUN of a STARTED record is the model's (notes/assumptions/18.md). -/
def Obligations.StartImage : Prop :=
  (∀ (copy : List Byte) (rd : FlashRead) (s : State), let p := copyPos s.boot.attempt
    let r := readCopy p.again p.second (s.boot.reads + 1) copy rd
      { s with boot := { s.boot with reads := s.boot.reads + 1, magic := s.boot.magic || decide (beAt copy 0 4 = imgMagic) } }
    ActsIf (starting s && s.boot.imgState = 1) (.imageCopyChecked copy rd) s [.free, .boot, .flags, .rsc, .isls, .engA, .engB, .engSt] fun t =>
      t.boot.reads = s.boot.reads + 1 ∧ t.boot.magic = (s.boot.magic || decide (beAt copy 0 4 = imgMagic)) ∧
      (∀ m, r.1 = some m → t.boot.img = some m ∧ t.boot.imgState = (if p.second then 3 else 2) ∧ t.boot.imgDone = true ∧ t.boot.nvmBusy = false ∧
        t.boot.paired = imgPaired m.recs ∧ t.boot.skipped = m.skipped ∧
        ∀ e, (getEng t e).enable = imgEnable m.recs e ∧ (getEng t e).st = (if imgEnable m.recs e then .waiting else .disabled)) ∧
      (r.1 = none → nextCopy p rd (r.2.1.getD 0) = none →
        t.boot.imgState = (if s.boot.magic || decide (beAt copy 0 4 = imgMagic) then 4 else 5) ∧ t.boot.imgDone = true ∧ t.boot.nvmBusy = false) ∧
      (r.1 = none → ∀ q, nextCopy p rd (r.2.1.getD 0) = some q → t.boot.attempt = q.num ∧ t.boot.imgState = 1 ∧ t.boot.imgDone = s.boot.imgDone)) ∧
  (∀ (s : State), ActsIf (starting s && s.boot.quickRun && ! s.boot.quickDone && s.bist.todo = []) .quickSuiteDone s [.free, .flash, .boot, .flags, .rsc, .isls, .engA, .engB, .bist] fun t =>
      t.boot.quickRun = false ∧ t.boot.quickDone = true ∧ t.boot.quickRan = true ∧ t.boot.phase = max s.boot.phase 9 ∧
      t.bist.quick = false ∧ t.bist.quickOverall = overallOf s.bist.entries (fun _ => false) ∧ t.bist.quickRec = t.flash.recs.head? ∧
      t.flash.recs.head?.map (fun r => (r.kind, r.suite, r.overall, r.entries)) = some (7, 3, overallOf s.bist.entries (fun _ => false), s.bist.entries) ∧
      t.flash.recs.tail = s.flash.recs.take 7 ∧
      ∀ e, (getEng t e).selfFail = s.bist.entries.any (fun y => testEng y.id = some e && y.result = resFail)) ∧
  (∀ (s : State), ActsIf (starting s && s.boot.sram && s.boot.fw && s.boot.imgDone && s.boot.cal && s.boot.ctx) .moduleReady s (Part.but [.pending, .status, .got, .clk, .upd, .bist, .fences, .steps, .bus, .incarns]) fun t =>
      t.pwr.run = .ready ∧ t.pins.ready = true ∧
      (∀ e, (getEng t e).st = (if (getEng s e).st ≠ .waiting then (getEng s e).st
        else if (getEng s e).selfFail || (getEng (applyImage s) e).illegal then .failed else .tuning)) ∧
      t.flash.recs.head?.map (fun r => (r.kind, r.overall)) = some (6, resNotRun) ∧ t.flash.recs.tail = s.flash.recs.take 7)

/-- An engine tunes, calibrates, ramps and serves traffic in the states of R109, and fails where a limit passes (R109, R110,
R111, R234, R236, R545). -/
def Obligations.EngineStart : Prop :=
  (∀ (e : Eng) (s : State), ActsIf (inService s && (getEng s e).st = .tuning) (.engineLasersLocked e) s [.engA, .engB, .engSt] fun t =>
      (getEng t e).st = .calibrating ∧ (getEng t e).down = { (getEng s e).down with sigLock := true, loLock := true } ∧ (getCal t e false).st = .due ∧ (getCal t e false).trigger = 2 ∧ getEng t e.other = getEng s e.other) ∧
  (∀ (e : Eng) (s : State), ActsIf (inService s && (getEng s e).st = .tuning) (.engineTuneTimeout e) s (Part.but [.pending, .status, .got, .pins, .clk, .flash, .regs, .bist, .steps, .bus, .incarns]) fun t =>
      (updOnTrial s = false → (getEng t e).st = .failed)) ∧
  (∀ (e : Eng) (s : State), ActsIf (inService s && (getEng s e).st = .calibrating && (getEng s e).calTx.st = .idle && ! (getEng s e).calTx.again) (.calibrationDone e) s [.free, .fuse, .boot, .flags, .rsc, .seenTurn, .seenSec, .isls, .engA, .engB, .aps, .ssets, .ctrs, .flow, .tally, .engSt] fun t =>
      (getEng t e).st = (if s.boot.paired && s.aps.work = some e.other && engServes s e.other then .standby else .ramping) ∧ (getEng t e.other).st = (getEng s e.other).st) ∧
  (∀ (e : Eng) (fuseOk : Bool) (s : State), ActsIf (inService s && rampDone s e) (.engineRampComplete e fuseOk) s [.free, .fuse, .boot, .flags, .rsc, .seenTurn, .seenSec, .isls, .engA, .engB, .aps, .ssets, .ctrs, .flow, .tally, .engSt] fun t =>
      (getEng t e).st = .trafficReady ∧ (getEng t e.other).st = (getEng s e.other).st ∧ t.boot.traffic = trafficNow t) ∧
  (∀ (e : Eng) (s : State), ActsIf (inService s && ((getEng s e).st = .tuning || (getEng s e).st = .calibrating || (getEng s e).st = .ramping)) (.engineStartTimeout e) s (Part.but [.pending, .status, .got, .pins, .clk, .flash, .regs, .bist, .steps, .bus, .incarns]) fun t =>
      (updOnTrial s = false → (getEng t e).st = .failed))

/-- A subcarrier group ramps on, settles and goes on or off in the states of R143, with its event and flag (R142, R143,
R144, R147, R153). -/
def Obligations.DownGroupStates : Prop :=
  (∀ (e : Eng) (v : W32) (s : State), Writes ((engWriteGate s e e.txd).worse (if (writeTargets s e).any (fun t => grpEnRefused s t v) then .errState else .ok)) (.dsGrpEnWrite e v) s [.status, .regs, .engA, .engB] fun t =>
      getReg t .dsGrpEn e 0 = v &&& 0xFF ∧
      (∀ g, g < 8 → grpEn s e g = v.getLsbD g → getGrp t e g = getGrp s e g) ∧
      (s.pwr.emerg ≠ .none → ∀ g, getGrp t e g = getGrp s e g) ∧
      (s.pwr.emerg = .none → ∀ g, g < 8 → grpEn s e g = true → v.getLsbD g = false →
        (((getGrp s e g).st = .off ∨ (getGrp s e g).st = .waiting) → (getGrp t e g).st = .off) ∧
        ((getGrp s e g).st = .rampOn → getGrp t e g = { getGrp s e g with st := .rampOff, env := (getGrp s e g).env.reverse s.clk.now }) ∧
        (((getGrp s e g).st = .settling ∨ (getGrp s e g).st = .on) → getGrp t e g = { getGrp s e g with st := .rampOff, env := .down s.clk.now (grpNs s e) })) ∧
      (s.pwr.emerg = .none → ∀ g, g < 8 → grpEn s e g = false → v.getLsbD g = true →
        ((getGrp s e g).st = .off → (getGrp t e g).st = (if lit s e && ! (getEng s e).down.offing then .waiting else .off)) ∧
        ((getGrp s e g).st = .rampOff → (getEng s e).down.offing = false →
          getGrp t e g = { getGrp s e g with st := .rampOn, env := (getGrp s e g).env.reverse s.clk.now }))) ∧
  (∀ (e : Eng) (g : Grp) (s : State), ActsIf (inService s && (getGrp s e g).st = .waiting && atMultiframe s e && lit s e) (.groupRampOnStart e g) s [.engA, .engB] fun t =>
      getGrp t e g = { getGrp s e g with st := .rampOn, env := .up s.clk.now (grpNs s e) } ∧ (∀ k, k < 4 → getScSt t e (4 * g + k) = { live := true, scr := scrambleInit (4 * g + k) }) ∧
      (∀ n, n ≠ (g : Nat) → getGrp t e n = getGrp s e n) ∧ getEng t e.other = getEng s e.other) ∧
  (∀ (e : Eng) (g : Grp) (s : State), ActsIf (inService s && (getGrp s e g).st = .rampOn && lit s e) (.groupEnvelopeFull e g) s [.engA, .engB] fun t =>
      getGrp t e g = { st := .settling, fullAt := (getEng s e).down.frames } ∧ (∀ n, n ≠ (g : Nat) → getGrp t e n = getGrp s e n) ∧ getEng t e.other = getEng s e.other) ∧
  (∀ (e : Eng) (g : Grp) (s : State), ActsIf (inService s && (getGrp s e g).st = .settling && atMultiframe s e && (getGrp s e g).fullAt + 8 ≤ (getEng s e).down.frames) (.dsGroupOn e g) s [.flags, .rsc, .isls, .engA, .engB] fun t =>
      getGrp t e g = { getGrp s e g with st := .on, env := {} } ∧ (∀ n, n ≠ (g : Nat) → getGrp t e n = getGrp s e n) ∧ getEng t e.other = getEng s e.other ∧
      reported e.txd 0x0401 (256 * e.num + 4 * g) (packData [(8, grpFmt s e g), (16, (getEng s e).down.frames % 65536)]) .dsFlags e 0 s t) ∧
  (∀ (e : Eng) (g : Grp) (s : State), ActsIf ((getGrp s e g).st = .rampOff && s.pwr.emerg = .none) (.dsGroupOff e g) s [.flags, .rsc, .isls, .engA, .engB] fun t =>
      getGrp t e g = {} ∧ (∀ n, n ≠ (g : Nat) → n ∈ dataGroups → getGrp t e n = getGrp s e n) ∧ getEng t e.other = getEng s e.other ∧
      ((getEng s e).down.offing = false → (getEng t e).down.laser = (getEng s e).down.laser ∧ ∀ n, n ≠ (g : Nat) → getGrp t e n = getGrp s e n) ∧
      ((getEng s e).down.offing = true → (∀ n, n ∈ dataGroups → n ≠ (g : Nat) → (getGrp s e n).st = .off) → (getEng s e).down.laser ≠ .dark →
        (getEng t e).down.laser = .rampingOff ∧ (getEng t e).down.offing = false) ∧
      reported e.txd 0x0402 (256 * e.num + 4 * g) (packData [(16, (getEng s e).down.frames % 65536)]) .dsFlags e 1 s t)

/-- The laser ramps on at a multiframe, lights the groups in use and goes dark with its event and flag, and each
FRAME_LAUNCH counts and forms one frame for each subcarrier that sends (R116, R118, R123, R124, R143, R145, R146, R153, R296). When the
frames of a standby engine begin, and which engine of a pair waits, are the model's (notes/assumptions/46.md, 158.md). -/
def Obligations.DownLaser : Prop :=
  (∀ (e : Eng) (s : State), ActsIf (inService s && (getEng s e).st = .ramping && (getEng s e).down.laser = .dark && atMultiframe s e) (.laserRampOnStart e) s [.engA, .engB] fun t =>
      (getEng t e).down.laser = .rampingOn ∧ (∀ g, g = 0 ∨ g = 4 → getGrp t e g = { getGrp s e g with st := .rampOn, env := .up s.clk.now (laserNs s e) }) ∧
      (∀ g, g ≠ 0 → g ≠ 4 → getGrp t e g = getGrp s e g) ∧ getEng t e.other = getEng s e.other) ∧
  (∀ (e : Eng) (s : State), ActsIf (inService s && (getEng s e).st = .ramping && (getEng s e).down.laser = .rampingOn) (.dsLaserOn e) s [.flags, .rsc, .isls, .engA, .engB] fun t =>
      (getEng t e).down.laser = .lit ∧ getEng t e.other = getEng s e.other ∧
      (∀ g, g = 0 ∨ g = 4 → (getGrp s e g).st = .rampOn → getGrp t e g = { st := .settling, fullAt := (getEng s e).down.frames }) ∧
      ((getEng s e).down.offing = false → ∀ g, g ∈ dataGroups → grpEn s e g = true → (getGrp s e g).st = .off → (getGrp t e g).st = .waiting) ∧
      (∀ g, g ∈ dataGroups → grpEn s e g = false → getGrp t e g = getGrp s e g) ∧
      reported e.txd 0x0403 (256 * e.num) (packData [(8, laserMs s e)]) .dsFlags e 2 s t) ∧
  (∀ (e : Eng) (s : State), ActsIf ((getEng s e).down.laser = .rampingOff && ! switchesOff s e) (.dsLaserOff e) s [.flags, .rsc, .isls, .engA, .engB] fun t =>
      (getEng t e).down.laser = .dark ∧ (∀ g, getGrp t e g = {}) ∧ (getEng t e).down.line = [] ∧ (getEng t e).down.dac = [] ∧ (getEng t e).down.hdr = [] ∧ (getEng t e).down.rdiWas = [] ∧ (getEng t e).down.frames = (getEng s e).down.frames ∧
      (getEng t e).st = (getEng s e).st ∧ getEng t e.other = getEng s e.other ∧ (getFlags t (Reg.addr .dsFlags e 0 0)).getLsbD 3 = true ∧
      ((s.pwr.emerg ≠ .none ∨ ((getGrp s e 0).st ≠ .rampOff ∧ (getGrp s e 4).st ≠ .rampOff)) →
        reported e.txd 0x0404 (256 * e.num) (packData [(8, if s.pwr.emerg = .none then laserMs s e else 1)]) .dsFlags e 3 s t)) ∧
  (∀ (e : Eng) (s : State), ActsIf (mayLaunch s e) (.frameLaunch e) s [.free, .engA, .engB, .aps, .leaves, .ssets, .ctrs, .flow, .tally] fun t =>
      (getEng t e).down.framer = true ∧ ((getEng s e).down.framer = true → (getEng t e).down.frames = (getEng s e).down.frames + 1) ∧
      ((getEng s e).down.framer = false → (getEng t e).down.frames =
        1 + (if s.boot.paired && (getEng s e.other).down.framer then (getEng s e.other).down.frames else 0)) ∧
      (let u := startLockstep e (startFramer e s)
       (getEng t e).down.line.map (fun p => p.1) = (List.range 32).filter (fun n => scRuns u e n && grpSends u e (n / 4))) ∧
      (∀ p, p ∈ (getEng t e).down.line → p.2.centre2 = centre2 (getReg s .usTreeDs e 0).toNat p.1 ∧ p.2.start = s.clk.now ∧
        p.2.syms.length = 8320 ∧ p.2.syms.take 96 = (List.range 96).map (fun k => symOf 0 (markerSymbol p.1 k))))

/-- A burst receiver opens its gates, detects, synchronises and falls back in the states of R185 (R170, R171, R172, R173,
R174, R175, R176, R177, R185, R186, R230). -/
def Obligations.BurstReception : Prop :=
  (∀ (e : Eng) (sc : Sc) (w : Window) (ws : List RxWord) (s : State), Hears e ws (fun u => rxUp u e && (windowOf u e sc w).isSome && (! (getBrx u e sc).gates.any (fun g => g.w = w) || ((getBrx u e sc).st = .closed && noted (getBrx u e sc) w))) (.brxGateOpen e sc w ws) s [.flags, .rsc, .seenTurn, .isls, .engA, .engB, .leaves, .tally] fun u t =>
      (let x := getBrx u e sc
       let y := getBrx t e sc
       let b := gateBounds u e w
       (x.st = .closed → noted x w = false → max x.pos b.1 < b.2 → y.st = .armed ∧ y.pos = max x.pos b.1) ∧ (x.st ≠ .closed → y.st = x.st) ∧ (noted x w = true → y.gates = x.gates) ∧
       (noted x w = false → y.gates = x.gates ++ [{ w := w, lo := b.1, hi := b.2, shift := windowShift u e, idle := (windowOf u e sc w).getD false, margin := marginOf u e w, pre := presetsFor u e sc w, cfgW := getReg u .brxCfg e 0, agcW := getReg u .brxAgc e 0 }] ∧
         y.noise = (if openGates x = [] then inputReading (rmsMean x.rms) else x.noise)) ∧ ((receiving x = true ∨ x.cap = none) → getEng t e.other = getEng u e.other))) ∧
  (∀ (e : Eng) (sc : Sc) (s : State), ActsIf (rxUp s e && (openGates (getBrx s e sc) ≠ [] || ((getBrx s e sc).st = .armed && (getBrx s e sc).replay.isSome))) (.brxGateClose e sc) s [.flags, .rsc, .seenTurn, .isls, .engA, .engB, .leaves, .tally] fun t =>
      (∀ g, g ∈ (getBrx t e sc).gates → (openGates (getBrx s e sc)).head?.map (fun g => g.w) = some g.w → g.closed = true) ∧
      ((getBrx s e sc).st = .armed → (openGates (getBrx s e sc)).length = 1 → (getBrx s e sc).replay = none → (getBrx t e sc).st = .closed) ∧
      (openGates (getBrx s e sc) = [] → (getBrx t e sc).st = .closed ∧ (getBrx t e sc).replay = none) ∧ (receiving (getBrx s e sc) = true → (getBrx t e sc).st = (getBrx s e sc).st)) ∧
  (∀ (e : Eng) (sc : Sc) (ws : List RxWord) (s : State), Hears e ws (fun u => rxUp u e && (getBrx u e sc).st = .armed && (detectAt (getBrx u e sc)).isSome) (.burstDetected e sc ws) s [.flags, .rsc, .seenTurn, .isls, .engA, .engB, .leaves, .tally] fun u t =>
      (let x := getBrx u e sc
       let y := getBrx t e sc
       ∀ d g, detectAt x = some d → gateAt x d = some g → y.st = .spec ∧ y.d = d ∧ y.pos = d ∧ y.win = some g.w ∧ y.cur = {} ∧ y.bytes = [] ∧ y.eq = g.pre.taps ∧ y.snapFofs = g.pre.fofs ∧ y.fofs = g.pre.fofs ∧
         y.cfgW = g.cfgW ∧ y.level = (x.sym d).env ∧
         (let z := if (loopTo x (d + 1)).gate.map (fun g => g.w) = some g.w then x else loadPresets g x
          y.snapGain = (loopTo z (d - 15)).gain ∧ y.gain = (loopTo z (d + 1)).gain))) ∧
  (∀ (e : Eng) (sc : Sc) (ws : List RxWord) (s : State), Hears e ws (fun u => rxUp u e && (getBrx u e sc).st = .spec && (syncFind (getBrx u e sc)).isSome) (.syncMatch e sc ws) s [.engA, .engB] fun u t =>
      (let x := getBrx u e sc
       let y := getBrx t e sc
       ∀ m w, syncFind x = some m → x.win = some w → y.st = .header ∧ y.k = m.k ∧ y.falseRun = 0 ∧ y.fofs = (if freqEnd x < m.k then x.snapFofs + freqEstimate x else x.snapFofs) ∧ y.eq = m.taps ∧
         y.arr = arrivalSymbol u e sc m.k ∧ y.cur.power = syncPower x m.k ∧ y.cur.fofs = y.fofs ∧ y.cur.syncErrs = syncErrs (syncSeen m.syms) ∧ y.cur.falseRun = x.falseRun ∧ y.cur.sc = sc ∧ y.cur.eng = e.num ∧
         (tget {} (getEng t e).turns (turnNo w)).sync = true ∧ getEng t e.other = getEng u e.other)) ∧
  (∀ (e : Eng) (sc : Sc) (ws : List RxWord) (s : State), Hears e ws (fun u => rxUp u e && (getBrx u e sc).st = .spec && (getBrx u e sc).d + syncReach + 4 < topSym (getBrx u e sc) && syncFind (getBrx u e sc) = none) (.syncDeadlineMiss e sc ws) s [.flags, .rsc, .seenTurn, .isls, .engA, .engB, .leaves, .tally] fun u t =>
      ((getBrx t e sc).st = .closed ∨ (getBrx t e sc).st = .armed) ∧ ((getBrx u e sc).falseRun < 2 → (getBrx t e sc).pos = (getBrx u e sc).d + 16) ∧
      (2 ≤ (getBrx u e sc).falseRun → (getFlags t (Reg.addr .brxFlags e 0 0)).getLsbD 0 = true)) ∧
  (∀ (e : Eng) (sc : Sc) (ws : List RxWord) (s : State), Hears e ws (fun u => rxUp u e && (getBrx u e sc).st = .waitFall && (fallAt (getBrx u e sc)).isSome) (.burstFall e sc ws) s [.flags, .rsc, .seenTurn, .isls, .engA, .engB, .leaves, .tally] fun u t =>
      ((getBrx t e sc).st = .closed ∨ (getBrx t e sc).st = .armed) ∧ (openGates (getBrx u e sc) = [] → (getBrx u e sc).replay = none → (getBrx t e sc).st = .closed))

/-- Header, blocks, end and collisions of a burst give the record of R191, and held bursts are released (R161, R167, R176, R179, R180, R183, R187, R188, R191, R192, R264, R265). -/
def Obligations.BurstPayload : Prop :=
  (∀ (e : Eng) (sc : Sc) (ws : List RxWord) (s : State), Hears e ws (fun u => rxUp u e && (getBrx u e sc).st = .header && (curGate (getBrx u e sc)).isSome && (getBrx u e sc).k + 68 < topSym (getBrx u e sc)) (.headerChecked e sc ws) s [.flags, .rsc, .seenTurn, .isls, .engA, .engB, .aps, .leaves, .ssets, .tally] fun u t =>
      (let r := readHeader (getBrx u e sc)
       let y := getBrx t e sc
       (hdrCrcOk r.hdr = false → y.st = .waitFall ∧ y.last.outcome = outHdrBad) ∧
       let v := headerRead e sc u
       (∀ g, curGate (getBrx u e sc) = some g → hdrCrcOk r.hdr = true → headerOk v e (getBrx v e sc) g r.hdr = false →
         y.st = .waitFall ∧ y.last.outcome = outMalformed) ∧
       (∀ g, curGate (getBrx u e sc) = some g → hdrCrcOk r.hdr = true → headerOk v e (getBrx v e sc) g r.hdr = true →
         (y.st = .payload ∧ y.cur.leaf = hdrLeaf r.hdr ∧ y.cur.kind = hdrKind r.hdr ∧ y.cur.fmt = hdrFmt r.hdr ∧ y.cur.ssn = hdrSsn r.hdr ∧
           y.cur.blocks = hdrBlocks r.hdr ∧ y.cur.snr = r.snr ∧ y.scr = burstSeed (hdrLeaf r.hdr) (hdrSsn r.hdr) ∧ y.phase = r.phase ∧ y.eq = r.taps)))) ∧
  (∀ (e : Eng) (sc : Sc) (ws : List RxWord) (s : State), Hears e ws (fun u => rxUp u e && (getBrx u e sc).st = .payload && (getBrx u e sc).blk < hdrBlocks (getBrx u e sc).hdr && blockEnd (getBrx u e sc) (getBrx u e sc).blk + 31 < topSym (getBrx u e sc) && ! risePending (getBrx u e sc) (blockEnd (getBrx u e sc) (getBrx u e sc).blk)) (.blockDecoded e sc ws) s [.free, .flags, .rsc, .seenTurn, .isls, .engA, .engB, .leaves, .flow, .sec, .mem, .tally] fun u t =>
      (let x := getBrx u e sc
       let y := getBrx t e sc
       let q := decodeNext x
       y.blk = x.blk + 1 ∧ y.cur.failed = x.cur.failed + b01 (! q.good) ∧ y.cur.corrected = x.cur.corrected + (if q.good then q.corrected else 0) ∧
       y.st = .payload ∧ y.phase = q.phase ∧ y.eq = q.taps ∧ y.tail = q.tail ∧
       (q.good = true → y.bytes = x.bytes ++ (scrambleBytes x.scr q.data).2.map .got) ∧ (q.good = false → y.bytes = x.bytes ++ List.replicate blockBytes (.lost .block)))) ∧
  (∀ (e : Eng) (sc : Sc) (s : State), ActsIf (rxUp s e && (getBrx s e sc).st = .payload && (getBrx s e sc).blk = hdrBlocks (getBrx s e sc).hdr) (.burstEnd e sc) s [.flags, .rsc, .seenTurn, .isls, .engA, .engB, .leaves, .tally] fun t =>
      (getBrx t e sc).last = { (getBrx s e sc).cur with outcome := if (getBrx s e sc).cur.failed ≠ 0 then outPartial else outGood } ∧ ((getBrx t e sc).st = .closed ∨ (getBrx t e sc).st = .armed)) ∧
  (∀ (e : Eng) (sc : Sc) (c0 : Int) (ws : List RxWord) (s : State), Hears e ws (fun u => rxUp u e && receiving (getBrx u e sc) && (curGate (getBrx u e sc)).isSome && riseOnset (getBrx u e sc) c0) (.captureRise e sc c0 ws) s [.free, .flags, .rsc, .seenTurn, .isls, .engA, .engB, .leaves, .flow, .sec, .mem, .tally] fun u t =>
      (let x := getBrx u e sc
       let y := getBrx t e sc
       ∀ g, curGate x = some g → ((x.sym (c0 + 31)).env < x.level + 100 * fld x.cfgW 19 16 → y.rises = x.rises ++ [(c0, windowLeafAt x c0)] ∧ y.st = x.st) ∧
         (x.level + 100 * fld x.cfgW 19 16 ≤ (x.sym (c0 + 31)).env → y.st = .armed ∧ y.replay = some (c0, g.w) ∧ y.win = none ∧ y.pos = c0))) ∧
  (∀ (e : Eng) (l : LeafId) (s : State), ActsIf (inService s && (getRx s e l).cur = none && ((getRx s e l).held.find? (fun g => g.done)).isSome) (.ssnHoldTimeout e l) s [.free, .flags, .rsc, .seenTurn, .isls, .engA, .engB, .leaves, .flow, .sec, .mem, .tally] fun t =>
      ∀ g n, (getRx s e l).held = [g] → (getRx s e l).wait = [] → (getRx s e l).lose = none → (getRx s e l).next = some n → n < 65536 → g.ssn < 65536 →
        (getRx t e l).held = [] ∧ (getRx t e l).next = some ((g.ssn + 1) % 65536))

/-- A calibration run goes through the states of R237, with its records, flags and counts, and its result is stored as R242
says (R236, R237, R238, R241, R242, R246, R247, R248). -/
def Obligations.CalibrationRuns : Prop :=
  (∀ (e : Eng) (rx : Bool) (temp : Int) (s : State), ActsIf (inService s) (.calTempCheck e rx temp) s [.engA, .engB] fun t =>
      getEng t e.other = getEng s e.other ∧
      (getCal t e rx = if (getCal s e rx).st = .idle ∧ (getCal s e rx).holdTo ≤ s.clk.now ∧
          ((getCal s e rx).again = true ∨ 16 * (regF s .calCfg e 0 4 0 : Int) < (temp - (getCal s e rx).tLast).natAbs) then
        { getCal s e rx with st := .due, trigger := if (getCal s e rx).again then (getCal s e rx).trigger else 0, again := false } else getCal s e rx)) ∧
  (∀ (e : Eng) (rx : Bool) (temp : Int) (s : State), ActsIf (inService s && (getCal s e rx).st = .due && calEligible s e rx) (.calRunStart e rx temp) s [.isls, .engA, .engB] fun t =>
      getCal t e rx = { getCal s e rx with st := .collect, iter := 1, tRun := temp, partialRun := false, snap := (getEng s e).sums, runMs := regF s .calCfg e 0 17 8, minLvl := regF s .calCfg e 0 28 24, sent := (getEng s e).down.dac } ∧ getEng t e.other = getEng s e.other ∧
      recorded (calIsl e rx) 0x0601 (engObjId e) (packData [(8, (getCal s e rx).trigger), (16, temp)]) s t) ∧
  (∀ (e : Eng) (rx : Bool) (ws : List RxWord) (mon : List MonWord) (s : State), Hears e ws (fun u => inService u && (getCal u e rx).st = .collect && (getCal u e rx).runMs * wordsPerMs ≤ qualifiedWords u e rx mon) (.calCollectDone e rx ws mon) s [.flags, .rsc, .isls, .engA, .engB, .tally] fun u t =>
      (getCal t e rx).st = .step ∧ (getEng t e).st = (getEng u e).st ∧ (getCal t e rx).iter = (getCal u e rx).iter ∧ (getCal t e rx).tLast = (getCal u e rx).tLast ∧ getEng t e.other = getEng u e.other) ∧
  (∀ (e : Eng) (ws : List RxWord) (s : State), Hears e ws (fun u => inService u && (getCal u e true).st = .collect && qualifiedWords u e true [] < (getCal u e true).runMs * wordsPerMs) (.calStarved e ws) s [.flags, .rsc, .isls, .engA, .engB, .tally] fun u t =>
      (getCal t e true).st = .step ∧ (getCal t e true).partialRun = true ∧ (getCal t e true).holdTo = s.clk.now + 60000000000 ∧ (getFlags t (Reg.addr .calFlags e 0 0)).getLsbD 1 = true ∧ getEng t e.other = getEng u e.other) ∧
  (∀ (e : Eng) (rx : Bool) (s : State), ActsIf (inService s && (getCal s e rx).st = .step && stepReached s e rx) (.calStepDone e rx) s [.flags, .rsc, .isls, .engA, .engB, .tally] fun t =>
      (let c := getCal s e rx
       (c.converged = false → c.iter < 8 → getCal t e rx = { c with st := .collect, iter := c.iter + 1, snap := (getEng s e).sums, runMs := regF s .calCfg e 0 17 8, minLvl := regF s .calCfg e 0 28 24, sent := (getEng s e).down.dac } ∧ t.flags = s.flags) ∧
       ((c.converged = true ∨ 8 ≤ c.iter) → (getCal t e rx).st = (if c.noted then .due else .idle) ∧ (getCal t e rx).iter = 0 ∧ (getCal t e rx).pend = true ∧
         (getCal t e rx).tLast = (if c.partialRun then c.tLast else c.tRun) ∧ (getCal t e rx).coef = c.coef ∧ (getCal t e rx).res = c.coef ∧
         reported (calIsl e rx) 0x0602 (engObjId e) (packData [(8, c.iter), (16, if c.partialRun then c.tLast else c.tRun), (8, b01 c.partialRun)]) .calFlags e 0 s t ∧
         counted 6 (calTally e rx) (if c.partialRun then 1 else 0) 1 s t)) ∧ getEng t e.other = getEng s e.other) ∧
  (∀ (e : Eng) (rx ok : Bool) (s : State), ActsIf (powered s && s.pwr.emerg ≠ .powerFail && (getCal s e rx).pend && (match tget none s.flash.calWr (calIsl e rx).row with | none => true | some u => u + 600000000000 ≤ (s.clk.now : Int))) (.calRecordWrite e rx ok) s [.flash, .flags, .rsc, .isls, .engA, .engB] fun t =>
      (getCal t e rx).pend = false ∧ tget none t.flash.calWr (calIsl e rx).row = some (s.clk.now : Int) ∧ (getCal t e rx).coef = (getCal s e rx).coef ∧ getEng t e.other = getEng s e.other ∧
      (ok = true → t.flags = s.flags ∧ calRecs t (calIsl e rx) = (CalRec.bytes (calIsl e rx) rx
          { seq := (match calRecs s (calIsl e rx) with | [] => 0 | r :: _ => (recSeq r + 1) % 2 ^ 32), tLast := (getCal s e rx).tLast, sec := s.clk.sec % 2 ^ 32
            coef := fun n => (tget none (getCal s e rx).res n).getD (coefFactory e rx n) } :: calRecs s (calIsl e rx)).take 64) ∧
      (ok = false → t.flash = { s.flash with calWr := tset none s.flash.calWr (calIsl e rx).row (some (s.clk.now : Int)) } ∧ flagged .calFlags e 3 s t))

/-- The commands of CAL_CTL request runs, a subcarrier run replaces the two presets of its subcarrier, and the front-end
gain moves once a turn (R204, R205, R235, R237, R245, R247, R548). The ends of the gain range, the numbering of the kinds, the engine states in
which the loop runs and a preset without bursts are the model's (notes/assumptions/12.md, 167.md, 168.md, 170.md). -/
def Obligations.CalibrationCommands : Prop :=
  (∀ (e : Eng) (s : State), Writes (engWriteGate s e e.rxc) (.calRunRx e) s [.status, .engA, .engB] fun t =>
      getCal t e true = (match (getCal s e true).st with | .idle => { getCal s e true with st := .due, trigger := 1 } | .step => { getCal s e true with noted := true } | .due | .collect => getCal s e true) ∧
      getCal t e false = getCal s e false ∧ getEng t e.other = getEng s e.other) ∧
  (∀ (e : Eng) (s : State), Writes (engWriteGate s e e.txc) (.calRunTx e) s [.status, .engA, .engB] fun t =>
      getCal t e false = (match (getCal s e false).st with | .idle => { getCal s e false with st := .due, trigger := 1 } | .step => { getCal s e false with noted := true } | .due | .collect => getCal s e false) ∧
      getCal t e true = getCal s e true ∧ getEng t e.other = getEng s e.other) ∧
  (∀ (e : Eng) (sc : Sc) (s : State), Writes ((engWriteGate s e e.txc).worse (if scGoRefused s e then .errState else .ok)) (.calScGo e sc) s [.status, .engA, .engB] fun t =>
      (getEng t e).scReq = sc ∧ (getEng t e).scBusy = true ∧ (getEng t e).scRun = false ∧ getEng t e.other = getEng s e.other) ∧
  (∀ (e : Eng) (s : State), ActsIf (inService s && (getEng s e).scBusy && ! (getEng s e).scRun && (getEng s e).calTx.st ≠ .collect && (getEng s e).calTx.st ≠ .step) (.calScRunStart e) s [.engA, .engB] fun t =>
      getEng t e = { getEng s e with scRun := true } ∧ getEng t e.other = getEng s e.other) ∧
  (∀ (e : Eng) (pre : Int) (s : State), ActsIf (inService s && (getEng s e).scRun) (.calScDone e pre) s [.flags, .rsc, .isls, .engA, .engB, .tally] fun t =>
      (getEng t e).scBusy = false ∧ (getEng t e).scRun = false ∧ coefNow t e false (8 + (getEng s e).scReq) = clamp (-600) 600 pre ∧
      ((tget [] (getEng s e).pwrs (getEng s e).scReq) ≠ [] → coefNow t e true (774 + (getEng s e).scReq) = meanOf (tget [] (getEng s e).pwrs (getEng s e).scReq)) ∧
      ((tget [] (getEng s e).pwrs (getEng s e).scReq) = [] → coefNow t e true (774 + (getEng s e).scReq) = coefNow s e true (774 + (getEng s e).scReq)) ∧
      getEng t e.other = getEng s e.other ∧
      (clamp (-600) 600 pre = pre → flagged .calFlags e 4 s t ∧ t.tally = s.tally) ∧
      (let n := 8 + (getEng s e).scReq
       clamp (-600) 600 pre ≠ pre → (getFlags t (Reg.addr .calFlags e 0 0)).getLsbD 4 = true ∧ (getFlags t (Reg.addr .calFlags e 0 0)).getLsbD 2 = true ∧
         counted 6 (calTally e false) 3 1 s t ∧
         logged e.txc 0x0604 (engObjId e) (packData [(8, (coefKind false n).kind), (8, (coefPlace false n).1), (8, (coefPlace false n).2)]) s t)) ∧
  (∀ (e : Eng) (adc : Fin 4) (ws : List RxWord) (s : State), Hears e ws (fun u => inService u && ((getEng u e).st = .trafficReady || (getEng u e).st = .standby)) (.feGainTurnUpdate e adc ws) s [.flags, .rsc, .seenSec, .isls, .engA, .engB, .tally] fun u t =>
      (let x := tget {} (getEng u e).inp.adc adc.val
       (x.n = 0 → tget 0 (getEng t e).feGain adc.val = tget 0 (getEng u e).feGain adc.val) ∧
       (ctlRuns u e.rxc = false → tget 0 (getEng t e).feGain adc.val = tget 0 (getEng u e).feGain adc.val) ∧
       (ctlRuns u e.rxc = true → x.n ≠ 0 → tget 0 (getEng t e).feGain adc.val = clamp 0 3000 (tget 0 (getEng u e).feGain adc.val + clamp (-5) 5 (-(100 * (regF u .usFeCfg e 0 12 8 : Int)) - x.rms))) ∧
       tget {} (getEng t e).inp.adc adc.val = {} ∧ (∀ k, k ≠ adc.val → tget 0 (getEng t e).feGain k = tget 0 (getEng u e).feGain k) ∧ counted 5 (4 * e.num + adc.val) 0 x.clips u t))

/-- APR reduces and restores the launch power with its flag (R591, R593, R594). The part of the amplitude that is left is open up to the one
for +10 dBm (notes/assumptions/250.md). -/
def Obligations.PowerReduction : Prop :=
  (∀ (e : Eng) (refl : Int) (s : State), ActsIf (alive s && boosterOn s e && (getEng s e).down.apr ≠ 1 && -2000 < refl) (.aprReduce e refl) s [.free, .flags, .rsc, .seenTurn, .seenSec, .isls, .engA, .engB, .aps, .ssets, .tally] fun t =>
      (getEng t e).down.apr = 1 ∧ (getEng t e).down.refl = refl ∧ flagged .dsOptFlags e 0 s t ∧
      (getEng t e).down.aprEnv = { st := 1, low := (Config.freeNat s.free % (aprCap + 1) : Nat), since := s.clk.now, dur := 100000000 }) ∧
  (∀ (e : Eng) (refl : Int) (s : State), ActsIf (alive s && boosterOn s e && (getEng s e).down.apr = 1 && refl ≤ -2400) (.aprRestoreStart e refl) s [.free, .seenTurn, .isls, .engA, .engB, .aps, .ssets, .tally] fun t =>
      (getEng t e).down.apr = 2 ∧ (getEng t e).down.refl = refl ∧ t.flags = s.flags ∧
      (getEng t e).down.aprEnv = { (getEng s e).down.aprEnv with st := 2, since := s.clk.now, dur := laserNs s e }) ∧
  (∀ (e : Eng) (refl : Int) (s : State), ActsIf (alive s && boosterOn s e && (getEng s e).down.apr = 2) (.aprRestoreDone e refl) s [.free, .flags, .rsc, .seenTurn, .seenSec, .isls, .engA, .engB, .aps, .ssets, .tally] fun t =>
      (getEng t e).down.apr = 0 ∧ (getEng t e).down.refl = refl ∧ flagged .dsOptFlags e 1 s t ∧ (getEng t e).down.aprEnv = {})

/-- A slot set and a container change at the announced boundary, and are refused where R260 says (R258, R259, R260, R292,
R295, R465). That PROFILE above 1,023 is refused and that a word with V 0 holds no slots is the model's (notes/assumptions/36.md,
195.md). -/
def Obligations.SlotSetsAndContainers : Prop :=
  (∀ (e : Eng) (ss : SsetIx) (w : Fin 8) (v : W32) (s : State), Writes ((engWriteGate s e e.txd).worse (if ssetRefused s e ss w (v &&& 0x801FFFFF) then .errState else .ok)) (.frmSsetWrite e ss w v) s [.status, .engA, .engB, .ssets] fun t =>
      (framerRuns s e = true → getSset t e ss = { getSset s e ss with newWords := tset 0 (getSset s e ss).words w (v &&& 0x801FFFFF), pend := true, effFn := boundaryAfter (treeFrames s e) % 65536, effFrame := boundaryAfter (treeFrames s e) }) ∧
      (framerRuns s e = false → getSset t e ss = { getSset s e ss with words := tset 0 (getSset s e ss).words w (v &&& 0x801FFFFF), newWords := tset 0 (getSset s e ss).words w (v &&& 0x801FFFFF) } ∧ t.engA = s.engA ∧ t.engB = s.engB) ∧
      (∀ n, n ≠ (ss : Nat) → getSset t e n = getSset s e n)) ∧
  (∀ (e : Eng) (ss : SsetIx) (s : State), ActsIf (inService s && (getSset s e ss).pend && (getSset s e ss).effFrame ≤ treeFrames s e) (.frmSsetDone e ss) s [.flags, .rsc, .seenTurn, .isls, .ssets] fun t =>
      getSset t e ss = { getSset s e ss with words := (getSset s e ss).newWords, pend := false, effFn := 0, effFrame := 0 } ∧
      (∀ n, n ≠ (ss : Nat) → getSset t e n = getSset s e n) ∧
      ((0x0705, ssetObjId (treeEng s e) ss, turnKey s (treeEng s e)) ∉ s.seenTurn →
        reported (treeEng s e).txd 0x0705 (ssetObjId (treeEng s e) ss) (packData [(16, (getSset s e ss).effFn)]) .frmFlags (treeEng s e) 8 s t)) ∧
  (∀ (e : Eng) (c : Cid) (w : Fin 2) (v : W32) (s : State), Writes ((engWriteGate s e e.txd).worse (if w.val = 0 then (if ctrRefused s e c (v &&& 0xFFFF01FF) then .errState else .ok) else (if 1023 < fld v 15 0 then .errState else .ok))) (.frmCtrWrite e c w v) s [.status, .engA, .engB, .ssets, .ctrs, .flow] fun t =>
      (w.val = 0 → (getCtr t e c).w0 = v &&& 0xFFFF01FF ∧ (getCtr t e c).profile = (getCtr s e c).profile ∧
        (mcastOn (v &&& 0xFFFF01FF) = false → (getCtr t e c).share = false) ∧
        (mcastOn (v &&& 0xFFFF01FF) = true → mcastOn (getCtr s e c).w0 = true → (getCtr t e c).share = (getCtr s e c).share)) ∧
      (w.val ≠ 0 → getCtr t e c = { getCtr s e c with profile := v &&& 0xFFFF }) ∧ (∀ n, n ≠ (c : Nat) → getCtr t e n = getCtr s e n)) ∧
  (∀ (e : Eng) (c : Cid) (s : State), ActsIf (inService s && (getCtr s e c).pend && (getCtr s e c).effFrame ≤ treeFrames s e) (.containerChangeEffective e c) s [.ssets, .ctrs] fun t =>
      getCtr t e c = { getCtr s e c with pend := false, effFn := 0, effFrame := 0, ssetNow := ctrSset (getCtr s e c).w0 } ∧
      (∀ n, n ≠ (c : Nat) → getCtr t e n = getCtr s e n))

/-- A switch between engines runs through its notice, ramp off, ramp on and settling as R283 to R286 say (R274, R283, R284,
R285, R286, R290). The one offset of the standby engine and the median of an even number are the model's (notes/assumptions/164.md, 31.md). -/
def Obligations.ProtectionSwitch : Prop :=
  (∀ (e : Eng) (input : Int) (s : State), ActsIf (inService s && ((getEng s e).st = .trafficReady || (getEng s e).st = .standby) && ! turnOpen (getEng s e) (turnDue (getEng s e)).1) (.engineDefectTurnEval e input) s [.flags, .rsc, .seenTurn, .isls, .engA, .engB, .aps, .leaves, .ssets, .mgt, .tally] fun t =>
      (let d := turnDue (getEng s e)
       (getEng t e).turns = (getEng s e).turns.tail ∧ (getEng t e).turnPrev = { d.2 with no := d.1 + 1 } ∧
       (getEng t e).ratioTurns = (if d.2.blocks < 1000 * d.2.failedBlocks ∧ s.boot.paired = true ∧ ratioLow (turnSeen (getEng s e.other) d.1) = true then (getEng s e).ratioTurns + 1 else 0))) ∧
  (∀ (e : Eng) (sd : Bool) (s : State), ActsIf (inService s && (if sd then (getEng s e).sdWait && sdCause s e else (getEng s e).sfWait && sfCause s e)) (.sfSdHoldoffExpiry e sd) s [.seenTurn, .isls, .engA, .engB, .aps, .ssets, .tally] fun t =>
      (sd = true → (getEng t e).sdHeld = true ∧ (getEng t e).sdWait = false) ∧ (sd = false → (getEng t e).sfHeld = true ∧ (getEng t e).sfAt = s.clk.now ∧ (getEng t e).sfWait = false)) ∧
  (∀ (e : Eng) (cause : TxCause) (s : State), ActsIf (inService s) (.transmitFault e cause) s [.free, .seenTurn, .isls, .engA, .engB, .aps, .ssets, .tally] fun t =>
      (cause = .laser → (getEng t e).down.laserFault = true ∧ ((getEng t e).down.sigLock && (getEng t e).down.loLock) = false) ∧ (cause = .booster → (getEng t e).down.boosterFault = true)) ∧
  (∀ (e : Eng) (cause : TxCause) (s : State), ActsIf (inService s) (.transmitFaultClear e cause) s [.free, .seenTurn, .isls, .engA, .engB, .aps, .ssets, .tally] fun t =>
      (cause = .laser → (getEng t e).down.laserFault = false) ∧ (cause = .booster → (getEng t e).down.boosterFault = false)) ∧
  (∀ (s : State), ActsIf (inService s && s.aps.st = 2 && s.aps.notice) .apsPlannedNoticeDone s [.engA, .engB, .aps] fun t =>
      (∀ w, s.aps.work = some w → t.aps = { s.aps with notice := false } ∧ getEng t w.other = getEng s w.other ∧
        (getEng t w).down.laser = (if (getEng s w).down.laser = .dark then .dark else .rampingOff))) ∧
  (∀ (s : State), ActsIf (inService s && s.aps.st = 2 && ! s.aps.notice && ! s.aps.rampOn) .apsRampOffDone s [.engA, .engB, .aps] fun t =>
      (∀ w, s.aps.work = some w → s.aps.target = some w.other → t.aps = { s.aps with rampOn := true } ∧
        (getEng t w).down = { (getEng s w).down with laser := .dark, grp := [], env := {}, hdr := [], line := [], dac := [], zeros := 0, aisWas := false, rdiAllWas := false, rdiWas := [] } ∧
        (getEng t w.other).down.laser = .rampingOn ∧ (getEng t w.other).down.env = .up s.clk.now (switchNs s) ∧
        (∀ g, g < 8 → (getGrp t w.other g).st = (if grpEn s w.other g then .rampOn else (getGrp s w.other g).st)))) ∧
  (∀ (s : State), ActsIf (inService s && s.aps.st = 2 && s.aps.rampOn) .apsNewEngineFullPower s [.free, .fuse, .boot, .flags, .rsc, .seenSec, .isls, .engA, .engB, .aps, .engSt] fun t =>
      (∀ w, s.aps.work = some w → s.aps.target = some w.other →
        t.aps = { s.aps with work := some w.other, st := 3, rampOn := false, ofs := s.aps.ofs + 2 * s.aps.dup, errs := [] } ∧
        (getEng t w.other).st = (if (getEng s w.other).st = .standby then .trafficReady else (getEng s w.other).st) ∧
        (getEng t w).st = (if (getEng s w).st = .trafficReady then .standby else (getEng s w).st))) ∧
  (∀ (s : State), ActsIf (inService s && s.aps.st = 3 && 64 ≤ s.aps.errs.length) .apsCommonOffsetApplied s [.flags, .rsc, .seenTurn, .isls, .engA, .engB, .aps, .leaves, .ssets, .ctrs, .flow, .tally] fun t =>
      (∀ w, s.aps.work = some w → t.aps.work = some w ∧ t.aps.ofs = medianOf ((s.aps.errs.reverse.take 64).map (fun p => p.2)) ∧
        t.aps.lastUs = (s.clk.now - s.aps.since) / 1000 ∧ t.aps.errs = [])) ∧
  (∀ (s : State), ActsIf (inService s && s.aps.st = 3 && s.aps.errs.length < 64) .apsSettleTimeout s [.flags, .rsc, .seenTurn, .isls, .engA, .engB, .aps, .leaves, .ssets, .ctrs, .flow, .tally] fun t =>
      (∀ w, s.aps.work = some w → t.aps.work = some w ∧ t.aps.ofs = s.aps.ofs ∧ t.aps.lastUs = (s.clk.now - s.aps.since) / 1000 ∧ t.aps.errs = [])) ∧
  (∀ (s : State), ActsIf (inService s && s.boot.paired && s.aps.st = 1) .apsWtrExpiry s [.seenTurn, .isls, .engA, .engB, .aps, .ssets, .tally] fun t =>
      (∀ w, s.aps.work = some w → t.aps.st = 2 ∧ t.aps.target = some w.other ∧ t.aps.req = 5 ∧ t.aps.source = 4 ∧ t.aps.planned = true ∧ t.aps.notice = true ∧
        t.aps.moved = false ∧ t.aps.since = s.clk.now ∧ t.aps.rampNs = 1000 * regF s .apsRamp .A 0 13 0 ∧ (getEng t w).mapsStopped = true))

/-- The host's APS commands set and clear lockout, forced and manual switch, or are refused as R291 says (R285, R291). -/
def Obligations.ProtectionCommands : Prop :=
  (∀ (s : State), Writes ((engWriteGate s .A .aTxd).worse (if apsCmdRefused s 0 then .errState else .ok)) .apsCmdClear s [.status, .seenTurn, .isls, .engA, .engB, .aps, .ssets, .tally] fun t =>
      t.aps.lo = false ∧ t.aps.fs = none ∧ t.aps.ms = none) ∧
  (∀ (s : State), Writes ((engWriteGate s .A .aTxd).worse (if apsCmdRefused s 1 then .errState else .ok)) .apsCmdLo s [.status, .seenTurn, .isls, .engA, .engB, .aps, .ssets, .tally] fun t =>
      t.aps.lo = true ∧ t.aps.fs = s.aps.fs ∧ t.aps.ms = msLeft s) ∧
  (∀ (s : State), Writes ((engWriteGate s .A .aTxd).worse (if apsCmdRefused s 2 then .errState else .ok)) .apsCmdFsA s [.status, .seenTurn, .isls, .engA, .engB, .aps, .ssets, .tally] fun t =>
      t.aps.fs = some .A ∧ t.aps.lo = s.aps.lo ∧ t.aps.ms = msLeft s) ∧
  (∀ (s : State), Writes ((engWriteGate s .A .aTxd).worse (if apsCmdRefused s 3 then .errState else .ok)) .apsCmdFsB s [.status, .seenTurn, .isls, .engA, .engB, .aps, .ssets, .tally] fun t =>
      t.aps.fs = some .B ∧ t.aps.lo = s.aps.lo ∧ t.aps.ms = msLeft s) ∧
  (∀ (s : State), Writes ((engWriteGate s .A .aTxd).worse (if apsCmdRefused s 4 then .errState else .ok)) .apsCmdMsA s [.status, .seenTurn, .isls, .engA, .engB, .aps, .ssets, .tally] fun t =>
      t.aps.ms = some .A ∧ t.aps.lo = s.aps.lo ∧ t.aps.fs = s.aps.fs) ∧
  (∀ (s : State), Writes ((engWriteGate s .A .aTxd).worse (if apsCmdRefused s 5 then .errState else .ok)) .apsCmdMsB s [.status, .seenTurn, .isls, .engA, .engB, .aps, .ssets, .tally] fun t =>
      t.aps.ms = some .B ∧ t.aps.lo = s.aps.lo ∧ t.aps.fs = s.aps.fs)

/-- A map is computed for the turn three ahead and recomputed, held messages and TIME join the control queue, and a TIME or RANGE
takes its moment as it is sent (R307,
R309, R319, R325, R326, R327, R328, R374, R606). Which of the legal maps is taken is an operand, and TIME's frame is 1,024 frames on, which is
the model's (notes/assumptions/20.md, 45.md). -/
def Obligations.Scheduler : Prop :=
  (∀ (e : Eng) (squares : List Square) (grants : List Grant) (s : State), ActsIf (schedRuns s e && ! (getEng s e).maps.any (fun m => m.tn = turnOf s e + 3) && squaresOk (basisOf s e (turnOf s e + 3)) (turnOf s e + 3) squares && legalMap s e (basisOf s e (turnOf s e + 3)) (turnOf s e + 3) squares grants) (.mapCompute e squares grants) s [.flags, .rsc, .seenTurn, .seenSec, .isls, .engA, .engB, .tally] fun t =>
      (let b := basisOf s e (turnOf s e + 3)
       let k := overbook s e b (turnOf s e + 3) squares grants
       (getEng t e).maps = keepMaps s e (getEng s e).maps ++ [{ tn := turnOf s e + 3, committed := false, recompute := false, squares := squares, grants := grants, unserved := leftOver b k grants, basis := b, scaled := decide (k ≠ .none) }] ∧
       getEng t e.other = getEng s e.other)) ∧
  (∀ (e : Eng) (tn : Nat) (grants : List Grant) (s : State), ActsIf (schedRuns s e && (match recomputing s e tn with | some m => legalMap s e (m.next.getD m.basis) tn m.squares grants | none => false)) (.mapRecomputeDone e tn grants) s [.flags, .rsc, .seenTurn, .seenSec, .isls, .engA, .engB, .tally] fun t =>
      (∀ m, recomputing s e tn = some m → let b := m.next.getD m.basis
        (getEng t e).maps = (getEng s e).maps.map (fun y => if y.tn = tn then
        { tn := tn, committed := false, recompute := false, squares := m.squares, grants := grants, unserved := leftOver b (overbook s e b tn m.squares grants) grants,
          basis := b, scaled := m.scaled || decide (overbook s e b tn m.squares grants ≠ .none) } else y)) ∧ getEng t e.other = getEng s e.other) ∧
  (∀ (e : Eng) (s : State), ActsIf (inService s && treeEng s e = e && ctlUp s e && (getEng s e).down.held ≠ []) (.heldMessagesSend e) s [.engA, .engB] fun t =>
      queued t e = queued s e ∧ (getEng t e).down.held = [] ∧ getEng t e.other = getEng s e.other) ∧
  (∀ (e : Eng) (s : State), ActsIf (inService s && dpFence s .tod = .run && treeEng s e = e && (getEng s e).down.framer) (.timeMessageSend e) s [.engA, .engB] fun t =>
      queued t e = queued s e ++ [.time 0 0 0 0 (zOf s e) (getReg s .todLeafAsym .A 0)] ∧ getEng t e.other = getEng s e.other) ∧
  (∀ (e : Eng) (s : State) (z : Nat) (asym : W32), let ns := s.clk.sec * 1000000000 + s.clk.ns + 1024 * frameSyms / 9
      Msg.stamp s e (.time 0 0 0 0 z asym) = .time (((getEng s e).down.frames + 1024) % 65536) (ns / 1000000000 / 2 ^ 32 % 65536) (BitVec.ofNat 32 (ns / 1000000000)) (ns % 1000000000) z asym) ∧
  (∀ (e : Eng) (s : State) (l : LeafId) (eqd : Int) (n : Nat), Msg.stamp s e (.range l (some eqd) n) = .range l (some eqd) ((turnOf s e + 3) % 65536))

/-- A discovery burst is answered, ignored or turned away as R316 says, and a ranging burst moves the leaf on (R15, R311,
R313, R316, R317, R318, R320). -/
def Obligations.Discovery : Prop :=
  (∀ (e : Eng) (sc : Sc) (s : State), ActsIf (inService s && treeEng s e = e && (getEng s e).reports.any (fun q => isDisc q && q.r.sc = sc.val)) (.discoveryBurstProcess e sc) s [.flags, .rsc, .seenTurn, .seenSec, .isls, .engA, .engB, .leaves, .ctrs, .flow, .sec, .tally] fun t =>
      (∀ q b, (getEng s e).reports.find? (fun q => isDisc q && q.r.sc = sc.val) = some q → ctlRuns s e.txd = true → payloadBytes q.payload = some b →
        ((discCrcOk b = false ∨ discSerial b = 0) → t.leaves = s.leaves ∧ counted 12 e.num 7 1 s t) ∧
        (discCrcOk b = true → discSerial b ≠ 0 → onHold s e (discSerial b) = true → t.leaves = s.leaves ∧ counted 12 e.num 8 1 s t) ∧
        (∀ l, discCrcOk b = true → discSerial b ≠ 0 → onHold s e (discSerial b) = false → notListed s e (discSerial b) = false →
          0 ≤ landingError q - offsetHere s e → landingError q - offsetHere s e ≤ 64 * ((sqLen s e : Int) - 4512) → chooseId s e (discSerial b) = some l →
          (getLeaf t e l).st = .assigned ∧ (getLeaf t e l).serial = discSerial b ∧ (getLeaf t e l).eqd = eqdDisc s e - (landingError q - offsetHere s e) ∧
            (getLeaf t e l).launch = 10 * pwrDisc s e ∧ (getLeaf t e l).discAt = s.clk.now))) ∧
  (∀ (e : Eng) (l : LeafId) (s : State), ActsIf (inService s && treeEng s e = e && ctlRuns s e.txd && (getEng s e).reports.any (fun q => isRang q && q.r.leaf = l.val)) (.rangingBurstProcess e l) s [.flags, .rsc, .seenTurn, .isls, .engA, .engB, .leaves, .sec] fun t =>
      (∀ q, (getEng s e).reports.find? (fun q => isRang q && q.r.leaf = l.val) = some q → (getLeaf s e l).st = .assigned →
        (getLeaf t e l).st = (if (landingError q - offsetHere s e).natAbs ≤ 256 then .registering else .assigned)) ∧
      (((getLeaf s e l).st = .active ∨ (getLeaf s e l).st = .lost) → (getLeaf s e l).rerange = true → (getLeaf t e l).rerange = false ∧ (getLeaf t e l).st = (getLeaf s e l).st) ∧
      (getLeaf t e l).serial = (getLeaf s e l).serial) ∧
  (∀ (e : Eng) (l : LeafId) (s : State), ActsIf (inService s && treeEng s e = e && ctlRuns s e.txd && (missedOf s e l).isSome) (.rangingWindowMissed e l) s [.flags, .rsc, .seenTurn, .seenSec, .isls, .engA, .engB, .leaves, .ctrs, .flow, .sec, .tally] fun t =>
      ((getLeaf s e l).st = .assigned → (getLeaf s e l).missRow < 3 → getLeaf t e l = { getLeaf s e l with missRow := (getLeaf s e l).missRow + 1 }) ∧
      ((getLeaf s e l).st = .assigned → 3 ≤ (getLeaf s e l).missRow → (getLeaf t e l).st = .free ∧ (getLeaf t e l).cause = causeRangeFail) ∧
      (((getLeaf s e l).st = .active ∨ (getLeaf s e l).st = .lost) → (getLeaf s e l).rerange = true → (getLeaf s e l).dedOnly = false → missedOf s e l = some true →
        getLeaf t e l = { getLeaf s e l with wideMiss := (getLeaf s e l).wideMiss + 1, dedOnly := decide (2 ≤ (getLeaf s e l).wideMiss + 1) }) ∧
      (((getLeaf s e l).st = .active ∨ (getLeaf s e l).st = .lost) → missedOf s e l = some false → t.leaves = s.leaves) ∧
      (((getLeaf s e l).st = .registering ∨ (getLeaf s e l).st = .free ∨ (getLeaf s e l).st = .gone) → t.leaves = s.leaves) ∧
      ((getLeaf s e l).st ≠ .assigned → (getEng t e).missed = dropMissed l (getEng s e).missed)) ∧
  (∀ (e : Eng) (sc : Sc) (s : State), ActsIf (inService s && (getEng s e).reports.any (fun q => ! isDisc q && ! isRang q && q.r.sc = sc.val)) (.burstReportProcess e sc) s [.flags, .rsc, .seenTurn, .isls, .engA, .engB, .aps, .leaves, .tally] fun t =>
      (getEng t e).reports = dropFirst (fun q => ! isDisc q && ! isRang q && q.r.sc = sc.val) (getEng s e).reports ∧
      (∀ q, (getEng s e).reports.find? (fun q => ! isDisc q && ! isRang q && q.r.sc = sc.val) = some q →
        ((q.r.hdrValid = false ∨ q.r.kind = 1) → t.leaves = s.leaves ∧ t.aps = s.aps) ∧
        (q.r.hdrValid = true → q.r.kind ≠ 1 → q.r.leaf < 4096 → registered (getLeaf s e q.r.leaf) = true → (s.boot.paired = false ∨ s.aps.work = some e) →
          (getLeaf t e q.r.leaf).rtd = 64 * (zOf s e : Int) - (eqdFor s e (Fin.ofNat 4096 q.r.leaf) q.w - (landingError q - offsetHere s e))) ∧
        (q.r.hdrValid = true → q.r.kind ≠ 1 → q.r.leaf < 4096 → registered (getLeaf s e q.r.leaf) = true → s.boot.paired = true → s.aps.work ≠ some e →
          t.leaves = s.leaves ∧ (goodReport q = true → q.r.wrongWindow = false → t.aps = { s.aps with dup := s.aps.dup + (landingError q - offsetHere s e) }) ∧
            ((goodReport q = false ∨ q.r.wrongWindow = true) → t.aps = s.aps))))

/-- A leaf becomes ACTIVE when its registration succeeds and leaves the table as R311, R331 and R332 say (R311, R323, R331,
R332). -/
def Obligations.Registration : Prop :=
  (∀ (e : Eng) (l : LeafId) (s : State), ActsIf (inService s && treeEng s e = e && ctlRuns s e.txd && (getLeaf s e l).st = .registering && (getLeaf s e l).exch.reg = 3) (.bankerRegSuccess e l) s [.flags, .rsc, .seenTurn, .isls, .engA, .engB, .leaves, .sec, .tally] fun t =>
      (getLeaf t e l).st = .active ∧ (getLeaf t e l).serial = (getLeaf s e l).serial ∧ (getLeaf t e l).grpNow = (getLeaf s e l).grps ∧ (getLeaf t e l).lastGrant = turnOf s e) ∧
  (∀ (e : Eng) (l : LeafId) (s : State), ActsIf (inService s && treeEng s e = e && ctlRuns s e.txd && (getLeaf s e l).st = .registering && (getLeaf s e l).exch.reg = 4) (.bankerRegFailure e l) s [.flags, .rsc, .seenTurn, .seenSec, .isls, .engA, .engB, .leaves, .ctrs, .flow, .sec, .tally] fun t =>
      (getLeaf t e l).st = .free ∧ (getLeaf t e l).cause = causeAuthFail) ∧
  (∀ (e : Eng) (l : LeafId) (s : State), ActsIf (inService s && treeEng s e = e && ctlRuns s e.txd && (getLeaf s e l).st = .registering) (.regTimeout e l) s [.flags, .rsc, .seenTurn, .seenSec, .isls, .engA, .engB, .leaves, .ctrs, .flow, .sec, .tally] fun t =>
      (getLeaf t e l).st = .free ∧ (getLeaf t e l).cause = causeTimeout) ∧
  (∀ (e : Eng) (l : LeafId) (s : State), ActsIf (inService s && treeEng s e = e && (getLeaf s e l).st = .lost) (.leafDepartTimeout e l) s [.flags, .rsc, .seenTurn, .seenSec, .isls, .engA, .engB, .leaves, .ctrs, .flow, .sec, .tally] fun t =>
      (getLeaf t e l).st = (if stickyH s e = 0 then .free else .gone) ∧ (getLeaf t e l).cause = causeDeparted ∧ (getLeaf t e l).goneAt = s.clk.now) ∧
  (∀ (e : Eng) (l : LeafId) (s : State), ActsIf (inService s && (getLeaf s e l).st = .gone && ! (getLeaf s e l).pin) (.leafStickyExpiry e l) s [.leaves] fun t =>
      getLeaf t e l = { pin := (getLeaf s e l).pin, serial := 0, cause := (getLeaf s e l).cause, grps := (getLeaf s e l).grps } ∧ (∀ n, n ≠ (l : Nat) → getLeaf t e n = getLeaf s e n))

/-- The host deregisters and re-ranges a leaf and writes its serial number and groups, or is refused (R311, R320, R323,
R331, R338, R339, R431). That a re-ranging waits for the control functions of TXD, and the number of the host's row, are the model's
(notes/assumptions/193.md, 23.md). -/
def Obligations.LeafCommands : Prop :=
  (∀ (e : Eng) (l : LeafId) (release : Bool) (s : State), Writes ((writeGate s e.txd).worse (if (getLeaf s e l).st = .free || (getLeaf s e l).st = .gone then .errState else .ok)) (.leafCtlDereg e l release) s [.status, .flags, .rsc, .seenTurn, .seenSec, .isls, .engA, .engB, .leaves, .ctrs, .flow, .sec, .tally] fun t =>
      (getLeaf t e l).st = (if release || stickyH s e = 0 then .free else .gone) ∧ (getLeaf t e l).cause = causeHost) ∧
  (∀ (e : Eng) (l : LeafId) (s : State), Writes ((writeGate s e.txd).worse (if (getLeaf s e l).st = .free || (getLeaf s e l).st = .gone || (getLeaf s e l).st = .assigned || (getLeaf s e l).st = .registering then .errState else .ok)) (.leafCtlRerange e l) s [.status, .flags, .rsc, .seenTurn, .seenSec, .isls, .engA, .engB, .leaves, .ctrs, .flow, .sec, .tally] fun t =>
      ((getLeaf s e l).rerange = false → countsTree s (treeEng s e) = true → ctlRuns s (treeEng s e).txd = false → (getLeaf t e l).rerangeDue = 4) ∧
      ((getLeaf s e l).rerange = false → countsTree s (treeEng s e) = true → ctlRuns s (treeEng s e).txd = true → (getLeaf t e l).rerange = true ∧ (getLeaf t e l).trig = 4 ∧ (getLeaf t e l).oldEqd = (getLeaf s e l).eqd) ∧
      ((getLeaf s e l).rerange = true → t = { s with status := .ok }) ∧ (getLeaf t e l).st = (getLeaf s e l).st) ∧
  (∀ (e : Eng) (l : LeafId) (i : Fin 4) (v : W32) (s : State), Writes ((writeGate s e.txd).worse (if ! ((getLeaf s e l).st = .free || (getLeaf s e l).st = .gone) || (getLeaf s e l).pin then .errState else .ok)) (.leafSerialWrite e l i v) s [.status, .leaves] fun t =>
      ((getLeaf s e l).st = .free → getLeaf t e l = { getLeaf s e l with serial := serialWith (getLeaf s e l).serial i v }) ∧
      ((getLeaf s e l).st = .gone → getLeaf t e l = freedEntry (getLeaf s e l) (serialWith (getLeaf s e l).serial i v)) ∧ (∀ n, n ≠ (l : Nat) → getLeaf t e n = getLeaf s e n)) ∧
  (∀ (e : Eng) (l : LeafId) (g : Fin 8) (v : W32) (s : State), Writes ((writeGate s e.txd).worse (if (wordGroups (v &&& 0x8FFF8FFF)).any (fun x => 2047 < x) then .errState else .ok)) (.leafGrpWrite e l g v) s [.status, .engA, .engB, .leaves, .sec, .tally] fun t =>
      (getLeaf t e l).grps = tset 0 (getLeaf s e l).grps g.val (v &&& 0x8FFF8FFF) ∧ (getLeaf t e l).st = (getLeaf s e l).st ∧ (getLeaf t e l).serial = (getLeaf s e l).serial ∧
      ((getLeaf s e l).st ≠ .active → (getLeaf s e l).st ≠ .lost → t.ctrs = s.ctrs ∧ t.sec = s.sec ∧ (∀ n, n ≠ (l : Nat) → getLeaf t e n = getLeaf s e n))) ∧
  (∀ (e : Eng) (l : LeafId) (s : State), ActsIf (inService s && (match (getLeaf s e l).grpEff with | p :: _ => decide (p.1 ≤ treeFrames s e) | [] => false)) (.groupMembershipEffective e l) s [.leaves] fun t =>
      (∀ p rest, (getLeaf s e l).grpEff = p :: rest → getLeaf t e l = { getLeaf s e l with grpNow := p.2, grpEff := rest }) ∧ (∀ n, n ≠ (l : Nat) → getLeaf t e n = getLeaf s e n))

/-- A packet is looked up, waits for its context, or is counted with its reason, and what the module cannot send is dropped
by count (R24, R31, R344, R352, R353, R361, R362, R365, R399, R402, R403, R404, R407, R408, R470, R481). The windows of the packet rate and that a frame of PTP counts nothing are the model's
(notes/assumptions/156.md, 60.md). -/
def Obligations.FlowLookup : Prop :=
  (∀ (p : PortIx) (fr : RxFrame) (s : State), ActsIf (rxRuns s && ((getPort s p.val).st = .up || loopLanes s p.val ≠ [] || fr.aborted)) (.clientFrameReceived p fr) s [.free, .flags, .rsc, .seenSec, .isls, .flow, .cln, .tally] fun t =>
      (let echo : Bool := loopLanes s p.val ≠ [] && ! fr.aborted
       (echo = true → t.flow = s.flow ∧ t.tally = s.tally ∧ t.cln.ports = s.cln.ports ∧
         (∀ k, (laneLoop s k ≠ 3 ∨ k ∉ loopLanes s p.val) → getLane t k = getLane s k)) ∧
       (echo = false → syncLost p.val s (takeFrame p.val fr s) = true → t.flow = s.flow ∧
         ((getPort s p.val).st = .up → (getPort t p.val).st = (if trains s p.val then .training else .align)) ∧
         ((getPort s p.val).st ≠ .up → counted 17 p.val 5 1 (takeFrame p.val fr s) t)) ∧
       (echo = false → syncLost p.val s (takeFrame p.val fr s) = false →
       let v := takeFrame p.val fr s
       let n := fr.bytes.length + 4
       let bad := ! fr.crcOk || nrzErrors s p.val fr || (getPort s p.val).hiSer
       let whole := ! fr.aborted && decide (n ≤ portMtu s p.val)
       (fr.aborted = true → counted 17 p.val 5 1 v t ∧ t.flow = s.flow) ∧
       (fr.aborted = false → portMtu s p.val < n → counted 17 p.val 3 1 v t ∧ t.flow = s.flow) ∧
       (whole = true → bad = true → counted 17 p.val 2 1 v t ∧ t.flow = s.flow) ∧
       (whole = true → bad = false → beAt fr.bytes 12 2 = 0x8808 → counted 17 p.val 4 1 v t ∧ t.flow = s.flow) ∧
       (whole = true → bad = false → beAt fr.bytes 12 2 ≠ 0x8808 → dpFence s .flow = .run → overRate s = false →
         t.flow = { s.flow with ingress := s.flow.ingress ++ [⟨p.val, fr.bytes⟩], pktUsed := s.flow.pktUsed + pktCost } ∧
           t.tally = (count 17 p.val 1 n (count 17 p.val 0 1 v)).tally) ∧
       (whole = true → bad = false → beAt fr.bytes 12 2 ≠ 0x8808 → dpFence s .flow = .run → overRate s = true →
         counted 17 p.val 7 1 v t ∧ t.flow = s.flow) ∧
       (whole = true → bad = false → beAt fr.bytes 12 2 ≠ 0x8808 → (dpFence s .flow = .drain ∨ dpFence s .flow = .fenced ∨ dpFence s .flow = .reset ∨ dpFence s .flow = .resume) →
         counted 17 p.val 6 1 v t ∧ t.flow = s.flow)))) ∧
  (∀ (s : State), ActsIf (flowTakes s && s.flow.ingress ≠ [] && s.flow.fetch.length < 4096) .dsPacketLookup s [.free, .flags, .rsc, .seenSec, .isls, .ctrs, .flow, .mem, .tally] fun t =>
      (∀ k rest, s.flow.ingress = k :: rest →
        let kt := fld (getReg s .flowPort .A k.port) 3 0
        let hit := findFlow kt (dsKey kt k.port k.bytes) { s with flow := { s.flow with ingress := rest } }
        (k.bytes.length < 60 → counted 14 k.port 1 1 s t ∧ t.flow = { s.flow with ingress := rest }) ∧
        (60 ≤ k.bytes.length → beAt k.bytes 12 2 = 0x88F7 → s.tod.ptpOn = true → s.tod.ptpPort = k.port → t.tally = s.tally ∧ t.flow = { s.flow with ingress := rest }) ∧
        (60 ≤ k.bytes.length → beAt k.bytes 12 2 = 0x88F7 → (s.tod.ptpOn = false ∨ s.tod.ptpPort ≠ k.port) → counted 14 k.port 2 1 s t ∧ t.flow = { s.flow with ingress := rest }) ∧
        (60 ≤ k.bytes.length → beAt k.bytes 12 2 ≠ 0x88F7 → hit.1 = none → (getReg s .flowPort .A k.port).getLsbD 31 = false →
          t.tally = (perSecond .flow 0x0901 k.port 1 (count 14 k.port 0 1 hit.2)).tally ∧ flagged .flowFlags .A 0 hit.2 t ∧
            t.flow = hit.2.flow) ∧
        (60 ≤ k.bytes.length → beAt k.bytes 12 2 ≠ 0x88F7 → ∀ f, hit.1 = some f → tget [] s.flow.fetch f = [] → flowValid (getFlow s f) = true → (getFlow s f).poison = false → cached s f = false →
          tget [] t.flow.fetch f = [(.ds k.port k.bytes, 0)] ∧ t.flow.misses = s.flow.misses + 1 ∧ t.flow.ingress = rest ∧ t.flow.ctx = s.flow.ctx))) ∧
  (∀ (f : FlowIx) (poison : Bool) (s : State), ActsIf (s.pwr.run = .ready && s.pwr.emerg = .none && tget [] s.flow.reqs f.val ≠ []) (.contextFetchDone f poison) s [.free, .flags, .rsc, .seenSec, .isls, .ctrs, .flow, .mem, .tally] fun t =>
      ∀ r rest, tget [] s.flow.reqs f.val = r :: rest →
        ((islRuns s .flow = false ∨ replyStale s r = true) → t.flow.ctx = s.flow.ctx ∧ t.flow.fetch = s.flow.fetch ∧ t.flow.cache = s.flow.cache ∧
          (getIsl t .flow).stale = min (2 ^ 32 - 1) ((getIsl s .flow).stale + 1)) ∧
        (islRuns s .flow = true → replyStale s r = false → (poison || ctxPoisoned s f.val) = true →
          (getFlow t f.val).poison = true ∧ tget [] t.flow.fetch f.val = [] ∧ tget [] t.flow.reqs f.val = rest ∧ (∀ n, n ≠ f.val → getFlow t n = getFlow s n) ∧
            (let v := forAll (List.range 4) (ctxWordRead f.val)
               { s with flow := { s.flow with reqs := tset [] s.flow.reqs f.val rest, fetch := tset [] s.flow.fetch f.val [] } }
             let w := badCtxWord f.val v
             let u := memUncorr 8 w.1 rdPort0 w.2
             (8, w.1) ∈ t.mem.poisoned ∧ t.mem.eccRegion = 8 ∧ t.mem.eccAddr = w.1 ∧ w.1 / 4 = f.val ∧ logged .dmem 0x0C02 (memObj 8 w.1) (packData [(8, 0)]) v t ∧
             (∀ k n, tget [] s.flow.fetch f.val = [(k, n)] → flagged .flowFlags .A 2 u t ∧
              ((0x0903, f.val) ∉ s.seenSec → recorded .flow 0x0903 f.val 0 u t) ∧
              (∀ p b, k = .ds p b → counted 14 p 3 1 u t) ∧ (∀ e c b, k = .us e c b → t.tally = (countCtr 15 e c 2 1 u).tally))))) ∧
  (∀ (s : State), ActsIf (flowTakes s && s.flow.usClear ≠ [] && s.flow.fetch.length < 4096) .usUnitLookup s [.free, .flags, .rsc, .seenSec, .isls, .ctrs, .flow, .mem, .tally] fun t =>
      (∀ u rest, s.flow.usClear = u :: rest →
        let w := fld u.header 95 64
        let c := unitCid w
        (unitKind w = 1 → t.tally = s.tally ∧ t.flow = { s.flow with usClear := rest }) ∧
        (unitKind w ≠ 1 → overRate s = true → t.tally = (countCtr 15 u.eng c 3 1 s).tally ∧ t.flow = { s.flow with usClear := rest }) ∧
        (unitKind w ≠ 1 → overRate s = false → (u.body.length < 60 ∨ 9596 < u.body.length) →
          t.tally = (countCtr 15 u.eng c 1 1 s).tally ∧ t.flow = { s.flow with usClear := rest, pktUsed := s.flow.pktUsed + pktCost }) ∧
        (unitKind w ≠ 1 → overRate s = false → 60 ≤ u.body.length → u.body.length ≤ 9596 →
          let q := { s with flow := { s.flow with usClear := rest, pktUsed := s.flow.pktUsed + pktCost } }
          let v := if outerTag u.body then findFlow 9 (usKeyV (treeOf s u.eng) c u.body) q else (none, q)
          let hit := if v.1.isSome then v else findFlow 8 (usKey (treeOf s u.eng) c) v.2
          (hit.1 = none → t.tally = (perSecond .flow 0x0901 (noFlowCtr (treeOf s u.eng) c) 1 (countCtr 15 u.eng c 0 1 hit.2)).tally ∧ flagged .flowFlags .A 0 hit.2 t ∧
            t.flow = hit.2.flow) ∧
          (∀ f, hit.1 = some f → tget [] s.flow.fetch f = [] → flowValid (getFlow s f) = true → (getFlow s f).poison = false → cached s f = false →
            tget [] t.flow.fetch f = [(.us u.eng c u.body, 0)] ∧ t.flow.misses = s.flow.misses + 1 ∧ t.flow.usClear = rest ∧ t.flow.ctx = s.flow.ctx)))) ∧
  (∀ (p : PortIx) (s : State), ActsIf (inService s && dpTakes s .flow && dpTakes s .cltx && dpServes s .clrx && ! ((getPort s p.val).st = .up && sendsRf s p.val)) (.clientFrameTransmit p) s [.free, .flow, .cln, .tally] fun t =>
      (tget [] s.flow.egress p.val = [] → t = s) ∧
      (∀ f y b rest, tget [] s.flow.egress p.val = ⟨f, y, b⟩ :: rest →
        tget [] t.flow.egress p.val = rest ∧
        ((getPort s p.val).st = .up → beAt b 12 2 = 0x8808 → t.cln = s.cln ∧ t.tally = s.tally) ∧
        ((getPort s p.val).st = .up → beAt b 12 2 ≠ 0x8808 → t.tally = (count 17 p.val 9 (b.length + 4) (count 17 p.val 8 1 s)).tally ∧
          tget [] t.cln.sent p.val = ⟨List.replicate 7 0x55 ++ [0xD5] ++ b ++ fcs b, 12⟩ :: tget [] s.cln.sent p.val) ∧
        ((getPort s p.val).st ≠ .up → (getFlow t f).dropQfull = satAdd (getFlow s f).dropQfull 1 ∧ t.cln = s.cln ∧ t.tally = s.tally)))

/-- The sweep ages idle flows, a move ends in time, and the host writes a context field by field or is refused (R345, R347,
R348, R354, R364, R376, R377, R378). -/
def Obligations.FlowContexts : Prop :=
  (∀ (s : State), ActsIf (flowAccepts s) .contextSweep s [.free, .flags, .rsc, .isls, .flow, .mem, .tally] fun t =>
      t.flow.swept = todNs32 s ∧
      ∀ f, let u := sweepReads s
        let x := getFlow s f
        let y := { refill u x with tUpd := none }
        let old : Bool := flowValid x && flowAge x ≠ 0 && x.lastSec + flowAge x ≤ s.clk.sec % 2 ^ 32
        ((x.poison || ctxPoisoned u f) = true → getFlow t f = x) ∧
        ((x.poison || ctxPoisoned u f) = false → old = false → getFlow t f = y) ∧
        ((x.poison || ctxPoisoned u f) = false → old = true → getFlow t f = { y with ctl := y.ctl &&& 0x7FFFFFFF } ∧
          flagged .flowFlags .A 1 u t)) ∧
  (∀ (f : FlowIx) (s : State), ActsIf (flowRuns s && (getFlow s f.val).moveActive) (.flowMoveTimeout f) s [.flags, .rsc, .seenSec, .isls, .ctrs, .flow] fun t =>
      (getFlow t f.val) = { getFlow s f.val with moveActive := false } ∧ tget [] t.flow.movePend f.val = [] ∧ flagged .flowFlags .A 3 s t ∧ (∀ n, n ≠ f.val → getFlow t n = getFlow s n)) ∧
  (∀ (f : FlowIx) (w : Fin 12) (v : W32) (s : State), Writes ((writeGate s .flow).worse (if flowRefused s f.val w.val v then .errState else .ok)) (.flowContextWrite f w v) s [.free, .status, .flags, .rsc, .isls, .ctrs, .flow, .mem, .tally] fun t =>
      (∀ n, n ≠ f.val → getFlow t n = { getFlow s n with second := (getFlow t n).second }) ∧ (w.val ≠ 3 → ∀ n, n ≠ f.val → getFlow t n = getFlow s n) ∧
      let u := readContext rdHost f.val s
      (w.val ≠ 3 → ctxPoisoned u f.val = true → (getFlow t f.val).poison = true) ∧
      (w.val ≠ 3 → w.val ≠ 4 → ctxPoisoned u f.val = false → getFlow t f.val = flowWith (getFlow s f.val) w.val v) ∧
      (w.val = 3 → (liveFlow (getFlow s f.val) = true ∨ v.getLsbD 31 = false) → ctxPoisoned u f.val = false → getFlow t f.val = flowWith (getFlow s f.val) 3 v) ∧
      (w.val = 3 → liveFlow (getFlow s f.val) = false → v.getLsbD 31 = true → getFlow t f.val = { freshFlow (flowWith (getFlow s f.val) 3 v) with second := (getFlow t f.val).second }) ∧
      (w.val = 4 → (getFlow t f.val).map = v &&& 0xFFFF0007 ∧ (getFlow t f.val).fsn = (getFlow s f.val).fsn)) ∧
  (∀ (bucket : Fin 393216) (s : State), ActsIf (flowRuns s && bucket.val ∈ s.flow.badBuckets) (.keyIndexRebuild bucket) s [.flow, .mem] fun t =>
      (∀ b, b ∈ t.flow.badBuckets ↔ b ∈ s.flow.badBuckets ∧ b ≠ bucket.val) ∧ t.flow.ctx = s.flow.ctx)

/-- The timebase follows its source through R368 and R369, the second turns, and PTP messages do what R371 says (R203, R368,
R369, R371, R372, R373, R382, R552, R563). The sign of a step, the port without a master and the states that send each message are the model's
(notes/assumptions/63.md, 65.md, 66.md). -/
def Obligations.Timebase : Prop :=
  (∀ (pps : Int) (s : State), ActsIf (servoRuns s && todSourceOf s ≠ 0 && (offsetOf s pps).isSome) (.todOffsetMeasured pps) s [.free, .clk, .flags, .rsc, .seenSec, .isls, .engA, .engB, .tod, .cln, .tally] fun t =>
      ∀ ofs, offsetOf s pps = some ofs → t.tod.ofs = ofs ∧ t.tod.source = todSourceOf s ∧ t.tod.ppsOfs = none ∧
        (s.tod.st = 0 → t.tod.st = 1 ∧ t.clk = s.clk) ∧
        (s.tod.st = 1 → stepLimit s < ofs.natAbs → t.tod.st = 1 ∧ t.clk.epoch = (s.clk.epoch + 1) % 256 ∧ (t.clk.sec, t.clk.ns) = steppedTime s ofs ∧ t.clk.now = s.clk.now ∧ (getFlags t (Reg.addr .todFlags .A 0 0)).getLsbD 0 = true) ∧
        (s.tod.st = 1 → ofs.natAbs ≤ stepLimit s → ofs.natAbs < 1600 → t.clk = s.clk ∧ t.tod.st = (if 16 ≤ s.tod.run + 1 then 2 else 1)) ∧
        (s.tod.st = 2 → t.clk = s.clk ∧ (ofs.natAbs ≤ 160000 → t.tod.st = 2)) ∧
        (s.tod.st = 3 → t.clk = s.clk ∧ t.tod.st = 1)) ∧
  (∀ (s : State), ActsIf (servoRuns s && s.tod.source ≠ 0) .todSourceLost s [.flags, .rsc, .seenSec, .isls, .tod] fun t =>
      t.tod.source = 0 ∧ t.tod.st = (if s.tod.st = 2 then 3 else s.tod.st) ∧ t.clk = s.clk ∧ (getFlags t (Reg.addr .todFlags .A 0 0)).getLsbD 3 = true ∧
        t.tod.ppsSec = s.tod.ppsSec ∧ t.tod.ppsOfs = none ∧ (s.tod.source ≠ 1 → t.tod.portState = s.tod.portState) ∧
        (s.tod.source = 1 → t.tod.portState = 4 ∧ t.tod.master = none ∧ todSourceOf t = (if s.tod.ppsSec.isSome then 2 else 0))) ∧
  (∀ (s : State), ActsIf (servoRuns s && s.tod.st = 3) .todHoldoverExpiry s [.tod] fun t =>
      t.tod = { s.tod with holdExpired := true } ∧ clockClass t = 165) ∧
  (∀ (s : State), ActsIf (todRuns s) .ppsInEdge s [.tod] fun t =>
      t.tod.armed = false ∧ t.tod.ofs = s.tod.ofs ∧ t.tod.st = s.tod.st ∧ t.tod.source = s.tod.source ∧
      (s.tod.armed = true → t.tod.ppsSec = some (s.tod.setHi * 2 ^ 32 + s.tod.setLo)) ∧
      (s.tod.armed = false → t.tod.ppsSec = s.tod.ppsSec.map (fun n => (n + 1) % 2 ^ 48)) ∧
      (t.tod.ppsSec = none → t.tod.ppsOfs = none) ∧
      (∀ n, t.tod.ppsSec = some n → t.tod.ppsOfs = some (16 * (((s.clk.sec * 1000000000 + s.clk.ns : Nat) : Int) - 1000000000 * (n : Int))))) ∧
  (∀ (v : W32) (s : State), Writes (writeGate s .tod) (.todSetLoWrite v) s [.status, .tod] fun t =>
      t.tod = { s.tod with setLo := v.toNat, armed := true }) ∧
  (∀ (s : State), ActsIf (moduleStatus s false false false = .ok && (getIsl s .tod).fence = .run) .todNowHiRead s [.got, .tod] fun t =>
      t.got = BitVec.ofNat 32 (s.clk.sec / 2 ^ 32) ∧ t.tod = { s.tod with latLo := some (s.clk.sec % 2 ^ 32), latNs := some s.clk.ns }) ∧
  (∀ (d : Nat) (src : BitVec 80) (m : PtpMsg) (s : State), ActsIf (ptpUp s && d = ptpDomain s) (.ptpMessageReceived d src m) s [.flags, .rsc, .seenSec, .isls, .tod, .tally] fun t =>
      (∀ cls acc var pri gm steps, m = .announce cls acc var pri gm steps →
        let rank := clockRank cls acc var pri (ptpLocal s) gm steps
        let new := bestState s src rank
        let follow : Bool := new = 8 || new = 9
        let u := when (s.tod.master.isSome && (! follow || s.tod.master ≠ some src)) leaveMaster s
        t.tally = s.tally ∧ (outranked s src rank = true → t.tod = s.tod) ∧ (outranked s src rank = false → t.tod.portState = new ∧ t.tod.annAge = 0 ∧
        (follow = true → t.tod.parent = cls % 256 ∧ t.tod.master = some src ∧ t.tod.rank = rank) ∧
        (follow = false → t.tod.parent = s.tod.parent ∧ t.tod.master = none) ∧
        (s.tod.master.isSome = true → (follow = false ∨ s.tod.master ≠ some src) → s.tod.source = 1 → t.tod.source = 0 ∧ t.tod.st = (if s.tod.st = 2 then 3 else s.tod.st)) ∧
        (s.tod.portState ≠ new → (0x0907, s.tod.ptpPort) ∉ u.seenSec → recorded .tod 0x0907 s.tod.ptpPort (packData [(8, new)]) u t))) ∧
      (m = .unsupported → counted 16 0 1 1 s t ∧ t.tod = s.tod) ∧
      (∀ u, m = .sync u → t.tally = s.tally ∧ t.tod = (if s.tod.master = some src then { s.tod with t1 := u, t2 := some (rxStamp s) } else s.tod)) ∧
      (∀ u, m = .followUp u → t.tally = s.tally ∧ t.tod = (if s.tod.master = some src then { s.tod with t1 := some u } else s.tod)) ∧
      (∀ u a, m = .delayResp u a → t.tally = s.tally ∧ t.tod = (if s.tod.master = some src ∧ a = portId s then { s.tod with t4 := some u } else s.tod)) ∧
      (m = .delayReq → t.tally = s.tally ∧
        t.tod = (if s.tod.portState = 6 then { s.tod with ptpTx := ⟨ptpDst s, ptpDomain s, portId s, .delayResp (rxStamp s) src⟩ :: s.tod.ptpTx } else s.tod))) ∧
  (∀ (s : State), ActsIf (ptpUp s) .ptpAnnounceTx s [.seenSec, .isls, .tod] fun t =>
      (s.tod.portState = 6 → t.tod = { s.tod with ptpTx := ⟨ptpDst s, ptpDomain s, portId s, .announce (clockClass s) (ptpPri2 s)⟩ :: s.tod.ptpTx }) ∧
      (s.tod.portState ≠ 6 → t.tod.ptpTx = s.tod.ptpTx ∧
        (let quiet : Bool := 3 ≤ s.tod.annAge + 1 && ! (s.tod.portState = 9 && s.tod.source = 1)
         let drops : Bool := quiet && (s.tod.ptpRole ≠ 2 || s.tod.master.isSome)
         t.tod.portState = (if ! drops then s.tod.portState else if s.tod.ptpRole = 2 then 4 else 6) ∧
         t.tod.master = (if drops then none else s.tod.master) ∧ t.tod.annAge = (if drops then 0 else s.tod.annAge + 1)))) ∧
  (∀ (s : State), ActsIf (ptpUp s && (s.tod.portState = 6 || s.tod.portState = 9 || s.tod.portState = 8)) .ptpSyncDelayTx s [.tod] fun t =>
      let frame : PtpBody → PtpFrame := fun b => ⟨ptpDst s, ptpDomain s, portId s, b⟩
      (s.tod.portState = 6 → ptpOneStep s = true → t.tod = { s.tod with ptpTx := frame (.sync (some (txStamp s))) :: s.tod.ptpTx }) ∧
      (s.tod.portState = 6 → ptpOneStep s = false → t.tod = { s.tod with ptpTx := frame (.followUp (txStamp s)) :: frame (.sync none) :: s.tod.ptpTx }) ∧
      (s.tod.portState ≠ 6 → t.tod = { s.tod with ptpTx := frame .delayReq :: s.tod.ptpTx, t3 := some (txStamp s), t4 := none })) ∧
  (∀ (s : State), ActsIf (powered s && s.pwr.run ≠ .standby && s.pwr.run ≠ .held) .secondBoundary s [.free, .pins, .clk, .flags, .rsc, .seenSec, .isls, .engA, .engB, .flow, .cln, .tally] fun t =>
      t.clk.sec = (s.clk.sec + 1) % 2 ^ 48 ∧ t.clk.ns = 0 ∧ t.clk.now = s.clk.now ∧ t.clk.epoch = s.clk.epoch ∧ t.seenSec = [] ∧
      (let u := lineCounts s
       let v := { u with tally := { u.tally with
         latched := u.tally.acc, acc := [], second := s.clk.sec % 2 ^ 32, latStep := u.tally.stepNext, stepNext := false
         latFenced := u.tally.fenced, fenced := fencedNow u, latChain := u.tally.chain } }
       t.tally.latched = u.tally.acc ∧ t.tally.totals = (addTotals v).tally.totals ∧
         ∀ a, (∀ e l, a ≠ cellAddr 10 (Eng.num e) 0 ∧ a ≠ cellAddr 9 (leafObj s e l) 12) → tget 0 t.tally.acc a = 0) ∧
      t.tally.second = s.clk.sec % 2 ^ 32 ∧ t.tally.mode = s.tally.modeReg ∧ t.tally.sums = [] ∧
      t.pins.ppsEdges = s.pins.ppsEdges + b01 (! ppsSquelched s) ∧ t.flow.hits = 0 ∧ t.flow.misses = 0 ∧ (s.cln.refOk = true → -5300 ≤ t.cln.ppm ∧ t.cln.ppm ≤ 300) ∧
      (∀ e, (getEng t e).words = { (getEng s e).words with count := (s.clk.now - (getEng s e).words.origin) * 3 / 2, tod := ((s.clk.sec + 1) % 2 ^ 48) * 1000000000 })) ∧
  (∀ s : State, (s.tod.st < 2 → clockClass s = 248) ∧
    (s.tod.st = 2 → s.tod.source = 1 → clockClass s = s.tod.parent) ∧
    (s.tod.st = 2 → s.tod.source ≠ 1 → clockClass s = regF s .todCfg .A 0 31 24) ∧
    (s.tod.st = 3 → clockClass s = if s.tod.holdExpired then 165 else 135))

/-- The host configures a client port and its lanes, and the port goes from WAIT_REF through training and alignment as
R406 says (R392, R396, R397, R399, R400, R405, R406, R408, R409, R412, R413). -/
def Obligations.ClientPorts : Prop :=
  (∀ (p : PortIx) (v : W32) (s : State), Writes ((writeGate s .cltx).worse (if clnPortRefused s p.val (v &&& Reg.clnPort.row.wmask) then .errState else .ok)) (.clnPortWrite p v) s [.status, .regs, .flags, .rsc, .seenSec, .isls, .tod, .cln, .tally] fun t =>
      getReg t .clnPort .A p.val = v &&& Reg.clnPort.row.wmask ∧
      (portEn (portReg s p.val) = true → v.getLsbD 0 = false → (getPort t p.val).st = .disabled) ∧
      (portEn (portReg s p.val) = false → v.getLsbD 0 = true → (getPort t p.val).st = .waitRef) ∧
      (portEn (portReg s p.val) = v.getLsbD 0 → (getPort t p.val).st = (getPort s p.val).st)) ∧
  (∀ (k : PortIx) (v : W32) (s : State), Writes ((writeGate s .cltx).worse (if clnLaneRefused s k.val (v &&& Reg.clnLane.row.wmask) then .errState else .ok)) (.clnLaneWrite k v) s [.free, .status, .regs, .flags, .rsc, .seenSec, .isls, .cln, .tally] fun t =>
      getReg t .clnLane .A k.val = v &&& Reg.clnLane.row.wmask ∧
      ((fld (v &&& Reg.clnLane.row.wmask) 9 8 ≠ laneLoop s k.val ∨ fld (v &&& Reg.clnLane.row.wmask) 12 12 ≠ lanePat s k.val) → (getLane t k.val).prbs = false) ∧
      (∀ p, portOfLane s k.val = some p → fld (v &&& Reg.clnLane.row.wmask) 9 8 = 0 → (getPort s p).st = .test →
        (∀ j, j ∈ lanesOf p (portReg s p) → j ≠ k.val → laneLoop s j = 0) → (getPort t p).st = .waitRef) ∧
      (∀ p, portOfLane s k.val = some p → fld (v &&& Reg.clnLane.row.wmask) 9 8 ≠ 0 → (getPort s p).st ≠ .disabled → (getPort t p).st = .test)) ∧
  (∀ (p : PortIx) (s : State), ActsIf (clnRuns s && s.cln.refOk && (getPort s p.val).st = .waitRef) (.clnPortRefReady p) s [.free, .cln] fun t =>
      (getPort t p.val).st = (if (lanesOf p.val (portReg s p.val)).any (fun k => laneLoop s k ≠ 0) then .test else if trains s p.val then .training else .align) ∧
      ((getPort t p.val).st = .align → (getPort t p.val).page = if runsAn s p.val then 0x0020 else 0) ∧
      (∀ q, q ≠ p.val → getPort t q = getPort s q)) ∧
  (∀ (p : PortIx) (reqTx : Nat) (snr : List Nat) (eq : List (List Int)) (s : State), ActsIf (clnTrains s && (getPort s p.val).st = .training) (.clnTrainingDone p reqTx snr eq) s [.free, .cln] fun t =>
      (getPort t p.val).st = .align ∧ (∀ q, q ≠ p.val → getPort t q = getPort s q) ∧
      (∀ j, j < portLanes (portReg s p.val) →
        (getLane t (p.val + j)).preTx = (portPam4 s p.val && (fld (getLane s (p.val + j)).cfg 1 0 = 2 || (fld (getLane s (p.val + j)).cfg 1 0 = 0 && reqTx.testBit j))) ∧
        (getLane t (p.val + j)).preRx = (portPam4 s p.val && (fld (getLane s (p.val + j)).cfg 3 2 = 2 || (fld (getLane s (p.val + j)).cfg 3 2 = 0 && snr.getD j 0 % 65536 < 1700))) ∧
        (getLane t (p.val + j)).signal = true ∧ (getLane t (p.val + j)).cdr = true ∧ (getLane t (p.val + j)).snr = snr.getD j 0 % 65536 ∧ (getLane t (p.val + j)).eq = eq.getD j [])) ∧
  (∀ (p : PortIx) (mask : Nat) (s : State), ActsIf (clnTrains s && (getPort s p.val).st = .training) (.clnTrainFail p mask) s [.flags, .rsc, .seenSec, .isls, .tally] fun t =>
      t.cln = s.cln ∧ counted 17 p.val 14 1 s t ∧ flagged .clnFlags .A 3 s t ∧ ((0x0A03, p.val) ∉ s.seenSec → recorded .clrx 0x0A03 p.val (packData [(8, mask)]) s t)) ∧
  (∀ (p : PortIx) (bits : List Bool) (partner : BitVec 16) (s : State),
    ActsIf (clnRuns s && (getPort s p.val).st = .align && (! runsAn s p.val || clnTrains s)) (.clnLinkUp p bits partner) s [.free, .flags, .rsc, .seenSec, .isls, .cln, .tally] fun t =>
      let r := nrzReceive (getLane s p.val).nrz (if polRx (getLane s p.val) then bits.map (fun b => ! b) else bits)
      let fit : Bool := portPam4 s p.val || (nrzSynced r.1 && (! runsAn s p.val || fullDuplex partner))
      (portPam4 s p.val = false → counted 18 p.val 1 r.2 s t ∧ (getLane t p.val).nrz = r.1) ∧ (portPam4 s p.val = true → t.tally = s.tally) ∧
      (∀ q, q ≠ p.val → getPort t q = getPort s q) ∧
      (fit = false → t.cln.ports = s.cln.ports ∧ t.flags = s.flags ∧ t.isls = s.isls) ∧
      (fit = true → (getPort t p.val).st = .up ∧ (getPort t p.val).hiSer = (getPort s p.val).hiSer ∧ (getPort t p.val).anDone = runsAn s p.val ∧
        flagged .clnFlags .A 0 s t ∧
        (∀ k, k ∈ lanesOf p.val (portReg s p.val) → (getLane t k).signal = true ∧ (getLane t k).cdr = true))) ∧
  (∀ (p : PortIx) (mask : Nat) (s : State), ActsIf (clnRuns s && (getPort s p.val).st = .align) (.clnAlignFail p mask) s [.flags, .rsc, .seenSec, .isls, .cln] fun t =>
      (∀ k, (getLane t k).nrz = (getLane s k).nrz) ∧
      (getPort t p.val).st = (if trains s p.val then .training else .align) ∧ flagged .clnFlags .A 5 s t ∧ ((0x0A04, p.val) ∉ s.seenSec → recorded .clrx 0x0A04 p.val (packData [(8, mask)]) s t)) ∧
  (∀ (x : LaneRx) (s : State), let k := x.lane.val
    ActsIf (checks s k && ! (getLane s k).prbs && prbsLocks (lanePam s k) (lanePat s k) x.bits) (.prbsLockAcquired x) s [.cln] fun t =>
      (getLane t k).prbs = true ∧ (getLane t k).prbsSec = true ∧ (getLane t k).gen = (prbsRun (lanePam s k) (lanePat s k) x.bits.length (getLane s k).gen).2 ∧
      (∀ j, j ≠ k → getLane t j = getLane s j)) ∧
  (∀ (x : LaneRx) (s : State), let k := x.lane.val
    ActsIf (checks s k && (getLane s k).prbs && prbsLoses (lanePam s k) (lanePat s k) x.reg x.bits) (.prbsLockLost x) s [.cln, .tally] fun t =>
      (getLane t k).prbs = false ∧ counted 18 k 2 (prbsErrors (lanePam s k) (lanePat s k) x.reg x.bits) s t ∧
      (getLane t k).gen = (prbsRun (lanePam s k) (lanePat s k) x.bits.length (getLane s k).gen).2 ∧ (∀ j, j ≠ k → getLane t j = getLane s j))

/-- A client link goes down with its cause, and a lost reference sends every enabled port to WAIT_REF (R392, R395, R398,
R406, R417). -/
def Obligations.ClientLinkLoss : Prop :=
  (∀ (p : PortIx) (cause : LinkLoss) (s : State), ActsIf (rxRuns s && (getPort s p.val).st = .up && (cause ≠ .autoneg || runsAn s p.val)) (.clnLinkDown p cause) s [.free, .flags, .rsc, .seenSec, .isls, .cln, .tally] fun t =>
      let u := takeNrz p.val (lossBits cause) s
      let keeps : Bool := lossCode cause = 2 && ! portPam4 s p.val && nrzSynced (getLane u p.val).nrz
      (keeps = true → t = u) ∧ (keeps = false → (getPort t p.val).st = (if trains s p.val then .training else .align) ∧ (getPort t p.val).hiSer = false ∧ (∀ q, q ≠ p.val → getPort t q = getPort s q) ∧
      flagged .clnFlags .A 1 s t ∧ ((0x0A02, p.val) ∉ s.seenSec → recorded .clrx 0x0A02 p.val (packData [(8, lossCode cause)]) s t) ∧
      (2 ≤ lossCode cause → ∀ k, getLane t k =
        (if trains s p.val = false ∧ p.val ≤ k ∧ k < p.val + portLanes (portReg s p.val) then { getLane u k with pTx := 0, pRx := 0 } else getLane u k)) ∧
      (cause = .signal → portLanes (portReg s p.val) = 1 → (getLane t p.val).signal = false ∧ (getLane t p.val).cdr = false ∧ (getLane t p.val).nrz = {}))) ∧
  (∀ (ppm : Int) (s : State), ActsIf (alive s && s.cln.refOk) (.clnRefclkLost ppm) s [.flags, .rsc, .seenSec, .isls, .cln, .tally] fun t =>
      t.cln.refOk = false ∧ t.cln.ppm = ppm ∧ (getFlags t (Reg.addr .clnFlags .A 0 0)).getLsbD 2 = true ∧
      (∀ k, k < 32 → (getLane t k).prbs = false) ∧
      (∀ p, p < 32 → (getPort t p).st = (if (getPort s p).st = .disabled then .disabled else .waitRef))) ∧
  (∀ (ppm : Int) (s : State), ActsIf (alive s && ! s.cln.refOk && refValid ppm) (.clnRefclkOk ppm) s [.seenSec, .isls, .cln] fun t =>
      t.cln = { s.cln with refOk := true, ppm := ppm } ∧ ((0x0A07, 0) ∉ s.seenSec → recorded .cltx 0x0A07 0 (packData [(16, ppm)]) s t)) ∧
  (∀ (p : PortIx) (symCorr : Nat) (s : State), ActsIf (rxRuns s && (getPort s p.val).st = .up && portPam4 s p.val && ! (getPort s p.val).hiSer) (.clnHiSer p symCorr) s [.flags, .rsc, .seenSec, .isls, .cln] fun t =>
      getPort t p.val = { getPort s p.val with hiSer := true } ∧ (∀ q, q ≠ p.val → getPort t q = getPort s q) ∧ flagged .clnFlags .A 4 s t ∧ ((0x0A05, p.val) ∉ s.seenSec → recorded .clrx 0x0A05 p.val (packData [(32, symCorr)]) s t)) ∧
  (∀ (p : PortIx) (s : State), ActsIf (rxRuns s && (getPort s p.val).hiSer) (.hiSerClear p) s [.cln] fun t =>
      getPort t p.val = { getPort s p.val with hiSer := false } ∧ (∀ q, q ≠ p.val → getPort t q = getPort s q))

/-- A unit is sealed under its slot's current generation and counter, and a received unit passes the checks of R438 in their
order (R434, R435, R436, R437, R438, R440, R442, R471). What waited for a drained slot is served in the order it arose, which for a fence of KEY is
the model's (notes/assumptions/237.md). -/
def Obligations.UnitCiphers : Prop :=
  (∀ (e : Eng) (c : Cid) (s : State), ActsIf (inService s && flowRuns s && crypTakes s) (.unitEncrypt e c) s [.free, .flags, .rsc, .seenSec, .isls, .ssets, .ctrs, .flow, .sec, .mem, .tally] fun t =>
      ((getCtr s e c).queue = [] → t = s) ∧
      (∀ q rest, (getCtr s e c).queue = q :: rest →
        let k := ctrSlot s e c false
        let x := getSlot s k
        let r := (queuePoison q s).1
        let u := (queuePoison q s).2
        (getCtr t e c).queue = rest ∧
        (r ≠ 0 → (getCtr t e c).out = (getCtr s e c).out ∧ t.sec = s.sec ∧ t.flags = u.flags ∧ t.tally = (count 23 r 4 1 u).tally) ∧
        (r = 0 →
          ((x.st = .empty ∨ x.st = .erasing) → (getCtr t e c).out = (getCtr s e c).out ∧ t.sec = s.sec ∧ flagged .secFlags .A 3 u t ∧ t.tally = (perSecond .cryp 0x0B08 k 1 (countCtr 19 e c 0 1 u)).tally) ∧
          ((x.st = .one ∨ x.st = .two) → 2 ^ 62 ≤ x.cur.ctr → (getCtr t e c).out = (getCtr s e c).out ∧ t.sec = s.sec ∧ flagged .secFlags .A 5 u t ∧ t.tally = (perSecond .cryp 0x0B05 k 1 (countCtr 19 e c 1 1 u)).tally) ∧
          ((x.st = .one ∨ x.st = .two) → x.cur.ctr < 2 ^ 62 → (getSlot t k).cur.ctr = x.cur.ctr + 1 ∧ (getSlot t k).st = x.st ∧ (getSlot t k).old = x.old ∧
            (softReached (regF s .secCfg .A 0 5 0) x.cur.ctr (x.cur.ctr + 1) = false → (getSlot t k).want = x.want ∧ t.flags = u.flags) ∧
            (softReached (regF s .secCfg .A 0 5 0) x.cur.ctr (x.cur.ctr + 1) = true → (getSlot t k).want = (if x.want = none then some 0 else x.want) ∧
              flagged .secFlags .A 4 u t ∧ ((0x0B04, k) ∉ u.seenSec → recorded .cryp 0x0B04 k (packData [(32, (x.cur.ctr + 1) / 2 ^ 32)]) u t)) ∧
            (getCtr t e c).out = (getCtr s e c).out ++ [⟨c, q.flow, q.fsn, sealUnit x.cur c (x.gen % 2 * 2 ^ 63 + x.cur.ctr) q.body, q.dram⟩])))) ∧
  (∀ (s : State), ActsIf (inService s && s.sec.usIn ≠ [] && dpFence s .cryp ≠ .quiesce) .unitDecrypt s [.flags, .rsc, .seenSec, .isls, .flow, .sec, .tally] fun t =>
      (∀ u rest, s.sec.usIn = u :: rest →
        let w := fld u.header 95 64
        let c := unitCid w
        let k := usSlot s u.eng u.leaf
        let ic := fld u.header 61 0
        let gen := genOfParity (getSlot s k) (fld u.header 63 63)
        t.sec.usIn = rest ∧
        (usLost s .cryp = true → t.flow = s.flow ∧ t.tally = (countCtr 19 u.eng c 4 1 s).tally) ∧
        (usLost s .cryp = false → unitClear w = true → usLost s .flow = true → t.flow = s.flow ∧ t.tally = (countCtr 19 u.eng c 4 1 s).tally) ∧
        (usLost s .cryp = false → unitClear w = true → usLost s .flow = false → t.flow = { s.flow with usClear := s.flow.usClear ++ [{ u with tag := [] }] } ∧ t.tally = s.tally) ∧
        (usLost s .cryp = false → unitClear w = false → gen = none → t.flow = s.flow ∧ flagged .secFlags .A 3 s t ∧ t.tally = (perSecond .cryp 0x0B08 k 1 (countCtr 19 u.eng c 0 1 s)).tally) ∧
        (∀ b g, usLost s .cryp = false → unitClear w = false → gen = some (b, g) → u.header.getLsbD 62 = true →
          t.flow = s.flow ∧ getSlot t k = getSlot s k ∧ flagged .secFlags .A 5 s t ∧ t.tally = (perSecond .cryp 0x0B05 k 1 (countCtr 19 u.eng c 1 1 s)).tally) ∧
        (∀ b g, usLost s .cryp = false → unitClear w = false → gen = some (b, g) → u.header.getLsbD 62 = false → ic < g.ctr →
          t.flow = s.flow ∧ getSlot t k = getSlot s k ∧ flagged .secFlags .A 2 s t ∧ t.tally = (perSecond .cryp 0x0B07 (65536 * u.eng.num + c) 1 (countCtr 19 u.eng c 2 1 s)).tally) ∧
        (∀ b g, usLost s .cryp = false → unitClear w = false → gen = some (b, g) → u.header.getLsbD 62 = false → g.ctr ≤ ic →
          gcmOpen g.key g.subkey (ivOf g.salt (fld u.header 63 0)) (toBytes 12 u.header.toNat) u.body u.tag = none →
          t.flow = s.flow ∧ getSlot t k = getSlot s k ∧ flagged .secFlags .A 1 s t ∧ t.tally = (perSecond .cryp 0x0B06 (65536 * u.eng.num + c) 1 (countCtr 19 u.eng c 3 1 s)).tally) ∧
        (∀ b g d, usLost s .cryp = false → unitClear w = false → gen = some (b, g) → u.header.getLsbD 62 = false → g.ctr ≤ ic →
          gcmOpen g.key g.subkey (ivOf g.salt (fld u.header 63 0)) (toBytes 12 u.header.toNat) u.body u.tag = some d →
          (usLost s .flow = true → t.flow = s.flow ∧ t.tally = (countCtr 19 u.eng c 4 1 s).tally) ∧
            (usLost s .flow = false → t.flow = { s.flow with usClear := s.flow.usClear ++ [{ u with body := d, tag := [] }] } ∧ t.tally = s.tally) ∧
            (b = true → (getSlot t k).cur.ctr = ic + 1 ∧ (getSlot t k).old = (getSlot s k).old) ∧ (b = false → (getSlot t k).old.ctr = ic + 1 ∧ (getSlot t k).cur = (getSlot s k).cur)))) ∧
  (∀ (k : KeySlotIx) (s : State), ActsIf ((getSlot s k.val).st = .erasing || ((getSlot s k.val).st = .two && ! (match slotLeaf k.val with | some (us, _, _) => us | none => false))) (.slotGenerationDrained k) s [.seenSec, .isls, .engA, .engB, .leaves, .flow, .sec, .tally] fun t =>
      ((getSlot s k.val).st = .erasing → t = serveDeferred (setSlot k.val {} s)) ∧
      ((getSlot s k.val).st = .erasing → s.sec.waits = [] → getSlot t k.val = {} ∧ (∀ n, n ≠ k.val → getSlot t n = getSlot s n)) ∧
      ((getSlot s k.val).st = .two → getSlot t k.val = { getSlot s k.val with st := .one, old := {}, bankOld := {} } ∧ (∀ n, n ≠ k.val → getSlot t n = getSlot s n))) ∧
  (∀ (k : KeySlotIx) (s : State), ActsIf ((getSlot s k.val).st = .two && (getSlot s k.val).newSeen && (match slotLeaf k.val with | some (us, _, _) => us | none => false)) (.upstreamOldGenerationExpiry k) s [.sec] fun t =>
      getSlot t k.val = { getSlot s k.val with st := .one, old := {}, bankOld := {}, newSeen := false } ∧ (∀ n, n ≠ k.val → getSlot t n = getSlot s n))

/-- A registration record is checked in the order of R451, answered, or ends the exchange with its cause, and the Shaker
fails and recovers as R429 says (R427, R429, R448, R450, R451). -/
def Obligations.RegistrationExchange : Prop :=
  (∀ (e : Eng) (l : LeafId) (body : List Byte) (s : State), ActsIf (inService s && (getLeaf s e l).st = .registering && (getLeaf s e l).exch.running && (getLeaf s e l).exch.reg = 1 && (getLeaf s e l).exch.kex ≠ body && ! keyDown s) (.leafKexReceived e l body) s [.flags, .rsc, .seenSec, .isls, .engA, .engB, .leaves, .flow, .sec, .tally] fun t =>
      (∀ c, kexFault s (getLeaf s e l) body = some c → (getLeaf t e l).exch.reg = 4 ∧ (getLeaf t e l).exch.cause = c ∧ (getLeaf t e l).exch.running = false ∧ (getFlags t (Reg.addr .secFlags e 0 0)).getLsbD 6 = true ∧ (s.sec.waits = [] → t.engA = s.engA ∧ t.engB = s.engB)) ∧
      (timesSkipped s (getLeaf s e l) body = true → kexFault s (getLeaf s e l) body = none → t.tally = (countReg e l 2 s).tally) ∧
      (kexFault s (getLeaf s e l) body = none → (getLeaf t e l).exch.reg = 2 ∧ (getLeaf t e l).exch.kex = body ∧ (getLeaf t e l).st = .registering ∧ queued t (treeEng s e) = queued s (treeEng s e) ++ [.reg l 0x03 (getLeaf t e l).exch.macM])) ∧
  (∀ (e : Eng) (l : LeafId) (body : List Byte) (s : State), ActsIf (inService s && (getLeaf s e l).st = .registering && (getLeaf s e l).exch.running && (getLeaf s e l).exch.reg = 2 && ! keyDown s && (getSlot s (dsSlot s e l)).st = .empty && (getSlot s (usSlot s e l)).st = .empty) (.leafFinReceived e l body) s [.flags, .rsc, .seenSec, .isls, .engA, .engB, .leaves, .flow, .sec, .tally] fun t =>
      (body.length ≠ 32 → (getLeaf t e l).exch.reg = 4 ∧ (getLeaf t e l).exch.cause = rcFormat ∧ (s.sec.waits = [] → t.sec.slots = s.sec.slots)) ∧
      (body.length = 32 → Config.hmac (getLeaf s e l).exch.klf ((getLeaf s e l).exch.th2 ++ (getLeaf s e l).exch.macM) ≠ body → (getLeaf t e l).exch.reg = 4 ∧ (getLeaf t e l).exch.cause = rcMac ∧ (s.sec.waits = [] → t.sec.slots = s.sec.slots)) ∧
      (body.length = 32 → Config.hmac (getLeaf s e l).exch.klf ((getLeaf s e l).exch.th2 ++ (getLeaf s e l).exch.macM) = body → s.sec.shakerOk = false → (getLeaf t e l).exch.reg = 4 ∧ (getLeaf t e l).exch.cause = rcShaker ∧ (s.sec.waits = [] → t.sec.slots = s.sec.slots)) ∧
      (body.length = 32 → Config.hmac (getLeaf s e l).exch.klf ((getLeaf s e l).exch.th2 ++ (getLeaf s e l).exch.macM) = body → s.sec.shakerOk = true → (getLeaf t e l).exch.reg = 3 ∧
        (KeyWait.erase (dsSlot s e l) ∉ s.sec.waits → (getSlot t (dsSlot s e l)).st = .one ∧ (getSlot t (dsSlot s e l)).gen = 0 ∧ (getSlot t (dsSlot s e l)).cur.key = keyOf (leafKeyBytes (getLeaf s e l).exch.ms false 0 l)) ∧
        (KeyWait.erase (usSlot s e l) ∉ s.sec.waits → (getSlot t (usSlot s e l)).st = .one ∧ (getSlot t (usSlot s e l)).gen = 0 ∧ (getSlot t (usSlot s e l)).cur.key = keyOf (leafKeyBytes (getLeaf s e l).exch.ms true 0 l)))) ∧
  (∀ (e : Eng) (l : LeafId) (cause : Nat) (s : State), ActsIf (inService s && (getLeaf s e l).st = .registering && (getLeaf s e l).exch.running && ! keyDown s) (.leafFailReceived e l cause) s [.flags, .rsc, .seenSec, .isls, .engA, .engB, .leaves, .flow, .sec, .tally] fun t =>
      (getLeaf t e l).exch.reg = 4 ∧ (getLeaf t e l).exch.cause = rcAbort ∧ (getLeaf t e l).st = .registering ∧ (s.sec.waits = [] → ∀ n, n ≠ (l : Nat) → getLeaf t e n = getLeaf s e n)) ∧
  (∀ (e : Eng) (l : LeafId) (s : State), ActsIf (inService s && ((getLeaf s e l).exch.running || (getLeaf s e l).exch.ackWait ≠ 0) && (getLeaf s e l).exch.lastRec.isSome) (.regRecordResend e l) s [.engA, .engB] fun t =>
      (∀ r b, (getLeaf s e l).exch.lastRec = some (r, b) → queued t (treeEng s e) = queued s (treeEng s e) ++ [.reg l r b])) ∧
  (∀ (test : Fin 3) (raw : List Bool) (s : State), ActsIf (powered s && s.boot.fw && healthFails test.val raw) (.shakerHealthFail test raw) s [.flags, .rsc, .seenSec, .isls, .sec, .mgt] fun t =>
      (let recent := (now s :: s.sec.fails).filter (fun m => now s < m + 1000000000)
       s.sec.restarts + 1 ≤ t.sec.restarts ∧ t.sec.restarts ≤ s.sec.restarts + 4 ∧
       ((s.sec.shakerOk = false ∨ 3 ≤ recent.length) → t.sec.shakerOk = false ∧ t.sec.fails = recent ∧ t.sec.restarts = s.sec.restarts + 1) ∧
       (s.sec.shakerOk = true → t.sec.shakerOk = false → flagged .secFlags .A 0 s t) ∧
       (t.sec.shakerOk = true → t.flags = s.flags ∧ t.isls = s.isls))) ∧
  (∀ (raw : List Bool) (s : State), ActsIf (powered s && s.boot.fw && ! s.sec.shakerOk && raw.length = aptWindow) (.shakerRetry raw) s [.seenSec, .isls, .engA, .engB, .leaves, .flow, .sec, .mgt, .tally] fun t =>
      (healthFails 2 raw = false → t.sec.shakerOk = true ∧ t.sec.fails = []) ∧ (healthFails 2 raw = true → t = s))

/-- A leaf slot and a group key are rekeyed when asked and acknowledged as R441 to R443 and R453 say (R432, R434, R441,
R442, R443, R453, R458). -/
def Obligations.Rekeying : Prop :=
  (∀ (k : KeySlotIx) (s : State), ActsIf (inService s && (getSlot s k.val).want.isSome && (getSlot s k.val).st = .one && bankerUp s) (.rekeyStart k) s [.seenSec, .isls, .engA, .engB, .leaves, .sec, .tally] fun t =>
      (slotLeaf k.val = none → t = s) ∧
      (∀ us e l, slotLeaf k.val = some (us, e, l) → (getLeaf s e l).st = .active → (getLeaf s e l).exch.ackWait = 0 →
        (getLeaf t e l).exch.ackWait = 5 ∧ (getLeaf t e l).exch.ackEpoch = nextEpoch (getLeaf s e l).exch us ∧
        (us = true → (getSlot t k.val).st = .two ∧ (getSlot t k.val).gen = (getSlot s k.val).gen + 1 ∧ (getSlot t k.val).old = (getSlot s k.val).cur ∧ (getLeaf t e l).exch.epochUs = (getLeaf s e l).exch.epochUs + 1 ∧ (getLeaf t e l).exch.ackDir = 2) ∧
        (us = false → getSlot t k.val = getSlot s k.val ∧ (getLeaf t e l).exch.ackDir = 1))) ∧
  (∀ (e : Eng) (l : LeafId) (body : List Byte) (s : State), ActsIf (inService s && (getLeaf s e l).exch.ackWait = 5 && ! keyDown s && body = rekeyBody ((getLeaf s e l).exch.ackDir = 2) (getLeaf s e l).exch.ackEpoch ++ recMac (getLeaf s e l).exch.ms 0x06 l (rekeyBody ((getLeaf s e l).exch.ackDir = 2) (getLeaf s e l).exch.ackEpoch)) (.rekeyAckReceived e l body) s [.seenSec, .isls, .engA, .engB, .leaves, .sec, .tally] fun t =>
      ((getLeaf s e l).exch.grpTodo = [] → (getLeaf t e l).exch.ackWait = 0) ∧
      ((getLeaf s e l).exch.ackDir = 2 → t.sec.slots = s.sec.slots ∨ (getLeaf s e l).exch.grpTodo ≠ []) ∧
      ((getLeaf s e l).exch.ackDir ≠ 2 → (getLeaf t e l).exch.epochDs = (getLeaf s e l).exch.ackEpoch ∧
        ((getSlot s (dsSlot s e l)).st = .one → (getSlot t (dsSlot s e l)).st = .two ∧ (getSlot t (dsSlot s e l)).cur.key = keyOf (leafKeyBytes (getLeaf s e l).exch.ms false (getLeaf s e l).exch.ackEpoch l)))) ∧
  (∀ (e : Eng) (l : LeafId) (body : List Byte) (s : State), ActsIf (inService s && (getLeaf s e l).exch.ackWait = 7 && ! keyDown s && body = toBytes 4 (getLeaf s e l).exch.ackGroup ++ toBytes 4 (getLeaf s e l).exch.ackEpoch ++ recMac (getLeaf s e l).exch.ms 0x08 l (toBytes 4 (getLeaf s e l).exch.ackGroup ++ toBytes 4 (getLeaf s e l).exch.ackEpoch)) (.groupAckReceived e l body) s [.seenSec, .isls, .engA, .engB, .leaves, .flow, .sec, .tally] fun t =>
      ((getLeaf s e l).exch.ackEpoch = (getGk s e (getLeaf s e l).exch.ackGroup).epoch → KeyWait.rekey (grpSlot s e (getLeaf s e l).exch.ackGroup) ∉ s.sec.waits →
        (getLeaf s e l).exch.ackGroup ∉ (getLeaf t e l).exch.grpTodo ∧ (l : Nat) ∉ (getGk t e (getLeaf s e l).exch.ackGroup).wait) ∧
      ((getLeaf s e l).exch.ackEpoch ≠ (getGk s e (getLeaf s e l).exch.ackGroup).epoch → s.sec.waits = [] → (getLeaf t e l).exch.grpTodo = (getLeaf s e l).exch.grpTodo)) ∧
  (∀ (e : Eng) (g : Fin 2048) (s : State), ActsIf (inService s && (getGk s e g).want && ! (getGk s e g).busy && bankerUp s && (getSlot s (grpSlot s e g)).st = .one) (.groupRekeyStart e g) s [.seenSec, .isls, .engA, .engB, .leaves, .flow, .sec, .tally] fun t =>
      (activeMembers s e g ≠ [] → (getGk t e g).want = false ∧ (getGk t e g).busy = true ∧ (getGk t e g).epoch = (getGk s e g).epoch + 1 ∧
        (getGk t e g).wait = activeMembers s e g ∧ (getGk t e g).key = keyOf (shake true 36 s).1 ∧ getSlot t (grpSlot s e g) = getSlot s (grpSlot s e g)) ∧
      (activeMembers s e g = [] → (getGk t e g).want = false ∧ (getGk t e g).busy = false ∧ (getGk t e g).wait = [] ∧
        (KeyWait.erase (grpSlot s e g) ∉ s.sec.waits → (getGk t e g).epoch = (getGk s e g).epoch + 1 ∧ (getSlot t (grpSlot s e g)).st = .two ∧
          (getSlot t (grpSlot s e g)).cur.key = keyOf (shake true 36 s).1 ∧ (getSlot t (grpSlot s e g)).old = (getSlot s (grpSlot s e g)).cur))) ∧
  (∀ (e : Eng) (g : Fin 2048) (s : State), ActsIf (inService s && (getGk s e g).busy) (.groupKeyRewriteTimeout e g) s [.seenSec, .isls, .engA, .engB, .leaves, .flow, .sec, .tally] fun t =>
      (keyDown s = true → t = addWait (.finish e g.val) s) ∧
      (keyDown s = false → KeyWait.rekey (grpSlot s e g) ∉ s.sec.waits → (getGk t e g).busy = false ∧ (getGk t e g).wait = []) ∧
      (keyDown s = false → (getSlot s (grpSlot s e g)).st = .one → KeyWait.erase (grpSlot s e g) ∉ s.sec.waits → (getSlot t (grpSlot s e g)).st = .two ∧ (getSlot t (grpSlot s e g)).cur.key = (getGk s e g).key ∧ (getSlot t (grpSlot s e g)).old = (getSlot s (grpSlot s e g)).cur)) ∧
  (∀ (k : KeySlotIx) (s : State), Writes ((writeGate s .key).worse (if rekeyRefused s k.val then .errState else .ok)) (.secKeyCmdRekey k) s [.status, .sec] fun t =>
      (getSlot t k.val).want = (if (getSlot s k.val).want = none then some 1 else (getSlot s k.val).want) ∧ (getSlot t k.val).st = (getSlot s k.val).st ∧ (∀ n, n ≠ k.val → getSlot t n = getSlot s n))

/-- Provisioning, return and void move the life-cycle state by the two-step commands of R423 to R425, and a wrong step
disarms (R418, R423, R424, R425, R580). What the states refuse, which steps come at the commit and when SIGN_HASH is blown are the model's
(notes/assumptions/70.md, 71.md, 224.md); what a fuse write blows is a free value. -/
def Obligations.LifeCycle : Prop :=
  (∀ (s : State), Writes ((writeGate s .key).worse (if lcState s ≠ 2 || s.fuse.signHash ≠ 0 || provHash s = 0 then .errState else .ok)) .secProvCommit s [.status, .fuse, .flags, .rsc, .seenSec, .isls] fun t =>
      t.fuse = { s.fuse with signHash := provHash s } ∧ flagged .secFlags .A 7 s t ∧ ((0x0B0B, 0) ∉ s.seenSec → recorded .key 0x0B0B 0 (packData [(32, (tget 0 s.sec.prov 0).toNat)]) s t)) ∧
  (∀ s : State, writeGate s .key = .ok → s.sec.arm ≠ .returnGo → s.sec.arm ≠ .voidGo →
      (mayReturn s = true → Acts .lcReturnArm s [.status, .fuse, .engA, .engB, .leaves, .sec] fun t => t.status = .ok ∧ t.sec.arm = .return ∧ t.sec.armAt = s.clk.now) ∧
      (¬ (mayReturn s = true) → exec .lcReturnArm s = .next { s with sec := { s.sec with arm := .none }, status := .errState })) ∧
    (∀ s : State, (writeGate s .key ≠ .ok ∨ s.sec.arm = .returnGo ∨ s.sec.arm = .voidGo) →
      exec .lcReturnArm s = .next { s with status := if writeGate s .key = .ok then .errState else writeGate s .key }) ∧
  (∀ s : State, writeGate s .key = .ok → s.sec.arm ≠ .returnGo → s.sec.arm ≠ .voidGo →
      (mayVoid s = true → Acts .lcVoidArm s [.status, .fuse, .engA, .engB, .leaves, .sec] fun t => t.status = .ok ∧ t.sec.arm = .void ∧ t.sec.armAt = s.clk.now) ∧
      (¬ (mayVoid s = true) → exec .lcVoidArm s = .next { s with sec := { s.sec with arm := .none }, status := .errState })) ∧
    (∀ s : State, (writeGate s .key ≠ .ok ∨ s.sec.arm = .returnGo ∨ s.sec.arm = .voidGo) →
      exec .lcVoidArm s = .next { s with status := if writeGate s .key = .ok then .errState else writeGate s .key }) ∧
  (∀ s : State, writeGate s .key = .ok → s.sec.arm ≠ .returnGo → s.sec.arm ≠ .voidGo →
      (s.sec.arm = .return ∧ armValid s = true → Acts .lcReturnCommit s [.status, .fuse, .engA, .engB, .leaves, .sec] fun t => t.status = .ok ∧ t.sec.arm = .returnGo ∧ t.sec.armAt = s.clk.now ∧
        t.sec.slots = [] ∧ t.sec.grp = [] ∧ t.fuse.drk = BitVec.allOnes 256 ∧ t.fuse.signHash = BitVec.allOnes 256) ∧
      (¬ (s.sec.arm = .return ∧ armValid s = true) → exec .lcReturnCommit s = .next { s with sec := { s.sec with arm := .none }, status := .errState })) ∧
    (∀ s : State, (writeGate s .key ≠ .ok ∨ s.sec.arm = .returnGo ∨ s.sec.arm = .voidGo) →
      exec .lcReturnCommit s = .next { s with status := if writeGate s .key = .ok then .errState else writeGate s .key }) ∧
  (∀ s : State, writeGate s .key = .ok → s.sec.arm ≠ .returnGo → s.sec.arm ≠ .voidGo →
      (s.sec.arm = .void ∧ armValid s = true → Acts .lcVoidCommit s [.status, .fuse, .engA, .engB, .leaves, .sec] fun t => t.status = .ok ∧ t.sec.arm = .voidGo ∧ t.sec.armAt = s.clk.now ∧
        t.sec.slots = [] ∧ t.sec.grp = [] ∧ t.fuse.drk = BitVec.allOnes 256 ∧ t.fuse.signHash = BitVec.allOnes 256) ∧
      (¬ (s.sec.arm = .void ∧ armValid s = true) → exec .lcVoidCommit s = .next { s with sec := { s.sec with arm := .none }, status := .errState })) ∧
    (∀ s : State, (writeGate s .key ≠ .ok ∨ s.sec.arm = .returnGo ∨ s.sec.arm = .voidGo) →
      exec .lcVoidCommit s = .next { s with status := if writeGate s .key = .ok then .errState else writeGate s .key }) ∧
  (∀ (s : State), ActsIf (s.sec.arm = .return || s.sec.arm = .void) .lcArmExpiry s [.sec] fun t =>
      t.sec = { s.sec with arm := .none }) ∧
  (∀ (a b c : BitVec 8) (s : State), ActsIf (powered s && (s.sec.arm = .returnGo || s.sec.arm = .voidGo)) (.secLcChange a b c) s (Part.but [.pending, .free, .status]) fun t =>
      started s t ∧ (let want : BitVec 8 := if s.sec.arm = .returnGo then s.fuse.lc ||| 0x0F else 0xFF
        t.fuse = s.fuse.blowLc (a &&& want) (b &&& want) (c &&& want))) ∧
  (∀ (s : State), ActsIf (powered s && lcState s = 0) .makerProgramming s [.free, .fuse, .boot, .mgt] fun t =>
      t.fuse = (blowOpen 1 s).fuse ∧
      t.fuse = s.fuse.blowLc (BitVec.ofNat 8 (Config.freeNat s.free) &&& 1) (BitVec.ofNat 8 (Config.freeNat (s.free + 1)) &&& 1)
        (BitVec.ofNat 8 (Config.freeNat (s.free + 2)) &&& 1)) ∧
  (∀ (s : State), ActsIf (powered s && lcState s = 1 && drkOk s && fullPassed s) .makerShipCommand s [.free, .fuse, .boot, .seenSec, .isls, .mgt] fun t =>
      t.fuse = (blowLocks (blowOpen 2 (orderHash s))).fuse ∧
      t.fuse = { s.fuse.blowLc (BitVec.ofNat 8 (Config.freeNat (s.free + 1)) &&& 2) (BitVec.ofNat 8 (Config.freeNat (s.free + 2)) &&& 2)
            (BitVec.ofNat 8 (Config.freeNat (s.free + 3)) &&& 2) with
        signHash := s.fuse.signHash ||| BitVec.ofNat 256 (Config.freeNat s.free)
        debugLock := s.fuse.debugLock || Config.freeBool (s.free + 4), testLock := s.fuse.testLock || Config.freeBool (s.free + 5) } ∧
      ((0x0B0A, 0) ∉ s.seenSec → recorded .key 0x0B0A 0 (packData [(8, 1), (8, lcState t), (8, b01 (lcState t ≠ 2 || ! t.fuse.debugLock || ! t.fuse.testLock))]) s t)) ∧
  (∀ (s : State), ActsIf (powered s && lcState s = 0) .makerVoidCommand s [.free, .fuse, .boot, .mgt] fun t =>
      t.fuse = { (blowOpen 0xFF s).fuse with drk := BitVec.allOnes 256, signHash := BitVec.allOnes 256 } ∧
      t.fuse.lc = (s.fuse.blowLc (BitVec.ofNat 8 (Config.freeNat s.free) &&& 0xFF) (BitVec.ofNat 8 (Config.freeNat (s.free + 1)) &&& 0xFF)
        (BitVec.ofNat 8 (Config.freeNat (s.free + 2)) &&& 0xFF)).lc)

/-- A bank moves to a FREE bank, the scrubber reports what it reads, and the tester borrows and returns a bank (R465, R466,
R467, R469, R470, R475, R476, R477, R478, R480, R481). -/
def Obligations.SharedMemory : Prop :=
  (∀ (src dst : BankIx) (s : State), Writes ((writeGate s .dmem).worse (if moveRefused s src.val dst.val then .errState else .ok)) (.memMoveGo src dst) s [.status, .mem] fun t =>
      t.mem = { s.mem with move := some (src.val, dst.val), moveWords := 0 }) ∧
  (∀ (s : State), ActsIf (dmemRuns s && s.mem.move.isSome) .memMoveDone s [.free, .regs, .flags, .rsc, .isls, .flow, .mem, .tally] fun t =>
      (∀ src dst, s.mem.move = some (src, dst) →
        let u := moveContents src dst (moveReads src s)
        t.mem = { u.mem with move := none, moveWords := 16384, place := tset none (tset none u.mem.place src (some (bankPlace u dst))) dst (some (bankPlace u src)) } ∧ flagged .memFlags .A 6 u t ∧
        tget 0 t.mem.sram src = 0 ∧ (src ≠ dst → tget 0 t.mem.sram dst = tget 0 s.mem.sram src) ∧
        recorded .dmem 0x0C06 (memObj (bankUse (bankWord s src)) src) (packData [(8, src), (8, dst), (8, 0)]) u t ∧
        (src < 64 → dst < 64 → src ≠ dst → bankWord t dst = bankWord s src ∧ bankWord t src = 0 ∧ (∀ b, b < 64 → b ≠ src → b ≠ dst → bankWord t b = bankWord s b)))) ∧
  (∀ (s : State), ActsIf (dmemRuns s && s.mem.move.isSome) .memMoveTimeout s [.free, .flags, .rsc, .isls, .mem] fun t =>
      (∀ src dst, s.mem.move = some (src, dst) → t.mem.move = none ∧ t.mem.moveWords < 16384 ∧ t.regs = s.regs ∧ flagged .memFlags .A 6 s t ∧
        recorded .dmem 0x0C06 (memObj (bankUse (bankWord s src)) src) (packData [(8, src), (8, dst), (8, 1)]) s t)) ∧
  ((∀ (l : List Nat) (s : State), (∀ n, n ∈ l → n = 0) → (eccOf l s).1 = .clean) ∧
   (∀ (l : List Nat) (s : State), (∀ n, n ∈ l → n ≤ 1) → 1 ∈ l → (eccOf l s).1 = .correctable) ∧
   (∀ (l : List Nat) (s : State), (∀ n, n ∈ l → n ≤ 2) → 2 ∈ l → (eccOf l s).1 = .uncorrectable)) ∧
  (∀ (r : Fin 16) (word : Nat) (errs : WordErrs) (s : State), ActsIf (dmemRuns s && scrubs s r.val && word < regionWords s r.val && ! bgtHoldsWord s r.val word) (.scrubberRead r word errs) s [.free, .flags, .rsc, .isls, .flow, .mem, .tally] fun t =>
      let o := (eccOf (errs.counts.take (if r.val < 8 then 8 else 1)) s).1
      let bad := (r.val, word) ∈ s.mem.poisoned
      let u := if errs.onDie = true ∧ 8 ≤ r.val then count 23 r.val 0 1 s else s
      (¬ bad → o = .clean → t.mem = s.mem ∧ t.flags = s.flags ∧ t.isls = s.isls ∧ t.tally = u.tally) ∧
      (¬ bad → o = .correctable → t.mem = s.mem ∧ t.tally = (perSecond .dmem 0x0C01 (memObj r.val word) 1 (count 23 r.val 0 1 u)).tally ∧ flagged .memFlags .A 0 s t) ∧
      ((bad ∨ o = .uncorrectable) → (r.val, word) ∈ t.mem.poisoned ∧ (∀ p, p ∈ s.mem.poisoned → p ∈ t.mem.poisoned) ∧ t.mem.eccRegion = r.val ∧ t.mem.eccAddr = word ∧
        counted 23 r.val 1 1 u t ∧ flagged .memFlags .A 1 s t ∧ recorded .dmem 0x0C02 (memObj r.val word) (packData [(8, 2)]) s t ∧ (r.val = 1 → word ∈ t.flow.badBuckets))) ∧
  (∀ (r : Fin 16) (ms : Nat) (s : State), ActsIf (dmemRuns s && scrubs s r.val) (.scrubLapEnd r ms) s [.flags, .rsc, .isls, .mem] fun t =>
      t.mem = { s.mem with lap := tset 0 s.mem.lap r.val (ms % 2 ^ 32) } ∧
      (1000 * regF s .memScrub .A 0 31 16 < ms → flagged .memFlags .A 4 s t ∧ recorded .dmem 0x0C04 (memObj r.val 0) (packData [(32, ms)]) s t) ∧
      (ms ≤ 1000 * regF s .memScrub .A 0 31 16 → t.flags = s.flags ∧ t.isls = s.isls)) ∧
  (∀ (b : BankIx) (word : Nat) (s : State), ActsIf (dmemRuns s && (getReg s .memBgt .A 0).getLsbD 0 && s.mem.bgt = none && ! bankPin (bankWord s b.val) && word + 64 ≤ 16384 && (match s.mem.move with | some (x, y) => b.val ≠ x && b.val ≠ y | none => true)) (.bgtBorrow b word) s [.mem] fun t =>
      t.mem = { s.mem with bgt := some (b.val, word) }) ∧
  (∀ (failWord : Option Nat) (mask : W32) (s : State), ActsIf (dmemRuns s && s.mem.bgt.isSome && failWord.all (bgtHolds s)) (.bgtMarchDone failWord mask) s [.flags, .rsc, .isls, .mem] fun t =>
      t.mem = { s.mem with bgt := none } ∧ (failWord = none → t.isls = s.isls ∧ t.flags = s.flags) ∧
      (∀ b k w, s.mem.bgt = some (b, k) → failWord = some w → flagged .memFlags .A 5 s t ∧
        recorded .dmem 0x0C05 (memObj (bankUse (bankWord s b)) b) (packData [(16, w), (32, mask.toNat)]) s t)) ∧
  (∀ (s : State), ActsIf (dmemRuns s && s.mem.bgt.isSome) .bgtYield s [.flags, .rsc, .mem, .tally] fun t =>
      t.mem = { s.mem with bgt := none } ∧ flagged .memFlags .A 3 s t ∧ (∀ b k, s.mem.bgt = some (b, k) → counted 23 (bankUse (bankWord s b)) 3 1 s t))

/-- A scratchpad write stores its bytes and leaves every other word as it was (R473, R490, R492, R497). -/
def Obligations.Scratchpad : Prop :=
  (∀ (adr : Nat) (data : List Byte) (poison : Bool) (s : State), Writes (if adr < 0x74000000 ∨ 0x04000000 ≤ adr - 0x74000000 then .errAddr else if 0x04000000 < adr - 0x74000000 + data.length then .errRange else writeGate s .dmem) (.scratchpadWrite adr data poison) s [.status, .flags, .rsc, .isls, .flow, .mem, .tally] fun t =>
      (let o := adr - 0x74000000
       (∀ i, i < data.length → tget none t.mem.scratch (o + i) = data[i]?) ∧
       (∀ a, (a < 64 * (o / 64) ∨ 64 * ((o + data.length + 63) / 64) ≤ a) → tget none t.mem.scratch a = tget none s.mem.scratch a) ∧
       (poison = false → (∀ w, (14, w) ∉ s.mem.poisoned) → ∀ a, (a < o ∨ o + data.length ≤ a) → tget none t.mem.scratch a = tget none s.mem.scratch a)))

/-- A private write is checked and applied, a read is set up, fetched and answered with its status first, and the target
reset pattern acts as RSTACT armed it (R24, R485, R487, R488, R489, R490, R491, R492, R495, R496, R523). What a damaged transfer leaves is the model's (notes/assumptions/145.md). -/
def Obligations.I3cTransfers : Prop :=
  (∀ (adr : W32) (len : Nat) (data : List Byte) (s : State), ActsIf (addressed s) (.i3cPrivateWrite adr len ⟨data, .none⟩) s (Part.but [.pending, .status]) fun t =>
      (let n := if len = 0 then 256 else len
       let c := writeCheck s adr.toNat n data
       (c ≠ .ok → t.mgt.lastWrite = true ∧ t.mgt.wSeq = (s.mgt.wSeq + 1) % 2 ^ 16 ∧ t.mgt.wCode = c ∧ t.mgt.wWords = 0 ∧ t.regs = s.regs ∧ t.mem = s.mem ∧ t.flow = s.flow ∧ t.upd = s.upd) ∧
       (c = .ok → byteWindow adr.toNat = false → data.length = 4 →
         let w := writeAt adr.toNat (wordAt data 0) s
         t.regs = w.1.regs ∧ (w.1.boot.fuses = false → t.mgt = w.1.mgt) ∧
           (w.1.boot.fuses = true → t.mgt.lastWrite = true ∧ t.mgt.wSeq = (w.1.mgt.wSeq + 1) % 2 ^ 16 ∧ t.mgt.wCode = w.2 ∧ t.mgt.wWords = (if w.2 = .ok then 1 else 0))))) ∧
  (∀ (adr : W32) (len : Nat) (data : List Byte) (f : XferFault) (s : State), f ≠ .none → ActsIf (addressed s) (.i3cPrivateWrite adr len ⟨data, f⟩) s (Part.but [.pending, .status]) fun t =>
      t.mgt = { s.mgt with protoErr := true, hdr := false, badCmd := s.mgt.badCmd || decide (f = .command) } ∧ flagged .mgtFlags .A 2 s t ∧
      ((0x0D05, 0) ∉ s.seenSec → recorded .mgt 0x0D05 0 (packData [(8, if f = .command then 2 else b01 s.mgt.hdr)]) s t)) ∧
  (∀ (adr : W32) (len : Nat) (s : State), ActsIf (addressed s) (.i3cReadSetup adr len) s [.mgt, .bus] fun t =>
      (let n := if len = 0 then 256 else len
       t.mgt = { s.mgt with rd := some { adr := adr.toNat, len := n, reqs := askSpan s adr.toNat n }, lastWrite := false, badCmd := false, hdr := false })) ∧
  (∀ (len : Nat) (s : State), ActsIf (addressed s) (.i3cReadContinue len) s [.mgt, .bus] fun t =>
      (∀ r, s.mgt.rd = some r → let n := if len = 0 then 256 else len
        t.mgt.rd = some { adr := r.adr + r.len, len := n, reqs := askSpan s (r.adr + r.len) n }) ∧ (s.mgt.rd = none → t.mgt.rd = none) ∧ t.mgt.lastWrite = false) ∧
  (∀ (outcome : ReadOutcome) (s : State), ActsIf (targetUp s) (.readFetchDone outcome) s [.free, .flags, .rsc, .isls, .flow, .tod, .sec, .mem, .mgt, .tally, .bus] fun t =>
      (s.mgt.rd = none → t = s) ∧
      (∀ r, s.mgt.rd = some r → r.fetched = true → t = s) ∧
      (∀ r, s.mgt.rd = some r → r.fetched = false → (∃ q, q ∈ r.reqs ∧ replyStale s q = true) →
        t.mgt.rd = some { r with reqs := askSpan s r.adr r.len } ∧ t.regs = s.regs ∧ t.mem = s.mem ∧ t.flow = s.flow ∧
          (getIsl t .mgt).stale = min (2 ^ 32 - 1) ((getIsl s .mgt).stale + (r.reqs.filter (replyStale s)).length)) ∧
      (∀ r, s.mgt.rd = some r → r.fetched = false → (∀ q, q ∈ r.reqs → replyStale s q = false) → readCheck s r.adr r.len ≠ .ok → t.mgt.rd = some { r with fetched := true, head := s.mgt.head, status := readCheck s r.adr r.len, data := [] } ∧ t.regs = s.regs) ∧
      (∀ r a, s.mgt.rd = some r → r.fetched = false → (∀ q, q ∈ r.reqs → replyStale s q = false) → readCheck s r.adr r.len = .ok → r.len = 4 → place r.adr = some (.reg a) → (outcome = .clean ∨ outcome = .collision) →
        ∃ q, t.mgt.rd = some q ∧ q.fetched = true ∧ q.status = .ok ∧ q.data = wordBytes (fetchPlace (.reg a) s).1)) ∧
  (∀ (s : State), ActsIf (addressed s) .i3cPrivateRead s [.free, .pins, .mgt, .bus] fun t =>
      (let p := readReply s
       p.2.1.head? = some (BitVec.ofNat 8 p.1.code) ∧
       (s.mgt.hdr = false → t.mgt.reply = p.2.1.take s.mgt.mrl) ∧ t.mgt.hdr = false ∧
       (p.1 = .busy → t.pins = { s.pins with busyPulses := s.pins.busyPulses + 1 }) ∧ (p.1 ≠ .busy → t.pins = s.pins) ∧
       (s.mgt.badCmd = true → p.1 = .errAccess ∧ p.2.1 = [0x11]) ∧ (s.mgt.badCmd = false → s.mgt.lastWrite = true → p.2.1.tail = wordBytes (wstat s)))) ∧
  (∀ (s : State), ActsIf (s.pwr.run = .starting || s.pwr.run = .bootRom || s.pwr.run = .ready) .targetResetPattern s (Part.but [.pending, .free, .status, .fuse]) fun t =>
      (s.mgt.arm = some 1 → s.pwr.emerg = .none → started s t) ∧
      (s.mgt.arm = some 0 → t.mgt.arm = none ∧ t.mgt.da = s.mgt.da ∧ t.regs = s.regs ∧ t.isls = s.isls) ∧
      (s.mgt.arm = none → t.mgt.da = none ∧ t.mgt.ibiEn = false ∧ t.mgt.ibiOff = false ∧ t.mgt.mwl = 262 ∧ t.mgt.mrl = 257 ∧ t.mgt.rd = none ∧ flagged .mgtFlags .A 3 s t))

/-- The target answers each CCC of R487 with its effect and its bytes, or NACKs it (R483, R485, R486, R487, R495). The bytes that R487 leaves to
MIPI I3C and the count of GETSTATUS are the model's (notes/assumptions/135.md, 136.md). -/
def Obligations.CccRequests : Prop :=
  (∀ (events : Byte) (s : State), Acts (.cccEnec events) s [.mgt, .bus] fun t =>
      ((targetUp s && true) = true → t.mgt = { { s.mgt with ibiEn := s.mgt.ibiEn || events.getLsbD 0, ibiOff := s.mgt.ibiOff && ! events.getLsbD 0 } with cccAck := true, cccReply := [] }) ∧
      ((targetUp s && true) = false → t = { s with mgt := { s.mgt with cccAck := false, cccReply := [] } })) ∧
  (∀ (events : Byte) (s : State), Acts (.cccDisec events) s [.mgt, .bus] fun t =>
      ((targetUp s && true) = true → t.mgt = { { s.mgt with ibiEn := s.mgt.ibiEn && ! events.getLsbD 0, ibiOff := s.mgt.ibiOff || events.getLsbD 0 } with cccAck := true, cccReply := [] }) ∧
      ((targetUp s && true) = false → t = { s with mgt := { s.mgt with cccAck := false, cccReply := [] } })) ∧
  (∀ (n : Fin 4) (s : State), Acts (.cccEntas n) s [.mgt, .bus] fun t =>
      ((targetUp s && true) = true → t.mgt = { s.mgt with cccAck := true, cccReply := [] }) ∧
      ((targetUp s && true) = false → t = { s with mgt := { s.mgt with cccAck := false, cccReply := [] } })) ∧
  (∀ (s : State), Acts .cccRstdaa s [.flags, .rsc, .seenSec, .isls, .mgt, .bus] fun t =>
      ((targetUp s && true) = true → t.mgt = { { s.mgt with da := none } with cccAck := true, cccReply := [] }) ∧
      ((targetUp s && true) = false → t = { s with mgt := { s.mgt with cccAck := false, cccReply := [] } })) ∧
  (∀ (da : BitVec 7) (s : State), Acts (.cccEntdaa da) s [.seenSec, .isls, .mgt, .bus] fun t =>
      ((targetUp s && s.mgt.da.isNone) = true → t.mgt = { { s.mgt with da := some da } with cccAck := true, cccReply := toBytes 6 (provisionedId s) ++ [0x27, 0x00] }) ∧
      ((targetUp s && s.mgt.da.isNone) = false → t = { s with mgt := { s.mgt with cccAck := false, cccReply := [] } })) ∧
  (∀ (n : Nat) (s : State), Acts (.cccSetmwl n) s [.mgt, .bus] fun t =>
      ((targetUp s && (16 ≤ n && n ≤ 262)) = true → t.mgt = { { s.mgt with mwl := n } with cccAck := true, cccReply := [] }) ∧
      ((targetUp s && (16 ≤ n && n ≤ 262)) = false → t = { s with mgt := { s.mgt with cccAck := false, cccReply := [] } })) ∧
  (∀ (n : Nat) (s : State), Acts (.cccSetmrl n) s [.mgt, .bus] fun t =>
      ((targetUp s && (16 ≤ n && n ≤ 257)) = true → t.mgt = { { s.mgt with mrl := n } with cccAck := true, cccReply := [] }) ∧
      ((targetUp s && (16 ≤ n && n ≤ 257)) = false → t = { s with mgt := { s.mgt with cccAck := false, cccReply := [] } })) ∧
  (∀ (s : State), Acts .cccEnthdr0 s [.mgt, .bus] fun t =>
      ((targetUp s && true) = true → t.mgt = { { s.mgt with hdr := true } with cccAck := true, cccReply := [] }) ∧
      ((targetUp s && true) = false → t = { s with mgt := { s.mgt with cccAck := false, cccReply := [] } })) ∧
  (∀ (arg : Byte) (s : State), Acts (.cccRstact arg) s [.mgt, .bus] fun t =>
      ((targetUp s && (arg = 0 || arg = 1)) = true → t.mgt = { { s.mgt with arm := some arg } with cccAck := true, cccReply := [] }) ∧
      ((targetUp s && (arg = 0 || arg = 1)) = false → t = { s with mgt := { s.mgt with cccAck := false, cccReply := [] } })) ∧
  (∀ (sa da : BitVec 7) (s : State), Acts (.cccSetdasa sa da) s [.seenSec, .isls, .mgt, .bus] fun t =>
      ((targetUp s && (sa = staticAddr s && s.mgt.da.isNone)) = true → t.mgt = { { s.mgt with da := some da } with cccAck := true, cccReply := [] }) ∧
      ((targetUp s && (sa = staticAddr s && s.mgt.da.isNone)) = false → t = { s with mgt := { s.mgt with cccAck := false, cccReply := [] } })) ∧
  (∀ (da : BitVec 7) (s : State), Acts (.cccSetnewda da) s [.seenSec, .isls, .mgt, .bus] fun t =>
      ((targetUp s && s.mgt.da.isSome) = true → t.mgt = { { s.mgt with da := some da } with cccAck := true, cccReply := [] }) ∧
      ((targetUp s && s.mgt.da.isSome) = false → t = { s with mgt := { s.mgt with cccAck := false, cccReply := [] } })) ∧
  (∀ (s : State), Acts .cccGetmwl s [.mgt, .bus] fun t =>
      ((targetUp s && s.mgt.da.isSome) = true → t.mgt = { s.mgt with cccAck := true, cccReply := toBytes 2 s.mgt.mwl }) ∧
      ((targetUp s && s.mgt.da.isSome) = false → t = { s with mgt := { s.mgt with cccAck := false, cccReply := [] } })) ∧
  (∀ (s : State), Acts .cccGetmrl s [.mgt, .bus] fun t =>
      ((targetUp s && s.mgt.da.isSome) = true → t.mgt = { s.mgt with cccAck := true, cccReply := toBytes 2 s.mgt.mrl ++ [5] }) ∧
      ((targetUp s && s.mgt.da.isSome) = false → t = { s with mgt := { s.mgt with cccAck := false, cccReply := [] } })) ∧
  (∀ (s : State), Acts .cccGetpid s [.mgt, .bus] fun t =>
      ((targetUp s && s.mgt.da.isSome) = true → t.mgt = { s.mgt with cccAck := true, cccReply := toBytes 6 (provisionedId s) }) ∧
      ((targetUp s && s.mgt.da.isSome) = false → t = { s with mgt := { s.mgt with cccAck := false, cccReply := [] } })) ∧
  (∀ (s : State), Acts .cccGetbcr s [.mgt, .bus] fun t =>
      ((targetUp s && s.mgt.da.isSome) = true → t.mgt = { s.mgt with cccAck := true, cccReply := [0x27] }) ∧
      ((targetUp s && s.mgt.da.isSome) = false → t = { s with mgt := { s.mgt with cccAck := false, cccReply := [] } })) ∧
  (∀ (s : State), Acts .cccGetdcr s [.mgt, .bus] fun t =>
      ((targetUp s && s.mgt.da.isSome) = true → t.mgt = { s.mgt with cccAck := true, cccReply := [0x00] }) ∧
      ((targetUp s && s.mgt.da.isSome) = false → t = { s with mgt := { s.mgt with cccAck := false, cccReply := [] } })) ∧
  (∀ (s : State), Acts .cccGetmxds s [.mgt, .bus] fun t =>
      ((targetUp s && s.mgt.da.isSome) = true → t.mgt = { s.mgt with cccAck := true, cccReply := [0x00, 0x00] }) ∧
      ((targetUp s && s.mgt.da.isSome) = false → t = { s with mgt := { s.mgt with cccAck := false, cccReply := [] } })) ∧
  (∀ (s : State), Acts .cccGetcaps s [.mgt, .bus] fun t =>
      ((targetUp s && s.mgt.da.isSome) = true → t.mgt = { s.mgt with cccAck := true, cccReply := [0x01] }) ∧
      ((targetUp s && s.mgt.da.isSome) = false → t = { s with mgt := { s.mgt with cccAck := false, cccReply := [] } })) ∧
  (∀ (s : State), Acts .cccGetstatus s [.mgt, .bus] fun t =>
      ((targetUp s && s.mgt.da.isSome) = true → t.mgt = { { s.mgt with protoErr := false } with cccAck := true, cccReply := toBytes 2 (min 15 (s.mgt.evCount + b01 s.mgt.fl.pending) + 32 * b01 s.mgt.protoErr) }) ∧
      ((targetUp s && s.mgt.da.isSome) = false → t = { s with mgt := { s.mgt with cccAck := false, cccReply := [] } }))

/-- A record crosses to the ring in order, an interrupt goes out once, and three NACKs end the requests (R505, R506, R507,
R508, R509, R517, R518). -/
def Obligations.EventsAndInterrupts : Prop :=
  (∀ (i : Isl) (s : State), ActsIf (powered s && s.pwr.run ≠ .standby && s.pwr.run ≠ .held && ! mgtDown s) (.eventRecordAppend i) s [.isls, .mem, .mgt, .bus] fun t =>
      ((getIsl s i).fifo = [] → t = s) ∧
      (∀ r l, (getIsl s i).fifo = r :: l → (getIsl t i).fifo = l ∧ t.mgt.head = s.mgt.head + 1 ∧ tget none t.mgt.ring (s.mgt.head % 8388608) = some r ∧
        (∀ n, n ≠ s.mgt.head % 8388608 → tget none t.mgt.ring n = tget none s.mgt.ring n) ∧ t.mgt.ev.pending = (s.mgt.ev.pending || blockEnabled s r.code))) ∧
  (∀ (s : State), ActsIf (addressed s && s.mgt.ibiEn && s.mgt.nacks < 3) .ibiRequest s [.mgt, .bus] fun t =>
      (ibiDue s s.mgt.fl = true → t.mgt.ibiOut = 0x02 :: wordBytes (BitVec.ofNat 32 (faultBits s)) ∧ t.mgt.fl.requested = true ∧ t.mgt.ev = s.mgt.ev) ∧
      (ibiDue s s.mgt.fl = false → ibiDue s s.mgt.ev = true → t.mgt.ibiOut = 0x01 :: wordBytes (BitVec.ofNat 32 s.mgt.head) ∧ t.mgt.ev.requested = true ∧ t.mgt.ibiHead = s.mgt.head % 2 ^ 32 ∧ t.mgt.fl = s.mgt.fl) ∧
      (ibiDue s s.mgt.fl = false → ibiDue s s.mgt.ev = false → t = s)) ∧
  (∀ (s : State), ActsIf (addressed s && s.mgt.ibiTry) .mgtIbiNack s [.flags, .rsc, .seenSec, .isls, .mgt, .bus] fun t =>
      t.mgt.ibiTry = false ∧ t.mgt.nacks = s.mgt.nacks + 1 ∧ (s.mgt.nacks = 2 → flagged .mgtFlags .A 0 s t) ∧ (s.mgt.nacks ≠ 2 → t.isls = s.isls ∧ t.flags = s.flags) ∧
      (s.mgt.ibiOut.headD 0 = 0x02 → t.mgt.fl.requested = false ∧ t.mgt.fl.lastAt = s.mgt.fl.lastAt ∧ t.mgt.ev = s.mgt.ev) ∧
      (s.mgt.ibiOut.headD 0 = 0x01 → t.mgt.ev.requested = false ∧ t.mgt.ev.lastAt = s.mgt.ev.lastAt ∧ t.mgt.fl = s.mgt.fl))

/-- The first word of a latched group latches it, and reading the event head or the fault word collects its interrupt (R193,
R457, R494, R505, R508, R521). -/
def Obligations.LatchedReads : Prop :=
  (∀ (e : Eng) (sc : Sc) (s : State), ActsIf (readsOk s (.reg ⟨.brxLast, e, sc.val, 0⟩)) (.brxLastReadLatch e sc) s [.free, .got, .tod, .sec, .mgt, .bus] fun t =>
      (muted s (.reg ⟨.brxLast, e, sc.val, 0⟩) = false → t.got = burstWord (getBrx s e sc).last 0 ∧ tget none t.mgt.brxLat (32 * e.num + sc) = some ((getBrx s e sc).last, [1, 2, 3, 4, 5, 6, 7])) ∧
      (muted s (.reg ⟨.brxLast, e, sc.val, 0⟩) = true → t.got = 0 ∧ t.mgt = s.mgt)) ∧
  (∀ (k : KeySlotIx) (s : State), ActsIf (readsOk s (.reg ⟨.secSlotIc, .A, k.val, 0⟩)) (.secSlotIcHiRead k) s [.free, .got, .tod, .sec, .mgt, .bus] fun t =>
      t.got = wordPart 2 (slotIc s k.val % 2 ^ 62) 0 ∧ tget none t.sec.icLat k.val = some (slotIc s k.val % 2 ^ 62 % 2 ^ 32) ∧ t.sec.slots = s.sec.slots) ∧
  (∀ (s : State), ActsIf (readsOk s (.reg ⟨.evtHeadHi, .A, 0, 0⟩)) .evtHeadHiRead s [.free, .got, .tod, .sec, .mgt, .bus] fun t =>
      t.got = BitVec.ofNat 32 (s.mgt.head / 2 ^ 32) ∧ t.mgt = { s.mgt with headLat := some (s.mgt.head % 2 ^ 32) }) ∧
  (∀ (s : State), ActsIf (readsOk s (.reg ⟨.evtHeadLo, .A, 0, 0⟩)) .evtHeadLoRead s [.free, .got, .tod, .sec, .mgt, .bus] fun t =>
      (∀ v, s.mgt.headLat = some v → t.got = BitVec.ofNat 32 v) ∧ (s.mgt.headLat = none → t.got = BitVec.ofNat 32 s.mgt.head) ∧ t.mgt.headLat = none ∧ t.mgt.ev.pending = false ∧ t.mgt.fl = s.mgt.fl) ∧
  (∀ (s : State), ActsIf (readsOk s (.reg ⟨.mgtFault, .A, 0, 0⟩)) .mgtFaultRead s [.free, .got, .tod, .sec, .mgt, .bus] fun t =>
      t.got = BitVec.ofNat 32 (faultBits s) ∧ t.mgt.fl.pending = false ∧ t.mgt.fl.requested = false ∧ t.mgt.ev = s.mgt.ev)

/-- A register write is refused by its address, its kind, its value or its island, or stores its writable bits and no
others (R9, R336, R490, R497, R499, R502, R565). -/
def Obligations.RegisterWrites : Prop :=
  (∀ (adr v : W32) (s : State), Acts (.registerWrite adr v) s (Part.but [.pending]) fun t =>
      (place (4 * (adr.toNat / 4)) = none → t = { s with status := .errAddr }) ∧
      (place (4 * (adr.toNat / 4)) ≠ none → adr.toNat % 4 ≠ 0 → t = { s with status := .errAccess }) ∧
      (∀ a, place adr.toNat = some (.reg a) → adr.toNat % 4 = 0 → writableReg a = false → t = { s with status := .errAccess }) ∧
      (∀ a, place adr.toNat = some (.reg a) → adr.toNat % 4 = 0 → writableReg a = true → a.reg.row.cls = .setting → a.reg ∉ [.dsGrpEn, .dsGrpFmt, .clnPort, .clnLane] →
        let w := mergeMask (getReg s a.reg a.eng a.idx) v a.reg.row.wmask
        let c := (regGate s a).worse (if settingRefused s a w then .errState else .ok)
        t.status = c ∧ (c ≠ .ok → t = { s with status := c }) ∧ (c = .ok → pairShared a.reg = false → getReg t a.reg a.eng a.idx = w)) ∧
      (∀ a, place adr.toNat = some (.reg a) → adr.toNat % 4 = 0 → a.reg = .dsGrpFmt →
        let ts := writeTargets s a.eng
        let c := (engWriteGate s a.eng a.eng.txd).worse (if ts.any (fun e => grpFmtRefused s e v) then .errState else .ok)
        t.status = c ∧ (c ≠ .ok → t = { s with status := c }) ∧
          (c = .ok → ∀ e, getReg t .dsGrpFmt e 0 = (if e ∈ ts then v &&& 0xFFFFFF else getReg s .dsGrpFmt e 0)))) ∧
  (∀ (adr v setNow : W32) (s : State), Acts (.flagW1cWrite adr v setNow) s (Part.but [.pending]) fun t =>
      (regAt? adr.toNat = none → t = { s with status := .errAddr }) ∧
      (∀ a n, regAt? adr.toNat = some a → a.reg.row.cls = .flags n → regGate s a = .ok → n ≤ 32 → t.status = .ok ∧
        (let k := flagAddr s a.reg a.eng
         (∀ b, b < n → (getFlags t k).getLsbD b = (setNow.getLsbD b || ((getFlags s k).getLsbD b && ! v.getLsbD b))) ∧
         (∀ b, n ≤ b → (getFlags t k).getLsbD b = (getFlags s k).getLsbD b) ∧ (∀ c, c ≠ k → getFlags t c = getFlags s c))) ∧
      (∀ a n, regAt? adr.toNat = some a → a.reg.row.cls = .flags n → regGate s a ≠ .ok → t.status = regGate s a)) ∧
  (∀ (s : State), Writes (writeGate s .mgt) .tallyClearTot s [.status, .tally] fun t =>
      t.tally = { s.tally with totals := [] })

/-- An island goes from QUIESCE through DRAIN, FENCED, RESET and RESUME to RUN, and its incarnation advances at the resume
(R24, R471, R527, R528, R530, R532). -/
def Obligations.IslandFences : Prop :=
  (∀ (i : Isl) (s : State), Writes ((writeGate s .mgt).worse (if islCmdRefused s i 1 then .errState else .ok)) (.islandSoftRestartCmd i) s [.status, .pwr, .seenTurn, .isls, .engA, .engB, .aps, .ssets, .tally, .fences] fun t =>
      (getIsl t i).fence = .quiesce ∧ (getIsl t i).hard = false ∧ (getIsl t i).cause = .host ∧ (getIsl t i).incarn = (getIsl s i).incarn ∧ (∀ j, j ≠ i → (getIsl t j).fence = (getIsl s j).fence)) ∧
  (∀ (i : Isl) (s : State), Writes ((writeGate s .mgt).worse (if islCmdRefused s i 2 then .errState else .ok)) (.islandHardResetCmd i) s [.status, .pwr, .seenTurn, .isls, .engA, .engB, .aps, .ssets, .tally, .fences] fun t =>
      (getIsl t i).fence = .quiesce ∧ (getIsl t i).hard = true ∧ (getIsl t i).cause = .host ∧ (getIsl t i).incarn = (getIsl s i).incarn ∧ (∀ j, j ≠ i → (getIsl t j).fence = (getIsl s j).fence)) ∧
  (∀ (i : Isl) (s : State), ActsIf (inFence s i .quiesce) (.fenceNoticeAcked i) s [.pwr, .flags, .rsc, .seenTurn, .seenSec, .isls, .engA, .engB, .aps, .leaves, .ssets, .ctrs, .flow, .tod, .cln, .sec, .mem, .tally, .fences] fun t =>
      (∀ j, j ∈ fenceGroup s i → (getIsl t j).fence = .drain) ∧ (∀ j, j ∉ fenceGroup s i → (getIsl t j).fence = (getIsl s j).fence)) ∧
  (∀ (i : Isl) (s : State), ActsIf (inFence s i .drain) (.islandDrained i) s [.pwr, .flags, .rsc, .seenTurn, .seenSec, .isls, .engA, .engB, .aps, .leaves, .ssets, .ctrs, .flow, .tod, .cln, .sec, .mem, .tally, .fences] fun t =>
      (∀ j, j ∈ fenceGroup s i → (getIsl t j).fence = .fenced) ∧ (∀ j, j ∉ fenceGroup s i → (getIsl t j).fence = (getIsl s j).fence)) ∧
  (∀ (i : Isl) (s : State), ActsIf (inFence s i .drain) (.drainTimeout i) s [.free, .pwr, .flags, .rsc, .seenTurn, .seenSec, .isls, .engA, .engB, .aps, .leaves, .ssets, .ctrs, .flow, .tod, .cln, .sec, .mem, .tally, .fences] fun t =>
      (∀ j, j ∈ fenceGroup s i → (getIsl t j).fence = .fenced) ∧ (∀ j, j ∉ fenceGroup s i → (getIsl t j).fence = (getIsl s j).fence)∧ s.free < t.free ∧ (∀ j, (getIsl s j).stale ≤ 2 ^ 32 - 1 → (getIsl s j).stale ≤ (getIsl t j).stale)) ∧
  (∀ (i : Isl) (s : State), ActsIf (inFence s i .fenced) (.stateSaveDone i) s (Part.but [.pending, .status, .got, .pins, .clk, .flash, .regs, .upd, .bist, .steps, .bus, .incarns]) fun t =>
      (∀ j, j ∈ fenceGroup s i → (getIsl t j).fence = .reset) ∧ (∀ j, j ∉ fenceGroup s i → (getIsl t j).fence = (getIsl s j).fence)) ∧
  (∀ (i : Isl) (s : State), ActsIf (inFence s i .reset && ! heldInReset s i) (.islandResetDone i) s [.pwr, .flags, .rsc, .seenTurn, .seenSec, .isls, .engA, .engB, .aps, .leaves, .ssets, .ctrs, .flow, .tod, .cln, .sec, .mem, .tally, .fences] fun t =>
      (∀ j, j ∈ fenceGroup s i → (getIsl t j).fence = .resume) ∧ (∀ j, j ∉ fenceGroup s i → (getIsl t j).fence = (getIsl s j).fence)) ∧
  (∀ (i : Isl) (s : State), ActsIf (inFence s i .resume) (.updIslResume i) s (Part.but [.pending, .status, .got, .pins, .clk, .flash, .regs, .bist, .steps, .bus]) fun t =>
      (∀ j, (getIsl t j).incarn = (if j ∈ fenceGroup s i then nextIncarn (getIsl s j).incarn else (getIsl s j).incarn)) ∧
      (updFencing s = false → updOnTrial s = false → ∀ j, j ∈ fenceGroup s i → (getIsl t j).fence = .run) ∧ (getFlags t (Reg.addr .updFlags .A 0 0)).getLsbD 4 = true) ∧
  (∀ (i : Isl) (s : State), ActsIf ((inFence s i .reset || inFence s i .resume) && ! heldInReset s i) (.resumeBoundExceeded i) s [.pwr, .flags, .rsc, .seenTurn, .seenSec, .isls, .engA, .engB, .aps, .leaves, .ssets, .ctrs, .flow, .tod, .cln, .sec, .mem, .upd, .tally, .fences] fun t =>
      ((getIsl s i).cause ≠ .update → (∀ j, j ∈ fenceGroup s i → updIsDone s j = false) → ∀ j, j ∈ fenceGroup s i → (getIsl t j).fence = .reset ∧ (getIsl t j).overdue = true) ∧
      (((getIsl s i).cause = .update ∨ ∃ j, j ∈ fenceGroup s i ∧ updIsDone s j = true) → updOnTrial s = true → t.upd.err = 0x08)) ∧
  (∀ (i : Isl) (poison : Bool) (s : State), ActsIf (alive s && i ≠ .aon && (getIsl s i).fence = .run && (! poison || poisonIsl s i)) (.watchdogRestart i poison) s [.free, .pwr, .flags, .rsc, .seenTurn, .seenSec, .isls, .engA, .engB, .aps, .leaves, .ssets, .ctrs, .flow, .tod, .cln, .sec, .mem, .upd, .tally, .fences] fun t =>
      ((poison = true ∨ updIsDone s i = false) → (getIsl t i).fence = .quiesce ∧ (getIsl t i).hard = false ∧ (getIsl t i).cause = (if poison then .poison else .watchdog) ∧ (∀ j, j ≠ i → (getIsl t j).fence = (getIsl s j).fence)) ∧
      (poison = false → updIsDone s i = true → updOnTrial s = true → t.upd.err = 0x09))

/-- RESTART and STOP of an engine turn its transmitter dark first, then fence its four islands, and a re-read ends the
restart (R108, R109, R535, R536). That an engine reads WAITING from step 3 on, also for a STOP, is the model's (notes/assumptions/98.md). -/
def Obligations.EngineCommands : Prop :=
  (∀ (e : Eng) (force : Bool) (s : State), Writes ((writeGate s .mgt).worse (if engCmdRefused s e 1 force then .errState else .ok)) (.engineCmdRestart e force) s [.status, .pwr, .flags, .rsc, .seenTurn, .seenSec, .isls, .engA, .engB, .aps, .leaves, .ssets, .ctrs, .flow, .tod, .cln, .sec, .mem, .tally, .fences] fun t =>
      ((s.boot.paired && s.aps.work = some e) = false → (getEng s e).stopped = false → (getEng t e).updStep = 2 ∧ (getEng t e).updCmd = 1 ∧ (getEng t e).updForce = force ∧ (getEng t e).mapsStopped = true) ∧
      ((getEng s e).stopped = true → (getEng t e).updStep = 3 ∧ ∀ j, j ∈ fenceGroup s e.txc → (getIsl t j).fence = .resume) ∧
      (∀ j, (getEng s e).stopped = false → (getIsl t j).fence = (getIsl s j).fence)) ∧
  (∀ (e : Eng) (force : Bool) (s : State), Writes ((writeGate s .mgt).worse (if engCmdRefused s e 2 force then .errState else .ok)) (.engineCmdStop e force) s [.status, .pwr, .flags, .rsc, .seenTurn, .seenSec, .isls, .engA, .engB, .aps, .leaves, .ssets, .ctrs, .flow, .tod, .cln, .sec, .mem, .tally, .fences] fun t =>
      ((s.boot.paired && s.aps.work = some e) = false → (getEng t e).updStep = 2 ∧ (getEng t e).updCmd = 2 ∧ (getEng t e).updForce = force ∧ (getEng t e).mapsStopped = true) ∧
      (∀ j, (getIsl t j).fence = (getIsl s j).fence)) ∧
  (∀ (e : Eng) (s : State), ActsIf ((getEng s e).updStep = 2 && (getEng s e).down.laser = .dark) (.engineCmdTxDark e) s [.free, .pwr, .fuse, .boot, .flags, .rsc, .seenTurn, .seenSec, .isls, .engA, .engB, .aps, .leaves, .ssets, .ctrs, .flow, .sec, .mgt, .tally, .fences, .engSt] fun t =>
      (getEng t e).st = (if (getEng s e).enable then .waiting else .disabled) ∧ (getEng t e).updStep = 3 ∧ (getEng t e).down.framer = false ∧
      (∀ j, j ∈ e.isls → (getIsl t j).fence = .quiesce ∧ (getIsl t j).hard = true) ∧ (∀ j, j ∉ e.isls → (getIsl t j).fence = (getIsl s j).fence)) ∧
  (∀ (e : Eng) (reads : List (List Byte × FlashRead)) (s : State), ActsIf ((getEng s e).reread) (.engineImageRereadDone e reads) s (Part.but [.pending, .status, .got, .pins, .clk, .flash, .bist, .steps, .bus, .incarns]) fun t =>
      (getEng t e).reread = false ∧ t.boot.nvmBusy = false ∧
        (getEng t e).st = (if (getEng (rereadJudged e reads s) e).illegal then .failed else .tuning))

/-- A package is staged, verified, applied, tried and committed or rolled back through the states of R545 (R539, R542, R545,
R546, R547, R549, R551). When VERIFY is allowed, what UPD_STATUS keeps, what a bank is and where a failed fuse write is kept are the model's
(notes/assumptions/104.md, 107.md, 183.md, 249.md). -/
def Obligations.FirmwareUpdate : Prop :=
  (∀ (ofs : Nat) (data : List Byte) (s : State), Writes ((writeGate s .mgt).worse ((if 0x0F000000 < ofs + data.length then Status.errRange else .ok).worse (if stageOpen s then .ok else .errState))) (.updStagingWrite ofs data) s [.status, .mem, .upd] fun t =>
      (∀ k, k < data.length → some (tget 0 t.upd.stage (ofs + k)) = data[k]?) ∧ (∀ a, (a < ofs ∨ ofs + data.length ≤ a) → tget 0 t.upd.stage a =
        (if (11, a / 64) ∈ s.mem.poisoned ∧ data ≠ [] ∧ ofs / 64 ≤ a / 64 ∧ 64 * (a / 64) < ofs + data.length then 0 else tget 0 s.upd.stage a)) ∧
      (∀ k, k < data.length → tget false t.upd.marks ((ofs + k) / 64) = true) ∧ t.upd.st = (if s.upd.st = .verified then .idle else s.upd.st)) ∧
  (∀ (s : State), Writes ((writeGate s .mgt).worse (if updCmdRefused s 1 then .errState else .ok)) .updCmdVerify s [.status, .pwr, .flags, .rsc, .seenTurn, .seenSec, .isls, .engA, .engB, .aps, .leaves, .ssets, .ctrs, .flow, .tod, .cln, .sec, .mem, .upd, .tally, .fences] fun t =>
      t.upd = { s.upd with st := .verifying }) ∧
  (∀ (s : State), Writes ((writeGate s .mgt).worse (if updCmdRefused s 2 then .errState else .ok)) .updCmdApply s [.status, .pwr, .flags, .rsc, .seenTurn, .seenSec, .isls, .engA, .engB, .aps, .leaves, .ssets, .ctrs, .flow, .tod, .cln, .sec, .mem, .upd, .tally, .fences] fun t =>
      (t.upd.st = .applying ∨ t.upd.st = .trial) ∧ t.upd.err = s.upd.err ∧ t.upd.sections = s.upd.sections) ∧
  (∀ (s : State), Writes ((writeGate s .mgt).worse (if updCmdRefused s 3 then .errState else .ok)) .updCmdCommit s [.status, .pwr, .flags, .rsc, .seenTurn, .seenSec, .isls, .engA, .engB, .aps, .leaves, .ssets, .ctrs, .flow, .tod, .cln, .sec, .mem, .upd, .tally, .fences] fun t =>
      t.upd = { s.upd with st := .committing, trialEnd := none }) ∧
  (∀ (s : State), Writes ((writeGate s .mgt).worse (if updCmdRefused s 4 then .errState else .ok)) .updCmdRollback s [.status, .pwr, .flags, .rsc, .seenTurn, .seenSec, .isls, .engA, .engB, .aps, .leaves, .ssets, .ctrs, .flow, .tod, .cln, .sec, .mem, .upd, .tally, .fences] fun t =>
      (t.upd.st = .rollingBack ∨ t.upd.st = .failed) ∧ t.upd.err = 0x0B ∧ t.upd.trialEnd = none) ∧
  (∀ (s : State), Writes ((writeGate s .mgt).worse (if updCmdRefused s 5 then .errState else .ok)) .updCmdClear s [.status, .pwr, .flags, .rsc, .seenTurn, .seenSec, .isls, .engA, .engB, .aps, .leaves, .ssets, .ctrs, .flow, .tod, .cln, .sec, .mem, .upd, .tally, .fences] fun t =>
      t.upd = { s.upd with st := .idle, stage := [], marks := [] }) ∧
  (∀ (s : State), ActsIf (powered s && s.upd.st = .verifying) .updVerified s [.free, .flags, .rsc, .isls, .flow, .mem, .upd, .tally] fun t =>
      (let u := stageReads s
       (pkgCheck u = 0 → t.upd.st = .verified ∧ t.upd.err = 0 ∧ t.upd.ver = pkgVer u ∧ t.upd.sections = pkgTable u ∧ t.upd.copy = pkgBytes u 0 (pkgLen u) ∧ t.upd.done = 0) ∧
       (pkgCheck u ≠ 0 → t.upd = { s.upd with st := .failed, err := pkgCheck u }) ∧
       flagged .updFlags .A 0 u t ∧ recorded .mgt 0x0E01 0 (packData [(8, pkgCheck u), (32, (pkgVer u).toNat)]) u t)) ∧
  (∀ (s : State), ActsIf (powered s && s.upd.st = .trial && ! s.upd.expired && s.upd.trialEnd.any (fun u => u ≤ s.clk.now)) .updTrialExpiry s [.upd] fun t =>
      ((getReg s .updCfg .A 0).getLsbD 16 = true → t.upd = { s.upd with st := .committing, trialEnd := none }) ∧
      ((getReg s .updCfg .A 0).getLsbD 16 = false → t.upd = { s.upd with expired := true, trialEnd := none })) ∧
  (∀ (flashOk fuseOk : Bool) (s : State), ActsIf (powered s && s.upd.st = .committing) (.updCommit flashOk fuseOk) s (Part.but [.pending, .status, .got, .pins, .clk, .regs, .mgt, .bist, .steps, .engSt, .bus, .incarns]) fun t =>
      (flashOk = true → t.upd = { s.upd with st := .idle } ∧ { t.flash with arbOwed := s.flash.arbOwed } = writeBank s ∧ t.flash.active = (if s.flash.active = 0 then 1 else 0) ∧ t.boot.bank = t.flash.active ∧
        (s.flash.active = 0 → t.flash.ver1 = s.upd.ver ∧ t.flash.ver0 = s.flash.ver0) ∧ (s.flash.active ≠ 0 → t.flash.ver0 = s.upd.ver ∧ t.flash.ver1 = s.flash.ver1) ∧ flagged .updFlags .A 2 s t ∧
        (fuseOk = true → t.fuse.arbFw = max s.fuse.arbFw (arbTarget s) ∧ t.flash.arbOwed = 0) ∧
        (fuseOk = false → t.flash.arbOwed = (if s.fuse.arbFw < arbTarget s then arbTarget s else 0))) ∧
      (flashOk = false → (t.upd.st = .rollingBack ∨ t.upd.st = .failed) ∧ t.upd.err = 0x0A ∧ t.flash = s.flash ∧ t.fuse = s.fuse))

/-- An orderly shutdown is accepted, goes dark, saves its records, runs its suite, writes its record and drops the rails
(R81, R567, R568, R570, R572, R575, R576, R577). That a second request keeps the first one's kind, that the full suite has the listed tests alone, and the
NOT_RUN of an aborted start are the model's (notes/assumptions/109.md, 231.md, 18.md), as is what the end of power clears (13.md). -/
def Obligations.OrderlyShutdown : Prop :=
  (∀ s : State,
      (beforeReady s = true → Acts .bistCtlShutdownTest s (Part.but [.pending, .free, .fuse]) fun t => t.status = .errState ∧ t.pwr.run = .standby ∧ t.pwr.cmdOff = true ∧ cleared t ∧
        t.flash.recs.head?.map (fun r => (r.kind, r.overall)) = some (kindAbortedStart, resNotRun) ∧ t.flash.recs.tail = s.flash.recs.take 7) ∧
      (beforeReady s = false → Writes ((writeGate s .mgt).worse (if s.pwr.emerg = .none then .ok else .errState)) .bistCtlShutdownTest s [.status, .isls, .engA, .engB, .upd, .tally, .bist] fun t =>
        (anyFence s = true → t.bist = { s.bist with req := some (s.bist.req.getD 1) }) ∧
        (anyFence s = false → t.bist.st = 1 ∧ t.bist.phase = 1 ∧ t.bist.cause = 1 ∧ t.bist.acceptAt = s.clk.now ∧ ∀ e, (getEng t e).mapsStopped = true ∧ goesDark s t e))) ∧
  (∀ s : State,
      (beforeReady s = true → Acts .bistCtlShutdownNotest s (Part.but [.pending, .free, .fuse]) fun t => t.status = .errState ∧ t.pwr.run = .standby ∧ t.pwr.cmdOff = true ∧ cleared t ∧
        t.flash.recs.head?.map (fun r => (r.kind, r.overall)) = some (kindAbortedStart, resNotRun) ∧ t.flash.recs.tail = s.flash.recs.take 7) ∧
      (beforeReady s = false → Writes ((writeGate s .mgt).worse (if s.pwr.emerg = .none then .ok else .errState)) .bistCtlShutdownNotest s [.status, .isls, .engA, .engB, .upd, .tally, .bist] fun t =>
        (anyFence s = true → t.bist = { s.bist with req := some (s.bist.req.getD 2) }) ∧
        (anyFence s = false → t.bist.st = 1 ∧ t.bist.phase = 1 ∧ t.bist.cause = 2 ∧ t.bist.acceptAt = s.clk.now ∧ ∀ e, (getEng t e).mapsStopped = true ∧ goesDark s t e))) ∧
  (∀ (s : State), ActsIf (inService s && s.bist.req.isSome && ! anyFence s) .bistShutdown s [.isls, .engA, .engB, .upd, .tally, .bist] fun t =>
      t.bist.st = 1 ∧ t.bist.phase = 1 ∧ t.bist.cause = s.bist.req.getD 0 ∧ t.bist.req = none ∧ t.bist.acceptAt = s.clk.now ∧ ∀ e, (getEng t e).mapsStopped = true ∧ goesDark s t e) ∧
  (∀ (s : State), ActsIf (s.bist.st = 1 && s.bist.phase = 1 && s.pwr.emerg = .none && engines.all (fun e => (getEng s e).down.laser = .dark)) .shutdownStopDone s [.free, .flash, .flags, .rsc, .isls, .engA, .engB, .flow, .mem, .mgt, .tally, .bist, .bus] fun t =>
      t.bist = { s.bist with phase := 2 } ∧ t.flash.evValid = false ∧
      (let u := appendAll (forAll engines (fun e v => storePending e true (storePending e false v)) s)
       (∀ i, (getIsl u i).fifo = []) ∧ t.flash.events = lastRecords (ringReads u)) ∧ (∀ e rx, (getCal t e rx).pend = false) ∧ (∀ r, r ∈ t.flash.events → r.crcOk = true)) ∧
  (∀ (s : State), ActsIf (s.bist.st = 1 && s.bist.phase = 2 && s.pwr.emerg = .none) .shutdownRecordsSaved s [.bist] fun t =>
      (s.bist.suite = 0 → t.bist = { s.bist with st := 3, phase := 4 }) ∧
      (s.bist.suite ≠ 0 → t.bist.st = 2 ∧ t.bist.phase = 3 ∧ t.bist.todo = testGroups.flatten.filter (fun n => ! testSkipped s n) ∧
        t.bist.entries = (testGroups.flatten.filter (testSkipped s)).map (notRunEntry s.bist.suite))) ∧
  (∀ (r : TestResult) (s : State), ActsIf (suiteRuns s) (.bistTestDone r) s [.free, .isls, .bist] fun t =>
      (s.bist.todo = [] → t = s) ∧
      (∀ n rest, s.bist.todo = n :: rest → t.bist.todo = rest ∧ ∃ x, t.bist.entries = s.bist.entries ++ [x] ∧ x.id = n ∧ x.committed = r.committed % 2 ^ 32 ∧
        (r.failure = true → x.result = resFail) ∧
        (r.failure = false → r.committed ≠ testCount s.bist.suite n → x.result = resIncomplete) ∧
        (r.failure = false → r.committed = testCount s.bist.suite n → x.result = (if isSignature n && ! r.sigMatch then resFail else resPass)))) ∧
  (∀ (committed : Nat) (s : State), ActsIf (suiteRuns s) (.bistTestCut committed) s [.free, .flags, .rsc, .isls, .bist] fun t =>
      (s.bist.todo = [] → t = s) ∧
      (∀ n rest, s.bist.todo = n :: rest → t.bist.todo = [] ∧ flagged .bistFlags .A 2 s t ∧
        ∃ x, t.bist.entries = s.bist.entries ++ x :: rest.map (notRunEntry s.bist.suite) ∧ x.id = n ∧ x.cut = true ∧ x.result = (if Config.freeBool s.free then resFail else resIncomplete) ∧ x.committed = committed % 2 ^ 32)) ∧
  (∀ (s : State), ActsIf (s.bist.st = 3 && s.bist.phase = 4 && s.pwr.emerg = .none) .shutdownRecordWritten s [.flash, .bist] fun t =>
      t.bist = { s.bist with phase := 5 } ∧ t.flash.evValid = true ∧ t.flash.recs.length = min 8 (s.flash.recs.length + 1) ∧
      (∃ r, t.flash.recs = (r :: s.flash.recs).take 8 ∧ r.sec = s.clk.sec ∧ (s.bist.suite ≠ 0 → r.suite = s.bist.suite ∧ r.entries = s.bist.entries ∧ r.overall = overallOf s.bist.entries (testSkipped s)))) ∧
  (∀ (s : State), ActsIf (s.bist.phase = 5 && s.pwr.emerg = .none) .shutdownRailsOff s (Part.but [.pending, .free, .status, .fuse]) fun t =>
      t.pwr.run = .standby ∧ t.pwr.cmdOff = decide (s.bist.cause ≠ 0) ∧ t.flash = s.flash.aged s.clk.now ∧ t.fuse = s.fuse ∧ t.clk.sec = s.clk.sec ∧ t.clk.ns = s.clk.ns)
end

