-- ==== Sys2Proof/Laws/Table.lean ====
section
/-! SUPPORT. Reading and writing the sparse tables: a read after a write, other entries, and the canonical form. -/

namespace Sys2Proof.Machine

variable {α : Type}

theorem tget_tdel_self (d : α) (t : Table α) (k : Nat) : tget d (tdel t k) k = d := by
  induction t with
  | nil => rfl
  | cons p t ih =>
    obtain ⟨a, v⟩ := p
    by_cases h : a = k <;> simp [tdel, tget, h, ih]

theorem tget_tdel_ne (d : α) (t : Table α) {j k : Nat} (h : j ≠ k) : tget d (tdel t k) j = tget d t j := by
  induction t with
  | nil => rfl
  | cons p t ih =>
    obtain ⟨a, v⟩ := p
    by_cases h1 : a = k
    · subst h1; simp [tdel, tget, ih, Ne.symm h]
    · simp [tdel, tget, h1, ih]

theorem tget_tput_self (d : α) (t : Table α) (k : Nat) (v : α) : tget d (tput t k v) k = v := by
  induction t with
  | nil => simp [tput, tget]
  | cons p t ih =>
    obtain ⟨a, w⟩ := p
    by_cases h1 : k < a
    · simp [tput, tget, h1]
    · by_cases h2 : k = a
      · simp [tput, tget, h2]
      · simp [tput, tget, h1, h2, ih, Ne.symm h2]

theorem tget_tput_ne (d : α) (t : Table α) {j k : Nat} (v : α) (h : j ≠ k) : tget d (tput t k v) j = tget d t j := by
  induction t with
  | nil => simp [tput, tget, Ne.symm h]
  | cons p t ih =>
    obtain ⟨a, w⟩ := p
    by_cases h1 : k < a
    · simp [tput, tget, h1, Ne.symm h]
    · by_cases h2 : k = a
      · subst h2; simp [tput, tget, Ne.symm h]
      · simp [tput, tget, h1, h2, ih]

/-- A read after a write gives the value written. -/
@[simp] theorem tget_tset_self [DecidableEq α] (d : α) (t : Table α) (k : Nat) (v : α) : tget d (tset d t k v) k = v := by
  unfold tset
  split
  · next h => rw [tget_tdel_self, h]
  · exact tget_tput_self d t k v

/-- A write leaves every other entry alone. -/
theorem tget_tset_ne [DecidableEq α] (d : α) (t : Table α) {j k : Nat} (v : α) (h : j ≠ k) :
    tget d (tset d t k v) j = tget d t j := by
  unfold tset
  split
  · exact tget_tdel_ne d t h
  · exact tget_tput_ne d t v h

/-- Every entry after a write, in one equation. -/
theorem tget_tset [DecidableEq α] (d : α) (t : Table α) (j k : Nat) (v : α) :
    tget d (tset d t k v) j = if j = k then v else tget d t j := by
  split
  · next h => rw [h, tget_tset_self]
  · next h => exact tget_tset_ne d t v h

/-! ## The canonical form -/

/-- Every index of the table is above `b`, where there is a bound. -/
def above (b : Option Nat) (k : Nat) : Prop := ∀ n, b = some n → n < k

theorem tasc_cons {b : Option Nat} {a : Nat} {v : α} {t : Table α} :
    tasc b ((a, v) :: t) = true ↔ above b a ∧ tasc (some a) t = true := by
  cases b <;> simp [tasc, above]

theorem tasc_weaken {b c : Option Nat} {t : Table α} (h : tasc b t = true) (hc : ∀ k, above b k → above c k) :
    tasc c t = true := by
  cases t with
  | nil => cases c <;> rfl
  | cons p t =>
    obtain ⟨a, v⟩ := p
    rw [tasc_cons] at h ⊢
    exact ⟨hc _ h.1, h.2⟩

theorem tasc_tdel {b : Option Nat} {t : Table α} (k : Nat) (h : tasc b t = true) : tasc b (tdel t k) = true := by
  induction t generalizing b with
  | nil => cases b <;> rfl
  | cons p t ih =>
    obtain ⟨a, v⟩ := p
    rw [tasc_cons] at h
    by_cases e : a = k
    · simp only [tdel, if_pos e]
      refine tasc_weaken (ih h.2) (fun n hn m hm => ?_)
      have := h.1 m hm
      have := hn a rfl
      omega
    · simp only [tdel, if_neg e]
      exact tasc_cons.mpr ⟨h.1, ih h.2⟩

theorem tasc_tput {b : Option Nat} {t : Table α} {k : Nat} (v : α) (hk : above b k) (h : tasc b t = true) :
    tasc b (tput t k v) = true := by
  induction t generalizing b with
  | nil => exact tasc_cons.mpr ⟨hk, rfl⟩
  | cons p t ih =>
    obtain ⟨a, w⟩ := p
    rw [tasc_cons] at h
    by_cases h1 : k < a
    · simp only [tput, if_pos h1]
      exact tasc_cons.mpr ⟨hk, tasc_cons.mpr ⟨fun n hn => by cases hn; exact h1, h.2⟩⟩
    · by_cases h2 : k = a
      · simp only [tput, if_neg h1, if_pos h2]
        exact tasc_cons.mpr ⟨hk, h2 ▸ h.2⟩
      · simp only [tput, if_neg h1, if_neg h2]
        exact tasc_cons.mpr ⟨h.1, ih (fun n hn => by cases hn; omega) h.2⟩

theorem all_tdel {t : Table α} (k : Nat) {q : Nat × α → Bool} (h : t.all q = true) : (tdel t k).all q = true := by
  induction t with
  | nil => rfl
  | cons p t ih =>
    obtain ⟨a, v⟩ := p
    simp only [List.all_cons, Bool.and_eq_true] at h
    simp only [tdel]
    split
    · exact ih h.2
    · simp only [List.all_cons, Bool.and_eq_true]; exact ⟨h.1, ih h.2⟩

theorem all_tput {t : Table α} {k : Nat} {v : α} {q : Nat × α → Bool} (hv : q (k, v) = true) (h : t.all q = true) :
    (tput t k v).all q = true := by
  induction t with
  | nil => simp [tput, hv]
  | cons p t ih =>
    obtain ⟨a, w⟩ := p
    have h' := h
    simp only [List.all_cons, Bool.and_eq_true] at h
    simp only [tput]
    split
    · rw [List.all_cons, hv, Bool.true_and, h']
    · split
      · rw [List.all_cons, hv, Bool.true_and, h.2]
      · rw [List.all_cons, h.1, Bool.true_and, ih h.2]

/-- A write keeps the canonical form. -/
theorem twf_tset [DecidableEq α] (d : α) (t : Table α) (k : Nat) (v : α) (h : twf d t = true) : twf d (tset d t k v) = true := by
  simp only [twf, Bool.and_eq_true] at h ⊢
  unfold tset
  split
  · exact ⟨tasc_tdel k h.1, all_tdel k h.2⟩
  · next hv => exact ⟨tasc_tput v (fun n hn => by cases hn) h.1, all_tput (by simpa using hv) h.2⟩

end Sys2Proof.Machine
end

