-- ==== Sys2Proof/Laws/Same.lean ====
section
/-! SUPPORT. Agreement of two states outside a set of parts, the sets written as bit masks so that their inclusion is decided by
arithmetic on numerals; every function of the model has its set in the other files of this folder. -/

namespace Sys2Proof.Machine

/-- The bit of a part. -/
def Part.bit : Part → Nat
  | .pending => 0
  | .free => 1
  | .status => 2
  | .got => 3
  | .pwr => 4
  | .pins => 5
  | .clk => 6
  | .fuse => 7
  | .flash => 8
  | .boot => 9
  | .regs => 10
  | .flags => 11
  | .rsc => 12
  | .seenTurn => 13
  | .seenSec => 14
  | .isls => 15
  | .engA => 16
  | .engB => 17
  | .aps => 18
  | .leaves => 19
  | .ssets => 20
  | .ctrs => 21
  | .flow => 22
  | .tod => 23
  | .cln => 24
  | .sec => 25
  | .mem => 26
  | .mgt => 27
  | .upd => 28
  | .tally => 29
  | .bist => 30
  | .fences => 31
  | .steps => 32
  | .engSt => 33
  | .bus => 34
  | .incarns => 35

/-- The states agree on every part whose bit is not in `m`. -/
def Same (m : Nat) (s t : State) : Prop := ∀ p : Part, m.testBit p.bit = false → p.same s t

theorem Part.same_refl (p : Part) (s : State) : p.same s s := by
  cases p <;> simp [Part.same]

theorem Part.same_symm {p : Part} {s t : State} (h : p.same s t) : p.same t s := by
  cases p <;> simp_all [Part.same]

theorem Part.same_trans {p : Part} {s t u : State} (h : p.same s t) (k : p.same t u) : p.same s u := by
  cases p <;> simp_all [Part.same]

theorem same_refl (m : Nat) (s : State) : Same m s s = True := eq_true (fun p _ => p.same_refl s)

theorem Same.trans {m : Nat} {s t u : State} (h : Same m s t) (k : Same m t u) : Same m s u :=
  fun p hp => Part.same_trans (h p hp) (k p hp)

theorem Same.symm {m : Nat} {s t : State} (h : Same m s t) : Same m t s := fun p hp => Part.same_symm (h p hp)

theorem Same.mono {m f : Nat} {s t : State} (h : Same f s t) (hm : m &&& f = f) : Same m s t := by
  intro p hp
  refine h p ?_
  have := congrArg (fun n => n.testBit p.bit) hm
  simp only [Nat.testBit_and, hp, Bool.false_and] at this
  exact this.symm

/-- Inclusion of masks is transitive. -/
theorem sub_trans {m f k : Nat} (h : m &&& f = f) (hk : f &&& k = k) : m &&& k = k := by
  rw [← hk, ← Nat.and_assoc, h]

/-- What a function leaves alone may be put before any agreement. -/
theorem Same.eqv {m f : Nat} {s t u : State} (h : Same f t u) (hm : m &&& f = f) : Same m s u = Same m s t :=
  propext ⟨fun k => k.trans (h.mono hm).symm, fun k => k.trans (h.mono hm)⟩

theorem same_ite {m : Nat} {s a b : State} {c : Prop} [Decidable c] :
    Same m s (if c then a else b) = if c then Same m s a else Same m s b := by split <;> rfl

theorem same_forAll {m : Nat} {α : Type} {s t : State} {l : List α} {f : α → State → State}
    (hf : ∀ a u, Same m u (f a u)) : Same m s (forAll l f t) = Same m s t := by
  refine propext ⟨fun h => ?_, fun h => ?_⟩
  · exact h.trans (go hf l t).symm
  · exact h.trans (go hf l t)
where
  go {m : Nat} {α : Type} {f : α → State → State} (hf : ∀ a u, Same m u (f a u)) :
      ∀ (l : List α) (t : State), Same m t (forAll l f t)
    | [], t => (same_refl m t).mpr trivial
    | a :: l, t => (hf a t).trans (go hf l (f a t))

theorem same_when {m : Nat} {s t : State} {g : Bool} {f : State → State} (hf : ∀ u, Same m u (f u)) :
    Same m s (when g f t) = Same m s t := by
  unfold when
  split
  · exact propext ⟨fun h => h.trans (hf t).symm, fun h => h.trans (hf t)⟩
  · rfl

theorem same_refuseOr {m : Nat} {s t : State} {st : Status} {f : State → State} (hf : ∀ u, Same m u (f u)) :
    Same m s (refuseOr st f t).1 = Same m s t := by
  unfold refuseOr
  split
  · exact propext ⟨fun h => h.trans (hf t).symm, fun h => h.trans (hf t)⟩
  · rfl

/-- A command that acts under a condition changes what its effect changes. -/
theorem keep_act {m : Nat} {s t : State} {g : Bool} {f : State → State} (hf : ∀ u, Same m u (f u)) (h : act g f s = .next t) :
    Same m s t := by
  unfold act at h
  cases h
  split
  · exact hf s
  · exact (same_refl m s).mpr trivial

theorem same_up_free {m : Nat} {s t : State} {x0} (h : m &&& 2 = 2) :
    Same m s { t with free := x0 } = Same m s t :=
  Same.eqv (f := 2) (by intro p hp; cases p <;> first | rfl | (intro; rfl) | exact ⟨rfl, rfl⟩ | (exfalso; revert hp; decide)) h

theorem same_setStatus {m : Nat} {s : State} {p : State × Status} (h : m &&& 4 = 4) : Same m s (setStatus p) = Same m s p.1 :=
  Same.eqv (f := 4) (by intro p hp; cases p <;> first | rfl | (intro; rfl) | exact ⟨rfl, rfl⟩ | (exfalso; revert hp; decide)) h

theorem same_up_got {m : Nat} {s t : State} {x0} (h : m &&& 8 = 8) :
    Same m s { t with got := x0 } = Same m s t :=
  Same.eqv (f := 8) (by intro p hp; cases p <;> first | rfl | (intro; rfl) | exact ⟨rfl, rfl⟩ | (exfalso; revert hp; decide)) h

theorem same_up_pwr {m : Nat} {s t : State} {x0} (h : m &&& 16 = 16) :
    Same m s { t with pwr := x0 } = Same m s t :=
  Same.eqv (f := 16) (by intro p hp; cases p <;> first | rfl | (intro; rfl) | exact ⟨rfl, rfl⟩ | (exfalso; revert hp; decide)) h

theorem same_up_pwr_pins {m : Nat} {s t : State} {x0 x1} (h : m &&& 48 = 48) :
    Same m s { t with pwr := x0, pins := x1 } = Same m s t :=
  Same.eqv (f := 48) (by intro p hp; cases p <;> first | rfl | (intro; rfl) | exact ⟨rfl, rfl⟩ | (exfalso; revert hp; decide)) h

theorem same_up_pwr_pins_boot {m : Nat} {s t : State} {x0 x1 x2} (h : m &&& 560 = 560) :
    Same m s { t with pwr := x0, pins := x1, boot := x2 } = Same m s t :=
  Same.eqv (f := 560) (by intro p hp; cases p <;> first | rfl | (intro; rfl) | exact ⟨rfl, rfl⟩ | (exfalso; revert hp; decide)) h

theorem same_up_pwr_clk_boot_mgt_bist {m : Nat} {s t : State} {x0 x1 x2 x3 x4} (h : m &&& 18387829328 = 18387829328) :
    Same m s { t with pwr := x0, clk := x1, boot := x2, mgt := x3, bist := x4 } = Same m s t :=
  Same.eqv (f := 18387829328) (by intro p hp; cases p <;> first | rfl | (intro; rfl) | exact ⟨rfl, rfl⟩ | (exfalso; revert hp; decide)) h

theorem same_up_pwr_clk_flags_rsc {m : Nat} {s t : State} {x0 x1 x2 x3} (h : m &&& 6224 = 6224) :
    Same m s { t with pwr := x0, clk := x1, flags := x2, rsc := x3 } = Same m s t :=
  Same.eqv (f := 6224) (by intro p hp; cases p <;> first | rfl | (intro; rfl) | exact ⟨rfl, rfl⟩ | (exfalso; revert hp; decide)) h

theorem same_up_pwr_boot {m : Nat} {s t : State} {x0 x1} (h : m &&& 528 = 528) :
    Same m s { t with pwr := x0, boot := x1 } = Same m s t :=
  Same.eqv (f := 528) (by intro p hp; cases p <;> first | rfl | (intro; rfl) | exact ⟨rfl, rfl⟩ | (exfalso; revert hp; decide)) h

theorem same_up_free_mem {m : Nat} {s t : State} {x0 x1} (h : m &&& 67108866 = 67108866) :
    Same m s { t with free := x0, mem := x1 } = Same m s t :=
  Same.eqv (f := 67108866) (by intro p hp; cases p <;> first | rfl | (intro; rfl) | exact ⟨rfl, rfl⟩ | (exfalso; revert hp; decide)) h

theorem same_up_fuse_flash {m : Nat} {s t : State} {x0 x1} (h : m &&& 384 = 384) :
    Same m s { t with fuse := x0, flash := x1 } = Same m s t :=
  Same.eqv (f := 384) (by intro p hp; cases p <;> first | rfl | (intro; rfl) | exact ⟨rfl, rfl⟩ | (exfalso; revert hp; decide)) h

theorem same_up_pins {m : Nat} {s t : State} {x0} (h : m &&& 32 = 32) :
    Same m s { t with pins := x0 } = Same m s t :=
  Same.eqv (f := 32) (by intro p hp; cases p <;> first | rfl | (intro; rfl) | exact ⟨rfl, rfl⟩ | (exfalso; revert hp; decide)) h

theorem same_up_pins_clk_seenSec {m : Nat} {s t : State} {x0 x1 x2} (h : m &&& 16480 = 16480) :
    Same m s { t with pins := x0, clk := x1, seenSec := x2 } = Same m s t :=
  Same.eqv (f := 16480) (by intro p hp; cases p <;> first | rfl | (intro; rfl) | exact ⟨rfl, rfl⟩ | (exfalso; revert hp; decide)) h

theorem same_up_clk_flow {m : Nat} {s t : State} {x0 x1} (h : m &&& 4194368 = 4194368) :
    Same m s { t with clk := x0, flow := x1 } = Same m s t :=
  Same.eqv (f := 4194368) (by intro p hp; cases p <;> first | rfl | (intro; rfl) | exact ⟨rfl, rfl⟩ | (exfalso; revert hp; decide)) h

theorem same_up_fuse {m : Nat} {s t : State} {x0} (h : m &&& 128 = 128) :
    Same m s { t with fuse := x0 } = Same m s t :=
  Same.eqv (f := 128) (by intro p hp; cases p <;> first | rfl | (intro; rfl) | exact ⟨rfl, rfl⟩ | (exfalso; revert hp; decide)) h

theorem same_up_fuse_sec {m : Nat} {s t : State} {x0 x1} (h : m &&& 33554560 = 33554560) :
    Same m s { t with fuse := x0, sec := x1 } = Same m s t :=
  Same.eqv (f := 33554560) (by intro p hp; cases p <;> first | rfl | (intro; rfl) | exact ⟨rfl, rfl⟩ | (exfalso; revert hp; decide)) h

theorem same_up_flash {m : Nat} {s t : State} {x0} (h : m &&& 256 = 256) :
    Same m s { t with flash := x0 } = Same m s t :=
  Same.eqv (f := 256) (by intro p hp; cases p <;> first | rfl | (intro; rfl) | exact ⟨rfl, rfl⟩ | (exfalso; revert hp; decide)) h

theorem same_up_flash_bist {m : Nat} {s t : State} {x0 x1} (h : m &&& 1073742080 = 1073742080) :
    Same m s { t with flash := x0, bist := x1 } = Same m s t :=
  Same.eqv (f := 1073742080) (by intro p hp; cases p <;> first | rfl | (intro; rfl) | exact ⟨rfl, rfl⟩ | (exfalso; revert hp; decide)) h

theorem same_up_boot {m : Nat} {s t : State} {x0} (h : m &&& 512 = 512) :
    Same m s { t with boot := x0 } = Same m s t :=
  Same.eqv (f := 512) (by intro p hp; cases p <;> first | rfl | (intro; rfl) | exact ⟨rfl, rfl⟩ | (exfalso; revert hp; decide)) h

theorem same_up_boot_sec {m : Nat} {s t : State} {x0 x1} (h : m &&& 33554944 = 33554944) :
    Same m s { t with boot := x0, sec := x1 } = Same m s t :=
  Same.eqv (f := 33554944) (by intro p hp; cases p <;> first | rfl | (intro; rfl) | exact ⟨rfl, rfl⟩ | (exfalso; revert hp; decide)) h

theorem same_up_boot_bist {m : Nat} {s t : State} {x0 x1} (h : m &&& 1073742336 = 1073742336) :
    Same m s { t with boot := x0, bist := x1 } = Same m s t :=
  Same.eqv (f := 1073742336) (by intro p hp; cases p <;> first | rfl | (intro; rfl) | exact ⟨rfl, rfl⟩ | (exfalso; revert hp; decide)) h

theorem same_up_regs {m : Nat} {s t : State} {x0} (h : m &&& 1024 = 1024) :
    Same m s { t with regs := x0 } = Same m s t :=
  Same.eqv (f := 1024) (by intro p hp; cases p <;> first | rfl | (intro; rfl) | exact ⟨rfl, rfl⟩ | (exfalso; revert hp; decide)) h

theorem same_up_flags {m : Nat} {s t : State} {x0} (h : m &&& 2048 = 2048) :
    Same m s { t with flags := x0 } = Same m s t :=
  Same.eqv (f := 2048) (by intro p hp; cases p <;> first | rfl | (intro; rfl) | exact ⟨rfl, rfl⟩ | (exfalso; revert hp; decide)) h

theorem same_up_flags_rsc {m : Nat} {s t : State} {x0 x1} (h : m &&& 6144 = 6144) :
    Same m s { t with flags := x0, rsc := x1 } = Same m s t :=
  Same.eqv (f := 6144) (by intro p hp; cases p <;> first | rfl | (intro; rfl) | exact ⟨rfl, rfl⟩ | (exfalso; revert hp; decide)) h

theorem same_up_rsc {m : Nat} {s t : State} {x0} (h : m &&& 4096 = 4096) :
    Same m s { t with rsc := x0 } = Same m s t :=
  Same.eqv (f := 4096) (by intro p hp; cases p <;> first | rfl | (intro; rfl) | exact ⟨rfl, rfl⟩ | (exfalso; revert hp; decide)) h

theorem same_up_seenTurn {m : Nat} {s t : State} {x0} (h : m &&& 8192 = 8192) :
    Same m s { t with seenTurn := x0 } = Same m s t :=
  Same.eqv (f := 8192) (by intro p hp; cases p <;> first | rfl | (intro; rfl) | exact ⟨rfl, rfl⟩ | (exfalso; revert hp; decide)) h

theorem same_up_seenSec {m : Nat} {s t : State} {x0} (h : m &&& 16384 = 16384) :
    Same m s { t with seenSec := x0 } = Same m s t :=
  Same.eqv (f := 16384) (by intro p hp; cases p <;> first | rfl | (intro; rfl) | exact ⟨rfl, rfl⟩ | (exfalso; revert hp; decide)) h

theorem same_up_aps {m : Nat} {s t : State} {x0} (h : m &&& 262144 = 262144) :
    Same m s { t with aps := x0 } = Same m s t :=
  Same.eqv (f := 262144) (by intro p hp; cases p <;> first | rfl | (intro; rfl) | exact ⟨rfl, rfl⟩ | (exfalso; revert hp; decide)) h

theorem same_up_leaves {m : Nat} {s t : State} {x0} (h : m &&& 524288 = 524288) :
    Same m s { t with leaves := x0 } = Same m s t :=
  Same.eqv (f := 524288) (by intro p hp; cases p <;> first | rfl | (intro; rfl) | exact ⟨rfl, rfl⟩ | (exfalso; revert hp; decide)) h

theorem same_up_ssets {m : Nat} {s t : State} {x0} (h : m &&& 1048576 = 1048576) :
    Same m s { t with ssets := x0 } = Same m s t :=
  Same.eqv (f := 1048576) (by intro p hp; cases p <;> first | rfl | (intro; rfl) | exact ⟨rfl, rfl⟩ | (exfalso; revert hp; decide)) h

theorem same_up_ssets_ctrs {m : Nat} {s t : State} {x0 x1} (h : m &&& 3145728 = 3145728) :
    Same m s { t with ssets := x0, ctrs := x1 } = Same m s t :=
  Same.eqv (f := 3145728) (by intro p hp; cases p <;> first | rfl | (intro; rfl) | exact ⟨rfl, rfl⟩ | (exfalso; revert hp; decide)) h

theorem same_up_ctrs {m : Nat} {s t : State} {x0} (h : m &&& 2097152 = 2097152) :
    Same m s { t with ctrs := x0 } = Same m s t :=
  Same.eqv (f := 2097152) (by intro p hp; cases p <;> first | rfl | (intro; rfl) | exact ⟨rfl, rfl⟩ | (exfalso; revert hp; decide)) h

theorem same_up_flow {m : Nat} {s t : State} {x0} (h : m &&& 4194304 = 4194304) :
    Same m s { t with flow := x0 } = Same m s t :=
  Same.eqv (f := 4194304) (by intro p hp; cases p <;> first | rfl | (intro; rfl) | exact ⟨rfl, rfl⟩ | (exfalso; revert hp; decide)) h

theorem same_up_flow_mem {m : Nat} {s t : State} {x0 x1} (h : m &&& 71303168 = 71303168) :
    Same m s { t with flow := x0, mem := x1 } = Same m s t :=
  Same.eqv (f := 71303168) (by intro p hp; cases p <;> first | rfl | (intro; rfl) | exact ⟨rfl, rfl⟩ | (exfalso; revert hp; decide)) h

theorem same_up_tod {m : Nat} {s t : State} {x0} (h : m &&& 8388608 = 8388608) :
    Same m s { t with tod := x0 } = Same m s t :=
  Same.eqv (f := 8388608) (by intro p hp; cases p <;> first | rfl | (intro; rfl) | exact ⟨rfl, rfl⟩ | (exfalso; revert hp; decide)) h

theorem same_up_cln {m : Nat} {s t : State} {x0} (h : m &&& 16777216 = 16777216) :
    Same m s { t with cln := x0 } = Same m s t :=
  Same.eqv (f := 16777216) (by intro p hp; cases p <;> first | rfl | (intro; rfl) | exact ⟨rfl, rfl⟩ | (exfalso; revert hp; decide)) h

theorem same_up_sec {m : Nat} {s t : State} {x0} (h : m &&& 33554432 = 33554432) :
    Same m s { t with sec := x0 } = Same m s t :=
  Same.eqv (f := 33554432) (by intro p hp; cases p <;> first | rfl | (intro; rfl) | exact ⟨rfl, rfl⟩ | (exfalso; revert hp; decide)) h

theorem same_up_mem {m : Nat} {s t : State} {x0} (h : m &&& 67108864 = 67108864) :
    Same m s { t with mem := x0 } = Same m s t :=
  Same.eqv (f := 67108864) (by intro p hp; cases p <;> first | rfl | (intro; rfl) | exact ⟨rfl, rfl⟩ | (exfalso; revert hp; decide)) h

theorem same_up_mem_mgt {m : Nat} {s t : State} {x0 x1} (h : m &&& 17381195776 = 17381195776) :
    Same m s { t with mem := x0, mgt := x1 } = Same m s t :=
  Same.eqv (f := 17381195776) (by intro p hp; cases p <;> first | rfl | (intro; rfl) | exact ⟨rfl, rfl⟩ | (exfalso; revert hp; decide)) h

theorem same_up_mgt {m : Nat} {s t : State} {x0} (h : m &&& 17314086912 = 17314086912) :
    Same m s { t with mgt := x0 } = Same m s t :=
  Same.eqv (f := 17314086912) (by intro p hp; cases p <;> first | rfl | (intro; rfl) | exact ⟨rfl, rfl⟩ | (exfalso; revert hp; decide)) h

theorem same_uq_mgt {m : Nat} {s t : State} {x0} (h : m &&& 134217728 = 134217728) (hq : Mgt.quiet x0 = t.mgt.quiet) :
    Same m s { t with mgt := x0 } = Same m s t :=
  Same.eqv (f := 134217728) (by intro p hp; cases p <;> first | exact hq | rfl | (intro; rfl) | exact ⟨rfl, rfl⟩ | (exfalso; revert hp; decide)) h

theorem same_up_upd {m : Nat} {s t : State} {x0} (h : m &&& 268435456 = 268435456) :
    Same m s { t with upd := x0 } = Same m s t :=
  Same.eqv (f := 268435456) (by intro p hp; cases p <;> first | rfl | (intro; rfl) | exact ⟨rfl, rfl⟩ | (exfalso; revert hp; decide)) h

theorem same_up_tally {m : Nat} {s t : State} {x0} (h : m &&& 536870912 = 536870912) :
    Same m s { t with tally := x0 } = Same m s t :=
  Same.eqv (f := 536870912) (by intro p hp; cases p <;> first | rfl | (intro; rfl) | exact ⟨rfl, rfl⟩ | (exfalso; revert hp; decide)) h

theorem same_up_bist {m : Nat} {s t : State} {x0} (h : m &&& 1073741824 = 1073741824) :
    Same m s { t with bist := x0 } = Same m s t :=
  Same.eqv (f := 1073741824) (by intro p hp; cases p <;> first | rfl | (intro; rfl) | exact ⟨rfl, rfl⟩ | (exfalso; revert hp; decide)) h

theorem same_up_boot_ctrs_flow_mem_mgt_upd {m : Nat} {s t : State} {x0 x1 x2 x3 x4 x5} (h : m &&& 17655923200 = 17655923200) :
    Same m s { t with boot := x0, ctrs := x1, flow := x2, mem := x3, mgt := x4, upd := x5 } = Same m s t :=
  Same.eqv (f := 17655923200) (by intro p hp; cases p <;> first | rfl | (intro; rfl) | exact ⟨rfl, rfl⟩ | (exfalso; revert hp; decide)) h

theorem same_up_clk_tod {m : Nat} {s t : State} {x0 x1} (h : m &&& 8388672 = 8388672) :
    Same m s { t with clk := x0, tod := x1 } = Same m s t :=
  Same.eqv (f := 8388672) (by intro p hp; cases p <;> first | rfl | (intro; rfl) | exact ⟨rfl, rfl⟩ | (exfalso; revert hp; decide)) h

/-! ## Islands and engines -/

theorem Isl.row_inj {i j : Isl} (h : i.row = j.row) : i = j := by
  revert h; cases i <;> cases j <;> decide

@[simp] theorem getIsl_setIsl (s : State) (i j : Isl) (x : IslSt) : getIsl (setIsl i x s) j = if j = i then x else getIsl s j := by
  unfold getIsl setIsl
  simp only [tget_tset]
  by_cases h : j = i
  · simp [h]
  · simp only [h, if_false]
    split
    · next k => exact absurd (Isl.row_inj k) h
    · rfl

theorem keep_modIsl (i : Isl) (f : IslSt → IslSt) (t : State) : Same 40802222080 t (modIsl i f t) := by
  intro p hp
  cases p <;> first | rfl | exact ⟨rfl, rfl⟩ | (exfalso; revert hp; decide)

theorem keep_modIsl_all (i : Isl) (f : IslSt → IslSt) (t : State) (h1 : ∀ x, (f x).fencing = x.fencing)
    (h2 : ∀ x, (f x).stepping = x.stepping) : Same 32768 t (modIsl i f t) := by
  intro p hp
  cases p
  case fences => intro j; simp only [modIsl, getIsl_setIsl]; split <;> simp_all
  case steps => intro j; simp only [modIsl, getIsl_setIsl]; split <;> simp_all
  case incarns => intro j; simp only [modIsl, getIsl_setIsl]; split; · next e => subst e; exact congrArg (fun p => p.2.2.2.2.1) (h1 _)
                  · rfl
  all_goals first | rfl | exact ⟨rfl, rfl⟩ | (exfalso; revert hp; decide)

theorem keep_modIsl_fences (i : Isl) (f : IslSt → IslSt) (t : State) (h1 : ∀ x, (f x).fencing = x.fencing) :
    Same 4295000064 t (modIsl i f t) := by
  intro p hp
  cases p
  case fences => intro j; simp only [modIsl, getIsl_setIsl]; split <;> simp_all
  case incarns => intro j; simp only [modIsl, getIsl_setIsl]; split; · next e => subst e; exact congrArg (fun p => p.2.2.2.2.1) (h1 _)
                  · rfl
  all_goals first | rfl | exact ⟨rfl, rfl⟩ | (exfalso; revert hp; decide)

theorem keep_modIsl_incarn (i : Isl) (f : IslSt → IslSt) (t : State) (h1 : ∀ x, (f x).stepping = x.stepping) :
    Same 36507254784 t (modIsl i f t) := by
  intro p hp
  cases p
  case steps => intro j; simp only [modIsl, getIsl_setIsl]; split <;> simp_all
  all_goals first | rfl | exact ⟨rfl, rfl⟩ | (exfalso; revert hp; decide)

theorem keep_modIsl_steps (i : Isl) (f : IslSt → IslSt) (t : State) (h1 : ∀ x, (f x).stepping = x.stepping)
    (h2 : ∀ x, (f x).incarn = x.incarn) : Same 2147516416 t (modIsl i f t) := by
  intro p hp
  cases p
  case steps => intro j; simp only [modIsl, getIsl_setIsl]; split <;> simp_all
  case incarns => intro j; simp only [modIsl, getIsl_setIsl]; split <;> simp_all
  all_goals first | rfl | exact ⟨rfl, rfl⟩ | (exfalso; revert hp; decide)

theorem same_modIsl {m : Nat} {s t : State} {i : Isl} {f : IslSt → IslSt} (h : m &&& 40802222080 = 40802222080) :
    Same m s (modIsl i f t) = Same m s t := (keep_modIsl i f t).eqv h
theorem same_modIsl_all {m : Nat} {s t : State} {i : Isl} {f : IslSt → IslSt} (h : m &&& 32768 = 32768)
    (h1 : ∀ x, (f x).fencing = x.fencing) (h2 : ∀ x, (f x).stepping = x.stepping) :
    Same m s (modIsl i f t) = Same m s t := (keep_modIsl_all i f t h1 h2).eqv h
theorem same_modIsl_fences {m : Nat} {s t : State} {i : Isl} {f : IslSt → IslSt} (h : m &&& 4295000064 = 4295000064)
    (h1 : ∀ x, (f x).fencing = x.fencing) : Same m s (modIsl i f t) = Same m s t := (keep_modIsl_fences i f t h1).eqv h
theorem same_modIsl_steps {m : Nat} {s t : State} {i : Isl} {f : IslSt → IslSt} (h : m &&& 2147516416 = 2147516416)
    (h1 : ∀ x, (f x).stepping = x.stepping) (h2 : ∀ x, (f x).incarn = x.incarn) :
    Same m s (modIsl i f t) = Same m s t := (keep_modIsl_steps i f t h1 h2).eqv h
theorem same_modIsl_incarn {m : Nat} {s t : State} {i : Isl} {f : IslSt → IslSt} (h : m &&& 36507254784 = 36507254784)
    (h1 : ∀ x, (f x).stepping = x.stepping) : Same m s (modIsl i f t) = Same m s t := (keep_modIsl_incarn i f t h1).eqv h

theorem keep_setEng (e : Eng) (x : EngSt) (t : State) : Same 8590131200 t (setEng e x t) := by
  intro p hp
  cases e <;> cases p <;> first | rfl | (intro; rfl) | (exfalso; revert hp; decide)
theorem same_setEng {m : Nat} {s t : State} {e : Eng} {x : EngSt} (h : m &&& 8590131200 = 8590131200) :
    Same m s (setEng e x t) = Same m s t := (keep_setEng e x t).eqv h
theorem same_modEng {m : Nat} {s t : State} {e : Eng} {f : EngSt → EngSt} (h : m &&& 8590131200 = 8590131200) :
    Same m s (modEng e f t) = Same m s t := (keep_setEng e _ t).eqv h

theorem keep_modEng_st (e : Eng) (f : EngSt → EngSt) (t : State) (h1 : ∀ x, (f x).st = x.st) : Same 196608 t (modEng e f t) := by
  intro p hp
  cases e <;> cases p <;> first | rfl | (intro; rfl) | exact ⟨h1 _, rfl⟩ | exact ⟨rfl, h1 _⟩ | (exfalso; revert hp; decide)
theorem same_modEng_st {m : Nat} {s t : State} {e : Eng} {f : EngSt → EngSt} (h : m &&& 196608 = 196608)
    (h1 : ∀ x, (f x).st = x.st) : Same m s (modEng e f t) = Same m s t := (keep_modEng_st e f t h1).eqv h

/-! ## From masks to lists of parts -/

theorem Same.changesOnly {m : Nat} {ps : List Part} {s t : State} (h : Same m s t)
    (hp : ∀ p : Part, p ∉ ps → m.testBit p.bit = false) : changesOnly ps s t := fun p k => h p (hp p k)

end Sys2Proof.Machine
end

