-- ==== Sys2Proof/Laws/FrameOps.lean ====
section
/-! SUPPORT. Which parts of the state each function of Machine/Ops.lean leaves alone, as the bit mask of the others. -/

namespace Sys2Proof.Machine

set_option linter.unusedSimpArgs false
set_option linter.unusedTactic false
set_option linter.unreachableTactic false

theorem keep_modFeed (f : Feed) (g : FeedSt → FeedSt) (s : State) : Same 16 s (modFeed f g s) := by unfold modFeed; (try simp (disch := first | decide | (intros; (first | unfold IslSt.fencing | unfold IslSt.stepping | unfold Mgt.quiet | skip); first | rfl | (split <;> rfl)) | (intros; simp (disch := first | decide | (intros; (first | unfold IslSt.fencing | unfold IslSt.stepping | unfold Mgt.quiet | skip); first | rfl | (split <;> rfl))) only [same_refl, same_ite, ite_self, same_up_pwr])) only [same_refl, same_ite, ite_self, same_up_pwr]); repeat' (split <;> try simp (disch := first | decide | (intros; (first | unfold IslSt.fencing | unfold IslSt.stepping | unfold Mgt.quiet | skip); first | rfl | (split <;> rfl)) | (intros; simp (disch := first | decide | (intros; (first | unfold IslSt.fencing | unfold IslSt.stepping | unfold Mgt.quiet | skip); first | rfl | (split <;> rfl))) only [same_refl, same_ite, ite_self, same_up_pwr])) only [same_refl, same_ite, ite_self, same_up_pwr])
theorem same_modFeed {m' : Nat} {s' : State} {f : Feed} {g : FeedSt → FeedSt} {s : State} (h : m' &&& 16 = 16) : Same m' s' (modFeed f g s) = Same m' s' s := Same.eqv (keep_modFeed f g s) h
theorem keep_modDown (e : Eng) (f : Down → Down) (s : State) : Same 196608 s (modDown e f s) := by unfold modDown; simp (disch := first | decide | (intros; (first | unfold IslSt.fencing | unfold IslSt.stepping | unfold Mgt.quiet | skip); first | rfl | (split <;> rfl)) | (intros; simp (disch := first | decide | (intros; (first | unfold IslSt.fencing | unfold IslSt.stepping | unfold Mgt.quiet | skip); first | rfl | (split <;> rfl))) only [same_refl, same_ite, ite_self, same_modEng_st, same_modEng])) only [same_refl, same_ite, ite_self, same_modEng_st, same_modEng]
theorem same_modDown {m' : Nat} {s' : State} {e : Eng} {f : Down → Down} {s : State} (h : m' &&& 196608 = 196608) : Same m' s' (modDown e f s) = Same m' s' s := Same.eqv (keep_modDown e f s) h
theorem keep_setGrp (e : Eng) (g : ℕ) (x : GrpSt) (s : State) : Same 196608 s (setGrp e g x s) := by unfold setGrp; simp (disch := decide) only [same_refl, same_ite, ite_self, same_modDown]
theorem same_setGrp {m' : Nat} {s' : State} {e : Eng} {g : ℕ} {x : GrpSt} {s : State} (h : m' &&& 196608 = 196608) : Same m' s' (setGrp e g x s) = Same m' s' s := Same.eqv (keep_setGrp e g x s) h
theorem keep_setBrx (e : Eng) (n : ℕ) (x : BrxSt) (s : State) : Same 196608 s (setBrx e n x s) := by unfold setBrx; simp (disch := first | decide | (intros; (first | unfold IslSt.fencing | unfold IslSt.stepping | unfold Mgt.quiet | skip); first | rfl | (split <;> rfl)) | (intros; simp (disch := first | decide | (intros; (first | unfold IslSt.fencing | unfold IslSt.stepping | unfold Mgt.quiet | skip); first | rfl | (split <;> rfl))) only [same_refl, same_ite, ite_self, same_modEng_st, same_modEng])) only [same_refl, same_ite, ite_self, same_modEng_st, same_modEng]
theorem same_setBrx {m' : Nat} {s' : State} {e : Eng} {n : ℕ} {x : BrxSt} {s : State} (h : m' &&& 196608 = 196608) : Same m' s' (setBrx e n x s) = Same m' s' s := Same.eqv (keep_setBrx e n x s) h
theorem keep_modBrx (e : Eng) (n : ℕ) (f : BrxSt → BrxSt) (s : State) : Same 196608 s (modBrx e n f s) := by unfold modBrx; simp (disch := decide) only [same_refl, same_ite, ite_self, same_setBrx]
theorem same_modBrx {m' : Nat} {s' : State} {e : Eng} {n : ℕ} {f : BrxSt → BrxSt} {s : State} (h : m' &&& 196608 = 196608) : Same m' s' (modBrx e n f s) = Same m' s' s := Same.eqv (keep_modBrx e n f s) h
theorem keep_setLeaf (e : Eng) (l : ℕ) (x : Leaf) (s : State) : Same 524288 s (setLeaf e l x s) := by unfold setLeaf; simp (disch := decide) only [same_refl, same_ite, ite_self, same_up_leaves]
theorem same_setLeaf {m' : Nat} {s' : State} {e : Eng} {l : ℕ} {x : Leaf} {s : State} (h : m' &&& 524288 = 524288) : Same m' s' (setLeaf e l x s) = Same m' s' s := Same.eqv (keep_setLeaf e l x s) h
theorem keep_modLeaf (e : Eng) (l : ℕ) (f : Leaf → Leaf) (s : State) : Same 524288 s (modLeaf e l f s) := by unfold modLeaf; simp (disch := decide) only [same_refl, same_ite, ite_self, same_setLeaf]
theorem same_modLeaf {m' : Nat} {s' : State} {e : Eng} {l : ℕ} {f : Leaf → Leaf} {s : State} (h : m' &&& 524288 = 524288) : Same m' s' (modLeaf e l f s) = Same m' s' s := Same.eqv (keep_modLeaf e l f s) h
theorem keep_setSset (e : Eng) (i : ℕ) (x : Sset) (s : State) : Same 1048576 s (setSset e i x s) := by unfold setSset; simp (disch := decide) only [same_refl, same_ite, ite_self, same_up_ssets]
theorem same_setSset {m' : Nat} {s' : State} {e : Eng} {i : ℕ} {x : Sset} {s : State} (h : m' &&& 1048576 = 1048576) : Same m' s' (setSset e i x s) = Same m' s' s := Same.eqv (keep_setSset e i x s) h
theorem keep_modSset (e : Eng) (i : ℕ) (f : Sset → Sset) (s : State) : Same 1048576 s (modSset e i f s) := by unfold modSset; simp (disch := decide) only [same_refl, same_ite, ite_self, same_setSset]
theorem same_modSset {m' : Nat} {s' : State} {e : Eng} {i : ℕ} {f : Sset → Sset} {s : State} (h : m' &&& 1048576 = 1048576) : Same m' s' (modSset e i f s) = Same m' s' s := Same.eqv (keep_modSset e i f s) h
theorem keep_setCtr (e : Eng) (c : ℕ) (x : Ctr) (s : State) : Same 2097152 s (setCtr e c x s) := by unfold setCtr; simp (disch := decide) only [same_refl, same_ite, ite_self, same_up_ctrs]
theorem same_setCtr {m' : Nat} {s' : State} {e : Eng} {c : ℕ} {x : Ctr} {s : State} (h : m' &&& 2097152 = 2097152) : Same m' s' (setCtr e c x s) = Same m' s' s := Same.eqv (keep_setCtr e c x s) h
theorem keep_modCtr (e : Eng) (c : ℕ) (f : Ctr → Ctr) (s : State) : Same 2097152 s (modCtr e c f s) := by unfold modCtr; simp (disch := decide) only [same_refl, same_ite, ite_self, same_setCtr]
theorem same_modCtr {m' : Nat} {s' : State} {e : Eng} {c : ℕ} {f : Ctr → Ctr} {s : State} (h : m' &&& 2097152 = 2097152) : Same m' s' (modCtr e c f s) = Same m' s' s := Same.eqv (keep_modCtr e c f s) h
theorem keep_setFlow (f : ℕ) (x : Flow) (s : State) : Same 4194304 s (setFlow f x s) := by unfold setFlow; simp (disch := decide) only [same_refl, same_ite, ite_self, same_up_flow]
theorem same_setFlow {m' : Nat} {s' : State} {f : ℕ} {x : Flow} {s : State} (h : m' &&& 4194304 = 4194304) : Same m' s' (setFlow f x s) = Same m' s' s := Same.eqv (keep_setFlow f x s) h
theorem keep_modFlow (f : ℕ) (g : Flow → Flow) (s : State) : Same 4194304 s (modFlow f g s) := by unfold modFlow; simp (disch := decide) only [same_refl, same_ite, ite_self, same_setFlow]
theorem same_modFlow {m' : Nat} {s' : State} {f : ℕ} {g : Flow → Flow} {s : State} (h : m' &&& 4194304 = 4194304) : Same m' s' (modFlow f g s) = Same m' s' s := Same.eqv (keep_modFlow f g s) h
theorem keep_setPort (p : ℕ) (x : PortSt) (s : State) : Same 16777216 s (setPort p x s) := by unfold setPort; simp (disch := decide) only [same_refl, same_ite, ite_self, same_up_cln]
theorem same_setPort {m' : Nat} {s' : State} {p : ℕ} {x : PortSt} {s : State} (h : m' &&& 16777216 = 16777216) : Same m' s' (setPort p x s) = Same m' s' s := Same.eqv (keep_setPort p x s) h
theorem keep_modPort (p : ℕ) (f : PortSt → PortSt) (s : State) : Same 16777216 s (modPort p f s) := by unfold modPort; simp (disch := decide) only [same_refl, same_ite, ite_self, same_setPort]
theorem same_modPort {m' : Nat} {s' : State} {p : ℕ} {f : PortSt → PortSt} {s : State} (h : m' &&& 16777216 = 16777216) : Same m' s' (modPort p f s) = Same m' s' s := Same.eqv (keep_modPort p f s) h
theorem keep_setLane (k : ℕ) (x : LaneSt) (s : State) : Same 16777216 s (setLane k x s) := by unfold setLane; simp (disch := decide) only [same_refl, same_ite, ite_self, same_up_cln]
theorem same_setLane {m' : Nat} {s' : State} {k : ℕ} {x : LaneSt} {s : State} (h : m' &&& 16777216 = 16777216) : Same m' s' (setLane k x s) = Same m' s' s := Same.eqv (keep_setLane k x s) h
theorem keep_modLane (k : ℕ) (f : LaneSt → LaneSt) (s : State) : Same 16777216 s (modLane k f s) := by unfold modLane; simp (disch := decide) only [same_refl, same_ite, ite_self, same_setLane]
theorem same_modLane {m' : Nat} {s' : State} {k : ℕ} {f : LaneSt → LaneSt} {s : State} (h : m' &&& 16777216 = 16777216) : Same m' s' (modLane k f s) = Same m' s' s := Same.eqv (keep_modLane k f s) h
theorem keep_setSlot (k : ℕ) (x : KeySlot) (s : State) : Same 33554432 s (setSlot k x s) := by unfold setSlot; simp (disch := decide) only [same_refl, same_ite, ite_self, same_up_sec]
theorem same_setSlot {m' : Nat} {s' : State} {k : ℕ} {x : KeySlot} {s : State} (h : m' &&& 33554432 = 33554432) : Same m' s' (setSlot k x s) = Same m' s' s := Same.eqv (keep_setSlot k x s) h
theorem keep_modSlot (k : ℕ) (f : KeySlot → KeySlot) (s : State) : Same 33554432 s (modSlot k f s) := by unfold modSlot; simp (disch := decide) only [same_refl, same_ite, ite_self, same_setSlot]
theorem same_modSlot {m' : Nat} {s' : State} {k : ℕ} {f : KeySlot → KeySlot} {s : State} (h : m' &&& 33554432 = 33554432) : Same m' s' (modSlot k f s) = Same m' s' s := Same.eqv (keep_modSlot k f s) h
theorem keep_draw {α : Type} (f : ℕ → α) (s : State) : Same 2 s (draw f s).2 := by unfold draw; simp (disch := decide) only [same_refl, same_ite, ite_self, same_up_free]
theorem same_draw {m' : Nat} {s' : State} {α : Type} {f : ℕ → α} {s : State} (h : m' &&& 2 = 2) : Same m' s' (draw f s).2 = Same m' s' s := Same.eqv (keep_draw f s) h
theorem keep_setReg (r : Reg) (e : Eng) (i : ℕ) (v : W32) (s : State) : Same 1024 s (setReg r e i v s) := by unfold setReg; simp (disch := decide) only [same_refl, same_ite, ite_self, same_up_regs]
theorem same_setReg {m' : Nat} {s' : State} {r : Reg} {e : Eng} {i : ℕ} {v : W32} {s : State} (h : m' &&& 1024 = 1024) : Same m' s' (setReg r e i v s) = Same m' s' s := Same.eqv (keep_setReg r e i v s) h
theorem keep_addCount (k o : Nat) : ∀ (fuel i n : Nat) (s : State), Same 536870912 s (addCount k o fuel i n s)
  | 0, _, _, s => (same_refl _ s).mpr trivial
  | fuel + 1, i, n, s => by
    unfold addCount
    dsimp only
    split
    · exact ((same_up_tally (by decide)).mpr ((same_refl _ s).mpr trivial)).trans (keep_addCount k o fuel _ _ _)
    · exact (same_up_tally (by decide)).mpr ((same_refl _ s).mpr trivial)

theorem same_addCount {m' : Nat} {s' : State} {k o f i n : Nat} {s : State} (h : m' &&& 536870912 = 536870912) : Same m' s' (addCount k o f i n s) = Same m' s' s := Same.eqv (keep_addCount k o f i n s) h
theorem keep_count (k : ℕ) (o : ℕ) (i : ℕ) (n : ℕ) (s : State) : Same 536870912 s (count k o i n s) := by unfold count; simp (disch := decide) only [same_refl, same_ite, ite_self, same_addCount]
theorem same_count {m' : Nat} {s' : State} {k : ℕ} {o : ℕ} {i : ℕ} {n : ℕ} {s : State} (h : m' &&& 536870912 = 536870912) : Same m' s' (count k o i n s) = Same m' s' s := Same.eqv (keep_count k o i n s) h
theorem keep_countCond (k : ℕ) (o : ℕ) (i : ℕ) (entries : ℕ) (units : ℕ) (s : State) : Same 536870912 s (countCond k o i entries units s) := by unfold countCond; simp (disch := decide) only [same_refl, same_ite, ite_self, same_count]
theorem same_countCond {m' : Nat} {s' : State} {k : ℕ} {o : ℕ} {i : ℕ} {entries : ℕ} {units : ℕ} {s : State} (h : m' &&& 536870912 = 536870912) : Same m' s' (countCond k o i entries units s) = Same m' s' s := Same.eqv (keep_countCond k o i entries units s) h
theorem keep_countLeaf (k : ℕ) (e : Eng) (l : ℕ) (i : ℕ) (n : ℕ) (s : State) : Same 536870912 s (countLeaf k e l i n s) := by unfold countLeaf; simp (disch := decide) only [same_refl, same_ite, ite_self, same_count]
theorem same_countLeaf {m' : Nat} {s' : State} {k : ℕ} {e : Eng} {l : ℕ} {i : ℕ} {n : ℕ} {s : State} (h : m' &&& 536870912 = 536870912) : Same m' s' (countLeaf k e l i n s) = Same m' s' s := Same.eqv (keep_countLeaf k e l i n s) h
theorem keep_countCtr (k : ℕ) (e : Eng) (c : ℕ) (i : ℕ) (n : ℕ) (s : State) : Same 536870912 s (countCtr k e c i n s) := by unfold countCtr; simp (disch := decide) only [same_refl, same_ite, ite_self, same_count]
theorem same_countCtr {m' : Nat} {s' : State} {k : ℕ} {e : Eng} {c : ℕ} {i : ℕ} {n : ℕ} {s : State} (h : m' &&& 536870912 = 536870912) : Same m' s' (countCtr k e c i n s) = Same m' s' s := Same.eqv (keep_countCtr k e c i n s) h
theorem keep_raise (i : Isl) (code : ℕ) (obj : ℕ) (data : BitVec 80) (s : State) : Same 32768 s (raise i code obj data s) := by unfold raise; simp (disch := first | decide | (intros; (first | unfold IslSt.fencing | unfold IslSt.stepping | unfold Mgt.quiet | skip); first | rfl | (split <;> rfl)) | (intros; simp (disch := first | decide | (intros; (first | unfold IslSt.fencing | unfold IslSt.stepping | unfold Mgt.quiet | skip); first | rfl | (split <;> rfl))) only [same_refl, same_ite, ite_self, same_modIsl_all, same_modIsl_fences, same_modIsl_steps, same_modIsl_incarn, same_modIsl])) only [same_refl, same_ite, ite_self, same_modIsl_all, same_modIsl_fences, same_modIsl_steps, same_modIsl_incarn, same_modIsl]
theorem same_raise {m' : Nat} {s' : State} {i : Isl} {code : ℕ} {obj : ℕ} {data : BitVec 80} {s : State} (h : m' &&& 32768 = 32768) : Same m' s' (raise i code obj data s) = Same m' s' s := Same.eqv (keep_raise i code obj data s) h

end Sys2Proof.Machine
end

