-- ==== Sys2Proof/Laws/FrameFlags.lean ====
section
/-! SUPPORT. Which parts of the state each function of Machine/Flags.lean leaves alone, as the bit mask of the others. -/

namespace Sys2Proof.Machine

set_option linter.unusedSimpArgs false
set_option linter.unusedTactic false
set_option linter.unreachableTactic false

theorem keep_setFlagAt (a : ℕ) (b : ℕ) (s : State) : Same 6144 s (setFlagAt a b s) := by unfold setFlagAt; simp (disch := decide) only [same_refl, same_ite, ite_self, same_up_rsc, same_up_flags]
theorem same_setFlagAt {m' : Nat} {s' : State} {a : ℕ} {b : ℕ} {s : State} (h : m' &&& 6144 = 6144) : Same m' s' (setFlagAt a b s) = Same m' s' s := Same.eqv (keep_setFlagAt a b s) h
theorem keep_setFlag (r : Reg) (e : Eng) (b : ℕ) (s : State) : Same 6144 s (setFlag r e b s) := by unfold setFlag; simp (disch := decide) only [same_refl, same_ite, ite_self, same_setFlagAt]
theorem same_setFlag {m' : Nat} {s' : State} {r : Reg} {e : Eng} {b : ℕ} {s : State} (h : m' &&& 6144 = 6144) : Same m' s' (setFlag r e b s) = Same m' s' s := Same.eqv (keep_setFlag r e b s) h
theorem keep_clearFlagAt (a : ℕ) (b : ℕ) (setNow : Bool) (s : State) : Same 6144 s (clearFlagAt a b setNow s) := by unfold clearFlagAt; simp (disch := decide) only [same_refl, same_ite, ite_self, same_up_flags_rsc]
theorem same_clearFlagAt {m' : Nat} {s' : State} {a : ℕ} {b : ℕ} {setNow : Bool} {s : State} (h : m' &&& 6144 = 6144) : Same m' s' (clearFlagAt a b setNow s) = Same m' s' s := Same.eqv (keep_clearFlagAt a b setNow s) h
theorem keep_w1cWrite (a : ℕ) (n : ℕ) (v : W32) (setNow : W32) (s : State) : Same 6144 s (w1cWrite a n v setNow s) := by unfold w1cWrite; simp (disch := first | decide | (intros; (first | unfold IslSt.fencing | unfold IslSt.stepping | unfold Mgt.quiet | skip); first | rfl | (split <;> rfl)) | (intros; simp (disch := first | decide | (intros; (first | unfold IslSt.fencing | unfold IslSt.stepping | unfold Mgt.quiet | skip); first | rfl | (split <;> rfl))) only [same_refl, same_ite, ite_self, same_forAll, same_clearFlagAt, same_setFlagAt])) only [same_refl, same_ite, ite_self, same_forAll, same_clearFlagAt, same_setFlagAt]
theorem same_w1cWrite {m' : Nat} {s' : State} {a : ℕ} {n : ℕ} {v : W32} {setNow : W32} {s : State} (h : m' &&& 6144 = 6144) : Same m' s' (w1cWrite a n v setNow s) = Same m' s' s := Same.eqv (keep_w1cWrite a n v setNow s) h
theorem keep_raiseF (i : Isl) (code : ℕ) (obj : ℕ) (data : BitVec 80) (r : Reg) (e : Eng) (b : ℕ) (s : State) : Same 38912 s (raiseF i code obj data r e b s) := by unfold raiseF; simp (disch := decide) only [same_refl, same_ite, ite_self, same_setFlag, same_raise]
theorem same_raiseF {m' : Nat} {s' : State} {i : Isl} {code : ℕ} {obj : ℕ} {data : BitVec 80} {r : Reg} {e : Eng} {b : ℕ} {s : State} (h : m' &&& 38912 = 38912) : Same m' s' (raiseF i code obj data r e b s) = Same m' s' s := Same.eqv (keep_raiseF i code obj data r e b s) h
theorem same_oncePerSec {m' : Nat} {s' s : State} {code obj : Nat} {f : State → State} (h : m' &&& 16384 = 16384) (hf : ∀ u, Same m' u (f u)) : Same m' s' (oncePerSec code obj f s) = Same m' s' s :=
  (by unfold oncePerSec; split; · exact (same_refl m' s).mpr trivial
      · exact ((same_up_seenSec h).mpr ((same_refl m' s).mpr trivial)).trans (hf _) : Same m' s (oncePerSec code obj f s)).eqv (Nat.and_self m')

theorem keep_perSecond (i : Isl) (code : ℕ) (obj : ℕ) (n : ℕ) (s : State) : Same 536870912 s (perSecond i code obj n s) := by unfold perSecond; simp (disch := decide) only [same_refl, same_ite, ite_self, same_up_tally]
theorem same_perSecond {m' : Nat} {s' : State} {i : Isl} {code : ℕ} {obj : ℕ} {n : ℕ} {s : State} (h : m' &&& 536870912 = 536870912) : Same m' s' (perSecond i code obj n s) = Same m' s' s := Same.eqv (keep_perSecond i code obj n s) h
theorem keep_raiseSums (s : State) : Same 536903680 s (raiseSums s) := by unfold raiseSums; simp (disch := first | decide | (intros; (first | unfold IslSt.fencing | unfold IslSt.stepping | unfold Mgt.quiet | skip); first | rfl | (split <;> rfl)) | (intros; simp (disch := first | decide | (intros; (first | unfold IslSt.fencing | unfold IslSt.stepping | unfold Mgt.quiet | skip); first | rfl | (split <;> rfl))) only [same_refl, same_ite, ite_self, same_up_tally, same_raise, same_forAll])) only [same_refl, same_ite, ite_self, same_up_tally, same_raise, same_forAll]
theorem same_raiseSums {m' : Nat} {s' : State} {s : State} (h : m' &&& 536903680 = 536903680) : Same m' s' (raiseSums s) = Same m' s' s := Same.eqv (keep_raiseSums s) h
theorem same_oncePerTurn {m' : Nat} {s' s : State} {code obj turn : Nat} {f : State → State} (h : m' &&& 8192 = 8192) (hf : ∀ u, Same m' u (f u)) : Same m' s' (oncePerTurn code obj turn f s) = Same m' s' s :=
  (by unfold oncePerTurn; split; · exact (same_refl m' s).mpr trivial
      · exact ((same_up_seenTurn h).mpr ((same_refl m' s).mpr trivial)).trans (hf _) : Same m' s (oncePerTurn code obj turn f s)).eqv (Nat.and_self m')

theorem keep_noteFault (s t : State) : Same 134217728 t (noteFault s t) := by
  unfold noteFault
  split
  · exact (same_refl _ t).mpr trivial
  · rw [same_uq_mgt (by decide) (by rfl)]; exact (same_refl _ t).mpr trivial

theorem same_noteFault {m' : Nat} {s' s t : State} (h : m' &&& 134217728 = 134217728) : Same m' s' (noteFault s t) = Same m' s' t := Same.eqv (keep_noteFault s t) h
theorem keep_actF {m' : Nat} {g : Bool} {f : State → State} {s t : State} (h : m' &&& 134217728 = 134217728) (hf : ∀ u, Same m' u (f u)) (k : actF g f s = .next t) : Same m' s t := by
  unfold actF at k; cases k; split
  · exact (same_noteFault h).mpr (hf s)
  · exact (same_refl _ _).mpr trivial

end Sys2Proof.Machine
end

