-- ==== Sys2Proof/Laws/FrameBanks.lean ====
section
/-! SUPPORT. Which parts of the state each function of Machine/Banks.lean leaves alone, as the bit mask of the others. -/

namespace Sys2Proof.Machine

set_option linter.unusedSimpArgs false
set_option linter.unusedTactic false
set_option linter.unreachableTactic false

theorem keep_swapPlaces (a : ℕ) (b : ℕ) (s : State) : Same 67108864 s (swapPlaces a b s) := by unfold swapPlaces; simp (disch := decide) only [same_refl, same_ite, ite_self, same_up_mem]
theorem same_swapPlaces {m' : Nat} {s' : State} {a : ℕ} {b : ℕ} {s : State} (h : m' &&& 67108864 = 67108864) : Same m' s' (swapPlaces a b s) = Same m' s' s := Same.eqv (keep_swapPlaces a b s) h
theorem keep_setBanks (f : ℕ → W32) (s : State) : Same 67109888 s (setBanks f s) := by unfold setBanks; simp (disch := first | decide | (intros; (first | unfold IslSt.fencing | unfold IslSt.stepping | unfold Mgt.quiet | skip); first | rfl | (split <;> rfl)) | (intros; simp (disch := first | decide | (intros; (first | unfold IslSt.fencing | unfold IslSt.stepping | unfold Mgt.quiet | skip); first | rfl | (split <;> rfl))) only [same_refl, same_ite, ite_self, same_up_mem, same_setReg, same_forAll])) only [same_refl, same_ite, ite_self, same_up_mem, same_setReg, same_forAll]
theorem same_setBanks {m' : Nat} {s' : State} {f : ℕ → W32} {s : State} (h : m' &&& 67109888 = 67109888) : Same m' s' (setBanks f s) = Same m' s' s := Same.eqv (keep_setBanks f s) h
theorem keep_freshBank (b : ℕ) (s : State) : Same 67108866 s (freshBank b s) := by unfold freshBank; simp (disch := decide) only [same_refl, same_ite, ite_self, same_up_free_mem]
theorem same_freshBank {m' : Nat} {s' : State} {b : ℕ} {s : State} (h : m' &&& 67108866 = 67108866) : Same m' s' (freshBank b s) = Same m' s' s := Same.eqv (keep_freshBank b s) h
theorem keep_zeroBanks (s : State) : Same 67108864 s (zeroBanks s) := by unfold zeroBanks; simp (disch := decide) only [same_refl, same_ite, ite_self, same_up_mem]
theorem same_zeroBanks {m' : Nat} {s' : State} {s : State} (h : m' &&& 67108864 = 67108864) : Same m' s' (zeroBanks s) = Same m' s' s := Same.eqv (keep_zeroBanks s) h
theorem keep_memCorr (r : ℕ) (word : ℕ) (reader : ℕ) (s : State) : Same 536877056 s (memCorr r word reader s) := by unfold memCorr; simp (disch := decide) only [same_refl, same_ite, ite_self, same_count, same_perSecond, same_setFlag]
theorem same_memCorr {m' : Nat} {s' : State} {r : ℕ} {word : ℕ} {reader : ℕ} {s : State} (h : m' &&& 536877056 = 536877056) : Same m' s' (memCorr r word reader s) = Same m' s' s := Same.eqv (keep_memCorr r word reader s) h
theorem keep_memUncorr (r : ℕ) (word : ℕ) (reader : ℕ) (s : State) : Same 608212992 s (memUncorr r word reader s) := by
  unfold memUncorr
  extract_lets src1 s1 src2 s2
  have h1 : Same 608212992 s s1 := (same_up_mem (by decide)).mpr ((same_refl _ _).mpr trivial)
  clear_value s1
  have h2 : Same 608212992 s s2 := by
    simp only [s2]
    split
    · exact (same_up_flow (by decide)).mpr h1
    · exact h1
  clear_value s2
  exact (same_raiseF (by decide)).mpr ((same_count (by decide)).mpr h2)

theorem same_memUncorr {m' : Nat} {s' : State} {r : ℕ} {word : ℕ} {reader : ℕ} {s : State} (h : m' &&& 608212992 = 608212992) : Same m' s' (memUncorr r word reader s) = Same m' s' s := Same.eqv (keep_memUncorr r word reader s) h
theorem keep_memCollide (r : ℕ) (word : ℕ) (reader : ℕ) (n : ℕ) (s : State) : Same 536877056 s (memCollide r word reader n s) := by unfold memCollide; simp (disch := decide) only [same_refl, same_ite, ite_self, same_count, same_perSecond, same_setFlag]
theorem same_memCollide {m' : Nat} {s' : State} {r : ℕ} {word : ℕ} {reader : ℕ} {n : ℕ} {s : State} (h : m' &&& 536877056 = 536877056) : Same m' s' (memCollide r word reader n s) = Same m' s' s := Same.eqv (keep_memCollide r word reader n s) h
theorem keep_memWritten (r : ℕ) (word : ℕ) (s : State) : Same 67108864 s (memWritten r word s) := by unfold memWritten; simp (disch := decide) only [same_refl, same_ite, ite_self, same_up_mem]
theorem same_memWritten {m' : Nat} {s' : State} {r : ℕ} {word : ℕ} {s : State} (h : m' &&& 67108864 = 67108864) : Same m' s' (memWritten r word s) = Same m' s' s := Same.eqv (keep_memWritten r word s) h
theorem keep_bgtYield (s : State) : Same 603985920 s (bgtYield s) := by unfold bgtYield; (try simp (disch := decide) only [same_refl, same_ite, ite_self, same_up_mem, same_count, same_setFlag]); repeat' (split <;> try simp (disch := decide) only [same_refl, same_ite, ite_self, same_up_mem, same_count, same_setFlag])
theorem same_bgtYield {m' : Nat} {s' : State} {s : State} (h : m' &&& 603985920 = 603985920) : Same m' s' (bgtYield s) = Same m' s' s := Same.eqv (keep_bgtYield s) h
theorem keep_memAccess (r : ℕ) (word : ℕ) (reader : ℕ) (s : State) : Same 603985922 s (memAccess r word reader s) := by unfold memAccess; simp (disch := first | decide | (intros; (first | unfold IslSt.fencing | unfold IslSt.stepping | unfold Mgt.quiet | skip); first | rfl | (split <;> rfl)) | (intros; simp (disch := first | decide | (intros; (first | unfold IslSt.fencing | unfold IslSt.stepping | unfold Mgt.quiet | skip); first | rfl | (split <;> rfl))) only [same_refl, same_ite, ite_self, same_count, same_memCollide, same_draw, same_bgtYield, same_when])) only [same_refl, same_ite, ite_self, same_count, same_memCollide, same_draw, same_bgtYield, same_when]
theorem same_memAccess {m' : Nat} {s' : State} {r : ℕ} {word : ℕ} {reader : ℕ} {s : State} (h : m' &&& 603985922 = 603985922) : Same m' s' (memAccess r word reader s) = Same m' s' s := Same.eqv (keep_memAccess r word reader s) h
theorem keep_memRead (r : ℕ) (word : ℕ) (reader : ℕ) (s : State) : Same 608212994 s (memRead r word reader s).2 := by unfold memRead; (try simp (disch := decide) only [same_refl, same_ite, ite_self, same_memCorr, same_memUncorr, same_draw, same_memAccess]); repeat' (split <;> try simp (disch := decide) only [same_refl, same_ite, ite_self, same_memCorr, same_memUncorr, same_draw, same_memAccess])
theorem same_memRead {m' : Nat} {s' : State} {r : ℕ} {word : ℕ} {reader : ℕ} {s : State} (h : m' &&& 608212994 = 608212994) : Same m' s' (memRead r word reader s).2 = Same m' s' s := Same.eqv (keep_memRead r word reader s) h
theorem keep_memScan (r : ℕ) (reader : ℕ) (lo : ℕ) (n : ℕ) (p : ℕ → Bool) (s : State) : Same 608212994 s (memScan r reader lo n p s) := by unfold memScan; simp (disch := first | decide | (intros; (first | unfold IslSt.fencing | unfold IslSt.stepping | unfold Mgt.quiet | skip); first | rfl | (split <;> rfl)) | (intros; simp (disch := first | decide | (intros; (first | unfold IslSt.fencing | unfold IslSt.stepping | unfold Mgt.quiet | skip); first | rfl | (split <;> rfl))) only [same_refl, same_ite, ite_self, same_memRead, same_draw, same_forAll, same_memAccess, same_memUncorr])) only [same_refl, same_ite, ite_self, same_memRead, same_draw, same_forAll, same_memAccess, same_memUncorr]
theorem same_memScan {m' : Nat} {s' : State} {r : ℕ} {reader : ℕ} {lo : ℕ} {n : ℕ} {p : ℕ → Bool} {s : State} (h : m' &&& 608212994 = 608212994) : Same m' s' (memScan r reader lo n p s) = Same m' s' s := Same.eqv (keep_memScan r reader lo n p s) h
theorem keep_unitPoison (r : ℕ) (reader : ℕ) (l : List ℕ) (a3 : ℕ) (s : State) : Same 608212994 s (unitPoison r reader l a3 s).2 := by
  induction a3 generalizing s with
  | zero => exact (same_refl _ _).mpr trivial
  | succ n ih =>
    unfold unitPoison
    exact Same.trans ((same_memRead (by decide)).mpr ((same_draw (by decide)).mpr ((same_refl _ _).mpr trivial))) (ih _)

theorem same_unitPoison {m' : Nat} {s' : State} {r : ℕ} {reader : ℕ} {l : List ℕ} {a3 : ℕ} {s : State} (h : m' &&& 608212994 = 608212994) : Same m' s' (unitPoison r reader l a3 s).2 = Same m' s' s := Same.eqv (keep_unitPoison r reader l a3 s) h
theorem keep_unitPoisonFar (r : ℕ) (a1 : ℕ) (s : State) : Same 608212994 s (unitPoisonFar r a1 s).2 := by
  induction a1 generalizing s with
  | zero => exact (same_refl _ _).mpr trivial
  | succ n ih =>
    unfold unitPoisonFar
    exact Same.trans ((same_memRead (by decide)).mpr ((same_draw (by decide)).mpr ((same_refl _ _).mpr trivial))) (ih _)

theorem same_unitPoisonFar {m' : Nat} {s' : State} {r : ℕ} {a1 : ℕ} {s : State} (h : m' &&& 608212994 = 608212994) : Same m' s' (unitPoisonFar r a1 s).2 = Same m' s' s := Same.eqv (keep_unitPoisonFar r a1 s) h
theorem keep_farWritten (r : ℕ) (s : State) : Same 67108866 s (farWritten r s) := by unfold farWritten; (try dsimp only); repeat' (first | with_reducible exact (same_refl _ _).mpr trivial | refine (same_memWritten (by decide)).mpr ?_ | refine (same_draw (by decide)).mpr ?_ | refine (same_when (fun _ => ?_)).mpr ?_ | refine (same_forAll (fun _ _ => ?_)).mpr ?_ | split)
theorem same_farWritten {m' : Nat} {s' : State} {r : ℕ} {s : State} (h : m' &&& 67108866 = 67108866) : Same m' s' (farWritten r s) = Same m' s' s := Same.eqv (keep_farWritten r s) h
theorem keep_bufWritten (r : ℕ) (l : List ℕ) (s : State) : Same 603985922 s (bufWritten r l s) := by unfold bufWritten; (try dsimp only); repeat' (first | with_reducible exact (same_refl _ _).mpr trivial | refine (same_memWritten (by decide)).mpr ?_ | refine (same_draw (by decide)).mpr ?_ | refine (same_bgtYield (by decide)).mpr ?_ | refine (same_freshBank (by decide)).mpr ?_ | refine (same_when (fun _ => ?_)).mpr ?_ | refine (same_forAll (fun _ _ => ?_)).mpr ?_ | split)
theorem same_bufWritten {m' : Nat} {s' : State} {r : ℕ} {l : List ℕ} {s : State} (h : m' &&& 603985922 = 603985922) : Same m' s' (bufWritten r l s) = Same m' s' s := Same.eqv (keep_bufWritten r l s) h

end Sys2Proof.Machine
end

