-- ==== Sys2Proof/Laws/FrameReset.lean ====
section
/-! SUPPORT. Which parts of the state each function of Machine/Reset.lean leaves alone, as the bit mask of the others. -/

namespace Sys2Proof.Machine

set_option linter.unusedSimpArgs false
set_option linter.unusedTactic false
set_option linter.unreachableTactic false

theorem keep_appendRecord (r : EvtRec) (s : State) : Same 17381195776 s (appendRecord r s) := by unfold appendRecord; simp (disch := decide) only [same_refl, same_ite, ite_self, same_up_mem_mgt]
theorem same_appendRecord {m' : Nat} {s' : State} {r : EvtRec} {s : State} (h : m' &&& 17381195776 = 17381195776) : Same m' s' (appendRecord r s) = Same m' s' s := Same.eqv (keep_appendRecord r s) h
theorem keep_appendHead (i : Isl) (s : State) : Same 17381228544 s (appendHead i s) := by unfold appendHead; (try simp (disch := first | decide | (intros; (first | unfold IslSt.fencing | unfold IslSt.stepping | unfold Mgt.quiet | skip); first | rfl | (split <;> rfl)) | (intros; simp (disch := first | decide | (intros; (first | unfold IslSt.fencing | unfold IslSt.stepping | unfold Mgt.quiet | skip); first | rfl | (split <;> rfl))) only [same_refl, same_ite, ite_self, same_appendRecord, same_modIsl_all, same_modIsl_fences, same_modIsl_steps, same_modIsl_incarn, same_modIsl])) only [same_refl, same_ite, ite_self, same_appendRecord, same_modIsl_all, same_modIsl_fences, same_modIsl_steps, same_modIsl_incarn, same_modIsl]); repeat' (split <;> try simp (disch := first | decide | (intros; (first | unfold IslSt.fencing | unfold IslSt.stepping | unfold Mgt.quiet | skip); first | rfl | (split <;> rfl)) | (intros; simp (disch := first | decide | (intros; (first | unfold IslSt.fencing | unfold IslSt.stepping | unfold Mgt.quiet | skip); first | rfl | (split <;> rfl))) only [same_refl, same_ite, ite_self, same_appendRecord, same_modIsl_all, same_modIsl_fences, same_modIsl_steps, same_modIsl_incarn, same_modIsl])) only [same_refl, same_ite, ite_self, same_appendRecord, same_modIsl_all, same_modIsl_fences, same_modIsl_steps, same_modIsl_incarn, same_modIsl])
theorem same_appendHead {m' : Nat} {s' : State} {i : Isl} {s : State} (h : m' &&& 17381228544 = 17381228544) : Same m' s' (appendHead i s) = Same m' s' s := Same.eqv (keep_appendHead i s) h
theorem keep_appendAll (s : State) : Same 17381228544 s (appendAll s) := by unfold appendAll; (try simp (disch := first | decide | (intros; (first | unfold IslSt.fencing | unfold IslSt.stepping | unfold Mgt.quiet | skip); first | rfl | (split <;> rfl)) | (intros; (try simp (disch := first | decide | (intros; (first | unfold IslSt.fencing | unfold IslSt.stepping | unfold Mgt.quiet | skip); first | rfl | (split <;> rfl)) | (intros; simp (disch := first | decide | (intros; (first | unfold IslSt.fencing | unfold IslSt.stepping | unfold Mgt.quiet | skip); first | rfl | (split <;> rfl))) only [same_refl, same_ite, ite_self, same_forAll, same_appendRecord, same_modIsl_all, same_modIsl_fences, same_modIsl_steps, same_modIsl_incarn, same_modIsl])) only [same_refl, same_ite, ite_self, same_forAll, same_appendRecord, same_modIsl_all, same_modIsl_fences, same_modIsl_steps, same_modIsl_incarn, same_modIsl]); repeat' (split <;> try simp (disch := first | decide | (intros; (first | unfold IslSt.fencing | unfold IslSt.stepping | unfold Mgt.quiet | skip); first | rfl | (split <;> rfl)) | (intros; simp (disch := first | decide | (intros; (first | unfold IslSt.fencing | unfold IslSt.stepping | unfold Mgt.quiet | skip); first | rfl | (split <;> rfl))) only [same_refl, same_ite, ite_self, same_forAll, same_appendRecord, same_modIsl_all, same_modIsl_fences, same_modIsl_steps, same_modIsl_incarn, same_modIsl])) only [same_refl, same_ite, ite_self, same_forAll, same_appendRecord, same_modIsl_all, same_modIsl_fences, same_modIsl_steps, same_modIsl_incarn, same_modIsl]); done)) only [same_refl, same_ite, ite_self, same_forAll, same_appendRecord, same_modIsl_all, same_modIsl_fences, same_modIsl_steps, same_modIsl_incarn, same_modIsl]); repeat' (split <;> try simp (disch := first | decide | (intros; (first | unfold IslSt.fencing | unfold IslSt.stepping | unfold Mgt.quiet | skip); first | rfl | (split <;> rfl)) | (intros; (try simp (disch := first | decide | (intros; (first | unfold IslSt.fencing | unfold IslSt.stepping | unfold Mgt.quiet | skip); first | rfl | (split <;> rfl)) | (intros; simp (disch := first | decide | (intros; (first | unfold IslSt.fencing | unfold IslSt.stepping | unfold Mgt.quiet | skip); first | rfl | (split <;> rfl))) only [same_refl, same_ite, ite_self, same_forAll, same_appendRecord, same_modIsl_all, same_modIsl_fences, same_modIsl_steps, same_modIsl_incarn, same_modIsl])) only [same_refl, same_ite, ite_self, same_forAll, same_appendRecord, same_modIsl_all, same_modIsl_fences, same_modIsl_steps, same_modIsl_incarn, same_modIsl]); repeat' (split <;> try simp (disch := first | decide | (intros; (first | unfold IslSt.fencing | unfold IslSt.stepping | unfold Mgt.quiet | skip); first | rfl | (split <;> rfl)) | (intros; simp (disch := first | decide | (intros; (first | unfold IslSt.fencing | unfold IslSt.stepping | unfold Mgt.quiet | skip); first | rfl | (split <;> rfl))) only [same_refl, same_ite, ite_self, same_forAll, same_appendRecord, same_modIsl_all, same_modIsl_fences, same_modIsl_steps, same_modIsl_incarn, same_modIsl])) only [same_refl, same_ite, ite_self, same_forAll, same_appendRecord, same_modIsl_all, same_modIsl_fences, same_modIsl_steps, same_modIsl_incarn, same_modIsl]); done)) only [same_refl, same_ite, ite_self, same_forAll, same_appendRecord, same_modIsl_all, same_modIsl_fences, same_modIsl_steps, same_modIsl_incarn, same_modIsl])
theorem same_appendAll {m' : Nat} {s' : State} {s : State} (h : m' &&& 17381228544 = 17381228544) : Same m' s' (appendAll s) = Same m' s' s := Same.eqv (keep_appendAll s) h
theorem keep_ringReads (s : State) : Same 608212994 s (ringReads s) := by unfold ringReads; simp (disch := decide) only [same_refl, same_ite, ite_self, same_memScan]
theorem same_ringReads {m' : Nat} {s' : State} {s : State} (h : m' &&& 608212994 = 608212994) : Same m' s' (ringReads s) = Same m' s' s := Same.eqv (keep_ringReads s) h
theorem keep_saveRecords (s : State) : Same 608213250 s (saveRecords s) := by unfold saveRecords; simp (disch := decide) only [same_refl, same_ite, ite_self, same_up_flash, same_ringReads]
theorem same_saveRecords {m' : Nat} {s' : State} {s : State} (h : m' &&& 608213250 = 608213250) : Same m' s' (saveRecords s) = Same m' s' s := Same.eqv (keep_saveRecords s) h
theorem keep_writeRec (kind : ℕ) (suite : ℕ) (overall : ℕ) (entries : List TestEntry) (dur : ℕ) (peak : ℕ) (s : State) : Same 256 s (writeRec kind suite overall entries dur peak s) := by unfold writeRec; simp (disch := decide) only [same_refl, same_ite, ite_self, same_up_flash]
theorem same_writeRec {m' : Nat} {s' : State} {kind : ℕ} {suite : ℕ} {overall : ℕ} {entries : List TestEntry} {dur : ℕ} {peak : ℕ} {s : State} (h : m' &&& 256 = 256) : Same m' s' (writeRec kind suite overall entries dur peak s) = Same m' s' s := Same.eqv (keep_writeRec kind suite overall entries dur peak s) h
theorem keep_suitePeak (s : State) : Same 1073741826 s (suitePeak s) := by unfold suitePeak; simp (disch := decide) only [same_refl, same_ite, ite_self, same_up_bist, same_draw]
theorem same_suitePeak {m' : Nat} {s' : State} {s : State} (h : m' &&& 1073741826 = 1073741826) : Same m' s' (suitePeak s) = Same m' s' s := Same.eqv (keep_suitePeak s) h
theorem keep_closeSuite (s : State) : Same 1073741826 s (closeSuite s) := by unfold closeSuite; simp (disch := decide) only [same_refl, same_ite, ite_self, same_up_bist, same_suitePeak]
theorem same_closeSuite {m' : Nat} {s' : State} {s : State} (h : m' &&& 1073741826 = 1073741826) : Same m' s' (closeSuite s) = Same m' s' s := Same.eqv (keep_closeSuite s) h
theorem keep_keep (s : State) : Same 68719476600 s (keep s) := by
  intro p hp; cases p <;> first | rfl | (intro; rfl) | exact ⟨rfl, rfl⟩ | (exfalso; revert hp; decide)

theorem same_keep {m' : Nat} {s' s : State} (h : m' &&& 68719476600 = 68719476600) : Same m' s' (keep s) = Same m' s' s := Same.eqv (keep_keep s) h
theorem keep_powerOff (s : State) : Same 68719476600 s (powerOff s) := by unfold powerOff; simp (disch := decide) only [same_refl, same_ite, ite_self, same_keep]
theorem same_powerOff {m' : Nat} {s' : State} {s : State} (h : m' &&& 68719476600 = 68719476600) : Same m' s' (powerOff s) = Same m' s' s := Same.eqv (keep_powerOff s) h
theorem keep_keepPowered (run : RunState) (s : State) : Same 68719476600 s (keepPowered run s) := by unfold keepPowered; simp (disch := decide) only [same_refl, same_ite, ite_self, same_up_pwr_clk_flags_rsc, same_keep]
theorem same_keepPowered {m' : Nat} {s' : State} {run : RunState} {s : State} (h : m' &&& 68719476600 = 68719476600) : Same m' s' (keepPowered run s) = Same m' s' s := Same.eqv (keep_keepPowered run s) h
theorem keep_blowOpen (want : BitVec 8) (s : State) : Same 130 s (blowOpen want s) := by unfold blowOpen; simp (disch := decide) only [same_refl, same_ite, ite_self, same_up_fuse, same_draw]
theorem same_blowOpen {m' : Nat} {s' : State} {want : BitVec 8} {s : State} (h : m' &&& 130 = 130) : Same m' s' (blowOpen want s) = Same m' s' s := Same.eqv (keep_blowOpen want s) h
theorem keep_beginStart (s : State) : Same 18387829328 s (beginStart s) := by unfold beginStart; simp (disch := decide) only [same_refl, same_ite, ite_self, same_up_pwr_clk_boot_mgt_bist]
theorem same_beginStart {m' : Nat} {s' : State} {s : State} (h : m' &&& 18387829328 = 18387829328) : Same m' s' (beginStart s) = Same m' s' s := Same.eqv (keep_beginStart s) h
theorem keep_restart (s : State) : Same 68719476600 s (restart s) := by unfold restart; simp (disch := decide) only [same_refl, same_ite, ite_self, same_keepPowered, same_beginStart]
theorem same_restart {m' : Nat} {s' : State} {s : State} (h : m' &&& 68719476600 = 68719476600) : Same m' s' (restart s) = Same m' s' s := Same.eqv (keep_restart s) h
theorem keep_stopSchedulers (s : State) : Same 196608 s (stopSchedulers s) := by unfold stopSchedulers; simp (disch := first | decide | (intros; (first | unfold IslSt.fencing | unfold IslSt.stepping | unfold Mgt.quiet | skip); first | rfl | (split <;> rfl)) | (intros; simp (disch := first | decide | (intros; (first | unfold IslSt.fencing | unfold IslSt.stepping | unfold Mgt.quiet | skip); first | rfl | (split <;> rfl))) only [same_refl, same_ite, ite_self, same_forAll, same_modEng_st, same_modEng])) only [same_refl, same_ite, ite_self, same_forAll, same_modEng_st, same_modEng]
theorem same_stopSchedulers {m' : Nat} {s' : State} {s : State} (h : m' &&& 196608 = 196608) : Same m' s' (stopSchedulers s) = Same m' s' s := Same.eqv (keep_stopSchedulers s) h
theorem keep_darken (s : State) : Same 16973824 s (darken s) := by unfold darken; simp (disch := first | decide | (intros; (first | unfold IslSt.fencing | unfold IslSt.stepping | unfold Mgt.quiet | skip); first | rfl | (split <;> rfl)) | (intros; simp (disch := first | decide | (intros; (first | unfold IslSt.fencing | unfold IslSt.stepping | unfold Mgt.quiet | skip); first | rfl | (split <;> rfl))) only [same_refl, same_ite, ite_self, same_up_cln, same_forAll, same_modDown])) only [same_refl, same_ite, ite_self, same_up_cln, same_forAll, same_modDown]
theorem same_darken {m' : Nat} {s' : State} {s : State} (h : m' &&& 16973824 = 16973824) : Same m' s' (darken s) = Same m' s' s := Same.eqv (keep_darken s) h
theorem keep_dramOff (s : State) : Same 17655923200 s (dramOff s) := by unfold dramOff; simp (disch := decide) only [same_refl, same_ite, ite_self, same_up_boot_ctrs_flow_mem_mgt_upd]
theorem same_dramOff {m' : Nat} {s' : State} {s : State} (h : m' &&& 17655923200 = 17655923200) : Same m' s' (dramOff s) = Same m' s' s := Same.eqv (keep_dramOff s) h

end Sys2Proof.Machine
end

