-- ==== Sys2Proof/Laws/FrameAccess.lean ====
section
/-! SUPPORT. Which parts of the state each function of Machine/Access.lean leaves alone, as the bit mask of the others. -/

namespace Sys2Proof.Machine

set_option linter.unusedSimpArgs false
set_option linter.unusedTactic false
set_option linter.unreachableTactic false



end Sys2Proof.Machine
end

