-- ==== Sys2Proof/Laws/FrameDownGroups.lean ====
section
/-! SUPPORT. Which parts of the state each function of Machine/DownGroups.lean leaves alone, as the bit mask of the others. -/

namespace Sys2Proof.Machine

set_option linter.unusedSimpArgs false
set_option linter.unusedTactic false
set_option linter.unreachableTactic false

theorem keep_setStream (e : Eng) (g : ℕ) (x : ℕ → ScSt) (s : State) : Same 196608 s (setStream e g x s) := by unfold setStream; simp (disch := decide) only [same_refl, same_ite, ite_self, same_modDown]
theorem same_setStream {m' : Nat} {s' : State} {e : Eng} {g : ℕ} {x : ℕ → ScSt} {s : State} (h : m' &&& 196608 = 196608) : Same m' s' (setStream e g x s) = Same m' s' s := Same.eqv (keep_setStream e g x s) h
theorem keep_startStream (e : Eng) (g : ℕ) (s : State) : Same 196608 s (startStream e g s) := by unfold startStream; simp (disch := decide) only [same_refl, same_ite, ite_self, same_setStream]
theorem same_startStream {m' : Nat} {s' : State} {e : Eng} {g : ℕ} {s : State} (h : m' &&& 196608 = 196608) : Same m' s' (startStream e g s) = Same m' s' s := Same.eqv (keep_startStream e g s) h
theorem keep_endStream (e : Eng) (g : ℕ) (s : State) : Same 196608 s (endStream e g s) := by unfold endStream; simp (disch := decide) only [same_refl, same_ite, ite_self, same_setStream]
theorem same_endStream {m' : Nat} {s' : State} {e : Eng} {g : ℕ} {s : State} (h : m' &&& 196608 = 196608) : Same m' s' (endStream e g s) = Same m' s' s := Same.eqv (keep_endStream e g s) h
theorem keep_rampGrp (e : Eng) (g : ℕ) (st : GrpState) (x : Env) (s : State) : Same 196608 s (rampGrp e g st x s) := by unfold rampGrp; simp (disch := decide) only [same_refl, same_ite, ite_self, same_setGrp]
theorem same_rampGrp {m' : Nat} {s' : State} {e : Eng} {g : ℕ} {st : GrpState} {x : Env} {s : State} (h : m' &&& 196608 = 196608) : Same m' s' (rampGrp e g st x s) = Same m' s' s := Same.eqv (keep_rampGrp e g st x s) h
theorem keep_setGrpSt (e : Eng) (g : ℕ) (st : GrpState) (s : State) : Same 196608 s (setGrpSt e g st s) := by unfold setGrpSt; simp (disch := decide) only [same_refl, same_ite, ite_self, same_rampGrp]
theorem same_setGrpSt {m' : Nat} {s' : State} {e : Eng} {g : ℕ} {st : GrpState} {s : State} (h : m' &&& 196608 = 196608) : Same m' s' (setGrpSt e g st s) = Same m' s' s := Same.eqv (keep_setGrpSt e g st s) h
theorem keep_grpOn (e : Eng) (g : ℕ) (s : State) : Same 196608 s (grpOn e g s) := by unfold grpOn; (try simp (disch := first | decide | (intros; (first | unfold IslSt.fencing | unfold IslSt.stepping | unfold Mgt.quiet | skip); first | rfl | (split <;> rfl)) | (intros; simp (disch := first | decide | (intros; (first | unfold IslSt.fencing | unfold IslSt.stepping | unfold Mgt.quiet | skip); first | rfl | (split <;> rfl))) only [same_refl, same_ite, ite_self, same_rampGrp, same_when, same_setGrpSt])) only [same_refl, same_ite, ite_self, same_rampGrp, same_when, same_setGrpSt]); repeat' (split <;> try simp (disch := first | decide | (intros; (first | unfold IslSt.fencing | unfold IslSt.stepping | unfold Mgt.quiet | skip); first | rfl | (split <;> rfl)) | (intros; simp (disch := first | decide | (intros; (first | unfold IslSt.fencing | unfold IslSt.stepping | unfold Mgt.quiet | skip); first | rfl | (split <;> rfl))) only [same_refl, same_ite, ite_self, same_rampGrp, same_when, same_setGrpSt])) only [same_refl, same_ite, ite_self, same_rampGrp, same_when, same_setGrpSt])
theorem same_grpOn {m' : Nat} {s' : State} {e : Eng} {g : ℕ} {s : State} (h : m' &&& 196608 = 196608) : Same m' s' (grpOn e g s) = Same m' s' s := Same.eqv (keep_grpOn e g s) h
theorem keep_grpDim (e : Eng) (g : ℕ) (dur : ℕ) (s : State) : Same 196608 s (grpDim e g dur s) := by unfold grpDim; (try simp (disch := decide) only [same_refl, same_ite, ite_self, same_endStream, same_rampGrp, same_setGrpSt]); repeat' (split <;> try simp (disch := decide) only [same_refl, same_ite, ite_self, same_endStream, same_rampGrp, same_setGrpSt])
theorem same_grpDim {m' : Nat} {s' : State} {e : Eng} {g : ℕ} {dur : ℕ} {s : State} (h : m' &&& 196608 = 196608) : Same m' s' (grpDim e g dur s) = Same m' s' s := Same.eqv (keep_grpDim e g dur s) h
theorem keep_grpOff (e : Eng) (g : ℕ) (s : State) : Same 196608 s (grpOff e g s) := by unfold grpOff; (try simp (disch := first | decide | (intros; (first | unfold IslSt.fencing | unfold IslSt.stepping | unfold Mgt.quiet | skip); first | rfl | (split <;> rfl)) | (intros; simp (disch := first | decide | (intros; (first | unfold IslSt.fencing | unfold IslSt.stepping | unfold Mgt.quiet | skip); first | rfl | (split <;> rfl))) only [same_refl, same_ite, ite_self, same_grpDim, same_when])) only [same_refl, same_ite, ite_self, same_grpDim, same_when]); repeat' (split <;> try simp (disch := first | decide | (intros; (first | unfold IslSt.fencing | unfold IslSt.stepping | unfold Mgt.quiet | skip); first | rfl | (split <;> rfl)) | (intros; simp (disch := first | decide | (intros; (first | unfold IslSt.fencing | unfold IslSt.stepping | unfold Mgt.quiet | skip); first | rfl | (split <;> rfl))) only [same_refl, same_ite, ite_self, same_grpDim, same_when])) only [same_refl, same_ite, ite_self, same_grpDim, same_when])
theorem same_grpOff {m' : Nat} {s' : State} {e : Eng} {g : ℕ} {s : State} (h : m' &&& 196608 = 196608) : Same m' s' (grpOff e g s) = Same m' s' s := Same.eqv (keep_grpOff e g s) h
theorem keep_grpEnApply (e : Eng) (v : W32) (s : State) : Same 197632 s (grpEnApply e v s) := by unfold grpEnApply; simp (disch := first | decide | (intros; (first | unfold IslSt.fencing | unfold IslSt.stepping | unfold Mgt.quiet | skip); first | rfl | (split <;> rfl)) | (intros; simp (disch := first | decide | (intros; (first | unfold IslSt.fencing | unfold IslSt.stepping | unfold Mgt.quiet | skip); first | rfl | (split <;> rfl))) only [same_refl, same_ite, ite_self, same_forAll, same_grpOff, same_grpOn, same_setReg])) only [same_refl, same_ite, ite_self, same_forAll, same_grpOff, same_grpOn, same_setReg]
theorem same_grpEnApply {m' : Nat} {s' : State} {e : Eng} {v : W32} {s : State} (h : m' &&& 197632 = 197632) : Same m' s' (grpEnApply e v s) = Same m' s' s := Same.eqv (keep_grpEnApply e v s) h
theorem keep_writeGrpEn (e : Eng) (v : W32) (s : State) : Same 197632 s (writeGrpEn e v s).1 := by unfold writeGrpEn; (try simp (disch := first | decide | (intros; (first | unfold IslSt.fencing | unfold IslSt.stepping | unfold Mgt.quiet | skip); first | rfl | (split <;> rfl)) | (intros; (try simp (disch := first | decide | (intros; (first | unfold IslSt.fencing | unfold IslSt.stepping | unfold Mgt.quiet | skip); first | rfl | (split <;> rfl)) | (intros; simp (disch := first | decide | (intros; (first | unfold IslSt.fencing | unfold IslSt.stepping | unfold Mgt.quiet | skip); first | rfl | (split <;> rfl))) only [same_refl, same_ite, ite_self, same_refuseOr, same_forAll, same_grpEnApply])) only [same_refl, same_ite, ite_self, same_refuseOr, same_forAll, same_grpEnApply]); repeat' (split <;> try simp (disch := first | decide | (intros; (first | unfold IslSt.fencing | unfold IslSt.stepping | unfold Mgt.quiet | skip); first | rfl | (split <;> rfl)) | (intros; simp (disch := first | decide | (intros; (first | unfold IslSt.fencing | unfold IslSt.stepping | unfold Mgt.quiet | skip); first | rfl | (split <;> rfl))) only [same_refl, same_ite, ite_self, same_refuseOr, same_forAll, same_grpEnApply])) only [same_refl, same_ite, ite_self, same_refuseOr, same_forAll, same_grpEnApply]); done)) only [same_refl, same_ite, ite_self, same_refuseOr, same_forAll, same_grpEnApply]); repeat' (split <;> try simp (disch := first | decide | (intros; (first | unfold IslSt.fencing | unfold IslSt.stepping | unfold Mgt.quiet | skip); first | rfl | (split <;> rfl)) | (intros; (try simp (disch := first | decide | (intros; (first | unfold IslSt.fencing | unfold IslSt.stepping | unfold Mgt.quiet | skip); first | rfl | (split <;> rfl)) | (intros; simp (disch := first | decide | (intros; (first | unfold IslSt.fencing | unfold IslSt.stepping | unfold Mgt.quiet | skip); first | rfl | (split <;> rfl))) only [same_refl, same_ite, ite_self, same_refuseOr, same_forAll, same_grpEnApply])) only [same_refl, same_ite, ite_self, same_refuseOr, same_forAll, same_grpEnApply]); repeat' (split <;> try simp (disch := first | decide | (intros; (first | unfold IslSt.fencing | unfold IslSt.stepping | unfold Mgt.quiet | skip); first | rfl | (split <;> rfl)) | (intros; simp (disch := first | decide | (intros; (first | unfold IslSt.fencing | unfold IslSt.stepping | unfold Mgt.quiet | skip); first | rfl | (split <;> rfl))) only [same_refl, same_ite, ite_self, same_refuseOr, same_forAll, same_grpEnApply])) only [same_refl, same_ite, ite_self, same_refuseOr, same_forAll, same_grpEnApply]); done)) only [same_refl, same_ite, ite_self, same_refuseOr, same_forAll, same_grpEnApply])
theorem same_writeGrpEn {m' : Nat} {s' : State} {e : Eng} {v : W32} {s : State} (h : m' &&& 197632 = 197632) : Same m' s' (writeGrpEn e v s).1 = Same m' s' s := Same.eqv (keep_writeGrpEn e v s) h
theorem keep_writeGrpFmt (e : Eng) (v : W32) (s : State) : Same 1024 s (writeGrpFmt e v s).1 := by unfold writeGrpFmt; (try simp (disch := first | decide | (intros; (first | unfold IslSt.fencing | unfold IslSt.stepping | unfold Mgt.quiet | skip); first | rfl | (split <;> rfl)) | (intros; (try simp (disch := first | decide | (intros; (first | unfold IslSt.fencing | unfold IslSt.stepping | unfold Mgt.quiet | skip); first | rfl | (split <;> rfl)) | (intros; simp (disch := first | decide | (intros; (first | unfold IslSt.fencing | unfold IslSt.stepping | unfold Mgt.quiet | skip); first | rfl | (split <;> rfl))) only [same_refl, same_ite, ite_self, same_refuseOr, same_forAll, same_setReg])) only [same_refl, same_ite, ite_self, same_refuseOr, same_forAll, same_setReg]); repeat' (split <;> try simp (disch := first | decide | (intros; (first | unfold IslSt.fencing | unfold IslSt.stepping | unfold Mgt.quiet | skip); first | rfl | (split <;> rfl)) | (intros; simp (disch := first | decide | (intros; (first | unfold IslSt.fencing | unfold IslSt.stepping | unfold Mgt.quiet | skip); first | rfl | (split <;> rfl))) only [same_refl, same_ite, ite_self, same_refuseOr, same_forAll, same_setReg])) only [same_refl, same_ite, ite_self, same_refuseOr, same_forAll, same_setReg]); done)) only [same_refl, same_ite, ite_self, same_refuseOr, same_forAll, same_setReg]); repeat' (split <;> try simp (disch := first | decide | (intros; (first | unfold IslSt.fencing | unfold IslSt.stepping | unfold Mgt.quiet | skip); first | rfl | (split <;> rfl)) | (intros; (try simp (disch := first | decide | (intros; (first | unfold IslSt.fencing | unfold IslSt.stepping | unfold Mgt.quiet | skip); first | rfl | (split <;> rfl)) | (intros; simp (disch := first | decide | (intros; (first | unfold IslSt.fencing | unfold IslSt.stepping | unfold Mgt.quiet | skip); first | rfl | (split <;> rfl))) only [same_refl, same_ite, ite_self, same_refuseOr, same_forAll, same_setReg])) only [same_refl, same_ite, ite_self, same_refuseOr, same_forAll, same_setReg]); repeat' (split <;> try simp (disch := first | decide | (intros; (first | unfold IslSt.fencing | unfold IslSt.stepping | unfold Mgt.quiet | skip); first | rfl | (split <;> rfl)) | (intros; simp (disch := first | decide | (intros; (first | unfold IslSt.fencing | unfold IslSt.stepping | unfold Mgt.quiet | skip); first | rfl | (split <;> rfl))) only [same_refl, same_ite, ite_self, same_refuseOr, same_forAll, same_setReg])) only [same_refl, same_ite, ite_self, same_refuseOr, same_forAll, same_setReg]); done)) only [same_refl, same_ite, ite_self, same_refuseOr, same_forAll, same_setReg])
theorem same_writeGrpFmt {m' : Nat} {s' : State} {e : Eng} {v : W32} {s : State} (h : m' &&& 1024 = 1024) : Same m' s' (writeGrpFmt e v s).1 = Same m' s' s := Same.eqv (keep_writeGrpFmt e v s) h
theorem keep_execGroupRampOnStart (e : Eng) (g : Grp) (s : State) {t' : State} (h : execGroupRampOnStart e g s = .next t') : Same 196608 s t' := by unfold execGroupRampOnStart at h; (try simp only [act, actF] at h); cases h; simp (disch := decide) only [same_refl, same_ite, ite_self, same_rampGrp, same_startStream]
theorem keep_execGroupEnvelopeFull (e : Eng) (g : Grp) (s : State) {t' : State} (h : execGroupEnvelopeFull e g s = .next t') : Same 196608 s t' := by unfold execGroupEnvelopeFull at h; (try simp only [act, actF] at h); cases h; simp (disch := decide) only [same_refl, same_ite, ite_self, same_setGrp]
theorem keep_execDsGroupOn (e : Eng) (g : Grp) (s : State) {t' : State} (h : execDsGroupOn e g s = .next t') : Same 235520 s t' := by unfold execDsGroupOn at h; (try simp only [act, actF] at h); cases h; simp (disch := decide) only [same_refl, same_ite, ite_self, same_raiseF, same_setGrpSt]
theorem keep_grpDark (e : Eng) (g : ℕ) (s : State) : Same 235520 s (grpDark e g s) := by unfold grpDark; simp (disch := decide) only [same_refl, same_ite, ite_self, same_setGrp, same_endStream, same_raiseF]
theorem same_grpDark {m' : Nat} {s' : State} {e : Eng} {g : ℕ} {s : State} (h : m' &&& 235520 = 235520) : Same m' s' (grpDark e g s) = Same m' s' s := Same.eqv (keep_grpDark e g s) h
theorem keep_laserOff (e : Eng) (s : State) : Same 196608 s (laserOff e s) := by unfold laserOff; simp (disch := first | decide | (intros; (first | unfold IslSt.fencing | unfold IslSt.stepping | unfold Mgt.quiet | skip); first | rfl | (split <;> rfl)) | (intros; simp (disch := first | decide | (intros; (first | unfold IslSt.fencing | unfold IslSt.stepping | unfold Mgt.quiet | skip); first | rfl | (split <;> rfl))) only [same_refl, same_ite, ite_self, same_modDown, same_grpDim, same_forAll])) only [same_refl, same_ite, ite_self, same_modDown, same_grpDim, same_forAll]
theorem same_laserOff {m' : Nat} {s' : State} {e : Eng} {s : State} (h : m' &&& 196608 = 196608) : Same m' s' (laserOff e s) = Same m' s' s := Same.eqv (keep_laserOff e s) h
theorem keep_execDsGroupOff (e : Eng) (g : Grp) (s : State) {t' : State} (h : execDsGroupOff e g s = .next t') : Same 235520 s t' := by unfold execDsGroupOff at h; (try simp only [act, actF] at h); cases h; simp (disch := decide) only [same_refl, same_ite, ite_self, same_laserOff, same_grpDark]
theorem keep_execLaserRampOnStart (e : Eng) (s : State) {t' : State} (h : execLaserRampOnStart e s = .next t') : Same 196608 s t' := by unfold execLaserRampOnStart at h; (try simp only [act, actF] at h); cases h; simp (disch := first | decide | (intros; (first | unfold IslSt.fencing | unfold IslSt.stepping | unfold Mgt.quiet | skip); first | rfl | (split <;> rfl)) | (intros; simp (disch := first | decide | (intros; (first | unfold IslSt.fencing | unfold IslSt.stepping | unfold Mgt.quiet | skip); first | rfl | (split <;> rfl))) only [same_refl, same_ite, ite_self, same_modDown, same_rampGrp, same_startStream, same_forAll])) only [same_refl, same_ite, ite_self, same_modDown, same_rampGrp, same_startStream, same_forAll]
theorem keep_execDsLaserOn (e : Eng) (s : State) {t' : State} (h : execDsLaserOn e s = .next t') : Same 235520 s t' := by unfold execDsLaserOn at h; (try simp only [act, actF] at h); cases h; (try simp (disch := first | decide | (intros; (first | unfold IslSt.fencing | unfold IslSt.stepping | unfold Mgt.quiet | skip); first | rfl | (split <;> rfl)) | (intros; (try simp (disch := first | decide | (intros; (first | unfold IslSt.fencing | unfold IslSt.stepping | unfold Mgt.quiet | skip); first | rfl | (split <;> rfl)) | (intros; simp (disch := first | decide | (intros; (first | unfold IslSt.fencing | unfold IslSt.stepping | unfold Mgt.quiet | skip); first | rfl | (split <;> rfl))) only [same_refl, same_ite, ite_self, same_modDown, same_forAll, same_setGrp, same_when, same_grpOn, same_raiseF])) only [same_refl, same_ite, ite_self, same_modDown, same_forAll, same_setGrp, same_when, same_grpOn, same_raiseF]); repeat' (split <;> try simp (disch := first | decide | (intros; (first | unfold IslSt.fencing | unfold IslSt.stepping | unfold Mgt.quiet | skip); first | rfl | (split <;> rfl)) | (intros; simp (disch := first | decide | (intros; (first | unfold IslSt.fencing | unfold IslSt.stepping | unfold Mgt.quiet | skip); first | rfl | (split <;> rfl))) only [same_refl, same_ite, ite_self, same_modDown, same_forAll, same_setGrp, same_when, same_grpOn, same_raiseF])) only [same_refl, same_ite, ite_self, same_modDown, same_forAll, same_setGrp, same_when, same_grpOn, same_raiseF]); done)) only [same_refl, same_ite, ite_self, same_modDown, same_forAll, same_setGrp, same_when, same_grpOn, same_raiseF]); repeat' (split <;> try simp (disch := first | decide | (intros; (first | unfold IslSt.fencing | unfold IslSt.stepping | unfold Mgt.quiet | skip); first | rfl | (split <;> rfl)) | (intros; (try simp (disch := first | decide | (intros; (first | unfold IslSt.fencing | unfold IslSt.stepping | unfold Mgt.quiet | skip); first | rfl | (split <;> rfl)) | (intros; simp (disch := first | decide | (intros; (first | unfold IslSt.fencing | unfold IslSt.stepping | unfold Mgt.quiet | skip); first | rfl | (split <;> rfl))) only [same_refl, same_ite, ite_self, same_modDown, same_forAll, same_setGrp, same_when, same_grpOn, same_raiseF])) only [same_refl, same_ite, ite_self, same_modDown, same_forAll, same_setGrp, same_when, same_grpOn, same_raiseF]); repeat' (split <;> try simp (disch := first | decide | (intros; (first | unfold IslSt.fencing | unfold IslSt.stepping | unfold Mgt.quiet | skip); first | rfl | (split <;> rfl)) | (intros; simp (disch := first | decide | (intros; (first | unfold IslSt.fencing | unfold IslSt.stepping | unfold Mgt.quiet | skip); first | rfl | (split <;> rfl))) only [same_refl, same_ite, ite_self, same_modDown, same_forAll, same_setGrp, same_when, same_grpOn, same_raiseF])) only [same_refl, same_ite, ite_self, same_modDown, same_forAll, same_setGrp, same_when, same_grpOn, same_raiseF]); done)) only [same_refl, same_ite, ite_self, same_modDown, same_forAll, same_setGrp, same_when, same_grpOn, same_raiseF])
theorem keep_execDsLaserOff (e : Eng) (s : State) {t' : State} (h : execDsLaserOff e s = .next t') : Same 235520 s t' := by unfold execDsLaserOff at h; (try simp only [act, actF] at h); cases h; simp (disch := first | decide | (intros; (first | unfold IslSt.fencing | unfold IslSt.stepping | unfold Mgt.quiet | skip); first | rfl | (split <;> rfl)) | (intros; simp (disch := first | decide | (intros; (first | unfold IslSt.fencing | unfold IslSt.stepping | unfold Mgt.quiet | skip); first | rfl | (split <;> rfl))) only [same_refl, same_ite, ite_self, same_modDown, same_raiseF, same_grpDark, same_forAll])) only [same_refl, same_ite, ite_self, same_modDown, same_raiseF, same_grpDark, same_forAll]
theorem keep_rampTxOff (e : Eng) (s : State) : Same 196608 s (rampTxOff e s) := by unfold rampTxOff; simp (disch := first | decide | (intros; (first | unfold IslSt.fencing | unfold IslSt.stepping | unfold Mgt.quiet | skip); first | rfl | (split <;> rfl)) | (intros; simp (disch := first | decide | (intros; (first | unfold IslSt.fencing | unfold IslSt.stepping | unfold Mgt.quiet | skip); first | rfl | (split <;> rfl))) only [same_refl, same_ite, ite_self, same_modDown, same_laserOff, same_grpOff, same_forAll])) only [same_refl, same_ite, ite_self, same_modDown, same_laserOff, same_grpOff, same_forAll]
theorem same_rampTxOff {m' : Nat} {s' : State} {e : Eng} {s : State} (h : m' &&& 196608 = 196608) : Same m' s' (rampTxOff e s) = Same m' s' s := Same.eqv (keep_rampTxOff e s) h

end Sys2Proof.Machine
end

