-- ==== Sys2Proof/Laws/FrameShaker.lean ====
section
/-! SUPPORT. Which parts of the state each function of Machine/Shaker.lean leaves alone, as the bit mask of the others. -/

namespace Sys2Proof.Machine

set_option linter.unusedSimpArgs false
set_option linter.unusedTactic false
set_option linter.unreachableTactic false

theorem keep_rawBlocks (n : ℕ) (s : State) : Same 33554432 s (rawBlocks n s).2 := by unfold rawBlocks; simp (disch := decide) only [same_refl, same_ite, ite_self, same_up_sec]
theorem same_rawBlocks {m' : Nat} {s' : State} {n : ℕ} {s : State} (h : m' &&& 33554432 = 33554432) : Same m' s' (rawBlocks n s).2 = Same m' s' s := Same.eqv (keep_rawBlocks n s) h
theorem keep_entropy (s : State) : Same 33554432 s (entropy s).2 := by unfold entropy; simp (disch := decide) only [same_refl, same_ite, ite_self, same_rawBlocks]
theorem same_entropy {m' : Nat} {s' : State} {s : State} (h : m' &&& 33554432 = 33554432) : Same m' s' (entropy s).2 = Same m' s' s := Same.eqv (keep_entropy s) h
theorem keep_setDrbg (d : Drbg) (s : State) : Same 33554432 s (setDrbg d s) := by unfold setDrbg; simp (disch := decide) only [same_refl, same_ite, ite_self, same_up_sec]
theorem same_setDrbg {m' : Nat} {s' : State} {d : Drbg} {s : State} (h : m' &&& 33554432 = 33554432) : Same m' s' (setDrbg d s) = Same m' s' s := Same.eqv (keep_setDrbg d s) h
theorem keep_reseedCentral (s : State) : Same 33554432 s (reseedCentral s) := by unfold reseedCentral; simp (disch := decide) only [same_refl, same_ite, ite_self, same_setDrbg, same_entropy]
theorem same_reseedCentral {m' : Nat} {s' : State} {s : State} (h : m' &&& 33554432 = 33554432) : Same m' s' (reseedCentral s) = Same m' s' s := Same.eqv (keep_reseedCentral s) h
theorem keep_seedCentral (s : State) : Same 33554432 s (seedCentral s) := by unfold seedCentral; simp (disch := decide) only [same_refl, same_ite, ite_self, same_setDrbg, same_entropy]
theorem same_seedCentral {m' : Nat} {s' : State} {s : State} (h : m' &&& 33554432 = 33554432) : Same m' s' (seedCentral s) = Same m' s' s := Same.eqv (keep_seedCentral s) h
theorem keep_shake (fresh : Bool) (n : ℕ) (s : State) : Same 33554432 s (shake fresh n s).2 := by unfold shake; simp (disch := decide) only [same_refl, same_ite, ite_self, same_setDrbg, same_reseedCentral]
theorem same_shake {m' : Nat} {s' : State} {fresh : Bool} {n : ℕ} {s : State} (h : m' &&& 33554432 = 33554432) : Same m' s' (shake fresh n s).2 = Same m' s' s := Same.eqv (keep_shake fresh n s) h
theorem keep_laneBits (k : ℕ) (f : Drbg → BitVec 384 → Drbg) (s : State) : Same 33554432 s (laneBits k f s) := by unfold laneBits; simp (disch := decide) only [same_refl, same_ite, ite_self, same_up_sec, same_shake]
theorem same_laneBits {m' : Nat} {s' : State} {k : ℕ} {f : Drbg → BitVec 384 → Drbg} {s : State} (h : m' &&& 33554432 = 33554432) : Same m' s' (laneBits k f s) = Same m' s' s := Same.eqv (keep_laneBits k f s) h
theorem keep_seedLane (k : ℕ) (s : State) : Same 33554432 s (seedLane k s) := by unfold seedLane; simp (disch := decide) only [same_refl, same_ite, ite_self, same_laneBits]
theorem same_seedLane {m' : Nat} {s' : State} {k : ℕ} {s : State} (h : m' &&& 33554432 = 33554432) : Same m' s' (seedLane k s) = Same m' s' s := Same.eqv (keep_seedLane k s) h
theorem keep_reseedLane (k : ℕ) (s : State) : Same 33554432 s (reseedLane k s) := by unfold reseedLane; simp (disch := decide) only [same_refl, same_ite, ite_self, same_laneBits]
theorem same_reseedLane {m' : Nat} {s' : State} {k : ℕ} {s : State} (h : m' &&& 33554432 = 33554432) : Same m' s' (reseedLane k s) = Same m' s' s := Same.eqv (keep_reseedLane k s) h
theorem keep_seedLanes (s : State) : Same 33554432 s (seedLanes s) := by unfold seedLanes; simp (disch := first | decide | (intros; (first | unfold IslSt.fencing | unfold IslSt.stepping | unfold Mgt.quiet | skip); first | rfl | (split <;> rfl)) | (intros; simp (disch := first | decide | (intros; (first | unfold IslSt.fencing | unfold IslSt.stepping | unfold Mgt.quiet | skip); first | rfl | (split <;> rfl))) only [same_refl, same_ite, ite_self, same_seedLane, same_forAll])) only [same_refl, same_ite, ite_self, same_seedLane, same_forAll]
theorem same_seedLanes {m' : Nat} {s' : State} {s : State} (h : m' &&& 33554432 = 33554432) : Same m' s' (seedLanes s) = Same m' s' s := Same.eqv (keep_seedLanes s) h
theorem keep_reseedLanes (s : State) : Same 33554432 s (reseedLanes s) := by unfold reseedLanes; simp (disch := first | decide | (intros; (first | unfold IslSt.fencing | unfold IslSt.stepping | unfold Mgt.quiet | skip); first | rfl | (split <;> rfl)) | (intros; simp (disch := first | decide | (intros; (first | unfold IslSt.fencing | unfold IslSt.stepping | unfold Mgt.quiet | skip); first | rfl | (split <;> rfl))) only [same_refl, same_ite, ite_self, same_reseedLane, same_forAll])) only [same_refl, same_ite, ite_self, same_reseedLane, same_forAll]
theorem same_reseedLanes {m' : Nat} {s' : State} {s : State} (h : m' &&& 33554432 = 33554432) : Same m' s' (reseedLanes s) = Same m' s' s := Same.eqv (keep_reseedLanes s) h
theorem keep_laneBlock (k : ℕ) (x : BitVec 128) (s : State) : Same 33554432 s (laneBlock k x s) := by unfold laneBlock; simp (disch := decide) only [same_refl, same_ite, ite_self, same_up_sec, same_reseedLane]
theorem same_laneBlock {m' : Nat} {s' : State} {k : ℕ} {x : BitVec 128} {s : State} (h : m' &&& 33554432 = 33554432) : Same m' s' (laneBlock k x s) = Same m' s' s := Same.eqv (keep_laneBlock k x s) h
theorem keep_throughLane (bs : List (BitVec 128)) (s : State) : Same 33554432 s (throughLane bs s) := by unfold throughLane; simp (disch := first | decide | (intros; (first | unfold IslSt.fencing | unfold IslSt.stepping | unfold Mgt.quiet | skip); first | rfl | (split <;> rfl)) | (intros; simp (disch := first | decide | (intros; (first | unfold IslSt.fencing | unfold IslSt.stepping | unfold Mgt.quiet | skip); first | rfl | (split <;> rfl))) only [same_refl, same_ite, ite_self, same_up_sec, same_laneBlock, same_forAll])) only [same_refl, same_ite, ite_self, same_up_sec, same_laneBlock, same_forAll]
theorem same_throughLane {m' : Nat} {s' : State} {bs : List (BitVec 128)} {s : State} (h : m' &&& 33554432 = 33554432) : Same m' s' (throughLane bs s) = Same m' s' s := Same.eqv (keep_throughLane bs s) h
theorem keep_makeBank (key : BitVec 256) (salt : W32) (s : State) : Same 33554432 s (makeBank key salt s).2 := by unfold makeBank; simp (disch := decide) only [same_refl, same_ite, ite_self, same_shake]
theorem same_makeBank {m' : Nat} {s' : State} {key : BitVec 256} {salt : W32} {s : State} (h : m' &&& 33554432 = 33554432) : Same m' s' (makeBank key salt s).2 = Same m' s' s := Same.eqv (keep_makeBank key salt s) h
theorem keep_makeGen (key : BitVec 256) (salt : W32) (s : State) : Same 33554432 s (makeGen key salt s).2 := by unfold makeGen; simp (disch := decide) only [same_refl, same_ite, ite_self, same_shake]
theorem same_makeGen {m' : Nat} {s' : State} {key : BitVec 256} {salt : W32} {s : State} (h : m' &&& 33554432 = 33554432) : Same m' s' (makeGen key salt s).2 = Same m' s' s := Same.eqv (keep_makeGen key salt s) h

end Sys2Proof.Machine
end

