-- ==== Sys2Proof/Laws/FrameLeaves.lean ====
section
/-! SUPPORT. Which parts of the state each function of Machine/Leaves.lean leaves alone, as the bit mask of the others. -/

namespace Sys2Proof.Machine

set_option linter.unusedSimpArgs false
set_option linter.unusedTactic false
set_option linter.unreachableTactic false

theorem keep_sendMsg (e : Eng) (m : Msg) (s : State) : Same 196608 s (sendMsg e m s) := by unfold sendMsg; simp (disch := decide) only [same_refl, same_ite, ite_self, same_modDown]
theorem same_sendMsg {m' : Nat} {s' : State} {e : Eng} {m : Msg} {s : State} (h : m' &&& 196608 = 196608) : Same m' s' (sendMsg e m s) = Same m' s' s := Same.eqv (keep_sendMsg e m s) h
theorem keep_takeMsgs (w : Eng) (o : Eng) (s : State) : Same 196608 s (takeMsgs w o s) := by unfold takeMsgs; simp (disch := decide) only [same_refl, same_ite, ite_self, same_modDown]
theorem same_takeMsgs {m' : Nat} {s' : State} {w : Eng} {o : Eng} {s : State} (h : m' &&& 196608 = 196608) : Same m' s' (takeMsgs w o s) = Same m' s' s := Same.eqv (keep_takeMsgs w o s) h
theorem keep_schedEvent (e : Eng) (code : ℕ) (obj : ℕ) (data : BitVec 80) (bit : ℕ) (s : State) : Same 47104 s (schedEvent e code obj data bit s) := by unfold schedEvent; simp (disch := first | decide | (intros; (first | unfold IslSt.fencing | unfold IslSt.stepping | unfold Mgt.quiet | skip); first | rfl | (split <;> rfl)) | (intros; simp (disch := first | decide | (intros; (first | unfold IslSt.fencing | unfold IslSt.stepping | unfold Mgt.quiet | skip); first | rfl | (split <;> rfl))) only [same_refl, same_ite, ite_self, same_oncePerTurn, same_raiseF])) only [same_refl, same_ite, ite_self, same_oncePerTurn, same_raiseF]
theorem same_schedEvent {m' : Nat} {s' : State} {e : Eng} {code : ℕ} {obj : ℕ} {data : BitVec 80} {bit : ℕ} {s : State} (h : m' &&& 47104 = 47104) : Same m' s' (schedEvent e code obj data bit s) = Same m' s' s := Same.eqv (keep_schedEvent e code obj data bit s) h
theorem keep_countSched (e : Eng) (l : ℕ) (i : ℕ) (j : ℕ) (n : ℕ) (s : State) : Same 536870912 s (countSched e l i j n s) := by unfold countSched; simp (disch := decide) only [same_refl, same_ite, ite_self, same_countLeaf, same_count]
theorem same_countSched {m' : Nat} {s' : State} {e : Eng} {l : ℕ} {i : ℕ} {j : ℕ} {n : ℕ} {s : State} (h : m' &&& 536870912 = 536870912) : Same m' s' (countSched e l i j n s) = Same m' s' s := Same.eqv (keep_countSched e l i j n s) h
theorem keep_strike (e : Eng) (p : Grant → Bool) (s : State) : Same 537067520 s (strike e p s) := by unfold strike; simp (disch := first | decide | (intros; (first | unfold IslSt.fencing | unfold IslSt.stepping | unfold Mgt.quiet | skip); first | rfl | (split <;> rfl)) | (intros; simp (disch := first | decide | (intros; (first | unfold IslSt.fencing | unfold IslSt.stepping | unfold Mgt.quiet | skip); first | rfl | (split <;> rfl))) only [same_refl, same_ite, ite_self, same_count, same_modEng_st, same_modEng])) only [same_refl, same_ite, ite_self, same_count, same_modEng_st, same_modEng]
theorem same_strike {m' : Nat} {s' : State} {e : Eng} {p : Grant → Bool} {s : State} (h : m' &&& 537067520 = 537067520) : Same m' s' (strike e p s) = Same m' s' s := Same.eqv (keep_strike e p s) h
theorem keep_dropMaps (e : Eng) (p : MapSt → Bool) (s : State) : Same 537067520 s (dropMaps e p s) := by unfold dropMaps; simp (disch := first | decide | (intros; (first | unfold IslSt.fencing | unfold IslSt.stepping | unfold Mgt.quiet | skip); first | rfl | (split <;> rfl)) | (intros; simp (disch := first | decide | (intros; (first | unfold IslSt.fencing | unfold IslSt.stepping | unfold Mgt.quiet | skip); first | rfl | (split <;> rfl))) only [same_refl, same_ite, ite_self, same_modEng_st, same_modEng, same_count])) only [same_refl, same_ite, ite_self, same_modEng_st, same_modEng, same_count]
theorem same_dropMaps {m' : Nat} {s' : State} {e : Eng} {p : MapSt → Bool} {s : State} (h : m' &&& 537067520 = 537067520) : Same m' s' (dropMaps e p s) = Same m' s' s := Same.eqv (keep_dropMaps e p s) h
theorem keep_idleWindows (e : Eng) (p : ℕ → Grant → Bool) (s : State) : Same 537067520 s (idleWindows e p s) := by unfold idleWindows; simp (disch := first | decide | (intros; (first | unfold IslSt.fencing | unfold IslSt.stepping | unfold Mgt.quiet | skip); first | rfl | (split <;> rfl)) | (intros; simp (disch := first | decide | (intros; (first | unfold IslSt.fencing | unfold IslSt.stepping | unfold Mgt.quiet | skip); first | rfl | (split <;> rfl))) only [same_refl, same_ite, ite_self, same_forAll, same_countSched, same_modEng_st, same_modEng])) only [same_refl, same_ite, ite_self, same_forAll, same_countSched, same_modEng_st, same_modEng]
theorem same_idleWindows {m' : Nat} {s' : State} {e : Eng} {p : ℕ → Grant → Bool} {s : State} (h : m' &&& 537067520 = 537067520) : Same m' s' (idleWindows e p s) = Same m' s' s := Same.eqv (keep_idleWindows e p s) h
theorem keep_eraseNow (k : ℕ) (s : State) : Same 33554432 s (eraseNow k s) := by unfold eraseNow; simp (disch := decide) only [same_refl, same_ite, ite_self, same_modSlot]
theorem same_eraseNow {m' : Nat} {s' : State} {k : ℕ} {s : State} (h : m' &&& 33554432 = 33554432) : Same m' s' (eraseNow k s) = Same m' s' s := Same.eqv (keep_eraseNow k s) h
theorem keep_addWait (w : KeyWait) (s : State) : Same 33554432 s (addWait w s) := by unfold addWait; simp (disch := decide) only [same_refl, same_ite, ite_self, same_up_sec]
theorem same_addWait {m' : Nat} {s' : State} {w : KeyWait} {s : State} (h : m' &&& 33554432 = 33554432) : Same m' s' (addWait w s) = Same m' s' s := Same.eqv (keep_addWait w s) h
theorem keep_deferRekey (k : ℕ) (s : State) : Same 33554432 s (deferRekey k s) := by unfold deferRekey; simp (disch := decide) only [same_refl, same_ite, ite_self, same_addWait]
theorem same_deferRekey {m' : Nat} {s' : State} {k : ℕ} {s : State} (h : m' &&& 33554432 = 33554432) : Same m' s' (deferRekey k s) = Same m' s' s := Same.eqv (keep_deferRekey k s) h
theorem keep_eraseSlot (k : ℕ) (s : State) : Same 33554432 s (eraseSlot k s) := by unfold eraseSlot; simp (disch := decide) only [same_refl, same_ite, ite_self, same_eraseNow, same_addWait]
theorem same_eraseSlot {m' : Nat} {s' : State} {k : ℕ} {s : State} (h : m' &&& 33554432 = 33554432) : Same m' s' (eraseSlot k s) = Same m' s' s := Same.eqv (keep_eraseSlot k s) h
theorem keep_writeSlot (k : ℕ) (key : BitVec 256) (salt : W32) (s : State) : Same 570425344 s (writeSlot k key salt s) := by unfold writeSlot; simp (disch := decide) only [same_refl, same_ite, ite_self, same_setSlot, same_count, same_makeGen, same_makeBank]
theorem same_writeSlot {m' : Nat} {s' : State} {k : ℕ} {key : BitVec 256} {salt : W32} {s : State} (h : m' &&& 570425344 = 570425344) : Same m' s' (writeSlot k key salt s) = Same m' s' s := Same.eqv (keep_writeSlot k key salt s) h
theorem keep_rewriteSlot (k : ℕ) (key : BitVec 256) (salt : W32) (trigger : ℕ) (s : State) : Same 570474496 s (rewriteSlot k key salt trigger s) := by unfold rewriteSlot; simp (disch := first | decide | (intros; (first | unfold IslSt.fencing | unfold IslSt.stepping | unfold Mgt.quiet | skip); first | rfl | (split <;> rfl)) | (intros; simp (disch := first | decide | (intros; (first | unfold IslSt.fencing | unfold IslSt.stepping | unfold Mgt.quiet | skip); first | rfl | (split <;> rfl))) only [same_refl, same_ite, ite_self, same_count, same_raise, same_oncePerSec, same_setSlot, same_makeGen, same_makeBank])) only [same_refl, same_ite, ite_self, same_count, same_raise, same_oncePerSec, same_setSlot, same_makeGen, same_makeBank]
theorem same_rewriteSlot {m' : Nat} {s' : State} {k : ℕ} {key : BitVec 256} {salt : W32} {trigger : ℕ} {s : State} (h : m' &&& 570474496 = 570474496) : Same m' s' (rewriteSlot k key salt trigger s) = Same m' s' s := Same.eqv (keep_rewriteSlot k key salt trigger s) h
theorem keep_modGk (e : Eng) (g : ℕ) (f : GrpKey → GrpKey) (s : State) : Same 33554432 s (modGk e g f s) := by unfold modGk; simp (disch := decide) only [same_refl, same_ite, ite_self, same_up_sec]
theorem same_modGk {m' : Nat} {s' : State} {e : Eng} {g : ℕ} {f : GrpKey → GrpKey} {s : State} (h : m' &&& 33554432 = 33554432) : Same m' s' (modGk e g f s) = Same m' s' s := Same.eqv (keep_modGk e g f s) h
theorem keep_groupLeft (e : Eng) (g : ℕ) (s : State) : Same 33554432 s (groupLeft e g s) := by unfold groupLeft; simp (disch := decide) only [same_refl, same_ite, ite_self, same_eraseSlot, same_modGk, same_deferRekey]
theorem same_groupLeft {m' : Nat} {s' : State} {e : Eng} {g : ℕ} {s : State} (h : m' &&& 33554432 = 33554432) : Same m' s' (groupLeft e g s) = Same m' s' s := Same.eqv (keep_groupLeft e g s) h
theorem keep_rerangeEvent (e : Eng) (l : ℕ) (phase : ℕ) (x : Leaf) (new : ℤ) (s : State) : Same 47104 s (rerangeEvent e l phase x new s) := by unfold rerangeEvent; simp (disch := decide) only [same_refl, same_ite, ite_self, same_schedEvent]
theorem same_rerangeEvent {m' : Nat} {s' : State} {e : Eng} {l : ℕ} {phase : ℕ} {x : Leaf} {new : ℤ} {s : State} (h : m' &&& 47104 = 47104) : Same m' s' (rerangeEvent e l phase x new s) = Same m' s' s := Same.eqv (keep_rerangeEvent e l phase x new s) h
theorem keep_startRerange (e : Eng) (l : ℕ) (row : ℕ) (s : State) : Same 537638912 s (startRerange e l row s) := by unfold startRerange; simp (disch := decide) only [same_refl, same_ite, ite_self, same_countSched, same_rerangeEvent, same_strike, same_setLeaf, same_sendMsg]
theorem same_startRerange {m' : Nat} {s' : State} {e : Eng} {l : ℕ} {row : ℕ} {s : State} (h : m' &&& 537638912 = 537638912) : Same m' s' (startRerange e l row s) = Same m' s' s := Same.eqv (keep_startRerange e l row s) h
theorem keep_rerangeDues (e : Eng) (s : State) : Same 537638912 s (rerangeDues e s) := by unfold rerangeDues; simp (disch := first | decide | (intros; (first | unfold IslSt.fencing | unfold IslSt.stepping | unfold Mgt.quiet | skip); first | rfl | (split <;> rfl)) | (intros; simp (disch := first | decide | (intros; (first | unfold IslSt.fencing | unfold IslSt.stepping | unfold Mgt.quiet | skip); first | rfl | (split <;> rfl))) only [same_refl, same_ite, ite_self, same_startRerange, same_forAll])) only [same_refl, same_ite, ite_self, same_startRerange, same_forAll]
theorem same_rerangeDues {m' : Nat} {s' : State} {e : Eng} {s : State} (h : m' &&& 537638912 = 537638912) : Same m' s' (rerangeDues e s) = Same m' s' s := Same.eqv (keep_rerangeDues e s) h
theorem keep_eraseLeafKeys (e : Eng) (l : ℕ) (s : State) : Same 34078720 s (eraseLeafKeys e l s) := by unfold eraseLeafKeys; simp (disch := decide) only [same_refl, same_ite, ite_self, same_modLeaf, same_eraseSlot]
theorem same_eraseLeafKeys {m' : Nat} {s' : State} {e : Eng} {l : ℕ} {s : State} (h : m' &&& 34078720 = 34078720) : Same m' s' (eraseLeafKeys e l s) = Same m' s' s := Same.eqv (keep_eraseLeafKeys e l s) h
theorem keep_resetLeafRx (e : Eng) (l : ℕ) (s : State) : Same 196608 s (resetLeafRx e l s) := by unfold resetLeafRx; simp (disch := first | decide | (intros; (first | unfold IslSt.fencing | unfold IslSt.stepping | unfold Mgt.quiet | skip); first | rfl | (split <;> rfl)) | (intros; simp (disch := first | decide | (intros; (first | unfold IslSt.fencing | unfold IslSt.stepping | unfold Mgt.quiet | skip); first | rfl | (split <;> rfl))) only [same_refl, same_ite, ite_self, same_forAll, same_modEng_st, same_modEng])) only [same_refl, same_ite, ite_self, same_forAll, same_modEng_st, same_modEng]
theorem same_resetLeafRx {m' : Nat} {s' : State} {e : Eng} {l : ℕ} {s : State} (h : m' &&& 196608 = 196608) : Same m' s' (resetLeafRx e l s) = Same m' s' s := Same.eqv (keep_resetLeafRx e l s) h
theorem keep_dropQueued (e : Eng) (c : ℕ) (s : State) : Same 6291456 s (dropQueued e c s) := by unfold dropQueued; simp (disch := first | decide | (intros; (first | unfold IslSt.fencing | unfold IslSt.stepping | unfold Mgt.quiet | skip); first | rfl | (split <;> rfl)) | (intros; simp (disch := first | decide | (intros; (first | unfold IslSt.fencing | unfold IslSt.stepping | unfold Mgt.quiet | skip); first | rfl | (split <;> rfl))) only [same_refl, same_ite, ite_self, same_up_flow, same_setCtr, same_modFlow, same_forAll])) only [same_refl, same_ite, ite_self, same_up_flow, same_setCtr, same_modFlow, same_forAll]
theorem same_dropQueued {m' : Nat} {s' : State} {e : Eng} {c : ℕ} {s : State} (h : m' &&& 6291456 = 6291456) : Same m' s' (dropQueued e c s) = Same m' s' s := Same.eqv (keep_dropQueued e c s) h
theorem keep_dropForLeaf (e : Eng) (l : ℕ) (s : State) : Same 6291456 s (dropForLeaf e l s) := by unfold dropForLeaf; simp (disch := first | decide | (intros; (first | unfold IslSt.fencing | unfold IslSt.stepping | unfold Mgt.quiet | skip); first | rfl | (split <;> rfl)) | (intros; simp (disch := first | decide | (intros; (first | unfold IslSt.fencing | unfold IslSt.stepping | unfold Mgt.quiet | skip); first | rfl | (split <;> rfl))) only [same_refl, same_ite, ite_self, same_dropQueued, same_forAll])) only [same_refl, same_ite, ite_self, same_dropQueued, same_forAll]
theorem same_dropForLeaf {m' : Nat} {s' : State} {e : Eng} {l : ℕ} {s : State} (h : m' &&& 6291456 = 6291456) : Same m' s' (dropForLeaf e l s) = Same m' s' s := Same.eqv (keep_dropForLeaf e l s) h
theorem keep_leave (e : Eng) (l : ℕ) (cause : ℕ) (toFree : Bool) (s : State) : Same 577484800 s (leave e l cause toFree s) := by unfold leave; simp (disch := first | decide | (intros; (first | unfold IslSt.fencing | unfold IslSt.stepping | unfold Mgt.quiet | skip); first | rfl | (split <;> rfl)) | (intros; simp (disch := first | decide | (intros; (first | unfold IslSt.fencing | unfold IslSt.stepping | unfold Mgt.quiet | skip); first | rfl | (split <;> rfl))) only [same_refl, same_ite, ite_self, same_count, same_schedEvent, same_groupLeft, same_forAll, same_idleWindows, same_strike, same_setLeaf, same_eraseLeafKeys, same_resetLeafRx, same_dropForLeaf, same_rerangeEvent])) only [same_refl, same_ite, ite_self, same_count, same_schedEvent, same_groupLeft, same_forAll, same_idleWindows, same_strike, same_setLeaf, same_eraseLeafKeys, same_resetLeafRx, same_dropForLeaf, same_rerangeEvent]
theorem same_leave {m' : Nat} {s' : State} {e : Eng} {l : ℕ} {cause : ℕ} {toFree : Bool} {s : State} (h : m' &&& 577484800 = 577484800) : Same m' s' (leave e l cause toFree s) = Same m' s' s := Same.eqv (keep_leave e l cause toFree s) h
theorem keep_depart (e : Eng) (l : ℕ) (cause : ℕ) (hold : ℕ) (toFree : Bool) (s : State) : Same 577484800 s (depart e l cause hold toFree s) := by unfold depart; simp (disch := decide) only [same_refl, same_ite, ite_self, same_sendMsg, same_leave]
theorem same_depart {m' : Nat} {s' : State} {e : Eng} {l : ℕ} {cause : ℕ} {hold : ℕ} {toFree : Bool} {s : State} (h : m' &&& 577484800 = 577484800) : Same m' s' (depart e l cause hold toFree s) = Same m' s' s := Same.eqv (keep_depart e l cause hold toFree s) h
theorem keep_modRx (e : Eng) (l : ℕ) (f : LeafRx → LeafRx) (s : State) : Same 196608 s (modRx e l f s) := by unfold modRx; simp (disch := first | decide | (intros; (first | unfold IslSt.fencing | unfold IslSt.stepping | unfold Mgt.quiet | skip); first | rfl | (split <;> rfl)) | (intros; simp (disch := first | decide | (intros; (first | unfold IslSt.fencing | unfold IslSt.stepping | unfold Mgt.quiet | skip); first | rfl | (split <;> rfl))) only [same_refl, same_ite, ite_self, same_modEng_st, same_modEng])) only [same_refl, same_ite, ite_self, same_modEng_st, same_modEng]
theorem same_modRx {m' : Nat} {s' : State} {e : Eng} {l : ℕ} {f : LeafRx → LeafRx} {s : State} (h : m' &&& 196608 = 196608) : Same m' s' (modRx e l f s) = Same m' s' s := Same.eqv (keep_modRx e l f s) h
theorem keep_markCount (k : ℕ) (o : ℕ) (i : ℕ) (m : ℕ) (s : State) : Same 536870912 s (markCount k o i m s) := by unfold markCount; simp (disch := decide) only [same_refl, same_ite, ite_self, same_up_tally]
theorem same_markCount {m' : Nat} {s' : State} {k : ℕ} {o : ℕ} {i : ℕ} {m : ℕ} {s : State} (h : m' &&& 536870912 = 536870912) : Same m' s' (markCount k o i m s) = Same m' s' s := Same.eqv (keep_markCount k o i m s) h
theorem keep_leafDefEvent (e : Eng) (l : ℕ) (d : ℕ) (entry : ℕ) (s : State) : Same 47104 s (leafDefEvent e l d entry s) := by unfold leafDefEvent; simp (disch := first | decide | (intros; (first | unfold IslSt.fencing | unfold IslSt.stepping | unfold Mgt.quiet | skip); first | rfl | (split <;> rfl)) | (intros; simp (disch := first | decide | (intros; (first | unfold IslSt.fencing | unfold IslSt.stepping | unfold Mgt.quiet | skip); first | rfl | (split <;> rfl))) only [same_refl, same_ite, ite_self, same_oncePerTurn, same_raiseF])) only [same_refl, same_ite, ite_self, same_oncePerTurn, same_raiseF]
theorem same_leafDefEvent {m' : Nat} {s' : State} {e : Eng} {l : ℕ} {d : ℕ} {entry : ℕ} {s : State} (h : m' &&& 47104 = 47104) : Same m' s' (leafDefEvent e l d entry s) = Same m' s' s := Same.eqv (keep_leafDefEvent e l d entry s) h
theorem keep_followLost (e : Eng) (l : ℕ) (s : State) : Same 571392 s (followLost e l s) := by unfold followLost; (try simp (disch := first | decide | (intros; (first | unfold IslSt.fencing | unfold IslSt.stepping | unfold Mgt.quiet | skip); first | rfl | (split <;> rfl)) | (intros; simp (disch := first | decide | (intros; (first | unfold IslSt.fencing | unfold IslSt.stepping | unfold Mgt.quiet | skip); first | rfl | (split <;> rfl))) only [same_refl, same_ite, ite_self, same_schedEvent, same_setLeaf])) only [same_refl, same_ite, ite_self, same_schedEvent, same_setLeaf]); repeat' (split <;> try simp (disch := first | decide | (intros; (first | unfold IslSt.fencing | unfold IslSt.stepping | unfold Mgt.quiet | skip); first | rfl | (split <;> rfl)) | (intros; simp (disch := first | decide | (intros; (first | unfold IslSt.fencing | unfold IslSt.stepping | unfold Mgt.quiet | skip); first | rfl | (split <;> rfl))) only [same_refl, same_ite, ite_self, same_schedEvent, same_setLeaf])) only [same_refl, same_ite, ite_self, same_schedEvent, same_setLeaf])
theorem same_followLost {m' : Nat} {s' : State} {e : Eng} {l : ℕ} {s : State} (h : m' &&& 571392 = 571392) : Same m' s' (followLost e l s) = Same m' s' s := Same.eqv (keep_followLost e l s) h
theorem keep_leafReports (e : Eng) (l : ℕ) (was : Option ℕ) (s : State) : Same 537442304 s (leafReports e l was s) := by unfold leafReports; (try simp (disch := first | decide | (intros; (first | unfold IslSt.fencing | unfold IslSt.stepping | unfold Mgt.quiet | skip); first | rfl | (split <;> rfl)) | (intros; simp (disch := first | decide | (intros; (first | unfold IslSt.fencing | unfold IslSt.stepping | unfold Mgt.quiet | skip); first | rfl | (split <;> rfl))) only [same_refl, same_ite, ite_self, same_followLost, same_leafDefEvent, same_markCount, same_when])) only [same_refl, same_ite, ite_self, same_followLost, same_leafDefEvent, same_markCount, same_when]); repeat' (split <;> try simp (disch := first | decide | (intros; (first | unfold IslSt.fencing | unfold IslSt.stepping | unfold Mgt.quiet | skip); first | rfl | (split <;> rfl)) | (intros; simp (disch := first | decide | (intros; (first | unfold IslSt.fencing | unfold IslSt.stepping | unfold Mgt.quiet | skip); first | rfl | (split <;> rfl))) only [same_refl, same_ite, ite_self, same_followLost, same_leafDefEvent, same_markCount, same_when])) only [same_refl, same_ite, ite_self, same_followLost, same_leafDefEvent, same_markCount, same_when])
theorem same_leafReports {m' : Nat} {s' : State} {e : Eng} {l : ℕ} {was : Option ℕ} {s : State} (h : m' &&& 537442304 = 537442304) : Same m' s' (leafReports e l was s) = Same m' s' s := Same.eqv (keep_leafReports e l was s) h
theorem keep_modDefs (e : Eng) (l : ℕ) (f : LeafRx → LeafRx) (s : State) : Same 537638912 s (modDefs e l f s) := by unfold modDefs; simp (disch := decide) only [same_refl, same_ite, ite_self, same_leafReports, same_modRx]
theorem same_modDefs {m' : Nat} {s' : State} {e : Eng} {l : ℕ} {f : LeafRx → LeafRx} {s : State} (h : m' &&& 537638912 = 537638912) : Same m' s' (modDefs e l f s) = Same m' s' s := Same.eqv (keep_modDefs e l f s) h

end Sys2Proof.Machine
end

