-- ==== Sys2Proof/Laws/FrameCoef.lean ====
section
/-! SUPPORT. Which parts of the state each function of Machine/Coef.lean leaves alone, as the bit mask of the others. -/

namespace Sys2Proof.Machine

set_option linter.unusedSimpArgs false
set_option linter.unusedTactic false
set_option linter.unreachableTactic false

theorem keep_modCal (e : Eng) (rx : Bool) (f : CalSt → CalSt) (s : State) : Same 196608 s (modCal e rx f s) := by unfold modCal; (try simp (disch := first | decide | (intros; (first | unfold IslSt.fencing | unfold IslSt.stepping | unfold Mgt.quiet | skip); first | rfl | (split <;> rfl)) | (intros; simp (disch := first | decide | (intros; (first | unfold IslSt.fencing | unfold IslSt.stepping | unfold Mgt.quiet | skip); first | rfl | (split <;> rfl))) only [same_refl, same_ite, ite_self, same_modEng_st, same_modEng])) only [same_refl, same_ite, ite_self, same_modEng_st, same_modEng]); repeat' (split <;> try simp (disch := first | decide | (intros; (first | unfold IslSt.fencing | unfold IslSt.stepping | unfold Mgt.quiet | skip); first | rfl | (split <;> rfl)) | (intros; simp (disch := first | decide | (intros; (first | unfold IslSt.fencing | unfold IslSt.stepping | unfold Mgt.quiet | skip); first | rfl | (split <;> rfl))) only [same_refl, same_ite, ite_self, same_modEng_st, same_modEng])) only [same_refl, same_ite, ite_self, same_modEng_st, same_modEng])
theorem same_modCal {m' : Nat} {s' : State} {e : Eng} {rx : Bool} {f : CalSt → CalSt} {s : State} (h : m' &&& 196608 = 196608) : Same m' s' (modCal e rx f s) = Same m' s' s := Same.eqv (keep_modCal e rx f s) h

end Sys2Proof.Machine
end

