-- ==== Sys2Proof/Laws/FrameRxIn.lean ====
section
/-! SUPPORT. Which parts of the state each function of Machine/RxIn.lean leaves alone, as the bit mask of the others. -/

namespace Sys2Proof.Machine

set_option linter.unusedSimpArgs false
set_option linter.unusedTactic false
set_option linter.unreachableTactic false

theorem keep_noteWord (e : Eng) (w : RxWord) (s : State) : Same 196608 s (noteWord e w s) := by unfold noteWord; simp (disch := first | decide | (intros; (first | unfold IslSt.fencing | unfold IslSt.stepping | unfold Mgt.quiet | skip); first | rfl | (split <;> rfl)) | (intros; simp (disch := first | decide | (intros; (first | unfold IslSt.fencing | unfold IslSt.stepping | unfold Mgt.quiet | skip); first | rfl | (split <;> rfl))) only [same_refl, same_ite, ite_self, same_modEng_st, same_modEng])) only [same_refl, same_ite, ite_self, same_modEng_st, same_modEng]
theorem same_noteWord {m' : Nat} {s' : State} {e : Eng} {w : RxWord} {s : State} (h : m' &&& 196608 = 196608) : Same m' s' (noteWord e w s) = Same m' s' s := Same.eqv (keep_noteWord e w s) h
theorem keep_noteSyms (e : Eng) (r : RxIn) (n : ℕ) (s : State) : Same 196608 s (noteSyms e r n s) := by unfold noteSyms; simp (disch := first | decide | (intros; (first | unfold IslSt.fencing | unfold IslSt.stepping | unfold Mgt.quiet | skip); first | rfl | (split <;> rfl)) | (intros; simp (disch := first | decide | (intros; (first | unfold IslSt.fencing | unfold IslSt.stepping | unfold Mgt.quiet | skip); first | rfl | (split <;> rfl))) only [same_refl, same_ite, ite_self, same_modEng_st, same_modEng, same_modBrx])) only [same_refl, same_ite, ite_self, same_modEng_st, same_modEng, same_modBrx]
theorem same_noteSyms {m' : Nat} {s' : State} {e : Eng} {r : RxIn} {n : ℕ} {s : State} (h : m' &&& 196608 = 196608) : Same m' s' (noteSyms e r n s) = Same m' s' s := Same.eqv (keep_noteSyms e r n s) h
theorem keep_passWord (e : Eng) (w : RxWord) (s : State) : Same 196608 s (passWord e w s) := by unfold passWord; simp (disch := first | decide | (intros; (first | unfold IslSt.fencing | unfold IslSt.stepping | unfold Mgt.quiet | skip); first | rfl | (split <;> rfl)) | (intros; simp (disch := first | decide | (intros; (first | unfold IslSt.fencing | unfold IslSt.stepping | unfold Mgt.quiet | skip); first | rfl | (split <;> rfl))) only [same_refl, same_ite, ite_self, same_modEng_st, same_modEng, same_noteSyms, same_forAll])) only [same_refl, same_ite, ite_self, same_modEng_st, same_modEng, same_noteSyms, same_forAll]
theorem same_passWord {m' : Nat} {s' : State} {e : Eng} {w : RxWord} {s : State} (h : m' &&& 196608 = 196608) : Same m' s' (passWord e w s) = Same m' s' s := Same.eqv (keep_passWord e w s) h
theorem keep_takeWord (e : Eng) (w : RxWord) (s : State) : Same 196608 s (takeWord e w s) := by unfold takeWord; simp (disch := decide) only [same_refl, same_ite, ite_self, same_noteWord, same_passWord]
theorem same_takeWord {m' : Nat} {s' : State} {e : Eng} {w : RxWord} {s : State} (h : m' &&& 196608 = 196608) : Same m' s' (takeWord e w s) = Same m' s' s := Same.eqv (keep_takeWord e w s) h
theorem keep_missWords (e : Eng) (k : ℕ) (s : State) : Same 196608 s (missWords e k s) := by unfold missWords; simp (disch := first | decide | (intros; (first | unfold IslSt.fencing | unfold IslSt.stepping | unfold Mgt.quiet | skip); first | rfl | (split <;> rfl)) | (intros; simp (disch := first | decide | (intros; (first | unfold IslSt.fencing | unfold IslSt.stepping | unfold Mgt.quiet | skip); first | rfl | (split <;> rfl))) only [same_refl, same_ite, ite_self, same_modEng_st, same_modEng])) only [same_refl, same_ite, ite_self, same_modEng_st, same_modEng]
theorem same_missWords {m' : Nat} {s' : State} {e : Eng} {k : ℕ} {s : State} (h : m' &&& 196608 = 196608) : Same m' s' (missWords e k s) = Same m' s' s := Same.eqv (keep_missWords e k s) h
theorem keep_catchWords (e : Eng) (k : ℕ) (s : State) : Same 196608 s (catchWords e k s) := by unfold catchWords; simp (disch := decide) only [same_refl, same_ite, ite_self, same_missWords]
theorem same_catchWords {m' : Nat} {s' : State} {e : Eng} {k : ℕ} {s : State} (h : m' &&& 196608 = 196608) : Same m' s' (catchWords e k s) = Same m' s' s := Same.eqv (keep_catchWords e k s) h
theorem keep_takeWords (e : Eng) (ws : List RxWord) (s : State) : Same 196608 s (takeWords e ws s) := by unfold takeWords; simp (disch := first | decide | (intros; (first | unfold IslSt.fencing | unfold IslSt.stepping | unfold Mgt.quiet | skip); first | rfl | (split <;> rfl)) | (intros; simp (disch := first | decide | (intros; (first | unfold IslSt.fencing | unfold IslSt.stepping | unfold Mgt.quiet | skip); first | rfl | (split <;> rfl))) only [same_refl, same_ite, ite_self, same_missWords, same_takeWord, same_forAll, same_catchWords])) only [same_refl, same_ite, ite_self, same_missWords, same_takeWord, same_forAll, same_catchWords]
theorem same_takeWords {m' : Nat} {s' : State} {e : Eng} {ws : List RxWord} {s : State} (h : m' &&& 196608 = 196608) : Same m' s' (takeWords e ws s) = Same m' s' s := Same.eqv (keep_takeWords e ws s) h
theorem keep_dropWords (e : Eng) (k : ℕ) (s : State) : Same 196608 s (dropWords e k s) := by unfold dropWords; simp (disch := first | decide | (intros; (first | unfold IslSt.fencing | unfold IslSt.stepping | unfold Mgt.quiet | skip); first | rfl | (split <;> rfl)) | (intros; simp (disch := first | decide | (intros; (first | unfold IslSt.fencing | unfold IslSt.stepping | unfold Mgt.quiet | skip); first | rfl | (split <;> rfl))) only [same_refl, same_ite, ite_self, same_missWords, same_passWord, same_forAll])) only [same_refl, same_ite, ite_self, same_missWords, same_passWord, same_forAll]
theorem same_dropWords {m' : Nat} {s' : State} {e : Eng} {k : ℕ} {s : State} (h : m' &&& 196608 = 196608) : Same m' s' (dropWords e k s) = Same m' s' s := Same.eqv (keep_dropWords e k s) h
theorem keep_zeroWords (e : Eng) (k : ℕ) (s : State) : Same 196610 s (zeroWords e k s) := by unfold zeroWords; simp (disch := decide) only [same_refl, same_ite, ite_self, same_modDown, same_draw]
theorem same_zeroWords {m' : Nat} {s' : State} {e : Eng} {k : ℕ} {s : State} (h : m' &&& 196610 = 196610) : Same m' s' (zeroWords e k s) = Same m' s' s := Same.eqv (keep_zeroWords e k s) h
theorem keep_heard {m : Nat} {e : Eng} {ws : List RxWord} {f : State → Out} {s t : State} (hm : m &&& 196608 = 196608)
    (hf : ∀ u, f u = .next t → Same m u t) (h : heard e ws f s = .next t) : Same m s t :=
  ((same_takeWords hm).mpr ((same_refl _ _).mpr trivial)).trans (hf _ h)

end Sys2Proof.Machine
end

