-- ==== Sys2Proof/Laws/FrameCalib.lean ====
section
/-! SUPPORT. Which parts of the state each function of Machine/Calib.lean leaves alone, as the bit mask of the others. -/

namespace Sys2Proof.Machine

set_option linter.unusedSimpArgs false
set_option linter.unusedTactic false
set_option linter.unreachableTactic false

theorem keep_stepCoefs (e : Eng) (rx : Bool) (s : State) : Same 196608 s (stepCoefs e rx s) := by unfold stepCoefs; (try simp (disch := first | decide | (intros; (first | unfold IslSt.fencing | unfold IslSt.stepping | unfold Mgt.quiet | skip); first | rfl | (split <;> rfl)) | (intros; (try simp (disch := first | decide | (intros; (first | unfold IslSt.fencing | unfold IslSt.stepping | unfold Mgt.quiet | skip); first | rfl | (split <;> rfl)) | (intros; simp (disch := first | decide | (intros; (first | unfold IslSt.fencing | unfold IslSt.stepping | unfold Mgt.quiet | skip); first | rfl | (split <;> rfl))) only [same_refl, same_ite, ite_self, same_forAll, same_modCal])) only [same_refl, same_ite, ite_self, same_forAll, same_modCal]); repeat' (split <;> try simp (disch := first | decide | (intros; (first | unfold IslSt.fencing | unfold IslSt.stepping | unfold Mgt.quiet | skip); first | rfl | (split <;> rfl)) | (intros; simp (disch := first | decide | (intros; (first | unfold IslSt.fencing | unfold IslSt.stepping | unfold Mgt.quiet | skip); first | rfl | (split <;> rfl))) only [same_refl, same_ite, ite_self, same_forAll, same_modCal])) only [same_refl, same_ite, ite_self, same_forAll, same_modCal]); done)) only [same_refl, same_ite, ite_self, same_forAll, same_modCal]); repeat' (split <;> try simp (disch := first | decide | (intros; (first | unfold IslSt.fencing | unfold IslSt.stepping | unfold Mgt.quiet | skip); first | rfl | (split <;> rfl)) | (intros; (try simp (disch := first | decide | (intros; (first | unfold IslSt.fencing | unfold IslSt.stepping | unfold Mgt.quiet | skip); first | rfl | (split <;> rfl)) | (intros; simp (disch := first | decide | (intros; (first | unfold IslSt.fencing | unfold IslSt.stepping | unfold Mgt.quiet | skip); first | rfl | (split <;> rfl))) only [same_refl, same_ite, ite_self, same_forAll, same_modCal])) only [same_refl, same_ite, ite_self, same_forAll, same_modCal]); repeat' (split <;> try simp (disch := first | decide | (intros; (first | unfold IslSt.fencing | unfold IslSt.stepping | unfold Mgt.quiet | skip); first | rfl | (split <;> rfl)) | (intros; simp (disch := first | decide | (intros; (first | unfold IslSt.fencing | unfold IslSt.stepping | unfold Mgt.quiet | skip); first | rfl | (split <;> rfl))) only [same_refl, same_ite, ite_self, same_forAll, same_modCal])) only [same_refl, same_ite, ite_self, same_forAll, same_modCal]); done)) only [same_refl, same_ite, ite_self, same_forAll, same_modCal])
theorem same_stepCoefs {m' : Nat} {s' : State} {e : Eng} {rx : Bool} {s : State} (h : m' &&& 196608 = 196608) : Same m' s' (stepCoefs e rx s) = Same m' s' s := Same.eqv (keep_stepCoefs e rx s) h
theorem keep_execFeGainTurnUpdate (e : Eng) (adc : Fin 4) (ws : List RxWord) (s : State) {t' : State} (h : execFeGainTurnUpdate e adc ws s = .next t') : Same 537122816 s t' := by unfold execFeGainTurnUpdate at h; refine keep_heard (by decide) (fun v k => keep_act (fun u => ?_) k) h; (try dsimp only); repeat' (first | with_reducible exact (same_refl _ _).mpr trivial | refine (same_stepCoefs (by decide)).mpr ?_ | refine (same_raiseF (by decide)).mpr ?_ | refine (same_count (by decide)).mpr ?_ | refine (same_modEng_st (by decide) (by intros; rfl)).mpr ?_ | refine (same_oncePerSec (by decide) (fun _ => ?_)).mpr ?_ | split)
theorem keep_execCalTempCheck (e : Eng) (rx : Bool) (temp : ℤ) (s : State) {t' : State} (h : execCalTempCheck e rx temp s = .next t') : Same 196608 s t' := by unfold execCalTempCheck at h; (try simp only [act, actF] at h); cases h; simp (disch := decide) only [same_refl, same_ite, ite_self, same_modCal]
theorem keep_requestRun (e : Eng) (rx : Bool) (s : State) : Same 196608 s (requestRun e rx s) := by unfold requestRun; simp (disch := decide) only [same_refl, same_ite, ite_self, same_modCal]
theorem same_requestRun {m' : Nat} {s' : State} {e : Eng} {rx : Bool} {s : State} (h : m' &&& 196608 = 196608) : Same m' s' (requestRun e rx s) = Same m' s' s := Same.eqv (keep_requestRun e rx s) h
theorem keep_writeCalCtl (e : Eng) (v : W32) (s : State) : Same 196608 s (writeCalCtl e v s).1 := by unfold writeCalCtl; (try simp (disch := first | decide | (intros; (first | unfold IslSt.fencing | unfold IslSt.stepping | unfold Mgt.quiet | skip); first | rfl | (split <;> rfl)) | (intros; (try simp (disch := first | decide | (intros; (first | unfold IslSt.fencing | unfold IslSt.stepping | unfold Mgt.quiet | skip); first | rfl | (split <;> rfl)) | (intros; simp (disch := first | decide | (intros; (first | unfold IslSt.fencing | unfold IslSt.stepping | unfold Mgt.quiet | skip); first | rfl | (split <;> rfl))) only [same_refl, same_ite, ite_self, same_refuseOr, same_when, same_requestRun, same_modEng_st, same_modEng])) only [same_refl, same_ite, ite_self, same_refuseOr, same_when, same_requestRun, same_modEng_st, same_modEng]); repeat' (split <;> try simp (disch := first | decide | (intros; (first | unfold IslSt.fencing | unfold IslSt.stepping | unfold Mgt.quiet | skip); first | rfl | (split <;> rfl)) | (intros; simp (disch := first | decide | (intros; (first | unfold IslSt.fencing | unfold IslSt.stepping | unfold Mgt.quiet | skip); first | rfl | (split <;> rfl))) only [same_refl, same_ite, ite_self, same_refuseOr, same_when, same_requestRun, same_modEng_st, same_modEng])) only [same_refl, same_ite, ite_self, same_refuseOr, same_when, same_requestRun, same_modEng_st, same_modEng]); done)) only [same_refl, same_ite, ite_self, same_refuseOr, same_when, same_requestRun, same_modEng_st, same_modEng]); repeat' (split <;> try simp (disch := first | decide | (intros; (first | unfold IslSt.fencing | unfold IslSt.stepping | unfold Mgt.quiet | skip); first | rfl | (split <;> rfl)) | (intros; (try simp (disch := first | decide | (intros; (first | unfold IslSt.fencing | unfold IslSt.stepping | unfold Mgt.quiet | skip); first | rfl | (split <;> rfl)) | (intros; simp (disch := first | decide | (intros; (first | unfold IslSt.fencing | unfold IslSt.stepping | unfold Mgt.quiet | skip); first | rfl | (split <;> rfl))) only [same_refl, same_ite, ite_self, same_refuseOr, same_when, same_requestRun, same_modEng_st, same_modEng])) only [same_refl, same_ite, ite_self, same_refuseOr, same_when, same_requestRun, same_modEng_st, same_modEng]); repeat' (split <;> try simp (disch := first | decide | (intros; (first | unfold IslSt.fencing | unfold IslSt.stepping | unfold Mgt.quiet | skip); first | rfl | (split <;> rfl)) | (intros; simp (disch := first | decide | (intros; (first | unfold IslSt.fencing | unfold IslSt.stepping | unfold Mgt.quiet | skip); first | rfl | (split <;> rfl))) only [same_refl, same_ite, ite_self, same_refuseOr, same_when, same_requestRun, same_modEng_st, same_modEng])) only [same_refl, same_ite, ite_self, same_refuseOr, same_when, same_requestRun, same_modEng_st, same_modEng]); done)) only [same_refl, same_ite, ite_self, same_refuseOr, same_when, same_requestRun, same_modEng_st, same_modEng])
theorem same_writeCalCtl {m' : Nat} {s' : State} {e : Eng} {v : W32} {s : State} (h : m' &&& 196608 = 196608) : Same m' s' (writeCalCtl e v s).1 = Same m' s' s := Same.eqv (keep_writeCalCtl e v s) h
theorem keep_execCalRunRx (e : Eng) (s : State) {t' : State} (h : execCalRunRx e s = .next t') : Same 196612 s t' := by unfold execCalRunRx at h; (try simp only [act, actF] at h); cases h; simp (disch := decide) only [same_refl, same_ite, ite_self, same_setStatus, same_writeCalCtl]
theorem keep_execCalRunTx (e : Eng) (s : State) {t' : State} (h : execCalRunTx e s = .next t') : Same 196612 s t' := by unfold execCalRunTx at h; (try simp only [act, actF] at h); cases h; simp (disch := decide) only [same_refl, same_ite, ite_self, same_setStatus, same_writeCalCtl]
theorem keep_beginCollect (e : Eng) (rx : Bool) (s : State) : Same 196608 s (beginCollect e rx s) := by unfold beginCollect; simp (disch := decide) only [same_refl, same_ite, ite_self, same_modCal]
theorem same_beginCollect {m' : Nat} {s' : State} {e : Eng} {rx : Bool} {s : State} (h : m' &&& 196608 = 196608) : Same m' s' (beginCollect e rx s) = Same m' s' s := Same.eqv (keep_beginCollect e rx s) h
theorem keep_execCalRunStart (e : Eng) (rx : Bool) (temp : ℤ) (s : State) {t' : State} (h : execCalRunStart e rx temp s = .next t') : Same 229376 s t' := by unfold execCalRunStart at h; (try simp only [act, actF] at h); cases h; simp (disch := decide) only [same_refl, same_ite, ite_self, same_modCal, same_beginCollect, same_raise]
theorem keep_coefClamped (e : Eng) (rx : Bool) (i : ℕ) (s : State) : Same 536909824 s (coefClamped e rx i s) := by unfold coefClamped; simp (disch := decide) only [same_refl, same_ite, ite_self, same_raiseF, same_count]
theorem same_coefClamped {m' : Nat} {s' : State} {e : Eng} {rx : Bool} {i : ℕ} {s : State} (h : m' &&& 536909824 = 536909824) : Same m' s' (coefClamped e rx i s) = Same m' s' s := Same.eqv (keep_coefClamped e rx i s) h
theorem keep_takeEstimate (e : Eng) (rx : Bool) (i : ℕ) (v : ℤ) (s : State) : Same 537106432 s (takeEstimate e rx i v s) := by unfold takeEstimate; simp (disch := decide) only [same_refl, same_ite, ite_self, same_coefClamped, same_modCal]
theorem same_takeEstimate {m' : Nat} {s' : State} {e : Eng} {rx : Bool} {i : ℕ} {v : ℤ} {s : State} (h : m' &&& 537106432 = 537106432) : Same m' s' (takeEstimate e rx i v s) = Same m' s' s := Same.eqv (keep_takeEstimate e rx i v s) h
theorem keep_enterStep (e : Eng) (rx : Bool) (est : Nat → Option Int) (s : State) : Same 537106432 s (enterStep e rx est s) := by
  unfold enterStep
  extract_lets s1 s2
  have h1 : Same 537106432 s s1 := (same_modCal (by decide)).mpr ((same_refl _ _).mpr trivial)
  clear_value s1
  have h2 : Same 537106432 s s2 := by
    refine (same_forAll fun i t => ?_).mpr h1
    split
    · exact (same_takeEstimate (by decide)).mpr ((same_refl _ _).mpr trivial)
    · exact (same_refl _ _).mpr trivial
  clear_value s2
  split
  · exact (same_modCal (by decide)).mpr h2
  · exact h2

theorem same_enterStep {m' : Nat} {s' : State} {e : Eng} {rx : Bool} {est : ℕ → Option ℤ} {s : State} (h : m' &&& 537106432 = 537106432) : Same m' s' (enterStep e rx est s) = Same m' s' s := Same.eqv (keep_enterStep e rx est s) h
theorem keep_execCalCollectDone (e : Eng) (rx : Bool) (ws : List RxWord) (mon : List MonWord) (s : State) {t' : State} (h : execCalCollectDone e rx ws mon s = .next t') : Same 537106432 s t' := by unfold execCalCollectDone at h; refine keep_heard (by decide) (fun v k => keep_act (fun u => ?_) k) h; (try dsimp only); repeat' (first | with_reducible exact (same_refl _ _).mpr trivial | refine (same_enterStep (by decide)).mpr ?_ | split)
theorem keep_execCalStarved (e : Eng) (ws : List RxWord) (s : State) {t' : State} (h : execCalStarved e ws s = .next t') : Same 537106432 s t' := by
  unfold execCalStarved at h
  refine keep_heard (by decide) (fun v k => keep_act (fun u => ?_) k) h
  exact (same_raiseF (by decide)).mpr ((same_modCal (by decide)).mpr ((same_enterStep (by decide)).mpr ((same_refl _ _).mpr trivial)))

theorem keep_execCalStepDone (e : Eng) (rx : Bool) (s : State) {t' : State} (h : execCalStepDone e rx s = .next t') : Same 537106432 s t' := by unfold execCalStepDone at h; (try simp only [act, actF] at h); cases h; simp (disch := decide) only [same_refl, same_ite, ite_self, same_beginCollect, same_raiseF, same_count, same_modCal]
theorem keep_calAbandon (e : Eng) (rx : Bool) (s : State) : Same 537067520 s (calAbandon e rx s) := by unfold calAbandon; simp (disch := first | decide | (intros; (first | unfold IslSt.fencing | unfold IslSt.stepping | unfold Mgt.quiet | skip); first | rfl | (split <;> rfl)) | (intros; simp (disch := first | decide | (intros; (first | unfold IslSt.fencing | unfold IslSt.stepping | unfold Mgt.quiet | skip); first | rfl | (split <;> rfl))) only [same_refl, same_ite, ite_self, same_count, same_modCal, same_modEng_st, same_modEng])) only [same_refl, same_ite, ite_self, same_count, same_modCal, same_modEng_st, same_modEng]
theorem same_calAbandon {m' : Nat} {s' : State} {e : Eng} {rx : Bool} {s : State} (h : m' &&& 537067520 = 537067520) : Same m' s' (calAbandon e rx s) = Same m' s' s := Same.eqv (keep_calAbandon e rx s) h
theorem keep_storeCalRec (e : Eng) (rx : Bool) (ok : Bool) (s : State) : Same 235776 s (storeCalRec e rx ok s) := by unfold storeCalRec; simp (disch := decide) only [same_refl, same_ite, ite_self, same_up_flash, same_modCal, same_raiseF]
theorem same_storeCalRec {m' : Nat} {s' : State} {e : Eng} {rx : Bool} {ok : Bool} {s : State} (h : m' &&& 235776 = 235776) : Same m' s' (storeCalRec e rx ok s) = Same m' s' s := Same.eqv (keep_storeCalRec e rx ok s) h
theorem keep_execCalRecordWrite (e : Eng) (rx : Bool) (ok : Bool) (s : State) {t' : State} (h : execCalRecordWrite e rx ok s = .next t') : Same 235776 s t' := by unfold execCalRecordWrite at h; (try simp only [act, actF] at h); cases h; simp (disch := decide) only [same_refl, same_ite, ite_self, same_storeCalRec]
theorem keep_execCalScGo (e : Eng) (sc : Sc) (s : State) {t' : State} (h : execCalScGo e sc s = .next t') : Same 196612 s t' := by unfold execCalScGo at h; (try simp only [act, actF] at h); cases h; simp (disch := decide) only [same_refl, same_ite, ite_self, same_setStatus, same_writeCalCtl]
theorem keep_execCalScRunStart (e : Eng) (s : State) {t' : State} (h : execCalScRunStart e s = .next t') : Same 196608 s t' := by unfold execCalScRunStart at h; (try simp only [act, actF] at h); cases h; simp (disch := first | decide | (intros; (first | unfold IslSt.fencing | unfold IslSt.stepping | unfold Mgt.quiet | skip); first | rfl | (split <;> rfl)) | (intros; simp (disch := first | decide | (intros; (first | unfold IslSt.fencing | unfold IslSt.stepping | unfold Mgt.quiet | skip); first | rfl | (split <;> rfl))) only [same_refl, same_ite, ite_self, same_modEng_st, same_modEng])) only [same_refl, same_ite, ite_self, same_modEng_st, same_modEng]
theorem keep_execCalScDone (e : Eng) (pre : ℤ) (s : State) {t' : State} (h : execCalScDone e pre s = .next t') : Same 537106432 s t' := by unfold execCalScDone at h; (try simp only [act, actF] at h); cases h; simp (disch := first | decide | (intros; (first | unfold IslSt.fencing | unfold IslSt.stepping | unfold Mgt.quiet | skip); first | rfl | (split <;> rfl)) | (intros; simp (disch := first | decide | (intros; (first | unfold IslSt.fencing | unfold IslSt.stepping | unfold Mgt.quiet | skip); first | rfl | (split <;> rfl))) only [same_refl, same_ite, ite_self, same_modEng_st, same_modEng, same_raiseF, same_coefClamped, same_modCal])) only [same_refl, same_ite, ite_self, same_modEng_st, same_modEng, same_raiseF, same_coefClamped, same_modCal]

end Sys2Proof.Machine
end

