-- ==== Sys2Proof/Laws/FrameContainers.lean ====
section
/-! SUPPORT. Which parts of the state each function of Machine/Containers.lean leaves alone, as the bit mask of the others. -/

namespace Sys2Proof.Machine

set_option linter.unusedSimpArgs false
set_option linter.unusedTactic false
set_option linter.unreachableTactic false

theorem keep_writeSset (e : Eng) (i : ℕ) (w : ℕ) (v : W32) (s : State) : Same 1245184 s (writeSset e i w v s).1 := by unfold writeSset; simp (disch := first | decide | (intros; (first | unfold IslSt.fencing | unfold IslSt.stepping | unfold Mgt.quiet | skip); first | rfl | (split <;> rfl)) | (intros; simp (disch := first | decide | (intros; (first | unfold IslSt.fencing | unfold IslSt.stepping | unfold Mgt.quiet | skip); first | rfl | (split <;> rfl))) only [same_refl, same_ite, ite_self, same_refuseOr, same_sendMsg, same_setSset])) only [same_refl, same_ite, ite_self, same_refuseOr, same_sendMsg, same_setSset]
theorem same_writeSset {m' : Nat} {s' : State} {e : Eng} {i : ℕ} {w : ℕ} {v : W32} {s : State} (h : m' &&& 1245184 = 1245184) : Same m' s' (writeSset e i w v s).1 = Same m' s' s := Same.eqv (keep_writeSset e i w v s) h
theorem keep_execFrmSsetWrite (e : Eng) (ss : SsetIx) (w : Fin 8) (v : W32) (s : State) {t' : State} (h : execFrmSsetWrite e ss w v s = .next t') : Same 1245188 s t' := by unfold execFrmSsetWrite at h; (try simp only [act, actF] at h); cases h; simp (disch := decide) only [same_refl, same_ite, ite_self, same_setStatus, same_writeSset]
theorem keep_execFrmSsetDone (e : Eng) (ss : SsetIx) (s : State) {t' : State} (h : execFrmSsetDone e ss s = .next t') : Same 1095680 s t' := by unfold execFrmSsetDone at h; (try simp only [act, actF] at h); cases h; simp (disch := first | decide | (intros; (first | unfold IslSt.fencing | unfold IslSt.stepping | unfold Mgt.quiet | skip); first | rfl | (split <;> rfl)) | (intros; simp (disch := first | decide | (intros; (first | unfold IslSt.fencing | unfold IslSt.stepping | unfold Mgt.quiet | skip); first | rfl | (split <;> rfl))) only [same_refl, same_ite, ite_self, same_oncePerTurn, same_raiseF, same_setSset])) only [same_refl, same_ite, ite_self, same_oncePerTurn, same_raiseF, same_setSset]
theorem keep_joinRr (e : Eng) (c : ℕ) (s : State) : Same 1048576 s (joinRr e c s) := by unfold joinRr; simp (disch := decide) only [same_refl, same_ite, ite_self, same_modSset]
theorem same_joinRr {m' : Nat} {s' : State} {e : Eng} {c : ℕ} {s : State} (h : m' &&& 1048576 = 1048576) : Same m' s' (joinRr e c s) = Same m' s' s := Same.eqv (keep_joinRr e c s) h
theorem keep_rideNow (e : Eng) (c : ℕ) (s : State) : Same 3145728 s (rideNow e c s) := by unfold rideNow; simp (disch := decide) only [same_refl, same_ite, ite_self, same_setCtr, same_joinRr, same_modSset]
theorem same_rideNow {m' : Nat} {s' : State} {e : Eng} {c : ℕ} {s : State} (h : m' &&& 3145728 = 3145728) : Same m' s' (rideNow e c s) = Same m' s' s := Same.eqv (keep_rideNow e c s) h
theorem keep_shareAfter (e : Eng) (c : ℕ) (old : W32) (s : State) : Same 2097152 s (shareAfter e c old s) := by unfold shareAfter; simp (disch := decide) only [same_refl, same_ite, ite_self, same_modCtr]
theorem same_shareAfter {m' : Nat} {s' : State} {e : Eng} {c : ℕ} {old : W32} {s : State} (h : m' &&& 2097152 = 2097152) : Same m' s' (shareAfter e c old s) = Same m' s' s := Same.eqv (keep_shareAfter e c old s) h
theorem keep_writeCtr0 (e : Eng) (c : ℕ) (v : W32) (s : State) : Same 7536640 s (writeCtr0 e c v s).1 := by unfold writeCtr0; (try simp (disch := first | decide | (intros; (first | unfold IslSt.fencing | unfold IslSt.stepping | unfold Mgt.quiet | skip); first | rfl | (split <;> rfl)) | (intros; simp (disch := first | decide | (intros; (first | unfold IslSt.fencing | unfold IslSt.stepping | unfold Mgt.quiet | skip); first | rfl | (split <;> rfl)) | (intros; simp (disch := first | decide | (intros; (first | unfold IslSt.fencing | unfold IslSt.stepping | unfold Mgt.quiet | skip); first | rfl | (split <;> rfl))) only [same_refl, same_ite, ite_self, same_sendMsg, same_forAll, same_dropQueued, same_rideNow, same_setCtr, same_shareAfter, same_refuseOr])) only [same_refl, same_ite, ite_self, same_sendMsg, same_forAll, same_dropQueued, same_rideNow, same_setCtr, same_shareAfter, same_refuseOr])) only [same_refl, same_ite, ite_self, same_sendMsg, same_forAll, same_dropQueued, same_rideNow, same_setCtr, same_shareAfter, same_refuseOr]); repeat' (split <;> try simp (disch := first | decide | (intros; (first | unfold IslSt.fencing | unfold IslSt.stepping | unfold Mgt.quiet | skip); first | rfl | (split <;> rfl)) | (intros; simp (disch := first | decide | (intros; (first | unfold IslSt.fencing | unfold IslSt.stepping | unfold Mgt.quiet | skip); first | rfl | (split <;> rfl)) | (intros; simp (disch := first | decide | (intros; (first | unfold IslSt.fencing | unfold IslSt.stepping | unfold Mgt.quiet | skip); first | rfl | (split <;> rfl))) only [same_refl, same_ite, ite_self, same_sendMsg, same_forAll, same_dropQueued, same_rideNow, same_setCtr, same_shareAfter, same_refuseOr])) only [same_refl, same_ite, ite_self, same_sendMsg, same_forAll, same_dropQueued, same_rideNow, same_setCtr, same_shareAfter, same_refuseOr])) only [same_refl, same_ite, ite_self, same_sendMsg, same_forAll, same_dropQueued, same_rideNow, same_setCtr, same_shareAfter, same_refuseOr])
theorem same_writeCtr0 {m' : Nat} {s' : State} {e : Eng} {c : ℕ} {v : W32} {s : State} (h : m' &&& 7536640 = 7536640) : Same m' s' (writeCtr0 e c v s).1 = Same m' s' s := Same.eqv (keep_writeCtr0 e c v s) h
theorem keep_writeCtr1 (e : Eng) (c : ℕ) (v : W32) (s : State) : Same 2097152 s (writeCtr1 e c v s).1 := by unfold writeCtr1; simp (disch := first | decide | (intros; (first | unfold IslSt.fencing | unfold IslSt.stepping | unfold Mgt.quiet | skip); first | rfl | (split <;> rfl)) | (intros; simp (disch := first | decide | (intros; (first | unfold IslSt.fencing | unfold IslSt.stepping | unfold Mgt.quiet | skip); first | rfl | (split <;> rfl))) only [same_refl, same_ite, ite_self, same_refuseOr, same_modCtr])) only [same_refl, same_ite, ite_self, same_refuseOr, same_modCtr]
theorem same_writeCtr1 {m' : Nat} {s' : State} {e : Eng} {c : ℕ} {v : W32} {s : State} (h : m' &&& 2097152 = 2097152) : Same m' s' (writeCtr1 e c v s).1 = Same m' s' s := Same.eqv (keep_writeCtr1 e c v s) h
theorem keep_execFrmCtrWrite (e : Eng) (c : Cid) (w : Fin 2) (v : W32) (s : State) {t' : State} (h : execFrmCtrWrite e c w v s = .next t') : Same 7536644 s t' := by unfold execFrmCtrWrite at h; (try simp only [act, actF] at h); cases h; (try simp (disch := decide) only [same_refl, same_ite, ite_self, same_writeCtr1, same_writeCtr0, same_setStatus]); repeat' (split <;> try simp (disch := decide) only [same_refl, same_ite, ite_self, same_writeCtr1, same_writeCtr0, same_setStatus])
theorem keep_execContainerChangeEffective (e : Eng) (c : Cid) (s : State) {t' : State} (h : execContainerChangeEffective e c s = .next t') : Same 3145728 s t' := by unfold execContainerChangeEffective at h; (try simp only [act, actF] at h); cases h; simp (disch := decide) only [same_refl, same_ite, ite_self, same_rideNow]

end Sys2Proof.Machine
end

