-- ==== Sys2Proof/Laws/FrameTraffic.lean ====
section
/-! SUPPORT. Which parts of the state each function of Machine/Traffic.lean leaves alone, as the bit mask of the others. -/

namespace Sys2Proof.Machine

set_option linter.unusedSimpArgs false
set_option linter.unusedTactic false
set_option linter.unreachableTactic false

theorem keep_lcEvent (old : ℕ) (new : ℕ) (failed : Bool) (s : State) : Same 49152 s (lcEvent old new failed s) := by unfold lcEvent; simp (disch := first | decide | (intros; (first | unfold IslSt.fencing | unfold IslSt.stepping | unfold Mgt.quiet | skip); first | rfl | (split <;> rfl)) | (intros; simp (disch := first | decide | (intros; (first | unfold IslSt.fencing | unfold IslSt.stepping | unfold Mgt.quiet | skip); first | rfl | (split <;> rfl))) only [same_refl, same_ite, ite_self, same_raise, same_oncePerSec])) only [same_refl, same_ite, ite_self, same_raise, same_oncePerSec]
theorem same_lcEvent {m' : Nat} {s' : State} {old : ℕ} {new : ℕ} {failed : Bool} {s : State} (h : m' &&& 49152 = 49152) : Same m' s' (lcEvent old new failed s) = Same m' s' s := Same.eqv (keep_lcEvent old new failed s) h
theorem keep_lcDeploy (fuseOk : Bool) (s : State) : Same 49282 s (lcDeploy fuseOk s) := by unfold lcDeploy; simp (disch := decide) only [same_refl, same_ite, ite_self, same_up_fuse, same_lcEvent, same_blowOpen]
theorem same_lcDeploy {m' : Nat} {s' : State} {fuseOk : Bool} {s : State} (h : m' &&& 49282 = 49282) : Same m' s' (lcDeploy fuseOk s) = Same m' s' s := Same.eqv (keep_lcDeploy fuseOk s) h
theorem keep_partialCount (old : ℕ) (want : ℕ) (s : State) : Same 2 s (partialCount old want s).2 := by unfold partialCount; simp (disch := decide) only [same_refl, same_ite, ite_self, same_draw]
theorem same_partialCount {m' : Nat} {s' : State} {old : ℕ} {want : ℕ} {s : State} (h : m' &&& 2 = 2) : Same m' s' (partialCount old want s).2 = Same m' s' s := Same.eqv (keep_partialCount old want s) h
theorem keep_arbCommit (fuseOk : Bool) (s : State) : Same 39042 s (arbCommit fuseOk s) := by unfold arbCommit; (try simp (disch := first | decide | (intros; (first | unfold IslSt.fencing | unfold IslSt.stepping | unfold Mgt.quiet | skip); first | rfl | (split <;> rfl)) | (intros; simp (disch := first | decide | (intros; (first | unfold IslSt.fencing | unfold IslSt.stepping | unfold Mgt.quiet | skip); first | rfl | (split <;> rfl))) only [same_refl, same_ite, ite_self, same_up_fuse, same_raise, same_partialCount, same_raiseF])) only [same_refl, same_ite, ite_self, same_up_fuse, same_raise, same_partialCount, same_raiseF]); repeat' (split <;> try simp (disch := first | decide | (intros; (first | unfold IslSt.fencing | unfold IslSt.stepping | unfold Mgt.quiet | skip); first | rfl | (split <;> rfl)) | (intros; simp (disch := first | decide | (intros; (first | unfold IslSt.fencing | unfold IslSt.stepping | unfold Mgt.quiet | skip); first | rfl | (split <;> rfl))) only [same_refl, same_ite, ite_self, same_up_fuse, same_raise, same_partialCount, same_raiseF])) only [same_refl, same_ite, ite_self, same_up_fuse, same_raise, same_partialCount, same_raiseF])
theorem same_arbCommit {m' : Nat} {s' : State} {fuseOk : Bool} {s : State} (h : m' &&& 39042 = 39042) : Same m' s' (arbCommit fuseOk s) = Same m' s' s := Same.eqv (keep_arbCommit fuseOk s) h
theorem keep_trafficRise (fuseOk : Bool) (s : State) : Same 55938 s (trafficRise fuseOk s) := by unfold trafficRise; simp (disch := decide) only [same_refl, same_ite, ite_self, same_up_boot, same_lcDeploy, same_arbCommit, same_raise]
theorem same_trafficRise {m' : Nat} {s' : State} {fuseOk : Bool} {s : State} (h : m' &&& 55938 = 55938) : Same m' s' (trafficRise fuseOk s) = Same m' s' s := Same.eqv (keep_trafficRise fuseOk s) h
theorem keep_trafficUpdate (s : State) : Same 55938 s (trafficUpdate s) := by unfold trafficUpdate; simp (disch := decide) only [same_refl, same_ite, ite_self, same_trafficRise, same_draw]
theorem same_trafficUpdate {m' : Nat} {s' : State} {s : State} (h : m' &&& 55938 = 55938) : Same m' s' (trafficUpdate s) = Same m' s' s := Same.eqv (keep_trafficUpdate s) h

end Sys2Proof.Machine
end

