-- ==== Sys2Proof/Laws/FrameAps.lean ====
section
/-! SUPPORT. Which parts of the state each function of Machine/Aps.lean leaves alone, as the bit mask of the others. -/

namespace Sys2Proof.Machine

set_option linter.unusedSimpArgs false
set_option linter.unusedTactic false
set_option linter.unreachableTactic false

theorem keep_startSf (e : Eng) (s : State) : Same 196608 s (startSf e s) := by unfold startSf; simp (disch := first | decide | (intros; (first | unfold IslSt.fencing | unfold IslSt.stepping | unfold Mgt.quiet | skip); first | rfl | (split <;> rfl)) | (intros; simp (disch := first | decide | (intros; (first | unfold IslSt.fencing | unfold IslSt.stepping | unfold Mgt.quiet | skip); first | rfl | (split <;> rfl))) only [same_refl, same_ite, ite_self, same_modEng_st, same_modEng])) only [same_refl, same_ite, ite_self, same_modEng_st, same_modEng]
theorem same_startSf {m' : Nat} {s' : State} {e : Eng} {s : State} (h : m' &&& 196608 = 196608) : Same m' s' (startSf e s) = Same m' s' s := Same.eqv (keep_startSf e s) h
theorem keep_followCauses (e : Eng) (s : State) : Same 196608 s (followCauses e s) := by unfold followCauses; simp (disch := first | decide | (intros; (first | unfold IslSt.fencing | unfold IslSt.stepping | unfold Mgt.quiet | skip); first | rfl | (split <;> rfl)) | (intros; simp (disch := first | decide | (intros; (first | unfold IslSt.fencing | unfold IslSt.stepping | unfold Mgt.quiet | skip); first | rfl | (split <;> rfl))) only [same_refl, same_ite, ite_self, same_modEng_st, same_modEng, same_startSf])) only [same_refl, same_ite, ite_self, same_modEng_st, same_modEng, same_startSf]
theorem same_followCauses {m' : Nat} {s' : State} {e : Eng} {s : State} (h : m' &&& 196608 = 196608) : Same m' s' (followCauses e s) = Same m' s' s := Same.eqv (keep_followCauses e s) h
theorem keep_apsEvent (code : ℕ) (obj : ℕ) (data : BitVec 80) (s : State) : Same 40960 s (apsEvent code obj data s) := by unfold apsEvent; simp (disch := first | decide | (intros; (first | unfold IslSt.fencing | unfold IslSt.stepping | unfold Mgt.quiet | skip); first | rfl | (split <;> rfl)) | (intros; simp (disch := first | decide | (intros; (first | unfold IslSt.fencing | unfold IslSt.stepping | unfold Mgt.quiet | skip); first | rfl | (split <;> rfl))) only [same_refl, same_ite, ite_self, same_oncePerTurn, same_raise])) only [same_refl, same_ite, ite_self, same_oncePerTurn, same_raise]
theorem same_apsEvent {m' : Nat} {s' : State} {code : ℕ} {obj : ℕ} {data : BitVec 80} {s : State} (h : m' &&& 40960 = 40960) : Same m' s' (apsEvent code obj data s) = Same m' s' s := Same.eqv (keep_apsEvent code obj data s) h
theorem keep_noteReq (r : ApsReq) (s : State) : Same 303104 s (noteReq r s) := by unfold noteReq; simp (disch := decide) only [same_refl, same_ite, ite_self, same_up_aps, same_apsEvent]
theorem same_noteReq {m' : Nat} {s' : State} {r : ApsReq} {s : State} (h : m' &&& 303104 = 303104) : Same m' s' (noteReq r s) = Same m' s' s := Same.eqv (keep_noteReq r s) h
theorem keep_losePipeline (e : Eng) (s : State) : Same 537919488 s (losePipeline e s) := by unfold losePipeline; (try simp (disch := first | decide | (intros; (first | unfold IslSt.fencing | unfold IslSt.stepping | unfold Mgt.quiet | skip); first | rfl | (split <;> rfl)) | (intros; (try simp (disch := first | decide | (intros; (first | unfold IslSt.fencing | unfold IslSt.stepping | unfold Mgt.quiet | skip); first | rfl | (split <;> rfl)) | (intros; simp (disch := first | decide | (intros; (first | unfold IslSt.fencing | unfold IslSt.stepping | unfold Mgt.quiet | skip); first | rfl | (split <;> rfl))) only [same_refl, same_ite, ite_self, same_up_ssets, same_forAll, same_count])) only [same_refl, same_ite, ite_self, same_up_ssets, same_forAll, same_count]); repeat' (split <;> try simp (disch := first | decide | (intros; (first | unfold IslSt.fencing | unfold IslSt.stepping | unfold Mgt.quiet | skip); first | rfl | (split <;> rfl)) | (intros; simp (disch := first | decide | (intros; (first | unfold IslSt.fencing | unfold IslSt.stepping | unfold Mgt.quiet | skip); first | rfl | (split <;> rfl))) only [same_refl, same_ite, ite_self, same_up_ssets, same_forAll, same_count])) only [same_refl, same_ite, ite_self, same_up_ssets, same_forAll, same_count]); done)) only [same_refl, same_ite, ite_self, same_up_ssets, same_forAll, same_count]); repeat' (split <;> try simp (disch := first | decide | (intros; (first | unfold IslSt.fencing | unfold IslSt.stepping | unfold Mgt.quiet | skip); first | rfl | (split <;> rfl)) | (intros; (try simp (disch := first | decide | (intros; (first | unfold IslSt.fencing | unfold IslSt.stepping | unfold Mgt.quiet | skip); first | rfl | (split <;> rfl)) | (intros; simp (disch := first | decide | (intros; (first | unfold IslSt.fencing | unfold IslSt.stepping | unfold Mgt.quiet | skip); first | rfl | (split <;> rfl))) only [same_refl, same_ite, ite_self, same_up_ssets, same_forAll, same_count])) only [same_refl, same_ite, ite_self, same_up_ssets, same_forAll, same_count]); repeat' (split <;> try simp (disch := first | decide | (intros; (first | unfold IslSt.fencing | unfold IslSt.stepping | unfold Mgt.quiet | skip); first | rfl | (split <;> rfl)) | (intros; simp (disch := first | decide | (intros; (first | unfold IslSt.fencing | unfold IslSt.stepping | unfold Mgt.quiet | skip); first | rfl | (split <;> rfl))) only [same_refl, same_ite, ite_self, same_up_ssets, same_forAll, same_count])) only [same_refl, same_ite, ite_self, same_up_ssets, same_forAll, same_count]); done)) only [same_refl, same_ite, ite_self, same_up_ssets, same_forAll, same_count])
theorem same_losePipeline {m' : Nat} {s' : State} {e : Eng} {s : State} (h : m' &&& 537919488 = 537919488) : Same m' s' (losePipeline e s) = Same m' s' s := Same.eqv (keep_losePipeline e s) h
theorem keep_switchRampOff (w : Eng) (s : State) : Same 196608 s (switchRampOff w s) := by unfold switchRampOff; simp (disch := decide) only [same_refl, same_ite, ite_self, same_modDown]
theorem same_switchRampOff {m' : Nat} {s' : State} {w : Eng} {s : State} (h : m' &&& 196608 = 196608) : Same m' s' (switchRampOff w s) = Same m' s' s := Same.eqv (keep_switchRampOff w s) h
theorem keep_switchDark (w : Eng) (s : State) : Same 196608 s (switchDark w s) := by unfold switchDark; simp (disch := decide) only [same_refl, same_ite, ite_self, same_modDown]
theorem same_switchDark {m' : Nat} {s' : State} {w : Eng} {s : State} (h : m' &&& 196608 = 196608) : Same m' s' (switchDark w s) = Same m' s' s := Same.eqv (keep_switchDark w s) h
theorem keep_switchRampOn (o : Eng) (s : State) : Same 196608 s (switchRampOn o s) := by unfold switchRampOn; (try simp (disch := first | decide | (intros; (first | unfold IslSt.fencing | unfold IslSt.stepping | unfold Mgt.quiet | skip); first | rfl | (split <;> rfl)) | (intros; simp (disch := first | decide | (intros; (first | unfold IslSt.fencing | unfold IslSt.stepping | unfold Mgt.quiet | skip); first | rfl | (split <;> rfl)) | (intros; simp (disch := first | decide | (intros; (first | unfold IslSt.fencing | unfold IslSt.stepping | unfold Mgt.quiet | skip); first | rfl | (split <;> rfl))) only [same_refl, same_ite, ite_self, same_modDown, same_setGrpSt, same_when, same_forAll])) only [same_refl, same_ite, ite_self, same_modDown, same_setGrpSt, same_when, same_forAll])) only [same_refl, same_ite, ite_self, same_modDown, same_setGrpSt, same_when, same_forAll]); repeat' (split <;> try simp (disch := first | decide | (intros; (first | unfold IslSt.fencing | unfold IslSt.stepping | unfold Mgt.quiet | skip); first | rfl | (split <;> rfl)) | (intros; simp (disch := first | decide | (intros; (first | unfold IslSt.fencing | unfold IslSt.stepping | unfold Mgt.quiet | skip); first | rfl | (split <;> rfl)) | (intros; simp (disch := first | decide | (intros; (first | unfold IslSt.fencing | unfold IslSt.stepping | unfold Mgt.quiet | skip); first | rfl | (split <;> rfl))) only [same_refl, same_ite, ite_self, same_modDown, same_setGrpSt, same_when, same_forAll])) only [same_refl, same_ite, ite_self, same_modDown, same_setGrpSt, same_when, same_forAll])) only [same_refl, same_ite, ite_self, same_modDown, same_setGrpSt, same_when, same_forAll])
theorem same_switchRampOn {m' : Nat} {s' : State} {o : Eng} {s : State} (h : m' &&& 196608 = 196608) : Same m' s' (switchRampOn o s) = Same m' s' s := Same.eqv (keep_switchRampOn o s) h
theorem keep_startSwitch (w : Eng) (r : ApsReq) (planned : Bool) (own : Bool) (s : State) : Same 538419200 s (startSwitch w r planned own s) := by unfold startSwitch; simp (disch := first | decide | (intros; (first | unfold IslSt.fencing | unfold IslSt.stepping | unfold Mgt.quiet | skip); first | rfl | (split <;> rfl)) | (intros; simp (disch := first | decide | (intros; (first | unfold IslSt.fencing | unfold IslSt.stepping | unfold Mgt.quiet | skip); first | rfl | (split <;> rfl))) only [same_refl, same_ite, ite_self, same_up_aps, same_modEng_st, same_modEng, same_switchRampOff, same_apsEvent, same_losePipeline, same_dropMaps, same_strike, same_idleWindows, same_noteReq])) only [same_refl, same_ite, ite_self, same_up_aps, same_modEng_st, same_modEng, same_switchRampOff, same_apsEvent, same_losePipeline, same_dropMaps, same_strike, same_idleWindows, same_noteReq]
theorem same_startSwitch {m' : Nat} {s' : State} {w : Eng} {r : ApsReq} {planned : Bool} {own : Bool} {s : State} (h : m' &&& 538419200 = 538419200) : Same m' s' (startSwitch w r planned own s) = Same m' s' s := Same.eqv (keep_startSwitch w r planned own s) h
theorem keep_apsEval (s : State) : Same 538419200 s (apsEval s) := by
  unfold apsEval
  split
  · exact (same_refl _ _).mpr trivial
  · split
    · exact (same_refl _ _).mpr trivial
    · next w hw =>
      extract_lets bad src1 s1 above src2 s2 r s3 src4 s4
      have h1 : Same 538419200 s s1 := by
        simp only [s1]; split
        · split
          · exact (same_up_aps (by decide)).mpr ((same_refl _ _).mpr trivial)
          · exact (same_refl _ _).mpr trivial
        · exact (same_refl _ _).mpr trivial
      clear_value s1
      have h2 : Same 538419200 s s2 := by
        simp only [s2]; split
        · exact (same_up_aps (by decide)).mpr h1
        · exact h1
      clear_value s2
      have h3 : Same 538419200 s s3 := (same_noteReq (by decide)).mpr h2
      clear_value s3
      split
      · exact h3
      · have h4 : Same 538419200 s s4 := by
          simp only [s4]; split
          · exact (same_up_aps (by decide)).mpr h3
          · exact h3
        clear_value s4
        split
        · exact (same_startSwitch (by decide)).mpr h4
        · split
          · exact (same_startSwitch (by decide)).mpr h4
          · split
            · split
              · exact (same_noteReq (by decide)).mpr ((same_up_aps (by decide)).mpr h4)
              · exact (same_noteReq (by decide)).mpr ((same_up_aps (by decide)).mpr h4)
            · exact h4

theorem same_apsEval {m' : Nat} {s' : State} {s : State} (h : m' &&& 538419200 = 538419200) : Same m' s' (apsEval s) = Same m' s' s := Same.eqv (keep_apsEval s) h
theorem keep_apsUpdate (s : State) : Same 538419200 s (apsUpdate s) := by unfold apsUpdate; simp (disch := decide) only [same_refl, same_ite, ite_self, same_apsEval, same_followCauses]
theorem same_apsUpdate {m' : Nat} {s' : State} {s : State} (h : m' &&& 538419200 = 538419200) : Same m' s' (apsUpdate s) = Same m' s' s := Same.eqv (keep_apsUpdate s) h
theorem keep_modEngDefs (e : Eng) (f : Defects → Defects) (s : State) : Same 537638912 s (modEngDefs e f s) := by unfold modEngDefs; (try simp (disch := first | decide | (intros; (first | unfold IslSt.fencing | unfold IslSt.stepping | unfold Mgt.quiet | skip); first | rfl | (split <;> rfl)) | (intros; simp (disch := first | decide | (intros; (first | unfold IslSt.fencing | unfold IslSt.stepping | unfold Mgt.quiet | skip); first | rfl | (split <;> rfl)) | (intros; simp (disch := first | decide | (intros; (first | unfold IslSt.fencing | unfold IslSt.stepping | unfold Mgt.quiet | skip); first | rfl | (split <;> rfl))) only [same_refl, same_ite, ite_self, same_modEng_st, same_modEng, same_leafReports, same_forAll, same_markCount, same_when, same_raiseF, same_oncePerTurn])) only [same_refl, same_ite, ite_self, same_modEng_st, same_modEng, same_leafReports, same_forAll, same_markCount, same_when, same_raiseF, same_oncePerTurn])) only [same_refl, same_ite, ite_self, same_modEng_st, same_modEng, same_leafReports, same_forAll, same_markCount, same_when, same_raiseF, same_oncePerTurn]); repeat' (split <;> try simp (disch := first | decide | (intros; (first | unfold IslSt.fencing | unfold IslSt.stepping | unfold Mgt.quiet | skip); first | rfl | (split <;> rfl)) | (intros; simp (disch := first | decide | (intros; (first | unfold IslSt.fencing | unfold IslSt.stepping | unfold Mgt.quiet | skip); first | rfl | (split <;> rfl)) | (intros; simp (disch := first | decide | (intros; (first | unfold IslSt.fencing | unfold IslSt.stepping | unfold Mgt.quiet | skip); first | rfl | (split <;> rfl))) only [same_refl, same_ite, ite_self, same_modEng_st, same_modEng, same_leafReports, same_forAll, same_markCount, same_when, same_raiseF, same_oncePerTurn])) only [same_refl, same_ite, ite_self, same_modEng_st, same_modEng, same_leafReports, same_forAll, same_markCount, same_when, same_raiseF, same_oncePerTurn])) only [same_refl, same_ite, ite_self, same_modEng_st, same_modEng, same_leafReports, same_forAll, same_markCount, same_when, same_raiseF, same_oncePerTurn])
theorem same_modEngDefs {m' : Nat} {s' : State} {e : Eng} {f : Defects → Defects} {s : State} (h : m' &&& 537638912 = 537638912) : Same m' s' (modEngDefs e f s) = Same m' s' s := Same.eqv (keep_modEngDefs e f s) h
theorem keep_execEngineDefectTurnEval (e : Eng) (input : ℤ) (s : State) {t' : State} (h : execEngineDefectTurnEval e input s = .next t') : Same 673167360 s t' := by unfold execEngineDefectTurnEval at h; (try simp only [act, actF] at h); cases h; simp (disch := first | decide | (intros; (first | unfold IslSt.fencing | unfold IslSt.stepping | unfold Mgt.quiet | skip); first | rfl | (split <;> rfl)) | (intros; simp (disch := first | decide | (intros; (first | unfold IslSt.fencing | unfold IslSt.stepping | unfold Mgt.quiet | skip); first | rfl | (split <;> rfl))) only [same_refl, same_ite, ite_self, same_noteFault, same_modEngDefs, same_modEng_st, same_modEng, same_apsUpdate])) only [same_refl, same_ite, ite_self, same_noteFault, same_modEngDefs, same_modEng_st, same_modEng, same_apsUpdate]
theorem keep_execSfSdHoldoffExpiry (e : Eng) (sd : Bool) (s : State) {t' : State} (h : execSfSdHoldoffExpiry e sd s = .next t') : Same 538419200 s t' := by unfold execSfSdHoldoffExpiry at h; (try simp only [act, actF] at h); cases h; simp (disch := first | decide | (intros; (first | unfold IslSt.fencing | unfold IslSt.stepping | unfold Mgt.quiet | skip); first | rfl | (split <;> rfl)) | (intros; simp (disch := first | decide | (intros; (first | unfold IslSt.fencing | unfold IslSt.stepping | unfold Mgt.quiet | skip); first | rfl | (split <;> rfl))) only [same_refl, same_ite, ite_self, same_apsEval, same_modEng_st, same_modEng, same_startSf])) only [same_refl, same_ite, ite_self, same_apsEval, same_modEng_st, same_modEng, same_startSf]
theorem keep_setTxFault (e : Eng) (c : TxCause) (b : Bool) (s : State) : Same 196610 s (setTxFault e c b s) := by unfold setTxFault; (try simp (disch := decide) only [same_refl, same_ite, ite_self, same_modDown, same_draw]); repeat' (split <;> try simp (disch := decide) only [same_refl, same_ite, ite_self, same_modDown, same_draw])
theorem same_setTxFault {m' : Nat} {s' : State} {e : Eng} {c : TxCause} {b : Bool} {s : State} (h : m' &&& 196610 = 196610) : Same m' s' (setTxFault e c b s) = Same m' s' s := Same.eqv (keep_setTxFault e c b s) h
theorem keep_execTransmitFault (e : Eng) (cause : TxCause) (s : State) {t' : State} (h : execTransmitFault e cause s = .next t') : Same 538419202 s t' := by unfold execTransmitFault at h; (try simp only [act, actF] at h); cases h; simp (disch := decide) only [same_refl, same_ite, ite_self, same_setTxFault, same_apsUpdate]
theorem keep_execTransmitFaultClear (e : Eng) (cause : TxCause) (s : State) {t' : State} (h : execTransmitFaultClear e cause s = .next t') : Same 538419202 s t' := by unfold execTransmitFaultClear at h; (try simp only [act, actF] at h); cases h; simp (disch := decide) only [same_refl, same_ite, ite_self, same_setTxFault, same_apsUpdate]
theorem keep_execApsPlannedNoticeDone (s : State) {t' : State} (h : execApsPlannedNoticeDone s = .next t') : Same 458752 s t' := by unfold execApsPlannedNoticeDone at h; (try simp only [act, actF] at h); cases h; (try simp (disch := first | decide | (intros; (first | unfold IslSt.fencing | unfold IslSt.stepping | unfold Mgt.quiet | skip); first | rfl | (split <;> rfl)) | (intros; simp (disch := first | decide | (intros; (first | unfold IslSt.fencing | unfold IslSt.stepping | unfold Mgt.quiet | skip); first | rfl | (split <;> rfl))) only [same_refl, same_ite, ite_self, same_up_aps, same_switchRampOff])) only [same_refl, same_ite, ite_self, same_up_aps, same_switchRampOff]); repeat' (split <;> try simp (disch := first | decide | (intros; (first | unfold IslSt.fencing | unfold IslSt.stepping | unfold Mgt.quiet | skip); first | rfl | (split <;> rfl)) | (intros; simp (disch := first | decide | (intros; (first | unfold IslSt.fencing | unfold IslSt.stepping | unfold Mgt.quiet | skip); first | rfl | (split <;> rfl))) only [same_refl, same_ite, ite_self, same_up_aps, same_switchRampOff])) only [same_refl, same_ite, ite_self, same_up_aps, same_switchRampOff])
theorem keep_execApsRampOffDone (s : State) {t' : State} (h : execApsRampOffDone s = .next t') : Same 458752 s t' := by unfold execApsRampOffDone at h; (try simp only [act, actF] at h); cases h; (try simp (disch := decide) only [same_refl, same_ite, ite_self, same_up_aps, same_switchDark, same_switchRampOn]); repeat' (split <;> try simp (disch := decide) only [same_refl, same_ite, ite_self, same_up_aps, same_switchDark, same_switchRampOn])
theorem keep_execApsNewEngineFullPower (s : State) {t' : State} (h : execApsNewEngineFullPower s = .next t') : Same 8590449282 s t' := by unfold execApsNewEngineFullPower at h; (try simp only [act, actF] at h); cases h; (try simp (disch := first | decide | (intros; (first | unfold IslSt.fencing | unfold IslSt.stepping | unfold Mgt.quiet | skip); first | rfl | (split <;> rfl)) | (intros; simp (disch := first | decide | (intros; (first | unfold IslSt.fencing | unfold IslSt.stepping | unfold Mgt.quiet | skip); first | rfl | (split <;> rfl))) only [same_refl, same_ite, ite_self, same_up_aps, same_modEng_st, same_modEng, same_followCauses, same_trafficUpdate, same_setGrp, same_forAll, same_takeMsgs])) only [same_refl, same_ite, ite_self, same_up_aps, same_modEng_st, same_modEng, same_followCauses, same_trafficUpdate, same_setGrp, same_forAll, same_takeMsgs]); repeat' (split <;> try simp (disch := first | decide | (intros; (first | unfold IslSt.fencing | unfold IslSt.stepping | unfold Mgt.quiet | skip); first | rfl | (split <;> rfl)) | (intros; simp (disch := first | decide | (intros; (first | unfold IslSt.fencing | unfold IslSt.stepping | unfold Mgt.quiet | skip); first | rfl | (split <;> rfl))) only [same_refl, same_ite, ite_self, same_up_aps, same_modEng_st, same_modEng, same_followCauses, same_trafficUpdate, same_setGrp, same_forAll, same_takeMsgs])) only [same_refl, same_ite, ite_self, same_up_aps, same_modEng_st, same_modEng, same_followCauses, same_trafficUpdate, same_setGrp, same_forAll, same_takeMsgs])
theorem keep_engMark (e : Eng) (step : ℕ) (refused : ℕ) (s : State) : Same 235520 s (engMark e step refused s) := by unfold engMark; simp (disch := first | decide | (intros; (first | unfold IslSt.fencing | unfold IslSt.stepping | unfold Mgt.quiet | skip); first | rfl | (split <;> rfl)) | (intros; simp (disch := first | decide | (intros; (first | unfold IslSt.fencing | unfold IslSt.stepping | unfold Mgt.quiet | skip); first | rfl | (split <;> rfl))) only [same_refl, same_ite, ite_self, same_modEng_st, same_modEng, same_raiseF])) only [same_refl, same_ite, ite_self, same_modEng_st, same_modEng, same_raiseF]
theorem same_engMark {m' : Nat} {s' : State} {e : Eng} {step : ℕ} {refused : ℕ} {s : State} (h : m' &&& 235520 = 235520) : Same m' s' (engMark e step refused s) = Same m' s' s := Same.eqv (keep_engMark e step refused s) h
theorem keep_engCmdEnd (e : Eng) (s : State) : Same 196608 s (engCmdEnd e s) := by unfold engCmdEnd; simp (disch := first | decide | (intros; (first | unfold IslSt.fencing | unfold IslSt.stepping | unfold Mgt.quiet | skip); first | rfl | (split <;> rfl)) | (intros; simp (disch := first | decide | (intros; (first | unfold IslSt.fencing | unfold IslSt.stepping | unfold Mgt.quiet | skip); first | rfl | (split <;> rfl))) only [same_refl, same_ite, ite_self, same_modEng_st, same_modEng])) only [same_refl, same_ite, ite_self, same_modEng_st, same_modEng]
theorem same_engCmdEnd {m' : Nat} {s' : State} {e : Eng} {s : State} (h : m' &&& 196608 = 196608) : Same m' s' (engCmdEnd e s) = Same m' s' s := Same.eqv (keep_engCmdEnd e s) h
theorem keep_dropEngineQueues (e : Eng) (s : State) : Same 6291456 s (dropEngineQueues e s) := by unfold dropEngineQueues; simp (disch := first | decide | (intros; (first | unfold IslSt.fencing | unfold IslSt.stepping | unfold Mgt.quiet | skip); first | rfl | (split <;> rfl)) | (intros; simp (disch := first | decide | (intros; (first | unfold IslSt.fencing | unfold IslSt.stepping | unfold Mgt.quiet | skip); first | rfl | (split <;> rfl))) only [same_refl, same_ite, ite_self, same_up_flow, same_forAll, same_dropQueued, same_modFlow])) only [same_refl, same_ite, ite_self, same_up_flow, same_forAll, same_dropQueued, same_modFlow]
theorem same_dropEngineQueues {m' : Nat} {s' : State} {e : Eng} {s : State} (h : m' &&& 6291456 = 6291456) : Same m' s' (dropEngineQueues e s) = Same m' s' s := Same.eqv (keep_dropEngineQueues e s) h
theorem keep_engDark (e : Eng) (s : State) : Same 6526976 s (engDark e s) := by unfold engDark; simp (disch := first | decide | (intros; (first | unfold IslSt.fencing | unfold IslSt.stepping | unfold Mgt.quiet | skip); first | rfl | (split <;> rfl)) | (intros; simp (disch := first | decide | (intros; (first | unfold IslSt.fencing | unfold IslSt.stepping | unfold Mgt.quiet | skip); first | rfl | (split <;> rfl))) only [same_refl, same_ite, ite_self, same_rampTxOff, same_engMark, same_modEng_st, same_modEng, same_dropEngineQueues])) only [same_refl, same_ite, ite_self, same_rampTxOff, same_engMark, same_modEng_st, same_modEng, same_dropEngineQueues]
theorem same_engDark {m' : Nat} {s' : State} {e : Eng} {s : State} (h : m' &&& 6526976 = 6526976) : Same m' s' (engDark e s) = Same m' s' s := Same.eqv (keep_engDark e s) h
theorem keep_engTry (e : Eng) (s : State) : Same 544716800 s (engTry e s) := by unfold engTry; simp (disch := decide) only [same_refl, same_ite, ite_self, same_up_aps, same_engDark, same_startSwitch, same_engCmdEnd, same_engMark]
theorem same_engTry {m' : Nat} {s' : State} {e : Eng} {s : State} (h : m' &&& 544716800 = 544716800) : Same m' s' (engTry e s) = Same m' s' s := Same.eqv (keep_engTry e s) h
theorem keep_finishSwitch (ofs : ℤ) (predictedOnly : Bool) (s : State) : Same 545241088 s (finishSwitch ofs predictedOnly s) := by unfold finishSwitch; (try simp (disch := first | decide | (intros; (first | unfold IslSt.fencing | unfold IslSt.stepping | unfold Mgt.quiet | skip); first | rfl | (split <;> rfl)) | (intros; simp (disch := first | decide | (intros; (first | unfold IslSt.fencing | unfold IslSt.stepping | unfold Mgt.quiet | skip); first | rfl | (split <;> rfl))) only [same_refl, same_ite, ite_self, same_up_aps, same_modEng_st, same_modEng, same_apsUpdate, same_engTry, same_forAll, same_apsEvent, same_count, same_startRerange])) only [same_refl, same_ite, ite_self, same_up_aps, same_modEng_st, same_modEng, same_apsUpdate, same_engTry, same_forAll, same_apsEvent, same_count, same_startRerange]); repeat' (split <;> try simp (disch := first | decide | (intros; (first | unfold IslSt.fencing | unfold IslSt.stepping | unfold Mgt.quiet | skip); first | rfl | (split <;> rfl)) | (intros; simp (disch := first | decide | (intros; (first | unfold IslSt.fencing | unfold IslSt.stepping | unfold Mgt.quiet | skip); first | rfl | (split <;> rfl))) only [same_refl, same_ite, ite_self, same_up_aps, same_modEng_st, same_modEng, same_apsUpdate, same_engTry, same_forAll, same_apsEvent, same_count, same_startRerange])) only [same_refl, same_ite, ite_self, same_up_aps, same_modEng_st, same_modEng, same_apsUpdate, same_engTry, same_forAll, same_apsEvent, same_count, same_startRerange])
theorem same_finishSwitch {m' : Nat} {s' : State} {ofs : ℤ} {predictedOnly : Bool} {s : State} (h : m' &&& 545241088 = 545241088) : Same m' s' (finishSwitch ofs predictedOnly s) = Same m' s' s := Same.eqv (keep_finishSwitch ofs predictedOnly s) h
theorem keep_execApsCommonOffsetApplied (s : State) {t' : State} (h : execApsCommonOffsetApplied s = .next t') : Same 545241088 s t' := by unfold execApsCommonOffsetApplied at h; (try simp only [act, actF] at h); cases h; simp (disch := decide) only [same_refl, same_ite, ite_self, same_finishSwitch]
theorem keep_execApsSettleTimeout (s : State) {t' : State} (h : execApsSettleTimeout s = .next t') : Same 545241088 s t' := by unfold execApsSettleTimeout at h; (try simp only [act, actF] at h); cases h; simp (disch := decide) only [same_refl, same_ite, ite_self, same_finishSwitch]
theorem keep_execApsWtrExpiry (s : State) {t' : State} (h : execApsWtrExpiry s = .next t') : Same 538419200 s t' := by unfold execApsWtrExpiry at h; (try simp only [act, actF] at h); cases h; (try simp (disch := first | decide | (intros; (first | unfold IslSt.fencing | unfold IslSt.stepping | unfold Mgt.quiet | skip); first | rfl | (split <;> rfl)) | (intros; simp (disch := first | decide | (intros; (first | unfold IslSt.fencing | unfold IslSt.stepping | unfold Mgt.quiet | skip); first | rfl | (split <;> rfl))) only [same_refl, same_ite, ite_self, same_up_aps, same_startSwitch])) only [same_refl, same_ite, ite_self, same_up_aps, same_startSwitch]); repeat' (split <;> try simp (disch := first | decide | (intros; (first | unfold IslSt.fencing | unfold IslSt.stepping | unfold Mgt.quiet | skip); first | rfl | (split <;> rfl)) | (intros; simp (disch := first | decide | (intros; (first | unfold IslSt.fencing | unfold IslSt.stepping | unfold Mgt.quiet | skip); first | rfl | (split <;> rfl))) only [same_refl, same_ite, ite_self, same_up_aps, same_startSwitch])) only [same_refl, same_ite, ite_self, same_up_aps, same_startSwitch])
theorem keep_clearHost (s : State) : Same 538419200 s (clearHost s) := by unfold clearHost; (try simp (disch := decide) only [same_refl, same_ite, ite_self, same_up_aps, same_apsEval]); repeat' (split <;> try simp (disch := decide) only [same_refl, same_ite, ite_self, same_up_aps, same_apsEval])
theorem same_clearHost {m' : Nat} {s' : State} {s : State} (h : m' &&& 538419200 = 538419200) : Same m' s' (clearHost s) = Same m' s' s := Same.eqv (keep_clearHost s) h
theorem keep_writeApsCmd (v : W32) (s : State) : Same 538419200 s (writeApsCmd v s).1 := by unfold writeApsCmd; (try simp (disch := first | decide | (intros; (first | unfold IslSt.fencing | unfold IslSt.stepping | unfold Mgt.quiet | skip); first | rfl | (split <;> rfl)) | (intros; simp (disch := first | decide | (intros; (first | unfold IslSt.fencing | unfold IslSt.stepping | unfold Mgt.quiet | skip); first | rfl | (split <;> rfl))) only [same_refl, same_ite, ite_self, same_up_aps, same_refuseOr, same_clearHost, same_apsEval])) only [same_refl, same_ite, ite_self, same_up_aps, same_refuseOr, same_clearHost, same_apsEval]); repeat' (split <;> try simp (disch := first | decide | (intros; (first | unfold IslSt.fencing | unfold IslSt.stepping | unfold Mgt.quiet | skip); first | rfl | (split <;> rfl)) | (intros; simp (disch := first | decide | (intros; (first | unfold IslSt.fencing | unfold IslSt.stepping | unfold Mgt.quiet | skip); first | rfl | (split <;> rfl))) only [same_refl, same_ite, ite_self, same_up_aps, same_refuseOr, same_clearHost, same_apsEval])) only [same_refl, same_ite, ite_self, same_up_aps, same_refuseOr, same_clearHost, same_apsEval])
theorem same_writeApsCmd {m' : Nat} {s' : State} {v : W32} {s : State} (h : m' &&& 538419200 = 538419200) : Same m' s' (writeApsCmd v s).1 = Same m' s' s := Same.eqv (keep_writeApsCmd v s) h
theorem keep_execApsCmdClear (s : State) {t' : State} (h : execApsCmdClear s = .next t') : Same 538419204 s t' := by unfold execApsCmdClear at h; (try simp only [act, actF] at h); cases h; simp (disch := decide) only [same_refl, same_ite, ite_self, same_setStatus, same_writeApsCmd]
theorem keep_execApsCmdLo (s : State) {t' : State} (h : execApsCmdLo s = .next t') : Same 538419204 s t' := by unfold execApsCmdLo at h; (try simp only [act, actF] at h); cases h; simp (disch := decide) only [same_refl, same_ite, ite_self, same_setStatus, same_writeApsCmd]
theorem keep_execApsCmdFsA (s : State) {t' : State} (h : execApsCmdFsA s = .next t') : Same 538419204 s t' := by unfold execApsCmdFsA at h; (try simp only [act, actF] at h); cases h; simp (disch := decide) only [same_refl, same_ite, ite_self, same_setStatus, same_writeApsCmd]
theorem keep_execApsCmdFsB (s : State) {t' : State} (h : execApsCmdFsB s = .next t') : Same 538419204 s t' := by unfold execApsCmdFsB at h; (try simp only [act, actF] at h); cases h; simp (disch := decide) only [same_refl, same_ite, ite_self, same_setStatus, same_writeApsCmd]
theorem keep_execApsCmdMsA (s : State) {t' : State} (h : execApsCmdMsA s = .next t') : Same 538419204 s t' := by unfold execApsCmdMsA at h; (try simp only [act, actF] at h); cases h; simp (disch := decide) only [same_refl, same_ite, ite_self, same_setStatus, same_writeApsCmd]
theorem keep_execApsCmdMsB (s : State) {t' : State} (h : execApsCmdMsB s = .next t') : Same 538419204 s t' := by unfold execApsCmdMsB at h; (try simp only [act, actF] at h); cases h; simp (disch := decide) only [same_refl, same_ite, ite_self, same_setStatus, same_writeApsCmd]

end Sys2Proof.Machine
end

