-- ==== Sys2Proof/Laws/FrameApr.lean ====
section
/-! SUPPORT. Which parts of the state each function of Machine/Apr.lean leaves alone, as the bit mask of the others. -/

namespace Sys2Proof.Machine

set_option linter.unusedSimpArgs false
set_option linter.unusedTactic false
set_option linter.unreachableTactic false

theorem keep_aprEvent (e : Eng) (refl : ℤ) (entry : ℕ) (s : State) : Same 49152 s (aprEvent e refl entry s) := by unfold aprEvent; simp (disch := first | decide | (intros; (first | unfold IslSt.fencing | unfold IslSt.stepping | unfold Mgt.quiet | skip); first | rfl | (split <;> rfl)) | (intros; simp (disch := first | decide | (intros; (first | unfold IslSt.fencing | unfold IslSt.stepping | unfold Mgt.quiet | skip); first | rfl | (split <;> rfl))) only [same_refl, same_ite, ite_self, same_oncePerSec, same_raise])) only [same_refl, same_ite, ite_self, same_oncePerSec, same_raise]
theorem same_aprEvent {m' : Nat} {s' : State} {e : Eng} {refl : ℤ} {entry : ℕ} {s : State} (h : m' &&& 49152 = 49152) : Same m' s' (aprEvent e refl entry s) = Same m' s' s := Same.eqv (keep_aprEvent e refl entry s) h
theorem keep_aprRamp (e : Eng) (n : ℕ) (s : State) : Same 2 s (aprRamp e n s).2 := by unfold aprRamp; simp (disch := decide) only [same_refl, same_ite, ite_self, same_draw]
theorem same_aprRamp {m' : Nat} {s' : State} {e : Eng} {n : ℕ} {s : State} (h : m' &&& 2 = 2) : Same m' s' (aprRamp e n s).2 = Same m' s' s := Same.eqv (keep_aprRamp e n s) h
theorem keep_setApr (e : Eng) (n : ℕ) (refl : ℤ) (s : State) : Same 538419202 s (setApr e n refl s) := by unfold setApr; simp (disch := decide) only [same_refl, same_ite, ite_self, same_modDown, same_apsUpdate, same_aprRamp]
theorem same_setApr {m' : Nat} {s' : State} {e : Eng} {n : ℕ} {refl : ℤ} {s : State} (h : m' &&& 538419202 = 538419202) : Same m' s' (setApr e n refl s) = Same m' s' s := Same.eqv (keep_setApr e n refl s) h
theorem keep_execAprReduce (e : Eng) (refl : ℤ) (s : State) {t' : State} (h : execAprReduce e refl s = .next t') : Same 538441730 s t' := by unfold execAprReduce at h; (try simp only [act, actF] at h); cases h; simp (disch := decide) only [same_refl, same_ite, ite_self, same_setApr, same_aprEvent, same_setFlag]
theorem keep_execAprRestoreStart (e : Eng) (refl : ℤ) (s : State) {t' : State} (h : execAprRestoreStart e refl s = .next t') : Same 538419202 s t' := by unfold execAprRestoreStart at h; (try simp only [act, actF] at h); cases h; simp (disch := decide) only [same_refl, same_ite, ite_self, same_setApr]
theorem keep_execAprRestoreDone (e : Eng) (refl : ℤ) (s : State) {t' : State} (h : execAprRestoreDone e refl s = .next t') : Same 538441730 s t' := by unfold execAprRestoreDone at h; (try simp only [act, actF] at h); cases h; simp (disch := decide) only [same_refl, same_ite, ite_self, same_setApr, same_aprEvent, same_setFlag]

end Sys2Proof.Machine
end

