-- ==== Sys2Proof/Laws/FrameIndex.lean ====
section
/-! SUPPORT. Which parts of the state each function of Machine/Index.lean leaves alone, as the bit mask of the others. -/

namespace Sys2Proof.Machine

set_option linter.unusedSimpArgs false
set_option linter.unusedTactic false
set_option linter.unreachableTactic false

theorem keep_moveEntry (f : ℕ) (s : State) : Same 4194304 s (moveEntry f s) := by unfold moveEntry; simp (disch := decide) only [same_refl, same_ite, ite_self, same_modFlow]
theorem same_moveEntry {m' : Nat} {s' : State} {f : ℕ} {s : State} (h : m' &&& 4194304 = 4194304) : Same m' s' (moveEntry f s) = Same m' s' s := Same.eqv (keep_moveEntry f s) h
theorem keep_findFlow (ktype : ℕ) (key : ℕ) (s : State) : Same 608212994 s (findFlow ktype key s).2 := by unfold findFlow; simp (disch := decide) only [same_refl, same_ite, ite_self, same_memRead]
theorem same_findFlow {m' : Nat} {s' : State} {ktype : ℕ} {key : ℕ} {s : State} (h : m' &&& 608212994 = 608212994) : Same m' s' (findFlow ktype key s).2 = Same m' s' s := Same.eqv (keep_findFlow ktype key s) h

end Sys2Proof.Machine
end

