-- ==== Sys2Proof/Laws/FrameBridge.lean ====
section
/-! SUPPORT. Which parts of the state each function of Machine/Bridge.lean leaves alone, as the bit mask of the others. -/

namespace Sys2Proof.Machine

set_option linter.unusedSimpArgs false
set_option linter.unusedTactic false
set_option linter.unreachableTactic false

theorem keep_staleReplies (i : Isl) (n : ℕ) (s : State) : Same 536909824 s (staleReplies i n s) := by unfold staleReplies; simp (disch := first | decide | (intros; (first | unfold IslSt.fencing | unfold IslSt.stepping | unfold Mgt.quiet | skip); first | rfl | (split <;> rfl)) | (intros; simp (disch := first | decide | (intros; (first | unfold IslSt.fencing | unfold IslSt.stepping | unfold Mgt.quiet | skip); first | rfl | (split <;> rfl))) only [same_refl, same_ite, ite_self, same_modIsl_all, same_modIsl_fences, same_modIsl_steps, same_modIsl_incarn, same_modIsl, same_perSecond, same_setFlag, same_count])) only [same_refl, same_ite, ite_self, same_modIsl_all, same_modIsl_fences, same_modIsl_steps, same_modIsl_incarn, same_modIsl, same_perSecond, same_setFlag, same_count]
theorem same_staleReplies {m' : Nat} {s' : State} {i : Isl} {n : ℕ} {s : State} (h : m' &&& 536909824 = 536909824) : Same m' s' (staleReplies i n s) = Same m' s' s := Same.eqv (keep_staleReplies i n s) h

end Sys2Proof.Machine
end

