-- ==== Sys2Proof/Laws/FramePower.lean ====
section
/-! SUPPORT. Which parts of the state each function of Machine/Power.lean leaves alone, as the bit mask of the others. -/

namespace Sys2Proof.Machine

set_option linter.unusedSimpArgs false
set_option linter.unusedTactic false
set_option linter.unreachableTactic false

theorem keep_feedEvent (code : ℕ) (f : Feed) (mv : ℤ) (s : State) : Same 32768 s (feedEvent code f mv s) := by unfold feedEvent; simp (disch := first | decide | (intros; (first | unfold IslSt.fencing | unfold IslSt.stepping | unfold Mgt.quiet | skip); first | rfl | (split <;> rfl)) | (intros; simp (disch := first | decide | (intros; (first | unfold IslSt.fencing | unfold IslSt.stepping | unfold Mgt.quiet | skip); first | rfl | (split <;> rfl))) only [same_refl, same_ite, ite_self, same_when, same_raise])) only [same_refl, same_ite, ite_self, same_when, same_raise]
theorem same_feedEvent {m' : Nat} {s' : State} {code : ℕ} {f : Feed} {mv : ℤ} {s : State} (h : m' &&& 32768 = 32768) : Same m' s' (feedEvent code f mv s) = Same m' s' s := Same.eqv (keep_feedEvent code f mv s) h
theorem keep_feedEventF (code : ℕ) (f : Feed) (mv : ℤ) (b : ℕ) (s : State) : Same 38912 s (feedEventF code f mv b s) := by unfold feedEventF; simp (disch := first | decide | (intros; (first | unfold IslSt.fencing | unfold IslSt.stepping | unfold Mgt.quiet | skip); first | rfl | (split <;> rfl)) | (intros; simp (disch := first | decide | (intros; (first | unfold IslSt.fencing | unfold IslSt.stepping | unfold Mgt.quiet | skip); first | rfl | (split <;> rfl))) only [same_refl, same_ite, ite_self, same_when, same_raiseF])) only [same_refl, same_ite, ite_self, same_when, same_raiseF]
theorem same_feedEventF {m' : Nat} {s' : State} {code : ℕ} {f : Feed} {mv : ℤ} {b : ℕ} {s : State} (h : m' &&& 38912 = 38912) : Same m' s' (feedEventF code f mv b s) = Same m' s' s := Same.eqv (keep_feedEventF code f mv b s) h
theorem keep_execFeedMated (f : Feed) (mv : ℤ) (caseTemp : ℤ) (s : State) {t' : State} (h : execFeedMated f mv caseTemp s = .next t') : Same 16 s t' := by unfold execFeedMated at h; (try simp only [act, actF] at h); cases h; simp (disch := decide) only [same_refl, same_ite, ite_self, same_up_pwr, same_modFeed]
theorem keep_freshFeeds (f : Feed) (mv : ℤ) (s : State) : Same 16 s (freshFeeds f mv s) := by unfold freshFeeds; simp (disch := decide) only [same_refl, same_ite, ite_self, same_modFeed]
theorem same_freshFeeds {m' : Nat} {s' : State} {f : Feed} {mv : ℤ} {s : State} (h : m' &&& 16 = 16) : Same m' s' (freshFeeds f mv s) = Same m' s' s := Same.eqv (keep_freshFeeds f mv s) h
theorem keep_execPowerGood (f : Feed) (mv : ℤ) (adrSel0 : Bool) (adrSel1 : Bool) (s : State) {t' : State} (h : execPowerGood f mv adrSel0 adrSel1 s = .next t') : Same 68719476600 s t' := by unfold execPowerGood at h; (try simp only [act, actF] at h); cases h; simp (disch := decide) only [same_refl, same_ite, ite_self, same_up_pwr_pins, same_beginStart, same_keep, same_freshFeeds, same_noteFault]
theorem keep_execHoldupCharged (s : State) {t' : State} (h : execHoldupCharged s = .next t') : Same 16 s t' := by unfold execHoldupCharged at h; (try simp only [act, actF] at h); cases h; simp (disch := decide) only [same_refl, same_ite, ite_self, same_up_pwr]
theorem keep_execPwrLow (f : Feed) (mv : ℤ) (s : State) {t' : State} (h : execPwrLow f mv s = .next t') : Same 38928 s t' := by unfold execPwrLow at h; (try simp only [act, actF] at h); cases h; simp (disch := decide) only [same_refl, same_ite, ite_self, same_feedEventF, same_modFeed]
theorem keep_execPwrLowClear (f : Feed) (mv : ℤ) (s : State) {t' : State} (h : execPwrLowClear f mv s = .next t') : Same 32784 s t' := by unfold execPwrLowClear at h; (try simp only [act, actF] at h); cases h; simp (disch := decide) only [same_refl, same_ite, ite_self, same_feedEvent, same_modFeed]
theorem keep_execPwrFeedLost (f : Feed) (mv : ℤ) (s : State) {t' : State} (h : execPwrFeedLost f mv s = .next t') : Same 38928 s t' := by unfold execPwrFeedLost at h; (try simp only [act, actF] at h); cases h; simp (disch := decide) only [same_refl, same_ite, ite_self, same_feedEventF, same_modFeed]
theorem keep_execPwrFeedHigh (f : Feed) (mv : ℤ) (s : State) {t' : State} (h : execPwrFeedHigh f mv s = .next t') : Same 38928 s t' := by unfold execPwrFeedHigh at h; (try simp only [act, actF] at h); cases h; simp (disch := decide) only [same_refl, same_ite, ite_self, same_feedEventF, same_modFeed]
theorem keep_execFeedOvervoltSwitchOpen (f : Feed) (mv : ℤ) (s : State) {t' : State} (h : execFeedOvervoltSwitchOpen f mv s = .next t') : Same 16 s t' := by unfold execFeedOvervoltSwitchOpen at h; (try simp only [act, actF] at h); cases h; simp (disch := decide) only [same_refl, same_ite, ite_self, same_modFeed]
theorem keep_execFeedSwitchReclose (f : Feed) (mv : ℤ) (s : State) {t' : State} (h : execFeedSwitchReclose f mv s = .next t') : Same 16 s t' := by unfold execFeedSwitchReclose at h; (try simp only [act, actF] at h); cases h; simp (disch := decide) only [same_refl, same_ite, ite_self, same_modFeed]
theorem keep_execFeedRestored (f : Feed) (mv : ℤ) (s : State) {t' : State} (h : execFeedRestored f mv s = .next t') : Same 16 s t' := by unfold execFeedRestored at h; (try simp only [act, actF] at h); cases h; simp (disch := decide) only [same_refl, same_ite, ite_self, same_modFeed]
theorem keep_emergDark (s : State) : Same 18209807122 s (emergDark s) := by unfold emergDark; simp (disch := decide) only [same_refl, same_ite, ite_self, same_up_pwr, same_dramOff, same_appendAll, same_saveRecords, same_darken]
theorem same_emergDark {m' : Nat} {s' : State} {s : State} (h : m' &&& 18209807122 = 18209807122) : Same m' s' (emergDark s) = Same m' s' s := Same.eqv (keep_emergDark s) h
theorem keep_dimLasers (s : State) : Same 196608 s (dimLasers s) := by unfold dimLasers; simp (disch := first | decide | (intros; (first | unfold IslSt.fencing | unfold IslSt.stepping | unfold Mgt.quiet | skip); first | rfl | (split <;> rfl)) | (intros; simp (disch := first | decide | (intros; (first | unfold IslSt.fencing | unfold IslSt.stepping | unfold Mgt.quiet | skip); first | rfl | (split <;> rfl))) only [same_refl, same_ite, ite_self, same_modDown, same_forAll])) only [same_refl, same_ite, ite_self, same_modDown, same_forAll]
theorem same_dimLasers {m' : Nat} {s' : State} {s : State} (h : m' &&& 196608 = 196608) : Same m' s' (dimLasers s) = Same m' s' s := Same.eqv (keep_dimLasers s) h
theorem keep_beginEmerg (k : Emerg) (s : State) : Same 19283548946 s (beginEmerg k s) := by unfold beginEmerg; simp (disch := first | decide | (intros; (first | unfold IslSt.fencing | unfold IslSt.stepping | unfold Mgt.quiet | skip); first | rfl | (split <;> rfl)) | (intros; simp (disch := first | decide | (intros; (first | unfold IslSt.fencing | unfold IslSt.stepping | unfold Mgt.quiet | skip); first | rfl | (split <;> rfl))) only [same_refl, same_ite, ite_self, same_up_pwr, same_emergDark, same_stopSchedulers, same_dimLasers, same_closeSuite, same_when])) only [same_refl, same_ite, ite_self, same_up_pwr, same_emergDark, same_stopSchedulers, same_dimLasers, same_closeSuite, same_when]
theorem same_beginEmerg {m' : Nat} {s' : State} {k : Emerg} {s : State} (h : m' &&& 19283548946 = 19283548946) : Same m' s' (beginEmerg k s) = Same m' s' s := Same.eqv (keep_beginEmerg k s) h
theorem keep_execPwrFail (mv : ℤ) (s : State) {t' : State} (h : execPwrFail mv s = .next t') : Same 19283548946 s t' := by unfold execPwrFail at h; (try simp only [act, actF] at h); cases h; simp (disch := decide) only [same_refl, same_ite, ite_self, same_up_pwr, same_beginEmerg, same_raise, same_noteFault]
theorem keep_execShutdownLaserRampDone (s : State) {t' : State} (h : execShutdownLaserRampDone s = .next t') : Same 18209807122 s t' := by unfold execShutdownLaserRampDone at h; (try simp only [act, actF] at h); cases h; simp (disch := decide) only [same_refl, same_ite, ite_self, same_emergDark]
theorem keep_emergRecord (written : ℕ) (recOk : Bool) (s : State) : Same 256 s (emergRecord written recOk s) := by unfold emergRecord; simp (disch := decide) only [same_refl, same_ite, ite_self, same_up_flash, same_writeRec]
theorem same_emergRecord {m' : Nat} {s' : State} {written : ℕ} {recOk : Bool} {s : State} (h : m' &&& 256 = 256) : Same m' s' (emergRecord written recOk s) = Same m' s' s := Same.eqv (keep_emergRecord written recOk s) h
theorem keep_execEmergencyShutdownEnd (written : ℕ) (recOk : Bool) (s : State) {t' : State} (h : execEmergencyShutdownEnd written recOk s = .next t') : Same 68719476600 s t' := by unfold execEmergencyShutdownEnd at h; (try simp only [act, actF] at h); cases h; simp (disch := decide) only [same_refl, same_ite, ite_self, same_up_pwr, same_emergRecord, same_powerOff, same_noteFault]
theorem keep_execFeedLossRestart (mv : ℤ) (s : State) {t' : State} (h : execFeedLossRestart mv s = .next t') : Same 16 s t' := by unfold execFeedLossRestart at h; (try simp only [act, actF] at h); cases h; simp (disch := decide) only [same_refl, same_ite, ite_self, same_up_pwr]
theorem keep_stepIsl (i : Isl) (cause : Nat) (f : IslSt → IslSt) (s : State) (hf : ∀ x, (f x).fencing = x.fencing) : Same 4831870976 s (stepIsl i cause f s) := by
  unfold stepIsl; dsimp only; split
  · exact (same_modIsl_fences (by decide) hf).mpr ((same_refl _ s).mpr trivial)
  · rw [same_raise (by decide)]; split
    · rw [same_countCond (by decide)]; exact (same_modIsl_fences (by decide) hf).mpr ((same_refl _ s).mpr trivial)
    · exact (same_modIsl_fences (by decide) hf).mpr ((same_refl _ s).mpr trivial)

theorem same_stepIsl {m' : Nat} {s' : State} {i : Isl} {cause : Nat} {f : IslSt → IslSt} {s : State} (h : m' &&& 4831870976 = 4831870976) (hf : ∀ x, (f x).fencing = x.fencing) : Same m' s' (stepIsl i cause f s) = Same m' s' s := Same.eqv (keep_stepIsl i cause f s hf) h
theorem keep_execSagStart (q : Sag) (s : State) {t' : State} (h : execSagStart q s = .next t') : Same 4831870976 s t' := by unfold execSagStart at h; (try simp only [act, actF] at h); cases h; simp (disch := first | decide | (intros; (first | unfold IslSt.fencing | unfold IslSt.stepping | unfold Mgt.quiet | skip); first | rfl | (split <;> rfl)) | (intros; simp (disch := first | decide | (intros; (first | unfold IslSt.fencing | unfold IslSt.stepping | unfold Mgt.quiet | skip); first | rfl | (split <;> rfl))) only [same_refl, same_ite, ite_self, same_modIsl_all, same_modIsl_fences, same_modIsl_steps, same_modIsl_incarn, same_modIsl, same_countCond])) only [same_refl, same_ite, ite_self, same_modIsl_all, same_modIsl_fences, same_modIsl_steps, same_modIsl_incarn, same_modIsl, same_countCond]
theorem keep_execSagClear (i : Isl) (s : State) {t' : State} (h : execSagClear i s = .next t') : Same 4295000064 s t' := by unfold execSagClear at h; (try simp only [act, actF] at h); cases h; simp (disch := first | decide | (intros; (first | unfold IslSt.fencing | unfold IslSt.stepping | unfold Mgt.quiet | skip); first | rfl | (split <;> rfl)) | (intros; simp (disch := first | decide | (intros; (first | unfold IslSt.fencing | unfold IslSt.stepping | unfold Mgt.quiet | skip); first | rfl | (split <;> rfl))) only [same_refl, same_ite, ite_self, same_modIsl_all, same_modIsl_fences, same_modIsl_steps, same_modIsl_incarn, same_modIsl])) only [same_refl, same_ite, ite_self, same_modIsl_all, same_modIsl_fences, same_modIsl_steps, same_modIsl_incarn, same_modIsl]
theorem keep_execPwrDroopLong (i : Isl) (s : State) {t' : State} (h : execPwrDroopLong i s = .next t') : Same 4831877120 s t' := by unfold execPwrDroopLong at h; (try simp only [act, actF] at h); cases h; simp (disch := first | decide | (intros; (first | unfold IslSt.fencing | unfold IslSt.stepping | unfold Mgt.quiet | skip); first | rfl | (split <;> rfl)) | (intros; simp (disch := first | decide | (intros; (first | unfold IslSt.fencing | unfold IslSt.stepping | unfold Mgt.quiet | skip); first | rfl | (split <;> rfl))) only [same_refl, same_ite, ite_self, same_count, same_raiseF, same_stepIsl])) only [same_refl, same_ite, ite_self, same_count, same_raiseF, same_stepIsl]
theorem keep_execDroopStepDown (i : Isl) (s : State) {t' : State} (h : execDroopStepDown i s = .next t') : Same 4831870976 s t' := by unfold execDroopStepDown at h; (try simp only [act, actF] at h); cases h; simp (disch := first | decide | (intros; (first | unfold IslSt.fencing | unfold IslSt.stepping | unfold Mgt.quiet | skip); first | rfl | (split <;> rfl)) | (intros; simp (disch := first | decide | (intros; (first | unfold IslSt.fencing | unfold IslSt.stepping | unfold Mgt.quiet | skip); first | rfl | (split <;> rfl))) only [same_refl, same_ite, ite_self, same_stepIsl])) only [same_refl, same_ite, ite_self, same_stepIsl]
theorem keep_execPwrDroopFloor (i : Isl) (s : State) {t' : State} (h : execPwrDroopFloor i s = .next t') : Same 4429223936 s t' := by unfold execPwrDroopFloor at h; (try simp only [act, actF] at h); cases h; simp (disch := first | decide | (intros; (first | unfold IslSt.fencing | unfold IslSt.stepping | unfold Mgt.quiet | skip); first | rfl | (split <;> rfl)) | (intros; simp (disch := first | decide | (intros; (first | unfold IslSt.fencing | unfold IslSt.stepping | unfold Mgt.quiet | skip); first | rfl | (split <;> rfl))) only [same_refl, same_ite, ite_self, same_noteFault, same_raiseF, same_modIsl_all, same_modIsl_fences, same_modIsl_steps, same_modIsl_incarn, same_modIsl])) only [same_refl, same_ite, ite_self, same_noteFault, same_raiseF, same_modIsl_all, same_modIsl_fences, same_modIsl_steps, same_modIsl_incarn, same_modIsl]
theorem keep_execDroopStepUp (i : Isl) (s : State) {t' : State} (h : execDroopStepUp i s = .next t') : Same 4966088704 s t' := by unfold execDroopStepUp at h; (try simp only [act, actF] at h); cases h; simp (disch := first | decide | (intros; (first | unfold IslSt.fencing | unfold IslSt.stepping | unfold Mgt.quiet | skip); first | rfl | (split <;> rfl)) | (intros; simp (disch := first | decide | (intros; (first | unfold IslSt.fencing | unfold IslSt.stepping | unfold Mgt.quiet | skip); first | rfl | (split <;> rfl))) only [same_refl, same_ite, ite_self, same_noteFault, same_stepIsl])) only [same_refl, same_ite, ite_self, same_noteFault, same_stepIsl]
theorem keep_execPwrElasticSlip (e : Eng) (rx : Bool) (words : ℕ) (s : State) {t' : State} (h : execPwrElasticSlip e rx words s = .next t') : Same 537106434 s t' := by unfold execPwrElasticSlip at h; (try simp only [act, actF] at h); cases h; simp (disch := decide) only [same_refl, same_ite, ite_self, same_raiseF, same_count, same_zeroWords, same_dropWords]
theorem keep_takePower (p : ℕ) (s : State) : Same 1073741824 s (takePower p s) := by unfold takePower; simp (disch := decide) only [same_refl, same_ite, ite_self, same_up_bist]
theorem same_takePower {m' : Nat} {s' : State} {p : ℕ} {s : State} (h : m' &&& 1073741824 = 1073741824) : Same m' s' (takePower p s) = Same m' s' s := Same.eqv (keep_takePower p s) h
theorem keep_capDown (s : State) : Same 4831870976 s (capDown s) := by unfold capDown; simp (disch := first | decide | (intros; (first | unfold IslSt.fencing | unfold IslSt.stepping | unfold Mgt.quiet | skip); first | rfl | (split <;> rfl)) | (intros; simp (disch := first | decide | (intros; (first | unfold IslSt.fencing | unfold IslSt.stepping | unfold Mgt.quiet | skip); first | rfl | (split <;> rfl))) only [same_refl, same_ite, ite_self, same_stepIsl, same_forAll])) only [same_refl, same_ite, ite_self, same_stepIsl, same_forAll]
theorem same_capDown {m' : Nat} {s' : State} {s : State} (h : m' &&& 4831870976 = 4831870976) : Same m' s' (capDown s) = Same m' s' s := Same.eqv (keep_capDown s) h
theorem keep_capUp (s : State) : Same 4831870992 s (capUp s) := by unfold capUp; simp (disch := first | decide | (intros; (first | unfold IslSt.fencing | unfold IslSt.stepping | unfold Mgt.quiet | skip); first | rfl | (split <;> rfl)) | (intros; simp (disch := first | decide | (intros; (first | unfold IslSt.fencing | unfold IslSt.stepping | unfold Mgt.quiet | skip); first | rfl | (split <;> rfl))) only [same_refl, same_ite, ite_self, same_up_pwr, same_forAll, same_stepIsl])) only [same_refl, same_ite, ite_self, same_up_pwr, same_forAll, same_stepIsl]
theorem same_capUp {m' : Nat} {s' : State} {s : State} (h : m' &&& 4831870992 = 4831870992) : Same m' s' (capUp s) = Same m' s' s := Same.eqv (keep_capUp s) h
theorem keep_execPwrCapHit (power : ℕ) (s : State) {t' : State} (h : execPwrCapHit power s = .next t') : Same 1073780752 s t' := by unfold execPwrCapHit at h; (try simp only [act, actF] at h); cases h; simp (disch := decide) only [same_refl, same_ite, ite_self, same_up_pwr, same_takePower, same_raiseF]
theorem keep_execCapStepDown (power : ℕ) (s : State) {t' : State} (h : execCapStepDown power s = .next t') : Same 5905612816 s t' := by unfold execCapStepDown at h; (try simp only [act, actF] at h); cases h; simp (disch := decide) only [same_refl, same_ite, ite_self, same_up_pwr, same_capDown, same_takePower]
theorem keep_execCapStepUp (power : ℕ) (s : State) {t' : State} (h : execCapStepUp power s = .next t') : Same 5905612816 s t' := by unfold execCapStepUp at h; (try simp only [act, actF] at h); cases h; simp (disch := decide) only [same_refl, same_ite, ite_self, same_capUp, same_takePower]
theorem keep_setCase (temp : ℤ) (s : State) : Same 16 s (setCase temp s) := by unfold setCase; simp (disch := decide) only [same_refl, same_ite, ite_self, same_up_pwr]
theorem same_setCase {m' : Nat} {s' : State} {temp : ℤ} {s : State} (h : m' &&& 16 = 16) : Same m' s' (setCase temp s) = Same m' s' s := Same.eqv (keep_setCase temp s) h
theorem keep_execThermHigh (temp : ℤ) (s : State) {t' : State} (h : execThermHigh temp s = .next t') : Same 38928 s t' := by unfold execThermHigh at h; (try simp only [act, actF] at h); cases h; simp (disch := decide) only [same_refl, same_ite, ite_self, same_up_pwr, same_setCase, same_raiseF]
theorem keep_execThermHighClear (temp : ℤ) (s : State) {t' : State} (h : execThermHighClear temp s = .next t') : Same 32784 s t' := by unfold execThermHighClear at h; (try simp only [act, actF] at h); cases h; simp (disch := decide) only [same_refl, same_ite, ite_self, same_up_pwr, same_setCase, same_raise]
theorem keep_setSensor (sensor : ℕ) (temp : ℤ) (s : State) : Same 16 s (setSensor sensor temp s) := by unfold setSensor; (try simp (disch := decide) only [same_refl, same_ite, ite_self, same_setCase]); repeat' (split <;> try simp (disch := decide) only [same_refl, same_ite, ite_self, same_setCase])
theorem same_setSensor {m' : Nat} {s' : State} {sensor : ℕ} {temp : ℤ} {s : State} (h : m' &&& 16 = 16) : Same m' s' (setSensor sensor temp s) = Same m' s' s := Same.eqv (keep_setSensor sensor temp s) h
theorem keep_execThermCrit (sensor : ℕ) (temp : ℤ) (s : State) {t' : State} (h : execThermCrit sensor temp s = .next t') : Same 19283548946 s t' := by unfold execThermCrit at h; (try simp only [act, actF] at h); cases h; simp (disch := decide) only [same_refl, same_ite, ite_self, same_beginEmerg, same_setSensor, same_raise, same_noteFault]

end Sys2Proof.Machine
end

