-- ==== Sys2Proof/Laws/FrameKeys.lean ====
section
/-! SUPPORT. Which parts of the state each function of Machine/Keys.lean leaves alone, as the bit mask of the others. -/

namespace Sys2Proof.Machine

set_option linter.unusedSimpArgs false
set_option linter.unusedTactic false
set_option linter.unreachableTactic false

theorem keep_secEvent (i : Isl) (code : ℕ) (obj : ℕ) (data : BitVec 80) (s : State) : Same 49152 s (secEvent i code obj data s) := by unfold secEvent; simp (disch := first | decide | (intros; (first | unfold IslSt.fencing | unfold IslSt.stepping | unfold Mgt.quiet | skip); first | rfl | (split <;> rfl)) | (intros; simp (disch := first | decide | (intros; (first | unfold IslSt.fencing | unfold IslSt.stepping | unfold Mgt.quiet | skip); first | rfl | (split <;> rfl))) only [same_refl, same_ite, ite_self, same_oncePerSec, same_raise])) only [same_refl, same_ite, ite_self, same_oncePerSec, same_raise]
theorem same_secEvent {m' : Nat} {s' : State} {i : Isl} {code : ℕ} {obj : ℕ} {data : BitVec 80} {s : State} (h : m' &&& 49152 = 49152) : Same m' s' (secEvent i code obj data s) = Same m' s' s := Same.eqv (keep_secEvent i code obj data s) h
theorem keep_countReg (e : Eng) (l : ℕ) (i : ℕ) (s : State) : Same 536870912 s (countReg e l i s) := by unfold countReg; simp (disch := decide) only [same_refl, same_ite, ite_self, same_countLeaf, same_count]
theorem same_countReg {m' : Nat} {s' : State} {e : Eng} {l : ℕ} {i : ℕ} {s : State} (h : m' &&& 536870912 = 536870912) : Same m' s' (countReg e l i s) = Same m' s' s := Same.eqv (keep_countReg e l i s) h
theorem keep_sendRec (e : Eng) (l : LeafId) (rtype : ℕ) (body : List Byte) (s : State) : Same 720896 s (sendRec e l rtype body s) := by unfold sendRec; simp (disch := decide) only [same_refl, same_ite, ite_self, same_sendMsg, same_modLeaf]
theorem same_sendRec {m' : Nat} {s' : State} {e : Eng} {l : LeafId} {rtype : ℕ} {body : List Byte} {s : State} (h : m' &&& 720896 = 720896) : Same m' s' (sendRec e l rtype body s) = Same m' s' s := Same.eqv (keep_sendRec e l rtype body s) h
theorem keep_startExchange (e : Eng) (l : LeafId) (s : State) : Same 34275328 s (startExchange e l s) := by unfold startExchange; simp (disch := decide) only [same_refl, same_ite, ite_self, same_sendRec, same_modLeaf, same_shake, same_addWait]
theorem same_startExchange {m' : Nat} {s' : State} {e : Eng} {l : LeafId} {s : State} (h : m' &&& 34275328 = 34275328) : Same m' s' (startExchange e l s) = Same m' s' s := Same.eqv (keep_startExchange e l s) h
theorem keep_failExchange (e : Eng) (l : LeafId) (cause : ℕ) (s : State) : Same 537450496 s (failExchange e l cause s) := by unfold failExchange; simp (disch := decide) only [same_refl, same_ite, ite_self, same_modLeaf, same_setFlag, same_secEvent, same_countReg]
theorem same_failExchange {m' : Nat} {s' : State} {e : Eng} {l : LeafId} {cause : ℕ} {s : State} (h : m' &&& 537450496 = 537450496) : Same m' s' (failExchange e l cause s) = Same m' s' s := Same.eqv (keep_failExchange e l cause s) h
theorem keep_deliverGroup (e : Eng) (l : LeafId) (g : ℕ) (s : State) : Same 34275328 s (deliverGroup e l g s) := by unfold deliverGroup; simp (disch := decide) only [same_refl, same_ite, ite_self, same_sendRec, same_modLeaf, same_makeGen]
theorem same_deliverGroup {m' : Nat} {s' : State} {e : Eng} {l : LeafId} {g : ℕ} {s : State} (h : m' &&& 34275328 = 34275328) : Same m' s' (deliverGroup e l g s) = Same m' s' s := Same.eqv (keep_deliverGroup e l g s) h
theorem keep_firstKey (e : Eng) (g : ℕ) (s : State) : Same 570425344 s (firstKey e g s) := by unfold firstKey; simp (disch := decide) only [same_refl, same_ite, ite_self, same_shake, same_modGk, same_writeSlot]
theorem same_firstKey {m' : Nat} {s' : State} {e : Eng} {g : ℕ} {s : State} (h : m' &&& 570425344 = 570425344) : Same m' s' (firstKey e g s) = Same m' s' s := Same.eqv (keep_firstKey e g s) h
theorem keep_pumpLeaf (e : Eng) (l : LeafId) (s : State) : Same 571146240 s (pumpLeaf e l s) := by unfold pumpLeaf; (try simp (disch := decide) only [same_refl, same_ite, ite_self, same_addWait, same_firstKey, same_deliverGroup]); repeat' (split <;> try simp (disch := decide) only [same_refl, same_ite, ite_self, same_addWait, same_firstKey, same_deliverGroup])
theorem same_pumpLeaf {m' : Nat} {s' : State} {e : Eng} {l : LeafId} {s : State} (h : m' &&& 571146240 = 571146240) : Same m' s' (pumpLeaf e l s) = Same m' s' s := Same.eqv (keep_pumpLeaf e l s) h
theorem keep_wantGroup (e : Eng) (l : LeafId) (g : ℕ) (s : State) : Same 571146240 s (wantGroup e l g s) := by unfold wantGroup; simp (disch := decide) only [same_refl, same_ite, ite_self, same_pumpLeaf, same_modLeaf]
theorem same_wantGroup {m' : Nat} {s' : State} {e : Eng} {l : LeafId} {g : ℕ} {s : State} (h : m' &&& 571146240 = 571146240) : Same m' s' (wantGroup e l g s) = Same m' s' s := Same.eqv (keep_wantGroup e l g s) h
theorem keep_requestRekey (k : ℕ) (trigger : ℕ) (s : State) : Same 33554432 s (requestRekey k trigger s) := by unfold requestRekey; (try simp (disch := decide) only [same_refl, same_ite, ite_self, same_modGk, same_deferRekey, same_modSlot]); repeat' (split <;> try simp (disch := decide) only [same_refl, same_ite, ite_self, same_modGk, same_deferRekey, same_modSlot])
theorem same_requestRekey {m' : Nat} {s' : State} {k : ℕ} {trigger : ℕ} {s : State} (h : m' &&& 33554432 = 33554432) : Same m' s' (requestRekey k trigger s) = Same m' s' s := Same.eqv (keep_requestRekey k trigger s) h
theorem keep_startRekey (k : ℕ) (s : State) : Same 571195392 s (startRekey k s) := by unfold startRekey; (try simp (disch := decide) only [same_refl, same_ite, ite_self, same_sendRec, same_modLeaf, same_rewriteSlot]); repeat' (split <;> try simp (disch := decide) only [same_refl, same_ite, ite_self, same_sendRec, same_modLeaf, same_rewriteSlot])
theorem same_startRekey {m' : Nat} {s' : State} {k : ℕ} {s : State} (h : m' &&& 571195392 = 571195392) : Same m' s' (startRekey k s) = Same m' s' s := Same.eqv (keep_startRekey k s) h
theorem keep_closeGroup (e : Eng) (g : ℕ) (s : State) : Same 570474496 s (closeGroup e g s) := by unfold closeGroup; simp (disch := decide) only [same_refl, same_ite, ite_self, same_rewriteSlot, same_modGk]
theorem same_closeGroup {m' : Nat} {s' : State} {e : Eng} {g : ℕ} {s : State} (h : m' &&& 570474496 = 570474496) : Same m' s' (closeGroup e g s) = Same m' s' s := Same.eqv (keep_closeGroup e g s) h
theorem keep_startGroup (e : Eng) (g : ℕ) (s : State) : Same 571195392 s (startGroup e g s) := by unfold startGroup; simp (disch := first | decide | (intros; (first | unfold IslSt.fencing | unfold IslSt.stepping | unfold Mgt.quiet | skip); first | rfl | (split <;> rfl)) | (intros; simp (disch := first | decide | (intros; (first | unfold IslSt.fencing | unfold IslSt.stepping | unfold Mgt.quiet | skip); first | rfl | (split <;> rfl))) only [same_refl, same_ite, ite_self, same_closeGroup, same_when, same_wantGroup, same_forAll, same_modGk, same_shake])) only [same_refl, same_ite, ite_self, same_closeGroup, same_when, same_wantGroup, same_forAll, same_modGk, same_shake]
theorem same_startGroup {m' : Nat} {s' : State} {e : Eng} {g : ℕ} {s : State} (h : m' &&& 571195392 = 571195392) : Same m' s' (startGroup e g s) = Same m' s' s := Same.eqv (keep_startGroup e g s) h
theorem keep_drawHashKey (s : State) : Same 37748736 s (drawHashKey s) := by unfold drawHashKey; simp (disch := decide) only [same_refl, same_ite, ite_self, same_up_flow, same_addWait, same_shake]
theorem same_drawHashKey {m' : Nat} {s' : State} {s : State} (h : m' &&& 37748736 = 37748736) : Same m' s' (drawHashKey s) = Same m' s' s := Same.eqv (keep_drawHashKey s) h
theorem keep_serveWait (w : KeyWait) (s : State) : Same 575389696 s (serveWait w s) := by unfold serveWait; (try simp (disch := first | decide | (intros; (first | unfold IslSt.fencing | unfold IslSt.stepping | unfold Mgt.quiet | skip); first | rfl | (split <;> rfl)) | (intros; simp (disch := first | decide | (intros; (first | unfold IslSt.fencing | unfold IslSt.stepping | unfold Mgt.quiet | skip); first | rfl | (split <;> rfl))) only [same_refl, same_ite, ite_self, same_drawHashKey, same_closeGroup, same_when, same_addWait, same_startRekey, same_startGroup, same_eraseSlot, same_pumpLeaf, same_startExchange])) only [same_refl, same_ite, ite_self, same_drawHashKey, same_closeGroup, same_when, same_addWait, same_startRekey, same_startGroup, same_eraseSlot, same_pumpLeaf, same_startExchange]); repeat' (split <;> try simp (disch := first | decide | (intros; (first | unfold IslSt.fencing | unfold IslSt.stepping | unfold Mgt.quiet | skip); first | rfl | (split <;> rfl)) | (intros; simp (disch := first | decide | (intros; (first | unfold IslSt.fencing | unfold IslSt.stepping | unfold Mgt.quiet | skip); first | rfl | (split <;> rfl))) only [same_refl, same_ite, ite_self, same_drawHashKey, same_closeGroup, same_when, same_addWait, same_startRekey, same_startGroup, same_eraseSlot, same_pumpLeaf, same_startExchange])) only [same_refl, same_ite, ite_self, same_drawHashKey, same_closeGroup, same_when, same_addWait, same_startRekey, same_startGroup, same_eraseSlot, same_pumpLeaf, same_startExchange])
theorem same_serveWait {m' : Nat} {s' : State} {w : KeyWait} {s : State} (h : m' &&& 575389696 = 575389696) : Same m' s' (serveWait w s) = Same m' s' s := Same.eqv (keep_serveWait w s) h
theorem keep_serveOnce (s : State) : Same 575389696 s (serveOnce s) := by unfold serveOnce; simp (disch := first | decide | (intros; (first | unfold IslSt.fencing | unfold IslSt.stepping | unfold Mgt.quiet | skip); first | rfl | (split <;> rfl)) | (intros; simp (disch := first | decide | (intros; (first | unfold IslSt.fencing | unfold IslSt.stepping | unfold Mgt.quiet | skip); first | rfl | (split <;> rfl))) only [same_refl, same_ite, ite_self, same_up_sec, same_serveWait, same_forAll])) only [same_refl, same_ite, ite_self, same_up_sec, same_serveWait, same_forAll]
theorem same_serveOnce {m' : Nat} {s' : State} {s : State} (h : m' &&& 575389696 = 575389696) : Same m' s' (serveOnce s) = Same m' s' s := Same.eqv (keep_serveOnce s) h
theorem keep_serveDeferred (s : State) : Same 575389696 s (serveDeferred s) := by unfold serveDeferred; simp (disch := decide) only [same_refl, same_ite, ite_self, same_serveOnce]
theorem same_serveDeferred {m' : Nat} {s' : State} {s : State} (h : m' &&& 575389696 = 575389696) : Same m' s' (serveDeferred s) = Same m' s' s := Same.eqv (keep_serveDeferred s) h
theorem keep_execLeafKexReceived (e : Eng) (l : LeafId) (body : List Byte) (s : State) {t' : State} (h : execLeafKexReceived e l body s = .next t') : Same 575395840 s t' := by unfold execLeafKexReceived at h; (try simp only [act, actF] at h); cases h; (try simp (disch := first | decide | (intros; (first | unfold IslSt.fencing | unfold IslSt.stepping | unfold Mgt.quiet | skip); first | rfl | (split <;> rfl)) | (intros; simp (disch := first | decide | (intros; (first | unfold IslSt.fencing | unfold IslSt.stepping | unfold Mgt.quiet | skip); first | rfl | (split <;> rfl))) only [same_refl, same_ite, ite_self, same_sendRec, same_modLeaf, same_failExchange, same_serveDeferred, same_countReg, same_when])) only [same_refl, same_ite, ite_self, same_sendRec, same_modLeaf, same_failExchange, same_serveDeferred, same_countReg, same_when]); repeat' (split <;> try simp (disch := first | decide | (intros; (first | unfold IslSt.fencing | unfold IslSt.stepping | unfold Mgt.quiet | skip); first | rfl | (split <;> rfl)) | (intros; simp (disch := first | decide | (intros; (first | unfold IslSt.fencing | unfold IslSt.stepping | unfold Mgt.quiet | skip); first | rfl | (split <;> rfl))) only [same_refl, same_ite, ite_self, same_sendRec, same_modLeaf, same_failExchange, same_serveDeferred, same_countReg, same_when])) only [same_refl, same_ite, ite_self, same_sendRec, same_modLeaf, same_failExchange, same_serveDeferred, same_countReg, same_when])
theorem keep_execLeafFinReceived (e : Eng) (l : LeafId) (body : List Byte) (s : State) {t' : State} (h : execLeafFinReceived e l body s = .next t') : Same 575395840 s t' := by unfold execLeafFinReceived at h; (try simp only [act, actF] at h); cases h; simp (disch := decide) only [same_refl, same_ite, ite_self, same_countReg, same_secEvent, same_modLeaf, same_writeSlot, same_failExchange, same_serveDeferred]
theorem keep_execLeafFailReceived (e : Eng) (l : LeafId) (_cause : ℕ) (s : State) {t' : State} (h : execLeafFailReceived e l _cause s = .next t') : Same 575395840 s t' := by unfold execLeafFailReceived at h; (try simp only [act, actF] at h); cases h; simp (disch := decide) only [same_refl, same_ite, ite_self, same_failExchange, same_serveDeferred]
theorem keep_execRegRecordResend (e : Eng) (l : LeafId) (s : State) {t' : State} (h : execRegRecordResend e l s = .next t') : Same 196608 s t' := by unfold execRegRecordResend at h; (try simp only [act, actF] at h); cases h; (try simp (disch := first | decide | (intros; (first | unfold IslSt.fencing | unfold IslSt.stepping | unfold Mgt.quiet | skip); first | rfl | (split <;> rfl)) | (intros; simp (disch := first | decide | (intros; (first | unfold IslSt.fencing | unfold IslSt.stepping | unfold Mgt.quiet | skip); first | rfl | (split <;> rfl))) only [same_refl, same_ite, ite_self, same_sendMsg])) only [same_refl, same_ite, ite_self, same_sendMsg]); repeat' (split <;> try simp (disch := first | decide | (intros; (first | unfold IslSt.fencing | unfold IslSt.stepping | unfold Mgt.quiet | skip); first | rfl | (split <;> rfl)) | (intros; simp (disch := first | decide | (intros; (first | unfold IslSt.fencing | unfold IslSt.stepping | unfold Mgt.quiet | skip); first | rfl | (split <;> rfl))) only [same_refl, same_ite, ite_self, same_sendMsg])) only [same_refl, same_ite, ite_self, same_sendMsg])
theorem keep_execRekeyStart (k : KeySlotIx) (s : State) {t' : State} (h : execRekeyStart k s = .next t') : Same 571195392 s t' := by unfold execRekeyStart at h; (try simp only [act, actF] at h); cases h; (try simp (disch := decide) only [same_refl, same_ite, ite_self, same_startRekey]); repeat' (split <;> try simp (disch := decide) only [same_refl, same_ite, ite_self, same_startRekey])
theorem keep_finishGroup (e : Eng) (g : ℕ) (s : State) : Same 575389696 s (finishGroup e g s) := by unfold finishGroup; simp (disch := decide) only [same_refl, same_ite, ite_self, same_closeGroup, same_serveDeferred]
theorem same_finishGroup {m' : Nat} {s' : State} {e : Eng} {g : ℕ} {s : State} (h : m' &&& 575389696 = 575389696) : Same m' s' (finishGroup e g s) = Same m' s' s := Same.eqv (keep_finishGroup e g s) h
theorem keep_execGroupRekeyStart (e : Eng) (g : Fin 2048) (s : State) {t' : State} (h : execGroupRekeyStart e g s = .next t') : Same 575389696 s t' := by unfold execGroupRekeyStart at h; (try simp only [act, actF] at h); cases h; simp (disch := first | decide | (intros; (first | unfold IslSt.fencing | unfold IslSt.stepping | unfold Mgt.quiet | skip); first | rfl | (split <;> rfl)) | (intros; simp (disch := first | decide | (intros; (first | unfold IslSt.fencing | unfold IslSt.stepping | unfold Mgt.quiet | skip); first | rfl | (split <;> rfl))) only [same_refl, same_ite, ite_self, same_startGroup, same_serveDeferred, same_when])) only [same_refl, same_ite, ite_self, same_startGroup, same_serveDeferred, same_when]
theorem keep_scheduleMembership (e : Eng) (l : LeafId) (s : State) : Same 720896 s (scheduleMembership e l s) := by unfold scheduleMembership; simp (disch := first | decide | (intros; (first | unfold IslSt.fencing | unfold IslSt.stepping | unfold Mgt.quiet | skip); first | rfl | (split <;> rfl)) | (intros; simp (disch := first | decide | (intros; (first | unfold IslSt.fencing | unfold IslSt.stepping | unfold Mgt.quiet | skip); first | rfl | (split <;> rfl))) only [same_refl, same_ite, ite_self, same_setLeaf, same_sendMsg, same_forAll])) only [same_refl, same_ite, ite_self, same_setLeaf, same_sendMsg, same_forAll]
theorem same_scheduleMembership {m' : Nat} {s' : State} {e : Eng} {l : LeafId} {s : State} (h : m' &&& 720896 = 720896) : Same m' s' (scheduleMembership e l s) = Same m' s' s := Same.eqv (keep_scheduleMembership e l s) h
theorem keep_execGroupAckReceived (e : Eng) (l : LeafId) (body : List Byte) (s : State) {t' : State} (h : execGroupAckReceived e l body s = .next t') : Same 575389696 s t' := by unfold execGroupAckReceived at h; (try simp only [act, actF] at h); cases h; simp (disch := decide) only [same_refl, same_ite, ite_self, same_pumpLeaf, same_scheduleMembership, same_finishGroup, same_modGk, same_modLeaf]
theorem keep_execGroupKeyRewriteTimeout (e : Eng) (g : Fin 2048) (s : State) {t' : State} (h : execGroupKeyRewriteTimeout e g s = .next t') : Same 575389696 s t' := by unfold execGroupKeyRewriteTimeout at h; (try simp only [act, actF] at h); cases h; simp (disch := decide) only [same_refl, same_ite, ite_self, same_finishGroup, same_addWait]
theorem keep_execRekeyAckReceived (e : Eng) (l : LeafId) (body : List Byte) (s : State) {t' : State} (h : execRekeyAckReceived e l body s = .next t') : Same 571195392 s t' := by unfold execRekeyAckReceived at h; (try simp only [act, actF] at h); cases h; simp (disch := decide) only [same_refl, same_ite, ite_self, same_pumpLeaf, same_modLeaf, same_rewriteSlot]
theorem keep_writeLeafGrp (e : Eng) (l : LeafId) (g : ℕ) (v : W32) (s : State) : Same 571146240 s (writeLeafGrp e l g v s).1 := by unfold writeLeafGrp; (try simp (disch := first | decide | (intros; (first | unfold IslSt.fencing | unfold IslSt.stepping | unfold Mgt.quiet | skip); first | rfl | (split <;> rfl)) | (intros; (try simp (disch := first | decide | (intros; (first | unfold IslSt.fencing | unfold IslSt.stepping | unfold Mgt.quiet | skip); first | rfl | (split <;> rfl)) | (intros; simp (disch := first | decide | (intros; (first | unfold IslSt.fencing | unfold IslSt.stepping | unfold Mgt.quiet | skip); first | rfl | (split <;> rfl))) only [same_refl, same_ite, ite_self, same_refuseOr, same_setLeaf, same_forAll, same_groupLeft, same_wantGroup, same_scheduleMembership])) only [same_refl, same_ite, ite_self, same_refuseOr, same_setLeaf, same_forAll, same_groupLeft, same_wantGroup, same_scheduleMembership]); repeat' (split <;> try simp (disch := first | decide | (intros; (first | unfold IslSt.fencing | unfold IslSt.stepping | unfold Mgt.quiet | skip); first | rfl | (split <;> rfl)) | (intros; simp (disch := first | decide | (intros; (first | unfold IslSt.fencing | unfold IslSt.stepping | unfold Mgt.quiet | skip); first | rfl | (split <;> rfl))) only [same_refl, same_ite, ite_self, same_refuseOr, same_setLeaf, same_forAll, same_groupLeft, same_wantGroup, same_scheduleMembership])) only [same_refl, same_ite, ite_self, same_refuseOr, same_setLeaf, same_forAll, same_groupLeft, same_wantGroup, same_scheduleMembership]); done)) only [same_refl, same_ite, ite_self, same_refuseOr, same_setLeaf, same_forAll, same_groupLeft, same_wantGroup, same_scheduleMembership]); repeat' (split <;> try simp (disch := first | decide | (intros; (first | unfold IslSt.fencing | unfold IslSt.stepping | unfold Mgt.quiet | skip); first | rfl | (split <;> rfl)) | (intros; (try simp (disch := first | decide | (intros; (first | unfold IslSt.fencing | unfold IslSt.stepping | unfold Mgt.quiet | skip); first | rfl | (split <;> rfl)) | (intros; simp (disch := first | decide | (intros; (first | unfold IslSt.fencing | unfold IslSt.stepping | unfold Mgt.quiet | skip); first | rfl | (split <;> rfl))) only [same_refl, same_ite, ite_self, same_refuseOr, same_setLeaf, same_forAll, same_groupLeft, same_wantGroup, same_scheduleMembership])) only [same_refl, same_ite, ite_self, same_refuseOr, same_setLeaf, same_forAll, same_groupLeft, same_wantGroup, same_scheduleMembership]); repeat' (split <;> try simp (disch := first | decide | (intros; (first | unfold IslSt.fencing | unfold IslSt.stepping | unfold Mgt.quiet | skip); first | rfl | (split <;> rfl)) | (intros; simp (disch := first | decide | (intros; (first | unfold IslSt.fencing | unfold IslSt.stepping | unfold Mgt.quiet | skip); first | rfl | (split <;> rfl))) only [same_refl, same_ite, ite_self, same_refuseOr, same_setLeaf, same_forAll, same_groupLeft, same_wantGroup, same_scheduleMembership])) only [same_refl, same_ite, ite_self, same_refuseOr, same_setLeaf, same_forAll, same_groupLeft, same_wantGroup, same_scheduleMembership]); done)) only [same_refl, same_ite, ite_self, same_refuseOr, same_setLeaf, same_forAll, same_groupLeft, same_wantGroup, same_scheduleMembership])
theorem same_writeLeafGrp {m' : Nat} {s' : State} {e : Eng} {l : LeafId} {g : ℕ} {v : W32} {s : State} (h : m' &&& 571146240 = 571146240) : Same m' s' (writeLeafGrp e l g v s).1 = Same m' s' s := Same.eqv (keep_writeLeafGrp e l g v s) h
theorem keep_execLeafGrpWrite (e : Eng) (l : LeafId) (g : Fin 8) (v : W32) (s : State) {t' : State} (h : execLeafGrpWrite e l g v s = .next t') : Same 571146244 s t' := by unfold execLeafGrpWrite at h; (try simp only [act, actF] at h); cases h; simp (disch := decide) only [same_refl, same_ite, ite_self, same_setStatus, same_writeLeafGrp]
theorem keep_execGroupMembershipEffective (e : Eng) (l : LeafId) (s : State) {t' : State} (h : execGroupMembershipEffective e l s = .next t') : Same 524288 s t' := by unfold execGroupMembershipEffective at h; (try simp only [act, actF] at h); cases h; simp (disch := decide) only [same_refl, same_ite, ite_self, same_setLeaf]
theorem keep_healthFailed (test : ℕ) (s : State) : Same 33609728 s (healthFailed test s) := by
  unfold healthFailed
  extract_lets recent n src u
  have h1 : Same 33609728 s u := (same_up_sec (by decide)).mpr ((same_refl _ _).mpr trivial)
  clear_value u
  split
  · exact (same_setFlag (by decide)).mpr ((same_secEvent (by decide)).mpr ((same_up_sec (by decide)).mpr h1))
  · exact h1

theorem same_healthFailed {m' : Nat} {s' : State} {test : ℕ} {s : State} (h : m' &&& 33609728 = 33609728) : Same m' s' (healthFailed test s) = Same m' s' s := Same.eqv (keep_healthFailed test s) h
theorem keep_startSource : ∀ (a0 : ℕ) (s : State), Same 33609728 s (startSource a0 s)
  | 0, _ => (same_refl _ _).mpr trivial
  | n + 1, s => by
    unfold startSource
    split
    · exact (same_refl _ _).mpr trivial
    · generalize hp : rawBlocks (aptWindow / 128) s = p
      have h1 : Same 33609728 s p.2 := by rw [← hp]; exact (same_rawBlocks (by decide)).mpr ((same_refl _ _).mpr trivial)
      dsimp only
      split
      · exact ((same_healthFailed (by decide)).mpr h1).trans (keep_startSource n _)
      · exact h1

theorem same_startSource {m' : Nat} {s' : State} {a0 : ℕ} {s : State} (h : m' &&& 33609728 = 33609728) : Same m' s' (startSource a0 s) = Same m' s' s := Same.eqv (keep_startSource a0 s) h
theorem keep_execShakerHealthFail (test : Fin 3) (raw : List Bool) (s : State) {t' : State} (h : execShakerHealthFail test raw s = .next t') : Same 167827456 s t' := by
  unfold execShakerHealthFail at h
  exact keep_actF (by decide) (fun w => (same_startSource (by decide)).mpr ((same_healthFailed (by decide)).mpr ((same_refl _ _).mpr trivial))) h

theorem keep_execShakerRetry (raw : List Bool) (s : State) {t' : State} (h : execShakerRetry raw s = .next t') : Same 709607424 s t' := by unfold execShakerRetry at h; (try simp only [act, actF] at h); cases h; simp (disch := decide) only [same_refl, same_ite, ite_self, same_up_sec, same_serveDeferred, same_noteFault]
theorem keep_writeKeyCmd (v : W32) (s : State) : Same 33554432 s (writeKeyCmd v s).1 := by unfold writeKeyCmd; simp (disch := first | decide | (intros; (first | unfold IslSt.fencing | unfold IslSt.stepping | unfold Mgt.quiet | skip); first | rfl | (split <;> rfl)) | (intros; simp (disch := first | decide | (intros; (first | unfold IslSt.fencing | unfold IslSt.stepping | unfold Mgt.quiet | skip); first | rfl | (split <;> rfl))) only [same_refl, same_ite, ite_self, same_refuseOr, same_requestRekey])) only [same_refl, same_ite, ite_self, same_refuseOr, same_requestRekey]
theorem same_writeKeyCmd {m' : Nat} {s' : State} {v : W32} {s : State} (h : m' &&& 33554432 = 33554432) : Same m' s' (writeKeyCmd v s).1 = Same m' s' s := Same.eqv (keep_writeKeyCmd v s) h
theorem keep_execSecKeyCmdRekey (k : KeySlotIx) (s : State) {t' : State} (h : execSecKeyCmdRekey k s = .next t') : Same 33554436 s t' := by unfold execSecKeyCmdRekey at h; (try simp only [act, actF] at h); cases h; simp (disch := decide) only [same_refl, same_ite, ite_self, same_setStatus, same_writeKeyCmd]
theorem keep_execSlotGenerationDrained (k : KeySlotIx) (s : State) {t' : State} (h : execSlotGenerationDrained k s = .next t') : Same 575389696 s t' := by unfold execSlotGenerationDrained at h; (try simp only [act, actF] at h); cases h; simp (disch := decide) only [same_refl, same_ite, ite_self, same_setSlot, same_serveDeferred]
theorem keep_execUpstreamOldGenerationExpiry (k : KeySlotIx) (s : State) {t' : State} (h : execUpstreamOldGenerationExpiry k s = .next t') : Same 33554432 s t' := by unfold execUpstreamOldGenerationExpiry at h; (try simp only [act, actF] at h); cases h; simp (disch := decide) only [same_refl, same_ite, ite_self, same_setSlot]

end Sys2Proof.Machine
end

