-- ==== Sys2Proof/Laws/FrameReasm.lean ====
section
/-! SUPPORT. Which parts of the state each function of Machine/Reasm.lean leaves alone, as the bit mask of the others. -/

namespace Sys2Proof.Machine

set_option linter.unusedSimpArgs false
set_option linter.unusedTactic false
set_option linter.unreachableTactic false

theorem keep_keepBytes (e : Eng) (l : LeafId) (b : List SByte) (s : State) : Same 71303170 s (keepBytes e l b s).2 := by unfold keepBytes; simp (disch := first | decide | (intros; (first | unfold IslSt.fencing | unfold IslSt.stepping | unfold Mgt.quiet | skip); first | rfl | (split <;> rfl)) | (intros; simp (disch := first | decide | (intros; (first | unfold IslSt.fencing | unfold IslSt.stepping | unfold Mgt.quiet | skip); first | rfl | (split <;> rfl))) only [same_refl, same_ite, ite_self, same_up_flow, same_farWritten, same_when])) only [same_refl, same_ite, ite_self, same_up_flow, same_farWritten, same_when]
theorem same_keepBytes {m' : Nat} {s' : State} {e : Eng} {l : LeafId} {b : List SByte} {s : State} (h : m' &&& 71303170 = 71303170) : Same m' s' (keepBytes e l b s).2 = Same m' s' s := Same.eqv (keep_keepBytes e l b s) h
theorem keep_deliverUnit (e : Eng) (l : LeafId) (u : List Byte) (s : State) : Same 641767426 s (deliverUnit e l u s) := by unfold deliverUnit; simp (disch := decide) only [same_refl, same_ite, ite_self, same_up_sec, same_countCtr, same_countLeaf, same_count, same_unitPoison]
theorem same_deliverUnit {m' : Nat} {s' : State} {e : Eng} {l : LeafId} {u : List Byte} {s : State} (h : m' &&& 641767426 = 641767426) : Same m' s' (deliverUnit e l u s) = Same m' s' s := Same.eqv (keep_deliverUnit e l u s) h
theorem keep_noteRefused (e : Eng) (c : ℕ) (s : State) : Same 608212994 s (noteRefused e c s) := by unfold noteRefused; (try simp (disch := decide) only [same_refl, same_ite, ite_self, same_modFlow, same_findFlow]); repeat' (split <;> try simp (disch := decide) only [same_refl, same_ite, ite_self, same_modFlow, same_findFlow])
theorem same_noteRefused {m' : Nat} {s' : State} {e : Eng} {c : ℕ} {s : State} (h : m' &&& 608212994 = 608212994) : Same m' s' (noteRefused e c s) = Same m' s' s := Same.eqv (keep_noteRefused e c s) h
theorem keep_rxEvent (e : Eng) (l : LeafId) (code : ℕ) (bit : ℕ) (data : BitVec 80) (s : State) : Same 47104 s (rxEvent e l code bit data s) := by unfold rxEvent; simp (disch := first | decide | (intros; (first | unfold IslSt.fencing | unfold IslSt.stepping | unfold Mgt.quiet | skip); first | rfl | (split <;> rfl)) | (intros; simp (disch := first | decide | (intros; (first | unfold IslSt.fencing | unfold IslSt.stepping | unfold Mgt.quiet | skip); first | rfl | (split <;> rfl))) only [same_refl, same_ite, ite_self, same_raiseF, same_setFlag, same_raise, same_oncePerTurn])) only [same_refl, same_ite, ite_self, same_raiseF, same_setFlag, same_raise, same_oncePerTurn]
theorem same_rxEvent {m' : Nat} {s' : State} {e : Eng} {l : LeafId} {code : ℕ} {bit : ℕ} {data : BitVec 80} {s : State} (h : m' &&& 47104 = 47104) : Same m' s' (rxEvent e l code bit data s) = Same m' s' s := Same.eqv (keep_rxEvent e l code bit data s) h
theorem keep_applyOut (e : Eng) (l : LeafId) (o : RxOut) (s : State) : Same 642496514 s (applyOut e l o s) := by unfold applyOut; (try simp (disch := first | decide | (intros; (first | unfold IslSt.fencing | unfold IslSt.stepping | unfold Mgt.quiet | skip); first | rfl | (split <;> rfl)) | (intros; simp (disch := first | decide | (intros; (first | unfold IslSt.fencing | unfold IslSt.stepping | unfold Mgt.quiet | skip); first | rfl | (split <;> rfl))) only [same_refl, same_ite, ite_self, same_deliverUnit, same_countLeaf, same_setFlag, same_when, same_countCtr, same_noteRefused, same_count, same_rxEvent, same_modDefs])) only [same_refl, same_ite, ite_self, same_deliverUnit, same_countLeaf, same_setFlag, same_when, same_countCtr, same_noteRefused, same_count, same_rxEvent, same_modDefs]); repeat' (split <;> try simp (disch := first | decide | (intros; (first | unfold IslSt.fencing | unfold IslSt.stepping | unfold Mgt.quiet | skip); first | rfl | (split <;> rfl)) | (intros; simp (disch := first | decide | (intros; (first | unfold IslSt.fencing | unfold IslSt.stepping | unfold Mgt.quiet | skip); first | rfl | (split <;> rfl))) only [same_refl, same_ite, ite_self, same_deliverUnit, same_countLeaf, same_setFlag, same_when, same_countCtr, same_noteRefused, same_count, same_rxEvent, same_modDefs])) only [same_refl, same_ite, ite_self, same_deliverUnit, same_countLeaf, same_setFlag, same_when, same_countCtr, same_noteRefused, same_count, same_rxEvent, same_modDefs])
theorem same_applyOut {m' : Nat} {s' : State} {e : Eng} {l : LeafId} {o : RxOut} {s : State} (h : m' &&& 642496514 = 642496514) : Same m' s' (applyOut e l o s) = Same m' s' s := Same.eqv (keep_applyOut e l o s) h
theorem keep_streamDo (e : Eng) (l : LeafId) (f : LeafRx → LeafRx × List RxOut) (s : State) : Same 642496514 s (streamDo e l f s) := by unfold streamDo; simp (disch := first | decide | (intros; (first | unfold IslSt.fencing | unfold IslSt.stepping | unfold Mgt.quiet | skip); first | rfl | (split <;> rfl)) | (intros; simp (disch := first | decide | (intros; (first | unfold IslSt.fencing | unfold IslSt.stepping | unfold Mgt.quiet | skip); first | rfl | (split <;> rfl))) only [same_refl, same_ite, ite_self, same_modRx, same_applyOut, same_forAll])) only [same_refl, same_ite, ite_self, same_modRx, same_applyOut, same_forAll]
theorem same_streamDo {m' : Nat} {s' : State} {e : Eng} {l : LeafId} {f : LeafRx → LeafRx × List RxOut} {s : State} (h : m' &&& 642496514 = 642496514) : Same m' s' (streamDo e l f s) = Same m' s' s := Same.eqv (keep_streamDo e l f s) h
theorem keep_streamBytes (e : Eng) (l : LeafId) (f : LeafRx → LeafRx × List RxOut) (s : State) : Same 642496514 s (streamBytes e l f s) := by unfold streamBytes; simp (disch := decide) only [same_refl, same_ite, ite_self, same_streamDo]
theorem same_streamBytes {m' : Nat} {s' : State} {e : Eng} {l : LeafId} {f : LeafRx → LeafRx × List RxOut} {s : State} (h : m' &&& 642496514 = 642496514) : Same m' s' (streamBytes e l f s) = Same m' s' s := Same.eqv (keep_streamBytes e l f s) h
theorem keep_fromDram (e : Eng) (g : Seg) (s : State) : Same 608212994 s (fromDram e g s).2 := by unfold fromDram; (try simp (disch := decide) only [same_refl, same_ite, ite_self, same_draw, same_unitPoisonFar, same_unitPoison]); repeat' (split <;> try simp (disch := decide) only [same_refl, same_ite, ite_self, same_draw, same_unitPoisonFar, same_unitPoison])
theorem same_fromDram {m' : Nat} {s' : State} {e : Eng} {g : Seg} {s : State} (h : m' &&& 608212994 = 608212994) : Same m' s' (fromDram e g s).2 = Same m' s' s := Same.eqv (keep_fromDram e g s) h
theorem keep_releaseSeg (e : Eng) (l : LeafId) (g : Seg) (s : State) : Same 642496514 s (releaseSeg e l g s) := by unfold releaseSeg; simp (disch := decide) only [same_refl, same_ite, ite_self, same_streamBytes, same_modRx, same_fromDram]
theorem same_releaseSeg {m' : Nat} {s' : State} {e : Eng} {l : LeafId} {g : Seg} {s : State} (h : m' &&& 642496514 = 642496514) : Same m' s' (releaseSeg e l g s) = Same m' s' s := Same.eqv (keep_releaseSeg e l g s) h
theorem keep_unhold (e : Eng) (l : LeafId) (ssn : ℕ) (s : State) : Same 196608 s (unhold e l ssn s) := by unfold unhold; simp (disch := decide) only [same_refl, same_ite, ite_self, same_modRx]
theorem same_unhold {m' : Nat} {s' : State} {e : Eng} {l : LeafId} {ssn : ℕ} {s : State} (h : m' &&& 196608 = 196608) : Same m' s' (unhold e l ssn s) = Same m' s' s := Same.eqv (keep_unhold e l ssn s) h
theorem keep_loseUpTo (e : Eng) (l : LeafId) (ssn : Nat) : ∀ (n : Nat) (s : State), Same 642496514 s (loseUpTo e l ssn n s)
  | 0, _ => (same_refl _ _).mpr trivial
  | n + 1, s => by
    unfold loseUpTo; dsimp only; split
    · exact (same_refl _ _).mpr trivial
    · split
      · exact (same_refl _ _).mpr trivial
      · split
        · refine Same.trans ?_ (keep_loseUpTo e l ssn n _)
          rw [same_releaseSeg (by decide), same_unhold (by decide)]; exact (same_refl _ _).mpr trivial
        · refine Same.trans ?_ (keep_loseUpTo e l ssn n _)
          rw [same_modRx (by decide), same_streamDo (by decide), same_countLeaf (by decide)]; exact (same_refl _ _).mpr trivial

theorem same_loseUpTo {m' : Nat} {s' : State} {e : Eng} {l : LeafId} {ssn : ℕ} {a3 : ℕ} {s : State} (h : m' &&& 642496514 = 642496514) : Same m' s' (loseUpTo e l ssn a3 s) = Same m' s' s := Same.eqv (keep_loseUpTo e l ssn a3 s) h
theorem keep_holdSeg (e : Eng) (l : LeafId) (g : Seg) (s : State) : Same 196608 s (holdSeg e l g s) := by unfold holdSeg; simp (disch := decide) only [same_refl, same_ite, ite_self, same_modRx]
theorem same_holdSeg {m' : Nat} {s' : State} {e : Eng} {l : LeafId} {g : Seg} {s : State} (h : m' &&& 196608 = 196608) : Same m' s' (holdSeg e l g s) = Same m' s' s := Same.eqv (keep_holdSeg e l g s) h
theorem keep_waitSeg (e : Eng) (l : LeafId) (g : Seg) (s : State) : Same 196608 s (waitSeg e l g s) := by unfold waitSeg; simp (disch := decide) only [same_refl, same_ite, ite_self, same_modRx]
theorem same_waitSeg {m' : Nat} {s' : State} {e : Eng} {l : LeafId} {g : Seg} {s : State} (h : m' &&& 196608 = 196608) : Same m' s' (waitSeg e l g s) = Same m' s' s := Same.eqv (keep_waitSeg e l g s) h
theorem keep_waitFirst (e : Eng) (l : LeafId) (g : Seg) (s : State) : Same 196608 s (waitFirst e l g s) := by unfold waitFirst; simp (disch := decide) only [same_refl, same_ite, ite_self, same_modRx]
theorem same_waitFirst {m' : Nat} {s' : State} {e : Eng} {l : LeafId} {g : Seg} {s : State} (h : m' &&& 196608 = 196608) : Same m' s' (waitFirst e l g s) = Same m' s' s := Same.eqv (keep_waitFirst e l g s) h
theorem keep_keepSeg (e : Eng) (l : LeafId) (keep : LeafId → Seg → State → State) (g : Seg) (s : State) {m : Nat} (hm : m &&& 71303170 = 71303170)
    (hk : ∀ h t, Same m t (keep l h t)) : Same m s (keepSeg e l keep g s) := by
  unfold keepSeg
  exact ((same_keepBytes hm).mpr ((same_refl _ _).mpr trivial)).trans (hk _ _)

theorem same_keepSeg {m' : Nat} {s' : State} {e : Eng} {l : LeafId} {keep : LeafId → Seg → State → State} {g : Seg} {s : State} (h : m' &&& 71303170 = 71303170)
    (hk : ∀ x t, Same m' t (keep l x t)) : Same m' s' (keepSeg e l keep g s) = Same m' s' s :=
  (keep_keepSeg e l keep g s h hk).eqv (Nat.and_self m')

theorem keep_landJump (e : Eng) (l : LeafId) (n : ℕ) (g : Seg) (s : State) : Same 642496514 s (landJump e l n g s) := by unfold landJump; simp (disch := decide) only [same_refl, same_ite, ite_self, same_countLeaf, same_rxEvent, same_releaseSeg]
theorem same_landJump {m' : Nat} {s' : State} {e : Eng} {l : LeafId} {n : ℕ} {g : Seg} {s : State} (h : m' &&& 642496514 = 642496514) : Same m' s' (landJump e l n g s) = Same m' s' s := Same.eqv (keep_landJump e l n g s) h
theorem keep_beginLoss (e : Eng) (l : LeafId) (ssn : ℕ) (before : Option ℕ) (s : State) : Same 642496514 s (beginLoss e l ssn before s) := by unfold beginLoss; simp (disch := first | decide | (intros; (first | unfold IslSt.fencing | unfold IslSt.stepping | unfold Mgt.quiet | skip); first | rfl | (split <;> rfl)) | (intros; simp (disch := first | decide | (intros; (first | unfold IslSt.fencing | unfold IslSt.stepping | unfold Mgt.quiet | skip); first | rfl | (split <;> rfl))) only [same_refl, same_ite, ite_self, same_modRx, same_when, same_loseUpTo])) only [same_refl, same_ite, ite_self, same_modRx, same_when, same_loseUpTo]
theorem same_beginLoss {m' : Nat} {s' : State} {e : Eng} {l : LeafId} {ssn : ℕ} {before : Option ℕ} {s : State} (h : m' &&& 642496514 = 642496514) : Same m' s' (beginLoss e l ssn before s) = Same m' s' s := Same.eqv (keep_beginLoss e l ssn before s) h
theorem keep_judgeSeg (e : Eng) (l : LeafId) (keep : (LeafId → Seg → State → State) → Seg → State → State) (g : Seg) (s : State) {m : Nat} (hm : m &&& 642496514 = 642496514)
    (hh : ∀ k, (∀ x t, Same m t (k l x t)) → ∀ x t, Same m t (keep k x t)) : Same m s (judgeSeg e l keep g s) := by
  have hr := fun t => ((same_releaseSeg (e := e) (l := l) (g := g) (s := t) (sub_trans hm (by decide))).mpr ((same_refl m t).mpr trivial))
  unfold judgeSeg; split
  · exact hr s
  · dsimp only; split
    · exact hr s
    · split
      · exact hh _ (fun x t => (same_holdSeg (sub_trans hm (by decide))).mpr ((same_refl _ _).mpr trivial)) _ _
      · split
        · have hl := fun b => (same_beginLoss (e := e) (l := l) (ssn := g.ssn) (before := b) hm).mpr ((same_refl m s).mpr trivial)
          split
          · exact (hl _).trans (hh _ (fun x t => (same_waitFirst (sub_trans hm (by decide))).mpr ((same_refl _ _).mpr trivial)) _ _)
          · exact (same_landJump hm).mpr (hl _)
        · exact (same_countLeaf (sub_trans hm (by decide))).mpr ((same_refl _ _).mpr trivial)

theorem same_judgeSeg {m' : Nat} {s' : State} {e : Eng} {l : LeafId} {keep : (LeafId → Seg → State → State) → Seg → State → State} {g : Seg} {s : State} (h : m' &&& 642496514 = 642496514)
    (hh : ∀ k, (∀ x t, Same m' t (k l x t)) → ∀ x t, Same m' t (keep k x t)) : Same m' s' (judgeSeg e l keep g s) = Same m' s' s :=
  (keep_judgeSeg e l keep g s h hh).eqv (Nat.and_self m')

theorem keep_resumeLoss (e : Eng) (l : LeafId) (ssn : ℕ) (before : Option ℕ) (s : State) : Same 642496514 s (resumeLoss e l ssn before s) := by unfold resumeLoss; (try simp (disch := decide) only [same_refl, same_ite, ite_self, same_modRx, same_landJump, same_beginLoss]); repeat' (split <;> try simp (disch := decide) only [same_refl, same_ite, ite_self, same_modRx, same_landJump, same_beginLoss])
theorem same_resumeLoss {m' : Nat} {s' : State} {e : Eng} {l : LeafId} {ssn : ℕ} {before : Option ℕ} {s : State} (h : m' &&& 642496514 = 642496514) : Same m' s' (resumeLoss e l ssn before s) = Same m' s' s := Same.eqv (keep_resumeLoss e l ssn before s) h
theorem keep_progress (e : Eng) (l : LeafId) : ∀ (n : Nat) (s : State), Same 642496514 s (progress e l n s)
  | 0, _ => (same_refl _ _).mpr trivial
  | n + 1, s => by
    unfold progress; dsimp only; split
    · exact (same_refl _ _).mpr trivial
    · split
      · refine Same.trans ?_ (keep_progress e l n _)
        exact (same_resumeLoss (by decide)).mpr ((same_refl _ _).mpr trivial)
      · split
        · refine Same.trans ?_ (keep_progress e l n _)
          rw [same_releaseSeg (by decide), same_unhold (by decide)]; exact (same_refl _ _).mpr trivial
        · split
          · exact (same_refl _ _).mpr trivial
          · refine Same.trans ?_ (keep_progress e l n _)
            rw [same_judgeSeg (by decide) (fun k h => h), same_modRx (by decide)]
            exact (same_refl _ _).mpr trivial

theorem same_progress {m' : Nat} {s' : State} {e : Eng} {l : LeafId} {a2 : ℕ} {s : State} (h : m' &&& 642496514 = 642496514) : Same m' s' (progress e l a2 s) = Same m' s' s := Same.eqv (keep_progress e l a2 s) h
theorem keep_enterBlock (e : Eng) (l : LeafId) (first : Bool) (g : Seg) (s : State) : Same 642496514 s (enterBlock e l first g s) := by
  have hk : ∀ (keep : LeafId → Seg → State → State), (∀ x t, Same 642496514 t (keep l x t)) → ∀ x t, Same 642496514 t (keepSeg e l keep x t) :=
    fun keep h x t => (same_keepSeg (by decide) h).mpr ((same_refl _ _).mpr trivial)
  have hw : ∀ x t, Same 642496514 t (waitSeg e l x t) := fun x t => (same_waitSeg (by decide)).mpr ((same_refl _ _).mpr trivial)
  have hh : ∀ x t, Same 642496514 t (holdSeg e l x t) := fun x t => (same_holdSeg (by decide)).mpr ((same_refl _ _).mpr trivial)
  unfold enterBlock
  extract_lets s1 x
  have h0 : Same 642496514 s s1 := (same_bufWritten (by decide)).mpr ((same_refl _ _).mpr trivial)
  clear_value s1
  split
  · split
    · exact (same_keepSeg (by decide) hw).mpr h0
    · exact (same_progress (by decide)).mpr ((same_judgeSeg (by decide) hk).mpr h0)
  · split
    · exact (same_progress (by decide)).mpr ((same_modRx (by decide)).mpr ((same_streamBytes (by decide)).mpr h0))
    · split
      · exact (same_holdSeg (by decide)).mpr ((same_keepBytes (by decide)).mpr h0)
      · split
        · exact (same_modRx (by decide)).mpr ((same_keepBytes (by decide)).mpr h0)
        · exact h0

theorem same_enterBlock {m' : Nat} {s' : State} {e : Eng} {l : LeafId} {first : Bool} {g : Seg} {s : State} (h : m' &&& 642496514 = 642496514) : Same m' s' (enterBlock e l first g s) = Same m' s' s := Same.eqv (keep_enterBlock e l first g s) h
theorem keep_execSsnHoldTimeout (e : Eng) (l : LeafId) (s : State) {t' : State} (h : execSsnHoldTimeout e l s = .next t') : Same 642496514 s t' := by unfold execSsnHoldTimeout at h; (try simp only [act, actF] at h); cases h; (try simp (disch := decide) only [same_refl, same_ite, ite_self, same_beginLoss, same_progress]); repeat' (split <;> try simp (disch := decide) only [same_refl, same_ite, ite_self, same_beginLoss, same_progress])

end Sys2Proof.Machine
end

