-- ==== Sys2Proof/Laws/FrameBrx.lean ====
section
/-! SUPPORT. Which parts of the state each function of Machine/Brx.lean leaves alone, as the bit mask of the others. -/

namespace Sys2Proof.Machine

set_option linter.unusedSimpArgs false
set_option linter.unusedTactic false
set_option linter.unreachableTactic false

theorem keep_countSc (e : Eng) (n : ℕ) (i : ℕ) (k : ℕ) (s : State) : Same 536870912 s (countSc e n i k s) := by unfold countSc; simp (disch := decide) only [same_refl, same_ite, ite_self, same_count]
theorem same_countSc {m' : Nat} {s' : State} {e : Eng} {n : ℕ} {i : ℕ} {k : ℕ} {s : State} (h : m' &&& 536870912 = 536870912) : Same m' s' (countSc e n i k s) = Same m' s' s := Same.eqv (keep_countSc e n i k s) h
theorem keep_countScLeaf (e : Eng) (n : ℕ) (i : ℕ) (l : Option ℕ) (j : ℕ) (k : ℕ) (s : State) : Same 536870912 s (countScLeaf e n i l j k s) := by unfold countScLeaf; (try simp (disch := first | decide | (intros; (first | unfold IslSt.fencing | unfold IslSt.stepping | unfold Mgt.quiet | skip); first | rfl | (split <;> rfl)) | (intros; simp (disch := first | decide | (intros; (first | unfold IslSt.fencing | unfold IslSt.stepping | unfold Mgt.quiet | skip); first | rfl | (split <;> rfl))) only [same_refl, same_ite, ite_self, same_countLeaf, same_countSc])) only [same_refl, same_ite, ite_self, same_countLeaf, same_countSc]); repeat' (split <;> try simp (disch := first | decide | (intros; (first | unfold IslSt.fencing | unfold IslSt.stepping | unfold Mgt.quiet | skip); first | rfl | (split <;> rfl)) | (intros; simp (disch := first | decide | (intros; (first | unfold IslSt.fencing | unfold IslSt.stepping | unfold Mgt.quiet | skip); first | rfl | (split <;> rfl))) only [same_refl, same_ite, ite_self, same_countLeaf, same_countSc])) only [same_refl, same_ite, ite_self, same_countLeaf, same_countSc])
theorem same_countScLeaf {m' : Nat} {s' : State} {e : Eng} {n : ℕ} {i : ℕ} {l : Option ℕ} {j : ℕ} {k : ℕ} {s : State} (h : m' &&& 536870912 = 536870912) : Same m' s' (countScLeaf e n i l j k s) = Same m' s' s := Same.eqv (keep_countScLeaf e n i l j k s) h
theorem keep_brxEvent (e : Eng) (n : ℕ) (code : ℕ) (data : BitVec 80) (s : State) : Same 40960 s (brxEvent e n code data s) := by unfold brxEvent; simp (disch := first | decide | (intros; (first | unfold IslSt.fencing | unfold IslSt.stepping | unfold Mgt.quiet | skip); first | rfl | (split <;> rfl)) | (intros; simp (disch := first | decide | (intros; (first | unfold IslSt.fencing | unfold IslSt.stepping | unfold Mgt.quiet | skip); first | rfl | (split <;> rfl))) only [same_refl, same_ite, ite_self, same_oncePerTurn, same_raise])) only [same_refl, same_ite, ite_self, same_oncePerTurn, same_raise]
theorem same_brxEvent {m' : Nat} {s' : State} {e : Eng} {n : ℕ} {code : ℕ} {data : BitVec 80} {s : State} (h : m' &&& 40960 = 40960) : Same m' s' (brxEvent e n code data s) = Same m' s' s := Same.eqv (keep_brxEvent e n code data s) h
theorem keep_seedMiss (e : Eng) (n : ℕ) (l : ℕ) (cause : ℕ) (s : State) : Same 537442304 s (seedMiss e n l cause s) := by unfold seedMiss; simp (disch := decide) only [same_refl, same_ite, ite_self, same_modLeaf, same_brxEvent, same_setFlag, same_countScLeaf]
theorem same_seedMiss {m' : Nat} {s' : State} {e : Eng} {n : ℕ} {l : ℕ} {cause : ℕ} {s : State} (h : m' &&& 537442304 = 537442304) : Same m' s' (seedMiss e n l cause s) = Same m' s' s := Same.eqv (keep_seedMiss e n l cause s) h
theorem keep_modTurn (e : Eng) (w : Window) (f : TurnStat → TurnStat) (s : State) : Same 196608 s (modTurn e w f s) := by unfold modTurn; simp (disch := first | decide | (intros; (first | unfold IslSt.fencing | unfold IslSt.stepping | unfold Mgt.quiet | skip); first | rfl | (split <;> rfl)) | (intros; simp (disch := first | decide | (intros; (first | unfold IslSt.fencing | unfold IslSt.stepping | unfold Mgt.quiet | skip); first | rfl | (split <;> rfl))) only [same_refl, same_ite, ite_self, same_modEng_st, same_modEng])) only [same_refl, same_ite, ite_self, same_modEng_st, same_modEng]
theorem same_modTurn {m' : Nat} {s' : State} {e : Eng} {w : Window} {f : TurnStat → TurnStat} {s : State} (h : m' &&& 196608 = 196608) : Same m' s' (modTurn e w f s) = Same m' s' s := Same.eqv (keep_modTurn e w f s) h
theorem keep_judge (e : Eng) (n : ℕ) (g : Gate) (s : State) : Same 537638912 s (judge e n g s) := by unfold judge; (try simp (disch := first | decide | (intros; (first | unfold IslSt.fencing | unfold IslSt.stepping | unfold Mgt.quiet | skip); first | rfl | (split <;> rfl)) | (intros; simp (disch := first | decide | (intros; (first | unfold IslSt.fencing | unfold IslSt.stepping | unfold Mgt.quiet | skip); first | rfl | (split <;> rfl))) only [same_refl, same_ite, ite_self, same_modEng_st, same_modEng, same_modDefs, same_seedMiss, same_countLeaf, same_modTurn])) only [same_refl, same_ite, ite_self, same_modEng_st, same_modEng, same_modDefs, same_seedMiss, same_countLeaf, same_modTurn]); repeat' (split <;> try simp (disch := first | decide | (intros; (first | unfold IslSt.fencing | unfold IslSt.stepping | unfold Mgt.quiet | skip); first | rfl | (split <;> rfl)) | (intros; simp (disch := first | decide | (intros; (first | unfold IslSt.fencing | unfold IslSt.stepping | unfold Mgt.quiet | skip); first | rfl | (split <;> rfl))) only [same_refl, same_ite, ite_self, same_modEng_st, same_modEng, same_modDefs, same_seedMiss, same_countLeaf, same_modTurn])) only [same_refl, same_ite, ite_self, same_modEng_st, same_modEng, same_modDefs, same_seedMiss, same_countLeaf, same_modTurn])
theorem same_judge {m' : Nat} {s' : State} {e : Eng} {n : ℕ} {g : Gate} {s : State} (h : m' &&& 537638912 = 537638912) : Same m' s' (judge e n g s) = Same m' s' s := Same.eqv (keep_judge e n g s) h
theorem keep_settle (e : Eng) (n : ℕ) (s : State) : Same 537638912 s (settle e n s) := by unfold settle; simp (disch := first | decide | (intros; (first | unfold IslSt.fencing | unfold IslSt.stepping | unfold Mgt.quiet | skip); first | rfl | (split <;> rfl)) | (intros; simp (disch := first | decide | (intros; (first | unfold IslSt.fencing | unfold IslSt.stepping | unfold Mgt.quiet | skip); first | rfl | (split <;> rfl))) only [same_refl, same_ite, ite_self, same_forAll, same_judge, same_setBrx])) only [same_refl, same_ite, ite_self, same_forAll, same_judge, same_setBrx]
theorem same_settle {m' : Nat} {s' : State} {e : Eng} {n : ℕ} {s : State} (h : m' &&& 537638912 = 537638912) : Same m' s' (settle e n s) = Same m' s' s := Same.eqv (keep_settle e n s) h
theorem keep_doubles (e : Eng) (n : ℕ) (earlier : Option ℕ) (later : Option ℕ) (runOn : Bool) (kind : GateKind) (s : State) : Same 537638912 s (doubles e n earlier later runOn kind s) := by unfold doubles; (try simp (disch := first | decide | (intros; (first | unfold IslSt.fencing | unfold IslSt.stepping | unfold Mgt.quiet | skip); first | rfl | (split <;> rfl)) | (intros; simp (disch := first | decide | (intros; (first | unfold IslSt.fencing | unfold IslSt.stepping | unfold Mgt.quiet | skip); first | rfl | (split <;> rfl))) only [same_refl, same_ite, ite_self, same_setFlag, same_countScLeaf, same_brxEvent, same_startRerange])) only [same_refl, same_ite, ite_self, same_setFlag, same_countScLeaf, same_brxEvent, same_startRerange]); repeat' (split <;> try simp (disch := first | decide | (intros; (first | unfold IslSt.fencing | unfold IslSt.stepping | unfold Mgt.quiet | skip); first | rfl | (split <;> rfl)) | (intros; simp (disch := first | decide | (intros; (first | unfold IslSt.fencing | unfold IslSt.stepping | unfold Mgt.quiet | skip); first | rfl | (split <;> rfl))) only [same_refl, same_ite, ite_self, same_setFlag, same_countScLeaf, same_brxEvent, same_startRerange])) only [same_refl, same_ite, ite_self, same_setFlag, same_countScLeaf, same_brxEvent, same_startRerange])
theorem same_doubles {m' : Nat} {s' : State} {e : Eng} {n : ℕ} {earlier : Option ℕ} {later : Option ℕ} {runOn : Bool} {kind : GateKind} {s : State} (h : m' &&& 537638912 = 537638912) : Same m' s' (doubles e n earlier later runOn kind s) = Same m' s' s := Same.eqv (keep_doubles e n earlier later runOn kind s) h
theorem keep_resolveCap (e : Eng) (n : ℕ) (named : Option ℕ) (s : State) : Same 537638912 s (resolveCap e n named s) := by unfold resolveCap; (try simp (disch := first | decide | (intros; (first | unfold IslSt.fencing | unfold IslSt.stepping | unfold Mgt.quiet | skip); first | rfl | (split <;> rfl)) | (intros; simp (disch := first | decide | (intros; (first | unfold IslSt.fencing | unfold IslSt.stepping | unfold Mgt.quiet | skip); first | rfl | (split <;> rfl))) only [same_refl, same_ite, ite_self, same_doubles, same_setBrx])) only [same_refl, same_ite, ite_self, same_doubles, same_setBrx]); repeat' (split <;> try simp (disch := first | decide | (intros; (first | unfold IslSt.fencing | unfold IslSt.stepping | unfold Mgt.quiet | skip); first | rfl | (split <;> rfl)) | (intros; simp (disch := first | decide | (intros; (first | unfold IslSt.fencing | unfold IslSt.stepping | unfold Mgt.quiet | skip); first | rfl | (split <;> rfl))) only [same_refl, same_ite, ite_self, same_doubles, same_setBrx])) only [same_refl, same_ite, ite_self, same_doubles, same_setBrx])
theorem same_resolveCap {m' : Nat} {s' : State} {e : Eng} {n : ℕ} {named : Option ℕ} {s : State} (h : m' &&& 537638912 = 537638912) : Same m' s' (resolveCap e n named s) = Same m' s' s := Same.eqv (keep_resolveCap e n named s) h
theorem keep_lapseCap (e : Eng) (n : ℕ) (s : State) : Same 537638912 s (lapseCap e n s) := by unfold lapseCap; (try simp (disch := decide) only [same_refl, same_ite, ite_self, same_resolveCap]); repeat' (split <;> try simp (disch := decide) only [same_refl, same_ite, ite_self, same_resolveCap])
theorem same_lapseCap {m' : Nat} {s' : State} {e : Eng} {n : ℕ} {s : State} (h : m' &&& 537638912 = 537638912) : Same m' s' (lapseCap e n s) = Same m' s' s := Same.eqv (keep_lapseCap e n s) h
theorem keep_writeBurst (e : Eng) (n : ℕ) (r : BurstRec) (s : State) : Same 196608 s (writeBurst e n r s) := by unfold writeBurst; (try simp (disch := first | decide | (intros; (first | unfold IslSt.fencing | unfold IslSt.stepping | unfold Mgt.quiet | skip); first | rfl | (split <;> rfl)) | (intros; simp (disch := first | decide | (intros; (first | unfold IslSt.fencing | unfold IslSt.stepping | unfold Mgt.quiet | skip); first | rfl | (split <;> rfl))) only [same_refl, same_ite, ite_self, same_setBrx, same_modEng_st, same_modEng])) only [same_refl, same_ite, ite_self, same_setBrx, same_modEng_st, same_modEng]); repeat' (split <;> try simp (disch := first | decide | (intros; (first | unfold IslSt.fencing | unfold IslSt.stepping | unfold Mgt.quiet | skip); first | rfl | (split <;> rfl)) | (intros; simp (disch := first | decide | (intros; (first | unfold IslSt.fencing | unfold IslSt.stepping | unfold Mgt.quiet | skip); first | rfl | (split <;> rfl))) only [same_refl, same_ite, ite_self, same_setBrx, same_modEng_st, same_modEng])) only [same_refl, same_ite, ite_self, same_setBrx, same_modEng_st, same_modEng])
theorem same_writeBurst {m' : Nat} {s' : State} {e : Eng} {n : ℕ} {r : BurstRec} {s : State} (h : m' &&& 196608 = 196608) : Same m' s' (writeBurst e n r s) = Same m' s' s := Same.eqv (keep_writeBurst e n r s) h
theorem keep_execBrxGateOpen (e : Eng) (sc : Sc) (w : Window) (ws : List RxWord) (s : State) {t' : State} (h : execBrxGateOpen e sc w ws s = .next t') : Same 537638912 s t' := by unfold execBrxGateOpen at h; refine keep_heard (by decide) (fun v k => keep_act (fun u => ?_) k) h; (try dsimp only); repeat' (first | with_reducible exact (same_refl _ _).mpr trivial | refine (same_setBrx (by decide)).mpr ?_ | refine (same_lapseCap (by decide)).mpr ?_ | split)
theorem keep_execBrxGateClose (e : Eng) (sc : Sc) (s : State) {t' : State} (h : execBrxGateClose e sc s = .next t') : Same 537638912 s t' := by unfold execBrxGateClose at h; (try simp only [act, actF] at h); cases h; (try simp (disch := decide) only [same_refl, same_ite, ite_self, same_setBrx, same_settle, same_lapseCap, same_resolveCap, same_modBrx]); repeat' (split <;> try simp (disch := decide) only [same_refl, same_ite, ite_self, same_setBrx, same_settle, same_lapseCap, same_resolveCap, same_modBrx])
theorem keep_execBurstDetected (e : Eng) (sc : Sc) (ws : List RxWord) (s : State) {t' : State} (h : execBurstDetected e sc ws s = .next t') : Same 537638912 s t' := by unfold execBurstDetected at h; refine keep_heard (by decide) (fun v k => keep_act (fun u => ?_) k) h; (try dsimp only); repeat' (first | with_reducible exact (same_refl _ _).mpr trivial | refine (same_setBrx (by decide)).mpr ?_ | refine (same_resolveCap (by decide)).mpr ?_ | split)
theorem keep_execSyncMatch (e : Eng) (sc : Sc) (ws : List RxWord) (s : State) {t' : State} (h : execSyncMatch e sc ws s = .next t') : Same 196608 s t' := by unfold execSyncMatch at h; refine keep_heard (by decide) (fun v k => keep_act (fun u => ?_) k) h; (try dsimp only); repeat' (first | with_reducible exact (same_refl _ _).mpr trivial | refine (same_setBrx (by decide)).mpr ?_ | refine (same_modTurn (by decide)).mpr ?_ | split)
theorem keep_execSyncDeadlineMiss (e : Eng) (sc : Sc) (ws : List RxWord) (s : State) {t' : State} (h : execSyncDeadlineMiss e sc ws s = .next t') : Same 537638912 s t' := by unfold execSyncDeadlineMiss at h; refine keep_heard (by decide) (fun v k => keep_act (fun u => ?_) k) h; (try dsimp only); repeat' (first | with_reducible exact (same_refl _ _).mpr trivial | refine (same_brxEvent (by decide)).mpr ?_ | refine (same_settle (by decide)).mpr ?_ | refine (same_setBrx (by decide)).mpr ?_ | refine (same_countSc (by decide)).mpr ?_ | refine (same_setFlag (by decide)).mpr ?_ | refine (same_resolveCap (by decide)).mpr ?_ | split)
theorem keep_noteHeader (e : Eng) (g : Gate) (x2 : BitVec 128) (s : State) : Same 537638912 s (noteHeader e g x2 s) := by unfold noteHeader; (try simp (disch := decide) only [same_refl, same_ite, ite_self, same_modDefs, same_modTurn, same_modRx, same_modLeaf]); repeat' (split <;> try simp (disch := decide) only [same_refl, same_ite, ite_self, same_modDefs, same_modTurn, same_modRx, same_modLeaf])
theorem same_noteHeader {m' : Nat} {s' : State} {e : Eng} {g : Gate} {x2 : BitVec 128} {s : State} (h : m' &&& 537638912 = 537638912) : Same m' s' (noteHeader e g x2 s) = Same m' s' s := Same.eqv (keep_noteHeader e g x2 s) h
theorem keep_headerRead (e : Eng) (sc : Sc) (s : State) : Same 537638912 s (headerRead e sc s) := by unfold headerRead; simp (disch := decide) only [same_refl, same_ite, ite_self, same_setBrx, same_resolveCap]
theorem same_headerRead {m' : Nat} {s' : State} {e : Eng} {sc : Sc} {s : State} (h : m' &&& 537638912 = 537638912) : Same m' s' (headerRead e sc s) = Same m' s' s := Same.eqv (keep_headerRead e sc s) h
theorem keep_execHeaderChecked (e : Eng) (sc : Sc) (ws : List RxWord) (s : State) {t' : State} (h : execHeaderChecked e sc ws s = .next t') : Same 538949632 s t' := by
  unfold execHeaderChecked at h
  refine keep_heard (by decide) (fun v k => keep_act (fun u => ?_) k) h
  split
  · exact (same_refl _ _).mpr trivial
  · extract_lets r hdr crc s1 y wrong src1 cur mine y1 s2 s3 s4 cur2 s5 s6
    have h1 : Same 538949632 u s1 := (same_headerRead (by decide)).mpr ((same_refl _ _).mpr trivial)
    have h2 : Same 538949632 u s2 := (same_apsUpdate (by decide)).mpr ((same_noteHeader (by decide)).mpr ((same_setBrx (by decide)).mpr h1))
    have h4 : Same 538949632 u s4 := (same_brxEvent (by decide)).mpr ((same_setFlag (by decide)).mpr ((same_countScLeaf (by decide)).mpr h2))
    have h5 : Same 538949632 u s5 := (same_writeBurst (by decide)).mpr ((same_setBrx (by decide)).mpr h1)
    have h6 : Same 538949632 u s6 := by
      simp only [s6]
      clear_value s5
      split <;> exact (same_setFlag (by decide)).mpr ((same_countSc (by decide)).mpr h5)
    clear_value s1 s2 s4 s5 s6
    split
    · split
      · exact (same_startRerange (by decide)).mpr h4
      · exact h2
    · exact (same_settle (by decide)).mpr h6

theorem keep_handOver (e : Eng) (x : BrxSt) (b : ℕ) (done : Bool) (bytes : List SByte) (s : State) : Same 642496514 s (handOver e x b done bytes s) := by unfold handOver; simp (disch := decide) only [same_refl, same_ite, ite_self, same_enterBlock]
theorem same_handOver {m' : Nat} {s' : State} {e : Eng} {x : BrxSt} {b : ℕ} {done : Bool} {bytes : List SByte} {s : State} (h : m' &&& 642496514 = 642496514) : Same m' s' (handOver e x b done bytes s) = Same m' s' s := Same.eqv (keep_handOver e x b done bytes s) h
theorem keep_chargeCollision (e : Eng) (n : ℕ) (x : BrxSt) (c : ℤ × Option ℕ) (s : State) : Same 536870912 s (chargeCollision e n x c s) := by unfold chargeCollision; (try simp (disch := decide) only [same_refl, same_ite, ite_self, same_countSc, same_countLeaf]); repeat' (split <;> try simp (disch := decide) only [same_refl, same_ite, ite_self, same_countSc, same_countLeaf])
theorem same_chargeCollision {m' : Nat} {s' : State} {e : Eng} {n : ℕ} {x : BrxSt} {c : ℤ × Option ℕ} {s : State} (h : m' &&& 536870912 = 536870912) : Same m' s' (chargeCollision e n x c s) = Same m' s' s := Same.eqv (keep_chargeCollision e n x c s) h
theorem keep_takeBlock (e : Eng) (n : ℕ) (q : Decoded) (s : State) : Same 642496514 s (takeBlock e n q s) := by unfold takeBlock; (try simp (disch := first | decide | (intros; (first | unfold IslSt.fencing | unfold IslSt.stepping | unfold Mgt.quiet | skip); first | rfl | (split <;> rfl)) | (intros; simp (disch := first | decide | (intros; (first | unfold IslSt.fencing | unfold IslSt.stepping | unfold Mgt.quiet | skip); first | rfl | (split <;> rfl)) | (intros; simp (disch := first | decide | (intros; (first | unfold IslSt.fencing | unfold IslSt.stepping | unfold Mgt.quiet | skip); first | rfl | (split <;> rfl))) only [same_refl, same_ite, ite_self, same_handOver, same_seedMiss, same_chargeCollision, same_forAll, same_modTurn, same_setBrx])) only [same_refl, same_ite, ite_self, same_handOver, same_seedMiss, same_chargeCollision, same_forAll, same_modTurn, same_setBrx])) only [same_refl, same_ite, ite_self, same_handOver, same_seedMiss, same_chargeCollision, same_forAll, same_modTurn, same_setBrx]); repeat' (split <;> try simp (disch := first | decide | (intros; (first | unfold IslSt.fencing | unfold IslSt.stepping | unfold Mgt.quiet | skip); first | rfl | (split <;> rfl)) | (intros; simp (disch := first | decide | (intros; (first | unfold IslSt.fencing | unfold IslSt.stepping | unfold Mgt.quiet | skip); first | rfl | (split <;> rfl)) | (intros; simp (disch := first | decide | (intros; (first | unfold IslSt.fencing | unfold IslSt.stepping | unfold Mgt.quiet | skip); first | rfl | (split <;> rfl))) only [same_refl, same_ite, ite_self, same_handOver, same_seedMiss, same_chargeCollision, same_forAll, same_modTurn, same_setBrx])) only [same_refl, same_ite, ite_self, same_handOver, same_seedMiss, same_chargeCollision, same_forAll, same_modTurn, same_setBrx])) only [same_refl, same_ite, ite_self, same_handOver, same_seedMiss, same_chargeCollision, same_forAll, same_modTurn, same_setBrx])
theorem same_takeBlock {m' : Nat} {s' : State} {e : Eng} {n : ℕ} {q : Decoded} {s : State} (h : m' &&& 642496514 = 642496514) : Same m' s' (takeBlock e n q s) = Same m' s' s := Same.eqv (keep_takeBlock e n q s) h
theorem keep_execBlockDecoded (e : Eng) (sc : Sc) (ws : List RxWord) (s : State) {t' : State} (h : execBlockDecoded e sc ws s = .next t') : Same 642496514 s t' := by unfold execBlockDecoded at h; refine keep_heard (by decide) (fun v k => keep_act (fun u => ?_) k) h; (try dsimp only); repeat' (first | with_reducible exact (same_refl _ _).mpr trivial | refine (same_takeBlock (by decide)).mpr ?_ | split)
theorem keep_countBurst (e : Eng) (n : ℕ) (r : BurstRec) (s : State) : Same 536870912 s (countBurst e n r s) := by unfold countBurst; simp (disch := decide) only [same_refl, same_ite, ite_self, same_countScLeaf]
theorem same_countBurst {m' : Nat} {s' : State} {e : Eng} {n : ℕ} {r : BurstRec} {s : State} (h : m' &&& 536870912 = 536870912) : Same m' s' (countBurst e n r s) = Same m' s' s := Same.eqv (keep_countBurst e n r s) h
theorem keep_notePower (e : Eng) (n : ℕ) (p : ℤ) (s : State) : Same 196608 s (notePower e n p s) := by unfold notePower; simp (disch := first | decide | (intros; (first | unfold IslSt.fencing | unfold IslSt.stepping | unfold Mgt.quiet | skip); first | rfl | (split <;> rfl)) | (intros; simp (disch := first | decide | (intros; (first | unfold IslSt.fencing | unfold IslSt.stepping | unfold Mgt.quiet | skip); first | rfl | (split <;> rfl))) only [same_refl, same_ite, ite_self, same_modEng_st, same_modEng])) only [same_refl, same_ite, ite_self, same_modEng_st, same_modEng]
theorem same_notePower {m' : Nat} {s' : State} {e : Eng} {n : ℕ} {p : ℤ} {s : State} (h : m' &&& 196608 = 196608) : Same m' s' (notePower e n p s) = Same m' s' s := Same.eqv (keep_notePower e n p s) h
theorem keep_execBurstEnd (e : Eng) (sc : Sc) (s : State) {t' : State} (h : execBurstEnd e sc s = .next t') : Same 537638912 s t' := by unfold execBurstEnd at h; (try simp only [act, actF] at h); cases h; simp (disch := decide) only [same_refl, same_ite, ite_self, same_modBrx, same_settle, same_modLeaf, same_notePower, same_countScLeaf, same_countBurst, same_writeBurst]
theorem keep_decodeUpTo (e : Eng) (n k : Nat) : ∀ (f : Nat) (s : State), Same 642496514 s (decodeUpTo e n k f s)
  | 0, _ => (same_refl _ _).mpr trivial
  | f + 1, s => by
    unfold decodeUpTo; split
    · refine Same.trans ?_ (keep_decodeUpTo e n k f _)
      exact (same_takeBlock (by decide)).mpr ((same_refl _ _).mpr trivial)
    · exact (same_refl _ _).mpr trivial

theorem same_decodeUpTo {m' : Nat} {s' : State} {e : Eng} {n : ℕ} {m : ℕ} {a3 : ℕ} {s : State} (h : m' &&& 642496514 = 642496514) : Same m' s' (decodeUpTo e n m a3 s) = Same m' s' s := Same.eqv (keep_decodeUpTo e n m a3 s) h
theorem keep_endByCapture (e : Eng) (n : ℕ) (c0 : ℤ) (s : State) : Same 642496514 s (endByCapture e n c0 s) := by unfold endByCapture; simp (disch := decide) only [same_refl, same_ite, ite_self, same_writeBurst, same_countBurst, same_handOver, same_decodeUpTo]
theorem same_endByCapture {m' : Nat} {s' : State} {e : Eng} {n : ℕ} {c0 : ℤ} {s : State} (h : m' &&& 642496514 = 642496514) : Same m' s' (endByCapture e n c0 s) = Same m' s' s := Same.eqv (keep_endByCapture e n c0 s) h
theorem keep_execCaptureRise (e : Eng) (sc : Sc) (c0 : ℤ) (ws : List RxWord) (s : State) {t' : State} (h : execCaptureRise e sc c0 ws s = .next t') : Same 642496514 s t' := by unfold execCaptureRise at h; refine keep_heard (by decide) (fun v k => keep_act (fun u => ?_) k) h; (try dsimp only); repeat' (first | with_reducible exact (same_refl _ _).mpr trivial | refine (same_setBrx (by decide)).mpr ?_ | refine (same_settle (by decide)).mpr ?_ | refine (same_endByCapture (by decide)).mpr ?_ | refine (same_resolveCap (by decide)).mpr ?_ | refine (same_countScLeaf (by decide)).mpr ?_ | refine (same_countSc (by decide)).mpr ?_ | refine (same_doubles (by decide)).mpr ?_ | split)
theorem keep_execBurstFall (e : Eng) (sc : Sc) (ws : List RxWord) (s : State) {t' : State} (h : execBurstFall e sc ws s = .next t') : Same 537638912 s t' := by unfold execBurstFall at h; refine keep_heard (by decide) (fun v k => keep_act (fun u => ?_) k) h; (try dsimp only); repeat' (first | with_reducible exact (same_refl _ _).mpr trivial | refine (same_setBrx (by decide)).mpr ?_ | refine (same_settle (by decide)).mpr ?_ | split)

end Sys2Proof.Machine
end

