-- ==== Sys2Proof/Laws/FrameSched.lean ====
section
/-! SUPPORT. Which parts of the state each function of Machine/Sched.lean leaves alone, as the bit mask of the others. -/

namespace Sys2Proof.Machine

set_option linter.unusedSimpArgs false
set_option linter.unusedTactic false
set_option linter.unreachableTactic false

theorem keep_noteOverbook (e : Eng) (k : Overbook) (counted : Bool) (s : State) : Same 536934400 s (noteOverbook e k counted s) := by unfold noteOverbook; (try simp (disch := first | decide | (intros; (first | unfold IslSt.fencing | unfold IslSt.stepping | unfold Mgt.quiet | skip); first | rfl | (split <;> rfl)) | (intros; simp (disch := first | decide | (intros; (first | unfold IslSt.fencing | unfold IslSt.stepping | unfold Mgt.quiet | skip); first | rfl | (split <;> rfl))) only [same_refl, same_ite, ite_self, same_count, same_schedEvent, same_oncePerSec])) only [same_refl, same_ite, ite_self, same_count, same_schedEvent, same_oncePerSec]); repeat' (split <;> try simp (disch := first | decide | (intros; (first | unfold IslSt.fencing | unfold IslSt.stepping | unfold Mgt.quiet | skip); first | rfl | (split <;> rfl)) | (intros; simp (disch := first | decide | (intros; (first | unfold IslSt.fencing | unfold IslSt.stepping | unfold Mgt.quiet | skip); first | rfl | (split <;> rfl))) only [same_refl, same_ite, ite_self, same_count, same_schedEvent, same_oncePerSec])) only [same_refl, same_ite, ite_self, same_count, same_schedEvent, same_oncePerSec])
theorem same_noteOverbook {m' : Nat} {s' : State} {e : Eng} {k : Overbook} {counted : Bool} {s : State} (h : m' &&& 536934400 = 536934400) : Same m' s' (noteOverbook e k counted s) = Same m' s' s := Same.eqv (keep_noteOverbook e k counted s) h
theorem keep_execMapCompute (e : Eng) (squares : List Square) (grants : List Grant) (s : State) {t' : State} (h : execMapCompute e squares grants s = .next t') : Same 537131008 s t' := by unfold execMapCompute at h; (try simp only [act, actF] at h); cases h; simp (disch := first | decide | (intros; (first | unfold IslSt.fencing | unfold IslSt.stepping | unfold Mgt.quiet | skip); first | rfl | (split <;> rfl)) | (intros; simp (disch := first | decide | (intros; (first | unfold IslSt.fencing | unfold IslSt.stepping | unfold Mgt.quiet | skip); first | rfl | (split <;> rfl))) only [same_refl, same_ite, ite_self, same_noteOverbook, same_modEng_st, same_modEng])) only [same_refl, same_ite, ite_self, same_noteOverbook, same_modEng_st, same_modEng]
theorem keep_execMapRecomputeDone (e : Eng) (tn : ℕ) (grants : List Grant) (s : State) {t' : State} (h : execMapRecomputeDone e tn grants s = .next t') : Same 537131008 s t' := by unfold execMapRecomputeDone at h; (try simp only [act, actF] at h); cases h; (try simp (disch := first | decide | (intros; (first | unfold IslSt.fencing | unfold IslSt.stepping | unfold Mgt.quiet | skip); first | rfl | (split <;> rfl)) | (intros; simp (disch := first | decide | (intros; (first | unfold IslSt.fencing | unfold IslSt.stepping | unfold Mgt.quiet | skip); first | rfl | (split <;> rfl))) only [same_refl, same_ite, ite_self, same_modEng_st, same_modEng, same_noteOverbook])) only [same_refl, same_ite, ite_self, same_modEng_st, same_modEng, same_noteOverbook]); repeat' (split <;> try simp (disch := first | decide | (intros; (first | unfold IslSt.fencing | unfold IslSt.stepping | unfold Mgt.quiet | skip); first | rfl | (split <;> rfl)) | (intros; simp (disch := first | decide | (intros; (first | unfold IslSt.fencing | unfold IslSt.stepping | unfold Mgt.quiet | skip); first | rfl | (split <;> rfl))) only [same_refl, same_ite, ite_self, same_modEng_st, same_modEng, same_noteOverbook])) only [same_refl, same_ite, ite_self, same_modEng_st, same_modEng, same_noteOverbook])
theorem keep_execHeldMessagesSend (e : Eng) (s : State) {t' : State} (h : execHeldMessagesSend e s = .next t') : Same 196608 s t' := by unfold execHeldMessagesSend at h; (try simp only [act, actF] at h); cases h; simp (disch := decide) only [same_refl, same_ite, ite_self, same_modDown]
theorem keep_execTimeMessageSend (e : Eng) (s : State) {t' : State} (h : execTimeMessageSend e s = .next t') : Same 196608 s t' := by unfold execTimeMessageSend at h; (try simp only [act, actF] at h); cases h; simp (disch := decide) only [same_refl, same_ite, ite_self, same_sendMsg]
theorem keep_takeReport (e : Eng) (p : Report → Bool) (s : State) : Same 196608 s (takeReport e p s).2 := by unfold takeReport; simp (disch := first | decide | (intros; (first | unfold IslSt.fencing | unfold IslSt.stepping | unfold Mgt.quiet | skip); first | rfl | (split <;> rfl)) | (intros; simp (disch := first | decide | (intros; (first | unfold IslSt.fencing | unfold IslSt.stepping | unfold Mgt.quiet | skip); first | rfl | (split <;> rfl))) only [same_refl, same_ite, ite_self, same_modEng_st, same_modEng])) only [same_refl, same_ite, ite_self, same_modEng_st, same_modEng]
theorem same_takeReport {m' : Nat} {s' : State} {e : Eng} {p : Report → Bool} {s : State} (h : m' &&& 196608 = 196608) : Same m' s' (takeReport e p s).2 = Same m' s' s := Same.eqv (keep_takeReport e p s) h
theorem keep_sendRange (e : Eng) (l : LeafId) (eqd : ℤ) (s : State) : Same 720896 s (sendRange e l eqd s) := by unfold sendRange; simp (disch := decide) only [same_refl, same_ite, ite_self, same_sendMsg, same_modLeaf]
theorem same_sendRange {m' : Nat} {s' : State} {e : Eng} {l : LeafId} {eqd : ℤ} {s : State} (h : m' &&& 720896 = 720896) : Same m' s' (sendRange e l eqd s) = Same m' s' s := Same.eqv (keep_sendRange e l eqd s) h
theorem keep_noteRtd (e : Eng) (l : LeafId) (w : Window) (err : ℤ) (s : State) : Same 524288 s (noteRtd e l w err s) := by unfold noteRtd; simp (disch := decide) only [same_refl, same_ite, ite_self, same_modLeaf]
theorem same_noteRtd {m' : Nat} {s' : State} {e : Eng} {l : LeafId} {w : Window} {err : ℤ} {s : State} (h : m' &&& 524288 = 524288) : Same m' s' (noteRtd e l w err s) = Same m' s' s := Same.eqv (keep_noteRtd e l w err s) h
theorem keep_notePow (e : Eng) (l : LeafId) (p : ℤ) (s : State) : Same 720896 s (notePow e l p s) := by unfold notePow; simp (disch := decide) only [same_refl, same_ite, ite_self, same_setLeaf, same_sendMsg]
theorem same_notePow {m' : Nat} {s' : State} {e : Eng} {l : LeafId} {p : ℤ} {s : State} (h : m' &&& 720896 = 720896) : Same m' s' (notePow e l p s) = Same m' s' s := Same.eqv (keep_notePow e l p s) h
theorem keep_holdSerial (e : Eng) (serial : BitVec 128) (s : State) : Same 196608 s (holdSerial e serial s) := by unfold holdSerial; simp (disch := first | decide | (intros; (first | unfold IslSt.fencing | unfold IslSt.stepping | unfold Mgt.quiet | skip); first | rfl | (split <;> rfl)) | (intros; simp (disch := first | decide | (intros; (first | unfold IslSt.fencing | unfold IslSt.stepping | unfold Mgt.quiet | skip); first | rfl | (split <;> rfl))) only [same_refl, same_ite, ite_self, same_modEng_st, same_modEng])) only [same_refl, same_ite, ite_self, same_modEng_st, same_modEng]
theorem same_holdSerial {m' : Nat} {s' : State} {e : Eng} {serial : BitVec 128} {s : State} (h : m' &&& 196608 = 196608) : Same m' s' (holdSerial e serial s) = Same m' s' s := Same.eqv (keep_holdSerial e serial s) h
theorem keep_reject (e : Eng) (serial : BitVec 128) (cause : ℕ) (s : State) : Same 537114624 s (reject e serial cause s) := by unfold reject; simp (disch := decide) only [same_refl, same_ite, ite_self, same_schedEvent, same_count, same_sendMsg]
theorem same_reject {m' : Nat} {s' : State} {e : Eng} {serial : BitVec 128} {cause : ℕ} {s : State} (h : m' &&& 537114624 = 537114624) : Same m' s' (reject e serial cause s) = Same m' s' s := Same.eqv (keep_reject e serial cause s) h
theorem keep_rediscover (e : Eng) (l : ℕ) (s : State) : Same 577484800 s (rediscover e l s) := by unfold rediscover; simp (disch := decide) only [same_refl, same_ite, ite_self, same_modLeaf, same_schedEvent, same_eraseLeafKeys, same_resetLeafRx, same_dropForLeaf, same_rerangeEvent, same_idleWindows]
theorem same_rediscover {m' : Nat} {s' : State} {e : Eng} {l : ℕ} {s : State} (h : m' &&& 577484800 = 577484800) : Same m' s' (rediscover e l s) = Same m' s' s := Same.eqv (keep_rediscover e l s) h
theorem keep_admitLeaf (e : Eng) (l : ℕ) (b : List Byte) (err : ℤ) (power : ℤ) (s : State) : Same 577484800 s (admitLeaf e l b err power s) := by unfold admitLeaf; simp (disch := decide) only [same_refl, same_ite, ite_self, same_count, same_schedEvent, same_sendMsg, same_setLeaf, same_strike, same_rediscover]
theorem same_admitLeaf {m' : Nat} {s' : State} {e : Eng} {l : ℕ} {b : List Byte} {err : ℤ} {power : ℤ} {s : State} (h : m' &&& 577484800 = 577484800) : Same m' s' (admitLeaf e l b err power s) = Same m' s' s := Same.eqv (keep_admitLeaf e l b err power s) h
theorem keep_execDiscoveryBurstProcess (e : Eng) (sc : Sc) (s : State) {t' : State} (h : execDiscoveryBurstProcess e sc s = .next t') : Same 577501184 s t' := by unfold execDiscoveryBurstProcess at h; (try simp only [act, actF] at h); cases h; (try simp (disch := decide) only [same_refl, same_ite, ite_self, same_count, same_admitLeaf, same_serveDeferred, same_reject, same_schedEvent, same_holdSerial, same_takeReport]); repeat' (split <;> try simp (disch := decide) only [same_refl, same_ite, ite_self, same_count, same_admitLeaf, same_serveDeferred, same_reject, same_schedEvent, same_holdSerial, same_takeReport])
theorem keep_execRangingBurstProcess (e : Eng) (l : LeafId) (s : State) {t' : State} (h : execRangingBurstProcess e l s = .next t') : Same 34322432 s t' := by unfold execRangingBurstProcess at h; (try simp only [act, actF] at h); cases h; (try simp (disch := decide) only [same_refl, same_ite, ite_self, same_modLeaf, same_sendRange, same_rerangeEvent, same_startExchange, same_noteRtd, same_notePow, same_takeReport]); repeat' (split <;> try simp (disch := decide) only [same_refl, same_ite, ite_self, same_modLeaf, same_sendRange, same_rerangeEvent, same_startExchange, same_noteRtd, same_notePow, same_takeReport])
theorem keep_execRangingWindowMissed (e : Eng) (l : LeafId) (s : State) {t' : State} (h : execRangingWindowMissed e l s = .next t') : Same 577501184 s t' := by unfold execRangingWindowMissed at h; (try simp only [act, actF] at h); cases h; (try simp (disch := first | decide | (intros; (first | unfold IslSt.fencing | unfold IslSt.stepping | unfold Mgt.quiet | skip); first | rfl | (split <;> rfl)) | (intros; simp (disch := first | decide | (intros; (first | unfold IslSt.fencing | unfold IslSt.stepping | unfold Mgt.quiet | skip); first | rfl | (split <;> rfl))) only [same_refl, same_ite, ite_self, same_modEng_st, same_modEng, same_setLeaf, same_depart, same_serveDeferred])) only [same_refl, same_ite, ite_self, same_modEng_st, same_modEng, same_setLeaf, same_depart, same_serveDeferred]); repeat' (split <;> try simp (disch := first | decide | (intros; (first | unfold IslSt.fencing | unfold IslSt.stepping | unfold Mgt.quiet | skip); first | rfl | (split <;> rfl)) | (intros; simp (disch := first | decide | (intros; (first | unfold IslSt.fencing | unfold IslSt.stepping | unfold Mgt.quiet | skip); first | rfl | (split <;> rfl))) only [same_refl, same_ite, ite_self, same_modEng_st, same_modEng, same_setLeaf, same_depart, same_serveDeferred])) only [same_refl, same_ite, ite_self, same_modEng_st, same_modEng, same_setLeaf, same_depart, same_serveDeferred])
theorem keep_noteLanding (e : Eng) (l : LeafId) (err : ℤ) (s : State) : Same 537638912 s (noteLanding e l err s) := by unfold noteLanding; simp (disch := decide) only [same_refl, same_ite, ite_self, same_setLeaf, same_startRerange, same_modLeaf, same_sendRange]
theorem same_noteLanding {m' : Nat} {s' : State} {e : Eng} {l : LeafId} {err : ℤ} {s : State} (h : m' &&& 537638912 = 537638912) : Same m' s' (noteLanding e l err s) = Same m' s' s := Same.eqv (keep_noteLanding e l err s) h
theorem keep_execBurstReportProcess (e : Eng) (sc : Sc) (s : State) {t' : State} (h : execBurstReportProcess e sc s = .next t') : Same 537901056 s t' := by unfold execBurstReportProcess at h; (try simp only [act, actF] at h); cases h; (try simp (disch := first | decide | (intros; (first | unfold IslSt.fencing | unfold IslSt.stepping | unfold Mgt.quiet | skip); first | rfl | (split <;> rfl)) | (intros; simp (disch := first | decide | (intros; (first | unfold IslSt.fencing | unfold IslSt.stepping | unfold Mgt.quiet | skip); first | rfl | (split <;> rfl))) only [same_refl, same_ite, ite_self, same_up_aps, same_noteLanding, same_notePow, same_noteRtd, same_when, same_takeReport])) only [same_refl, same_ite, ite_self, same_up_aps, same_noteLanding, same_notePow, same_noteRtd, same_when, same_takeReport]); repeat' (split <;> try simp (disch := first | decide | (intros; (first | unfold IslSt.fencing | unfold IslSt.stepping | unfold Mgt.quiet | skip); first | rfl | (split <;> rfl)) | (intros; simp (disch := first | decide | (intros; (first | unfold IslSt.fencing | unfold IslSt.stepping | unfold Mgt.quiet | skip); first | rfl | (split <;> rfl))) only [same_refl, same_ite, ite_self, same_up_aps, same_noteLanding, same_notePow, same_noteRtd, same_when, same_takeReport])) only [same_refl, same_ite, ite_self, same_up_aps, same_noteLanding, same_notePow, same_noteRtd, same_when, same_takeReport])
theorem keep_execBankerRegSuccess (e : Eng) (l : LeafId) (s : State) {t' : State} (h : execBankerRegSuccess e l s = .next t') : Same 571193344 s t' := by unfold execBankerRegSuccess at h; (try simp only [act, actF] at h); cases h; simp (disch := first | decide | (intros; (first | unfold IslSt.fencing | unfold IslSt.stepping | unfold Mgt.quiet | skip); first | rfl | (split <;> rfl)) | (intros; simp (disch := first | decide | (intros; (first | unfold IslSt.fencing | unfold IslSt.stepping | unfold Mgt.quiet | skip); first | rfl | (split <;> rfl))) only [same_refl, same_ite, ite_self, same_setLeaf, same_sendMsg, same_forAll, same_wantGroup, same_schedEvent])) only [same_refl, same_ite, ite_self, same_setLeaf, same_sendMsg, same_forAll, same_wantGroup, same_schedEvent]
theorem keep_endRegistration (e : Eng) (l : LeafId) (cause : ℕ) (s : State) : Same 577484800 s (endRegistration e l cause s) := by unfold endRegistration; simp (disch := decide) only [same_refl, same_ite, ite_self, same_depart, same_holdSerial]
theorem same_endRegistration {m' : Nat} {s' : State} {e : Eng} {l : LeafId} {cause : ℕ} {s : State} (h : m' &&& 577484800 = 577484800) : Same m' s' (endRegistration e l cause s) = Same m' s' s := Same.eqv (keep_endRegistration e l cause s) h
theorem keep_execBankerRegFailure (e : Eng) (l : LeafId) (s : State) {t' : State} (h : execBankerRegFailure e l s = .next t') : Same 577501184 s t' := by unfold execBankerRegFailure at h; (try simp only [act, actF] at h); cases h; simp (disch := decide) only [same_refl, same_ite, ite_self, same_endRegistration, same_serveDeferred]
theorem keep_execRegTimeout (e : Eng) (l : LeafId) (s : State) {t' : State} (h : execRegTimeout e l s = .next t') : Same 577501184 s t' := by unfold execRegTimeout at h; (try simp only [act, actF] at h); cases h; simp (disch := decide) only [same_refl, same_ite, ite_self, same_endRegistration, same_serveDeferred]
theorem keep_execLeafDepartTimeout (e : Eng) (l : LeafId) (s : State) {t' : State} (h : execLeafDepartTimeout e l s = .next t') : Same 577501184 s t' := by unfold execLeafDepartTimeout at h; (try simp only [act, actF] at h); cases h; simp (disch := decide) only [same_refl, same_ite, ite_self, same_depart, same_serveDeferred]
theorem keep_execLeafStickyExpiry (e : Eng) (l : LeafId) (s : State) {t' : State} (h : execLeafStickyExpiry e l s = .next t') : Same 524288 s t' := by unfold execLeafStickyExpiry at h; (try simp only [act, actF] at h); cases h; simp (disch := decide) only [same_refl, same_ite, ite_self, same_setLeaf]
theorem keep_writeLeafCtl (e : Eng) (l : LeafId) (v : W32) (s : State) : Same 577501184 s (writeLeafCtl e l v s).1 := by unfold writeLeafCtl; simp (disch := first | decide | (intros; (first | unfold IslSt.fencing | unfold IslSt.stepping | unfold Mgt.quiet | skip); first | rfl | (split <;> rfl)) | (intros; simp (disch := first | decide | (intros; (first | unfold IslSt.fencing | unfold IslSt.stepping | unfold Mgt.quiet | skip); first | rfl | (split <;> rfl))) only [same_refl, same_ite, ite_self, same_startRerange, same_depart, same_serveDeferred, same_refuseOr])) only [same_refl, same_ite, ite_self, same_startRerange, same_depart, same_serveDeferred, same_refuseOr]
theorem same_writeLeafCtl {m' : Nat} {s' : State} {e : Eng} {l : LeafId} {v : W32} {s : State} (h : m' &&& 577501184 = 577501184) : Same m' s' (writeLeafCtl e l v s).1 = Same m' s' s := Same.eqv (keep_writeLeafCtl e l v s) h
theorem keep_execLeafCtlDereg (e : Eng) (l : LeafId) (release : Bool) (s : State) {t' : State} (h : execLeafCtlDereg e l release s = .next t') : Same 577501188 s t' := by unfold execLeafCtlDereg at h; (try simp only [act, actF] at h); cases h; simp (disch := decide) only [same_refl, same_ite, ite_self, same_writeLeafCtl, same_setStatus]
theorem keep_execLeafCtlRerange (e : Eng) (l : LeafId) (s : State) {t' : State} (h : execLeafCtlRerange e l s = .next t') : Same 577501188 s t' := by unfold execLeafCtlRerange at h; (try simp only [act, actF] at h); cases h; simp (disch := decide) only [same_refl, same_ite, ite_self, same_writeLeafCtl, same_setStatus]
theorem keep_writeLeafSerial (e : Eng) (l : LeafId) (i : Fin 4) (v : W32) (s : State) : Same 524288 s (writeLeafSerial e l i v s).1 := by unfold writeLeafSerial; simp (disch := first | decide | (intros; (first | unfold IslSt.fencing | unfold IslSt.stepping | unfold Mgt.quiet | skip); first | rfl | (split <;> rfl)) | (intros; simp (disch := first | decide | (intros; (first | unfold IslSt.fencing | unfold IslSt.stepping | unfold Mgt.quiet | skip); first | rfl | (split <;> rfl))) only [same_refl, same_ite, ite_self, same_refuseOr, same_setLeaf])) only [same_refl, same_ite, ite_self, same_refuseOr, same_setLeaf]
theorem same_writeLeafSerial {m' : Nat} {s' : State} {e : Eng} {l : LeafId} {i : Fin 4} {v : W32} {s : State} (h : m' &&& 524288 = 524288) : Same m' s' (writeLeafSerial e l i v s).1 = Same m' s' s := Same.eqv (keep_writeLeafSerial e l i v s) h
theorem keep_execLeafSerialWrite (e : Eng) (l : LeafId) (i : Fin 4) (v : W32) (s : State) {t' : State} (h : execLeafSerialWrite e l i v s = .next t') : Same 524292 s t' := by unfold execLeafSerialWrite at h; (try simp only [act, actF] at h); cases h; simp (disch := decide) only [same_refl, same_ite, ite_self, same_setStatus, same_writeLeafSerial]
theorem keep_writeLeafState (e : Eng) (l : LeafId) (v : W32) (s : State) : Same 524288 s (writeLeafState e l v s).1 := by unfold writeLeafState; simp (disch := first | decide | (intros; (first | unfold IslSt.fencing | unfold IslSt.stepping | unfold Mgt.quiet | skip); first | rfl | (split <;> rfl)) | (intros; simp (disch := first | decide | (intros; (first | unfold IslSt.fencing | unfold IslSt.stepping | unfold Mgt.quiet | skip); first | rfl | (split <;> rfl))) only [same_refl, same_ite, ite_self, same_refuseOr, same_setLeaf])) only [same_refl, same_ite, ite_self, same_refuseOr, same_setLeaf]
theorem same_writeLeafState {m' : Nat} {s' : State} {e : Eng} {l : LeafId} {v : W32} {s : State} (h : m' &&& 524288 = 524288) : Same m' s' (writeLeafState e l v s).1 = Same m' s' s := Same.eqv (keep_writeLeafState e l v s) h

end Sys2Proof.Machine
end

