-- ==== Sys2Proof/Laws/FrameLaunch.lean ====
section
/-! SUPPORT. Which parts of the state each function of Machine/Launch.lean leaves alone, as the bit mask of the others. -/

namespace Sys2Proof.Machine

set_option linter.unusedSimpArgs false
set_option linter.unusedTactic false
set_option linter.unreachableTactic false

theorem keep_tieUsc (e : Eng) (s : State) : Same 196608 s (tieUsc e s) := by unfold tieUsc; simp (disch := first | decide | (intros; (first | unfold IslSt.fencing | unfold IslSt.stepping | unfold Mgt.quiet | skip); first | rfl | (split <;> rfl)) | (intros; simp (disch := first | decide | (intros; (first | unfold IslSt.fencing | unfold IslSt.stepping | unfold Mgt.quiet | skip); first | rfl | (split <;> rfl))) only [same_refl, same_ite, ite_self, same_modEng_st, same_modEng])) only [same_refl, same_ite, ite_self, same_modEng_st, same_modEng]
theorem same_tieUsc {m' : Nat} {s' : State} {e : Eng} {s : State} (h : m' &&& 196608 = 196608) : Same m' s' (tieUsc e s) = Same m' s' s := Same.eqv (keep_tieUsc e s) h
theorem keep_startLockstep (e : Eng) (s : State) : Same 196608 s (startLockstep e s) := by unfold startLockstep; (try simp (disch := first | decide | (intros; (first | unfold IslSt.fencing | unfold IslSt.stepping | unfold Mgt.quiet | skip); first | rfl | (split <;> rfl)) | (intros; simp (disch := first | decide | (intros; (first | unfold IslSt.fencing | unfold IslSt.stepping | unfold Mgt.quiet | skip); first | rfl | (split <;> rfl)) | (intros; simp (disch := first | decide | (intros; (first | unfold IslSt.fencing | unfold IslSt.stepping | unfold Mgt.quiet | skip); first | rfl | (split <;> rfl))) only [same_refl, same_ite, ite_self, same_startStream, same_when, same_forAll])) only [same_refl, same_ite, ite_self, same_startStream, same_when, same_forAll])) only [same_refl, same_ite, ite_self, same_startStream, same_when, same_forAll]); repeat' (split <;> try simp (disch := first | decide | (intros; (first | unfold IslSt.fencing | unfold IslSt.stepping | unfold Mgt.quiet | skip); first | rfl | (split <;> rfl)) | (intros; simp (disch := first | decide | (intros; (first | unfold IslSt.fencing | unfold IslSt.stepping | unfold Mgt.quiet | skip); first | rfl | (split <;> rfl)) | (intros; simp (disch := first | decide | (intros; (first | unfold IslSt.fencing | unfold IslSt.stepping | unfold Mgt.quiet | skip); first | rfl | (split <;> rfl))) only [same_refl, same_ite, ite_self, same_startStream, same_when, same_forAll])) only [same_refl, same_ite, ite_self, same_startStream, same_when, same_forAll])) only [same_refl, same_ite, ite_self, same_startStream, same_when, same_forAll])
theorem same_startLockstep {m' : Nat} {s' : State} {e : Eng} {s : State} (h : m' &&& 196608 = 196608) : Same m' s' (startLockstep e s) = Same m' s' s := Same.eqv (keep_startLockstep e s) h
theorem keep_commitGrant (e : Eng) (b : Basis) (tn : ℕ) (g : Grant) (s : State) : Same 537395200 s (commitGrant e b tn g s) := by unfold commitGrant; simp (disch := decide) only [same_refl, same_ite, ite_self, same_modLeaf, same_countSched]
theorem same_commitGrant {m' : Nat} {s' : State} {e : Eng} {b : Basis} {tn : ℕ} {g : Grant} {s : State} (h : m' &&& 537395200 = 537395200) : Same m' s' (commitGrant e b tn g s) = Same m' s' s := Same.eqv (keep_commitGrant e b tn g s) h
theorem keep_commitSquare (e : Eng) (tn : ℕ) (q : Square) (s : State) : Same 537591808 s (commitSquare e tn q s) := by unfold commitSquare; simp (disch := first | decide | (intros; (first | unfold IslSt.fencing | unfold IslSt.stepping | unfold Mgt.quiet | skip); first | rfl | (split <;> rfl)) | (intros; simp (disch := first | decide | (intros; (first | unfold IslSt.fencing | unfold IslSt.stepping | unfold Mgt.quiet | skip); first | rfl | (split <;> rfl))) only [same_refl, same_ite, ite_self, same_modLeaf, same_countSched, same_modEng_st, same_modEng, same_count])) only [same_refl, same_ite, ite_self, same_modLeaf, same_countSched, same_modEng_st, same_modEng, same_count]
theorem same_commitSquare {m' : Nat} {s' : State} {e : Eng} {tn : ℕ} {q : Square} {s : State} (h : m' &&& 537591808 = 537591808) : Same m' s' (commitSquare e tn q s) = Same m' s' s := Same.eqv (keep_commitSquare e tn q s) h
theorem keep_commitMap (e : Eng) (m : MapSt) (s : State) : Same 537591808 s (commitMap e m s) := by unfold commitMap; simp (disch := first | decide | (intros; (first | unfold IslSt.fencing | unfold IslSt.stepping | unfold Mgt.quiet | skip); first | rfl | (split <;> rfl)) | (intros; simp (disch := first | decide | (intros; (first | unfold IslSt.fencing | unfold IslSt.stepping | unfold Mgt.quiet | skip); first | rfl | (split <;> rfl))) only [same_refl, same_ite, ite_self, same_modDown, same_modEng_st, same_modEng, same_count, same_forAll, same_commitSquare, same_commitGrant])) only [same_refl, same_ite, ite_self, same_modDown, same_modEng_st, same_modEng, same_count, same_forAll, same_commitSquare, same_commitGrant]
theorem same_commitMap {m' : Nat} {s' : State} {e : Eng} {m : MapSt} {s : State} (h : m' &&& 537591808 = 537591808) : Same m' s' (commitMap e m s) = Same m' s' s := Same.eqv (keep_commitMap e m s) h
theorem keep_noteSentRange (e : Eng) (m : Msg) (s : State) : Same 524288 s (noteSentRange e m s) := by unfold noteSentRange; (try simp (disch := decide) only [same_refl, same_ite, ite_self, same_modLeaf]); repeat' (split <;> try simp (disch := decide) only [same_refl, same_ite, ite_self, same_modLeaf])
theorem same_noteSentRange {m' : Nat} {s' : State} {e : Eng} {m : Msg} {s : State} (h : m' &&& 524288 = 524288) : Same m' s' (noteSentRange e m s) = Same m' s' s := Same.eqv (keep_noteSentRange e m s) h
theorem keep_holdLeft (e : Eng) (k : ℕ) (x2 : HoldOut) (s : State) : Same 537067520 s (holdLeft e k x2 s) := by unfold holdLeft; simp (disch := decide) only [same_refl, same_ite, ite_self, same_idleWindows]
theorem same_holdLeft {m' : Nat} {s' : State} {e : Eng} {k : ℕ} {x2 : HoldOut} {s : State} (h : m' &&& 537067520 = 537067520) : Same m' s' (holdLeft e k x2 s) = Same m' s' s := Same.eqv (keep_holdLeft e k x2 s) h
theorem keep_prepareControl (e : Eng) (k : ℕ) (s : State) : Same 537591808 s (prepareControl e k s) := by unfold prepareControl; (try simp (disch := first | decide | (intros; (first | unfold IslSt.fencing | unfold IslSt.stepping | unfold Mgt.quiet | skip); first | rfl | (split <;> rfl)) | (intros; simp (disch := first | decide | (intros; (first | unfold IslSt.fencing | unfold IslSt.stepping | unfold Mgt.quiet | skip); first | rfl | (split <;> rfl))) only [same_refl, same_ite, ite_self, same_modDown, same_noteSentRange, same_forAll, same_commitMap, same_dropMaps])) only [same_refl, same_ite, ite_self, same_modDown, same_noteSentRange, same_forAll, same_commitMap, same_dropMaps]); repeat' (split <;> try simp (disch := first | decide | (intros; (first | unfold IslSt.fencing | unfold IslSt.stepping | unfold Mgt.quiet | skip); first | rfl | (split <;> rfl)) | (intros; simp (disch := first | decide | (intros; (first | unfold IslSt.fencing | unfold IslSt.stepping | unfold Mgt.quiet | skip); first | rfl | (split <;> rfl))) only [same_refl, same_ite, ite_self, same_modDown, same_noteSentRange, same_forAll, same_commitMap, same_dropMaps])) only [same_refl, same_ite, ite_self, same_modDown, same_noteSentRange, same_forAll, same_commitMap, same_dropMaps])
theorem same_prepareControl {m' : Nat} {s' : State} {e : Eng} {k : ℕ} {s : State} (h : m' &&& 537591808 = 537591808) : Same m' s' (prepareControl e k s) = Same m' s' s := Same.eqv (keep_prepareControl e k s) h
theorem keep_endMove (f : ℕ) (s : State) : Same 6291456 s (endMove f s) := by unfold endMove; simp (disch := decide) only [same_refl, same_ite, ite_self, same_up_flow, same_setFlow, same_modCtr]
theorem same_endMove {m' : Nat} {s' : State} {f : ℕ} {s : State} (h : m' &&& 6291456 = 6291456) : Same m' s' (endMove f s) = Same m' s' s := Same.eqv (keep_endMove f s) h
theorem keep_noteSent (e : Eng) (u : TxUnit) (s : State) : Same 6291456 s (noteSent e u s) := by unfold noteSent; simp (disch := decide) only [same_refl, same_ite, ite_self, same_endMove]
theorem same_noteSent {m' : Nat} {s' : State} {e : Eng} {u : TxUnit} {s : State} (h : m' &&& 6291456 = 6291456) : Same m' s' (noteSent e u s) = Same m' s' s := Same.eqv (keep_noteSent e u s) h
theorem keep_pullUnit (e : Eng) (i : Nat) : ∀ (n : Nat) (s t : State), pullUnit e i n s = some t → Same 7340032 s t
  | 0, _, _, h => by simp [pullUnit] at h
  | n + 1, s, t, h => by
    unfold pullUnit at h; extract_lets x at h; split at h
    · cases h
    · extract_lets y at h; split at h
      · refine Same.trans ?_ (keep_pullUnit e i n _ _ h)
        exact (same_setSset (by decide)).mpr ((same_refl _ s).mpr trivial)
      · extract_lets q k z at h; clear_value q; split at h
        · refine Same.trans ?_ (keep_pullUnit e i n _ _ h)
          exact (same_setCtr (by decide)).mpr ((same_setSset (by decide)).mpr ((same_refl _ s).mpr trivial))
        · cases h
          exact (same_noteSent (by decide)).mpr ((same_setCtr (by decide)).mpr ((same_setSset (by decide)).mpr ((same_refl _ s).mpr trivial)))

theorem keep_fillStream (e : Eng) (i : Nat) : ∀ (n : Nat) (s : State), Same 7340032 s (fillStream e i n s)
  | 0, _ => (same_refl _ _).mpr trivial
  | n + 1, s => by
    unfold fillStream; split
    · exact (same_refl _ _).mpr trivial
    · split
      · next h => exact (keep_pullUnit e i 513 s _ h).trans (keep_fillStream e i n _)
      · exact (same_refl _ _).mpr trivial

theorem same_fillStream {m' : Nat} {s' : State} {e : Eng} {i : ℕ} {a2 : ℕ} {a3 : State} (h : m' &&& 7340032 = 7340032) : Same m' s' (fillStream e i a2 a3) = Same m' s' a3 := Same.eqv (keep_fillStream e i a2 a3) h
theorem keep_sendCell (e : Eng) (c : Cell) (s : State) : Same 196608 s (sendCell e c s) := by unfold sendCell; simp (disch := decide) only [same_refl, same_ite, ite_self, same_modDown]
theorem same_sendCell {m' : Nat} {s' : State} {e : Eng} {c : Cell} {s : State} (h : m' &&& 196608 = 196608) : Same m' s' (sendCell e c s) = Same m' s' s := Same.eqv (keep_sendCell e c s) h
theorem keep_containerCell (e : Eng) (n : ℕ) (k : ℕ) (i : ℕ) (s : State) : Same 544407552 s (containerCell e n k i s) := by unfold containerCell; simp (disch := first | decide | (intros; (first | unfold IslSt.fencing | unfold IslSt.stepping | unfold Mgt.quiet | skip); first | rfl | (split <;> rfl)) | (intros; simp (disch := first | decide | (intros; (first | unfold IslSt.fencing | unfold IslSt.stepping | unfold Mgt.quiet | skip); first | rfl | (split <;> rfl))) only [same_refl, same_ite, ite_self, same_sendCell, same_count, same_forAll, same_setSset, same_fillStream])) only [same_refl, same_ite, ite_self, same_sendCell, same_count, same_forAll, same_setSset, same_fillStream]
theorem same_containerCell {m' : Nat} {s' : State} {e : Eng} {n : ℕ} {k : ℕ} {i : ℕ} {s : State} (h : m' &&& 544407552 = 544407552) : Same m' s' (containerCell e n k i s) = Same m' s' s := Same.eqv (keep_containerCell e n k i s) h
theorem keep_takeHolds (e : Eng) (n : ℕ) (s : State) : Same 537067520 s (takeHolds e n s) := by unfold takeHolds; simp (disch := first | decide | (intros; (first | unfold IslSt.fencing | unfold IslSt.stepping | unfold Mgt.quiet | skip); first | rfl | (split <;> rfl)) | (intros; simp (disch := first | decide | (intros; (first | unfold IslSt.fencing | unfold IslSt.stepping | unfold Mgt.quiet | skip); first | rfl | (split <;> rfl))) only [same_refl, same_ite, ite_self, same_modDown, same_holdLeft, same_forAll])) only [same_refl, same_ite, ite_self, same_modDown, same_holdLeft, same_forAll]
theorem same_takeHolds {m' : Nat} {s' : State} {e : Eng} {n : ℕ} {s : State} (h : m' &&& 537067520 = 537067520) : Same m' s' (takeHolds e n s) = Same m' s' s := Same.eqv (keep_takeHolds e n s) h
theorem keep_controlCell (e : Eng) (n : ℕ) (s : State) : Same 537067520 s (controlCell e n s) := by unfold controlCell; simp (disch := decide) only [same_refl, same_ite, ite_self, same_takeHolds, same_modDown, same_sendCell]
theorem same_controlCell {m' : Nat} {s' : State} {e : Eng} {n : ℕ} {s : State} (h : m' &&& 537067520 = 537067520) : Same m' s' (controlCell e n s) = Same m' s' s := Same.eqv (keep_controlCell e n s) h
theorem keep_oneCell (e : Eng) (ais : Bool) (n : ℕ) (k : ℕ) (s : State) : Same 544407552 s (oneCell e ais n k s) := by unfold oneCell; (try simp (disch := decide) only [same_refl, same_ite, ite_self, same_sendCell, same_containerCell, same_controlCell]); repeat' (split <;> try simp (disch := decide) only [same_refl, same_ite, ite_self, same_sendCell, same_containerCell, same_controlCell])
theorem same_oneCell {m' : Nat} {s' : State} {e : Eng} {ais : Bool} {n : ℕ} {k : ℕ} {s : State} (h : m' &&& 544407552 = 544407552) : Same m' s' (oneCell e ais n k s) = Same m' s' s := Same.eqv (keep_oneCell e ais n k s) h
theorem keep_pairFrame (e : Eng) (was : ℕ) (s : State) : Same 262144 s (pairFrame e was s) := by unfold pairFrame; simp (disch := decide) only [same_refl, same_ite, ite_self, same_up_aps]
theorem same_pairFrame {m' : Nat} {s' : State} {e : Eng} {was : ℕ} {s : State} (h : m' &&& 262144 = 262144) : Same m' s' (pairFrame e was s) = Same m' s' s := Same.eqv (keep_pairFrame e was s) h
theorem keep_startFramer (e : Eng) (s : State) : Same 196608 s (startFramer e s) := by unfold startFramer; simp (disch := decide) only [same_refl, same_ite, ite_self, same_modDown, same_tieUsc]
theorem same_startFramer {m' : Nat} {s' : State} {e : Eng} {s : State} (h : m' &&& 196608 = 196608) : Same m' s' (startFramer e s) = Same m' s' s := Same.eqv (keep_startFramer e s) h
theorem keep_aprOf (e : Eng) (s : State) : Same 2 s (aprOf e s).2 := by unfold aprOf; simp (disch := decide) only [same_refl, same_ite, ite_self, same_draw]
theorem same_aprOf {m' : Nat} {s' : State} {e : Eng} {s : State} (h : m' &&& 2 = 2) : Same m' s' (aprOf e s).2 = Same m' s' s := Same.eqv (keep_aprOf e s) h
theorem keep_launchLine (e : Eng) (fc : ℕ) (starts : List (ℕ × ScSt)) (hs : Table (BitVec 128)) (s : State) : Same 196610 s (launchLine e fc starts hs s) := by unfold launchLine; simp (disch := decide) only [same_refl, same_ite, ite_self, same_modCal, same_modDown, same_aprOf]
theorem same_launchLine {m' : Nat} {s' : State} {e : Eng} {fc : ℕ} {starts : List (ℕ × ScSt)} {hs : Table (BitVec 128)} {s : State} (h : m' &&& 196610 = 196610) : Same m' s' (launchLine e fc starts hs s) = Same m' s' s := Same.eqv (keep_launchLine e fc starts hs s) h
theorem keep_execFrameLaunch (e : Eng) (s : State) {t' : State} (h : execFrameLaunch e s = .next t') : Same 545193986 s t' := by unfold execFrameLaunch at h; (try simp only [act, actF] at h); cases h; simp (disch := first | decide | (intros; (first | unfold IslSt.fencing | unfold IslSt.stepping | unfold Mgt.quiet | skip); first | rfl | (split <;> rfl)) | (intros; simp (disch := first | decide | (intros; (first | unfold IslSt.fencing | unfold IslSt.stepping | unfold Mgt.quiet | skip); first | rfl | (split <;> rfl))) only [same_refl, same_ite, ite_self, same_modDown, same_pairFrame, same_countCond, same_launchLine, same_prepareControl, same_when, same_oneCell, same_forAll, same_startFramer, same_startLockstep])) only [same_refl, same_ite, ite_self, same_modDown, same_pairFrame, same_countCond, same_launchLine, same_prepareControl, same_when, same_oneCell, same_forAll, same_startFramer, same_startLockstep]
theorem keep_execDsGrpEnWrite (e : Eng) (v : W32) (s : State) {t' : State} (h : execDsGrpEnWrite e v s = .next t') : Same 197636 s t' := by unfold execDsGrpEnWrite at h; (try simp only [act, actF] at h); cases h; simp (disch := decide) only [same_refl, same_ite, ite_self, same_setStatus, same_writeGrpEn]

end Sys2Proof.Machine
end

