-- ==== Sys2Proof/Laws/FrameTally.lean ====
section
/-! SUPPORT. Which parts of the state each function of Machine/Tally.lean leaves alone, as the bit mask of the others. -/

namespace Sys2Proof.Machine

set_option linter.unusedSimpArgs false
set_option linter.unusedTactic false
set_option linter.unreachableTactic false

theorem keep_raiseSat (s : State) : Same 32768 s (raiseSat s) := by unfold raiseSat; simp (disch := first | decide | (intros; (first | unfold IslSt.fencing | unfold IslSt.stepping | unfold Mgt.quiet | skip); first | rfl | (split <;> rfl)) | (intros; simp (disch := first | decide | (intros; (first | unfold IslSt.fencing | unfold IslSt.stepping | unfold Mgt.quiet | skip); first | rfl | (split <;> rfl))) only [same_refl, same_ite, ite_self, same_raise, same_forAll])) only [same_refl, same_ite, ite_self, same_raise, same_forAll]
theorem same_raiseSat {m' : Nat} {s' : State} {s : State} (h : m' &&& 32768 = 32768) : Same m' s' (raiseSat s) = Same m' s' s := Same.eqv (keep_raiseSat s) h
theorem keep_addTotals (s : State) : Same 536870912 s (addTotals s) := by unfold addTotals; simp (disch := first | decide | (intros; (first | unfold IslSt.fencing | unfold IslSt.stepping | unfold Mgt.quiet | skip); first | rfl | (split <;> rfl)) | (intros; simp (disch := first | decide | (intros; (first | unfold IslSt.fencing | unfold IslSt.stepping | unfold Mgt.quiet | skip); first | rfl | (split <;> rfl))) only [same_refl, same_ite, ite_self, same_up_tally, same_forAll])) only [same_refl, same_ite, ite_self, same_up_tally, same_forAll]
theorem same_addTotals {m' : Nat} {s' : State} {s : State} (h : m' &&& 536870912 = 536870912) : Same m' s' (addTotals s) = Same m' s' s := Same.eqv (keep_addTotals s) h
theorem keep_countFree (k : ℕ) (o : ℕ) (i : ℕ) (hi : Option ℕ) (s : State) : Same 536870914 s (countFree k o i hi s).2 := by unfold countFree; simp (disch := decide) only [same_refl, same_ite, ite_self, same_draw, same_count]
theorem same_countFree {m' : Nat} {s' : State} {k : ℕ} {o : ℕ} {i : ℕ} {hi : Option ℕ} {s : State} (h : m' &&& 536870914 = 536870914) : Same m' s' (countFree k o i hi s).2 = Same m' s' s := Same.eqv (keep_countFree k o i hi s) h
theorem keep_lineCounts (s : State) : Same 553648130 s (lineCounts s) := by unfold lineCounts; (try simp (disch := first | decide | (intros; (first | unfold IslSt.fencing | unfold IslSt.stepping | unfold Mgt.quiet | skip); first | rfl | (split <;> rfl)) | (intros; simp (disch := first | decide | (intros; (first | unfold IslSt.fencing | unfold IslSt.stepping | unfold Mgt.quiet | skip); first | rfl | (split <;> rfl)) | (intros; simp (disch := first | decide | (intros; (first | unfold IslSt.fencing | unfold IslSt.stepping | unfold Mgt.quiet | skip); first | rfl | (split <;> rfl))) only [same_refl, same_ite, ite_self, same_up_cln, same_draw, same_modLane, same_forAll, same_modPort, same_countFree])) only [same_refl, same_ite, ite_self, same_up_cln, same_draw, same_modLane, same_forAll, same_modPort, same_countFree])) only [same_refl, same_ite, ite_self, same_up_cln, same_draw, same_modLane, same_forAll, same_modPort, same_countFree]); repeat' (split <;> try simp (disch := first | decide | (intros; (first | unfold IslSt.fencing | unfold IslSt.stepping | unfold Mgt.quiet | skip); first | rfl | (split <;> rfl)) | (intros; simp (disch := first | decide | (intros; (first | unfold IslSt.fencing | unfold IslSt.stepping | unfold Mgt.quiet | skip); first | rfl | (split <;> rfl)) | (intros; simp (disch := first | decide | (intros; (first | unfold IslSt.fencing | unfold IslSt.stepping | unfold Mgt.quiet | skip); first | rfl | (split <;> rfl))) only [same_refl, same_ite, ite_self, same_up_cln, same_draw, same_modLane, same_forAll, same_modPort, same_countFree])) only [same_refl, same_ite, ite_self, same_up_cln, same_draw, same_modLane, same_forAll, same_modPort, same_countFree])) only [same_refl, same_ite, ite_self, same_up_cln, same_draw, same_modLane, same_forAll, same_modPort, same_countFree])
theorem same_lineCounts {m' : Nat} {s' : State} {s : State} (h : m' &&& 553648130 = 553648130) : Same m' s' (lineCounts s) = Same m' s' s := Same.eqv (keep_lineCounts s) h
theorem keep_noteFenced (i : Isl) (s : State) : Same 536870912 s (noteFenced i s) := by unfold noteFenced; simp (disch := decide) only [same_refl, same_ite, ite_self, same_up_tally]
theorem same_noteFenced {m' : Nat} {s' : State} {i : Isl} {s : State} (h : m' &&& 536870912 = 536870912) : Same m' s' (noteFenced i s) = Same m' s' s := Same.eqv (keep_noteFenced i s) h
theorem keep_remark (s : State) : Same 536870912 s (remark s) := by
  unfold remark
  refine (same_forAll fun e t => ?_).mpr ((same_refl _ _).mpr trivial)
  extract_lets u
  have h1 : Same 536870912 t u := by
    simp only [u]
    split
    · exact (same_markCount (by decide)).mpr ((same_refl _ _).mpr trivial)
    · exact (same_refl _ _).mpr trivial
  clear_value u
  refine (same_forAll fun l v => ?_).mpr h1
  split
  · exact (same_markCount (by decide)).mpr ((same_refl _ _).mpr trivial)
  · exact (same_refl _ _).mpr trivial

theorem same_remark {m' : Nat} {s' : State} {s : State} (h : m' &&& 536870912 = 536870912) : Same m' s' (remark s) = Same m' s' s := Same.eqv (keep_remark s) h
theorem keep_latchEngine (e : Eng) (s : State) : Same 196608 s (latchEngine e s) := by unfold latchEngine; simp (disch := first | decide | (intros; (first | unfold IslSt.fencing | unfold IslSt.stepping | unfold Mgt.quiet | skip); first | rfl | (split <;> rfl)) | (intros; simp (disch := first | decide | (intros; (first | unfold IslSt.fencing | unfold IslSt.stepping | unfold Mgt.quiet | skip); first | rfl | (split <;> rfl))) only [same_refl, same_ite, ite_self, same_modEng_st, same_modEng])) only [same_refl, same_ite, ite_self, same_modEng_st, same_modEng]
theorem same_latchEngine {m' : Nat} {s' : State} {e : Eng} {s : State} (h : m' &&& 196608 = 196608) : Same m' s' (latchEngine e s) = Same m' s' s := Same.eqv (keep_latchEngine e s) h
theorem keep_latchReceive (s : State) : Same 196608 s (latchReceive s) := by unfold latchReceive; simp (disch := decide) only [same_refl, same_ite, ite_self, same_latchEngine]
theorem same_latchReceive {m' : Nat} {s' : State} {s : State} (h : m' &&& 196608 = 196608) : Same m' s' (latchReceive s) = Same m' s' s := Same.eqv (keep_latchReceive s) h
theorem keep_latch (sec : ℕ) (step : Bool) (s : State) : Same 553654274 s (latch sec step s) := by unfold latch; simp (disch := first | decide | (intros; (first | unfold IslSt.fencing | unfold IslSt.stepping | unfold Mgt.quiet | skip); first | rfl | (split <;> rfl)) | (intros; simp (disch := first | decide | (intros; (first | unfold IslSt.fencing | unfold IslSt.stepping | unfold Mgt.quiet | skip); first | rfl | (split <;> rfl))) only [same_refl, same_ite, ite_self, same_up_tally, same_remark, same_setFlag, same_when, same_addTotals, same_lineCounts])) only [same_refl, same_ite, ite_self, same_up_tally, same_remark, same_setFlag, same_when, same_addTotals, same_lineCounts]
theorem same_latch {m' : Nat} {s' : State} {sec : ℕ} {step : Bool} {s : State} (h : m' &&& 553654274 = 553654274) : Same m' s' (latch sec step s) = Same m' s' s := Same.eqv (keep_latch sec step s) h
theorem keep_writeTallyCtl (v : W32) (s : State) : Same 536870912 s (writeTallyCtl v s).1 := by unfold writeTallyCtl; simp (disch := first | decide | (intros; (first | unfold IslSt.fencing | unfold IslSt.stepping | unfold Mgt.quiet | skip); first | rfl | (split <;> rfl)) | (intros; simp (disch := first | decide | (intros; (first | unfold IslSt.fencing | unfold IslSt.stepping | unfold Mgt.quiet | skip); first | rfl | (split <;> rfl))) only [same_refl, same_ite, ite_self, same_up_tally, same_refuseOr])) only [same_refl, same_ite, ite_self, same_up_tally, same_refuseOr]
theorem same_writeTallyCtl {m' : Nat} {s' : State} {v : W32} {s : State} (h : m' &&& 536870912 = 536870912) : Same m' s' (writeTallyCtl v s).1 = Same m' s' s := Same.eqv (keep_writeTallyCtl v s) h
theorem keep_execTallyClearTot (s : State) {t' : State} (h : execTallyClearTot s = .next t') : Same 536870916 s t' := by unfold execTallyClearTot at h; (try simp only [act, actF] at h); cases h; simp (disch := decide) only [same_refl, same_ite, ite_self, same_setStatus, same_writeTallyCtl]
theorem keep_reportLost (s : State) : Same 38912 s (reportLost s) := by unfold reportLost; simp (disch := first | decide | (intros; (first | unfold IslSt.fencing | unfold IslSt.stepping | unfold Mgt.quiet | skip); first | rfl | (split <;> rfl)) | (intros; simp (disch := first | decide | (intros; (first | unfold IslSt.fencing | unfold IslSt.stepping | unfold Mgt.quiet | skip); first | rfl | (split <;> rfl))) only [same_refl, same_ite, ite_self, same_forAll, same_raiseF, same_modIsl_all, same_modIsl_fences, same_modIsl_steps, same_modIsl_incarn, same_modIsl])) only [same_refl, same_ite, ite_self, same_forAll, same_raiseF, same_modIsl_all, same_modIsl_fences, same_modIsl_steps, same_modIsl_incarn, same_modIsl]
theorem same_reportLost {m' : Nat} {s' : State} {s : State} (h : m' &&& 38912 = 38912) : Same m' s' (reportLost s) = Same m' s' s := Same.eqv (keep_reportLost s) h
theorem keep_latchMiss (s : State) : Same 4194304 s (latchMiss s) := by unfold latchMiss; simp (disch := decide) only [same_refl, same_ite, ite_self, same_up_flow]
theorem same_latchMiss {m' : Nat} {s' : State} {s : State} (h : m' &&& 4194304 = 4194304) : Same m' s' (latchMiss s) = Same m' s' s := Same.eqv (keep_latchMiss s) h
theorem keep_execSecondBoundary (s : State) {t' : State} (h : execSecondBoundary s = .next t') : Same 558094434 s t' := by
  unfold execSecondBoundary at h
  refine keep_act (fun u => ?_) h
  extract_lets sec s1 edge c p s2
  have h1 : Same 558094434 u s1 := (same_latch (by decide)).mpr ((same_refl _ _).mpr trivial)
  clear_value s1
  have h2 : Same 558094434 u s2 := (same_up_pins_clk_seenSec (by decide)).mpr h1
  clear_value s2
  exact (same_latchMiss (by decide)).mpr ((same_raiseSums (by decide)).mpr ((same_reportLost (by decide)).mpr
    ((same_raiseSat (by decide)).mpr ((same_latchReceive (by decide)).mpr h2))))

theorem keep_levelMicros (s : State) : Same 536870912 s (levelMicros s) := by unfold levelMicros; simp (disch := first | decide | (intros; (first | unfold IslSt.fencing | unfold IslSt.stepping | unfold Mgt.quiet | skip); first | rfl | (split <;> rfl)) | (intros; simp (disch := first | decide | (intros; (first | unfold IslSt.fencing | unfold IslSt.stepping | unfold Mgt.quiet | skip); first | rfl | (split <;> rfl))) only [same_refl, same_ite, ite_self, same_forAll, same_countCond])) only [same_refl, same_ite, ite_self, same_forAll, same_countCond]
theorem same_levelMicros {m' : Nat} {s' : State} {s : State} (h : m' &&& 536870912 = 536870912) : Same m' s' (levelMicros s) = Same m' s' s := Same.eqv (keep_levelMicros s) h
theorem keep_tick (s : State) : Same 541065280 s (tick s) := by unfold tick; simp (disch := decide) only [same_refl, same_ite, ite_self, same_up_clk_flow, same_levelMicros]
theorem same_tick {m' : Nat} {s' : State} {s : State} (h : m' &&& 541065280 = 541065280) : Same m' s' (tick s) = Same m' s' s := Same.eqv (keep_tick s) h

end Sys2Proof.Machine
end

