-- ==== Sys2Proof/Laws/FrameFlow.lean ====
section
/-! SUPPORT. Which parts of the state each function of Machine/Flow.lean leaves alone, as the bit mask of the others. -/

namespace Sys2Proof.Machine

set_option linter.unusedSimpArgs false
set_option linter.unusedTactic false
set_option linter.unreachableTactic false

theorem keep_takePkt (s : State) : Same 4194304 s (takePkt s) := by unfold takePkt; simp (disch := decide) only [same_refl, same_ite, ite_self, same_up_flow]
theorem same_takePkt {m' : Nat} {s' : State} {s : State} (h : m' &&& 4194304 = 4194304) : Same m' s' (takePkt s) = Same m' s' s := Same.eqv (keep_takePkt s) h
theorem keep_readContext (reader : ℕ) (f : ℕ) (s : State) : Same 608212994 s (readContext reader f s) := by unfold readContext; simp (disch := decide) only [same_refl, same_ite, ite_self, same_memScan]
theorem same_readContext {m' : Nat} {s' : State} {reader : ℕ} {f : ℕ} {s : State} (h : m' &&& 608212994 = 608212994) : Same m' s' (readContext reader f s) = Same m' s' s := Same.eqv (keep_readContext reader f s) h
theorem keep_writeBack (f : ℕ) (s : State) : Same 67108864 s (writeBack f s) := by unfold writeBack; simp (disch := decide) only [same_refl, same_ite, ite_self, same_up_mem]
theorem same_writeBack {m' : Nat} {s' : State} {f : ℕ} {s : State} (h : m' &&& 67108864 = 67108864) : Same m' s' (writeBack f s) = Same m' s' s := Same.eqv (keep_writeBack f s) h
theorem keep_touch (f : ℕ) (s : State) : Same 71303168 s (touch f s) := by unfold touch; simp (disch := first | decide | (intros; (first | unfold IslSt.fencing | unfold IslSt.stepping | unfold Mgt.quiet | skip); first | rfl | (split <;> rfl)) | (intros; simp (disch := first | decide | (intros; (first | unfold IslSt.fencing | unfold IslSt.stepping | unfold Mgt.quiet | skip); first | rfl | (split <;> rfl))) only [same_refl, same_ite, ite_self, same_up_flow, same_writeBack, same_forAll])) only [same_refl, same_ite, ite_self, same_up_flow, same_writeBack, same_forAll]
theorem same_touch {m' : Nat} {s' : State} {f : ℕ} {s : State} (h : m' &&& 71303168 = 71303168) : Same m' s' (touch f s) = Same m' s' s := Same.eqv (keep_touch f s) h
theorem keep_noteLookup (hit : Bool) (s : State) : Same 4194304 s (noteLookup hit s) := by unfold noteLookup; simp (disch := decide) only [same_refl, same_ite, ite_self, same_up_flow]
theorem same_noteLookup {m' : Nat} {s' : State} {hit : Bool} {s : State} (h : m' &&& 4194304 = 4194304) : Same m' s' (noteLookup hit s) = Same m' s' s := Same.eqv (keep_noteLookup hit s) h
theorem keep_hostTouch (f : ℕ) (s : State) : Same 71303168 s (hostTouch f s) := by unfold hostTouch; simp (disch := decide) only [same_refl, same_ite, ite_self, same_up_flow, same_touch, same_modFlow, same_noteLookup]
theorem same_hostTouch {m' : Nat} {s' : State} {f : ℕ} {s : State} (h : m' &&& 71303168 = 71303168) : Same m' s' (hostTouch f s) = Same m' s' s := Same.eqv (keep_hostTouch f s) h
theorem keep_processDs (f : ℕ) (b : List Byte) (s : State) : Same 610277378 s (processDs f b s) := by unfold processDs; (try simp (disch := first | decide | (intros; (first | unfold IslSt.fencing | unfold IslSt.stepping | unfold Mgt.quiet | skip); first | rfl | (split <;> rfl)) | (intros; simp (disch := first | decide | (intros; (first | unfold IslSt.fencing | unfold IslSt.stepping | unfold Mgt.quiet | skip); first | rfl | (split <;> rfl))) only [same_refl, same_ite, ite_self, same_up_flow, same_modCtr, same_bufWritten, same_when, same_farWritten, same_setFlow])) only [same_refl, same_ite, ite_self, same_up_flow, same_modCtr, same_bufWritten, same_when, same_farWritten, same_setFlow]); repeat' (split <;> try simp (disch := first | decide | (intros; (first | unfold IslSt.fencing | unfold IslSt.stepping | unfold Mgt.quiet | skip); first | rfl | (split <;> rfl)) | (intros; simp (disch := first | decide | (intros; (first | unfold IslSt.fencing | unfold IslSt.stepping | unfold Mgt.quiet | skip); first | rfl | (split <;> rfl))) only [same_refl, same_ite, ite_self, same_up_flow, same_modCtr, same_bufWritten, same_when, same_farWritten, same_setFlow])) only [same_refl, same_ite, ite_self, same_up_flow, same_modCtr, same_bufWritten, same_when, same_farWritten, same_setFlow])
theorem same_processDs {m' : Nat} {s' : State} {f : ℕ} {b : List Byte} {s : State} (h : m' &&& 610277378 = 610277378) : Same m' s' (processDs f b s) = Same m' s' s := Same.eqv (keep_processDs f b s) h
theorem keep_processUs (f : ℕ) (e : Eng) (cid : ℕ) (b : List Byte) (s : State) : Same 4194304 s (processUs f e cid b s) := by unfold processUs; (try simp (disch := first | decide | (intros; (first | unfold IslSt.fencing | unfold IslSt.stepping | unfold Mgt.quiet | skip); first | rfl | (split <;> rfl)) | (intros; simp (disch := first | decide | (intros; (first | unfold IslSt.fencing | unfold IslSt.stepping | unfold Mgt.quiet | skip); first | rfl | (split <;> rfl))) only [same_refl, same_ite, ite_self, same_up_flow, same_setFlow])) only [same_refl, same_ite, ite_self, same_up_flow, same_setFlow]); repeat' (split <;> try simp (disch := first | decide | (intros; (first | unfold IslSt.fencing | unfold IslSt.stepping | unfold Mgt.quiet | skip); first | rfl | (split <;> rfl)) | (intros; simp (disch := first | decide | (intros; (first | unfold IslSt.fencing | unfold IslSt.stepping | unfold Mgt.quiet | skip); first | rfl | (split <;> rfl))) only [same_refl, same_ite, ite_self, same_up_flow, same_setFlow])) only [same_refl, same_ite, ite_self, same_up_flow, same_setFlow])
theorem same_processUs {m' : Nat} {s' : State} {f : ℕ} {e : Eng} {cid : ℕ} {b : List Byte} {s : State} (h : m' &&& 4194304 = 4194304) : Same m' s' (processUs f e cid b s) = Same m' s' s := Same.eqv (keep_processUs f e cid b s) h
theorem keep_processPkt (f : ℕ) (k : FlowPkt) (s : State) : Same 610277378 s (processPkt f k s) := by unfold processPkt; (try simp (disch := decide) only [same_refl, same_ite, ite_self, same_processDs, same_processUs]); repeat' (split <;> try simp (disch := decide) only [same_refl, same_ite, ite_self, same_processDs, same_processUs])
theorem same_processPkt {m' : Nat} {s' : State} {f : ℕ} {k : FlowPkt} {s : State} (h : m' &&& 610277378 = 610277378) : Same m' s' (processPkt f k s) = Same m' s' s := Same.eqv (keep_processPkt f k s) h
theorem keep_dropPoison (f : ℕ) (k : FlowPkt) (s : State) : Same 536926208 s (dropPoison f k s) := by unfold dropPoison; (try simp (disch := first | decide | (intros; (first | unfold IslSt.fencing | unfold IslSt.stepping | unfold Mgt.quiet | skip); first | rfl | (split <;> rfl)) | (intros; simp (disch := first | decide | (intros; (first | unfold IslSt.fencing | unfold IslSt.stepping | unfold Mgt.quiet | skip); first | rfl | (split <;> rfl))) only [same_refl, same_ite, ite_self, same_raise, same_oncePerSec, same_setFlag, same_countCtr, same_count])) only [same_refl, same_ite, ite_self, same_raise, same_oncePerSec, same_setFlag, same_countCtr, same_count]); repeat' (split <;> try simp (disch := first | decide | (intros; (first | unfold IslSt.fencing | unfold IslSt.stepping | unfold Mgt.quiet | skip); first | rfl | (split <;> rfl)) | (intros; simp (disch := first | decide | (intros; (first | unfold IslSt.fencing | unfold IslSt.stepping | unfold Mgt.quiet | skip); first | rfl | (split <;> rfl))) only [same_refl, same_ite, ite_self, same_raise, same_oncePerSec, same_setFlag, same_countCtr, same_count])) only [same_refl, same_ite, ite_self, same_raise, same_oncePerSec, same_setFlag, same_countCtr, same_count])
theorem same_dropPoison {m' : Nat} {s' : State} {f : ℕ} {k : FlowPkt} {s : State} (h : m' &&& 536926208 = 536926208) : Same m' s' (dropPoison f k s) = Same m' s' s := Same.eqv (keep_dropPoison f k s) h
theorem keep_askContext (f : ℕ) (s : State) : Same 4194304 s (askContext f s) := by unfold askContext; simp (disch := decide) only [same_refl, same_ite, ite_self, same_up_flow]
theorem same_askContext {m' : Nat} {s' : State} {f : ℕ} {s : State} (h : m' &&& 4194304 = 4194304) : Same m' s' (askContext f s) = Same m' s' s := Same.eqv (keep_askContext f s) h
theorem keep_visit : ∀ (n f : Nat) (k : FlowPkt) (v : Nat) (s : State), Same 610326530 s (visit n f k v s)
  | 0, _, _, _, _ => (same_refl _ _).mpr trivial
  | n + 1, f, k, v, s => by
    unfold visit; dsimp only; split
    · exact (same_up_flow (by decide)).mpr ((same_noteLookup (by decide)).mpr ((same_refl _ _).mpr trivial))
    · split
      · exact (same_dropPoison (by decide)).mpr ((same_refl _ _).mpr trivial)
      · split
        · exact (same_refl _ _).mpr trivial
        · split
          · have hp : Same 610326530 s (processPkt f k (touch f (noteLookup true s))) := by
              rw [same_processPkt (by decide), same_touch (by decide), same_noteLookup (by decide)]; exact (same_refl _ _).mpr trivial
            split
            · exact ((same_takePkt (by decide)).mpr hp).trans (keep_visit n _ _ _ _)
            · exact hp
          · exact (same_askContext (by decide)).mpr
              ((same_up_flow (by decide)).mpr ((same_noteLookup (by decide)).mpr ((same_refl _ _).mpr trivial)))

theorem same_visit {m' : Nat} {s' : State} {a0 : ℕ} {a1 : ℕ} {a2 : FlowPkt} {a3 : ℕ} {s : State} (h : m' &&& 610326530 = 610326530) : Same m' s' (visit a0 a1 a2 a3 s) = Same m' s' s := Same.eqv (keep_visit a0 a1 a2 a3 s) h
theorem same_noFlow {m' : Nat} {s' s : State} {obj : Nat} {cnt : State → State} (h : m' &&& 536877056 = 536877056) (hf : ∀ u, Same m' u (cnt u)) : Same m' s' (noFlow obj cnt s) = Same m' s' s :=
  (by
    unfold noFlow
    rw [same_perSecond (sub_trans h (by decide)), same_setFlag (sub_trans h (by decide))]
    exact hf s : Same m' s (noFlow obj cnt s)).eqv (Nat.and_self m')

theorem keep_execDsPacketLookup (s : State) {t' : State} (h : execDsPacketLookup s = .next t') : Same 610326530 s t' := by unfold execDsPacketLookup at h; (try simp only [act, actF] at h); cases h; (try simp (disch := first | decide | (intros; (first | unfold IslSt.fencing | unfold IslSt.stepping | unfold Mgt.quiet | skip); first | rfl | (split <;> rfl)) | (intros; simp (disch := first | decide | (intros; (first | unfold IslSt.fencing | unfold IslSt.stepping | unfold Mgt.quiet | skip); first | rfl | (split <;> rfl))) only [same_refl, same_ite, ite_self, same_up_flow, same_count, same_noFlow, same_visit, same_findFlow])) only [same_refl, same_ite, ite_self, same_up_flow, same_count, same_noFlow, same_visit, same_findFlow]); repeat' (split <;> try simp (disch := first | decide | (intros; (first | unfold IslSt.fencing | unfold IslSt.stepping | unfold Mgt.quiet | skip); first | rfl | (split <;> rfl)) | (intros; simp (disch := first | decide | (intros; (first | unfold IslSt.fencing | unfold IslSt.stepping | unfold Mgt.quiet | skip); first | rfl | (split <;> rfl))) only [same_refl, same_ite, ite_self, same_up_flow, same_count, same_noFlow, same_visit, same_findFlow])) only [same_refl, same_ite, ite_self, same_up_flow, same_count, same_noFlow, same_visit, same_findFlow])
theorem keep_staleContext (f : ℕ) (s : State) : Same 541104128 s (staleContext f s) := by unfold staleContext; simp (disch := decide) only [same_refl, same_ite, ite_self, same_askContext, same_staleReplies]
theorem same_staleContext {m' : Nat} {s' : State} {f : ℕ} {s : State} (h : m' &&& 541104128 = 541104128) : Same m' s' (staleContext f s) = Same m' s' s := Same.eqv (keep_staleContext f s) h
theorem keep_badCtxWord (f : ℕ) (s : State) : Same 2 s (badCtxWord f s).2 := by unfold badCtxWord; (try simp (disch := decide) only [same_refl, same_ite, ite_self, same_draw]); repeat' (split <;> try simp (disch := decide) only [same_refl, same_ite, ite_self, same_draw])
theorem same_badCtxWord {m' : Nat} {s' : State} {f : ℕ} {s : State} (h : m' &&& 2 = 2) : Same m' s' (badCtxWord f s).2 = Same m' s' s := Same.eqv (keep_badCtxWord f s) h
theorem keep_ctxWordRead (f : ℕ) (k : ℕ) (s : State) : Same 603985922 s (ctxWordRead f k s) := by unfold ctxWordRead; simp (disch := decide) only [same_refl, same_ite, ite_self, same_memCorr, same_draw, same_memAccess]
theorem same_ctxWordRead {m' : Nat} {s' : State} {f : ℕ} {k : ℕ} {s : State} (h : m' &&& 603985922 = 603985922) : Same m' s' (ctxWordRead f k s) = Same m' s' s := Same.eqv (keep_ctxWordRead f k s) h
theorem keep_execContextFetchDone (f : FlowIx) (poison : Bool) (s : State) {t' : State} (h : execContextFetchDone f poison s = .next t') : Same 610326530 s t' := by unfold execContextFetchDone at h; (try simp only [act, actF] at h); cases h; simp (disch := first | decide | (intros; (first | unfold IslSt.fencing | unfold IslSt.stepping | unfold Mgt.quiet | skip); first | rfl | (split <;> rfl)) | (intros; simp (disch := first | decide | (intros; (first | unfold IslSt.fencing | unfold IslSt.stepping | unfold Mgt.quiet | skip); first | rfl | (split <;> rfl))) only [same_refl, same_ite, ite_self, same_up_flow, same_takePkt, same_visit, same_processPkt, same_forAll, same_touch, same_dropPoison, same_memUncorr, same_modFlow, same_badCtxWord, same_ctxWordRead, same_staleContext])) only [same_refl, same_ite, ite_self, same_up_flow, same_takePkt, same_visit, same_processPkt, same_forAll, same_touch, same_dropPoison, same_memUncorr, same_modFlow, same_badCtxWord, same_ctxWordRead, same_staleContext]
theorem keep_execUsUnitLookup (s : State) {t' : State} (h : execUsUnitLookup s = .next t') : Same 610326530 s t' := by unfold execUsUnitLookup at h; (try simp only [act, actF] at h); cases h; (try simp (disch := first | decide | (intros; (first | unfold IslSt.fencing | unfold IslSt.stepping | unfold Mgt.quiet | skip); first | rfl | (split <;> rfl)) | (intros; simp (disch := first | decide | (intros; (first | unfold IslSt.fencing | unfold IslSt.stepping | unfold Mgt.quiet | skip); first | rfl | (split <;> rfl))) only [same_refl, same_ite, ite_self, same_up_flow, same_countCtr, same_noFlow, same_visit, same_findFlow, same_takePkt])) only [same_refl, same_ite, ite_self, same_up_flow, same_countCtr, same_noFlow, same_visit, same_findFlow, same_takePkt]); repeat' (split <;> try simp (disch := first | decide | (intros; (first | unfold IslSt.fencing | unfold IslSt.stepping | unfold Mgt.quiet | skip); first | rfl | (split <;> rfl)) | (intros; simp (disch := first | decide | (intros; (first | unfold IslSt.fencing | unfold IslSt.stepping | unfold Mgt.quiet | skip); first | rfl | (split <;> rfl))) only [same_refl, same_ite, ite_self, same_up_flow, same_countCtr, same_noFlow, same_visit, same_findFlow, same_takePkt])) only [same_refl, same_ite, ite_self, same_up_flow, same_countCtr, same_noFlow, same_visit, same_findFlow, same_takePkt])
theorem keep_sweepReads (s : State) : Same 608212994 s (sweepReads s) := by unfold sweepReads; simp (disch := decide) only [same_refl, same_ite, ite_self, same_memScan]
theorem same_sweepReads {m' : Nat} {s' : State} {s : State} (h : m' &&& 608212994 = 608212994) : Same m' s' (sweepReads s) = Same m' s' s := Same.eqv (keep_sweepReads s) h
theorem keep_execContextSweep (s : State) {t' : State} (h : execContextSweep s = .next t') : Same 608212994 s t' := by unfold execContextSweep at h; (try simp only [act, actF] at h); cases h; simp (disch := first | decide | (intros; (first | unfold IslSt.fencing | unfold IslSt.stepping | unfold Mgt.quiet | skip); first | rfl | (split <;> rfl)) | (intros; simp (disch := first | decide | (intros; (first | unfold IslSt.fencing | unfold IslSt.stepping | unfold Mgt.quiet | skip); first | rfl | (split <;> rfl))) only [same_refl, same_ite, ite_self, same_up_flow, same_count, same_perSecond, same_setFlag, same_setFlow, same_forAll, same_sweepReads])) only [same_refl, same_ite, ite_self, same_up_flow, same_count, same_perSecond, same_setFlag, same_setFlow, same_forAll, same_sweepReads]
theorem keep_execFlowMoveTimeout (f : FlowIx) (s : State) {t' : State} (h : execFlowMoveTimeout f s = .next t') : Same 6346752 s t' := by unfold execFlowMoveTimeout at h; (try simp only [act, actF] at h); cases h; simp (disch := first | decide | (intros; (first | unfold IslSt.fencing | unfold IslSt.stepping | unfold Mgt.quiet | skip); first | rfl | (split <;> rfl)) | (intros; simp (disch := first | decide | (intros; (first | unfold IslSt.fencing | unfold IslSt.stepping | unfold Mgt.quiet | skip); first | rfl | (split <;> rfl))) only [same_refl, same_ite, ite_self, same_setFlag, same_oncePerSec, same_raise, same_endMove])) only [same_refl, same_ite, ite_self, same_setFlag, same_oncePerSec, same_raise, same_endMove]
theorem keep_execKeyIndexRebuild (bucket : Fin 393216) (s : State) {t' : State} (h : execKeyIndexRebuild bucket s = .next t') : Same 71303168 s t' := by unfold execKeyIndexRebuild at h; (try simp only [act, actF] at h); cases h; simp (disch := decide) only [same_refl, same_ite, ite_self, same_up_flow_mem]
theorem keep_displace : ∀ (n b l : Nat) (s t : State), displace n b l s = some t → Same 4194306 s t
  | 0, _, _, _, _, h => by simp [displace] at h
  | n + 1, b, l, s, t, h => by
    unfold displace at h; dsimp only at h; split at h
    · cases h
      unfold moveEntry
      rw [same_modFlow (by decide), same_draw (by decide)]; exact (same_refl _ s).mpr trivial
    · refine Same.trans ?_ (keep_displace n _ _ _ _ h)
      unfold moveEntry
      rw [same_modFlow (by decide), same_draw (by decide)]; exact (same_refl _ s).mpr trivial

theorem keep_insertKey {f : Nat} {s t : State} (h : insertKey f s = some t) : Same 4194306 s t := by
  unfold insertKey at h; dsimp only at h
  split at h
  · cases h; exact (same_refl _ _).mpr trivial
  · split at h
    · cases h; exact (same_moveEntry (by decide)).mpr ((same_refl _ _).mpr trivial)
    · exact keep_displace _ _ _ _ _ h

theorem keep_makeValid {f : Nat} {y : Flow} {s t : State} (h : makeValid f y s = some t) : Same 6291458 s t := by
  unfold makeValid at h
  refine Same.trans ?_ ((keep_insertKey h).mono (by decide))
  refine (same_setFlow (by decide)).mpr ?_
  split
  · exact (same_endMove (by decide)).mpr ((same_refl _ _).mpr trivial)
  · exact (same_refl _ _).mpr trivial
theorem keep_makeValid_getD (f : Nat) (y : Flow) (s : State) : Same 6291458 s ((makeValid f y s).getD s) := by
  cases h : makeValid f y s with
  | none => exact (same_refl _ _).mpr trivial
  | some t => exact keep_makeValid h

theorem keep_writeFlow (f : ℕ) (w : ℕ) (v : W32) (s : State) : Same 610310146 s (writeFlow f w v s).1 := by
  unfold writeFlow
  refine (same_refuseOr fun u => ?_).mpr ((same_refl _ _).mpr trivial)
  extract_lets r x y u1
  have hr : Same 610310146 u r := (same_readContext (by decide)).mpr ((same_refl _ _).mpr trivial)
  clear_value r
  have h1 : Same 610310146 u u1 := (same_writeBack (by decide)).mpr hr
  clear_value u1
  split
  · exact (same_hostTouch (by decide)).mpr (h1.trans ((keep_makeValid_getD f y u1).mono (by decide)))
  · exact (same_hostTouch (by decide)).mpr ((same_setFlow (by decide)).mpr hr)

theorem same_writeFlow {m' : Nat} {s' : State} {f : ℕ} {w : ℕ} {v : W32} {s : State} (h : m' &&& 610310146 = 610310146) : Same m' s' (writeFlow f w v s).1 = Same m' s' s := Same.eqv (keep_writeFlow f w v s) h
theorem keep_execFlowContextWrite (f : FlowIx) (w : Fin 12) (v : W32) (s : State) {t' : State} (h : execFlowContextWrite f w v s = .next t') : Same 610310150 s t' := by unfold execFlowContextWrite at h; (try simp only [act, actF] at h); cases h; simp (disch := decide) only [same_refl, same_ite, ite_self, same_writeFlow, same_setStatus]

end Sys2Proof.Machine
end

