-- ==== Sys2Proof/Laws/FrameTod.lean ====
section
/-! SUPPORT. Which parts of the state each function of Machine/Tod.lean leaves alone, as the bit mask of the others. -/

namespace Sys2Proof.Machine

set_option linter.unusedSimpArgs false
set_option linter.unusedTactic false
set_option linter.unreachableTactic false

theorem keep_todMove (new : ℕ) (s : State) : Same 8443904 s (todMove new s) := by unfold todMove; simp (disch := first | decide | (intros; (first | unfold IslSt.fencing | unfold IslSt.stepping | unfold Mgt.quiet | skip); first | rfl | (split <;> rfl)) | (intros; simp (disch := first | decide | (intros; (first | unfold IslSt.fencing | unfold IslSt.stepping | unfold Mgt.quiet | skip); first | rfl | (split <;> rfl))) only [same_refl, same_ite, ite_self, same_up_tod, same_oncePerSec, same_raise, same_setFlag])) only [same_refl, same_ite, ite_self, same_up_tod, same_oncePerSec, same_raise, same_setFlag]
theorem same_todMove {m' : Nat} {s' : State} {new : ℕ} {s : State} (h : m' &&& 8443904 = 8443904) : Same m' s' (todMove new s) = Same m' s' s := Same.eqv (keep_todMove new s) h
theorem keep_todStep (ofs : ℤ) (s : State) : Same 562288706 s (todStep ofs s) := by unfold todStep; simp (disch := first | decide | (intros; (first | unfold IslSt.fencing | unfold IslSt.stepping | unfold Mgt.quiet | skip); first | rfl | (split <;> rfl)) | (intros; simp (disch := first | decide | (intros; (first | unfold IslSt.fencing | unfold IslSt.stepping | unfold Mgt.quiet | skip); first | rfl | (split <;> rfl))) only [same_refl, same_ite, ite_self, same_up_clk_tod, same_raise, same_oncePerSec, same_setFlag, same_latchReceive, same_raiseSat, same_latch])) only [same_refl, same_ite, ite_self, same_up_clk_tod, same_raise, same_oncePerSec, same_setFlag, same_latchReceive, same_raiseSat, same_latch]
theorem same_todStep {m' : Nat} {s' : State} {ofs : ℤ} {s : State} (h : m' &&& 562288706 = 562288706) : Same m' s' (todStep ofs s) = Same m' s' s := Same.eqv (keep_todStep ofs s) h
theorem keep_execTodOffsetMeasured (pps : ℤ) (s : State) {t' : State} (h : execTodOffsetMeasured pps s = .next t') : Same 562288706 s t' := by unfold execTodOffsetMeasured at h; (try simp only [act, actF] at h); cases h; (try simp (disch := decide) only [same_refl, same_ite, ite_self, same_up_tod, same_todMove, same_todStep]); repeat' (split <;> try simp (disch := decide) only [same_refl, same_ite, ite_self, same_up_tod, same_todMove, same_todStep])
theorem keep_setPtpState (new : ℕ) (s : State) : Same 8437760 s (setPtpState new s) := by unfold setPtpState; simp (disch := first | decide | (intros; (first | unfold IslSt.fencing | unfold IslSt.stepping | unfold Mgt.quiet | skip); first | rfl | (split <;> rfl)) | (intros; simp (disch := first | decide | (intros; (first | unfold IslSt.fencing | unfold IslSt.stepping | unfold Mgt.quiet | skip); first | rfl | (split <;> rfl))) only [same_refl, same_ite, ite_self, same_up_tod, same_raise, same_oncePerSec])) only [same_refl, same_ite, ite_self, same_up_tod, same_raise, same_oncePerSec]
theorem same_setPtpState {m' : Nat} {s' : State} {new : ℕ} {s : State} (h : m' &&& 8437760 = 8437760) : Same m' s' (setPtpState new s) = Same m' s' s := Same.eqv (keep_setPtpState new s) h
theorem keep_noMaster (s : State) : Same 8388608 s (noMaster s) := by unfold noMaster; simp (disch := decide) only [same_refl, same_ite, ite_self, same_up_tod]
theorem same_noMaster {m' : Nat} {s' : State} {s : State} (h : m' &&& 8388608 = 8388608) : Same m' s' (noMaster s) = Same m' s' s := Same.eqv (keep_noMaster s) h
theorem keep_dropMaster (s : State) : Same 8437760 s (dropMaster s) := by unfold dropMaster; simp (disch := decide) only [same_refl, same_ite, ite_self, same_noMaster, same_setPtpState]
theorem same_dropMaster {m' : Nat} {s' : State} {s : State} (h : m' &&& 8437760 = 8437760) : Same m' s' (dropMaster s) = Same m' s' s := Same.eqv (keep_dropMaster s) h
theorem keep_sourceGone (s : State) : Same 8443904 s (sourceGone s) := by unfold sourceGone; simp (disch := decide) only [same_refl, same_ite, ite_self, same_up_tod, same_todMove, same_setFlag]
theorem same_sourceGone {m' : Nat} {s' : State} {s : State} (h : m' &&& 8443904 = 8443904) : Same m' s' (sourceGone s) = Same m' s' s := Same.eqv (keep_sourceGone s) h
theorem keep_loseSource (s : State) : Same 8443904 s (loseSource s) := by unfold loseSource; simp (disch := decide) only [same_refl, same_ite, ite_self, same_sourceGone, same_dropMaster]
theorem same_loseSource {m' : Nat} {s' : State} {s : State} (h : m' &&& 8443904 = 8443904) : Same m' s' (loseSource s) = Same m' s' s := Same.eqv (keep_loseSource s) h
theorem keep_execTodSourceLost (s : State) {t' : State} (h : execTodSourceLost s = .next t') : Same 8443904 s t' := by unfold execTodSourceLost at h; (try simp only [act, actF] at h); cases h; simp (disch := decide) only [same_refl, same_ite, ite_self, same_loseSource]
theorem keep_execTodHoldoverExpiry (s : State) {t' : State} (h : execTodHoldoverExpiry s = .next t') : Same 8388608 s t' := by unfold execTodHoldoverExpiry at h; (try simp only [act, actF] at h); cases h; simp (disch := decide) only [same_refl, same_ite, ite_self, same_up_tod]
theorem keep_execPpsInEdge (s : State) {t' : State} (h : execPpsInEdge s = .next t') : Same 8388608 s t' := by unfold execPpsInEdge at h; (try simp only [act, actF] at h); cases h; simp (disch := decide) only [same_refl, same_ite, ite_self, same_up_tod]
theorem keep_writeTodSetHi (v : W32) (s : State) : Same 8388608 s (writeTodSetHi v s).1 := by unfold writeTodSetHi; simp (disch := first | decide | (intros; (first | unfold IslSt.fencing | unfold IslSt.stepping | unfold Mgt.quiet | skip); first | rfl | (split <;> rfl)) | (intros; simp (disch := first | decide | (intros; (first | unfold IslSt.fencing | unfold IslSt.stepping | unfold Mgt.quiet | skip); first | rfl | (split <;> rfl))) only [same_refl, same_ite, ite_self, same_up_tod, same_refuseOr])) only [same_refl, same_ite, ite_self, same_up_tod, same_refuseOr]
theorem same_writeTodSetHi {m' : Nat} {s' : State} {v : W32} {s : State} (h : m' &&& 8388608 = 8388608) : Same m' s' (writeTodSetHi v s).1 = Same m' s' s := Same.eqv (keep_writeTodSetHi v s) h
theorem keep_writeTodSetLo (v : W32) (s : State) : Same 8388608 s (writeTodSetLo v s).1 := by unfold writeTodSetLo; simp (disch := first | decide | (intros; (first | unfold IslSt.fencing | unfold IslSt.stepping | unfold Mgt.quiet | skip); first | rfl | (split <;> rfl)) | (intros; simp (disch := first | decide | (intros; (first | unfold IslSt.fencing | unfold IslSt.stepping | unfold Mgt.quiet | skip); first | rfl | (split <;> rfl))) only [same_refl, same_ite, ite_self, same_up_tod, same_refuseOr])) only [same_refl, same_ite, ite_self, same_up_tod, same_refuseOr]
theorem same_writeTodSetLo {m' : Nat} {s' : State} {v : W32} {s : State} (h : m' &&& 8388608 = 8388608) : Same m' s' (writeTodSetLo v s).1 = Same m' s' s := Same.eqv (keep_writeTodSetLo v s) h
theorem keep_execTodSetLoWrite (v : W32) (s : State) {t' : State} (h : execTodSetLoWrite v s = .next t') : Same 8388612 s t' := by unfold execTodSetLoWrite at h; (try simp only [act, actF] at h); cases h; simp (disch := decide) only [same_refl, same_ite, ite_self, same_setStatus, same_writeTodSetLo]
theorem keep_latchTodNow (s : State) : Same 8388608 s (latchTodNow s) := by unfold latchTodNow; simp (disch := decide) only [same_refl, same_ite, ite_self, same_up_tod]
theorem same_latchTodNow {m' : Nat} {s' : State} {s : State} (h : m' &&& 8388608 = 8388608) : Same m' s' (latchTodNow s) = Same m' s' s := Same.eqv (keep_latchTodNow s) h
theorem keep_execTodNowHiRead (s : State) {t' : State} (h : execTodNowHiRead s = .next t') : Same 8388616 s t' := by unfold execTodNowHiRead at h; (try simp only [act, actF] at h); cases h; simp (disch := decide) only [same_refl, same_ite, ite_self, same_up_got, same_latchTodNow]
theorem keep_ptpSend (b : PtpBody) (s : State) : Same 8388608 s (ptpSend b s) := by unfold ptpSend; simp (disch := decide) only [same_refl, same_ite, ite_self, same_up_tod]
theorem same_ptpSend {m' : Nat} {s' : State} {b : PtpBody} {s : State} (h : m' &&& 8388608 = 8388608) : Same m' s' (ptpSend b s) = Same m' s' s := Same.eqv (keep_ptpSend b s) h
theorem keep_leaveMaster (s : State) : Same 8443904 s (leaveMaster s) := by unfold leaveMaster; simp (disch := decide) only [same_refl, same_ite, ite_self, same_sourceGone, same_noMaster]
theorem same_leaveMaster {m' : Nat} {s' : State} {s : State} (h : m' &&& 8443904 = 8443904) : Same m' s' (leaveMaster s) = Same m' s' s := Same.eqv (keep_leaveMaster s) h
theorem keep_takeAnnounce (src : BitVec 80) (cls : ℕ) (rank : List ℕ) (s : State) : Same 8443904 s (takeAnnounce src cls rank s) := by unfold takeAnnounce; simp (disch := first | decide | (intros; (first | unfold IslSt.fencing | unfold IslSt.stepping | unfold Mgt.quiet | skip); first | rfl | (split <;> rfl)) | (intros; simp (disch := first | decide | (intros; (first | unfold IslSt.fencing | unfold IslSt.stepping | unfold Mgt.quiet | skip); first | rfl | (split <;> rfl))) only [same_refl, same_ite, ite_self, same_up_tod, same_setPtpState, same_leaveMaster, same_when])) only [same_refl, same_ite, ite_self, same_up_tod, same_setPtpState, same_leaveMaster, same_when]
theorem same_takeAnnounce {m' : Nat} {s' : State} {src : BitVec 80} {cls : ℕ} {rank : List ℕ} {s : State} (h : m' &&& 8443904 = 8443904) : Same m' s' (takeAnnounce src cls rank s) = Same m' s' s := Same.eqv (keep_takeAnnounce src cls rank s) h
theorem keep_execPtpMessageReceived (domain : ℕ) (src : BitVec 80) (m : PtpMsg) (s : State) {t' : State} (h : execPtpMessageReceived domain src m s = .next t') : Same 545314816 s t' := by unfold execPtpMessageReceived at h; (try simp only [act, actF] at h); cases h; (try simp (disch := decide) only [same_refl, same_ite, ite_self, same_up_tod, same_ptpSend, same_count, same_takeAnnounce]); repeat' (split <;> try simp (disch := decide) only [same_refl, same_ite, ite_self, same_up_tod, same_ptpSend, same_count, same_takeAnnounce])
theorem keep_execPtpAnnounceTx (s : State) {t' : State} (h : execPtpAnnounceTx s = .next t') : Same 8437760 s t' := by unfold execPtpAnnounceTx at h; (try simp only [act, actF] at h); cases h; simp (disch := first | decide | (intros; (first | unfold IslSt.fencing | unfold IslSt.stepping | unfold Mgt.quiet | skip); first | rfl | (split <;> rfl)) | (intros; simp (disch := first | decide | (intros; (first | unfold IslSt.fencing | unfold IslSt.stepping | unfold Mgt.quiet | skip); first | rfl | (split <;> rfl))) only [same_refl, same_ite, ite_self, same_up_tod, same_noMaster, same_setPtpState, same_dropMaster, same_when, same_ptpSend])) only [same_refl, same_ite, ite_self, same_up_tod, same_noMaster, same_setPtpState, same_dropMaster, same_when, same_ptpSend]
theorem keep_execPtpSyncDelayTx (s : State) {t' : State} (h : execPtpSyncDelayTx s = .next t') : Same 8388608 s t' := by unfold execPtpSyncDelayTx at h; (try simp only [act, actF] at h); cases h; simp (disch := decide) only [same_refl, same_ite, ite_self, same_up_tod, same_ptpSend]

end Sys2Proof.Machine
end

