-- ==== Sys2Proof/Laws/FrameClient.lean ====
section
/-! SUPPORT. Which parts of the state each function of Machine/Client.lean leaves alone, as the bit mask of the others. -/

namespace Sys2Proof.Machine

set_option linter.unusedSimpArgs false
set_option linter.unusedTactic false
set_option linter.unreachableTactic false

theorem keep_clnEvent (code : ℕ) (p : ℕ) (data : BitVec 80) (b : ℕ) (s : State) : Same 55296 s (clnEvent code p data b s) := by unfold clnEvent; simp (disch := first | decide | (intros; (first | unfold IslSt.fencing | unfold IslSt.stepping | unfold Mgt.quiet | skip); first | rfl | (split <;> rfl)) | (intros; simp (disch := first | decide | (intros; (first | unfold IslSt.fencing | unfold IslSt.stepping | unfold Mgt.quiet | skip); first | rfl | (split <;> rfl))) only [same_refl, same_ite, ite_self, same_setFlag, same_oncePerSec, same_raise])) only [same_refl, same_ite, ite_self, same_setFlag, same_oncePerSec, same_raise]
theorem same_clnEvent {m' : Nat} {s' : State} {code : ℕ} {p : ℕ} {data : BitVec 80} {b : ℕ} {s : State} (h : m' &&& 55296 = 55296) : Same m' s' (clnEvent code p data b s) = Same m' s' s := Same.eqv (keep_clnEvent code p data b s) h
theorem keep_leaveUp (p : ℕ) (cause : Option ℕ) (s : State) : Same 553703424 s (leaveUp p cause s) := by unfold leaveUp; (try simp (disch := first | decide | (intros; (first | unfold IslSt.fencing | unfold IslSt.stepping | unfold Mgt.quiet | skip); first | rfl | (split <;> rfl)) | (intros; simp (disch := first | decide | (intros; (first | unfold IslSt.fencing | unfold IslSt.stepping | unfold Mgt.quiet | skip); first | rfl | (split <;> rfl))) only [same_refl, same_ite, ite_self, same_countCond, same_modPort, same_clnEvent])) only [same_refl, same_ite, ite_self, same_countCond, same_modPort, same_clnEvent]); repeat' (split <;> try simp (disch := first | decide | (intros; (first | unfold IslSt.fencing | unfold IslSt.stepping | unfold Mgt.quiet | skip); first | rfl | (split <;> rfl)) | (intros; simp (disch := first | decide | (intros; (first | unfold IslSt.fencing | unfold IslSt.stepping | unfold Mgt.quiet | skip); first | rfl | (split <;> rfl))) only [same_refl, same_ite, ite_self, same_countCond, same_modPort, same_clnEvent])) only [same_refl, same_ite, ite_self, same_countCond, same_modPort, same_clnEvent])
theorem same_leaveUp {m' : Nat} {s' : State} {p : ℕ} {cause : Option ℕ} {s : State} (h : m' &&& 553703424 = 553703424) : Same m' s' (leaveUp p cause s) = Same m' s' s := Same.eqv (keep_leaveUp p cause s) h
theorem keep_toWaitRef (p : ℕ) (s : State) : Same 16777216 s (toWaitRef p s) := by unfold toWaitRef; simp (disch := first | decide | (intros; (first | unfold IslSt.fencing | unfold IslSt.stepping | unfold Mgt.quiet | skip); first | rfl | (split <;> rfl)) | (intros; simp (disch := first | decide | (intros; (first | unfold IslSt.fencing | unfold IslSt.stepping | unfold Mgt.quiet | skip); first | rfl | (split <;> rfl))) only [same_refl, same_ite, ite_self, same_modPort, same_forAll, same_modLane])) only [same_refl, same_ite, ite_self, same_modPort, same_forAll, same_modLane]
theorem same_toWaitRef {m' : Nat} {s' : State} {p : ℕ} {s : State} (h : m' &&& 16777216 = 16777216) : Same m' s' (toWaitRef p s) = Same m' s' s := Same.eqv (keep_toWaitRef p s) h
theorem keep_setPrecoding (p : ℕ) (tx : ℕ) (rx : ℕ) (s : State) : Same 16777216 s (setPrecoding p tx rx s) := by unfold setPrecoding; simp (disch := first | decide | (intros; (first | unfold IslSt.fencing | unfold IslSt.stepping | unfold Mgt.quiet | skip); first | rfl | (split <;> rfl)) | (intros; simp (disch := first | decide | (intros; (first | unfold IslSt.fencing | unfold IslSt.stepping | unfold Mgt.quiet | skip); first | rfl | (split <;> rfl))) only [same_refl, same_ite, ite_self, same_forAll, same_modLane])) only [same_refl, same_ite, ite_self, same_forAll, same_modLane]
theorem same_setPrecoding {m' : Nat} {s' : State} {p : ℕ} {tx : ℕ} {rx : ℕ} {s : State} (h : m' &&& 16777216 = 16777216) : Same m' s' (setPrecoding p tx rx s) = Same m' s' s := Same.eqv (keep_setPrecoding p tx rx s) h
theorem keep_enterAlign (p : ℕ) (s : State) : Same 16777216 s (enterAlign p s) := by unfold enterAlign; simp (disch := decide) only [same_refl, same_ite, ite_self, same_modPort]
theorem same_enterAlign {m' : Nat} {s' : State} {p : ℕ} {s : State} (h : m' &&& 16777216 = 16777216) : Same m' s' (enterAlign p s) = Same m' s' s := Same.eqv (keep_enterAlign p s) h
theorem keep_toSignal (p : ℕ) (s : State) : Same 16777216 s (toSignal p s) := by unfold toSignal; simp (disch := first | decide | (intros; (first | unfold IslSt.fencing | unfold IslSt.stepping | unfold Mgt.quiet | skip); first | rfl | (split <;> rfl)) | (intros; simp (disch := first | decide | (intros; (first | unfold IslSt.fencing | unfold IslSt.stepping | unfold Mgt.quiet | skip); first | rfl | (split <;> rfl))) only [same_refl, same_ite, ite_self, same_enterAlign, same_setPrecoding, same_modLane, same_forAll, same_modPort])) only [same_refl, same_ite, ite_self, same_enterAlign, same_setPrecoding, same_modLane, same_forAll, same_modPort]
theorem same_toSignal {m' : Nat} {s' : State} {p : ℕ} {s : State} (h : m' &&& 16777216 = 16777216) : Same m' s' (toSignal p s) = Same m' s' s := Same.eqv (keep_toSignal p s) h
theorem keep_retrain (p : ℕ) (s : State) : Same 16777216 s (retrain p s) := by unfold retrain; simp (disch := first | decide | (intros; (first | unfold IslSt.fencing | unfold IslSt.stepping | unfold Mgt.quiet | skip); first | rfl | (split <;> rfl)) | (intros; simp (disch := first | decide | (intros; (first | unfold IslSt.fencing | unfold IslSt.stepping | unfold Mgt.quiet | skip); first | rfl | (split <;> rfl))) only [same_refl, same_ite, ite_self, same_modLane, same_forAll, same_enterAlign, same_modPort])) only [same_refl, same_ite, ite_self, same_modLane, same_forAll, same_enterAlign, same_modPort]
theorem same_retrain {m' : Nat} {s' : State} {p : ℕ} {s : State} (h : m' &&& 16777216 = 16777216) : Same m' s' (retrain p s) = Same m' s' s := Same.eqv (keep_retrain p s) h
theorem keep_startPattern (k : ℕ) (s : State) : Same 16777218 s (startPattern k s) := by unfold startPattern; simp (disch := decide) only [same_refl, same_ite, ite_self, same_modLane, same_draw]
theorem same_startPattern {m' : Nat} {s' : State} {k : ℕ} {s : State} (h : m' &&& 16777218 = 16777218) : Same m' s' (startPattern k s) = Same m' s' s := Same.eqv (keep_startPattern k s) h
theorem keep_enterTest (p : ℕ) (s : State) : Same 16777218 s (enterTest p s) := by unfold enterTest; simp (disch := first | decide | (intros; (first | unfold IslSt.fencing | unfold IslSt.stepping | unfold Mgt.quiet | skip); first | rfl | (split <;> rfl)) | (intros; simp (disch := first | decide | (intros; (first | unfold IslSt.fencing | unfold IslSt.stepping | unfold Mgt.quiet | skip); first | rfl | (split <;> rfl))) only [same_refl, same_ite, ite_self, same_modPort, same_startPattern, same_forAll])) only [same_refl, same_ite, ite_self, same_modPort, same_startPattern, same_forAll]
theorem same_enterTest {m' : Nat} {s' : State} {p : ℕ} {s : State} (h : m' &&& 16777218 = 16777218) : Same m' s' (enterTest p s) = Same m' s' s := Same.eqv (keep_enterTest p s) h
theorem keep_execClnPortRefReady (p : PortIx) (s : State) {t' : State} (h : execClnPortRefReady p s = .next t') : Same 16777218 s t' := by unfold execClnPortRefReady at h; (try simp only [act, actF] at h); cases h; simp (disch := decide) only [same_refl, same_ite, ite_self, same_toSignal, same_enterTest]
theorem keep_execClnTrainingDone (p : PortIx) (reqTx : ℕ) (snr : List ℕ) (eq : List (List ℤ)) (s : State) {t' : State} (h : execClnTrainingDone p reqTx snr eq s = .next t') : Same 16777218 s t' := by unfold execClnTrainingDone at h; (try simp only [act, actF] at h); cases h; simp (disch := first | decide | (intros; (first | unfold IslSt.fencing | unfold IslSt.stepping | unfold Mgt.quiet | skip); first | rfl | (split <;> rfl)) | (intros; simp (disch := first | decide | (intros; (first | unfold IslSt.fencing | unfold IslSt.stepping | unfold Mgt.quiet | skip); first | rfl | (split <;> rfl))) only [same_refl, same_ite, ite_self, same_enterAlign, same_setPrecoding, same_modLane, same_draw, same_forAll])) only [same_refl, same_ite, ite_self, same_enterAlign, same_setPrecoding, same_modLane, same_draw, same_forAll]
theorem keep_execClnTrainFail (p : PortIx) (mask : ℕ) (s : State) {t' : State} (h : execClnTrainFail p mask s = .next t') : Same 536926208 s t' := by unfold execClnTrainFail at h; (try simp only [act, actF] at h); cases h; simp (disch := decide) only [same_refl, same_ite, ite_self, same_clnEvent, same_count]
theorem keep_takeNrz (p : ℕ) (bits : List Bool) (s : State) : Same 553648128 s (takeNrz p bits s) := by unfold takeNrz; simp (disch := decide) only [same_refl, same_ite, ite_self, same_modLane, same_count]
theorem same_takeNrz {m' : Nat} {s' : State} {p : ℕ} {bits : List Bool} {s : State} (h : m' &&& 553648128 = 553648128) : Same m' s' (takeNrz p bits s) = Same m' s' s := Same.eqv (keep_takeNrz p bits s) h
theorem keep_execClnLinkUp (p : PortIx) (bits : List Bool) (partner : BitVec 16) (s : State) {t' : State} (h : execClnLinkUp p bits partner s = .next t') : Same 553703426 s t' := by unfold execClnLinkUp at h; (try simp only [act, actF] at h); cases h; simp (disch := first | decide | (intros; (first | unfold IslSt.fencing | unfold IslSt.stepping | unfold Mgt.quiet | skip); first | rfl | (split <;> rfl)) | (intros; simp (disch := first | decide | (intros; (first | unfold IslSt.fencing | unfold IslSt.stepping | unfold Mgt.quiet | skip); first | rfl | (split <;> rfl))) only [same_refl, same_ite, ite_self, same_clnEvent, same_modPort, same_draw, same_modLane, same_forAll, same_takeNrz])) only [same_refl, same_ite, ite_self, same_clnEvent, same_modPort, same_draw, same_modLane, same_forAll, same_takeNrz]
theorem keep_execClnAlignFail (p : PortIx) (mask : ℕ) (s : State) {t' : State} (h : execClnAlignFail p mask s = .next t') : Same 16832512 s t' := by unfold execClnAlignFail at h; (try simp only [act, actF] at h); cases h; simp (disch := decide) only [same_refl, same_ite, ite_self, same_clnEvent, same_retrain]
theorem keep_execClnLinkDown (p : PortIx) (cause : LinkLoss) (s : State) {t' : State} (h : execClnLinkDown p cause s = .next t') : Same 553703426 s t' := by unfold execClnLinkDown at h; (try simp only [act, actF] at h); cases h; (try simp (disch := first | decide | (intros; (first | unfold IslSt.fencing | unfold IslSt.stepping | unfold Mgt.quiet | skip); first | rfl | (split <;> rfl)) | (intros; simp (disch := first | decide | (intros; (first | unfold IslSt.fencing | unfold IslSt.stepping | unfold Mgt.quiet | skip); first | rfl | (split <;> rfl))) only [same_refl, same_ite, ite_self, same_leaveUp, same_retrain, same_modLane, same_draw, same_forAll, same_takeNrz])) only [same_refl, same_ite, ite_self, same_leaveUp, same_retrain, same_modLane, same_draw, same_forAll, same_takeNrz]); repeat' (split <;> try simp (disch := first | decide | (intros; (first | unfold IslSt.fencing | unfold IslSt.stepping | unfold Mgt.quiet | skip); first | rfl | (split <;> rfl)) | (intros; simp (disch := first | decide | (intros; (first | unfold IslSt.fencing | unfold IslSt.stepping | unfold Mgt.quiet | skip); first | rfl | (split <;> rfl))) only [same_refl, same_ite, ite_self, same_leaveUp, same_retrain, same_modLane, same_draw, same_forAll, same_takeNrz])) only [same_refl, same_ite, ite_self, same_leaveUp, same_retrain, same_modLane, same_draw, same_forAll, same_takeNrz])
theorem keep_refEvent (code : ℕ) (ppm : ℤ) (s : State) : Same 49152 s (refEvent code ppm s) := by unfold refEvent; simp (disch := first | decide | (intros; (first | unfold IslSt.fencing | unfold IslSt.stepping | unfold Mgt.quiet | skip); first | rfl | (split <;> rfl)) | (intros; simp (disch := first | decide | (intros; (first | unfold IslSt.fencing | unfold IslSt.stepping | unfold Mgt.quiet | skip); first | rfl | (split <;> rfl))) only [same_refl, same_ite, ite_self, same_oncePerSec, same_raise])) only [same_refl, same_ite, ite_self, same_oncePerSec, same_raise]
theorem same_refEvent {m' : Nat} {s' : State} {code : ℕ} {ppm : ℤ} {s : State} (h : m' &&& 49152 = 49152) : Same m' s' (refEvent code ppm s) = Same m' s' s := Same.eqv (keep_refEvent code ppm s) h
theorem keep_execClnRefclkLost (ppm : ℤ) (s : State) {t' : State} (h : execClnRefclkLost ppm s = .next t') : Same 553703424 s t' := by unfold execClnRefclkLost at h; (try simp only [act, actF] at h); cases h; simp (disch := first | decide | (intros; (first | unfold IslSt.fencing | unfold IslSt.stepping | unfold Mgt.quiet | skip); first | rfl | (split <;> rfl)) | (intros; simp (disch := first | decide | (intros; (first | unfold IslSt.fencing | unfold IslSt.stepping | unfold Mgt.quiet | skip); first | rfl | (split <;> rfl))) only [same_refl, same_ite, ite_self, same_up_cln, same_leaveUp, same_toWaitRef, same_forAll, same_modLane, same_refEvent, same_setFlag])) only [same_refl, same_ite, ite_self, same_up_cln, same_leaveUp, same_toWaitRef, same_forAll, same_modLane, same_refEvent, same_setFlag]
theorem keep_execClnRefclkOk (ppm : ℤ) (s : State) {t' : State} (h : execClnRefclkOk ppm s = .next t') : Same 16826368 s t' := by unfold execClnRefclkOk at h; (try simp only [act, actF] at h); cases h; simp (disch := decide) only [same_refl, same_ite, ite_self, same_up_cln, same_refEvent]
theorem keep_execClnHiSer (p : PortIx) (symCorr : ℕ) (s : State) {t' : State} (h : execClnHiSer p symCorr s = .next t') : Same 16832512 s t' := by unfold execClnHiSer at h; (try simp only [act, actF] at h); cases h; simp (disch := decide) only [same_refl, same_ite, ite_self, same_clnEvent, same_modPort]
theorem keep_execHiSerClear (p : PortIx) (s : State) {t' : State} (h : execHiSerClear p s = .next t') : Same 16777216 s t' := by unfold execHiSerClear at h; (try simp only [act, actF] at h); cases h; simp (disch := decide) only [same_refl, same_ite, ite_self, same_modPort]
theorem keep_drivePattern (k : ℕ) (n : ℕ) (s : State) : Same 16777216 s (drivePattern k n s) := by unfold drivePattern; simp (disch := decide) only [same_refl, same_ite, ite_self, same_modLane]
theorem same_drivePattern {m' : Nat} {s' : State} {k : ℕ} {n : ℕ} {s : State} (h : m' &&& 16777216 = 16777216) : Same m' s' (drivePattern k n s) = Same m' s' s := Same.eqv (keep_drivePattern k n s) h
theorem keep_execPrbsLockAcquired (x : LaneRx) (s : State) {t' : State} (h : execPrbsLockAcquired x s = .next t') : Same 16777216 s t' := by unfold execPrbsLockAcquired at h; (try simp only [act, actF] at h); cases h; simp (disch := decide) only [same_refl, same_ite, ite_self, same_drivePattern, same_modLane]
theorem keep_execPrbsLockLost (x : LaneRx) (s : State) {t' : State} (h : execPrbsLockLost x s = .next t') : Same 553648128 s t' := by unfold execPrbsLockLost at h; (try simp only [act, actF] at h); cases h; simp (disch := decide) only [same_refl, same_ite, ite_self, same_drivePattern, same_modLane, same_count]
theorem keep_disablePort (p : ℕ) (s : State) : Same 562092032 s (disablePort p s) := by unfold disablePort; simp (disch := first | decide | (intros; (first | unfold IslSt.fencing | unfold IslSt.stepping | unfold Mgt.quiet | skip); first | rfl | (split <;> rfl)) | (intros; simp (disch := first | decide | (intros; (first | unfold IslSt.fencing | unfold IslSt.stepping | unfold Mgt.quiet | skip); first | rfl | (split <;> rfl))) only [same_refl, same_ite, ite_self, same_dropMaster, same_loseSource, same_modLane, same_forAll, same_leaveUp, same_modPort])) only [same_refl, same_ite, ite_self, same_dropMaster, same_loseSource, same_modLane, same_forAll, same_leaveUp, same_modPort]
theorem same_disablePort {m' : Nat} {s' : State} {p : ℕ} {s : State} (h : m' &&& 562092032 = 562092032) : Same m' s' (disablePort p s) = Same m' s' s := Same.eqv (keep_disablePort p s) h
theorem keep_unpowerGrp (g : ℕ) (s : State) : Same 16777216 s (unpowerGrp g s) := by unfold unpowerGrp; simp (disch := first | decide | (intros; (first | unfold IslSt.fencing | unfold IslSt.stepping | unfold Mgt.quiet | skip); first | rfl | (split <;> rfl)) | (intros; simp (disch := first | decide | (intros; (first | unfold IslSt.fencing | unfold IslSt.stepping | unfold Mgt.quiet | skip); first | rfl | (split <;> rfl))) only [same_refl, same_ite, ite_self, same_modLane, same_forAll])) only [same_refl, same_ite, ite_self, same_modLane, same_forAll]
theorem same_unpowerGrp {m' : Nat} {s' : State} {g : ℕ} {s : State} (h : m' &&& 16777216 = 16777216) : Same m' s' (unpowerGrp g s) = Same m' s' s := Same.eqv (keep_unpowerGrp g s) h
theorem keep_enterMode (g : ℕ) (mode : ℕ) (s : State) : Same 16777218 s (enterMode g mode s) := by unfold enterMode; simp (disch := first | decide | (intros; (first | unfold IslSt.fencing | unfold IslSt.stepping | unfold Mgt.quiet | skip); first | rfl | (split <;> rfl)) | (intros; simp (disch := first | decide | (intros; (first | unfold IslSt.fencing | unfold IslSt.stepping | unfold Mgt.quiet | skip); first | rfl | (split <;> rfl))) only [same_refl, same_ite, ite_self, same_startPattern, same_forAll, same_unpowerGrp])) only [same_refl, same_ite, ite_self, same_startPattern, same_forAll, same_unpowerGrp]
theorem same_enterMode {m' : Nat} {s' : State} {g : ℕ} {mode : ℕ} {s : State} (h : m' &&& 16777218 = 16777218) : Same m' s' (enterMode g mode s) = Same m' s' s := Same.eqv (keep_enterMode g mode s) h
theorem keep_writeClnPort (p : ℕ) (v : W32) (s : State) : Same 562093056 s (writeClnPort p v s).1 := by unfold writeClnPort; simp (disch := first | decide | (intros; (first | unfold IslSt.fencing | unfold IslSt.stepping | unfold Mgt.quiet | skip); first | rfl | (split <;> rfl)) | (intros; simp (disch := first | decide | (intros; (first | unfold IslSt.fencing | unfold IslSt.stepping | unfold Mgt.quiet | skip); first | rfl | (split <;> rfl))) only [same_refl, same_ite, ite_self, same_refuseOr, same_disablePort, same_setReg, same_toWaitRef])) only [same_refl, same_ite, ite_self, same_refuseOr, same_disablePort, same_setReg, same_toWaitRef]
theorem same_writeClnPort {m' : Nat} {s' : State} {p : ℕ} {v : W32} {s : State} (h : m' &&& 562093056 = 562093056) : Same m' s' (writeClnPort p v s).1 = Same m' s' s := Same.eqv (keep_writeClnPort p v s) h
theorem keep_execClnPortWrite (p : PortIx) (v : W32) (s : State) {t' : State} (h : execClnPortWrite p v s = .next t') : Same 562093060 s t' := by unfold execClnPortWrite at h; (try simp only [act, actF] at h); cases h; simp (disch := decide) only [same_refl, same_ite, ite_self, same_setStatus, same_writeClnPort]
theorem keep_portFollowsLoop (k : ℕ) (v : W32) (s : State) : Same 553703426 s (portFollowsLoop k v s) := by unfold portFollowsLoop; (try simp (disch := decide) only [same_refl, same_ite, ite_self, same_toWaitRef, same_leaveUp, same_enterTest]); repeat' (split <;> try simp (disch := decide) only [same_refl, same_ite, ite_self, same_toWaitRef, same_leaveUp, same_enterTest])
theorem same_portFollowsLoop {m' : Nat} {s' : State} {k : ℕ} {v : W32} {s : State} (h : m' &&& 553703426 = 553703426) : Same m' s' (portFollowsLoop k v s) = Same m' s' s := Same.eqv (keep_portFollowsLoop k v s) h
theorem keep_writeClnLane (k : ℕ) (v : W32) (s : State) : Same 553704450 s (writeClnLane k v s).1 := by unfold writeClnLane; (try dsimp only); repeat' (first | with_reducible exact (same_refl _ _).mpr trivial | refine (same_startPattern (by decide)).mpr ?_ | refine (same_portFollowsLoop (by decide)).mpr ?_ | refine (same_setReg (by decide)).mpr ?_ | refine (same_refuseOr (fun _ => ?_)).mpr ?_ | split)
theorem same_writeClnLane {m' : Nat} {s' : State} {k : ℕ} {v : W32} {s : State} (h : m' &&& 553704450 = 553704450) : Same m' s' (writeClnLane k v s).1 = Same m' s' s := Same.eqv (keep_writeClnLane k v s) h
theorem keep_execClnLaneWrite (k : PortIx) (v : W32) (s : State) {t' : State} (h : execClnLaneWrite k v s = .next t') : Same 553704454 s t' := by unfold execClnLaneWrite at h; (try simp only [act, actF] at h); cases h; simp (disch := decide) only [same_refl, same_ite, ite_self, same_writeClnLane, same_setStatus]
theorem keep_passFrame (p : ℕ) (b : List Byte) (s : State) : Same 541065216 s (passFrame p b s) := by unfold passFrame; simp (disch := decide) only [same_refl, same_ite, ite_self, same_up_flow, same_count, same_takePkt]
theorem same_passFrame {m' : Nat} {s' : State} {p : ℕ} {b : List Byte} {s : State} (h : m' &&& 541065216 = 541065216) : Same m' s' (passFrame p b s) = Same m' s' s := Same.eqv (keep_passFrame p b s) h
theorem keep_takeFrame (p : ℕ) (fr : RxFrame) (s : State) : Same 553648130 s (takeFrame p fr s) := by unfold takeFrame; simp (disch := first | decide | (intros; (first | unfold IslSt.fencing | unfold IslSt.stepping | unfold Mgt.quiet | skip); first | rfl | (split <;> rfl)) | (intros; simp (disch := first | decide | (intros; (first | unfold IslSt.fencing | unfold IslSt.stepping | unfold Mgt.quiet | skip); first | rfl | (split <;> rfl))) only [same_refl, same_ite, ite_self, same_up_free, same_takeNrz, same_modLane, same_forAll])) only [same_refl, same_ite, ite_self, same_up_free, same_takeNrz, same_modLane, same_forAll]
theorem same_takeFrame {m' : Nat} {s' : State} {p : ℕ} {fr : RxFrame} {s : State} (h : m' &&& 553648130 = 553648130) : Same m' s' (takeFrame p fr s) = Same m' s' s := Same.eqv (keep_takeFrame p fr s) h
theorem keep_loopFrame (p : ℕ) (fr : RxFrame) (s : State) : Same 16777218 s (loopFrame p fr s) := by unfold loopFrame; simp (disch := first | decide | (intros; (first | unfold IslSt.fencing | unfold IslSt.stepping | unfold Mgt.quiet | skip); first | rfl | (split <;> rfl)) | (intros; simp (disch := first | decide | (intros; (first | unfold IslSt.fencing | unfold IslSt.stepping | unfold Mgt.quiet | skip); first | rfl | (split <;> rfl))) only [same_refl, same_ite, ite_self, same_up_free, same_modLane, same_forAll])) only [same_refl, same_ite, ite_self, same_up_free, same_modLane, same_forAll]
theorem same_loopFrame {m' : Nat} {s' : State} {p : ℕ} {fr : RxFrame} {s : State} (h : m' &&& 16777218 = 16777218) : Same m' s' (loopFrame p fr s) = Same m' s' s := Same.eqv (keep_loopFrame p fr s) h
theorem keep_driveLanes (p : ℕ) (b : List Byte) (s : State) : Same 16777218 s (driveLanes p b s) := by unfold driveLanes; simp (disch := first | decide | (intros; (first | unfold IslSt.fencing | unfold IslSt.stepping | unfold Mgt.quiet | skip); first | rfl | (split <;> rfl)) | (intros; simp (disch := first | decide | (intros; (first | unfold IslSt.fencing | unfold IslSt.stepping | unfold Mgt.quiet | skip); first | rfl | (split <;> rfl))) only [same_refl, same_ite, ite_self, same_up_free, same_modLane, same_forAll])) only [same_refl, same_ite, ite_self, same_up_free, same_modLane, same_forAll]
theorem same_driveLanes {m' : Nat} {s' : State} {p : ℕ} {b : List Byte} {s : State} (h : m' &&& 16777218 = 16777218) : Same m' s' (driveLanes p b s) = Same m' s' s := Same.eqv (keep_driveLanes p b s) h
theorem keep_execClientFrameReceived (p : PortIx) (fr : RxFrame) (s : State) {t' : State} (h : execClientFrameReceived p fr s = .next t') : Same 557897730 s t' := by unfold execClientFrameReceived at h; (try simp only [act, actF] at h); cases h; (try simp (disch := decide) only [same_refl, same_ite, ite_self, same_up_cln, same_count, same_draw, same_passFrame, same_leaveUp, same_retrain, same_takeFrame, same_loopFrame]); repeat' (split <;> try simp (disch := decide) only [same_refl, same_ite, ite_self, same_up_cln, same_count, same_draw, same_passFrame, same_leaveUp, same_retrain, same_takeFrame, same_loopFrame])
theorem keep_retryHeld (s : State) : Same 557842432 s (retryHeld s) := by unfold retryHeld; simp (disch := first | decide | (intros; (first | unfold IslSt.fencing | unfold IslSt.stepping | unfold Mgt.quiet | skip); first | rfl | (split <;> rfl)) | (intros; simp (disch := first | decide | (intros; (first | unfold IslSt.fencing | unfold IslSt.stepping | unfold Mgt.quiet | skip); first | rfl | (split <;> rfl))) only [same_refl, same_ite, ite_self, same_up_cln, same_forAll, same_passFrame])) only [same_refl, same_ite, ite_self, same_up_cln, same_forAll, same_passFrame]
theorem same_retryHeld {m' : Nat} {s' : State} {s : State} (h : m' &&& 557842432 = 557842432) : Same m' s' (retryHeld s) = Same m' s' s := Same.eqv (keep_retryHeld s) h
theorem keep_dropHeld (s : State) : Same 553648128 s (dropHeld s) := by unfold dropHeld; simp (disch := first | decide | (intros; (first | unfold IslSt.fencing | unfold IslSt.stepping | unfold Mgt.quiet | skip); first | rfl | (split <;> rfl)) | (intros; simp (disch := first | decide | (intros; (first | unfold IslSt.fencing | unfold IslSt.stepping | unfold Mgt.quiet | skip); first | rfl | (split <;> rfl))) only [same_refl, same_ite, ite_self, same_up_cln, same_forAll, same_count])) only [same_refl, same_ite, ite_self, same_up_cln, same_forAll, same_count]
theorem same_dropHeld {m' : Nat} {s' : State} {s : State} (h : m' &&& 553648128 = 553648128) : Same m' s' (dropHeld s) = Same m' s' s := Same.eqv (keep_dropHeld s) h
theorem keep_execClientFrameTransmit (p : PortIx) (s : State) {t' : State} (h : execClientFrameTransmit p s = .next t') : Same 557842434 s t' := by unfold execClientFrameTransmit at h; (try simp only [act, actF] at h); cases h; (try simp (disch := decide) only [same_refl, same_ite, ite_self, same_up_cln, same_up_flow, same_modFlow, same_count, same_driveLanes]); repeat' (split <;> try simp (disch := decide) only [same_refl, same_ite, ite_self, same_up_cln, same_up_flow, same_modFlow, same_count, same_driveLanes])

end Sys2Proof.Machine
end

