-- ==== Sys2Proof/Laws/FrameCipher.lean ====
section
/-! SUPPORT. Which parts of the state each function of Machine/Cipher.lean leaves alone, as the bit mask of the others. -/

namespace Sys2Proof.Machine

set_option linter.unusedSimpArgs false
set_option linter.unusedTactic false
set_option linter.unreachableTactic false

theorem keep_cipherDrop (e : Eng) (c : ℕ) (idx : ℕ) (flag : ℕ) (code : ℕ) (obj : ℕ) (s : State) : Same 536877056 s (cipherDrop e c idx flag code obj s) := by unfold cipherDrop; simp (disch := decide) only [same_refl, same_ite, ite_self, same_countCtr, same_perSecond, same_setFlag]
theorem same_cipherDrop {m' : Nat} {s' : State} {e : Eng} {c : ℕ} {idx : ℕ} {flag : ℕ} {code : ℕ} {obj : ℕ} {s : State} (h : m' &&& 536877056 = 536877056) : Same m' s' (cipherDrop e c idx flag code obj s) = Same m' s' s := Same.eqv (keep_cipherDrop e c idx flag code obj s) h
theorem keep_dropAbsent (e : Eng) (c : ℕ) (k : ℕ) (s : State) : Same 536877056 s (dropAbsent e c k s) := by unfold dropAbsent; simp (disch := decide) only [same_refl, same_ite, ite_self, same_cipherDrop]
theorem same_dropAbsent {m' : Nat} {s' : State} {e : Eng} {c : ℕ} {k : ℕ} {s : State} (h : m' &&& 536877056 = 536877056) : Same m' s' (dropAbsent e c k s) = Same m' s' s := Same.eqv (keep_dropAbsent e c k s) h
theorem keep_dropNonce (e : Eng) (c : ℕ) (k : ℕ) (s : State) : Same 536877056 s (dropNonce e c k s) := by unfold dropNonce; simp (disch := decide) only [same_refl, same_ite, ite_self, same_cipherDrop]
theorem same_dropNonce {m' : Nat} {s' : State} {e : Eng} {c : ℕ} {k : ℕ} {s : State} (h : m' &&& 536877056 = 536877056) : Same m' s' (dropNonce e c k s) = Same m' s' s := Same.eqv (keep_dropNonce e c k s) h
theorem keep_dropReplay (e : Eng) (c : ℕ) (s : State) : Same 536877056 s (dropReplay e c s) := by unfold dropReplay; simp (disch := decide) only [same_refl, same_ite, ite_self, same_cipherDrop]
theorem same_dropReplay {m' : Nat} {s' : State} {e : Eng} {c : ℕ} {s : State} (h : m' &&& 536877056 = 536877056) : Same m' s' (dropReplay e c s) = Same m' s' s := Same.eqv (keep_dropReplay e c s) h
theorem keep_dropAuth (e : Eng) (c : ℕ) (s : State) : Same 536877056 s (dropAuth e c s) := by unfold dropAuth; simp (disch := decide) only [same_refl, same_ite, ite_self, same_cipherDrop]
theorem same_dropAuth {m' : Nat} {s' : State} {e : Eng} {c : ℕ} {s : State} (h : m' &&& 536877056 = 536877056) : Same m' s' (dropAuth e c s) = Same m' s' s := Same.eqv (keep_dropAuth e c s) h
theorem keep_softRekey (k : ℕ) (old : ℕ) (new : ℕ) (s : State) : Same 33609728 s (softRekey k old new s) := by unfold softRekey; simp (disch := first | decide | (intros; (first | unfold IslSt.fencing | unfold IslSt.stepping | unfold Mgt.quiet | skip); first | rfl | (split <;> rfl)) | (intros; simp (disch := first | decide | (intros; (first | unfold IslSt.fencing | unfold IslSt.stepping | unfold Mgt.quiet | skip); first | rfl | (split <;> rfl))) only [same_refl, same_ite, ite_self, same_setFlag, same_oncePerSec, same_raise, same_requestRekey])) only [same_refl, same_ite, ite_self, same_setFlag, same_oncePerSec, same_raise, same_requestRekey]
theorem same_softRekey {m' : Nat} {s' : State} {k : ℕ} {old : ℕ} {new : ℕ} {s : State} (h : m' &&& 33609728 = 33609728) : Same m' s' (softRekey k old new s) = Same m' s' s := Same.eqv (keep_softRekey k old new s) h
theorem keep_queuePoison (q : QPkt) (s : State) : Same 608212994 s (queuePoison q s).2 := by unfold queuePoison; (try simp (disch := decide) only [same_refl, same_ite, ite_self, same_unitPoisonFar, same_unitPoison]); repeat' (split <;> try simp (disch := decide) only [same_refl, same_ite, ite_self, same_unitPoisonFar, same_unitPoison])
theorem same_queuePoison {m' : Nat} {s' : State} {q : QPkt} {s : State} (h : m' &&& 608212994 = 608212994) : Same m' s' (queuePoison q s).2 = Same m' s' s := Same.eqv (keep_queuePoison q s) h
theorem keep_execUnitEncrypt (e : Eng) (c : Cid) (s : State) {t' : State} (h : execUnitEncrypt e c s = .next t') : Same 644929538 s t' := by unfold execUnitEncrypt at h; (try simp only [act, actF] at h); cases h; (try simp (disch := decide) only [same_refl, same_ite, ite_self, same_modCtr, same_joinRr, same_throughLane, same_setSlot, same_softRekey, same_dropNonce, same_dropAbsent, same_count, same_setCtr, same_queuePoison]); repeat' (split <;> try simp (disch := decide) only [same_refl, same_ite, ite_self, same_modCtr, same_joinRr, same_throughLane, same_setSlot, same_softRekey, same_dropNonce, same_dropAbsent, same_count, same_setCtr, same_queuePoison])
theorem keep_execUnitDecrypt (s : State) {t' : State} (h : execUnitDecrypt s = .next t') : Same 574674944 s t' := by
  unfold execUnitDecrypt at h
  refine keep_act (fun u => ?_) h
  split
  · exact (same_refl _ _).mpr trivial
  · next x rest hx =>
    extract_lets src s1 w c hand k xs ic
    have h1 : Same 574674944 u s1 := (same_up_sec (by decide)).mpr ((same_refl _ _).mpr trivial)
    have hh : ∀ b t, Same 574674944 u t → Same 574674944 u (hand b t) := by
      intro b t ht; simp only [hand]; split
      · exact (same_countCtr (by decide)).mpr ht
      · exact (same_up_flow (by decide)).mpr ht
    clear_value s1
    split
    · exact (same_countCtr (by decide)).mpr h1
    · split
      · exact hh _ _ h1
      · split
        · exact (same_dropAbsent (by decide)).mpr h1
        · split
          · exact (same_dropNonce (by decide)).mpr h1
          · split
            · exact (same_dropReplay (by decide)).mpr h1
            · extract_lets s2
              have h2 : Same 574674944 u s2 := (same_throughLane (by decide)).mpr h1
              clear_value s2
              split
              · exact (same_dropAuth (by decide)).mpr h2
              · exact hh _ _ ((same_softRekey (by decide)).mpr ((same_setSlot (by decide)).mpr h2))

theorem keep_reloadGen (up : Bool) (b : BankKey) (g : Gen) (s : State) : Same 33554432 s (reloadGen up b g s).2 := by unfold reloadGen; simp (disch := decide) only [same_refl, same_ite, ite_self, same_makeGen]
theorem same_reloadGen {m' : Nat} {s' : State} {up : Bool} {b : BankKey} {g : Gen} {s : State} (h : m' &&& 33554432 = 33554432) : Same m' s' (reloadGen up b g s).2 = Same m' s' s := Same.eqv (keep_reloadGen up b g s) h
theorem keep_resumeSlot (k : ℕ) (s : State) : Same 33554432 s (resumeSlot k s) := by unfold resumeSlot; (try simp (disch := decide) only [same_refl, same_ite, ite_self, same_setSlot, same_reloadGen]); repeat' (split <;> try simp (disch := decide) only [same_refl, same_ite, ite_self, same_setSlot, same_reloadGen])
theorem same_resumeSlot {m' : Nat} {s' : State} {k : ℕ} {s : State} (h : m' &&& 33554432 = 33554432) : Same m' s' (resumeSlot k s) = Same m' s' s := Same.eqv (keep_resumeSlot k s) h
theorem keep_crypResume (s : State) : Same 33554432 s (crypResume s) := by unfold crypResume; simp (disch := first | decide | (intros; (first | unfold IslSt.fencing | unfold IslSt.stepping | unfold Mgt.quiet | skip); first | rfl | (split <;> rfl)) | (intros; simp (disch := first | decide | (intros; (first | unfold IslSt.fencing | unfold IslSt.stepping | unfold Mgt.quiet | skip); first | rfl | (split <;> rfl))) only [same_refl, same_ite, ite_self, same_requestRekey, same_forAll, same_resumeSlot])) only [same_refl, same_ite, ite_self, same_requestRekey, same_forAll, same_resumeSlot]
theorem same_crypResume {m' : Nat} {s' : State} {s : State} (h : m' &&& 33554432 = 33554432) : Same m' s' (crypResume s) = Same m' s' s := Same.eqv (keep_crypResume s) h
theorem keep_writeProvHash (i : ℕ) (v : W32) (s : State) : Same 33554432 s (writeProvHash i v s).1 := by unfold writeProvHash; simp (disch := first | decide | (intros; (first | unfold IslSt.fencing | unfold IslSt.stepping | unfold Mgt.quiet | skip); first | rfl | (split <;> rfl)) | (intros; simp (disch := first | decide | (intros; (first | unfold IslSt.fencing | unfold IslSt.stepping | unfold Mgt.quiet | skip); first | rfl | (split <;> rfl))) only [same_refl, same_ite, ite_self, same_up_sec, same_refuseOr])) only [same_refl, same_ite, ite_self, same_up_sec, same_refuseOr]
theorem same_writeProvHash {m' : Nat} {s' : State} {i : ℕ} {v : W32} {s : State} (h : m' &&& 33554432 = 33554432) : Same m' s' (writeProvHash i v s).1 = Same m' s' s := Same.eqv (keep_writeProvHash i v s) h
theorem keep_writeProvCmd (v : W32) (s : State) : Same 55424 s (writeProvCmd v s).1 := by unfold writeProvCmd; simp (disch := first | decide | (intros; (first | unfold IslSt.fencing | unfold IslSt.stepping | unfold Mgt.quiet | skip); first | rfl | (split <;> rfl)) | (intros; simp (disch := first | decide | (intros; (first | unfold IslSt.fencing | unfold IslSt.stepping | unfold Mgt.quiet | skip); first | rfl | (split <;> rfl))) only [same_refl, same_ite, ite_self, same_up_fuse, same_refuseOr, same_setFlag, same_secEvent])) only [same_refl, same_ite, ite_self, same_up_fuse, same_refuseOr, same_setFlag, same_secEvent]
theorem same_writeProvCmd {m' : Nat} {s' : State} {v : W32} {s : State} (h : m' &&& 55424 = 55424) : Same m' s' (writeProvCmd v s).1 = Same m' s' s := Same.eqv (keep_writeProvCmd v s) h
theorem keep_execSecProvCommit (s : State) {t' : State} (h : execSecProvCommit s = .next t') : Same 55428 s t' := by unfold execSecProvCommit at h; (try simp only [act, actF] at h); cases h; simp (disch := decide) only [same_refl, same_ite, ite_self, same_setStatus, same_writeProvCmd]
theorem keep_zeroise (s : State) : Same 34275456 s (zeroise s) := by
  unfold zeroise
  extract_lets s1 s2
  have h1 : Same 34275456 s s1 := by
    refine (same_forAll fun e t => ?_).mpr ((same_refl _ _).mpr trivial)
    split
    · exact (same_refl _ _).mpr trivial
    · exact (same_rampTxOff (by decide)).mpr ((same_refl _ _).mpr trivial)
  clear_value s1
  exact (same_up_fuse_sec (by decide)).mpr ((same_up_leaves (by decide)).mpr h1)

theorem same_zeroise {m' : Nat} {s' : State} {s : State} (h : m' &&& 34275456 = 34275456) : Same m' s' (zeroise s) = Same m' s' s := Same.eqv (keep_zeroise s) h
theorem keep_writeLcCmd (v : W32) (s : State) : Same 34275456 s (writeLcCmd v s).1 := by unfold writeLcCmd; (try simp (disch := first | decide | (intros; (first | unfold IslSt.fencing | unfold IslSt.stepping | unfold Mgt.quiet | skip); first | rfl | (split <;> rfl)) | (intros; simp (disch := first | decide | (intros; (first | unfold IslSt.fencing | unfold IslSt.stepping | unfold Mgt.quiet | skip); first | rfl | (split <;> rfl))) only [same_refl, same_ite, ite_self, same_up_sec, same_zeroise])) only [same_refl, same_ite, ite_self, same_up_sec, same_zeroise]); repeat' (split <;> try simp (disch := first | decide | (intros; (first | unfold IslSt.fencing | unfold IslSt.stepping | unfold Mgt.quiet | skip); first | rfl | (split <;> rfl)) | (intros; simp (disch := first | decide | (intros; (first | unfold IslSt.fencing | unfold IslSt.stepping | unfold Mgt.quiet | skip); first | rfl | (split <;> rfl))) only [same_refl, same_ite, ite_self, same_up_sec, same_zeroise])) only [same_refl, same_ite, ite_self, same_up_sec, same_zeroise])
theorem same_writeLcCmd {m' : Nat} {s' : State} {v : W32} {s : State} (h : m' &&& 34275456 = 34275456) : Same m' s' (writeLcCmd v s).1 = Same m' s' s := Same.eqv (keep_writeLcCmd v s) h
theorem keep_execLcReturnArm (s : State) {t' : State} (h : execLcReturnArm s = .next t') : Same 34275460 s t' := by unfold execLcReturnArm at h; (try simp only [act, actF] at h); cases h; simp (disch := decide) only [same_refl, same_ite, ite_self, same_setStatus, same_writeLcCmd]
theorem keep_execLcReturnCommit (s : State) {t' : State} (h : execLcReturnCommit s = .next t') : Same 34275460 s t' := by unfold execLcReturnCommit at h; (try simp only [act, actF] at h); cases h; simp (disch := decide) only [same_refl, same_ite, ite_self, same_setStatus, same_writeLcCmd]
theorem keep_execLcVoidArm (s : State) {t' : State} (h : execLcVoidArm s = .next t') : Same 34275460 s t' := by unfold execLcVoidArm at h; (try simp only [act, actF] at h); cases h; simp (disch := decide) only [same_refl, same_ite, ite_self, same_setStatus, same_writeLcCmd]
theorem keep_execLcVoidCommit (s : State) {t' : State} (h : execLcVoidCommit s = .next t') : Same 34275460 s t' := by unfold execLcVoidCommit at h; (try simp only [act, actF] at h); cases h; simp (disch := decide) only [same_refl, same_ite, ite_self, same_setStatus, same_writeLcCmd]
theorem keep_execLcArmExpiry (s : State) {t' : State} (h : execLcArmExpiry s = .next t') : Same 33554432 s t' := by unfold execLcArmExpiry at h; (try simp only [act, actF] at h); cases h; simp (disch := decide) only [same_refl, same_ite, ite_self, same_up_sec]
theorem keep_execSecLcChange (a : BitVec 8) (b : BitVec 8) (c : BitVec 8) (s : State) {t' : State} (h : execSecLcChange a b c s = .next t') : Same 68719476728 s t' := by unfold execSecLcChange at h; (try simp only [act, actF] at h); cases h; simp (disch := decide) only [same_refl, same_ite, ite_self, same_up_fuse, same_restart, same_lcEvent, same_noteFault]

end Sys2Proof.Machine
end

