-- ==== Sys2Proof/Laws/FrameMemory.lean ====
section
/-! SUPPORT. Which parts of the state each function of Machine/Memory.lean leaves alone, as the bit mask of the others. -/

namespace Sys2Proof.Machine

set_option linter.unusedSimpArgs false
set_option linter.unusedTactic false
set_option linter.unreachableTactic false

theorem keep_writeMemMove (v : W32) (s : State) : Same 67108864 s (writeMemMove v s).1 := by unfold writeMemMove; simp (disch := first | decide | (intros; (first | unfold IslSt.fencing | unfold IslSt.stepping | unfold Mgt.quiet | skip); first | rfl | (split <;> rfl)) | (intros; simp (disch := first | decide | (intros; (first | unfold IslSt.fencing | unfold IslSt.stepping | unfold Mgt.quiet | skip); first | rfl | (split <;> rfl))) only [same_refl, same_ite, ite_self, same_up_mem, same_refuseOr])) only [same_refl, same_ite, ite_self, same_up_mem, same_refuseOr]
theorem same_writeMemMove {m' : Nat} {s' : State} {v : W32} {s : State} (h : m' &&& 67108864 = 67108864) : Same m' s' (writeMemMove v s).1 = Same m' s' s := Same.eqv (keep_writeMemMove v s) h
theorem keep_execMemMoveGo (src : BankIx) (dst : BankIx) (s : State) {t' : State} (h : execMemMoveGo src dst s = .next t') : Same 67108868 s t' := by unfold execMemMoveGo at h; (try simp only [act, actF] at h); cases h; simp (disch := decide) only [same_refl, same_ite, ite_self, same_setStatus, same_writeMemMove]
theorem keep_moveEvent (src : ℕ) (dst : ℕ) (abandoned : ℕ) (s : State) : Same 38912 s (moveEvent src dst abandoned s) := by unfold moveEvent; simp (disch := decide) only [same_refl, same_ite, ite_self, same_raiseF]
theorem same_moveEvent {m' : Nat} {s' : State} {src : ℕ} {dst : ℕ} {abandoned : ℕ} {s : State} (h : m' &&& 38912 = 38912) : Same m' s' (moveEvent src dst abandoned s) = Same m' s' s := Same.eqv (keep_moveEvent src dst abandoned s) h
theorem keep_moveReads (src : ℕ) (s : State) : Same 608212994 s (moveReads src s) := by unfold moveReads; simp (disch := first | decide | (intros; (first | unfold IslSt.fencing | unfold IslSt.stepping | unfold Mgt.quiet | skip); first | rfl | (split <;> rfl)) | (intros; simp (disch := first | decide | (intros; (first | unfold IslSt.fencing | unfold IslSt.stepping | unfold Mgt.quiet | skip); first | rfl | (split <;> rfl))) only [same_refl, same_ite, ite_self, same_memRead, same_draw, same_forAll, same_memAccess, same_memUncorr])) only [same_refl, same_ite, ite_self, same_memRead, same_draw, same_forAll, same_memAccess, same_memUncorr]
theorem same_moveReads {m' : Nat} {s' : State} {src : ℕ} {s : State} (h : m' &&& 608212994 = 608212994) : Same m' s' (moveReads src s) = Same m' s' s := Same.eqv (keep_moveReads src s) h
theorem keep_moveContents (src : ℕ) (dst : ℕ) (s : State) : Same 67108864 s (moveContents src dst s) := by unfold moveContents; simp (disch := decide) only [same_refl, same_ite, ite_self, same_up_mem]
theorem same_moveContents {m' : Nat} {s' : State} {src : ℕ} {dst : ℕ} {s : State} (h : m' &&& 67108864 = 67108864) : Same m' s' (moveContents src dst s) = Same m' s' s := Same.eqv (keep_moveContents src dst s) h
theorem keep_execMemMoveDone (s : State) {t' : State} (h : execMemMoveDone s = .next t') : Same 608214018 s t' := by unfold execMemMoveDone at h; (try simp only [act, actF] at h); cases h; (try simp (disch := decide) only [same_refl, same_ite, ite_self, same_up_mem, same_setReg, same_swapPlaces, same_moveReads, same_moveContents, same_moveEvent]); repeat' (split <;> try simp (disch := decide) only [same_refl, same_ite, ite_self, same_up_mem, same_setReg, same_swapPlaces, same_moveReads, same_moveContents, same_moveEvent])
theorem keep_execMemMoveTimeout (s : State) {t' : State} (h : execMemMoveTimeout s = .next t') : Same 67147778 s t' := by unfold execMemMoveTimeout at h; (try simp only [act, actF] at h); cases h; (try simp (disch := decide) only [same_refl, same_ite, ite_self, same_up_mem, same_moveEvent, same_freshBank, same_draw]); repeat' (split <;> try simp (disch := decide) only [same_refl, same_ite, ite_self, same_up_mem, same_moveEvent, same_freshBank, same_draw])
theorem keep_eccOf (errs : List ℕ) (s : State) : Same 2 s (eccOf errs s).2 := by unfold eccOf; (try simp (disch := decide) only [same_refl, same_ite, ite_self, same_draw]); repeat' (split <;> try simp (disch := decide) only [same_refl, same_ite, ite_self, same_draw])
theorem same_eccOf {m' : Nat} {s' : State} {errs : List ℕ} {s : State} (h : m' &&& 2 = 2) : Same m' s' (eccOf errs s).2 = Same m' s' s := Same.eqv (keep_eccOf errs s) h
theorem keep_execScrubberRead (r : Fin 16) (word : ℕ) (errs : WordErrs) (s : State) {t' : State} (h : execScrubberRead r word errs s = .next t') : Same 608212994 s t' := by unfold execScrubberRead at h; (try simp only [act, actF] at h); cases h; (try simp (disch := first | decide | (intros; (first | unfold IslSt.fencing | unfold IslSt.stepping | unfold Mgt.quiet | skip); first | rfl | (split <;> rfl)) | (intros; simp (disch := first | decide | (intros; (first | unfold IslSt.fencing | unfold IslSt.stepping | unfold Mgt.quiet | skip); first | rfl | (split <;> rfl))) only [same_refl, same_ite, ite_self, same_memUncorr, same_memCorr, same_eccOf, same_count, same_when])) only [same_refl, same_ite, ite_self, same_memUncorr, same_memCorr, same_eccOf, same_count, same_when]); repeat' (split <;> try simp (disch := first | decide | (intros; (first | unfold IslSt.fencing | unfold IslSt.stepping | unfold Mgt.quiet | skip); first | rfl | (split <;> rfl)) | (intros; simp (disch := first | decide | (intros; (first | unfold IslSt.fencing | unfold IslSt.stepping | unfold Mgt.quiet | skip); first | rfl | (split <;> rfl))) only [same_refl, same_ite, ite_self, same_memUncorr, same_memCorr, same_eccOf, same_count, same_when])) only [same_refl, same_ite, ite_self, same_memUncorr, same_memCorr, same_eccOf, same_count, same_when])
theorem keep_execScrubLapEnd (r : Fin 16) (ms : ℕ) (s : State) {t' : State} (h : execScrubLapEnd r ms s = .next t') : Same 67147776 s t' := by unfold execScrubLapEnd at h; (try simp only [act, actF] at h); cases h; simp (disch := decide) only [same_refl, same_ite, ite_self, same_up_mem, same_raiseF]
theorem keep_execBgtBorrow (b : BankIx) (word : ℕ) (s : State) {t' : State} (h : execBgtBorrow b word s = .next t') : Same 67108864 s t' := by unfold execBgtBorrow at h; (try simp only [act, actF] at h); cases h; simp (disch := decide) only [same_refl, same_ite, ite_self, same_up_mem]
theorem keep_execBgtMarchDone (failWord : Option ℕ) (mask : W32) (s : State) {t' : State} (h : execBgtMarchDone failWord mask s = .next t') : Same 67147776 s t' := by unfold execBgtMarchDone at h; (try simp only [act, actF] at h); cases h; (try simp (disch := first | decide | (intros; (first | unfold IslSt.fencing | unfold IslSt.stepping | unfold Mgt.quiet | skip); first | rfl | (split <;> rfl)) | (intros; simp (disch := first | decide | (intros; (first | unfold IslSt.fencing | unfold IslSt.stepping | unfold Mgt.quiet | skip); first | rfl | (split <;> rfl))) only [same_refl, same_ite, ite_self, same_up_mem, same_raiseF])) only [same_refl, same_ite, ite_self, same_up_mem, same_raiseF]); repeat' (split <;> try simp (disch := first | decide | (intros; (first | unfold IslSt.fencing | unfold IslSt.stepping | unfold Mgt.quiet | skip); first | rfl | (split <;> rfl)) | (intros; simp (disch := first | decide | (intros; (first | unfold IslSt.fencing | unfold IslSt.stepping | unfold Mgt.quiet | skip); first | rfl | (split <;> rfl))) only [same_refl, same_ite, ite_self, same_up_mem, same_raiseF])) only [same_refl, same_ite, ite_self, same_up_mem, same_raiseF])
theorem keep_execBgtYield (s : State) {t' : State} (h : execBgtYield s = .next t') : Same 603985920 s t' := by unfold execBgtYield at h; (try simp only [act, actF] at h); cases h; (try simp (disch := decide) only [same_refl, same_ite, ite_self, same_bgtYield]); repeat' (split <;> try simp (disch := decide) only [same_refl, same_ite, ite_self, same_bgtYield])
theorem keep_storeScratch (o : ℕ) (data : List Byte) (s : State) : Same 67108864 s (storeScratch o data s) := by unfold storeScratch; simp (disch := first | decide | (intros; (first | unfold IslSt.fencing | unfold IslSt.stepping | unfold Mgt.quiet | skip); first | rfl | (split <;> rfl)) | (intros; simp (disch := first | decide | (intros; (first | unfold IslSt.fencing | unfold IslSt.stepping | unfold Mgt.quiet | skip); first | rfl | (split <;> rfl))) only [same_refl, same_ite, ite_self, same_up_mem, same_forAll])) only [same_refl, same_ite, ite_self, same_up_mem, same_forAll]
theorem same_storeScratch {m' : Nat} {s' : State} {o : ℕ} {data : List Byte} {s : State} (h : m' &&& 67108864 = 67108864) : Same m' s' (storeScratch o data s) = Same m' s' s := Same.eqv (keep_storeScratch o data s) h
theorem keep_writeScratchWord (o : ℕ) (data : List Byte) (poison : Bool) (s : State) : Same 608212992 s (writeScratchWord o data poison s) := by unfold writeScratchWord; simp (disch := decide) only [same_refl, same_ite, ite_self, same_storeScratch, same_memUncorr, same_memWritten]
theorem same_writeScratchWord {m' : Nat} {s' : State} {o : ℕ} {data : List Byte} {poison : Bool} {s : State} (h : m' &&& 608212992 = 608212992) : Same m' s' (writeScratchWord o data poison s) = Same m' s' s := Same.eqv (keep_writeScratchWord o data poison s) h
theorem keep_writeScratchRun : ∀ (n o : Nat) (d : List Byte) (p : Bool) (s : State), Same 608212992 s (writeScratchRun n o d p s)
  | 0, _, _, _, _ => (same_refl _ _).mpr trivial
  | n + 1, o, d, p, s => by
    unfold writeScratchRun; split
    · exact (same_refl _ _).mpr trivial
    · exact ((same_writeScratchWord (by decide)).mpr ((same_refl _ s).mpr trivial)).trans (keep_writeScratchRun n _ _ _ _)

theorem same_writeScratchRun {m' : Nat} {s' : State} {a0 : ℕ} {a1 : ℕ} {a2 : List Byte} {a3 : Bool} {a4 : State} (h : m' &&& 608212992 = 608212992) : Same m' s' (writeScratchRun a0 a1 a2 a3 a4) = Same m' s' a4 := Same.eqv (keep_writeScratchRun a0 a1 a2 a3 a4) h
theorem keep_writeScratch (adr : ℕ) (data : List Byte) (poison : Bool) (s : State) : Same 608212992 s (writeScratch adr data poison s).1 := by unfold writeScratch; simp (disch := first | decide | (intros; (first | unfold IslSt.fencing | unfold IslSt.stepping | unfold Mgt.quiet | skip); first | rfl | (split <;> rfl)) | (intros; simp (disch := first | decide | (intros; (first | unfold IslSt.fencing | unfold IslSt.stepping | unfold Mgt.quiet | skip); first | rfl | (split <;> rfl))) only [same_refl, same_ite, ite_self, same_refuseOr, same_writeScratchRun])) only [same_refl, same_ite, ite_self, same_refuseOr, same_writeScratchRun]
theorem same_writeScratch {m' : Nat} {s' : State} {adr : ℕ} {data : List Byte} {poison : Bool} {s : State} (h : m' &&& 608212992 = 608212992) : Same m' s' (writeScratch adr data poison s).1 = Same m' s' s := Same.eqv (keep_writeScratch adr data poison s) h
theorem keep_execScratchpadWrite (adr : ℕ) (data : List Byte) (poison : Bool) (s : State) {t' : State} (h : execScratchpadWrite adr data poison s = .next t') : Same 608212996 s t' := by unfold execScratchpadWrite at h; (try simp only [act, actF] at h); cases h; simp (disch := decide) only [same_refl, same_ite, ite_self, same_setStatus, same_writeScratch]

end Sys2Proof.Machine
end

