-- ==== Sys2Proof/Laws/FrameSettings.lean ====
section
/-! SUPPORT. Which parts of the state each function of Machine/Settings.lean leaves alone, as the bit mask of the others. -/

namespace Sys2Proof.Machine

set_option linter.unusedSimpArgs false
set_option linter.unusedTactic false
set_option linter.unreachableTactic false

theorem keep_storeSetting (a : RegAt) (v : W32) (s : State) : Same 1024 s (storeSetting a v s) := by unfold storeSetting; simp (disch := first | decide | (intros; (first | unfold IslSt.fencing | unfold IslSt.stepping | unfold Mgt.quiet | skip); first | rfl | (split <;> rfl)) | (intros; simp (disch := first | decide | (intros; (first | unfold IslSt.fencing | unfold IslSt.stepping | unfold Mgt.quiet | skip); first | rfl | (split <;> rfl))) only [same_refl, same_ite, ite_self, same_forAll, same_setReg])) only [same_refl, same_ite, ite_self, same_forAll, same_setReg]
theorem same_storeSetting {m' : Nat} {s' : State} {a : RegAt} {v : W32} {s : State} (h : m' &&& 1024 = 1024) : Same m' s' (storeSetting a v s) = Same m' s' s := Same.eqv (keep_storeSetting a v s) h
theorem keep_loadLeaf (a : LeafAt) (v : W32) (s : State) : Same 524288 s (loadLeaf a v s) := by unfold loadLeaf; simp (disch := decide) only [same_refl, same_ite, ite_self, same_modLeaf]
theorem same_loadLeaf {m' : Nat} {s' : State} {a : LeafAt} {v : W32} {s : State} (h : m' &&& 524288 = 524288) : Same m' s' (loadLeaf a v s) = Same m' s' s := Same.eqv (keep_loadLeaf a v s) h
theorem keep_loadWord (a : ℕ) (v : W32) (s : State) : Same 540541952 s (loadWord a v s) := by unfold loadWord; (try simp (disch := decide) only [same_refl, same_ite, ite_self, same_up_tally, same_storeSetting, same_modCtr, same_shareAfter, same_modSset, same_loadLeaf]); repeat' (split <;> try simp (disch := decide) only [same_refl, same_ite, ite_self, same_up_tally, same_storeSetting, same_modCtr, same_shareAfter, same_modSset, same_loadLeaf])
theorem same_loadWord {m' : Nat} {s' : State} {a : ℕ} {v : W32} {s : State} (h : m' &&& 540541952 = 540541952) : Same m' s' (loadWord a v s) = Same m' s' s := Same.eqv (keep_loadWord a v s) h

end Sys2Proof.Machine
end

