-- ==== Sys2Proof/Laws/FrameImage.lean ====
section
/-! SUPPORT. Which parts of the state each function of Machine/Image.lean leaves alone, as the bit mask of the others. -/

namespace Sys2Proof.Machine

set_option linter.unusedSimpArgs false
set_option linter.unusedTactic false
set_option linter.unreachableTactic false

theorem keep_loadPairs (l : List (ℕ × W32)) (s : State) : Same 540541952 s (loadPairs l s) := by unfold loadPairs; simp (disch := first | decide | (intros; (first | unfold IslSt.fencing | unfold IslSt.stepping | unfold Mgt.quiet | skip); first | rfl | (split <;> rfl)) | (intros; simp (disch := first | decide | (intros; (first | unfold IslSt.fencing | unfold IslSt.stepping | unfold Mgt.quiet | skip); first | rfl | (split <;> rfl))) only [same_refl, same_ite, ite_self, same_forAll, same_loadWord])) only [same_refl, same_ite, ite_self, same_forAll, same_loadWord]
theorem same_loadPairs {m' : Nat} {s' : State} {l : List (ℕ × W32)} {s : State} (h : m' &&& 540541952 = 540541952) : Same m' s' (loadPairs l s) = Same m' s' s := Same.eqv (keep_loadPairs l s) h
theorem keep_loadModuleRec (r : ImgRec) (s : State) : Same 653788162 s (loadModuleRec r s) := by
  unfold loadModuleRec
  split
  · exact (same_refl _ _).mpr trivial
  · split
    · exact (same_loadPairs (by decide)).mpr ((same_refl _ _).mpr trivial)
    · split
      · exact (same_up_sec (by decide)).mpr ((same_refl _ _).mpr trivial)
      · split
        · exact (same_setBanks (by decide)).mpr ((same_refl _ _).mpr trivial)
        · split
          · refine (same_forAll fun x t => ?_).mpr ((same_refl _ _).mpr trivial)
            extract_lets y f
            split
            · exact (keep_makeValid_getD f y t).mono (by decide)
            · exact (same_setFlow (by decide)).mpr ((same_refl _ _).mpr trivial)
          · split
            · exact (same_forAll fun i t => (same_setReg (by decide)).mpr ((same_refl _ _).mpr trivial)).mpr ((same_refl _ _).mpr trivial)
            · split
              · exact (same_up_tod (by decide)).mpr ((same_refl _ _).mpr trivial)
              · exact (same_refl _ _).mpr trivial

theorem same_loadModuleRec {m' : Nat} {s' : State} {r : ImgRec} {s : State} (h : m' &&& 653788162 = 653788162) : Same m' s' (loadModuleRec r s) = Same m' s' s := Same.eqv (keep_loadModuleRec r s) h
theorem keep_loadModule (rs : List ImgRec) (s : State) : Same 653985282 s (loadModule rs s) := by unfold loadModule; simp (disch := first | decide | (intros; (first | unfold IslSt.fencing | unfold IslSt.stepping | unfold Mgt.quiet | skip); first | rfl | (split <;> rfl)) | (intros; simp (disch := first | decide | (intros; (first | unfold IslSt.fencing | unfold IslSt.stepping | unfold Mgt.quiet | skip); first | rfl | (split <;> rfl))) only [same_refl, same_ite, ite_self, same_up_boot, same_modEng_st, same_modEng, same_loadModuleRec, same_forAll, same_setBanks])) only [same_refl, same_ite, ite_self, same_up_boot, same_modEng_st, same_modEng, same_loadModuleRec, same_forAll, same_setBanks]
theorem same_loadModule {m' : Nat} {s' : State} {rs : List ImgRec} {s : State} (h : m' &&& 653985282 = 653985282) : Same m' s' (loadModule rs s) = Same m' s' s := Same.eqv (keep_loadModule rs s) h
theorem keep_loadCtrs (e : Eng) (p : List Byte) (s : State) : Same 3145728 s (loadCtrs e p s) := by unfold loadCtrs; simp (disch := first | decide | (intros; (first | unfold IslSt.fencing | unfold IslSt.stepping | unfold Mgt.quiet | skip); first | rfl | (split <;> rfl)) | (intros; simp (disch := first | decide | (intros; (first | unfold IslSt.fencing | unfold IslSt.stepping | unfold Mgt.quiet | skip); first | rfl | (split <;> rfl))) only [same_refl, same_ite, ite_self, same_modCtr, same_shareAfter, same_modSset, same_forAll])) only [same_refl, same_ite, ite_self, same_modCtr, same_shareAfter, same_modSset, same_forAll]
theorem same_loadCtrs {m' : Nat} {s' : State} {e : Eng} {p : List Byte} {s : State} (h : m' &&& 3145728 = 3145728) : Same m' s' (loadCtrs e p s) = Same m' s' s := Same.eqv (keep_loadCtrs e p s) h
theorem keep_loadPin (e : Eng) (ser : BitVec 128) (l : ℕ) (s : State) : Same 524288 s (loadPin e ser l s) := by unfold loadPin; simp (disch := decide) only [same_refl, same_ite, ite_self, same_modLeaf]
theorem same_loadPin {m' : Nat} {s' : State} {e : Eng} {ser : BitVec 128} {l : ℕ} {s : State} (h : m' &&& 524288 = 524288) : Same m' s' (loadPin e ser l s) = Same m' s' s := Same.eqv (keep_loadPin e ser l s) h
theorem keep_loadList (e : Eng) (p : List Byte) (s : State) : Same 720896 s (loadList e p s) := by unfold loadList; (try simp (disch := first | decide | (intros; (first | unfold IslSt.fencing | unfold IslSt.stepping | unfold Mgt.quiet | skip); first | rfl | (split <;> rfl)) | (intros; (try simp (disch := first | decide | (intros; (first | unfold IslSt.fencing | unfold IslSt.stepping | unfold Mgt.quiet | skip); first | rfl | (split <;> rfl)) | (intros; simp (disch := first | decide | (intros; (first | unfold IslSt.fencing | unfold IslSt.stepping | unfold Mgt.quiet | skip); first | rfl | (split <;> rfl))) only [same_refl, same_ite, ite_self, same_forAll, same_modEng_st, same_modEng, same_loadPin])) only [same_refl, same_ite, ite_self, same_forAll, same_modEng_st, same_modEng, same_loadPin]); repeat' (split <;> try simp (disch := first | decide | (intros; (first | unfold IslSt.fencing | unfold IslSt.stepping | unfold Mgt.quiet | skip); first | rfl | (split <;> rfl)) | (intros; simp (disch := first | decide | (intros; (first | unfold IslSt.fencing | unfold IslSt.stepping | unfold Mgt.quiet | skip); first | rfl | (split <;> rfl))) only [same_refl, same_ite, ite_self, same_forAll, same_modEng_st, same_modEng, same_loadPin])) only [same_refl, same_ite, ite_self, same_forAll, same_modEng_st, same_modEng, same_loadPin]); done)) only [same_refl, same_ite, ite_self, same_forAll, same_modEng_st, same_modEng, same_loadPin]); repeat' (split <;> try simp (disch := first | decide | (intros; (first | unfold IslSt.fencing | unfold IslSt.stepping | unfold Mgt.quiet | skip); first | rfl | (split <;> rfl)) | (intros; (try simp (disch := first | decide | (intros; (first | unfold IslSt.fencing | unfold IslSt.stepping | unfold Mgt.quiet | skip); first | rfl | (split <;> rfl)) | (intros; simp (disch := first | decide | (intros; (first | unfold IslSt.fencing | unfold IslSt.stepping | unfold Mgt.quiet | skip); first | rfl | (split <;> rfl))) only [same_refl, same_ite, ite_self, same_forAll, same_modEng_st, same_modEng, same_loadPin])) only [same_refl, same_ite, ite_self, same_forAll, same_modEng_st, same_modEng, same_loadPin]); repeat' (split <;> try simp (disch := first | decide | (intros; (first | unfold IslSt.fencing | unfold IslSt.stepping | unfold Mgt.quiet | skip); first | rfl | (split <;> rfl)) | (intros; simp (disch := first | decide | (intros; (first | unfold IslSt.fencing | unfold IslSt.stepping | unfold Mgt.quiet | skip); first | rfl | (split <;> rfl))) only [same_refl, same_ite, ite_self, same_forAll, same_modEng_st, same_modEng, same_loadPin])) only [same_refl, same_ite, ite_self, same_forAll, same_modEng_st, same_modEng, same_loadPin]); done)) only [same_refl, same_ite, ite_self, same_forAll, same_modEng_st, same_modEng, same_loadPin])
theorem same_loadList {m' : Nat} {s' : State} {e : Eng} {p : List Byte} {s : State} (h : m' &&& 720896 = 720896) : Same m' s' (loadList e p s) = Same m' s' s := Same.eqv (keep_loadList e p s) h
theorem keep_loadTree (e : Eng) (p : List Byte) (s : State) : Same 1024 s (loadTree e p s) := by unfold loadTree; simp (disch := decide) only [same_refl, same_ite, ite_self, same_setReg]
theorem same_loadTree {m' : Nat} {s' : State} {e : Eng} {p : List Byte} {s : State} (h : m' &&& 1024 = 1024) : Same m' s' (loadTree e p s) = Same m' s' s := Same.eqv (keep_loadTree e p s) h
theorem keep_loadRestart (a : ℕ) (v : W32) (s : State) : Same 540541952 s (loadRestart a v s) := by unfold loadRestart; (try simp (disch := decide) only [same_refl, same_ite, ite_self, same_loadWord, same_setReg]); repeat' (split <;> try simp (disch := decide) only [same_refl, same_ite, ite_self, same_loadWord, same_setReg])
theorem same_loadRestart {m' : Nat} {s' : State} {a : ℕ} {v : W32} {s : State} (h : m' &&& 540541952 = 540541952) : Same m' s' (loadRestart a v s) = Same m' s' s := Same.eqv (keep_loadRestart a v s) h
theorem keep_loadEngineRec (e : Eng) (whole : Bool) (r : ImgRec) (s : State) : Same 540738560 s (loadEngineRec e whole r s) := by unfold loadEngineRec; (try simp (disch := first | decide | (intros; (first | unfold IslSt.fencing | unfold IslSt.stepping | unfold Mgt.quiet | skip); first | rfl | (split <;> rfl)) | (intros; simp (disch := first | decide | (intros; (first | unfold IslSt.fencing | unfold IslSt.stepping | unfold Mgt.quiet | skip); first | rfl | (split <;> rfl)) | (intros; simp (disch := first | decide | (intros; (first | unfold IslSt.fencing | unfold IslSt.stepping | unfold Mgt.quiet | skip); first | rfl | (split <;> rfl))) only [same_refl, same_ite, ite_self, same_loadList, same_storeSetting, same_forAll, same_loadCtrs, same_loadTree, same_loadRestart, same_loadPairs])) only [same_refl, same_ite, ite_self, same_loadList, same_storeSetting, same_forAll, same_loadCtrs, same_loadTree, same_loadRestart, same_loadPairs])) only [same_refl, same_ite, ite_self, same_loadList, same_storeSetting, same_forAll, same_loadCtrs, same_loadTree, same_loadRestart, same_loadPairs]); repeat' (split <;> try simp (disch := first | decide | (intros; (first | unfold IslSt.fencing | unfold IslSt.stepping | unfold Mgt.quiet | skip); first | rfl | (split <;> rfl)) | (intros; simp (disch := first | decide | (intros; (first | unfold IslSt.fencing | unfold IslSt.stepping | unfold Mgt.quiet | skip); first | rfl | (split <;> rfl)) | (intros; simp (disch := first | decide | (intros; (first | unfold IslSt.fencing | unfold IslSt.stepping | unfold Mgt.quiet | skip); first | rfl | (split <;> rfl))) only [same_refl, same_ite, ite_self, same_loadList, same_storeSetting, same_forAll, same_loadCtrs, same_loadTree, same_loadRestart, same_loadPairs])) only [same_refl, same_ite, ite_self, same_loadList, same_storeSetting, same_forAll, same_loadCtrs, same_loadTree, same_loadRestart, same_loadPairs])) only [same_refl, same_ite, ite_self, same_loadList, same_storeSetting, same_forAll, same_loadCtrs, same_loadTree, same_loadRestart, same_loadPairs])
theorem same_loadEngineRec {m' : Nat} {s' : State} {e : Eng} {whole : Bool} {r : ImgRec} {s : State} (h : m' &&& 540738560 = 540738560) : Same m' s' (loadEngineRec e whole r s) = Same m' s' s := Same.eqv (keep_loadEngineRec e whole r s) h
theorem keep_loadEngine (e : Eng) (whole : Bool) (rs : List ImgRec) (s : State) : Same 540738560 s (loadEngine e whole rs s) := by unfold loadEngine; simp (disch := first | decide | (intros; (first | unfold IslSt.fencing | unfold IslSt.stepping | unfold Mgt.quiet | skip); first | rfl | (split <;> rfl)) | (intros; simp (disch := first | decide | (intros; (first | unfold IslSt.fencing | unfold IslSt.stepping | unfold Mgt.quiet | skip); first | rfl | (split <;> rfl))) only [same_refl, same_ite, ite_self, same_forAll, same_loadEngineRec])) only [same_refl, same_ite, ite_self, same_forAll, same_loadEngineRec]
theorem same_loadEngine {m' : Nat} {s' : State} {e : Eng} {whole : Bool} {rs : List ImgRec} {s : State} (h : m' &&& 540738560 = 540738560) : Same m' s' (loadEngine e whole rs s) = Same m' s' s := Same.eqv (keep_loadEngine e whole rs s) h
theorem keep_loadSharedRec (p : ℕ → Bool) (profiles : Bool) (r : ImgRec) (s : State) : Same 540738560 s (loadSharedRec p profiles r s) := by unfold loadSharedRec; simp (disch := first | decide | (intros; (first | unfold IslSt.fencing | unfold IslSt.stepping | unfold Mgt.quiet | skip); first | rfl | (split <;> rfl)) | (intros; simp (disch := first | decide | (intros; (first | unfold IslSt.fencing | unfold IslSt.stepping | unfold Mgt.quiet | skip); first | rfl | (split <;> rfl))) only [same_refl, same_ite, ite_self, same_loadEngineRec, same_loadPairs, same_forAll])) only [same_refl, same_ite, ite_self, same_loadEngineRec, same_loadPairs, same_forAll]
theorem same_loadSharedRec {m' : Nat} {s' : State} {p : ℕ → Bool} {profiles : Bool} {r : ImgRec} {s : State} (h : m' &&& 540738560 = 540738560) : Same m' s' (loadSharedRec p profiles r s) = Same m' s' s := Same.eqv (keep_loadSharedRec p profiles r s) h
theorem keep_loadShared (p : ℕ → Bool) (profiles : Bool) (rs : List ImgRec) (s : State) : Same 540738560 s (loadShared p profiles rs s) := by unfold loadShared; simp (disch := first | decide | (intros; (first | unfold IslSt.fencing | unfold IslSt.stepping | unfold Mgt.quiet | skip); first | rfl | (split <;> rfl)) | (intros; simp (disch := first | decide | (intros; (first | unfold IslSt.fencing | unfold IslSt.stepping | unfold Mgt.quiet | skip); first | rfl | (split <;> rfl))) only [same_refl, same_ite, ite_self, same_loadSharedRec, same_forAll])) only [same_refl, same_ite, ite_self, same_loadSharedRec, same_forAll]
theorem same_loadShared {m' : Nat} {s' : State} {p : ℕ → Bool} {profiles : Bool} {rs : List ImgRec} {s : State} (h : m' &&& 540738560 = 540738560) : Same m' s' (loadShared p profiles rs s) = Same m' s' s := Same.eqv (keep_loadShared p profiles rs s) h
theorem keep_loadGrpRec (e : Eng) (r : ImgRec) (s : State) : Same 540541952 s (loadGrpRec e r s) := by unfold loadGrpRec; simp (disch := first | decide | (intros; (first | unfold IslSt.fencing | unfold IslSt.stepping | unfold Mgt.quiet | skip); first | rfl | (split <;> rfl)) | (intros; simp (disch := first | decide | (intros; (first | unfold IslSt.fencing | unfold IslSt.stepping | unfold Mgt.quiet | skip); first | rfl | (split <;> rfl))) only [same_refl, same_ite, ite_self, same_loadRestart, same_forAll])) only [same_refl, same_ite, ite_self, same_loadRestart, same_forAll]
theorem same_loadGrpRec {m' : Nat} {s' : State} {e : Eng} {r : ImgRec} {s : State} (h : m' &&& 540541952 = 540541952) : Same m' s' (loadGrpRec e r s) = Same m' s' s := Same.eqv (keep_loadGrpRec e r s) h
theorem keep_loadPairRestart (e : Eng) (rs : List ImgRec) (s : State) : Same 540738560 s (loadPairRestart e rs s) := by unfold loadPairRestart; simp (disch := first | decide | (intros; (first | unfold IslSt.fencing | unfold IslSt.stepping | unfold Mgt.quiet | skip); first | rfl | (split <;> rfl)) | (intros; simp (disch := first | decide | (intros; (first | unfold IslSt.fencing | unfold IslSt.stepping | unfold Mgt.quiet | skip); first | rfl | (split <;> rfl))) only [same_refl, same_ite, ite_self, same_loadShared, same_loadGrpRec, same_forAll])) only [same_refl, same_ite, ite_self, same_loadShared, same_loadGrpRec, same_forAll]
theorem same_loadPairRestart {m' : Nat} {s' : State} {e : Eng} {rs : List ImgRec} {s : State} (h : m' &&& 540738560 = 540738560) : Same m' s' (loadPairRestart e rs s) = Same m' s' s := Same.eqv (keep_loadPairRestart e rs s) h
theorem keep_withOtherTree (rs : List ImgRec) (e : Eng) (s : State) : Same 1024 s (withOtherTree rs e s) := by unfold withOtherTree; (try simp (disch := decide) only [same_refl, same_ite, ite_self, same_loadTree]); repeat' (split <;> try simp (disch := decide) only [same_refl, same_ite, ite_self, same_loadTree])
theorem same_withOtherTree {m' : Nat} {s' : State} {rs : List ImgRec} {e : Eng} {s : State} (h : m' &&& 1024 = 1024) : Same m' s' (withOtherTree rs e s) = Same m' s' s := Same.eqv (keep_withOtherTree rs e s) h
theorem keep_clearEngine (e : Eng) (s : State) : Same 3343360 s (clearEngine e s) := by
  unfold clearEngine
  extract_lets paired s1
  have h1 : Same 3343360 s s1 := (same_up_regs (by decide)).mpr ((same_refl _ _).mpr trivial)
  clear_value s1
  split
  · exact h1
  · exact (same_modEng_st (by decide) (by intros; rfl)).mpr ((same_up_ssets_ctrs (by decide)).mpr h1)

theorem same_clearEngine {m' : Nat} {s' : State} {e : Eng} {s : State} (h : m' &&& 3343360 = 3343360) : Same m' s' (clearEngine e s) = Same m' s' s := Same.eqv (keep_clearEngine e s) h
theorem keep_noteMode (again : Bool) (b : List Byte) (rd : FlashRead) (headerBad : Bool) (s : State) : Same 6658 s (noteMode again b rd headerBad s) := by unfold noteMode; simp (disch := first | decide | (intros; (first | unfold IslSt.fencing | unfold IslSt.stepping | unfold Mgt.quiet | skip); first | rfl | (split <;> rfl)) | (intros; simp (disch := first | decide | (intros; (first | unfold IslSt.fencing | unfold IslSt.stepping | unfold Mgt.quiet | skip); first | rfl | (split <;> rfl))) only [same_refl, same_ite, ite_self, same_up_boot, same_draw, same_when, same_setFlag])) only [same_refl, same_ite, ite_self, same_up_boot, same_draw, same_when, same_setFlag]
theorem same_noteMode {m' : Nat} {s' : State} {again : Bool} {b : List Byte} {rd : FlashRead} {headerBad : Bool} {s : State} (h : m' &&& 6658 = 6658) : Same m' s' (noteMode again b rd headerBad s) = Same m' s' s := Same.eqv (keep_noteMode again b rd headerBad s) h
theorem keep_failIndex (f : ImgFail) (s : State) : Same 2 s (failIndex f s).2 := by unfold failIndex; (try simp (disch := first | decide | (intros; (first | unfold IslSt.fencing | unfold IslSt.stepping | unfold Mgt.quiet | skip); first | rfl | (split <;> rfl)) | (intros; simp (disch := first | decide | (intros; (first | unfold IslSt.fencing | unfold IslSt.stepping | unfold Mgt.quiet | skip); first | rfl | (split <;> rfl))) only [same_refl, same_ite, ite_self, same_draw])) only [same_refl, same_ite, ite_self, same_draw]); repeat' (split <;> try simp (disch := first | decide | (intros; (first | unfold IslSt.fencing | unfold IslSt.stepping | unfold Mgt.quiet | skip); first | rfl | (split <;> rfl)) | (intros; simp (disch := first | decide | (intros; (first | unfold IslSt.fencing | unfold IslSt.stepping | unfold Mgt.quiet | skip); first | rfl | (split <;> rfl))) only [same_refl, same_ite, ite_self, same_draw])) only [same_refl, same_ite, ite_self, same_draw])
theorem same_failIndex {m' : Nat} {s' : State} {f : ImgFail} {s : State} (h : m' &&& 2 = 2) : Same m' s' (failIndex f s).2 = Same m' s' s := Same.eqv (keep_failIndex f s) h
theorem keep_readCopy (again : Bool) (second : Bool) (n : ℕ) (b : List Byte) (rd : FlashRead) (s : State) : Same 39426 s (readCopy again second n b rd s).2.2 := by unfold readCopy; (try simp (disch := first | decide | (intros; (first | unfold IslSt.fencing | unfold IslSt.stepping | unfold Mgt.quiet | skip); first | rfl | (split <;> rfl)) | (intros; simp (disch := first | decide | (intros; (first | unfold IslSt.fencing | unfold IslSt.stepping | unfold Mgt.quiet | skip); first | rfl | (split <;> rfl))) only [same_refl, same_ite, ite_self, same_up_boot, same_noteMode, same_failIndex, same_raise])) only [same_refl, same_ite, ite_self, same_up_boot, same_noteMode, same_failIndex, same_raise]); repeat' (split <;> try simp (disch := first | decide | (intros; (first | unfold IslSt.fencing | unfold IslSt.stepping | unfold Mgt.quiet | skip); first | rfl | (split <;> rfl)) | (intros; simp (disch := first | decide | (intros; (first | unfold IslSt.fencing | unfold IslSt.stepping | unfold Mgt.quiet | skip); first | rfl | (split <;> rfl))) only [same_refl, same_ite, ite_self, same_up_boot, same_noteMode, same_failIndex, same_raise])) only [same_refl, same_ite, ite_self, same_up_boot, same_noteMode, same_failIndex, same_raise])
theorem same_readCopy {m' : Nat} {s' : State} {again : Bool} {second : Bool} {n : ℕ} {b : List Byte} {rd : FlashRead} {s : State} (h : m' &&& 39426 = 39426) : Same m' s' (readCopy again second n b rd s).2.2 = Same m' s' s := Same.eqv (keep_readCopy again second n b rd s) h

end Sys2Proof.Machine
end

