-- ==== Sys2Proof/Laws/FrameFence.lean ====
section
/-! SUPPORT. Which parts of the state each function of Machine/Fence.lean leaves alone, as the bit mask of the others. -/

namespace Sys2Proof.Machine

set_option linter.unusedSimpArgs false
set_option linter.unusedTactic false
set_option linter.unreachableTactic false

theorem keep_mapLeaves (f : Leaf → Leaf) (s : State) : Same 524288 s (mapLeaves f s) := by unfold mapLeaves; simp (disch := decide) only [same_refl, same_ite, ite_self, same_up_leaves]
theorem same_mapLeaves {m' : Nat} {s' : State} {f : Leaf → Leaf} {s : State} (h : m' &&& 524288 = 524288) : Same m' s' (mapLeaves f s) = Same m' s' s := Same.eqv (keep_mapLeaves f s) h
theorem keep_saveCounters (s : State) : Same 33554432 s (saveCounters s) := by unfold saveCounters; simp (disch := first | decide | (intros; (first | unfold IslSt.fencing | unfold IslSt.stepping | unfold Mgt.quiet | skip); first | rfl | (split <;> rfl)) | (intros; simp (disch := first | decide | (intros; (first | unfold IslSt.fencing | unfold IslSt.stepping | unfold Mgt.quiet | skip); first | rfl | (split <;> rfl))) only [same_refl, same_ite, ite_self, same_forAll, same_modSlot])) only [same_refl, same_ite, ite_self, same_forAll, same_modSlot]
theorem same_saveCounters {m' : Nat} {s' : State} {s : State} (h : m' &&& 33554432 = 33554432) : Same m' s' (saveCounters s) = Same m' s' s := Same.eqv (keep_saveCounters s) h
theorem keep_dropUsFlow (s : State) : Same 536870912 s (dropUsFlow s) := by unfold dropUsFlow; simp (disch := first | decide | (intros; (first | unfold IslSt.fencing | unfold IslSt.stepping | unfold Mgt.quiet | skip); first | rfl | (split <;> rfl)) | (intros; simp (disch := first | decide | (intros; (first | unfold IslSt.fencing | unfold IslSt.stepping | unfold Mgt.quiet | skip); first | rfl | (split <;> rfl))) only [same_refl, same_ite, ite_self, same_forAll, same_countCtr])) only [same_refl, same_ite, ite_self, same_forAll, same_countCtr]
theorem same_dropUsFlow {m' : Nat} {s' : State} {s : State} (h : m' &&& 536870912 = 536870912) : Same m' s' (dropUsFlow s) = Same m' s' s := Same.eqv (keep_dropUsFlow s) h
theorem keep_dropDsFlow (s : State) : Same 536870912 s (dropDsFlow s) := by unfold dropDsFlow; simp (disch := first | decide | (intros; (first | unfold IslSt.fencing | unfold IslSt.stepping | unfold Mgt.quiet | skip); first | rfl | (split <;> rfl)) | (intros; simp (disch := first | decide | (intros; (first | unfold IslSt.fencing | unfold IslSt.stepping | unfold Mgt.quiet | skip); first | rfl | (split <;> rfl))) only [same_refl, same_ite, ite_self, same_forAll, same_count])) only [same_refl, same_ite, ite_self, same_forAll, same_count]
theorem same_dropDsFlow {m' : Nat} {s' : State} {s : State} (h : m' &&& 536870912 = 536870912) : Same m' s' (dropDsFlow s) = Same m' s' s := Same.eqv (keep_dropDsFlow s) h
theorem keep_dropFlowQueue (k : ℕ) (s : State) : Same 6291456 s (dropFlowQueue k s) := by unfold dropFlowQueue; simp (disch := first | decide | (intros; (first | unfold IslSt.fencing | unfold IslSt.stepping | unfold Mgt.quiet | skip); first | rfl | (split <;> rfl)) | (intros; simp (disch := first | decide | (intros; (first | unfold IslSt.fencing | unfold IslSt.stepping | unfold Mgt.quiet | skip); first | rfl | (split <;> rfl))) only [same_refl, same_ite, ite_self, same_up_ctrs, same_forAll, same_modFlow])) only [same_refl, same_ite, ite_self, same_up_ctrs, same_forAll, same_modFlow]
theorem same_dropFlowQueue {m' : Nat} {s' : State} {k : ℕ} {s : State} (h : m' &&& 6291456 = 6291456) : Same m' s' (dropFlowQueue k s) = Same m' s' s := Same.eqv (keep_dropFlowQueue k s) h
theorem keep_dropInputs (s : State) : Same 541065216 s (dropInputs s) := by unfold dropInputs; simp (disch := decide) only [same_refl, same_ite, ite_self, same_up_flow, same_dropUsFlow, same_dropDsFlow]
theorem same_dropInputs {m' : Nat} {s' : State} {s : State} (h : m' &&& 541065216 = 541065216) : Same m' s' (dropInputs s) = Same m' s' s := Same.eqv (keep_dropInputs s) h
theorem keep_flushCache (s : State) : Same 71303168 s (flushCache s) := by unfold flushCache; simp (disch := first | decide | (intros; (first | unfold IslSt.fencing | unfold IslSt.stepping | unfold Mgt.quiet | skip); first | rfl | (split <;> rfl)) | (intros; simp (disch := first | decide | (intros; (first | unfold IslSt.fencing | unfold IslSt.stepping | unfold Mgt.quiet | skip); first | rfl | (split <;> rfl))) only [same_refl, same_ite, ite_self, same_up_flow, same_writeBack, same_forAll])) only [same_refl, same_ite, ite_self, same_up_flow, same_writeBack, same_forAll]
theorem same_flushCache {m' : Nat} {s' : State} {s : State} (h : m' &&& 71303168 = 71303168) : Same m' s' (flushCache s) = Same m' s' s := Same.eqv (keep_flushCache s) h
theorem keep_emptyFlow (s : State) : Same 610271232 s (emptyFlow s) := by unfold emptyFlow; simp (disch := first | decide | (intros; (first | unfold IslSt.fencing | unfold IslSt.stepping | unfold Mgt.quiet | skip); first | rfl | (split <;> rfl)) | (intros; simp (disch := first | decide | (intros; (first | unfold IslSt.fencing | unfold IslSt.stepping | unfold Mgt.quiet | skip); first | rfl | (split <;> rfl))) only [same_refl, same_ite, ite_self, same_up_flow, same_endMove, same_forAll, same_modFlow, same_dropFlowQueue, same_flushCache, same_dropUsFlow, same_dropDsFlow])) only [same_refl, same_ite, ite_self, same_up_flow, same_endMove, same_forAll, same_modFlow, same_dropFlowQueue, same_flushCache, same_dropUsFlow, same_dropDsFlow]
theorem same_emptyFlow {m' : Nat} {s' : State} {s : State} (h : m' &&& 610271232 = 610271232) : Same m' s' (emptyFlow s) = Same m' s' s := Same.eqv (keep_emptyFlow s) h
theorem keep_onQuiesce (i : Isl) (s : State) : Same 537067536 s (onQuiesce i s) := by unfold onQuiesce; (try simp (disch := decide) only [same_refl, same_ite, ite_self, same_up_pwr, same_calAbandon]); repeat' (split <;> try simp (disch := decide) only [same_refl, same_ite, ite_self, same_up_pwr, same_calAbandon])
theorem same_onQuiesce {m' : Nat} {s' : State} {i : Isl} {s : State} (h : m' &&& 537067536 = 537067536) : Same m' s' (onQuiesce i s) = Same m' s' s := Same.eqv (keep_onQuiesce i s) h
theorem keep_onDrain (i : Isl) (hard : Bool) (s : State) : Same 558366720 s (onDrain i hard s) := by unfold onDrain; (try simp (disch := first | decide | (intros; (first | unfold IslSt.fencing | unfold IslSt.stepping | unfold Mgt.quiet | skip); first | rfl | (split <;> rfl)) | (intros; simp (disch := first | decide | (intros; (first | unfold IslSt.fencing | unfold IslSt.stepping | unfold Mgt.quiet | skip); first | rfl | (split <;> rfl))) only [same_refl, same_ite, ite_self, same_dropInputs, same_dropHeld, same_when, same_mapLeaves, same_noteFenced])) only [same_refl, same_ite, ite_self, same_dropInputs, same_dropHeld, same_when, same_mapLeaves, same_noteFenced]); repeat' (split <;> try simp (disch := first | decide | (intros; (first | unfold IslSt.fencing | unfold IslSt.stepping | unfold Mgt.quiet | skip); first | rfl | (split <;> rfl)) | (intros; simp (disch := first | decide | (intros; (first | unfold IslSt.fencing | unfold IslSt.stepping | unfold Mgt.quiet | skip); first | rfl | (split <;> rfl))) only [same_refl, same_ite, ite_self, same_dropInputs, same_dropHeld, same_when, same_mapLeaves, same_noteFenced])) only [same_refl, same_ite, ite_self, same_dropInputs, same_dropHeld, same_when, same_mapLeaves, same_noteFenced])
theorem same_onDrain {m' : Nat} {s' : State} {i : Isl} {hard : Bool} {s : State} (h : m' &&& 558366720 = 558366720) : Same m' s' (onDrain i hard s) = Same m' s' s := Same.eqv (keep_onDrain i hard s) h
theorem keep_onFenced (i : Isl) (hard : Bool) (s : State) : Same 610271232 s (onFenced i hard s) := by unfold onFenced; (try simp (disch := first | decide | (intros; (first | unfold IslSt.fencing | unfold IslSt.stepping | unfold Mgt.quiet | skip); first | rfl | (split <;> rfl)) | (intros; simp (disch := first | decide | (intros; (first | unfold IslSt.fencing | unfold IslSt.stepping | unfold Mgt.quiet | skip); first | rfl | (split <;> rfl))) only [same_refl, same_ite, ite_self, same_emptyFlow, same_when])) only [same_refl, same_ite, ite_self, same_emptyFlow, same_when]); repeat' (split <;> try simp (disch := first | decide | (intros; (first | unfold IslSt.fencing | unfold IslSt.stepping | unfold Mgt.quiet | skip); first | rfl | (split <;> rfl)) | (intros; simp (disch := first | decide | (intros; (first | unfold IslSt.fencing | unfold IslSt.stepping | unfold Mgt.quiet | skip); first | rfl | (split <;> rfl))) only [same_refl, same_ite, ite_self, same_emptyFlow, same_when])) only [same_refl, same_ite, ite_self, same_emptyFlow, same_when])
theorem same_onFenced {m' : Nat} {s' : State} {i : Isl} {hard : Bool} {s : State} (h : m' &&& 610271232 = 610271232) : Same m' s' (onFenced i hard s) = Same m' s' s := Same.eqv (keep_onFenced i hard s) h
theorem keep_onReset (i : Isl) (hard : Bool) (s : State) : Same 570425344 s (onReset i hard s) := by unfold onReset; simp (disch := first | decide | (intros; (first | unfold IslSt.fencing | unfold IslSt.stepping | unfold Mgt.quiet | skip); first | rfl | (split <;> rfl)) | (intros; simp (disch := first | decide | (intros; (first | unfold IslSt.fencing | unfold IslSt.stepping | unfold Mgt.quiet | skip); first | rfl | (split <;> rfl))) only [same_refl, same_ite, ite_self, same_up_tally, same_saveCounters, same_when])) only [same_refl, same_ite, ite_self, same_up_tally, same_saveCounters, same_when]
theorem same_onReset {m' : Nat} {s' : State} {i : Isl} {hard : Bool} {s : State} (h : m' &&& 570425344 = 570425344) : Same m' s' (onReset i hard s) = Same m' s' s := Same.eqv (keep_onReset i hard s) h
theorem keep_portsWait (s : State) : Same 553703424 s (portsWait s) := by unfold portsWait; simp (disch := first | decide | (intros; (first | unfold IslSt.fencing | unfold IslSt.stepping | unfold Mgt.quiet | skip); first | rfl | (split <;> rfl)) | (intros; simp (disch := first | decide | (intros; (first | unfold IslSt.fencing | unfold IslSt.stepping | unfold Mgt.quiet | skip); first | rfl | (split <;> rfl))) only [same_refl, same_ite, ite_self, same_forAll, same_toWaitRef, same_leaveUp])) only [same_refl, same_ite, ite_self, same_forAll, same_toWaitRef, same_leaveUp]
theorem same_portsWait {m' : Nat} {s' : State} {s : State} (h : m' &&& 553703424 = 553703424) : Same m' s' (portsWait s) = Same m' s' s := Same.eqv (keep_portsWait s) h
theorem keep_resumeTimers (i : Isl) (s : State) : Same 196608 s (resumeTimers i s) := by unfold resumeTimers; (try simp (disch := first | decide | (intros; (first | unfold IslSt.fencing | unfold IslSt.stepping | unfold Mgt.quiet | skip); first | rfl | (split <;> rfl)) | (intros; simp (disch := first | decide | (intros; (first | unfold IslSt.fencing | unfold IslSt.stepping | unfold Mgt.quiet | skip); first | rfl | (split <;> rfl))) only [same_refl, same_ite, ite_self, same_modEng_st, same_modEng, same_modCal])) only [same_refl, same_ite, ite_self, same_modEng_st, same_modEng, same_modCal]); repeat' (split <;> try simp (disch := first | decide | (intros; (first | unfold IslSt.fencing | unfold IslSt.stepping | unfold Mgt.quiet | skip); first | rfl | (split <;> rfl)) | (intros; simp (disch := first | decide | (intros; (first | unfold IslSt.fencing | unfold IslSt.stepping | unfold Mgt.quiet | skip); first | rfl | (split <;> rfl))) only [same_refl, same_ite, ite_self, same_modEng_st, same_modEng, same_modCal])) only [same_refl, same_ite, ite_self, same_modEng_st, same_modEng, same_modCal])
theorem same_resumeTimers {m' : Nat} {s' : State} {i : Isl} {s : State} (h : m' &&& 196608 = 196608) : Same m' s' (resumeTimers i s) = Same m' s' s := Same.eqv (keep_resumeTimers i s) h
theorem keep_servoTimer (s : State) : Same 8388608 s (servoTimer s) := by unfold servoTimer; simp (disch := decide) only [same_refl, same_ite, ite_self, same_up_tod]
theorem same_servoTimer {m' : Nat} {s' : State} {s : State} (h : m' &&& 8388608 = 8388608) : Same m' s' (servoTimer s) = Same m' s' s := Same.eqv (keep_servoTimer s) h
theorem keep_onRun (i : Isl) (hard : Bool) (s : State) : Same 600561680 s (onRun i hard s) := by unfold onRun; (try simp (disch := first | decide | (intros; (first | unfold IslSt.fencing | unfold IslSt.stepping | unfold Mgt.quiet | skip); first | rfl | (split <;> rfl)) | (intros; simp (disch := first | decide | (intros; (first | unfold IslSt.fencing | unfold IslSt.stepping | unfold Mgt.quiet | skip); first | rfl | (split <;> rfl))) only [same_refl, same_ite, ite_self, same_up_tod, same_up_pwr, same_resumeTimers, same_when, same_portsWait, same_servoTimer, same_dropMaster, same_todMove, same_reseedLanes, same_crypResume, same_retryHeld, same_serveDeferred])) only [same_refl, same_ite, ite_self, same_up_tod, same_up_pwr, same_resumeTimers, same_when, same_portsWait, same_servoTimer, same_dropMaster, same_todMove, same_reseedLanes, same_crypResume, same_retryHeld, same_serveDeferred]); repeat' (split <;> try simp (disch := first | decide | (intros; (first | unfold IslSt.fencing | unfold IslSt.stepping | unfold Mgt.quiet | skip); first | rfl | (split <;> rfl)) | (intros; simp (disch := first | decide | (intros; (first | unfold IslSt.fencing | unfold IslSt.stepping | unfold Mgt.quiet | skip); first | rfl | (split <;> rfl))) only [same_refl, same_ite, ite_self, same_up_tod, same_up_pwr, same_resumeTimers, same_when, same_portsWait, same_servoTimer, same_dropMaster, same_todMove, same_reseedLanes, same_crypResume, same_retryHeld, same_serveDeferred])) only [same_refl, same_ite, ite_self, same_up_tod, same_up_pwr, same_resumeTimers, same_when, same_portsWait, same_servoTimer, same_dropMaster, same_todMove, same_reseedLanes, same_crypResume, same_retryHeld, same_serveDeferred])
theorem same_onRun {m' : Nat} {s' : State} {i : Isl} {hard : Bool} {s : State} (h : m' &&& 600561680 = 600561680) : Same m' s' (onRun i hard s) = Same m' s' s := Same.eqv (keep_onRun i hard s) h
theorem keep_enterQuiesce (i : Isl) (hard : Bool) (cause : FenceCause) (s : State) : Same 2684583952 s (enterQuiesce i hard cause s) := by unfold enterQuiesce; simp (disch := first | decide | (intros; (first | unfold IslSt.fencing | unfold IslSt.stepping | unfold Mgt.quiet | skip); first | rfl | (split <;> rfl)) | (intros; simp (disch := first | decide | (intros; (first | unfold IslSt.fencing | unfold IslSt.stepping | unfold Mgt.quiet | skip); first | rfl | (split <;> rfl))) only [same_refl, same_ite, ite_self, same_modIsl_all, same_modIsl_fences, same_modIsl_steps, same_modIsl_incarn, same_modIsl, same_count, same_onQuiesce])) only [same_refl, same_ite, ite_self, same_modIsl_all, same_modIsl_fences, same_modIsl_steps, same_modIsl_incarn, same_modIsl, same_count, same_onQuiesce]
theorem same_enterQuiesce {m' : Nat} {s' : State} {i : Isl} {hard : Bool} {cause : FenceCause} {s : State} (h : m' &&& 2684583952 = 2684583952) : Same m' s' (enterQuiesce i hard cause s) = Same m' s' s := Same.eqv (keep_enterQuiesce i hard cause s) h
theorem keep_enterFence (f : Fence) (i : Isl) (s : State) : Same 2817251344 s (enterFence f i s) := by unfold enterFence; (try simp (disch := first | decide | (intros; (first | unfold IslSt.fencing | unfold IslSt.stepping | unfold Mgt.quiet | skip); first | rfl | (split <;> rfl)) | (intros; simp (disch := first | decide | (intros; (first | unfold IslSt.fencing | unfold IslSt.stepping | unfold Mgt.quiet | skip); first | rfl | (split <;> rfl))) only [same_refl, same_ite, ite_self, same_modIsl_all, same_modIsl_fences, same_modIsl_steps, same_modIsl_incarn, same_modIsl, same_onRun, same_onReset, same_onFenced, same_onDrain])) only [same_refl, same_ite, ite_self, same_modIsl_all, same_modIsl_fences, same_modIsl_steps, same_modIsl_incarn, same_modIsl, same_onRun, same_onReset, same_onFenced, same_onDrain]); repeat' (split <;> try simp (disch := first | decide | (intros; (first | unfold IslSt.fencing | unfold IslSt.stepping | unfold Mgt.quiet | skip); first | rfl | (split <;> rfl)) | (intros; simp (disch := first | decide | (intros; (first | unfold IslSt.fencing | unfold IslSt.stepping | unfold Mgt.quiet | skip); first | rfl | (split <;> rfl))) only [same_refl, same_ite, ite_self, same_modIsl_all, same_modIsl_fences, same_modIsl_steps, same_modIsl_incarn, same_modIsl, same_onRun, same_onReset, same_onFenced, same_onDrain])) only [same_refl, same_ite, ite_self, same_modIsl_all, same_modIsl_fences, same_modIsl_steps, same_modIsl_incarn, same_modIsl, same_onRun, same_onReset, same_onFenced, same_onDrain])
theorem same_enterFence {m' : Nat} {s' : State} {f : Fence} {i : Isl} {s : State} (h : m' &&& 2817251344 = 2817251344) : Same m' s' (enterFence f i s) = Same m' s' s := Same.eqv (keep_enterFence f i s) h
theorem keep_moveFence (f : Fence) (i : Isl) (s : State) : Same 2818570256 s (moveFence f i s) := by unfold moveFence; simp (disch := first | decide | (intros; (first | unfold IslSt.fencing | unfold IslSt.stepping | unfold Mgt.quiet | skip); first | rfl | (split <;> rfl)) | (intros; simp (disch := first | decide | (intros; (first | unfold IslSt.fencing | unfold IslSt.stepping | unfold Mgt.quiet | skip); first | rfl | (split <;> rfl))) only [same_refl, same_ite, ite_self, same_apsUpdate, same_enterFence, same_forAll])) only [same_refl, same_ite, ite_self, same_apsUpdate, same_enterFence, same_forAll]
theorem same_moveFence {m' : Nat} {s' : State} {f : Fence} {i : Isl} {s : State} (h : m' &&& 2818570256 = 2818570256) : Same m' s' (moveFence f i s) = Same m' s' s := Same.eqv (keep_moveFence f i s) h
theorem keep_execFenceNoticeAcked (i : Isl) (s : State) {t' : State} (h : execFenceNoticeAcked i s = .next t') : Same 2818570256 s t' := by unfold execFenceNoticeAcked at h; (try simp only [act, actF] at h); cases h; simp (disch := decide) only [same_refl, same_ite, ite_self, same_moveFence]
theorem keep_execIslandDrained (i : Isl) (s : State) {t' : State} (h : execIslandDrained i s = .next t') : Same 2818570256 s t' := by unfold execIslandDrained at h; (try simp only [act, actF] at h); cases h; simp (disch := decide) only [same_refl, same_ite, ite_self, same_moveFence]
theorem keep_execDrainTimeout (i : Isl) (s : State) {t' : State} (h : execDrainTimeout i s = .next t') : Same 2818570258 s t' := by unfold execDrainTimeout at h; (try simp only [act, actF] at h); cases h; simp (disch := first | decide | (intros; (first | unfold IslSt.fencing | unfold IslSt.stepping | unfold Mgt.quiet | skip); first | rfl | (split <;> rfl)) | (intros; simp (disch := first | decide | (intros; (first | unfold IslSt.fencing | unfold IslSt.stepping | unfold Mgt.quiet | skip); first | rfl | (split <;> rfl))) only [same_refl, same_ite, ite_self, same_staleReplies, same_draw, same_forAll, same_moveFence])) only [same_refl, same_ite, ite_self, same_staleReplies, same_draw, same_forAll, same_moveFence]
theorem keep_resumeEvent (i : Isl) (old : ℕ) (s : State) : Same 38912 s (resumeEvent i old s) := by unfold resumeEvent; simp (disch := decide) only [same_refl, same_ite, ite_self, same_raiseF]
theorem same_resumeEvent {m' : Nat} {s' : State} {i : Isl} {old : ℕ} {s : State} (h : m' &&& 38912 = 38912) : Same m' s' (resumeEvent i old s) = Same m' s' s := Same.eqv (keep_resumeEvent i old s) h
theorem keep_enterRun (i : Isl) (s : State) : Same 37176997904 s (enterRun i s) := by unfold enterRun; (try dsimp only); repeat' (first | with_reducible exact (same_refl _ _).mpr trivial | refine (same_rerangeDues (by decide)).mpr ?_ | refine (same_resumeEvent (by decide)).mpr ?_ | refine (same_enterFence (by decide)).mpr ?_ | refine (same_modIsl_all (by decide) (by intros; rfl)).mpr ?_ | refine (same_modIsl_fences (by decide) (by intros; rfl)).mpr ?_ | refine (same_modIsl_steps (by decide) (by intros; rfl)).mpr ?_ | refine (same_modIsl_incarn (by decide) (by intros; rfl)).mpr ?_ | refine (same_when (fun _ => ?_)).mpr ?_ | refine (same_forAll (fun _ _ => ?_)).mpr ?_ | split)
theorem same_enterRun {m' : Nat} {s' : State} {i : Isl} {s : State} (h : m' &&& 37176997904 = 37176997904) : Same m' s' (enterRun i s) = Same m' s' s := Same.eqv (keep_enterRun i s) h
theorem keep_runFence (i : Isl) (s : State) : Same 37178308624 s (runFence i s) := by unfold runFence; simp (disch := first | decide | (intros; (first | unfold IslSt.fencing | unfold IslSt.stepping | unfold Mgt.quiet | skip); first | rfl | (split <;> rfl)) | (intros; simp (disch := first | decide | (intros; (first | unfold IslSt.fencing | unfold IslSt.stepping | unfold Mgt.quiet | skip); first | rfl | (split <;> rfl))) only [same_refl, same_ite, ite_self, same_apsUpdate, same_enterRun, same_forAll])) only [same_refl, same_ite, ite_self, same_apsUpdate, same_enterRun, same_forAll]
theorem same_runFence {m' : Nat} {s' : State} {i : Isl} {s : State} (h : m' &&& 37178308624 = 37178308624) : Same m' s' (runFence i s) = Same m' s' s := Same.eqv (keep_runFence i s) h
theorem keep_writeIslCmd (i : Isl) (v : W32) (s : State) : Same 2685902864 s (writeIslCmd i v s).1 := by unfold writeIslCmd; simp (disch := first | decide | (intros; (first | unfold IslSt.fencing | unfold IslSt.stepping | unfold Mgt.quiet | skip); first | rfl | (split <;> rfl)) | (intros; simp (disch := first | decide | (intros; (first | unfold IslSt.fencing | unfold IslSt.stepping | unfold Mgt.quiet | skip); first | rfl | (split <;> rfl))) only [same_refl, same_ite, ite_self, same_apsUpdate, same_enterQuiesce, same_refuseOr])) only [same_refl, same_ite, ite_self, same_apsUpdate, same_enterQuiesce, same_refuseOr]
theorem same_writeIslCmd {m' : Nat} {s' : State} {i : Isl} {v : W32} {s : State} (h : m' &&& 2685902864 = 2685902864) : Same m' s' (writeIslCmd i v s).1 = Same m' s' s := Same.eqv (keep_writeIslCmd i v s) h
theorem keep_execIslandSoftRestartCmd (i : Isl) (s : State) {t' : State} (h : execIslandSoftRestartCmd i s = .next t') : Same 2685902868 s t' := by unfold execIslandSoftRestartCmd at h; (try simp only [act, actF] at h); cases h; simp (disch := decide) only [same_refl, same_ite, ite_self, same_writeIslCmd, same_setStatus]
theorem keep_execIslandHardResetCmd (i : Isl) (s : State) {t' : State} (h : execIslandHardResetCmd i s = .next t') : Same 2685902868 s t' := by unfold execIslandHardResetCmd at h; (try simp only [act, actF] at h); cases h; simp (disch := decide) only [same_refl, same_ite, ite_self, same_writeIslCmd, same_setStatus]

end Sys2Proof.Machine
end

