-- ==== Sys2Proof/Laws/FrameEngines.lean ====
section
/-! SUPPORT. Which parts of the state each function of Machine/Engines.lean leaves alone, as the bit mask of the others. -/

namespace Sys2Proof.Machine

set_option linter.unusedSimpArgs false
set_option linter.unusedTactic false
set_option linter.unreachableTactic false

theorem keep_setEngErr (e : Eng) (c : ℕ) (s : State) : Same 512 s (setEngErr e c s) := by unfold setEngErr; (try simp (disch := first | decide | (intros; (first | unfold IslSt.fencing | unfold IslSt.stepping | unfold Mgt.quiet | skip); first | rfl | (split <;> rfl)) | (intros; simp (disch := first | decide | (intros; (first | unfold IslSt.fencing | unfold IslSt.stepping | unfold Mgt.quiet | skip); first | rfl | (split <;> rfl))) only [same_refl, same_ite, ite_self, same_up_boot])) only [same_refl, same_ite, ite_self, same_up_boot]); repeat' (split <;> try simp (disch := first | decide | (intros; (first | unfold IslSt.fencing | unfold IslSt.stepping | unfold Mgt.quiet | skip); first | rfl | (split <;> rfl)) | (intros; simp (disch := first | decide | (intros; (first | unfold IslSt.fencing | unfold IslSt.stepping | unfold Mgt.quiet | skip); first | rfl | (split <;> rfl))) only [same_refl, same_ite, ite_self, same_up_boot])) only [same_refl, same_ite, ite_self, same_up_boot])
theorem same_setEngErr {m' : Nat} {s' : State} {e : Eng} {c : ℕ} {s : State} (h : m' &&& 512 = 512) : Same m' s' (setEngErr e c s) = Same m' s' s := Same.eqv (keep_setEngErr e c s) h
theorem keep_beginPhase (n : ℕ) (s : State) : Same 512 s (beginPhase n s) := by unfold beginPhase; simp (disch := decide) only [same_refl, same_ite, ite_self, same_up_boot]
theorem same_beginPhase {m' : Nat} {s' : State} {n : ℕ} {s : State} (h : m' &&& 512 = 512) : Same m' s' (beginPhase n s) = Same m' s' s := Same.eqv (keep_beginPhase n s) h
theorem keep_engChanged (s : State) : Same 544733826 s (engChanged s) := by unfold engChanged; simp (disch := first | decide | (intros; (first | unfold IslSt.fencing | unfold IslSt.stepping | unfold Mgt.quiet | skip); first | rfl | (split <;> rfl)) | (intros; simp (disch := first | decide | (intros; (first | unfold IslSt.fencing | unfold IslSt.stepping | unfold Mgt.quiet | skip); first | rfl | (split <;> rfl))) only [same_refl, same_ite, ite_self, same_apsUpdate, same_engTry, same_forAll, same_trafficUpdate])) only [same_refl, same_ite, ite_self, same_apsUpdate, same_engTry, same_forAll, same_trafficUpdate]
theorem same_engChanged {m' : Nat} {s' : State} {s : State} (h : m' &&& 544733826 = 544733826) : Same m' s' (engChanged s) = Same m' s' s := Same.eqv (keep_engChanged s) h
theorem keep_engFailEvent (e : Eng) (left : ℕ) (code : ℕ) (s : State) : Same 38912 s (engFailEvent e left code s) := by unfold engFailEvent; simp (disch := decide) only [same_refl, same_ite, ite_self, same_raiseF]
theorem same_engFailEvent {m' : Nat} {s' : State} {e : Eng} {left : ℕ} {code : ℕ} {s : State} (h : m' &&& 38912 = 38912) : Same m' s' (engFailEvent e left code s) = Same m' s' s := Same.eqv (keep_engFailEvent e left code s) h
theorem keep_opticsOff (e : Eng) (s : State) : Same 196608 s (opticsOff e s) := by unfold opticsOff; simp (disch := decide) only [same_refl, same_ite, ite_self, same_modDown]
theorem same_opticsOff {m' : Nat} {s' : State} {e : Eng} {s : State} (h : m' &&& 196608 = 196608) : Same m' s' (opticsOff e s) = Same m' s' s := Same.eqv (keep_opticsOff e s) h
theorem keep_engFail (e : Eng) (code : ℕ) (s : State) : Same 9134668418 s (engFail e code s) := by unfold engFail; simp (disch := first | decide | (intros; (first | unfold IslSt.fencing | unfold IslSt.stepping | unfold Mgt.quiet | skip); first | rfl | (split <;> rfl)) | (intros; simp (disch := first | decide | (intros; (first | unfold IslSt.fencing | unfold IslSt.stepping | unfold Mgt.quiet | skip); first | rfl | (split <;> rfl))) only [same_refl, same_ite, ite_self, same_modEng_st, same_modEng, same_engChanged, same_calAbandon, same_rampTxOff, same_opticsOff, same_setEngErr, same_engFailEvent])) only [same_refl, same_ite, ite_self, same_modEng_st, same_modEng, same_engChanged, same_calAbandon, same_rampTxOff, same_opticsOff, same_setEngErr, same_engFailEvent]
theorem same_engFail {m' : Nat} {s' : State} {e : Eng} {code : ℕ} {s : State} (h : m' &&& 9134668418 = 9134668418) : Same m' s' (engFail e code s) = Same m' s' s := Same.eqv (keep_engFail e code s) h
theorem keep_engTune (e : Eng) (s : State) : Same 8590131200 s (engTune e s) := by unfold engTune; simp (disch := decide) only [same_refl, same_ite, ite_self, same_modEng_st, same_modEng]
theorem same_engTune {m' : Nat} {s' : State} {e : Eng} {s : State} (h : m' &&& 8590131200 = 8590131200) : Same m' s' (engTune e s) = Same m' s' s := Same.eqv (keep_engTune e s) h
theorem keep_engCalibrated (e : Eng) (s : State) : Same 9134668418 s (engCalibrated e s) := by unfold engCalibrated; simp (disch := first | decide | (intros; (first | unfold IslSt.fencing | unfold IslSt.stepping | unfold Mgt.quiet | skip); first | rfl | (split <;> rfl)) | (intros; simp (disch := first | decide | (intros; (first | unfold IslSt.fencing | unfold IslSt.stepping | unfold Mgt.quiet | skip); first | rfl | (split <;> rfl))) only [same_refl, same_ite, ite_self, same_up_aps, same_modEng_st, same_modEng, same_beginPhase, same_engChanged, same_takeMsgs])) only [same_refl, same_ite, ite_self, same_up_aps, same_modEng_st, same_modEng, same_beginPhase, same_engChanged, same_takeMsgs]
theorem same_engCalibrated {m' : Nat} {s' : State} {e : Eng} {s : State} (h : m' &&& 9134668418 = 9134668418) : Same m' s' (engCalibrated e s) = Same m' s' s := Same.eqv (keep_engCalibrated e s) h
theorem keep_engReset (e : Eng) (s : State) : Same 1245184 s (engReset e s) := by unfold engReset; simp (disch := first | decide | (intros; (first | unfold IslSt.fencing | unfold IslSt.stepping | unfold Mgt.quiet | skip); first | rfl | (split <;> rfl)) | (intros; simp (disch := first | decide | (intros; (first | unfold IslSt.fencing | unfold IslSt.stepping | unfold Mgt.quiet | skip); first | rfl | (split <;> rfl))) only [same_refl, same_ite, ite_self, same_up_ssets, same_modEng_st, same_modEng])) only [same_refl, same_ite, ite_self, same_up_ssets, same_modEng_st, same_modEng]
theorem same_engReset {m' : Nat} {s' : State} {e : Eng} {s : State} (h : m' &&& 1245184 = 1245184) : Same m' s' (engReset e s) = Same m' s' s := Same.eqv (keep_engReset e s) h
theorem keep_acceptedEvent (p : CopyPos) (m : Image) (n : ℕ) (s : State) : Same 38912 s (acceptedEvent p m n s) := by unfold acceptedEvent; simp (disch := first | decide | (intros; (first | unfold IslSt.fencing | unfold IslSt.stepping | unfold Mgt.quiet | skip); first | rfl | (split <;> rfl)) | (intros; simp (disch := first | decide | (intros; (first | unfold IslSt.fencing | unfold IslSt.stepping | unfold Mgt.quiet | skip); first | rfl | (split <;> rfl))) only [same_refl, same_ite, ite_self, same_raise, same_when, same_setFlag])) only [same_refl, same_ite, ite_self, same_raise, same_when, same_setFlag]
theorem same_acceptedEvent {m' : Nat} {s' : State} {p : CopyPos} {m : Image} {n : ℕ} {s : State} (h : m' &&& 38912 = 38912) : Same m' s' (acceptedEvent p m n s) = Same m' s' s := Same.eqv (keep_acceptedEvent p m n s) h
theorem keep_rereadImage : ∀ (l : List (List Byte × FlashRead)) (n : Nat) (p : CopyPos) (s : State), Same 39426 s (rereadImage n p l s).2
  | [], _, _, _ => (same_refl _ _).mpr trivial
  | (b, rd) :: rest, n, p, s => by
    have hr : Same 39426 s (readCopy p.again p.second n b rd s).2.2 := (same_readCopy (by decide)).mpr ((same_refl _ _).mpr trivial)
    unfold rereadImage; dsimp only; split
    · exact (same_acceptedEvent (by decide)).mpr hr
    · split
      · exact hr
      · refine Same.trans ?_ (keep_rereadImage rest _ _ _)
        rw [same_when (fun u => (same_setFlag (by decide)).mpr ((same_refl _ u).mpr trivial))]; exact hr

theorem same_rereadImage {m' : Nat} {s' : State} {n : Nat} {p : CopyPos} {l : List (List Byte × FlashRead)} {s : State} (h : m' &&& 39426 = 39426) : Same m' s' (rereadImage n p l s).2 = Same m' s' s := Same.eqv (keep_rereadImage l n p s) h
theorem keep_tryRecs (es : List Eng) (whole : Bool) (shared : State → State) (rs : List ImgRec) (s : State) {m : Nat} (hm : m &&& 540738560 = 540738560)
    (hs : ∀ t, Same m t (shared t)) : Same m s (tryRecs es whole shared rs s) := by
  unfold tryRecs
  refine Same.trans ((same_forAll fun e t => ?_).mpr ((same_refl _ _).mpr trivial)) (hs _)
  have h1 : Same m t (modEng e (fun x => { x with illegal := ! engineRecsOk rs e }) t) :=
    (same_modEng_st (f := fun x => { x with illegal := ! engineRecsOk rs e }) (sub_trans hm (by decide)) (fun _ => rfl)).mpr ((same_refl _ _).mpr trivial)
  dsimp only
  split
  · exact (same_loadEngine (sub_trans hm (by decide))).mpr h1
  · exact h1

theorem same_tryRecs {m' : Nat} {s' : State} {es : List Eng} {whole : Bool} {shared : State → State} {rs : List ImgRec} {s : State} (h : m' &&& 540738560 = 540738560)
    (hs : ∀ t, Same m' t (shared t)) : Same m' s' (tryRecs es whole shared rs s) = Same m' s' s :=
  (keep_tryRecs es whole shared rs s h hs).eqv (Nat.and_self m')

theorem keep_takeRecs (es : List Eng) (whole : Bool) (shared : State → State) (rs : List ImgRec) (s : State) {m : Nat} (hm : m &&& 540738560 = 540738560)
    (hs : ∀ t, Same m t (shared t)) : Same m s (takeRecs es whole shared rs s) := by
  unfold takeRecs
  refine Same.trans ((same_forAll fun e t => ?_).mpr ((same_refl _ _).mpr trivial)) (hs _)
  have h1 : ∀ b, Same m t (modEng e (fun x => { x with illegal := b }) t) := fun b =>
    (same_modEng_st (f := fun x => { x with illegal := b }) (sub_trans hm (by decide)) (fun _ => rfl)).mpr ((same_refl _ _).mpr trivial)
  split
  · exact (same_refl _ _).mpr trivial
  · split
    · exact (same_loadEngine (sub_trans hm (by decide))).mpr (h1 _)
    · exact h1 _

theorem same_takeRecs {m' : Nat} {s' : State} {es : List Eng} {whole : Bool} {shared : State → State} {rs : List ImgRec} {s : State} (h : m' &&& 540738560 = 540738560)
    (hs : ∀ t, Same m' t (shared t)) : Same m' s' (takeRecs es whole shared rs s) = Same m' s' s :=
  (keep_takeRecs es whole shared rs s h hs).eqv (Nat.and_self m')

theorem keep_judgeAgain (es : List Eng) (rs : List ImgRec) (s : State) : Same 196608 s (judgeAgain es rs s) := by unfold judgeAgain; simp (disch := first | decide | (intros; (first | unfold IslSt.fencing | unfold IslSt.stepping | unfold Mgt.quiet | skip); first | rfl | (split <;> rfl)) | (intros; simp (disch := first | decide | (intros; (first | unfold IslSt.fencing | unfold IslSt.stepping | unfold Mgt.quiet | skip); first | rfl | (split <;> rfl))) only [same_refl, same_ite, ite_self, same_modEng_st, same_modEng, same_forAll])) only [same_refl, same_ite, ite_self, same_modEng_st, same_modEng, same_forAll]
theorem same_judgeAgain {m' : Nat} {s' : State} {es : List Eng} {rs : List ImgRec} {s : State} (h : m' &&& 196608 = 196608) : Same m' s' (judgeAgain es rs s) = Same m' s' s := Same.eqv (keep_judgeAgain es rs s) h
theorem keep_dropSeeds (e : Eng) (s : State) : Same 524288 s (dropSeeds e s) := by unfold dropSeeds; simp (disch := decide) only [same_refl, same_ite, ite_self, same_up_leaves]
theorem same_dropSeeds {m' : Nat} {s' : State} {e : Eng} {s : State} (h : m' &&& 524288 = 524288) : Same m' s' (dropSeeds e s) = Same m' s' s := Same.eqv (keep_dropSeeds e s) h
theorem keep_rereadJudged (e : Eng) (reads : List (List Byte × FlashRead)) (s : State) : Same 540777986 s (rereadJudged e reads s) := by unfold rereadJudged; (try simp (disch := first | decide | (intros; (first | unfold IslSt.fencing | unfold IslSt.stepping | unfold Mgt.quiet | skip); first | rfl | (split <;> rfl)) | (intros; simp (disch := first | decide | (intros; (first | unfold IslSt.fencing | unfold IslSt.stepping | unfold Mgt.quiet | skip); first | rfl | (split <;> rfl)) | (intros; simp (disch := first | decide | (intros; (first | unfold IslSt.fencing | unfold IslSt.stepping | unfold Mgt.quiet | skip); first | rfl | (split <;> rfl))) only [same_refl, same_ite, ite_self, same_up_boot, same_dropSeeds, same_clearEngine, same_loadPairRestart, same_takeRecs, same_judgeAgain, same_rereadImage])) only [same_refl, same_ite, ite_self, same_up_boot, same_dropSeeds, same_clearEngine, same_loadPairRestart, same_takeRecs, same_judgeAgain, same_rereadImage])) only [same_refl, same_ite, ite_self, same_up_boot, same_dropSeeds, same_clearEngine, same_loadPairRestart, same_takeRecs, same_judgeAgain, same_rereadImage]); repeat' (split <;> try simp (disch := first | decide | (intros; (first | unfold IslSt.fencing | unfold IslSt.stepping | unfold Mgt.quiet | skip); first | rfl | (split <;> rfl)) | (intros; simp (disch := first | decide | (intros; (first | unfold IslSt.fencing | unfold IslSt.stepping | unfold Mgt.quiet | skip); first | rfl | (split <;> rfl)) | (intros; simp (disch := first | decide | (intros; (first | unfold IslSt.fencing | unfold IslSt.stepping | unfold Mgt.quiet | skip); first | rfl | (split <;> rfl))) only [same_refl, same_ite, ite_self, same_up_boot, same_dropSeeds, same_clearEngine, same_loadPairRestart, same_takeRecs, same_judgeAgain, same_rereadImage])) only [same_refl, same_ite, ite_self, same_up_boot, same_dropSeeds, same_clearEngine, same_loadPairRestart, same_takeRecs, same_judgeAgain, same_rereadImage])) only [same_refl, same_ite, ite_self, same_up_boot, same_dropSeeds, same_clearEngine, same_loadPairRestart, same_takeRecs, same_judgeAgain, same_rereadImage])
theorem same_rereadJudged {m' : Nat} {s' : State} {e : Eng} {reads : List (List Byte × FlashRead)} {s : State} (h : m' &&& 540777986 = 540777986) : Same m' s' (rereadJudged e reads s) = Same m' s' s := Same.eqv (keep_rereadJudged e reads s) h
theorem keep_rereadDone (e : Eng) (reads : List (List Byte × FlashRead)) (s : State) : Same 9135193730 s (rereadDone e reads s) := by unfold rereadDone; (try simp (disch := first | decide | (intros; (first | unfold IslSt.fencing | unfold IslSt.stepping | unfold Mgt.quiet | skip); first | rfl | (split <;> rfl)) | (intros; simp (disch := first | decide | (intros; (first | unfold IslSt.fencing | unfold IslSt.stepping | unfold Mgt.quiet | skip); first | rfl | (split <;> rfl))) only [same_refl, same_ite, ite_self, same_modEng_st, same_modEng, same_engTune, same_engChanged, same_engFail, same_engCmdEnd, same_rereadJudged])) only [same_refl, same_ite, ite_self, same_modEng_st, same_modEng, same_engTune, same_engChanged, same_engFail, same_engCmdEnd, same_rereadJudged]); repeat' (split <;> try simp (disch := first | decide | (intros; (first | unfold IslSt.fencing | unfold IslSt.stepping | unfold Mgt.quiet | skip); first | rfl | (split <;> rfl)) | (intros; simp (disch := first | decide | (intros; (first | unfold IslSt.fencing | unfold IslSt.stepping | unfold Mgt.quiet | skip); first | rfl | (split <;> rfl))) only [same_refl, same_ite, ite_self, same_modEng_st, same_modEng, same_engTune, same_engChanged, same_engFail, same_engCmdEnd, same_rereadJudged])) only [same_refl, same_ite, ite_self, same_modEng_st, same_modEng, same_engTune, same_engChanged, same_engFail, same_engCmdEnd, same_rereadJudged])
theorem same_rereadDone {m' : Nat} {s' : State} {e : Eng} {reads : List (List Byte × FlashRead)} {s : State} (h : m' &&& 9135193730 = 9135193730) : Same m' s' (rereadDone e reads s) = Same m' s' s := Same.eqv (keep_rereadDone e reads s) h

end Sys2Proof.Machine
end

