-- ==== Sys2Proof/Laws/FrameEngCmd.lean ====
section
/-! SUPPORT. Which parts of the state each function of Machine/EngCmd.lean leaves alone, as the bit mask of the others. -/

namespace Sys2Proof.Machine

set_option linter.unusedSimpArgs false
set_option linter.unusedTactic false
set_option linter.unreachableTactic false

theorem keep_engCmdBegin (e : Eng) (cmd : ℕ) (force : Bool) (byUpd : Bool) (s : State) : Same 2818570256 s (engCmdBegin e cmd force byUpd s) := by unfold engCmdBegin; simp (disch := first | decide | (intros; (first | unfold IslSt.fencing | unfold IslSt.stepping | unfold Mgt.quiet | skip); first | rfl | (split <;> rfl)) | (intros; simp (disch := first | decide | (intros; (first | unfold IslSt.fencing | unfold IslSt.stepping | unfold Mgt.quiet | skip); first | rfl | (split <;> rfl))) only [same_refl, same_ite, ite_self, same_modEng_st, same_modEng, same_engDark, same_engMark, same_engTry, same_moveFence])) only [same_refl, same_ite, ite_self, same_modEng_st, same_modEng, same_engDark, same_engMark, same_engTry, same_moveFence]
theorem same_engCmdBegin {m' : Nat} {s' : State} {e : Eng} {cmd : ℕ} {force : Bool} {byUpd : Bool} {s : State} (h : m' &&& 2818570256 = 2818570256) : Same m' s' (engCmdBegin e cmd force byUpd s) = Same m' s' s := Same.eqv (keep_engCmdBegin e cmd force byUpd s) h
theorem keep_writeEngCtl (v : W32) (s : State) : Same 2818570256 s (writeEngCtl v s).1 := by unfold writeEngCtl; simp (disch := first | decide | (intros; (first | unfold IslSt.fencing | unfold IslSt.stepping | unfold Mgt.quiet | skip); first | rfl | (split <;> rfl)) | (intros; simp (disch := first | decide | (intros; (first | unfold IslSt.fencing | unfold IslSt.stepping | unfold Mgt.quiet | skip); first | rfl | (split <;> rfl))) only [same_refl, same_ite, ite_self, same_engCmdBegin, same_refuseOr])) only [same_refl, same_ite, ite_self, same_engCmdBegin, same_refuseOr]
theorem same_writeEngCtl {m' : Nat} {s' : State} {v : W32} {s : State} (h : m' &&& 2818570256 = 2818570256) : Same m' s' (writeEngCtl v s).1 = Same m' s' s := Same.eqv (keep_writeEngCtl v s) h
theorem keep_execEngineCmdRestart (e : Eng) (force : Bool) (s : State) {t' : State} (h : execEngineCmdRestart e force s = .next t') : Same 2818570260 s t' := by unfold execEngineCmdRestart at h; (try simp only [act, actF] at h); cases h; simp (disch := decide) only [same_refl, same_ite, ite_self, same_writeEngCtl, same_setStatus]
theorem keep_execEngineCmdStop (e : Eng) (force : Bool) (s : State) {t' : State} (h : execEngineCmdStop e force s = .next t') : Same 2818570260 s t' := by unfold execEngineCmdStop at h; (try simp only [act, actF] at h); cases h; simp (disch := decide) only [same_refl, same_ite, ite_self, same_writeEngCtl, same_setStatus]
theorem keep_leafGoneQuiet (e : Eng) (l : ℕ) (s : State) : Same 577484800 s (leafGoneQuiet e l s) := by unfold leafGoneQuiet; simp (disch := decide) only [same_refl, same_ite, ite_self, same_setLeaf, same_leave]
theorem same_leafGoneQuiet {m' : Nat} {s' : State} {e : Eng} {l : ℕ} {s : State} (h : m' &&& 577484800 = 577484800) : Same m' s' (leafGoneQuiet e l s) = Same m' s' s := Same.eqv (keep_leafGoneQuiet e l s) h
theorem keep_leavesGone (e : Eng) (s : State) : Same 577501184 s (leavesGone e s) := by unfold leavesGone; simp (disch := first | decide | (intros; (first | unfold IslSt.fencing | unfold IslSt.stepping | unfold Mgt.quiet | skip); first | rfl | (split <;> rfl)) | (intros; simp (disch := first | decide | (intros; (first | unfold IslSt.fencing | unfold IslSt.stepping | unfold Mgt.quiet | skip); first | rfl | (split <;> rfl))) only [same_refl, same_ite, ite_self, same_leafGoneQuiet, same_forAll, same_serveDeferred])) only [same_refl, same_ite, ite_self, same_leafGoneQuiet, same_forAll, same_serveDeferred]
theorem same_leavesGone {m' : Nat} {s' : State} {e : Eng} {s : State} (h : m' &&& 577501184 = 577501184) : Same m' s' (leavesGone e s) = Same m' s' s := Same.eqv (keep_leavesGone e s) h
theorem keep_execEngineCmdTxDark (e : Eng) (s : State) {t' : State} (h : execEngineCmdTxDark e s = .next t') : Same 11450448530 s t' := by unfold execEngineCmdTxDark at h; (try simp only [act, actF] at h); cases h; simp (disch := first | decide | (intros; (first | unfold IslSt.fencing | unfold IslSt.stepping | unfold Mgt.quiet | skip); first | rfl | (split <;> rfl)) | (intros; simp (disch := first | decide | (intros; (first | unfold IslSt.fencing | unfold IslSt.stepping | unfold Mgt.quiet | skip); first | rfl | (split <;> rfl))) only [same_refl, same_ite, ite_self, same_modEng_st, same_modEng, same_engChanged, same_leavesGone, same_enterQuiesce, same_forAll, same_engMark, same_opticsOff, same_noteFault])) only [same_refl, same_ite, ite_self, same_modEng_st, same_modEng, same_engChanged, same_leavesGone, same_enterQuiesce, same_forAll, same_engMark, same_opticsOff, same_noteFault]
theorem keep_engAtReset (e : Eng) (s : State) : Same 9134668418 s (engAtReset e s) := by unfold engAtReset; simp (disch := first | decide | (intros; (first | unfold IslSt.fencing | unfold IslSt.stepping | unfold Mgt.quiet | skip); first | rfl | (split <;> rfl)) | (intros; simp (disch := first | decide | (intros; (first | unfold IslSt.fencing | unfold IslSt.stepping | unfold Mgt.quiet | skip); first | rfl | (split <;> rfl))) only [same_refl, same_ite, ite_self, same_modEng_st, same_modEng, same_engMark, same_engCmdEnd, same_engChanged, same_engReset])) only [same_refl, same_ite, ite_self, same_modEng_st, same_modEng, same_engMark, same_engCmdEnd, same_engChanged, same_engReset]
theorem same_engAtReset {m' : Nat} {s' : State} {e : Eng} {s : State} (h : m' &&& 9134668418 = 9134668418) : Same m' s' (engAtReset e s) = Same m' s' s := Same.eqv (keep_engAtReset e s) h
theorem keep_execStateSaveDone (i : Isl) (s : State) {t' : State} (h : execStateSaveDone i s = .next t') : Same 11542723218 s t' := by unfold execStateSaveDone at h; (try simp only [act, actF] at h); cases h; (try simp (disch := decide) only [same_refl, same_ite, ite_self, same_engAtReset, same_moveFence, same_noteFault]); repeat' (split <;> try simp (disch := decide) only [same_refl, same_ite, ite_self, same_engAtReset, same_moveFence, same_noteFault])
theorem keep_execIslandResetDone (i : Isl) (s : State) {t' : State} (h : execIslandResetDone i s = .next t') : Same 2818570256 s t' := by unfold execIslandResetDone at h; (try simp only [act, actF] at h); cases h; simp (disch := decide) only [same_refl, same_ite, ite_self, same_moveFence]
theorem keep_engResumed (e : Eng) (s : State) : Same 9134668418 s (engResumed e s) := by unfold engResumed; simp (disch := first | decide | (intros; (first | unfold IslSt.fencing | unfold IslSt.stepping | unfold Mgt.quiet | skip); first | rfl | (split <;> rfl)) | (intros; simp (disch := first | decide | (intros; (first | unfold IslSt.fencing | unfold IslSt.stepping | unfold Mgt.quiet | skip); first | rfl | (split <;> rfl))) only [same_refl, same_ite, ite_self, same_up_boot, same_modEng_st, same_modEng, same_engCmdEnd, same_engChanged, same_engMark])) only [same_refl, same_ite, ite_self, same_up_boot, same_modEng_st, same_modEng, same_engCmdEnd, same_engChanged, same_engMark]
theorem same_engResumed {m' : Nat} {s' : State} {e : Eng} {s : State} (h : m' &&& 9134668418 = 9134668418) : Same m' s' (engResumed e s) = Same m' s' s := Same.eqv (keep_engResumed e s) h

end Sys2Proof.Machine
end

