-- ==== Sys2Proof/Laws/FrameUpdate.lean ====
section
/-! SUPPORT. Which parts of the state each function of Machine/Update.lean leaves alone, as the bit mask of the others. -/

namespace Sys2Proof.Machine

set_option linter.unusedSimpArgs false
set_option linter.unusedTactic false
set_option linter.unreachableTactic false

theorem keep_storeStage (ofs : ℕ) (data : List Byte) (s : State) : Same 335544320 s (storeStage ofs data s) := by unfold storeStage; simp (disch := first | decide | (intros; (first | unfold IslSt.fencing | unfold IslSt.stepping | unfold Mgt.quiet | skip); first | rfl | (split <;> rfl)) | (intros; simp (disch := first | decide | (intros; (first | unfold IslSt.fencing | unfold IslSt.stepping | unfold Mgt.quiet | skip); first | rfl | (split <;> rfl))) only [same_refl, same_ite, ite_self, same_up_upd, same_forAll, same_memWritten])) only [same_refl, same_ite, ite_self, same_up_upd, same_forAll, same_memWritten]
theorem same_storeStage {m' : Nat} {s' : State} {ofs : ℕ} {data : List Byte} {s : State} (h : m' &&& 335544320 = 335544320) : Same m' s' (storeStage ofs data s) = Same m' s' s := Same.eqv (keep_storeStage ofs data s) h
theorem keep_writeStage (ofs : ℕ) (data : List Byte) (s : State) : Same 335544320 s (writeStage ofs data s).1 := by unfold writeStage; simp (disch := first | decide | (intros; (first | unfold IslSt.fencing | unfold IslSt.stepping | unfold Mgt.quiet | skip); first | rfl | (split <;> rfl)) | (intros; simp (disch := first | decide | (intros; (first | unfold IslSt.fencing | unfold IslSt.stepping | unfold Mgt.quiet | skip); first | rfl | (split <;> rfl))) only [same_refl, same_ite, ite_self, same_up_upd, same_storeStage, same_refuseOr])) only [same_refl, same_ite, ite_self, same_up_upd, same_storeStage, same_refuseOr]
theorem same_writeStage {m' : Nat} {s' : State} {ofs : ℕ} {data : List Byte} {s : State} (h : m' &&& 335544320 = 335544320) : Same m' s' (writeStage ofs data s).1 = Same m' s' s := Same.eqv (keep_writeStage ofs data s) h
theorem keep_execUpdStagingWrite (ofs : ℕ) (data : List Byte) (s : State) {t' : State} (h : execUpdStagingWrite ofs data s = .next t') : Same 335544324 s t' := by unfold execUpdStagingWrite at h; (try simp only [act, actF] at h); cases h; simp (disch := decide) only [same_refl, same_ite, ite_self, same_writeStage, same_setStatus]
theorem keep_stageReads (s : State) : Same 608212994 s (stageReads s) := by unfold stageReads; simp (disch := decide) only [same_refl, same_ite, ite_self, same_memScan]
theorem same_stageReads {m' : Nat} {s' : State} {s : State} (h : m' &&& 608212994 = 608212994) : Same m' s' (stageReads s) = Same m' s' s := Same.eqv (keep_stageReads s) h
theorem keep_updIslEvent (i : Isl) (kind : ℕ) (s : State) : Same 38912 s (updIslEvent i kind s) := by unfold updIslEvent; simp (disch := decide) only [same_refl, same_ite, ite_self, same_raiseF]
theorem same_updIslEvent {m' : Nat} {s' : State} {i : Isl} {kind : ℕ} {s : State} (h : m' &&& 38912 = 38912) : Same m' s' (updIslEvent i kind s) = Same m' s' s := Same.eqv (keep_updIslEvent i kind s) h
theorem keep_setDone (i : Isl) (b : Bool) (s : State) : Same 268435456 s (setDone i b s) := by unfold setDone; simp (disch := decide) only [same_refl, same_ite, ite_self, same_up_upd]
theorem same_setDone {m' : Nat} {s' : State} {i : Isl} {b : Bool} {s : State} (h : m' &&& 268435456 = 268435456) : Same m' s' (setDone i b s) = Same m' s' s := Same.eqv (keep_setDone i b s) h
theorem keep_updFence (i : Isl) (s : State) : Same 3087005712 s (updFence i s) := by unfold updFence; (try simp (disch := decide) only [same_refl, same_ite, ite_self, same_up_upd, same_enterQuiesce, same_apsUpdate, same_engCmdBegin]); repeat' (split <;> try simp (disch := decide) only [same_refl, same_ite, ite_self, same_up_upd, same_enterQuiesce, same_apsUpdate, same_engCmdBegin])
theorem same_updFence {m' : Nat} {s' : State} {i : Isl} {s : State} (h : m' &&& 3087005712 = 3087005712) : Same m' s' (updFence i s) = Same m' s' s := Same.eqv (keep_updFence i s) h
theorem keep_updFinish (s : State) : Same 268474368 s (updFinish s) := by unfold updFinish; (try simp (disch := first | decide | (intros; (first | unfold IslSt.fencing | unfold IslSt.stepping | unfold Mgt.quiet | skip); first | rfl | (split <;> rfl)) | (intros; simp (disch := first | decide | (intros; (first | unfold IslSt.fencing | unfold IslSt.stepping | unfold Mgt.quiet | skip); first | rfl | (split <;> rfl))) only [same_refl, same_ite, ite_self, same_up_upd, same_raiseF])) only [same_refl, same_ite, ite_self, same_up_upd, same_raiseF]); repeat' (split <;> try simp (disch := first | decide | (intros; (first | unfold IslSt.fencing | unfold IslSt.stepping | unfold Mgt.quiet | skip); first | rfl | (split <;> rfl)) | (intros; simp (disch := first | decide | (intros; (first | unfold IslSt.fencing | unfold IslSt.stepping | unfold Mgt.quiet | skip); first | rfl | (split <;> rfl))) only [same_refl, same_ite, ite_self, same_up_upd, same_raiseF])) only [same_refl, same_ite, ite_self, same_up_upd, same_raiseF])
theorem same_updFinish {m' : Nat} {s' : State} {s : State} (h : m' &&& 268474368 = 268474368) : Same m' s' (updFinish s) = Same m' s' s := Same.eqv (keep_updFinish s) h
theorem keep_changeTables (i : Isl) (staged : Bool) (s : State) : Same 268435456 s (changeTables i staged s) := by unfold changeTables; simp (disch := decide) only [same_refl, same_ite, ite_self, same_up_upd]
theorem same_changeTables {m' : Nat} {s' : State} {i : Isl} {staged : Bool} {s : State} (h : m' &&& 268435456 = 268435456) : Same m' s' (changeTables i staged s) = Same m' s' s := Same.eqv (keep_changeTables i staged s) h
theorem keep_updTaken (i : Isl) (s : State) : Same 268474368 s (updTaken i s) := by unfold updTaken; (try simp (disch := decide) only [same_refl, same_ite, ite_self, same_changeTables, same_setDone, same_updIslEvent]); repeat' (split <;> try simp (disch := decide) only [same_refl, same_ite, ite_self, same_changeTables, same_setDone, same_updIslEvent])
theorem same_updTaken {m' : Nat} {s' : State} {i : Isl} {s : State} (h : m' &&& 268474368 = 268474368) : Same m' s' (updTaken i s) = Same m' s' s := Same.eqv (keep_updTaken i s) h
theorem keep_updGo : ∀ (l : List Isl) (s : State), Same 3087005712 s (updGo l s)
  | [], s => by
    unfold updGo
    rw [same_updFinish (by decide), same_up_upd (by decide)]; exact (same_refl _ _).mpr trivial
  | i :: rest, s => by
    unfold updGo; dsimp only; split
    · refine Same.trans ?_ (keep_updGo rest _)
      split
      · exact (same_updIslEvent (by decide)).mpr ((same_refl _ _).mpr trivial)
      · exact (same_refl _ _).mpr trivial
    · split
      · exact ((same_updTaken (by decide)).mpr ((same_refl _ s).mpr trivial)).trans (keep_updGo rest _)
      · split
        · exact (same_up_upd (by decide)).mpr ((same_refl _ _).mpr trivial)
        · exact (same_updFence (by decide)).mpr ((same_up_upd (by decide)).mpr ((same_refl _ _).mpr trivial))

theorem same_updGo {m' : Nat} {s' : State} {a0 : List Isl} {a1 : State} (h : m' &&& 3087005712 = 3087005712) : Same m' s' (updGo a0 a1) = Same m' s' a1 := Same.eqv (keep_updGo a0 a1) h
theorem keep_updKick (s : State) : Same 3087005712 s (updKick s) := by unfold updKick; simp (disch := decide) only [same_refl, same_ite, ite_self, same_updGo]
theorem same_updKick {m' : Nat} {s' : State} {s : State} (h : m' &&& 3087005712 = 3087005712) : Same m' s' (updKick s) = Same m' s' s := Same.eqv (keep_updKick s) h
theorem keep_updRoll (cause : ℕ) (s : State) : Same 3087005712 s (updRoll cause s) := by unfold updRoll; simp (disch := decide) only [same_refl, same_ite, ite_self, same_up_upd, same_updKick]
theorem same_updRoll {m' : Nat} {s' : State} {cause : ℕ} {s : State} (h : m' &&& 3087005712 = 3087005712) : Same m' s' (updRoll cause s) = Same m' s' s := Same.eqv (keep_updRoll cause s) h
theorem keep_updFailed (cause : ℕ) (isl : ℕ) (s : State) : Same 3087005712 s (updFailed cause isl s) := by unfold updFailed; simp (disch := decide) only [same_refl, same_ite, ite_self, same_up_upd, same_updRoll]
theorem same_updFailed {m' : Nat} {s' : State} {cause : ℕ} {isl : ℕ} {s : State} (h : m' &&& 3087005712 = 3087005712) : Same m' s' (updFailed cause isl s) = Same m' s' s := Same.eqv (keep_updFailed cause isl s) h
theorem same_watchFail {m' : Nat} {s' s : State} {f : State → State} (h : m' &&& 3087005712 = 3087005712) (hf : ∀ u, Same m' u (f u)) : Same m' s' (watchFail f s) = Same m' s' s :=
  (by
    unfold watchFail; dsimp only; split
    · exact (same_updFailed (sub_trans h (by decide))).mpr (hf s)
    · exact hf s : Same m' s (watchFail f s)).eqv (Nat.and_self m')

theorem keep_writeUpdCtl (v : W32) (s : State) : Same 3087005712 s (writeUpdCtl v s).1 := by unfold writeUpdCtl; (try simp (disch := first | decide | (intros; (first | unfold IslSt.fencing | unfold IslSt.stepping | unfold Mgt.quiet | skip); first | rfl | (split <;> rfl)) | (intros; simp (disch := first | decide | (intros; (first | unfold IslSt.fencing | unfold IslSt.stepping | unfold Mgt.quiet | skip); first | rfl | (split <;> rfl))) only [same_refl, same_ite, ite_self, same_up_upd, same_updRoll, same_updKick, same_refuseOr])) only [same_refl, same_ite, ite_self, same_up_upd, same_updRoll, same_updKick, same_refuseOr]); repeat' (split <;> try simp (disch := first | decide | (intros; (first | unfold IslSt.fencing | unfold IslSt.stepping | unfold Mgt.quiet | skip); first | rfl | (split <;> rfl)) | (intros; simp (disch := first | decide | (intros; (first | unfold IslSt.fencing | unfold IslSt.stepping | unfold Mgt.quiet | skip); first | rfl | (split <;> rfl))) only [same_refl, same_ite, ite_self, same_up_upd, same_updRoll, same_updKick, same_refuseOr])) only [same_refl, same_ite, ite_self, same_up_upd, same_updRoll, same_updKick, same_refuseOr])
theorem same_writeUpdCtl {m' : Nat} {s' : State} {v : W32} {s : State} (h : m' &&& 3087005712 = 3087005712) : Same m' s' (writeUpdCtl v s).1 = Same m' s' s := Same.eqv (keep_writeUpdCtl v s) h
theorem keep_execUpdCmdVerify (s : State) {t' : State} (h : execUpdCmdVerify s = .next t') : Same 3087005716 s t' := by unfold execUpdCmdVerify at h; (try simp only [act, actF] at h); cases h; simp (disch := decide) only [same_refl, same_ite, ite_self, same_writeUpdCtl, same_setStatus]
theorem keep_execUpdCmdApply (s : State) {t' : State} (h : execUpdCmdApply s = .next t') : Same 3087005716 s t' := by unfold execUpdCmdApply at h; (try simp only [act, actF] at h); cases h; simp (disch := decide) only [same_refl, same_ite, ite_self, same_writeUpdCtl, same_setStatus]
theorem keep_execUpdCmdCommit (s : State) {t' : State} (h : execUpdCmdCommit s = .next t') : Same 3087005716 s t' := by unfold execUpdCmdCommit at h; (try simp only [act, actF] at h); cases h; simp (disch := decide) only [same_refl, same_ite, ite_self, same_writeUpdCtl, same_setStatus]
theorem keep_execUpdCmdRollback (s : State) {t' : State} (h : execUpdCmdRollback s = .next t') : Same 3087005716 s t' := by unfold execUpdCmdRollback at h; (try simp only [act, actF] at h); cases h; simp (disch := decide) only [same_refl, same_ite, ite_self, same_writeUpdCtl, same_setStatus]
theorem keep_execUpdCmdClear (s : State) {t' : State} (h : execUpdCmdClear s = .next t') : Same 3087005716 s t' := by unfold execUpdCmdClear at h; (try simp only [act, actF] at h); cases h; simp (disch := decide) only [same_refl, same_ite, ite_self, same_writeUpdCtl, same_setStatus]
theorem keep_execUpdVerified (s : State) {t' : State} (h : execUpdVerified s = .next t') : Same 876648450 s t' := by unfold execUpdVerified at h; (try simp only [act, actF] at h); cases h; simp (disch := decide) only [same_refl, same_ite, ite_self, same_up_upd, same_raiseF, same_stageReads]
theorem keep_execUpdTrialExpiry (s : State) {t' : State} (h : execUpdTrialExpiry s = .next t') : Same 268435456 s t' := by unfold execUpdTrialExpiry at h; (try simp only [act, actF] at h); cases h; simp (disch := decide) only [same_refl, same_ite, ite_self, same_up_upd]
theorem keep_raiseArbFw (fuseOk : Bool) (s : State) : Same 386 s (raiseArbFw fuseOk s).2 := by unfold raiseArbFw; (try simp (disch := decide) only [same_refl, same_ite, ite_self, same_up_fuse_flash, same_up_flash, same_partialCount]); repeat' (split <;> try simp (disch := decide) only [same_refl, same_ite, ite_self, same_up_fuse_flash, same_up_flash, same_partialCount])
theorem same_raiseArbFw {m' : Nat} {s' : State} {fuseOk : Bool} {s : State} (h : m' &&& 386 = 386) : Same m' s' (raiseArbFw fuseOk s).2 = Same m' s' s := Same.eqv (keep_raiseArbFw fuseOk s) h
theorem keep_execUpdCommit (flashOk : Bool) (fuseOk : Bool) (s : State) {t' : State} (h : execUpdCommit flashOk fuseOk s = .next t') : Same 3087006610 s t' := by
  unfold execUpdCommit at h
  refine keep_act (fun u => ?_) h
  split
  · extract_lets old s1 src s2 r
    have h1 : Same 3087006610 u s1 := (same_up_flash (by decide)).mpr ((same_refl _ _).mpr trivial)
    clear_value s1
    have h2 : Same 3087006610 u s2 := (same_up_boot (by decide)).mpr h1
    clear_value s2
    have h3 : Same 3087006610 u r.2 := (same_raiseArbFw (by decide)).mpr h2
    clear_value r
    exact (same_raiseF (by decide)).mpr ((same_up_upd (by decide)).mpr h3)
  · exact (same_updRoll (by decide)).mpr ((same_up_upd (by decide)).mpr ((same_refl _ _).mpr trivial))

theorem keep_execUpdIslResume (i : Isl) (s : State) {t' : State} (h : execUpdIslResume i s = .next t') : Same 46170897042 s t' := by unfold execUpdIslResume at h; (try simp only [act, actF] at h); cases h; (try simp (disch := first | decide | (intros; (first | unfold IslSt.fencing | unfold IslSt.stepping | unfold Mgt.quiet | skip); first | rfl | (split <;> rfl)) | (intros; simp (disch := first | decide | (intros; (first | unfold IslSt.fencing | unfold IslSt.stepping | unfold Mgt.quiet | skip); first | rfl | (split <;> rfl))) only [same_refl, same_ite, ite_self, same_updKick, same_engResumed, same_watchFail, same_updTaken, same_forAll, same_runFence, same_noteFault])) only [same_refl, same_ite, ite_self, same_updKick, same_engResumed, same_watchFail, same_updTaken, same_forAll, same_runFence, same_noteFault]); repeat' (split <;> try simp (disch := first | decide | (intros; (first | unfold IslSt.fencing | unfold IslSt.stepping | unfold Mgt.quiet | skip); first | rfl | (split <;> rfl)) | (intros; simp (disch := first | decide | (intros; (first | unfold IslSt.fencing | unfold IslSt.stepping | unfold Mgt.quiet | skip); first | rfl | (split <;> rfl))) only [same_refl, same_ite, ite_self, same_updKick, same_engResumed, same_watchFail, same_updTaken, same_forAll, same_runFence, same_noteFault])) only [same_refl, same_ite, ite_self, same_updKick, same_engResumed, same_watchFail, same_updTaken, same_forAll, same_runFence, same_noteFault])
theorem keep_execResumeBoundExceeded (i : Isl) (s : State) {t' : State} (h : execResumeBoundExceeded i s = .next t') : Same 3087005712 s t' := by unfold execResumeBoundExceeded at h; (try simp only [act, actF] at h); cases h; simp (disch := first | decide | (intros; (first | unfold IslSt.fencing | unfold IslSt.stepping | unfold Mgt.quiet | skip); first | rfl | (split <;> rfl)) | (intros; simp (disch := first | decide | (intros; (first | unfold IslSt.fencing | unfold IslSt.stepping | unfold Mgt.quiet | skip); first | rfl | (split <;> rfl))) only [same_refl, same_ite, ite_self, same_modIsl_all, same_modIsl_fences, same_modIsl_steps, same_modIsl_incarn, same_modIsl, same_updFailed, same_forAll])) only [same_refl, same_ite, ite_self, same_modIsl_all, same_modIsl_fences, same_modIsl_steps, same_modIsl_incarn, same_modIsl, same_updFailed, same_forAll]
theorem keep_poisonRead (i : Isl) (s : State) : Same 608212994 s (poisonRead i s) := by unfold poisonRead; (try simp (disch := decide) only [same_refl, same_ite, ite_self, same_memAccess, same_memUncorr, same_memWritten, same_draw]); repeat' (split <;> try simp (disch := decide) only [same_refl, same_ite, ite_self, same_memAccess, same_memUncorr, same_memWritten, same_draw])
theorem same_poisonRead {m' : Nat} {s' : State} {i : Isl} {s : State} (h : m' &&& 608212994 = 608212994) : Same m' s' (poisonRead i s) = Same m' s' s := Same.eqv (keep_poisonRead i s) h
theorem keep_execWatchdogRestart (i : Isl) (poison : Bool) (s : State) {t' : State} (h : execWatchdogRestart i poison s = .next t') : Same 3087005714 s t' := by unfold execWatchdogRestart at h; (try simp only [act, actF] at h); cases h; simp (disch := first | decide | (intros; (first | unfold IslSt.fencing | unfold IslSt.stepping | unfold Mgt.quiet | skip); first | rfl | (split <;> rfl)) | (intros; simp (disch := first | decide | (intros; (first | unfold IslSt.fencing | unfold IslSt.stepping | unfold Mgt.quiet | skip); first | rfl | (split <;> rfl))) only [same_refl, same_ite, ite_self, same_updFailed, same_apsUpdate, same_enterQuiesce, same_count, same_poisonRead, same_when])) only [same_refl, same_ite, ite_self, same_updFailed, same_apsUpdate, same_enterQuiesce, same_count, same_poisonRead, same_when]
theorem keep_execEngineImageRereadDone (e : Eng) (reads : List (List Byte × FlashRead)) (s : State) {t' : State} (h : execEngineImageRereadDone e reads s = .next t') : Same 11811159698 s t' := by unfold execEngineImageRereadDone at h; (try simp only [act, actF] at h); cases h; simp (disch := first | decide | (intros; (first | unfold IslSt.fencing | unfold IslSt.stepping | unfold Mgt.quiet | skip); first | rfl | (split <;> rfl)) | (intros; simp (disch := first | decide | (intros; (first | unfold IslSt.fencing | unfold IslSt.stepping | unfold Mgt.quiet | skip); first | rfl | (split <;> rfl))) only [same_refl, same_ite, ite_self, same_rereadDone, same_watchFail, same_updKick, same_noteFault])) only [same_refl, same_ite, ite_self, same_rereadDone, same_watchFail, same_updKick, same_noteFault]

end Sys2Proof.Machine
end

