-- ==== Sys2Proof/Laws/FrameBist.lean ====
section
/-! SUPPORT. Which parts of the state each function of Machine/Bist.lean leaves alone, as the bit mask of the others. -/

namespace Sys2Proof.Machine

set_option linter.unusedSimpArgs false
set_option linter.unusedTactic false
set_option linter.unreachableTactic false

theorem keep_beginSuite (suite : ℕ) (skip : ℕ → Bool) (s : State) : Same 1073741824 s (beginSuite suite skip s) := by unfold beginSuite; simp (disch := decide) only [same_refl, same_ite, ite_self, same_up_bist]
theorem same_beginSuite {m' : Nat} {s' : State} {suite : ℕ} {skip : ℕ → Bool} {s : State} (h : m' &&& 1073741824 = 1073741824) : Same m' s' (beginSuite suite skip s) = Same m' s' s := Same.eqv (keep_beginSuite suite skip s) h
theorem keep_addEntry (x : TestEntry) (s : State) : Same 1073774592 s (addEntry x s) := by unfold addEntry; simp (disch := decide) only [same_refl, same_ite, ite_self, same_up_bist, same_raise]
theorem same_addEntry {m' : Nat} {s' : State} {x : TestEntry} {s : State} (h : m' &&& 1073774592 = 1073774592) : Same m' s' (addEntry x s) = Same m' s' s := Same.eqv (keep_addEntry x s) h
theorem keep_endSuite (s : State) : Same 1073774594 s (endSuite s) := by unfold endSuite; simp (disch := decide) only [same_refl, same_ite, ite_self, same_up_bist, same_raise, same_closeSuite]
theorem same_endSuite {m' : Nat} {s' : State} {s : State} (h : m' &&& 1073774594 = 1073774594) : Same m' s' (endSuite s) = Same m' s' s := Same.eqv (keep_endSuite s) h
theorem keep_afterTest (s : State) : Same 1073774594 s (afterTest s) := by unfold afterTest; simp (disch := decide) only [same_refl, same_ite, ite_self, same_endSuite]
theorem same_afterTest {m' : Nat} {s' : State} {s : State} (h : m' &&& 1073774594 = 1073774594) : Same m' s' (afterTest s) = Same m' s' s := Same.eqv (keep_afterTest s) h
theorem keep_execBistTestDone (t : TestResult) (s : State) {t' : State} (h : execBistTestDone t s = .next t') : Same 1073774594 s t' := by unfold execBistTestDone at h; (try simp only [act, actF] at h); cases h; (try simp (disch := decide) only [same_refl, same_ite, ite_self, same_addEntry, same_afterTest]); repeat' (split <;> try simp (disch := decide) only [same_refl, same_ite, ite_self, same_addEntry, same_afterTest])
theorem keep_execBistTestCut (committed : ℕ) (s : State) {t' : State} (h : execBistTestCut committed s = .next t') : Same 1073780738 s t' := by unfold execBistTestCut at h; (try simp only [act, actF] at h); cases h; (try simp (disch := first | decide | (intros; (first | unfold IslSt.fencing | unfold IslSt.stepping | unfold Mgt.quiet | skip); first | rfl | (split <;> rfl)) | (intros; simp (disch := first | decide | (intros; (first | unfold IslSt.fencing | unfold IslSt.stepping | unfold Mgt.quiet | skip); first | rfl | (split <;> rfl))) only [same_refl, same_ite, ite_self, same_setFlag, same_afterTest, same_addEntry, same_forAll, same_draw])) only [same_refl, same_ite, ite_self, same_setFlag, same_afterTest, same_addEntry, same_forAll, same_draw]); repeat' (split <;> try simp (disch := first | decide | (intros; (first | unfold IslSt.fencing | unfold IslSt.stepping | unfold Mgt.quiet | skip); first | rfl | (split <;> rfl)) | (intros; simp (disch := first | decide | (intros; (first | unfold IslSt.fencing | unfold IslSt.stepping | unfold Mgt.quiet | skip); first | rfl | (split <;> rfl))) only [same_refl, same_ite, ite_self, same_setFlag, same_afterTest, same_addEntry, same_forAll, same_draw])) only [same_refl, same_ite, ite_self, same_setFlag, same_afterTest, same_addEntry, same_forAll, same_draw])
theorem keep_acceptShutdown (cause : ℕ) (s : State) : Same 1879277568 s (acceptShutdown cause s) := by unfold acceptShutdown; simp (disch := first | decide | (intros; (first | unfold IslSt.fencing | unfold IslSt.stepping | unfold Mgt.quiet | skip); first | rfl | (split <;> rfl)) | (intros; simp (disch := first | decide | (intros; (first | unfold IslSt.fencing | unfold IslSt.stepping | unfold Mgt.quiet | skip); first | rfl | (split <;> rfl))) only [same_refl, same_ite, ite_self, same_up_upd, same_up_bist, same_raise, same_forAll, same_modEng_st, same_modEng, same_rampTxOff, same_calAbandon])) only [same_refl, same_ite, ite_self, same_up_upd, same_up_bist, same_raise, same_forAll, same_modEng_st, same_modEng, same_rampTxOff, same_calAbandon]
theorem same_acceptShutdown {m' : Nat} {s' : State} {cause : ℕ} {s : State} (h : m' &&& 1879277568 = 1879277568) : Same m' s' (acceptShutdown cause s) = Same m' s' s := Same.eqv (keep_acceptShutdown cause s) h
theorem keep_requestShutdown (cause : ℕ) (s : State) : Same 1879277568 s (requestShutdown cause s) := by unfold requestShutdown; simp (disch := decide) only [same_refl, same_ite, ite_self, same_up_bist, same_acceptShutdown]
theorem same_requestShutdown {m' : Nat} {s' : State} {cause : ℕ} {s : State} (h : m' &&& 1879277568 = 1879277568) : Same m' s' (requestShutdown cause s) = Same m' s' s := Same.eqv (keep_requestShutdown cause s) h
theorem keep_abortStart (s : State) : Same 68719476600 s (abortStart s) := by unfold abortStart; simp (disch := decide) only [same_refl, same_ite, ite_self, same_keepPowered, same_writeRec]
theorem same_abortStart {m' : Nat} {s' : State} {s : State} (h : m' &&& 68719476600 = 68719476600) : Same m' s' (abortStart s) = Same m' s' s := Same.eqv (keep_abortStart s) h
theorem keep_writeBistCtl (v : W32) (s : State) : Same 68719476600 s (writeBistCtl v s).1 := by unfold writeBistCtl; (try simp (disch := first | decide | (intros; (first | unfold IslSt.fencing | unfold IslSt.stepping | unfold Mgt.quiet | skip); first | rfl | (split <;> rfl)) | (intros; simp (disch := first | decide | (intros; (first | unfold IslSt.fencing | unfold IslSt.stepping | unfold Mgt.quiet | skip); first | rfl | (split <;> rfl))) only [same_refl, same_ite, ite_self, same_up_pwr, same_requestShutdown, same_refuseOr, same_abortStart])) only [same_refl, same_ite, ite_self, same_up_pwr, same_requestShutdown, same_refuseOr, same_abortStart]); repeat' (split <;> try simp (disch := first | decide | (intros; (first | unfold IslSt.fencing | unfold IslSt.stepping | unfold Mgt.quiet | skip); first | rfl | (split <;> rfl)) | (intros; simp (disch := first | decide | (intros; (first | unfold IslSt.fencing | unfold IslSt.stepping | unfold Mgt.quiet | skip); first | rfl | (split <;> rfl))) only [same_refl, same_ite, ite_self, same_up_pwr, same_requestShutdown, same_refuseOr, same_abortStart])) only [same_refl, same_ite, ite_self, same_up_pwr, same_requestShutdown, same_refuseOr, same_abortStart])
theorem same_writeBistCtl {m' : Nat} {s' : State} {v : W32} {s : State} (h : m' &&& 68719476600 = 68719476600) : Same m' s' (writeBistCtl v s).1 = Same m' s' s := Same.eqv (keep_writeBistCtl v s) h
theorem keep_execBistCtlShutdownTest (s : State) {t' : State} (h : execBistCtlShutdownTest s = .next t') : Same 68719476604 s t' := by unfold execBistCtlShutdownTest at h; (try simp only [act, actF] at h); cases h; simp (disch := decide) only [same_refl, same_ite, ite_self, same_writeBistCtl, same_setStatus, same_noteFault]
theorem keep_execBistCtlShutdownNotest (s : State) {t' : State} (h : execBistCtlShutdownNotest s = .next t') : Same 68719476604 s t' := by unfold execBistCtlShutdownNotest at h; (try simp only [act, actF] at h); cases h; simp (disch := decide) only [same_refl, same_ite, ite_self, same_writeBistCtl, same_setStatus, same_noteFault]
theorem keep_execBistShutdown (s : State) {t' : State} (h : execBistShutdown s = .next t') : Same 1879277568 s t' := by unfold execBistShutdown at h; (try simp only [act, actF] at h); cases h; simp (disch := decide) only [same_refl, same_ite, ite_self, same_acceptShutdown]
theorem keep_storePending (e : Eng) (rx : Bool) (s : State) : Same 235778 s (storePending e rx s) := by unfold storePending; simp (disch := decide) only [same_refl, same_ite, ite_self, same_storeCalRec, same_draw]
theorem same_storePending {m' : Nat} {s' : State} {e : Eng} {rx : Bool} {s : State} (h : m' &&& 235778 = 235778) : Same m' s' (storePending e rx s) = Same m' s' s := Same.eqv (keep_storePending e rx s) h
theorem keep_execShutdownStopDone (s : State) {t' : State} (h : execShutdownStopDone s = .next t') : Same 18996238594 s t' := by unfold execShutdownStopDone at h; (try simp only [act, actF] at h); cases h; simp (disch := first | decide | (intros; (first | unfold IslSt.fencing | unfold IslSt.stepping | unfold Mgt.quiet | skip); first | rfl | (split <;> rfl)) | (intros; simp (disch := first | decide | (intros; (first | unfold IslSt.fencing | unfold IslSt.stepping | unfold Mgt.quiet | skip); first | rfl | (split <;> rfl))) only [same_refl, same_ite, ite_self, same_up_bist, same_saveRecords, same_appendAll, same_storePending, same_forAll])) only [same_refl, same_ite, ite_self, same_up_bist, same_saveRecords, same_appendAll, same_storePending, same_forAll]
theorem keep_execShutdownRecordsSaved (s : State) {t' : State} (h : execShutdownRecordsSaved s = .next t') : Same 1073741824 s t' := by unfold execShutdownRecordsSaved at h; (try simp only [act, actF] at h); cases h; simp (disch := decide) only [same_refl, same_ite, ite_self, same_up_bist, same_beginSuite]
theorem keep_execShutdownRecordWritten (s : State) {t' : State} (h : execShutdownRecordWritten s = .next t') : Same 1073742080 s t' := by unfold execShutdownRecordWritten at h; (try simp only [act, actF] at h); cases h; simp (disch := decide) only [same_refl, same_ite, ite_self, same_up_flash_bist, same_writeRec]
theorem keep_execShutdownRailsOff (s : State) {t' : State} (h : execShutdownRailsOff s = .next t') : Same 68719476600 s t' := by unfold execShutdownRailsOff at h; (try simp only [act, actF] at h); cases h; simp (disch := decide) only [same_refl, same_ite, ite_self, same_up_pwr, same_keepPowered, same_noteFault]
theorem keep_execShdnNAsserted (s : State) {t' : State} (h : execShdnNAsserted s = .next t') : Same 68719476600 s t' := by unfold execShdnNAsserted at h; (try simp only [act, actF] at h); cases h; (try simp (disch := first | decide | (intros; (first | unfold IslSt.fencing | unfold IslSt.stepping | unfold Mgt.quiet | skip); first | rfl | (split <;> rfl)) | (intros; simp (disch := first | decide | (intros; (first | unfold IslSt.fencing | unfold IslSt.stepping | unfold Mgt.quiet | skip); first | rfl | (split <;> rfl))) only [same_refl, same_ite, ite_self, same_up_pins, same_noteFault, same_abortStart, same_requestShutdown])) only [same_refl, same_ite, ite_self, same_up_pins, same_noteFault, same_abortStart, same_requestShutdown]); repeat' (split <;> try simp (disch := first | decide | (intros; (first | unfold IslSt.fencing | unfold IslSt.stepping | unfold Mgt.quiet | skip); first | rfl | (split <;> rfl)) | (intros; simp (disch := first | decide | (intros; (first | unfold IslSt.fencing | unfold IslSt.stepping | unfold Mgt.quiet | skip); first | rfl | (split <;> rfl))) only [same_refl, same_ite, ite_self, same_up_pins, same_noteFault, same_abortStart, same_requestShutdown])) only [same_refl, same_ite, ite_self, same_up_pins, same_noteFault, same_abortStart, same_requestShutdown])
theorem keep_execShdnNReleased (s : State) {t' : State} (h : execShdnNReleased s = .next t') : Same 68719476600 s t' := by unfold execShdnNReleased at h; (try simp only [act, actF] at h); cases h; simp (disch := decide) only [same_refl, same_ite, ite_self, same_up_pins, same_restart, same_noteFault]
theorem keep_execResetNAsserted (s : State) {t' : State} (h : execResetNAsserted s = .next t') : Same 68719476600 s t' := by unfold execResetNAsserted at h; (try simp only [act, actF] at h); cases h; simp (disch := decide) only [same_refl, same_ite, ite_self, same_up_pins, same_keepPowered, same_noteFault]
theorem keep_execResetNReleased (adrSel0 : Bool) (adrSel1 : Bool) (caseTemp : ℤ) (s : State) {t' : State} (h : execResetNReleased adrSel0 adrSel1 caseTemp s = .next t') : Same 68719476600 s t' := by
  unfold execResetNReleased at h
  refine keep_actF (by decide) (fun w => ?_) h
  extract_lets src u
  have h1 : Same 68719476600 w u := (same_up_pins (by decide)).mpr ((same_refl _ _).mpr trivial)
  clear_value u
  split
  · split
    · exact (same_restart (by decide)).mpr h1
    · exact h1
  · exact (same_up_pwr (by decide)).mpr h1
  all_goals exact h1

theorem keep_openMaker (req : Option MakerReq) (s : State) : Same 512 s (openMaker req s) := by unfold openMaker; simp (disch := decide) only [same_refl, same_ite, ite_self, same_up_boot]
theorem same_openMaker {m' : Nat} {s' : State} {req : Option MakerReq} {s : State} (h : m' &&& 512 = 512) : Same m' s' (openMaker req s) = Same m' s' s := Same.eqv (keep_openMaker req s) h
theorem keep_makerModes (s : State) : Same 512 s (makerModes s) := by unfold makerModes; simp (disch := decide) only [same_refl, same_ite, ite_self, same_openMaker]
theorem same_makerModes {m' : Nat} {s' : State} {s : State} (h : m' &&& 512 = 512) : Same m' s' (makerModes s) = Same m' s' s := Same.eqv (keep_makerModes s) h
theorem keep_execMakerProgramming (s : State) {t' : State} (h : execMakerProgramming s = .next t') : Same 134218370 s t' := by unfold execMakerProgramming at h; (try simp only [act, actF] at h); cases h; simp (disch := decide) only [same_refl, same_ite, ite_self, same_blowOpen, same_makerModes, same_noteFault]
theorem keep_orderHash (s : State) : Same 130 s (orderHash s) := by unfold orderHash; simp (disch := decide) only [same_refl, same_ite, ite_self, same_up_fuse, same_draw]
theorem same_orderHash {m' : Nat} {s' : State} {s : State} (h : m' &&& 130 = 130) : Same m' s' (orderHash s) = Same m' s' s := Same.eqv (keep_orderHash s) h
theorem keep_blowLocks (s : State) : Same 130 s (blowLocks s) := by unfold blowLocks; simp (disch := decide) only [same_refl, same_ite, ite_self, same_up_fuse, same_draw]
theorem same_blowLocks {m' : Nat} {s' : State} {s : State} (h : m' &&& 130 = 130) : Same m' s' (blowLocks s) = Same m' s' s := Same.eqv (keep_blowLocks s) h
theorem keep_execMakerShipCommand (s : State) {t' : State} (h : execMakerShipCommand s = .next t') : Same 134267522 s t' := by unfold execMakerShipCommand at h; (try simp only [act, actF] at h); cases h; simp (disch := decide) only [same_refl, same_ite, ite_self, same_lcEvent, same_makerModes, same_orderHash, same_blowOpen, same_blowLocks, same_noteFault]
theorem keep_execMakerVoidCommand (s : State) {t' : State} (h : execMakerVoidCommand s = .next t') : Same 134218370 s t' := by unfold execMakerVoidCommand at h; (try simp only [act, actF] at h); cases h; simp (disch := decide) only [same_refl, same_ite, ite_self, same_up_fuse, same_makerModes, same_blowOpen, same_noteFault]

end Sys2Proof.Machine
end

