-- ==== Sys2Proof/Laws/FrameStart.lean ====
section
/-! SUPPORT. Which parts of the state each function of Machine/Start.lean leaves alone, as the bit mask of the others. -/

namespace Sys2Proof.Machine

set_option linter.unusedSimpArgs false
set_option linter.unusedTactic false
set_option linter.unreachableTactic false

theorem keep_stopInRom (s : State) : Same 528 s (stopInRom s) := by unfold stopInRom; simp (disch := decide) only [same_refl, same_ite, ite_self, same_up_pwr_boot]
theorem same_stopInRom {m' : Nat} {s' : State} {s : State} (h : m' &&& 528 = 528) : Same m' s' (stopInRom s) = Same m' s' s := Same.eqv (keep_stopInRom s) h
theorem keep_step11 (s : State) : Same 512 s (step11 s) := by unfold step11; simp (disch := decide) only [same_refl, same_ite, ite_self, same_beginPhase]
theorem same_step11 {m' : Nat} {s' : State} {s : State} (h : m' &&& 512 = 512) : Same m' s' (step11 s) = Same m' s' s := Same.eqv (keep_step11 s) h
theorem keep_execFusesRead (s : State) {t' : State} (h : execFusesRead s = .next t') : Same 134224400 s t' := by unfold execFusesRead at h; (try simp only [act, actF] at h); cases h; simp (disch := decide) only [same_refl, same_ite, ite_self, same_up_boot, same_setFlag, same_beginPhase, same_stopInRom, same_makerModes, same_noteFault]
theorem keep_execSramInitDone (s : State) {t' : State} (h : execSramInitDone s = .next t') : Same 67109376 s t' := by unfold execSramInitDone at h; (try simp only [act, actF] at h); cases h; simp (disch := decide) only [same_refl, same_ite, ite_self, same_up_boot, same_zeroBanks]
theorem keep_firmwareUp (bank : ℕ) (s : State) : Same 37804544 s (firmwareUp bank s) := by unfold firmwareUp; simp (disch := decide) only [same_refl, same_ite, ite_self, same_up_boot_sec, same_seedCentral, same_seedLanes, same_drawHashKey, same_startSource]
theorem same_firmwareUp {m' : Nat} {s' : State} {bank : ℕ} {s : State} (h : m' &&& 37804544 = 37804544) : Same m' s' (firmwareUp bank s) = Same m' s' s := Same.eqv (keep_firmwareUp bank s) h
theorem keep_execFirmwareAuthDone (ok0 : Bool) (ok1 : Bool) (s : State) {t' : State} (h : execFirmwareAuthDone ok0 ok1 s = .next t') : Same 172022290 s t' := by unfold execFirmwareAuthDone at h; (try simp only [act, actF] at h); cases h; simp (disch := decide) only [same_refl, same_ite, ite_self, same_up_boot, same_stopInRom, same_raiseF, same_firmwareUp, same_draw, same_noteFault]
theorem keep_acceptImage (p : CopyPos) (m : Image) (n : ℕ) (s : State) : Same 8590170624 s (acceptImage p m n s) := by unfold acceptImage; (try simp (disch := first | decide | (intros; (first | unfold IslSt.fencing | unfold IslSt.stepping | unfold Mgt.quiet | skip); first | rfl | (split <;> rfl)) | (intros; (try simp (disch := first | decide | (intros; (first | unfold IslSt.fencing | unfold IslSt.stepping | unfold Mgt.quiet | skip); first | rfl | (split <;> rfl)) | (intros; simp (disch := first | decide | (intros; (first | unfold IslSt.fencing | unfold IslSt.stepping | unfold Mgt.quiet | skip); first | rfl | (split <;> rfl))) only [same_refl, same_ite, ite_self, same_up_boot, same_acceptedEvent, same_step11, same_forAll, same_modEng_st, same_modEng])) only [same_refl, same_ite, ite_self, same_up_boot, same_acceptedEvent, same_step11, same_forAll, same_modEng_st, same_modEng]); repeat' (split <;> try simp (disch := first | decide | (intros; (first | unfold IslSt.fencing | unfold IslSt.stepping | unfold Mgt.quiet | skip); first | rfl | (split <;> rfl)) | (intros; simp (disch := first | decide | (intros; (first | unfold IslSt.fencing | unfold IslSt.stepping | unfold Mgt.quiet | skip); first | rfl | (split <;> rfl))) only [same_refl, same_ite, ite_self, same_up_boot, same_acceptedEvent, same_step11, same_forAll, same_modEng_st, same_modEng])) only [same_refl, same_ite, ite_self, same_up_boot, same_acceptedEvent, same_step11, same_forAll, same_modEng_st, same_modEng]); done)) only [same_refl, same_ite, ite_self, same_up_boot, same_acceptedEvent, same_step11, same_forAll, same_modEng_st, same_modEng]); repeat' (split <;> try simp (disch := first | decide | (intros; (first | unfold IslSt.fencing | unfold IslSt.stepping | unfold Mgt.quiet | skip); first | rfl | (split <;> rfl)) | (intros; (try simp (disch := first | decide | (intros; (first | unfold IslSt.fencing | unfold IslSt.stepping | unfold Mgt.quiet | skip); first | rfl | (split <;> rfl)) | (intros; simp (disch := first | decide | (intros; (first | unfold IslSt.fencing | unfold IslSt.stepping | unfold Mgt.quiet | skip); first | rfl | (split <;> rfl))) only [same_refl, same_ite, ite_self, same_up_boot, same_acceptedEvent, same_step11, same_forAll, same_modEng_st, same_modEng])) only [same_refl, same_ite, ite_self, same_up_boot, same_acceptedEvent, same_step11, same_forAll, same_modEng_st, same_modEng]); repeat' (split <;> try simp (disch := first | decide | (intros; (first | unfold IslSt.fencing | unfold IslSt.stepping | unfold Mgt.quiet | skip); first | rfl | (split <;> rfl)) | (intros; simp (disch := first | decide | (intros; (first | unfold IslSt.fencing | unfold IslSt.stepping | unfold Mgt.quiet | skip); first | rfl | (split <;> rfl))) only [same_refl, same_ite, ite_self, same_up_boot, same_acceptedEvent, same_step11, same_forAll, same_modEng_st, same_modEng])) only [same_refl, same_ite, ite_self, same_up_boot, same_acceptedEvent, same_step11, same_forAll, same_modEng_st, same_modEng]); done)) only [same_refl, same_ite, ite_self, same_up_boot, same_acceptedEvent, same_step11, same_forAll, same_modEng_st, same_modEng])
theorem same_acceptImage {m' : Nat} {s' : State} {p : CopyPos} {m : Image} {n : ℕ} {s : State} (h : m' &&& 8590170624 = 8590170624) : Same m' s' (acceptImage p m n s) = Same m' s' s := Same.eqv (keep_acceptImage p m n s) h
theorem keep_rejectImages (s : State) : Same 512 s (rejectImages s) := by unfold rejectImages; simp (disch := decide) only [same_refl, same_ite, ite_self, same_up_boot, same_step11]
theorem same_rejectImages {m' : Nat} {s' : State} {s : State} (h : m' &&& 512 = 512) : Same m' s' (rejectImages s) = Same m' s' s := Same.eqv (keep_rejectImages s) h
theorem keep_execImageCopyChecked (copy : List Byte) (rd : FlashRead) (s : State) {t' : State} (h : execImageCopyChecked copy rd s = .next t') : Same 8590170626 s t' := by unfold execImageCopyChecked at h; (try simp only [act, actF] at h); cases h; (try simp (disch := first | decide | (intros; (first | unfold IslSt.fencing | unfold IslSt.stepping | unfold Mgt.quiet | skip); first | rfl | (split <;> rfl)) | (intros; simp (disch := first | decide | (intros; (first | unfold IslSt.fencing | unfold IslSt.stepping | unfold Mgt.quiet | skip); first | rfl | (split <;> rfl))) only [same_refl, same_ite, ite_self, same_up_boot, same_readCopy, same_acceptImage, same_rejectImages, same_when, same_setFlag])) only [same_refl, same_ite, ite_self, same_up_boot, same_readCopy, same_acceptImage, same_rejectImages, same_when, same_setFlag]); repeat' (split <;> try simp (disch := first | decide | (intros; (first | unfold IslSt.fencing | unfold IslSt.stepping | unfold Mgt.quiet | skip); first | rfl | (split <;> rfl)) | (intros; simp (disch := first | decide | (intros; (first | unfold IslSt.fencing | unfold IslSt.stepping | unfold Mgt.quiet | skip); first | rfl | (split <;> rfl))) only [same_refl, same_ite, ite_self, same_up_boot, same_readCopy, same_acceptImage, same_rejectImages, same_when, same_setFlag])) only [same_refl, same_ite, ite_self, same_up_boot, same_readCopy, same_acceptImage, same_rejectImages, same_when, same_setFlag])
theorem keep_loadCal (e : Eng) (rx : Bool) (s : State) : Same 235520 s (loadCal e rx s) := by unfold loadCal; (try simp (disch := first | decide | (intros; (first | unfold IslSt.fencing | unfold IslSt.stepping | unfold Mgt.quiet | skip); first | rfl | (split <;> rfl)) | (intros; simp (disch := first | decide | (intros; (first | unfold IslSt.fencing | unfold IslSt.stepping | unfold Mgt.quiet | skip); first | rfl | (split <;> rfl))) only [same_refl, same_ite, ite_self, same_modCal, same_raiseF])) only [same_refl, same_ite, ite_self, same_modCal, same_raiseF]); repeat' (split <;> try simp (disch := first | decide | (intros; (first | unfold IslSt.fencing | unfold IslSt.stepping | unfold Mgt.quiet | skip); first | rfl | (split <;> rfl)) | (intros; simp (disch := first | decide | (intros; (first | unfold IslSt.fencing | unfold IslSt.stepping | unfold Mgt.quiet | skip); first | rfl | (split <;> rfl))) only [same_refl, same_ite, ite_self, same_modCal, same_raiseF])) only [same_refl, same_ite, ite_self, same_modCal, same_raiseF])
theorem same_loadCal {m' : Nat} {s' : State} {e : Eng} {rx : Bool} {s : State} (h : m' &&& 235520 = 235520) : Same m' s' (loadCal e rx s) = Same m' s' s := Same.eqv (keep_loadCal e rx s) h
theorem keep_execCalRecordsChecked (s : State) {t' : State} (h : execCalRecordsChecked s = .next t') : Same 236032 s t' := by unfold execCalRecordsChecked at h; (try simp only [act, actF] at h); cases h; simp (disch := first | decide | (intros; (first | unfold IslSt.fencing | unfold IslSt.stepping | unfold Mgt.quiet | skip); first | rfl | (split <;> rfl)) | (intros; simp (disch := first | decide | (intros; (first | unfold IslSt.fencing | unfold IslSt.stepping | unfold Mgt.quiet | skip); first | rfl | (split <;> rfl))) only [same_refl, same_ite, ite_self, same_up_boot, same_forAll, same_loadCal, same_beginPhase, same_step11])) only [same_refl, same_ite, ite_self, same_up_boot, same_forAll, same_loadCal, same_beginPhase, same_step11]
theorem keep_execDramReady (s : State) {t' : State} (h : execDramReady s = .next t') : Same 1073742336 s t' := by unfold execDramReady at h; (try simp only [act, actF] at h); cases h; simp (disch := decide) only [same_refl, same_ite, ite_self, same_up_boot, same_beginSuite, same_beginPhase]
theorem keep_execQuickSuiteDone (s : State) {t' : State} (h : execQuickSuiteDone s = .next t') : Same 1073978114 s t' := by unfold execQuickSuiteDone at h; (try simp only [act, actF] at h); cases h; simp (disch := first | decide | (intros; (first | unfold IslSt.fencing | unfold IslSt.stepping | unfold Mgt.quiet | skip); first | rfl | (split <;> rfl)) | (intros; simp (disch := first | decide | (intros; (first | unfold IslSt.fencing | unfold IslSt.stepping | unfold Mgt.quiet | skip); first | rfl | (split <;> rfl))) only [same_refl, same_ite, ite_self, same_up_boot_bist, same_modEng_st, same_modEng, same_raise, same_beginPhase, same_setFlag, same_when, same_forAll, same_writeRec, same_closeSuite])) only [same_refl, same_ite, ite_self, same_up_boot_bist, same_modEng_st, same_modEng, same_raise, same_beginPhase, same_setFlag, same_when, same_forAll, same_writeRec, same_closeSuite]
theorem keep_execContextInitDone (s : State) {t' : State} (h : execContextInitDone s = .next t') : Same 512 s t' := by unfold execContextInitDone at h; (try simp only [act, actF] at h); cases h; simp (disch := decide) only [same_refl, same_ite, ite_self, same_up_boot, same_step11, same_beginPhase]
theorem keep_execDramInitDone (s : State) {t' : State} (h : execDramInitDone s = .next t') : Same 512 s t' := by unfold execDramInitDone at h; (try simp only [act, actF] at h); cases h; simp (disch := decide) only [same_refl, same_ite, ite_self, same_up_boot]
theorem keep_applyImage (s : State) : Same 653985282 s (applyImage s) := by unfold applyImage; (try simp (disch := first | decide | (intros; (first | unfold IslSt.fencing | unfold IslSt.stepping | unfold Mgt.quiet | skip); first | rfl | (split <;> rfl)) | (intros; simp (disch := first | decide | (intros; (first | unfold IslSt.fencing | unfold IslSt.stepping | unfold Mgt.quiet | skip); first | rfl | (split <;> rfl)) | (intros; simp (disch := first | decide | (intros; (first | unfold IslSt.fencing | unfold IslSt.stepping | unfold Mgt.quiet | skip); first | rfl | (split <;> rfl))) only [same_refl, same_ite, ite_self, same_loadShared, same_takeRecs, same_judgeAgain, same_loadModule, same_setBanks])) only [same_refl, same_ite, ite_self, same_loadShared, same_takeRecs, same_judgeAgain, same_loadModule, same_setBanks])) only [same_refl, same_ite, ite_self, same_loadShared, same_takeRecs, same_judgeAgain, same_loadModule, same_setBanks]); repeat' (split <;> try simp (disch := first | decide | (intros; (first | unfold IslSt.fencing | unfold IslSt.stepping | unfold Mgt.quiet | skip); first | rfl | (split <;> rfl)) | (intros; simp (disch := first | decide | (intros; (first | unfold IslSt.fencing | unfold IslSt.stepping | unfold Mgt.quiet | skip); first | rfl | (split <;> rfl)) | (intros; simp (disch := first | decide | (intros; (first | unfold IslSt.fencing | unfold IslSt.stepping | unfold Mgt.quiet | skip); first | rfl | (split <;> rfl))) only [same_refl, same_ite, ite_self, same_loadShared, same_takeRecs, same_judgeAgain, same_loadModule, same_setBanks])) only [same_refl, same_ite, ite_self, same_loadShared, same_takeRecs, same_judgeAgain, same_loadModule, same_setBanks])) only [same_refl, same_ite, ite_self, same_loadShared, same_takeRecs, same_judgeAgain, same_loadModule, same_setBanks])
theorem same_applyImage {m' : Nat} {s' : State} {s : State} (h : m' &&& 653985282 = 653985282) : Same m' s' (applyImage s) = Same m' s' s := Same.eqv (keep_applyImage s) h
theorem keep_engAtReady (e : Eng) (x : EngSt) (s : State) : Same 9134668418 s (engAtReady e x s) := by unfold engAtReady; simp (disch := decide) only [same_refl, same_ite, ite_self, same_engTune, same_engFail, same_engFailEvent]
theorem same_engAtReady {m' : Nat} {s' : State} {e : Eng} {x : EngSt} {s : State} (h : m' &&& 9134668418 = 9134668418) : Same m' s' (engAtReady e x s) = Same m' s' s := Same.eqv (keep_engAtReady e x s) h
theorem keep_makeDrk (s : State) : Same 33554560 s (makeDrk s) := by unfold makeDrk; simp (disch := decide) only [same_refl, same_ite, ite_self, same_up_fuse, same_shake]
theorem same_makeDrk {m' : Nat} {s' : State} {s : State} (h : m' &&& 33554560 = 33554560) : Same m' s' (makeDrk s) = Same m' s' s := Same.eqv (keep_makeDrk s) h
theorem keep_portsAtReady (s : State) : Same 16777216 s (portsAtReady s) := by unfold portsAtReady; simp (disch := first | decide | (intros; (first | unfold IslSt.fencing | unfold IslSt.stepping | unfold Mgt.quiet | skip); first | rfl | (split <;> rfl)) | (intros; simp (disch := first | decide | (intros; (first | unfold IslSt.fencing | unfold IslSt.stepping | unfold Mgt.quiet | skip); first | rfl | (split <;> rfl))) only [same_refl, same_ite, ite_self, same_forAll, same_toWaitRef])) only [same_refl, same_ite, ite_self, same_forAll, same_toWaitRef]
theorem same_portsAtReady {m' : Nat} {s' : State} {s : State} (h : m' &&& 16777216 = 16777216) : Same m' s' (portsAtReady s) = Same m' s' s := Same.eqv (keep_portsAtReady s) h
theorem keep_execModuleReady (s : State) {t' : State} (h : execModuleReady s = .next t') : Same 9395240882 s t' := by unfold execModuleReady at h; (try simp only [act, actF] at h); cases h; simp (disch := first | decide | (intros; (first | unfold IslSt.fencing | unfold IslSt.stepping | unfold Mgt.quiet | skip); first | rfl | (split <;> rfl)) | (intros; simp (disch := first | decide | (intros; (first | unfold IslSt.fencing | unfold IslSt.stepping | unfold Mgt.quiet | skip); first | rfl | (split <;> rfl))) only [same_refl, same_ite, ite_self, same_up_pwr_pins_boot, same_engAtReady, same_forAll, same_beginPhase, same_portsAtReady, same_raise, same_writeRec, same_applyImage, same_makeDrk, same_noteFault])) only [same_refl, same_ite, ite_self, same_up_pwr_pins_boot, same_engAtReady, same_forAll, same_beginPhase, same_portsAtReady, same_raise, same_writeRec, same_applyImage, same_makeDrk, same_noteFault]
theorem keep_execEngineLasersLocked (e : Eng) (s : State) {t' : State} (h : execEngineLasersLocked e s = .next t') : Same 8590131200 s t' := by unfold execEngineLasersLocked at h; (try simp only [act, actF] at h); cases h; simp (disch := decide) only [same_refl, same_ite, ite_self, same_modDown, same_modCal, same_modEng_st, same_modEng]
theorem keep_execEngineTuneTimeout (e : Eng) (s : State) {t' : State} (h : execEngineTuneTimeout e s = .next t') : Same 11811158674 s t' := by unfold execEngineTuneTimeout at h; (try simp only [act, actF] at h); cases h; simp (disch := first | decide | (intros; (first | unfold IslSt.fencing | unfold IslSt.stepping | unfold Mgt.quiet | skip); first | rfl | (split <;> rfl)) | (intros; simp (disch := first | decide | (intros; (first | unfold IslSt.fencing | unfold IslSt.stepping | unfold Mgt.quiet | skip); first | rfl | (split <;> rfl))) only [same_refl, same_ite, ite_self, same_engFail, same_watchFail, same_noteFault])) only [same_refl, same_ite, ite_self, same_engFail, same_watchFail, same_noteFault]
theorem keep_execCalibrationDone (e : Eng) (s : State) {t' : State} (h : execCalibrationDone e s = .next t') : Same 9134668418 s t' := by unfold execCalibrationDone at h; (try simp only [act, actF] at h); cases h; simp (disch := decide) only [same_refl, same_ite, ite_self, same_engCalibrated]
theorem keep_execEngineRampComplete (e : Eng) (fuseOk : Bool) (s : State) {t' : State} (h : execEngineRampComplete e fuseOk s = .next t') : Same 9134668418 s t' := by unfold execEngineRampComplete at h; (try simp only [act, actF] at h); cases h; simp (disch := first | decide | (intros; (first | unfold IslSt.fencing | unfold IslSt.stepping | unfold Mgt.quiet | skip); first | rfl | (split <;> rfl)) | (intros; simp (disch := first | decide | (intros; (first | unfold IslSt.fencing | unfold IslSt.stepping | unfold Mgt.quiet | skip); first | rfl | (split <;> rfl))) only [same_refl, same_ite, ite_self, same_modEng_st, same_modEng, same_apsUpdate, same_engTry, same_forAll, same_trafficRise, same_raise])) only [same_refl, same_ite, ite_self, same_modEng_st, same_modEng, same_apsUpdate, same_engTry, same_forAll, same_trafficRise, same_raise]
theorem keep_execEngineStartTimeout (e : Eng) (s : State) {t' : State} (h : execEngineStartTimeout e s = .next t') : Same 11811158674 s t' := by unfold execEngineStartTimeout at h; (try simp only [act, actF] at h); cases h; simp (disch := first | decide | (intros; (first | unfold IslSt.fencing | unfold IslSt.stepping | unfold Mgt.quiet | skip); first | rfl | (split <;> rfl)) | (intros; simp (disch := first | decide | (intros; (first | unfold IslSt.fencing | unfold IslSt.stepping | unfold Mgt.quiet | skip); first | rfl | (split <;> rfl))) only [same_refl, same_ite, ite_self, same_engFail, same_watchFail, same_noteFault])) only [same_refl, same_ite, ite_self, same_engFail, same_watchFail, same_noteFault]
theorem keep_writeBootCtl (v : W32) (s : State) : Same 68719476600 s (writeBootCtl v s).1 := by unfold writeBootCtl; simp (disch := first | decide | (intros; (first | unfold IslSt.fencing | unfold IslSt.stepping | unfold Mgt.quiet | skip); first | rfl | (split <;> rfl)) | (intros; simp (disch := first | decide | (intros; (first | unfold IslSt.fencing | unfold IslSt.stepping | unfold Mgt.quiet | skip); first | rfl | (split <;> rfl))) only [same_refl, same_ite, ite_self, same_restart, same_refuseOr])) only [same_refl, same_ite, ite_self, same_restart, same_refuseOr]
theorem same_writeBootCtl {m' : Nat} {s' : State} {v : W32} {s : State} (h : m' &&& 68719476600 = 68719476600) : Same m' s' (writeBootCtl v s).1 = Same m' s' s := Same.eqv (keep_writeBootCtl v s) h
theorem keep_execBootCtlRestart (v : W32) (s : State) {t' : State} (h : execBootCtlRestart v s = .next t') : Same 68719476604 s t' := by unfold execBootCtlRestart at h; (try simp only [act, actF] at h); cases h; simp (disch := decide) only [same_refl, same_ite, ite_self, same_setStatus, same_noteFault, same_writeBootCtl]

end Sys2Proof.Machine
end

