-- ==== Sys2Proof/Laws/FrameRegisters.lean ====
section
/-! SUPPORT. Which parts of the state each function of Machine/Registers.lean leaves alone, as the bit mask of the others. -/

namespace Sys2Proof.Machine

set_option linter.unusedSimpArgs false
set_option linter.unusedTactic false
set_option linter.unreachableTactic false

theorem keep_collectEvent (s : State) : Same 134217728 s (collectEvent s) := by unfold collectEvent; simp (disch := first | decide | (intros; (first | unfold IslSt.fencing | unfold IslSt.stepping | unfold Mgt.quiet | skip); first | rfl | (split <;> rfl)) | (intros; simp (disch := first | decide | (intros; (first | unfold IslSt.fencing | unfold IslSt.stepping | unfold Mgt.quiet | skip); first | rfl | (split <;> rfl))) only [same_refl, same_ite, ite_self, same_uq_mgt])) only [same_refl, same_ite, ite_self, same_uq_mgt]
theorem same_collectEvent {m' : Nat} {s' : State} {s : State} (h : m' &&& 134217728 = 134217728) : Same m' s' (collectEvent s) = Same m' s' s := Same.eqv (keep_collectEvent s) h
theorem keep_collectFault (s : State) : Same 134217728 s (collectFault s) := by unfold collectFault; simp (disch := first | decide | (intros; (first | unfold IslSt.fencing | unfold IslSt.stepping | unfold Mgt.quiet | skip); first | rfl | (split <;> rfl)) | (intros; simp (disch := first | decide | (intros; (first | unfold IslSt.fencing | unfold IslSt.stepping | unfold Mgt.quiet | skip); first | rfl | (split <;> rfl))) only [same_refl, same_ite, ite_self, same_uq_mgt])) only [same_refl, same_ite, ite_self, same_uq_mgt]
theorem same_collectFault {m' : Nat} {s' : State} {s : State} (h : m' &&& 134217728 = 134217728) : Same m' s' (collectFault s) = Same m' s' s := Same.eqv (keep_collectFault s) h
theorem keep_readLast (e : Eng) (i : ℕ) (w : ℕ) (s : State) : Same 17314086912 s (readLast e i w s).2 := by unfold readLast; (try simp (disch := decide) only [same_refl, same_ite, ite_self, same_up_mgt]); repeat' (split <;> try simp (disch := decide) only [same_refl, same_ite, ite_self, same_up_mgt])
theorem same_readLast {m' : Nat} {s' : State} {e : Eng} {i : ℕ} {w : ℕ} {s : State} (h : m' &&& 17314086912 = 17314086912) : Same m' s' (readLast e i w s).2 = Same m' s' s := Same.eqv (keep_readLast e i w s) h
theorem keep_readIc (k : ℕ) (w : ℕ) (s : State) : Same 33554432 s (readIc k w s).2 := by unfold readIc; (try simp (disch := first | decide | (intros; (first | unfold IslSt.fencing | unfold IslSt.stepping | unfold Mgt.quiet | skip); first | rfl | (split <;> rfl)) | (intros; simp (disch := first | decide | (intros; (first | unfold IslSt.fencing | unfold IslSt.stepping | unfold Mgt.quiet | skip); first | rfl | (split <;> rfl))) only [same_refl, same_ite, ite_self, same_up_sec])) only [same_refl, same_ite, ite_self, same_up_sec]); repeat' (split <;> try simp (disch := first | decide | (intros; (first | unfold IslSt.fencing | unfold IslSt.stepping | unfold Mgt.quiet | skip); first | rfl | (split <;> rfl)) | (intros; simp (disch := first | decide | (intros; (first | unfold IslSt.fencing | unfold IslSt.stepping | unfold Mgt.quiet | skip); first | rfl | (split <;> rfl))) only [same_refl, same_ite, ite_self, same_up_sec])) only [same_refl, same_ite, ite_self, same_up_sec])
theorem same_readIc {m' : Nat} {s' : State} {k : ℕ} {w : ℕ} {s : State} (h : m' &&& 33554432 = 33554432) : Same m' s' (readIc k w s).2 = Same m' s' s := Same.eqv (keep_readIc k w s) h
theorem keep_readNow (r : Reg) (s : State) : Same 8388608 s (readNow r s).2 := by unfold readNow; (try simp (disch := first | decide | (intros; (first | unfold IslSt.fencing | unfold IslSt.stepping | unfold Mgt.quiet | skip); first | rfl | (split <;> rfl)) | (intros; simp (disch := first | decide | (intros; (first | unfold IslSt.fencing | unfold IslSt.stepping | unfold Mgt.quiet | skip); first | rfl | (split <;> rfl))) only [same_refl, same_ite, ite_self, same_up_tod, same_latchTodNow])) only [same_refl, same_ite, ite_self, same_up_tod, same_latchTodNow]); repeat' (split <;> try simp (disch := first | decide | (intros; (first | unfold IslSt.fencing | unfold IslSt.stepping | unfold Mgt.quiet | skip); first | rfl | (split <;> rfl)) | (intros; simp (disch := first | decide | (intros; (first | unfold IslSt.fencing | unfold IslSt.stepping | unfold Mgt.quiet | skip); first | rfl | (split <;> rfl))) only [same_refl, same_ite, ite_self, same_up_tod, same_latchTodNow])) only [same_refl, same_ite, ite_self, same_up_tod, same_latchTodNow])
theorem same_readNow {m' : Nat} {s' : State} {r : Reg} {s : State} (h : m' &&& 8388608 = 8388608) : Same m' s' (readNow r s).2 = Same m' s' s := Same.eqv (keep_readNow r s) h
theorem keep_readHead (hi : Bool) (s : State) : Same 17314086912 s (readHead hi s).2 := by unfold readHead; (try simp (disch := decide) only [same_refl, same_ite, ite_self, same_up_mgt, same_collectEvent]); repeat' (split <;> try simp (disch := decide) only [same_refl, same_ite, ite_self, same_up_mgt, same_collectEvent])
theorem same_readHead {m' : Nat} {s' : State} {hi : Bool} {s : State} (h : m' &&& 17314086912 = 17314086912) : Same m' s' (readHead hi s).2 = Same m' s' s := Same.eqv (keep_readHead hi s) h
theorem keep_fetchReg (a : RegAt) (s : State) : Same 17356029952 s (fetchReg a s).2 := by unfold fetchReg; (try simp (disch := first | decide | (intros; (first | unfold IslSt.fencing | unfold IslSt.stepping | unfold Mgt.quiet | skip); first | rfl | (split <;> rfl)) | (intros; simp (disch := first | decide | (intros; (first | unfold IslSt.fencing | unfold IslSt.stepping | unfold Mgt.quiet | skip); first | rfl | (split <;> rfl))) only [same_refl, same_ite, ite_self, same_readLast, same_readIc, same_readNow, same_readHead, same_collectFault])) only [same_refl, same_ite, ite_self, same_readLast, same_readIc, same_readNow, same_readHead, same_collectFault]); repeat' (split <;> try simp (disch := first | decide | (intros; (first | unfold IslSt.fencing | unfold IslSt.stepping | unfold Mgt.quiet | skip); first | rfl | (split <;> rfl)) | (intros; simp (disch := first | decide | (intros; (first | unfold IslSt.fencing | unfold IslSt.stepping | unfold Mgt.quiet | skip); first | rfl | (split <;> rfl))) only [same_refl, same_ite, ite_self, same_readLast, same_readIc, same_readNow, same_readHead, same_collectFault])) only [same_refl, same_ite, ite_self, same_readLast, same_readIc, same_readNow, same_readHead, same_collectFault])
theorem same_fetchReg {m' : Nat} {s' : State} {a : RegAt} {s : State} (h : m' &&& 17356029952 = 17356029952) : Same m' s' (fetchReg a s).2 = Same m' s' s := Same.eqv (keep_fetchReg a s) h
theorem keep_fetchPlace (p : Place) (s : State) : Same 17356029954 s (fetchPlace p s).2 := by unfold fetchPlace; (try simp (disch := decide) only [same_refl, same_ite, ite_self, same_up_free, same_fetchReg]); repeat' (split <;> try simp (disch := decide) only [same_refl, same_ite, ite_self, same_up_free, same_fetchReg])
theorem same_fetchPlace {m' : Nat} {s' : State} {p : Place} {s : State} (h : m' &&& 17356029954 = 17356029954) : Same m' s' (fetchPlace p s).2 = Same m' s' s := Same.eqv (keep_fetchPlace p s) h
theorem keep_afterSetting (a : RegAt) (v : W32) (s : State) : Same 83886082 s (afterSetting a v s) := by unfold afterSetting; (try simp (disch := decide) only [same_refl, same_ite, ite_self, same_up_mem, same_enterMode]); repeat' (split <;> try simp (disch := decide) only [same_refl, same_ite, ite_self, same_up_mem, same_enterMode])
theorem same_afterSetting {m' : Nat} {s' : State} {a : RegAt} {v : W32} {s : State} (h : m' &&& 83886082 = 83886082) : Same m' s' (afterSetting a v s) = Same m' s' s := Same.eqv (keep_afterSetting a v s) h
theorem keep_writeSetting (a : RegAt) (v : W32) (s : State) : Same 629398530 s (writeSetting a v s).1 := by unfold writeSetting; (try simp (disch := first | decide | (intros; (first | unfold IslSt.fencing | unfold IslSt.stepping | unfold Mgt.quiet | skip); first | rfl | (split <;> rfl)) | (intros; simp (disch := first | decide | (intros; (first | unfold IslSt.fencing | unfold IslSt.stepping | unfold Mgt.quiet | skip); first | rfl | (split <;> rfl)) | (intros; simp (disch := first | decide | (intros; (first | unfold IslSt.fencing | unfold IslSt.stepping | unfold Mgt.quiet | skip); first | rfl | (split <;> rfl))) only [same_refl, same_ite, ite_self, same_storeSetting, same_afterSetting, same_when, same_refuseOr, same_writeClnLane, same_writeClnPort, same_writeGrpFmt, same_writeGrpEn])) only [same_refl, same_ite, ite_self, same_storeSetting, same_afterSetting, same_when, same_refuseOr, same_writeClnLane, same_writeClnPort, same_writeGrpFmt, same_writeGrpEn])) only [same_refl, same_ite, ite_self, same_storeSetting, same_afterSetting, same_when, same_refuseOr, same_writeClnLane, same_writeClnPort, same_writeGrpFmt, same_writeGrpEn]); repeat' (split <;> try simp (disch := first | decide | (intros; (first | unfold IslSt.fencing | unfold IslSt.stepping | unfold Mgt.quiet | skip); first | rfl | (split <;> rfl)) | (intros; simp (disch := first | decide | (intros; (first | unfold IslSt.fencing | unfold IslSt.stepping | unfold Mgt.quiet | skip); first | rfl | (split <;> rfl)) | (intros; simp (disch := first | decide | (intros; (first | unfold IslSt.fencing | unfold IslSt.stepping | unfold Mgt.quiet | skip); first | rfl | (split <;> rfl))) only [same_refl, same_ite, ite_self, same_storeSetting, same_afterSetting, same_when, same_refuseOr, same_writeClnLane, same_writeClnPort, same_writeGrpFmt, same_writeGrpEn])) only [same_refl, same_ite, ite_self, same_storeSetting, same_afterSetting, same_when, same_refuseOr, same_writeClnLane, same_writeClnPort, same_writeGrpFmt, same_writeGrpEn])) only [same_refl, same_ite, ite_self, same_storeSetting, same_afterSetting, same_when, same_refuseOr, same_writeClnLane, same_writeClnPort, same_writeGrpFmt, same_writeGrpEn])
theorem same_writeSetting {m' : Nat} {s' : State} {a : RegAt} {v : W32} {s : State} (h : m' &&& 629398530 = 629398530) : Same m' s' (writeSetting a v s).1 = Same m' s' s := Same.eqv (keep_writeSetting a v s) h
theorem keep_writeTallyMode (k : ℕ) (v : W32) (s : State) : Same 536870912 s (writeTallyMode k v s).1 := by unfold writeTallyMode; simp (disch := first | decide | (intros; (first | unfold IslSt.fencing | unfold IslSt.stepping | unfold Mgt.quiet | skip); first | rfl | (split <;> rfl)) | (intros; simp (disch := first | decide | (intros; (first | unfold IslSt.fencing | unfold IslSt.stepping | unfold Mgt.quiet | skip); first | rfl | (split <;> rfl))) only [same_refl, same_ite, ite_self, same_up_tally, same_refuseOr])) only [same_refl, same_ite, ite_self, same_up_tally, same_refuseOr]
theorem same_writeTallyMode {m' : Nat} {s' : State} {k : ℕ} {v : W32} {s : State} (h : m' &&& 536870912 = 536870912) : Same m' s' (writeTallyMode k v s).1 = Same m' s' s := Same.eqv (keep_writeTallyMode k v s) h
theorem keep_writeOwn (a : RegAt) (v : W32) (s : State) : Same 68719476728 s (writeOwn a v s).1 := by unfold writeOwn; (try simp (disch := decide) only [same_refl, same_ite, ite_self, same_writeCtr1, same_writeCtr0, same_writeSset, same_writeBistCtl, same_writeIslCmd, same_writeEngCtl, same_writeUpdCtl, same_writeTallyMode, same_writeTallyCtl, same_writeMemMove, same_writeLcCmd, same_writeProvCmd, same_writeProvHash, same_writeKeyCmd, same_writeCalCtl, same_writeApsCmd, same_writeTodSetLo, same_writeTodSetHi, same_writeBootCtl]); repeat' (split <;> try simp (disch := decide) only [same_refl, same_ite, ite_self, same_writeCtr1, same_writeCtr0, same_writeSset, same_writeBistCtl, same_writeIslCmd, same_writeEngCtl, same_writeUpdCtl, same_writeTallyMode, same_writeTallyCtl, same_writeMemMove, same_writeLcCmd, same_writeProvCmd, same_writeProvHash, same_writeKeyCmd, same_writeCalCtl, same_writeApsCmd, same_writeTodSetLo, same_writeTodSetHi, same_writeBootCtl])
theorem same_writeOwn {m' : Nat} {s' : State} {a : RegAt} {v : W32} {s : State} (h : m' &&& 68719476728 = 68719476728) : Same m' s' (writeOwn a v s).1 = Same m' s' s := Same.eqv (keep_writeOwn a v s) h
theorem keep_writeReg (a : RegAt) (v : W32) (setNow : W32) (s : State) : Same 68719476730 s (writeReg a v setNow s).1 := by unfold writeReg; (try simp (disch := first | decide | (intros; (first | unfold IslSt.fencing | unfold IslSt.stepping | unfold Mgt.quiet | skip); first | rfl | (split <;> rfl)) | (intros; simp (disch := first | decide | (intros; (first | unfold IslSt.fencing | unfold IslSt.stepping | unfold Mgt.quiet | skip); first | rfl | (split <;> rfl))) only [same_refl, same_ite, ite_self, same_writeOwn, same_writeSetting, same_w1cWrite, same_refuseOr])) only [same_refl, same_ite, ite_self, same_writeOwn, same_writeSetting, same_w1cWrite, same_refuseOr]); repeat' (split <;> try simp (disch := first | decide | (intros; (first | unfold IslSt.fencing | unfold IslSt.stepping | unfold Mgt.quiet | skip); first | rfl | (split <;> rfl)) | (intros; simp (disch := first | decide | (intros; (first | unfold IslSt.fencing | unfold IslSt.stepping | unfold Mgt.quiet | skip); first | rfl | (split <;> rfl))) only [same_refl, same_ite, ite_self, same_writeOwn, same_writeSetting, same_w1cWrite, same_refuseOr])) only [same_refl, same_ite, ite_self, same_writeOwn, same_writeSetting, same_w1cWrite, same_refuseOr])
theorem same_writeReg {m' : Nat} {s' : State} {a : RegAt} {v : W32} {setNow : W32} {s : State} (h : m' &&& 68719476730 = 68719476730) : Same m' s' (writeReg a v setNow s).1 = Same m' s' s := Same.eqv (keep_writeReg a v setNow s) h
theorem keep_writeLeaf (a : LeafAt) (v : W32) (s : State) : Same 577501184 s (writeLeaf a v s).1 := by unfold writeLeaf; (try simp (disch := decide) only [same_refl, same_ite, ite_self, same_writeLeafSerial, same_writeLeafGrp, same_writeLeafCtl, same_writeLeafState]); repeat' (split <;> try simp (disch := decide) only [same_refl, same_ite, ite_self, same_writeLeafSerial, same_writeLeafGrp, same_writeLeafCtl, same_writeLeafState])
theorem same_writeLeaf {m' : Nat} {s' : State} {a : LeafAt} {v : W32} {s : State} (h : m' &&& 577501184 = 577501184) : Same m' s' (writeLeaf a v s).1 = Same m' s' s := Same.eqv (keep_writeLeaf a v s) h
theorem keep_writePlace (p : Place) (v : W32) (s : State) : Same 68719476730 s (writePlace p v s).1 := by unfold writePlace; (try simp (disch := decide) only [same_refl, same_ite, ite_self, same_writeStage, same_writeScratch, same_writeFlow, same_writeLeaf, same_writeReg]); repeat' (split <;> try simp (disch := decide) only [same_refl, same_ite, ite_self, same_writeStage, same_writeScratch, same_writeFlow, same_writeLeaf, same_writeReg])
theorem same_writePlace {m' : Nat} {s' : State} {p : Place} {v : W32} {s : State} (h : m' &&& 68719476730 = 68719476730) : Same m' s' (writePlace p v s).1 = Same m' s' s := Same.eqv (keep_writePlace p v s) h
theorem keep_writeAt (adr : ℕ) (v : W32) (s : State) : Same 68719476730 s (writeAt adr v s).1 := by unfold writeAt; (try simp (disch := decide) only [same_refl, same_ite, ite_self, same_writePlace]); repeat' (split <;> try simp (disch := decide) only [same_refl, same_ite, ite_self, same_writePlace])
theorem same_writeAt {m' : Nat} {s' : State} {adr : ℕ} {v : W32} {s : State} (h : m' &&& 68719476730 = 68719476730) : Same m' s' (writeAt adr v s).1 = Same m' s' s := Same.eqv (keep_writeAt adr v s) h
theorem keep_execRegisterWrite (adr : W32) (v : W32) (s : State) {t' : State} (h : execRegisterWrite adr v s = .next t') : Same 68719476734 s t' := by unfold execRegisterWrite at h; (try simp only [act, actF] at h); cases h; simp (disch := decide) only [same_refl, same_ite, ite_self, same_noteFault, same_setStatus, same_writeAt]
theorem keep_execFlagW1cWrite (adr : W32) (v : W32) (setNow : W32) (s : State) {t' : State} (h : execFlagW1cWrite adr v setNow s = .next t') : Same 68719476734 s t' := by
  have hs : ∀ u : State, Same 68719476734 u u := fun u => (same_refl _ _).mpr trivial
  unfold execFlagW1cWrite at h
  split at h
  · cases h; exact (same_setStatus (by decide)).mpr (hs s)
  · split at h
    · cases h
      refine (same_setStatus (by decide)).mpr ?_
      split
      · exact (same_writeReg (by decide)).mpr (hs s)
      · exact (same_w1cWrite (by decide)).mpr (hs s)
    all_goals (cases h; exact (same_setStatus (by decide)).mpr (hs s))

theorem keep_readOne (p : Place) (s : State) {t' : State} (h : readOne p s = .next t') : Same 17356029962 s t' := by unfold readOne at h; (try simp only [act, actF] at h); cases h; simp (disch := decide) only [same_refl, same_ite, ite_self, same_up_got, same_fetchPlace]
theorem keep_execBrxLastReadLatch (e : Eng) (sc : Sc) (s : State) {t' : State} (h : execBrxLastReadLatch e sc s = .next t') : Same 17356029962 s t' := keep_readOne _ s h
theorem keep_execSecSlotIcHiRead (k : KeySlotIx) (s : State) {t' : State} (h : execSecSlotIcHiRead k s = .next t') : Same 17356029962 s t' := keep_readOne _ s h
theorem keep_execEvtHeadHiRead (s : State) {t' : State} (h : execEvtHeadHiRead s = .next t') : Same 17356029962 s t' := keep_readOne _ s h
theorem keep_execEvtHeadLoRead (s : State) {t' : State} (h : execEvtHeadLoRead s = .next t') : Same 17356029962 s t' := keep_readOne _ s h
theorem keep_execMgtFaultRead (s : State) {t' : State} (h : execMgtFaultRead s = .next t') : Same 17356029962 s t' := keep_readOne _ s h

end Sys2Proof.Machine
end

