-- ==== Sys2Proof/Laws/FrameMgt.lean ====
section
/-! SUPPORT. Which parts of the state each function of Machine/Mgt.lean leaves alone, as the bit mask of the others. -/

namespace Sys2Proof.Machine

set_option linter.unusedSimpArgs false
set_option linter.unusedTactic false
set_option linter.unreachableTactic false

theorem keep_modMgt (f : Mgt → Mgt) (s : State) : Same 17314086912 s (modMgt f s) := by unfold modMgt; simp (disch := decide) only [same_refl, same_ite, ite_self, same_up_mgt]
theorem same_modMgt {m' : Nat} {s' : State} {f : Mgt → Mgt} {s : State} (h : m' &&& 17314086912 = 17314086912) : Same m' s' (modMgt f s) = Same m' s' s := Same.eqv (keep_modMgt f s) h
theorem keep_mgtEvent (code : ℕ) (obj : ℕ) (data : BitVec 80) (b : ℕ) (s : State) : Same 55296 s (mgtEvent code obj data b s) := by unfold mgtEvent; simp (disch := first | decide | (intros; (first | unfold IslSt.fencing | unfold IslSt.stepping | unfold Mgt.quiet | skip); first | rfl | (split <;> rfl)) | (intros; simp (disch := first | decide | (intros; (first | unfold IslSt.fencing | unfold IslSt.stepping | unfold Mgt.quiet | skip); first | rfl | (split <;> rfl))) only [same_refl, same_ite, ite_self, same_setFlag, same_oncePerSec, same_raise])) only [same_refl, same_ite, ite_self, same_setFlag, same_oncePerSec, same_raise]
theorem same_mgtEvent {m' : Nat} {s' : State} {code : ℕ} {obj : ℕ} {data : BitVec 80} {b : ℕ} {s : State} (h : m' &&& 55296 = 55296) : Same m' s' (mgtEvent code obj data b s) = Same m' s' s := Same.eqv (keep_mgtEvent code obj data b s) h
theorem keep_protoErr (kind : ℕ) (s : State) : Same 17314142208 s (protoErr kind s) := by unfold protoErr; simp (disch := decide) only [same_refl, same_ite, ite_self, same_modMgt, same_mgtEvent]
theorem same_protoErr {m' : Nat} {s' : State} {kind : ℕ} {s : State} (h : m' &&& 17314142208 = 17314142208) : Same m' s' (protoErr kind s) = Same m' s' s := Same.eqv (keep_protoErr kind s) h
theorem keep_applyWords : ∀ (k a : Nat) (d : List Byte) (n : Nat) (s : State), Same 68719476730 s (applyWords k a d n s).1
  | 0, _, _, _, _ => (same_refl _ _).mpr trivial
  | k + 1, a, d, n, s => by
    have hr : Same 68719476730 s (writeAt a (wordAt d 0) s).1 := (same_writeAt (by decide)).mpr ((same_refl _ _).mpr trivial)
    unfold applyWords; dsimp only; split
    · exact (same_refl _ _).mpr trivial
    · split
      · exact hr.trans (keep_applyWords k _ _ _ _)
      · exact hr

theorem same_applyWords {m' : Nat} {s' : State} {a0 : ℕ} {a1 : ℕ} {a2 : List Byte} {a3 : ℕ} {a4 : State} (h : m' &&& 68719476730 = 68719476730) : Same m' s' (applyWords a0 a1 a2 a3 a4).1 = Same m' s' a4 := Same.eqv (keep_applyWords a0 a1 a2 a3 a4) h
theorem keep_applyWrite (adr : ℕ) (data : List Byte) (s : State) : Same 68719476730 s (applyWrite adr data s).1 := by unfold applyWrite; (try simp (disch := decide) only [same_refl, same_ite, ite_self, same_applyWords, same_writeStage, same_writeScratch]); repeat' (split <;> try simp (disch := decide) only [same_refl, same_ite, ite_self, same_applyWords, same_writeStage, same_writeScratch])
theorem same_applyWrite {m' : Nat} {s' : State} {adr : ℕ} {data : List Byte} {s : State} (h : m' &&& 68719476730 = 68719476730) : Same m' s' (applyWrite adr data s).1 = Same m' s' s := Same.eqv (keep_applyWrite adr data s) h
theorem keep_noteWrite (c : Status) (n : ℕ) (s : State) : Same 17314086912 s (noteWrite c n s) := by unfold noteWrite; simp (disch := decide) only [same_refl, same_ite, ite_self, same_modMgt]
theorem same_noteWrite {m' : Nat} {s' : State} {c : Status} {n : ℕ} {s : State} (h : m' &&& 17314086912 = 17314086912) : Same m' s' (noteWrite c n s) = Same m' s' s := Same.eqv (keep_noteWrite c n s) h
theorem keep_privateWrite (adr : ℕ) (len : ℕ) (data : List Byte) (s : State) : Same 68719476730 s (privateWrite adr len data s) := by unfold privateWrite; simp (disch := decide) only [same_refl, same_ite, ite_self, same_noteWrite, same_applyWrite, same_protoErr]
theorem same_privateWrite {m' : Nat} {s' : State} {adr : ℕ} {len : ℕ} {data : List Byte} {s : State} (h : m' &&& 68719476730 = 68719476730) : Same m' s' (privateWrite adr len data s) = Same m' s' s := Same.eqv (keep_privateWrite adr len data s) h
theorem keep_execI3cPrivateWrite (adr : W32) (len : ℕ) (data : WriteXfer) (s : State) {t' : State} (h : execI3cPrivateWrite adr len data s = .next t') : Same 68719476730 s t' := by unfold execI3cPrivateWrite at h; (try simp only [act, actF] at h); cases h; (try simp (disch := decide) only [same_refl, same_ite, ite_self, same_protoErr, same_modMgt, same_privateWrite, same_noteFault]); repeat' (split <;> try simp (disch := decide) only [same_refl, same_ite, ite_self, same_protoErr, same_modMgt, same_privateWrite, same_noteFault])
theorem keep_setUp (adr : ℕ) (len : ℕ) (s : State) : Same 17314086912 s (setUp adr len s) := by unfold setUp; simp (disch := decide) only [same_refl, same_ite, ite_self, same_modMgt]
theorem same_setUp {m' : Nat} {s' : State} {adr : ℕ} {len : ℕ} {s : State} (h : m' &&& 17314086912 = 17314086912) : Same m' s' (setUp adr len s) = Same m' s' s := Same.eqv (keep_setUp adr len s) h
theorem keep_execI3cReadSetup (adr : W32) (len : ℕ) (s : State) {t' : State} (h : execI3cReadSetup adr len s = .next t') : Same 17314086912 s t' := by unfold execI3cReadSetup at h; (try simp only [act, actF] at h); cases h; simp (disch := decide) only [same_refl, same_ite, ite_self, same_setUp]
theorem keep_execI3cReadContinue (len : ℕ) (s : State) {t' : State} (h : execI3cReadContinue len s = .next t') : Same 17314086912 s t' := by unfold execI3cReadContinue at h; (try simp only [act, actF] at h); cases h; (try simp (disch := first | decide | (intros; (first | unfold IslSt.fencing | unfold IslSt.stepping | unfold Mgt.quiet | skip); first | rfl | (split <;> rfl)) | (intros; simp (disch := first | decide | (intros; (first | unfold IslSt.fencing | unfold IslSt.stepping | unfold Mgt.quiet | skip); first | rfl | (split <;> rfl))) only [same_refl, same_ite, ite_self, same_setUp, same_modMgt])) only [same_refl, same_ite, ite_self, same_setUp, same_modMgt]); repeat' (split <;> try simp (disch := first | decide | (intros; (first | unfold IslSt.fencing | unfold IslSt.stepping | unfold Mgt.quiet | skip); first | rfl | (split <;> rfl)) | (intros; simp (disch := first | decide | (intros; (first | unfold IslSt.fencing | unfold IslSt.stepping | unfold Mgt.quiet | skip); first | rfl | (split <;> rfl))) only [same_refl, same_ite, ite_self, same_setUp, same_modMgt])) only [same_refl, same_ite, ite_self, same_setUp, same_modMgt])
theorem keep_fetchWords (bad : Place → Bool) : ∀ (l : List (Option Place)) (s : State), Same 17356029954 s (fetchWords bad l s).2
  | [], _ => (same_refl _ _).mpr trivial
  | none :: t, s => by unfold fetchWords; exact keep_fetchWords bad t s
  | some p :: t, s => by
    unfold fetchWords
    exact ((same_fetchPlace (by decide)).mpr ((same_refl _ s).mpr trivial)).trans (keep_fetchWords bad t _)

theorem same_fetchWords {m' : Nat} {s' : State} {bad : Place → Bool} {a1 : List (Option Place)} {a2 : State} (h : m' &&& 17356029954 = 17356029954) : Same m' s' (fetchWords bad a1 a2).2 = Same m' s' a2 := Same.eqv (keep_fetchWords bad a1 a2) h
theorem keep_openBytes (n : ℕ) (s : State) : Same 2 s (openBytes n s).2 := by unfold openBytes; simp (disch := decide) only [same_refl, same_ite, ite_self, same_up_free]
theorem same_openBytes {m' : Nat} {s' : State} {n : ℕ} {s : State} (h : m' &&& 2 = 2) : Same m' s' (openBytes n s).2 = Same m' s' s := Same.eqv (keep_openBytes n s) h
theorem keep_setFetched (r : PendRead) (c : Status) (data : List Byte) (s : State) : Same 17314086912 s (setFetched r c data s) := by unfold setFetched; simp (disch := decide) only [same_refl, same_ite, ite_self, same_modMgt]
theorem same_setFetched {m' : Nat} {s' : State} {r : PendRead} {c : Status} {data : List Byte} {s : State} (h : m' &&& 17314086912 = 17314086912) : Same m' s' (setFetched r c data s) = Same m' s' s := Same.eqv (keep_setFetched r c data s) h
theorem keep_onDieReads (ms : List (ℕ × ℕ)) (s : State) : Same 536870914 s (onDieReads ms s) := by unfold onDieReads; simp (disch := first | decide | (intros; (first | unfold IslSt.fencing | unfold IslSt.stepping | unfold Mgt.quiet | skip); first | rfl | (split <;> rfl)) | (intros; simp (disch := first | decide | (intros; (first | unfold IslSt.fencing | unfold IslSt.stepping | unfold Mgt.quiet | skip); first | rfl | (split <;> rfl))) only [same_refl, same_ite, ite_self, same_count, same_draw, same_forAll])) only [same_refl, same_ite, ite_self, same_count, same_draw, same_forAll]
theorem same_onDieReads {m' : Nat} {s' : State} {ms : List (ℕ × ℕ)} {s : State} (h : m' &&& 536870914 = 536870914) : Same m' s' (onDieReads ms s) = Same m' s' s := Same.eqv (keep_onDieReads ms s) h
theorem keep_memReport (o : ReadOutcome) (ms : List (ℕ × ℕ)) (s : State) : Same 536877056 s (memReport o ms s) := by unfold memReport; (try simp (disch := decide) only [same_refl, same_ite, ite_self, same_memCorr]); repeat' (split <;> try simp (disch := decide) only [same_refl, same_ite, ite_self, same_memCorr])
theorem same_memReport {m' : Nat} {s' : State} {o : ReadOutcome} {ms : List (ℕ × ℕ)} {s : State} (h : m' &&& 536877056 = 536877056) : Same m' s' (memReport o ms s) = Same m' s' s := Same.eqv (keep_memReport o ms s) h
theorem keep_fetchSpan (r : PendRead) (ps : List (Option Place)) (o : ReadOutcome) (s : State) : Same 17964242946 s (fetchSpan r ps o s) := by unfold fetchSpan; (try simp (disch := first | decide | (intros; (first | unfold IslSt.fencing | unfold IslSt.stepping | unfold Mgt.quiet | skip); first | rfl | (split <;> rfl)) | (intros; simp (disch := first | decide | (intros; (first | unfold IslSt.fencing | unfold IslSt.stepping | unfold Mgt.quiet | skip); first | rfl | (split <;> rfl))) only [same_refl, same_ite, ite_self, same_setFetched, same_fetchWords, same_hostTouch, same_forAll, same_memUncorr, same_onDieReads, same_memReport, same_memCollide])) only [same_refl, same_ite, ite_self, same_setFetched, same_fetchWords, same_hostTouch, same_forAll, same_memUncorr, same_onDieReads, same_memReport, same_memCollide]); repeat' (split <;> try simp (disch := first | decide | (intros; (first | unfold IslSt.fencing | unfold IslSt.stepping | unfold Mgt.quiet | skip); first | rfl | (split <;> rfl)) | (intros; simp (disch := first | decide | (intros; (first | unfold IslSt.fencing | unfold IslSt.stepping | unfold Mgt.quiet | skip); first | rfl | (split <;> rfl))) only [same_refl, same_ite, ite_self, same_setFetched, same_fetchWords, same_hostTouch, same_forAll, same_memUncorr, same_onDieReads, same_memReport, same_memCollide])) only [same_refl, same_ite, ite_self, same_setFetched, same_fetchWords, same_hostTouch, same_forAll, same_memUncorr, same_onDieReads, same_memReport, same_memCollide])
theorem same_fetchSpan {m' : Nat} {s' : State} {r : PendRead} {ps : List (Option Place)} {o : ReadOutcome} {s : State} (h : m' &&& 17964242946 = 17964242946) : Same m' s' (fetchSpan r ps o s) = Same m' s' s := Same.eqv (keep_fetchSpan r ps o s) h
theorem keep_execReadFetchDone (outcome : ReadOutcome) (s : State) {t' : State} (h : execReadFetchDone outcome s = .next t') : Same 17964242946 s t' := by unfold execReadFetchDone at h; (try simp only [act, actF] at h); cases h; (try simp (disch := decide) only [same_refl, same_ite, ite_self, same_setFetched, same_fetchSpan, same_staleReplies, same_modMgt]); repeat' (split <;> try simp (disch := decide) only [same_refl, same_ite, ite_self, same_setFetched, same_fetchSpan, same_staleReplies, same_modMgt])
theorem keep_readReply (s : State) : Same 2 s (readReply s).2.2 := by unfold readReply; (try simp (disch := first | decide | (intros; (first | unfold IslSt.fencing | unfold IslSt.stepping | unfold Mgt.quiet | skip); first | rfl | (split <;> rfl)) | (intros; simp (disch := first | decide | (intros; (first | unfold IslSt.fencing | unfold IslSt.stepping | unfold Mgt.quiet | skip); first | rfl | (split <;> rfl))) only [same_refl, same_ite, ite_self, same_openBytes])) only [same_refl, same_ite, ite_self, same_openBytes]); repeat' (split <;> try simp (disch := first | decide | (intros; (first | unfold IslSt.fencing | unfold IslSt.stepping | unfold Mgt.quiet | skip); first | rfl | (split <;> rfl)) | (intros; simp (disch := first | decide | (intros; (first | unfold IslSt.fencing | unfold IslSt.stepping | unfold Mgt.quiet | skip); first | rfl | (split <;> rfl))) only [same_refl, same_ite, ite_self, same_openBytes])) only [same_refl, same_ite, ite_self, same_openBytes])
theorem same_readReply {m' : Nat} {s' : State} {s : State} (h : m' &&& 2 = 2) : Same m' s' (readReply s).2.2 = Same m' s' s := Same.eqv (keep_readReply s) h
theorem keep_execI3cPrivateRead (s : State) {t' : State} (h : execI3cPrivateRead s = .next t') : Same 17314086946 s t' := by unfold execI3cPrivateRead at h; (try simp only [act, actF] at h); cases h; simp (disch := decide) only [same_refl, same_ite, ite_self, same_up_pins, same_readReply, same_modMgt]
theorem keep_cccNack (s : State) : Same 17314086912 s (cccNack s) := by unfold cccNack; simp (disch := decide) only [same_refl, same_ite, ite_self, same_modMgt]
theorem same_cccNack {m' : Nat} {s' : State} {s : State} (h : m' &&& 17314086912 = 17314086912) : Same m' s' (cccNack s) = Same m' s' s := Same.eqv (keep_cccNack s) h
theorem keep_cccIf {m' : Nat} {g : Bool} {f : State → State} {b : State → List Byte} {s t : State} (h : m' &&& 17314086912 = 17314086912) (hf : ∀ u, Same m' u (f u)) (k : cccIf g f b s = .next t) : Same m' s t := by
  unfold cccIf at k; cases k; split
  · unfold ccc; rw [same_modMgt h]; exact hf s
  · rw [same_cccNack h]; exact (same_refl _ _).mpr trivial

theorem keep_setIbi (on : Bool) (events : Byte) (s : State) : Same 17314086912 s (setIbi on events s) := by unfold setIbi; simp (disch := decide) only [same_refl, same_ite, ite_self, same_modMgt]
theorem same_setIbi {m' : Nat} {s' : State} {on : Bool} {events : Byte} {s : State} (h : m' &&& 17314086912 = 17314086912) : Same m' s' (setIbi on events s) = Same m' s' s := Same.eqv (keep_setIbi on events s) h
theorem keep_execCccEnec (events : Byte) (s : State) {t' : State} (h : execCccEnec events s = .next t') : Same 17314086912 s t' := by
  unfold execCccEnec at h
  refine keep_cccIf (by decide) (fun u => ?_) h
  repeat' (first | exact (same_refl _ _).mpr trivial | refine (same_setIbi (by decide)).mpr ?_ | split)

theorem keep_execCccDisec (events : Byte) (s : State) {t' : State} (h : execCccDisec events s = .next t') : Same 17314086912 s t' := by
  unfold execCccDisec at h
  refine keep_cccIf (by decide) (fun u => ?_) h
  repeat' (first | exact (same_refl _ _).mpr trivial | refine (same_setIbi (by decide)).mpr ?_ | split)

theorem keep_execCccEntas (a0 : Fin 4) (s : State) {t' : State} (h : execCccEntas a0 s = .next t') : Same 17314086912 s t' := by
  unfold execCccEntas at h
  refine keep_cccIf (by decide) (fun u => ?_) h
  repeat' (first | exact (same_refl _ _).mpr trivial | split)

theorem keep_loseDa (cause : ℕ) (s : State) : Same 17314142208 s (loseDa cause s) := by unfold loseDa; simp (disch := decide) only [same_refl, same_ite, ite_self, same_mgtEvent, same_modMgt]
theorem same_loseDa {m' : Nat} {s' : State} {cause : ℕ} {s : State} (h : m' &&& 17314142208 = 17314142208) : Same m' s' (loseDa cause s) = Same m' s' s := Same.eqv (keep_loseDa cause s) h
theorem keep_setDa (da : BitVec 7) (method : ℕ) (s : State) : Same 17314136064 s (setDa da method s) := by unfold setDa; simp (disch := first | decide | (intros; (first | unfold IslSt.fencing | unfold IslSt.stepping | unfold Mgt.quiet | skip); first | rfl | (split <;> rfl)) | (intros; simp (disch := first | decide | (intros; (first | unfold IslSt.fencing | unfold IslSt.stepping | unfold Mgt.quiet | skip); first | rfl | (split <;> rfl))) only [same_refl, same_ite, ite_self, same_oncePerSec, same_raise, same_modMgt])) only [same_refl, same_ite, ite_self, same_oncePerSec, same_raise, same_modMgt]
theorem same_setDa {m' : Nat} {s' : State} {da : BitVec 7} {method : ℕ} {s : State} (h : m' &&& 17314136064 = 17314136064) : Same m' s' (setDa da method s) = Same m' s' s := Same.eqv (keep_setDa da method s) h
theorem keep_execCccRstdaa (s : State) {t' : State} (h : execCccRstdaa s = .next t') : Same 17314142208 s t' := by
  unfold execCccRstdaa at h
  refine keep_cccIf (by decide) (fun u => ?_) h
  repeat' (first | exact (same_refl _ _).mpr trivial | refine (same_loseDa (by decide)).mpr ?_ | split)

theorem keep_execCccEntdaa (da : BitVec 7) (s : State) {t' : State} (h : execCccEntdaa da s = .next t') : Same 17314136064 s t' := by
  unfold execCccEntdaa at h
  refine keep_cccIf (by decide) (fun u => ?_) h
  repeat' (first | exact (same_refl _ _).mpr trivial | refine (same_setDa (by decide)).mpr ?_ | split)

theorem keep_execCccSetmwl (n : ℕ) (s : State) {t' : State} (h : execCccSetmwl n s = .next t') : Same 17314086912 s t' := by
  unfold execCccSetmwl at h
  refine keep_cccIf (by decide) (fun u => ?_) h
  repeat' (first | exact (same_refl _ _).mpr trivial | refine (same_modMgt (by decide)).mpr ?_ | split)

theorem keep_execCccSetmrl (n : ℕ) (s : State) {t' : State} (h : execCccSetmrl n s = .next t') : Same 17314086912 s t' := by
  unfold execCccSetmrl at h
  refine keep_cccIf (by decide) (fun u => ?_) h
  repeat' (first | exact (same_refl _ _).mpr trivial | refine (same_modMgt (by decide)).mpr ?_ | split)

theorem keep_execCccEnthdr0 (s : State) {t' : State} (h : execCccEnthdr0 s = .next t') : Same 17314086912 s t' := by
  unfold execCccEnthdr0 at h
  refine keep_cccIf (by decide) (fun u => ?_) h
  repeat' (first | exact (same_refl _ _).mpr trivial | refine (same_modMgt (by decide)).mpr ?_ | split)

theorem keep_execCccRstact (arg : Byte) (s : State) {t' : State} (h : execCccRstact arg s = .next t') : Same 17314086912 s t' := by
  unfold execCccRstact at h
  refine keep_cccIf (by decide) (fun u => ?_) h
  repeat' (first | exact (same_refl _ _).mpr trivial | refine (same_modMgt (by decide)).mpr ?_ | split)

theorem keep_execCccSetdasa (sa : BitVec 7) (da : BitVec 7) (s : State) {t' : State} (h : execCccSetdasa sa da s = .next t') : Same 17314136064 s t' := by
  unfold execCccSetdasa at h
  refine keep_cccIf (by decide) (fun u => ?_) h
  repeat' (first | exact (same_refl _ _).mpr trivial | refine (same_setDa (by decide)).mpr ?_ | split)

theorem keep_execCccSetnewda (da : BitVec 7) (s : State) {t' : State} (h : execCccSetnewda da s = .next t') : Same 17314136064 s t' := by
  unfold execCccSetnewda at h
  refine keep_cccIf (by decide) (fun u => ?_) h
  repeat' (first | exact (same_refl _ _).mpr trivial | refine (same_setDa (by decide)).mpr ?_ | split)

theorem keep_cccGet {m' : Nat} {b : State → List Byte} {s t : State} (h : m' &&& 17314086912 = 17314086912) (k : cccGet b s = .next t) : Same m' s t := keep_cccIf h (fun u => (same_refl _ u).mpr trivial) k
theorem keep_execCccGetmwl (s : State) {t' : State} (h : execCccGetmwl s = .next t') : Same 17314086912 s t' := keep_cccGet (by decide) h
theorem keep_execCccGetmrl (s : State) {t' : State} (h : execCccGetmrl s = .next t') : Same 17314086912 s t' := keep_cccGet (by decide) h
theorem keep_execCccGetpid (s : State) {t' : State} (h : execCccGetpid s = .next t') : Same 17314086912 s t' := keep_cccGet (by decide) h
theorem keep_execCccGetbcr (s : State) {t' : State} (h : execCccGetbcr s = .next t') : Same 17314086912 s t' := keep_cccGet (by decide) h
theorem keep_execCccGetdcr (s : State) {t' : State} (h : execCccGetdcr s = .next t') : Same 17314086912 s t' := keep_cccGet (by decide) h
theorem keep_execCccGetmxds (s : State) {t' : State} (h : execCccGetmxds s = .next t') : Same 17314086912 s t' := keep_cccGet (by decide) h
theorem keep_execCccGetcaps (s : State) {t' : State} (h : execCccGetcaps s = .next t') : Same 17314086912 s t' := keep_cccGet (by decide) h
theorem keep_execCccGetstatus (s : State) {t' : State} (h : execCccGetstatus s = .next t') : Same 17314086912 s t' := by
  unfold execCccGetstatus at h
  refine keep_cccIf (by decide) (fun u => ?_) h
  repeat' (first | exact (same_refl _ _).mpr trivial | refine (same_modMgt (by decide)).mpr ?_ | split)

theorem keep_resetTarget (s : State) : Same 17314142208 s (resetTarget s) := by unfold resetTarget; simp (disch := decide) only [same_refl, same_ite, ite_self, same_loseDa, same_modMgt]
theorem same_resetTarget {m' : Nat} {s' : State} {s : State} (h : m' &&& 17314142208 = 17314142208) : Same m' s' (resetTarget s) = Same m' s' s := Same.eqv (keep_resetTarget s) h
theorem keep_execTargetResetPattern (s : State) {t' : State} (h : execTargetResetPattern s = .next t') : Same 68719476600 s t' := by unfold execTargetResetPattern at h; (try simp only [act, actF] at h); cases h; (try simp (disch := decide) only [same_refl, same_ite, ite_self, same_resetTarget, same_modMgt, same_restart, same_noteFault]); repeat' (split <;> try simp (disch := decide) only [same_refl, same_ite, ite_self, same_resetTarget, same_modMgt, same_restart, same_noteFault])
theorem keep_execEventRecordAppend (i : Isl) (s : State) {t' : State} (h : execEventRecordAppend i s = .next t') : Same 17381228544 s t' := by unfold execEventRecordAppend at h; (try simp only [act, actF] at h); cases h; simp (disch := decide) only [same_refl, same_ite, ite_self, same_appendHead]
theorem keep_sendIbi (mdb : Byte) (word : W32) (s : State) : Same 17314086912 s (sendIbi mdb word s) := by unfold sendIbi; simp (disch := decide) only [same_refl, same_ite, ite_self, same_modMgt]
theorem same_sendIbi {m' : Nat} {s' : State} {mdb : Byte} {word : W32} {s : State} (h : m' &&& 17314086912 = 17314086912) : Same m' s' (sendIbi mdb word s) = Same m' s' s := Same.eqv (keep_sendIbi mdb word s) h
theorem keep_execIbiRequest (s : State) {t' : State} (h : execIbiRequest s = .next t') : Same 17314086912 s t' := by unfold execIbiRequest at h; (try simp only [act, actF] at h); cases h; simp (disch := decide) only [same_refl, same_ite, ite_self, same_modMgt, same_sendIbi]
theorem keep_execMgtIbiNack (s : State) {t' : State} (h : execMgtIbiNack s = .next t') : Same 17314142208 s t' := by unfold execMgtIbiNack at h; (try simp only [act, actF] at h); cases h; simp (disch := decide) only [same_refl, same_ite, ite_self, same_modMgt, same_mgtEvent]

end Sys2Proof.Machine
end

