-- ==== Sys2Proof/Laws/State.lean ====
section
/-! SUPPORT. The state after each shared operation, one field or one accessor an equation, so that no proof unfolds a record update:
what every accessor depends on, what every shared operation leaves alone (`_fields`: the fields; `_gets`: the accessors), and what
the entry of an island, an engine, a table or a flag word is after an update of it. -/

namespace Sys2Proof.Machine

/-! ## What an accessor depends on -/

theorem st_of {s t : State} (h : t.engA.st = s.engA.st ∧ t.engB.st = s.engB.st) : ∀ (y : Eng), (getEng t y).st = (getEng s y).st := by intro y; cases y; exact h.1; exact h.2
theorem fen_of {s t : State} (h : ∀ i, (getIsl t i).fencing = (getIsl s i).fencing) : (∀ (y : Isl), (getIsl t y).fence = (getIsl s y).fence) ∧ (∀ (y : Isl), (getIsl t y).hard = (getIsl s y).hard) ∧ (∀ (y : Isl), (getIsl t y).cause = (getIsl s y).cause) ∧ (∀ (y : Isl), (getIsl t y).overdue = (getIsl s y).overdue) ∧ (∀ (y : Isl), (getIsl t y).incarn = (getIsl s y).incarn) := by
  simp only [IslSt.fencing, Prod.mk.injEq] at h; simp [h]
theorem stp_of {s t : State} (h : ∀ i, (getIsl t i).stepping = (getIsl s i).stepping) : (∀ (y : Isl), (getIsl t y).sag = (getIsl s y).sag) ∧ (∀ (y : Isl), (getIsl t y).stretching = (getIsl s y).stretching) ∧ (∀ (y : Isl), (getIsl t y).carried = (getIsl s y).carried) ∧ (∀ (y : Isl), (getIsl t y).sagStep = (getIsl s y).sagStep) ∧ (∀ (y : Isl), (getIsl t y).capStep = (getIsl s y).capStep) ∧ (∀ (y : Isl), (getIsl t y).floorFault = (getIsl s y).floorFault) ∧ (∀ (y : Isl), (getIsl t y).floorDone = (getIsl s y).floorDone) := by
  simp only [IslSt.stepping, Prod.mk.injEq] at h; simp [h]
theorem quiet_of {s t : State} (h : t.mgt.quiet = s.mgt.quiet) : t.mgt.da = s.mgt.da ∧ t.mgt.ibiEn = s.mgt.ibiEn ∧ t.mgt.ibiTry = s.mgt.ibiTry ∧ t.mgt.mwl = s.mgt.mwl ∧ t.mgt.mrl = s.mgt.mrl ∧ t.mgt.hdr = s.mgt.hdr ∧ t.mgt.arm = s.mgt.arm ∧ t.mgt.protoErr = s.mgt.protoErr ∧ t.mgt.wCode = s.mgt.wCode ∧ t.mgt.wWords = s.mgt.wWords ∧ t.mgt.wSeq = s.mgt.wSeq ∧ t.mgt.lastWrite = s.mgt.lastWrite ∧ t.mgt.rd = s.mgt.rd ∧ t.mgt.reply = s.mgt.reply ∧ t.mgt.cccReply = s.mgt.cccReply ∧ t.mgt.cccAck = s.mgt.cccAck ∧ t.mgt.ibiOut = s.mgt.ibiOut ∧ t.mgt.head = s.mgt.head ∧ t.mgt.ring = s.mgt.ring ∧ t.mgt.ibiHead = s.mgt.ibiHead ∧ t.mgt.headLat = s.mgt.headLat ∧ t.mgt.brxLat = s.mgt.brxLat ∧ t.mgt.prev = s.mgt.prev ∧ t.mgt.prevValid = s.mgt.prevValid := by
  simp only [Mgt.quiet, Mgt.mk.injEq] at h; simp [h]
theorem getIsl_congr {s t : State} (h0 : t.isls = s.isls) (x0 : Isl) : getIsl t x0 = getIsl s x0 := by simp only [getIsl, h0]
theorem dpFence_congr {s t : State} (h0 : t.isls = s.isls) (x0 : Isl) : dpFence t x0 = dpFence s x0 := by simp only [dpFence, getIsl_congr h0]
theorem getEng_congr {s t : State} (h0 : t.engA = s.engA) (h1 : t.engB = s.engB) (x0 : Eng) : getEng t x0 = getEng s x0 := by cases x0; exact h0; exact h1
theorem treeOf_congr {s t : State} (h0 : t.boot = s.boot) (x0 : Eng) : treeOf t x0 = treeOf s x0 := by simp only [treeOf, h0]
theorem leafKey_congr {s t : State} (h0 : t.boot = s.boot) (x0 : Eng) (x1 : Nat) : leafKey t x0 x1 = leafKey s x0 x1 := by simp only [leafKey, treeOf_congr h0]
theorem ssetKey_congr {s t : State} (h0 : t.boot = s.boot) (x0 : Eng) (x1 : Nat) : ssetKey t x0 x1 = ssetKey s x0 x1 := by simp only [ssetKey, treeOf_congr h0]
theorem ctrKey_congr {s t : State} (h0 : t.boot = s.boot) (x0 : Eng) (x1 : Nat) : ctrKey t x0 x1 = ctrKey s x0 x1 := by simp only [ctrKey, treeOf_congr h0]
theorem getReg_congr {s t : State} (h0 : t.regs = s.regs) (x0 : Reg) (x1 : Eng) (x2 : Nat) : getReg t x0 x1 x2 = getReg s x0 x1 x2 := by simp only [getReg, h0]
theorem islRuns_congr {s t : State} (h0 : t.isls = s.isls) (x0 : Isl) : islRuns t x0 = islRuns s x0 := by simp only [islRuns, dpFence_congr h0]
theorem ctlRuns_congr {s t : State} (h0 : t.isls = s.isls) (x0 : Isl) : ctlRuns t x0 = ctlRuns s x0 := by simp only [ctlRuns, getIsl_congr h0]
theorem getFeed_congr {s t : State} (h0 : t.pwr = s.pwr) (x0 : Feed) : getFeed t x0 = getFeed s x0 := by cases x0 <;> simp only [getFeed, h0]
theorem getLeaf_congr {s t : State} (h0 : t.leaves = s.leaves) (h1 : t.boot = s.boot) (x0 : Eng) (x1 : Nat) : getLeaf t x0 x1 = getLeaf s x0 x1 := by simp only [getLeaf, h0, leafKey_congr h1]
theorem getSset_congr {s t : State} (h0 : t.ssets = s.ssets) (h1 : t.boot = s.boot) (x0 : Eng) (x1 : Nat) : getSset t x0 x1 = getSset s x0 x1 := by simp only [getSset, h0, ssetKey_congr h1]
theorem getCtr_congr {s t : State} (h0 : t.ctrs = s.ctrs) (h1 : t.boot = s.boot) (x0 : Eng) (x1 : Nat) : getCtr t x0 x1 = getCtr s x0 x1 := by simp only [getCtr, h0, ctrKey_congr h1]
theorem getGrp_congr {s t : State} (h0 : t.engA = s.engA) (h1 : t.engB = s.engB) (x0 : Eng) (x1 : Nat) : getGrp t x0 x1 = getGrp s x0 x1 := by simp only [getGrp, getEng_congr h0 h1]
theorem getBrx_congr {s t : State} (h0 : t.engA = s.engA) (h1 : t.engB = s.engB) (x0 : Eng) (x1 : Nat) : getBrx t x0 x1 = getBrx s x0 x1 := by simp only [getBrx, getEng_congr h0 h1]
theorem getFlow_congr {s t : State} (h0 : t.flow = s.flow) (x0 : Nat) : getFlow t x0 = getFlow s x0 := by simp only [getFlow, h0]
theorem getPort_congr {s t : State} (h0 : t.cln = s.cln) (x0 : Nat) : getPort t x0 = getPort s x0 := by simp only [getPort, h0]
theorem getLane_congr {s t : State} (h0 : t.cln = s.cln) (x0 : Nat) : getLane t x0 = getLane s x0 := by simp only [getLane, h0]
theorem getSlot_congr {s t : State} (h0 : t.sec = s.sec) (x0 : Nat) : getSlot t x0 = getSlot s x0 := by simp only [getSlot, h0]
theorem regF_congr {s t : State} (h0 : t.regs = s.regs) (x0 : Reg) (x1 : Eng) (x2 : Nat) (x3 : Nat) (x4 : Nat) : regF t x0 x1 x2 x3 x4 = regF s x0 x1 x2 x3 x4 := by simp only [regF, getReg_congr h0]
theorem chainMask_congr {s t : State} (h0 : t.tally = s.tally) (x0 : Nat) : chainMask t x0 = chainMask s x0 := by simp only [chainMask, h0]
theorem modeMask_congr {s t : State} (h0 : t.tally = s.tally) (x0 : Nat) : modeMask t x0 = modeMask s x0 := by simp only [modeMask, h0]
theorem getFlags_congr {s t : State} (h0 : t.flags = s.flags) (x0 : Nat) : getFlags t x0 = getFlags s x0 := by simp only [getFlags, h0]
theorem powered_congr {s t : State} (h0 : t.pwr = s.pwr) : powered t = powered s := by simp only [powered, h0]
theorem alive_congr {s t : State} (h0 : t.pwr = s.pwr) : alive t = alive s := by simp only [alive, h0]
theorem inService_congr {s t : State} (h0 : t.pwr = s.pwr) (h1 : t.bist = s.bist) : inService t = inService s := by simp only [inService, h0, h1]
theorem now_congr {s t : State} (h0 : t.clk = s.clk) : now t = now s := by simp only [now, h0]
theorem lcState_congr {s t : State} (h0 : t.fuse = s.fuse) : lcState t = lcState s := by simp only [lcState, h0]
theorem countsTree_congr {s t : State} (h0 : t.boot = s.boot) (h1 : t.aps = s.aps) (x0 : Eng) : countsTree t x0 = countsTree s x0 := by simp only [countsTree, h0, h1]

/-! ## What a shared operation leaves alone -/

@[simp] theorem setEng_fields (e : Eng) (x : EngSt) (s : State) :
    (setEng e x s).pending = s.pending ∧ (setEng e x s).free = s.free ∧ (setEng e x s).status = s.status ∧ (setEng e x s).got = s.got ∧ (setEng e x s).pwr = s.pwr ∧ (setEng e x s).pins = s.pins ∧ (setEng e x s).clk = s.clk ∧ (setEng e x s).fuse = s.fuse ∧ (setEng e x s).flash = s.flash ∧ (setEng e x s).boot = s.boot ∧ (setEng e x s).regs = s.regs ∧ (setEng e x s).flags = s.flags ∧ (setEng e x s).rsc = s.rsc ∧ (setEng e x s).seenTurn = s.seenTurn ∧ (setEng e x s).seenSec = s.seenSec ∧ (setEng e x s).isls = s.isls ∧ (setEng e x s).aps = s.aps ∧ (setEng e x s).leaves = s.leaves ∧ (setEng e x s).ssets = s.ssets ∧ (setEng e x s).ctrs = s.ctrs ∧ (setEng e x s).flow = s.flow ∧ (setEng e x s).tod = s.tod ∧ (setEng e x s).cln = s.cln ∧ (setEng e x s).sec = s.sec ∧ (setEng e x s).mem = s.mem ∧ (setEng e x s).mgt = s.mgt ∧ (setEng e x s).upd = s.upd ∧ (setEng e x s).tally = s.tally ∧ (setEng e x s).bist = s.bist := by
  have k := keep_setEng e x s
  exact ⟨k .pending (by decide), k .free (by decide), k .status (by decide), k .got (by decide), k .pwr (by decide), k .pins (by decide), k .clk (by decide), k .fuse (by decide), k .flash (by decide), k .boot (by decide), k .regs (by decide), k .flags (by decide), k .rsc (by decide), k .seenTurn (by decide), k .seenSec (by decide), k .isls (by decide), k .aps (by decide), k .leaves (by decide), k .ssets (by decide), k .ctrs (by decide), k .flow (by decide), k .tod (by decide), k .cln (by decide), k .sec (by decide), k .mem (by decide), k .mgt (by decide), k .upd (by decide), k .tally (by decide), k .bist (by decide)⟩
@[simp] theorem setEng_gets (e : Eng) (x : EngSt) (s : State) :
    (∀ (y0 : Isl), getIsl (setEng e x s) y0 = getIsl s y0) ∧ (∀ (y0 : Isl), dpFence (setEng e x s) y0 = dpFence s y0) ∧ (∀ (y0 : Isl), islRuns (setEng e x s) y0 = islRuns s y0) ∧ (∀ (y0 : Isl), ctlRuns (setEng e x s) y0 = ctlRuns s y0) ∧ (∀ (y0 : Feed), getFeed (setEng e x s) y0 = getFeed s y0) ∧ (∀ (y0 : Eng) (y1 : Nat), getLeaf (setEng e x s) y0 y1 = getLeaf s y0 y1) ∧ (∀ (y0 : Eng) (y1 : Nat), getSset (setEng e x s) y0 y1 = getSset s y0 y1) ∧ (∀ (y0 : Eng) (y1 : Nat), getCtr (setEng e x s) y0 y1 = getCtr s y0 y1) ∧ (∀ (y0 : Eng), treeOf (setEng e x s) y0 = treeOf s y0) ∧ (∀ (y0 : Eng) (y1 : Nat), leafKey (setEng e x s) y0 y1 = leafKey s y0 y1) ∧ (∀ (y0 : Eng) (y1 : Nat), ssetKey (setEng e x s) y0 y1 = ssetKey s y0 y1) ∧ (∀ (y0 : Eng) (y1 : Nat), ctrKey (setEng e x s) y0 y1 = ctrKey s y0 y1) ∧ (∀ (y0 : Nat), getFlow (setEng e x s) y0 = getFlow s y0) ∧ (∀ (y0 : Nat), getPort (setEng e x s) y0 = getPort s y0) ∧ (∀ (y0 : Nat), getLane (setEng e x s) y0 = getLane s y0) ∧ (∀ (y0 : Nat), getSlot (setEng e x s) y0 = getSlot s y0) ∧ (∀ (y0 : Reg) (y1 : Eng) (y2 : Nat), getReg (setEng e x s) y0 y1 y2 = getReg s y0 y1 y2) ∧ (∀ (y0 : Reg) (y1 : Eng) (y2 : Nat) (y3 : Nat) (y4 : Nat), regF (setEng e x s) y0 y1 y2 y3 y4 = regF s y0 y1 y2 y3 y4) ∧ (∀ (y0 : Nat), chainMask (setEng e x s) y0 = chainMask s y0) ∧ (∀ (y0 : Nat), modeMask (setEng e x s) y0 = modeMask s y0) ∧ (∀ (y0 : Nat), getFlags (setEng e x s) y0 = getFlags s y0) ∧ powered (setEng e x s) = powered s ∧ alive (setEng e x s) = alive s ∧ inService (setEng e x s) = inService s ∧ now (setEng e x s) = now s ∧ lcState (setEng e x s) = lcState s ∧ (∀ (y0 : Eng), countsTree (setEng e x s) y0 = countsTree s y0) := by
  have k := keep_setEng e x s
  exact ⟨getIsl_congr (k .isls (by decide)), dpFence_congr (k .isls (by decide)), islRuns_congr (k .isls (by decide)), ctlRuns_congr (k .isls (by decide)), getFeed_congr (k .pwr (by decide)), getLeaf_congr (k .leaves (by decide)) (k .boot (by decide)), getSset_congr (k .ssets (by decide)) (k .boot (by decide)), getCtr_congr (k .ctrs (by decide)) (k .boot (by decide)), treeOf_congr (k .boot (by decide)), leafKey_congr (k .boot (by decide)), ssetKey_congr (k .boot (by decide)), ctrKey_congr (k .boot (by decide)), getFlow_congr (k .flow (by decide)), getPort_congr (k .cln (by decide)), getLane_congr (k .cln (by decide)), getSlot_congr (k .sec (by decide)), getReg_congr (k .regs (by decide)), regF_congr (k .regs (by decide)), chainMask_congr (k .tally (by decide)), modeMask_congr (k .tally (by decide)), getFlags_congr (k .flags (by decide)), powered_congr (k .pwr (by decide)), alive_congr (k .pwr (by decide)), inService_congr (k .pwr (by decide)) (k .bist (by decide)), now_congr (k .clk (by decide)), lcState_congr (k .fuse (by decide)), countsTree_congr (k .boot (by decide)) (k .aps (by decide))⟩
@[simp] theorem setIsl_fields (i : Isl) (x : IslSt) (s : State) :
    (setIsl i x s).pending = s.pending ∧ (setIsl i x s).free = s.free ∧ (setIsl i x s).status = s.status ∧ (setIsl i x s).got = s.got ∧ (setIsl i x s).pwr = s.pwr ∧ (setIsl i x s).pins = s.pins ∧ (setIsl i x s).clk = s.clk ∧ (setIsl i x s).fuse = s.fuse ∧ (setIsl i x s).flash = s.flash ∧ (setIsl i x s).boot = s.boot ∧ (setIsl i x s).regs = s.regs ∧ (setIsl i x s).flags = s.flags ∧ (setIsl i x s).rsc = s.rsc ∧ (setIsl i x s).seenTurn = s.seenTurn ∧ (setIsl i x s).seenSec = s.seenSec ∧ (setIsl i x s).engA = s.engA ∧ (setIsl i x s).engB = s.engB ∧ (setIsl i x s).aps = s.aps ∧ (setIsl i x s).leaves = s.leaves ∧ (setIsl i x s).ssets = s.ssets ∧ (setIsl i x s).ctrs = s.ctrs ∧ (setIsl i x s).flow = s.flow ∧ (setIsl i x s).tod = s.tod ∧ (setIsl i x s).cln = s.cln ∧ (setIsl i x s).sec = s.sec ∧ (setIsl i x s).mem = s.mem ∧ (setIsl i x s).mgt = s.mgt ∧ (setIsl i x s).upd = s.upd ∧ (setIsl i x s).tally = s.tally ∧ (setIsl i x s).bist = s.bist := ⟨rfl, rfl, rfl, rfl, rfl, rfl, rfl, rfl, rfl, rfl, rfl, rfl, rfl, rfl, rfl, rfl, rfl, rfl, rfl, rfl, rfl, rfl, rfl, rfl, rfl, rfl, rfl, rfl, rfl, rfl⟩
@[simp] theorem setIsl_gets (i : Isl) (x : IslSt) (s : State) :
    (∀ (y0 : Feed), getFeed (setIsl i x s) y0 = getFeed s y0) ∧ (∀ (y0 : Eng), getEng (setIsl i x s) y0 = getEng s y0) ∧ (∀ (y0 : Eng) (y1 : Nat), getLeaf (setIsl i x s) y0 y1 = getLeaf s y0 y1) ∧ (∀ (y0 : Eng) (y1 : Nat), getSset (setIsl i x s) y0 y1 = getSset s y0 y1) ∧ (∀ (y0 : Eng) (y1 : Nat), getCtr (setIsl i x s) y0 y1 = getCtr s y0 y1) ∧ (∀ (y0 : Eng) (y1 : Nat), getGrp (setIsl i x s) y0 y1 = getGrp s y0 y1) ∧ (∀ (y0 : Eng) (y1 : Nat), getBrx (setIsl i x s) y0 y1 = getBrx s y0 y1) ∧ (∀ (y0 : Eng), treeOf (setIsl i x s) y0 = treeOf s y0) ∧ (∀ (y0 : Eng) (y1 : Nat), leafKey (setIsl i x s) y0 y1 = leafKey s y0 y1) ∧ (∀ (y0 : Eng) (y1 : Nat), ssetKey (setIsl i x s) y0 y1 = ssetKey s y0 y1) ∧ (∀ (y0 : Eng) (y1 : Nat), ctrKey (setIsl i x s) y0 y1 = ctrKey s y0 y1) ∧ (∀ (y0 : Nat), getFlow (setIsl i x s) y0 = getFlow s y0) ∧ (∀ (y0 : Nat), getPort (setIsl i x s) y0 = getPort s y0) ∧ (∀ (y0 : Nat), getLane (setIsl i x s) y0 = getLane s y0) ∧ (∀ (y0 : Nat), getSlot (setIsl i x s) y0 = getSlot s y0) ∧ (∀ (y0 : Reg) (y1 : Eng) (y2 : Nat), getReg (setIsl i x s) y0 y1 y2 = getReg s y0 y1 y2) ∧ (∀ (y0 : Reg) (y1 : Eng) (y2 : Nat) (y3 : Nat) (y4 : Nat), regF (setIsl i x s) y0 y1 y2 y3 y4 = regF s y0 y1 y2 y3 y4) ∧ (∀ (y0 : Nat), chainMask (setIsl i x s) y0 = chainMask s y0) ∧ (∀ (y0 : Nat), modeMask (setIsl i x s) y0 = modeMask s y0) ∧ (∀ (y0 : Nat), getFlags (setIsl i x s) y0 = getFlags s y0) ∧ powered (setIsl i x s) = powered s ∧ alive (setIsl i x s) = alive s ∧ inService (setIsl i x s) = inService s ∧ now (setIsl i x s) = now s ∧ lcState (setIsl i x s) = lcState s ∧ (∀ (y0 : Eng), countsTree (setIsl i x s) y0 = countsTree s y0) := ⟨getFeed_congr rfl, getEng_congr rfl rfl, getLeaf_congr rfl rfl, getSset_congr rfl rfl, getCtr_congr rfl rfl, getGrp_congr rfl rfl, getBrx_congr rfl rfl, treeOf_congr rfl, leafKey_congr rfl, ssetKey_congr rfl, ctrKey_congr rfl, getFlow_congr rfl, getPort_congr rfl, getLane_congr rfl, getSlot_congr rfl, getReg_congr rfl, regF_congr rfl, chainMask_congr rfl, modeMask_congr rfl, getFlags_congr rfl, powered_congr rfl, alive_congr rfl, inService_congr rfl rfl, now_congr rfl, lcState_congr rfl, countsTree_congr rfl rfl⟩
@[simp] theorem modIsl_fields (i : Isl) (f : IslSt → IslSt) (s : State) :
    (modIsl i f s).pending = s.pending ∧ (modIsl i f s).free = s.free ∧ (modIsl i f s).status = s.status ∧ (modIsl i f s).got = s.got ∧ (modIsl i f s).pwr = s.pwr ∧ (modIsl i f s).pins = s.pins ∧ (modIsl i f s).clk = s.clk ∧ (modIsl i f s).fuse = s.fuse ∧ (modIsl i f s).flash = s.flash ∧ (modIsl i f s).boot = s.boot ∧ (modIsl i f s).regs = s.regs ∧ (modIsl i f s).flags = s.flags ∧ (modIsl i f s).rsc = s.rsc ∧ (modIsl i f s).seenTurn = s.seenTurn ∧ (modIsl i f s).seenSec = s.seenSec ∧ (modIsl i f s).engA = s.engA ∧ (modIsl i f s).engB = s.engB ∧ (modIsl i f s).aps = s.aps ∧ (modIsl i f s).leaves = s.leaves ∧ (modIsl i f s).ssets = s.ssets ∧ (modIsl i f s).ctrs = s.ctrs ∧ (modIsl i f s).flow = s.flow ∧ (modIsl i f s).tod = s.tod ∧ (modIsl i f s).cln = s.cln ∧ (modIsl i f s).sec = s.sec ∧ (modIsl i f s).mem = s.mem ∧ (modIsl i f s).mgt = s.mgt ∧ (modIsl i f s).upd = s.upd ∧ (modIsl i f s).tally = s.tally ∧ (modIsl i f s).bist = s.bist := ⟨rfl, rfl, rfl, rfl, rfl, rfl, rfl, rfl, rfl, rfl, rfl, rfl, rfl, rfl, rfl, rfl, rfl, rfl, rfl, rfl, rfl, rfl, rfl, rfl, rfl, rfl, rfl, rfl, rfl, rfl⟩
@[simp] theorem modIsl_gets (i : Isl) (f : IslSt → IslSt) (s : State) :
    (∀ (y0 : Feed), getFeed (modIsl i f s) y0 = getFeed s y0) ∧ (∀ (y0 : Eng), getEng (modIsl i f s) y0 = getEng s y0) ∧ (∀ (y0 : Eng) (y1 : Nat), getLeaf (modIsl i f s) y0 y1 = getLeaf s y0 y1) ∧ (∀ (y0 : Eng) (y1 : Nat), getSset (modIsl i f s) y0 y1 = getSset s y0 y1) ∧ (∀ (y0 : Eng) (y1 : Nat), getCtr (modIsl i f s) y0 y1 = getCtr s y0 y1) ∧ (∀ (y0 : Eng) (y1 : Nat), getGrp (modIsl i f s) y0 y1 = getGrp s y0 y1) ∧ (∀ (y0 : Eng) (y1 : Nat), getBrx (modIsl i f s) y0 y1 = getBrx s y0 y1) ∧ (∀ (y0 : Eng), treeOf (modIsl i f s) y0 = treeOf s y0) ∧ (∀ (y0 : Eng) (y1 : Nat), leafKey (modIsl i f s) y0 y1 = leafKey s y0 y1) ∧ (∀ (y0 : Eng) (y1 : Nat), ssetKey (modIsl i f s) y0 y1 = ssetKey s y0 y1) ∧ (∀ (y0 : Eng) (y1 : Nat), ctrKey (modIsl i f s) y0 y1 = ctrKey s y0 y1) ∧ (∀ (y0 : Nat), getFlow (modIsl i f s) y0 = getFlow s y0) ∧ (∀ (y0 : Nat), getPort (modIsl i f s) y0 = getPort s y0) ∧ (∀ (y0 : Nat), getLane (modIsl i f s) y0 = getLane s y0) ∧ (∀ (y0 : Nat), getSlot (modIsl i f s) y0 = getSlot s y0) ∧ (∀ (y0 : Reg) (y1 : Eng) (y2 : Nat), getReg (modIsl i f s) y0 y1 y2 = getReg s y0 y1 y2) ∧ (∀ (y0 : Reg) (y1 : Eng) (y2 : Nat) (y3 : Nat) (y4 : Nat), regF (modIsl i f s) y0 y1 y2 y3 y4 = regF s y0 y1 y2 y3 y4) ∧ (∀ (y0 : Nat), chainMask (modIsl i f s) y0 = chainMask s y0) ∧ (∀ (y0 : Nat), modeMask (modIsl i f s) y0 = modeMask s y0) ∧ (∀ (y0 : Nat), getFlags (modIsl i f s) y0 = getFlags s y0) ∧ powered (modIsl i f s) = powered s ∧ alive (modIsl i f s) = alive s ∧ inService (modIsl i f s) = inService s ∧ now (modIsl i f s) = now s ∧ lcState (modIsl i f s) = lcState s ∧ (∀ (y0 : Eng), countsTree (modIsl i f s) y0 = countsTree s y0) := ⟨getFeed_congr rfl, getEng_congr rfl rfl, getLeaf_congr rfl rfl, getSset_congr rfl rfl, getCtr_congr rfl rfl, getGrp_congr rfl rfl, getBrx_congr rfl rfl, treeOf_congr rfl, leafKey_congr rfl, ssetKey_congr rfl, ctrKey_congr rfl, getFlow_congr rfl, getPort_congr rfl, getLane_congr rfl, getSlot_congr rfl, getReg_congr rfl, regF_congr rfl, chainMask_congr rfl, modeMask_congr rfl, getFlags_congr rfl, powered_congr rfl, alive_congr rfl, inService_congr rfl rfl, now_congr rfl, lcState_congr rfl, countsTree_congr rfl rfl⟩
@[simp] theorem modEng_fields (e : Eng) (f : EngSt → EngSt) (s : State) : (modEng e f s).pending = s.pending ∧ (modEng e f s).free = s.free ∧ (modEng e f s).status = s.status ∧ (modEng e f s).got = s.got ∧ (modEng e f s).pwr = s.pwr ∧ (modEng e f s).pins = s.pins ∧ (modEng e f s).clk = s.clk ∧ (modEng e f s).fuse = s.fuse ∧ (modEng e f s).flash = s.flash ∧ (modEng e f s).boot = s.boot ∧ (modEng e f s).regs = s.regs ∧ (modEng e f s).flags = s.flags ∧ (modEng e f s).rsc = s.rsc ∧ (modEng e f s).seenTurn = s.seenTurn ∧ (modEng e f s).seenSec = s.seenSec ∧ (modEng e f s).isls = s.isls ∧ (modEng e f s).aps = s.aps ∧ (modEng e f s).leaves = s.leaves ∧ (modEng e f s).ssets = s.ssets ∧ (modEng e f s).ctrs = s.ctrs ∧ (modEng e f s).flow = s.flow ∧ (modEng e f s).tod = s.tod ∧ (modEng e f s).cln = s.cln ∧ (modEng e f s).sec = s.sec ∧ (modEng e f s).mem = s.mem ∧ (modEng e f s).mgt = s.mgt ∧ (modEng e f s).upd = s.upd ∧ (modEng e f s).tally = s.tally ∧ (modEng e f s).bist = s.bist := setEng_fields e _ s
@[simp] theorem raise_fields (i : Isl) (code : ℕ) (obj : ℕ) (data : BitVec 80) (s : State) :
    (raise i code obj data s).pending = s.pending ∧ (raise i code obj data s).free = s.free ∧ (raise i code obj data s).status = s.status ∧ (raise i code obj data s).got = s.got ∧ (raise i code obj data s).pwr = s.pwr ∧ (raise i code obj data s).pins = s.pins ∧ (raise i code obj data s).clk = s.clk ∧ (raise i code obj data s).fuse = s.fuse ∧ (raise i code obj data s).flash = s.flash ∧ (raise i code obj data s).boot = s.boot ∧ (raise i code obj data s).regs = s.regs ∧ (raise i code obj data s).flags = s.flags ∧ (raise i code obj data s).rsc = s.rsc ∧ (raise i code obj data s).seenTurn = s.seenTurn ∧ (raise i code obj data s).seenSec = s.seenSec ∧ (raise i code obj data s).engA = s.engA ∧ (raise i code obj data s).engB = s.engB ∧ (raise i code obj data s).aps = s.aps ∧ (raise i code obj data s).leaves = s.leaves ∧ (raise i code obj data s).ssets = s.ssets ∧ (raise i code obj data s).ctrs = s.ctrs ∧ (raise i code obj data s).flow = s.flow ∧ (raise i code obj data s).tod = s.tod ∧ (raise i code obj data s).cln = s.cln ∧ (raise i code obj data s).sec = s.sec ∧ (raise i code obj data s).mem = s.mem ∧ (raise i code obj data s).mgt = s.mgt ∧ (raise i code obj data s).upd = s.upd ∧ (raise i code obj data s).tally = s.tally ∧ (raise i code obj data s).bist = s.bist := by
  have k := keep_raise i code obj data s
  exact ⟨k .pending (by decide), k .free (by decide), k .status (by decide), k .got (by decide), k .pwr (by decide), k .pins (by decide), k .clk (by decide), k .fuse (by decide), k .flash (by decide), k .boot (by decide), k .regs (by decide), k .flags (by decide), k .rsc (by decide), k .seenTurn (by decide), k .seenSec (by decide), k .engA (by decide), k .engB (by decide), k .aps (by decide), k .leaves (by decide), k .ssets (by decide), k .ctrs (by decide), k .flow (by decide), k .tod (by decide), k .cln (by decide), k .sec (by decide), k .mem (by decide), k .mgt (by decide), k .upd (by decide), k .tally (by decide), k .bist (by decide)⟩
@[simp] theorem raise_gets (i : Isl) (code : ℕ) (obj : ℕ) (data : BitVec 80) (s : State) :
    (∀ (y0 : Feed), getFeed (raise i code obj data s) y0 = getFeed s y0) ∧ (∀ (y0 : Eng), getEng (raise i code obj data s) y0 = getEng s y0) ∧ (∀ (y0 : Eng) (y1 : Nat), getLeaf (raise i code obj data s) y0 y1 = getLeaf s y0 y1) ∧ (∀ (y0 : Eng) (y1 : Nat), getSset (raise i code obj data s) y0 y1 = getSset s y0 y1) ∧ (∀ (y0 : Eng) (y1 : Nat), getCtr (raise i code obj data s) y0 y1 = getCtr s y0 y1) ∧ (∀ (y0 : Eng) (y1 : Nat), getGrp (raise i code obj data s) y0 y1 = getGrp s y0 y1) ∧ (∀ (y0 : Eng) (y1 : Nat), getBrx (raise i code obj data s) y0 y1 = getBrx s y0 y1) ∧ (∀ (y0 : Eng), treeOf (raise i code obj data s) y0 = treeOf s y0) ∧ (∀ (y0 : Eng) (y1 : Nat), leafKey (raise i code obj data s) y0 y1 = leafKey s y0 y1) ∧ (∀ (y0 : Eng) (y1 : Nat), ssetKey (raise i code obj data s) y0 y1 = ssetKey s y0 y1) ∧ (∀ (y0 : Eng) (y1 : Nat), ctrKey (raise i code obj data s) y0 y1 = ctrKey s y0 y1) ∧ (∀ (y0 : Nat), getFlow (raise i code obj data s) y0 = getFlow s y0) ∧ (∀ (y0 : Nat), getPort (raise i code obj data s) y0 = getPort s y0) ∧ (∀ (y0 : Nat), getLane (raise i code obj data s) y0 = getLane s y0) ∧ (∀ (y0 : Nat), getSlot (raise i code obj data s) y0 = getSlot s y0) ∧ (∀ (y0 : Reg) (y1 : Eng) (y2 : Nat), getReg (raise i code obj data s) y0 y1 y2 = getReg s y0 y1 y2) ∧ (∀ (y0 : Reg) (y1 : Eng) (y2 : Nat) (y3 : Nat) (y4 : Nat), regF (raise i code obj data s) y0 y1 y2 y3 y4 = regF s y0 y1 y2 y3 y4) ∧ (∀ (y0 : Nat), chainMask (raise i code obj data s) y0 = chainMask s y0) ∧ (∀ (y0 : Nat), modeMask (raise i code obj data s) y0 = modeMask s y0) ∧ (∀ (y0 : Nat), getFlags (raise i code obj data s) y0 = getFlags s y0) ∧ powered (raise i code obj data s) = powered s ∧ alive (raise i code obj data s) = alive s ∧ inService (raise i code obj data s) = inService s ∧ now (raise i code obj data s) = now s ∧ lcState (raise i code obj data s) = lcState s ∧ (∀ (y0 : Eng), countsTree (raise i code obj data s) y0 = countsTree s y0) := by
  have k := keep_raise i code obj data s
  exact ⟨getFeed_congr (k .pwr (by decide)), getEng_congr (k .engA (by decide)) (k .engB (by decide)), getLeaf_congr (k .leaves (by decide)) (k .boot (by decide)), getSset_congr (k .ssets (by decide)) (k .boot (by decide)), getCtr_congr (k .ctrs (by decide)) (k .boot (by decide)), getGrp_congr (k .engA (by decide)) (k .engB (by decide)), getBrx_congr (k .engA (by decide)) (k .engB (by decide)), treeOf_congr (k .boot (by decide)), leafKey_congr (k .boot (by decide)), ssetKey_congr (k .boot (by decide)), ctrKey_congr (k .boot (by decide)), getFlow_congr (k .flow (by decide)), getPort_congr (k .cln (by decide)), getLane_congr (k .cln (by decide)), getSlot_congr (k .sec (by decide)), getReg_congr (k .regs (by decide)), regF_congr (k .regs (by decide)), chainMask_congr (k .tally (by decide)), modeMask_congr (k .tally (by decide)), getFlags_congr (k .flags (by decide)), powered_congr (k .pwr (by decide)), alive_congr (k .pwr (by decide)), inService_congr (k .pwr (by decide)) (k .bist (by decide)), now_congr (k .clk (by decide)), lcState_congr (k .fuse (by decide)), countsTree_congr (k .boot (by decide)) (k .aps (by decide))⟩
@[simp] theorem setFlagAt_fields (a : ℕ) (b : ℕ) (s : State) :
    (setFlagAt a b s).pending = s.pending ∧ (setFlagAt a b s).free = s.free ∧ (setFlagAt a b s).status = s.status ∧ (setFlagAt a b s).got = s.got ∧ (setFlagAt a b s).pwr = s.pwr ∧ (setFlagAt a b s).pins = s.pins ∧ (setFlagAt a b s).clk = s.clk ∧ (setFlagAt a b s).fuse = s.fuse ∧ (setFlagAt a b s).flash = s.flash ∧ (setFlagAt a b s).boot = s.boot ∧ (setFlagAt a b s).regs = s.regs ∧ (setFlagAt a b s).seenTurn = s.seenTurn ∧ (setFlagAt a b s).seenSec = s.seenSec ∧ (setFlagAt a b s).isls = s.isls ∧ (setFlagAt a b s).engA = s.engA ∧ (setFlagAt a b s).engB = s.engB ∧ (setFlagAt a b s).aps = s.aps ∧ (setFlagAt a b s).leaves = s.leaves ∧ (setFlagAt a b s).ssets = s.ssets ∧ (setFlagAt a b s).ctrs = s.ctrs ∧ (setFlagAt a b s).flow = s.flow ∧ (setFlagAt a b s).tod = s.tod ∧ (setFlagAt a b s).cln = s.cln ∧ (setFlagAt a b s).sec = s.sec ∧ (setFlagAt a b s).mem = s.mem ∧ (setFlagAt a b s).mgt = s.mgt ∧ (setFlagAt a b s).upd = s.upd ∧ (setFlagAt a b s).tally = s.tally ∧ (setFlagAt a b s).bist = s.bist := by
  have k := keep_setFlagAt a b s
  exact ⟨k .pending (by decide), k .free (by decide), k .status (by decide), k .got (by decide), k .pwr (by decide), k .pins (by decide), k .clk (by decide), k .fuse (by decide), k .flash (by decide), k .boot (by decide), k .regs (by decide), k .seenTurn (by decide), k .seenSec (by decide), k .isls (by decide), k .engA (by decide), k .engB (by decide), k .aps (by decide), k .leaves (by decide), k .ssets (by decide), k .ctrs (by decide), k .flow (by decide), k .tod (by decide), k .cln (by decide), k .sec (by decide), k .mem (by decide), k .mgt (by decide), k .upd (by decide), k .tally (by decide), k .bist (by decide)⟩
@[simp] theorem setFlagAt_gets (a : ℕ) (b : ℕ) (s : State) :
    (∀ (y0 : Isl), getIsl (setFlagAt a b s) y0 = getIsl s y0) ∧ (∀ (y0 : Isl), dpFence (setFlagAt a b s) y0 = dpFence s y0) ∧ (∀ (y0 : Isl), islRuns (setFlagAt a b s) y0 = islRuns s y0) ∧ (∀ (y0 : Isl), ctlRuns (setFlagAt a b s) y0 = ctlRuns s y0) ∧ (∀ (y0 : Feed), getFeed (setFlagAt a b s) y0 = getFeed s y0) ∧ (∀ (y0 : Eng), getEng (setFlagAt a b s) y0 = getEng s y0) ∧ (∀ (y0 : Eng) (y1 : Nat), getLeaf (setFlagAt a b s) y0 y1 = getLeaf s y0 y1) ∧ (∀ (y0 : Eng) (y1 : Nat), getSset (setFlagAt a b s) y0 y1 = getSset s y0 y1) ∧ (∀ (y0 : Eng) (y1 : Nat), getCtr (setFlagAt a b s) y0 y1 = getCtr s y0 y1) ∧ (∀ (y0 : Eng) (y1 : Nat), getGrp (setFlagAt a b s) y0 y1 = getGrp s y0 y1) ∧ (∀ (y0 : Eng) (y1 : Nat), getBrx (setFlagAt a b s) y0 y1 = getBrx s y0 y1) ∧ (∀ (y0 : Eng), treeOf (setFlagAt a b s) y0 = treeOf s y0) ∧ (∀ (y0 : Eng) (y1 : Nat), leafKey (setFlagAt a b s) y0 y1 = leafKey s y0 y1) ∧ (∀ (y0 : Eng) (y1 : Nat), ssetKey (setFlagAt a b s) y0 y1 = ssetKey s y0 y1) ∧ (∀ (y0 : Eng) (y1 : Nat), ctrKey (setFlagAt a b s) y0 y1 = ctrKey s y0 y1) ∧ (∀ (y0 : Nat), getFlow (setFlagAt a b s) y0 = getFlow s y0) ∧ (∀ (y0 : Nat), getPort (setFlagAt a b s) y0 = getPort s y0) ∧ (∀ (y0 : Nat), getLane (setFlagAt a b s) y0 = getLane s y0) ∧ (∀ (y0 : Nat), getSlot (setFlagAt a b s) y0 = getSlot s y0) ∧ (∀ (y0 : Reg) (y1 : Eng) (y2 : Nat), getReg (setFlagAt a b s) y0 y1 y2 = getReg s y0 y1 y2) ∧ (∀ (y0 : Reg) (y1 : Eng) (y2 : Nat) (y3 : Nat) (y4 : Nat), regF (setFlagAt a b s) y0 y1 y2 y3 y4 = regF s y0 y1 y2 y3 y4) ∧ (∀ (y0 : Nat), chainMask (setFlagAt a b s) y0 = chainMask s y0) ∧ (∀ (y0 : Nat), modeMask (setFlagAt a b s) y0 = modeMask s y0) ∧ powered (setFlagAt a b s) = powered s ∧ alive (setFlagAt a b s) = alive s ∧ inService (setFlagAt a b s) = inService s ∧ now (setFlagAt a b s) = now s ∧ lcState (setFlagAt a b s) = lcState s ∧ (∀ (y0 : Eng), countsTree (setFlagAt a b s) y0 = countsTree s y0) := by
  have k := keep_setFlagAt a b s
  exact ⟨getIsl_congr (k .isls (by decide)), dpFence_congr (k .isls (by decide)), islRuns_congr (k .isls (by decide)), ctlRuns_congr (k .isls (by decide)), getFeed_congr (k .pwr (by decide)), getEng_congr (k .engA (by decide)) (k .engB (by decide)), getLeaf_congr (k .leaves (by decide)) (k .boot (by decide)), getSset_congr (k .ssets (by decide)) (k .boot (by decide)), getCtr_congr (k .ctrs (by decide)) (k .boot (by decide)), getGrp_congr (k .engA (by decide)) (k .engB (by decide)), getBrx_congr (k .engA (by decide)) (k .engB (by decide)), treeOf_congr (k .boot (by decide)), leafKey_congr (k .boot (by decide)), ssetKey_congr (k .boot (by decide)), ctrKey_congr (k .boot (by decide)), getFlow_congr (k .flow (by decide)), getPort_congr (k .cln (by decide)), getLane_congr (k .cln (by decide)), getSlot_congr (k .sec (by decide)), getReg_congr (k .regs (by decide)), regF_congr (k .regs (by decide)), chainMask_congr (k .tally (by decide)), modeMask_congr (k .tally (by decide)), powered_congr (k .pwr (by decide)), alive_congr (k .pwr (by decide)), inService_congr (k .pwr (by decide)) (k .bist (by decide)), now_congr (k .clk (by decide)), lcState_congr (k .fuse (by decide)), countsTree_congr (k .boot (by decide)) (k .aps (by decide))⟩
@[simp] theorem setFlag_fields (r : Reg) (e : Eng) (b : ℕ) (s : State) :
    (setFlag r e b s).pending = s.pending ∧ (setFlag r e b s).free = s.free ∧ (setFlag r e b s).status = s.status ∧ (setFlag r e b s).got = s.got ∧ (setFlag r e b s).pwr = s.pwr ∧ (setFlag r e b s).pins = s.pins ∧ (setFlag r e b s).clk = s.clk ∧ (setFlag r e b s).fuse = s.fuse ∧ (setFlag r e b s).flash = s.flash ∧ (setFlag r e b s).boot = s.boot ∧ (setFlag r e b s).regs = s.regs ∧ (setFlag r e b s).seenTurn = s.seenTurn ∧ (setFlag r e b s).seenSec = s.seenSec ∧ (setFlag r e b s).isls = s.isls ∧ (setFlag r e b s).engA = s.engA ∧ (setFlag r e b s).engB = s.engB ∧ (setFlag r e b s).aps = s.aps ∧ (setFlag r e b s).leaves = s.leaves ∧ (setFlag r e b s).ssets = s.ssets ∧ (setFlag r e b s).ctrs = s.ctrs ∧ (setFlag r e b s).flow = s.flow ∧ (setFlag r e b s).tod = s.tod ∧ (setFlag r e b s).cln = s.cln ∧ (setFlag r e b s).sec = s.sec ∧ (setFlag r e b s).mem = s.mem ∧ (setFlag r e b s).mgt = s.mgt ∧ (setFlag r e b s).upd = s.upd ∧ (setFlag r e b s).tally = s.tally ∧ (setFlag r e b s).bist = s.bist := by
  have k := keep_setFlag r e b s
  exact ⟨k .pending (by decide), k .free (by decide), k .status (by decide), k .got (by decide), k .pwr (by decide), k .pins (by decide), k .clk (by decide), k .fuse (by decide), k .flash (by decide), k .boot (by decide), k .regs (by decide), k .seenTurn (by decide), k .seenSec (by decide), k .isls (by decide), k .engA (by decide), k .engB (by decide), k .aps (by decide), k .leaves (by decide), k .ssets (by decide), k .ctrs (by decide), k .flow (by decide), k .tod (by decide), k .cln (by decide), k .sec (by decide), k .mem (by decide), k .mgt (by decide), k .upd (by decide), k .tally (by decide), k .bist (by decide)⟩
@[simp] theorem setFlag_gets (r : Reg) (e : Eng) (b : ℕ) (s : State) :
    (∀ (y0 : Isl), getIsl (setFlag r e b s) y0 = getIsl s y0) ∧ (∀ (y0 : Isl), dpFence (setFlag r e b s) y0 = dpFence s y0) ∧ (∀ (y0 : Isl), islRuns (setFlag r e b s) y0 = islRuns s y0) ∧ (∀ (y0 : Isl), ctlRuns (setFlag r e b s) y0 = ctlRuns s y0) ∧ (∀ (y0 : Feed), getFeed (setFlag r e b s) y0 = getFeed s y0) ∧ (∀ (y0 : Eng), getEng (setFlag r e b s) y0 = getEng s y0) ∧ (∀ (y0 : Eng) (y1 : Nat), getLeaf (setFlag r e b s) y0 y1 = getLeaf s y0 y1) ∧ (∀ (y0 : Eng) (y1 : Nat), getSset (setFlag r e b s) y0 y1 = getSset s y0 y1) ∧ (∀ (y0 : Eng) (y1 : Nat), getCtr (setFlag r e b s) y0 y1 = getCtr s y0 y1) ∧ (∀ (y0 : Eng) (y1 : Nat), getGrp (setFlag r e b s) y0 y1 = getGrp s y0 y1) ∧ (∀ (y0 : Eng) (y1 : Nat), getBrx (setFlag r e b s) y0 y1 = getBrx s y0 y1) ∧ (∀ (y0 : Eng), treeOf (setFlag r e b s) y0 = treeOf s y0) ∧ (∀ (y0 : Eng) (y1 : Nat), leafKey (setFlag r e b s) y0 y1 = leafKey s y0 y1) ∧ (∀ (y0 : Eng) (y1 : Nat), ssetKey (setFlag r e b s) y0 y1 = ssetKey s y0 y1) ∧ (∀ (y0 : Eng) (y1 : Nat), ctrKey (setFlag r e b s) y0 y1 = ctrKey s y0 y1) ∧ (∀ (y0 : Nat), getFlow (setFlag r e b s) y0 = getFlow s y0) ∧ (∀ (y0 : Nat), getPort (setFlag r e b s) y0 = getPort s y0) ∧ (∀ (y0 : Nat), getLane (setFlag r e b s) y0 = getLane s y0) ∧ (∀ (y0 : Nat), getSlot (setFlag r e b s) y0 = getSlot s y0) ∧ (∀ (y0 : Reg) (y1 : Eng) (y2 : Nat), getReg (setFlag r e b s) y0 y1 y2 = getReg s y0 y1 y2) ∧ (∀ (y0 : Reg) (y1 : Eng) (y2 : Nat) (y3 : Nat) (y4 : Nat), regF (setFlag r e b s) y0 y1 y2 y3 y4 = regF s y0 y1 y2 y3 y4) ∧ (∀ (y0 : Nat), chainMask (setFlag r e b s) y0 = chainMask s y0) ∧ (∀ (y0 : Nat), modeMask (setFlag r e b s) y0 = modeMask s y0) ∧ powered (setFlag r e b s) = powered s ∧ alive (setFlag r e b s) = alive s ∧ inService (setFlag r e b s) = inService s ∧ now (setFlag r e b s) = now s ∧ lcState (setFlag r e b s) = lcState s ∧ (∀ (y0 : Eng), countsTree (setFlag r e b s) y0 = countsTree s y0) := by
  have k := keep_setFlag r e b s
  exact ⟨getIsl_congr (k .isls (by decide)), dpFence_congr (k .isls (by decide)), islRuns_congr (k .isls (by decide)), ctlRuns_congr (k .isls (by decide)), getFeed_congr (k .pwr (by decide)), getEng_congr (k .engA (by decide)) (k .engB (by decide)), getLeaf_congr (k .leaves (by decide)) (k .boot (by decide)), getSset_congr (k .ssets (by decide)) (k .boot (by decide)), getCtr_congr (k .ctrs (by decide)) (k .boot (by decide)), getGrp_congr (k .engA (by decide)) (k .engB (by decide)), getBrx_congr (k .engA (by decide)) (k .engB (by decide)), treeOf_congr (k .boot (by decide)), leafKey_congr (k .boot (by decide)), ssetKey_congr (k .boot (by decide)), ctrKey_congr (k .boot (by decide)), getFlow_congr (k .flow (by decide)), getPort_congr (k .cln (by decide)), getLane_congr (k .cln (by decide)), getSlot_congr (k .sec (by decide)), getReg_congr (k .regs (by decide)), regF_congr (k .regs (by decide)), chainMask_congr (k .tally (by decide)), modeMask_congr (k .tally (by decide)), powered_congr (k .pwr (by decide)), alive_congr (k .pwr (by decide)), inService_congr (k .pwr (by decide)) (k .bist (by decide)), now_congr (k .clk (by decide)), lcState_congr (k .fuse (by decide)), countsTree_congr (k .boot (by decide)) (k .aps (by decide))⟩
@[simp] theorem modDown_fields (e : Eng) (f : Down → Down) (s : State) :
    (modDown e f s).pending = s.pending ∧ (modDown e f s).free = s.free ∧ (modDown e f s).status = s.status ∧ (modDown e f s).got = s.got ∧ (modDown e f s).pwr = s.pwr ∧ (modDown e f s).pins = s.pins ∧ (modDown e f s).clk = s.clk ∧ (modDown e f s).fuse = s.fuse ∧ (modDown e f s).flash = s.flash ∧ (modDown e f s).boot = s.boot ∧ (modDown e f s).regs = s.regs ∧ (modDown e f s).flags = s.flags ∧ (modDown e f s).rsc = s.rsc ∧ (modDown e f s).seenTurn = s.seenTurn ∧ (modDown e f s).seenSec = s.seenSec ∧ (modDown e f s).isls = s.isls ∧ (modDown e f s).aps = s.aps ∧ (modDown e f s).leaves = s.leaves ∧ (modDown e f s).ssets = s.ssets ∧ (modDown e f s).ctrs = s.ctrs ∧ (modDown e f s).flow = s.flow ∧ (modDown e f s).tod = s.tod ∧ (modDown e f s).cln = s.cln ∧ (modDown e f s).sec = s.sec ∧ (modDown e f s).mem = s.mem ∧ (modDown e f s).mgt = s.mgt ∧ (modDown e f s).upd = s.upd ∧ (modDown e f s).tally = s.tally ∧ (modDown e f s).bist = s.bist := by
  have k := keep_modDown e f s
  exact ⟨k .pending (by decide), k .free (by decide), k .status (by decide), k .got (by decide), k .pwr (by decide), k .pins (by decide), k .clk (by decide), k .fuse (by decide), k .flash (by decide), k .boot (by decide), k .regs (by decide), k .flags (by decide), k .rsc (by decide), k .seenTurn (by decide), k .seenSec (by decide), k .isls (by decide), k .aps (by decide), k .leaves (by decide), k .ssets (by decide), k .ctrs (by decide), k .flow (by decide), k .tod (by decide), k .cln (by decide), k .sec (by decide), k .mem (by decide), k .mgt (by decide), k .upd (by decide), k .tally (by decide), k .bist (by decide)⟩
@[simp] theorem modDown_gets (e : Eng) (f : Down → Down) (s : State) :
    (∀ (y0 : Isl), getIsl (modDown e f s) y0 = getIsl s y0) ∧ (∀ (y0 : Isl), dpFence (modDown e f s) y0 = dpFence s y0) ∧ (∀ (y0 : Isl), islRuns (modDown e f s) y0 = islRuns s y0) ∧ (∀ (y0 : Isl), ctlRuns (modDown e f s) y0 = ctlRuns s y0) ∧ (∀ (y0 : Feed), getFeed (modDown e f s) y0 = getFeed s y0) ∧ (∀ (y0 : Eng) (y1 : Nat), getLeaf (modDown e f s) y0 y1 = getLeaf s y0 y1) ∧ (∀ (y0 : Eng) (y1 : Nat), getSset (modDown e f s) y0 y1 = getSset s y0 y1) ∧ (∀ (y0 : Eng) (y1 : Nat), getCtr (modDown e f s) y0 y1 = getCtr s y0 y1) ∧ (∀ (y0 : Eng), treeOf (modDown e f s) y0 = treeOf s y0) ∧ (∀ (y0 : Eng) (y1 : Nat), leafKey (modDown e f s) y0 y1 = leafKey s y0 y1) ∧ (∀ (y0 : Eng) (y1 : Nat), ssetKey (modDown e f s) y0 y1 = ssetKey s y0 y1) ∧ (∀ (y0 : Eng) (y1 : Nat), ctrKey (modDown e f s) y0 y1 = ctrKey s y0 y1) ∧ (∀ (y0 : Nat), getFlow (modDown e f s) y0 = getFlow s y0) ∧ (∀ (y0 : Nat), getPort (modDown e f s) y0 = getPort s y0) ∧ (∀ (y0 : Nat), getLane (modDown e f s) y0 = getLane s y0) ∧ (∀ (y0 : Nat), getSlot (modDown e f s) y0 = getSlot s y0) ∧ (∀ (y0 : Reg) (y1 : Eng) (y2 : Nat), getReg (modDown e f s) y0 y1 y2 = getReg s y0 y1 y2) ∧ (∀ (y0 : Reg) (y1 : Eng) (y2 : Nat) (y3 : Nat) (y4 : Nat), regF (modDown e f s) y0 y1 y2 y3 y4 = regF s y0 y1 y2 y3 y4) ∧ (∀ (y0 : Nat), chainMask (modDown e f s) y0 = chainMask s y0) ∧ (∀ (y0 : Nat), modeMask (modDown e f s) y0 = modeMask s y0) ∧ (∀ (y0 : Nat), getFlags (modDown e f s) y0 = getFlags s y0) ∧ powered (modDown e f s) = powered s ∧ alive (modDown e f s) = alive s ∧ inService (modDown e f s) = inService s ∧ now (modDown e f s) = now s ∧ lcState (modDown e f s) = lcState s ∧ (∀ (y0 : Eng), countsTree (modDown e f s) y0 = countsTree s y0) := by
  have k := keep_modDown e f s
  exact ⟨getIsl_congr (k .isls (by decide)), dpFence_congr (k .isls (by decide)), islRuns_congr (k .isls (by decide)), ctlRuns_congr (k .isls (by decide)), getFeed_congr (k .pwr (by decide)), getLeaf_congr (k .leaves (by decide)) (k .boot (by decide)), getSset_congr (k .ssets (by decide)) (k .boot (by decide)), getCtr_congr (k .ctrs (by decide)) (k .boot (by decide)), treeOf_congr (k .boot (by decide)), leafKey_congr (k .boot (by decide)), ssetKey_congr (k .boot (by decide)), ctrKey_congr (k .boot (by decide)), getFlow_congr (k .flow (by decide)), getPort_congr (k .cln (by decide)), getLane_congr (k .cln (by decide)), getSlot_congr (k .sec (by decide)), getReg_congr (k .regs (by decide)), regF_congr (k .regs (by decide)), chainMask_congr (k .tally (by decide)), modeMask_congr (k .tally (by decide)), getFlags_congr (k .flags (by decide)), powered_congr (k .pwr (by decide)), alive_congr (k .pwr (by decide)), inService_congr (k .pwr (by decide)) (k .bist (by decide)), now_congr (k .clk (by decide)), lcState_congr (k .fuse (by decide)), countsTree_congr (k .boot (by decide)) (k .aps (by decide))⟩
@[simp] theorem setGrp_fields (e : Eng) (g : ℕ) (x : GrpSt) (s : State) :
    (setGrp e g x s).pending = s.pending ∧ (setGrp e g x s).free = s.free ∧ (setGrp e g x s).status = s.status ∧ (setGrp e g x s).got = s.got ∧ (setGrp e g x s).pwr = s.pwr ∧ (setGrp e g x s).pins = s.pins ∧ (setGrp e g x s).clk = s.clk ∧ (setGrp e g x s).fuse = s.fuse ∧ (setGrp e g x s).flash = s.flash ∧ (setGrp e g x s).boot = s.boot ∧ (setGrp e g x s).regs = s.regs ∧ (setGrp e g x s).flags = s.flags ∧ (setGrp e g x s).rsc = s.rsc ∧ (setGrp e g x s).seenTurn = s.seenTurn ∧ (setGrp e g x s).seenSec = s.seenSec ∧ (setGrp e g x s).isls = s.isls ∧ (setGrp e g x s).aps = s.aps ∧ (setGrp e g x s).leaves = s.leaves ∧ (setGrp e g x s).ssets = s.ssets ∧ (setGrp e g x s).ctrs = s.ctrs ∧ (setGrp e g x s).flow = s.flow ∧ (setGrp e g x s).tod = s.tod ∧ (setGrp e g x s).cln = s.cln ∧ (setGrp e g x s).sec = s.sec ∧ (setGrp e g x s).mem = s.mem ∧ (setGrp e g x s).mgt = s.mgt ∧ (setGrp e g x s).upd = s.upd ∧ (setGrp e g x s).tally = s.tally ∧ (setGrp e g x s).bist = s.bist := by
  have k := keep_setGrp e g x s
  exact ⟨k .pending (by decide), k .free (by decide), k .status (by decide), k .got (by decide), k .pwr (by decide), k .pins (by decide), k .clk (by decide), k .fuse (by decide), k .flash (by decide), k .boot (by decide), k .regs (by decide), k .flags (by decide), k .rsc (by decide), k .seenTurn (by decide), k .seenSec (by decide), k .isls (by decide), k .aps (by decide), k .leaves (by decide), k .ssets (by decide), k .ctrs (by decide), k .flow (by decide), k .tod (by decide), k .cln (by decide), k .sec (by decide), k .mem (by decide), k .mgt (by decide), k .upd (by decide), k .tally (by decide), k .bist (by decide)⟩
@[simp] theorem setGrp_gets (e : Eng) (g : ℕ) (x : GrpSt) (s : State) :
    (∀ (y0 : Isl), getIsl (setGrp e g x s) y0 = getIsl s y0) ∧ (∀ (y0 : Isl), dpFence (setGrp e g x s) y0 = dpFence s y0) ∧ (∀ (y0 : Isl), islRuns (setGrp e g x s) y0 = islRuns s y0) ∧ (∀ (y0 : Isl), ctlRuns (setGrp e g x s) y0 = ctlRuns s y0) ∧ (∀ (y0 : Feed), getFeed (setGrp e g x s) y0 = getFeed s y0) ∧ (∀ (y0 : Eng) (y1 : Nat), getLeaf (setGrp e g x s) y0 y1 = getLeaf s y0 y1) ∧ (∀ (y0 : Eng) (y1 : Nat), getSset (setGrp e g x s) y0 y1 = getSset s y0 y1) ∧ (∀ (y0 : Eng) (y1 : Nat), getCtr (setGrp e g x s) y0 y1 = getCtr s y0 y1) ∧ (∀ (y0 : Eng), treeOf (setGrp e g x s) y0 = treeOf s y0) ∧ (∀ (y0 : Eng) (y1 : Nat), leafKey (setGrp e g x s) y0 y1 = leafKey s y0 y1) ∧ (∀ (y0 : Eng) (y1 : Nat), ssetKey (setGrp e g x s) y0 y1 = ssetKey s y0 y1) ∧ (∀ (y0 : Eng) (y1 : Nat), ctrKey (setGrp e g x s) y0 y1 = ctrKey s y0 y1) ∧ (∀ (y0 : Nat), getFlow (setGrp e g x s) y0 = getFlow s y0) ∧ (∀ (y0 : Nat), getPort (setGrp e g x s) y0 = getPort s y0) ∧ (∀ (y0 : Nat), getLane (setGrp e g x s) y0 = getLane s y0) ∧ (∀ (y0 : Nat), getSlot (setGrp e g x s) y0 = getSlot s y0) ∧ (∀ (y0 : Reg) (y1 : Eng) (y2 : Nat), getReg (setGrp e g x s) y0 y1 y2 = getReg s y0 y1 y2) ∧ (∀ (y0 : Reg) (y1 : Eng) (y2 : Nat) (y3 : Nat) (y4 : Nat), regF (setGrp e g x s) y0 y1 y2 y3 y4 = regF s y0 y1 y2 y3 y4) ∧ (∀ (y0 : Nat), chainMask (setGrp e g x s) y0 = chainMask s y0) ∧ (∀ (y0 : Nat), modeMask (setGrp e g x s) y0 = modeMask s y0) ∧ (∀ (y0 : Nat), getFlags (setGrp e g x s) y0 = getFlags s y0) ∧ powered (setGrp e g x s) = powered s ∧ alive (setGrp e g x s) = alive s ∧ inService (setGrp e g x s) = inService s ∧ now (setGrp e g x s) = now s ∧ lcState (setGrp e g x s) = lcState s ∧ (∀ (y0 : Eng), countsTree (setGrp e g x s) y0 = countsTree s y0) := by
  have k := keep_setGrp e g x s
  exact ⟨getIsl_congr (k .isls (by decide)), dpFence_congr (k .isls (by decide)), islRuns_congr (k .isls (by decide)), ctlRuns_congr (k .isls (by decide)), getFeed_congr (k .pwr (by decide)), getLeaf_congr (k .leaves (by decide)) (k .boot (by decide)), getSset_congr (k .ssets (by decide)) (k .boot (by decide)), getCtr_congr (k .ctrs (by decide)) (k .boot (by decide)), treeOf_congr (k .boot (by decide)), leafKey_congr (k .boot (by decide)), ssetKey_congr (k .boot (by decide)), ctrKey_congr (k .boot (by decide)), getFlow_congr (k .flow (by decide)), getPort_congr (k .cln (by decide)), getLane_congr (k .cln (by decide)), getSlot_congr (k .sec (by decide)), getReg_congr (k .regs (by decide)), regF_congr (k .regs (by decide)), chainMask_congr (k .tally (by decide)), modeMask_congr (k .tally (by decide)), getFlags_congr (k .flags (by decide)), powered_congr (k .pwr (by decide)), alive_congr (k .pwr (by decide)), inService_congr (k .pwr (by decide)) (k .bist (by decide)), now_congr (k .clk (by decide)), lcState_congr (k .fuse (by decide)), countsTree_congr (k .boot (by decide)) (k .aps (by decide))⟩
@[simp] theorem addCount_fields (k : ℕ) (o : ℕ) (a2 : ℕ) (a3 : ℕ) (a4 : ℕ) (s : State) :
    (addCount k o a2 a3 a4 s).pending = s.pending ∧ (addCount k o a2 a3 a4 s).free = s.free ∧ (addCount k o a2 a3 a4 s).status = s.status ∧ (addCount k o a2 a3 a4 s).got = s.got ∧ (addCount k o a2 a3 a4 s).pwr = s.pwr ∧ (addCount k o a2 a3 a4 s).pins = s.pins ∧ (addCount k o a2 a3 a4 s).clk = s.clk ∧ (addCount k o a2 a3 a4 s).fuse = s.fuse ∧ (addCount k o a2 a3 a4 s).flash = s.flash ∧ (addCount k o a2 a3 a4 s).boot = s.boot ∧ (addCount k o a2 a3 a4 s).regs = s.regs ∧ (addCount k o a2 a3 a4 s).flags = s.flags ∧ (addCount k o a2 a3 a4 s).rsc = s.rsc ∧ (addCount k o a2 a3 a4 s).seenTurn = s.seenTurn ∧ (addCount k o a2 a3 a4 s).seenSec = s.seenSec ∧ (addCount k o a2 a3 a4 s).isls = s.isls ∧ (addCount k o a2 a3 a4 s).engA = s.engA ∧ (addCount k o a2 a3 a4 s).engB = s.engB ∧ (addCount k o a2 a3 a4 s).aps = s.aps ∧ (addCount k o a2 a3 a4 s).leaves = s.leaves ∧ (addCount k o a2 a3 a4 s).ssets = s.ssets ∧ (addCount k o a2 a3 a4 s).ctrs = s.ctrs ∧ (addCount k o a2 a3 a4 s).flow = s.flow ∧ (addCount k o a2 a3 a4 s).tod = s.tod ∧ (addCount k o a2 a3 a4 s).cln = s.cln ∧ (addCount k o a2 a3 a4 s).sec = s.sec ∧ (addCount k o a2 a3 a4 s).mem = s.mem ∧ (addCount k o a2 a3 a4 s).mgt = s.mgt ∧ (addCount k o a2 a3 a4 s).upd = s.upd ∧ (addCount k o a2 a3 a4 s).bist = s.bist := by
  have k := keep_addCount k o a2 a3 a4 s
  exact ⟨k .pending (by decide), k .free (by decide), k .status (by decide), k .got (by decide), k .pwr (by decide), k .pins (by decide), k .clk (by decide), k .fuse (by decide), k .flash (by decide), k .boot (by decide), k .regs (by decide), k .flags (by decide), k .rsc (by decide), k .seenTurn (by decide), k .seenSec (by decide), k .isls (by decide), k .engA (by decide), k .engB (by decide), k .aps (by decide), k .leaves (by decide), k .ssets (by decide), k .ctrs (by decide), k .flow (by decide), k .tod (by decide), k .cln (by decide), k .sec (by decide), k .mem (by decide), k .mgt (by decide), k .upd (by decide), k .bist (by decide)⟩
@[simp] theorem addCount_gets (k : ℕ) (o : ℕ) (a2 : ℕ) (a3 : ℕ) (a4 : ℕ) (s : State) :
    (∀ (y0 : Isl), getIsl (addCount k o a2 a3 a4 s) y0 = getIsl s y0) ∧ (∀ (y0 : Isl), dpFence (addCount k o a2 a3 a4 s) y0 = dpFence s y0) ∧ (∀ (y0 : Isl), islRuns (addCount k o a2 a3 a4 s) y0 = islRuns s y0) ∧ (∀ (y0 : Isl), ctlRuns (addCount k o a2 a3 a4 s) y0 = ctlRuns s y0) ∧ (∀ (y0 : Feed), getFeed (addCount k o a2 a3 a4 s) y0 = getFeed s y0) ∧ (∀ (y0 : Eng), getEng (addCount k o a2 a3 a4 s) y0 = getEng s y0) ∧ (∀ (y0 : Eng) (y1 : Nat), getLeaf (addCount k o a2 a3 a4 s) y0 y1 = getLeaf s y0 y1) ∧ (∀ (y0 : Eng) (y1 : Nat), getSset (addCount k o a2 a3 a4 s) y0 y1 = getSset s y0 y1) ∧ (∀ (y0 : Eng) (y1 : Nat), getCtr (addCount k o a2 a3 a4 s) y0 y1 = getCtr s y0 y1) ∧ (∀ (y0 : Eng) (y1 : Nat), getGrp (addCount k o a2 a3 a4 s) y0 y1 = getGrp s y0 y1) ∧ (∀ (y0 : Eng) (y1 : Nat), getBrx (addCount k o a2 a3 a4 s) y0 y1 = getBrx s y0 y1) ∧ (∀ (y0 : Eng), treeOf (addCount k o a2 a3 a4 s) y0 = treeOf s y0) ∧ (∀ (y0 : Eng) (y1 : Nat), leafKey (addCount k o a2 a3 a4 s) y0 y1 = leafKey s y0 y1) ∧ (∀ (y0 : Eng) (y1 : Nat), ssetKey (addCount k o a2 a3 a4 s) y0 y1 = ssetKey s y0 y1) ∧ (∀ (y0 : Eng) (y1 : Nat), ctrKey (addCount k o a2 a3 a4 s) y0 y1 = ctrKey s y0 y1) ∧ (∀ (y0 : Nat), getFlow (addCount k o a2 a3 a4 s) y0 = getFlow s y0) ∧ (∀ (y0 : Nat), getPort (addCount k o a2 a3 a4 s) y0 = getPort s y0) ∧ (∀ (y0 : Nat), getLane (addCount k o a2 a3 a4 s) y0 = getLane s y0) ∧ (∀ (y0 : Nat), getSlot (addCount k o a2 a3 a4 s) y0 = getSlot s y0) ∧ (∀ (y0 : Reg) (y1 : Eng) (y2 : Nat), getReg (addCount k o a2 a3 a4 s) y0 y1 y2 = getReg s y0 y1 y2) ∧ (∀ (y0 : Reg) (y1 : Eng) (y2 : Nat) (y3 : Nat) (y4 : Nat), regF (addCount k o a2 a3 a4 s) y0 y1 y2 y3 y4 = regF s y0 y1 y2 y3 y4) ∧ (∀ (y0 : Nat), getFlags (addCount k o a2 a3 a4 s) y0 = getFlags s y0) ∧ powered (addCount k o a2 a3 a4 s) = powered s ∧ alive (addCount k o a2 a3 a4 s) = alive s ∧ inService (addCount k o a2 a3 a4 s) = inService s ∧ now (addCount k o a2 a3 a4 s) = now s ∧ lcState (addCount k o a2 a3 a4 s) = lcState s ∧ (∀ (y0 : Eng), countsTree (addCount k o a2 a3 a4 s) y0 = countsTree s y0) := by
  have k := keep_addCount k o a2 a3 a4 s
  exact ⟨getIsl_congr (k .isls (by decide)), dpFence_congr (k .isls (by decide)), islRuns_congr (k .isls (by decide)), ctlRuns_congr (k .isls (by decide)), getFeed_congr (k .pwr (by decide)), getEng_congr (k .engA (by decide)) (k .engB (by decide)), getLeaf_congr (k .leaves (by decide)) (k .boot (by decide)), getSset_congr (k .ssets (by decide)) (k .boot (by decide)), getCtr_congr (k .ctrs (by decide)) (k .boot (by decide)), getGrp_congr (k .engA (by decide)) (k .engB (by decide)), getBrx_congr (k .engA (by decide)) (k .engB (by decide)), treeOf_congr (k .boot (by decide)), leafKey_congr (k .boot (by decide)), ssetKey_congr (k .boot (by decide)), ctrKey_congr (k .boot (by decide)), getFlow_congr (k .flow (by decide)), getPort_congr (k .cln (by decide)), getLane_congr (k .cln (by decide)), getSlot_congr (k .sec (by decide)), getReg_congr (k .regs (by decide)), regF_congr (k .regs (by decide)), getFlags_congr (k .flags (by decide)), powered_congr (k .pwr (by decide)), alive_congr (k .pwr (by decide)), inService_congr (k .pwr (by decide)) (k .bist (by decide)), now_congr (k .clk (by decide)), lcState_congr (k .fuse (by decide)), countsTree_congr (k .boot (by decide)) (k .aps (by decide))⟩
@[simp] theorem count_fields (k : ℕ) (o : ℕ) (i : ℕ) (n : ℕ) (s : State) :
    (count k o i n s).pending = s.pending ∧ (count k o i n s).free = s.free ∧ (count k o i n s).status = s.status ∧ (count k o i n s).got = s.got ∧ (count k o i n s).pwr = s.pwr ∧ (count k o i n s).pins = s.pins ∧ (count k o i n s).clk = s.clk ∧ (count k o i n s).fuse = s.fuse ∧ (count k o i n s).flash = s.flash ∧ (count k o i n s).boot = s.boot ∧ (count k o i n s).regs = s.regs ∧ (count k o i n s).flags = s.flags ∧ (count k o i n s).rsc = s.rsc ∧ (count k o i n s).seenTurn = s.seenTurn ∧ (count k o i n s).seenSec = s.seenSec ∧ (count k o i n s).isls = s.isls ∧ (count k o i n s).engA = s.engA ∧ (count k o i n s).engB = s.engB ∧ (count k o i n s).aps = s.aps ∧ (count k o i n s).leaves = s.leaves ∧ (count k o i n s).ssets = s.ssets ∧ (count k o i n s).ctrs = s.ctrs ∧ (count k o i n s).flow = s.flow ∧ (count k o i n s).tod = s.tod ∧ (count k o i n s).cln = s.cln ∧ (count k o i n s).sec = s.sec ∧ (count k o i n s).mem = s.mem ∧ (count k o i n s).mgt = s.mgt ∧ (count k o i n s).upd = s.upd ∧ (count k o i n s).bist = s.bist := by
  have k := keep_count k o i n s
  exact ⟨k .pending (by decide), k .free (by decide), k .status (by decide), k .got (by decide), k .pwr (by decide), k .pins (by decide), k .clk (by decide), k .fuse (by decide), k .flash (by decide), k .boot (by decide), k .regs (by decide), k .flags (by decide), k .rsc (by decide), k .seenTurn (by decide), k .seenSec (by decide), k .isls (by decide), k .engA (by decide), k .engB (by decide), k .aps (by decide), k .leaves (by decide), k .ssets (by decide), k .ctrs (by decide), k .flow (by decide), k .tod (by decide), k .cln (by decide), k .sec (by decide), k .mem (by decide), k .mgt (by decide), k .upd (by decide), k .bist (by decide)⟩
@[simp] theorem count_gets (k : ℕ) (o : ℕ) (i : ℕ) (n : ℕ) (s : State) :
    (∀ (y0 : Isl), getIsl (count k o i n s) y0 = getIsl s y0) ∧ (∀ (y0 : Isl), dpFence (count k o i n s) y0 = dpFence s y0) ∧ (∀ (y0 : Isl), islRuns (count k o i n s) y0 = islRuns s y0) ∧ (∀ (y0 : Isl), ctlRuns (count k o i n s) y0 = ctlRuns s y0) ∧ (∀ (y0 : Feed), getFeed (count k o i n s) y0 = getFeed s y0) ∧ (∀ (y0 : Eng), getEng (count k o i n s) y0 = getEng s y0) ∧ (∀ (y0 : Eng) (y1 : Nat), getLeaf (count k o i n s) y0 y1 = getLeaf s y0 y1) ∧ (∀ (y0 : Eng) (y1 : Nat), getSset (count k o i n s) y0 y1 = getSset s y0 y1) ∧ (∀ (y0 : Eng) (y1 : Nat), getCtr (count k o i n s) y0 y1 = getCtr s y0 y1) ∧ (∀ (y0 : Eng) (y1 : Nat), getGrp (count k o i n s) y0 y1 = getGrp s y0 y1) ∧ (∀ (y0 : Eng) (y1 : Nat), getBrx (count k o i n s) y0 y1 = getBrx s y0 y1) ∧ (∀ (y0 : Eng), treeOf (count k o i n s) y0 = treeOf s y0) ∧ (∀ (y0 : Eng) (y1 : Nat), leafKey (count k o i n s) y0 y1 = leafKey s y0 y1) ∧ (∀ (y0 : Eng) (y1 : Nat), ssetKey (count k o i n s) y0 y1 = ssetKey s y0 y1) ∧ (∀ (y0 : Eng) (y1 : Nat), ctrKey (count k o i n s) y0 y1 = ctrKey s y0 y1) ∧ (∀ (y0 : Nat), getFlow (count k o i n s) y0 = getFlow s y0) ∧ (∀ (y0 : Nat), getPort (count k o i n s) y0 = getPort s y0) ∧ (∀ (y0 : Nat), getLane (count k o i n s) y0 = getLane s y0) ∧ (∀ (y0 : Nat), getSlot (count k o i n s) y0 = getSlot s y0) ∧ (∀ (y0 : Reg) (y1 : Eng) (y2 : Nat), getReg (count k o i n s) y0 y1 y2 = getReg s y0 y1 y2) ∧ (∀ (y0 : Reg) (y1 : Eng) (y2 : Nat) (y3 : Nat) (y4 : Nat), regF (count k o i n s) y0 y1 y2 y3 y4 = regF s y0 y1 y2 y3 y4) ∧ (∀ (y0 : Nat), getFlags (count k o i n s) y0 = getFlags s y0) ∧ powered (count k o i n s) = powered s ∧ alive (count k o i n s) = alive s ∧ inService (count k o i n s) = inService s ∧ now (count k o i n s) = now s ∧ lcState (count k o i n s) = lcState s ∧ (∀ (y0 : Eng), countsTree (count k o i n s) y0 = countsTree s y0) := by
  have k := keep_count k o i n s
  exact ⟨getIsl_congr (k .isls (by decide)), dpFence_congr (k .isls (by decide)), islRuns_congr (k .isls (by decide)), ctlRuns_congr (k .isls (by decide)), getFeed_congr (k .pwr (by decide)), getEng_congr (k .engA (by decide)) (k .engB (by decide)), getLeaf_congr (k .leaves (by decide)) (k .boot (by decide)), getSset_congr (k .ssets (by decide)) (k .boot (by decide)), getCtr_congr (k .ctrs (by decide)) (k .boot (by decide)), getGrp_congr (k .engA (by decide)) (k .engB (by decide)), getBrx_congr (k .engA (by decide)) (k .engB (by decide)), treeOf_congr (k .boot (by decide)), leafKey_congr (k .boot (by decide)), ssetKey_congr (k .boot (by decide)), ctrKey_congr (k .boot (by decide)), getFlow_congr (k .flow (by decide)), getPort_congr (k .cln (by decide)), getLane_congr (k .cln (by decide)), getSlot_congr (k .sec (by decide)), getReg_congr (k .regs (by decide)), regF_congr (k .regs (by decide)), getFlags_congr (k .flags (by decide)), powered_congr (k .pwr (by decide)), alive_congr (k .pwr (by decide)), inService_congr (k .pwr (by decide)) (k .bist (by decide)), now_congr (k .clk (by decide)), lcState_congr (k .fuse (by decide)), countsTree_congr (k .boot (by decide)) (k .aps (by decide))⟩
@[simp] theorem noteFault_fields (a0 : State) (s : State) :
    (noteFault a0 s).pending = s.pending ∧ (noteFault a0 s).free = s.free ∧ (noteFault a0 s).status = s.status ∧ (noteFault a0 s).got = s.got ∧ (noteFault a0 s).pwr = s.pwr ∧ (noteFault a0 s).pins = s.pins ∧ (noteFault a0 s).clk = s.clk ∧ (noteFault a0 s).fuse = s.fuse ∧ (noteFault a0 s).flash = s.flash ∧ (noteFault a0 s).boot = s.boot ∧ (noteFault a0 s).regs = s.regs ∧ (noteFault a0 s).flags = s.flags ∧ (noteFault a0 s).rsc = s.rsc ∧ (noteFault a0 s).seenTurn = s.seenTurn ∧ (noteFault a0 s).seenSec = s.seenSec ∧ (noteFault a0 s).isls = s.isls ∧ (noteFault a0 s).engA = s.engA ∧ (noteFault a0 s).engB = s.engB ∧ (noteFault a0 s).aps = s.aps ∧ (noteFault a0 s).leaves = s.leaves ∧ (noteFault a0 s).ssets = s.ssets ∧ (noteFault a0 s).ctrs = s.ctrs ∧ (noteFault a0 s).flow = s.flow ∧ (noteFault a0 s).tod = s.tod ∧ (noteFault a0 s).cln = s.cln ∧ (noteFault a0 s).sec = s.sec ∧ (noteFault a0 s).mem = s.mem ∧ (noteFault a0 s).upd = s.upd ∧ (noteFault a0 s).tally = s.tally ∧ (noteFault a0 s).bist = s.bist := by
  have k := keep_noteFault a0 s
  exact ⟨k .pending (by decide), k .free (by decide), k .status (by decide), k .got (by decide), k .pwr (by decide), k .pins (by decide), k .clk (by decide), k .fuse (by decide), k .flash (by decide), k .boot (by decide), k .regs (by decide), k .flags (by decide), k .rsc (by decide), k .seenTurn (by decide), k .seenSec (by decide), k .isls (by decide), k .engA (by decide), k .engB (by decide), k .aps (by decide), k .leaves (by decide), k .ssets (by decide), k .ctrs (by decide), k .flow (by decide), k .tod (by decide), k .cln (by decide), k .sec (by decide), k .mem (by decide), k .upd (by decide), k .tally (by decide), k .bist (by decide)⟩
@[simp] theorem noteFault_gets (a0 : State) (s : State) :
    (∀ (y0 : Isl), getIsl (noteFault a0 s) y0 = getIsl s y0) ∧ (∀ (y0 : Isl), dpFence (noteFault a0 s) y0 = dpFence s y0) ∧ (∀ (y0 : Isl), islRuns (noteFault a0 s) y0 = islRuns s y0) ∧ (∀ (y0 : Isl), ctlRuns (noteFault a0 s) y0 = ctlRuns s y0) ∧ (∀ (y0 : Feed), getFeed (noteFault a0 s) y0 = getFeed s y0) ∧ (∀ (y0 : Eng), getEng (noteFault a0 s) y0 = getEng s y0) ∧ (∀ (y0 : Eng) (y1 : Nat), getLeaf (noteFault a0 s) y0 y1 = getLeaf s y0 y1) ∧ (∀ (y0 : Eng) (y1 : Nat), getSset (noteFault a0 s) y0 y1 = getSset s y0 y1) ∧ (∀ (y0 : Eng) (y1 : Nat), getCtr (noteFault a0 s) y0 y1 = getCtr s y0 y1) ∧ (∀ (y0 : Eng) (y1 : Nat), getGrp (noteFault a0 s) y0 y1 = getGrp s y0 y1) ∧ (∀ (y0 : Eng) (y1 : Nat), getBrx (noteFault a0 s) y0 y1 = getBrx s y0 y1) ∧ (∀ (y0 : Eng), treeOf (noteFault a0 s) y0 = treeOf s y0) ∧ (∀ (y0 : Eng) (y1 : Nat), leafKey (noteFault a0 s) y0 y1 = leafKey s y0 y1) ∧ (∀ (y0 : Eng) (y1 : Nat), ssetKey (noteFault a0 s) y0 y1 = ssetKey s y0 y1) ∧ (∀ (y0 : Eng) (y1 : Nat), ctrKey (noteFault a0 s) y0 y1 = ctrKey s y0 y1) ∧ (∀ (y0 : Nat), getFlow (noteFault a0 s) y0 = getFlow s y0) ∧ (∀ (y0 : Nat), getPort (noteFault a0 s) y0 = getPort s y0) ∧ (∀ (y0 : Nat), getLane (noteFault a0 s) y0 = getLane s y0) ∧ (∀ (y0 : Nat), getSlot (noteFault a0 s) y0 = getSlot s y0) ∧ (∀ (y0 : Reg) (y1 : Eng) (y2 : Nat), getReg (noteFault a0 s) y0 y1 y2 = getReg s y0 y1 y2) ∧ (∀ (y0 : Reg) (y1 : Eng) (y2 : Nat) (y3 : Nat) (y4 : Nat), regF (noteFault a0 s) y0 y1 y2 y3 y4 = regF s y0 y1 y2 y3 y4) ∧ (∀ (y0 : Nat), chainMask (noteFault a0 s) y0 = chainMask s y0) ∧ (∀ (y0 : Nat), modeMask (noteFault a0 s) y0 = modeMask s y0) ∧ (∀ (y0 : Nat), getFlags (noteFault a0 s) y0 = getFlags s y0) ∧ powered (noteFault a0 s) = powered s ∧ alive (noteFault a0 s) = alive s ∧ inService (noteFault a0 s) = inService s ∧ now (noteFault a0 s) = now s ∧ lcState (noteFault a0 s) = lcState s ∧ (∀ (y0 : Eng), countsTree (noteFault a0 s) y0 = countsTree s y0) := by
  have k := keep_noteFault a0 s
  exact ⟨getIsl_congr (k .isls (by decide)), dpFence_congr (k .isls (by decide)), islRuns_congr (k .isls (by decide)), ctlRuns_congr (k .isls (by decide)), getFeed_congr (k .pwr (by decide)), getEng_congr (k .engA (by decide)) (k .engB (by decide)), getLeaf_congr (k .leaves (by decide)) (k .boot (by decide)), getSset_congr (k .ssets (by decide)) (k .boot (by decide)), getCtr_congr (k .ctrs (by decide)) (k .boot (by decide)), getGrp_congr (k .engA (by decide)) (k .engB (by decide)), getBrx_congr (k .engA (by decide)) (k .engB (by decide)), treeOf_congr (k .boot (by decide)), leafKey_congr (k .boot (by decide)), ssetKey_congr (k .boot (by decide)), ctrKey_congr (k .boot (by decide)), getFlow_congr (k .flow (by decide)), getPort_congr (k .cln (by decide)), getLane_congr (k .cln (by decide)), getSlot_congr (k .sec (by decide)), getReg_congr (k .regs (by decide)), regF_congr (k .regs (by decide)), chainMask_congr (k .tally (by decide)), modeMask_congr (k .tally (by decide)), getFlags_congr (k .flags (by decide)), powered_congr (k .pwr (by decide)), alive_congr (k .pwr (by decide)), inService_congr (k .pwr (by decide)) (k .bist (by decide)), now_congr (k .clk (by decide)), lcState_congr (k .fuse (by decide)), countsTree_congr (k .boot (by decide)) (k .aps (by decide))⟩
@[simp] theorem addTotals_fields (s : State) :
    (addTotals s).pending = s.pending ∧ (addTotals s).free = s.free ∧ (addTotals s).status = s.status ∧ (addTotals s).got = s.got ∧ (addTotals s).pwr = s.pwr ∧ (addTotals s).pins = s.pins ∧ (addTotals s).clk = s.clk ∧ (addTotals s).fuse = s.fuse ∧ (addTotals s).flash = s.flash ∧ (addTotals s).boot = s.boot ∧ (addTotals s).regs = s.regs ∧ (addTotals s).flags = s.flags ∧ (addTotals s).rsc = s.rsc ∧ (addTotals s).seenTurn = s.seenTurn ∧ (addTotals s).seenSec = s.seenSec ∧ (addTotals s).isls = s.isls ∧ (addTotals s).engA = s.engA ∧ (addTotals s).engB = s.engB ∧ (addTotals s).aps = s.aps ∧ (addTotals s).leaves = s.leaves ∧ (addTotals s).ssets = s.ssets ∧ (addTotals s).ctrs = s.ctrs ∧ (addTotals s).flow = s.flow ∧ (addTotals s).tod = s.tod ∧ (addTotals s).cln = s.cln ∧ (addTotals s).sec = s.sec ∧ (addTotals s).mem = s.mem ∧ (addTotals s).mgt = s.mgt ∧ (addTotals s).upd = s.upd ∧ (addTotals s).bist = s.bist := by
  have k := keep_addTotals s
  exact ⟨k .pending (by decide), k .free (by decide), k .status (by decide), k .got (by decide), k .pwr (by decide), k .pins (by decide), k .clk (by decide), k .fuse (by decide), k .flash (by decide), k .boot (by decide), k .regs (by decide), k .flags (by decide), k .rsc (by decide), k .seenTurn (by decide), k .seenSec (by decide), k .isls (by decide), k .engA (by decide), k .engB (by decide), k .aps (by decide), k .leaves (by decide), k .ssets (by decide), k .ctrs (by decide), k .flow (by decide), k .tod (by decide), k .cln (by decide), k .sec (by decide), k .mem (by decide), k .mgt (by decide), k .upd (by decide), k .bist (by decide)⟩
@[simp] theorem addTotals_gets (s : State) :
    (∀ (y0 : Isl), getIsl (addTotals s) y0 = getIsl s y0) ∧ (∀ (y0 : Isl), dpFence (addTotals s) y0 = dpFence s y0) ∧ (∀ (y0 : Isl), islRuns (addTotals s) y0 = islRuns s y0) ∧ (∀ (y0 : Isl), ctlRuns (addTotals s) y0 = ctlRuns s y0) ∧ (∀ (y0 : Feed), getFeed (addTotals s) y0 = getFeed s y0) ∧ (∀ (y0 : Eng), getEng (addTotals s) y0 = getEng s y0) ∧ (∀ (y0 : Eng) (y1 : Nat), getLeaf (addTotals s) y0 y1 = getLeaf s y0 y1) ∧ (∀ (y0 : Eng) (y1 : Nat), getSset (addTotals s) y0 y1 = getSset s y0 y1) ∧ (∀ (y0 : Eng) (y1 : Nat), getCtr (addTotals s) y0 y1 = getCtr s y0 y1) ∧ (∀ (y0 : Eng) (y1 : Nat), getGrp (addTotals s) y0 y1 = getGrp s y0 y1) ∧ (∀ (y0 : Eng) (y1 : Nat), getBrx (addTotals s) y0 y1 = getBrx s y0 y1) ∧ (∀ (y0 : Eng), treeOf (addTotals s) y0 = treeOf s y0) ∧ (∀ (y0 : Eng) (y1 : Nat), leafKey (addTotals s) y0 y1 = leafKey s y0 y1) ∧ (∀ (y0 : Eng) (y1 : Nat), ssetKey (addTotals s) y0 y1 = ssetKey s y0 y1) ∧ (∀ (y0 : Eng) (y1 : Nat), ctrKey (addTotals s) y0 y1 = ctrKey s y0 y1) ∧ (∀ (y0 : Nat), getFlow (addTotals s) y0 = getFlow s y0) ∧ (∀ (y0 : Nat), getPort (addTotals s) y0 = getPort s y0) ∧ (∀ (y0 : Nat), getLane (addTotals s) y0 = getLane s y0) ∧ (∀ (y0 : Nat), getSlot (addTotals s) y0 = getSlot s y0) ∧ (∀ (y0 : Reg) (y1 : Eng) (y2 : Nat), getReg (addTotals s) y0 y1 y2 = getReg s y0 y1 y2) ∧ (∀ (y0 : Reg) (y1 : Eng) (y2 : Nat) (y3 : Nat) (y4 : Nat), regF (addTotals s) y0 y1 y2 y3 y4 = regF s y0 y1 y2 y3 y4) ∧ (∀ (y0 : Nat), getFlags (addTotals s) y0 = getFlags s y0) ∧ powered (addTotals s) = powered s ∧ alive (addTotals s) = alive s ∧ inService (addTotals s) = inService s ∧ now (addTotals s) = now s ∧ lcState (addTotals s) = lcState s ∧ (∀ (y0 : Eng), countsTree (addTotals s) y0 = countsTree s y0) := by
  have k := keep_addTotals s
  exact ⟨getIsl_congr (k .isls (by decide)), dpFence_congr (k .isls (by decide)), islRuns_congr (k .isls (by decide)), ctlRuns_congr (k .isls (by decide)), getFeed_congr (k .pwr (by decide)), getEng_congr (k .engA (by decide)) (k .engB (by decide)), getLeaf_congr (k .leaves (by decide)) (k .boot (by decide)), getSset_congr (k .ssets (by decide)) (k .boot (by decide)), getCtr_congr (k .ctrs (by decide)) (k .boot (by decide)), getGrp_congr (k .engA (by decide)) (k .engB (by decide)), getBrx_congr (k .engA (by decide)) (k .engB (by decide)), treeOf_congr (k .boot (by decide)), leafKey_congr (k .boot (by decide)), ssetKey_congr (k .boot (by decide)), ctrKey_congr (k .boot (by decide)), getFlow_congr (k .flow (by decide)), getPort_congr (k .cln (by decide)), getLane_congr (k .cln (by decide)), getSlot_congr (k .sec (by decide)), getReg_congr (k .regs (by decide)), regF_congr (k .regs (by decide)), getFlags_congr (k .flags (by decide)), powered_congr (k .pwr (by decide)), alive_congr (k .pwr (by decide)), inService_congr (k .pwr (by decide)) (k .bist (by decide)), now_congr (k .clk (by decide)), lcState_congr (k .fuse (by decide)), countsTree_congr (k .boot (by decide)) (k .aps (by decide))⟩
@[simp] theorem countLeaf_fields (k : ℕ) (e : Eng) (l : ℕ) (i : ℕ) (n : ℕ) (s : State) :
    (countLeaf k e l i n s).pending = s.pending ∧ (countLeaf k e l i n s).free = s.free ∧ (countLeaf k e l i n s).status = s.status ∧ (countLeaf k e l i n s).got = s.got ∧ (countLeaf k e l i n s).pwr = s.pwr ∧ (countLeaf k e l i n s).pins = s.pins ∧ (countLeaf k e l i n s).clk = s.clk ∧ (countLeaf k e l i n s).fuse = s.fuse ∧ (countLeaf k e l i n s).flash = s.flash ∧ (countLeaf k e l i n s).boot = s.boot ∧ (countLeaf k e l i n s).regs = s.regs ∧ (countLeaf k e l i n s).flags = s.flags ∧ (countLeaf k e l i n s).rsc = s.rsc ∧ (countLeaf k e l i n s).seenTurn = s.seenTurn ∧ (countLeaf k e l i n s).seenSec = s.seenSec ∧ (countLeaf k e l i n s).isls = s.isls ∧ (countLeaf k e l i n s).engA = s.engA ∧ (countLeaf k e l i n s).engB = s.engB ∧ (countLeaf k e l i n s).aps = s.aps ∧ (countLeaf k e l i n s).leaves = s.leaves ∧ (countLeaf k e l i n s).ssets = s.ssets ∧ (countLeaf k e l i n s).ctrs = s.ctrs ∧ (countLeaf k e l i n s).flow = s.flow ∧ (countLeaf k e l i n s).tod = s.tod ∧ (countLeaf k e l i n s).cln = s.cln ∧ (countLeaf k e l i n s).sec = s.sec ∧ (countLeaf k e l i n s).mem = s.mem ∧ (countLeaf k e l i n s).mgt = s.mgt ∧ (countLeaf k e l i n s).upd = s.upd ∧ (countLeaf k e l i n s).bist = s.bist := by
  have k := keep_countLeaf k e l i n s
  exact ⟨k .pending (by decide), k .free (by decide), k .status (by decide), k .got (by decide), k .pwr (by decide), k .pins (by decide), k .clk (by decide), k .fuse (by decide), k .flash (by decide), k .boot (by decide), k .regs (by decide), k .flags (by decide), k .rsc (by decide), k .seenTurn (by decide), k .seenSec (by decide), k .isls (by decide), k .engA (by decide), k .engB (by decide), k .aps (by decide), k .leaves (by decide), k .ssets (by decide), k .ctrs (by decide), k .flow (by decide), k .tod (by decide), k .cln (by decide), k .sec (by decide), k .mem (by decide), k .mgt (by decide), k .upd (by decide), k .bist (by decide)⟩
@[simp] theorem countLeaf_gets (k : ℕ) (e : Eng) (l : ℕ) (i : ℕ) (n : ℕ) (s : State) :
    (∀ (y0 : Isl), getIsl (countLeaf k e l i n s) y0 = getIsl s y0) ∧ (∀ (y0 : Isl), dpFence (countLeaf k e l i n s) y0 = dpFence s y0) ∧ (∀ (y0 : Isl), islRuns (countLeaf k e l i n s) y0 = islRuns s y0) ∧ (∀ (y0 : Isl), ctlRuns (countLeaf k e l i n s) y0 = ctlRuns s y0) ∧ (∀ (y0 : Feed), getFeed (countLeaf k e l i n s) y0 = getFeed s y0) ∧ (∀ (y0 : Eng), getEng (countLeaf k e l i n s) y0 = getEng s y0) ∧ (∀ (y0 : Eng) (y1 : Nat), getLeaf (countLeaf k e l i n s) y0 y1 = getLeaf s y0 y1) ∧ (∀ (y0 : Eng) (y1 : Nat), getSset (countLeaf k e l i n s) y0 y1 = getSset s y0 y1) ∧ (∀ (y0 : Eng) (y1 : Nat), getCtr (countLeaf k e l i n s) y0 y1 = getCtr s y0 y1) ∧ (∀ (y0 : Eng) (y1 : Nat), getGrp (countLeaf k e l i n s) y0 y1 = getGrp s y0 y1) ∧ (∀ (y0 : Eng) (y1 : Nat), getBrx (countLeaf k e l i n s) y0 y1 = getBrx s y0 y1) ∧ (∀ (y0 : Eng), treeOf (countLeaf k e l i n s) y0 = treeOf s y0) ∧ (∀ (y0 : Eng) (y1 : Nat), leafKey (countLeaf k e l i n s) y0 y1 = leafKey s y0 y1) ∧ (∀ (y0 : Eng) (y1 : Nat), ssetKey (countLeaf k e l i n s) y0 y1 = ssetKey s y0 y1) ∧ (∀ (y0 : Eng) (y1 : Nat), ctrKey (countLeaf k e l i n s) y0 y1 = ctrKey s y0 y1) ∧ (∀ (y0 : Nat), getFlow (countLeaf k e l i n s) y0 = getFlow s y0) ∧ (∀ (y0 : Nat), getPort (countLeaf k e l i n s) y0 = getPort s y0) ∧ (∀ (y0 : Nat), getLane (countLeaf k e l i n s) y0 = getLane s y0) ∧ (∀ (y0 : Nat), getSlot (countLeaf k e l i n s) y0 = getSlot s y0) ∧ (∀ (y0 : Reg) (y1 : Eng) (y2 : Nat), getReg (countLeaf k e l i n s) y0 y1 y2 = getReg s y0 y1 y2) ∧ (∀ (y0 : Reg) (y1 : Eng) (y2 : Nat) (y3 : Nat) (y4 : Nat), regF (countLeaf k e l i n s) y0 y1 y2 y3 y4 = regF s y0 y1 y2 y3 y4) ∧ (∀ (y0 : Nat), getFlags (countLeaf k e l i n s) y0 = getFlags s y0) ∧ powered (countLeaf k e l i n s) = powered s ∧ alive (countLeaf k e l i n s) = alive s ∧ inService (countLeaf k e l i n s) = inService s ∧ now (countLeaf k e l i n s) = now s ∧ lcState (countLeaf k e l i n s) = lcState s ∧ (∀ (y0 : Eng), countsTree (countLeaf k e l i n s) y0 = countsTree s y0) := by
  have k := keep_countLeaf k e l i n s
  exact ⟨getIsl_congr (k .isls (by decide)), dpFence_congr (k .isls (by decide)), islRuns_congr (k .isls (by decide)), ctlRuns_congr (k .isls (by decide)), getFeed_congr (k .pwr (by decide)), getEng_congr (k .engA (by decide)) (k .engB (by decide)), getLeaf_congr (k .leaves (by decide)) (k .boot (by decide)), getSset_congr (k .ssets (by decide)) (k .boot (by decide)), getCtr_congr (k .ctrs (by decide)) (k .boot (by decide)), getGrp_congr (k .engA (by decide)) (k .engB (by decide)), getBrx_congr (k .engA (by decide)) (k .engB (by decide)), treeOf_congr (k .boot (by decide)), leafKey_congr (k .boot (by decide)), ssetKey_congr (k .boot (by decide)), ctrKey_congr (k .boot (by decide)), getFlow_congr (k .flow (by decide)), getPort_congr (k .cln (by decide)), getLane_congr (k .cln (by decide)), getSlot_congr (k .sec (by decide)), getReg_congr (k .regs (by decide)), regF_congr (k .regs (by decide)), getFlags_congr (k .flags (by decide)), powered_congr (k .pwr (by decide)), alive_congr (k .pwr (by decide)), inService_congr (k .pwr (by decide)) (k .bist (by decide)), now_congr (k .clk (by decide)), lcState_congr (k .fuse (by decide)), countsTree_congr (k .boot (by decide)) (k .aps (by decide))⟩
@[simp] theorem raiseF_fields (i : Isl) (code : ℕ) (obj : ℕ) (data : BitVec 80) (r : Reg) (e : Eng) (b : ℕ) (s : State) :
    (raiseF i code obj data r e b s).pending = s.pending ∧ (raiseF i code obj data r e b s).free = s.free ∧ (raiseF i code obj data r e b s).status = s.status ∧ (raiseF i code obj data r e b s).got = s.got ∧ (raiseF i code obj data r e b s).pwr = s.pwr ∧ (raiseF i code obj data r e b s).pins = s.pins ∧ (raiseF i code obj data r e b s).clk = s.clk ∧ (raiseF i code obj data r e b s).fuse = s.fuse ∧ (raiseF i code obj data r e b s).flash = s.flash ∧ (raiseF i code obj data r e b s).boot = s.boot ∧ (raiseF i code obj data r e b s).regs = s.regs ∧ (raiseF i code obj data r e b s).seenTurn = s.seenTurn ∧ (raiseF i code obj data r e b s).seenSec = s.seenSec ∧ (raiseF i code obj data r e b s).engA = s.engA ∧ (raiseF i code obj data r e b s).engB = s.engB ∧ (raiseF i code obj data r e b s).aps = s.aps ∧ (raiseF i code obj data r e b s).leaves = s.leaves ∧ (raiseF i code obj data r e b s).ssets = s.ssets ∧ (raiseF i code obj data r e b s).ctrs = s.ctrs ∧ (raiseF i code obj data r e b s).flow = s.flow ∧ (raiseF i code obj data r e b s).tod = s.tod ∧ (raiseF i code obj data r e b s).cln = s.cln ∧ (raiseF i code obj data r e b s).sec = s.sec ∧ (raiseF i code obj data r e b s).mem = s.mem ∧ (raiseF i code obj data r e b s).mgt = s.mgt ∧ (raiseF i code obj data r e b s).upd = s.upd ∧ (raiseF i code obj data r e b s).tally = s.tally ∧ (raiseF i code obj data r e b s).bist = s.bist := by
  have k := keep_raiseF i code obj data r e b s
  exact ⟨k .pending (by decide), k .free (by decide), k .status (by decide), k .got (by decide), k .pwr (by decide), k .pins (by decide), k .clk (by decide), k .fuse (by decide), k .flash (by decide), k .boot (by decide), k .regs (by decide), k .seenTurn (by decide), k .seenSec (by decide), k .engA (by decide), k .engB (by decide), k .aps (by decide), k .leaves (by decide), k .ssets (by decide), k .ctrs (by decide), k .flow (by decide), k .tod (by decide), k .cln (by decide), k .sec (by decide), k .mem (by decide), k .mgt (by decide), k .upd (by decide), k .tally (by decide), k .bist (by decide)⟩
@[simp] theorem raiseF_gets (i : Isl) (code : ℕ) (obj : ℕ) (data : BitVec 80) (r : Reg) (e : Eng) (b : ℕ) (s : State) :
    (∀ (y0 : Feed), getFeed (raiseF i code obj data r e b s) y0 = getFeed s y0) ∧ (∀ (y0 : Eng), getEng (raiseF i code obj data r e b s) y0 = getEng s y0) ∧ (∀ (y0 : Eng) (y1 : Nat), getLeaf (raiseF i code obj data r e b s) y0 y1 = getLeaf s y0 y1) ∧ (∀ (y0 : Eng) (y1 : Nat), getSset (raiseF i code obj data r e b s) y0 y1 = getSset s y0 y1) ∧ (∀ (y0 : Eng) (y1 : Nat), getCtr (raiseF i code obj data r e b s) y0 y1 = getCtr s y0 y1) ∧ (∀ (y0 : Eng) (y1 : Nat), getGrp (raiseF i code obj data r e b s) y0 y1 = getGrp s y0 y1) ∧ (∀ (y0 : Eng) (y1 : Nat), getBrx (raiseF i code obj data r e b s) y0 y1 = getBrx s y0 y1) ∧ (∀ (y0 : Eng), treeOf (raiseF i code obj data r e b s) y0 = treeOf s y0) ∧ (∀ (y0 : Eng) (y1 : Nat), leafKey (raiseF i code obj data r e b s) y0 y1 = leafKey s y0 y1) ∧ (∀ (y0 : Eng) (y1 : Nat), ssetKey (raiseF i code obj data r e b s) y0 y1 = ssetKey s y0 y1) ∧ (∀ (y0 : Eng) (y1 : Nat), ctrKey (raiseF i code obj data r e b s) y0 y1 = ctrKey s y0 y1) ∧ (∀ (y0 : Nat), getFlow (raiseF i code obj data r e b s) y0 = getFlow s y0) ∧ (∀ (y0 : Nat), getPort (raiseF i code obj data r e b s) y0 = getPort s y0) ∧ (∀ (y0 : Nat), getLane (raiseF i code obj data r e b s) y0 = getLane s y0) ∧ (∀ (y0 : Nat), getSlot (raiseF i code obj data r e b s) y0 = getSlot s y0) ∧ (∀ (y0 : Reg) (y1 : Eng) (y2 : Nat), getReg (raiseF i code obj data r e b s) y0 y1 y2 = getReg s y0 y1 y2) ∧ (∀ (y0 : Reg) (y1 : Eng) (y2 : Nat) (y3 : Nat) (y4 : Nat), regF (raiseF i code obj data r e b s) y0 y1 y2 y3 y4 = regF s y0 y1 y2 y3 y4) ∧ (∀ (y0 : Nat), chainMask (raiseF i code obj data r e b s) y0 = chainMask s y0) ∧ (∀ (y0 : Nat), modeMask (raiseF i code obj data r e b s) y0 = modeMask s y0) ∧ powered (raiseF i code obj data r e b s) = powered s ∧ alive (raiseF i code obj data r e b s) = alive s ∧ inService (raiseF i code obj data r e b s) = inService s ∧ now (raiseF i code obj data r e b s) = now s ∧ lcState (raiseF i code obj data r e b s) = lcState s ∧ (∀ (y0 : Eng), countsTree (raiseF i code obj data r e b s) y0 = countsTree s y0) := by
  have k := keep_raiseF i code obj data r e b s
  exact ⟨getFeed_congr (k .pwr (by decide)), getEng_congr (k .engA (by decide)) (k .engB (by decide)), getLeaf_congr (k .leaves (by decide)) (k .boot (by decide)), getSset_congr (k .ssets (by decide)) (k .boot (by decide)), getCtr_congr (k .ctrs (by decide)) (k .boot (by decide)), getGrp_congr (k .engA (by decide)) (k .engB (by decide)), getBrx_congr (k .engA (by decide)) (k .engB (by decide)), treeOf_congr (k .boot (by decide)), leafKey_congr (k .boot (by decide)), ssetKey_congr (k .boot (by decide)), ctrKey_congr (k .boot (by decide)), getFlow_congr (k .flow (by decide)), getPort_congr (k .cln (by decide)), getLane_congr (k .cln (by decide)), getSlot_congr (k .sec (by decide)), getReg_congr (k .regs (by decide)), regF_congr (k .regs (by decide)), chainMask_congr (k .tally (by decide)), modeMask_congr (k .tally (by decide)), powered_congr (k .pwr (by decide)), alive_congr (k .pwr (by decide)), inService_congr (k .pwr (by decide)) (k .bist (by decide)), now_congr (k .clk (by decide)), lcState_congr (k .fuse (by decide)), countsTree_congr (k .boot (by decide)) (k .aps (by decide))⟩
@[simp] theorem setLeaf_fields (e : Eng) (l : ℕ) (x : Leaf) (s : State) :
    (setLeaf e l x s).pending = s.pending ∧ (setLeaf e l x s).free = s.free ∧ (setLeaf e l x s).status = s.status ∧ (setLeaf e l x s).got = s.got ∧ (setLeaf e l x s).pwr = s.pwr ∧ (setLeaf e l x s).pins = s.pins ∧ (setLeaf e l x s).clk = s.clk ∧ (setLeaf e l x s).fuse = s.fuse ∧ (setLeaf e l x s).flash = s.flash ∧ (setLeaf e l x s).boot = s.boot ∧ (setLeaf e l x s).regs = s.regs ∧ (setLeaf e l x s).flags = s.flags ∧ (setLeaf e l x s).rsc = s.rsc ∧ (setLeaf e l x s).seenTurn = s.seenTurn ∧ (setLeaf e l x s).seenSec = s.seenSec ∧ (setLeaf e l x s).isls = s.isls ∧ (setLeaf e l x s).engA = s.engA ∧ (setLeaf e l x s).engB = s.engB ∧ (setLeaf e l x s).aps = s.aps ∧ (setLeaf e l x s).ssets = s.ssets ∧ (setLeaf e l x s).ctrs = s.ctrs ∧ (setLeaf e l x s).flow = s.flow ∧ (setLeaf e l x s).tod = s.tod ∧ (setLeaf e l x s).cln = s.cln ∧ (setLeaf e l x s).sec = s.sec ∧ (setLeaf e l x s).mem = s.mem ∧ (setLeaf e l x s).mgt = s.mgt ∧ (setLeaf e l x s).upd = s.upd ∧ (setLeaf e l x s).tally = s.tally ∧ (setLeaf e l x s).bist = s.bist := by
  have k := keep_setLeaf e l x s
  exact ⟨k .pending (by decide), k .free (by decide), k .status (by decide), k .got (by decide), k .pwr (by decide), k .pins (by decide), k .clk (by decide), k .fuse (by decide), k .flash (by decide), k .boot (by decide), k .regs (by decide), k .flags (by decide), k .rsc (by decide), k .seenTurn (by decide), k .seenSec (by decide), k .isls (by decide), k .engA (by decide), k .engB (by decide), k .aps (by decide), k .ssets (by decide), k .ctrs (by decide), k .flow (by decide), k .tod (by decide), k .cln (by decide), k .sec (by decide), k .mem (by decide), k .mgt (by decide), k .upd (by decide), k .tally (by decide), k .bist (by decide)⟩
@[simp] theorem setLeaf_gets (e : Eng) (l : ℕ) (x : Leaf) (s : State) :
    (∀ (y0 : Isl), getIsl (setLeaf e l x s) y0 = getIsl s y0) ∧ (∀ (y0 : Isl), dpFence (setLeaf e l x s) y0 = dpFence s y0) ∧ (∀ (y0 : Isl), islRuns (setLeaf e l x s) y0 = islRuns s y0) ∧ (∀ (y0 : Isl), ctlRuns (setLeaf e l x s) y0 = ctlRuns s y0) ∧ (∀ (y0 : Feed), getFeed (setLeaf e l x s) y0 = getFeed s y0) ∧ (∀ (y0 : Eng), getEng (setLeaf e l x s) y0 = getEng s y0) ∧ (∀ (y0 : Eng) (y1 : Nat), getSset (setLeaf e l x s) y0 y1 = getSset s y0 y1) ∧ (∀ (y0 : Eng) (y1 : Nat), getCtr (setLeaf e l x s) y0 y1 = getCtr s y0 y1) ∧ (∀ (y0 : Eng) (y1 : Nat), getGrp (setLeaf e l x s) y0 y1 = getGrp s y0 y1) ∧ (∀ (y0 : Eng) (y1 : Nat), getBrx (setLeaf e l x s) y0 y1 = getBrx s y0 y1) ∧ (∀ (y0 : Eng), treeOf (setLeaf e l x s) y0 = treeOf s y0) ∧ (∀ (y0 : Eng) (y1 : Nat), leafKey (setLeaf e l x s) y0 y1 = leafKey s y0 y1) ∧ (∀ (y0 : Eng) (y1 : Nat), ssetKey (setLeaf e l x s) y0 y1 = ssetKey s y0 y1) ∧ (∀ (y0 : Eng) (y1 : Nat), ctrKey (setLeaf e l x s) y0 y1 = ctrKey s y0 y1) ∧ (∀ (y0 : Nat), getFlow (setLeaf e l x s) y0 = getFlow s y0) ∧ (∀ (y0 : Nat), getPort (setLeaf e l x s) y0 = getPort s y0) ∧ (∀ (y0 : Nat), getLane (setLeaf e l x s) y0 = getLane s y0) ∧ (∀ (y0 : Nat), getSlot (setLeaf e l x s) y0 = getSlot s y0) ∧ (∀ (y0 : Reg) (y1 : Eng) (y2 : Nat), getReg (setLeaf e l x s) y0 y1 y2 = getReg s y0 y1 y2) ∧ (∀ (y0 : Reg) (y1 : Eng) (y2 : Nat) (y3 : Nat) (y4 : Nat), regF (setLeaf e l x s) y0 y1 y2 y3 y4 = regF s y0 y1 y2 y3 y4) ∧ (∀ (y0 : Nat), chainMask (setLeaf e l x s) y0 = chainMask s y0) ∧ (∀ (y0 : Nat), modeMask (setLeaf e l x s) y0 = modeMask s y0) ∧ (∀ (y0 : Nat), getFlags (setLeaf e l x s) y0 = getFlags s y0) ∧ powered (setLeaf e l x s) = powered s ∧ alive (setLeaf e l x s) = alive s ∧ inService (setLeaf e l x s) = inService s ∧ now (setLeaf e l x s) = now s ∧ lcState (setLeaf e l x s) = lcState s ∧ (∀ (y0 : Eng), countsTree (setLeaf e l x s) y0 = countsTree s y0) := by
  have k := keep_setLeaf e l x s
  exact ⟨getIsl_congr (k .isls (by decide)), dpFence_congr (k .isls (by decide)), islRuns_congr (k .isls (by decide)), ctlRuns_congr (k .isls (by decide)), getFeed_congr (k .pwr (by decide)), getEng_congr (k .engA (by decide)) (k .engB (by decide)), getSset_congr (k .ssets (by decide)) (k .boot (by decide)), getCtr_congr (k .ctrs (by decide)) (k .boot (by decide)), getGrp_congr (k .engA (by decide)) (k .engB (by decide)), getBrx_congr (k .engA (by decide)) (k .engB (by decide)), treeOf_congr (k .boot (by decide)), leafKey_congr (k .boot (by decide)), ssetKey_congr (k .boot (by decide)), ctrKey_congr (k .boot (by decide)), getFlow_congr (k .flow (by decide)), getPort_congr (k .cln (by decide)), getLane_congr (k .cln (by decide)), getSlot_congr (k .sec (by decide)), getReg_congr (k .regs (by decide)), regF_congr (k .regs (by decide)), chainMask_congr (k .tally (by decide)), modeMask_congr (k .tally (by decide)), getFlags_congr (k .flags (by decide)), powered_congr (k .pwr (by decide)), alive_congr (k .pwr (by decide)), inService_congr (k .pwr (by decide)) (k .bist (by decide)), now_congr (k .clk (by decide)), lcState_congr (k .fuse (by decide)), countsTree_congr (k .boot (by decide)) (k .aps (by decide))⟩
@[simp] theorem modLeaf_fields (e : Eng) (l : ℕ) (f : Leaf → Leaf) (s : State) :
    (modLeaf e l f s).pending = s.pending ∧ (modLeaf e l f s).free = s.free ∧ (modLeaf e l f s).status = s.status ∧ (modLeaf e l f s).got = s.got ∧ (modLeaf e l f s).pwr = s.pwr ∧ (modLeaf e l f s).pins = s.pins ∧ (modLeaf e l f s).clk = s.clk ∧ (modLeaf e l f s).fuse = s.fuse ∧ (modLeaf e l f s).flash = s.flash ∧ (modLeaf e l f s).boot = s.boot ∧ (modLeaf e l f s).regs = s.regs ∧ (modLeaf e l f s).flags = s.flags ∧ (modLeaf e l f s).rsc = s.rsc ∧ (modLeaf e l f s).seenTurn = s.seenTurn ∧ (modLeaf e l f s).seenSec = s.seenSec ∧ (modLeaf e l f s).isls = s.isls ∧ (modLeaf e l f s).engA = s.engA ∧ (modLeaf e l f s).engB = s.engB ∧ (modLeaf e l f s).aps = s.aps ∧ (modLeaf e l f s).ssets = s.ssets ∧ (modLeaf e l f s).ctrs = s.ctrs ∧ (modLeaf e l f s).flow = s.flow ∧ (modLeaf e l f s).tod = s.tod ∧ (modLeaf e l f s).cln = s.cln ∧ (modLeaf e l f s).sec = s.sec ∧ (modLeaf e l f s).mem = s.mem ∧ (modLeaf e l f s).mgt = s.mgt ∧ (modLeaf e l f s).upd = s.upd ∧ (modLeaf e l f s).tally = s.tally ∧ (modLeaf e l f s).bist = s.bist := by
  have k := keep_modLeaf e l f s
  exact ⟨k .pending (by decide), k .free (by decide), k .status (by decide), k .got (by decide), k .pwr (by decide), k .pins (by decide), k .clk (by decide), k .fuse (by decide), k .flash (by decide), k .boot (by decide), k .regs (by decide), k .flags (by decide), k .rsc (by decide), k .seenTurn (by decide), k .seenSec (by decide), k .isls (by decide), k .engA (by decide), k .engB (by decide), k .aps (by decide), k .ssets (by decide), k .ctrs (by decide), k .flow (by decide), k .tod (by decide), k .cln (by decide), k .sec (by decide), k .mem (by decide), k .mgt (by decide), k .upd (by decide), k .tally (by decide), k .bist (by decide)⟩
@[simp] theorem modLeaf_gets (e : Eng) (l : ℕ) (f : Leaf → Leaf) (s : State) :
    (∀ (y0 : Isl), getIsl (modLeaf e l f s) y0 = getIsl s y0) ∧ (∀ (y0 : Isl), dpFence (modLeaf e l f s) y0 = dpFence s y0) ∧ (∀ (y0 : Isl), islRuns (modLeaf e l f s) y0 = islRuns s y0) ∧ (∀ (y0 : Isl), ctlRuns (modLeaf e l f s) y0 = ctlRuns s y0) ∧ (∀ (y0 : Feed), getFeed (modLeaf e l f s) y0 = getFeed s y0) ∧ (∀ (y0 : Eng), getEng (modLeaf e l f s) y0 = getEng s y0) ∧ (∀ (y0 : Eng) (y1 : Nat), getSset (modLeaf e l f s) y0 y1 = getSset s y0 y1) ∧ (∀ (y0 : Eng) (y1 : Nat), getCtr (modLeaf e l f s) y0 y1 = getCtr s y0 y1) ∧ (∀ (y0 : Eng) (y1 : Nat), getGrp (modLeaf e l f s) y0 y1 = getGrp s y0 y1) ∧ (∀ (y0 : Eng) (y1 : Nat), getBrx (modLeaf e l f s) y0 y1 = getBrx s y0 y1) ∧ (∀ (y0 : Eng), treeOf (modLeaf e l f s) y0 = treeOf s y0) ∧ (∀ (y0 : Eng) (y1 : Nat), leafKey (modLeaf e l f s) y0 y1 = leafKey s y0 y1) ∧ (∀ (y0 : Eng) (y1 : Nat), ssetKey (modLeaf e l f s) y0 y1 = ssetKey s y0 y1) ∧ (∀ (y0 : Eng) (y1 : Nat), ctrKey (modLeaf e l f s) y0 y1 = ctrKey s y0 y1) ∧ (∀ (y0 : Nat), getFlow (modLeaf e l f s) y0 = getFlow s y0) ∧ (∀ (y0 : Nat), getPort (modLeaf e l f s) y0 = getPort s y0) ∧ (∀ (y0 : Nat), getLane (modLeaf e l f s) y0 = getLane s y0) ∧ (∀ (y0 : Nat), getSlot (modLeaf e l f s) y0 = getSlot s y0) ∧ (∀ (y0 : Reg) (y1 : Eng) (y2 : Nat), getReg (modLeaf e l f s) y0 y1 y2 = getReg s y0 y1 y2) ∧ (∀ (y0 : Reg) (y1 : Eng) (y2 : Nat) (y3 : Nat) (y4 : Nat), regF (modLeaf e l f s) y0 y1 y2 y3 y4 = regF s y0 y1 y2 y3 y4) ∧ (∀ (y0 : Nat), chainMask (modLeaf e l f s) y0 = chainMask s y0) ∧ (∀ (y0 : Nat), modeMask (modLeaf e l f s) y0 = modeMask s y0) ∧ (∀ (y0 : Nat), getFlags (modLeaf e l f s) y0 = getFlags s y0) ∧ powered (modLeaf e l f s) = powered s ∧ alive (modLeaf e l f s) = alive s ∧ inService (modLeaf e l f s) = inService s ∧ now (modLeaf e l f s) = now s ∧ lcState (modLeaf e l f s) = lcState s ∧ (∀ (y0 : Eng), countsTree (modLeaf e l f s) y0 = countsTree s y0) := by
  have k := keep_modLeaf e l f s
  exact ⟨getIsl_congr (k .isls (by decide)), dpFence_congr (k .isls (by decide)), islRuns_congr (k .isls (by decide)), ctlRuns_congr (k .isls (by decide)), getFeed_congr (k .pwr (by decide)), getEng_congr (k .engA (by decide)) (k .engB (by decide)), getSset_congr (k .ssets (by decide)) (k .boot (by decide)), getCtr_congr (k .ctrs (by decide)) (k .boot (by decide)), getGrp_congr (k .engA (by decide)) (k .engB (by decide)), getBrx_congr (k .engA (by decide)) (k .engB (by decide)), treeOf_congr (k .boot (by decide)), leafKey_congr (k .boot (by decide)), ssetKey_congr (k .boot (by decide)), ctrKey_congr (k .boot (by decide)), getFlow_congr (k .flow (by decide)), getPort_congr (k .cln (by decide)), getLane_congr (k .cln (by decide)), getSlot_congr (k .sec (by decide)), getReg_congr (k .regs (by decide)), regF_congr (k .regs (by decide)), chainMask_congr (k .tally (by decide)), modeMask_congr (k .tally (by decide)), getFlags_congr (k .flags (by decide)), powered_congr (k .pwr (by decide)), alive_congr (k .pwr (by decide)), inService_congr (k .pwr (by decide)) (k .bist (by decide)), now_congr (k .clk (by decide)), lcState_congr (k .fuse (by decide)), countsTree_congr (k .boot (by decide)) (k .aps (by decide))⟩
@[simp] theorem setSlot_fields (k : ℕ) (x : KeySlot) (s : State) :
    (setSlot k x s).pending = s.pending ∧ (setSlot k x s).free = s.free ∧ (setSlot k x s).status = s.status ∧ (setSlot k x s).got = s.got ∧ (setSlot k x s).pwr = s.pwr ∧ (setSlot k x s).pins = s.pins ∧ (setSlot k x s).clk = s.clk ∧ (setSlot k x s).fuse = s.fuse ∧ (setSlot k x s).flash = s.flash ∧ (setSlot k x s).boot = s.boot ∧ (setSlot k x s).regs = s.regs ∧ (setSlot k x s).flags = s.flags ∧ (setSlot k x s).rsc = s.rsc ∧ (setSlot k x s).seenTurn = s.seenTurn ∧ (setSlot k x s).seenSec = s.seenSec ∧ (setSlot k x s).isls = s.isls ∧ (setSlot k x s).engA = s.engA ∧ (setSlot k x s).engB = s.engB ∧ (setSlot k x s).aps = s.aps ∧ (setSlot k x s).leaves = s.leaves ∧ (setSlot k x s).ssets = s.ssets ∧ (setSlot k x s).ctrs = s.ctrs ∧ (setSlot k x s).flow = s.flow ∧ (setSlot k x s).tod = s.tod ∧ (setSlot k x s).cln = s.cln ∧ (setSlot k x s).mem = s.mem ∧ (setSlot k x s).mgt = s.mgt ∧ (setSlot k x s).upd = s.upd ∧ (setSlot k x s).tally = s.tally ∧ (setSlot k x s).bist = s.bist := by
  have k := keep_setSlot k x s
  exact ⟨k .pending (by decide), k .free (by decide), k .status (by decide), k .got (by decide), k .pwr (by decide), k .pins (by decide), k .clk (by decide), k .fuse (by decide), k .flash (by decide), k .boot (by decide), k .regs (by decide), k .flags (by decide), k .rsc (by decide), k .seenTurn (by decide), k .seenSec (by decide), k .isls (by decide), k .engA (by decide), k .engB (by decide), k .aps (by decide), k .leaves (by decide), k .ssets (by decide), k .ctrs (by decide), k .flow (by decide), k .tod (by decide), k .cln (by decide), k .mem (by decide), k .mgt (by decide), k .upd (by decide), k .tally (by decide), k .bist (by decide)⟩
@[simp] theorem setSlot_gets (k : ℕ) (x : KeySlot) (s : State) :
    (∀ (y0 : Isl), getIsl (setSlot k x s) y0 = getIsl s y0) ∧ (∀ (y0 : Isl), dpFence (setSlot k x s) y0 = dpFence s y0) ∧ (∀ (y0 : Isl), islRuns (setSlot k x s) y0 = islRuns s y0) ∧ (∀ (y0 : Isl), ctlRuns (setSlot k x s) y0 = ctlRuns s y0) ∧ (∀ (y0 : Feed), getFeed (setSlot k x s) y0 = getFeed s y0) ∧ (∀ (y0 : Eng), getEng (setSlot k x s) y0 = getEng s y0) ∧ (∀ (y0 : Eng) (y1 : Nat), getLeaf (setSlot k x s) y0 y1 = getLeaf s y0 y1) ∧ (∀ (y0 : Eng) (y1 : Nat), getSset (setSlot k x s) y0 y1 = getSset s y0 y1) ∧ (∀ (y0 : Eng) (y1 : Nat), getCtr (setSlot k x s) y0 y1 = getCtr s y0 y1) ∧ (∀ (y0 : Eng) (y1 : Nat), getGrp (setSlot k x s) y0 y1 = getGrp s y0 y1) ∧ (∀ (y0 : Eng) (y1 : Nat), getBrx (setSlot k x s) y0 y1 = getBrx s y0 y1) ∧ (∀ (y0 : Eng), treeOf (setSlot k x s) y0 = treeOf s y0) ∧ (∀ (y0 : Eng) (y1 : Nat), leafKey (setSlot k x s) y0 y1 = leafKey s y0 y1) ∧ (∀ (y0 : Eng) (y1 : Nat), ssetKey (setSlot k x s) y0 y1 = ssetKey s y0 y1) ∧ (∀ (y0 : Eng) (y1 : Nat), ctrKey (setSlot k x s) y0 y1 = ctrKey s y0 y1) ∧ (∀ (y0 : Nat), getFlow (setSlot k x s) y0 = getFlow s y0) ∧ (∀ (y0 : Nat), getPort (setSlot k x s) y0 = getPort s y0) ∧ (∀ (y0 : Nat), getLane (setSlot k x s) y0 = getLane s y0) ∧ (∀ (y0 : Reg) (y1 : Eng) (y2 : Nat), getReg (setSlot k x s) y0 y1 y2 = getReg s y0 y1 y2) ∧ (∀ (y0 : Reg) (y1 : Eng) (y2 : Nat) (y3 : Nat) (y4 : Nat), regF (setSlot k x s) y0 y1 y2 y3 y4 = regF s y0 y1 y2 y3 y4) ∧ (∀ (y0 : Nat), chainMask (setSlot k x s) y0 = chainMask s y0) ∧ (∀ (y0 : Nat), modeMask (setSlot k x s) y0 = modeMask s y0) ∧ (∀ (y0 : Nat), getFlags (setSlot k x s) y0 = getFlags s y0) ∧ powered (setSlot k x s) = powered s ∧ alive (setSlot k x s) = alive s ∧ inService (setSlot k x s) = inService s ∧ now (setSlot k x s) = now s ∧ lcState (setSlot k x s) = lcState s ∧ (∀ (y0 : Eng), countsTree (setSlot k x s) y0 = countsTree s y0) := by
  have k := keep_setSlot k x s
  exact ⟨getIsl_congr (k .isls (by decide)), dpFence_congr (k .isls (by decide)), islRuns_congr (k .isls (by decide)), ctlRuns_congr (k .isls (by decide)), getFeed_congr (k .pwr (by decide)), getEng_congr (k .engA (by decide)) (k .engB (by decide)), getLeaf_congr (k .leaves (by decide)) (k .boot (by decide)), getSset_congr (k .ssets (by decide)) (k .boot (by decide)), getCtr_congr (k .ctrs (by decide)) (k .boot (by decide)), getGrp_congr (k .engA (by decide)) (k .engB (by decide)), getBrx_congr (k .engA (by decide)) (k .engB (by decide)), treeOf_congr (k .boot (by decide)), leafKey_congr (k .boot (by decide)), ssetKey_congr (k .boot (by decide)), ctrKey_congr (k .boot (by decide)), getFlow_congr (k .flow (by decide)), getPort_congr (k .cln (by decide)), getLane_congr (k .cln (by decide)), getReg_congr (k .regs (by decide)), regF_congr (k .regs (by decide)), chainMask_congr (k .tally (by decide)), modeMask_congr (k .tally (by decide)), getFlags_congr (k .flags (by decide)), powered_congr (k .pwr (by decide)), alive_congr (k .pwr (by decide)), inService_congr (k .pwr (by decide)) (k .bist (by decide)), now_congr (k .clk (by decide)), lcState_congr (k .fuse (by decide)), countsTree_congr (k .boot (by decide)) (k .aps (by decide))⟩
@[simp] theorem modSlot_fields (k : ℕ) (f : KeySlot → KeySlot) (s : State) :
    (modSlot k f s).pending = s.pending ∧ (modSlot k f s).free = s.free ∧ (modSlot k f s).status = s.status ∧ (modSlot k f s).got = s.got ∧ (modSlot k f s).pwr = s.pwr ∧ (modSlot k f s).pins = s.pins ∧ (modSlot k f s).clk = s.clk ∧ (modSlot k f s).fuse = s.fuse ∧ (modSlot k f s).flash = s.flash ∧ (modSlot k f s).boot = s.boot ∧ (modSlot k f s).regs = s.regs ∧ (modSlot k f s).flags = s.flags ∧ (modSlot k f s).rsc = s.rsc ∧ (modSlot k f s).seenTurn = s.seenTurn ∧ (modSlot k f s).seenSec = s.seenSec ∧ (modSlot k f s).isls = s.isls ∧ (modSlot k f s).engA = s.engA ∧ (modSlot k f s).engB = s.engB ∧ (modSlot k f s).aps = s.aps ∧ (modSlot k f s).leaves = s.leaves ∧ (modSlot k f s).ssets = s.ssets ∧ (modSlot k f s).ctrs = s.ctrs ∧ (modSlot k f s).flow = s.flow ∧ (modSlot k f s).tod = s.tod ∧ (modSlot k f s).cln = s.cln ∧ (modSlot k f s).mem = s.mem ∧ (modSlot k f s).mgt = s.mgt ∧ (modSlot k f s).upd = s.upd ∧ (modSlot k f s).tally = s.tally ∧ (modSlot k f s).bist = s.bist := by
  have k := keep_modSlot k f s
  exact ⟨k .pending (by decide), k .free (by decide), k .status (by decide), k .got (by decide), k .pwr (by decide), k .pins (by decide), k .clk (by decide), k .fuse (by decide), k .flash (by decide), k .boot (by decide), k .regs (by decide), k .flags (by decide), k .rsc (by decide), k .seenTurn (by decide), k .seenSec (by decide), k .isls (by decide), k .engA (by decide), k .engB (by decide), k .aps (by decide), k .leaves (by decide), k .ssets (by decide), k .ctrs (by decide), k .flow (by decide), k .tod (by decide), k .cln (by decide), k .mem (by decide), k .mgt (by decide), k .upd (by decide), k .tally (by decide), k .bist (by decide)⟩
@[simp] theorem modSlot_gets (k : ℕ) (f : KeySlot → KeySlot) (s : State) :
    (∀ (y0 : Isl), getIsl (modSlot k f s) y0 = getIsl s y0) ∧ (∀ (y0 : Isl), dpFence (modSlot k f s) y0 = dpFence s y0) ∧ (∀ (y0 : Isl), islRuns (modSlot k f s) y0 = islRuns s y0) ∧ (∀ (y0 : Isl), ctlRuns (modSlot k f s) y0 = ctlRuns s y0) ∧ (∀ (y0 : Feed), getFeed (modSlot k f s) y0 = getFeed s y0) ∧ (∀ (y0 : Eng), getEng (modSlot k f s) y0 = getEng s y0) ∧ (∀ (y0 : Eng) (y1 : Nat), getLeaf (modSlot k f s) y0 y1 = getLeaf s y0 y1) ∧ (∀ (y0 : Eng) (y1 : Nat), getSset (modSlot k f s) y0 y1 = getSset s y0 y1) ∧ (∀ (y0 : Eng) (y1 : Nat), getCtr (modSlot k f s) y0 y1 = getCtr s y0 y1) ∧ (∀ (y0 : Eng) (y1 : Nat), getGrp (modSlot k f s) y0 y1 = getGrp s y0 y1) ∧ (∀ (y0 : Eng) (y1 : Nat), getBrx (modSlot k f s) y0 y1 = getBrx s y0 y1) ∧ (∀ (y0 : Eng), treeOf (modSlot k f s) y0 = treeOf s y0) ∧ (∀ (y0 : Eng) (y1 : Nat), leafKey (modSlot k f s) y0 y1 = leafKey s y0 y1) ∧ (∀ (y0 : Eng) (y1 : Nat), ssetKey (modSlot k f s) y0 y1 = ssetKey s y0 y1) ∧ (∀ (y0 : Eng) (y1 : Nat), ctrKey (modSlot k f s) y0 y1 = ctrKey s y0 y1) ∧ (∀ (y0 : Nat), getFlow (modSlot k f s) y0 = getFlow s y0) ∧ (∀ (y0 : Nat), getPort (modSlot k f s) y0 = getPort s y0) ∧ (∀ (y0 : Nat), getLane (modSlot k f s) y0 = getLane s y0) ∧ (∀ (y0 : Reg) (y1 : Eng) (y2 : Nat), getReg (modSlot k f s) y0 y1 y2 = getReg s y0 y1 y2) ∧ (∀ (y0 : Reg) (y1 : Eng) (y2 : Nat) (y3 : Nat) (y4 : Nat), regF (modSlot k f s) y0 y1 y2 y3 y4 = regF s y0 y1 y2 y3 y4) ∧ (∀ (y0 : Nat), chainMask (modSlot k f s) y0 = chainMask s y0) ∧ (∀ (y0 : Nat), modeMask (modSlot k f s) y0 = modeMask s y0) ∧ (∀ (y0 : Nat), getFlags (modSlot k f s) y0 = getFlags s y0) ∧ powered (modSlot k f s) = powered s ∧ alive (modSlot k f s) = alive s ∧ inService (modSlot k f s) = inService s ∧ now (modSlot k f s) = now s ∧ lcState (modSlot k f s) = lcState s ∧ (∀ (y0 : Eng), countsTree (modSlot k f s) y0 = countsTree s y0) := by
  have k := keep_modSlot k f s
  exact ⟨getIsl_congr (k .isls (by decide)), dpFence_congr (k .isls (by decide)), islRuns_congr (k .isls (by decide)), ctlRuns_congr (k .isls (by decide)), getFeed_congr (k .pwr (by decide)), getEng_congr (k .engA (by decide)) (k .engB (by decide)), getLeaf_congr (k .leaves (by decide)) (k .boot (by decide)), getSset_congr (k .ssets (by decide)) (k .boot (by decide)), getCtr_congr (k .ctrs (by decide)) (k .boot (by decide)), getGrp_congr (k .engA (by decide)) (k .engB (by decide)), getBrx_congr (k .engA (by decide)) (k .engB (by decide)), treeOf_congr (k .boot (by decide)), leafKey_congr (k .boot (by decide)), ssetKey_congr (k .boot (by decide)), ctrKey_congr (k .boot (by decide)), getFlow_congr (k .flow (by decide)), getPort_congr (k .cln (by decide)), getLane_congr (k .cln (by decide)), getReg_congr (k .regs (by decide)), regF_congr (k .regs (by decide)), chainMask_congr (k .tally (by decide)), modeMask_congr (k .tally (by decide)), getFlags_congr (k .flags (by decide)), powered_congr (k .pwr (by decide)), alive_congr (k .pwr (by decide)), inService_congr (k .pwr (by decide)) (k .bist (by decide)), now_congr (k .clk (by decide)), lcState_congr (k .fuse (by decide)), countsTree_congr (k .boot (by decide)) (k .aps (by decide))⟩
@[simp] theorem setReg_fields (r : Reg) (e : Eng) (i : ℕ) (v : W32) (s : State) :
    (setReg r e i v s).pending = s.pending ∧ (setReg r e i v s).free = s.free ∧ (setReg r e i v s).status = s.status ∧ (setReg r e i v s).got = s.got ∧ (setReg r e i v s).pwr = s.pwr ∧ (setReg r e i v s).pins = s.pins ∧ (setReg r e i v s).clk = s.clk ∧ (setReg r e i v s).fuse = s.fuse ∧ (setReg r e i v s).flash = s.flash ∧ (setReg r e i v s).boot = s.boot ∧ (setReg r e i v s).flags = s.flags ∧ (setReg r e i v s).rsc = s.rsc ∧ (setReg r e i v s).seenTurn = s.seenTurn ∧ (setReg r e i v s).seenSec = s.seenSec ∧ (setReg r e i v s).isls = s.isls ∧ (setReg r e i v s).engA = s.engA ∧ (setReg r e i v s).engB = s.engB ∧ (setReg r e i v s).aps = s.aps ∧ (setReg r e i v s).leaves = s.leaves ∧ (setReg r e i v s).ssets = s.ssets ∧ (setReg r e i v s).ctrs = s.ctrs ∧ (setReg r e i v s).flow = s.flow ∧ (setReg r e i v s).tod = s.tod ∧ (setReg r e i v s).cln = s.cln ∧ (setReg r e i v s).sec = s.sec ∧ (setReg r e i v s).mem = s.mem ∧ (setReg r e i v s).mgt = s.mgt ∧ (setReg r e i v s).upd = s.upd ∧ (setReg r e i v s).tally = s.tally ∧ (setReg r e i v s).bist = s.bist := by
  have k := keep_setReg r e i v s
  exact ⟨k .pending (by decide), k .free (by decide), k .status (by decide), k .got (by decide), k .pwr (by decide), k .pins (by decide), k .clk (by decide), k .fuse (by decide), k .flash (by decide), k .boot (by decide), k .flags (by decide), k .rsc (by decide), k .seenTurn (by decide), k .seenSec (by decide), k .isls (by decide), k .engA (by decide), k .engB (by decide), k .aps (by decide), k .leaves (by decide), k .ssets (by decide), k .ctrs (by decide), k .flow (by decide), k .tod (by decide), k .cln (by decide), k .sec (by decide), k .mem (by decide), k .mgt (by decide), k .upd (by decide), k .tally (by decide), k .bist (by decide)⟩
@[simp] theorem setReg_gets (r : Reg) (e : Eng) (i : ℕ) (v : W32) (s : State) :
    (∀ (y0 : Isl), getIsl (setReg r e i v s) y0 = getIsl s y0) ∧ (∀ (y0 : Isl), dpFence (setReg r e i v s) y0 = dpFence s y0) ∧ (∀ (y0 : Isl), islRuns (setReg r e i v s) y0 = islRuns s y0) ∧ (∀ (y0 : Isl), ctlRuns (setReg r e i v s) y0 = ctlRuns s y0) ∧ (∀ (y0 : Feed), getFeed (setReg r e i v s) y0 = getFeed s y0) ∧ (∀ (y0 : Eng), getEng (setReg r e i v s) y0 = getEng s y0) ∧ (∀ (y0 : Eng) (y1 : Nat), getLeaf (setReg r e i v s) y0 y1 = getLeaf s y0 y1) ∧ (∀ (y0 : Eng) (y1 : Nat), getSset (setReg r e i v s) y0 y1 = getSset s y0 y1) ∧ (∀ (y0 : Eng) (y1 : Nat), getCtr (setReg r e i v s) y0 y1 = getCtr s y0 y1) ∧ (∀ (y0 : Eng) (y1 : Nat), getGrp (setReg r e i v s) y0 y1 = getGrp s y0 y1) ∧ (∀ (y0 : Eng) (y1 : Nat), getBrx (setReg r e i v s) y0 y1 = getBrx s y0 y1) ∧ (∀ (y0 : Eng), treeOf (setReg r e i v s) y0 = treeOf s y0) ∧ (∀ (y0 : Eng) (y1 : Nat), leafKey (setReg r e i v s) y0 y1 = leafKey s y0 y1) ∧ (∀ (y0 : Eng) (y1 : Nat), ssetKey (setReg r e i v s) y0 y1 = ssetKey s y0 y1) ∧ (∀ (y0 : Eng) (y1 : Nat), ctrKey (setReg r e i v s) y0 y1 = ctrKey s y0 y1) ∧ (∀ (y0 : Nat), getFlow (setReg r e i v s) y0 = getFlow s y0) ∧ (∀ (y0 : Nat), getPort (setReg r e i v s) y0 = getPort s y0) ∧ (∀ (y0 : Nat), getLane (setReg r e i v s) y0 = getLane s y0) ∧ (∀ (y0 : Nat), getSlot (setReg r e i v s) y0 = getSlot s y0) ∧ (∀ (y0 : Nat), chainMask (setReg r e i v s) y0 = chainMask s y0) ∧ (∀ (y0 : Nat), modeMask (setReg r e i v s) y0 = modeMask s y0) ∧ (∀ (y0 : Nat), getFlags (setReg r e i v s) y0 = getFlags s y0) ∧ powered (setReg r e i v s) = powered s ∧ alive (setReg r e i v s) = alive s ∧ inService (setReg r e i v s) = inService s ∧ now (setReg r e i v s) = now s ∧ lcState (setReg r e i v s) = lcState s ∧ (∀ (y0 : Eng), countsTree (setReg r e i v s) y0 = countsTree s y0) := by
  have k := keep_setReg r e i v s
  exact ⟨getIsl_congr (k .isls (by decide)), dpFence_congr (k .isls (by decide)), islRuns_congr (k .isls (by decide)), ctlRuns_congr (k .isls (by decide)), getFeed_congr (k .pwr (by decide)), getEng_congr (k .engA (by decide)) (k .engB (by decide)), getLeaf_congr (k .leaves (by decide)) (k .boot (by decide)), getSset_congr (k .ssets (by decide)) (k .boot (by decide)), getCtr_congr (k .ctrs (by decide)) (k .boot (by decide)), getGrp_congr (k .engA (by decide)) (k .engB (by decide)), getBrx_congr (k .engA (by decide)) (k .engB (by decide)), treeOf_congr (k .boot (by decide)), leafKey_congr (k .boot (by decide)), ssetKey_congr (k .boot (by decide)), ctrKey_congr (k .boot (by decide)), getFlow_congr (k .flow (by decide)), getPort_congr (k .cln (by decide)), getLane_congr (k .cln (by decide)), getSlot_congr (k .sec (by decide)), chainMask_congr (k .tally (by decide)), modeMask_congr (k .tally (by decide)), getFlags_congr (k .flags (by decide)), powered_congr (k .pwr (by decide)), alive_congr (k .pwr (by decide)), inService_congr (k .pwr (by decide)) (k .bist (by decide)), now_congr (k .clk (by decide)), lcState_congr (k .fuse (by decide)), countsTree_congr (k .boot (by decide)) (k .aps (by decide))⟩
@[simp] theorem setSset_fields (e : Eng) (i : ℕ) (x : Sset) (s : State) :
    (setSset e i x s).pending = s.pending ∧ (setSset e i x s).free = s.free ∧ (setSset e i x s).status = s.status ∧ (setSset e i x s).got = s.got ∧ (setSset e i x s).pwr = s.pwr ∧ (setSset e i x s).pins = s.pins ∧ (setSset e i x s).clk = s.clk ∧ (setSset e i x s).fuse = s.fuse ∧ (setSset e i x s).flash = s.flash ∧ (setSset e i x s).boot = s.boot ∧ (setSset e i x s).regs = s.regs ∧ (setSset e i x s).flags = s.flags ∧ (setSset e i x s).rsc = s.rsc ∧ (setSset e i x s).seenTurn = s.seenTurn ∧ (setSset e i x s).seenSec = s.seenSec ∧ (setSset e i x s).isls = s.isls ∧ (setSset e i x s).engA = s.engA ∧ (setSset e i x s).engB = s.engB ∧ (setSset e i x s).aps = s.aps ∧ (setSset e i x s).leaves = s.leaves ∧ (setSset e i x s).ctrs = s.ctrs ∧ (setSset e i x s).flow = s.flow ∧ (setSset e i x s).tod = s.tod ∧ (setSset e i x s).cln = s.cln ∧ (setSset e i x s).sec = s.sec ∧ (setSset e i x s).mem = s.mem ∧ (setSset e i x s).mgt = s.mgt ∧ (setSset e i x s).upd = s.upd ∧ (setSset e i x s).tally = s.tally ∧ (setSset e i x s).bist = s.bist := by
  have k := keep_setSset e i x s
  exact ⟨k .pending (by decide), k .free (by decide), k .status (by decide), k .got (by decide), k .pwr (by decide), k .pins (by decide), k .clk (by decide), k .fuse (by decide), k .flash (by decide), k .boot (by decide), k .regs (by decide), k .flags (by decide), k .rsc (by decide), k .seenTurn (by decide), k .seenSec (by decide), k .isls (by decide), k .engA (by decide), k .engB (by decide), k .aps (by decide), k .leaves (by decide), k .ctrs (by decide), k .flow (by decide), k .tod (by decide), k .cln (by decide), k .sec (by decide), k .mem (by decide), k .mgt (by decide), k .upd (by decide), k .tally (by decide), k .bist (by decide)⟩
@[simp] theorem setSset_gets (e : Eng) (i : ℕ) (x : Sset) (s : State) :
    (∀ (y0 : Isl), getIsl (setSset e i x s) y0 = getIsl s y0) ∧ (∀ (y0 : Isl), dpFence (setSset e i x s) y0 = dpFence s y0) ∧ (∀ (y0 : Isl), islRuns (setSset e i x s) y0 = islRuns s y0) ∧ (∀ (y0 : Isl), ctlRuns (setSset e i x s) y0 = ctlRuns s y0) ∧ (∀ (y0 : Feed), getFeed (setSset e i x s) y0 = getFeed s y0) ∧ (∀ (y0 : Eng), getEng (setSset e i x s) y0 = getEng s y0) ∧ (∀ (y0 : Eng) (y1 : Nat), getLeaf (setSset e i x s) y0 y1 = getLeaf s y0 y1) ∧ (∀ (y0 : Eng) (y1 : Nat), getCtr (setSset e i x s) y0 y1 = getCtr s y0 y1) ∧ (∀ (y0 : Eng) (y1 : Nat), getGrp (setSset e i x s) y0 y1 = getGrp s y0 y1) ∧ (∀ (y0 : Eng) (y1 : Nat), getBrx (setSset e i x s) y0 y1 = getBrx s y0 y1) ∧ (∀ (y0 : Eng), treeOf (setSset e i x s) y0 = treeOf s y0) ∧ (∀ (y0 : Eng) (y1 : Nat), leafKey (setSset e i x s) y0 y1 = leafKey s y0 y1) ∧ (∀ (y0 : Eng) (y1 : Nat), ssetKey (setSset e i x s) y0 y1 = ssetKey s y0 y1) ∧ (∀ (y0 : Eng) (y1 : Nat), ctrKey (setSset e i x s) y0 y1 = ctrKey s y0 y1) ∧ (∀ (y0 : Nat), getFlow (setSset e i x s) y0 = getFlow s y0) ∧ (∀ (y0 : Nat), getPort (setSset e i x s) y0 = getPort s y0) ∧ (∀ (y0 : Nat), getLane (setSset e i x s) y0 = getLane s y0) ∧ (∀ (y0 : Nat), getSlot (setSset e i x s) y0 = getSlot s y0) ∧ (∀ (y0 : Reg) (y1 : Eng) (y2 : Nat), getReg (setSset e i x s) y0 y1 y2 = getReg s y0 y1 y2) ∧ (∀ (y0 : Reg) (y1 : Eng) (y2 : Nat) (y3 : Nat) (y4 : Nat), regF (setSset e i x s) y0 y1 y2 y3 y4 = regF s y0 y1 y2 y3 y4) ∧ (∀ (y0 : Nat), chainMask (setSset e i x s) y0 = chainMask s y0) ∧ (∀ (y0 : Nat), modeMask (setSset e i x s) y0 = modeMask s y0) ∧ (∀ (y0 : Nat), getFlags (setSset e i x s) y0 = getFlags s y0) ∧ powered (setSset e i x s) = powered s ∧ alive (setSset e i x s) = alive s ∧ inService (setSset e i x s) = inService s ∧ now (setSset e i x s) = now s ∧ lcState (setSset e i x s) = lcState s ∧ (∀ (y0 : Eng), countsTree (setSset e i x s) y0 = countsTree s y0) := by
  have k := keep_setSset e i x s
  exact ⟨getIsl_congr (k .isls (by decide)), dpFence_congr (k .isls (by decide)), islRuns_congr (k .isls (by decide)), ctlRuns_congr (k .isls (by decide)), getFeed_congr (k .pwr (by decide)), getEng_congr (k .engA (by decide)) (k .engB (by decide)), getLeaf_congr (k .leaves (by decide)) (k .boot (by decide)), getCtr_congr (k .ctrs (by decide)) (k .boot (by decide)), getGrp_congr (k .engA (by decide)) (k .engB (by decide)), getBrx_congr (k .engA (by decide)) (k .engB (by decide)), treeOf_congr (k .boot (by decide)), leafKey_congr (k .boot (by decide)), ssetKey_congr (k .boot (by decide)), ctrKey_congr (k .boot (by decide)), getFlow_congr (k .flow (by decide)), getPort_congr (k .cln (by decide)), getLane_congr (k .cln (by decide)), getSlot_congr (k .sec (by decide)), getReg_congr (k .regs (by decide)), regF_congr (k .regs (by decide)), chainMask_congr (k .tally (by decide)), modeMask_congr (k .tally (by decide)), getFlags_congr (k .flags (by decide)), powered_congr (k .pwr (by decide)), alive_congr (k .pwr (by decide)), inService_congr (k .pwr (by decide)) (k .bist (by decide)), now_congr (k .clk (by decide)), lcState_congr (k .fuse (by decide)), countsTree_congr (k .boot (by decide)) (k .aps (by decide))⟩
@[simp] theorem modSset_fields (e : Eng) (i : ℕ) (f : Sset → Sset) (s : State) :
    (modSset e i f s).pending = s.pending ∧ (modSset e i f s).free = s.free ∧ (modSset e i f s).status = s.status ∧ (modSset e i f s).got = s.got ∧ (modSset e i f s).pwr = s.pwr ∧ (modSset e i f s).pins = s.pins ∧ (modSset e i f s).clk = s.clk ∧ (modSset e i f s).fuse = s.fuse ∧ (modSset e i f s).flash = s.flash ∧ (modSset e i f s).boot = s.boot ∧ (modSset e i f s).regs = s.regs ∧ (modSset e i f s).flags = s.flags ∧ (modSset e i f s).rsc = s.rsc ∧ (modSset e i f s).seenTurn = s.seenTurn ∧ (modSset e i f s).seenSec = s.seenSec ∧ (modSset e i f s).isls = s.isls ∧ (modSset e i f s).engA = s.engA ∧ (modSset e i f s).engB = s.engB ∧ (modSset e i f s).aps = s.aps ∧ (modSset e i f s).leaves = s.leaves ∧ (modSset e i f s).ctrs = s.ctrs ∧ (modSset e i f s).flow = s.flow ∧ (modSset e i f s).tod = s.tod ∧ (modSset e i f s).cln = s.cln ∧ (modSset e i f s).sec = s.sec ∧ (modSset e i f s).mem = s.mem ∧ (modSset e i f s).mgt = s.mgt ∧ (modSset e i f s).upd = s.upd ∧ (modSset e i f s).tally = s.tally ∧ (modSset e i f s).bist = s.bist := by
  have k := keep_modSset e i f s
  exact ⟨k .pending (by decide), k .free (by decide), k .status (by decide), k .got (by decide), k .pwr (by decide), k .pins (by decide), k .clk (by decide), k .fuse (by decide), k .flash (by decide), k .boot (by decide), k .regs (by decide), k .flags (by decide), k .rsc (by decide), k .seenTurn (by decide), k .seenSec (by decide), k .isls (by decide), k .engA (by decide), k .engB (by decide), k .aps (by decide), k .leaves (by decide), k .ctrs (by decide), k .flow (by decide), k .tod (by decide), k .cln (by decide), k .sec (by decide), k .mem (by decide), k .mgt (by decide), k .upd (by decide), k .tally (by decide), k .bist (by decide)⟩
@[simp] theorem modSset_gets (e : Eng) (i : ℕ) (f : Sset → Sset) (s : State) :
    (∀ (y0 : Isl), getIsl (modSset e i f s) y0 = getIsl s y0) ∧ (∀ (y0 : Isl), dpFence (modSset e i f s) y0 = dpFence s y0) ∧ (∀ (y0 : Isl), islRuns (modSset e i f s) y0 = islRuns s y0) ∧ (∀ (y0 : Isl), ctlRuns (modSset e i f s) y0 = ctlRuns s y0) ∧ (∀ (y0 : Feed), getFeed (modSset e i f s) y0 = getFeed s y0) ∧ (∀ (y0 : Eng), getEng (modSset e i f s) y0 = getEng s y0) ∧ (∀ (y0 : Eng) (y1 : Nat), getLeaf (modSset e i f s) y0 y1 = getLeaf s y0 y1) ∧ (∀ (y0 : Eng) (y1 : Nat), getCtr (modSset e i f s) y0 y1 = getCtr s y0 y1) ∧ (∀ (y0 : Eng) (y1 : Nat), getGrp (modSset e i f s) y0 y1 = getGrp s y0 y1) ∧ (∀ (y0 : Eng) (y1 : Nat), getBrx (modSset e i f s) y0 y1 = getBrx s y0 y1) ∧ (∀ (y0 : Eng), treeOf (modSset e i f s) y0 = treeOf s y0) ∧ (∀ (y0 : Eng) (y1 : Nat), leafKey (modSset e i f s) y0 y1 = leafKey s y0 y1) ∧ (∀ (y0 : Eng) (y1 : Nat), ssetKey (modSset e i f s) y0 y1 = ssetKey s y0 y1) ∧ (∀ (y0 : Eng) (y1 : Nat), ctrKey (modSset e i f s) y0 y1 = ctrKey s y0 y1) ∧ (∀ (y0 : Nat), getFlow (modSset e i f s) y0 = getFlow s y0) ∧ (∀ (y0 : Nat), getPort (modSset e i f s) y0 = getPort s y0) ∧ (∀ (y0 : Nat), getLane (modSset e i f s) y0 = getLane s y0) ∧ (∀ (y0 : Nat), getSlot (modSset e i f s) y0 = getSlot s y0) ∧ (∀ (y0 : Reg) (y1 : Eng) (y2 : Nat), getReg (modSset e i f s) y0 y1 y2 = getReg s y0 y1 y2) ∧ (∀ (y0 : Reg) (y1 : Eng) (y2 : Nat) (y3 : Nat) (y4 : Nat), regF (modSset e i f s) y0 y1 y2 y3 y4 = regF s y0 y1 y2 y3 y4) ∧ (∀ (y0 : Nat), chainMask (modSset e i f s) y0 = chainMask s y0) ∧ (∀ (y0 : Nat), modeMask (modSset e i f s) y0 = modeMask s y0) ∧ (∀ (y0 : Nat), getFlags (modSset e i f s) y0 = getFlags s y0) ∧ powered (modSset e i f s) = powered s ∧ alive (modSset e i f s) = alive s ∧ inService (modSset e i f s) = inService s ∧ now (modSset e i f s) = now s ∧ lcState (modSset e i f s) = lcState s ∧ (∀ (y0 : Eng), countsTree (modSset e i f s) y0 = countsTree s y0) := by
  have k := keep_modSset e i f s
  exact ⟨getIsl_congr (k .isls (by decide)), dpFence_congr (k .isls (by decide)), islRuns_congr (k .isls (by decide)), ctlRuns_congr (k .isls (by decide)), getFeed_congr (k .pwr (by decide)), getEng_congr (k .engA (by decide)) (k .engB (by decide)), getLeaf_congr (k .leaves (by decide)) (k .boot (by decide)), getCtr_congr (k .ctrs (by decide)) (k .boot (by decide)), getGrp_congr (k .engA (by decide)) (k .engB (by decide)), getBrx_congr (k .engA (by decide)) (k .engB (by decide)), treeOf_congr (k .boot (by decide)), leafKey_congr (k .boot (by decide)), ssetKey_congr (k .boot (by decide)), ctrKey_congr (k .boot (by decide)), getFlow_congr (k .flow (by decide)), getPort_congr (k .cln (by decide)), getLane_congr (k .cln (by decide)), getSlot_congr (k .sec (by decide)), getReg_congr (k .regs (by decide)), regF_congr (k .regs (by decide)), chainMask_congr (k .tally (by decide)), modeMask_congr (k .tally (by decide)), getFlags_congr (k .flags (by decide)), powered_congr (k .pwr (by decide)), alive_congr (k .pwr (by decide)), inService_congr (k .pwr (by decide)) (k .bist (by decide)), now_congr (k .clk (by decide)), lcState_congr (k .fuse (by decide)), countsTree_congr (k .boot (by decide)) (k .aps (by decide))⟩
@[simp] theorem setCtr_fields (e : Eng) (c : ℕ) (x : Ctr) (s : State) :
    (setCtr e c x s).pending = s.pending ∧ (setCtr e c x s).free = s.free ∧ (setCtr e c x s).status = s.status ∧ (setCtr e c x s).got = s.got ∧ (setCtr e c x s).pwr = s.pwr ∧ (setCtr e c x s).pins = s.pins ∧ (setCtr e c x s).clk = s.clk ∧ (setCtr e c x s).fuse = s.fuse ∧ (setCtr e c x s).flash = s.flash ∧ (setCtr e c x s).boot = s.boot ∧ (setCtr e c x s).regs = s.regs ∧ (setCtr e c x s).flags = s.flags ∧ (setCtr e c x s).rsc = s.rsc ∧ (setCtr e c x s).seenTurn = s.seenTurn ∧ (setCtr e c x s).seenSec = s.seenSec ∧ (setCtr e c x s).isls = s.isls ∧ (setCtr e c x s).engA = s.engA ∧ (setCtr e c x s).engB = s.engB ∧ (setCtr e c x s).aps = s.aps ∧ (setCtr e c x s).leaves = s.leaves ∧ (setCtr e c x s).ssets = s.ssets ∧ (setCtr e c x s).flow = s.flow ∧ (setCtr e c x s).tod = s.tod ∧ (setCtr e c x s).cln = s.cln ∧ (setCtr e c x s).sec = s.sec ∧ (setCtr e c x s).mem = s.mem ∧ (setCtr e c x s).mgt = s.mgt ∧ (setCtr e c x s).upd = s.upd ∧ (setCtr e c x s).tally = s.tally ∧ (setCtr e c x s).bist = s.bist := by
  have k := keep_setCtr e c x s
  exact ⟨k .pending (by decide), k .free (by decide), k .status (by decide), k .got (by decide), k .pwr (by decide), k .pins (by decide), k .clk (by decide), k .fuse (by decide), k .flash (by decide), k .boot (by decide), k .regs (by decide), k .flags (by decide), k .rsc (by decide), k .seenTurn (by decide), k .seenSec (by decide), k .isls (by decide), k .engA (by decide), k .engB (by decide), k .aps (by decide), k .leaves (by decide), k .ssets (by decide), k .flow (by decide), k .tod (by decide), k .cln (by decide), k .sec (by decide), k .mem (by decide), k .mgt (by decide), k .upd (by decide), k .tally (by decide), k .bist (by decide)⟩
@[simp] theorem setCtr_gets (e : Eng) (c : ℕ) (x : Ctr) (s : State) :
    (∀ (y0 : Isl), getIsl (setCtr e c x s) y0 = getIsl s y0) ∧ (∀ (y0 : Isl), dpFence (setCtr e c x s) y0 = dpFence s y0) ∧ (∀ (y0 : Isl), islRuns (setCtr e c x s) y0 = islRuns s y0) ∧ (∀ (y0 : Isl), ctlRuns (setCtr e c x s) y0 = ctlRuns s y0) ∧ (∀ (y0 : Feed), getFeed (setCtr e c x s) y0 = getFeed s y0) ∧ (∀ (y0 : Eng), getEng (setCtr e c x s) y0 = getEng s y0) ∧ (∀ (y0 : Eng) (y1 : Nat), getLeaf (setCtr e c x s) y0 y1 = getLeaf s y0 y1) ∧ (∀ (y0 : Eng) (y1 : Nat), getSset (setCtr e c x s) y0 y1 = getSset s y0 y1) ∧ (∀ (y0 : Eng) (y1 : Nat), getGrp (setCtr e c x s) y0 y1 = getGrp s y0 y1) ∧ (∀ (y0 : Eng) (y1 : Nat), getBrx (setCtr e c x s) y0 y1 = getBrx s y0 y1) ∧ (∀ (y0 : Eng), treeOf (setCtr e c x s) y0 = treeOf s y0) ∧ (∀ (y0 : Eng) (y1 : Nat), leafKey (setCtr e c x s) y0 y1 = leafKey s y0 y1) ∧ (∀ (y0 : Eng) (y1 : Nat), ssetKey (setCtr e c x s) y0 y1 = ssetKey s y0 y1) ∧ (∀ (y0 : Eng) (y1 : Nat), ctrKey (setCtr e c x s) y0 y1 = ctrKey s y0 y1) ∧ (∀ (y0 : Nat), getFlow (setCtr e c x s) y0 = getFlow s y0) ∧ (∀ (y0 : Nat), getPort (setCtr e c x s) y0 = getPort s y0) ∧ (∀ (y0 : Nat), getLane (setCtr e c x s) y0 = getLane s y0) ∧ (∀ (y0 : Nat), getSlot (setCtr e c x s) y0 = getSlot s y0) ∧ (∀ (y0 : Reg) (y1 : Eng) (y2 : Nat), getReg (setCtr e c x s) y0 y1 y2 = getReg s y0 y1 y2) ∧ (∀ (y0 : Reg) (y1 : Eng) (y2 : Nat) (y3 : Nat) (y4 : Nat), regF (setCtr e c x s) y0 y1 y2 y3 y4 = regF s y0 y1 y2 y3 y4) ∧ (∀ (y0 : Nat), chainMask (setCtr e c x s) y0 = chainMask s y0) ∧ (∀ (y0 : Nat), modeMask (setCtr e c x s) y0 = modeMask s y0) ∧ (∀ (y0 : Nat), getFlags (setCtr e c x s) y0 = getFlags s y0) ∧ powered (setCtr e c x s) = powered s ∧ alive (setCtr e c x s) = alive s ∧ inService (setCtr e c x s) = inService s ∧ now (setCtr e c x s) = now s ∧ lcState (setCtr e c x s) = lcState s ∧ (∀ (y0 : Eng), countsTree (setCtr e c x s) y0 = countsTree s y0) := by
  have k := keep_setCtr e c x s
  exact ⟨getIsl_congr (k .isls (by decide)), dpFence_congr (k .isls (by decide)), islRuns_congr (k .isls (by decide)), ctlRuns_congr (k .isls (by decide)), getFeed_congr (k .pwr (by decide)), getEng_congr (k .engA (by decide)) (k .engB (by decide)), getLeaf_congr (k .leaves (by decide)) (k .boot (by decide)), getSset_congr (k .ssets (by decide)) (k .boot (by decide)), getGrp_congr (k .engA (by decide)) (k .engB (by decide)), getBrx_congr (k .engA (by decide)) (k .engB (by decide)), treeOf_congr (k .boot (by decide)), leafKey_congr (k .boot (by decide)), ssetKey_congr (k .boot (by decide)), ctrKey_congr (k .boot (by decide)), getFlow_congr (k .flow (by decide)), getPort_congr (k .cln (by decide)), getLane_congr (k .cln (by decide)), getSlot_congr (k .sec (by decide)), getReg_congr (k .regs (by decide)), regF_congr (k .regs (by decide)), chainMask_congr (k .tally (by decide)), modeMask_congr (k .tally (by decide)), getFlags_congr (k .flags (by decide)), powered_congr (k .pwr (by decide)), alive_congr (k .pwr (by decide)), inService_congr (k .pwr (by decide)) (k .bist (by decide)), now_congr (k .clk (by decide)), lcState_congr (k .fuse (by decide)), countsTree_congr (k .boot (by decide)) (k .aps (by decide))⟩
@[simp] theorem modCtr_fields (e : Eng) (c : ℕ) (f : Ctr → Ctr) (s : State) :
    (modCtr e c f s).pending = s.pending ∧ (modCtr e c f s).free = s.free ∧ (modCtr e c f s).status = s.status ∧ (modCtr e c f s).got = s.got ∧ (modCtr e c f s).pwr = s.pwr ∧ (modCtr e c f s).pins = s.pins ∧ (modCtr e c f s).clk = s.clk ∧ (modCtr e c f s).fuse = s.fuse ∧ (modCtr e c f s).flash = s.flash ∧ (modCtr e c f s).boot = s.boot ∧ (modCtr e c f s).regs = s.regs ∧ (modCtr e c f s).flags = s.flags ∧ (modCtr e c f s).rsc = s.rsc ∧ (modCtr e c f s).seenTurn = s.seenTurn ∧ (modCtr e c f s).seenSec = s.seenSec ∧ (modCtr e c f s).isls = s.isls ∧ (modCtr e c f s).engA = s.engA ∧ (modCtr e c f s).engB = s.engB ∧ (modCtr e c f s).aps = s.aps ∧ (modCtr e c f s).leaves = s.leaves ∧ (modCtr e c f s).ssets = s.ssets ∧ (modCtr e c f s).flow = s.flow ∧ (modCtr e c f s).tod = s.tod ∧ (modCtr e c f s).cln = s.cln ∧ (modCtr e c f s).sec = s.sec ∧ (modCtr e c f s).mem = s.mem ∧ (modCtr e c f s).mgt = s.mgt ∧ (modCtr e c f s).upd = s.upd ∧ (modCtr e c f s).tally = s.tally ∧ (modCtr e c f s).bist = s.bist := by
  have k := keep_modCtr e c f s
  exact ⟨k .pending (by decide), k .free (by decide), k .status (by decide), k .got (by decide), k .pwr (by decide), k .pins (by decide), k .clk (by decide), k .fuse (by decide), k .flash (by decide), k .boot (by decide), k .regs (by decide), k .flags (by decide), k .rsc (by decide), k .seenTurn (by decide), k .seenSec (by decide), k .isls (by decide), k .engA (by decide), k .engB (by decide), k .aps (by decide), k .leaves (by decide), k .ssets (by decide), k .flow (by decide), k .tod (by decide), k .cln (by decide), k .sec (by decide), k .mem (by decide), k .mgt (by decide), k .upd (by decide), k .tally (by decide), k .bist (by decide)⟩
@[simp] theorem modCtr_gets (e : Eng) (c : ℕ) (f : Ctr → Ctr) (s : State) :
    (∀ (y0 : Isl), getIsl (modCtr e c f s) y0 = getIsl s y0) ∧ (∀ (y0 : Isl), dpFence (modCtr e c f s) y0 = dpFence s y0) ∧ (∀ (y0 : Isl), islRuns (modCtr e c f s) y0 = islRuns s y0) ∧ (∀ (y0 : Isl), ctlRuns (modCtr e c f s) y0 = ctlRuns s y0) ∧ (∀ (y0 : Feed), getFeed (modCtr e c f s) y0 = getFeed s y0) ∧ (∀ (y0 : Eng), getEng (modCtr e c f s) y0 = getEng s y0) ∧ (∀ (y0 : Eng) (y1 : Nat), getLeaf (modCtr e c f s) y0 y1 = getLeaf s y0 y1) ∧ (∀ (y0 : Eng) (y1 : Nat), getSset (modCtr e c f s) y0 y1 = getSset s y0 y1) ∧ (∀ (y0 : Eng) (y1 : Nat), getGrp (modCtr e c f s) y0 y1 = getGrp s y0 y1) ∧ (∀ (y0 : Eng) (y1 : Nat), getBrx (modCtr e c f s) y0 y1 = getBrx s y0 y1) ∧ (∀ (y0 : Eng), treeOf (modCtr e c f s) y0 = treeOf s y0) ∧ (∀ (y0 : Eng) (y1 : Nat), leafKey (modCtr e c f s) y0 y1 = leafKey s y0 y1) ∧ (∀ (y0 : Eng) (y1 : Nat), ssetKey (modCtr e c f s) y0 y1 = ssetKey s y0 y1) ∧ (∀ (y0 : Eng) (y1 : Nat), ctrKey (modCtr e c f s) y0 y1 = ctrKey s y0 y1) ∧ (∀ (y0 : Nat), getFlow (modCtr e c f s) y0 = getFlow s y0) ∧ (∀ (y0 : Nat), getPort (modCtr e c f s) y0 = getPort s y0) ∧ (∀ (y0 : Nat), getLane (modCtr e c f s) y0 = getLane s y0) ∧ (∀ (y0 : Nat), getSlot (modCtr e c f s) y0 = getSlot s y0) ∧ (∀ (y0 : Reg) (y1 : Eng) (y2 : Nat), getReg (modCtr e c f s) y0 y1 y2 = getReg s y0 y1 y2) ∧ (∀ (y0 : Reg) (y1 : Eng) (y2 : Nat) (y3 : Nat) (y4 : Nat), regF (modCtr e c f s) y0 y1 y2 y3 y4 = regF s y0 y1 y2 y3 y4) ∧ (∀ (y0 : Nat), chainMask (modCtr e c f s) y0 = chainMask s y0) ∧ (∀ (y0 : Nat), modeMask (modCtr e c f s) y0 = modeMask s y0) ∧ (∀ (y0 : Nat), getFlags (modCtr e c f s) y0 = getFlags s y0) ∧ powered (modCtr e c f s) = powered s ∧ alive (modCtr e c f s) = alive s ∧ inService (modCtr e c f s) = inService s ∧ now (modCtr e c f s) = now s ∧ lcState (modCtr e c f s) = lcState s ∧ (∀ (y0 : Eng), countsTree (modCtr e c f s) y0 = countsTree s y0) := by
  have k := keep_modCtr e c f s
  exact ⟨getIsl_congr (k .isls (by decide)), dpFence_congr (k .isls (by decide)), islRuns_congr (k .isls (by decide)), ctlRuns_congr (k .isls (by decide)), getFeed_congr (k .pwr (by decide)), getEng_congr (k .engA (by decide)) (k .engB (by decide)), getLeaf_congr (k .leaves (by decide)) (k .boot (by decide)), getSset_congr (k .ssets (by decide)) (k .boot (by decide)), getGrp_congr (k .engA (by decide)) (k .engB (by decide)), getBrx_congr (k .engA (by decide)) (k .engB (by decide)), treeOf_congr (k .boot (by decide)), leafKey_congr (k .boot (by decide)), ssetKey_congr (k .boot (by decide)), ctrKey_congr (k .boot (by decide)), getFlow_congr (k .flow (by decide)), getPort_congr (k .cln (by decide)), getLane_congr (k .cln (by decide)), getSlot_congr (k .sec (by decide)), getReg_congr (k .regs (by decide)), regF_congr (k .regs (by decide)), chainMask_congr (k .tally (by decide)), modeMask_congr (k .tally (by decide)), getFlags_congr (k .flags (by decide)), powered_congr (k .pwr (by decide)), alive_congr (k .pwr (by decide)), inService_congr (k .pwr (by decide)) (k .bist (by decide)), now_congr (k .clk (by decide)), lcState_congr (k .fuse (by decide)), countsTree_congr (k .boot (by decide)) (k .aps (by decide))⟩
@[simp] theorem setFlow_fields (f : ℕ) (x : Flow) (s : State) :
    (setFlow f x s).pending = s.pending ∧ (setFlow f x s).free = s.free ∧ (setFlow f x s).status = s.status ∧ (setFlow f x s).got = s.got ∧ (setFlow f x s).pwr = s.pwr ∧ (setFlow f x s).pins = s.pins ∧ (setFlow f x s).clk = s.clk ∧ (setFlow f x s).fuse = s.fuse ∧ (setFlow f x s).flash = s.flash ∧ (setFlow f x s).boot = s.boot ∧ (setFlow f x s).regs = s.regs ∧ (setFlow f x s).flags = s.flags ∧ (setFlow f x s).rsc = s.rsc ∧ (setFlow f x s).seenTurn = s.seenTurn ∧ (setFlow f x s).seenSec = s.seenSec ∧ (setFlow f x s).isls = s.isls ∧ (setFlow f x s).engA = s.engA ∧ (setFlow f x s).engB = s.engB ∧ (setFlow f x s).aps = s.aps ∧ (setFlow f x s).leaves = s.leaves ∧ (setFlow f x s).ssets = s.ssets ∧ (setFlow f x s).ctrs = s.ctrs ∧ (setFlow f x s).tod = s.tod ∧ (setFlow f x s).cln = s.cln ∧ (setFlow f x s).sec = s.sec ∧ (setFlow f x s).mem = s.mem ∧ (setFlow f x s).mgt = s.mgt ∧ (setFlow f x s).upd = s.upd ∧ (setFlow f x s).tally = s.tally ∧ (setFlow f x s).bist = s.bist := by
  have k := keep_setFlow f x s
  exact ⟨k .pending (by decide), k .free (by decide), k .status (by decide), k .got (by decide), k .pwr (by decide), k .pins (by decide), k .clk (by decide), k .fuse (by decide), k .flash (by decide), k .boot (by decide), k .regs (by decide), k .flags (by decide), k .rsc (by decide), k .seenTurn (by decide), k .seenSec (by decide), k .isls (by decide), k .engA (by decide), k .engB (by decide), k .aps (by decide), k .leaves (by decide), k .ssets (by decide), k .ctrs (by decide), k .tod (by decide), k .cln (by decide), k .sec (by decide), k .mem (by decide), k .mgt (by decide), k .upd (by decide), k .tally (by decide), k .bist (by decide)⟩
@[simp] theorem setFlow_gets (f : ℕ) (x : Flow) (s : State) :
    (∀ (y0 : Isl), getIsl (setFlow f x s) y0 = getIsl s y0) ∧ (∀ (y0 : Isl), dpFence (setFlow f x s) y0 = dpFence s y0) ∧ (∀ (y0 : Isl), islRuns (setFlow f x s) y0 = islRuns s y0) ∧ (∀ (y0 : Isl), ctlRuns (setFlow f x s) y0 = ctlRuns s y0) ∧ (∀ (y0 : Feed), getFeed (setFlow f x s) y0 = getFeed s y0) ∧ (∀ (y0 : Eng), getEng (setFlow f x s) y0 = getEng s y0) ∧ (∀ (y0 : Eng) (y1 : Nat), getLeaf (setFlow f x s) y0 y1 = getLeaf s y0 y1) ∧ (∀ (y0 : Eng) (y1 : Nat), getSset (setFlow f x s) y0 y1 = getSset s y0 y1) ∧ (∀ (y0 : Eng) (y1 : Nat), getCtr (setFlow f x s) y0 y1 = getCtr s y0 y1) ∧ (∀ (y0 : Eng) (y1 : Nat), getGrp (setFlow f x s) y0 y1 = getGrp s y0 y1) ∧ (∀ (y0 : Eng) (y1 : Nat), getBrx (setFlow f x s) y0 y1 = getBrx s y0 y1) ∧ (∀ (y0 : Eng), treeOf (setFlow f x s) y0 = treeOf s y0) ∧ (∀ (y0 : Eng) (y1 : Nat), leafKey (setFlow f x s) y0 y1 = leafKey s y0 y1) ∧ (∀ (y0 : Eng) (y1 : Nat), ssetKey (setFlow f x s) y0 y1 = ssetKey s y0 y1) ∧ (∀ (y0 : Eng) (y1 : Nat), ctrKey (setFlow f x s) y0 y1 = ctrKey s y0 y1) ∧ (∀ (y0 : Nat), getPort (setFlow f x s) y0 = getPort s y0) ∧ (∀ (y0 : Nat), getLane (setFlow f x s) y0 = getLane s y0) ∧ (∀ (y0 : Nat), getSlot (setFlow f x s) y0 = getSlot s y0) ∧ (∀ (y0 : Reg) (y1 : Eng) (y2 : Nat), getReg (setFlow f x s) y0 y1 y2 = getReg s y0 y1 y2) ∧ (∀ (y0 : Reg) (y1 : Eng) (y2 : Nat) (y3 : Nat) (y4 : Nat), regF (setFlow f x s) y0 y1 y2 y3 y4 = regF s y0 y1 y2 y3 y4) ∧ (∀ (y0 : Nat), chainMask (setFlow f x s) y0 = chainMask s y0) ∧ (∀ (y0 : Nat), modeMask (setFlow f x s) y0 = modeMask s y0) ∧ (∀ (y0 : Nat), getFlags (setFlow f x s) y0 = getFlags s y0) ∧ powered (setFlow f x s) = powered s ∧ alive (setFlow f x s) = alive s ∧ inService (setFlow f x s) = inService s ∧ now (setFlow f x s) = now s ∧ lcState (setFlow f x s) = lcState s ∧ (∀ (y0 : Eng), countsTree (setFlow f x s) y0 = countsTree s y0) := by
  have k := keep_setFlow f x s
  exact ⟨getIsl_congr (k .isls (by decide)), dpFence_congr (k .isls (by decide)), islRuns_congr (k .isls (by decide)), ctlRuns_congr (k .isls (by decide)), getFeed_congr (k .pwr (by decide)), getEng_congr (k .engA (by decide)) (k .engB (by decide)), getLeaf_congr (k .leaves (by decide)) (k .boot (by decide)), getSset_congr (k .ssets (by decide)) (k .boot (by decide)), getCtr_congr (k .ctrs (by decide)) (k .boot (by decide)), getGrp_congr (k .engA (by decide)) (k .engB (by decide)), getBrx_congr (k .engA (by decide)) (k .engB (by decide)), treeOf_congr (k .boot (by decide)), leafKey_congr (k .boot (by decide)), ssetKey_congr (k .boot (by decide)), ctrKey_congr (k .boot (by decide)), getPort_congr (k .cln (by decide)), getLane_congr (k .cln (by decide)), getSlot_congr (k .sec (by decide)), getReg_congr (k .regs (by decide)), regF_congr (k .regs (by decide)), chainMask_congr (k .tally (by decide)), modeMask_congr (k .tally (by decide)), getFlags_congr (k .flags (by decide)), powered_congr (k .pwr (by decide)), alive_congr (k .pwr (by decide)), inService_congr (k .pwr (by decide)) (k .bist (by decide)), now_congr (k .clk (by decide)), lcState_congr (k .fuse (by decide)), countsTree_congr (k .boot (by decide)) (k .aps (by decide))⟩
@[simp] theorem countCtr_fields (k : ℕ) (e : Eng) (c : ℕ) (i : ℕ) (n : ℕ) (s : State) :
    (countCtr k e c i n s).pending = s.pending ∧ (countCtr k e c i n s).free = s.free ∧ (countCtr k e c i n s).status = s.status ∧ (countCtr k e c i n s).got = s.got ∧ (countCtr k e c i n s).pwr = s.pwr ∧ (countCtr k e c i n s).pins = s.pins ∧ (countCtr k e c i n s).clk = s.clk ∧ (countCtr k e c i n s).fuse = s.fuse ∧ (countCtr k e c i n s).flash = s.flash ∧ (countCtr k e c i n s).boot = s.boot ∧ (countCtr k e c i n s).regs = s.regs ∧ (countCtr k e c i n s).flags = s.flags ∧ (countCtr k e c i n s).rsc = s.rsc ∧ (countCtr k e c i n s).seenTurn = s.seenTurn ∧ (countCtr k e c i n s).seenSec = s.seenSec ∧ (countCtr k e c i n s).isls = s.isls ∧ (countCtr k e c i n s).engA = s.engA ∧ (countCtr k e c i n s).engB = s.engB ∧ (countCtr k e c i n s).aps = s.aps ∧ (countCtr k e c i n s).leaves = s.leaves ∧ (countCtr k e c i n s).ssets = s.ssets ∧ (countCtr k e c i n s).ctrs = s.ctrs ∧ (countCtr k e c i n s).flow = s.flow ∧ (countCtr k e c i n s).tod = s.tod ∧ (countCtr k e c i n s).cln = s.cln ∧ (countCtr k e c i n s).sec = s.sec ∧ (countCtr k e c i n s).mem = s.mem ∧ (countCtr k e c i n s).mgt = s.mgt ∧ (countCtr k e c i n s).upd = s.upd ∧ (countCtr k e c i n s).bist = s.bist := by
  have k := keep_countCtr k e c i n s
  exact ⟨k .pending (by decide), k .free (by decide), k .status (by decide), k .got (by decide), k .pwr (by decide), k .pins (by decide), k .clk (by decide), k .fuse (by decide), k .flash (by decide), k .boot (by decide), k .regs (by decide), k .flags (by decide), k .rsc (by decide), k .seenTurn (by decide), k .seenSec (by decide), k .isls (by decide), k .engA (by decide), k .engB (by decide), k .aps (by decide), k .leaves (by decide), k .ssets (by decide), k .ctrs (by decide), k .flow (by decide), k .tod (by decide), k .cln (by decide), k .sec (by decide), k .mem (by decide), k .mgt (by decide), k .upd (by decide), k .bist (by decide)⟩
@[simp] theorem countCtr_gets (k : ℕ) (e : Eng) (c : ℕ) (i : ℕ) (n : ℕ) (s : State) :
    (∀ (y0 : Isl), getIsl (countCtr k e c i n s) y0 = getIsl s y0) ∧ (∀ (y0 : Isl), dpFence (countCtr k e c i n s) y0 = dpFence s y0) ∧ (∀ (y0 : Isl), islRuns (countCtr k e c i n s) y0 = islRuns s y0) ∧ (∀ (y0 : Isl), ctlRuns (countCtr k e c i n s) y0 = ctlRuns s y0) ∧ (∀ (y0 : Feed), getFeed (countCtr k e c i n s) y0 = getFeed s y0) ∧ (∀ (y0 : Eng), getEng (countCtr k e c i n s) y0 = getEng s y0) ∧ (∀ (y0 : Eng) (y1 : Nat), getLeaf (countCtr k e c i n s) y0 y1 = getLeaf s y0 y1) ∧ (∀ (y0 : Eng) (y1 : Nat), getSset (countCtr k e c i n s) y0 y1 = getSset s y0 y1) ∧ (∀ (y0 : Eng) (y1 : Nat), getCtr (countCtr k e c i n s) y0 y1 = getCtr s y0 y1) ∧ (∀ (y0 : Eng) (y1 : Nat), getGrp (countCtr k e c i n s) y0 y1 = getGrp s y0 y1) ∧ (∀ (y0 : Eng) (y1 : Nat), getBrx (countCtr k e c i n s) y0 y1 = getBrx s y0 y1) ∧ (∀ (y0 : Eng), treeOf (countCtr k e c i n s) y0 = treeOf s y0) ∧ (∀ (y0 : Eng) (y1 : Nat), leafKey (countCtr k e c i n s) y0 y1 = leafKey s y0 y1) ∧ (∀ (y0 : Eng) (y1 : Nat), ssetKey (countCtr k e c i n s) y0 y1 = ssetKey s y0 y1) ∧ (∀ (y0 : Eng) (y1 : Nat), ctrKey (countCtr k e c i n s) y0 y1 = ctrKey s y0 y1) ∧ (∀ (y0 : Nat), getFlow (countCtr k e c i n s) y0 = getFlow s y0) ∧ (∀ (y0 : Nat), getPort (countCtr k e c i n s) y0 = getPort s y0) ∧ (∀ (y0 : Nat), getLane (countCtr k e c i n s) y0 = getLane s y0) ∧ (∀ (y0 : Nat), getSlot (countCtr k e c i n s) y0 = getSlot s y0) ∧ (∀ (y0 : Reg) (y1 : Eng) (y2 : Nat), getReg (countCtr k e c i n s) y0 y1 y2 = getReg s y0 y1 y2) ∧ (∀ (y0 : Reg) (y1 : Eng) (y2 : Nat) (y3 : Nat) (y4 : Nat), regF (countCtr k e c i n s) y0 y1 y2 y3 y4 = regF s y0 y1 y2 y3 y4) ∧ (∀ (y0 : Nat), getFlags (countCtr k e c i n s) y0 = getFlags s y0) ∧ powered (countCtr k e c i n s) = powered s ∧ alive (countCtr k e c i n s) = alive s ∧ inService (countCtr k e c i n s) = inService s ∧ now (countCtr k e c i n s) = now s ∧ lcState (countCtr k e c i n s) = lcState s ∧ (∀ (y0 : Eng), countsTree (countCtr k e c i n s) y0 = countsTree s y0) := by
  have k := keep_countCtr k e c i n s
  exact ⟨getIsl_congr (k .isls (by decide)), dpFence_congr (k .isls (by decide)), islRuns_congr (k .isls (by decide)), ctlRuns_congr (k .isls (by decide)), getFeed_congr (k .pwr (by decide)), getEng_congr (k .engA (by decide)) (k .engB (by decide)), getLeaf_congr (k .leaves (by decide)) (k .boot (by decide)), getSset_congr (k .ssets (by decide)) (k .boot (by decide)), getCtr_congr (k .ctrs (by decide)) (k .boot (by decide)), getGrp_congr (k .engA (by decide)) (k .engB (by decide)), getBrx_congr (k .engA (by decide)) (k .engB (by decide)), treeOf_congr (k .boot (by decide)), leafKey_congr (k .boot (by decide)), ssetKey_congr (k .boot (by decide)), ctrKey_congr (k .boot (by decide)), getFlow_congr (k .flow (by decide)), getPort_congr (k .cln (by decide)), getLane_congr (k .cln (by decide)), getSlot_congr (k .sec (by decide)), getReg_congr (k .regs (by decide)), regF_congr (k .regs (by decide)), getFlags_congr (k .flags (by decide)), powered_congr (k .pwr (by decide)), alive_congr (k .pwr (by decide)), inService_congr (k .pwr (by decide)) (k .bist (by decide)), now_congr (k .clk (by decide)), lcState_congr (k .fuse (by decide)), countsTree_congr (k .boot (by decide)) (k .aps (by decide))⟩
@[simp] theorem clearFlagAt_fields (a : ℕ) (b : ℕ) (setNow : Bool) (s : State) :
    (clearFlagAt a b setNow s).pending = s.pending ∧ (clearFlagAt a b setNow s).free = s.free ∧ (clearFlagAt a b setNow s).status = s.status ∧ (clearFlagAt a b setNow s).got = s.got ∧ (clearFlagAt a b setNow s).pwr = s.pwr ∧ (clearFlagAt a b setNow s).pins = s.pins ∧ (clearFlagAt a b setNow s).clk = s.clk ∧ (clearFlagAt a b setNow s).fuse = s.fuse ∧ (clearFlagAt a b setNow s).flash = s.flash ∧ (clearFlagAt a b setNow s).boot = s.boot ∧ (clearFlagAt a b setNow s).regs = s.regs ∧ (clearFlagAt a b setNow s).seenTurn = s.seenTurn ∧ (clearFlagAt a b setNow s).seenSec = s.seenSec ∧ (clearFlagAt a b setNow s).isls = s.isls ∧ (clearFlagAt a b setNow s).engA = s.engA ∧ (clearFlagAt a b setNow s).engB = s.engB ∧ (clearFlagAt a b setNow s).aps = s.aps ∧ (clearFlagAt a b setNow s).leaves = s.leaves ∧ (clearFlagAt a b setNow s).ssets = s.ssets ∧ (clearFlagAt a b setNow s).ctrs = s.ctrs ∧ (clearFlagAt a b setNow s).flow = s.flow ∧ (clearFlagAt a b setNow s).tod = s.tod ∧ (clearFlagAt a b setNow s).cln = s.cln ∧ (clearFlagAt a b setNow s).sec = s.sec ∧ (clearFlagAt a b setNow s).mem = s.mem ∧ (clearFlagAt a b setNow s).mgt = s.mgt ∧ (clearFlagAt a b setNow s).upd = s.upd ∧ (clearFlagAt a b setNow s).tally = s.tally ∧ (clearFlagAt a b setNow s).bist = s.bist := by
  have k := keep_clearFlagAt a b setNow s
  exact ⟨k .pending (by decide), k .free (by decide), k .status (by decide), k .got (by decide), k .pwr (by decide), k .pins (by decide), k .clk (by decide), k .fuse (by decide), k .flash (by decide), k .boot (by decide), k .regs (by decide), k .seenTurn (by decide), k .seenSec (by decide), k .isls (by decide), k .engA (by decide), k .engB (by decide), k .aps (by decide), k .leaves (by decide), k .ssets (by decide), k .ctrs (by decide), k .flow (by decide), k .tod (by decide), k .cln (by decide), k .sec (by decide), k .mem (by decide), k .mgt (by decide), k .upd (by decide), k .tally (by decide), k .bist (by decide)⟩
@[simp] theorem clearFlagAt_gets (a : ℕ) (b : ℕ) (setNow : Bool) (s : State) :
    (∀ (y0 : Isl), getIsl (clearFlagAt a b setNow s) y0 = getIsl s y0) ∧ (∀ (y0 : Isl), dpFence (clearFlagAt a b setNow s) y0 = dpFence s y0) ∧ (∀ (y0 : Isl), islRuns (clearFlagAt a b setNow s) y0 = islRuns s y0) ∧ (∀ (y0 : Isl), ctlRuns (clearFlagAt a b setNow s) y0 = ctlRuns s y0) ∧ (∀ (y0 : Feed), getFeed (clearFlagAt a b setNow s) y0 = getFeed s y0) ∧ (∀ (y0 : Eng), getEng (clearFlagAt a b setNow s) y0 = getEng s y0) ∧ (∀ (y0 : Eng) (y1 : Nat), getLeaf (clearFlagAt a b setNow s) y0 y1 = getLeaf s y0 y1) ∧ (∀ (y0 : Eng) (y1 : Nat), getSset (clearFlagAt a b setNow s) y0 y1 = getSset s y0 y1) ∧ (∀ (y0 : Eng) (y1 : Nat), getCtr (clearFlagAt a b setNow s) y0 y1 = getCtr s y0 y1) ∧ (∀ (y0 : Eng) (y1 : Nat), getGrp (clearFlagAt a b setNow s) y0 y1 = getGrp s y0 y1) ∧ (∀ (y0 : Eng) (y1 : Nat), getBrx (clearFlagAt a b setNow s) y0 y1 = getBrx s y0 y1) ∧ (∀ (y0 : Eng), treeOf (clearFlagAt a b setNow s) y0 = treeOf s y0) ∧ (∀ (y0 : Eng) (y1 : Nat), leafKey (clearFlagAt a b setNow s) y0 y1 = leafKey s y0 y1) ∧ (∀ (y0 : Eng) (y1 : Nat), ssetKey (clearFlagAt a b setNow s) y0 y1 = ssetKey s y0 y1) ∧ (∀ (y0 : Eng) (y1 : Nat), ctrKey (clearFlagAt a b setNow s) y0 y1 = ctrKey s y0 y1) ∧ (∀ (y0 : Nat), getFlow (clearFlagAt a b setNow s) y0 = getFlow s y0) ∧ (∀ (y0 : Nat), getPort (clearFlagAt a b setNow s) y0 = getPort s y0) ∧ (∀ (y0 : Nat), getLane (clearFlagAt a b setNow s) y0 = getLane s y0) ∧ (∀ (y0 : Nat), getSlot (clearFlagAt a b setNow s) y0 = getSlot s y0) ∧ (∀ (y0 : Reg) (y1 : Eng) (y2 : Nat), getReg (clearFlagAt a b setNow s) y0 y1 y2 = getReg s y0 y1 y2) ∧ (∀ (y0 : Reg) (y1 : Eng) (y2 : Nat) (y3 : Nat) (y4 : Nat), regF (clearFlagAt a b setNow s) y0 y1 y2 y3 y4 = regF s y0 y1 y2 y3 y4) ∧ (∀ (y0 : Nat), chainMask (clearFlagAt a b setNow s) y0 = chainMask s y0) ∧ (∀ (y0 : Nat), modeMask (clearFlagAt a b setNow s) y0 = modeMask s y0) ∧ powered (clearFlagAt a b setNow s) = powered s ∧ alive (clearFlagAt a b setNow s) = alive s ∧ inService (clearFlagAt a b setNow s) = inService s ∧ now (clearFlagAt a b setNow s) = now s ∧ lcState (clearFlagAt a b setNow s) = lcState s ∧ (∀ (y0 : Eng), countsTree (clearFlagAt a b setNow s) y0 = countsTree s y0) := by
  have k := keep_clearFlagAt a b setNow s
  exact ⟨getIsl_congr (k .isls (by decide)), dpFence_congr (k .isls (by decide)), islRuns_congr (k .isls (by decide)), ctlRuns_congr (k .isls (by decide)), getFeed_congr (k .pwr (by decide)), getEng_congr (k .engA (by decide)) (k .engB (by decide)), getLeaf_congr (k .leaves (by decide)) (k .boot (by decide)), getSset_congr (k .ssets (by decide)) (k .boot (by decide)), getCtr_congr (k .ctrs (by decide)) (k .boot (by decide)), getGrp_congr (k .engA (by decide)) (k .engB (by decide)), getBrx_congr (k .engA (by decide)) (k .engB (by decide)), treeOf_congr (k .boot (by decide)), leafKey_congr (k .boot (by decide)), ssetKey_congr (k .boot (by decide)), ctrKey_congr (k .boot (by decide)), getFlow_congr (k .flow (by decide)), getPort_congr (k .cln (by decide)), getLane_congr (k .cln (by decide)), getSlot_congr (k .sec (by decide)), getReg_congr (k .regs (by decide)), regF_congr (k .regs (by decide)), chainMask_congr (k .tally (by decide)), modeMask_congr (k .tally (by decide)), powered_congr (k .pwr (by decide)), alive_congr (k .pwr (by decide)), inService_congr (k .pwr (by decide)) (k .bist (by decide)), now_congr (k .clk (by decide)), lcState_congr (k .fuse (by decide)), countsTree_congr (k .boot (by decide)) (k .aps (by decide))⟩
@[simp] theorem w1cWrite_fields (a : ℕ) (n : ℕ) (v : W32) (setNow : W32) (s : State) :
    (w1cWrite a n v setNow s).pending = s.pending ∧ (w1cWrite a n v setNow s).free = s.free ∧ (w1cWrite a n v setNow s).status = s.status ∧ (w1cWrite a n v setNow s).got = s.got ∧ (w1cWrite a n v setNow s).pwr = s.pwr ∧ (w1cWrite a n v setNow s).pins = s.pins ∧ (w1cWrite a n v setNow s).clk = s.clk ∧ (w1cWrite a n v setNow s).fuse = s.fuse ∧ (w1cWrite a n v setNow s).flash = s.flash ∧ (w1cWrite a n v setNow s).boot = s.boot ∧ (w1cWrite a n v setNow s).regs = s.regs ∧ (w1cWrite a n v setNow s).seenTurn = s.seenTurn ∧ (w1cWrite a n v setNow s).seenSec = s.seenSec ∧ (w1cWrite a n v setNow s).isls = s.isls ∧ (w1cWrite a n v setNow s).engA = s.engA ∧ (w1cWrite a n v setNow s).engB = s.engB ∧ (w1cWrite a n v setNow s).aps = s.aps ∧ (w1cWrite a n v setNow s).leaves = s.leaves ∧ (w1cWrite a n v setNow s).ssets = s.ssets ∧ (w1cWrite a n v setNow s).ctrs = s.ctrs ∧ (w1cWrite a n v setNow s).flow = s.flow ∧ (w1cWrite a n v setNow s).tod = s.tod ∧ (w1cWrite a n v setNow s).cln = s.cln ∧ (w1cWrite a n v setNow s).sec = s.sec ∧ (w1cWrite a n v setNow s).mem = s.mem ∧ (w1cWrite a n v setNow s).mgt = s.mgt ∧ (w1cWrite a n v setNow s).upd = s.upd ∧ (w1cWrite a n v setNow s).tally = s.tally ∧ (w1cWrite a n v setNow s).bist = s.bist := by
  have k := keep_w1cWrite a n v setNow s
  exact ⟨k .pending (by decide), k .free (by decide), k .status (by decide), k .got (by decide), k .pwr (by decide), k .pins (by decide), k .clk (by decide), k .fuse (by decide), k .flash (by decide), k .boot (by decide), k .regs (by decide), k .seenTurn (by decide), k .seenSec (by decide), k .isls (by decide), k .engA (by decide), k .engB (by decide), k .aps (by decide), k .leaves (by decide), k .ssets (by decide), k .ctrs (by decide), k .flow (by decide), k .tod (by decide), k .cln (by decide), k .sec (by decide), k .mem (by decide), k .mgt (by decide), k .upd (by decide), k .tally (by decide), k .bist (by decide)⟩
@[simp] theorem w1cWrite_gets (a : ℕ) (n : ℕ) (v : W32) (setNow : W32) (s : State) :
    (∀ (y0 : Isl), getIsl (w1cWrite a n v setNow s) y0 = getIsl s y0) ∧ (∀ (y0 : Isl), dpFence (w1cWrite a n v setNow s) y0 = dpFence s y0) ∧ (∀ (y0 : Isl), islRuns (w1cWrite a n v setNow s) y0 = islRuns s y0) ∧ (∀ (y0 : Isl), ctlRuns (w1cWrite a n v setNow s) y0 = ctlRuns s y0) ∧ (∀ (y0 : Feed), getFeed (w1cWrite a n v setNow s) y0 = getFeed s y0) ∧ (∀ (y0 : Eng), getEng (w1cWrite a n v setNow s) y0 = getEng s y0) ∧ (∀ (y0 : Eng) (y1 : Nat), getLeaf (w1cWrite a n v setNow s) y0 y1 = getLeaf s y0 y1) ∧ (∀ (y0 : Eng) (y1 : Nat), getSset (w1cWrite a n v setNow s) y0 y1 = getSset s y0 y1) ∧ (∀ (y0 : Eng) (y1 : Nat), getCtr (w1cWrite a n v setNow s) y0 y1 = getCtr s y0 y1) ∧ (∀ (y0 : Eng) (y1 : Nat), getGrp (w1cWrite a n v setNow s) y0 y1 = getGrp s y0 y1) ∧ (∀ (y0 : Eng) (y1 : Nat), getBrx (w1cWrite a n v setNow s) y0 y1 = getBrx s y0 y1) ∧ (∀ (y0 : Eng), treeOf (w1cWrite a n v setNow s) y0 = treeOf s y0) ∧ (∀ (y0 : Eng) (y1 : Nat), leafKey (w1cWrite a n v setNow s) y0 y1 = leafKey s y0 y1) ∧ (∀ (y0 : Eng) (y1 : Nat), ssetKey (w1cWrite a n v setNow s) y0 y1 = ssetKey s y0 y1) ∧ (∀ (y0 : Eng) (y1 : Nat), ctrKey (w1cWrite a n v setNow s) y0 y1 = ctrKey s y0 y1) ∧ (∀ (y0 : Nat), getFlow (w1cWrite a n v setNow s) y0 = getFlow s y0) ∧ (∀ (y0 : Nat), getPort (w1cWrite a n v setNow s) y0 = getPort s y0) ∧ (∀ (y0 : Nat), getLane (w1cWrite a n v setNow s) y0 = getLane s y0) ∧ (∀ (y0 : Nat), getSlot (w1cWrite a n v setNow s) y0 = getSlot s y0) ∧ (∀ (y0 : Reg) (y1 : Eng) (y2 : Nat), getReg (w1cWrite a n v setNow s) y0 y1 y2 = getReg s y0 y1 y2) ∧ (∀ (y0 : Reg) (y1 : Eng) (y2 : Nat) (y3 : Nat) (y4 : Nat), regF (w1cWrite a n v setNow s) y0 y1 y2 y3 y4 = regF s y0 y1 y2 y3 y4) ∧ (∀ (y0 : Nat), chainMask (w1cWrite a n v setNow s) y0 = chainMask s y0) ∧ (∀ (y0 : Nat), modeMask (w1cWrite a n v setNow s) y0 = modeMask s y0) ∧ powered (w1cWrite a n v setNow s) = powered s ∧ alive (w1cWrite a n v setNow s) = alive s ∧ inService (w1cWrite a n v setNow s) = inService s ∧ now (w1cWrite a n v setNow s) = now s ∧ lcState (w1cWrite a n v setNow s) = lcState s ∧ (∀ (y0 : Eng), countsTree (w1cWrite a n v setNow s) y0 = countsTree s y0) := by
  have k := keep_w1cWrite a n v setNow s
  exact ⟨getIsl_congr (k .isls (by decide)), dpFence_congr (k .isls (by decide)), islRuns_congr (k .isls (by decide)), ctlRuns_congr (k .isls (by decide)), getFeed_congr (k .pwr (by decide)), getEng_congr (k .engA (by decide)) (k .engB (by decide)), getLeaf_congr (k .leaves (by decide)) (k .boot (by decide)), getSset_congr (k .ssets (by decide)) (k .boot (by decide)), getCtr_congr (k .ctrs (by decide)) (k .boot (by decide)), getGrp_congr (k .engA (by decide)) (k .engB (by decide)), getBrx_congr (k .engA (by decide)) (k .engB (by decide)), treeOf_congr (k .boot (by decide)), leafKey_congr (k .boot (by decide)), ssetKey_congr (k .boot (by decide)), ctrKey_congr (k .boot (by decide)), getFlow_congr (k .flow (by decide)), getPort_congr (k .cln (by decide)), getLane_congr (k .cln (by decide)), getSlot_congr (k .sec (by decide)), getReg_congr (k .regs (by decide)), regF_congr (k .regs (by decide)), chainMask_congr (k .tally (by decide)), modeMask_congr (k .tally (by decide)), powered_congr (k .pwr (by decide)), alive_congr (k .pwr (by decide)), inService_congr (k .pwr (by decide)) (k .bist (by decide)), now_congr (k .clk (by decide)), lcState_congr (k .fuse (by decide)), countsTree_congr (k .boot (by decide)) (k .aps (by decide))⟩
@[simp] theorem setPort_fields (p : ℕ) (x : PortSt) (s : State) :
    (setPort p x s).pending = s.pending ∧ (setPort p x s).free = s.free ∧ (setPort p x s).status = s.status ∧ (setPort p x s).got = s.got ∧ (setPort p x s).pwr = s.pwr ∧ (setPort p x s).pins = s.pins ∧ (setPort p x s).clk = s.clk ∧ (setPort p x s).fuse = s.fuse ∧ (setPort p x s).flash = s.flash ∧ (setPort p x s).boot = s.boot ∧ (setPort p x s).regs = s.regs ∧ (setPort p x s).flags = s.flags ∧ (setPort p x s).rsc = s.rsc ∧ (setPort p x s).seenTurn = s.seenTurn ∧ (setPort p x s).seenSec = s.seenSec ∧ (setPort p x s).isls = s.isls ∧ (setPort p x s).engA = s.engA ∧ (setPort p x s).engB = s.engB ∧ (setPort p x s).aps = s.aps ∧ (setPort p x s).leaves = s.leaves ∧ (setPort p x s).ssets = s.ssets ∧ (setPort p x s).ctrs = s.ctrs ∧ (setPort p x s).flow = s.flow ∧ (setPort p x s).tod = s.tod ∧ (setPort p x s).sec = s.sec ∧ (setPort p x s).mem = s.mem ∧ (setPort p x s).mgt = s.mgt ∧ (setPort p x s).upd = s.upd ∧ (setPort p x s).tally = s.tally ∧ (setPort p x s).bist = s.bist := by
  have k := keep_setPort p x s
  exact ⟨k .pending (by decide), k .free (by decide), k .status (by decide), k .got (by decide), k .pwr (by decide), k .pins (by decide), k .clk (by decide), k .fuse (by decide), k .flash (by decide), k .boot (by decide), k .regs (by decide), k .flags (by decide), k .rsc (by decide), k .seenTurn (by decide), k .seenSec (by decide), k .isls (by decide), k .engA (by decide), k .engB (by decide), k .aps (by decide), k .leaves (by decide), k .ssets (by decide), k .ctrs (by decide), k .flow (by decide), k .tod (by decide), k .sec (by decide), k .mem (by decide), k .mgt (by decide), k .upd (by decide), k .tally (by decide), k .bist (by decide)⟩
@[simp] theorem setPort_gets (p : ℕ) (x : PortSt) (s : State) :
    (∀ (y0 : Isl), getIsl (setPort p x s) y0 = getIsl s y0) ∧ (∀ (y0 : Isl), dpFence (setPort p x s) y0 = dpFence s y0) ∧ (∀ (y0 : Isl), islRuns (setPort p x s) y0 = islRuns s y0) ∧ (∀ (y0 : Isl), ctlRuns (setPort p x s) y0 = ctlRuns s y0) ∧ (∀ (y0 : Feed), getFeed (setPort p x s) y0 = getFeed s y0) ∧ (∀ (y0 : Eng), getEng (setPort p x s) y0 = getEng s y0) ∧ (∀ (y0 : Eng) (y1 : Nat), getLeaf (setPort p x s) y0 y1 = getLeaf s y0 y1) ∧ (∀ (y0 : Eng) (y1 : Nat), getSset (setPort p x s) y0 y1 = getSset s y0 y1) ∧ (∀ (y0 : Eng) (y1 : Nat), getCtr (setPort p x s) y0 y1 = getCtr s y0 y1) ∧ (∀ (y0 : Eng) (y1 : Nat), getGrp (setPort p x s) y0 y1 = getGrp s y0 y1) ∧ (∀ (y0 : Eng) (y1 : Nat), getBrx (setPort p x s) y0 y1 = getBrx s y0 y1) ∧ (∀ (y0 : Eng), treeOf (setPort p x s) y0 = treeOf s y0) ∧ (∀ (y0 : Eng) (y1 : Nat), leafKey (setPort p x s) y0 y1 = leafKey s y0 y1) ∧ (∀ (y0 : Eng) (y1 : Nat), ssetKey (setPort p x s) y0 y1 = ssetKey s y0 y1) ∧ (∀ (y0 : Eng) (y1 : Nat), ctrKey (setPort p x s) y0 y1 = ctrKey s y0 y1) ∧ (∀ (y0 : Nat), getFlow (setPort p x s) y0 = getFlow s y0) ∧ (∀ (y0 : Nat), getSlot (setPort p x s) y0 = getSlot s y0) ∧ (∀ (y0 : Reg) (y1 : Eng) (y2 : Nat), getReg (setPort p x s) y0 y1 y2 = getReg s y0 y1 y2) ∧ (∀ (y0 : Reg) (y1 : Eng) (y2 : Nat) (y3 : Nat) (y4 : Nat), regF (setPort p x s) y0 y1 y2 y3 y4 = regF s y0 y1 y2 y3 y4) ∧ (∀ (y0 : Nat), chainMask (setPort p x s) y0 = chainMask s y0) ∧ (∀ (y0 : Nat), modeMask (setPort p x s) y0 = modeMask s y0) ∧ (∀ (y0 : Nat), getFlags (setPort p x s) y0 = getFlags s y0) ∧ powered (setPort p x s) = powered s ∧ alive (setPort p x s) = alive s ∧ inService (setPort p x s) = inService s ∧ now (setPort p x s) = now s ∧ lcState (setPort p x s) = lcState s ∧ (∀ (y0 : Eng), countsTree (setPort p x s) y0 = countsTree s y0) := by
  have k := keep_setPort p x s
  exact ⟨getIsl_congr (k .isls (by decide)), dpFence_congr (k .isls (by decide)), islRuns_congr (k .isls (by decide)), ctlRuns_congr (k .isls (by decide)), getFeed_congr (k .pwr (by decide)), getEng_congr (k .engA (by decide)) (k .engB (by decide)), getLeaf_congr (k .leaves (by decide)) (k .boot (by decide)), getSset_congr (k .ssets (by decide)) (k .boot (by decide)), getCtr_congr (k .ctrs (by decide)) (k .boot (by decide)), getGrp_congr (k .engA (by decide)) (k .engB (by decide)), getBrx_congr (k .engA (by decide)) (k .engB (by decide)), treeOf_congr (k .boot (by decide)), leafKey_congr (k .boot (by decide)), ssetKey_congr (k .boot (by decide)), ctrKey_congr (k .boot (by decide)), getFlow_congr (k .flow (by decide)), getSlot_congr (k .sec (by decide)), getReg_congr (k .regs (by decide)), regF_congr (k .regs (by decide)), chainMask_congr (k .tally (by decide)), modeMask_congr (k .tally (by decide)), getFlags_congr (k .flags (by decide)), powered_congr (k .pwr (by decide)), alive_congr (k .pwr (by decide)), inService_congr (k .pwr (by decide)) (k .bist (by decide)), now_congr (k .clk (by decide)), lcState_congr (k .fuse (by decide)), countsTree_congr (k .boot (by decide)) (k .aps (by decide))⟩
@[simp] theorem modPort_fields (p : ℕ) (f : PortSt → PortSt) (s : State) :
    (modPort p f s).pending = s.pending ∧ (modPort p f s).free = s.free ∧ (modPort p f s).status = s.status ∧ (modPort p f s).got = s.got ∧ (modPort p f s).pwr = s.pwr ∧ (modPort p f s).pins = s.pins ∧ (modPort p f s).clk = s.clk ∧ (modPort p f s).fuse = s.fuse ∧ (modPort p f s).flash = s.flash ∧ (modPort p f s).boot = s.boot ∧ (modPort p f s).regs = s.regs ∧ (modPort p f s).flags = s.flags ∧ (modPort p f s).rsc = s.rsc ∧ (modPort p f s).seenTurn = s.seenTurn ∧ (modPort p f s).seenSec = s.seenSec ∧ (modPort p f s).isls = s.isls ∧ (modPort p f s).engA = s.engA ∧ (modPort p f s).engB = s.engB ∧ (modPort p f s).aps = s.aps ∧ (modPort p f s).leaves = s.leaves ∧ (modPort p f s).ssets = s.ssets ∧ (modPort p f s).ctrs = s.ctrs ∧ (modPort p f s).flow = s.flow ∧ (modPort p f s).tod = s.tod ∧ (modPort p f s).sec = s.sec ∧ (modPort p f s).mem = s.mem ∧ (modPort p f s).mgt = s.mgt ∧ (modPort p f s).upd = s.upd ∧ (modPort p f s).tally = s.tally ∧ (modPort p f s).bist = s.bist := by
  have k := keep_modPort p f s
  exact ⟨k .pending (by decide), k .free (by decide), k .status (by decide), k .got (by decide), k .pwr (by decide), k .pins (by decide), k .clk (by decide), k .fuse (by decide), k .flash (by decide), k .boot (by decide), k .regs (by decide), k .flags (by decide), k .rsc (by decide), k .seenTurn (by decide), k .seenSec (by decide), k .isls (by decide), k .engA (by decide), k .engB (by decide), k .aps (by decide), k .leaves (by decide), k .ssets (by decide), k .ctrs (by decide), k .flow (by decide), k .tod (by decide), k .sec (by decide), k .mem (by decide), k .mgt (by decide), k .upd (by decide), k .tally (by decide), k .bist (by decide)⟩
@[simp] theorem modPort_gets (p : ℕ) (f : PortSt → PortSt) (s : State) :
    (∀ (y0 : Isl), getIsl (modPort p f s) y0 = getIsl s y0) ∧ (∀ (y0 : Isl), dpFence (modPort p f s) y0 = dpFence s y0) ∧ (∀ (y0 : Isl), islRuns (modPort p f s) y0 = islRuns s y0) ∧ (∀ (y0 : Isl), ctlRuns (modPort p f s) y0 = ctlRuns s y0) ∧ (∀ (y0 : Feed), getFeed (modPort p f s) y0 = getFeed s y0) ∧ (∀ (y0 : Eng), getEng (modPort p f s) y0 = getEng s y0) ∧ (∀ (y0 : Eng) (y1 : Nat), getLeaf (modPort p f s) y0 y1 = getLeaf s y0 y1) ∧ (∀ (y0 : Eng) (y1 : Nat), getSset (modPort p f s) y0 y1 = getSset s y0 y1) ∧ (∀ (y0 : Eng) (y1 : Nat), getCtr (modPort p f s) y0 y1 = getCtr s y0 y1) ∧ (∀ (y0 : Eng) (y1 : Nat), getGrp (modPort p f s) y0 y1 = getGrp s y0 y1) ∧ (∀ (y0 : Eng) (y1 : Nat), getBrx (modPort p f s) y0 y1 = getBrx s y0 y1) ∧ (∀ (y0 : Eng), treeOf (modPort p f s) y0 = treeOf s y0) ∧ (∀ (y0 : Eng) (y1 : Nat), leafKey (modPort p f s) y0 y1 = leafKey s y0 y1) ∧ (∀ (y0 : Eng) (y1 : Nat), ssetKey (modPort p f s) y0 y1 = ssetKey s y0 y1) ∧ (∀ (y0 : Eng) (y1 : Nat), ctrKey (modPort p f s) y0 y1 = ctrKey s y0 y1) ∧ (∀ (y0 : Nat), getFlow (modPort p f s) y0 = getFlow s y0) ∧ (∀ (y0 : Nat), getSlot (modPort p f s) y0 = getSlot s y0) ∧ (∀ (y0 : Reg) (y1 : Eng) (y2 : Nat), getReg (modPort p f s) y0 y1 y2 = getReg s y0 y1 y2) ∧ (∀ (y0 : Reg) (y1 : Eng) (y2 : Nat) (y3 : Nat) (y4 : Nat), regF (modPort p f s) y0 y1 y2 y3 y4 = regF s y0 y1 y2 y3 y4) ∧ (∀ (y0 : Nat), chainMask (modPort p f s) y0 = chainMask s y0) ∧ (∀ (y0 : Nat), modeMask (modPort p f s) y0 = modeMask s y0) ∧ (∀ (y0 : Nat), getFlags (modPort p f s) y0 = getFlags s y0) ∧ powered (modPort p f s) = powered s ∧ alive (modPort p f s) = alive s ∧ inService (modPort p f s) = inService s ∧ now (modPort p f s) = now s ∧ lcState (modPort p f s) = lcState s ∧ (∀ (y0 : Eng), countsTree (modPort p f s) y0 = countsTree s y0) := by
  have k := keep_modPort p f s
  exact ⟨getIsl_congr (k .isls (by decide)), dpFence_congr (k .isls (by decide)), islRuns_congr (k .isls (by decide)), ctlRuns_congr (k .isls (by decide)), getFeed_congr (k .pwr (by decide)), getEng_congr (k .engA (by decide)) (k .engB (by decide)), getLeaf_congr (k .leaves (by decide)) (k .boot (by decide)), getSset_congr (k .ssets (by decide)) (k .boot (by decide)), getCtr_congr (k .ctrs (by decide)) (k .boot (by decide)), getGrp_congr (k .engA (by decide)) (k .engB (by decide)), getBrx_congr (k .engA (by decide)) (k .engB (by decide)), treeOf_congr (k .boot (by decide)), leafKey_congr (k .boot (by decide)), ssetKey_congr (k .boot (by decide)), ctrKey_congr (k .boot (by decide)), getFlow_congr (k .flow (by decide)), getSlot_congr (k .sec (by decide)), getReg_congr (k .regs (by decide)), regF_congr (k .regs (by decide)), chainMask_congr (k .tally (by decide)), modeMask_congr (k .tally (by decide)), getFlags_congr (k .flags (by decide)), powered_congr (k .pwr (by decide)), alive_congr (k .pwr (by decide)), inService_congr (k .pwr (by decide)) (k .bist (by decide)), now_congr (k .clk (by decide)), lcState_congr (k .fuse (by decide)), countsTree_congr (k .boot (by decide)) (k .aps (by decide))⟩
@[simp] theorem countCond_fields (k : ℕ) (o : ℕ) (i : ℕ) (entries : ℕ) (units : ℕ) (s : State) :
    (countCond k o i entries units s).pending = s.pending ∧ (countCond k o i entries units s).free = s.free ∧ (countCond k o i entries units s).status = s.status ∧ (countCond k o i entries units s).got = s.got ∧ (countCond k o i entries units s).pwr = s.pwr ∧ (countCond k o i entries units s).pins = s.pins ∧ (countCond k o i entries units s).clk = s.clk ∧ (countCond k o i entries units s).fuse = s.fuse ∧ (countCond k o i entries units s).flash = s.flash ∧ (countCond k o i entries units s).boot = s.boot ∧ (countCond k o i entries units s).regs = s.regs ∧ (countCond k o i entries units s).flags = s.flags ∧ (countCond k o i entries units s).rsc = s.rsc ∧ (countCond k o i entries units s).seenTurn = s.seenTurn ∧ (countCond k o i entries units s).seenSec = s.seenSec ∧ (countCond k o i entries units s).isls = s.isls ∧ (countCond k o i entries units s).engA = s.engA ∧ (countCond k o i entries units s).engB = s.engB ∧ (countCond k o i entries units s).aps = s.aps ∧ (countCond k o i entries units s).leaves = s.leaves ∧ (countCond k o i entries units s).ssets = s.ssets ∧ (countCond k o i entries units s).ctrs = s.ctrs ∧ (countCond k o i entries units s).flow = s.flow ∧ (countCond k o i entries units s).tod = s.tod ∧ (countCond k o i entries units s).cln = s.cln ∧ (countCond k o i entries units s).sec = s.sec ∧ (countCond k o i entries units s).mem = s.mem ∧ (countCond k o i entries units s).mgt = s.mgt ∧ (countCond k o i entries units s).upd = s.upd ∧ (countCond k o i entries units s).bist = s.bist := by
  have k := keep_countCond k o i entries units s
  exact ⟨k .pending (by decide), k .free (by decide), k .status (by decide), k .got (by decide), k .pwr (by decide), k .pins (by decide), k .clk (by decide), k .fuse (by decide), k .flash (by decide), k .boot (by decide), k .regs (by decide), k .flags (by decide), k .rsc (by decide), k .seenTurn (by decide), k .seenSec (by decide), k .isls (by decide), k .engA (by decide), k .engB (by decide), k .aps (by decide), k .leaves (by decide), k .ssets (by decide), k .ctrs (by decide), k .flow (by decide), k .tod (by decide), k .cln (by decide), k .sec (by decide), k .mem (by decide), k .mgt (by decide), k .upd (by decide), k .bist (by decide)⟩
@[simp] theorem countCond_gets (k : ℕ) (o : ℕ) (i : ℕ) (entries : ℕ) (units : ℕ) (s : State) :
    (∀ (y0 : Isl), getIsl (countCond k o i entries units s) y0 = getIsl s y0) ∧ (∀ (y0 : Isl), dpFence (countCond k o i entries units s) y0 = dpFence s y0) ∧ (∀ (y0 : Isl), islRuns (countCond k o i entries units s) y0 = islRuns s y0) ∧ (∀ (y0 : Isl), ctlRuns (countCond k o i entries units s) y0 = ctlRuns s y0) ∧ (∀ (y0 : Feed), getFeed (countCond k o i entries units s) y0 = getFeed s y0) ∧ (∀ (y0 : Eng), getEng (countCond k o i entries units s) y0 = getEng s y0) ∧ (∀ (y0 : Eng) (y1 : Nat), getLeaf (countCond k o i entries units s) y0 y1 = getLeaf s y0 y1) ∧ (∀ (y0 : Eng) (y1 : Nat), getSset (countCond k o i entries units s) y0 y1 = getSset s y0 y1) ∧ (∀ (y0 : Eng) (y1 : Nat), getCtr (countCond k o i entries units s) y0 y1 = getCtr s y0 y1) ∧ (∀ (y0 : Eng) (y1 : Nat), getGrp (countCond k o i entries units s) y0 y1 = getGrp s y0 y1) ∧ (∀ (y0 : Eng) (y1 : Nat), getBrx (countCond k o i entries units s) y0 y1 = getBrx s y0 y1) ∧ (∀ (y0 : Eng), treeOf (countCond k o i entries units s) y0 = treeOf s y0) ∧ (∀ (y0 : Eng) (y1 : Nat), leafKey (countCond k o i entries units s) y0 y1 = leafKey s y0 y1) ∧ (∀ (y0 : Eng) (y1 : Nat), ssetKey (countCond k o i entries units s) y0 y1 = ssetKey s y0 y1) ∧ (∀ (y0 : Eng) (y1 : Nat), ctrKey (countCond k o i entries units s) y0 y1 = ctrKey s y0 y1) ∧ (∀ (y0 : Nat), getFlow (countCond k o i entries units s) y0 = getFlow s y0) ∧ (∀ (y0 : Nat), getPort (countCond k o i entries units s) y0 = getPort s y0) ∧ (∀ (y0 : Nat), getLane (countCond k o i entries units s) y0 = getLane s y0) ∧ (∀ (y0 : Nat), getSlot (countCond k o i entries units s) y0 = getSlot s y0) ∧ (∀ (y0 : Reg) (y1 : Eng) (y2 : Nat), getReg (countCond k o i entries units s) y0 y1 y2 = getReg s y0 y1 y2) ∧ (∀ (y0 : Reg) (y1 : Eng) (y2 : Nat) (y3 : Nat) (y4 : Nat), regF (countCond k o i entries units s) y0 y1 y2 y3 y4 = regF s y0 y1 y2 y3 y4) ∧ (∀ (y0 : Nat), getFlags (countCond k o i entries units s) y0 = getFlags s y0) ∧ powered (countCond k o i entries units s) = powered s ∧ alive (countCond k o i entries units s) = alive s ∧ inService (countCond k o i entries units s) = inService s ∧ now (countCond k o i entries units s) = now s ∧ lcState (countCond k o i entries units s) = lcState s ∧ (∀ (y0 : Eng), countsTree (countCond k o i entries units s) y0 = countsTree s y0) := by
  have k := keep_countCond k o i entries units s
  exact ⟨getIsl_congr (k .isls (by decide)), dpFence_congr (k .isls (by decide)), islRuns_congr (k .isls (by decide)), ctlRuns_congr (k .isls (by decide)), getFeed_congr (k .pwr (by decide)), getEng_congr (k .engA (by decide)) (k .engB (by decide)), getLeaf_congr (k .leaves (by decide)) (k .boot (by decide)), getSset_congr (k .ssets (by decide)) (k .boot (by decide)), getCtr_congr (k .ctrs (by decide)) (k .boot (by decide)), getGrp_congr (k .engA (by decide)) (k .engB (by decide)), getBrx_congr (k .engA (by decide)) (k .engB (by decide)), treeOf_congr (k .boot (by decide)), leafKey_congr (k .boot (by decide)), ssetKey_congr (k .boot (by decide)), ctrKey_congr (k .boot (by decide)), getFlow_congr (k .flow (by decide)), getPort_congr (k .cln (by decide)), getLane_congr (k .cln (by decide)), getSlot_congr (k .sec (by decide)), getReg_congr (k .regs (by decide)), regF_congr (k .regs (by decide)), getFlags_congr (k .flags (by decide)), powered_congr (k .pwr (by decide)), alive_congr (k .pwr (by decide)), inService_congr (k .pwr (by decide)) (k .bist (by decide)), now_congr (k .clk (by decide)), lcState_congr (k .fuse (by decide)), countsTree_congr (k .boot (by decide)) (k .aps (by decide))⟩
@[simp] theorem setLane_fields (k : ℕ) (x : LaneSt) (s : State) :
    (setLane k x s).pending = s.pending ∧ (setLane k x s).free = s.free ∧ (setLane k x s).status = s.status ∧ (setLane k x s).got = s.got ∧ (setLane k x s).pwr = s.pwr ∧ (setLane k x s).pins = s.pins ∧ (setLane k x s).clk = s.clk ∧ (setLane k x s).fuse = s.fuse ∧ (setLane k x s).flash = s.flash ∧ (setLane k x s).boot = s.boot ∧ (setLane k x s).regs = s.regs ∧ (setLane k x s).flags = s.flags ∧ (setLane k x s).rsc = s.rsc ∧ (setLane k x s).seenTurn = s.seenTurn ∧ (setLane k x s).seenSec = s.seenSec ∧ (setLane k x s).isls = s.isls ∧ (setLane k x s).engA = s.engA ∧ (setLane k x s).engB = s.engB ∧ (setLane k x s).aps = s.aps ∧ (setLane k x s).leaves = s.leaves ∧ (setLane k x s).ssets = s.ssets ∧ (setLane k x s).ctrs = s.ctrs ∧ (setLane k x s).flow = s.flow ∧ (setLane k x s).tod = s.tod ∧ (setLane k x s).sec = s.sec ∧ (setLane k x s).mem = s.mem ∧ (setLane k x s).mgt = s.mgt ∧ (setLane k x s).upd = s.upd ∧ (setLane k x s).tally = s.tally ∧ (setLane k x s).bist = s.bist := by
  have k := keep_setLane k x s
  exact ⟨k .pending (by decide), k .free (by decide), k .status (by decide), k .got (by decide), k .pwr (by decide), k .pins (by decide), k .clk (by decide), k .fuse (by decide), k .flash (by decide), k .boot (by decide), k .regs (by decide), k .flags (by decide), k .rsc (by decide), k .seenTurn (by decide), k .seenSec (by decide), k .isls (by decide), k .engA (by decide), k .engB (by decide), k .aps (by decide), k .leaves (by decide), k .ssets (by decide), k .ctrs (by decide), k .flow (by decide), k .tod (by decide), k .sec (by decide), k .mem (by decide), k .mgt (by decide), k .upd (by decide), k .tally (by decide), k .bist (by decide)⟩
@[simp] theorem setLane_gets (k : ℕ) (x : LaneSt) (s : State) :
    (∀ (y0 : Isl), getIsl (setLane k x s) y0 = getIsl s y0) ∧ (∀ (y0 : Isl), dpFence (setLane k x s) y0 = dpFence s y0) ∧ (∀ (y0 : Isl), islRuns (setLane k x s) y0 = islRuns s y0) ∧ (∀ (y0 : Isl), ctlRuns (setLane k x s) y0 = ctlRuns s y0) ∧ (∀ (y0 : Feed), getFeed (setLane k x s) y0 = getFeed s y0) ∧ (∀ (y0 : Eng), getEng (setLane k x s) y0 = getEng s y0) ∧ (∀ (y0 : Eng) (y1 : Nat), getLeaf (setLane k x s) y0 y1 = getLeaf s y0 y1) ∧ (∀ (y0 : Eng) (y1 : Nat), getSset (setLane k x s) y0 y1 = getSset s y0 y1) ∧ (∀ (y0 : Eng) (y1 : Nat), getCtr (setLane k x s) y0 y1 = getCtr s y0 y1) ∧ (∀ (y0 : Eng) (y1 : Nat), getGrp (setLane k x s) y0 y1 = getGrp s y0 y1) ∧ (∀ (y0 : Eng) (y1 : Nat), getBrx (setLane k x s) y0 y1 = getBrx s y0 y1) ∧ (∀ (y0 : Eng), treeOf (setLane k x s) y0 = treeOf s y0) ∧ (∀ (y0 : Eng) (y1 : Nat), leafKey (setLane k x s) y0 y1 = leafKey s y0 y1) ∧ (∀ (y0 : Eng) (y1 : Nat), ssetKey (setLane k x s) y0 y1 = ssetKey s y0 y1) ∧ (∀ (y0 : Eng) (y1 : Nat), ctrKey (setLane k x s) y0 y1 = ctrKey s y0 y1) ∧ (∀ (y0 : Nat), getFlow (setLane k x s) y0 = getFlow s y0) ∧ (∀ (y0 : Nat), getSlot (setLane k x s) y0 = getSlot s y0) ∧ (∀ (y0 : Reg) (y1 : Eng) (y2 : Nat), getReg (setLane k x s) y0 y1 y2 = getReg s y0 y1 y2) ∧ (∀ (y0 : Reg) (y1 : Eng) (y2 : Nat) (y3 : Nat) (y4 : Nat), regF (setLane k x s) y0 y1 y2 y3 y4 = regF s y0 y1 y2 y3 y4) ∧ (∀ (y0 : Nat), chainMask (setLane k x s) y0 = chainMask s y0) ∧ (∀ (y0 : Nat), modeMask (setLane k x s) y0 = modeMask s y0) ∧ (∀ (y0 : Nat), getFlags (setLane k x s) y0 = getFlags s y0) ∧ powered (setLane k x s) = powered s ∧ alive (setLane k x s) = alive s ∧ inService (setLane k x s) = inService s ∧ now (setLane k x s) = now s ∧ lcState (setLane k x s) = lcState s ∧ (∀ (y0 : Eng), countsTree (setLane k x s) y0 = countsTree s y0) := by
  have k := keep_setLane k x s
  exact ⟨getIsl_congr (k .isls (by decide)), dpFence_congr (k .isls (by decide)), islRuns_congr (k .isls (by decide)), ctlRuns_congr (k .isls (by decide)), getFeed_congr (k .pwr (by decide)), getEng_congr (k .engA (by decide)) (k .engB (by decide)), getLeaf_congr (k .leaves (by decide)) (k .boot (by decide)), getSset_congr (k .ssets (by decide)) (k .boot (by decide)), getCtr_congr (k .ctrs (by decide)) (k .boot (by decide)), getGrp_congr (k .engA (by decide)) (k .engB (by decide)), getBrx_congr (k .engA (by decide)) (k .engB (by decide)), treeOf_congr (k .boot (by decide)), leafKey_congr (k .boot (by decide)), ssetKey_congr (k .boot (by decide)), ctrKey_congr (k .boot (by decide)), getFlow_congr (k .flow (by decide)), getSlot_congr (k .sec (by decide)), getReg_congr (k .regs (by decide)), regF_congr (k .regs (by decide)), chainMask_congr (k .tally (by decide)), modeMask_congr (k .tally (by decide)), getFlags_congr (k .flags (by decide)), powered_congr (k .pwr (by decide)), alive_congr (k .pwr (by decide)), inService_congr (k .pwr (by decide)) (k .bist (by decide)), now_congr (k .clk (by decide)), lcState_congr (k .fuse (by decide)), countsTree_congr (k .boot (by decide)) (k .aps (by decide))⟩
@[simp] theorem modLane_fields (k : ℕ) (f : LaneSt → LaneSt) (s : State) :
    (modLane k f s).pending = s.pending ∧ (modLane k f s).free = s.free ∧ (modLane k f s).status = s.status ∧ (modLane k f s).got = s.got ∧ (modLane k f s).pwr = s.pwr ∧ (modLane k f s).pins = s.pins ∧ (modLane k f s).clk = s.clk ∧ (modLane k f s).fuse = s.fuse ∧ (modLane k f s).flash = s.flash ∧ (modLane k f s).boot = s.boot ∧ (modLane k f s).regs = s.regs ∧ (modLane k f s).flags = s.flags ∧ (modLane k f s).rsc = s.rsc ∧ (modLane k f s).seenTurn = s.seenTurn ∧ (modLane k f s).seenSec = s.seenSec ∧ (modLane k f s).isls = s.isls ∧ (modLane k f s).engA = s.engA ∧ (modLane k f s).engB = s.engB ∧ (modLane k f s).aps = s.aps ∧ (modLane k f s).leaves = s.leaves ∧ (modLane k f s).ssets = s.ssets ∧ (modLane k f s).ctrs = s.ctrs ∧ (modLane k f s).flow = s.flow ∧ (modLane k f s).tod = s.tod ∧ (modLane k f s).sec = s.sec ∧ (modLane k f s).mem = s.mem ∧ (modLane k f s).mgt = s.mgt ∧ (modLane k f s).upd = s.upd ∧ (modLane k f s).tally = s.tally ∧ (modLane k f s).bist = s.bist := by
  have k := keep_modLane k f s
  exact ⟨k .pending (by decide), k .free (by decide), k .status (by decide), k .got (by decide), k .pwr (by decide), k .pins (by decide), k .clk (by decide), k .fuse (by decide), k .flash (by decide), k .boot (by decide), k .regs (by decide), k .flags (by decide), k .rsc (by decide), k .seenTurn (by decide), k .seenSec (by decide), k .isls (by decide), k .engA (by decide), k .engB (by decide), k .aps (by decide), k .leaves (by decide), k .ssets (by decide), k .ctrs (by decide), k .flow (by decide), k .tod (by decide), k .sec (by decide), k .mem (by decide), k .mgt (by decide), k .upd (by decide), k .tally (by decide), k .bist (by decide)⟩
@[simp] theorem modLane_gets (k : ℕ) (f : LaneSt → LaneSt) (s : State) :
    (∀ (y0 : Isl), getIsl (modLane k f s) y0 = getIsl s y0) ∧ (∀ (y0 : Isl), dpFence (modLane k f s) y0 = dpFence s y0) ∧ (∀ (y0 : Isl), islRuns (modLane k f s) y0 = islRuns s y0) ∧ (∀ (y0 : Isl), ctlRuns (modLane k f s) y0 = ctlRuns s y0) ∧ (∀ (y0 : Feed), getFeed (modLane k f s) y0 = getFeed s y0) ∧ (∀ (y0 : Eng), getEng (modLane k f s) y0 = getEng s y0) ∧ (∀ (y0 : Eng) (y1 : Nat), getLeaf (modLane k f s) y0 y1 = getLeaf s y0 y1) ∧ (∀ (y0 : Eng) (y1 : Nat), getSset (modLane k f s) y0 y1 = getSset s y0 y1) ∧ (∀ (y0 : Eng) (y1 : Nat), getCtr (modLane k f s) y0 y1 = getCtr s y0 y1) ∧ (∀ (y0 : Eng) (y1 : Nat), getGrp (modLane k f s) y0 y1 = getGrp s y0 y1) ∧ (∀ (y0 : Eng) (y1 : Nat), getBrx (modLane k f s) y0 y1 = getBrx s y0 y1) ∧ (∀ (y0 : Eng), treeOf (modLane k f s) y0 = treeOf s y0) ∧ (∀ (y0 : Eng) (y1 : Nat), leafKey (modLane k f s) y0 y1 = leafKey s y0 y1) ∧ (∀ (y0 : Eng) (y1 : Nat), ssetKey (modLane k f s) y0 y1 = ssetKey s y0 y1) ∧ (∀ (y0 : Eng) (y1 : Nat), ctrKey (modLane k f s) y0 y1 = ctrKey s y0 y1) ∧ (∀ (y0 : Nat), getFlow (modLane k f s) y0 = getFlow s y0) ∧ (∀ (y0 : Nat), getSlot (modLane k f s) y0 = getSlot s y0) ∧ (∀ (y0 : Reg) (y1 : Eng) (y2 : Nat), getReg (modLane k f s) y0 y1 y2 = getReg s y0 y1 y2) ∧ (∀ (y0 : Reg) (y1 : Eng) (y2 : Nat) (y3 : Nat) (y4 : Nat), regF (modLane k f s) y0 y1 y2 y3 y4 = regF s y0 y1 y2 y3 y4) ∧ (∀ (y0 : Nat), chainMask (modLane k f s) y0 = chainMask s y0) ∧ (∀ (y0 : Nat), modeMask (modLane k f s) y0 = modeMask s y0) ∧ (∀ (y0 : Nat), getFlags (modLane k f s) y0 = getFlags s y0) ∧ powered (modLane k f s) = powered s ∧ alive (modLane k f s) = alive s ∧ inService (modLane k f s) = inService s ∧ now (modLane k f s) = now s ∧ lcState (modLane k f s) = lcState s ∧ (∀ (y0 : Eng), countsTree (modLane k f s) y0 = countsTree s y0) := by
  have k := keep_modLane k f s
  exact ⟨getIsl_congr (k .isls (by decide)), dpFence_congr (k .isls (by decide)), islRuns_congr (k .isls (by decide)), ctlRuns_congr (k .isls (by decide)), getFeed_congr (k .pwr (by decide)), getEng_congr (k .engA (by decide)) (k .engB (by decide)), getLeaf_congr (k .leaves (by decide)) (k .boot (by decide)), getSset_congr (k .ssets (by decide)) (k .boot (by decide)), getCtr_congr (k .ctrs (by decide)) (k .boot (by decide)), getGrp_congr (k .engA (by decide)) (k .engB (by decide)), getBrx_congr (k .engA (by decide)) (k .engB (by decide)), treeOf_congr (k .boot (by decide)), leafKey_congr (k .boot (by decide)), ssetKey_congr (k .boot (by decide)), ctrKey_congr (k .boot (by decide)), getFlow_congr (k .flow (by decide)), getSlot_congr (k .sec (by decide)), getReg_congr (k .regs (by decide)), regF_congr (k .regs (by decide)), chainMask_congr (k .tally (by decide)), modeMask_congr (k .tally (by decide)), getFlags_congr (k .flags (by decide)), powered_congr (k .pwr (by decide)), alive_congr (k .pwr (by decide)), inService_congr (k .pwr (by decide)) (k .bist (by decide)), now_congr (k .clk (by decide)), lcState_congr (k .fuse (by decide)), countsTree_congr (k .boot (by decide)) (k .aps (by decide))⟩
@[simp] theorem noteFenced_fields (i : Isl) (s : State) :
    (noteFenced i s).pending = s.pending ∧ (noteFenced i s).free = s.free ∧ (noteFenced i s).status = s.status ∧ (noteFenced i s).got = s.got ∧ (noteFenced i s).pwr = s.pwr ∧ (noteFenced i s).pins = s.pins ∧ (noteFenced i s).clk = s.clk ∧ (noteFenced i s).fuse = s.fuse ∧ (noteFenced i s).flash = s.flash ∧ (noteFenced i s).boot = s.boot ∧ (noteFenced i s).regs = s.regs ∧ (noteFenced i s).flags = s.flags ∧ (noteFenced i s).rsc = s.rsc ∧ (noteFenced i s).seenTurn = s.seenTurn ∧ (noteFenced i s).seenSec = s.seenSec ∧ (noteFenced i s).isls = s.isls ∧ (noteFenced i s).engA = s.engA ∧ (noteFenced i s).engB = s.engB ∧ (noteFenced i s).aps = s.aps ∧ (noteFenced i s).leaves = s.leaves ∧ (noteFenced i s).ssets = s.ssets ∧ (noteFenced i s).ctrs = s.ctrs ∧ (noteFenced i s).flow = s.flow ∧ (noteFenced i s).tod = s.tod ∧ (noteFenced i s).cln = s.cln ∧ (noteFenced i s).sec = s.sec ∧ (noteFenced i s).mem = s.mem ∧ (noteFenced i s).mgt = s.mgt ∧ (noteFenced i s).upd = s.upd ∧ (noteFenced i s).bist = s.bist := by
  have k := keep_noteFenced i s
  exact ⟨k .pending (by decide), k .free (by decide), k .status (by decide), k .got (by decide), k .pwr (by decide), k .pins (by decide), k .clk (by decide), k .fuse (by decide), k .flash (by decide), k .boot (by decide), k .regs (by decide), k .flags (by decide), k .rsc (by decide), k .seenTurn (by decide), k .seenSec (by decide), k .isls (by decide), k .engA (by decide), k .engB (by decide), k .aps (by decide), k .leaves (by decide), k .ssets (by decide), k .ctrs (by decide), k .flow (by decide), k .tod (by decide), k .cln (by decide), k .sec (by decide), k .mem (by decide), k .mgt (by decide), k .upd (by decide), k .bist (by decide)⟩
@[simp] theorem noteFenced_gets (i : Isl) (s : State) :
    (∀ (y0 : Isl), getIsl (noteFenced i s) y0 = getIsl s y0) ∧ (∀ (y0 : Isl), dpFence (noteFenced i s) y0 = dpFence s y0) ∧ (∀ (y0 : Isl), islRuns (noteFenced i s) y0 = islRuns s y0) ∧ (∀ (y0 : Isl), ctlRuns (noteFenced i s) y0 = ctlRuns s y0) ∧ (∀ (y0 : Feed), getFeed (noteFenced i s) y0 = getFeed s y0) ∧ (∀ (y0 : Eng), getEng (noteFenced i s) y0 = getEng s y0) ∧ (∀ (y0 : Eng) (y1 : Nat), getLeaf (noteFenced i s) y0 y1 = getLeaf s y0 y1) ∧ (∀ (y0 : Eng) (y1 : Nat), getSset (noteFenced i s) y0 y1 = getSset s y0 y1) ∧ (∀ (y0 : Eng) (y1 : Nat), getCtr (noteFenced i s) y0 y1 = getCtr s y0 y1) ∧ (∀ (y0 : Eng) (y1 : Nat), getGrp (noteFenced i s) y0 y1 = getGrp s y0 y1) ∧ (∀ (y0 : Eng) (y1 : Nat), getBrx (noteFenced i s) y0 y1 = getBrx s y0 y1) ∧ (∀ (y0 : Eng), treeOf (noteFenced i s) y0 = treeOf s y0) ∧ (∀ (y0 : Eng) (y1 : Nat), leafKey (noteFenced i s) y0 y1 = leafKey s y0 y1) ∧ (∀ (y0 : Eng) (y1 : Nat), ssetKey (noteFenced i s) y0 y1 = ssetKey s y0 y1) ∧ (∀ (y0 : Eng) (y1 : Nat), ctrKey (noteFenced i s) y0 y1 = ctrKey s y0 y1) ∧ (∀ (y0 : Nat), getFlow (noteFenced i s) y0 = getFlow s y0) ∧ (∀ (y0 : Nat), getPort (noteFenced i s) y0 = getPort s y0) ∧ (∀ (y0 : Nat), getLane (noteFenced i s) y0 = getLane s y0) ∧ (∀ (y0 : Nat), getSlot (noteFenced i s) y0 = getSlot s y0) ∧ (∀ (y0 : Reg) (y1 : Eng) (y2 : Nat), getReg (noteFenced i s) y0 y1 y2 = getReg s y0 y1 y2) ∧ (∀ (y0 : Reg) (y1 : Eng) (y2 : Nat) (y3 : Nat) (y4 : Nat), regF (noteFenced i s) y0 y1 y2 y3 y4 = regF s y0 y1 y2 y3 y4) ∧ (∀ (y0 : Nat), getFlags (noteFenced i s) y0 = getFlags s y0) ∧ powered (noteFenced i s) = powered s ∧ alive (noteFenced i s) = alive s ∧ inService (noteFenced i s) = inService s ∧ now (noteFenced i s) = now s ∧ lcState (noteFenced i s) = lcState s ∧ (∀ (y0 : Eng), countsTree (noteFenced i s) y0 = countsTree s y0) := by
  have k := keep_noteFenced i s
  exact ⟨getIsl_congr (k .isls (by decide)), dpFence_congr (k .isls (by decide)), islRuns_congr (k .isls (by decide)), ctlRuns_congr (k .isls (by decide)), getFeed_congr (k .pwr (by decide)), getEng_congr (k .engA (by decide)) (k .engB (by decide)), getLeaf_congr (k .leaves (by decide)) (k .boot (by decide)), getSset_congr (k .ssets (by decide)) (k .boot (by decide)), getCtr_congr (k .ctrs (by decide)) (k .boot (by decide)), getGrp_congr (k .engA (by decide)) (k .engB (by decide)), getBrx_congr (k .engA (by decide)) (k .engB (by decide)), treeOf_congr (k .boot (by decide)), leafKey_congr (k .boot (by decide)), ssetKey_congr (k .boot (by decide)), ctrKey_congr (k .boot (by decide)), getFlow_congr (k .flow (by decide)), getPort_congr (k .cln (by decide)), getLane_congr (k .cln (by decide)), getSlot_congr (k .sec (by decide)), getReg_congr (k .regs (by decide)), regF_congr (k .regs (by decide)), getFlags_congr (k .flags (by decide)), powered_congr (k .pwr (by decide)), alive_congr (k .pwr (by decide)), inService_congr (k .pwr (by decide)) (k .bist (by decide)), now_congr (k .clk (by decide)), lcState_congr (k .fuse (by decide)), countsTree_congr (k .boot (by decide)) (k .aps (by decide))⟩
@[simp] theorem modFlow_fields (f : ℕ) (g : Flow → Flow) (s : State) :
    (modFlow f g s).pending = s.pending ∧ (modFlow f g s).free = s.free ∧ (modFlow f g s).status = s.status ∧ (modFlow f g s).got = s.got ∧ (modFlow f g s).pwr = s.pwr ∧ (modFlow f g s).pins = s.pins ∧ (modFlow f g s).clk = s.clk ∧ (modFlow f g s).fuse = s.fuse ∧ (modFlow f g s).flash = s.flash ∧ (modFlow f g s).boot = s.boot ∧ (modFlow f g s).regs = s.regs ∧ (modFlow f g s).flags = s.flags ∧ (modFlow f g s).rsc = s.rsc ∧ (modFlow f g s).seenTurn = s.seenTurn ∧ (modFlow f g s).seenSec = s.seenSec ∧ (modFlow f g s).isls = s.isls ∧ (modFlow f g s).engA = s.engA ∧ (modFlow f g s).engB = s.engB ∧ (modFlow f g s).aps = s.aps ∧ (modFlow f g s).leaves = s.leaves ∧ (modFlow f g s).ssets = s.ssets ∧ (modFlow f g s).ctrs = s.ctrs ∧ (modFlow f g s).tod = s.tod ∧ (modFlow f g s).cln = s.cln ∧ (modFlow f g s).sec = s.sec ∧ (modFlow f g s).mem = s.mem ∧ (modFlow f g s).mgt = s.mgt ∧ (modFlow f g s).upd = s.upd ∧ (modFlow f g s).tally = s.tally ∧ (modFlow f g s).bist = s.bist := by
  have k := keep_modFlow f g s
  exact ⟨k .pending (by decide), k .free (by decide), k .status (by decide), k .got (by decide), k .pwr (by decide), k .pins (by decide), k .clk (by decide), k .fuse (by decide), k .flash (by decide), k .boot (by decide), k .regs (by decide), k .flags (by decide), k .rsc (by decide), k .seenTurn (by decide), k .seenSec (by decide), k .isls (by decide), k .engA (by decide), k .engB (by decide), k .aps (by decide), k .leaves (by decide), k .ssets (by decide), k .ctrs (by decide), k .tod (by decide), k .cln (by decide), k .sec (by decide), k .mem (by decide), k .mgt (by decide), k .upd (by decide), k .tally (by decide), k .bist (by decide)⟩
@[simp] theorem modFlow_gets (f : ℕ) (g : Flow → Flow) (s : State) :
    (∀ (y0 : Isl), getIsl (modFlow f g s) y0 = getIsl s y0) ∧ (∀ (y0 : Isl), dpFence (modFlow f g s) y0 = dpFence s y0) ∧ (∀ (y0 : Isl), islRuns (modFlow f g s) y0 = islRuns s y0) ∧ (∀ (y0 : Isl), ctlRuns (modFlow f g s) y0 = ctlRuns s y0) ∧ (∀ (y0 : Feed), getFeed (modFlow f g s) y0 = getFeed s y0) ∧ (∀ (y0 : Eng), getEng (modFlow f g s) y0 = getEng s y0) ∧ (∀ (y0 : Eng) (y1 : Nat), getLeaf (modFlow f g s) y0 y1 = getLeaf s y0 y1) ∧ (∀ (y0 : Eng) (y1 : Nat), getSset (modFlow f g s) y0 y1 = getSset s y0 y1) ∧ (∀ (y0 : Eng) (y1 : Nat), getCtr (modFlow f g s) y0 y1 = getCtr s y0 y1) ∧ (∀ (y0 : Eng) (y1 : Nat), getGrp (modFlow f g s) y0 y1 = getGrp s y0 y1) ∧ (∀ (y0 : Eng) (y1 : Nat), getBrx (modFlow f g s) y0 y1 = getBrx s y0 y1) ∧ (∀ (y0 : Eng), treeOf (modFlow f g s) y0 = treeOf s y0) ∧ (∀ (y0 : Eng) (y1 : Nat), leafKey (modFlow f g s) y0 y1 = leafKey s y0 y1) ∧ (∀ (y0 : Eng) (y1 : Nat), ssetKey (modFlow f g s) y0 y1 = ssetKey s y0 y1) ∧ (∀ (y0 : Eng) (y1 : Nat), ctrKey (modFlow f g s) y0 y1 = ctrKey s y0 y1) ∧ (∀ (y0 : Nat), getPort (modFlow f g s) y0 = getPort s y0) ∧ (∀ (y0 : Nat), getLane (modFlow f g s) y0 = getLane s y0) ∧ (∀ (y0 : Nat), getSlot (modFlow f g s) y0 = getSlot s y0) ∧ (∀ (y0 : Reg) (y1 : Eng) (y2 : Nat), getReg (modFlow f g s) y0 y1 y2 = getReg s y0 y1 y2) ∧ (∀ (y0 : Reg) (y1 : Eng) (y2 : Nat) (y3 : Nat) (y4 : Nat), regF (modFlow f g s) y0 y1 y2 y3 y4 = regF s y0 y1 y2 y3 y4) ∧ (∀ (y0 : Nat), chainMask (modFlow f g s) y0 = chainMask s y0) ∧ (∀ (y0 : Nat), modeMask (modFlow f g s) y0 = modeMask s y0) ∧ (∀ (y0 : Nat), getFlags (modFlow f g s) y0 = getFlags s y0) ∧ powered (modFlow f g s) = powered s ∧ alive (modFlow f g s) = alive s ∧ inService (modFlow f g s) = inService s ∧ now (modFlow f g s) = now s ∧ lcState (modFlow f g s) = lcState s ∧ (∀ (y0 : Eng), countsTree (modFlow f g s) y0 = countsTree s y0) := by
  have k := keep_modFlow f g s
  exact ⟨getIsl_congr (k .isls (by decide)), dpFence_congr (k .isls (by decide)), islRuns_congr (k .isls (by decide)), ctlRuns_congr (k .isls (by decide)), getFeed_congr (k .pwr (by decide)), getEng_congr (k .engA (by decide)) (k .engB (by decide)), getLeaf_congr (k .leaves (by decide)) (k .boot (by decide)), getSset_congr (k .ssets (by decide)) (k .boot (by decide)), getCtr_congr (k .ctrs (by decide)) (k .boot (by decide)), getGrp_congr (k .engA (by decide)) (k .engB (by decide)), getBrx_congr (k .engA (by decide)) (k .engB (by decide)), treeOf_congr (k .boot (by decide)), leafKey_congr (k .boot (by decide)), ssetKey_congr (k .boot (by decide)), ctrKey_congr (k .boot (by decide)), getPort_congr (k .cln (by decide)), getLane_congr (k .cln (by decide)), getSlot_congr (k .sec (by decide)), getReg_congr (k .regs (by decide)), regF_congr (k .regs (by decide)), chainMask_congr (k .tally (by decide)), modeMask_congr (k .tally (by decide)), getFlags_congr (k .flags (by decide)), powered_congr (k .pwr (by decide)), alive_congr (k .pwr (by decide)), inService_congr (k .pwr (by decide)) (k .bist (by decide)), now_congr (k .clk (by decide)), lcState_congr (k .fuse (by decide)), countsTree_congr (k .boot (by decide)) (k .aps (by decide))⟩
@[simp] theorem modFeed_fields (f : Feed) (g : FeedSt → FeedSt) (s : State) :
    (modFeed f g s).pending = s.pending ∧ (modFeed f g s).free = s.free ∧ (modFeed f g s).status = s.status ∧ (modFeed f g s).got = s.got ∧ (modFeed f g s).pins = s.pins ∧ (modFeed f g s).clk = s.clk ∧ (modFeed f g s).fuse = s.fuse ∧ (modFeed f g s).flash = s.flash ∧ (modFeed f g s).boot = s.boot ∧ (modFeed f g s).regs = s.regs ∧ (modFeed f g s).flags = s.flags ∧ (modFeed f g s).rsc = s.rsc ∧ (modFeed f g s).seenTurn = s.seenTurn ∧ (modFeed f g s).seenSec = s.seenSec ∧ (modFeed f g s).isls = s.isls ∧ (modFeed f g s).engA = s.engA ∧ (modFeed f g s).engB = s.engB ∧ (modFeed f g s).aps = s.aps ∧ (modFeed f g s).leaves = s.leaves ∧ (modFeed f g s).ssets = s.ssets ∧ (modFeed f g s).ctrs = s.ctrs ∧ (modFeed f g s).flow = s.flow ∧ (modFeed f g s).tod = s.tod ∧ (modFeed f g s).cln = s.cln ∧ (modFeed f g s).sec = s.sec ∧ (modFeed f g s).mem = s.mem ∧ (modFeed f g s).mgt = s.mgt ∧ (modFeed f g s).upd = s.upd ∧ (modFeed f g s).tally = s.tally ∧ (modFeed f g s).bist = s.bist := by
  have k := keep_modFeed f g s
  exact ⟨k .pending (by decide), k .free (by decide), k .status (by decide), k .got (by decide), k .pins (by decide), k .clk (by decide), k .fuse (by decide), k .flash (by decide), k .boot (by decide), k .regs (by decide), k .flags (by decide), k .rsc (by decide), k .seenTurn (by decide), k .seenSec (by decide), k .isls (by decide), k .engA (by decide), k .engB (by decide), k .aps (by decide), k .leaves (by decide), k .ssets (by decide), k .ctrs (by decide), k .flow (by decide), k .tod (by decide), k .cln (by decide), k .sec (by decide), k .mem (by decide), k .mgt (by decide), k .upd (by decide), k .tally (by decide), k .bist (by decide)⟩
@[simp] theorem modFeed_gets (f : Feed) (g : FeedSt → FeedSt) (s : State) :
    (∀ (y0 : Isl), getIsl (modFeed f g s) y0 = getIsl s y0) ∧ (∀ (y0 : Isl), dpFence (modFeed f g s) y0 = dpFence s y0) ∧ (∀ (y0 : Isl), islRuns (modFeed f g s) y0 = islRuns s y0) ∧ (∀ (y0 : Isl), ctlRuns (modFeed f g s) y0 = ctlRuns s y0) ∧ (∀ (y0 : Eng), getEng (modFeed f g s) y0 = getEng s y0) ∧ (∀ (y0 : Eng) (y1 : Nat), getLeaf (modFeed f g s) y0 y1 = getLeaf s y0 y1) ∧ (∀ (y0 : Eng) (y1 : Nat), getSset (modFeed f g s) y0 y1 = getSset s y0 y1) ∧ (∀ (y0 : Eng) (y1 : Nat), getCtr (modFeed f g s) y0 y1 = getCtr s y0 y1) ∧ (∀ (y0 : Eng) (y1 : Nat), getGrp (modFeed f g s) y0 y1 = getGrp s y0 y1) ∧ (∀ (y0 : Eng) (y1 : Nat), getBrx (modFeed f g s) y0 y1 = getBrx s y0 y1) ∧ (∀ (y0 : Eng), treeOf (modFeed f g s) y0 = treeOf s y0) ∧ (∀ (y0 : Eng) (y1 : Nat), leafKey (modFeed f g s) y0 y1 = leafKey s y0 y1) ∧ (∀ (y0 : Eng) (y1 : Nat), ssetKey (modFeed f g s) y0 y1 = ssetKey s y0 y1) ∧ (∀ (y0 : Eng) (y1 : Nat), ctrKey (modFeed f g s) y0 y1 = ctrKey s y0 y1) ∧ (∀ (y0 : Nat), getFlow (modFeed f g s) y0 = getFlow s y0) ∧ (∀ (y0 : Nat), getPort (modFeed f g s) y0 = getPort s y0) ∧ (∀ (y0 : Nat), getLane (modFeed f g s) y0 = getLane s y0) ∧ (∀ (y0 : Nat), getSlot (modFeed f g s) y0 = getSlot s y0) ∧ (∀ (y0 : Reg) (y1 : Eng) (y2 : Nat), getReg (modFeed f g s) y0 y1 y2 = getReg s y0 y1 y2) ∧ (∀ (y0 : Reg) (y1 : Eng) (y2 : Nat) (y3 : Nat) (y4 : Nat), regF (modFeed f g s) y0 y1 y2 y3 y4 = regF s y0 y1 y2 y3 y4) ∧ (∀ (y0 : Nat), chainMask (modFeed f g s) y0 = chainMask s y0) ∧ (∀ (y0 : Nat), modeMask (modFeed f g s) y0 = modeMask s y0) ∧ (∀ (y0 : Nat), getFlags (modFeed f g s) y0 = getFlags s y0) ∧ now (modFeed f g s) = now s ∧ lcState (modFeed f g s) = lcState s ∧ (∀ (y0 : Eng), countsTree (modFeed f g s) y0 = countsTree s y0) := by
  have k := keep_modFeed f g s
  exact ⟨getIsl_congr (k .isls (by decide)), dpFence_congr (k .isls (by decide)), islRuns_congr (k .isls (by decide)), ctlRuns_congr (k .isls (by decide)), getEng_congr (k .engA (by decide)) (k .engB (by decide)), getLeaf_congr (k .leaves (by decide)) (k .boot (by decide)), getSset_congr (k .ssets (by decide)) (k .boot (by decide)), getCtr_congr (k .ctrs (by decide)) (k .boot (by decide)), getGrp_congr (k .engA (by decide)) (k .engB (by decide)), getBrx_congr (k .engA (by decide)) (k .engB (by decide)), treeOf_congr (k .boot (by decide)), leafKey_congr (k .boot (by decide)), ssetKey_congr (k .boot (by decide)), ctrKey_congr (k .boot (by decide)), getFlow_congr (k .flow (by decide)), getPort_congr (k .cln (by decide)), getLane_congr (k .cln (by decide)), getSlot_congr (k .sec (by decide)), getReg_congr (k .regs (by decide)), regF_congr (k .regs (by decide)), chainMask_congr (k .tally (by decide)), modeMask_congr (k .tally (by decide)), getFlags_congr (k .flags (by decide)), now_congr (k .clk (by decide)), lcState_congr (k .fuse (by decide)), countsTree_congr (k .boot (by decide)) (k .aps (by decide))⟩
@[simp] theorem setBrx_fields (e : Eng) (n : ℕ) (x : BrxSt) (s : State) :
    (setBrx e n x s).pending = s.pending ∧ (setBrx e n x s).free = s.free ∧ (setBrx e n x s).status = s.status ∧ (setBrx e n x s).got = s.got ∧ (setBrx e n x s).pwr = s.pwr ∧ (setBrx e n x s).pins = s.pins ∧ (setBrx e n x s).clk = s.clk ∧ (setBrx e n x s).fuse = s.fuse ∧ (setBrx e n x s).flash = s.flash ∧ (setBrx e n x s).boot = s.boot ∧ (setBrx e n x s).regs = s.regs ∧ (setBrx e n x s).flags = s.flags ∧ (setBrx e n x s).rsc = s.rsc ∧ (setBrx e n x s).seenTurn = s.seenTurn ∧ (setBrx e n x s).seenSec = s.seenSec ∧ (setBrx e n x s).isls = s.isls ∧ (setBrx e n x s).aps = s.aps ∧ (setBrx e n x s).leaves = s.leaves ∧ (setBrx e n x s).ssets = s.ssets ∧ (setBrx e n x s).ctrs = s.ctrs ∧ (setBrx e n x s).flow = s.flow ∧ (setBrx e n x s).tod = s.tod ∧ (setBrx e n x s).cln = s.cln ∧ (setBrx e n x s).sec = s.sec ∧ (setBrx e n x s).mem = s.mem ∧ (setBrx e n x s).mgt = s.mgt ∧ (setBrx e n x s).upd = s.upd ∧ (setBrx e n x s).tally = s.tally ∧ (setBrx e n x s).bist = s.bist := by
  have k := keep_setBrx e n x s
  exact ⟨k .pending (by decide), k .free (by decide), k .status (by decide), k .got (by decide), k .pwr (by decide), k .pins (by decide), k .clk (by decide), k .fuse (by decide), k .flash (by decide), k .boot (by decide), k .regs (by decide), k .flags (by decide), k .rsc (by decide), k .seenTurn (by decide), k .seenSec (by decide), k .isls (by decide), k .aps (by decide), k .leaves (by decide), k .ssets (by decide), k .ctrs (by decide), k .flow (by decide), k .tod (by decide), k .cln (by decide), k .sec (by decide), k .mem (by decide), k .mgt (by decide), k .upd (by decide), k .tally (by decide), k .bist (by decide)⟩
@[simp] theorem setBrx_gets (e : Eng) (n : ℕ) (x : BrxSt) (s : State) :
    (∀ (y0 : Isl), getIsl (setBrx e n x s) y0 = getIsl s y0) ∧ (∀ (y0 : Isl), dpFence (setBrx e n x s) y0 = dpFence s y0) ∧ (∀ (y0 : Isl), islRuns (setBrx e n x s) y0 = islRuns s y0) ∧ (∀ (y0 : Isl), ctlRuns (setBrx e n x s) y0 = ctlRuns s y0) ∧ (∀ (y0 : Feed), getFeed (setBrx e n x s) y0 = getFeed s y0) ∧ (∀ (y0 : Eng) (y1 : Nat), getLeaf (setBrx e n x s) y0 y1 = getLeaf s y0 y1) ∧ (∀ (y0 : Eng) (y1 : Nat), getSset (setBrx e n x s) y0 y1 = getSset s y0 y1) ∧ (∀ (y0 : Eng) (y1 : Nat), getCtr (setBrx e n x s) y0 y1 = getCtr s y0 y1) ∧ (∀ (y0 : Eng), treeOf (setBrx e n x s) y0 = treeOf s y0) ∧ (∀ (y0 : Eng) (y1 : Nat), leafKey (setBrx e n x s) y0 y1 = leafKey s y0 y1) ∧ (∀ (y0 : Eng) (y1 : Nat), ssetKey (setBrx e n x s) y0 y1 = ssetKey s y0 y1) ∧ (∀ (y0 : Eng) (y1 : Nat), ctrKey (setBrx e n x s) y0 y1 = ctrKey s y0 y1) ∧ (∀ (y0 : Nat), getFlow (setBrx e n x s) y0 = getFlow s y0) ∧ (∀ (y0 : Nat), getPort (setBrx e n x s) y0 = getPort s y0) ∧ (∀ (y0 : Nat), getLane (setBrx e n x s) y0 = getLane s y0) ∧ (∀ (y0 : Nat), getSlot (setBrx e n x s) y0 = getSlot s y0) ∧ (∀ (y0 : Reg) (y1 : Eng) (y2 : Nat), getReg (setBrx e n x s) y0 y1 y2 = getReg s y0 y1 y2) ∧ (∀ (y0 : Reg) (y1 : Eng) (y2 : Nat) (y3 : Nat) (y4 : Nat), regF (setBrx e n x s) y0 y1 y2 y3 y4 = regF s y0 y1 y2 y3 y4) ∧ (∀ (y0 : Nat), chainMask (setBrx e n x s) y0 = chainMask s y0) ∧ (∀ (y0 : Nat), modeMask (setBrx e n x s) y0 = modeMask s y0) ∧ (∀ (y0 : Nat), getFlags (setBrx e n x s) y0 = getFlags s y0) ∧ powered (setBrx e n x s) = powered s ∧ alive (setBrx e n x s) = alive s ∧ inService (setBrx e n x s) = inService s ∧ now (setBrx e n x s) = now s ∧ lcState (setBrx e n x s) = lcState s ∧ (∀ (y0 : Eng), countsTree (setBrx e n x s) y0 = countsTree s y0) := by
  have k := keep_setBrx e n x s
  exact ⟨getIsl_congr (k .isls (by decide)), dpFence_congr (k .isls (by decide)), islRuns_congr (k .isls (by decide)), ctlRuns_congr (k .isls (by decide)), getFeed_congr (k .pwr (by decide)), getLeaf_congr (k .leaves (by decide)) (k .boot (by decide)), getSset_congr (k .ssets (by decide)) (k .boot (by decide)), getCtr_congr (k .ctrs (by decide)) (k .boot (by decide)), treeOf_congr (k .boot (by decide)), leafKey_congr (k .boot (by decide)), ssetKey_congr (k .boot (by decide)), ctrKey_congr (k .boot (by decide)), getFlow_congr (k .flow (by decide)), getPort_congr (k .cln (by decide)), getLane_congr (k .cln (by decide)), getSlot_congr (k .sec (by decide)), getReg_congr (k .regs (by decide)), regF_congr (k .regs (by decide)), chainMask_congr (k .tally (by decide)), modeMask_congr (k .tally (by decide)), getFlags_congr (k .flags (by decide)), powered_congr (k .pwr (by decide)), alive_congr (k .pwr (by decide)), inService_congr (k .pwr (by decide)) (k .bist (by decide)), now_congr (k .clk (by decide)), lcState_congr (k .fuse (by decide)), countsTree_congr (k .boot (by decide)) (k .aps (by decide))⟩
@[simp] theorem modBrx_fields (e : Eng) (n : ℕ) (f : BrxSt → BrxSt) (s : State) :
    (modBrx e n f s).pending = s.pending ∧ (modBrx e n f s).free = s.free ∧ (modBrx e n f s).status = s.status ∧ (modBrx e n f s).got = s.got ∧ (modBrx e n f s).pwr = s.pwr ∧ (modBrx e n f s).pins = s.pins ∧ (modBrx e n f s).clk = s.clk ∧ (modBrx e n f s).fuse = s.fuse ∧ (modBrx e n f s).flash = s.flash ∧ (modBrx e n f s).boot = s.boot ∧ (modBrx e n f s).regs = s.regs ∧ (modBrx e n f s).flags = s.flags ∧ (modBrx e n f s).rsc = s.rsc ∧ (modBrx e n f s).seenTurn = s.seenTurn ∧ (modBrx e n f s).seenSec = s.seenSec ∧ (modBrx e n f s).isls = s.isls ∧ (modBrx e n f s).aps = s.aps ∧ (modBrx e n f s).leaves = s.leaves ∧ (modBrx e n f s).ssets = s.ssets ∧ (modBrx e n f s).ctrs = s.ctrs ∧ (modBrx e n f s).flow = s.flow ∧ (modBrx e n f s).tod = s.tod ∧ (modBrx e n f s).cln = s.cln ∧ (modBrx e n f s).sec = s.sec ∧ (modBrx e n f s).mem = s.mem ∧ (modBrx e n f s).mgt = s.mgt ∧ (modBrx e n f s).upd = s.upd ∧ (modBrx e n f s).tally = s.tally ∧ (modBrx e n f s).bist = s.bist := by
  have k := keep_modBrx e n f s
  exact ⟨k .pending (by decide), k .free (by decide), k .status (by decide), k .got (by decide), k .pwr (by decide), k .pins (by decide), k .clk (by decide), k .fuse (by decide), k .flash (by decide), k .boot (by decide), k .regs (by decide), k .flags (by decide), k .rsc (by decide), k .seenTurn (by decide), k .seenSec (by decide), k .isls (by decide), k .aps (by decide), k .leaves (by decide), k .ssets (by decide), k .ctrs (by decide), k .flow (by decide), k .tod (by decide), k .cln (by decide), k .sec (by decide), k .mem (by decide), k .mgt (by decide), k .upd (by decide), k .tally (by decide), k .bist (by decide)⟩
@[simp] theorem modBrx_gets (e : Eng) (n : ℕ) (f : BrxSt → BrxSt) (s : State) :
    (∀ (y0 : Isl), getIsl (modBrx e n f s) y0 = getIsl s y0) ∧ (∀ (y0 : Isl), dpFence (modBrx e n f s) y0 = dpFence s y0) ∧ (∀ (y0 : Isl), islRuns (modBrx e n f s) y0 = islRuns s y0) ∧ (∀ (y0 : Isl), ctlRuns (modBrx e n f s) y0 = ctlRuns s y0) ∧ (∀ (y0 : Feed), getFeed (modBrx e n f s) y0 = getFeed s y0) ∧ (∀ (y0 : Eng) (y1 : Nat), getLeaf (modBrx e n f s) y0 y1 = getLeaf s y0 y1) ∧ (∀ (y0 : Eng) (y1 : Nat), getSset (modBrx e n f s) y0 y1 = getSset s y0 y1) ∧ (∀ (y0 : Eng) (y1 : Nat), getCtr (modBrx e n f s) y0 y1 = getCtr s y0 y1) ∧ (∀ (y0 : Eng), treeOf (modBrx e n f s) y0 = treeOf s y0) ∧ (∀ (y0 : Eng) (y1 : Nat), leafKey (modBrx e n f s) y0 y1 = leafKey s y0 y1) ∧ (∀ (y0 : Eng) (y1 : Nat), ssetKey (modBrx e n f s) y0 y1 = ssetKey s y0 y1) ∧ (∀ (y0 : Eng) (y1 : Nat), ctrKey (modBrx e n f s) y0 y1 = ctrKey s y0 y1) ∧ (∀ (y0 : Nat), getFlow (modBrx e n f s) y0 = getFlow s y0) ∧ (∀ (y0 : Nat), getPort (modBrx e n f s) y0 = getPort s y0) ∧ (∀ (y0 : Nat), getLane (modBrx e n f s) y0 = getLane s y0) ∧ (∀ (y0 : Nat), getSlot (modBrx e n f s) y0 = getSlot s y0) ∧ (∀ (y0 : Reg) (y1 : Eng) (y2 : Nat), getReg (modBrx e n f s) y0 y1 y2 = getReg s y0 y1 y2) ∧ (∀ (y0 : Reg) (y1 : Eng) (y2 : Nat) (y3 : Nat) (y4 : Nat), regF (modBrx e n f s) y0 y1 y2 y3 y4 = regF s y0 y1 y2 y3 y4) ∧ (∀ (y0 : Nat), chainMask (modBrx e n f s) y0 = chainMask s y0) ∧ (∀ (y0 : Nat), modeMask (modBrx e n f s) y0 = modeMask s y0) ∧ (∀ (y0 : Nat), getFlags (modBrx e n f s) y0 = getFlags s y0) ∧ powered (modBrx e n f s) = powered s ∧ alive (modBrx e n f s) = alive s ∧ inService (modBrx e n f s) = inService s ∧ now (modBrx e n f s) = now s ∧ lcState (modBrx e n f s) = lcState s ∧ (∀ (y0 : Eng), countsTree (modBrx e n f s) y0 = countsTree s y0) := by
  have k := keep_modBrx e n f s
  exact ⟨getIsl_congr (k .isls (by decide)), dpFence_congr (k .isls (by decide)), islRuns_congr (k .isls (by decide)), ctlRuns_congr (k .isls (by decide)), getFeed_congr (k .pwr (by decide)), getLeaf_congr (k .leaves (by decide)) (k .boot (by decide)), getSset_congr (k .ssets (by decide)) (k .boot (by decide)), getCtr_congr (k .ctrs (by decide)) (k .boot (by decide)), treeOf_congr (k .boot (by decide)), leafKey_congr (k .boot (by decide)), ssetKey_congr (k .boot (by decide)), ctrKey_congr (k .boot (by decide)), getFlow_congr (k .flow (by decide)), getPort_congr (k .cln (by decide)), getLane_congr (k .cln (by decide)), getSlot_congr (k .sec (by decide)), getReg_congr (k .regs (by decide)), regF_congr (k .regs (by decide)), chainMask_congr (k .tally (by decide)), modeMask_congr (k .tally (by decide)), getFlags_congr (k .flags (by decide)), powered_congr (k .pwr (by decide)), alive_congr (k .pwr (by decide)), inService_congr (k .pwr (by decide)) (k .bist (by decide)), now_congr (k .clk (by decide)), lcState_congr (k .fuse (by decide)), countsTree_congr (k .boot (by decide)) (k .aps (by decide))⟩
@[simp] theorem lineCounts_fields (s : State) :
    (lineCounts s).pending = s.pending ∧ (lineCounts s).status = s.status ∧ (lineCounts s).got = s.got ∧ (lineCounts s).pwr = s.pwr ∧ (lineCounts s).pins = s.pins ∧ (lineCounts s).clk = s.clk ∧ (lineCounts s).fuse = s.fuse ∧ (lineCounts s).flash = s.flash ∧ (lineCounts s).boot = s.boot ∧ (lineCounts s).regs = s.regs ∧ (lineCounts s).flags = s.flags ∧ (lineCounts s).rsc = s.rsc ∧ (lineCounts s).seenTurn = s.seenTurn ∧ (lineCounts s).seenSec = s.seenSec ∧ (lineCounts s).isls = s.isls ∧ (lineCounts s).engA = s.engA ∧ (lineCounts s).engB = s.engB ∧ (lineCounts s).aps = s.aps ∧ (lineCounts s).leaves = s.leaves ∧ (lineCounts s).ssets = s.ssets ∧ (lineCounts s).ctrs = s.ctrs ∧ (lineCounts s).flow = s.flow ∧ (lineCounts s).tod = s.tod ∧ (lineCounts s).sec = s.sec ∧ (lineCounts s).mem = s.mem ∧ (lineCounts s).mgt = s.mgt ∧ (lineCounts s).upd = s.upd ∧ (lineCounts s).bist = s.bist := by
  have k := keep_lineCounts s
  exact ⟨k .pending (by decide), k .status (by decide), k .got (by decide), k .pwr (by decide), k .pins (by decide), k .clk (by decide), k .fuse (by decide), k .flash (by decide), k .boot (by decide), k .regs (by decide), k .flags (by decide), k .rsc (by decide), k .seenTurn (by decide), k .seenSec (by decide), k .isls (by decide), k .engA (by decide), k .engB (by decide), k .aps (by decide), k .leaves (by decide), k .ssets (by decide), k .ctrs (by decide), k .flow (by decide), k .tod (by decide), k .sec (by decide), k .mem (by decide), k .mgt (by decide), k .upd (by decide), k .bist (by decide)⟩
@[simp] theorem lineCounts_gets (s : State) :
    (∀ (y0 : Isl), getIsl (lineCounts s) y0 = getIsl s y0) ∧ (∀ (y0 : Isl), dpFence (lineCounts s) y0 = dpFence s y0) ∧ (∀ (y0 : Isl), islRuns (lineCounts s) y0 = islRuns s y0) ∧ (∀ (y0 : Isl), ctlRuns (lineCounts s) y0 = ctlRuns s y0) ∧ (∀ (y0 : Feed), getFeed (lineCounts s) y0 = getFeed s y0) ∧ (∀ (y0 : Eng), getEng (lineCounts s) y0 = getEng s y0) ∧ (∀ (y0 : Eng) (y1 : Nat), getLeaf (lineCounts s) y0 y1 = getLeaf s y0 y1) ∧ (∀ (y0 : Eng) (y1 : Nat), getSset (lineCounts s) y0 y1 = getSset s y0 y1) ∧ (∀ (y0 : Eng) (y1 : Nat), getCtr (lineCounts s) y0 y1 = getCtr s y0 y1) ∧ (∀ (y0 : Eng) (y1 : Nat), getGrp (lineCounts s) y0 y1 = getGrp s y0 y1) ∧ (∀ (y0 : Eng) (y1 : Nat), getBrx (lineCounts s) y0 y1 = getBrx s y0 y1) ∧ (∀ (y0 : Eng), treeOf (lineCounts s) y0 = treeOf s y0) ∧ (∀ (y0 : Eng) (y1 : Nat), leafKey (lineCounts s) y0 y1 = leafKey s y0 y1) ∧ (∀ (y0 : Eng) (y1 : Nat), ssetKey (lineCounts s) y0 y1 = ssetKey s y0 y1) ∧ (∀ (y0 : Eng) (y1 : Nat), ctrKey (lineCounts s) y0 y1 = ctrKey s y0 y1) ∧ (∀ (y0 : Nat), getFlow (lineCounts s) y0 = getFlow s y0) ∧ (∀ (y0 : Nat), getSlot (lineCounts s) y0 = getSlot s y0) ∧ (∀ (y0 : Reg) (y1 : Eng) (y2 : Nat), getReg (lineCounts s) y0 y1 y2 = getReg s y0 y1 y2) ∧ (∀ (y0 : Reg) (y1 : Eng) (y2 : Nat) (y3 : Nat) (y4 : Nat), regF (lineCounts s) y0 y1 y2 y3 y4 = regF s y0 y1 y2 y3 y4) ∧ (∀ (y0 : Nat), getFlags (lineCounts s) y0 = getFlags s y0) ∧ powered (lineCounts s) = powered s ∧ alive (lineCounts s) = alive s ∧ inService (lineCounts s) = inService s ∧ now (lineCounts s) = now s ∧ lcState (lineCounts s) = lcState s ∧ (∀ (y0 : Eng), countsTree (lineCounts s) y0 = countsTree s y0) := by
  have k := keep_lineCounts s
  exact ⟨getIsl_congr (k .isls (by decide)), dpFence_congr (k .isls (by decide)), islRuns_congr (k .isls (by decide)), ctlRuns_congr (k .isls (by decide)), getFeed_congr (k .pwr (by decide)), getEng_congr (k .engA (by decide)) (k .engB (by decide)), getLeaf_congr (k .leaves (by decide)) (k .boot (by decide)), getSset_congr (k .ssets (by decide)) (k .boot (by decide)), getCtr_congr (k .ctrs (by decide)) (k .boot (by decide)), getGrp_congr (k .engA (by decide)) (k .engB (by decide)), getBrx_congr (k .engA (by decide)) (k .engB (by decide)), treeOf_congr (k .boot (by decide)), leafKey_congr (k .boot (by decide)), ssetKey_congr (k .boot (by decide)), ctrKey_congr (k .boot (by decide)), getFlow_congr (k .flow (by decide)), getSlot_congr (k .sec (by decide)), getReg_congr (k .regs (by decide)), regF_congr (k .regs (by decide)), getFlags_congr (k .flags (by decide)), powered_congr (k .pwr (by decide)), alive_congr (k .pwr (by decide)), inService_congr (k .pwr (by decide)) (k .bist (by decide)), now_congr (k .clk (by decide)), lcState_congr (k .fuse (by decide)), countsTree_congr (k .boot (by decide)) (k .aps (by decide))⟩
@[simp] theorem remark_fields (s : State) :
    (remark s).pending = s.pending ∧ (remark s).free = s.free ∧ (remark s).status = s.status ∧ (remark s).got = s.got ∧ (remark s).pwr = s.pwr ∧ (remark s).pins = s.pins ∧ (remark s).clk = s.clk ∧ (remark s).fuse = s.fuse ∧ (remark s).flash = s.flash ∧ (remark s).boot = s.boot ∧ (remark s).regs = s.regs ∧ (remark s).flags = s.flags ∧ (remark s).rsc = s.rsc ∧ (remark s).seenTurn = s.seenTurn ∧ (remark s).seenSec = s.seenSec ∧ (remark s).isls = s.isls ∧ (remark s).engA = s.engA ∧ (remark s).engB = s.engB ∧ (remark s).aps = s.aps ∧ (remark s).leaves = s.leaves ∧ (remark s).ssets = s.ssets ∧ (remark s).ctrs = s.ctrs ∧ (remark s).flow = s.flow ∧ (remark s).tod = s.tod ∧ (remark s).cln = s.cln ∧ (remark s).sec = s.sec ∧ (remark s).mem = s.mem ∧ (remark s).mgt = s.mgt ∧ (remark s).upd = s.upd ∧ (remark s).bist = s.bist := by
  have k := keep_remark s
  exact ⟨k .pending (by decide), k .free (by decide), k .status (by decide), k .got (by decide), k .pwr (by decide), k .pins (by decide), k .clk (by decide), k .fuse (by decide), k .flash (by decide), k .boot (by decide), k .regs (by decide), k .flags (by decide), k .rsc (by decide), k .seenTurn (by decide), k .seenSec (by decide), k .isls (by decide), k .engA (by decide), k .engB (by decide), k .aps (by decide), k .leaves (by decide), k .ssets (by decide), k .ctrs (by decide), k .flow (by decide), k .tod (by decide), k .cln (by decide), k .sec (by decide), k .mem (by decide), k .mgt (by decide), k .upd (by decide), k .bist (by decide)⟩
@[simp] theorem remark_gets (s : State) :
    (∀ (y0 : Isl), getIsl (remark s) y0 = getIsl s y0) ∧ (∀ (y0 : Isl), dpFence (remark s) y0 = dpFence s y0) ∧ (∀ (y0 : Isl), islRuns (remark s) y0 = islRuns s y0) ∧ (∀ (y0 : Isl), ctlRuns (remark s) y0 = ctlRuns s y0) ∧ (∀ (y0 : Feed), getFeed (remark s) y0 = getFeed s y0) ∧ (∀ (y0 : Eng), getEng (remark s) y0 = getEng s y0) ∧ (∀ (y0 : Eng) (y1 : Nat), getLeaf (remark s) y0 y1 = getLeaf s y0 y1) ∧ (∀ (y0 : Eng) (y1 : Nat), getSset (remark s) y0 y1 = getSset s y0 y1) ∧ (∀ (y0 : Eng) (y1 : Nat), getCtr (remark s) y0 y1 = getCtr s y0 y1) ∧ (∀ (y0 : Eng) (y1 : Nat), getGrp (remark s) y0 y1 = getGrp s y0 y1) ∧ (∀ (y0 : Eng) (y1 : Nat), getBrx (remark s) y0 y1 = getBrx s y0 y1) ∧ (∀ (y0 : Eng), treeOf (remark s) y0 = treeOf s y0) ∧ (∀ (y0 : Eng) (y1 : Nat), leafKey (remark s) y0 y1 = leafKey s y0 y1) ∧ (∀ (y0 : Eng) (y1 : Nat), ssetKey (remark s) y0 y1 = ssetKey s y0 y1) ∧ (∀ (y0 : Eng) (y1 : Nat), ctrKey (remark s) y0 y1 = ctrKey s y0 y1) ∧ (∀ (y0 : Nat), getFlow (remark s) y0 = getFlow s y0) ∧ (∀ (y0 : Nat), getPort (remark s) y0 = getPort s y0) ∧ (∀ (y0 : Nat), getLane (remark s) y0 = getLane s y0) ∧ (∀ (y0 : Nat), getSlot (remark s) y0 = getSlot s y0) ∧ (∀ (y0 : Reg) (y1 : Eng) (y2 : Nat), getReg (remark s) y0 y1 y2 = getReg s y0 y1 y2) ∧ (∀ (y0 : Reg) (y1 : Eng) (y2 : Nat) (y3 : Nat) (y4 : Nat), regF (remark s) y0 y1 y2 y3 y4 = regF s y0 y1 y2 y3 y4) ∧ (∀ (y0 : Nat), getFlags (remark s) y0 = getFlags s y0) ∧ powered (remark s) = powered s ∧ alive (remark s) = alive s ∧ inService (remark s) = inService s ∧ now (remark s) = now s ∧ lcState (remark s) = lcState s ∧ (∀ (y0 : Eng), countsTree (remark s) y0 = countsTree s y0) := by
  have k := keep_remark s
  exact ⟨getIsl_congr (k .isls (by decide)), dpFence_congr (k .isls (by decide)), islRuns_congr (k .isls (by decide)), ctlRuns_congr (k .isls (by decide)), getFeed_congr (k .pwr (by decide)), getEng_congr (k .engA (by decide)) (k .engB (by decide)), getLeaf_congr (k .leaves (by decide)) (k .boot (by decide)), getSset_congr (k .ssets (by decide)) (k .boot (by decide)), getCtr_congr (k .ctrs (by decide)) (k .boot (by decide)), getGrp_congr (k .engA (by decide)) (k .engB (by decide)), getBrx_congr (k .engA (by decide)) (k .engB (by decide)), treeOf_congr (k .boot (by decide)), leafKey_congr (k .boot (by decide)), ssetKey_congr (k .boot (by decide)), ctrKey_congr (k .boot (by decide)), getFlow_congr (k .flow (by decide)), getPort_congr (k .cln (by decide)), getLane_congr (k .cln (by decide)), getSlot_congr (k .sec (by decide)), getReg_congr (k .regs (by decide)), regF_congr (k .regs (by decide)), getFlags_congr (k .flags (by decide)), powered_congr (k .pwr (by decide)), alive_congr (k .pwr (by decide)), inService_congr (k .pwr (by decide)) (k .bist (by decide)), now_congr (k .clk (by decide)), lcState_congr (k .fuse (by decide)), countsTree_congr (k .boot (by decide)) (k .aps (by decide))⟩
@[simp] theorem latch_fields (sec : ℕ) (step : Bool) (s : State) :
    (latch sec step s).pending = s.pending ∧ (latch sec step s).status = s.status ∧ (latch sec step s).got = s.got ∧ (latch sec step s).pwr = s.pwr ∧ (latch sec step s).pins = s.pins ∧ (latch sec step s).clk = s.clk ∧ (latch sec step s).fuse = s.fuse ∧ (latch sec step s).flash = s.flash ∧ (latch sec step s).boot = s.boot ∧ (latch sec step s).regs = s.regs ∧ (latch sec step s).seenTurn = s.seenTurn ∧ (latch sec step s).seenSec = s.seenSec ∧ (latch sec step s).isls = s.isls ∧ (latch sec step s).engA = s.engA ∧ (latch sec step s).engB = s.engB ∧ (latch sec step s).aps = s.aps ∧ (latch sec step s).leaves = s.leaves ∧ (latch sec step s).ssets = s.ssets ∧ (latch sec step s).ctrs = s.ctrs ∧ (latch sec step s).flow = s.flow ∧ (latch sec step s).tod = s.tod ∧ (latch sec step s).sec = s.sec ∧ (latch sec step s).mem = s.mem ∧ (latch sec step s).mgt = s.mgt ∧ (latch sec step s).upd = s.upd ∧ (latch sec step s).bist = s.bist := by
  have k := keep_latch sec step s
  exact ⟨k .pending (by decide), k .status (by decide), k .got (by decide), k .pwr (by decide), k .pins (by decide), k .clk (by decide), k .fuse (by decide), k .flash (by decide), k .boot (by decide), k .regs (by decide), k .seenTurn (by decide), k .seenSec (by decide), k .isls (by decide), k .engA (by decide), k .engB (by decide), k .aps (by decide), k .leaves (by decide), k .ssets (by decide), k .ctrs (by decide), k .flow (by decide), k .tod (by decide), k .sec (by decide), k .mem (by decide), k .mgt (by decide), k .upd (by decide), k .bist (by decide)⟩
@[simp] theorem latch_gets (sec : ℕ) (step : Bool) (s : State) :
    (∀ (y0 : Isl), getIsl (latch sec step s) y0 = getIsl s y0) ∧ (∀ (y0 : Isl), dpFence (latch sec step s) y0 = dpFence s y0) ∧ (∀ (y0 : Isl), islRuns (latch sec step s) y0 = islRuns s y0) ∧ (∀ (y0 : Isl), ctlRuns (latch sec step s) y0 = ctlRuns s y0) ∧ (∀ (y0 : Feed), getFeed (latch sec step s) y0 = getFeed s y0) ∧ (∀ (y0 : Eng), getEng (latch sec step s) y0 = getEng s y0) ∧ (∀ (y0 : Eng) (y1 : Nat), getLeaf (latch sec step s) y0 y1 = getLeaf s y0 y1) ∧ (∀ (y0 : Eng) (y1 : Nat), getSset (latch sec step s) y0 y1 = getSset s y0 y1) ∧ (∀ (y0 : Eng) (y1 : Nat), getCtr (latch sec step s) y0 y1 = getCtr s y0 y1) ∧ (∀ (y0 : Eng) (y1 : Nat), getGrp (latch sec step s) y0 y1 = getGrp s y0 y1) ∧ (∀ (y0 : Eng) (y1 : Nat), getBrx (latch sec step s) y0 y1 = getBrx s y0 y1) ∧ (∀ (y0 : Eng), treeOf (latch sec step s) y0 = treeOf s y0) ∧ (∀ (y0 : Eng) (y1 : Nat), leafKey (latch sec step s) y0 y1 = leafKey s y0 y1) ∧ (∀ (y0 : Eng) (y1 : Nat), ssetKey (latch sec step s) y0 y1 = ssetKey s y0 y1) ∧ (∀ (y0 : Eng) (y1 : Nat), ctrKey (latch sec step s) y0 y1 = ctrKey s y0 y1) ∧ (∀ (y0 : Nat), getFlow (latch sec step s) y0 = getFlow s y0) ∧ (∀ (y0 : Nat), getSlot (latch sec step s) y0 = getSlot s y0) ∧ (∀ (y0 : Reg) (y1 : Eng) (y2 : Nat), getReg (latch sec step s) y0 y1 y2 = getReg s y0 y1 y2) ∧ (∀ (y0 : Reg) (y1 : Eng) (y2 : Nat) (y3 : Nat) (y4 : Nat), regF (latch sec step s) y0 y1 y2 y3 y4 = regF s y0 y1 y2 y3 y4) ∧ powered (latch sec step s) = powered s ∧ alive (latch sec step s) = alive s ∧ inService (latch sec step s) = inService s ∧ now (latch sec step s) = now s ∧ lcState (latch sec step s) = lcState s ∧ (∀ (y0 : Eng), countsTree (latch sec step s) y0 = countsTree s y0) := by
  have k := keep_latch sec step s
  exact ⟨getIsl_congr (k .isls (by decide)), dpFence_congr (k .isls (by decide)), islRuns_congr (k .isls (by decide)), ctlRuns_congr (k .isls (by decide)), getFeed_congr (k .pwr (by decide)), getEng_congr (k .engA (by decide)) (k .engB (by decide)), getLeaf_congr (k .leaves (by decide)) (k .boot (by decide)), getSset_congr (k .ssets (by decide)) (k .boot (by decide)), getCtr_congr (k .ctrs (by decide)) (k .boot (by decide)), getGrp_congr (k .engA (by decide)) (k .engB (by decide)), getBrx_congr (k .engA (by decide)) (k .engB (by decide)), treeOf_congr (k .boot (by decide)), leafKey_congr (k .boot (by decide)), ssetKey_congr (k .boot (by decide)), ctrKey_congr (k .boot (by decide)), getFlow_congr (k .flow (by decide)), getSlot_congr (k .sec (by decide)), getReg_congr (k .regs (by decide)), regF_congr (k .regs (by decide)), powered_congr (k .pwr (by decide)), alive_congr (k .pwr (by decide)), inService_congr (k .pwr (by decide)) (k .bist (by decide)), now_congr (k .clk (by decide)), lcState_congr (k .fuse (by decide)), countsTree_congr (k .boot (by decide)) (k .aps (by decide))⟩
@[simp] theorem latchMiss_fields (s : State) :
    (latchMiss s).pending = s.pending ∧ (latchMiss s).free = s.free ∧ (latchMiss s).status = s.status ∧ (latchMiss s).got = s.got ∧ (latchMiss s).pwr = s.pwr ∧ (latchMiss s).pins = s.pins ∧ (latchMiss s).clk = s.clk ∧ (latchMiss s).fuse = s.fuse ∧ (latchMiss s).flash = s.flash ∧ (latchMiss s).boot = s.boot ∧ (latchMiss s).regs = s.regs ∧ (latchMiss s).flags = s.flags ∧ (latchMiss s).rsc = s.rsc ∧ (latchMiss s).seenTurn = s.seenTurn ∧ (latchMiss s).seenSec = s.seenSec ∧ (latchMiss s).isls = s.isls ∧ (latchMiss s).engA = s.engA ∧ (latchMiss s).engB = s.engB ∧ (latchMiss s).aps = s.aps ∧ (latchMiss s).leaves = s.leaves ∧ (latchMiss s).ssets = s.ssets ∧ (latchMiss s).ctrs = s.ctrs ∧ (latchMiss s).tod = s.tod ∧ (latchMiss s).cln = s.cln ∧ (latchMiss s).sec = s.sec ∧ (latchMiss s).mem = s.mem ∧ (latchMiss s).mgt = s.mgt ∧ (latchMiss s).upd = s.upd ∧ (latchMiss s).tally = s.tally ∧ (latchMiss s).bist = s.bist := by
  have k := keep_latchMiss s
  exact ⟨k .pending (by decide), k .free (by decide), k .status (by decide), k .got (by decide), k .pwr (by decide), k .pins (by decide), k .clk (by decide), k .fuse (by decide), k .flash (by decide), k .boot (by decide), k .regs (by decide), k .flags (by decide), k .rsc (by decide), k .seenTurn (by decide), k .seenSec (by decide), k .isls (by decide), k .engA (by decide), k .engB (by decide), k .aps (by decide), k .leaves (by decide), k .ssets (by decide), k .ctrs (by decide), k .tod (by decide), k .cln (by decide), k .sec (by decide), k .mem (by decide), k .mgt (by decide), k .upd (by decide), k .tally (by decide), k .bist (by decide)⟩
@[simp] theorem latchMiss_gets (s : State) :
    (∀ (y0 : Isl), getIsl (latchMiss s) y0 = getIsl s y0) ∧ (∀ (y0 : Isl), dpFence (latchMiss s) y0 = dpFence s y0) ∧ (∀ (y0 : Isl), islRuns (latchMiss s) y0 = islRuns s y0) ∧ (∀ (y0 : Isl), ctlRuns (latchMiss s) y0 = ctlRuns s y0) ∧ (∀ (y0 : Feed), getFeed (latchMiss s) y0 = getFeed s y0) ∧ (∀ (y0 : Eng), getEng (latchMiss s) y0 = getEng s y0) ∧ (∀ (y0 : Eng) (y1 : Nat), getLeaf (latchMiss s) y0 y1 = getLeaf s y0 y1) ∧ (∀ (y0 : Eng) (y1 : Nat), getSset (latchMiss s) y0 y1 = getSset s y0 y1) ∧ (∀ (y0 : Eng) (y1 : Nat), getCtr (latchMiss s) y0 y1 = getCtr s y0 y1) ∧ (∀ (y0 : Eng) (y1 : Nat), getGrp (latchMiss s) y0 y1 = getGrp s y0 y1) ∧ (∀ (y0 : Eng) (y1 : Nat), getBrx (latchMiss s) y0 y1 = getBrx s y0 y1) ∧ (∀ (y0 : Eng), treeOf (latchMiss s) y0 = treeOf s y0) ∧ (∀ (y0 : Eng) (y1 : Nat), leafKey (latchMiss s) y0 y1 = leafKey s y0 y1) ∧ (∀ (y0 : Eng) (y1 : Nat), ssetKey (latchMiss s) y0 y1 = ssetKey s y0 y1) ∧ (∀ (y0 : Eng) (y1 : Nat), ctrKey (latchMiss s) y0 y1 = ctrKey s y0 y1) ∧ (∀ (y0 : Nat), getPort (latchMiss s) y0 = getPort s y0) ∧ (∀ (y0 : Nat), getLane (latchMiss s) y0 = getLane s y0) ∧ (∀ (y0 : Nat), getSlot (latchMiss s) y0 = getSlot s y0) ∧ (∀ (y0 : Reg) (y1 : Eng) (y2 : Nat), getReg (latchMiss s) y0 y1 y2 = getReg s y0 y1 y2) ∧ (∀ (y0 : Reg) (y1 : Eng) (y2 : Nat) (y3 : Nat) (y4 : Nat), regF (latchMiss s) y0 y1 y2 y3 y4 = regF s y0 y1 y2 y3 y4) ∧ (∀ (y0 : Nat), chainMask (latchMiss s) y0 = chainMask s y0) ∧ (∀ (y0 : Nat), modeMask (latchMiss s) y0 = modeMask s y0) ∧ (∀ (y0 : Nat), getFlags (latchMiss s) y0 = getFlags s y0) ∧ powered (latchMiss s) = powered s ∧ alive (latchMiss s) = alive s ∧ inService (latchMiss s) = inService s ∧ now (latchMiss s) = now s ∧ lcState (latchMiss s) = lcState s ∧ (∀ (y0 : Eng), countsTree (latchMiss s) y0 = countsTree s y0) := by
  have k := keep_latchMiss s
  exact ⟨getIsl_congr (k .isls (by decide)), dpFence_congr (k .isls (by decide)), islRuns_congr (k .isls (by decide)), ctlRuns_congr (k .isls (by decide)), getFeed_congr (k .pwr (by decide)), getEng_congr (k .engA (by decide)) (k .engB (by decide)), getLeaf_congr (k .leaves (by decide)) (k .boot (by decide)), getSset_congr (k .ssets (by decide)) (k .boot (by decide)), getCtr_congr (k .ctrs (by decide)) (k .boot (by decide)), getGrp_congr (k .engA (by decide)) (k .engB (by decide)), getBrx_congr (k .engA (by decide)) (k .engB (by decide)), treeOf_congr (k .boot (by decide)), leafKey_congr (k .boot (by decide)), ssetKey_congr (k .boot (by decide)), ctrKey_congr (k .boot (by decide)), getPort_congr (k .cln (by decide)), getLane_congr (k .cln (by decide)), getSlot_congr (k .sec (by decide)), getReg_congr (k .regs (by decide)), regF_congr (k .regs (by decide)), chainMask_congr (k .tally (by decide)), modeMask_congr (k .tally (by decide)), getFlags_congr (k .flags (by decide)), powered_congr (k .pwr (by decide)), alive_congr (k .pwr (by decide)), inService_congr (k .pwr (by decide)) (k .bist (by decide)), now_congr (k .clk (by decide)), lcState_congr (k .fuse (by decide)), countsTree_congr (k .boot (by decide)) (k .aps (by decide))⟩
@[simp] theorem reportLost_fields (s : State) :
    (reportLost s).pending = s.pending ∧ (reportLost s).free = s.free ∧ (reportLost s).status = s.status ∧ (reportLost s).got = s.got ∧ (reportLost s).pwr = s.pwr ∧ (reportLost s).pins = s.pins ∧ (reportLost s).clk = s.clk ∧ (reportLost s).fuse = s.fuse ∧ (reportLost s).flash = s.flash ∧ (reportLost s).boot = s.boot ∧ (reportLost s).regs = s.regs ∧ (reportLost s).seenTurn = s.seenTurn ∧ (reportLost s).seenSec = s.seenSec ∧ (reportLost s).engA = s.engA ∧ (reportLost s).engB = s.engB ∧ (reportLost s).aps = s.aps ∧ (reportLost s).leaves = s.leaves ∧ (reportLost s).ssets = s.ssets ∧ (reportLost s).ctrs = s.ctrs ∧ (reportLost s).flow = s.flow ∧ (reportLost s).tod = s.tod ∧ (reportLost s).cln = s.cln ∧ (reportLost s).sec = s.sec ∧ (reportLost s).mem = s.mem ∧ (reportLost s).mgt = s.mgt ∧ (reportLost s).upd = s.upd ∧ (reportLost s).tally = s.tally ∧ (reportLost s).bist = s.bist := by
  have k := keep_reportLost s
  exact ⟨k .pending (by decide), k .free (by decide), k .status (by decide), k .got (by decide), k .pwr (by decide), k .pins (by decide), k .clk (by decide), k .fuse (by decide), k .flash (by decide), k .boot (by decide), k .regs (by decide), k .seenTurn (by decide), k .seenSec (by decide), k .engA (by decide), k .engB (by decide), k .aps (by decide), k .leaves (by decide), k .ssets (by decide), k .ctrs (by decide), k .flow (by decide), k .tod (by decide), k .cln (by decide), k .sec (by decide), k .mem (by decide), k .mgt (by decide), k .upd (by decide), k .tally (by decide), k .bist (by decide)⟩
@[simp] theorem reportLost_gets (s : State) :
    (∀ (y0 : Feed), getFeed (reportLost s) y0 = getFeed s y0) ∧ (∀ (y0 : Eng), getEng (reportLost s) y0 = getEng s y0) ∧ (∀ (y0 : Eng) (y1 : Nat), getLeaf (reportLost s) y0 y1 = getLeaf s y0 y1) ∧ (∀ (y0 : Eng) (y1 : Nat), getSset (reportLost s) y0 y1 = getSset s y0 y1) ∧ (∀ (y0 : Eng) (y1 : Nat), getCtr (reportLost s) y0 y1 = getCtr s y0 y1) ∧ (∀ (y0 : Eng) (y1 : Nat), getGrp (reportLost s) y0 y1 = getGrp s y0 y1) ∧ (∀ (y0 : Eng) (y1 : Nat), getBrx (reportLost s) y0 y1 = getBrx s y0 y1) ∧ (∀ (y0 : Eng), treeOf (reportLost s) y0 = treeOf s y0) ∧ (∀ (y0 : Eng) (y1 : Nat), leafKey (reportLost s) y0 y1 = leafKey s y0 y1) ∧ (∀ (y0 : Eng) (y1 : Nat), ssetKey (reportLost s) y0 y1 = ssetKey s y0 y1) ∧ (∀ (y0 : Eng) (y1 : Nat), ctrKey (reportLost s) y0 y1 = ctrKey s y0 y1) ∧ (∀ (y0 : Nat), getFlow (reportLost s) y0 = getFlow s y0) ∧ (∀ (y0 : Nat), getPort (reportLost s) y0 = getPort s y0) ∧ (∀ (y0 : Nat), getLane (reportLost s) y0 = getLane s y0) ∧ (∀ (y0 : Nat), getSlot (reportLost s) y0 = getSlot s y0) ∧ (∀ (y0 : Reg) (y1 : Eng) (y2 : Nat), getReg (reportLost s) y0 y1 y2 = getReg s y0 y1 y2) ∧ (∀ (y0 : Reg) (y1 : Eng) (y2 : Nat) (y3 : Nat) (y4 : Nat), regF (reportLost s) y0 y1 y2 y3 y4 = regF s y0 y1 y2 y3 y4) ∧ (∀ (y0 : Nat), chainMask (reportLost s) y0 = chainMask s y0) ∧ (∀ (y0 : Nat), modeMask (reportLost s) y0 = modeMask s y0) ∧ powered (reportLost s) = powered s ∧ alive (reportLost s) = alive s ∧ inService (reportLost s) = inService s ∧ now (reportLost s) = now s ∧ lcState (reportLost s) = lcState s ∧ (∀ (y0 : Eng), countsTree (reportLost s) y0 = countsTree s y0) := by
  have k := keep_reportLost s
  exact ⟨getFeed_congr (k .pwr (by decide)), getEng_congr (k .engA (by decide)) (k .engB (by decide)), getLeaf_congr (k .leaves (by decide)) (k .boot (by decide)), getSset_congr (k .ssets (by decide)) (k .boot (by decide)), getCtr_congr (k .ctrs (by decide)) (k .boot (by decide)), getGrp_congr (k .engA (by decide)) (k .engB (by decide)), getBrx_congr (k .engA (by decide)) (k .engB (by decide)), treeOf_congr (k .boot (by decide)), leafKey_congr (k .boot (by decide)), ssetKey_congr (k .boot (by decide)), ctrKey_congr (k .boot (by decide)), getFlow_congr (k .flow (by decide)), getPort_congr (k .cln (by decide)), getLane_congr (k .cln (by decide)), getSlot_congr (k .sec (by decide)), getReg_congr (k .regs (by decide)), regF_congr (k .regs (by decide)), chainMask_congr (k .tally (by decide)), modeMask_congr (k .tally (by decide)), powered_congr (k .pwr (by decide)), alive_congr (k .pwr (by decide)), inService_congr (k .pwr (by decide)) (k .bist (by decide)), now_congr (k .clk (by decide)), lcState_congr (k .fuse (by decide)), countsTree_congr (k .boot (by decide)) (k .aps (by decide))⟩
@[simp] theorem levelMicros_fields (s : State) :
    (levelMicros s).pending = s.pending ∧ (levelMicros s).free = s.free ∧ (levelMicros s).status = s.status ∧ (levelMicros s).got = s.got ∧ (levelMicros s).pwr = s.pwr ∧ (levelMicros s).pins = s.pins ∧ (levelMicros s).clk = s.clk ∧ (levelMicros s).fuse = s.fuse ∧ (levelMicros s).flash = s.flash ∧ (levelMicros s).boot = s.boot ∧ (levelMicros s).regs = s.regs ∧ (levelMicros s).flags = s.flags ∧ (levelMicros s).rsc = s.rsc ∧ (levelMicros s).seenTurn = s.seenTurn ∧ (levelMicros s).seenSec = s.seenSec ∧ (levelMicros s).isls = s.isls ∧ (levelMicros s).engA = s.engA ∧ (levelMicros s).engB = s.engB ∧ (levelMicros s).aps = s.aps ∧ (levelMicros s).leaves = s.leaves ∧ (levelMicros s).ssets = s.ssets ∧ (levelMicros s).ctrs = s.ctrs ∧ (levelMicros s).flow = s.flow ∧ (levelMicros s).tod = s.tod ∧ (levelMicros s).cln = s.cln ∧ (levelMicros s).sec = s.sec ∧ (levelMicros s).mem = s.mem ∧ (levelMicros s).mgt = s.mgt ∧ (levelMicros s).upd = s.upd ∧ (levelMicros s).bist = s.bist := by
  have k := keep_levelMicros s
  exact ⟨k .pending (by decide), k .free (by decide), k .status (by decide), k .got (by decide), k .pwr (by decide), k .pins (by decide), k .clk (by decide), k .fuse (by decide), k .flash (by decide), k .boot (by decide), k .regs (by decide), k .flags (by decide), k .rsc (by decide), k .seenTurn (by decide), k .seenSec (by decide), k .isls (by decide), k .engA (by decide), k .engB (by decide), k .aps (by decide), k .leaves (by decide), k .ssets (by decide), k .ctrs (by decide), k .flow (by decide), k .tod (by decide), k .cln (by decide), k .sec (by decide), k .mem (by decide), k .mgt (by decide), k .upd (by decide), k .bist (by decide)⟩
@[simp] theorem levelMicros_gets (s : State) :
    (∀ (y0 : Isl), getIsl (levelMicros s) y0 = getIsl s y0) ∧ (∀ (y0 : Isl), dpFence (levelMicros s) y0 = dpFence s y0) ∧ (∀ (y0 : Isl), islRuns (levelMicros s) y0 = islRuns s y0) ∧ (∀ (y0 : Isl), ctlRuns (levelMicros s) y0 = ctlRuns s y0) ∧ (∀ (y0 : Feed), getFeed (levelMicros s) y0 = getFeed s y0) ∧ (∀ (y0 : Eng), getEng (levelMicros s) y0 = getEng s y0) ∧ (∀ (y0 : Eng) (y1 : Nat), getLeaf (levelMicros s) y0 y1 = getLeaf s y0 y1) ∧ (∀ (y0 : Eng) (y1 : Nat), getSset (levelMicros s) y0 y1 = getSset s y0 y1) ∧ (∀ (y0 : Eng) (y1 : Nat), getCtr (levelMicros s) y0 y1 = getCtr s y0 y1) ∧ (∀ (y0 : Eng) (y1 : Nat), getGrp (levelMicros s) y0 y1 = getGrp s y0 y1) ∧ (∀ (y0 : Eng) (y1 : Nat), getBrx (levelMicros s) y0 y1 = getBrx s y0 y1) ∧ (∀ (y0 : Eng), treeOf (levelMicros s) y0 = treeOf s y0) ∧ (∀ (y0 : Eng) (y1 : Nat), leafKey (levelMicros s) y0 y1 = leafKey s y0 y1) ∧ (∀ (y0 : Eng) (y1 : Nat), ssetKey (levelMicros s) y0 y1 = ssetKey s y0 y1) ∧ (∀ (y0 : Eng) (y1 : Nat), ctrKey (levelMicros s) y0 y1 = ctrKey s y0 y1) ∧ (∀ (y0 : Nat), getFlow (levelMicros s) y0 = getFlow s y0) ∧ (∀ (y0 : Nat), getPort (levelMicros s) y0 = getPort s y0) ∧ (∀ (y0 : Nat), getLane (levelMicros s) y0 = getLane s y0) ∧ (∀ (y0 : Nat), getSlot (levelMicros s) y0 = getSlot s y0) ∧ (∀ (y0 : Reg) (y1 : Eng) (y2 : Nat), getReg (levelMicros s) y0 y1 y2 = getReg s y0 y1 y2) ∧ (∀ (y0 : Reg) (y1 : Eng) (y2 : Nat) (y3 : Nat) (y4 : Nat), regF (levelMicros s) y0 y1 y2 y3 y4 = regF s y0 y1 y2 y3 y4) ∧ (∀ (y0 : Nat), getFlags (levelMicros s) y0 = getFlags s y0) ∧ powered (levelMicros s) = powered s ∧ alive (levelMicros s) = alive s ∧ inService (levelMicros s) = inService s ∧ now (levelMicros s) = now s ∧ lcState (levelMicros s) = lcState s ∧ (∀ (y0 : Eng), countsTree (levelMicros s) y0 = countsTree s y0) := by
  have k := keep_levelMicros s
  exact ⟨getIsl_congr (k .isls (by decide)), dpFence_congr (k .isls (by decide)), islRuns_congr (k .isls (by decide)), ctlRuns_congr (k .isls (by decide)), getFeed_congr (k .pwr (by decide)), getEng_congr (k .engA (by decide)) (k .engB (by decide)), getLeaf_congr (k .leaves (by decide)) (k .boot (by decide)), getSset_congr (k .ssets (by decide)) (k .boot (by decide)), getCtr_congr (k .ctrs (by decide)) (k .boot (by decide)), getGrp_congr (k .engA (by decide)) (k .engB (by decide)), getBrx_congr (k .engA (by decide)) (k .engB (by decide)), treeOf_congr (k .boot (by decide)), leafKey_congr (k .boot (by decide)), ssetKey_congr (k .boot (by decide)), ctrKey_congr (k .boot (by decide)), getFlow_congr (k .flow (by decide)), getPort_congr (k .cln (by decide)), getLane_congr (k .cln (by decide)), getSlot_congr (k .sec (by decide)), getReg_congr (k .regs (by decide)), regF_congr (k .regs (by decide)), getFlags_congr (k .flags (by decide)), powered_congr (k .pwr (by decide)), alive_congr (k .pwr (by decide)), inService_congr (k .pwr (by decide)) (k .bist (by decide)), now_congr (k .clk (by decide)), lcState_congr (k .fuse (by decide)), countsTree_congr (k .boot (by decide)) (k .aps (by decide))⟩
@[simp] theorem tick_fields (s : State) :
    (tick s).pending = s.pending ∧ (tick s).free = s.free ∧ (tick s).status = s.status ∧ (tick s).got = s.got ∧ (tick s).pwr = s.pwr ∧ (tick s).pins = s.pins ∧ (tick s).fuse = s.fuse ∧ (tick s).flash = s.flash ∧ (tick s).boot = s.boot ∧ (tick s).regs = s.regs ∧ (tick s).flags = s.flags ∧ (tick s).rsc = s.rsc ∧ (tick s).seenTurn = s.seenTurn ∧ (tick s).seenSec = s.seenSec ∧ (tick s).isls = s.isls ∧ (tick s).engA = s.engA ∧ (tick s).engB = s.engB ∧ (tick s).aps = s.aps ∧ (tick s).leaves = s.leaves ∧ (tick s).ssets = s.ssets ∧ (tick s).ctrs = s.ctrs ∧ (tick s).tod = s.tod ∧ (tick s).cln = s.cln ∧ (tick s).sec = s.sec ∧ (tick s).mem = s.mem ∧ (tick s).mgt = s.mgt ∧ (tick s).upd = s.upd ∧ (tick s).bist = s.bist := by
  have k := keep_tick s
  exact ⟨k .pending (by decide), k .free (by decide), k .status (by decide), k .got (by decide), k .pwr (by decide), k .pins (by decide), k .fuse (by decide), k .flash (by decide), k .boot (by decide), k .regs (by decide), k .flags (by decide), k .rsc (by decide), k .seenTurn (by decide), k .seenSec (by decide), k .isls (by decide), k .engA (by decide), k .engB (by decide), k .aps (by decide), k .leaves (by decide), k .ssets (by decide), k .ctrs (by decide), k .tod (by decide), k .cln (by decide), k .sec (by decide), k .mem (by decide), k .mgt (by decide), k .upd (by decide), k .bist (by decide)⟩
@[simp] theorem tick_gets (s : State) :
    (∀ (y0 : Isl), getIsl (tick s) y0 = getIsl s y0) ∧ (∀ (y0 : Isl), dpFence (tick s) y0 = dpFence s y0) ∧ (∀ (y0 : Isl), islRuns (tick s) y0 = islRuns s y0) ∧ (∀ (y0 : Isl), ctlRuns (tick s) y0 = ctlRuns s y0) ∧ (∀ (y0 : Feed), getFeed (tick s) y0 = getFeed s y0) ∧ (∀ (y0 : Eng), getEng (tick s) y0 = getEng s y0) ∧ (∀ (y0 : Eng) (y1 : Nat), getLeaf (tick s) y0 y1 = getLeaf s y0 y1) ∧ (∀ (y0 : Eng) (y1 : Nat), getSset (tick s) y0 y1 = getSset s y0 y1) ∧ (∀ (y0 : Eng) (y1 : Nat), getCtr (tick s) y0 y1 = getCtr s y0 y1) ∧ (∀ (y0 : Eng) (y1 : Nat), getGrp (tick s) y0 y1 = getGrp s y0 y1) ∧ (∀ (y0 : Eng) (y1 : Nat), getBrx (tick s) y0 y1 = getBrx s y0 y1) ∧ (∀ (y0 : Eng), treeOf (tick s) y0 = treeOf s y0) ∧ (∀ (y0 : Eng) (y1 : Nat), leafKey (tick s) y0 y1 = leafKey s y0 y1) ∧ (∀ (y0 : Eng) (y1 : Nat), ssetKey (tick s) y0 y1 = ssetKey s y0 y1) ∧ (∀ (y0 : Eng) (y1 : Nat), ctrKey (tick s) y0 y1 = ctrKey s y0 y1) ∧ (∀ (y0 : Nat), getPort (tick s) y0 = getPort s y0) ∧ (∀ (y0 : Nat), getLane (tick s) y0 = getLane s y0) ∧ (∀ (y0 : Nat), getSlot (tick s) y0 = getSlot s y0) ∧ (∀ (y0 : Reg) (y1 : Eng) (y2 : Nat), getReg (tick s) y0 y1 y2 = getReg s y0 y1 y2) ∧ (∀ (y0 : Reg) (y1 : Eng) (y2 : Nat) (y3 : Nat) (y4 : Nat), regF (tick s) y0 y1 y2 y3 y4 = regF s y0 y1 y2 y3 y4) ∧ (∀ (y0 : Nat), getFlags (tick s) y0 = getFlags s y0) ∧ powered (tick s) = powered s ∧ alive (tick s) = alive s ∧ inService (tick s) = inService s ∧ lcState (tick s) = lcState s ∧ (∀ (y0 : Eng), countsTree (tick s) y0 = countsTree s y0) := by
  have k := keep_tick s
  exact ⟨getIsl_congr (k .isls (by decide)), dpFence_congr (k .isls (by decide)), islRuns_congr (k .isls (by decide)), ctlRuns_congr (k .isls (by decide)), getFeed_congr (k .pwr (by decide)), getEng_congr (k .engA (by decide)) (k .engB (by decide)), getLeaf_congr (k .leaves (by decide)) (k .boot (by decide)), getSset_congr (k .ssets (by decide)) (k .boot (by decide)), getCtr_congr (k .ctrs (by decide)) (k .boot (by decide)), getGrp_congr (k .engA (by decide)) (k .engB (by decide)), getBrx_congr (k .engA (by decide)) (k .engB (by decide)), treeOf_congr (k .boot (by decide)), leafKey_congr (k .boot (by decide)), ssetKey_congr (k .boot (by decide)), ctrKey_congr (k .boot (by decide)), getPort_congr (k .cln (by decide)), getLane_congr (k .cln (by decide)), getSlot_congr (k .sec (by decide)), getReg_congr (k .regs (by decide)), regF_congr (k .regs (by decide)), getFlags_congr (k .flags (by decide)), powered_congr (k .pwr (by decide)), alive_congr (k .pwr (by decide)), inService_congr (k .pwr (by decide)) (k .bist (by decide)), lcState_congr (k .fuse (by decide)), countsTree_congr (k .boot (by decide)) (k .aps (by decide))⟩
@[simp] theorem modEng_gets (e : Eng) (f : EngSt → EngSt) (s : State) : (∀ (y0 : Isl), getIsl (modEng e f s) y0 = getIsl s y0) ∧ (∀ (y0 : Isl), dpFence (modEng e f s) y0 = dpFence s y0) ∧ (∀ (y0 : Isl), islRuns (modEng e f s) y0 = islRuns s y0) ∧ (∀ (y0 : Isl), ctlRuns (modEng e f s) y0 = ctlRuns s y0) ∧ (∀ (y0 : Feed), getFeed (modEng e f s) y0 = getFeed s y0) ∧ (∀ (y0 : Eng) (y1 : Nat), getLeaf (modEng e f s) y0 y1 = getLeaf s y0 y1) ∧ (∀ (y0 : Eng) (y1 : Nat), getSset (modEng e f s) y0 y1 = getSset s y0 y1) ∧ (∀ (y0 : Eng) (y1 : Nat), getCtr (modEng e f s) y0 y1 = getCtr s y0 y1) ∧ (∀ (y0 : Eng), treeOf (modEng e f s) y0 = treeOf s y0) ∧ (∀ (y0 : Eng) (y1 : Nat), leafKey (modEng e f s) y0 y1 = leafKey s y0 y1) ∧ (∀ (y0 : Eng) (y1 : Nat), ssetKey (modEng e f s) y0 y1 = ssetKey s y0 y1) ∧ (∀ (y0 : Eng) (y1 : Nat), ctrKey (modEng e f s) y0 y1 = ctrKey s y0 y1) ∧ (∀ (y0 : Nat), getFlow (modEng e f s) y0 = getFlow s y0) ∧ (∀ (y0 : Nat), getPort (modEng e f s) y0 = getPort s y0) ∧ (∀ (y0 : Nat), getLane (modEng e f s) y0 = getLane s y0) ∧ (∀ (y0 : Nat), getSlot (modEng e f s) y0 = getSlot s y0) ∧ (∀ (y0 : Reg) (y1 : Eng) (y2 : Nat), getReg (modEng e f s) y0 y1 y2 = getReg s y0 y1 y2) ∧ (∀ (y0 : Reg) (y1 : Eng) (y2 : Nat) (y3 : Nat) (y4 : Nat), regF (modEng e f s) y0 y1 y2 y3 y4 = regF s y0 y1 y2 y3 y4) ∧ (∀ (y0 : Nat), chainMask (modEng e f s) y0 = chainMask s y0) ∧ (∀ (y0 : Nat), modeMask (modEng e f s) y0 = modeMask s y0) ∧ (∀ (y0 : Nat), getFlags (modEng e f s) y0 = getFlags s y0) ∧ powered (modEng e f s) = powered s ∧ alive (modEng e f s) = alive s ∧ inService (modEng e f s) = inService s ∧ now (modEng e f s) = now s ∧ lcState (modEng e f s) = lcState s ∧ (∀ (y0 : Eng), countsTree (modEng e f s) y0 = countsTree s y0) := ⟨getIsl_congr (by simp), dpFence_congr (by simp), islRuns_congr (by simp), ctlRuns_congr (by simp), getFeed_congr (by simp), getLeaf_congr (by simp) (by simp), getSset_congr (by simp) (by simp), getCtr_congr (by simp) (by simp), treeOf_congr (by simp), leafKey_congr (by simp), ssetKey_congr (by simp), ctrKey_congr (by simp), getFlow_congr (by simp), getPort_congr (by simp), getLane_congr (by simp), getSlot_congr (by simp), getReg_congr (by simp), regF_congr (by simp), chainMask_congr (by simp), modeMask_congr (by simp), getFlags_congr (by simp), powered_congr (by simp), alive_congr (by simp), inService_congr (by simp) (by simp), now_congr (by simp), lcState_congr (by simp), countsTree_congr (by simp) (by simp)⟩

/-! ## An accessor of a state given by its fields -/

@[simp] theorem getIsl_mk (s : State) (x_pending : List Instr) (x_free : Nat) (x_status : Status) (x_got : W32) (x_pwr : Power) (x_pins : Pins) (x_clk : Clock) (x_fuse : Fuses) (x_flash : Flash) (x_boot : Boot) (x_regs : Table W32) (x_flags : Table W32) (x_rsc : Table Nat) (x_seenTurn : List (Nat × Nat × Nat)) (x_seenSec : List (Nat × Nat)) (x_engA : EngSt) (x_engB : EngSt) (x_aps : Aps) (x_leaves : Table Leaf) (x_ssets : Table Sset) (x_ctrs : Table Ctr) (x_flow : FlowSt) (x_tod : TodSt) (x_cln : ClnSt) (x_sec : SecSt) (x_mem : MemSt) (x_mgt : Mgt) (x_upd : UpdSt) (x_tally : TallySt) (x_bist : BistSt) (y0 : Isl) : getIsl (State.mk x_pending x_free x_status x_got x_pwr x_pins x_clk x_fuse x_flash x_boot x_regs x_flags x_rsc x_seenTurn x_seenSec (State.isls s) x_engA x_engB x_aps x_leaves x_ssets x_ctrs x_flow x_tod x_cln x_sec x_mem x_mgt x_upd x_tally x_bist) y0 = getIsl s y0 := rfl
@[simp] theorem dpFence_mk (s : State) (x_pending : List Instr) (x_free : Nat) (x_status : Status) (x_got : W32) (x_pwr : Power) (x_pins : Pins) (x_clk : Clock) (x_fuse : Fuses) (x_flash : Flash) (x_boot : Boot) (x_regs : Table W32) (x_flags : Table W32) (x_rsc : Table Nat) (x_seenTurn : List (Nat × Nat × Nat)) (x_seenSec : List (Nat × Nat)) (x_engA : EngSt) (x_engB : EngSt) (x_aps : Aps) (x_leaves : Table Leaf) (x_ssets : Table Sset) (x_ctrs : Table Ctr) (x_flow : FlowSt) (x_tod : TodSt) (x_cln : ClnSt) (x_sec : SecSt) (x_mem : MemSt) (x_mgt : Mgt) (x_upd : UpdSt) (x_tally : TallySt) (x_bist : BistSt) (y0 : Isl) : dpFence (State.mk x_pending x_free x_status x_got x_pwr x_pins x_clk x_fuse x_flash x_boot x_regs x_flags x_rsc x_seenTurn x_seenSec (State.isls s) x_engA x_engB x_aps x_leaves x_ssets x_ctrs x_flow x_tod x_cln x_sec x_mem x_mgt x_upd x_tally x_bist) y0 = dpFence s y0 := rfl
@[simp] theorem islRuns_mk (s : State) (x_pending : List Instr) (x_free : Nat) (x_status : Status) (x_got : W32) (x_pwr : Power) (x_pins : Pins) (x_clk : Clock) (x_fuse : Fuses) (x_flash : Flash) (x_boot : Boot) (x_regs : Table W32) (x_flags : Table W32) (x_rsc : Table Nat) (x_seenTurn : List (Nat × Nat × Nat)) (x_seenSec : List (Nat × Nat)) (x_engA : EngSt) (x_engB : EngSt) (x_aps : Aps) (x_leaves : Table Leaf) (x_ssets : Table Sset) (x_ctrs : Table Ctr) (x_flow : FlowSt) (x_tod : TodSt) (x_cln : ClnSt) (x_sec : SecSt) (x_mem : MemSt) (x_mgt : Mgt) (x_upd : UpdSt) (x_tally : TallySt) (x_bist : BistSt) (y0 : Isl) : islRuns (State.mk x_pending x_free x_status x_got x_pwr x_pins x_clk x_fuse x_flash x_boot x_regs x_flags x_rsc x_seenTurn x_seenSec (State.isls s) x_engA x_engB x_aps x_leaves x_ssets x_ctrs x_flow x_tod x_cln x_sec x_mem x_mgt x_upd x_tally x_bist) y0 = islRuns s y0 := rfl
@[simp] theorem ctlRuns_mk (s : State) (x_pending : List Instr) (x_free : Nat) (x_status : Status) (x_got : W32) (x_pwr : Power) (x_pins : Pins) (x_clk : Clock) (x_fuse : Fuses) (x_flash : Flash) (x_boot : Boot) (x_regs : Table W32) (x_flags : Table W32) (x_rsc : Table Nat) (x_seenTurn : List (Nat × Nat × Nat)) (x_seenSec : List (Nat × Nat)) (x_engA : EngSt) (x_engB : EngSt) (x_aps : Aps) (x_leaves : Table Leaf) (x_ssets : Table Sset) (x_ctrs : Table Ctr) (x_flow : FlowSt) (x_tod : TodSt) (x_cln : ClnSt) (x_sec : SecSt) (x_mem : MemSt) (x_mgt : Mgt) (x_upd : UpdSt) (x_tally : TallySt) (x_bist : BistSt) (y0 : Isl) : ctlRuns (State.mk x_pending x_free x_status x_got x_pwr x_pins x_clk x_fuse x_flash x_boot x_regs x_flags x_rsc x_seenTurn x_seenSec (State.isls s) x_engA x_engB x_aps x_leaves x_ssets x_ctrs x_flow x_tod x_cln x_sec x_mem x_mgt x_upd x_tally x_bist) y0 = ctlRuns s y0 := rfl
@[simp] theorem getFeed_mk (s : State) (x_pending : List Instr) (x_free : Nat) (x_status : Status) (x_got : W32) (x_pins : Pins) (x_clk : Clock) (x_fuse : Fuses) (x_flash : Flash) (x_boot : Boot) (x_regs : Table W32) (x_flags : Table W32) (x_rsc : Table Nat) (x_seenTurn : List (Nat × Nat × Nat)) (x_seenSec : List (Nat × Nat)) (x_isls : Table IslSt) (x_engA : EngSt) (x_engB : EngSt) (x_aps : Aps) (x_leaves : Table Leaf) (x_ssets : Table Sset) (x_ctrs : Table Ctr) (x_flow : FlowSt) (x_tod : TodSt) (x_cln : ClnSt) (x_sec : SecSt) (x_mem : MemSt) (x_mgt : Mgt) (x_upd : UpdSt) (x_tally : TallySt) (x_bist : BistSt) (y0 : Feed) : getFeed (State.mk x_pending x_free x_status x_got (State.pwr s) x_pins x_clk x_fuse x_flash x_boot x_regs x_flags x_rsc x_seenTurn x_seenSec x_isls x_engA x_engB x_aps x_leaves x_ssets x_ctrs x_flow x_tod x_cln x_sec x_mem x_mgt x_upd x_tally x_bist) y0 = getFeed s y0 := by cases y0 <;> rfl
@[simp] theorem getEng_mk (s : State) (x_pending : List Instr) (x_free : Nat) (x_status : Status) (x_got : W32) (x_pwr : Power) (x_pins : Pins) (x_clk : Clock) (x_fuse : Fuses) (x_flash : Flash) (x_boot : Boot) (x_regs : Table W32) (x_flags : Table W32) (x_rsc : Table Nat) (x_seenTurn : List (Nat × Nat × Nat)) (x_seenSec : List (Nat × Nat)) (x_isls : Table IslSt) (x_aps : Aps) (x_leaves : Table Leaf) (x_ssets : Table Sset) (x_ctrs : Table Ctr) (x_flow : FlowSt) (x_tod : TodSt) (x_cln : ClnSt) (x_sec : SecSt) (x_mem : MemSt) (x_mgt : Mgt) (x_upd : UpdSt) (x_tally : TallySt) (x_bist : BistSt) (y0 : Eng) : getEng (State.mk x_pending x_free x_status x_got x_pwr x_pins x_clk x_fuse x_flash x_boot x_regs x_flags x_rsc x_seenTurn x_seenSec x_isls (State.engA s) (State.engB s) x_aps x_leaves x_ssets x_ctrs x_flow x_tod x_cln x_sec x_mem x_mgt x_upd x_tally x_bist) y0 = getEng s y0 := by cases y0 <;> rfl
@[simp] theorem getLeaf_mk (s : State) (x_pending : List Instr) (x_free : Nat) (x_status : Status) (x_got : W32) (x_pwr : Power) (x_pins : Pins) (x_clk : Clock) (x_fuse : Fuses) (x_flash : Flash) (x_regs : Table W32) (x_flags : Table W32) (x_rsc : Table Nat) (x_seenTurn : List (Nat × Nat × Nat)) (x_seenSec : List (Nat × Nat)) (x_isls : Table IslSt) (x_engA : EngSt) (x_engB : EngSt) (x_aps : Aps) (x_ssets : Table Sset) (x_ctrs : Table Ctr) (x_flow : FlowSt) (x_tod : TodSt) (x_cln : ClnSt) (x_sec : SecSt) (x_mem : MemSt) (x_mgt : Mgt) (x_upd : UpdSt) (x_tally : TallySt) (x_bist : BistSt) (y0 : Eng) (y1 : Nat) : getLeaf (State.mk x_pending x_free x_status x_got x_pwr x_pins x_clk x_fuse x_flash (State.boot s) x_regs x_flags x_rsc x_seenTurn x_seenSec x_isls x_engA x_engB x_aps (State.leaves s) x_ssets x_ctrs x_flow x_tod x_cln x_sec x_mem x_mgt x_upd x_tally x_bist) y0 y1 = getLeaf s y0 y1 := rfl
@[simp] theorem getSset_mk (s : State) (x_pending : List Instr) (x_free : Nat) (x_status : Status) (x_got : W32) (x_pwr : Power) (x_pins : Pins) (x_clk : Clock) (x_fuse : Fuses) (x_flash : Flash) (x_regs : Table W32) (x_flags : Table W32) (x_rsc : Table Nat) (x_seenTurn : List (Nat × Nat × Nat)) (x_seenSec : List (Nat × Nat)) (x_isls : Table IslSt) (x_engA : EngSt) (x_engB : EngSt) (x_aps : Aps) (x_leaves : Table Leaf) (x_ctrs : Table Ctr) (x_flow : FlowSt) (x_tod : TodSt) (x_cln : ClnSt) (x_sec : SecSt) (x_mem : MemSt) (x_mgt : Mgt) (x_upd : UpdSt) (x_tally : TallySt) (x_bist : BistSt) (y0 : Eng) (y1 : Nat) : getSset (State.mk x_pending x_free x_status x_got x_pwr x_pins x_clk x_fuse x_flash (State.boot s) x_regs x_flags x_rsc x_seenTurn x_seenSec x_isls x_engA x_engB x_aps x_leaves (State.ssets s) x_ctrs x_flow x_tod x_cln x_sec x_mem x_mgt x_upd x_tally x_bist) y0 y1 = getSset s y0 y1 := rfl
@[simp] theorem getCtr_mk (s : State) (x_pending : List Instr) (x_free : Nat) (x_status : Status) (x_got : W32) (x_pwr : Power) (x_pins : Pins) (x_clk : Clock) (x_fuse : Fuses) (x_flash : Flash) (x_regs : Table W32) (x_flags : Table W32) (x_rsc : Table Nat) (x_seenTurn : List (Nat × Nat × Nat)) (x_seenSec : List (Nat × Nat)) (x_isls : Table IslSt) (x_engA : EngSt) (x_engB : EngSt) (x_aps : Aps) (x_leaves : Table Leaf) (x_ssets : Table Sset) (x_flow : FlowSt) (x_tod : TodSt) (x_cln : ClnSt) (x_sec : SecSt) (x_mem : MemSt) (x_mgt : Mgt) (x_upd : UpdSt) (x_tally : TallySt) (x_bist : BistSt) (y0 : Eng) (y1 : Nat) : getCtr (State.mk x_pending x_free x_status x_got x_pwr x_pins x_clk x_fuse x_flash (State.boot s) x_regs x_flags x_rsc x_seenTurn x_seenSec x_isls x_engA x_engB x_aps x_leaves x_ssets (State.ctrs s) x_flow x_tod x_cln x_sec x_mem x_mgt x_upd x_tally x_bist) y0 y1 = getCtr s y0 y1 := rfl
@[simp] theorem getGrp_mk (s : State) (x_pending : List Instr) (x_free : Nat) (x_status : Status) (x_got : W32) (x_pwr : Power) (x_pins : Pins) (x_clk : Clock) (x_fuse : Fuses) (x_flash : Flash) (x_boot : Boot) (x_regs : Table W32) (x_flags : Table W32) (x_rsc : Table Nat) (x_seenTurn : List (Nat × Nat × Nat)) (x_seenSec : List (Nat × Nat)) (x_isls : Table IslSt) (x_aps : Aps) (x_leaves : Table Leaf) (x_ssets : Table Sset) (x_ctrs : Table Ctr) (x_flow : FlowSt) (x_tod : TodSt) (x_cln : ClnSt) (x_sec : SecSt) (x_mem : MemSt) (x_mgt : Mgt) (x_upd : UpdSt) (x_tally : TallySt) (x_bist : BistSt) (y0 : Eng) (y1 : Nat) : getGrp (State.mk x_pending x_free x_status x_got x_pwr x_pins x_clk x_fuse x_flash x_boot x_regs x_flags x_rsc x_seenTurn x_seenSec x_isls (State.engA s) (State.engB s) x_aps x_leaves x_ssets x_ctrs x_flow x_tod x_cln x_sec x_mem x_mgt x_upd x_tally x_bist) y0 y1 = getGrp s y0 y1 := rfl
@[simp] theorem getBrx_mk (s : State) (x_pending : List Instr) (x_free : Nat) (x_status : Status) (x_got : W32) (x_pwr : Power) (x_pins : Pins) (x_clk : Clock) (x_fuse : Fuses) (x_flash : Flash) (x_boot : Boot) (x_regs : Table W32) (x_flags : Table W32) (x_rsc : Table Nat) (x_seenTurn : List (Nat × Nat × Nat)) (x_seenSec : List (Nat × Nat)) (x_isls : Table IslSt) (x_aps : Aps) (x_leaves : Table Leaf) (x_ssets : Table Sset) (x_ctrs : Table Ctr) (x_flow : FlowSt) (x_tod : TodSt) (x_cln : ClnSt) (x_sec : SecSt) (x_mem : MemSt) (x_mgt : Mgt) (x_upd : UpdSt) (x_tally : TallySt) (x_bist : BistSt) (y0 : Eng) (y1 : Nat) : getBrx (State.mk x_pending x_free x_status x_got x_pwr x_pins x_clk x_fuse x_flash x_boot x_regs x_flags x_rsc x_seenTurn x_seenSec x_isls (State.engA s) (State.engB s) x_aps x_leaves x_ssets x_ctrs x_flow x_tod x_cln x_sec x_mem x_mgt x_upd x_tally x_bist) y0 y1 = getBrx s y0 y1 := rfl
@[simp] theorem treeOf_mk (s : State) (x_pending : List Instr) (x_free : Nat) (x_status : Status) (x_got : W32) (x_pwr : Power) (x_pins : Pins) (x_clk : Clock) (x_fuse : Fuses) (x_flash : Flash) (x_regs : Table W32) (x_flags : Table W32) (x_rsc : Table Nat) (x_seenTurn : List (Nat × Nat × Nat)) (x_seenSec : List (Nat × Nat)) (x_isls : Table IslSt) (x_engA : EngSt) (x_engB : EngSt) (x_aps : Aps) (x_leaves : Table Leaf) (x_ssets : Table Sset) (x_ctrs : Table Ctr) (x_flow : FlowSt) (x_tod : TodSt) (x_cln : ClnSt) (x_sec : SecSt) (x_mem : MemSt) (x_mgt : Mgt) (x_upd : UpdSt) (x_tally : TallySt) (x_bist : BistSt) (y0 : Eng) : treeOf (State.mk x_pending x_free x_status x_got x_pwr x_pins x_clk x_fuse x_flash (State.boot s) x_regs x_flags x_rsc x_seenTurn x_seenSec x_isls x_engA x_engB x_aps x_leaves x_ssets x_ctrs x_flow x_tod x_cln x_sec x_mem x_mgt x_upd x_tally x_bist) y0 = treeOf s y0 := rfl
@[simp] theorem leafKey_mk (s : State) (x_pending : List Instr) (x_free : Nat) (x_status : Status) (x_got : W32) (x_pwr : Power) (x_pins : Pins) (x_clk : Clock) (x_fuse : Fuses) (x_flash : Flash) (x_regs : Table W32) (x_flags : Table W32) (x_rsc : Table Nat) (x_seenTurn : List (Nat × Nat × Nat)) (x_seenSec : List (Nat × Nat)) (x_isls : Table IslSt) (x_engA : EngSt) (x_engB : EngSt) (x_aps : Aps) (x_leaves : Table Leaf) (x_ssets : Table Sset) (x_ctrs : Table Ctr) (x_flow : FlowSt) (x_tod : TodSt) (x_cln : ClnSt) (x_sec : SecSt) (x_mem : MemSt) (x_mgt : Mgt) (x_upd : UpdSt) (x_tally : TallySt) (x_bist : BistSt) (y0 : Eng) (y1 : Nat) : leafKey (State.mk x_pending x_free x_status x_got x_pwr x_pins x_clk x_fuse x_flash (State.boot s) x_regs x_flags x_rsc x_seenTurn x_seenSec x_isls x_engA x_engB x_aps x_leaves x_ssets x_ctrs x_flow x_tod x_cln x_sec x_mem x_mgt x_upd x_tally x_bist) y0 y1 = leafKey s y0 y1 := rfl
@[simp] theorem ssetKey_mk (s : State) (x_pending : List Instr) (x_free : Nat) (x_status : Status) (x_got : W32) (x_pwr : Power) (x_pins : Pins) (x_clk : Clock) (x_fuse : Fuses) (x_flash : Flash) (x_regs : Table W32) (x_flags : Table W32) (x_rsc : Table Nat) (x_seenTurn : List (Nat × Nat × Nat)) (x_seenSec : List (Nat × Nat)) (x_isls : Table IslSt) (x_engA : EngSt) (x_engB : EngSt) (x_aps : Aps) (x_leaves : Table Leaf) (x_ssets : Table Sset) (x_ctrs : Table Ctr) (x_flow : FlowSt) (x_tod : TodSt) (x_cln : ClnSt) (x_sec : SecSt) (x_mem : MemSt) (x_mgt : Mgt) (x_upd : UpdSt) (x_tally : TallySt) (x_bist : BistSt) (y0 : Eng) (y1 : Nat) : ssetKey (State.mk x_pending x_free x_status x_got x_pwr x_pins x_clk x_fuse x_flash (State.boot s) x_regs x_flags x_rsc x_seenTurn x_seenSec x_isls x_engA x_engB x_aps x_leaves x_ssets x_ctrs x_flow x_tod x_cln x_sec x_mem x_mgt x_upd x_tally x_bist) y0 y1 = ssetKey s y0 y1 := rfl
@[simp] theorem ctrKey_mk (s : State) (x_pending : List Instr) (x_free : Nat) (x_status : Status) (x_got : W32) (x_pwr : Power) (x_pins : Pins) (x_clk : Clock) (x_fuse : Fuses) (x_flash : Flash) (x_regs : Table W32) (x_flags : Table W32) (x_rsc : Table Nat) (x_seenTurn : List (Nat × Nat × Nat)) (x_seenSec : List (Nat × Nat)) (x_isls : Table IslSt) (x_engA : EngSt) (x_engB : EngSt) (x_aps : Aps) (x_leaves : Table Leaf) (x_ssets : Table Sset) (x_ctrs : Table Ctr) (x_flow : FlowSt) (x_tod : TodSt) (x_cln : ClnSt) (x_sec : SecSt) (x_mem : MemSt) (x_mgt : Mgt) (x_upd : UpdSt) (x_tally : TallySt) (x_bist : BistSt) (y0 : Eng) (y1 : Nat) : ctrKey (State.mk x_pending x_free x_status x_got x_pwr x_pins x_clk x_fuse x_flash (State.boot s) x_regs x_flags x_rsc x_seenTurn x_seenSec x_isls x_engA x_engB x_aps x_leaves x_ssets x_ctrs x_flow x_tod x_cln x_sec x_mem x_mgt x_upd x_tally x_bist) y0 y1 = ctrKey s y0 y1 := rfl
@[simp] theorem getFlow_mk (s : State) (x_pending : List Instr) (x_free : Nat) (x_status : Status) (x_got : W32) (x_pwr : Power) (x_pins : Pins) (x_clk : Clock) (x_fuse : Fuses) (x_flash : Flash) (x_boot : Boot) (x_regs : Table W32) (x_flags : Table W32) (x_rsc : Table Nat) (x_seenTurn : List (Nat × Nat × Nat)) (x_seenSec : List (Nat × Nat)) (x_isls : Table IslSt) (x_engA : EngSt) (x_engB : EngSt) (x_aps : Aps) (x_leaves : Table Leaf) (x_ssets : Table Sset) (x_ctrs : Table Ctr) (x_tod : TodSt) (x_cln : ClnSt) (x_sec : SecSt) (x_mem : MemSt) (x_mgt : Mgt) (x_upd : UpdSt) (x_tally : TallySt) (x_bist : BistSt) (y0 : Nat) : getFlow (State.mk x_pending x_free x_status x_got x_pwr x_pins x_clk x_fuse x_flash x_boot x_regs x_flags x_rsc x_seenTurn x_seenSec x_isls x_engA x_engB x_aps x_leaves x_ssets x_ctrs (State.flow s) x_tod x_cln x_sec x_mem x_mgt x_upd x_tally x_bist) y0 = getFlow s y0 := rfl
@[simp] theorem getPort_mk (s : State) (x_pending : List Instr) (x_free : Nat) (x_status : Status) (x_got : W32) (x_pwr : Power) (x_pins : Pins) (x_clk : Clock) (x_fuse : Fuses) (x_flash : Flash) (x_boot : Boot) (x_regs : Table W32) (x_flags : Table W32) (x_rsc : Table Nat) (x_seenTurn : List (Nat × Nat × Nat)) (x_seenSec : List (Nat × Nat)) (x_isls : Table IslSt) (x_engA : EngSt) (x_engB : EngSt) (x_aps : Aps) (x_leaves : Table Leaf) (x_ssets : Table Sset) (x_ctrs : Table Ctr) (x_flow : FlowSt) (x_tod : TodSt) (x_sec : SecSt) (x_mem : MemSt) (x_mgt : Mgt) (x_upd : UpdSt) (x_tally : TallySt) (x_bist : BistSt) (y0 : Nat) : getPort (State.mk x_pending x_free x_status x_got x_pwr x_pins x_clk x_fuse x_flash x_boot x_regs x_flags x_rsc x_seenTurn x_seenSec x_isls x_engA x_engB x_aps x_leaves x_ssets x_ctrs x_flow x_tod (State.cln s) x_sec x_mem x_mgt x_upd x_tally x_bist) y0 = getPort s y0 := rfl
@[simp] theorem getLane_mk (s : State) (x_pending : List Instr) (x_free : Nat) (x_status : Status) (x_got : W32) (x_pwr : Power) (x_pins : Pins) (x_clk : Clock) (x_fuse : Fuses) (x_flash : Flash) (x_boot : Boot) (x_regs : Table W32) (x_flags : Table W32) (x_rsc : Table Nat) (x_seenTurn : List (Nat × Nat × Nat)) (x_seenSec : List (Nat × Nat)) (x_isls : Table IslSt) (x_engA : EngSt) (x_engB : EngSt) (x_aps : Aps) (x_leaves : Table Leaf) (x_ssets : Table Sset) (x_ctrs : Table Ctr) (x_flow : FlowSt) (x_tod : TodSt) (x_sec : SecSt) (x_mem : MemSt) (x_mgt : Mgt) (x_upd : UpdSt) (x_tally : TallySt) (x_bist : BistSt) (y0 : Nat) : getLane (State.mk x_pending x_free x_status x_got x_pwr x_pins x_clk x_fuse x_flash x_boot x_regs x_flags x_rsc x_seenTurn x_seenSec x_isls x_engA x_engB x_aps x_leaves x_ssets x_ctrs x_flow x_tod (State.cln s) x_sec x_mem x_mgt x_upd x_tally x_bist) y0 = getLane s y0 := rfl
@[simp] theorem getSlot_mk (s : State) (x_pending : List Instr) (x_free : Nat) (x_status : Status) (x_got : W32) (x_pwr : Power) (x_pins : Pins) (x_clk : Clock) (x_fuse : Fuses) (x_flash : Flash) (x_boot : Boot) (x_regs : Table W32) (x_flags : Table W32) (x_rsc : Table Nat) (x_seenTurn : List (Nat × Nat × Nat)) (x_seenSec : List (Nat × Nat)) (x_isls : Table IslSt) (x_engA : EngSt) (x_engB : EngSt) (x_aps : Aps) (x_leaves : Table Leaf) (x_ssets : Table Sset) (x_ctrs : Table Ctr) (x_flow : FlowSt) (x_tod : TodSt) (x_cln : ClnSt) (x_mem : MemSt) (x_mgt : Mgt) (x_upd : UpdSt) (x_tally : TallySt) (x_bist : BistSt) (y0 : Nat) : getSlot (State.mk x_pending x_free x_status x_got x_pwr x_pins x_clk x_fuse x_flash x_boot x_regs x_flags x_rsc x_seenTurn x_seenSec x_isls x_engA x_engB x_aps x_leaves x_ssets x_ctrs x_flow x_tod x_cln (State.sec s) x_mem x_mgt x_upd x_tally x_bist) y0 = getSlot s y0 := rfl
@[simp] theorem getReg_mk (s : State) (x_pending : List Instr) (x_free : Nat) (x_status : Status) (x_got : W32) (x_pwr : Power) (x_pins : Pins) (x_clk : Clock) (x_fuse : Fuses) (x_flash : Flash) (x_boot : Boot) (x_flags : Table W32) (x_rsc : Table Nat) (x_seenTurn : List (Nat × Nat × Nat)) (x_seenSec : List (Nat × Nat)) (x_isls : Table IslSt) (x_engA : EngSt) (x_engB : EngSt) (x_aps : Aps) (x_leaves : Table Leaf) (x_ssets : Table Sset) (x_ctrs : Table Ctr) (x_flow : FlowSt) (x_tod : TodSt) (x_cln : ClnSt) (x_sec : SecSt) (x_mem : MemSt) (x_mgt : Mgt) (x_upd : UpdSt) (x_tally : TallySt) (x_bist : BistSt) (y0 : Reg) (y1 : Eng) (y2 : Nat) : getReg (State.mk x_pending x_free x_status x_got x_pwr x_pins x_clk x_fuse x_flash x_boot (State.regs s) x_flags x_rsc x_seenTurn x_seenSec x_isls x_engA x_engB x_aps x_leaves x_ssets x_ctrs x_flow x_tod x_cln x_sec x_mem x_mgt x_upd x_tally x_bist) y0 y1 y2 = getReg s y0 y1 y2 := rfl
@[simp] theorem regF_mk (s : State) (x_pending : List Instr) (x_free : Nat) (x_status : Status) (x_got : W32) (x_pwr : Power) (x_pins : Pins) (x_clk : Clock) (x_fuse : Fuses) (x_flash : Flash) (x_boot : Boot) (x_flags : Table W32) (x_rsc : Table Nat) (x_seenTurn : List (Nat × Nat × Nat)) (x_seenSec : List (Nat × Nat)) (x_isls : Table IslSt) (x_engA : EngSt) (x_engB : EngSt) (x_aps : Aps) (x_leaves : Table Leaf) (x_ssets : Table Sset) (x_ctrs : Table Ctr) (x_flow : FlowSt) (x_tod : TodSt) (x_cln : ClnSt) (x_sec : SecSt) (x_mem : MemSt) (x_mgt : Mgt) (x_upd : UpdSt) (x_tally : TallySt) (x_bist : BistSt) (y0 : Reg) (y1 : Eng) (y2 : Nat) (y3 : Nat) (y4 : Nat) : regF (State.mk x_pending x_free x_status x_got x_pwr x_pins x_clk x_fuse x_flash x_boot (State.regs s) x_flags x_rsc x_seenTurn x_seenSec x_isls x_engA x_engB x_aps x_leaves x_ssets x_ctrs x_flow x_tod x_cln x_sec x_mem x_mgt x_upd x_tally x_bist) y0 y1 y2 y3 y4 = regF s y0 y1 y2 y3 y4 := rfl
@[simp] theorem chainMask_mk (s : State) (x_pending : List Instr) (x_free : Nat) (x_status : Status) (x_got : W32) (x_pwr : Power) (x_pins : Pins) (x_clk : Clock) (x_fuse : Fuses) (x_flash : Flash) (x_boot : Boot) (x_regs : Table W32) (x_flags : Table W32) (x_rsc : Table Nat) (x_seenTurn : List (Nat × Nat × Nat)) (x_seenSec : List (Nat × Nat)) (x_isls : Table IslSt) (x_engA : EngSt) (x_engB : EngSt) (x_aps : Aps) (x_leaves : Table Leaf) (x_ssets : Table Sset) (x_ctrs : Table Ctr) (x_flow : FlowSt) (x_tod : TodSt) (x_cln : ClnSt) (x_sec : SecSt) (x_mem : MemSt) (x_mgt : Mgt) (x_upd : UpdSt) (x_bist : BistSt) (y0 : Nat) : chainMask (State.mk x_pending x_free x_status x_got x_pwr x_pins x_clk x_fuse x_flash x_boot x_regs x_flags x_rsc x_seenTurn x_seenSec x_isls x_engA x_engB x_aps x_leaves x_ssets x_ctrs x_flow x_tod x_cln x_sec x_mem x_mgt x_upd (State.tally s) x_bist) y0 = chainMask s y0 := rfl
@[simp] theorem modeMask_mk (s : State) (x_pending : List Instr) (x_free : Nat) (x_status : Status) (x_got : W32) (x_pwr : Power) (x_pins : Pins) (x_clk : Clock) (x_fuse : Fuses) (x_flash : Flash) (x_boot : Boot) (x_regs : Table W32) (x_flags : Table W32) (x_rsc : Table Nat) (x_seenTurn : List (Nat × Nat × Nat)) (x_seenSec : List (Nat × Nat)) (x_isls : Table IslSt) (x_engA : EngSt) (x_engB : EngSt) (x_aps : Aps) (x_leaves : Table Leaf) (x_ssets : Table Sset) (x_ctrs : Table Ctr) (x_flow : FlowSt) (x_tod : TodSt) (x_cln : ClnSt) (x_sec : SecSt) (x_mem : MemSt) (x_mgt : Mgt) (x_upd : UpdSt) (x_bist : BistSt) (y0 : Nat) : modeMask (State.mk x_pending x_free x_status x_got x_pwr x_pins x_clk x_fuse x_flash x_boot x_regs x_flags x_rsc x_seenTurn x_seenSec x_isls x_engA x_engB x_aps x_leaves x_ssets x_ctrs x_flow x_tod x_cln x_sec x_mem x_mgt x_upd (State.tally s) x_bist) y0 = modeMask s y0 := rfl
@[simp] theorem getFlags_mk (s : State) (x_pending : List Instr) (x_free : Nat) (x_status : Status) (x_got : W32) (x_pwr : Power) (x_pins : Pins) (x_clk : Clock) (x_fuse : Fuses) (x_flash : Flash) (x_boot : Boot) (x_regs : Table W32) (x_rsc : Table Nat) (x_seenTurn : List (Nat × Nat × Nat)) (x_seenSec : List (Nat × Nat)) (x_isls : Table IslSt) (x_engA : EngSt) (x_engB : EngSt) (x_aps : Aps) (x_leaves : Table Leaf) (x_ssets : Table Sset) (x_ctrs : Table Ctr) (x_flow : FlowSt) (x_tod : TodSt) (x_cln : ClnSt) (x_sec : SecSt) (x_mem : MemSt) (x_mgt : Mgt) (x_upd : UpdSt) (x_tally : TallySt) (x_bist : BistSt) (y0 : Nat) : getFlags (State.mk x_pending x_free x_status x_got x_pwr x_pins x_clk x_fuse x_flash x_boot x_regs (State.flags s) x_rsc x_seenTurn x_seenSec x_isls x_engA x_engB x_aps x_leaves x_ssets x_ctrs x_flow x_tod x_cln x_sec x_mem x_mgt x_upd x_tally x_bist) y0 = getFlags s y0 := rfl
@[simp] theorem powered_mk (s : State) (x_pending : List Instr) (x_free : Nat) (x_status : Status) (x_got : W32) (x_pins : Pins) (x_clk : Clock) (x_fuse : Fuses) (x_flash : Flash) (x_boot : Boot) (x_regs : Table W32) (x_flags : Table W32) (x_rsc : Table Nat) (x_seenTurn : List (Nat × Nat × Nat)) (x_seenSec : List (Nat × Nat)) (x_isls : Table IslSt) (x_engA : EngSt) (x_engB : EngSt) (x_aps : Aps) (x_leaves : Table Leaf) (x_ssets : Table Sset) (x_ctrs : Table Ctr) (x_flow : FlowSt) (x_tod : TodSt) (x_cln : ClnSt) (x_sec : SecSt) (x_mem : MemSt) (x_mgt : Mgt) (x_upd : UpdSt) (x_tally : TallySt) (x_bist : BistSt) : powered (State.mk x_pending x_free x_status x_got (State.pwr s) x_pins x_clk x_fuse x_flash x_boot x_regs x_flags x_rsc x_seenTurn x_seenSec x_isls x_engA x_engB x_aps x_leaves x_ssets x_ctrs x_flow x_tod x_cln x_sec x_mem x_mgt x_upd x_tally x_bist) = powered s := rfl
@[simp] theorem alive_mk (s : State) (x_pending : List Instr) (x_free : Nat) (x_status : Status) (x_got : W32) (x_pins : Pins) (x_clk : Clock) (x_fuse : Fuses) (x_flash : Flash) (x_boot : Boot) (x_regs : Table W32) (x_flags : Table W32) (x_rsc : Table Nat) (x_seenTurn : List (Nat × Nat × Nat)) (x_seenSec : List (Nat × Nat)) (x_isls : Table IslSt) (x_engA : EngSt) (x_engB : EngSt) (x_aps : Aps) (x_leaves : Table Leaf) (x_ssets : Table Sset) (x_ctrs : Table Ctr) (x_flow : FlowSt) (x_tod : TodSt) (x_cln : ClnSt) (x_sec : SecSt) (x_mem : MemSt) (x_mgt : Mgt) (x_upd : UpdSt) (x_tally : TallySt) (x_bist : BistSt) : alive (State.mk x_pending x_free x_status x_got (State.pwr s) x_pins x_clk x_fuse x_flash x_boot x_regs x_flags x_rsc x_seenTurn x_seenSec x_isls x_engA x_engB x_aps x_leaves x_ssets x_ctrs x_flow x_tod x_cln x_sec x_mem x_mgt x_upd x_tally x_bist) = alive s := rfl
@[simp] theorem inService_mk (s : State) (x_pending : List Instr) (x_free : Nat) (x_status : Status) (x_got : W32) (x_pins : Pins) (x_clk : Clock) (x_fuse : Fuses) (x_flash : Flash) (x_boot : Boot) (x_regs : Table W32) (x_flags : Table W32) (x_rsc : Table Nat) (x_seenTurn : List (Nat × Nat × Nat)) (x_seenSec : List (Nat × Nat)) (x_isls : Table IslSt) (x_engA : EngSt) (x_engB : EngSt) (x_aps : Aps) (x_leaves : Table Leaf) (x_ssets : Table Sset) (x_ctrs : Table Ctr) (x_flow : FlowSt) (x_tod : TodSt) (x_cln : ClnSt) (x_sec : SecSt) (x_mem : MemSt) (x_mgt : Mgt) (x_upd : UpdSt) (x_tally : TallySt) : inService (State.mk x_pending x_free x_status x_got (State.pwr s) x_pins x_clk x_fuse x_flash x_boot x_regs x_flags x_rsc x_seenTurn x_seenSec x_isls x_engA x_engB x_aps x_leaves x_ssets x_ctrs x_flow x_tod x_cln x_sec x_mem x_mgt x_upd x_tally (State.bist s)) = inService s := rfl
@[simp] theorem now_mk (s : State) (x_pending : List Instr) (x_free : Nat) (x_status : Status) (x_got : W32) (x_pwr : Power) (x_pins : Pins) (x_fuse : Fuses) (x_flash : Flash) (x_boot : Boot) (x_regs : Table W32) (x_flags : Table W32) (x_rsc : Table Nat) (x_seenTurn : List (Nat × Nat × Nat)) (x_seenSec : List (Nat × Nat)) (x_isls : Table IslSt) (x_engA : EngSt) (x_engB : EngSt) (x_aps : Aps) (x_leaves : Table Leaf) (x_ssets : Table Sset) (x_ctrs : Table Ctr) (x_flow : FlowSt) (x_tod : TodSt) (x_cln : ClnSt) (x_sec : SecSt) (x_mem : MemSt) (x_mgt : Mgt) (x_upd : UpdSt) (x_tally : TallySt) (x_bist : BistSt) : now (State.mk x_pending x_free x_status x_got x_pwr x_pins (State.clk s) x_fuse x_flash x_boot x_regs x_flags x_rsc x_seenTurn x_seenSec x_isls x_engA x_engB x_aps x_leaves x_ssets x_ctrs x_flow x_tod x_cln x_sec x_mem x_mgt x_upd x_tally x_bist) = now s := rfl
@[simp] theorem lcState_mk (s : State) (x_pending : List Instr) (x_free : Nat) (x_status : Status) (x_got : W32) (x_pwr : Power) (x_pins : Pins) (x_clk : Clock) (x_flash : Flash) (x_boot : Boot) (x_regs : Table W32) (x_flags : Table W32) (x_rsc : Table Nat) (x_seenTurn : List (Nat × Nat × Nat)) (x_seenSec : List (Nat × Nat)) (x_isls : Table IslSt) (x_engA : EngSt) (x_engB : EngSt) (x_aps : Aps) (x_leaves : Table Leaf) (x_ssets : Table Sset) (x_ctrs : Table Ctr) (x_flow : FlowSt) (x_tod : TodSt) (x_cln : ClnSt) (x_sec : SecSt) (x_mem : MemSt) (x_mgt : Mgt) (x_upd : UpdSt) (x_tally : TallySt) (x_bist : BistSt) : lcState (State.mk x_pending x_free x_status x_got x_pwr x_pins x_clk (State.fuse s) x_flash x_boot x_regs x_flags x_rsc x_seenTurn x_seenSec x_isls x_engA x_engB x_aps x_leaves x_ssets x_ctrs x_flow x_tod x_cln x_sec x_mem x_mgt x_upd x_tally x_bist) = lcState s := rfl
@[simp] theorem countsTree_mk (s : State) (x_pending : List Instr) (x_free : Nat) (x_status : Status) (x_got : W32) (x_pwr : Power) (x_pins : Pins) (x_clk : Clock) (x_fuse : Fuses) (x_flash : Flash) (x_regs : Table W32) (x_flags : Table W32) (x_rsc : Table Nat) (x_seenTurn : List (Nat × Nat × Nat)) (x_seenSec : List (Nat × Nat)) (x_isls : Table IslSt) (x_engA : EngSt) (x_engB : EngSt) (x_leaves : Table Leaf) (x_ssets : Table Sset) (x_ctrs : Table Ctr) (x_flow : FlowSt) (x_tod : TodSt) (x_cln : ClnSt) (x_sec : SecSt) (x_mem : MemSt) (x_mgt : Mgt) (x_upd : UpdSt) (x_tally : TallySt) (x_bist : BistSt) (y0 : Eng) : countsTree (State.mk x_pending x_free x_status x_got x_pwr x_pins x_clk x_fuse x_flash (State.boot s) x_regs x_flags x_rsc x_seenTurn x_seenSec x_isls x_engA x_engB (State.aps s) x_leaves x_ssets x_ctrs x_flow x_tod x_cln x_sec x_mem x_mgt x_upd x_tally x_bist) y0 = countsTree s y0 := rfl

/-! The entry of an island, an engine and a table after an update of it. -/

@[simp] theorem getEng_setEng (e k : Eng) (x : EngSt) (s : State) : getEng (setEng e x s) k = if k = e then x else getEng s k := by
  cases e <;> cases k <;> rfl

@[simp] theorem getEng_modEng (e k : Eng) (f : EngSt → EngSt) (s : State) :
    getEng (modEng e f s) k = if k = e then f (getEng s e) else getEng s k := by simp [modEng]

@[simp] theorem getEng_modDown (e k : Eng) (f : Down → Down) (s : State) :
    getEng (modDown e f s) k = if k = e then { getEng s e with down := f (getEng s e).down } else getEng s k := by simp [modDown]

@[simp] theorem getIsl_modIsl (i j : Isl) (f : IslSt → IslSt) (s : State) :
    getIsl (modIsl i f s) j = if j = i then f (getIsl s i) else getIsl s j := by simp [modIsl]

@[simp] theorem getFeed_modFeed (f k : Feed) (g : FeedSt → FeedSt) (s : State) :
    getFeed (modFeed f g s) k = if k = f then g (getFeed s f) else getFeed s k := by cases f <;> cases k <;> rfl

/-- What a new event record leaves of an island. -/
@[simp] theorem getIsl_raise (i j : Isl) (code obj : Nat) (data : BitVec 80) (s : State) :
    getIsl (raise i code obj data s) j =
      if j = i then
        { getIsl s i with
          seq := ((getIsl s i).seq + 1) % 2 ^ 32
          fifo := if (getIsl s i).fifo.length < 64 then (getIsl s i).fifo ++
              [⟨i.id, code, s.clk.epoch, (getIsl s i).seq, s.clk.sec, s.clk.ns, obj % 2 ^ 32, data⟩] else (getIsl s i).fifo
          lost := if (getIsl s i).fifo.length < 64 then (getIsl s i).lost else min ((getIsl s i).lost + 1) (2 ^ 32 - 1)
          lostSec := if (getIsl s i).fifo.length < 64 then (getIsl s i).lostSec else (getIsl s i).lostSec + 1 }
      else getIsl s j := by
  unfold raise
  rw [getIsl_modIsl]
  by_cases h : j = i
  · subst h
    by_cases k : (getIsl s j).fifo.length < 64 <;> simp [fifoCap, k]
  · simp [h]


@[simp] theorem getLeaf_setLeaf (e : Eng) (i n : Nat) (x : Leaf) (s : State) : getLeaf (setLeaf e i x s) e n = if n = i then x else getLeaf s e n := by
  have hk : leafKey s e n = leafKey s e i ↔ n = i := by unfold leafKey; omega
  show tget _ (tset _ _ _ _) (leafKey s e n) = _
  rw [tget_tset]
  by_cases h : n = i
  · rw [if_pos (hk.mpr h), if_pos h]
  · rw [if_neg (fun k => h (hk.mp k)), if_neg h]; rfl
@[simp] theorem getLeaf_modLeaf (e : Eng) (i n : Nat) (f : Leaf → Leaf) (s : State) : getLeaf (modLeaf e i f s) e n = if n = i then f (getLeaf s e i) else getLeaf s e n := by simp [modLeaf]

@[simp] theorem getSset_setSset (e : Eng) (i n : Nat) (x : Sset) (s : State) : getSset (setSset e i x s) e n = if n = i then x else getSset s e n := by
  have hk : ssetKey s e n = ssetKey s e i ↔ n = i := by unfold ssetKey; omega
  show tget _ (tset _ _ _ _) (ssetKey s e n) = _
  rw [tget_tset]
  by_cases h : n = i
  · rw [if_pos (hk.mpr h), if_pos h]
  · rw [if_neg (fun k => h (hk.mp k)), if_neg h]; rfl
@[simp] theorem getSset_modSset (e : Eng) (i n : Nat) (f : Sset → Sset) (s : State) : getSset (modSset e i f s) e n = if n = i then f (getSset s e i) else getSset s e n := by simp [modSset]

@[simp] theorem getCtr_setCtr (e : Eng) (i n : Nat) (x : Ctr) (s : State) : getCtr (setCtr e i x s) e n = if n = i then x else getCtr s e n := by
  have hk : ctrKey s e n = ctrKey s e i ↔ n = i := by unfold ctrKey; omega
  show tget _ (tset _ _ _ _) (ctrKey s e n) = _
  rw [tget_tset]
  by_cases h : n = i
  · rw [if_pos (hk.mpr h), if_pos h]
  · rw [if_neg (fun k => h (hk.mp k)), if_neg h]; rfl
@[simp] theorem getCtr_modCtr (e : Eng) (i n : Nat) (f : Ctr → Ctr) (s : State) : getCtr (modCtr e i f s) e n = if n = i then f (getCtr s e i) else getCtr s e n := by simp [modCtr]

@[simp] theorem getFlow_setFlow (i n : Nat) (x : Flow) (s : State) : getFlow (setFlow i x s) n = if n = i then x else getFlow s n := by
  show tget _ (tset _ _ _ _) n = _
  rw [tget_tset]; rfl
@[simp] theorem getFlow_modFlow (i n : Nat) (f : Flow → Flow) (s : State) : getFlow (modFlow i f s) n = if n = i then f (getFlow s i) else getFlow s n := by simp [modFlow]

@[simp] theorem getPort_setPort (i n : Nat) (x : PortSt) (s : State) : getPort (setPort i x s) n = if n = i then x else getPort s n := by
  show tget _ (tset _ _ _ _) n = _
  rw [tget_tset]; rfl
@[simp] theorem getPort_modPort (i n : Nat) (f : PortSt → PortSt) (s : State) : getPort (modPort i f s) n = if n = i then f (getPort s i) else getPort s n := by simp [modPort]

@[simp] theorem getLane_setLane (i n : Nat) (x : LaneSt) (s : State) : getLane (setLane i x s) n = if n = i then x else getLane s n := by
  show tget _ (tset _ _ _ _) n = _
  rw [tget_tset]; rfl
@[simp] theorem getLane_modLane (i n : Nat) (f : LaneSt → LaneSt) (s : State) : getLane (modLane i f s) n = if n = i then f (getLane s i) else getLane s n := by simp [modLane]

@[simp] theorem getSlot_setSlot (i n : Nat) (x : KeySlot) (s : State) : getSlot (setSlot i x s) n = if n = i then x else getSlot s n := by
  show tget _ (tset _ _ _ _) n = _
  rw [tget_tset]; rfl
@[simp] theorem getSlot_modSlot (i n : Nat) (f : KeySlot → KeySlot) (s : State) : getSlot (modSlot i f s) n = if n = i then f (getSlot s i) else getSlot s n := by simp [modSlot]

@[simp] theorem getBrx_setBrx (e : Eng) (i n : Nat) (x : BrxSt) (s : State) : getBrx (setBrx e i x s) e n = if n = i then x else getBrx s e n := by
  simp [getBrx, setBrx, tget_tset]
@[simp] theorem getBrx_modBrx (e : Eng) (i n : Nat) (f : BrxSt → BrxSt) (s : State) : getBrx (modBrx e i f s) e n = if n = i then f (getBrx s e i) else getBrx s e n := by simp [modBrx]
@[simp] theorem getGrp_setGrp (e : Eng) (i n : Nat) (x : GrpSt) (s : State) : getGrp (setGrp e i x s) e n = if n = i then x else getGrp s e n := by
  simp [getGrp, setGrp, tget_tset]

theorem feed_lt (f : Feed) : f.num < 2 := by cases f <;> decide
theorem eng_lt (f : Eng) : f.num < 2 := by cases f <;> decide

end Sys2Proof.Machine
end

