-- ==== Sys2Proof/Laws/Events.lean ====
section
/-! SUPPORT. What the shared operations say in the words of the statements: flags, event records, clock steps, counters, the fault
line, and the forms in which a command acts under a condition or a host write is accepted. -/

namespace Sys2Proof.Machine

/-! ## Flags (R498, R502) -/

theorem setFlagAt_set {a b : Nat} {s : State} (h : (getFlags s a).getLsbD b = true) :
    setFlagAt a b s = { s with rsc := tset 0 s.rsc (rscKey a b) (min 255 (tget 0 s.rsc (rscKey a b) + 1)) } := if_pos h

theorem setFlagAt_new {a b : Nat} {s : State} (h : (getFlags s a).getLsbD b = false) :
    setFlagAt a b s = { s with flags := tset 0 s.flags a (getFlags s a ||| BitVec.ofNat 32 (2 ^ b)) } :=
  if_neg (by rw [h]; exact Bool.false_ne_true)

theorem getLsbD_pow (b n : Nat) (hn : n < 32) : (BitVec.ofNat 32 (2 ^ b)).getLsbD n = decide (n = b) := by
  rw [BitVec.getLsbD_ofNat, Nat.testBit_two_pow]
  by_cases h : b = n <;> simp [h, hn]
  · omega

theorem getFlags_setFlagAt (a b c : Nat) (s : State) :
    getFlags (setFlagAt a b s) c = if c = a then getFlags s a ||| BitVec.ofNat 32 (2 ^ b) else getFlags s c := by
  cases h : (getFlags s a).getLsbD b
  · rw [setFlagAt_new h]; simp only [getFlags, tget_tset]
  · rw [setFlagAt_set h]
    split
    · next k =>
      subst k
      show getFlags s c = _
      apply BitVec.eq_of_getLsbD_eq
      intro n hn
      rw [BitVec.getLsbD_or, getLsbD_pow b n hn]
      by_cases e : n = b
      · subst e; simp [h]
      · simp [e]
    · rfl

theorem rsc_setFlagAt (a b k : Nat) (s : State) :
    tget 0 (setFlagAt a b s).rsc k =
      if k = rscKey a b ∧ (getFlags s a).getLsbD b = true then min 255 (tget 0 s.rsc k + 1) else tget 0 s.rsc k := by
  cases h : (getFlags s a).getLsbD b
  · rw [setFlagAt_new h]; simp
  · rw [setFlagAt_set h]
    by_cases e : k = rscKey a b
    · subst e; simp
    · simp [tget_tset, e]

/-- The word a flag stands in depends on the mode alone. -/
theorem flagAddr_congr {s u : State} (h : u.boot.paired = s.boot.paired) (r : Reg) (e : Eng) : flagAddr u r e = flagAddr s r e := by
  unfold flagAddr sharedEng; rw [h]

/-- Setting a flag by the hardware. -/
theorem flagged_setFlag {r : Reg} {e : Eng} {b : Nat} {s u t : State} (hp : u.boot.paired = s.boot.paired) (hf : u.flags = s.flags) (hr : u.rsc = s.rsc) (hb : b < 32)
    (h1 : t.flags = (setFlag r e b u).flags) (h2 : t.rsc = (setFlag r e b u).rsc) : flagged r e b s t := by
  unfold setFlag at h1 h2
  rw [flagAddr_congr hp] at h1 h2
  have g : ∀ c, getFlags t c = if c = flagAddr s r e then getFlags s c ||| BitVec.ofNat 32 (2 ^ b) else getFlags s c := by
    intro c
    have := getFlags_setFlagAt (flagAddr s r e) b c u
    unfold getFlags at this ⊢
    rw [h1]
    rw [this, hf]
    split <;> simp_all
  refine ⟨?_, ?_, ?_⟩
  · rw [g, if_pos rfl, BitVec.getLsbD_or, getLsbD_pow b b hb]; simp
  · intro c n h
    rw [g]
    split
    · next hc =>
      subst hc
      have hn : n ≠ b := by rcases h with h | h; exact absurd rfl h; exact h
      rw [BitVec.getLsbD_or]
      by_cases k : n < 32
      · rw [getLsbD_pow b n k]; simp [hn]
      · rw [BitVec.getLsbD_of_ge (BitVec.ofNat 32 _) _ (by omega), Bool.or_false]
    · rfl
  · intro k
    rw [h2]
    rw [rsc_setFlagAt]
    unfold getFlags
    rw [hf, hr]

/-- The flag words after the hardware set bit `b` of word `a`. -/
def flagSet (a b : Nat) (fl : Table W32) : Table W32 := if (tget 0 fl a).getLsbD b = true then fl else tset 0 fl a (tget 0 fl a ||| BitVec.ofNat 32 (2 ^ b))
/-- The set counts after it. -/
def rscSet (a b : Nat) (fl : Table W32) (q : Table Nat) : Table Nat := if (tget 0 fl a).getLsbD b = true then tset 0 q (rscKey a b) (min 255 (tget 0 q (rscKey a b) + 1)) else q

@[simp] theorem setFlagAt_fl (a b : Nat) (s : State) : (setFlagAt a b s).flags = flagSet a b s.flags ∧ (setFlagAt a b s).rsc = rscSet a b s.flags s.rsc := by
  unfold flagSet rscSet
  cases h : (getFlags s a).getLsbD b
  · rw [setFlagAt_new h]
    have k : ¬ (tget 0 s.flags a).getLsbD b = true := by unfold getFlags at h; rw [h]; simp
    exact ⟨(if_neg k).symm, (if_neg k).symm⟩
  · rw [setFlagAt_set h]
    exact ⟨(if_pos h).symm, (if_pos h).symm⟩

@[simp] theorem setFlag_fl (r : Reg) (e : Eng) (b : Nat) (s : State) : (setFlag r e b s).flags = flagSet (flagAddr s r e) b s.flags ∧ (setFlag r e b s).rsc = rscSet (flagAddr s r e) b s.flags s.rsc := setFlagAt_fl _ _ _

@[simp] theorem raiseF_fl (i c o d) (r : Reg) (e : Eng) (b : Nat) (s : State) : (raiseF i c o d r e b s).flags = flagSet (flagAddr s r e) b s.flags ∧ (raiseF i c o d r e b s).rsc = rscSet (flagAddr s r e) b s.flags s.rsc := by
  have h : flagAddr (raise i c o d s) r e = flagAddr s r e := flagAddr_congr (by simp) r e
  unfold raiseF; simp [h]

theorem flagged_of {r : Reg} {e : Eng} {b : Nat} {s t : State} (h1 : t.flags = flagSet (flagAddr s r e) b s.flags) (h2 : t.rsc = rscSet (flagAddr s r e) b s.flags s.rsc) (hb : b < 32) : flagged r e b s t :=
  flagged_setFlag (u := s) rfl rfl rfl hb (by simpa using h1) (by simpa using h2)

theorem flagged_congr {r : Reg} {e : Eng} {b : Nat} {s t t' : State} (h1 : t'.flags = t.flags) (h2 : t'.rsc = t.rsc) : flagged r e b s t' = flagged r e b s t := by
  simp only [flagged, getFlags_congr h1, h2]

@[simp] theorem flagged_setFlag' {r : Reg} {e : Eng} {b : Nat} {s u : State} (hp : u.boot.paired = s.boot.paired) (hf : u.flags = s.flags) (hr : u.rsc = s.rsc) (hb : b < 32) : flagged r e b s (setFlag r e b u) := flagged_setFlag hp hf hr hb rfl rfl

@[simp] theorem flagged_raiseF {i c o d} {r : Reg} {e : Eng} {b : Nat} {s u : State} (hp : u.boot.paired = s.boot.paired) (hf : u.flags = s.flags) (hr : u.rsc = s.rsc) (hb : b < 32) : flagged r e b s (raiseF i c o d r e b u) := flagged_setFlag (u := raise i c o d u) (by simpa using hp) (by simpa using hf) (by simpa using hr) hb rfl rfl

/-! ## Event records (R511, R513, R516) and clock steps (R65) -/

/-- An event record, made after updates that left the FIFOs and the time alone. -/
theorem recorded_raise {i : Isl} {code obj : Nat} {data : BitVec 80} {s u t : State}
    (hu : ∀ j, (getIsl u j).fifo = (getIsl s j).fifo ∧ (getIsl u j).seq = (getIsl s j).seq ∧ (getIsl u j).lost = (getIsl s j).lost)
    (hc : u.clk = s.clk)
    (ht : ∀ j, (getIsl t j).fifo = (getIsl (raise i code obj data u) j).fifo ∧ (getIsl t j).seq = (getIsl (raise i code obj data u) j).seq
      ∧ (getIsl t j).lost = (getIsl (raise i code obj data u) j).lost) : recorded i code obj data s t := by
  obtain ⟨f, q, l⟩ := hu i
  obtain ⟨f', q', l'⟩ := ht i
  simp only [getIsl_raise, if_true] at f' q' l'
  rw [f, q, hc] at f'
  rw [q] at q'
  rw [f, l] at l'
  refine ⟨q', f', l', fun j hj => ?_⟩
  obtain ⟨f, q, l⟩ := hu j
  obtain ⟨f', q', l'⟩ := ht j
  simp only [getIsl_raise, if_neg hj] at f' q' l'
  exact ⟨f'.trans f, q'.trans q, l'.trans l⟩

@[simp] theorem getIsl_raiseF (i : Isl) (c o : Nat) (d : BitVec 80) (r : Reg) (e : Eng) (b : Nat) (s : State) (j : Isl) : getIsl (raiseF i c o d r e b s) j = getIsl (raise i c o d s) j := by simp [raiseF]

@[simp] theorem stepIsl_fields (i : Isl) (cause : Nat) (f : IslSt → IslSt) (s : State) :
    (stepIsl i cause f s).pending = s.pending ∧ (stepIsl i cause f s).pwr = s.pwr ∧ (stepIsl i cause f s).clk = s.clk ∧
    (stepIsl i cause f s).flags = s.flags ∧ (stepIsl i cause f s).rsc = s.rsc ∧ (stepIsl i cause f s).regs = s.regs ∧
    (stepIsl i cause f s).mgt = s.mgt ∧ (stepIsl i cause f s).bist = s.bist ∧ (stepIsl i cause f s).engA = s.engA ∧
    (stepIsl i cause f s).engB = s.engB := by
  unfold stepIsl countCond
  dsimp only
  split
  · simp
  · split <;> simp

theorem getIsl_stepIsl_ne (i j : Isl) (cause : Nat) (f : IslSt → IslSt) (s : State) (h : j ≠ i) :
    getIsl (stepIsl i cause f s) j = getIsl s j := by
  unfold stepIsl countCond
  dsimp only
  split
  · simp [h]
  · split <;> simp [h]

/-- A step of an island's clock: what the update set, and beside it the record of the step. -/
theorem getIsl_stepIsl_stepping (i : Isl) (cause : Nat) (f : IslSt → IslSt) (s : State) :
    (getIsl (stepIsl i cause f s) i).stepping = (f (getIsl s i)).stepping := by
  unfold stepIsl countCond
  dsimp only
  split
  · simp
  · split <;> simp [IslSt.stepping]

theorem noteFault_cases (s t : State) : ∃ m, noteFault s t = { t with mgt := m } ∧ m.quiet = t.mgt.quiet := by
  unfold noteFault; split
  · exact ⟨_, rfl, rfl⟩
  · exact ⟨_, rfl, rfl⟩

@[simp] theorem noteFault_fields2 (s t : State) : (noteFault s t).pwr = t.pwr ∧ (noteFault s t).isls = t.isls ∧ (noteFault s t).clk = t.clk ∧ (noteFault s t).boot = t.boot ∧ (noteFault s t).pins = t.pins ∧ (noteFault s t).flags = t.flags ∧ (noteFault s t).rsc = t.rsc ∧ (noteFault s t).tally = t.tally ∧ (noteFault s t).engA = t.engA ∧ (noteFault s t).engB = t.engB ∧ (noteFault s t).flash = t.flash ∧ (noteFault s t).fuse = t.fuse ∧ (noteFault s t).bist = t.bist ∧ (noteFault s t).sec = t.sec ∧ (noteFault s t).upd = t.upd ∧ (noteFault s t).status = t.status ∧ (noteFault s t).flow = t.flow ∧ (noteFault s t).leaves = t.leaves ∧ (noteFault s t).mem = t.mem ∧ (noteFault s t).aps = t.aps ∧ (noteFault s t).mgt.quiet = t.mgt.quiet ∧ (noteFault s t).regs = t.regs := by
  obtain ⟨m, h, hq⟩ := noteFault_cases s t
  rw [h]; simp [hq]

@[simp] theorem noteFault_gets2 (s t : State) : (∀ i, getIsl (noteFault s t) i = getIsl t i) ∧ (∀ i, getEng (noteFault s t) i = getEng t i) ∧ (∀ i, getFeed (noteFault s t) i = getFeed t i) ∧ (∀ i, getFlags (noteFault s t) i = getFlags t i) := by
  exact ⟨getIsl_congr (by simp), getEng_congr (by simp) (by simp), getFeed_congr (by simp), getFlags_congr (by simp)⟩

theorem heldStep_stepping {x y : IslSt} (h : x.stepping = y.stepping) : heldStep x = heldStep y := by
  simp only [IslSt.stepping, Prod.mk.injEq] at h
  simp [heldStep, h]

theorem stepped_stepIsl {i : Isl} {cause : Nat} {f : IslSt → IslSt} {s : State} (h1 : (f (getIsl s i)).fifo = (getIsl s i).fifo)
    (h2 : (f (getIsl s i)).seq = (getIsl s i).seq) (h3 : (f (getIsl s i)).lost = (getIsl s i).lost) : stepped i cause s (stepIsl i cause f s) := by
  intro hne
  have hh : heldStep (getIsl (stepIsl i cause f s) i) = heldStep (f (getIsl s i)) := heldStep_stepping (getIsl_stepIsl_stepping _ _ _ _)
  rw [hh] at hne ⊢
  unfold stepIsl countCond
  dsimp only
  rw [if_neg (by simpa using fun h => hne h.symm)]
  split <;> simp +contextual [recorded, h1, h2, h3]

theorem stepped_noteFault {i : Isl} {cause : Nat} {s t u : State} (h : stepped i cause s t) : stepped i cause s (noteFault u t) := by
  simpa [stepped, recorded] using h

theorem raise_fifo (i : Isl) (c o : Nat) (d : BitVec 80) (u : State) : ∃ l, (getIsl (raise i c o d u) i).fifo = (getIsl u i).fifo ++ l := by
  simp only [getIsl_raise, if_true]
  split
  · exact ⟨_, rfl⟩
  · exact ⟨[], by simp⟩

theorem stepIsl_fifo (i : Isl) (cause : Nat) (f : IslSt → IslSt) (u : State) (h1 : ∀ x, (f x).fifo = x.fifo) :
    ∃ l, (getIsl (stepIsl i cause f u) i).fifo = (getIsl u i).fifo ++ l := by
  unfold stepIsl countCond
  dsimp only
  have h0 : (getIsl (modIsl i f u) i).fifo = (getIsl u i).fifo := by simp [h1]
  split
  · exact ⟨[], by rw [h0]; simp⟩
  · split
    · obtain ⟨l, h⟩ := raise_fifo i 0x0207 0 (packData [(8, heldStep (getIsl u i)), (8, heldStep (getIsl (modIsl i f u) i)), (8, cause)]) (count 1 i.row 2 (if (modeMask (modIsl i f u) 1).testBit 2 = true then 0 else 1) (modIsl i f u))
      refine ⟨l, ?_⟩
      rw [h, getIsl_congr (s := modIsl i f u) (by simp), h0]
    · obtain ⟨l, h⟩ := raise_fifo i 0x0207 0 (packData [(8, heldStep (getIsl u i)), (8, heldStep (getIsl (modIsl i f u) i)), (8, cause)]) (modIsl i f u)
      exact ⟨l, by rw [h, h0]⟩

theorem logged_stepIsl {i : Isl} {cause c o : Nat} {d : BitVec 80} {f : IslSt → IslSt} {s u : State} (h1 : ∀ x, (f x).fifo = x.fifo)
   (hu : (getIsl s i).fifo.length < 64 → (getIsl u i).fifo = (getIsl s i).fifo ++ [⟨i.id, c, s.clk.epoch, (getIsl s i).seq, s.clk.sec, s.clk.ns, o % 2 ^ 32, d⟩]) :
    logged i c o d s (stepIsl i cause f u) := by
  intro hl
  obtain ⟨l, h⟩ := stepIsl_fifo i cause f u h1
  exact ⟨l, by rw [h, hu hl]; simp⟩

theorem stepped_take {i : Isl} {cause : Nat} {f : IslSt → IslSt} {s u : State} (hu : ∀ j, getIsl u j = getIsl s j) (hc : u.clk = s.clk) (h1 : (f (getIsl u i)).fifo = (getIsl u i).fifo)
    (h2 : (f (getIsl u i)).seq = (getIsl u i).seq) (h3 : (f (getIsl u i)).lost = (getIsl u i).lost) : stepped i cause s (stepIsl i cause f u) := by
  have := stepped_stepIsl (cause := cause) h1 h2 h3
  simpa only [stepped, recorded, hu, hc] using this

theorem capStep_of {x y : IslSt} (h : x.stepping = y.stepping) : x.capStep = y.capStep := by simp only [IslSt.stepping, Prod.mk.injEq] at h; simp [h]

theorem capStep_stepIsl (i : Isl) (cause : Nat) (f : IslSt → IslSt) (s u : State) (hu : ∀ j, getIsl u j = getIsl s j) : (getIsl (stepIsl i cause f u) i).capStep = (f (getIsl s i)).capStep := by
  rw [capStep_of (getIsl_stepIsl_stepping _ _ _ _), hu]

theorem dspAll (f : IslSt → IslSt) (u s : State) (hu : ∀ j, getIsl u j = getIsl s j) (g : IslSt → Nat) (hg : ∀ x, (f x).capStep = g x) (hc : ∀ x y, x.capStep = y.capStep → g x = g y) :
    (∀ j, j ∈ dspIsls → (getIsl (forAll dspIsls (fun i => stepIsl i 2 f) u) j).capStep = g (getIsl s j)) ∧ ∀ j, j ∉ dspIsls → getIsl (forAll dspIsls (fun i => stepIsl i 2 f) u) j = getIsl s j := by
  have ne := fun (i j : Isl) (t : State) (h : j ≠ i) => getIsl_stepIsl_ne i j 2 f t h
  have eq := fun (i : Isl) (t : State) => capStep_of (getIsl_stepIsl_stepping i 2 f t)
  constructor
  · intro j hj
    simp only [dspIsls, List.mem_cons, List.not_mem_nil, or_false] at hj
    simp only [forAll, dspIsls, List.foldl]
    rcases hj with rfl | rfl | rfl | rfl
    · rw [ne, ne, ne, eq, hg, hu] <;> decide
    · rw [ne, ne, eq, hg, ne, hu] <;> decide
    · rw [ne, eq, hg, ne, ne, hu] <;> decide
    · rw [eq, hg, ne, ne, ne, hu] <;> decide
  · intro j hj
    simp only [dspIsls, List.mem_cons, List.not_mem_nil, or_false, not_or] at hj
    simp only [forAll, dspIsls, List.foldl]
    rw [ne _ _ _ hj.2.2.2, ne _ _ _ hj.2.2.1, ne _ _ _ hj.2.1, ne _ _ _ hj.1, hu]

theorem faultLow_floor {s : State} (i : Isl) (h1 : (getIsl s i).floorFault = true) (h2 : powered s = true) : faultLow s = true := by
  have h : Isl.all.any (fun i => (getIsl s i).floorFault) = true := by
    rw [List.any_eq_true]; exact ⟨i, by cases i <;> decide, h1⟩
  have : faultBits s ≠ 0 := by unfold faultBits; rw [h]; simp only [b01, if_true]; omega
  simp [faultLow, h2, this]

@[simp] theorem faultLow_noteFault (s t : State) : faultLow (noteFault s t) = faultLow t := by
  obtain ⟨m, h, -⟩ := noteFault_cases s t
  rw [h]; rfl

@[simp] theorem noteFault_mgt (s t : State) : (noteFault s t).mgt.da = t.mgt.da ∧ (noteFault s t).mgt.ibiEn = t.mgt.ibiEn ∧ (noteFault s t).mgt.ibiTry = t.mgt.ibiTry ∧ (noteFault s t).mgt.mwl = t.mgt.mwl ∧ (noteFault s t).mgt.mrl = t.mgt.mrl ∧ (noteFault s t).mgt.hdr = t.mgt.hdr ∧ (noteFault s t).mgt.arm = t.mgt.arm ∧ (noteFault s t).mgt.protoErr = t.mgt.protoErr ∧ (noteFault s t).mgt.wCode = t.mgt.wCode ∧ (noteFault s t).mgt.wWords = t.mgt.wWords ∧ (noteFault s t).mgt.wSeq = t.mgt.wSeq ∧ (noteFault s t).mgt.lastWrite = t.mgt.lastWrite ∧ (noteFault s t).mgt.rd = t.mgt.rd ∧ (noteFault s t).mgt.reply = t.mgt.reply ∧ (noteFault s t).mgt.cccReply = t.mgt.cccReply ∧ (noteFault s t).mgt.cccAck = t.mgt.cccAck ∧ (noteFault s t).mgt.ibiOut = t.mgt.ibiOut ∧ (noteFault s t).mgt.head = t.mgt.head ∧ (noteFault s t).mgt.ring = t.mgt.ring ∧ (noteFault s t).mgt.ibiHead = t.mgt.ibiHead ∧ (noteFault s t).mgt.headLat = t.mgt.headLat ∧ (noteFault s t).mgt.brxLat = t.mgt.brxLat ∧ (noteFault s t).mgt.prev = t.mgt.prev ∧ (noteFault s t).mgt.prevValid = t.mgt.prevValid := by
  have q := (noteFault_fields2 s t).2.2.2.2.2.2.2.2.2.2.2.2.2.2.2.2.2.2.2.2.1
  simp only [Mgt.quiet, Mgt.mk.injEq] at q
  simp [q]

theorem cleared_noteFault (s t : State) : cleared (noteFault s t) = cleared t := by
  obtain ⟨m, h, -⟩ := noteFault_cases s t
  rw [h]
  simp [cleared, volatileParts, Part.same]

theorem started_noteFault (s t u : State) : started u (noteFault s t) = started u t := by
  obtain ⟨m, h, q⟩ := noteFault_cases s t
  unfold started
  rw [cleared_noteFault]
  have q1 := congrArg Mgt.prev q
  have q2 := congrArg Mgt.prevValid q
  have q3 := congrArg Mgt.head q
  have q4 := congrArg Mgt.da q
  simp only [Mgt.quiet] at q1 q2 q3 q4
  simp [h, q1, q2, q3, q4]

theorem oncePerSec_new {code obj : Nat} {f : State → State} {s : State} (h : (code,obj) ∉ s.seenSec) : oncePerSec code obj f s = f { s with seenSec := (code, obj) :: s.seenSec } := if_neg h

/-! ## Counters (R552) -/

theorem addCount_tally {u s : State} (k o : Nat) : ∀ (fuel i n : Nat) (u s : State), u.tally = s.tally → (addCount k o fuel i n u).tally = (addCount k o fuel i n s).tally
  | 0, i, n, u, s, h => h
  | fuel + 1, i, n, u, s, h => by
    unfold addCount chainMask
    dsimp only
    rw [h]
    split
    · exact addCount_tally (u := u) (s := s) k o fuel _ _ _ _ rfl
    · rfl

theorem count_tally {u s : State} (h : u.tally = s.tally) (k o i n : Nat) : (count k o i n u).tally = (count k o i n s).tally := by
  unfold count chainMask
  rw [h]
  split
  · exact h
  · exact addCount_tally (u := u) (s := s) k o _ _ _ _ _ h

theorem countCond_tally {u s : State} (h : u.tally = s.tally) (k o i a b : Nat) : (countCond k o i a b u).tally = (countCond k o i a b s).tally := by
  unfold countCond modeMask
  rw [h]
  exact count_tally h _ _ _ _

/-! ## The forms of a meaning -/

/-- A command that acts under a condition: what it changes, and what holds after it. -/
theorem actsIf_act {c : Instr} {s : State} {g : Bool} {f : State → State} {m : Nat} {ps : List Part} {post : State → Prop}
    (he : exec c s = act g f s) (hk : ∀ t, act g f s = .next t → Same m s t) (hm : ∀ p, p ∉ ps → m.testBit p.bit = false)
    (hp : g = true → post (f s)) : ActsIf g c s ps post := by
  constructor
  · intro hg
    refine ⟨f s, ?_, ?_, hp hg⟩
    · rw [he, act, if_pos hg]
    · exact (hk _ (by rw [act, if_pos hg])).changesOnly hm
  · intro hg; rw [he, act, hg]; rfl

theorem actsIf_actF {c : Instr} {s : State} {g : Bool} {f : State → State} {m : Nat} {ps : List Part} {post : State → Prop}
    (he : exec c s = actF g f s) (hk : ∀ t, actF g f s = .next t → Same m s t) (hm : ∀ p, p ∉ ps → m.testBit p.bit = false)
    (hp : g = true → post (noteFault s (f s))) : ActsIf g c s ps post := by
  constructor
  · intro hg
    refine ⟨noteFault s (f s), ?_, ?_, hp hg⟩
    · rw [he, actF, if_pos hg]
    · exact (hk _ (by rw [actF, if_pos hg])).changesOnly hm
  · intro hg; rw [he, actF, hg]; rfl

theorem acts_next {c : Instr} {s t : State} {m : Nat} {ps : List Part} {post : State → Prop}
    (he : exec c s = .next t) (hk : Same m s t) (hm : ∀ p, p ∉ ps → m.testBit p.bit = false) (hp : post t) : Acts c s ps post :=
  ⟨t, he, hk.changesOnly hm, hp⟩

theorem writes_refuseOr {c : Instr} {s : State} {st : Status} {f : State → State} {m : Nat} {ps : List Part} {post : State → Prop}
    (he : exec c s = .next (setStatus (refuseOr st f s))) (hk : ∀ t, exec c s = .next t → Same m s t) (hm : ∀ p, p ∉ ps → m.testBit p.bit = false)
    (hp : st = .ok → post (setStatus (f s, .ok))) : Writes st c s ps post := by
  constructor
  · intro h
    refine ⟨_, he, (hk _ he).changesOnly hm, ?_, ?_⟩
    · simp [refuseOr, h, setStatus]
    · simp only [refuseOr, h, if_true]; exact hp h
  · intro h
    rw [he]; simp only [refuseOr, if_neg h, setStatus]

@[simp] theorem setStatus_gets (p : State × Status) : (∀ (y0 : Isl), getIsl (setStatus p) y0 = getIsl p.1 y0) ∧ (∀ (y0 : Isl), dpFence (setStatus p) y0 = dpFence p.1 y0) ∧ (∀ (y0 : Isl), islRuns (setStatus p) y0 = islRuns p.1 y0) ∧ (∀ (y0 : Isl), ctlRuns (setStatus p) y0 = ctlRuns p.1 y0) ∧ (∀ (y0 : Feed), getFeed (setStatus p) y0 = getFeed p.1 y0) ∧ (∀ (y0 : Eng), getEng (setStatus p) y0 = getEng p.1 y0) ∧ (∀ (y0 : Eng) (y1 : Nat), getLeaf (setStatus p) y0 y1 = getLeaf p.1 y0 y1) ∧ (∀ (y0 : Eng) (y1 : Nat), getSset (setStatus p) y0 y1 = getSset p.1 y0 y1) ∧ (∀ (y0 : Eng) (y1 : Nat), getCtr (setStatus p) y0 y1 = getCtr p.1 y0 y1) ∧ (∀ (y0 : Eng) (y1 : Nat), getGrp (setStatus p) y0 y1 = getGrp p.1 y0 y1) ∧ (∀ (y0 : Eng) (y1 : Nat), getBrx (setStatus p) y0 y1 = getBrx p.1 y0 y1) ∧ (∀ (y0 : Eng), treeOf (setStatus p) y0 = treeOf p.1 y0) ∧ (∀ (y0 : Eng) (y1 : Nat), leafKey (setStatus p) y0 y1 = leafKey p.1 y0 y1) ∧ (∀ (y0 : Eng) (y1 : Nat), ssetKey (setStatus p) y0 y1 = ssetKey p.1 y0 y1) ∧ (∀ (y0 : Eng) (y1 : Nat), ctrKey (setStatus p) y0 y1 = ctrKey p.1 y0 y1) ∧ (∀ (y0 : Nat), getFlow (setStatus p) y0 = getFlow p.1 y0) ∧ (∀ (y0 : Nat), getPort (setStatus p) y0 = getPort p.1 y0) ∧ (∀ (y0 : Nat), getLane (setStatus p) y0 = getLane p.1 y0) ∧ (∀ (y0 : Nat), getSlot (setStatus p) y0 = getSlot p.1 y0) ∧ (∀ (y0 : Reg) (y1 : Eng) (y2 : Nat), getReg (setStatus p) y0 y1 y2 = getReg p.1 y0 y1 y2) ∧ (∀ (y0 : Reg) (y1 : Eng) (y2 : Nat) (y3 : Nat) (y4 : Nat), regF (setStatus p) y0 y1 y2 y3 y4 = regF p.1 y0 y1 y2 y3 y4) ∧ (∀ (y0 : Nat), chainMask (setStatus p) y0 = chainMask p.1 y0) ∧ (∀ (y0 : Nat), modeMask (setStatus p) y0 = modeMask p.1 y0) ∧ (∀ (y0 : Nat), getFlags (setStatus p) y0 = getFlags p.1 y0) ∧ powered (setStatus p) = powered p.1 ∧ alive (setStatus p) = alive p.1 ∧ inService (setStatus p) = inService p.1 ∧ now (setStatus p) = now p.1 ∧ lcState (setStatus p) = lcState p.1 ∧ (∀ (y0 : Eng), countsTree (setStatus p) y0 = countsTree p.1 y0) := ⟨getIsl_congr rfl, dpFence_congr rfl, islRuns_congr rfl, ctlRuns_congr rfl, getFeed_congr rfl, getEng_congr rfl rfl, getLeaf_congr rfl rfl, getSset_congr rfl rfl, getCtr_congr rfl rfl, getGrp_congr rfl rfl, getBrx_congr rfl rfl, treeOf_congr rfl, leafKey_congr rfl, ssetKey_congr rfl, ctrKey_congr rfl, getFlow_congr rfl, getPort_congr rfl, getLane_congr rfl, getSlot_congr rfl, getReg_congr rfl, regF_congr rfl, chainMask_congr rfl, modeMask_congr rfl, getFlags_congr rfl, powered_congr rfl, alive_congr rfl, inService_congr rfl rfl, now_congr rfl, lcState_congr rfl, countsTree_congr rfl rfl⟩

@[simp] theorem setStatus_flds (p : State × Status) : (setStatus p).pending = p.1.pending ∧ (setStatus p).free = p.1.free ∧ (setStatus p).status = p.2 ∧ (setStatus p).got = p.1.got ∧ (setStatus p).pwr = p.1.pwr ∧ (setStatus p).pins = p.1.pins ∧ (setStatus p).clk = p.1.clk ∧ (setStatus p).fuse = p.1.fuse ∧ (setStatus p).flash = p.1.flash ∧ (setStatus p).boot = p.1.boot ∧ (setStatus p).regs = p.1.regs ∧ (setStatus p).flags = p.1.flags ∧ (setStatus p).rsc = p.1.rsc ∧ (setStatus p).seenTurn = p.1.seenTurn ∧ (setStatus p).seenSec = p.1.seenSec ∧ (setStatus p).isls = p.1.isls ∧ (setStatus p).engA = p.1.engA ∧ (setStatus p).engB = p.1.engB ∧ (setStatus p).aps = p.1.aps ∧ (setStatus p).leaves = p.1.leaves ∧ (setStatus p).ssets = p.1.ssets ∧ (setStatus p).ctrs = p.1.ctrs ∧ (setStatus p).flow = p.1.flow ∧ (setStatus p).tod = p.1.tod ∧ (setStatus p).cln = p.1.cln ∧ (setStatus p).sec = p.1.sec ∧ (setStatus p).mem = p.1.mem ∧ (setStatus p).mgt = p.1.mgt ∧ (setStatus p).upd = p.1.upd ∧ (setStatus p).tally = p.1.tally ∧ (setStatus p).bist = p.1.bist := ⟨rfl, rfl, rfl, rfl, rfl, rfl, rfl, rfl, rfl, rfl, rfl, rfl, rfl, rfl, rfl, rfl, rfl, rfl, rfl, rfl, rfl, rfl, rfl, rfl, rfl, rfl, rfl, rfl, rfl, rfl, rfl⟩

end Sys2Proof.Machine
end

