-- ==== Sys2Proof/Laws/Reception.lean ====
section
/-! SUPPORT. What the operations of a burst receiver leave of the receivers' records. -/

namespace Sys2Proof.Machine

@[simp] theorem getEng_modRx_rx (e k : Eng) (l : Nat) (f : LeafRx → LeafRx) (s : State) : (getEng (modRx e l f s) k).rx = (getEng s k).rx := by
  unfold modRx; by_cases h : k = e <;> simp [h]

@[simp] theorem getEng_modDefs_rx (e k : Eng) (l : Nat) (f : LeafRx → LeafRx) (s : State) : (getEng (modDefs e l f s) k).rx = (getEng s k).rx := by
  have h := keep_leafReports e l (leafRep s e l) (modRx e l f s)
  have q : getEng (modDefs e l f s) k = getEng (modRx e l f s) k := getEng_congr (h .engA (by decide)) (h .engB (by decide)) k
  rw [q, getEng_modRx_rx]

theorem getEng_seedMiss (e k : Eng) (n l x : Nat) (s : State) : getEng (seedMiss e n l x s) k = getEng s k := by
  have h := keep_seedMiss e n l x s
  exact getEng_congr (h .engA (by decide)) (h .engB (by decide)) k

@[simp] theorem getEng_modTurn_rx (e k : Eng) (w : Window) (f : TurnStat → TurnStat) (s : State) : (getEng (modTurn e w f s) k).rx = (getEng s k).rx := by
  unfold modTurn; by_cases h : k = e <;> simp [h]

/-- A command that brings no words takes none. -/
@[simp] theorem takeWords_nil (e : Eng) (s : State) : takeWords e [] s = s := by unfold takeWords; rw [if_pos rfl]

/-- Words go to receivers that run; elsewhere the word clock numbers them and nothing takes them. -/
theorem takeWords_down {e : Eng} {s : State} {ws : List RxWord} (h : rxUp (catchWords e ws.length s) e = false) (hw : ws ≠ []) :
    takeWords e ws s = missWords e ws.length (catchWords e ws.length s) := by
  unfold takeWords; rw [if_neg hw]; dsimp only; rw [if_neg (by rw [h]; exact Bool.false_ne_true)]

@[simp] theorem heard_eq (e : Eng) (ws : List RxWord) (f : State → Out) (s : State) : heard e ws f s = f (takeWords e ws s) := rfl

@[simp] theorem judge_rx (e k : Eng) (n : Nat) (g : Gate) (s : State) : (getEng (judge e n g s) k).rx = (getEng s k).rx := by
  unfold judge
  split
  · rfl
  all_goals
    dsimp only
    split
    · rfl
    · rw [getEng_modDefs_rx]
      by_cases h : k = e
      · split <;> split <;> simp [h, getEng_seedMiss]
      · split <;> split <;> simp [h, getEng_seedMiss]

theorem forAll_rx {α : Type} (f : α → State → State) (k : Eng) (hf : ∀ a s, (getEng (f a s) k).rx = (getEng s k).rx) (l : List α) (s : State) : (getEng (forAll l f s) k).rx = (getEng s k).rx := by
  unfold forAll
  induction l generalizing s with
  | nil => rfl
  | cons a l ih => rw [List.foldl_cons, ih, hf]

/-- The gates that stay after a settling: the closed ones in which nothing is being received, and nothing may be on a replay, are judged
and gone. -/
def settledGates (x : BrxSt) : List Gate := x.gates.filter (fun g => ! (g ∈ x.gates.filter (fun g => g.closed && ! windowBusy x g.w)))

theorem getBrx_congr_rx {e : Eng} {s t : State} (h : (getEng t e).rx = (getEng s e).rx) (n : Nat) : getBrx t e n = getBrx s e n := by simp [getBrx, h]

@[simp] theorem getBrx_settle (e : Eng) (n : Nat) (s : State) : getBrx (settle e n s) e n = { getBrx s e n with gates := settledGates (getBrx s e n) } := by
  unfold settle
  dsimp only
  rw [getBrx_congr_rx (forAll_rx (judge e n) e (fun a s => judge_rx e e n a s) _ _), getBrx_setBrx, if_pos rfl]
  rfl

@[simp] theorem loadPresets_st (g : Gate) (x : BrxSt) : (loadPresets g x).st = x.st ∧ (loadPresets g x).gates = x.gates := ⟨rfl, rfl⟩

/-- Where a receiver looks for bursts again: ARMED under a gate at the read position or on a replay, else CLOSED. -/
theorem rearm_st (x : BrxSt) : (rearm x).st = if (gateOf x x.pos).isSome || replayOpen x then .armed else .closed := by
  have g : gateOf { x with replay := none } x.pos = gateOf x x.pos := rfl
  have o : replayOpen x = true → x.replay.isSome = true := by unfold replayOpen; cases x.replay <;> simp
  unfold rearm
  by_cases r : replayOpen x = true
  · simp only [if_pos r]; cases h : gateOf x x.pos
    · simp [r, o r]
    · dsimp only; split <;> simp
  · simp only [if_neg r, g]; cases h : gateOf x x.pos
    · simp [Bool.not_eq_true _ ▸ r]
    · dsimp only; split <;> simp

@[simp] theorem rearm_gates (x : BrxSt) : (rearm x).gates = x.gates := by
  unfold rearm
  split <;> dsimp only <;> split <;> (try split) <;> simp

@[simp] theorem modWin_fields (f : Gate → Gate) (x : BrxSt) : (modWin f x).st = x.st ∧ (modWin f x).d = x.d ∧ (modWin f x).k = x.k ∧ (modWin f x).win = x.win ∧ (modWin f x).cur = x.cur ∧ (modWin f x).pos = x.pos ∧ (modWin f x).falseRun = x.falseRun ∧ (modWin f x).last = x.last ∧ (modWin f x).hdr = x.hdr ∧ (modWin f x).blk = x.blk ∧ (modWin f x).scr = x.scr ∧ (modWin f x).rises = x.rises ∧ (modWin f x).replay = x.replay ∧ (modWin f x).bytes = x.bytes := by
  unfold modWin; split <;> simp [modGate]

end Sys2Proof.Machine
end

