-- ==== Sys2Proof/WellFormed.lean ====
section
/-! DEFINITION. Well-formed commands: the operands lie in the ranges that the spec gives the quantity or the byte count they
stand for. A meaning is total on every command; nothing rests on this predicate but the tests that it refuses what it must. -/

namespace Sys2Proof

/-- A number fits in `n` bits, and a signed one in `n` bits of two's complement. -/
def bits (n x : Nat) : Bool := x < 2 ^ n
def signed (n : Nat) (x : Int) : Bool := -(2 ^ (n - 1)) ≤ x && x < 2 ^ (n - 1)

/-- A feed voltage in 10 mV (R75), and a temperature in 1/16 °C (R75, R245). -/
def volts (mv : Int) : Bool := signed 16 mv
def temps (t : Int) : Bool := signed 16 t

/-- A sensor of R73: the case, 0x40, or the die of an island, by its ID. -/
def sensors (n : Nat) : Bool := n = 0x40 || Isl.all.any (fun i => i.id = n)

/-- The largest image copy: LEN has 23 bits (R94, R114). -/
def copyMax : Nat := 2 ^ 23

/-- A square and a grant begin in their turn of 1,125,000 symbols (R294, R306, R307). -/
def squareFits (q : Square) : Bool := q.start < 1125000 && bits 16 q.len16
def grantFits (g : Grant) : Bool := g.start < 1125000 && 1 ≤ g.len && g.len ≤ 1125000

/-- The fields of an Announce (R371). -/
def ptpFits : PtpMsg → Bool
  | .announce cls acc var pri2 _ steps => bits 8 cls && bits 8 acc && bits 16 var && bits 8 pri2 && bits 16 steps
  | .sync _ | .followUp _ | .delayReq | .delayResp _ _ | .unsupported => true

/-- A span of 256 bytes touches at most five 64-byte words (R469). -/
def fetchFits : ReadOutcome → Bool
  | .corrected k | .poison k => k < 5
  | .clean | .collision => true

/-- A word holds 256 samples of 8 bits from each ADC (R202), and a monitor sample 10 bits and a phase in 1/64 (R232). -/
def wfWord (w : RxWord) : Bool :=
  [w.xi, w.xq, w.yi, w.yq].all (fun l => decide (l.length = 256) && l.all (signed 8))
def wfMon (x : MonWord) : Bool :=
  decide (x.vals.length = 4) && x.vals.all (signed 10) && decide (x.phase < 64)

/-- The operands of a command lie in their ranges. -/
def Instr.wf : Instr → Bool
  | .feedMated _ a1 a2 => volts a1 && temps a2
  | .pwrLow _ a1 => volts a1
  | .pwrLowClear _ a1 => volts a1
  | .pwrFeedLost _ a1 => volts a1
  | .pwrFeedHigh _ a1 => volts a1
  | .feedOvervoltSwitchOpen _ a1 => volts a1
  | .feedSwitchReclose _ a1 => volts a1
  | .feedRestored _ a1 => volts a1
  | .pwrFail a0 => volts a0
  | .emergencyShutdownEnd a0 _ => decide (a0 ≤ 4096)
  | .feedLossRestart a0 => volts a0
  | .pwrElasticSlip _ _ a2 => bits 16 a2
  | .pwrCapHit a0 => bits 16 a0
  | .capStepDown a0 => bits 16 a0
  | .capStepUp a0 => bits 16 a0
  | .thermHigh a0 => temps a0
  | .thermHighClear a0 => temps a0
  | .thermCrit a0 a1 => sensors a0 && temps a1
  | .resetNReleased _ _ a2 => temps a2
  | .imageCopyChecked a0 _ => decide (a0.length ≤ copyMax)
  | .powerGood _ a1 _ _ => volts a1
  | .brxGateOpen _ _ a2 a3 => decide (a2.gs < a2.ge) && a3.all wfWord
  | .burstDetected _ _ a2 => a2.all wfWord
  | .syncMatch _ _ a2 => a2.all wfWord
  | .syncDeadlineMiss _ _ a2 => a2.all wfWord
  | .headerChecked _ _ a2 => a2.all wfWord
  | .blockDecoded _ _ a2 => a2.all wfWord
  | .captureRise _ _ _ a3 => a3.all wfWord
  | .burstFall _ _ a2 => a2.all wfWord
  | .feGainTurnUpdate _ _ a2 => a2.all wfWord
  | .calTempCheck _ _ a2 => temps a2
  | .calRunStart _ _ a2 => temps a2
  | .calCollectDone _ _ a2 a3 => a2.all wfWord && a3.all wfMon
  | .calStarved _ a1 => a1.all wfWord
  | .calScDone _ a1 => signed 16 a1
  | .mapCompute _ a1 a2 => a1.all squareFits && a2.all grantFits
  | .mapRecomputeDone _ _ a2 => a2.all grantFits
  | .ptpMessageReceived a0 _ a2 => bits 8 a0 && ptpFits a2
  | .clnTrainingDone _ a1 a2 _ => bits 8 a1 && a2.all (bits 16)
  | .clnTrainFail _ a1 => bits 8 a1
  | .clnAlignFail _ a1 => bits 8 a1
  | .clnRefclkLost a0 => signed 16 a0
  | .clnRefclkOk a0 => signed 16 a0
  | .clnHiSer _ a1 => bits 16 a1
  | .leafFailReceived _ _ a2 => bits 8 a2
  | .scrubLapEnd _ a1 => bits 32 a1
  | .bgtBorrow _ a1 => decide (a1 < 16384)
  | .bgtMarchDone a0 _ => a0.all (fun w => decide (w < 16384))
  | .scratchpadWrite a0 a1 _ => decide (0x74000000 ≤ a0) && decide (a0 + a1.length ≤ 0x78000000) && decide (a1.length ≤ 256)
  | .i3cPrivateWrite _ a1 _ => decide (a1 ≤ 256)
  | .i3cReadSetup _ a1 => decide (a1 ≤ 256)
  | .i3cReadContinue a0 => decide (a0 ≤ 256)
  | .readFetchDone a0 => fetchFits a0
  | .cccSetmwl a0 => bits 16 a0
  | .cccSetmrl a0 => bits 16 a0
  | .engineImageRereadDone _ a1 => a1.all (fun r => decide (r.1.length ≤ copyMax)) && decide (a1.length ≤ 4)
  | .updStagingWrite a0 a1 => decide (a0 + a1.length ≤ 0x0F000000) && decide (a1.length ≤ 256)
  | .bistTestDone a0 => bits 32 a0.committed && bits 32 a0.detail
  | .bistTestCut a0 => bits 32 a0
  | .scrubberRead _ a1 _ => bits 28 a1
  | .holdupCharged | .shutdownLaserRampDone | .sagStart _ | .sagClear _ | .pwrDroopLong _
  | .droopStepDown _ | .pwrDroopFloor _ | .droopStepUp _ | .resetNAsserted | .shdnNAsserted | .shdnNReleased
  | .fusesRead | .sramInitDone | .firmwareAuthDone _ _ | .calRecordsChecked | .dramReady | .quickSuiteDone
  | .contextInitDone | .dramInitDone | .moduleReady | .engineLasersLocked _ | .engineTuneTimeout _
  | .calibrationDone _ | .engineRampComplete _ _ | .engineStartTimeout _ | .bootCtlRestart _ | .frameLaunch _
  | .dsGrpEnWrite _ _ | .groupRampOnStart _ _ | .groupEnvelopeFull _ _ | .dsGroupOn _ _ | .dsGroupOff _ _
  | .laserRampOnStart _ | .dsLaserOn _ | .dsLaserOff _ | .brxGateClose _ _
  | .burstEnd _ _ | .ssnHoldTimeout _ _ | .calRunRx _ | .calRunTx _ | .calStepDone _ _
  | .calRecordWrite _ _ _ | .calScGo _ _ | .calScRunStart _ | .frmSsetWrite _ _ _ _ | .frmSsetDone _ _
  | .frmCtrWrite _ _ _ _ | .containerChangeEffective _ _ | .engineDefectTurnEval _ _ | .sfSdHoldoffExpiry _ _
  | .apsPlannedNoticeDone | .apsRampOffDone | .apsNewEngineFullPower | .apsCommonOffsetApplied | .apsSettleTimeout
  | .apsWtrExpiry | .apsCmdClear | .apsCmdLo | .apsCmdFsA | .apsCmdFsB | .apsCmdMsA | .apsCmdMsB | .heldMessagesSend _
  | .timeMessageSend _ | .discoveryBurstProcess _ _ | .rangingBurstProcess _ _ | .rangingWindowMissed _ _
  | .burstReportProcess _ _ | .bankerRegSuccess _ _ | .bankerRegFailure _ _ | .regTimeout _ _
  | .leafDepartTimeout _ _ | .leafStickyExpiry _ _ | .leafCtlDereg _ _ _ | .leafCtlRerange _ _
  | .leafSerialWrite _ _ _ _ | .leafGrpWrite _ _ _ _ | .groupMembershipEffective _ _ | .clientFrameReceived _ _
  | .dsPacketLookup | .contextFetchDone _ _ | .usUnitLookup | .clientFrameTransmit _ | .contextSweep
  | .flowMoveTimeout _ | .flowContextWrite _ _ _ | .keyIndexRebuild _ | .todOffsetMeasured _ | .todSourceLost
  | .todHoldoverExpiry | .ppsInEdge | .todSetLoWrite _ | .todNowHiRead | .ptpAnnounceTx | .ptpSyncDelayTx
  | .secondBoundary | .clnPortWrite _ _ | .clnLaneWrite _ _ | .clnPortRefReady _ | .clnLinkUp _ _ _ | .clnLinkDown _ _
  | .unitEncrypt _ _ | .unitDecrypt | .slotGenerationDrained _ | .rekeyStart _ | .regRecordResend _ _
  | .leafKexReceived _ _ _ | .leafFinReceived _ _ _ | .rekeyAckReceived _ _ _ | .groupAckReceived _ _ _
  | .groupRekeyStart _ _ | .groupKeyRewriteTimeout _ _ | .shakerHealthFail _ _ | .shakerRetry _ | .secKeyCmdRekey _
  | .secProvCommit | .lcReturnArm | .lcReturnCommit | .lcVoidArm | .lcVoidCommit | .lcArmExpiry | .secLcChange _ _ _
  | .memMoveGo _ _ | .memMoveDone | .memMoveTimeout | .bgtYield | .registerWrite _ _ | .flagW1cWrite _ _ _
  | .i3cPrivateRead | .brxLastReadLatch _ _ | .secSlotIcHiRead _ | .evtHeadHiRead | .evtHeadLoRead | .mgtFaultRead
  | .cccEnec _ | .cccDisec _ | .cccEntas _ | .cccRstdaa | .cccEntdaa _ | .cccEnthdr0 | .cccRstact _ | .cccSetdasa _ _
  | .cccSetnewda _ | .cccGetmwl | .cccGetmrl | .cccGetpid | .cccGetbcr | .cccGetdcr | .cccGetmxds | .cccGetcaps
  | .cccGetstatus | .targetResetPattern | .eventRecordAppend _ | .ibiRequest | .mgtIbiNack | .islandSoftRestartCmd _
  | .islandHardResetCmd _ | .fenceNoticeAcked _ | .islandDrained _ | .drainTimeout _ | .stateSaveDone _
  | .islandResetDone _ | .updIslResume _ | .resumeBoundExceeded _ | .watchdogRestart _ _ | .engineCmdRestart _ _
  | .engineCmdStop _ _ | .engineCmdTxDark _ | .updCmdVerify | .updVerified | .updCmdApply | .updCmdCommit
  | .updCmdRollback | .updCmdClear | .updTrialExpiry | .updCommit _ _ | .tallyClearTot | .bistCtlShutdownTest
  | .bistCtlShutdownNotest | .bistShutdown | .shutdownStopDone | .shutdownRecordsSaved | .shutdownRecordWritten
  | .shutdownRailsOff | .aprReduce _ _ | .aprRestoreStart _ _ | .aprRestoreDone _ _ | .makerProgramming
  | .makerShipCommand | .makerVoidCommand | .transmitFault _ _ | .transmitFaultClear _ _ | .hiSerClear _
  | .prbsLockAcquired _ | .prbsLockLost _ | .upstreamOldGenerationExpiry _ => true

end Sys2Proof
end

