-- ==== Sys2Proof/Tests/Slice0.lean ====
section
/-! SUPPORT. Tests: small states, a witness for the hypotheses of each statement, an ill-formed command for each check of
well-formedness, and the worked examples of the manual. -/

namespace Sys2Proof.Tests

-- One theorem after another: `decide +kernel` waits for the kernel, and each theorem that waits holds a thread with its stack.
set_option Elab.async false

open Machine

/-! ## Small states -/

/-- The unpowered part, with its fuses programmed for service (LC SHIPPED). -/
def base : State := { State.reset with fuse := { State.reset.fuse with lcA := 3, lcB := 3, lcC := 3 } }
def blank : State := State.reset
def feedIn : FeedSt := { mated := true, volt := 4800 }
/-- One feed mated, no logic power. -/
def fed : State := { base with pwr := { feedA := feedIn } }
/-- In service: READY, both feeds, the start done. -/
def up : State := { base with
  pwr := { run := .ready, feedA := feedIn, feedB := feedIn }
  boot := { phase := 11, nvmBusy := false, fuses := true, fw := true, sram := true, imgDone := true, cal := true, dram := true, ctx := true, dramInit := true }
  sec := { shakerOk := true } }
/-- In service, without a life-cycle code. -/
def blankUp : State := { up with fuse := {} }
def low : State := { up with pwr := { up.pwr with feedA := { feedIn with low := true } } }
def swo : State := { up with pwr := { up.pwr with feedA := { feedIn with swOpen := true } } }
def lost : State := { up with pwr := { up.pwr with feedA := { feedIn with lost := true } } }
def isl (k : Isl) (x : IslSt) : State := setIsl k x up
/-- Starting, at the phase that has the fuses, the firmware, the memories. -/
def boot0 : State := { base with pwr := { base.pwr with run := .starting }, boot := { phase := 3, fuses := true } }
def boot1 : State := { boot0 with boot := { boot0.boot with fw := true } }
def boot2 : State := { boot1 with boot := { boot1.boot with dram := true } }
/-- In service with engine A in a state. -/
def eng (st : EngState) : State := setEng .A { st := st, enable := true } up
def ramped : State := setReg .dsGrpEn .A 0 0x11
  (setEng .A { st := .ramping, enable := true, squareSent := true, down := { laser := .lit, grp := [(0, { st := .on }), (4, { st := .on })] } } up)
def litEng (grp : Table GrpSt) (frames : Nat) : State :=
  setEng .A { st := .trafficReady, enable := true, down := { laser := .lit, grp := grp, framer := true, frames := frames } } up
def dimming : State := setEng .A { st := .failed, down := { laser := .rampingOff } } up
def window5 : Window := ⟨.granted, 4194304, 4196352, 5, 0, false, false⟩
def gate5 : Gate := { w := window5, lo := 4194272, hi := 4196384 }
def rxWith (x : BrxSt) : State := setEng .A { st := .trafficReady, enable := true, rx := [(0, x)] } up
/-- Armed at the gate's first symbol, with 16 symbols above threshold. -/
def rxDetects : State := rxWith { st := .armed, pos := 4194272, gates := [gate5], s0 := 4194272, strm := List.replicate 16 { env := 1 } }
/-- After a reception, with 16 symbols below threshold. -/
def rxFalls : State := rxWith { st := .waitFall, pos := 4194400, gates := [gate5], s0 := 4194400, strm := List.replicate 16 {} }
/-- A reception whose level rises by 3 dB right after its detection. -/
def rxRise : State :=
  rxWith { st := .header, pos := 4194400, d := 4194400, k := 4194500, win := some window5, gates := [gate5], s0 := 4194401, strm := List.replicate 32 { env := 300 } }
/-- A sync word matched, and the header's symbols are past. -/
def rxHeader : State :=
  rxWith { st := .header, pos := 4194400, d := 4194400, k := 4194500, win := some window5, gates := [gate5], s0 := 4195000 }
/-- 400 silent symbols have gone by since the detection. -/
def rxSilent : State := rxWith { st := .spec, pos := 4194400, d := 4194400, win := some window5, gates := [gate5], s0 := 4194800 }
def rxArmed : State := rxWith { st := .armed, pos := 4194272, gates := [gate5] }
/-- In the payload of a burst of `n` blocks. -/
def rxPay (n : Nat) : State :=
  rxWith { st := .payload, pos := 4194600, d := 4194600, k := 4194500, win := some window5, gates := [gate5], s0 := 4200000, hdr := BitVec.ofNat 128 n <<< 90 }
def rxWin : State := setEng .A { st := .trafficReady, enable := true, maps := [{ tn := 1, committed := true, recompute := false, squares := [], grants := [⟨5, 0, false, 0, false, 4096, 16⟩] }] } up
def held : State := setEng .A { st := .trafficReady, enable := true, lrx := [(5, { held := [⟨1, false, 0, [], true, 0⟩] })] } up
def calWith (rx : Bool) (c : CalSt) : State := setEng .A (if rx then { st := .trafficReady, enable := true, calRx := c }
  else { st := .trafficReady, enable := true, calTx := c }) up
def calDue : State := calWith true { st := .due }
def calCollect : State := calWith false { st := .collect, iter := 1 }
def calCollectRx : State := calWith true { st := .collect, iter := 1, runMs := 1 }
def calStep : State := calWith true { st := .step, iter := 1 }
def calPend : State := calWith true { pend := true }
def scBusyA : State := setEng .A { st := .trafficReady, enable := true, scReq := 3, scBusy := true } up
def scRunA : State := setEng .A { st := .trafficReady, enable := true, scReq := 3, scBusy := true, scRun := true } up
def aprEng (n : Nat) : State := setEng .A { st := .trafficReady, enable := true, down := { laser := .lit, apr := n } } up
def ssetPend : State := setSset .A 3 { pend := true } (eng .trafficReady)
def ctrPend : State := setCtr .A 7 { pend := true } (eng .trafficReady)
/-- In service in Paired mode, engine A working. -/
def pair : State := { setEng .B { st := .standby, enable := true } (eng .trafficReady) with
  boot := { up.boot with paired := true }, aps := { work := some .A } }
def switching (n : Nat) : State := { pair with aps := { pair.aps with target := some .B, st := n, notice := true, planned := true } }
def recomp : State := setEng .A { st := .trafficReady, enable := true, mapsStopped := false, maps := [{ tn := 5, committed := false, recompute := true, squares := [], grants := [] }] } up
def sending : State := setEng .A { st := .trafficReady, enable := true, mapsStopped := false } up
def heldMsgs : State := setEng .A { st := .trafficReady, enable := true, mapsStopped := false, down := { grp := [(0, { st := .on }), (4, { st := .on })], held := [.range 5 none 0] } } up
def framing : State := litEng [] 3
def reportIn (r : BurstRec) : State :=
  setEng .A { st := .trafficReady, enable := true, reports := [⟨r, window5, 0, [], 0, 0⟩] } up
def discov : State := reportIn { kind := 1, hdrValid := true }
def ranged : State := setLeaf .A 5 { st := .assigned } (reportIn { kind := 2, leaf := 5, hdrValid := true })
def reported1 : State := reportIn { leaf := 5, hdrValid := true }
def leafIn (st : LeafState) : State := setLeaf .A 5 { st := st, serial := 9 } (eng .trafficReady)
/-- Leaf 5 ASSIGNED, and a wide ranging window of it has closed without a good header. -/
def missing5 : State := { leafIn .assigned with engA := { (leafIn .assigned).engA with missed := [(5, true)] } }
def regLeaf (n : Nat) : State := setLeaf .A 5 { st := .registering, serial := 9, exch := { reg := n } } (eng .trafficReady)
def leafEff : State := setLeaf .A 5 { st := .active, serial := 9, grpEff := [(0, [])] } (eng .trafficReady)
def exchLeaf (n : Nat) : State :=
  setLeaf .A 5 { st := .registering, serial := 9, exch := { reg := n, running := true, lastRec := some (1, [2]) } } (eng .trafficReady)
def ackLeaf (n : Nat) : State := setLeaf .A 5 { st := .active, serial := 9, exch := { reg := 3, ackWait := n } } (eng .trafficReady)
def portIn (st : PortState) : State := { setReg .clnPort .A 0 1 (setReg .clnGrp .A 0 1 up) with
  cln := { refOk := true, ports := [(0, { st := st })] } }
def portUp : State := portIn .up
def hiSer : State := { portUp with cln := { portUp.cln with ports := [(0, { st := .up, hiSer := true })] } }
def noRef : State := { portUp with cln := { portUp.cln with refOk := false } }
def looped : State := setReg .clnLane .A 0 0x100 portUp
def prbsOn : State := { looped with cln := { looped.cln with lanes := [(0, { prbs := true })] } }
/-- 200 bits of the lane's pattern, and 64 that are all wrong behind a register of zeros. -/
def prbsBits : List Bool := (prbsRun (lanePam looped 0) (lanePat looped 0) 200 1).1
def prbsWrong : List Bool := (prbsRun (lanePam looped 0) (lanePat looped 0) 64 0).1.map (fun b => ! b)
def pktIn : State := { up with flow := { up.flow with ingress := [⟨0, []⟩] } }
def fetching : State := { up with flow := { up.flow with fetch := [(7, [(.ds 0 [], 0)])], reqs := [(7, [⟨.flow, 1, .dmem, 1⟩])] } }
def unitIn : State := { up with flow := { up.flow with usClear := [⟨.A, 5, 0, [], []⟩] } }
def frameOut : State := { portUp with flow := { up.flow with egress := [(0, [⟨7, false, [1]⟩])] } }
def flowIn : State := setFlow 7 { ctl := 0x80000001 } up
def moving : State := setFlow 7 { ctl := 0x80000001, moveActive := true } up
def badBucket : State := { up with flow := { up.flow with badBuckets := [3] } }
def pps : State := { up with tod := { up.tod with ppsSec := some 5, ppsOfs := some 0 } }
def locked : State := { pps with tod := { pps.tod with st := 2, source := 2 } }
def holdover : State := { up with tod := { up.tod with st := 3 } }
def ptpAs (n : Nat) : State := { portUp with tod := { up.tod with ptpOn := true, ptpPort := 0, portState := n } }
def ptp : State := ptpAs 6
def slotIn (st : SlotState) : State := setSlot 5 { st := st } up
def slotSeen : State := setSlot 8200 { st := .two, newSeen := true } up
def ctrQueued : State := setCtr .A 7 { queue := [⟨1, 0, false, 0, []⟩] } (eng .trafficReady)
def usHeld : State := { up with sec := { up.sec with usIn := [⟨.A, 5, 0, [], []⟩] } }
def noShaker : State := { up with sec := { up.sec with shakerOk := false } }
def rekeyable : State := setSlot 5 { st := .one } (setLeaf .A 5 { st := .active } (eng .trafficReady))
def rekeying : State := setSlot 5 { st := .one, want := some 0 } rekeyable
def grpWant : State := setSlot 16387 { st := .one } (modGk .A 3 (fun x => { x with want := true }) up)
def grpBusy : State := setSlot 16387 { st := .one } (modGk .A 3 (fun x => { x with busy := true }) up)
def provReady : State := { up with sec := { up.sec with prov := [(7, 1)] } }
def armedAs (a : LcArm) : State := { up with sec := { up.sec with arm := a } }
def passedRec : TestRec :=
  { kind := 1, suite := suiteFull, overall := resPass, seq := 0, sec := 0, ns := 0, lc := 1, fw := 0, durMs := 0, peak := 0, entries := [] }
def shippable : State := { up with fuse := { lcA := 1, lcB := 1, lcC := 1, drk := 5, drkSum := Config.drkCode 5 }, flash := { up.flash with recs := [passedRec] } }
def banked : State := setReg .memBank .A 63 0 (setReg .memBank .A 24 0x207 up)
def moveOn : State := { banked with mem := { up.mem with move := some (24, 63) } }
def scrubbing : State := setReg .memScrub .A 0 0x00100003 up
def testing : State := setReg .memBgt .A 0 1 banked
def borrowed24 : State := { testing with mem := { up.mem with bgt := some (24, 0) } }
def onBus : State := { up with mgt := { up.mgt with da := some 9 } }
def setRead : State := { onBus with mgt := { onBus.mgt with rd := some { adr := 0x05000000, len := 4 } } }
def ibiOn : State := { onBus with mgt := { onBus.mgt with ibiEn := true, ev := { pending := true } } }
def ibiSent : State := { onBus with mgt := { onBus.mgt with ibiTry := true, ibiOut := [1, 0, 0, 0, 0] } }
def withRecord : State := raise .flow 0x0901 0 0 up
def image0 : Image := { version := 1, len := 0, arb := 0, arbCommit := false, skipped := 0, digest := 0, recs := [] }
def cmdUp : State := { eng .trafficReady with boot := { up.boot with img := some image0 } }
def cmdDark : State := setEng .A { st := .trafficReady, enable := true, updStep := 2, updCmd := 1 } up
def rereading : State := setEng .A { st := .waiting, enable := true, reread := true } up
def updIn (st : UpdState) : State := { up with upd := { up.upd with st := st } }

/-- TRIAL, and its time is up. -/
def trialOver : State := { up with upd := { up.upd with st := .trial, trialEnd := some 0 } }

def shut (st phase : Nat) : State :=
  { up with bist := { up.bist with st := st, phase := phase, suite := suiteCustomer, todo := if st = 2 then [0x01, 0x02] else [] } }

/-! ## The hypotheses of the statements are met -/

theorem test_witness_power_feeds :
    ((fun (f : Feed) (_ _ : Int) (s : State) => ((! (getFeed s f).mated || (getFeed s f).lost) : Bool) = true) .A 4800 0 blank) ∧
    ((fun (f : Feed) (mv : Int) (s : State) => (((getFeed s f).mated && ! (getFeed s f).lost && ! (getFeed s f).low && mv < 3800) : Bool) = true) .A 3700 up) ∧
    ((fun (f : Feed) (mv : Int) (s : State) => (((getFeed s f).low && ! (getFeed s f).lost && 3850 ≤ mv) : Bool) = true) .A 3900 low) ∧
    ((fun (f : Feed) (mv : Int) (s : State) => ((! (getFeed s f).lost && mv < 2000) : Bool) = true) .A 1000 up) ∧
    ((fun (f : Feed) (mv : Int) (s : State) => (((getFeed s f).mated && ! (getFeed s f).high && 7600 < mv) : Bool) = true) .A 7700 up) ∧
    ((fun (f : Feed) (mv : Int) (s : State) => ((! (getFeed s f).swOpen && 8000 < mv) : Bool) = true) .A 8100 up) ∧
    ((fun (f : Feed) (mv : Int) (s : State) => (((getFeed s f).swOpen && mv < 7600) : Bool) = true) .A 7000 swo) ∧
    ((fun (f : Feed) (mv : Int) (s : State) => (((getFeed s f).mated && ((getFeed s f).lost || (getFeed s f).high) && ! (getFeed s f).swOpen && 3550 ≤ mv && mv ≤ 7600) : Bool) = true) .A 4800 lost) := by decide +kernel

theorem test_witness_droop_steps :
    ((fun (q : Sag) (s : State) => ((let i := q.isl; alive s && droops i && ! (getIsl s i).sag && decide (100 * regF s .pwrDroopCfg .A 0 3 0 < q.depth)) : Bool) = true) ⟨.flow, 500⟩ up) ∧
    ((fun (i : Isl) (s : State) => (((getIsl s i).sag) : Bool) = true) .flow (isl .flow { sag := true })) ∧
    ((fun (i : Isl) (s : State) => (((getIsl s i).sag && (getIsl s i).stretching) : Bool) = true) .flow (isl .flow { sag := true, stretching := true })) ∧
    ((fun (i : Isl) (s : State) => (((getIsl s i).sag && (getIsl s i).carried && 0 < (getIsl s i).sagStep && (getIsl s i).sagStep < floorStep i) : Bool) = true) .flow (isl .flow { sag := true, carried := true, sagStep := 1 })) ∧
    ((fun (i : Isl) (s : State) => (((getIsl s i).sag && (getIsl s i).carried && (getIsl s i).sagStep = floorStep i && 0 < floorStep i && ! (getIsl s i).floorDone) : Bool) = true) .flow (isl .flow { sag := true, carried := true, sagStep := 4 })) ∧
    ((fun (i : Isl) (s : State) => ((! (getIsl s i).sag && 0 < (getIsl s i).sagStep && ctlRuns s .pwr) : Bool) = true) .flow (isl .flow { sagStep := 1 })) ∧
    ((fun (_ : Eng) (_ : Bool) (words : Nat) (s : State) => ((alive s && 0 < words) : Bool) = true) .A true 3 up) := by decide +kernel

theorem test_witness_power_cap_and_heat :
    ((fun (power : Nat) (s : State) => ((alive s && ctlRuns s .pwr && capLimit s < power && ! s.pwr.capStepping) : Bool) = true) 18000 up) ∧
    ((fun (_ : Nat) (s : State) => ((alive s && ctlRuns s .pwr && s.pwr.capStepping) : Bool) = true) 18000 ({ up with pwr := { up.pwr with capActive := true, capStepping := true } })) ∧
    ((fun (power : Nat) (s : State) => ((alive s && ctlRuns s .pwr && s.pwr.capActive && power + 500 ≤ capLimit s) : Bool) = true) 100 ({ up with pwr := { up.pwr with capActive := true } })) ∧
    ((fun (temp : Int) (s : State) => ((powered s && ! s.pwr.therm && thermLimit s < temp) : Bool) = true) 1600 up) ∧
    ((fun (temp : Int) (s : State) => ((powered s && s.pwr.therm && temp ≤ thermLimit s - 32) : Bool) = true) 100 ({ up with pwr := { up.pwr with therm := true } })) ∧
    ((fun (sensor : Nat) (temp : Int) (s : State) => ((powered s && s.pwr.emerg ≠ .thermCrit && critTemp sensor temp) : Bool) = true) 0x40 1600 up) := by decide +kernel

theorem test_witness_power_cycles :
    ((fun (f : Feed) (mv : Int) (_ _ : Bool) (s : State) => ((s.pwr.run = .off && (getFeed s f).mated && ! (getFeed s f).swOpen && 3550 ≤ mv && ! s.pwr.lossOff && ! s.pwr.critOff) : Bool) = true) .A 4800 false true fed) ∧
    ((fun (s : State) => ((powered s) : Bool) = true) up) ∧
    ((fun (mv : Int) (s : State) => ((s.pwr.run = .off && s.pwr.lossOff && 3550 ≤ mv) : Bool) = true) 4800 ({ fed with pwr := { fed.pwr with lossOff := true } })) ∧
    ((fun (_ : State) => ((true) : Bool) = true) up) ∧
    ((fun (_ _ : Bool) (_ : Int) (s : State) => ((! s.pins.resetN) : Bool) = true) true false 0 ({ up with pins := { up.pins with resetN := false } })) ∧
    ((fun (_ : State) => ((true) : Bool) = true) up) ∧
    ((fun (s : State) => ((! s.pins.shdnN || (s.pwr.run = .standby && ! s.pwr.cmdOff)) : Bool) = true) ({ up with pins := { up.pins with shdnN := false } })) ∧
    ((fun (v : W32) (s : State) => (((writeGate s .mgt).worse (if fld v 15 0 = 0xB007 && ! s.boot.nvmBusy && s.pwr.emerg = .none then .ok else .errState)) : Status) = .ok) 0xB007 up) := by decide +kernel

theorem test_witness_emergency_shutdown :
    ((fun (mv : Int) (s : State) => ((powered s && s.pwr.emerg ≠ .powerFail && ! s.pwr.pfInCrit && mv < 3400) : Bool) = true) 3000 up) ∧
    ((fun (s : State) => ((s.pwr.emerg ≠ .none && s.pwr.emergStep = 0) : Bool) = true) ({ up with pwr := { up.pwr with emerg := .powerFail } })) ∧
    ((fun (_ : Nat) (_ : Bool) (s : State) => ((s.pwr.emerg ≠ .none && s.pwr.emergStep = 1) : Bool) = true) 3 true ({ up with pwr := { up.pwr with emerg := .powerFail, emergStep := 1 } })) := by decide +kernel

theorem test_witness_start_steps :
    ((fun (s : State) => ((starting s && ! s.boot.fuses) : Bool) = true) ({ base with pwr := { base.pwr with run := .starting } })) ∧
    ((fun (s : State) => ((starting s && s.boot.fuses) : Bool) = true) boot0) ∧
    ((fun (_ _ : Bool) (s : State) => ((starting s && s.boot.fuses && ! s.boot.fw) : Bool) = true) true false boot0) ∧
    ((fun (s : State) => ((starting s && s.boot.fw && ! s.boot.cal) : Bool) = true) boot1) ∧
    ((fun (s : State) => ((starting s && s.boot.fuses && ! s.boot.dram) : Bool) = true) boot0) ∧
    ((fun (s : State) => ((starting s && s.boot.dram && ! s.boot.quickRun && ! s.boot.ctx) : Bool) = true) boot2) ∧
    ((fun (s : State) => ((powered s && s.boot.ctx) : Bool) = true) ({ boot2 with boot := { boot2.boot with ctx := true } })) := by decide +kernel

theorem test_witness_start_image :
    ((fun (_ : List Byte) (_ : FlashRead) (s : State) => ((starting s && s.boot.imgState = 1) : Bool) = true) [] ⟨true, false, [], []⟩ ({ boot0 with boot := { boot0.boot with imgState := 1 } })) ∧
    ((fun (s : State) => ((starting s && s.boot.quickRun && ! s.boot.quickDone && s.bist.todo = []) : Bool) = true) ({ boot2 with boot := { boot2.boot with quickRun := true } })) ∧
    ((fun (s : State) => ((starting s && s.boot.sram && s.boot.fw && s.boot.imgDone && s.boot.cal && s.boot.ctx) : Bool) = true) ({ boot2 with boot := { boot2.boot with sram := true, fw := true, imgDone := true, cal := true, ctx := true } })) := by decide +kernel

theorem test_witness_engine_start :
    ((fun (e : Eng) (s : State) => ((inService s && (getEng s e).st = .tuning) : Bool) = true) .A (eng .tuning)) ∧
    ((fun (e : Eng) (s : State) => ((inService s && (getEng s e).st = .tuning) : Bool) = true) .A (eng .tuning)) ∧
    ((fun (e : Eng) (s : State) => ((inService s && (getEng s e).st = .calibrating && (getEng s e).calTx.st = .idle && ! (getEng s e).calTx.again) : Bool) = true) .A (eng .calibrating)) ∧
    ((fun (e : Eng) (_ : Bool) (s : State) => ((inService s && rampDone s e) : Bool) = true) .A true ramped) ∧
    ((fun (e : Eng) (s : State) => ((inService s && ((getEng s e).st = .tuning || (getEng s e).st = .calibrating || (getEng s e).st = .ramping)) : Bool) = true) .A (eng .ramping)) := by decide +kernel

theorem test_witness_down_group_states :
    ((fun (e : Eng) (v : W32) (s : State) => (((engWriteGate s e e.txd).worse (if (writeTargets s e).any (fun t => grpEnRefused s t v) then .errState else .ok)) : Status) = .ok) .A 0x11 (eng .trafficReady)) ∧
    ((fun (e : Eng) (g : Grp) (s : State) => ((inService s && (getGrp s e g).st = .waiting && atMultiframe s e && lit s e) : Bool) = true) .A 1 (litEng [(1, { st := .waiting })] 256)) ∧
    ((fun (e : Eng) (g : Grp) (s : State) => ((inService s && (getGrp s e g).st = .rampOn && lit s e) : Bool) = true) .A 1 (litEng [(1, { st := .rampOn })] 300)) ∧
    ((fun (e : Eng) (g : Grp) (s : State) => ((inService s && (getGrp s e g).st = .settling && atMultiframe s e && (getGrp s e g).fullAt + 8 ≤ (getEng s e).down.frames) : Bool) = true) .A 1 (litEng [(1, { st := .settling })] 512)) ∧
    ((fun (e : Eng) (g : Grp) (s : State) => (((getGrp s e g).st = .rampOff && s.pwr.emerg = .none) : Bool) = true) .A 1 (litEng [(1, { st := .rampOff })] 512)) := by decide +kernel

theorem test_witness_down_laser :
    ((fun (e : Eng) (s : State) => ((inService s && (getEng s e).st = .ramping && (getEng s e).down.laser = .dark && atMultiframe s e) : Bool) = true) .A (eng .ramping)) ∧
    ((fun (e : Eng) (s : State) => ((inService s && (getEng s e).st = .ramping && (getEng s e).down.laser = .rampingOn) : Bool) = true) .A ({ eng .ramping with engA := { (eng .ramping).engA with down := { laser := .rampingOn } } })) ∧
    ((fun (e : Eng) (s : State) => (((getEng s e).down.laser = .rampingOff && ! switchesOff s e) : Bool) = true) .A dimming) ∧
    ((fun (e : Eng) (s : State) => ((mayLaunch s e) : Bool) = true) .A (eng .ramping)) := by decide +kernel

theorem test_witness_burst_reception :
    ((fun (e : Eng) (sc : Sc) (w : Window) (ws : List RxWord) (s : State) => ((let u := takeWords e ws s; rxUp u e && (windowOf u e sc w).isSome && (! (getBrx u e sc).gates.any (fun g => g.w = w) || ((getBrx u e sc).st = .closed && noted (getBrx u e sc) w))) : Bool) = true) .A 0 ⟨.granted, 1129096, 1129112, 5, 0, false, false⟩ [] rxWin) ∧
    ((fun (e : Eng) (sc : Sc) (s : State) => ((rxUp s e && (openGates (getBrx s e sc) ≠ [] || ((getBrx s e sc).st = .armed && (getBrx s e sc).replay.isSome))) : Bool) = true) .A 0 rxArmed) ∧
    ((fun (e : Eng) (sc : Sc) (ws : List RxWord) (s : State) => ((let u := takeWords e ws s; rxUp u e && (getBrx u e sc).st = .armed && (detectAt (getBrx u e sc)).isSome) : Bool) = true) .A 0 [] rxDetects) ∧
    ((fun (e : Eng) (sc : Sc) (ws : List RxWord) (s : State) => ((let u := takeWords e ws s; rxUp u e && (getBrx u e sc).st = .waitFall && (fallAt (getBrx u e sc)).isSome) : Bool) = true) .A 0 [] rxFalls) := by decide +kernel

theorem test_witness_burst_payload :
    ((fun (e : Eng) (sc : Sc) (ws : List RxWord) (s : State) => ((let u := takeWords e ws s; rxUp u e && (getBrx u e sc).st = .header && (curGate (getBrx u e sc)).isSome && (getBrx u e sc).k + 68 < topSym (getBrx u e sc)) : Bool) = true) .A 0 [] rxHeader) ∧
    ((fun (e : Eng) (sc : Sc) (ws : List RxWord) (s : State) => ((let u := takeWords e ws s; rxUp u e && (getBrx u e sc).st = .payload && (getBrx u e sc).blk < hdrBlocks (getBrx u e sc).hdr && blockEnd (getBrx u e sc) (getBrx u e sc).blk + 31 < topSym (getBrx u e sc) && ! risePending (getBrx u e sc) (blockEnd (getBrx u e sc) (getBrx u e sc).blk)) : Bool) = true) .A 0 [] (rxPay 1)) ∧
    ((fun (e : Eng) (sc : Sc) (s : State) => ((rxUp s e && (getBrx s e sc).st = .payload && (getBrx s e sc).blk = hdrBlocks (getBrx s e sc).hdr) : Bool) = true) .A 0 (rxPay 0)) ∧
    ((fun (e : Eng) (sc : Sc) (c0 : Int) (ws : List RxWord) (s : State) => ((let u := takeWords e ws s; rxUp u e && receiving (getBrx u e sc) && (curGate (getBrx u e sc)).isSome && riseOnset (getBrx u e sc) c0) : Bool) = true) .A 0 4194401 [] rxRise) ∧
    ((fun (e : Eng) (l : LeafId) (s : State) => ((inService s && (getRx s e l).cur = none && ((getRx s e l).held.find? (fun g => g.done)).isSome) : Bool) = true) .A 5 held) := by decide +kernel

theorem test_witness_calibration_runs :
    ((fun (_ : Eng) (_ : Bool) (_ : Int) (s : State) => ((inService s) : Bool) = true) .A true 400 (eng .trafficReady)) ∧
    ((fun (e : Eng) (rx : Bool) (_ : Int) (s : State) => ((inService s && (getCal s e rx).st = .due && calEligible s e rx) : Bool) = true) .A true 400 calDue) ∧
    ((fun (e : Eng) (rx : Bool) (ws : List RxWord) (mon : List MonWord) (s : State) => ((let u := takeWords e ws s; inService u && (getCal u e rx).st = .collect && (getCal u e rx).runMs * wordsPerMs ≤ qualifiedWords u e rx mon) : Bool) = true) .A false [] [] calCollect) ∧
    ((fun (e : Eng) (ws : List RxWord) (s : State) => ((let u := takeWords e ws s; inService u && (getCal u e true).st = .collect && qualifiedWords u e true [] < (getCal u e true).runMs * wordsPerMs) : Bool) = true) .A [] calCollectRx) ∧
    ((fun (e : Eng) (rx : Bool) (s : State) => ((inService s && (getCal s e rx).st = .step && stepReached s e rx) : Bool) = true) .A true calStep) ∧
    ((fun (e : Eng) (rx _ : Bool) (s : State) => ((powered s && s.pwr.emerg ≠ .powerFail && (getCal s e rx).pend && (match tget none s.flash.calWr (calIsl e rx).row with | none => true | some u => u + 600000000000 ≤ (s.clk.now : Int))) : Bool) = true) .A true true calPend) := by decide +kernel

theorem test_witness_calibration_commands :
    ((fun (e : Eng) (s : State) => ((engWriteGate s e e.rxc) : Status) = .ok) .A (eng .trafficReady)) ∧
    ((fun (e : Eng) (s : State) => ((engWriteGate s e e.txc) : Status) = .ok) .A (eng .trafficReady)) ∧
    ((fun (e : Eng) (_ : Sc) (s : State) => (((engWriteGate s e e.txc).worse (if scGoRefused s e then .errState else .ok)) : Status) = .ok) .A 3 (eng .trafficReady)) ∧
    ((fun (e : Eng) (s : State) => ((inService s && (getEng s e).scBusy && ! (getEng s e).scRun && (getEng s e).calTx.st ≠ .collect && (getEng s e).calTx.st ≠ .step) : Bool) = true) .A scBusyA) ∧
    ((fun (e : Eng) (_ : Int) (s : State) => ((inService s && (getEng s e).scRun) : Bool) = true) .A 700 scRunA) ∧
    ((fun (e : Eng) (_ : Fin 4) (ws : List RxWord) (s : State) => ((let u := takeWords e ws s; inService u && ((getEng u e).st = .trafficReady || (getEng u e).st = .standby)) : Bool) = true) .A 0 [] (eng .trafficReady)) := by decide +kernel

theorem test_witness_power_reduction :
    ((fun (e : Eng) (refl : Int) (s : State) => ((alive s && boosterOn s e && (getEng s e).down.apr ≠ 1 && -2000 < refl) : Bool) = true) .A (-1900) (litEng [] 0)) ∧
    ((fun (e : Eng) (refl : Int) (s : State) => ((alive s && boosterOn s e && (getEng s e).down.apr = 1 && refl ≤ -2400) : Bool) = true) .A (-2500) (aprEng 1)) ∧
    ((fun (e : Eng) (_ : Int) (s : State) => ((alive s && boosterOn s e && (getEng s e).down.apr = 2) : Bool) = true) .A (-2500) (aprEng 2)) := by decide +kernel

theorem test_witness_slot_sets_and_containers :
    ((fun (e : Eng) (ss : SsetIx) (w : Fin 8) (v : W32) (s : State) => (((engWriteGate s e e.txd).worse (if ssetRefused s e ss w (v &&& 0x801FFFFF) then .errState else .ok)) : Status) = .ok) .A 3 0 0 (eng .trafficReady)) ∧
    ((fun (e : Eng) (ss : SsetIx) (s : State) => ((inService s && (getSset s e ss).pend && (getSset s e ss).effFrame ≤ treeFrames s e) : Bool) = true) .A 3 ssetPend) ∧
    ((fun (e : Eng) (c : Cid) (w : Fin 2) (v : W32) (s : State) => (((engWriteGate s e e.txd).worse (if w.val = 0 then (if ctrRefused s e c (v &&& 0xFFFF01FF) then .errState else .ok) else (if 1023 < fld v 15 0 then .errState else .ok))) : Status) = .ok) .A 7 1 5 (eng .trafficReady)) ∧
    ((fun (e : Eng) (c : Cid) (s : State) => ((inService s && (getCtr s e c).pend && (getCtr s e c).effFrame ≤ treeFrames s e) : Bool) = true) .A 7 ctrPend) := by decide +kernel

theorem test_witness_protection_switch_1 :
    ((fun (e : Eng) (_ : Int) (s : State) => ((inService s && ((getEng s e).st = .trafficReady || (getEng s e).st = .standby) && ! turnOpen (getEng s e) (turnDue (getEng s e)).1) : Bool) = true) .A (-1500) (eng .trafficReady)) ∧
    ((fun (e : Eng) (sd : Bool) (s : State) => ((inService s && (if sd then (getEng s e).sdWait && sdCause s e else (getEng s e).sfWait && sfCause s e)) : Bool) = true) .A false ({ eng .failed with engA := { (eng .failed).engA with sfWait := true } })) ∧
    ((fun (_ : Eng) (_ : TxCause) (s : State) => ((inService s) : Bool) = true) .A .laser up) ∧
    ((fun (_ : Eng) (_ : TxCause) (s : State) => ((inService s) : Bool) = true) .A .laser up) ∧
    ((fun (s : State) => ((inService s && s.aps.st = 2 && s.aps.notice) : Bool) = true) (switching 2)) ∧
    ((fun (s : State) => ((inService s && s.aps.st = 2 && ! s.aps.notice && ! s.aps.rampOn) : Bool) = true) ({ switching 2 with aps := { (switching 2).aps with notice := false } })) ∧
    ((fun (s : State) => ((inService s && s.aps.st = 2 && s.aps.rampOn) : Bool) = true) ({ switching 2 with aps := { (switching 2).aps with notice := false, rampOn := true } })) ∧
    ((fun (s : State) => ((inService s && s.aps.st = 3 && 64 ≤ s.aps.errs.length) : Bool) = true) ({ switching 3 with aps := { (switching 3).aps with errs := List.replicate 64 (5, 100) } })) := by decide +kernel

theorem test_witness_protection_switch_2 :
    ((fun (s : State) => ((inService s && s.aps.st = 3 && s.aps.errs.length < 64) : Bool) = true) (switching 3)) ∧
    ((fun (s : State) => ((inService s && s.boot.paired && s.aps.st = 1) : Bool) = true) (switching 1)) := by decide +kernel

theorem test_witness_protection_commands :
    ((fun (s : State) => (((engWriteGate s .A .aTxd).worse (if apsCmdRefused s 0 then .errState else .ok)) : Status) = .ok) pair) ∧
    ((fun (s : State) => (((engWriteGate s .A .aTxd).worse (if apsCmdRefused s 1 then .errState else .ok)) : Status) = .ok) pair) ∧
    ((fun (s : State) => (((engWriteGate s .A .aTxd).worse (if apsCmdRefused s 2 then .errState else .ok)) : Status) = .ok) pair) ∧
    ((fun (s : State) => (((engWriteGate s .A .aTxd).worse (if apsCmdRefused s 3 then .errState else .ok)) : Status) = .ok) pair) ∧
    ((fun (s : State) => (((engWriteGate s .A .aTxd).worse (if apsCmdRefused s 4 then .errState else .ok)) : Status) = .ok) pair) ∧
    ((fun (s : State) => (((engWriteGate s .A .aTxd).worse (if apsCmdRefused s 5 then .errState else .ok)) : Status) = .ok) pair) := by decide +kernel

theorem test_witness_scheduler :
    ((fun (e : Eng) (squares : List Square) (grants : List Grant) (s : State) => ((schedRuns s e && ! (getEng s e).maps.any (fun m => m.tn = turnOf s e + 3) && squaresOk (basisOf s e (turnOf s e + 3)) (turnOf s e + 3) squares && legalMap s e (basisOf s e (turnOf s e + 3)) (turnOf s e + 3) squares grants) : Bool) = true) .A [⟨0, false, 0, 0, 1389⟩] [] sending) ∧
    ((fun (e : Eng) (tn : Nat) (grants : List Grant) (s : State) => ((schedRuns s e && (match recomputing s e tn with | some m => legalMap s e (m.next.getD m.basis) tn m.squares grants | none => false)) : Bool) = true) .A 5 [] recomp) ∧
    ((fun (e : Eng) (s : State) => ((inService s && treeEng s e = e && ctlUp s e && (getEng s e).down.held ≠ []) : Bool) = true) .A heldMsgs) ∧
    ((fun (e : Eng) (s : State) => ((inService s && dpFence s .tod = .run && treeEng s e = e && (getEng s e).down.framer) : Bool) = true) .A framing) := by decide +kernel

theorem test_witness_discovery :
    ((fun (e : Eng) (sc : Sc) (s : State) => ((inService s && treeEng s e = e && (getEng s e).reports.any (fun q => isDisc q && q.r.sc = sc.val)) : Bool) = true) .A 0 discov) ∧
    ((fun (e : Eng) (l : LeafId) (s : State) => ((inService s && treeEng s e = e && ctlRuns s e.txd && (getEng s e).reports.any (fun q => isRang q && q.r.leaf = l.val)) : Bool) = true) .A 5 ranged) ∧
    ((fun (e : Eng) (l : LeafId) (s : State) => ((inService s && treeEng s e = e && ctlRuns s e.txd && (missedOf s e l).isSome) : Bool) = true) .A 5 missing5) ∧
    ((fun (e : Eng) (sc : Sc) (s : State) => ((inService s && (getEng s e).reports.any (fun q => ! isDisc q && ! isRang q && q.r.sc = sc.val)) : Bool) = true) .A 0 reported1) := by decide +kernel

theorem test_witness_registration :
    ((fun (e : Eng) (l : LeafId) (s : State) => ((inService s && treeEng s e = e && ctlRuns s e.txd && (getLeaf s e l).st = .registering && (getLeaf s e l).exch.reg = 3) : Bool) = true) .A 5 (regLeaf 3)) ∧
    ((fun (e : Eng) (l : LeafId) (s : State) => ((inService s && treeEng s e = e && ctlRuns s e.txd && (getLeaf s e l).st = .registering && (getLeaf s e l).exch.reg = 4) : Bool) = true) .A 5 (regLeaf 4)) ∧
    ((fun (e : Eng) (l : LeafId) (s : State) => ((inService s && treeEng s e = e && ctlRuns s e.txd && (getLeaf s e l).st = .registering) : Bool) = true) .A 5 (regLeaf 1)) ∧
    ((fun (e : Eng) (l : LeafId) (s : State) => ((inService s && treeEng s e = e && (getLeaf s e l).st = .lost) : Bool) = true) .A 5 (leafIn .lost)) ∧
    ((fun (e : Eng) (l : LeafId) (s : State) => ((inService s && (getLeaf s e l).st = .gone && ! (getLeaf s e l).pin) : Bool) = true) .A 5 (leafIn .gone)) := by decide +kernel

theorem test_witness_leaf_commands :
    ((fun (e : Eng) (l : LeafId) (_ : Bool) (s : State) => (((writeGate s e.txd).worse (if (getLeaf s e l).st = .free || (getLeaf s e l).st = .gone then .errState else .ok)) : Status) = .ok) .A 5 true (leafIn .active)) ∧
    ((fun (e : Eng) (l : LeafId) (s : State) => (((writeGate s e.txd).worse (if (getLeaf s e l).st = .free || (getLeaf s e l).st = .gone || (getLeaf s e l).st = .assigned || (getLeaf s e l).st = .registering then .errState else .ok)) : Status) = .ok) .A 5 (leafIn .active)) ∧
    ((fun (e : Eng) (l : LeafId) (_ : Fin 4) (_ : W32) (s : State) => (((writeGate s e.txd).worse (if ! ((getLeaf s e l).st = .free || (getLeaf s e l).st = .gone) || (getLeaf s e l).pin then .errState else .ok)) : Status) = .ok) .A 5 3 7 up) ∧
    ((fun (e : Eng) (_ : LeafId) (_ : Fin 8) (v : W32) (s : State) => (((writeGate s e.txd).worse (if (wordGroups (v &&& 0x8FFF8FFF)).any (fun x => 2047 < x) then .errState else .ok)) : Status) = .ok) .A 5 3 0x80000007 up) ∧
    ((fun (e : Eng) (l : LeafId) (s : State) => ((inService s && (match (getLeaf s e l).grpEff with | p :: _ => decide (p.1 ≤ treeFrames s e) | [] => false)) : Bool) = true) .A 5 leafEff) := by decide +kernel

theorem test_witness_flow_lookup :
    ((fun (p : PortIx) (fr : RxFrame) (s : State) => ((rxRuns s && ((getPort s p.val).st = .up || loopLanes s p.val ≠ [] || fr.aborted)) : Bool) = true) 0 ⟨List.replicate 60 0, false, true, []⟩ portUp) ∧
    ((fun (s : State) => ((flowTakes s && s.flow.ingress ≠ [] && s.flow.fetch.length < 4096) : Bool) = true) pktIn) ∧
    ((fun (f : FlowIx) (_ : Bool) (s : State) => ((s.pwr.run = .ready && s.pwr.emerg = .none && tget [] s.flow.reqs f.val ≠ []) : Bool) = true) 7 true fetching) ∧
    ((fun (s : State) => ((flowTakes s && s.flow.usClear ≠ [] && s.flow.fetch.length < 4096) : Bool) = true) unitIn) ∧
    ((fun (p : PortIx) (s : State) => ((inService s && dpTakes s .flow && dpTakes s .cltx && dpServes s .clrx && ! ((getPort s p.val).st = .up && sendsRf s p.val)) : Bool) = true) 0 frameOut) := by decide +kernel

theorem test_witness_flow_contexts :
    ((fun (s : State) => ((flowAccepts s) : Bool) = true) flowIn) ∧
    ((fun (f : FlowIx) (s : State) => ((flowRuns s && (getFlow s f.val).moveActive) : Bool) = true) 7 moving) ∧
    ((fun (f : FlowIx) (w : Fin 12) (v : W32) (s : State) => (((writeGate s .flow).worse (if flowRefused s f.val w.val v then .errState else .ok)) : Status) = .ok) 7 8 64 up) ∧
    ((fun (bucket : Fin 393216) (s : State) => ((flowRuns s && bucket.val ∈ s.flow.badBuckets) : Bool) = true) 3 badBucket) := by decide +kernel

theorem test_witness_timebase_1 :
    ((fun (pps : Int) (s : State) => ((servoRuns s && todSourceOf s ≠ 0 && (offsetOf s pps).isSome) : Bool) = true) 0 pps) ∧
    ((fun (s : State) => ((servoRuns s && s.tod.source ≠ 0) : Bool) = true) locked) ∧
    ((fun (s : State) => ((servoRuns s && s.tod.st = 3) : Bool) = true) holdover) ∧
    ((fun (s : State) => ((todRuns s) : Bool) = true) up) ∧
    ((fun (_ : W32) (s : State) => ((writeGate s .tod) : Status) = .ok) 9 up) ∧
    ((fun (s : State) => ((moduleStatus s false false false = .ok && (getIsl s .tod).fence = .run) : Bool) = true) up) ∧
    ((fun (d : Nat) (_ : BitVec 80) (_ : PtpMsg) (s : State) => ((ptpUp s && d = ptpDomain s) : Bool) = true) 0 0 .unsupported ptp) ∧
    ((fun (s : State) => ((ptpUp s) : Bool) = true) (ptpAs 6)) := by decide +kernel

theorem test_witness_timebase_2 :
    ((fun (s : State) => ((ptpUp s && (s.tod.portState = 6 || s.tod.portState = 9 || s.tod.portState = 8)) : Bool) = true) (ptpAs 9)) ∧
    ((fun (s : State) => ((powered s && s.pwr.run ≠ .standby && s.pwr.run ≠ .held) : Bool) = true) up) := by decide +kernel

theorem test_witness_client_ports_1 :
    ((fun (p : PortIx) (v : W32) (s : State) => (((writeGate s .cltx).worse (if clnPortRefused s p.val (v &&& Reg.clnPort.row.wmask) then .errState else .ok)) : Status) = .ok) 0 0x25800000 up) ∧
    ((fun (k : PortIx) (v : W32) (s : State) => (((writeGate s .cltx).worse (if clnLaneRefused s k.val (v &&& Reg.clnLane.row.wmask) then .errState else .ok)) : Status) = .ok) 0 0 up) ∧
    ((fun (p : PortIx) (s : State) => ((clnRuns s && s.cln.refOk && (getPort s p.val).st = .waitRef) : Bool) = true) 0 (portIn .waitRef)) ∧
    ((fun (p : PortIx) (_ : Nat) (_ : List Nat) (_ : List (List Int)) (s : State) => ((clnTrains s && (getPort s p.val).st = .training) : Bool) = true) 0 0 [] [] (portIn .training)) ∧
    ((fun (p : PortIx) (_ : Nat) (s : State) => ((clnTrains s && (getPort s p.val).st = .training) : Bool) = true) 0 1 (portIn .training)) ∧
    ((fun (p : PortIx) (_ : List Bool) (_ : BitVec 16) (s : State) => ((clnRuns s && (getPort s p.val).st = .align && (! runsAn s p.val || clnTrains s)) : Bool) = true) 0 [] 0 (portIn .align)) ∧
    ((fun (p : PortIx) (_ : Nat) (s : State) => ((clnRuns s && (getPort s p.val).st = .align) : Bool) = true) 0 1 (portIn .align)) ∧
    ((fun (x : LaneRx) (s : State) => ((let k := x.lane.val; checks s k && ! (getLane s k).prbs && prbsLocks (lanePam s k) (lanePat s k) x.bits) : Bool) = true) ⟨0, 0, prbsBits⟩ looped) := by decide +kernel

theorem test_witness_client_ports_2 :
    ((fun (x : LaneRx) (s : State) => ((let k := x.lane.val; checks s k && (getLane s k).prbs && prbsLoses (lanePam s k) (lanePat s k) x.reg x.bits) : Bool) = true) ⟨0, 0, prbsWrong⟩ prbsOn) := by decide +kernel

theorem test_witness_client_link_loss :
    ((fun (p : PortIx) (cause : LinkLoss) (s : State) => ((rxRuns s && (getPort s p.val).st = .up && (cause ≠ .autoneg || runsAn s p.val)) : Bool) = true) 0 (.align []) portUp) ∧
    ((fun (_ : Int) (s : State) => ((alive s && s.cln.refOk) : Bool) = true) 9000 portUp) ∧
    ((fun (ppm : Int) (s : State) => ((alive s && ! s.cln.refOk && refValid ppm) : Bool) = true) 0 noRef) ∧
    ((fun (p : PortIx) (_ : Nat) (s : State) => ((rxRuns s && (getPort s p.val).st = .up && portPam4 s p.val && ! (getPort s p.val).hiSer) : Bool) = true) 0 5 portUp) ∧
    ((fun (p : PortIx) (s : State) => ((rxRuns s && (getPort s p.val).hiSer) : Bool) = true) 0 hiSer) := by decide +kernel

theorem test_witness_unit_ciphers :
    ((fun (_ : Eng) (_ : Cid) (s : State) => ((inService s && flowRuns s && crypTakes s) : Bool) = true) .A 7 ctrQueued) ∧
    ((fun (s : State) => ((inService s && s.sec.usIn ≠ [] && dpFence s .cryp ≠ .quiesce) : Bool) = true) usHeld) ∧
    ((fun (k : KeySlotIx) (s : State) => (((getSlot s k.val).st = .erasing || ((getSlot s k.val).st = .two && ! (match slotLeaf k.val with | some (us, _, _) => us | none => false))) : Bool) = true) 5 (slotIn .erasing)) ∧
    ((fun (k : KeySlotIx) (s : State) => (((getSlot s k.val).st = .two && (getSlot s k.val).newSeen && (match slotLeaf k.val with | some (us, _, _) => us | none => false)) : Bool) = true) 8200 slotSeen) := by decide +kernel

theorem test_witness_registration_exchange :
    ((fun (e : Eng) (l : LeafId) (body : List Byte) (s : State) => ((inService s && (getLeaf s e l).st = .registering && (getLeaf s e l).exch.running && (getLeaf s e l).exch.reg = 1 && (getLeaf s e l).exch.kex ≠ body && ! keyDown s) : Bool) = true) .A 5 [1] (exchLeaf 1)) ∧
    ((fun (e : Eng) (l : LeafId) (_ : List Byte) (s : State) => ((inService s && (getLeaf s e l).st = .registering && (getLeaf s e l).exch.running && (getLeaf s e l).exch.reg = 2 && ! keyDown s && (getSlot s (dsSlot s e l)).st = .empty && (getSlot s (usSlot s e l)).st = .empty) : Bool) = true) .A 5 [1] (exchLeaf 2)) ∧
    ((fun (e : Eng) (l : LeafId) (_ : Nat) (s : State) => ((inService s && (getLeaf s e l).st = .registering && (getLeaf s e l).exch.running && ! keyDown s) : Bool) = true) .A 5 3 (exchLeaf 1)) ∧
    ((fun (e : Eng) (l : LeafId) (s : State) => ((inService s && ((getLeaf s e l).exch.running || (getLeaf s e l).exch.ackWait ≠ 0) && (getLeaf s e l).exch.lastRec.isSome) : Bool) = true) .A 5 (exchLeaf 1)) ∧
    ((fun (test : Fin 3) (raw : List Bool) (s : State) => ((powered s && s.boot.fw && healthFails test.val raw) : Bool) = true) 0 (List.replicate 41 true) up) ∧
    ((fun (raw : List Bool) (s : State) => ((powered s && s.boot.fw && ! s.sec.shakerOk && raw.length = aptWindow) : Bool) = true) (List.replicate 1024 true) noShaker) := by decide +kernel

theorem test_witness_rekeying :
    ((fun (k : KeySlotIx) (s : State) => ((inService s && (getSlot s k.val).want.isSome && (getSlot s k.val).st = .one && bankerUp s) : Bool) = true) 5 rekeying) ∧
    ((fun (e : Eng) (g : Fin 2048) (s : State) => ((inService s && (getGk s e g).want && ! (getGk s e g).busy && bankerUp s && (getSlot s (grpSlot s e g)).st = .one) : Bool) = true) .A 3 grpWant) ∧
    ((fun (e : Eng) (g : Fin 2048) (s : State) => ((inService s && (getGk s e g).busy) : Bool) = true) .A 3 grpBusy) ∧
    ((fun (k : KeySlotIx) (s : State) => (((writeGate s .key).worse (if rekeyRefused s k.val then .errState else .ok)) : Status) = .ok) 5 rekeyable) := by decide +kernel

theorem test_witness_life_cycle :
    ((fun (s : State) => (((writeGate s .key).worse (if lcState s ≠ 2 || s.fuse.signHash ≠ 0 || provHash s = 0 then .errState else .ok)) : Status) = .ok) provReady) ∧
    ((fun (s : State) => ((s.sec.arm = .return || s.sec.arm = .void) : Bool) = true) (armedAs .void)) ∧
    ((fun (_ _ _ : BitVec 8) (s : State) => ((powered s && (s.sec.arm = .returnGo || s.sec.arm = .voidGo)) : Bool) = true) 0x0F 0x0E 0x0F (armedAs .returnGo)) ∧
    ((fun (s : State) => ((powered s && lcState s = 0) : Bool) = true) blankUp) ∧
    ((fun (s : State) => ((powered s && lcState s = 0) : Bool) = true) blankUp) := by decide +kernel

theorem test_witness_shared_memory :
    ((fun (src dst : BankIx) (s : State) => (((writeGate s .dmem).worse (if moveRefused s src.val dst.val then .errState else .ok)) : Status) = .ok) 24 63 banked) ∧
    ((fun (s : State) => ((dmemRuns s && s.mem.move.isSome) : Bool) = true) moveOn) ∧
    ((fun (s : State) => ((dmemRuns s && s.mem.move.isSome) : Bool) = true) moveOn) ∧
    ((fun (r : Fin 16) (word : Nat) (_ : WordErrs) (s : State) => ((dmemRuns s && scrubs s r.val && word < regionWords s r.val && ! bgtHoldsWord s r.val word) : Bool) = true) 9 5 {} scrubbing) ∧
    ((fun (r : Fin 16) (_ : Nat) (s : State) => ((dmemRuns s && scrubs s r.val) : Bool) = true) 9 5 scrubbing) ∧
    ((fun (b : BankIx) (word : Nat) (s : State) => ((dmemRuns s && (getReg s .memBgt .A 0).getLsbD 0 && s.mem.bgt = none && ! bankPin (bankWord s b.val) && word + 64 ≤ 16384 && (match s.mem.move with | some (x, y) => b.val ≠ x && b.val ≠ y | none => true)) : Bool) = true) 24 0 testing) ∧
    ((fun (failWord : Option Nat) (_ : W32) (s : State) => ((dmemRuns s && s.mem.bgt.isSome && failWord.all (bgtHolds s)) : Bool) = true) (some 3) 1 borrowed24) ∧
    ((fun (s : State) => ((dmemRuns s && s.mem.bgt.isSome) : Bool) = true) borrowed24) := by decide +kernel

theorem test_witness_scratchpad :
    ((fun (adr : Nat) (data : List Byte) (_ : Bool) (s : State) => ((if adr < 0x74000000 ∨ 0x04000000 ≤ adr - 0x74000000 then .errAddr else if 0x04000000 < adr - 0x74000000 + data.length then .errRange else writeGate s .dmem) : Status) = .ok) 0x74000010 [1, 2, 3] false up) := by decide +kernel

theorem test_witness_i3c_transfers :
    ((fun (_ : W32) (_ : Nat) (_ : List Byte) (s : State) => ((addressed s) : Bool) = true) 0x0500002C 4 [0, 0, 0, 1] onBus) ∧
    ((fun (_ : W32) (_ : Nat) (s : State) => ((addressed s) : Bool) = true) 0 4 onBus) ∧
    ((fun (_ : Nat) (s : State) => ((addressed s) : Bool) = true) 4 onBus) ∧
    ((fun (_ : ReadOutcome) (s : State) => ((targetUp s) : Bool) = true) .clean setRead) ∧
    ((fun (s : State) => ((addressed s) : Bool) = true) onBus) ∧
    ((fun (s : State) => ((s.pwr.run = .starting || s.pwr.run = .bootRom || s.pwr.run = .ready) : Bool) = true) up) := by decide +kernel

theorem test_witness_events_and_interrupts :
    ((fun (_ : Isl) (s : State) => ((powered s && s.pwr.run ≠ .standby && s.pwr.run ≠ .held && ! mgtDown s) : Bool) = true) .flow withRecord) ∧
    ((fun (s : State) => ((addressed s && s.mgt.ibiEn && s.mgt.nacks < 3) : Bool) = true) ibiOn) ∧
    ((fun (s : State) => ((addressed s && s.mgt.ibiTry) : Bool) = true) ibiSent) := by decide +kernel

theorem test_witness_latched_reads :
    ((fun (e : Eng) (sc : Sc) (s : State) => ((readsOk s (.reg ⟨.brxLast, e, sc.val, 0⟩)) : Bool) = true) .A 3 (eng .trafficReady)) ∧
    ((fun (k : KeySlotIx) (s : State) => ((readsOk s (.reg ⟨.secSlotIc, .A, k.val, 0⟩)) : Bool) = true) 5 up) ∧
    ((fun (s : State) => ((readsOk s (.reg ⟨.evtHeadHi, .A, 0, 0⟩)) : Bool) = true) up) ∧
    ((fun (s : State) => ((readsOk s (.reg ⟨.evtHeadLo, .A, 0, 0⟩)) : Bool) = true) up) ∧
    ((fun (s : State) => ((readsOk s (.reg ⟨.mgtFault, .A, 0, 0⟩)) : Bool) = true) up) := by decide +kernel

theorem test_witness_register_writes :
    ((fun (s : State) => ((writeGate s .mgt) : Status) = .ok) up) := by decide +kernel

theorem test_witness_island_fences_1 :
    ((fun (i : Isl) (s : State) => (((writeGate s .mgt).worse (if islCmdRefused s i 1 then .errState else .ok)) : Status) = .ok) .flow up) ∧
    ((fun (i : Isl) (s : State) => (((writeGate s .mgt).worse (if islCmdRefused s i 2 then .errState else .ok)) : Status) = .ok) .flow up) ∧
    ((fun (i : Isl) (s : State) => ((inFence s i .quiesce) : Bool) = true) .flow (isl .flow { fence := .quiesce })) ∧
    ((fun (i : Isl) (s : State) => ((inFence s i .drain) : Bool) = true) .flow (isl .flow { fence := .drain })) ∧
    ((fun (i : Isl) (s : State) => ((inFence s i .drain) : Bool) = true) .flow (isl .flow { fence := .drain })) ∧
    ((fun (i : Isl) (s : State) => ((inFence s i .fenced) : Bool) = true) .flow (isl .flow { fence := .fenced })) ∧
    ((fun (i : Isl) (s : State) => ((inFence s i .reset && ! heldInReset s i) : Bool) = true) .flow (isl .flow { fence := .reset })) ∧
    ((fun (i : Isl) (s : State) => ((inFence s i .resume) : Bool) = true) .flow (isl .flow { fence := .resume })) := by decide +kernel

theorem test_witness_island_fences_2 :
    ((fun (i : Isl) (s : State) => (((inFence s i .reset || inFence s i .resume) && ! heldInReset s i) : Bool) = true) .flow (isl .flow { fence := .reset })) ∧
    ((fun (i : Isl) (poison : Bool) (s : State) => ((alive s && i ≠ .aon && (getIsl s i).fence = .run && (! poison || poisonIsl s i)) : Bool) = true) .flow false up) := by decide +kernel

theorem test_witness_engine_commands :
    ((fun (e : Eng) (force : Bool) (s : State) => (((writeGate s .mgt).worse (if engCmdRefused s e 1 force then .errState else .ok)) : Status) = .ok) .A true cmdUp) ∧
    ((fun (e : Eng) (force : Bool) (s : State) => (((writeGate s .mgt).worse (if engCmdRefused s e 2 force then .errState else .ok)) : Status) = .ok) .A true cmdUp) ∧
    ((fun (e : Eng) (s : State) => (((getEng s e).updStep = 2 && (getEng s e).down.laser = .dark) : Bool) = true) .A cmdDark) ∧
    ((fun (e : Eng) (_ : List (List Byte × FlashRead)) (s : State) => (((getEng s e).reread) : Bool) = true) .A [] rereading) := by decide +kernel

theorem test_witness_firmware_update_1 :
    ((fun (ofs : Nat) (data : List Byte) (s : State) => (((writeGate s .mgt).worse ((if 0x0F000000 < ofs + data.length then Status.errRange else .ok).worse (if stageOpen s then .ok else .errState))) : Status) = .ok) 4 [1, 2] up) ∧
    ((fun (s : State) => (((writeGate s .mgt).worse (if updCmdRefused s 1 then .errState else .ok)) : Status) = .ok) up) ∧
    ((fun (s : State) => (((writeGate s .mgt).worse (if updCmdRefused s 2 then .errState else .ok)) : Status) = .ok) (updIn .verified)) ∧
    ((fun (s : State) => (((writeGate s .mgt).worse (if updCmdRefused s 3 then .errState else .ok)) : Status) = .ok) (updIn .trial)) ∧
    ((fun (s : State) => (((writeGate s .mgt).worse (if updCmdRefused s 4 then .errState else .ok)) : Status) = .ok) (updIn .trial)) ∧
    ((fun (s : State) => (((writeGate s .mgt).worse (if updCmdRefused s 5 then .errState else .ok)) : Status) = .ok) (updIn .failed)) ∧
    ((fun (s : State) => ((powered s && s.upd.st = .verifying) : Bool) = true) (updIn .verifying)) ∧
    ((fun (s : State) => ((powered s && s.upd.st = .trial && ! s.upd.expired && s.upd.trialEnd.any (fun u => u ≤ s.clk.now)) : Bool) = true) trialOver) := by decide +kernel

theorem test_witness_firmware_update_2 :
    ((fun (_ _ : Bool) (s : State) => ((powered s && s.upd.st = .committing) : Bool) = true) true true (updIn .committing)) := by decide +kernel

theorem test_witness_orderly_shutdown :
    ((fun (s : State) => ((inService s && s.bist.req.isSome && ! anyFence s) : Bool) = true) ({ up with bist := { up.bist with req := some 1 } })) ∧
    ((fun (s : State) => ((s.bist.st = 1 && s.bist.phase = 1 && s.pwr.emerg = .none && engines.all (fun e => (getEng s e).down.laser = .dark)) : Bool) = true) (shut 1 1)) ∧
    ((fun (s : State) => ((s.bist.st = 1 && s.bist.phase = 2 && s.pwr.emerg = .none) : Bool) = true) (shut 1 2)) ∧
    ((fun (_ : TestResult) (s : State) => ((suiteRuns s) : Bool) = true) ⟨true, 0, false, 0⟩ (shut 2 3)) ∧
    ((fun (_ : Nat) (s : State) => ((suiteRuns s) : Bool) = true) 7 (shut 2 3)) ∧
    ((fun (s : State) => ((s.bist.st = 3 && s.bist.phase = 4 && s.pwr.emerg = .none) : Bool) = true) (shut 3 4)) ∧
    ((fun (s : State) => ((s.bist.phase = 5 && s.pwr.emerg = .none) : Bool) = true) (shut 3 5)) := by decide +kernel

/-! ## Witnesses written by hand -/

/-- What holds after a step or a command that goes on. -/
def goesOn (o : Out) (p : State → Bool) : Bool := match o with | .next t => p t | _ => false

/-- A reception that hears nothing: every sample behind its gain stage is zero, and so is the equalizer's output. -/
theorem silent_stage {x : BrxSt} (h : x.strm = []) (m : Int) : stage x m = ((0, 0), (0, 0)) := by
  have hs : x.sym (m / 2) = {} := by unfold BrxSt.sym; rw [h]; split <;> rfl
  have hr : ∀ t : Int, rotateFine t (0, 0) = (0, 0) := fun t => by simp [rotateFine, fixOne]
  unfold stage onBoth
  rw [hs]
  simp only [Int.mul_zero, Int.zero_ediv, ite_self, hr]

theorem silent_eqOut {x : BrxSt} (h : x.strm = []) (taps : List W32) (i : Int) : eqOut x taps i = ((0, 0), (0, 0)) := by
  have hc : ∀ a : Cpx, cmul a (0, 0) = (0, 0) := fun a => by simp [cmul]
  unfold eqOut eqIn
  simp only [silent_stage h, hc]
  rfl

/-- 64 silent symbols spell zeros, which are no sync word: there is no match at any symbol. -/
theorem silent_syncRun {x : BrxSt} (h : x.strm = []) (hw : fld x.cfgW 4 0 = 0) : ∀ (n : Nat) (i : Int) (taps : List W32),
    syncRun x n i taps (List.replicate 63 ((0, 0), (0, 0))) = none
  | 0, _, _ => rfl
  | n + 1, i, taps => by
    unfold syncRun
    rw [silent_eqOut h, hw, if_neg (by decide +kernel)]
    exact silent_syncRun h hw n (i + 1) _

theorem silent_syncFind {x : BrxSt} (h : x.strm = []) (hw : fld x.cfgW 4 0 = 0) : syncFind x = none := by
  unfold syncFind
  have ht : (tuned x).strm = [] := h
  simp only [silent_eqOut ht, List.map_const', List.length_range]
  exact silent_syncRun ht hw _ _ _
/-- BurstReception, third clause: the sync word behind 61 symbols, all of it received. -/
def plainTaps : List W32 := (List.range 60).map (fun j => if j = 7 || j = 52 then 0x40000000 else 0)
def syncIn : List RxSym := (List.range 64).map (fun k => { a := ampsOf 0 (syncSymbol k) }) ++ List.replicate 8 ({} : RxSym)
def rxSync : State := rxWith { st := .spec, d := 61, pos := 61, win := some { window5 with short := true }, s0 := -1, eq := plainTaps, strm := syncIn }
theorem test_witness_sync_match :
    (rxUp rxSync .A && (getBrx rxSync .A 0).st = .spec && (syncFind (getBrx rxSync .A 0)).isSome) = true := by decide +kernel

/-- BurstReception, fourth clause: 400 silent symbols. -/
theorem test_witness_sync_deadline_miss :
    rxUp rxSilent .A = true ∧ (getBrx rxSilent .A 0).st = .spec ∧ (getBrx rxSilent .A 0).d + syncReach + 4 < topSym (getBrx rxSilent .A 0) ∧
    syncFind (getBrx rxSilent .A 0) = none :=
  ⟨by decide +kernel, by decide +kernel, by decide +kernel, silent_syncFind rfl (by decide +kernel)⟩

/-- LifeCycle: the ship command on a part with a good DRK and a full test passed. -/
theorem test_witness_ship : powered shippable = true ∧ lcState shippable = 1 ∧ drkOk shippable = true ∧ fullPassed shippable = true :=
  ⟨by decide +kernel, by decide +kernel, by simp [drkOk, shippable], by decide +kernel⟩

theorem test_witness_idle_tick : up.pending = [] ∧ up.pwr.run ≠ .off := by decide +kernel

/-- Statements over a step from a state that keeps an invariant. -/
theorem test_witness_invariants :
    Isl.all.all (fun i => 1 ≤ (getIsl up i).incarn && (getIsl up i).incarn ≤ 255) = true ∧ twf none up.mem.scratch = true ∧
    twf 0 up.upd.stage = true ∧ goesOn (step { up with pending := [.holdupCharged] }) (fun _ => true) = true := by decide +kernel

/-- OnlyTheseChange: a command on none of the lists. -/
theorem test_witness_only_these_change :
    mayBlowFuses .holdupCharged = false ∧ mayWriteFlash .holdupCharged = false ∧ mayFence .holdupCharged = false ∧
    mayResume .holdupCharged = false ∧ maySetTime .holdupCharged = false ∧
    goesOn (exec .holdupCharged up) (fun _ => true) = true := by decide +kernel

/-- ResetCounts: the first and the last flag of a word, set and not set again in the cycle of the write. -/
theorem test_witness_reset_counts :
    goesOn (.next (w1cWrite 0x01000014 32 0x80000001 0x80000000 up)) (fun t => getFlags t 0x01000014 = 0x80000000) = true ∧
    (0x80000001#32).getLsbD 0 = true ∧ (0x80000001#32).getLsbD 31 = true := by decide +kernel

/-- CountersSaturate: a set with counters and no chain, and a latched value that is saturated. -/
theorem test_witness_counters_saturate :
    0 < tallyN 1 ∧ tget 0 up.tally.chain 1 = 0 ∧ up.tally.acc = [] ∧ cellMute up 1 0 = false ∧
    tget 0 ({ up with tally := { up.tally with latched := [(cellAddr 1 0 0, 2 ^ 48 - 1)] } } : State).tally.latched (cellAddr 1 0 0) =
      2 ^ 48 - 1 := by decide +kernel

/-- Settings of a policer: MODE, CBS, PBS. -/
def policer (mode : Nat) (pbs : W32) : Flow := { pol := BitVec.ofNat 32 (mode * 2 ^ 30 + 9600), cir := 64, pir := 64, pbs := pbs }

/-- PolicerSettings at its limits, and below them. -/
theorem test_witness_policer_settings :
    policerOk (policer 1 0) = true ∧ policerOk (policer 2 9600) = true ∧ policerOk (policer 2 9599) = false ∧
    policerOk { policer 1 0 with cir := 63 } = false ∧ policerOk (policer 0 0) = true := by decide +kernel

/-- PolicerColours: a packet for each colour in both modes. -/
theorem test_witness_policer_colours :
    (police up 9600 { policer 1 0 with tc := 9600 }).1 = .green ∧ (police up 9601 { policer 1 0 with tc := 9600 }).1 = .red ∧
    (police up 9600 { policer 2 9600 with tc := 9600, tp := 9600 }).1 = .green ∧
    (police up 9600 { policer 2 9600 with tc := 9599, tp := 9600 }).1 = .yellow ∧
    (police up 9601 { policer 2 9600 with tc := 9600, tp := 9600 }).1 = .red ∧ (police up 9601 (policer 0 0)).1 = .green := by
  decide +kernel

/-- DisabledWindow: a setting of engine A while the engine is disabled, and in another state. -/
theorem test_witness_disabled_window :
    (place 0x12000000).any (fun p => p.engine = some .A) = true ∧ (getEng up .A).st = .disabled ∧ up.pwr.run = .ready ∧
    goesOn (exec (.registerWrite 0x12000000 0) up) (fun t => t.status = .errState) = true ∧
    (getEng (eng .trafficReady) .A).st ≠ .disabled := by decide +kernel

theorem test_witness_shutdown_refuses_writes :
    isHostWrite (.calRunRx .A) = true ∧ (shut 1 1).bist.st ≠ 0 ∧ beforeReady (shut 1 1) = false := by decide +kernel

/-- The second boundary: a powered module, outside standby. -/
theorem test_witness_second_boundary : (powered up && up.pwr.run ≠ .standby && up.pwr.run ≠ .held) = true := by decide +kernel

/-- The acknowledgements of a leaf that is waited for, with the very bytes the guard asks for. -/
theorem test_witness_acknowledgements :
    (inService (ackLeaf 5) && (getLeaf (ackLeaf 5) .A 5).exch.ackWait = 5 && ! keyDown (ackLeaf 5)) = true ∧
    (inService (ackLeaf 7) && (getLeaf (ackLeaf 7) .A 5).exch.ackWait = 7 && ! keyDown (ackLeaf 7)) = true := by decide +kernel

/-- Rekeying: the bytes that the acknowledgement of `ackLeaf 5` must hold exist, and so do those of `ackLeaf 7`. -/
theorem test_witness_acknowledgement_bodies :
    (∃ body : List Byte, body = rekeyBody ((getLeaf (ackLeaf 5) .A 5).exch.ackDir = 2) (getLeaf (ackLeaf 5) .A 5).exch.ackEpoch ++
      recMac (getLeaf (ackLeaf 5) .A 5).exch.ms 0x06 5 (rekeyBody ((getLeaf (ackLeaf 5) .A 5).exch.ackDir = 2) (getLeaf (ackLeaf 5) .A 5).exch.ackEpoch)) ∧
    (∃ body : List Byte, body = toBytes 4 (getLeaf (ackLeaf 7) .A 5).exch.ackGroup ++ toBytes 4 (getLeaf (ackLeaf 7) .A 5).exch.ackEpoch ++
      recMac (getLeaf (ackLeaf 7) .A 5).exch.ms 0x08 5 (toBytes 4 (getLeaf (ackLeaf 7) .A 5).exch.ackGroup ++ toBytes 4 (getLeaf (ackLeaf 7) .A 5).exch.ackEpoch)) :=
  ⟨⟨_, rfl⟩, ⟨_, rfl⟩⟩

/-- OrderlyShutdown: a start that a shutdown command ends, and a module at READY with and without a fence. -/
theorem test_witness_shutdown_command :
    beforeReady boot0 = true ∧ beforeReady up = false ∧
    (writeGate up .mgt).worse (if up.pwr.emerg = .none then .ok else .errState) = .ok ∧ anyFence up = false ∧
    anyFence (isl .flow { fence := .drain }) = true ∧
    goesOn (exec .bistCtlShutdownTest boot0) (fun t => t.status = .errState && t.pwr.cmdOff) = true ∧
    goesOn (exec .bistCtlShutdownNotest up) (fun t => t.bist.st = 1 && t.bist.cause = 2) = true := by decide +kernel

/-- The life-cycle sequences: armed, within their second, and refused. -/
theorem test_witness_life_cycle_sequences :
    mayReturn up = true ∧ mayVoid up = true ∧ writeGate up .key = .ok ∧ (armedAs .return).sec.arm = .return ∧
    armValid (armedAs .return) = true ∧ armValid (armedAs .void) = true ∧ mayReturn blankUp = false ∧ mayVoid blankUp = false ∧
    writeGate (shut 1 1) .key ≠ .ok := by decide +kernel

/-! ## Clauses at the bounds where they meet

Each pair of values stands on the two sides of a bound: one clause's premise holds of the one, and not of the other. -/

/-- PowerFeeds at 3.80 V, 3.85 V and 2.00 V. -/
theorem test_bound_feed_low :
    goesOn (exec (.pwrLow .A 3799) up) (fun t => (getFeed t .A).low) = true ∧
    goesOn (exec (.pwrLow .A 3800) up) (fun t => ! (getFeed t .A).low) = true ∧
    goesOn (exec (.pwrLowClear .A 3850) low) (fun t => ! (getFeed t .A).low) = true ∧
    goesOn (exec (.pwrLowClear .A 3849) low) (fun t => (getFeed t .A).low) = true ∧
    goesOn (exec (.pwrFeedLost .A 1999) up) (fun t => (getFeed t .A).lost) = true ∧
    goesOn (exec (.pwrFeedLost .A 2000) up) (fun t => ! (getFeed t .A).lost) = true := by decide +kernel

/-- PowerFeeds at 7.60 V, 8.00 V and 3.55 V. -/
theorem test_bound_feed_high :
    goesOn (exec (.pwrFeedHigh .A 7601) up) (fun t => (getFeed t .A).high) = true ∧
    goesOn (exec (.pwrFeedHigh .A 7600) up) (fun t => ! (getFeed t .A).high) = true ∧
    goesOn (exec (.feedOvervoltSwitchOpen .A 8001) up) (fun t => (getFeed t .A).swOpen) = true ∧
    goesOn (exec (.feedOvervoltSwitchOpen .A 8000) up) (fun t => ! (getFeed t .A).swOpen) = true ∧
    goesOn (exec (.feedSwitchReclose .A 7599) swo) (fun t => ! (getFeed t .A).swOpen) = true ∧
    goesOn (exec (.feedSwitchReclose .A 7600) swo) (fun t => (getFeed t .A).swOpen) = true ∧
    [3549, 3550, 7600, 7601].map (fun mv => goesOn (exec (.feedRestored .A mv) lost) (fun t => ! (getFeed t .A).lost)) =
      [false, true, true, false] := by decide +kernel

/-- DroopSteps: a dip as deep as TH and one deeper, and an island one step above its floor and at it. -/
theorem test_bound_droop :
    goesOn (exec (.sagStart ⟨.flow, sagLimit up⟩) up) (fun t => ! (getIsl t .flow).sag) = true ∧
    goesOn (exec (.sagStart ⟨.flow, sagLimit up + 1⟩) up) (fun t => (getIsl t .flow).sag) = true ∧
    goesOn (exec (.droopStepDown .flow) (isl .flow { sag := true, carried := true, sagStep := 3 })) (fun t => (getIsl t .flow).sagStep = 4) = true ∧
    goesOn (exec (.droopStepDown .flow) (isl .flow { sag := true, carried := true, sagStep := 4 })) (fun t => (getIsl t .flow).sagStep = 4) = true ∧
    goesOn (exec (.pwrDroopFloor .flow) (isl .flow { sag := true, carried := true, sagStep := 3 })) (fun t => ! (getIsl t .flow).floorDone) = true ∧
    goesOn (exec (.pwrDroopFloor .flow) (isl .flow { sag := true, carried := true, sagStep := 4 })) (fun t => (getIsl t .flow).floorDone) = true ∧
    goesOn (exec (.droopStepUp .flow) (isl .flow { sagStep := 1 })) (fun t => (getIsl t .flow).sagStep = 0) = true ∧
    goesOn (exec (.droopStepUp .flow) up) (fun t => (getIsl t .flow).sagStep = 0) = true := by decide +kernel

/-- The cap works, with the steps held that are given. -/
def cappedAt (cryp flow dsp : Nat) : State :=
  dspIsls.foldl (fun v i => modIsl i (fun x => { x with capStep := dsp }) v)
    (modIsl .cryp (fun x => { x with capStep := cryp }) (modIsl .flow (fun x => { x with capStep := flow })
      { up with pwr := { up.pwr with capActive := true, capStepping := true } }))
def capSteps (t : State) : List Nat := [(getIsl t .cryp).capStep, (getIsl t .flow).capStep, (getIsl t .aTxd).capStep]

/-- PowerCapAndHeat: the cap itself and 500 mW below it, and the order of the islands. -/
theorem test_bound_cap :
    goesOn (exec (.pwrCapHit (capLimit up)) up) (fun t => ! t.pwr.capActive) = true ∧
    goesOn (exec (.pwrCapHit (capLimit up + 1)) up) (fun t => t.pwr.capActive) = true ∧
    goesOn (exec (.capStepDown (capLimit up + 1)) (cappedAt 3 0 0)) (fun t => capSteps t = [4, 0, 0]) = true ∧
    goesOn (exec (.capStepDown (capLimit up + 1)) (cappedAt 4 3 0)) (fun t => capSteps t = [4, 4, 0]) = true ∧
    goesOn (exec (.capStepDown (capLimit up + 1)) (cappedAt 4 4 0)) (fun t => capSteps t = [4, 4, 1]) = true ∧
    goesOn (exec (.capStepDown (capLimit up)) (cappedAt 4 4 0)) (fun t => capSteps t = [4, 4, 0]) = true := by decide +kernel

theorem test_bound_cap_up :
    500 ≤ capLimit up ∧
    goesOn (exec (.capStepUp (capLimit up - 500)) (cappedAt 4 4 1)) (fun t => capSteps t = [4, 4, 0]) = true ∧
    goesOn (exec (.capStepUp (capLimit up - 499)) (cappedAt 4 4 1)) (fun t => capSteps t = [4, 4, 1]) = true ∧
    goesOn (exec (.capStepUp (capLimit up - 500)) (cappedAt 4 1 0)) (fun t => capSteps t = [4, 0, 0]) = true ∧
    goesOn (exec (.capStepUp (capLimit up - 500)) (cappedAt 1 0 0)) (fun t => capSteps t = [0, 0, 0] && ! t.pwr.capActive) = true := by
  decide +kernel

/-- PowerCapAndHeat at its temperatures, and EmergencyShutdown at 3.40 V. -/
theorem test_bound_heat :
    goesOn (exec (.thermHigh (thermLimit up)) up) (fun t => ! t.pwr.therm) = true ∧
    goesOn (exec (.thermHigh (thermLimit up + 1)) up) (fun t => t.pwr.therm) = true ∧
    goesOn (exec (.thermHighClear (thermLimit up - 32)) { up with pwr := { up.pwr with therm := true } }) (fun t => ! t.pwr.therm) = true ∧
    goesOn (exec (.thermHighClear (thermLimit up - 31)) { up with pwr := { up.pwr with therm := true } }) (fun t => t.pwr.therm) = true ∧
    critTemp caseSensor (95 * 16) = false ∧ critTemp caseSensor (95 * 16 + 1) = true ∧
    critTemp Isl.flow.row (120 * 16) = false ∧ critTemp Isl.flow.row (120 * 16 + 1) = true ∧
    goesOn (exec (.pwrFail 3400) up) (fun t => t.pwr.emerg = .none) = true ∧
    goesOn (exec (.pwrFail 3399) up) (fun t => t.pwr.emerg = .powerFail) = true := by decide +kernel

/-- PowerReduction at −20 dB and −24 dB. -/
theorem test_bound_reflection :
    goesOn (exec (.aprReduce .A (-2000)) (aprEng 0)) (fun t => (getEng t .A).down.apr = 0) = true ∧
    goesOn (exec (.aprReduce .A (-1999)) (aprEng 0)) (fun t => (getEng t .A).down.apr = 1) = true ∧
    goesOn (exec (.aprRestoreStart .A (-2400)) (aprEng 1)) (fun t => (getEng t .A).down.apr = 2) = true ∧
    goesOn (exec (.aprRestoreStart .A (-2399)) (aprEng 1)) (fun t => (getEng t .A).down.apr = 1) = true := by decide +kernel

/-- CccRequests: each condition met and not met, at the ends of its range. -/
theorem test_witness_ccc_requests :
    targetUp up = true ∧ targetUp base = false ∧
    [15, 16, 262, 263].map (fun n => goesOn (exec (.cccSetmwl n) up) (fun t => t.mgt.cccAck && t.mgt.mwl = n)) = [false, true, true, false] ∧
    [15, 16, 257, 258].map (fun n => goesOn (exec (.cccSetmrl n) up) (fun t => t.mgt.cccAck && t.mgt.mrl = n)) = [false, true, true, false] ∧
    [0, 1, 2].map (fun a => goesOn (exec (.cccRstact a) up) (fun t => t.mgt.cccAck && t.mgt.arm = some a)) = [true, true, false] ∧
    goesOn (exec (.cccEntdaa 9) up) (fun t => t.mgt.cccAck && t.mgt.da = some 9) = true ∧
    goesOn (exec (.cccEntdaa 8) onBus) (fun t => ! t.mgt.cccAck && t.mgt.da = some 9) = true ∧
    goesOn (exec (.cccSetdasa (staticAddr up) 9) up) (fun t => t.mgt.da = some 9) = true ∧
    goesOn (exec (.cccSetdasa (staticAddr up + 1) 9) up) (fun t => t.mgt.da = none) = true ∧
    goesOn (exec (.cccSetnewda 8) onBus) (fun t => t.mgt.da = some 8) = true ∧
    goesOn (exec .cccGetbcr onBus) (fun t => t.mgt.cccReply = [0x27]) = true ∧
    goesOn (exec .cccGetbcr up) (fun t => ! t.mgt.cccAck) = true := by decide +kernel

/-- CccRequests: what the requests without a condition of their own do. -/
theorem test_witness_ccc_modes :
    goesOn (exec (.cccEnec 1) up) (fun t => t.mgt.cccAck && t.mgt.ibiEn) = true ∧
    goesOn (exec (.cccDisec 1) ibiOn) (fun t => t.mgt.cccAck && ! t.mgt.ibiEn) = true ∧
    goesOn (exec .cccRstdaa onBus) (fun t => t.mgt.cccAck && t.mgt.da = none) = true ∧
    goesOn (exec .cccEnthdr0 up) (fun t => t.mgt.hdr) = true ∧
    [14, 15, 16].map (fun n => goesOn (exec .cccGetstatus { onBus with mgt := { onBus.mgt with evCount := n } })
      (fun t => t.mgt.cccReply = toBytes 2 (min 15 n))) = [true, true, true] := by decide +kernel

/-- EventsAndInterrupts: the second and the third NACK. -/
theorem test_bound_nacks :
    goesOn (exec .mgtIbiNack { ibiSent with mgt := { ibiSent.mgt with nacks := 1 } }) (fun t => t.mgt.nacks = 2 && t.flags = ibiSent.flags) = true ∧
    goesOn (exec .mgtIbiNack { ibiSent with mgt := { ibiSent.mgt with nacks := 2 } }) (fun t => t.mgt.nacks = 3 && t.flags ≠ ibiSent.flags) = true ∧
    goesOn (exec .ibiRequest { ibiOn with mgt := { ibiOn.mgt with nacks := 3 } }) (fun t => t.mgt.ibiOut = []) = true := by decide +kernel

/-- FirmwareUpdate: the last byte of the staging area and the first behind it, and TRIAL right before its time. -/
theorem test_bound_staging :
    goesOn (exec (.updStagingWrite 0x0EFFFFFF [7]) up) (fun t => t.status = .ok && tget 0 t.upd.stage 0x0EFFFFFF = 7) = true ∧
    goesOn (exec (.updStagingWrite 0x0F000000 [7]) up) (fun t => t.status = .errRange && t.upd.stage = []) = true ∧
    goesOn (exec .updTrialExpiry { trialOver with upd := { trialOver.upd with trialEnd := some 1 } }) (fun t => ! t.upd.expired) = true ∧
    goesOn (exec .updTrialExpiry trialOver) (fun t => t.upd.expired) = true := by decide +kernel

/-- LifeCycle: the last moment of the second that an armed sequence has, and the one behind it. -/
theorem test_bound_arming :
    armValid { armedAs .return with clk := { up.clk with now := 1000000000 } } = true ∧
    armValid { armedAs .return with clk := { up.clk with now := 1000000001 } } = false := by decide +kernel

def usedTo (n : Nat) : State := { portUp with flow := { portUp.flow with pktUsed := n } }
def inBytes (n : Nat) : State := { up with flow := { up.flow with ingress := [⟨0, List.replicate 12 0 ++ [0x88, 0xF7] ++ List.replicate (n - 14) 0⟩] } }

/-- FlowLookup: the packet that just fits into the lookup rate and the one that does not, and PTP
frames of 59 and 60 bytes at a port that takes no PTP. -/
theorem test_bound_lookup :
    pktCost ≤ rateBound up ∧ overRate (usedTo (rateBound up - pktCost)) = false ∧ overRate (usedTo (rateBound up - pktCost + 1)) = true ∧
    goesOn (exec .dsPacketLookup (inBytes 59)) (fun t => tget 0 t.tally.acc (cellAddr 14 0 1) = 1) = true ∧
    goesOn (exec .dsPacketLookup (inBytes 60)) (fun t => tget 0 t.tally.acc (cellAddr 14 0 1) = 0 && tget 0 t.tally.acc (cellAddr 14 0 2) = 1) = true := by
  decide +kernel

/-- UnitCiphers: the last counter value with a key's use left and the first without, and the two sides of the soft threshold. -/
theorem test_bound_nonces :
    hardStop = 2 ^ 62 ∧ softReached 8 254 255 = false ∧ softReached 8 255 256 = true ∧ softReached 8 256 257 = false ∧
    softReached 8 (2 ^ 32 - 2) (2 ^ 32 - 1) = false ∧ softReached 8 (2 ^ 32 - 1) (2 ^ 32) = true := by decide +kernel

/-- SlotSetsAndContainers at PROFILE 1,023, and ProtectionSwitch with 63 and 64 landing errors. -/
theorem test_bound_settings :
    goesOn (exec (.frmCtrWrite .A 7 1 1023) (eng .trafficReady)) (fun t => t.status = .ok) = true ∧
    goesOn (exec (.frmCtrWrite .A 7 1 1024) (eng .trafficReady)) (fun t => t.status = .errState) = true ∧
    goesOn (exec .apsSettleTimeout { switching 3 with aps := { (switching 3).aps with errs := List.replicate 63 (5, 0) } })
      (fun t => t.aps.st = 0) = true ∧
    goesOn (exec .apsSettleTimeout { switching 3 with aps := { (switching 3).aps with errs := List.replicate 64 (5, 0) } })
      (fun t => t.aps.st = 3) = true := by decide +kernel

/-- SharedMemory: a codeword with no error, with one, and with two. -/
theorem test_bound_codewords :
    [0, 1, 2].map (fun n => match (eccOf [0, n] up).1 with | .clean => 0 | .correctable => 1 | .uncorrectable => 2) = [0, 1, 2] := by
  decide +kernel

/-! ## Well-formedness refuses -/

def read0 : FlashRead := { sfdp := false, big := false, modes := [], dummies := [] }

theorem test_wf_refuses_power :
    ([.feedMated .A 40000 0,
      .feedMated .A 0 40000,
      .pwrLow .A 40000,
      .pwrLowClear .A 40000,
      .pwrFeedLost .A 40000,
      .pwrFeedHigh .A 40000,
      .feedOvervoltSwitchOpen .A 40000,
      .feedSwitchReclose .A 40000,
      .feedRestored .A 40000,
      .powerGood .A 40000 false false,
      .pwrFail 40000,
      .emergencyShutdownEnd 4097 true,
      .feedLossRestart 40000,
      .pwrElasticSlip .A true 65536,
      .pwrCapHit 65536,
      .capStepDown 65536,
      .capStepUp 65536] : List Instr).all (fun c => ! c.wf) = true := by decide +kernel

theorem test_wf_refuses_heat :
    ([.thermHigh 40000,
      .thermHighClear 40000,
      .thermCrit 0x41 0,
      .thermCrit 0x40 40000,
      .resetNReleased false false 40000] : List Instr).all (fun c => ! c.wf) = true := by decide +kernel

/-- Words with too few samples, and a monitor sample out of range. -/
def shortWord : RxWord := ⟨[0], [0], [0], [0]⟩
def shortMon : MonWord := ⟨[0, 0, 0], 0, 0⟩

theorem test_wf_refuses_receivers :
    ([.brxGateOpen .A 0 { window5 with ge := 4194304 } [],
      .brxGateOpen .A 0 window5 [shortWord],
      .burstDetected .A 0 [shortWord],
      .syncMatch .A 0 [shortWord],
      .syncDeadlineMiss .A 0 [shortWord],
      .headerChecked .A 0 [shortWord],
      .blockDecoded .A 0 [shortWord],
      .captureRise .A 0 0 [shortWord],
      .burstFall .A 0 [shortWord]] : List Instr).all (fun c => ! c.wf) = true := by decide +kernel

theorem test_wf_refuses_calibration :
    ([.feGainTurnUpdate .A 0 [shortWord],
      .calTempCheck .A true 40000,
      .calRunStart .A true 40000,
      .calCollectDone .A true [shortWord] [],
      .calCollectDone .A false [] [shortMon],
      .calStarved .A [shortWord],
      .calScDone .A 40000] : List Instr).all (fun c => ! c.wf) = true := by decide +kernel

/-- A word of full length with a sample that no 8-bit converter gives. -/
theorem test_wf_refuses_wide_samples :
    wfWord ⟨List.replicate 256 0, List.replicate 256 0, List.replicate 256 0, List.replicate 256 0⟩ = true ∧
    wfWord ⟨List.replicate 256 128, List.replicate 256 0, List.replicate 256 0, List.replicate 256 0⟩ = false := by decide +kernel

theorem test_wf_refuses_scheduler :
    ([.mapCompute .A [⟨0, false, 0, 1125000, 16⟩] [],
      .mapCompute .A [⟨0, false, 0, 0, 65536⟩] [],
      .mapCompute .A [] [⟨5, 0, false, 0, false, 0, 0⟩],
      .mapRecomputeDone .A 5 [⟨5, 0, false, 0, false, 1125000, 16⟩]] : List Instr).all (fun c => ! c.wf) = true := by decide +kernel

theorem test_wf_refuses_clients :
    ([.ptpMessageReceived 0 0 (.announce 256 0 0 0 0 0),
      .ptpMessageReceived 0 0 (.announce 0 256 0 0 0 0),
      .ptpMessageReceived 256 0 .unsupported,
      .clnTrainingDone 0 256 [] [],
      .clnTrainingDone 0 0 [65536] [],
      .clnTrainFail 0 256,
      .clnAlignFail 0 256,
      .clnRefclkLost 40000,
      .clnRefclkOk 40000,
      .clnHiSer 0 65536,
      .leafFailReceived .A 5 256] : List Instr).all (fun c => ! c.wf) = true := by decide +kernel

theorem test_wf_refuses_memories :
    ([.scrubLapEnd 0 4294967296,
      .bgtBorrow 0 16384,
      .bgtMarchDone (some 16384) 0,
      .scratchpadWrite 0x73FFFFFF [0] false,
      .scratchpadWrite 0x77FFFFFF [0, 0] false,
      .scrubberRead 0 268435456 {}] : List Instr).all (fun c => ! c.wf) = true := by decide +kernel

theorem test_wf_refuses_bus :
    ([.i3cPrivateWrite 0 257 ⟨[], .none⟩,
      .i3cReadSetup 0 257,
      .i3cReadContinue 257,
      .readFetchDone (.poison 5),
      .cccSetmwl 65536,
      .cccSetmrl 65536] : List Instr).all (fun c => ! c.wf) = true := by decide +kernel

theorem test_wf_refuses_update_and_tests :
    ([.engineImageRereadDone .A [([], read0), ([], read0), ([], read0), ([], read0), ([], read0)],
      .updStagingWrite 0x0EFFFFFF [0, 0],
      .bistTestDone ⟨false, 4294967296, true, 0⟩,
      .bistTestDone ⟨false, 0, true, 4294967296⟩,
      .bistTestCut 4294967296] : List Instr).all (fun c => ! c.wf) = true := by decide +kernel

theorem test_wf_refuses_long_image (l : List Byte) (h : copyMax < l.length) : (Instr.imageCopyChecked l read0).wf = false := by
  simp [Instr.wf, h]

theorem test_wf_refuses_long_scratchpad : (Instr.scratchpadWrite 0x74000000 (List.replicate 257 0) false).wf = false := by
  decide +kernel

theorem test_wf_refuses_long_staging : (Instr.updStagingWrite 0 (List.replicate 257 0)).wf = false := by decide +kernel

/-! ## The manual's worked examples and check values -/

def digits : List Byte := [0x31, 0x32, 0x33, 0x34, 0x35, 0x36, 0x37, 0x38, 0x39]

/-- R97. -/
theorem test_crc32c_check_value : crc32c digits = 0xE3069283 := by decide +kernel

/-- R126. -/
theorem test_crc8_check_value : crc8 digits = 0xF4 := by decide +kernel

/-- R160. -/
theorem test_crc16_check_value : burstCrc digits = 0x29B1 := by decide +kernel

/-- R409: the checker locks on the lane's own pattern and not on zeros, for each of the four patterns. -/
theorem test_prbs_lock : ([false, true].all (fun pam => [0, 1].all (fun pat => prbsLocks pam pat (prbsRun pam pat 200 1).1))) = true ∧
    ([false, true].all (fun pam => [0, 1].all (fun pat => ! prbsLocks pam pat (List.replicate 200 (prbsStuck pam pat ≠ 0)))) ) = true := by
  decide +kernel

/-- R128: leaf 1,234 stands in block 19, which subcarrier 19 carries in frames with even FC. -/
theorem test_rdi_block : rdiBlock 19 94 = 1234 / 64 ∧ rdiBlock 19 95 ≠ 1234 / 64 := by decide +kernel

/-- R129: FN values are compared modulo 2^16. -/
theorem test_fn_later : fnLater 2 65535 = true ∧ fnLater 65535 2 = false := by decide +kernel

/-- R62: the held rate of a DSP island is 1.55 GHz, and the floor of FLOW is 1.35 GHz. -/
theorem test_held_rates : clockMhz .aRxd { sagStep := 1 } = 1550 ∧ clockMhz .flow { sagStep := 4 } = 1350 := by decide +kernel

/-- R216: the mixer increment of subcarrier 7 is 0x2E00_0000. -/
theorem test_mixer_increment : mixerInc 7 = 0x2E000000 := by decide +kernel

/-- R298 and R313: Z, EQD_DISC and SQ_LEN of a tree with reaches of 24,000 m to 33,000 m. -/
theorem test_ranging_numbers : zSym 33000 = 3186000 ∧ eqdDisc64 24000 33000 = 64 * 1078020 ∧ sqLenOf 24000 33000 = 816016 := by
  decide +kernel

/-- R561: BURSTS_EXPECTED of leaf 1,234 on engine A. -/
theorem test_tally_cell : cellAddr 9 1234 3 = 0x94800000 + 0x3EAD0 := by decide +kernel

/-- R496: the write of BRX_CFG of engine A, its new value, and MGT_WSTAT with CODE 0 and WORDS 1. -/
theorem test_brx_cfg_write : 
    goesOn (exec (.i3cPrivateWrite 0x12000000 4 ⟨[0x08, 0x06, 0x01, 0x0C], .none⟩) { eng .trafficReady with mgt := { up.mgt with da := some 9 } })
      (fun t => getReg t .brxCfg .A 0 = 0x0806010C && t.mgt.wCode = .ok && t.mgt.wWords = 1) = true := by decide +kernel

/-- R229: the dispersion term of subcarrier 7 for 479 ps/nm at 191.600 THz is −311.714 ps. -/
theorem test_dispersion_delay : tauCd (setReg .usTreeCd .A 0 479 (setReg .usTreeUs .A 0 191600000 up)) .A 7 / 1000 = -312 := by decide +kernel

/-- R123: a frame has 8,320 symbols, and the first pilot stands behind the marker and the header. -/
theorem test_frame_symbols : (frameSymbols 5 0 0 []).length = 8320 ∧
    ((frameSymbols 5 0 0 []).drop 128).head? = some (symOf 0 (pilotSymbol 5 0)) := by decide +kernel

/-- A step runs the front command and takes it off the queue. -/
theorem test_step_pops : goesOn (step { up with pending := [.sagStart ⟨.flow, 500⟩, .holdupCharged] })
    (fun t => t.pending = [.holdupCharged] && (getIsl t .flow).sag) = true := by decide +kernel

end Sys2Proof.Tests
end

section
/-! The rules that hold of every command: what each may change (R24, R418, R528, R577), the range of the incarnation numbers (R24), and the
state before power. -/

namespace Sys2Proof.Machine

-- One theorem after another: each theorem that waits for another holds a thread with its stack, and many do not fit a check.
set_option Elab.async false

/-- What the lists of Claims let a command change of the parts they speak of; no list names the queue. -/
def mayTouch (c : Instr) : Part → Bool
  | .pending => false
  | .fuse => mayBlowFuses c
  | .flash => mayWriteFlash c
  | .fences => mayFence c
  | .incarns => mayResume c
  | .clk => maySetTime c
  | _ => true

/-- Two states agree on every part outside `a`. -/
def Within (a : Part → Bool) (s t : State) : Prop := ∀ p, a p = false → p.same s t

/-- A mask whose parts all lie in `a`, for a mask and a command that are known. -/
theorem Same.within {m : Nat} {a : Part → Bool} {s t : State} (h : Same m s t)
    (hm : (Part.all.all fun p => a p || ! m.testBit p.bit) = true) : Within a s t := by
  intro p hp
  have hp' := List.all_eq_true.mp hm p (by cases p <;> decide)
  rw [hp] at hp'
  exact h p (by simpa using hp')

/-- Every command stays within its lists, by the frame law of its effect. -/
theorem exec_within {c : Instr} {s t : State} (h : exec c s = .next t) : Within (mayTouch c) s t :=
  match c, h with
  | .feedMated .., h => (keep_execFeedMated _ _ _ _ h).within rfl
  | .powerGood .., h => (keep_execPowerGood _ _ _ _ _ h).within rfl
  | .holdupCharged, h => (keep_execHoldupCharged _ h).within rfl
  | .pwrLow .., h => (keep_execPwrLow _ _ _ h).within rfl
  | .pwrLowClear .., h => (keep_execPwrLowClear _ _ _ h).within rfl
  | .pwrFeedLost .., h => (keep_execPwrFeedLost _ _ _ h).within rfl
  | .pwrFeedHigh .., h => (keep_execPwrFeedHigh _ _ _ h).within rfl
  | .feedOvervoltSwitchOpen .., h => (keep_execFeedOvervoltSwitchOpen _ _ _ h).within rfl
  | .feedSwitchReclose .., h => (keep_execFeedSwitchReclose _ _ _ h).within rfl
  | .feedRestored .., h => (keep_execFeedRestored _ _ _ h).within rfl
  | .pwrFail .., h => (keep_execPwrFail _ _ h).within rfl
  | .shutdownLaserRampDone, h => (keep_execShutdownLaserRampDone _ h).within rfl
  | .emergencyShutdownEnd .., h => (keep_execEmergencyShutdownEnd _ _ _ h).within rfl
  | .feedLossRestart .., h => (keep_execFeedLossRestart _ _ h).within rfl
  | .sagStart .., h => (keep_execSagStart _ _ h).within rfl
  | .sagClear .., h => (keep_execSagClear _ _ h).within rfl
  | .pwrDroopLong .., h => (keep_execPwrDroopLong _ _ h).within rfl
  | .droopStepDown .., h => (keep_execDroopStepDown _ _ h).within rfl
  | .pwrDroopFloor .., h => (keep_execPwrDroopFloor _ _ h).within rfl
  | .droopStepUp .., h => (keep_execDroopStepUp _ _ h).within rfl
  | .pwrElasticSlip .., h => (keep_execPwrElasticSlip _ _ _ _ h).within rfl
  | .pwrCapHit .., h => (keep_execPwrCapHit _ _ h).within rfl
  | .capStepDown .., h => (keep_execCapStepDown _ _ h).within rfl
  | .capStepUp .., h => (keep_execCapStepUp _ _ h).within rfl
  | .thermHigh .., h => (keep_execThermHigh _ _ h).within rfl
  | .thermHighClear .., h => (keep_execThermHighClear _ _ h).within rfl
  | .thermCrit .., h => (keep_execThermCrit _ _ _ h).within rfl
  | .resetNAsserted, h => (keep_execResetNAsserted _ h).within rfl
  | .resetNReleased .., h => (keep_execResetNReleased _ _ _ _ h).within rfl
  | .shdnNAsserted, h => (keep_execShdnNAsserted _ h).within rfl
  | .shdnNReleased, h => (keep_execShdnNReleased _ h).within rfl
  | .fusesRead, h => (keep_execFusesRead _ h).within rfl
  | .sramInitDone, h => (keep_execSramInitDone _ h).within rfl
  | .firmwareAuthDone .., h => (keep_execFirmwareAuthDone _ _ _ h).within rfl
  | .imageCopyChecked .., h => (keep_execImageCopyChecked _ _ _ h).within rfl
  | .calRecordsChecked, h => (keep_execCalRecordsChecked _ h).within rfl
  | .dramReady, h => (keep_execDramReady _ h).within rfl
  | .quickSuiteDone, h => (keep_execQuickSuiteDone _ h).within rfl
  | .contextInitDone, h => (keep_execContextInitDone _ h).within rfl
  | .dramInitDone, h => (keep_execDramInitDone _ h).within rfl
  | .moduleReady, h => (keep_execModuleReady _ h).within rfl
  | .engineLasersLocked .., h => (keep_execEngineLasersLocked _ _ h).within rfl
  | .engineTuneTimeout .., h => (keep_execEngineTuneTimeout _ _ h).within rfl
  | .calibrationDone .., h => (keep_execCalibrationDone _ _ h).within rfl
  | .engineRampComplete .., h => (keep_execEngineRampComplete _ _ _ h).within rfl
  | .engineStartTimeout .., h => (keep_execEngineStartTimeout _ _ h).within rfl
  | .bootCtlRestart .., h => (keep_execBootCtlRestart _ _ h).within rfl
  | .frameLaunch .., h => (keep_execFrameLaunch _ _ h).within rfl
  | .dsGrpEnWrite .., h => (keep_execDsGrpEnWrite _ _ _ h).within rfl
  | .groupRampOnStart .., h => (keep_execGroupRampOnStart _ _ _ h).within rfl
  | .groupEnvelopeFull .., h => (keep_execGroupEnvelopeFull _ _ _ h).within rfl
  | .dsGroupOn .., h => (keep_execDsGroupOn _ _ _ h).within rfl
  | .dsGroupOff .., h => (keep_execDsGroupOff _ _ _ h).within rfl
  | .laserRampOnStart .., h => (keep_execLaserRampOnStart _ _ h).within rfl
  | .dsLaserOn .., h => (keep_execDsLaserOn _ _ h).within rfl
  | .dsLaserOff .., h => (keep_execDsLaserOff _ _ h).within rfl
  | .brxGateOpen .., h => (keep_execBrxGateOpen _ _ _ _ _ h).within rfl
  | .brxGateClose .., h => (keep_execBrxGateClose _ _ _ h).within rfl
  | .burstDetected .., h => (keep_execBurstDetected _ _ _ _ h).within rfl
  | .syncMatch .., h => (keep_execSyncMatch _ _ _ _ h).within rfl
  | .syncDeadlineMiss .., h => (keep_execSyncDeadlineMiss _ _ _ _ h).within rfl
  | .headerChecked .., h => (keep_execHeaderChecked _ _ _ _ h).within rfl
  | .blockDecoded .., h => (keep_execBlockDecoded _ _ _ _ h).within rfl
  | .burstEnd .., h => (keep_execBurstEnd _ _ _ h).within rfl
  | .captureRise .., h => (keep_execCaptureRise _ _ _ _ _ h).within rfl
  | .burstFall .., h => (keep_execBurstFall _ _ _ _ h).within rfl
  | .ssnHoldTimeout .., h => (keep_execSsnHoldTimeout _ _ _ h).within rfl
  | .feGainTurnUpdate .., h => (keep_execFeGainTurnUpdate _ _ _ _ h).within rfl
  | .calTempCheck .., h => (keep_execCalTempCheck _ _ _ _ h).within rfl
  | .calRunRx .., h => (keep_execCalRunRx _ _ h).within rfl
  | .calRunTx .., h => (keep_execCalRunTx _ _ h).within rfl
  | .calRunStart .., h => (keep_execCalRunStart _ _ _ _ h).within rfl
  | .calCollectDone .., h => (keep_execCalCollectDone _ _ _ _ _ h).within rfl
  | .calStarved .., h => (keep_execCalStarved _ _ _ h).within rfl
  | .calStepDone .., h => (keep_execCalStepDone _ _ _ h).within rfl
  | .calRecordWrite .., h => (keep_execCalRecordWrite _ _ _ _ h).within rfl
  | .calScGo .., h => (keep_execCalScGo _ _ _ h).within rfl
  | .calScRunStart .., h => (keep_execCalScRunStart _ _ h).within rfl
  | .calScDone .., h => (keep_execCalScDone _ _ _ h).within rfl
  | .frmSsetWrite .., h => (keep_execFrmSsetWrite _ _ _ _ _ h).within rfl
  | .frmSsetDone .., h => (keep_execFrmSsetDone _ _ _ h).within rfl
  | .frmCtrWrite .., h => (keep_execFrmCtrWrite _ _ _ _ _ h).within rfl
  | .containerChangeEffective .., h => (keep_execContainerChangeEffective _ _ _ h).within rfl
  | .engineDefectTurnEval .., h => (keep_execEngineDefectTurnEval _ _ _ h).within rfl
  | .sfSdHoldoffExpiry .., h => (keep_execSfSdHoldoffExpiry _ _ _ h).within rfl
  | .apsPlannedNoticeDone, h => (keep_execApsPlannedNoticeDone _ h).within rfl
  | .apsRampOffDone, h => (keep_execApsRampOffDone _ h).within rfl
  | .apsNewEngineFullPower, h => (keep_execApsNewEngineFullPower _ h).within rfl
  | .apsCommonOffsetApplied, h => (keep_execApsCommonOffsetApplied _ h).within rfl
  | .apsSettleTimeout, h => (keep_execApsSettleTimeout _ h).within rfl
  | .apsWtrExpiry, h => (keep_execApsWtrExpiry _ h).within rfl
  | .apsCmdClear, h => (keep_execApsCmdClear _ h).within rfl
  | .apsCmdLo, h => (keep_execApsCmdLo _ h).within rfl
  | .apsCmdFsA, h => (keep_execApsCmdFsA _ h).within rfl
  | .apsCmdFsB, h => (keep_execApsCmdFsB _ h).within rfl
  | .apsCmdMsA, h => (keep_execApsCmdMsA _ h).within rfl
  | .apsCmdMsB, h => (keep_execApsCmdMsB _ h).within rfl
  | .mapCompute .., h => (keep_execMapCompute _ _ _ _ h).within rfl
  | .mapRecomputeDone .., h => (keep_execMapRecomputeDone _ _ _ _ h).within rfl
  | .heldMessagesSend .., h => (keep_execHeldMessagesSend _ _ h).within rfl
  | .timeMessageSend .., h => (keep_execTimeMessageSend _ _ h).within rfl
  | .discoveryBurstProcess .., h => (keep_execDiscoveryBurstProcess _ _ _ h).within rfl
  | .rangingBurstProcess .., h => (keep_execRangingBurstProcess _ _ _ h).within rfl
  | .rangingWindowMissed .., h => (keep_execRangingWindowMissed _ _ _ h).within rfl
  | .burstReportProcess .., h => (keep_execBurstReportProcess _ _ _ h).within rfl
  | .bankerRegSuccess .., h => (keep_execBankerRegSuccess _ _ _ h).within rfl
  | .bankerRegFailure .., h => (keep_execBankerRegFailure _ _ _ h).within rfl
  | .regTimeout .., h => (keep_execRegTimeout _ _ _ h).within rfl
  | .leafDepartTimeout .., h => (keep_execLeafDepartTimeout _ _ _ h).within rfl
  | .leafStickyExpiry .., h => (keep_execLeafStickyExpiry _ _ _ h).within rfl
  | .leafCtlDereg .., h => (keep_execLeafCtlDereg _ _ _ _ h).within rfl
  | .leafCtlRerange .., h => (keep_execLeafCtlRerange _ _ _ h).within rfl
  | .leafSerialWrite .., h => (keep_execLeafSerialWrite _ _ _ _ _ h).within rfl
  | .leafGrpWrite .., h => (keep_execLeafGrpWrite _ _ _ _ _ h).within rfl
  | .groupMembershipEffective .., h => (keep_execGroupMembershipEffective _ _ _ h).within rfl
  | .clientFrameReceived .., h => (keep_execClientFrameReceived _ _ _ h).within rfl
  | .dsPacketLookup, h => (keep_execDsPacketLookup _ h).within rfl
  | .contextFetchDone .., h => (keep_execContextFetchDone _ _ _ h).within rfl
  | .usUnitLookup, h => (keep_execUsUnitLookup _ h).within rfl
  | .clientFrameTransmit .., h => (keep_execClientFrameTransmit _ _ h).within rfl
  | .contextSweep, h => (keep_execContextSweep _ h).within rfl
  | .flowMoveTimeout .., h => (keep_execFlowMoveTimeout _ _ h).within rfl
  | .flowContextWrite .., h => (keep_execFlowContextWrite _ _ _ _ h).within rfl
  | .keyIndexRebuild .., h => (keep_execKeyIndexRebuild _ _ h).within rfl
  | .todOffsetMeasured .., h => (keep_execTodOffsetMeasured _ _ h).within rfl
  | .todSourceLost, h => (keep_execTodSourceLost _ h).within rfl
  | .todHoldoverExpiry, h => (keep_execTodHoldoverExpiry _ h).within rfl
  | .ppsInEdge, h => (keep_execPpsInEdge _ h).within rfl
  | .todSetLoWrite .., h => (keep_execTodSetLoWrite _ _ h).within rfl
  | .todNowHiRead, h => (keep_execTodNowHiRead _ h).within rfl
  | .ptpMessageReceived .., h => (keep_execPtpMessageReceived _ _ _ _ h).within rfl
  | .ptpAnnounceTx, h => (keep_execPtpAnnounceTx _ h).within rfl
  | .ptpSyncDelayTx, h => (keep_execPtpSyncDelayTx _ h).within rfl
  | .secondBoundary, h => (keep_execSecondBoundary _ h).within rfl
  | .clnPortWrite .., h => (keep_execClnPortWrite _ _ _ h).within rfl
  | .clnLaneWrite .., h => (keep_execClnLaneWrite _ _ _ h).within rfl
  | .clnPortRefReady .., h => (keep_execClnPortRefReady _ _ h).within rfl
  | .clnTrainingDone .., h => (keep_execClnTrainingDone _ _ _ _ _ h).within rfl
  | .clnTrainFail .., h => (keep_execClnTrainFail _ _ _ h).within rfl
  | .clnLinkUp .., h => (keep_execClnLinkUp _ _ _ _ h).within rfl
  | .clnAlignFail .., h => (keep_execClnAlignFail _ _ _ h).within rfl
  | .clnLinkDown .., h => (keep_execClnLinkDown _ _ _ h).within rfl
  | .clnRefclkLost .., h => (keep_execClnRefclkLost _ _ h).within rfl
  | .clnRefclkOk .., h => (keep_execClnRefclkOk _ _ h).within rfl
  | .clnHiSer .., h => (keep_execClnHiSer _ _ _ h).within rfl
  | .unitEncrypt .., h => (keep_execUnitEncrypt _ _ _ h).within rfl
  | .unitDecrypt, h => (keep_execUnitDecrypt _ h).within rfl
  | .slotGenerationDrained .., h => (keep_execSlotGenerationDrained _ _ h).within rfl
  | .rekeyStart .., h => (keep_execRekeyStart _ _ h).within rfl
  | .regRecordResend .., h => (keep_execRegRecordResend _ _ _ h).within rfl
  | .leafKexReceived .., h => (keep_execLeafKexReceived _ _ _ _ h).within rfl
  | .leafFinReceived .., h => (keep_execLeafFinReceived _ _ _ _ h).within rfl
  | .leafFailReceived _ _ cause, h => (keep_execLeafFailReceived _ _ cause _ h).within rfl
  | .rekeyAckReceived .., h => (keep_execRekeyAckReceived _ _ _ _ h).within rfl
  | .groupAckReceived .., h => (keep_execGroupAckReceived _ _ _ _ h).within rfl
  | .groupRekeyStart .., h => (keep_execGroupRekeyStart _ _ _ h).within rfl
  | .groupKeyRewriteTimeout .., h => (keep_execGroupKeyRewriteTimeout _ _ _ h).within rfl
  | .shakerHealthFail .., h => (keep_execShakerHealthFail _ _ _ h).within rfl
  | .shakerRetry .., h => (keep_execShakerRetry _ _ h).within rfl
  | .secKeyCmdRekey .., h => (keep_execSecKeyCmdRekey _ _ h).within rfl
  | .secProvCommit, h => (keep_execSecProvCommit _ h).within rfl
  | .lcReturnArm, h => (keep_execLcReturnArm _ h).within rfl
  | .lcReturnCommit, h => (keep_execLcReturnCommit _ h).within rfl
  | .lcVoidArm, h => (keep_execLcVoidArm _ h).within rfl
  | .lcVoidCommit, h => (keep_execLcVoidCommit _ h).within rfl
  | .lcArmExpiry, h => (keep_execLcArmExpiry _ h).within rfl
  | .secLcChange .., h => (keep_execSecLcChange _ _ _ _ h).within rfl
  | .memMoveGo .., h => (keep_execMemMoveGo _ _ _ h).within rfl
  | .memMoveDone, h => (keep_execMemMoveDone _ h).within rfl
  | .memMoveTimeout, h => (keep_execMemMoveTimeout _ h).within rfl
  | .scrubLapEnd .., h => (keep_execScrubLapEnd _ _ _ h).within rfl
  | .bgtBorrow .., h => (keep_execBgtBorrow _ _ _ h).within rfl
  | .bgtMarchDone .., h => (keep_execBgtMarchDone _ _ _ h).within rfl
  | .bgtYield, h => (keep_execBgtYield _ h).within rfl
  | .scratchpadWrite .., h => (keep_execScratchpadWrite _ _ _ _ h).within rfl
  | .i3cPrivateWrite .., h => (keep_execI3cPrivateWrite _ _ _ _ h).within rfl
  | .registerWrite .., h => (keep_execRegisterWrite _ _ _ h).within rfl
  | .flagW1cWrite .., h => (keep_execFlagW1cWrite _ _ _ _ h).within rfl
  | .i3cReadSetup .., h => (keep_execI3cReadSetup _ _ _ h).within rfl
  | .i3cReadContinue .., h => (keep_execI3cReadContinue _ _ h).within rfl
  | .readFetchDone .., h => (keep_execReadFetchDone _ _ h).within rfl
  | .i3cPrivateRead, h => (keep_execI3cPrivateRead _ h).within rfl
  | .brxLastReadLatch .., h => (keep_execBrxLastReadLatch _ _ _ h).within rfl
  | .secSlotIcHiRead .., h => (keep_execSecSlotIcHiRead _ _ h).within rfl
  | .evtHeadHiRead, h => (keep_execEvtHeadHiRead _ h).within rfl
  | .evtHeadLoRead, h => (keep_execEvtHeadLoRead _ h).within rfl
  | .mgtFaultRead, h => (keep_execMgtFaultRead _ h).within rfl
  | .cccEnec .., h => (keep_execCccEnec _ _ h).within rfl
  | .cccDisec .., h => (keep_execCccDisec _ _ h).within rfl
  | .cccEntas n, h => (keep_execCccEntas n _ h).within rfl
  | .cccRstdaa, h => (keep_execCccRstdaa _ h).within rfl
  | .cccEntdaa .., h => (keep_execCccEntdaa _ _ h).within rfl
  | .cccSetmwl .., h => (keep_execCccSetmwl _ _ h).within rfl
  | .cccSetmrl .., h => (keep_execCccSetmrl _ _ h).within rfl
  | .cccEnthdr0, h => (keep_execCccEnthdr0 _ h).within rfl
  | .cccRstact .., h => (keep_execCccRstact _ _ h).within rfl
  | .cccSetdasa .., h => (keep_execCccSetdasa _ _ _ h).within rfl
  | .cccSetnewda .., h => (keep_execCccSetnewda _ _ h).within rfl
  | .cccGetmwl, h => (keep_execCccGetmwl _ h).within rfl
  | .cccGetmrl, h => (keep_execCccGetmrl _ h).within rfl
  | .cccGetpid, h => (keep_execCccGetpid _ h).within rfl
  | .cccGetbcr, h => (keep_execCccGetbcr _ h).within rfl
  | .cccGetdcr, h => (keep_execCccGetdcr _ h).within rfl
  | .cccGetmxds, h => (keep_execCccGetmxds _ h).within rfl
  | .cccGetcaps, h => (keep_execCccGetcaps _ h).within rfl
  | .cccGetstatus, h => (keep_execCccGetstatus _ h).within rfl
  | .targetResetPattern, h => (keep_execTargetResetPattern _ h).within rfl
  | .eventRecordAppend .., h => (keep_execEventRecordAppend _ _ h).within rfl
  | .ibiRequest, h => (keep_execIbiRequest _ h).within rfl
  | .mgtIbiNack, h => (keep_execMgtIbiNack _ h).within rfl
  | .islandSoftRestartCmd .., h => (keep_execIslandSoftRestartCmd _ _ h).within rfl
  | .islandHardResetCmd .., h => (keep_execIslandHardResetCmd _ _ h).within rfl
  | .fenceNoticeAcked .., h => (keep_execFenceNoticeAcked _ _ h).within rfl
  | .islandDrained .., h => (keep_execIslandDrained _ _ h).within rfl
  | .drainTimeout .., h => (keep_execDrainTimeout _ _ h).within rfl
  | .stateSaveDone .., h => (keep_execStateSaveDone _ _ h).within rfl
  | .islandResetDone .., h => (keep_execIslandResetDone _ _ h).within rfl
  | .updIslResume .., h => (keep_execUpdIslResume _ _ h).within rfl
  | .resumeBoundExceeded .., h => (keep_execResumeBoundExceeded _ _ h).within rfl
  | .watchdogRestart .., h => (keep_execWatchdogRestart _ _ _ h).within rfl
  | .engineCmdRestart .., h => (keep_execEngineCmdRestart _ _ _ h).within rfl
  | .engineCmdStop .., h => (keep_execEngineCmdStop _ _ _ h).within rfl
  | .engineCmdTxDark .., h => (keep_execEngineCmdTxDark _ _ h).within rfl
  | .engineImageRereadDone .., h => (keep_execEngineImageRereadDone _ _ _ h).within rfl
  | .updStagingWrite .., h => (keep_execUpdStagingWrite _ _ _ h).within rfl
  | .updCmdVerify, h => (keep_execUpdCmdVerify _ h).within rfl
  | .updVerified, h => (keep_execUpdVerified _ h).within rfl
  | .updCmdApply, h => (keep_execUpdCmdApply _ h).within rfl
  | .updCmdCommit, h => (keep_execUpdCmdCommit _ h).within rfl
  | .updCmdRollback, h => (keep_execUpdCmdRollback _ h).within rfl
  | .updCmdClear, h => (keep_execUpdCmdClear _ h).within rfl
  | .updTrialExpiry, h => (keep_execUpdTrialExpiry _ h).within rfl
  | .updCommit .., h => (keep_execUpdCommit _ _ _ h).within rfl
  | .tallyClearTot, h => (keep_execTallyClearTot _ h).within rfl
  | .bistCtlShutdownTest, h => (keep_execBistCtlShutdownTest _ h).within rfl
  | .bistCtlShutdownNotest, h => (keep_execBistCtlShutdownNotest _ h).within rfl
  | .bistShutdown, h => (keep_execBistShutdown _ h).within rfl
  | .shutdownStopDone, h => (keep_execShutdownStopDone _ h).within rfl
  | .shutdownRecordsSaved, h => (keep_execShutdownRecordsSaved _ h).within rfl
  | .bistTestDone .., h => (keep_execBistTestDone _ _ h).within rfl
  | .bistTestCut .., h => (keep_execBistTestCut _ _ h).within rfl
  | .shutdownRecordWritten, h => (keep_execShutdownRecordWritten _ h).within rfl
  | .shutdownRailsOff, h => (keep_execShutdownRailsOff _ h).within rfl
  | .aprReduce .., h => (keep_execAprReduce _ _ _ h).within rfl
  | .aprRestoreStart .., h => (keep_execAprRestoreStart _ _ _ h).within rfl
  | .aprRestoreDone .., h => (keep_execAprRestoreDone _ _ _ h).within rfl
  | .makerProgramming, h => (keep_execMakerProgramming _ h).within rfl
  | .makerShipCommand, h => (keep_execMakerShipCommand _ h).within rfl
  | .makerVoidCommand, h => (keep_execMakerVoidCommand _ h).within rfl
  | .transmitFault .., h => (keep_execTransmitFault _ _ _ h).within rfl
  | .transmitFaultClear .., h => (keep_execTransmitFaultClear _ _ _ h).within rfl
  | .hiSerClear .., h => (keep_execHiSerClear _ _ h).within rfl
  | .prbsLockAcquired .., h => (keep_execPrbsLockAcquired _ _ h).within rfl
  | .prbsLockLost .., h => (keep_execPrbsLockLost _ _ h).within rfl
  | .upstreamOldGenerationExpiry .., h => (keep_execUpstreamOldGenerationExpiry _ _ h).within rfl
  | .scrubberRead .., h => (keep_execScrubberRead _ _ _ _ h).within rfl

/-- Settles O8: each command stays within the parts that its lists name. -/
theorem onlyTheseChange : Obligations.OnlyTheseChange := by
  intro c s t h
  have k := exec_within h
  exact ⟨k .fuse, k .flash, fun g i => congrArg (·.1) (k .fences g i), k .incarns, k .clk⟩


/-! ## Incarnation numbers (R24) -/

/-- A function that leaves the incarnation numbers alone keeps them in range. -/
theorem Same.incarnOk {m : Nat} {s t : State} (h : Same m s t) (hs : incarnOk s) (hm : m.testBit 35 = false := by rfl) : incarnOk t :=
  fun i => by rw [h .incarns hm i]; exact hs i

/-- Islands at reset are in their first incarnation. -/
theorem incarnOk_of_isls_nil {t : State} (h : t.isls = []) : incarnOk t := fun i => by
  unfold getIsl; rw [h]; exact (by decide : 1 ≤ (1 : Nat) ∧ (1 : Nat) ≤ 255)

theorem incarnOk_of_isls_eq {s t : State} (h : t.isls = s.isls) (hs : incarnOk s) : incarnOk t := fun i => by
  rw [getIsl_congr h]; exact hs i

/-- 255 is followed by 1, so the next number is in range whatever the old one was. -/
theorem nextIncarn_range (n : Nat) : 1 ≤ nextIncarn n ∧ nextIncarn n ≤ 255 := by
  unfold nextIncarn; split <;> omega

theorem incarnOk_modIsl {i : Isl} {f : IslSt → IslSt} {s : State} (hf : 1 ≤ (f (getIsl s i)).incarn ∧ (f (getIsl s i)).incarn ≤ 255)
    (hs : incarnOk s) : incarnOk (modIsl i f s) := fun j => by
  rw [getIsl_modIsl]
  split
  · exact hf
  · exact hs j

theorem incarnOk_forAll {α : Type} {f : α → State → State} (hf : ∀ a u, incarnOk u → incarnOk (f a u)) :
    ∀ (l : List α) (s : State), incarnOk s → incarnOk (forAll l f s)
  | [], _, hs => hs
  | a :: l, s, hs => incarnOk_forAll hf l (f a s) (hf a s hs)

theorem incarnOk_noteFault {s t : State} (ht : incarnOk t) : incarnOk (noteFault s t) := (keep_noteFault s t).incarnOk ht

theorem incarnOk_setStatus {p : State × Status} (h : incarnOk p.1) : incarnOk (setStatus p) := h

theorem incarnOk_refuseOr {st : Status} {f : State → State} {s : State} (hs : incarnOk s) (hf : incarnOk (f s)) :
    incarnOk (refuseOr st f s).1 := by
  unfold refuseOr; split
  · exact hf
  · exact hs

theorem incarnOk_actF {g : Bool} {f : State → State} {s t : State} (h : actF g f s = .next t) (hs : incarnOk s) (hf : incarnOk (f s)) :
    incarnOk t := by
  unfold actF at h
  cases h
  split
  · exact incarnOk_noteFault hf
  · exact hs

/-! What starts the module or stops it puts every island back in its first incarnation. -/

theorem incarnOk_keepPowered (run : RunState) (s : State) : incarnOk (keepPowered run s) := incarnOk_of_isls_nil rfl
theorem incarnOk_restart (s : State) : incarnOk (restart s) := incarnOk_of_isls_nil rfl
theorem incarnOk_abortStart (s : State) : incarnOk (abortStart s) := incarnOk_keepPowered _ _

/-! A resume. -/

theorem incarnOk_enterRun (i : Isl) (s : State) (hs : incarnOk s) : incarnOk (enterRun i s) := by
  unfold enterRun
  have h1 := (keep_enterFence .run i s).incarnOk hs
  have h2 := incarnOk_modIsl (i := i) (f := fun x => { x with incarn := nextIncarn x.incarn }) (nextIncarn_range _) h1
  have h3 := (keep_resumeEvent i (getIsl s i).incarn _).incarnOk h2
  have h4 := incarnOk_modIsl (i := i) (f := fun x => { x with overdue := false }) (h3 i) h3
  refine incarnOk_forAll (fun e u hu => ?_) engines _ h4
  unfold when
  split
  · exact (keep_rerangeDues e u).incarnOk hu
  · exact hu

theorem incarnOk_runFence (i : Isl) (s : State) (hs : incarnOk s) : incarnOk (runFence i s) := by
  unfold runFence
  have h := incarnOk_forAll incarnOk_enterRun (fenceGroup s i) s hs
  dsimp only
  split
  · exact (keep_apsUpdate _).incarnOk h
  · exact h

theorem incarnOk_execUpdIslResume {i : Isl} {s t : State} (hs : incarnOk s) (h : execUpdIslResume i s = .next t) : incarnOk t := by
  refine incarnOk_actF h hs ((keep_updKick _).incarnOk ?_)
  have taken : ∀ l, incarnOk (forAll l updTaken (runFence i s)) := fun l =>
    incarnOk_forAll (fun a u => (keep_updTaken a u).incarnOk) l _ (incarnOk_runFence i s hs)
  have byUpd : incarnOk (if (getIsl s i).cause = .update then
      forAll ((fenceGroup s i).filter (updHas (runFence i s))) updTaken (runFence i s) else runFence i s) := by
    split
    · exact taken _
    · exact incarnOk_runFence i s hs
  split
  · next e _ =>
    have resumed : ∀ u, Same 11811159698 u (engResumed e u) := fun u => (keep_engResumed e u).mono rfl
    exact Same.incarnOk ((same_watchFail (m' := 11811159698) rfl resumed).mpr ((same_refl _ _).mpr trivial)) byUpd
  · exact byUpd

/-! The host's writes. -/

theorem incarnOk_writeBistCtl (v : W32) (s : State) (hs : incarnOk s) : incarnOk (writeBistCtl v s).1 := by
  unfold writeBistCtl
  dsimp only
  split
  · exact incarnOk_of_isls_eq (s := abortStart s) rfl (incarnOk_abortStart s)
  · exact incarnOk_refuseOr hs ((keep_requestShutdown _ s).incarnOk hs)

theorem incarnOk_writeBootCtl (v : W32) (s : State) (hs : incarnOk s) : incarnOk (writeBootCtl v s).1 :=
  incarnOk_refuseOr hs (incarnOk_restart s)

theorem incarnOk_writeOwn (a : RegAt) (v : W32) (s : State) (hs : incarnOk s) : incarnOk (writeOwn a v s).1 := by
  unfold writeOwn
  split
  case h_1 => exact incarnOk_writeBootCtl v s hs
  case h_16 => exact incarnOk_writeBistCtl v s hs
  case h_2 => exact (keep_writeTodSetHi v s).incarnOk hs
  case h_3 => exact (keep_writeTodSetLo v s).incarnOk hs
  case h_4 => exact (keep_writeApsCmd v s).incarnOk hs
  case h_5 => exact (keep_writeCalCtl _ v s).incarnOk hs
  case h_6 => exact (keep_writeKeyCmd v s).incarnOk hs
  case h_7 => exact (keep_writeProvHash _ v s).incarnOk hs
  case h_8 => exact (keep_writeProvCmd v s).incarnOk hs
  case h_9 => exact (keep_writeLcCmd v s).incarnOk hs
  case h_10 => exact (keep_writeMemMove v s).incarnOk hs
  case h_11 => exact (keep_writeTallyCtl v s).incarnOk hs
  case h_12 => exact (keep_writeTallyMode _ v s).incarnOk hs
  case h_13 => exact (keep_writeUpdCtl v s).incarnOk hs
  case h_14 => exact (keep_writeEngCtl v s).incarnOk hs
  case h_15 =>
    split
    · exact (keep_writeIslCmd _ v s).incarnOk hs
    · exact hs
  case h_17 => exact (keep_writeSset _ _ _ v s).incarnOk hs
  case h_18 =>
    split
    · exact (keep_writeCtr0 _ _ v s).incarnOk hs
    · exact (keep_writeCtr1 _ _ v s).incarnOk hs
  case h_19 => exact hs

theorem incarnOk_writeReg (a : RegAt) (v setNow : W32) (s : State) (hs : incarnOk s) : incarnOk (writeReg a v setNow s).1 := by
  unfold writeReg
  split
  · split
    · exact incarnOk_refuseOr hs ((keep_w1cWrite _ _ _ _ s).incarnOk hs)
    · exact (keep_writeSetting a v s).incarnOk hs
    · exact incarnOk_writeOwn a v s hs
    · exact incarnOk_writeOwn a v s hs
    · exact hs
    · exact hs
  · exact hs

theorem incarnOk_writePlace (p : Place) (v : W32) (s : State) (hs : incarnOk s) : incarnOk (writePlace p v s).1 := by
  cases p with
  | reg a => exact incarnOk_writeReg a v 0 s hs
  | leaf a => exact (keep_writeLeaf a v s).incarnOk hs
  | flow f w =>
    unfold writePlace
    dsimp only
    split
    · exact (keep_writeFlow f w v s).incarnOk hs
    · exact hs
  | scratch o => exact (keep_writeScratch _ _ _ s).incarnOk hs
  | stage o => exact (keep_writeStage _ _ s).incarnOk hs
  | cell | sum | total | ring | prev | sram => exact hs

theorem incarnOk_writeAt (adr : Nat) (v : W32) (s : State) (hs : incarnOk s) : incarnOk (writeAt adr v s).1 := by
  unfold writeAt
  split
  · exact hs
  · split
    · exact hs
    · exact incarnOk_writePlace _ v s hs

theorem incarnOk_applyWords : ∀ (k adr : Nat) (d : List Byte) (n : Nat) (s : State), incarnOk s → incarnOk (applyWords k adr d n s).1
  | 0, _, _, _, _, hs => hs
  | k + 1, adr, d, n, s, hs => by
    unfold applyWords
    have h := incarnOk_writeAt adr (wordAt d 0) s hs
    dsimp only
    split
    · exact hs
    · split
      · exact incarnOk_applyWords k _ _ _ _ h
      · exact h

theorem incarnOk_applyWrite (adr : Nat) (d : List Byte) (s : State) (hs : incarnOk s) : incarnOk (applyWrite adr d s).1 := by
  unfold applyWrite
  dsimp only
  split
  · exact (keep_writeScratch _ _ _ s).incarnOk hs
  · split
    · exact (keep_writeStage _ _ s).incarnOk hs
    · exact incarnOk_applyWords _ _ _ _ s hs

theorem incarnOk_privateWrite (adr len : Nat) (d : List Byte) (s : State) (hs : incarnOk s) : incarnOk (privateWrite adr len d s) := by
  unfold privateWrite
  lift_lets
  intro u c r
  have hu : incarnOk u := by
    unfold u
    split
    · exact (keep_protoErr 4 s).incarnOk hs
    · split
      · exact (keep_protoErr 3 s).incarnOk hs
      · exact hs
  have hr : incarnOk r.1 := incarnOk_applyWrite adr d u hu
  split
  · split
    · exact (keep_noteWrite _ _ _).incarnOk hr
    · exact hr
  · exact (keep_noteWrite _ _ _).incarnOk hu

theorem incarnOk_execI3cPrivateWrite {adr : W32} {len : Nat} {x : WriteXfer} {s t : State} (hs : incarnOk s)
    (h : execI3cPrivateWrite adr len x s = .next t) : incarnOk t := by
  refine incarnOk_actF h hs ?_
  split
  · exact incarnOk_privateWrite _ _ _ s hs
  · exact (keep_modMgt _ _).incarnOk ((keep_protoErr _ s).incarnOk hs)
  · exact (keep_modMgt _ _).incarnOk ((keep_protoErr _ s).incarnOk hs)

theorem incarnOk_execFlagW1cWrite {adr v n : W32} {s t : State} (hs : incarnOk s) (h : execFlagW1cWrite adr v n s = .next t) : incarnOk t := by
  unfold execFlagW1cWrite at h
  split at h
  · cases h; exact hs
  · next a _ =>
    split at h <;> cases h <;> try exact hs
    refine incarnOk_setStatus ?_
    split
    · exact incarnOk_writeReg a v n s hs
    · exact (keep_w1cWrite _ _ _ _ s).incarnOk hs

/-! Power, the pins and the target reset pattern. -/

theorem incarnOk_execPowerGood {f : Feed} {mv : Int} {a b : Bool} {s t : State} (hs : incarnOk s) (h : execPowerGood f mv a b s = .next t) :
    incarnOk t := by
  refine incarnOk_actF h hs ?_
  have fresh : incarnOk (freshFeeds f mv (keep s)) := (keep_freshFeeds f mv _).incarnOk (incarnOk_of_isls_nil rfl)
  dsimp only
  split
  · exact fresh
  · exact fresh

theorem incarnOk_execShdnNAsserted {s t : State} (hs : incarnOk s) (h : execShdnNAsserted s = .next t) : incarnOk t := by
  refine incarnOk_actF h hs ?_
  dsimp only
  split
  · exact hs
  · split
    · exact incarnOk_abortStart _
    · exact incarnOk_abortStart _
    · split
      · exact (keep_requestShutdown 0 _).incarnOk hs
      · exact hs
    all_goals exact hs

theorem incarnOk_execShdnNReleased {s t : State} (hs : incarnOk s) (h : execShdnNReleased s = .next t) : incarnOk t := by
  refine incarnOk_actF h hs ?_
  dsimp only
  split
  · exact incarnOk_restart _
  · exact hs

theorem incarnOk_execResetNAsserted {s t : State} (hs : incarnOk s) (h : execResetNAsserted s = .next t) : incarnOk t := by
  refine incarnOk_actF h hs ?_
  dsimp only
  split
  · exact hs
  · exact incarnOk_keepPowered _ _

theorem incarnOk_execResetNReleased {a b : Bool} {c : Int} {s t : State} (hs : incarnOk s) (h : execResetNReleased a b c s = .next t) :
    incarnOk t := by
  refine incarnOk_actF h hs ?_
  dsimp only
  split
  · split
    · exact incarnOk_restart _
    · exact hs
  all_goals exact hs

theorem incarnOk_execTargetResetPattern {s t : State} (hs : incarnOk s) (h : execTargetResetPattern s = .next t) : incarnOk t := by
  refine incarnOk_actF h hs ?_
  split
  · split
    · exact incarnOk_restart s
    · exact hs
  · exact (keep_resetTarget s).incarnOk hs

theorem incarnOk_execEmergencyShutdownEnd {n : Nat} {ok : Bool} {s t : State} (hs : incarnOk s) (h : execEmergencyShutdownEnd n ok s = .next t) :
    incarnOk t := incarnOk_actF h hs (incarnOk_of_isls_nil rfl)

theorem incarnOk_execSecLcChange {a b c : BitVec 8} {s t : State} (hs : incarnOk s) (h : execSecLcChange a b c s = .next t) : incarnOk t :=
  incarnOk_actF h hs (incarnOk_restart _)

theorem incarnOk_execShutdownRailsOff {s t : State} (hs : incarnOk s) (h : execShutdownRailsOff s = .next t) : incarnOk t :=
  incarnOk_actF h hs (incarnOk_of_isls_nil rfl)

/-- The commands that may change an incarnation number keep it in range: a resume takes the next number, and a start or a stop puts every
island at 1. -/
theorem mayResume_incarnOk {c : Instr} {s t : State} (g : mayResume c = true) (hs : incarnOk s) (h : exec c s = .next t) : incarnOk t := by
  cases c <;> first | exact (Bool.false_ne_true g).elim | skip
  case powerGood => exact incarnOk_execPowerGood hs h
  case emergencyShutdownEnd => exact incarnOk_execEmergencyShutdownEnd hs h
  case resetNAsserted => exact incarnOk_execResetNAsserted hs h
  case resetNReleased => exact incarnOk_execResetNReleased hs h
  case shdnNAsserted => exact incarnOk_execShdnNAsserted hs h
  case shdnNReleased => exact incarnOk_execShdnNReleased hs h
  case bootCtlRestart v => cases h; exact incarnOk_noteFault (incarnOk_setStatus (incarnOk_writeBootCtl v s hs))
  case secLcChange => exact incarnOk_execSecLcChange hs h
  case i3cPrivateWrite => exact incarnOk_execI3cPrivateWrite hs h
  case registerWrite adr v => cases h; exact incarnOk_setStatus (incarnOk_noteFault (incarnOk_writeAt adr.toNat v s hs))
  case flagW1cWrite => exact incarnOk_execFlagW1cWrite hs h
  case targetResetPattern => exact incarnOk_execTargetResetPattern hs h
  case updIslResume => exact incarnOk_execUpdIslResume hs h
  case shutdownRailsOff => exact incarnOk_execShutdownRailsOff hs h
  case bistCtlShutdownTest => cases h; exact incarnOk_noteFault (incarnOk_setStatus (incarnOk_writeBistCtl _ s hs))
  case bistCtlShutdownNotest => cases h; exact incarnOk_noteFault (incarnOk_setStatus (incarnOk_writeBistCtl _ s hs))

/-- Every command keeps the incarnation numbers in range: one that is in no list of R24 leaves them alone. -/
theorem exec_incarnOk {c : Instr} {s t : State} (hs : incarnOk s) (h : exec c s = .next t) : incarnOk t := by
  cases g : mayResume c
  · exact fun i => by rw [exec_within h .incarns g i]; exact hs i
  · exact mayResume_incarnOk g hs h

/-- Settles O4: a step runs the front command or lets a microsecond pass. -/
theorem incarnationNeverZero : Obligations.IncarnationNeverZero := by
  intro s t hs h
  unfold step at h
  split at h
  · cases h; exact (keep_tick s).incarnOk hs
  · next rest _ =>
    have hs' : incarnOk { s with pending := rest } := hs
    exact exec_incarnOk hs' h

/-! ## The state before power (R24, R463, R495) -/

/-- Settles O3: every table of the reset state is empty, so each entry has its default. -/
theorem resetState : Obligations.ResetState := by
  refine ⟨rfl, rfl, rfl, rfl, rfl, rfl, rfl, fun _ _ _ => rfl, fun _ => rfl, fun _ => rfl, fun _ _ => rfl, fun _ => rfl,
    fun _ => ⟨rfl, rfl, rfl⟩, incarnOk_of_isls_nil rfl⟩

end Sys2Proof.Machine
end

section
/-! Fences of islands (R24, R527 to R532): the group that moves, the counts, the flag of a resume, and the failure of an update. -/

namespace Sys2Proof.Machine

-- One theorem after another: each theorem that waits for another holds a thread with its stack, and many do not fit a check.
set_option Elab.async false

/-! ## Masks and lists of parts -/

/-- A mask lies in a list of parts, both of them known. -/
theorem mask_sub {m : Nat} {ps : List Part} (h : (Part.all.all fun p => ps.contains p || ! m.testBit p.bit) = true) :
    ∀ p, p ∉ ps → m.testBit p.bit = false := by
  intro p hp
  have k := List.all_eq_true.mp h p (by cases p <;> decide)
  simpa [hp] using k

/-! ## Flags rise: hardware sets a flag, and only a write or a start clears one (R502) -/

/-- Every flag that is set in `s` is set in `t`. -/
def FlagsRise (s t : State) : Prop := ∀ a b, (getFlags s a).getLsbD b = true → (getFlags t a).getLsbD b = true

theorem FlagsRise.refl (s : State) : FlagsRise s s := fun _ _ h => h

theorem FlagsRise.trans {s t u : State} (h : FlagsRise s t) (k : FlagsRise t u) : FlagsRise s u := fun a b x => k a b (h a b x)

theorem FlagsRise.of_flags {s t : State} (h : t.flags = s.flags) : FlagsRise s t := fun a b x => by rw [getFlags_congr h]; exact x

theorem FlagsRise.keep {m : Nat} {s t u : State} (h : FlagsRise s t) (k : Same m t u) (hm : m.testBit 11 = false := by rfl) : FlagsRise s u :=
  h.trans (.of_flags (k .flags hm))

section
variable {s t : State} (h : FlagsRise s t)
include h

theorem FlagsRise.setFlagAt (a b : Nat) : FlagsRise s (setFlagAt a b t) := fun c n x => by
  rw [getFlags_setFlagAt]
  split
  · next e => subst e; rw [BitVec.getLsbD_or, h _ _ x]; rfl
  · exact h _ _ x

theorem FlagsRise.setFlag (r : Reg) (e : Eng) (b : Nat) : FlagsRise s (setFlag r e b t) := h.setFlagAt _ _

theorem FlagsRise.raiseF (i : Isl) (c o : Nat) (d : BitVec 80) (r : Reg) (e : Eng) (b : Nat) : FlagsRise s (raiseF i c o d r e b t) :=
  (h.keep (keep_raise i c o d t)).setFlag r e b

theorem FlagsRise.ite {c : Prop} [Decidable c] {u : State} (k : FlagsRise s u) : FlagsRise s (if c then t else u) := by
  split
  · exact h
  · exact k

theorem FlagsRise.when {g : Bool} {f : State → State} (hf : ∀ u, FlagsRise u (f u)) : FlagsRise s (when g f t) :=
  FlagsRise.ite (h.trans (hf t)) h

theorem FlagsRise.oncePerSec {c o : Nat} {f : State → State} (hf : ∀ u, FlagsRise u (f u)) : FlagsRise s (oncePerSec c o f t) :=
  FlagsRise.ite h fun a b x => hf _ a b (h a b x)

theorem FlagsRise.oncePerTurn {c o n : Nat} {f : State → State} (hf : ∀ u, FlagsRise u (f u)) : FlagsRise s (oncePerTurn c o n f t) :=
  FlagsRise.ite h fun a b x => hf _ a b (h a b x)
end

theorem FlagsRise.forAll {α : Type} {f : α → State → State} (hf : ∀ a u, FlagsRise u (f a u)) :
    ∀ (l : List α) {s t : State}, FlagsRise s t → FlagsRise s (forAll l f t)
  | [], _, _, h => h
  | a :: l, _, t, h => FlagsRise.forAll hf l (h.trans (hf a t))

/-! The operations of a fence and of an update that set flags. -/

theorem flagsRise_schedEvent (e : Eng) (c o : Nat) (d : BitVec 80) (b : Nat) (s : State) : FlagsRise s (schedEvent e c o d b s) :=
  (FlagsRise.refl s).oncePerTurn fun u => (FlagsRise.refl u).raiseF _ _ _ _ _ _ _

theorem flagsRise_startRerange (e : Eng) (l row : Nat) (s : State) : FlagsRise s (startRerange e l row s) := by
  unfold startRerange
  dsimp only
  split
  · exact .refl s
  · split
    · exact (FlagsRise.refl s).keep (keep_setLeaf _ _ _ s)
    · refine FlagsRise.trans ?_ (flagsRise_schedEvent _ _ _ _ _ _)
      refine FlagsRise.keep ?_ (keep_countSched _ _ _ _ _ _)
      refine FlagsRise.keep ?_ (keep_strike _ _ _)
      refine FlagsRise.keep ?_ (keep_sendMsg _ _ _)
      exact (FlagsRise.refl s).keep (keep_setLeaf _ _ _ s)

theorem flagsRise_rerangeDues (e : Eng) (s : State) : FlagsRise s (rerangeDues e s) := by
  unfold rerangeDues
  split
  · refine FlagsRise.forAll (fun p u => ?_) _ (.refl s)
    exact flagsRise_startRerange e p.1 p.2 u
  · exact .refl s

theorem flagsRise_todMove (n : Nat) (s : State) : FlagsRise s (todMove n s) := by
  unfold todMove
  generalize hu : ({ s with tod := { s.tod with st := n, run := 0, badFrom := none, holdExpired := false } } : State) = u
  have h : ∀ d, FlagsRise s (oncePerSec 0x0906 0 (raise .tod 0x0906 0 d) u) := fun d =>
    FlagsRise.oncePerSec (.of_flags (by rw [← hu])) fun v => (FlagsRise.refl v).keep (keep_raise _ _ _ _ v)
  dsimp only
  split
  · exact (h _).setFlag _ _ _
  · split
    · exact (h _).setFlag _ _ _
    · exact h _

theorem flagsRise_clnEvent (c p : Nat) (d : BitVec 80) (b : Nat) (s : State) : FlagsRise s (clnEvent c p d b s) :=
  ((FlagsRise.refl s).oncePerSec fun u => (FlagsRise.refl u).keep (keep_raise _ _ _ _ u)).setFlag _ _ _

theorem flagsRise_leaveUp (p : Nat) (c : Option Nat) (s : State) : FlagsRise s (leaveUp p c s) := by
  unfold leaveUp
  have h := ((FlagsRise.refl s).keep (keep_modPort p (fun x => { x with hiSer := false, anDone := false }) s)).keep (keep_countCond 17 p 13 1 0 _)
  split
  · cases c with
    | some c => exact h.trans (flagsRise_clnEvent _ _ _ _ _)
    | none => exact h
  · exact .refl s

theorem flagsRise_portsWait (s : State) : FlagsRise s (portsWait s) :=
  FlagsRise.forAll (fun p u => FlagsRise.ite (.refl u) ((flagsRise_leaveUp p none u).keep (keep_toWaitRef p _))) _ (.refl s)

theorem flagsRise_onRun (i : Isl) (hard : Bool) (s : State) : FlagsRise s (onRun i hard s) := by
  have timers : ∀ i, FlagsRise s (when (! hard) (resumeTimers i) s) := fun i =>
    (FlagsRise.refl s).when fun u => (FlagsRise.refl u).keep (keep_resumeTimers i u)
  cases i with
  | key => exact (FlagsRise.refl s).keep (keep_serveDeferred s)
  | flow => exact (FlagsRise.refl s).keep (keep_retryHeld s)
  | pwr => exact .of_flags rfl
  | cryp =>
    exact ((FlagsRise.refl s).when fun u => (FlagsRise.refl u).keep (keep_reseedLanes u)).when fun u =>
      (FlagsRise.refl u).keep (keep_crypResume u)
  | tod =>
    refine FlagsRise.when ((FlagsRise.refl s).when fun u => (FlagsRise.refl u).keep (keep_servoTimer u)) fun u => ?_
    dsimp only
    have h : FlagsRise u (if u.tod.st = 1 then u else todMove 1 u) := FlagsRise.ite (.refl u) (flagsRise_todMove 1 u)
    refine FlagsRise.ite (FlagsRise.keep ?_ (keep_dropMaster _)) ?_ <;> exact h.trans (.of_flags rfl)
  | cltx => exact (FlagsRise.refl s).when flagsRise_portsWait
  | clrx => exact (FlagsRise.refl s).when flagsRise_portsWait
  | aon | mgt | dmem | aTxc | aTxd | aRxc | aRxd | bTxc | bTxd | bRxc | bRxd => exact timers _

theorem flagsRise_enterFence (f : Fence) (i : Isl) (s : State) : FlagsRise s (enterFence f i s) := by
  have h := (FlagsRise.refl s).keep (keep_modIsl i (fun x => { x with fence := f }) s)
  unfold enterFence
  cases f with
  | drain => exact h.keep (keep_onDrain _ _ _)
  | fenced => exact h.keep (keep_onFenced _ _ _)
  | reset => exact h.keep (keep_onReset _ _ _)
  | run => exact h.trans (flagsRise_onRun _ _ _)
  | quiesce | resume => exact h

theorem flagsRise_moveFence (f : Fence) (i : Isl) (s : State) : FlagsRise s (moveFence f i s) := by
  have h := FlagsRise.forAll (fun a u => flagsRise_enterFence f a u) (fenceGroup s i) (.refl s)
  exact FlagsRise.ite (h.keep (keep_apsUpdate _)) h

theorem flagsRise_engMark (e : Eng) (step refused : Nat) (s : State) : FlagsRise s (engMark e step refused s) :=
  FlagsRise.raiseF (.of_flags (by simp)) _ _ _ _ _ _ _

theorem flagsRise_engDark (e : Eng) (s : State) : FlagsRise s (engDark e s) := by
  unfold engDark
  have h := ((flagsRise_engMark e 2 0 s).keep (keep_rampTxOff e _)).trans
    (.of_flags (t := modEng e (fun x => { x with mapsStopped := true }) (rampTxOff e (engMark e 2 0 s))) (by simp))
  exact FlagsRise.ite h (h.keep (keep_dropEngineQueues e _))

theorem flagsRise_engTry (e : Eng) (s : State) : FlagsRise s (engTry e s) := by
  unfold engTry
  dsimp only
  refine FlagsRise.ite (.refl s) (FlagsRise.ite (flagsRise_engDark e s) (FlagsRise.ite (FlagsRise.ite ?_ (.refl s))
    (FlagsRise.ite (flagsRise_engDark e s) (FlagsRise.ite (.refl s) ?_))))
  · refine FlagsRise.keep ?_ (keep_startSwitch _ _ _ _ _)
    exact .of_flags rfl
  · exact (flagsRise_engMark e 1 1 s).keep (keep_engCmdEnd e _)

theorem flagsRise_engCmdBegin (e : Eng) (cmd : Nat) (force byUpd : Bool) (s : State) : FlagsRise s (engCmdBegin e cmd force byUpd s) := by
  have h : FlagsRise s (modEng e (fun x => { x with updCmd := cmd, updForce := force, updBy := byUpd }) s) := .of_flags (by simp)
  exact FlagsRise.ite ((h.trans (flagsRise_engMark e 3 0 _)).trans (flagsRise_moveFence _ _ _))
    (FlagsRise.ite ((h.trans (flagsRise_engMark e 1 0 _)).trans (flagsRise_engTry e _)) (h.trans (flagsRise_engDark e _)))

theorem flagsRise_arbCommit (ok : Bool) (s : State) : FlagsRise s (arbCommit ok s) := by
  unfold arbCommit
  split
  · exact .refl s
  · next m _ =>
    refine FlagsRise.ite (.refl s) (FlagsRise.ite ?_ ?_)
    · refine FlagsRise.keep ?_ (keep_raise _ _ _ _ _)
      exact .of_flags rfl
    · refine FlagsRise.raiseF ?_ _ _ _ _ _ _ _
      exact .of_flags rfl

theorem flagsRise_trafficRise (ok : Bool) (s : State) : FlagsRise s (trafficRise ok s) := by
  unfold trafficRise
  dsimp only
  split
  · exact .of_flags rfl
  · split
    · refine FlagsRise.keep ?_ (keep_raise _ _ _ _ _)
      exact .of_flags rfl
    · refine FlagsRise.trans ?_ (flagsRise_arbCommit ok _)
      refine FlagsRise.keep ?_ (keep_lcDeploy ok _)
      exact .of_flags (by simp)

theorem flagsRise_trafficUpdate (s : State) : FlagsRise s (trafficUpdate s) :=
  FlagsRise.ite (FlagsRise.trans (.of_flags rfl) (flagsRise_trafficRise _ (draw Config.freeBool s).2)) (flagsRise_trafficRise true s)

theorem flagsRise_engChanged (s : State) : FlagsRise s (engChanged s) :=
  (FlagsRise.forAll flagsRise_engTry engines ((FlagsRise.refl s).keep (keep_apsUpdate s))).trans (flagsRise_trafficUpdate _)

theorem flagsRise_engResumed (e : Eng) (s : State) : FlagsRise s (engResumed e s) := by
  have h : ∀ u : State, u.flags = (engMark e 5 0 s).flags → FlagsRise s u := fun u hu => (flagsRise_engMark e 5 0 s).trans (.of_flags hu)
  unfold engResumed
  dsimp only
  split
  · refine FlagsRise.trans ?_ (flagsRise_engChanged _)
    exact h _ (by simp)
  · refine FlagsRise.trans ?_ (flagsRise_engChanged _)
    refine FlagsRise.keep ?_ (keep_engCmdEnd e _)
    exact h _ (by simp)

theorem flagsRise_updIslEvent (i : Isl) (kind : Nat) (s : State) : FlagsRise s (updIslEvent i kind s) :=
  (FlagsRise.refl s).raiseF _ _ _ _ _ _ _

theorem flagsRise_updTaken (i : Isl) (s : State) : FlagsRise s (updTaken i s) := by
  have h : ∀ b, FlagsRise s (setDone i b (changeTables i b s)) := fun b =>
    ((FlagsRise.refl s).keep (keep_changeTables i b s)).keep (keep_setDone i b _)
  unfold updTaken
  split
  · exact (h true).trans (flagsRise_updIslEvent _ _ _)
  · exact h false
  · exact .refl s

theorem flagsRise_updFinish (s : State) : FlagsRise s (updFinish s) := by
  unfold updFinish
  split
  · exact .of_flags rfl
  · refine FlagsRise.raiseF ?_ _ _ _ _ _ _ _
    exact .of_flags rfl
  · exact .refl s

theorem flagsRise_updFence (i : Isl) (s : State) : FlagsRise s (updFence i s) := by
  unfold updFence
  have h : FlagsRise s { s with upd := { s.upd with isl := i.id } } := .of_flags rfl
  dsimp only
  split
  · exact FlagsRise.ite (h.trans (flagsRise_engCmdBegin _ _ _ _ _)) ((h.keep (keep_enterQuiesce _ _ _ _)).keep (keep_apsUpdate _))
  · exact h.keep (keep_enterQuiesce _ _ _ _)

theorem flagsRise_updGo : ∀ (l : List Isl) (s : State), FlagsRise s (updGo l s)
  | [], s => by
    refine FlagsRise.trans ?_ (flagsRise_updFinish _)
    exact .of_flags rfl
  | i :: rest, s => by
    unfold updGo
    split
    · refine FlagsRise.trans ?_ (flagsRise_updGo rest _)
      exact FlagsRise.ite (flagsRise_updIslEvent i 2 s) (.refl s)
    · split
      · exact (flagsRise_updTaken i s).trans (flagsRise_updGo rest _)
      · split
        · exact .of_flags rfl
        · refine FlagsRise.trans ?_ (flagsRise_updFence i _)
          exact .of_flags rfl

theorem flagsRise_updKick (s : State) : FlagsRise s (updKick s) := FlagsRise.ite (flagsRise_updGo _ s) (.refl s)

theorem flagsRise_updFailed (cause isl : Nat) (s : State) : FlagsRise s (updFailed cause isl s) := by
  unfold updFailed
  split
  · refine FlagsRise.trans ?_ (flagsRise_updKick _)
    exact .of_flags rfl
  · exact .refl s

theorem flagsRise_watchFail {f : State → State} (hf : ∀ u, FlagsRise u (f u)) (s : State) : FlagsRise s (watchFail f s) :=
  FlagsRise.ite ((hf s).trans (flagsRise_updFailed _ _ _)) (hf s)

/-! ## Discarded replies (R530): only `staleReplies` counts them -/

/-- No island's count of discarded replies changed. -/
def StaleKept (s t : State) : Prop := ∀ j, (getIsl t j).stale = (getIsl s j).stale

theorem StaleKept.refl (s : State) : StaleKept s s := fun _ => rfl

theorem StaleKept.trans {s t u : State} (h : StaleKept s t) (k : StaleKept t u) : StaleKept s u := fun j => (k j).trans (h j)

theorem StaleKept.of_isls {s t : State} (h : t.isls = s.isls) : StaleKept s t := fun j => by rw [getIsl_congr h]

theorem StaleKept.keep {m : Nat} {s t u : State} (h : StaleKept s t) (k : Same m t u) (hm : m.testBit 15 = false := by rfl) : StaleKept s u :=
  h.trans (.of_isls (k .isls hm))

theorem StaleKept.ite {c : Prop} [Decidable c] {s t u : State} (h : StaleKept s t) (k : StaleKept s u) : StaleKept s (if c then t else u) := by
  split
  · exact h
  · exact k

theorem staleKept_raise (i : Isl) (c o : Nat) (d : BitVec 80) (s : State) : StaleKept s (raise i c o d s) := fun j => by
  rw [getIsl_raise]
  split
  · next h => rw [h]
  · rfl

theorem staleKept_apsEvent (c o : Nat) (d : BitVec 80) (s : State) : StaleKept s (apsEvent c o d s) :=
  StaleKept.ite (.refl s) fun j => staleKept_raise .mgt c o d { s with seenTurn := _ } j

theorem staleKept_noteReq (r : ApsReq) (s : State) : StaleKept s (noteReq r s) :=
  StaleKept.ite (.refl s) fun j => staleKept_apsEvent _ _ _ { s with aps := _ } j

theorem keep_modEng (e : Eng) (f : EngSt → EngSt) (s : State) : Same 8590131200 s (modEng e f s) := keep_setEng e _ s

theorem staleKept_startSwitch (w : Eng) (r : ApsReq) (planned own : Bool) (s : State) : StaleKept s (startSwitch w r planned own s) := by
  unfold startSwitch
  extract_lets o s1 s2 s3 s4 a s5 s6
  have h1 : StaleKept s s1 := staleKept_noteReq _ s
  have h2 : StaleKept s s2 := (h1.keep (keep_strike w _ s1)).keep (keep_idleWindows w _ _)
  have h3 : StaleKept s s3 := (h2.keep (keep_dropMaps w _ s2)).keep (keep_modEng w _ _)
  have h4 : StaleKept s s4 := h3.keep (keep_losePipeline w s3)
  have h6 : StaleKept s s6 := fun j => (staleKept_apsEvent _ _ _ s5 j).trans (h4 j)
  clear_value s6
  exact h6.ite (h6.keep (keep_switchRampOff w s6))

theorem staleKept_apsEval (s : State) : StaleKept s (apsEval s) := by
  unfold apsEval
  split
  · exact .refl s
  · split
    · exact .refl s
    · next w _ =>
      extract_lets bad src1 s1 above src2 s2 r s3 src4 s4
      have h1 : StaleKept s s1 := by
        unfold s1
        split
        · exact StaleKept.ite (.of_isls rfl) (.refl s)
        · exact .refl s
      clear_value s1
      have h2 : StaleKept s s2 := StaleKept.ite h1 h1
      clear_value s2
      have h3 : StaleKept s s3 := h2.trans (staleKept_noteReq r s2)
      clear_value s3
      refine StaleKept.ite h3 ?_
      have h4 : StaleKept s s4 := by
        unfold s4
        split
        · exact h3
        · exact h3
      clear_value s4
      have note : ∀ u : State, u.isls = s4.isls → StaleKept s (noteReq (apsRequest u w) u) := fun u hu =>
        (h4.trans (.of_isls hu)).trans (staleKept_noteReq _ u)
      split
      · exact h4.trans (staleKept_startSwitch _ _ _ _ s4)
      · split
        · exact h4.trans (staleKept_startSwitch _ _ _ _ s4)
        · split
          · split
            · exact note _ rfl
            · exact note _ rfl
          · exact h4

theorem staleKept_apsUpdate (s : State) : StaleKept s (apsUpdate s) := by
  unfold apsUpdate
  refine StaleKept.trans ?_ (staleKept_apsEval _)
  exact ((StaleKept.refl s).keep (keep_followCauses .A s)).keep (keep_followCauses .B _)

/-! ## Fence states (R528) -/

/-- The islands of `g` are in fence state `f` and the others' fences are as before. -/
def FencesMoved (f : Fence) (g : List Isl) (s t : State) : Prop :=
  (∀ j, j ∈ g → (getIsl t j).fence = f) ∧ ∀ j, j ∉ g → (getIsl t j).fence = (getIsl s j).fence

theorem Same.fence {m : Nat} {s t : State} (h : Same m s t) (hm : m.testBit 31 = false := by rfl) (j : Isl) :
    (getIsl t j).fence = (getIsl s j).fence := congrArg (·.1) (h .fences hm j)

theorem FencesMoved.keep {f : Fence} {g : List Isl} {m : Nat} {s t u : State} (h : FencesMoved f g s t) (k : Same m t u)
    (hm : m.testBit 31 = false := by rfl) : FencesMoved f g s u :=
  ⟨fun j hj => (k.fence hm j).trans (h.1 j hj), fun j hj => (k.fence hm j).trans (h.2 j hj)⟩

theorem fencing_enterFence (f : Fence) (i j : Isl) (s : State) :
    (getIsl (enterFence f i s) j).fencing = (getIsl (modIsl i (fun x => { x with fence := f }) s) j).fencing := by
  unfold enterFence
  cases f with
  | drain => exact keep_onDrain i _ _ .fences rfl j
  | fenced => exact keep_onFenced i _ _ .fences rfl j
  | reset => exact keep_onReset i _ _ .fences rfl j
  | run => exact keep_onRun i _ _ .fences rfl j
  | quiesce | resume => rfl

theorem fence_enterFence (f : Fence) (i j : Isl) (s : State) :
    (getIsl (enterFence f i s) j).fence = if j = i then f else (getIsl s j).fence := by
  have h := congrArg (·.1) (fencing_enterFence f i j s)
  simp only [IslSt.fencing, getIsl_modIsl] at h
  rw [h]
  split <;> rfl

/-- An operation that moves the fence of its island alone, done for each island of a list. -/
theorem fencesMoved_forAll {f : Fence} {op : Isl → State → State}
    (hop : ∀ i s j, (getIsl (op i s) j).fence = if j = i then f else (getIsl s j).fence) :
    ∀ (g : List Isl) (s : State), FencesMoved f g s (forAll g op s)
  | [], _ => ⟨fun _ h => absurd h List.not_mem_nil, fun _ _ => rfl⟩
  | i :: g, s => by
    obtain ⟨moved, others⟩ := fencesMoved_forAll hop g (op i s)
    refine ⟨fun j hj => ?_, fun j hj => ?_⟩
    · by_cases hg : j ∈ g
      · exact moved j hg
      · have e : j = i := by simpa [hg] using hj
        exact (others j hg).trans (by rw [hop, if_pos e])
    · simp only [List.mem_cons, not_or] at hj
      exact (others j hj.2).trans (by rw [hop, if_neg hj.1])

theorem fencesMoved_moveFence (f : Fence) (i : Isl) (s : State) : FencesMoved f (fenceGroup s i) s (moveFence f i s) := by
  have h := fencesMoved_forAll (fun i s j => fence_enterFence f i j s) (fenceGroup s i) s
  unfold moveFence
  dsimp only
  split
  · exact h.keep (keep_apsUpdate _)
  · exact h

theorem fenceGroup_nodup (s : State) (i : Isl) : (fenceGroup s i).Nodup := by
  unfold fenceGroup
  split
  · next e _ =>
    split
    · cases e <;> decide
    · exact List.nodup_singleton i
  · exact List.nodup_singleton i

theorem fenceGroup_ne_nil (s : State) (i : Isl) : fenceGroup s i ≠ [] := by
  unfold fenceGroup
  split
  · split <;> simp [Eng.isls]
  · simp

/-! ## The commands of UPD_ISL and the watchdog: a fence begins (R528, R532) -/

theorem fencing_enterQuiesce (i j : Isl) (hard : Bool) (cause : FenceCause) (s : State) :
    (getIsl (enterQuiesce i hard cause s) j).fencing =
      (getIsl (modIsl i (fun x => { x with fence := .quiesce, hard := hard, cause := cause, overdue := false, fenceAt := now s }) s) j).fencing := by
  unfold enterQuiesce
  exact (keep_onQuiesce i _ .fences rfl j).trans (keep_count _ _ _ _ _ .fences rfl j)

/-- An island that entered QUIESCE from its old incarnation, with the kind and the cause of its restart; no other fence moved. -/
def Quiesced (i : Isl) (hard : Bool) (cause : FenceCause) (s t : State) : Prop :=
  (getIsl t i).fence = .quiesce ∧ (getIsl t i).hard = hard ∧ (getIsl t i).cause = cause ∧ (getIsl t i).incarn = (getIsl s i).incarn ∧
    ∀ j, j ≠ i → (getIsl t j).fence = (getIsl s j).fence

theorem Quiesced.keep {i : Isl} {hard : Bool} {cause : FenceCause} {m : Nat} {s t u : State} (h : Quiesced i hard cause s t) (k : Same m t u)
    (hm : m.testBit 31 = false := by rfl) : Quiesced i hard cause s u := by
  obtain ⟨fence, hd, cs, -, inc⟩ := fen_of (k .fences hm)
  obtain ⟨h1, h2, h3, h4, h5⟩ := h
  exact ⟨(fence i).trans h1, (hd i).trans h2, (cs i).trans h3, (inc i).trans h4, fun j hj => (fence j).trans (h5 j hj)⟩

theorem quiesced_enterQuiesce (i : Isl) (hard : Bool) (cause : FenceCause) (s : State) : Quiesced i hard cause s (enterQuiesce i hard cause s) := by
  obtain ⟨fence, hd, cs, -, inc⟩ := fen_of fun j => fencing_enterQuiesce i j hard cause s
  simp only [getIsl_modIsl] at fence hd cs inc
  exact ⟨by simp [fence], by simp [hd], by simp [cs], by simp [inc], fun j hj => by simp [fence, hj]⟩

/-- SF of an engine is judged again when the fence of one of its islands moves. -/
theorem Quiesced.judged {i : Isl} {hard : Bool} {cause : FenceCause} {s t : State} (h : Quiesced i hard cause s t) :
    Quiesced i hard cause s (if i.eng?.isSome then apsUpdate t else t) := by
  split
  · exact h.keep (keep_apsUpdate t)
  · exact h

/-- The fence that the host asks for at an island. -/
def hostFenceOf (i : Isl) (hard : Bool) (s : State) : State :=
  let t := enterQuiesce i hard .host s
  if i.eng?.isSome then apsUpdate t else t

theorem execIslandSoftRestartCmd_eq (i : Isl) (s : State) : execIslandSoftRestartCmd i s =
    .next (setStatus (refuseOr ((writeGate s .mgt).worse (if islCmdRefused s i 1 then .errState else .ok)) (hostFenceOf i false) s)) := by
  have c : fld (0x10000 : W32) 17 16 = 1 := by decide
  unfold execIslandSoftRestartCmd writeIslCmd
  dsimp only
  rw [c]
  rfl

theorem execIslandHardResetCmd_eq (i : Isl) (s : State) : execIslandHardResetCmd i s =
    .next (setStatus (refuseOr ((writeGate s .mgt).worse (if islCmdRefused s i 2 then .errState else .ok)) (hostFenceOf i true) s)) := by
  have c : fld (0x20000 : W32) 17 16 = 2 := by decide
  unfold execIslandHardResetCmd writeIslCmd
  dsimp only
  rw [c]
  rfl

theorem quiesced_hostFenceOf (i : Isl) (hard : Bool) (s : State) : Quiesced i hard .host s (hostFenceOf i hard s) :=
  (quiesced_enterQuiesce i hard .host s).judged

/-! ## The end of DRAIN (R530) -/

theorem stale_staleReplies (i j : Isl) (n : Nat) (s : State) : (getIsl (staleReplies i n s) j).stale =
    if j = i ∧ n ≠ 0 then min (2 ^ 32 - 1) ((getIsl s i).stale + n) else (getIsl s j).stale := by
  unfold staleReplies perSecond
  by_cases hn : n = 0
  · simp [hn]
  · by_cases h : j = i <;> simp [hn, h]

theorem fence_drainReplies (i : Isl) (s : State) : Same 536909826 s ((fun t => let d := draw Config.freeNat t; staleReplies i d.1 d.2) s) :=
  ((keep_draw Config.freeNat s).mono rfl).trans ((keep_staleReplies i _ _).mono rfl)

/-- Counts of discarded replies never go back, and a free value is taken for each island of the group. -/
theorem drainReplies_counts : ∀ (g : List Isl) (s : State),
    let t := forAll g (fun j t => let d := draw Config.freeNat t; staleReplies j d.1 d.2) s
    t.free = s.free + g.length ∧ ∀ j, (getIsl s j).stale ≤ 2 ^ 32 - 1 → (getIsl s j).stale ≤ (getIsl t j).stale
  | [], s => ⟨rfl, fun _ _ => le_refl _⟩
  | i :: g, s => by
    obtain ⟨hf, hs⟩ := drainReplies_counts g (staleReplies i (draw Config.freeNat s).1 (draw Config.freeNat s).2)
    have free : (staleReplies i (draw Config.freeNat s).1 (draw Config.freeNat s).2).free = s.free + 1 := keep_staleReplies i _ _ .free rfl
    refine ⟨hf.trans (by rw [free, List.length_cons]; omega), fun j hj => ?_⟩
    have step := stale_staleReplies i j (draw Config.freeNat s).1 (draw Config.freeNat s).2
    have drawn : ∀ k, (getIsl (draw Config.freeNat s).2 k).stale = (getIsl s k).stale := fun _ => rfl
    rw [drawn, drawn] at step
    have one : (getIsl s j).stale ≤ (getIsl (staleReplies i (draw Config.freeNat s).1 (draw Config.freeNat s).2) j).stale ∧
        (getIsl (staleReplies i (draw Config.freeNat s).1 (draw Config.freeNat s).2) j).stale ≤ 2 ^ 32 - 1 := by
      rw [step]
      split
      · next h => rw [h.1] at hj ⊢; omega
      · exact ⟨le_refl _, hj⟩
    exact one.1.trans (hs j one.2)

theorem staleKept_enterFenced (i : Isl) (s : State) : StaleKept s (enterFence .fenced i s) := by
  unfold enterFence
  refine StaleKept.keep (fun j => ?_) (keep_onFenced i _ _)
  rw [getIsl_modIsl]
  split
  · next h => rw [h]
  · rfl

theorem StaleKept.forAll {α : Type} {f : α → State → State} (hf : ∀ a u, StaleKept u (f a u)) :
    ∀ (l : List α) (s : State), StaleKept s (forAll l f s)
  | [], s => .refl s
  | a :: l, s => (hf a s).trans (StaleKept.forAll hf l (f a s))

theorem staleKept_moveFenced (i : Isl) (s : State) : StaleKept s (moveFence .fenced i s) := by
  have h := StaleKept.forAll staleKept_enterFenced (fenceGroup s i) s
  unfold moveFence
  dsimp only
  split
  · exact h.trans (staleKept_apsUpdate _)
  · exact h

/-! ## The resume (R24, R528) -/

theorem fencing_enterRun (i j : Isl) (s : State) : (getIsl (enterRun i s) j).fence = (if j = i then .run else (getIsl s j).fence) ∧
    (getIsl (enterRun i s) j).incarn = (if j = i then nextIncarn (getIsl s i).incarn else (getIsl s j).incarn) := by
  obtain ⟨f0, -, -, -, n0⟩ := fen_of fun k => fencing_enterFence .run i k s
  unfold enterRun
  extract_lets old u v
  have hv : (∀ k, (getIsl v k).fence = (getIsl u k).fence) ∧ ∀ k, (getIsl v k).incarn = (getIsl u k).incarn := by
    obtain ⟨f, -, -, -, n⟩ := fen_of (keep_resumeEvent i old u .fences rfl)
    constructor <;> intro k <;> by_cases h : k = i
    · subst h; simp [v, f]
    · simp [v, f, h]
    · subst h; simp [v, n]
    · simp [v, n, h]
  have dues : Same 537638912 v (forAll engines (fun e => when (i = e.txd) (rerangeDues e)) v) :=
    (same_forAll fun e w => (same_when fun x => keep_rerangeDues e x) |>.mpr ((same_refl _ w).mpr trivial)).mpr ((same_refl _ v).mpr trivial)
  obtain ⟨fd, -, -, -, nd⟩ := fen_of (dues .fences rfl)
  rw [fd, nd, hv.1, hv.2]
  by_cases h : j = i
  · subst h; simp [u, f0, n0]
  · simp [u, f0, n0, h]

/-- Islands that return to RUN, each once: each takes its next incarnation. -/
theorem incarn_forAll_enterRun : ∀ (g : List Isl) (s : State), g.Nodup → ∀ j,
    (getIsl (forAll g enterRun s) j).incarn = if j ∈ g then nextIncarn (getIsl s j).incarn else (getIsl s j).incarn
  | [], _, _, _ => by simp [forAll]
  | i :: g, s, hn, j => by
    obtain ⟨hi, hg⟩ := List.nodup_cons.mp hn
    have ih := incarn_forAll_enterRun g (enterRun i s) hg j
    have hstep := (fencing_enterRun i j s).2
    refine Eq.trans ih ?_
    by_cases h : j = i
    · subst h; simp [hi, hstep]
    · simp [h, hstep]

theorem incarn_runFence (i j : Isl) (s : State) : (getIsl (runFence i s) j).incarn =
    if j ∈ fenceGroup s i then nextIncarn (getIsl s j).incarn else (getIsl s j).incarn := by
  have h := incarn_forAll_enterRun (fenceGroup s i) s (fenceGroup_nodup s i) j
  unfold runFence
  dsimp only
  split
  · exact ((keep_apsUpdate _) .incarns rfl j).trans h
  · exact h

theorem fencesMoved_runFence (i : Isl) (s : State) : FencesMoved .run (fenceGroup s i) s (runFence i s) := by
  have h := fencesMoved_forAll (op := enterRun) (fun i s j => (fencing_enterRun i j s).1) (fenceGroup s i) s
  unfold runFence
  dsimp only
  split
  · exact h.keep (keep_apsUpdate _)
  · exact h

/-- The flag of UPD_ISL_RESUME. -/
def resumeFlag (s : State) : Prop := (getFlags s (Reg.addr .updFlags .A 0 0)).getLsbD 4 = true

theorem FlagsRise.resumeFlag {s t : State} (h : FlagsRise s t) (k : resumeFlag s) : resumeFlag t := h _ _ k

theorem resumeFlag_resumeEvent (i : Isl) (old : Nat) (s : State) : resumeFlag (resumeEvent i old s) := by
  have h : flagged .updFlags .A 4 s (resumeEvent i old s) := flagged_raiseF rfl rfl rfl (by decide)
  exact h.1

theorem resumeFlag_enterRun (i : Isl) (s : State) : resumeFlag (enterRun i s) := by
  unfold enterRun
  have h : ∀ u old, resumeFlag (forAll engines (fun e => when (i = e.txd) (rerangeDues e))
      (modIsl i (fun x => { x with overdue := false }) (resumeEvent i old u))) := fun u old => by
    refine FlagsRise.resumeFlag (s := resumeEvent i old u) ?_ (resumeFlag_resumeEvent i old u)
    refine FlagsRise.forAll (fun e w => (FlagsRise.refl w).when (flagsRise_rerangeDues e)) engines ?_
    exact (FlagsRise.refl _).keep (keep_modIsl i _ _)
  exact h _ _

theorem flagsRise_enterRun (i : Isl) (s : State) : FlagsRise s (enterRun i s) := by
  unfold enterRun
  refine FlagsRise.forAll (fun e w => (FlagsRise.refl w).when (flagsRise_rerangeDues e)) engines ?_
  refine FlagsRise.keep ?_ (keep_modIsl i _ _)
  refine FlagsRise.raiseF ?_ _ _ _ _ _ _ _
  exact (flagsRise_enterFence .run i s).keep (keep_modIsl i _ _)

theorem resumeFlag_runFence (i : Isl) (s : State) : resumeFlag (runFence i s) := by
  have h : resumeFlag (forAll (fenceGroup s i) enterRun s) := by
    cases hg : fenceGroup s i with
    | nil => exact absurd hg (fenceGroup_ne_nil s i)
    | cons a g => exact (FlagsRise.forAll flagsRise_enterRun g (.refl _)).resumeFlag (resumeFlag_enterRun a s)
  unfold runFence
  dsimp only
  split
  · exact ((FlagsRise.refl _).keep (keep_apsUpdate _)).resumeFlag h
  · exact h

/-- What follows the return to RUN: the sections of an update are taken, an engine that was reset hard starts again, and an update in
progress goes on. -/
def afterRun (i : Isl) (s u : State) : State :=
  let t := if (getIsl s i).cause = .update then forAll ((fenceGroup s i).filter (updHas u)) updTaken u else u
  updKick (match hardEng s i with
    | some e => watchFail (engResumed e) t
    | none => t)

theorem execUpdIslResume_eq (i : Isl) (s : State) :
    execUpdIslResume i s = actF (inFence s i .resume) (fun s => afterRun i s (runFence i s)) s := by
  with_unfolding_all rfl

theorem watchFail_same {e : Eng} {s : State} : Same 11676940946 s (watchFail (engResumed e) s) :=
  (same_watchFail rfl fun u => (keep_engResumed e u).mono rfl).mpr ((same_refl _ s).mpr trivial)

theorem afterRun_same (i : Isl) (s u : State) : Same 11676940946 u (afterRun i s u) := by
  unfold afterRun
  extract_lets t
  have ht : Same 11676940946 u t := by
    unfold t
    split
    · exact (same_forAll fun a w => (keep_updTaken a w).mono rfl).mpr ((same_refl _ u).mpr trivial)
    · exact (same_refl _ u).mpr trivial
  clear_value t
  refine Same.trans ?_ ((keep_updKick _).mono rfl)
  split
  · exact ht.trans watchFail_same
  · exact ht

theorem flagsRise_afterRun (i : Isl) (s u : State) : FlagsRise u (afterRun i s u) := by
  unfold afterRun
  extract_lets t
  have ht : FlagsRise u t := FlagsRise.ite (FlagsRise.forAll flagsRise_updTaken _ (.refl u)) (.refl u)
  clear_value t
  refine FlagsRise.trans ?_ (flagsRise_updKick _)
  split
  · exact ht.trans (flagsRise_watchFail (flagsRise_engResumed _) t)
  · exact ht

/-! Where no update is being applied, rolled back or on trial. -/

theorem updFencing_congr {s t : State} (h : t.upd = s.upd) : updFencing t = updFencing s := by unfold updFencing; rw [h]

theorem updOnTrial_congr {s t : State} (h : t.upd = s.upd) : updOnTrial t = updOnTrial s := by unfold updOnTrial; rw [h]

theorem updIsDone_congr {s t : State} (h : t.upd = s.upd) (i : Isl) : updIsDone t i = updIsDone s i := by unfold updIsDone; rw [h]

theorem updTaken_idle {s : State} (h : updFencing s = false) (i : Isl) : updTaken i s = s := by
  unfold updFencing at h
  unfold updTaken
  split at h <;> simp_all

theorem forAll_updTaken_idle {s : State} (h : updFencing s = false) : ∀ l, forAll l updTaken s = s
  | [] => rfl
  | a :: l => (congrArg (forAll l updTaken) (updTaken_idle h a)).trans (forAll_updTaken_idle h l)

theorem updKick_idle {s : State} (h : updFencing s = false) : updKick s = s := by unfold updKick; rw [h]; rfl

theorem updFailed_idle {s : State} (h : updOnTrial s = false) (cause isl : Nat) : updFailed cause isl s = s := by
  unfold updFailed; rw [h]; rfl

theorem watchFail_idle {f : State → State} {s : State} (h : updOnTrial (f s) = false) : watchFail f s = f s := by
  unfold watchFail
  dsimp only
  rw [updFailed_idle h, ite_self]

theorem fence_afterRun {i : Isl} {s u : State} (h1 : updFencing u = false) (h2 : updOnTrial u = false) (j : Isl) :
    (getIsl (afterRun i s u) j).fence = (getIsl u j).fence := by
  unfold afterRun
  rw [forAll_updTaken_idle h1, ite_self]
  dsimp only
  split
  · next e _ =>
    have upd : (engResumed e u).upd = u.upd := keep_engResumed e u .upd rfl
    rw [watchFail_idle ((updOnTrial_congr upd).trans h2), updKick_idle ((updFencing_congr upd).trans h1)]
    exact (keep_engResumed e u).fence rfl j
  · rw [updKick_idle h1]

/-! ## An update that fails keeps the code of what failed (R545, R549) -/

theorem Same.updErr {m : Nat} {s t : State} (h : Same m s t) (hm : m.testBit 28 = false := by rfl) : t.upd.err = s.upd.err :=
  congrArg UpdSt.err (h .upd hm)

theorem err_setDone (i : Isl) (b : Bool) (s : State) : (setDone i b s).upd.err = s.upd.err := rfl

theorem err_changeTables (i : Isl) (b : Bool) (s : State) : (changeTables i b s).upd.err = s.upd.err := by
  unfold changeTables
  split <;> rfl

theorem err_updTaken (i : Isl) (s : State) : (updTaken i s).upd.err = s.upd.err := by
  unfold updTaken
  split
  · exact (keep_updIslEvent i _ _).updErr.trans ((err_setDone ..).trans (err_changeTables ..))
  · exact (err_setDone ..).trans (err_changeTables ..)
  · rfl

theorem err_updFinish (s : State) : (updFinish s).upd.err = s.upd.err := by
  unfold updFinish
  split
  · rfl
  · exact (keep_raiseF _ _ _ _ _ _ _ _).updErr
  · rfl

theorem err_updFence (i : Isl) (s : State) : (updFence i s).upd.err = s.upd.err := by
  unfold updFence
  dsimp only
  split
  · split
    · exact (keep_engCmdBegin _ _ _ _ _).updErr
    · exact (keep_apsUpdate _).updErr.trans (keep_enterQuiesce i _ _ _).updErr
  · exact (keep_enterQuiesce i _ _ _).updErr

theorem err_updGo : ∀ (l : List Isl) (s : State), (updGo l s).upd.err = s.upd.err
  | [], s => err_updFinish _
  | i :: rest, s => by
    unfold updGo
    split
    · refine (err_updGo rest _).trans ?_
      split
      · exact (keep_updIslEvent i 2 s).updErr
      · rfl
    · split
      · exact (err_updGo rest _).trans (err_updTaken i s)
      · split
        · rfl
        · exact err_updFence i _

theorem err_updKick (s : State) : (updKick s).upd.err = s.upd.err := by
  unfold updKick
  split
  · exact err_updGo _ s
  · rfl

theorem err_updFailed {s : State} (h : updOnTrial s = true) (cause isl : Nat) : (updFailed cause isl s).upd.err = cause := by
  unfold updFailed
  rw [if_pos h]
  exact err_updKick _

/-! ## The two ends of R527 and R532 -/

theorem fencesMoved_resetAgain (g : List Isl) (s : State) :
    FencesMoved .reset g s (forAll g (modIsl · (fun x => { x with fence := .reset, overdue := true })) s) :=
  fencesMoved_forAll (fun i s j => by rw [getIsl_modIsl]; split <;> rfl) g s

theorem overdue_resetAgain : ∀ (g : List Isl) (s : State) (j : Isl), ((getIsl s j).overdue = true ∨ j ∈ g) →
    (getIsl (forAll g (modIsl · (fun x => { x with fence := .reset, overdue := true })) s) j).overdue = true
  | [], _, _, h => h.resolve_right List.not_mem_nil
  | i :: g, s, j, h => by
    refine overdue_resetAgain g (modIsl i _ s) j ?_
    rw [getIsl_modIsl]
    by_cases e : j = i
    · simp [e]
    · simpa [e] using h

/-! ## The obligation -/

theorem resumeBound_reset {i : Isl} {s : State} (hc : (getIsl s i).cause ≠ .update) (hd : ∀ j, j ∈ fenceGroup s i → updIsDone s j = false) :
    ((getIsl s i).cause = .update || (fenceGroup s i).any (updIsDone s)) = false := by
  simpa [hc, List.any_eq_false] using hd

theorem resumeBound_fails {i : Isl} {s : State} (h : (getIsl s i).cause = .update ∨ ∃ j, j ∈ fenceGroup s i ∧ updIsDone s j = true) :
    ((getIsl s i).cause = .update || (fenceGroup s i).any (updIsDone s)) = true := by
  simpa [List.any_eq_true] using h

/-- The state in which a watchdog or a poisoned structure has begun a restart, before an update on trial hears of it. -/
def watchdogFenced (i : Isl) (poison : Bool) (s : State) : State :=
  let t := enterQuiesce i false (if poison then .poison else .watchdog) (count 24 i.row (if poison then 3 else 2) 1 (when poison (poisonRead i) s))
  if i.eng?.isSome then apsUpdate t else t

theorem quiesced_watchdogFenced (i : Isl) (poison : Bool) (s : State) :
    Quiesced i false (if poison then .poison else .watchdog) s (watchdogFenced i poison s) := by
  have before : Same 608212994 s (count 24 i.row (if poison then 3 else 2) 1 (when poison (poisonRead i) s)) :=
    ((same_when (keep_poisonRead i)).mpr ((same_refl _ s).mpr trivial)).trans ((keep_count _ _ _ _ _).mono rfl)
  obtain ⟨fence, -, -, -, inc⟩ := fen_of (before .fences rfl)
  obtain ⟨h1, h2, h3, h4, h5⟩ := (quiesced_enterQuiesce i false (if poison then .poison else .watchdog) _).judged
  exact ⟨h1, h2, h3, h4.trans (inc i), fun j hj => (h5 j hj).trans (fence j)⟩

theorem upd_watchdogFenced (i : Isl) (poison : Bool) (s : State) : (watchdogFenced i poison s).upd = s.upd := by
  have before : Same 608212994 s (when poison (poisonRead i) s) := (same_when (keep_poisonRead i)).mpr ((same_refl _ s).mpr trivial)
  have fenced := (keep_enterQuiesce i false (if poison then .poison else .watchdog)
    (count 24 i.row (if poison then 3 else 2) 1 (when poison (poisonRead i) s)) .upd rfl).trans
    ((keep_count _ _ _ _ _ .upd rfl).trans (before .upd rfl))
  unfold watchdogFenced
  dsimp only
  split
  · exact (keep_apsUpdate _ .upd rfl).trans fenced
  · exact fenced

theorem execWatchdogRestart_eq (i : Isl) (poison : Bool) (s : State) : execWatchdogRestart i poison s =
    act (alive s && i ≠ .aon && (getIsl s i).fence = .run && (! poison || poisonIsl s i)) (fun s =>
      let t := watchdogFenced i poison s
      if ! poison && updIsDone t i then updFailed updTrialFail i.id t else t) s := rfl

/-- The state save ends: the group is in RESET, and with it an engine that is reset hard. -/
def stateSaved (i : Isl) (s : State) : State :=
  let t := moveFence .reset i s
  match hardEng t i with
  | some e => engAtReset e t
  | none => t

theorem execStateSaveDone_eq (i : Isl) (s : State) : execStateSaveDone i s = actF (inFence s i .fenced) (stateSaved i) s := rfl

theorem fencesMoved_stateSaved (i : Isl) (s : State) : FencesMoved .reset (fenceGroup s i) s (stateSaved i s) := by
  have h := fencesMoved_moveFence .reset i s
  unfold stateSaved
  dsimp only
  split
  · exact h.keep (keep_engAtReset _ _)
  · exact h

/-- Settles O57, one event of a fence after the other: who moves and who stays comes from `FencesMoved` and `Quiesced`. -/
theorem islandFences : Obligations.IslandFences := by
  refine ⟨fun i s => ?_, fun i s => ?_, fun i s => ?_, fun i s => ?_, fun i s => ?_, fun i s => ?_, fun i s => ?_, fun i s => ?_, fun i s => ?_,
    fun i poison s => ?_⟩
  · exact writes_refuseOr (execIslandSoftRestartCmd_eq i s) (fun t => keep_execIslandSoftRestartCmd i s) (mask_sub rfl)
      fun _ => quiesced_hostFenceOf i false s
  · exact writes_refuseOr (execIslandHardResetCmd_eq i s) (fun t => keep_execIslandHardResetCmd i s) (mask_sub rfl)
      fun _ => quiesced_hostFenceOf i true s
  · exact actsIf_act rfl (fun t => keep_execFenceNoticeAcked i s) (mask_sub rfl) fun _ => fencesMoved_moveFence .drain i s
  · exact actsIf_act rfl (fun t => keep_execIslandDrained i s) (mask_sub rfl) fun _ => fencesMoved_moveFence .fenced i s
  · refine actsIf_act rfl (fun t => keep_execDrainTimeout i s) (mask_sub rfl) fun _ => ?_
    have replies : Same 536909826 (moveFence .fenced i s) (forAll (fenceGroup (moveFence .fenced i s) i)
        (fun j t => let d := draw Config.freeNat t; staleReplies j d.1 d.2) (moveFence .fenced i s)) :=
      (same_forAll fun j t => fence_drainReplies j t).mpr ((same_refl _ _).mpr trivial)
    obtain ⟨moved, others⟩ := (fencesMoved_moveFence .fenced i s).keep replies
    obtain ⟨free, stale⟩ := drainReplies_counts (fenceGroup (moveFence .fenced i s) i) (moveFence .fenced i s)
    have same : (moveFence .fenced i s).free = s.free := keep_moveFence .fenced i s .free rfl
    refine ⟨moved, others, ?_, fun j hj => ?_⟩
    · have := List.length_pos_iff.mpr (fenceGroup_ne_nil (moveFence .fenced i s) i)
      exact lt_of_lt_of_eq (by omega) free.symm
    · have k := staleKept_moveFenced i s j
      exact k ▸ stale j (k ▸ hj)
  · exact actsIf_actF (execStateSaveDone_eq i s) (fun t h => keep_execStateSaveDone i s ((execStateSaveDone_eq i s).trans h)) (mask_sub rfl)
      fun _ => (fencesMoved_stateSaved i s).keep (keep_noteFault s _)
  · exact actsIf_act rfl (fun t => keep_execIslandResetDone i s) (mask_sub rfl) fun _ => fencesMoved_moveFence .resume i s
  · refine actsIf_actF (execUpdIslResume_eq i s) (fun t h => keep_execUpdIslResume i s ((execUpdIslResume_eq i s).trans h)) (mask_sub rfl)
      fun _ => ?_
    have fault := keep_noteFault s (afterRun i s (runFence i s))
    refine ⟨fun j => ?_, fun h1 h2 j hj => ?_, ?_⟩
    · exact (fault .incarns rfl j).trans ((afterRun_same i s _ .incarns rfl j).trans (incarn_runFence i j s))
    · have upd : (runFence i s).upd = s.upd := keep_runFence i s .upd rfl
      have run := (fencesMoved_runFence i s).1 j hj
      have kept := fence_afterRun (i := i) (s := s) ((updFencing_congr upd).trans h1) ((updOnTrial_congr upd).trans h2) j
      exact (fault.fence rfl j).trans (kept.trans run)
    · exact ((FlagsRise.refl _).keep fault).resumeFlag ((flagsRise_afterRun i s _).resumeFlag (resumeFlag_runFence i s))
  · refine actsIf_act rfl (fun t => keep_execResumeBoundExceeded i s) (mask_sub rfl) fun _ => ⟨fun hc hd => ?_, fun h ht => ?_⟩
    · dsimp only
      rw [if_neg (by rw [resumeBound_reset hc hd]; exact Bool.false_ne_true)]
      exact fun j hj => ⟨(fencesMoved_resetAgain _ s).1 j hj, overdue_resetAgain _ s j (.inr hj)⟩
    · dsimp only
      rw [if_pos (resumeBound_fails h)]
      refine err_updFailed ?_ _ _
      have same : Same 40802222080 s (forAll (fenceGroup s i) (modIsl · (fun x => { x with fence := .reset, overdue := true })) s) :=
        (same_forAll fun j u => keep_modIsl j _ u).mpr ((same_refl _ s).mpr trivial)
      exact (updOnTrial_congr (same .upd rfl)).trans ht
  · refine actsIf_act (execWatchdogRestart_eq i poison s) (fun t h => keep_execWatchdogRestart i poison s ((execWatchdogRestart_eq i poison s).trans h))
      (mask_sub rfl) fun _ => ?_
    have upd := upd_watchdogFenced i poison s
    dsimp only
    rw [updIsDone_congr upd]
    refine ⟨fun h => ?_, fun hp hd ht => ?_⟩
    · obtain ⟨h1, h2, h3, -, h5⟩ := quiesced_watchdogFenced i poison s
      rw [if_neg (by rcases h with h | h <;> simp [h])]
      exact ⟨h1, h2, h3, h5⟩
    · rw [if_pos (by simp [hp, hd])]
      exact err_updFailed ((updOnTrial_congr upd).trans ht) _ _


end Sys2Proof.Machine
end

section
/-! The bus write of BOOT_CTL that refutes O52 (R115, R506, R509). -/

namespace Sys2Proof.Machine

-- One theorem after another: each theorem that waits for another holds a thread with its stack, and many do not fit a check.
set_option Elab.async false

/-! ## A restart by a write on the bus that clears a fault -/

/-- In service on the bus, with engine A FAILED: FAULT_N is low (R505). -/
def failedOnBus : State :=
  { State.reset with
    fuse := { lcA := 3, lcB := 3, lcC := 3 }
    pwr := { run := .ready }
    boot := { nvmBusy := false, fuses := true, fw := true }
    sec := { shakerOk := true }
    engA := { st := .failed }
    mgt := { da := some 9 } }

/-- A bus write of 0xB007 to BOOT_CTL (R115). -/
def restartAdr : W32 := BitVec.ofNat 32 (Reg.addr .bootCtl .A 0 0)
def restartBytes : List Byte := wordBytes 0xB007

theorem restartWrite_passes : writeCheck failedOnBus restartAdr.toNat 4 restartBytes = .ok ∧ byteWindow restartAdr.toNat = false := by
  decide +kernel

/-- The write starts the module, and the start forgets the engine's failure and every pending interrupt. -/
theorem restartWrite_starts : (writeAt restartAdr.toNat (wordAt restartBytes 0) failedOnBus).1.boot.fuses = false ∧
    (writeAt restartAdr.toNat (wordAt restartBytes 0) failedOnBus).1.mgt.fl.pending = false := by
  decide +kernel

/-- MGT_FAULT changed, so the command leaves a FAULT interrupt pending (R506, R509). -/
theorem restartWrite_faultPending {t : State} (h : exec (.i3cPrivateWrite restartAdr 4 ⟨restartBytes, .none⟩) failedOnBus = .next t) :
    t.mgt.fl.pending = true := by
  have k : (match exec (.i3cPrivateWrite restartAdr 4 ⟨restartBytes, .none⟩) failedOnBus with
    | .next u => u.mgt.fl.pending
    | _ => false) = true := by decide +kernel
  rw [h] at k
  exact k

/-- Refutes O52: a bus write that starts the module leaves MGT as the register write does only where MGT_FAULT stays as it was. The
start that ends the failure of an engine changes MGT_FAULT, and the transfer then makes a FAULT interrupt pending, which the write of the
register word alone does not. -/
theorem not_i3cTransfers : ¬ Obligations.I3cTransfers := by
  intro h
  obtain ⟨passes, window⟩ := restartWrite_passes
  obtain ⟨fuses, quiet⟩ := restartWrite_starts
  obtain ⟨t, he, -, -, applied⟩ := (h.1 restartAdr 4 restartBytes failedOnBus).1 (by decide +kernel)
  obtain ⟨-, mgt, -⟩ := applied passes window (by decide)
  have pending := restartWrite_faultPending he
  rw [mgt fuses, quiet] at pending
  exact Bool.false_ne_true pending

end Sys2Proof.Machine

end

section
/-! The reports of bursts (R311, R316 to R320): what serving the Banker's requests and a departure leave of a leaf, and each burst's step. -/

namespace Sys2Proof.Machine

-- One theorem after another: each theorem that waits for another holds a thread with its stack, and many do not fit a check.
set_option Elab.async false

/-! ## What serving the Banker's waiting requests leaves of the leaves (R429, R454) -/

/-- A leaf's entry without its exchange. -/
def Leaf.bare (x : Leaf) : Leaf := { x with exch := {} }

/-- Entries that differ in their exchange at most. -/
theorem Leaf.fields_of_bare {x y : Leaf} (h : x.bare = y.bare) : x.st = y.st ∧ x.serial = y.serial ∧ x.cause = y.cause ∧ x.rerange = y.rerange ∧
    x.eqd = y.eqd ∧ x.rtd = y.rtd ∧ x.launch = y.launch ∧ x.discAt = y.discAt := by
  simp only [Leaf.bare, Leaf.mk.injEq] at h
  simp only [h, and_self]

/-- Every leaf's entry is as before, its exchange apart. -/
def EntriesKept (s t : State) : Prop := ∀ k, (tget {} t.leaves k).bare = (tget {} s.leaves k).bare

theorem EntriesKept.refl (s : State) : EntriesKept s s := fun _ => rfl

theorem EntriesKept.trans {s t u : State} (h : EntriesKept s t) (k : EntriesKept t u) : EntriesKept s u := fun l => (k l).trans (h l)

theorem EntriesKept.keep {m : Nat} {s t u : State} (h : EntriesKept s t) (k : Same m t u) (hm : m.testBit 19 = false := by rfl) : EntriesKept s u :=
  fun l => by rw [k .leaves hm]; exact h l

theorem EntriesKept.ite {s t u : State} {c : Prop} [Decidable c] (h : EntriesKept s t) (k : EntriesKept s u) : EntriesKept s (if c then t else u) := by
  split
  · exact h
  · exact k

theorem EntriesKept.when {s t : State} {g : Bool} {f : State → State} (hf : ∀ u, EntriesKept u (f u)) (h : EntriesKept s t) :
    EntriesKept s (when g f t) :=
  .ite (h.trans (hf t)) h

theorem EntriesKept.forAll {α : Type} {f : α → State → State} (hf : ∀ a u, EntriesKept u (f a u)) :
    ∀ (l : List α) {s t : State}, EntriesKept s t → EntriesKept s (forAll l f t)
  | [], _, _, h => h
  | a :: l, _, t, h => EntriesKept.forAll hf l (h.trans (hf a t))

theorem EntriesKept.of_same {m : Nat} {s t : State} (k : Same m s t) (hm : m.testBit 19 = false := by rfl) : EntriesKept s t :=
  (EntriesKept.refl s).keep k hm

/-- A leaf whose exchange alone is written. -/
theorem entriesKept_modLeaf (e : Eng) (l : Nat) {f : Leaf → Leaf} (s : State) (hf : ∀ x, (f x).bare = x.bare) : EntriesKept s (modLeaf e l f s) := by
  intro k
  show (tget ({} : Leaf) (tset {} s.leaves _ (f (getLeaf s e l))) k).bare = _
  rw [tget_tset]
  split
  · next e => subst e; exact hf _
  · rfl

theorem entriesKept_sendRec (e : Eng) (l : LeafId) (n : Nat) (b : List Byte) (s : State) : EntriesKept s (sendRec e l n b s) := by
  unfold sendRec
  refine EntriesKept.keep ?_ (keep_sendMsg _ _ _)
  exact entriesKept_modLeaf _ _ _ fun _ => rfl

theorem entriesKept_startExchange (e : Eng) (l : LeafId) (s : State) : EntriesKept s (startExchange e l s) := by
  unfold startExchange
  split
  · exact .refl s
  · split
    · refine EntriesKept.keep ?_ (keep_addWait _ _)
      exact entriesKept_modLeaf _ _ _ fun _ => rfl
    · dsimp only
      refine EntriesKept.trans ?_ (entriesKept_sendRec _ _ _ _ _)
      refine EntriesKept.trans ?_ (entriesKept_modLeaf _ _ _ fun _ => rfl)
      refine EntriesKept.keep ?_ (keep_shake _ _ _)
      refine EntriesKept.keep ?_ (keep_shake _ _ _)
      exact .of_same (keep_shake _ _ _)

theorem entriesKept_deliverGroup (e : Eng) (l : LeafId) (g : Nat) (s : State) : EntriesKept s (deliverGroup e l g s) := by
  unfold deliverGroup
  dsimp only
  refine EntriesKept.trans ?_ (entriesKept_sendRec _ _ _ _ _)
  refine EntriesKept.trans ?_ (entriesKept_modLeaf _ _ _ fun _ => rfl)
  exact .of_same (keep_makeGen _ _ _)

theorem entriesKept_pumpLeaf (e : Eng) (l : LeafId) (s : State) : EntriesKept s (pumpLeaf e l s) := by
  unfold pumpLeaf
  dsimp only
  split
  · exact .refl s
  · split
    · exact .refl s
    · split
      · refine EntriesKept.trans ?_ (entriesKept_deliverGroup _ _ _ _)
        exact .of_same (keep_firstKey _ _ _)
      · exact .of_same (keep_addWait _ _)

theorem entriesKept_wantGroup (e : Eng) (l : LeafId) (g : Nat) (s : State) : EntriesKept s (wantGroup e l g s) := by
  unfold wantGroup
  refine EntriesKept.trans ?_ (entriesKept_pumpLeaf _ _ _)
  exact entriesKept_modLeaf _ _ _ fun _ => rfl

theorem entriesKept_startGroup (e : Eng) (g : Nat) (s : State) : EntriesKept s (startGroup e g s) := by
  unfold startGroup
  dsimp only
  split
  · exact .refl s
  · have drawn (f : GrpKey → GrpKey) : EntriesKept s (modGk e g f (shake true 36 s).2) := by
      refine EntriesKept.keep ?_ (keep_modGk _ _ _ _)
      exact .of_same (keep_shake _ _ _)
    refine EntriesKept.when (fun u => .of_same (keep_closeGroup _ _ u)) ?_
    exact EntriesKept.forAll (fun l u => entriesKept_wantGroup e (Fin.ofNat 4096 l) g u) _ (drawn _)

theorem entriesKept_startRekey (k : Nat) (s : State) : EntriesKept s (startRekey k s) := by
  unfold startRekey
  dsimp only
  split
  · exact .refl s
  · split
    · exact .refl s
    · refine EntriesKept.trans ?_ (entriesKept_sendRec _ _ _ _ _)
      refine EntriesKept.trans ?_ (entriesKept_modLeaf _ _ _ fun _ => rfl)
      refine .ite ?_ (.refl s)
      refine EntriesKept.trans ?_ (entriesKept_modLeaf _ _ _ fun _ => rfl)
      exact .of_same (keep_rewriteSlot _ _ _ _ _)

theorem entriesKept_serveWait (w : KeyWait) (s : State) : EntriesKept s (serveWait w s) := by
  cases w with
  | exchange e l => exact .ite (entriesKept_startExchange _ _ _) (.refl s)
  | deliver e l => exact entriesKept_pumpLeaf _ _ _
  | erase k => exact .of_same (keep_eraseSlot _ _)
  | rekey k =>
    refine .ite (.of_same (keep_addWait _ _)) ?_
    split
    · exact entriesKept_startGroup _ _ _
    · exact entriesKept_startRekey _ _
  | finish e g =>
    exact .ite (.of_same (keep_addWait _ _)) (.when (fun u => .of_same (keep_closeGroup _ _ u)) (.refl s))
  | hashKey => exact .of_same (keep_drawHashKey _)

theorem entriesKept_serveOnce (s : State) : EntriesKept s (serveOnce s) :=
  EntriesKept.forAll entriesKept_serveWait _ fun _ => rfl

theorem entriesKept_serveDeferred (s : State) : EntriesKept s (serveDeferred s) :=
  (entriesKept_serveOnce s).trans (entriesKept_serveOnce _)

/-- A leaf as its tree sees it, its exchange apart, under a change that keeps the entries and the pairing. -/
theorem EntriesKept.getLeaf {s t : State} (h : EntriesKept s t) (hb : t.boot = s.boot) (e : Eng) (l : Nat) :
    (getLeaf t e l).bare = (getLeaf s e l).bare := by
  unfold Machine.getLeaf
  rw [leafKey_congr hb]
  exact h _

/-- The leaves after the waiting requests were served. -/
theorem getLeaf_serveDeferred (e : Eng) (l : Nat) (s : State) : (getLeaf (serveDeferred s) e l).bare = (getLeaf s e l).bare :=
  (entriesKept_serveDeferred s).getLeaf (keep_serveDeferred s .boot rfl) e l

/-! ## Quantities of the tree that a report, a leaf's entry and a message leave alone -/

section
variable {s t : State} (boot : t.boot = s.boot) (regs : t.regs = s.regs)

include boot regs in
theorem reachMin_congr (e : Eng) : reachMin t e = reachMin s e := by
  simp only [reachMin, hasTree, boot, regF_congr regs, getReg_congr regs]
  rfl

include boot regs in
theorem reachMax_congr (e : Eng) : reachMax t e = reachMax s e := by
  simp only [reachMax, hasTree, boot, regF_congr regs, getReg_congr regs]
  rfl

include boot regs in
theorem zOf_congr (e : Eng) : zOf t e = zOf s e := by rw [zOf, reachMax_congr boot regs, zOf]

include boot regs in
theorem eqdDisc_congr (e : Eng) : eqdDisc t e = eqdDisc s e := by
  rw [eqdDisc, reachMin_congr boot regs, reachMax_congr boot regs, eqdDisc]

include boot regs in
theorem sqLen_congr (e : Eng) : sqLen t e = sqLen s e := by
  rw [sqLen, reachMin_congr boot regs, reachMax_congr boot regs, sqLen]

include regs in
theorem pwrDisc_congr (e : Eng) : pwrDisc t e = pwrDisc s e := by rw [pwrDisc, regF_congr regs, pwrDisc]

include boot in
theorem offsetHere_congr (aps : t.aps = s.aps) (e : Eng) : offsetHere t e = offsetHere s e := by simp only [offsetHere, boot, aps]

include boot in
theorem treeEng_congr (aps : t.aps = s.aps) (e : Eng) : treeEng t e = treeEng s e := by simp only [treeEng, boot, aps]

include boot in
theorem chooseId_congr (leaves : t.leaves = s.leaves) (ctrs : t.ctrs = s.ctrs) (e : Eng) (serial : BitVec 128) :
    chooseId t e serial = chooseId s e serial := by
  simp only [chooseId, leavesIn, oldestGone, targeted, getLeaf_congr leaves boot, treeOf_congr boot, leaves, ctrs]

end

/-! ## A report taken from an engine's queue -/

section
variable (e k : Eng) (p : Report → Bool) (s : State)

theorem takeReport_fst : (takeReport e p s).1 = (getEng s e).reports.find? p := rfl

theorem takeReport_reports : (getEng (takeReport e p s).2 e).reports = dropFirst p (getEng s e).reports := by simp [takeReport]

theorem takeReport_leaves : (takeReport e p s).2.leaves = s.leaves := keep_takeReport e p s .leaves rfl

theorem takeReport_aps : (takeReport e p s).2.aps = s.aps := keep_takeReport e p s .aps rfl

theorem takeReport_boot : (takeReport e p s).2.boot = s.boot := keep_takeReport e p s .boot rfl

theorem takeReport_regs : (takeReport e p s).2.regs = s.regs := keep_takeReport e p s .regs rfl

theorem getLeaf_takeReport (l : Nat) : getLeaf (takeReport e p s).2 k l = getLeaf s k l :=
  getLeaf_congr (takeReport_leaves e p s) (takeReport_boot e p s) k l

theorem ctlRuns_takeReport (i : Isl) : ctlRuns (takeReport e p s).2 i = ctlRuns s i := ctlRuns_congr (keep_takeReport e p s .isls rfl) i

theorem offsetHere_takeReport : offsetHere (takeReport e p s).2 k = offsetHere s k :=
  offsetHere_congr (takeReport_boot e p s) (takeReport_aps e p s) k

/-- The other fields of the engines stay. -/
theorem getEng_takeReport : (getEng (takeReport e p s).2 k).holds = (getEng s k).holds ∧ (getEng (takeReport e p s).2 k).list = (getEng s k).list ∧
    (getEng (takeReport e p s).2 k).down = (getEng s k).down := by
  simp only [takeReport, getEng_modEng]
  split
  · next h => subst h; exact ⟨rfl, rfl, rfl⟩
  · exact ⟨rfl, rfl, rfl⟩

theorem onHold_takeReport (serial : BitVec 128) : onHold (takeReport e p s).2 k serial = onHold s k serial := by
  simp only [onHold, treeOf_congr (takeReport_boot e p s), getEng_takeReport, now_congr (keep_takeReport e p s .clk rfl)]

theorem notListed_takeReport (serial : BitVec 128) : notListed (takeReport e p s).2 k serial = notListed s k serial := by
  simp only [notListed, listOf, takeReport_boot, getEng_takeReport, getReg_congr (takeReport_regs e p s)]

theorem rangeWaits_takeReport (l : LeafId) : rangeWaits (takeReport e p s).2 k l = rangeWaits s k l := by
  simp only [rangeWaits, treeEng_congr (takeReport_boot e p s) (takeReport_aps e p s), getEng_takeReport]

theorem eqdFor_takeReport (l : LeafId) (w : Window) : eqdFor (takeReport e p s).2 k l w = eqdFor s k l w := by
  simp only [eqdFor, getLeaf_takeReport, rangeWaits_takeReport, eqdDisc_congr (takeReport_boot e p s) (takeReport_regs e p s)]

end

/-! ## Operations that leave every leaf's entry -/

theorem Same.getLeaf {m : Nat} {s t : State} (h : Same m s t) (e : Eng) (l : Nat) (leaves : m.testBit 19 = false := by rfl)
    (boot : m.testBit 9 = false := by rfl) : Machine.getLeaf t e l = Machine.getLeaf s e l :=
  getLeaf_congr (h .leaves leaves) (h .boot boot) e l

section
variable (e k : Eng) (l : Nat) (s : State)

@[simp] theorem getLeaf_sendMsg (m : Msg) : getLeaf (sendMsg k m s) e l = getLeaf s e l := (keep_sendMsg k m s).getLeaf e l

@[simp] theorem getLeaf_strike (p : Grant → Bool) : getLeaf (strike k p s) e l = getLeaf s e l := (keep_strike k p s).getLeaf e l

@[simp] theorem getLeaf_idleWindows (p : Nat → Grant → Bool) : getLeaf (idleWindows k p s) e l = getLeaf s e l :=
  (keep_idleWindows k p s).getLeaf e l

@[simp] theorem getLeaf_schedEvent (code obj : Nat) (data : BitVec 80) (bit : Nat) :
    getLeaf (schedEvent k code obj data bit s) e l = getLeaf s e l := (keep_schedEvent k code obj data bit s).getLeaf e l

@[simp] theorem getLeaf_rerangeEvent (n phase : Nat) (x : Leaf) (new : Int) :
    getLeaf (rerangeEvent k n phase x new s) e l = getLeaf s e l := getLeaf_schedEvent e k l s _ _ _ _

@[simp] theorem getLeaf_groupsLeft (gs : List Nat) : getLeaf (forAll gs (groupLeft k) s) e l = getLeaf s e l :=
  (same_forAll.go (keep_groupLeft k) gs s).getLeaf e l

end

/-! ## A leaf that a discovery burst admits (R313, R316) -/

/-- The entry of an admitted leaf. -/
theorem getLeaf_admitLeaf (e : Eng) (l : Nat) (b : List Byte) (err power : Int) (s : State) :
    let y := getLeaf (admitLeaf e l b err power s) e l
    y.st = .assigned ∧ y.serial = discSerial b ∧ y.eqd = eqdDisc s e - err ∧ y.launch = 10 * pwrDisc s e ∧ y.discAt = s.clk.now := by
  have kept := keep_rediscover e l s
  rw [← eqdDisc_congr (kept .boot rfl) (kept .regs rfl), ← pwrDisc_congr (kept .regs rfl), ← kept .clk rfl]
  unfold admitLeaf
  dsimp only
  generalize rediscover e l s = r
  simp [now]

/-! ## A leaf that departs (R331) -/

/-- The entry a departure leaves. -/
theorem getLeaf_leave (e : Eng) (l cause : Nat) (toFree : Bool) (s : State) :
    getLeaf (leave e l cause toFree s) e l = departedEntry (getLeaf s e l) (toFree || stickyH s e = 0) cause (now s) := by
  simp [leave]

/-- A departure to FREE. -/
theorem getLeaf_depart_free (e : Eng) (l cause hold : Nat) (s : State) :
    (getLeaf (depart e l cause hold true s) e l).st = .free ∧ (getLeaf (depart e l cause hold true s) e l).cause = cause := by
  simp [depart, getLeaf_leave, departedEntry]

/-! ## A leaf after its power, its round trip and a RANGE were noted (R317, R319, R321) -/

section
variable (e : Eng) (l : LeafId) (s : State)

theorem getLeaf_notePow (p : Int) :
    let y := getLeaf (notePow e l p s) e l
    let x := getLeaf s e l
    y.st = x.st ∧ y.serial = x.serial ∧ y.rerange = x.rerange ∧ y.rtd = x.rtd := by
  dsimp only [notePow]
  split
  · simp
  · split <;> simp

theorem getLeaf_sendRange (eqd : Int) :
    let y := getLeaf (sendRange e l eqd s) e l
    let x := getLeaf s e l
    y.st = x.st ∧ y.serial = x.serial ∧ y.rerange = x.rerange ∧ y.rtd = x.rtd := by
  simp [sendRange]

theorem getLeaf_startExchange :
    let y := getLeaf (startExchange e l s) e l
    let x := getLeaf s e l
    y.st = x.st ∧ y.serial = x.serial ∧ y.rerange = x.rerange ∧ y.rtd = x.rtd := by
  obtain ⟨st, serial, -, rerange, -, rtd, -⟩ :=
    Leaf.fields_of_bare ((entriesKept_startExchange e l s).getLeaf (keep_startExchange e l s .boot rfl) e l)
  exact ⟨st, serial, rerange, rtd⟩

theorem getLeaf_noteRtd (w : Window) (err : Int) :
    getLeaf (noteRtd e l w err s) e l = { getLeaf s e l with rtd := 64 * (zOf s e : Int) - (eqdFor s e l w - err) } := by
  simp [noteRtd]

theorem rtd_startRerange (row : Nat) : (getLeaf (startRerange e l row s) e l).rtd = (getLeaf s e l).rtd := by
  dsimp only [startRerange]
  split
  · rfl
  · split
    · simp
    · simp [(keep_countSched _ _ _ _ _ _).getLeaf]

theorem rtd_noteLanding (err : Int) : (getLeaf (noteLanding e l err s) e l).rtd = (getLeaf s e l).rtd := by
  dsimp only [noteLanding]
  split
  · rfl
  · split
    · simp [rtd_startRerange]
    · split
      · simp [getLeaf_sendRange]
      · simp

end

/-! ## What the reports of bursts do, each in a name of its own (R311, R316 to R320) -/

/-- A queue in which some report satisfies `p` has a first such report. -/
theorem report_of_any {p : Report → Bool} {l : List Report} (h : l.any p = true) : ∃ q, l.find? p = some q :=
  Option.isSome_iff_exists.mp (List.find?_isSome.mpr (by simpa using h))

/-- The answer to a discovery payload (R316). -/
def answerDiscovery (e : Eng) (q : Report) (b : List Byte) (s : State) : State :=
  let serial := discSerial b
  let err := landingError q - offsetHere s e
  if ! discCrcOk b || serial = 0 then count 12 e.num 7 1 s
  else if onHold s e serial then count 12 e.num 8 1 s
  else if notListed s e serial then holdSerial e serial (reject e serial causeNotListed s)
  else if err < 0 || 64 * ((sqLen s e : Int) - 4512) < err then holdSerial e serial (reject e serial causeRangeOut s)
  else match chooseId s e serial with
    | none =>
      schedEvent e 0x0808 (engObjId e) (packData [(16, registeredCount s e)]) 7 (reject e serial causeTableFull s)
    | some l => serveDeferred (admitLeaf e l b err q.r.power (count 12 e.num 6 1 s))

/-- A discovery report of a subcarrier. -/
def discoveryReport (sc : Sc) (q : Report) : Bool := isDisc q && q.r.sc = sc.val

/-- The first such report is taken, and its payload answered while the control functions of TXD run (R534). -/
def takeDiscovery (e : Eng) (sc : Sc) (s : State) : State :=
  let t := takeReport e (discoveryReport sc) s
  match t.1 with
  | none => t.2
  | some q =>
    if ! ctlRuns t.2 e.txd then t.2 else
    match payloadBytes q.payload with
    | none => t.2
    | some b => answerDiscovery e q b t.2

theorem execDiscoveryBurstProcess_eq (e : Eng) (sc : Sc) (s : State) : execDiscoveryBurstProcess e sc s =
    act (inService s && treeEng s e = e && (getEng s e).reports.any (discoveryReport sc)) (takeDiscovery e sc) s := rfl

/-- A ranging burst's leaf, once its power, its round trip and the end of its missed windows are noted. -/
def noteRanging (e : Eng) (l : LeafId) (q : Report) (s : State) : State :=
  let s := notePow e l q.r.power s
  modLeaf e l.val (fun y => { y with missRow := 0, wideMiss := 0 }) (noteRtd e l q.w (landingError q - offsetHere s e) s)

/-- What a ranging burst then moves: `s` is the state once its power was noted. -/
def rangingMoves (e : Eng) (l : LeafId) (q : Report) (s : State) (t : State) : State :=
  let err := landingError q - offsetHere s e
  let x := getLeaf s e l.val
  let new := eqdFor s e l q.w - err
  let pending := rangePending s e l
  match x.st with
  | .assigned =>
    if err.natAbs ≤ fourSym then
      let t := modLeaf e l.val (fun y => { y with st := .registering }) t
      startExchange e l (if oneSym < err.natAbs && ! pending then sendRange e l new t else t)
    else if pending then t else sendRange e l new t
  | .registering => if oneSym < err.natAbs && ! pending then sendRange e l new t else t
  | .active | .lost =>
    if x.rerange then
      let t := rerangeEvent e l.val 1 x new (modLeaf e l.val (fun y => { y with rerange := false, dedOnly := false }) t)
      sendRange e l new (modLeaf e l.val (fun y => { y with dataWait := true }) t)
    else t
  | .free | .gone => t

/-- A ranging report of a leaf. -/
def rangingReport (l : LeafId) (q : Report) : Bool := isRang q && q.r.leaf = l.val

/-- The first such report is taken. -/
def takeRanging (e : Eng) (l : LeafId) (s : State) : State :=
  let t := takeReport e (rangingReport l) s
  match t.1 with
  | none => t.2
  | some q => rangingMoves e l q (notePow e l q.r.power t.2) (noteRanging e l q t.2)

theorem execRangingBurstProcess_eq (e : Eng) (l : LeafId) (s : State) : execRangingBurstProcess e l s =
    act (inService s && treeEng s e = e && ctlRuns s e.txd && (getEng s e).reports.any (rangingReport l)) (takeRanging e l) s := rfl

/-- A report of any other burst of a subcarrier. -/
def dataReport (sc : Sc) (q : Report) : Bool := ! isDisc q && ! isRang q && q.r.sc = sc.val

/-- What a data burst of a listed leaf leaves on the working engine, or alone (R286, R317, R319, R321). -/
def noteData (e : Eng) (l : LeafId) (q : Report) (s : State) : State :=
  let err := landingError q - offsetHere s e
  let t := noteRtd e l q.w err s
  if ! goodReport q then t
  else
    let t := notePow e l q.r.power t
    if t.boot.paired && t.aps.st = 3 then
      { t with aps := { t.aps with errs := if t.aps.errs.length < 64 then (l.val, landingError q) :: t.aps.errs else t.aps.errs } }
    else noteLanding e l err t

/-- What a standby engine takes of a data burst (R15). -/
def noteStandby (e : Eng) (q : Report) (s : State) : State :=
  when (goodReport q && ! q.r.wrongWindow) (fun s => { s with aps := { s.aps with dup := s.aps.dup + (landingError q - offsetHere s e) } }) s

/-- The first such report is taken: a listed leaf's burst is noted by the engine that serves the tree, or by its standby. -/
def takeData (e : Eng) (sc : Sc) (s : State) : State :=
  let t := takeReport e (dataReport sc) s
  match t.1 with
  | none => t.2
  | some q =>
    if ! q.r.hdrValid || q.r.kind = 1 || ! registered (getLeaf t.2 e (Fin.ofNat 4096 q.r.leaf : LeafId)) then t.2
    else if t.2.boot.paired && t.2.aps.work ≠ some e then noteStandby e q t.2
    else noteData e (Fin.ofNat 4096 q.r.leaf) q t.2

theorem execBurstReportProcess_eq (e : Eng) (sc : Sc) (s : State) : execBurstReportProcess e sc s =
    act (inService s && (getEng s e).reports.any (dataReport sc)) (takeData e sc) s := rfl

/-! ## A discovery burst -/

section
variable {e : Eng} {q : Report} {b : List Byte} {s : State}

theorem answerDiscovery_bad (h : discCrcOk b = false ∨ discSerial b = 0) : answerDiscovery e q b s = count 12 e.num 7 1 s := by
  unfold answerDiscovery
  exact if_pos (by simpa using h)

theorem payload_good (crc : discCrcOk b = true) (serial : discSerial b ≠ 0) : ¬ (! discCrcOk b || decide (discSerial b = 0)) = true := by
  simpa [crc] using serial

theorem answerDiscovery_onHold (crc : discCrcOk b = true) (serial : discSerial b ≠ 0) (hold : onHold s e (discSerial b) = true) :
    answerDiscovery e q b s = count 12 e.num 8 1 s := by
  simp only [answerDiscovery, if_neg (payload_good crc serial), hold, if_true]

theorem answerDiscovery_admits {l : Nat} (crc : discCrcOk b = true) (serial : discSerial b ≠ 0) (hold : onHold s e (discSerial b) = false)
    (listed : notListed s e (discSerial b) = false) (early : 0 ≤ landingError q - offsetHere s e)
    (late : landingError q - offsetHere s e ≤ 64 * ((sqLen s e : Int) - 4512)) (chosen : chooseId s e (discSerial b) = some l) :
    answerDiscovery e q b s = serveDeferred (admitLeaf e l b (landingError q - offsetHere s e) q.r.power (count 12 e.num 6 1 s)) := by
  simp only [answerDiscovery, if_neg (payload_good crc serial), hold, listed, chosen, decide_eq_false (Int.not_lt.mpr early),
    decide_eq_false (Int.not_lt.mpr late), Bool.or_self, Bool.false_eq_true, if_false]

/-- The entry of the leaf that an answer admits. -/
theorem getLeaf_admitted (l : Nat) (err power : Int) (u : State) (regs : u.regs = s.regs) (boot : u.boot = s.boot) (clk : u.clk = s.clk) :
    let y := getLeaf (serveDeferred (admitLeaf e l b err power u)) e l
    y.st = .assigned ∧ y.serial = discSerial b ∧ y.eqd = eqdDisc s e - err ∧ y.launch = 10 * pwrDisc s e ∧ y.discAt = s.clk.now := by
  obtain ⟨st, serial, -, -, eqd, -, launch, discAt⟩ := Leaf.fields_of_bare (getLeaf_serveDeferred e l (admitLeaf e l b err power u))
  obtain ⟨st', serial', eqd', launch', discAt'⟩ := getLeaf_admitLeaf e l b err power u
  rw [eqdDisc_congr boot regs] at eqd'
  rw [pwrDisc_congr regs] at launch'
  rw [clk] at discAt'
  exact ⟨st.trans st', serial.trans serial', eqd.trans eqd', launch.trans launch', discAt.trans discAt'⟩

theorem takeDiscovery_answers {sc : Sc} (hq : (getEng s e).reports.find? (discoveryReport sc) = some q) (ctl : ctlRuns s e.txd = true)
    (payload : payloadBytes q.payload = some b) : takeDiscovery e sc s = answerDiscovery e q b (takeReport e (discoveryReport sc) s).2 := by
  simp [takeDiscovery, takeReport_fst, hq, ctlRuns_takeReport, ctl, payload]

end

/-! ## A ranging burst -/

section
variable (e : Eng) (l : LeafId) (q : Report) (s : State)

theorem getLeaf_noteRanging :
    let y := getLeaf (noteRanging e l q s) e l
    let x := getLeaf s e l
    y.st = x.st ∧ y.serial = x.serial ∧ y.rerange = x.rerange := by
  simp [noteRanging, getLeaf_noteRtd, getLeaf_notePow]

theorem st_rangingMoves_assigned {t : State} (h : (getLeaf s e l).st = .assigned) (ht : (getLeaf t e l).st = .assigned) :
    (getLeaf (rangingMoves e l q s t) e l).st = if (landingError q - offsetHere s e).natAbs ≤ fourSym then .registering else .assigned := by
  simp only [rangingMoves, h]
  by_cases near : (landingError q - offsetHere s e).natAbs ≤ fourSym
  · rw [if_pos near, if_pos near, (getLeaf_startExchange e l _).1]
    split <;> simp [getLeaf_sendRange]
  · rw [if_neg near, if_neg near]
    split <;> simp [getLeaf_sendRange, ht]

/-- Re-ranging ends. -/
theorem rangingMoves_rerange {t : State} (h : (getLeaf s e l).st = .active ∨ (getLeaf s e l).st = .lost) (hr : (getLeaf s e l).rerange = true) :
    (getLeaf (rangingMoves e l q s t) e l).rerange = false ∧ (getLeaf (rangingMoves e l q s t) e l).st = (getLeaf t e l).st := by
  rcases h with h | h <;> simp [rangingMoves, h, hr, getLeaf_sendRange]

theorem serial_rangingMoves (t : State) : (getLeaf (rangingMoves e l q s t) e l).serial = (getLeaf t e l).serial := by
  dsimp only [rangingMoves]
  split
  · split
    · rw [(getLeaf_startExchange e l _).2.1]
      split <;> simp [getLeaf_sendRange]
    · split <;> simp [getLeaf_sendRange]
  · split <;> simp [getLeaf_sendRange]
  · split <;> simp [getLeaf_sendRange]
  · split <;> simp [getLeaf_sendRange]
  · rfl
  · rfl

end

theorem takeRanging_moves {e : Eng} {l : LeafId} {q : Report} {s : State} (hq : (getEng s e).reports.find? (rangingReport l) = some q) :
    takeRanging e l s = rangingMoves e l q (notePow e l q.r.power (takeReport e (rangingReport l) s).2) (noteRanging e l q (takeReport e (rangingReport l) s).2) := by
  simp only [takeRanging, takeReport_fst, hq]

/-- A leaf before and after its burst was noted. -/
theorem getLeaf_rangingNoted (e : Eng) (l : LeafId) (q : Report) (p : Report → Bool) (s : State) :
    let u := (takeReport e p s).2
    let x := getLeaf s e l
    ((getLeaf (notePow e l q.r.power u) e l).st = x.st ∧ (getLeaf (notePow e l q.r.power u) e l).rerange = x.rerange) ∧
      (getLeaf (noteRanging e l q u) e l).st = x.st ∧ (getLeaf (noteRanging e l q u) e l).serial = x.serial := by
  simp [getLeaf_noteRanging, getLeaf_notePow, getLeaf_takeReport]

/-! ## A ranging window that was missed (R311, R320) -/

/-- What a missed ranging window does to a leaf. -/
def windowMissed (e : Eng) (l : LeafId) (x : Leaf) (wide : Bool) (s : State) : State :=
  match x.st with
  | .assigned =>
    if x.missRow + 1 < 4 then setLeaf e l.val { x with missRow := x.missRow + 1 } s
    else serveDeferred (depart e l.val causeRangeFail 0 true s)
  | .active | .lost =>
    if x.rerange && ! x.dedOnly && wide then
      setLeaf e l.val { x with wideMiss := x.wideMiss + 1, dedOnly := 2 ≤ x.wideMiss + 1 } s
    else s
  | .registering | .free | .gone => s

/-- The window leaves the engine's list. -/
def takeMissed (e : Eng) (l : LeafId) (s : State) : State := modEng e (fun y => { y with missed := dropMissed l.val y.missed }) s

theorem execRangingWindowMissed_eq (e : Eng) (l : LeafId) (s : State) : execRangingWindowMissed e l s =
    act (inService s && treeEng s e = e && ctlRuns s e.txd && (missedOf s e l.val).isSome)
      (fun u => windowMissed e l (getLeaf s e l.val) ((missedOf s e l.val).getD false) (takeMissed e l u)) s := rfl

section
variable {e : Eng} {l : LeafId} {x : Leaf} {wide : Bool} {s : State}

theorem windowMissed_assigned (h : x.st = .assigned) (row : x.missRow < 3) :
    windowMissed e l x wide s = setLeaf e l.val { x with missRow := x.missRow + 1 } s := by
  simp [windowMissed, h, Nat.add_lt_add_right row 1]

theorem windowMissed_fourth (h : x.st = .assigned) (row : 3 ≤ x.missRow) :
    windowMissed e l x wide s = serveDeferred (depart e l.val causeRangeFail 0 true s) := by
  simp only [windowMissed, h, if_neg (Nat.not_lt.mpr (Nat.add_le_add_right row 1))]

theorem windowMissed_wide (h : x.st = .active ∨ x.st = .lost) (rerange : x.rerange = true) (ded : x.dedOnly = false) :
    windowMissed e l x true s = setLeaf e l.val { x with wideMiss := x.wideMiss + 1, dedOnly := 2 ≤ x.wideMiss + 1 } s := by
  rcases h with h | h <;> simp [windowMissed, h, rerange, ded]

theorem windowMissed_narrow (h : x.st = .active ∨ x.st = .lost) : windowMissed e l x false s = s := by
  rcases h with h | h <;> simp [windowMissed, h]

theorem windowMissed_other (h : x.st = .registering ∨ x.st = .free ∨ x.st = .gone) : windowMissed e l x wide s = s := by
  rcases h with h | h | h <;> simp [windowMissed, h]

theorem getEng_windowMissed (h : x.st ≠ .assigned) (k : Eng) : getEng (windowMissed e l x wide s) k = getEng s k := by
  cases hx : x.st with
  | assigned => exact absurd hx h
  | active | lost => simp only [windowMissed, hx]; split <;> simp
  | registering | free | gone => simp only [windowMissed, hx]

end

theorem getLeaf_depart_served (e : Eng) (l cause hold : Nat) (s : State) :
    let t := serveDeferred (depart e l cause hold true s)
    (getLeaf t e l).st = .free ∧ (getLeaf t e l).cause = cause := by
  obtain ⟨st, -, cause', -⟩ := Leaf.fields_of_bare (getLeaf_serveDeferred e l (depart e l cause hold true s))
  obtain ⟨free, why⟩ := getLeaf_depart_free e l cause hold s
  exact ⟨st.trans free, cause'.trans why⟩

/-! ## A data burst (R15, R286, R317) -/

section
variable (e k : Eng) (s : State)

@[simp] theorem reports_sendMsg (m : Msg) : (getEng (sendMsg e m s) k).reports = (getEng s k).reports := by
  have down (x : Eng) (f : Down → Down) : (getEng (modDown x f s) k).reports = (getEng s k).reports := by
    rw [getEng_modDown]
    split
    · next h => subst h; rfl
    · rfl
  unfold sendMsg
  dsimp only
  split
  · exact down _ _
  · exact down _ _

@[simp] theorem reports_strike (p : Grant → Bool) : (getEng (strike e p s) k).reports = (getEng s k).reports := by
  simp only [strike, count_gets, getEng_modEng]
  split
  · next h => subst h; simp
  · rfl

theorem reports_notePow (l : LeafId) (p : Int) : (getEng (notePow e l p s) k).reports = (getEng s k).reports := by
  dsimp only [notePow]
  split
  · simp
  · split <;> simp

theorem reports_sendRange (l : LeafId) (eqd : Int) : (getEng (sendRange e l eqd s) k).reports = (getEng s k).reports := by
  simp [sendRange]

theorem Same.getEng {m : Nat} {s t : State} (h : Same m s t) (k : Eng) (a : m.testBit 16 = false := by rfl) (b : m.testBit 17 = false := by rfl) :
    Machine.getEng t k = Machine.getEng s k := getEng_congr (h .engA a) (h .engB b) k

theorem reports_startRerange (l row : Nat) : (getEng (startRerange e l row s) k).reports = (getEng s k).reports := by
  dsimp only [startRerange]
  split
  · rfl
  · split
    · simp
    · simp [rerangeEvent, (keep_schedEvent _ _ _ _ _ _).getEng, (keep_countSched _ _ _ _ _ _).getEng]

theorem reports_noteLanding (l : LeafId) (err : Int) : (getEng (noteLanding e l err s) k).reports = (getEng s k).reports := by
  dsimp only [noteLanding]
  split
  · rfl
  · split
    · simp [reports_startRerange]
    · split <;> simp [reports_sendRange]

theorem reports_noteData (l : LeafId) (q : Report) : (getEng (noteData e l q s) k).reports = (getEng s k).reports := by
  dsimp only [noteData]
  split
  · simp [noteRtd]
  · split
    · simp [reports_notePow, noteRtd]
    · simp [reports_noteLanding, reports_notePow, noteRtd]

theorem rtd_noteData (l : LeafId) (q : Report) : (getLeaf (noteData e l q s) e l).rtd =
    64 * (zOf s e : Int) - (eqdFor s e l q.w - (landingError q - offsetHere s e)) := by
  dsimp only [noteData]
  split
  · simp [getLeaf_noteRtd]
  · split
    · simp [getLeaf_notePow, getLeaf_noteRtd]
    · simp [rtd_noteLanding, getLeaf_notePow, getLeaf_noteRtd]

theorem noteStandby_fields (q : Report) : (noteStandby e q s).leaves = s.leaves ∧ getEng (noteStandby e q s) k = getEng s k := by
  unfold noteStandby when
  split <;> simp

theorem noteStandby_good {q : Report} (h : goodReport q = true) (w : q.r.wrongWindow = false) :
    (noteStandby e q s).aps = { s.aps with dup := s.aps.dup + (landingError q - offsetHere s e) } := by
  simp [noteStandby, when, h, w]

theorem noteStandby_bad {q : Report} (h : goodReport q = false ∨ q.r.wrongWindow = true) : noteStandby e q s = s := by
  rcases h with h | h <;> simp [noteStandby, when, h]

end

section
variable {e : Eng} {sc : Sc} {q : Report} {s : State} (hq : (getEng s e).reports.find? (dataReport sc) = some q)
include hq

theorem takeData_ignores (h : q.r.hdrValid = false ∨ q.r.kind = 1) : takeData e sc s = (takeReport e (dataReport sc) s).2 := by
  rcases h with h | h <;> simp [takeData, takeReport_fst, hq, h]

theorem takeData_notes (valid : q.r.hdrValid = true) (kind : q.r.kind ≠ 1) (leaf : q.r.leaf < 4096) (reg : registered (getLeaf s e q.r.leaf) = true)
    (working : s.boot.paired = false ∨ s.aps.work = some e) :
    takeData e sc s = noteData e (Fin.ofNat 4096 q.r.leaf) q (takeReport e (dataReport sc) s).2 := by
  rcases working with h | h <;> simp [takeData, takeReport_fst, hq, valid, kind, Nat.mod_eq_of_lt leaf, reg, getLeaf_takeReport, takeReport_boot, takeReport_aps, h]

theorem takeData_standby (valid : q.r.hdrValid = true) (kind : q.r.kind ≠ 1) (leaf : q.r.leaf < 4096) (reg : registered (getLeaf s e q.r.leaf) = true)
    (paired : s.boot.paired = true) (standby : s.aps.work ≠ some e) :
    takeData e sc s = noteStandby e q (takeReport e (dataReport sc) s).2 := by
  simp [takeData, takeReport_fst, hq, valid, kind, Nat.mod_eq_of_lt leaf, reg, getLeaf_takeReport, takeReport_boot, takeReport_aps, paired, standby]

end

/-- The report leaves the list whatever it says. -/
theorem reports_takeData (e : Eng) (sc : Sc) (s : State) : (getEng (takeData e sc s) e).reports = dropFirst (dataReport sc) (getEng s e).reports := by
  rw [← takeReport_reports]
  dsimp only [takeData]
  split
  · rfl
  · split
    · rfl
    · split
      · rw [(noteStandby_fields _ _ _ _).2]
      · exact reports_noteData _ _ _ _ _

/-! ## The obligation -/

/-- Settles O38: each burst's report is taken and what it does is the named step's; the leaf's entry is read off that step. -/
theorem discovery : Obligations.Discovery := by
  refine ⟨fun e sc s => ?_, fun e l s => ?_, fun e l s => ?_, fun e sc s => ?_⟩
  · refine actsIf_act (execDiscoveryBurstProcess_eq e sc s)
      (fun t h => keep_execDiscoveryBurstProcess e sc s ((execDiscoveryBurstProcess_eq e sc s).trans h)) (mask_sub rfl) fun _ q b hq ctl payload => ?_
    rw [takeDiscovery_answers hq ctl payload]
    have taken := keep_takeReport e (discoveryReport sc) s
    have counts (i : Nat) : (count 12 e.num i 1 (takeReport e (discoveryReport sc) s).2).leaves = s.leaves ∧
        counted 12 e.num i 1 s (count 12 e.num i 1 (takeReport e (discoveryReport sc) s).2) :=
      ⟨(keep_count _ _ _ _ _ .leaves rfl).trans (taken .leaves rfl), count_tally (taken .tally rfl) _ _ _ _⟩
    refine ⟨fun bad => ?_, fun crc serial hold => ?_, fun l crc serial hold listed early late chosen => ?_⟩
    · rw [answerDiscovery_bad bad]
      exact counts 7
    · rw [answerDiscovery_onHold crc serial (by rwa [onHold_takeReport])]
      exact counts 8
    · rw [← offsetHere_takeReport e e (discoveryReport sc) s] at early late ⊢
      rw [← sqLen_congr (taken .boot rfl) (taken .regs rfl)] at late
      rw [← chooseId_congr (taken .boot rfl) (taken .leaves rfl) (taken .ctrs rfl)] at chosen
      rw [answerDiscovery_admits crc serial (by rwa [onHold_takeReport]) (by rwa [notListed_takeReport]) early late chosen]
      have counting := (keep_count 12 e.num 6 1 (takeReport e (discoveryReport sc) s).2)
      exact getLeaf_admitted l _ _ _ ((counting .regs rfl).trans (taken .regs rfl)) ((counting .boot rfl).trans (taken .boot rfl))
        ((counting .clk rfl).trans (taken .clk rfl))
  · refine actsIf_act (execRangingBurstProcess_eq e l s)
      (fun t h => keep_execRangingBurstProcess e l s ((execRangingBurstProcess_eq e l s).trans h)) (mask_sub rfl) fun hg => ?_
    obtain ⟨-, reported⟩ := Bool.and_eq_true_iff.mp hg
    obtain ⟨q, hq⟩ := report_of_any reported
    obtain ⟨⟨powSt, powRerange⟩, notedSt, notedSerial⟩ := getLeaf_rangingNoted e l q (rangingReport l) s
    rw [takeRanging_moves hq]
    refine ⟨fun q' hq' assigned => ?_, fun listed rerange => ?_, (serial_rangingMoves _ _ _ _ _).trans notedSerial⟩
    · obtain rfl : q = q' := Option.some.inj (hq.symm.trans hq')
      rw [st_rangingMoves_assigned e l q _ (powSt.trans assigned) (notedSt.trans assigned),
        offsetHere_congr (keep_notePow _ _ _ _ .boot rfl) (keep_notePow _ _ _ _ .aps rfl), offsetHere_takeReport]
      rfl
    · rw [← powSt] at listed
      obtain ⟨ended, st⟩ := rangingMoves_rerange e l q _ listed (powRerange.trans rerange)
      exact ⟨ended, st.trans notedSt⟩
  · refine actsIf_act (execRangingWindowMissed_eq e l s)
      (fun t h => keep_execRangingWindowMissed e l s ((execRangingWindowMissed_eq e l s).trans h)) (mask_sub rfl) fun _ => ?_
    refine ⟨fun st row => ?_, fun st row => ?_, fun st rerange ded wide => ?_, fun st wide => ?_, fun st => ?_, fun st => ?_⟩
    · rw [windowMissed_assigned st row, getLeaf_setLeaf, if_pos rfl]
    · rw [windowMissed_fourth st row]
      exact getLeaf_depart_served e l _ _ _
    · rw [wide, Option.getD_some, windowMissed_wide st rerange ded, getLeaf_setLeaf, if_pos rfl]
    · rw [wide, Option.getD_some, windowMissed_narrow st]
      exact keep_modEng _ _ _ .leaves rfl
    · rw [windowMissed_other st]
      exact keep_modEng _ _ _ .leaves rfl
    · rw [getEng_windowMissed st, takeMissed, getEng_modEng, if_pos rfl]
  · refine actsIf_act (execBurstReportProcess_eq e sc s)
      (fun t h => keep_execBurstReportProcess e sc s ((execBurstReportProcess_eq e sc s).trans h)) (mask_sub rfl) fun _ => ?_
    have taken := keep_takeReport e (dataReport sc) s
    refine ⟨reports_takeData e sc s, fun q hq => ⟨fun ignored => ?_, fun valid kind leaf reg working => ?_,
      fun valid kind leaf reg paired standby => ?_⟩⟩
    · rw [takeData_ignores hq ignored]
      exact ⟨taken .leaves rfl, taken .aps rfl⟩
    · rw [takeData_notes hq valid kind leaf reg working]
      have noted := rtd_noteData e (takeReport e (dataReport sc) s).2 (Fin.ofNat 4096 q.r.leaf) q
      rw [zOf_congr (taken .boot rfl) (taken .regs rfl), eqdFor_takeReport, offsetHere_takeReport] at noted
      rwa [show ((Fin.ofNat 4096 q.r.leaf : LeafId) : Nat) = q.r.leaf from Nat.mod_eq_of_lt leaf] at noted
    · rw [takeData_standby hq valid kind leaf reg paired standby]
      refine ⟨(noteStandby_fields e e _ q).1.trans (taken .leaves rfl), fun good window => ?_, fun bad => ?_⟩
      · rw [noteStandby_good e _ good window, offsetHere_takeReport, takeReport_aps]
      · rw [noteStandby_bad e _ bad]
        exact taken .aps rfl

end Sys2Proof.Machine

end

section
/-! The packet path (R24, R31, R344 to R365, R402 to R408): reads of memory, the lookups, the reply with a context, and frames at the ports. -/

namespace Sys2Proof.Machine

-- One theorem after another: each theorem that waits for another holds a thread with its stack, and many do not fit a check.
set_option Elab.async false

/-! ## What a read of memory leaves of FLOW (R344, R468 to R471) -/

/-- FLOW's state is as before, but for the buckets known to be bad. -/
def FlowRead (s t : State) : Prop := ∃ l, t.flow = { s.flow with badBuckets := l }

theorem FlowRead.of_same {m : Nat} {s t : State} (h : Same m s t) (hm : m.testBit 22 = false := by rfl) : FlowRead s t :=
  ⟨s.flow.badBuckets, h .flow hm⟩

theorem FlowRead.trans {s t u : State} (h : FlowRead s t) (k : FlowRead t u) : FlowRead s u := by
  obtain ⟨l, h⟩ := h
  obtain ⟨l', k⟩ := k
  exact ⟨l', by rw [k, h]⟩

theorem memUncorr_flow (r word reader : Nat) (s : State) : (memUncorr r word reader s).flow =
    if r = 1 && ! (word ∈ s.flow.badBuckets) then { s.flow with badBuckets := s.flow.badBuckets ++ [word] } else s.flow := by
  unfold memUncorr
  dsimp only
  by_cases h : (decide (r = 1) && ! decide (word ∈ s.flow.badBuckets)) = true
  · simp only [h, if_true]
    exact (keep_raiseF _ _ _ _ _ _ _ _ .flow rfl).trans (keep_count _ _ _ _ _ .flow rfl)
  · simp only [h]
    exact (keep_raiseF _ _ _ _ _ _ _ _ .flow rfl).trans (keep_count _ _ _ _ _ .flow rfl)

theorem flowRead_memUncorr (r word reader : Nat) (s : State) : FlowRead s (memUncorr r word reader s) := by
  unfold FlowRead
  rw [memUncorr_flow]
  split
  · exact ⟨_, rfl⟩
  · exact ⟨s.flow.badBuckets, rfl⟩

theorem flowRead_memRead (r word reader : Nat) (s : State) : FlowRead s (memRead r word reader s).2 := by
  have access : FlowRead s (draw Config.freeNat (memAccess r word reader s)).2 :=
    .of_same (((keep_memAccess r word reader s).mono rfl : Same 603985922 _ _).trans ((keep_draw _ _).mono rfl))
  unfold memRead
  dsimp only
  split
  · exact access.trans (flowRead_memUncorr _ _ _ _)
  · split
    · exact access.trans (.of_same (keep_memCorr _ _ _ _))
    · exact access

theorem flowRead_findFlow (kt key : Nat) (s : State) : FlowRead s (findFlow kt key s).2 := by
  unfold findFlow
  exact (flowRead_memRead _ _ _ _).trans (flowRead_memRead _ _ _ _)

/-- What a lookup that followed a read asks of FLOW. -/
theorem FlowRead.fields {s t : State} (h : FlowRead s t) : t.flow.ctx = s.flow.ctx ∧ t.flow.fetch = s.flow.fetch ∧ t.flow.cache = s.flow.cache ∧
    t.flow.misses = s.flow.misses ∧ t.flow.ingress = s.flow.ingress ∧ t.flow.usClear = s.flow.usClear := by
  obtain ⟨l, h⟩ := h
  rw [h]
  exact ⟨rfl, rfl, rfl, rfl, rfl, rfl⟩

/-! ## A packet that hits a context, and one that hits none (R344, R352, R365) -/

/-- The first packet for a context that is not in the cache waits, and the context is asked for. -/
theorem visit_asks {f : Nat} {k : FlowPkt} {s t : State} (h : FlowRead s t) (fetch : tget [] s.flow.fetch f = []) (valid : flowValid (getFlow s f) = true)
    (poison : (getFlow s f).poison = false) (miss : cached s f = false) :
    let u := visit maxVisits f k 0 t
    tget [] u.flow.fetch f = [(k, 0)] ∧ u.flow.misses = s.flow.misses + 1 ∧ u.flow.ingress = s.flow.ingress ∧ u.flow.usClear = s.flow.usClear ∧
      u.flow.ctx = s.flow.ctx := by
  obtain ⟨ctx, hfetch, cache, misses, ingress, usClear⟩ := h.fields
  rw [← hfetch] at fetch
  have hflow : getFlow t f = getFlow s f := by rw [getFlow, ctx, getFlow]
  rw [← hflow] at valid poison
  have hmiss : cached t f = false := by rw [cached, cache, ← cached, miss]
  simp [maxVisits, visit, fetch, valid, poison, hmiss, askContext, noteLookup, b01, ctx, misses, ingress, usClear]

/-- A packet without a flow: its counter, the record of the second, and the flag. -/
theorem noFlow_counts {obj : Nat} {cnt : State → State} (s : State) (h : Same 536870912 s (cnt s)) :
    (noFlow obj cnt s).tally = (perSecond .flow 0x0901 obj 1 (cnt s)).tally ∧ flagged .flowFlags .A 0 s (noFlow obj cnt s) ∧
      (noFlow obj cnt s).flow = s.flow := by
  unfold noFlow
  have after := keep_perSecond .flow 0x0901 obj 1 (setFlag .flowFlags .A 0 (cnt s))
  refine ⟨?_, ?_, ?_⟩
  · simp [perSecond]
  · rw [flagged_congr (after .flags rfl) (after .rsc rfl)]
    exact flagged_setFlag' (congrArg Boot.paired (h .boot rfl)) (h .flags rfl) (h .rsc rfl) (by decide)
  · exact (after .flow rfl).trans ((keep_setFlag _ _ _ _ .flow rfl).trans (h .flow rfl))

/-! ## A context that arrives (R24, R350, R352, R353, R470) -/

theorem poisoned_bgtYield (s : State) : (bgtYield s).mem.poisoned = s.mem.poisoned := by
  unfold bgtYield
  split
  · rfl
  · simp

theorem poisoned_ctxWordRead (f k : Nat) (s : State) : (ctxWordRead f k s).mem.poisoned = s.mem.poisoned := by
  have access : (memAccess 8 (4 * f + k) rdPort0 s).mem.poisoned = s.mem.poisoned := by
    simp only [memAccess, when, Nat.lt_irrefl, if_false, count_fields]
    split
    · exact (congrArg MemSt.poisoned (keep_draw _ _ .mem rfl)).trans (poisoned_bgtYield s)
    · exact congrArg MemSt.poisoned (keep_draw _ _ .mem rfl)
  unfold ctxWordRead
  dsimp only
  have drawn := (congrArg MemSt.poisoned (keep_draw Config.freeBool (memAccess 8 (4 * f + k) rdPort0 s) .mem rfl)).trans access
  split
  · exact (congrArg MemSt.poisoned (keep_memCorr _ _ _ _ .mem rfl)).trans drawn
  · exact drawn

/-- The four words of a context were read. -/
def wordsRead (f : Nat) (s : State) : State := forAll (List.range 4) (ctxWordRead f) s

theorem keep_wordsRead (f : Nat) (s : State) : Same 603985922 s (wordsRead f s) := same_forAll.go (keep_ctxWordRead f) _ s

theorem poisoned_wordsRead (f : Nat) (s : State) : (wordsRead f s).mem.poisoned = s.mem.poisoned := by
  simp only [wordsRead, forAll, List.range, List.range.loop, List.foldl_cons, List.foldl_nil, poisoned_ctxWordRead]

theorem ctxPoisoned_wordsRead (f : Nat) (s : State) : ctxPoisoned (wordsRead f s) f = ctxPoisoned s f := by
  have flow : (wordsRead f s).flow = s.flow := keep_wordsRead f s .flow rfl
  simp only [ctxPoisoned, cached, poisoned_wordsRead, flow]

/-- The word found bad is one of the context's four. -/
theorem badCtxWord_div (f : Nat) (s : State) : (badCtxWord f s).1 / 4 = f := by
  unfold badCtxWord
  split
  · next p hp =>
    have := List.find?_some hp
    simp only [Bool.and_eq_true, decide_eq_true_eq] at this
    exact this.2
  · show (4 * f + _ % 4) / 4 = f
    omega

/-! What an uncorrectable word leaves. -/

section
variable (word : Nat) (s : State)

theorem memUncorr_mem (r reader : Nat) : (memUncorr r word reader s).mem = { s.mem with
    eccRegion := r, eccAddr := word
    poisoned := if (r, word) ∈ s.mem.poisoned then s.mem.poisoned else (r, word) :: s.mem.poisoned } := by
  unfold memUncorr
  dsimp only
  rw [keep_raiseF _ _ _ _ _ _ _ _ .mem rfl, keep_count _ _ _ _ _ .mem rfl]
  split <;> rfl

theorem memUncorr_knownBad (r reader : Nat) : (r, word) ∈ (memUncorr r word reader s).mem.poisoned := by
  rw [memUncorr_mem]
  dsimp only
  split
  · assumption
  · exact List.mem_cons_self ..

theorem memUncorr_logged : logged .dmem 0x0C02 (memObj 8 word) (packData [(8, 0)]) s (memUncorr 8 word rdPort0 s) := by
  intro room
  refine ⟨[], ?_⟩
  simp [memUncorr, memIsle, rdPort0, raiseF, room]

end

/-! What a packet that meets a poisoned context leaves. -/

section
variable {u s : State} (hs : Same 4194304 u s) (f : Nat) (k : FlowPkt)

/-- The packet's own counter. -/
def poisonCount (k : FlowPkt) (s : State) : State :=
  match k with
  | .ds p _ => count 14 p 3 1 s
  | .us e c _ => countCtr 15 e c 2 1 s

theorem keep_poisonCount (s : State) : Same 536870912 s (poisonCount k s) := by
  cases k with
  | ds p b => exact keep_count _ _ _ _ _
  | us e c b => exact keep_countCtr _ _ _ _ _ _

theorem dropPoison_eq (s : State) : dropPoison f k s =
    setFlag .flowFlags .A 2 (oncePerSec 0x0903 f (raise .flow 0x0903 f 0) (poisonCount k s)) := by
  cases k <;> rfl

theorem keep_poisonRecord (s : State) : Same 49152 s (oncePerSec 0x0903 f (raise .flow 0x0903 f 0) s) :=
  (same_oncePerSec rfl fun v => (keep_raise .flow 0x0903 f 0 v).mono rfl).mpr ((same_refl _ s).mpr trivial)

theorem dropPoison_tally (s : State) : (dropPoison f k s).tally = (poisonCount k s).tally := by
  rw [dropPoison_eq]
  exact (keep_setFlag _ _ _ _ .tally rfl).trans (keep_poisonRecord f _ .tally rfl)

include hs in
theorem dropPoison_flagged : flagged .flowFlags .A 2 u (dropPoison f k s) := by
  have before := ((hs.mono rfl : Same 541114368 u s).trans ((keep_poisonCount k s).mono rfl)).trans ((keep_poisonRecord f (poisonCount k s)).mono rfl)
  rw [dropPoison_eq]
  exact flagged_setFlag' (congrArg Boot.paired (before .boot rfl)) (before .flags rfl) (before .rsc rfl) (by decide)

include hs in
theorem dropPoison_recorded (new : (0x0903, f) ∉ u.seenSec) : recorded .flow 0x0903 f 0 u (dropPoison f k s) := by
  have counted := (hs.mono rfl : Same 541065216 u s).trans ((keep_poisonCount k s).mono rfl)
  rw [dropPoison_eq, oncePerSec_new (by rw [counted .seenSec rfl]; exact new)]
  refine recorded_raise (u := { poisonCount k s with seenSec := (0x0903, f) :: (poisonCount k s).seenSec }) (fun j => ?_) (counted .clk rfl) fun j => ?_
  · have isl : getIsl (poisonCount k s) j = getIsl u j := getIsl_congr (counted .isls rfl) j
    exact ⟨congrArg IslSt.fifo isl, congrArg IslSt.seq isl, congrArg IslSt.lost isl⟩
  · rw [getIsl_congr (keep_setFlag _ _ _ _ .isls rfl)]
    exact ⟨rfl, rfl, rfl⟩

theorem getIsl_dropPoison (s : State) {j : Isl} (h : j ≠ .flow) : getIsl (dropPoison f k s) j = getIsl s j := by
  rw [dropPoison_eq, getIsl_congr (keep_setFlag _ _ _ _ .isls rfl), ← getIsl_congr (keep_poisonCount k s .isls rfl) j]
  unfold oncePerSec
  split
  · rfl
  · rw [getIsl_raise, if_neg h]
    rfl

end

theorem getIsl_dropsPoison (f : Nat) {j : Isl} (h : j ≠ .flow) : ∀ (l : List (FlowPkt × Nat)) (s : State),
    getIsl (forAll l (fun p => dropPoison f p.1) s) j = getIsl s j
  | [], _ => rfl
  | p :: l, s => (getIsl_dropsPoison f h l (dropPoison f p.1 s)).trans (getIsl_dropPoison f p.1 s h)

/-- The count of a container, in states that hold the same tree. -/
theorem countCtr_tally {t s : State} (tally : t.tally = s.tally) (boot : t.boot = s.boot) (aps : t.aps = s.aps) (k : Nat) (e : Eng) (c i n : Nat) :
    (countCtr k e c i n t).tally = (countCtr k e c i n s).tally := by
  unfold countCtr
  rw [countsTree_congr boot aps]
  split
  · rw [ctrObj, ctrKey_congr boot, ← ctrObj]
    exact count_tally tally _ _ _ _
  · exact tally

/-! ## The reply with a context -/

/-- The request a reply answers leaves its list. -/
def takeReply (f : Nat) (s : State) : State := { s with flow := { s.flow with reqs := tset [] s.flow.reqs f ((tget [] s.flow.reqs f).drop 1) } }

/-- A context that arrives: `s` is the state once the reply was taken. -/
def contextArrives (f : Nat) (poison : Bool) (s : State) : State :=
  let w := tget [] s.flow.fetch f
  let s := wordsRead f { s with flow := { s.flow with fetch := tset [] s.flow.fetch f [] } }
  if poison || ctxPoisoned s f then
    let b := badCtxWord f s
    forAll w (fun p => dropPoison f p.1) (modFlow f (fun x => { x with poison := true }) (memUncorr 8 b.1 rdPort0 b.2))
  else
    forAll w (fun p t =>
      let t := processPkt f p.1 t
      let x := getFlow t f
      if flowRepl x && p.2 + 1 < maxVisits then visit maxVisits (flowNext x) p.1 (p.2 + 1) (takePkt t) else t) (touch f s)

/-- A reply is stale, or its context arrives. -/
def contextReply (f : Nat) (poison : Bool) (s : State) : State :=
  if ! islRuns s .flow || ((tget [] s.flow.reqs f).take 1).any (fun r => replyStale s r) then staleContext f (takeReply f s)
  else contextArrives f poison (takeReply f s)

theorem execContextFetchDone_eq (f : FlowIx) (poison : Bool) (s : State) : execContextFetchDone f poison s =
    act (s.pwr.run = .ready && s.pwr.emerg = .none && tget [] s.flow.reqs f.val ≠ []) (contextReply f.val poison) s := rfl

section
variable {f : Nat} {poison : Bool} {s : State} {r : BridgeReq} {rest : List BridgeReq} (hr : tget [] s.flow.reqs f = r :: rest)
include hr

theorem contextReply_stale (h : islRuns s .flow = false ∨ replyStale s r = true) : contextReply f poison s = staleContext f (takeReply f s) := by
  rcases h with h | h <;> simp [contextReply, hr, h]

theorem contextReply_arrives (runs : islRuns s .flow = true) (fresh : replyStale s r = false) :
    contextReply f poison s = contextArrives f poison (takeReply f s) := by
  simp [contextReply, hr, runs, fresh]

end

/-- A stale reply leaves the contexts, the packets that wait and the cache, and is counted. -/
theorem staleContext_fields (f : Nat) (s : State) : (staleContext f s).flow.ctx = s.flow.ctx ∧ (staleContext f s).flow.fetch = s.flow.fetch ∧
    (staleContext f s).flow.cache = s.flow.cache ∧ (getIsl (staleContext f s) .flow).stale = min (2 ^ 32 - 1) ((getIsl s .flow).stale + 1) := by
  have flow : (staleReplies .flow 1 s).flow = s.flow := keep_staleReplies .flow 1 s .flow rfl
  have stale := stale_staleReplies .flow .flow 1 s
  rw [if_pos ⟨rfl, by decide⟩] at stale
  unfold staleContext
  dsimp only
  split
  · rw [show getIsl (askContext f _) _ = _ from getIsl_congr (keep_askContext f _ .isls rfl) .flow]
    refine ⟨?_, ?_, ?_, stale⟩ <;> simp only [askContext, flow]
  · exact ⟨congrArg FlowSt.ctx flow, congrArg FlowSt.fetch flow, congrArg FlowSt.cache flow, stale⟩

/-- The context marked as poisoned, before its packets are dropped. -/
def markPoisoned (f : Nat) (s : State) : State := modFlow f (fun x => { x with poison := true }) s

theorem contextArrives_poisoned {f : Nat} {poison : Bool} {s v : State} (h : (poison || ctxPoisoned s f) = true)
    (hv : v = wordsRead f { s with flow := { s.flow with fetch := tset [] s.flow.fetch f [] } }) : contextArrives f poison s =
    forAll (tget [] s.flow.fetch f) (fun p => dropPoison f p.1) (markPoisoned f (memUncorr 8 (badCtxWord f v).1 rdPort0 (badCtxWord f v).2)) := by
  have hp : (poison || ctxPoisoned v f) = true := by rw [hv, ctxPoisoned_wordsRead]; exact h
  unfold contextArrives
  dsimp only
  rw [← hv, if_pos hp]
  rfl

/-- What dropping its packets leaves. -/
theorem keep_dropsPoison (f : Nat) (l : List (FlowPkt × Nat)) (u : State) : Same 536926208 u (forAll l (fun p => dropPoison f p.1) u) :=
  same_forAll.go (fun (p : FlowPkt × Nat) t => keep_dropPoison f p.1 t) l u

/-! A poisoned context: `s` is the state once the reply was taken, `v` once its words were read, `u` once the bad one was remembered. -/

section
variable {f : Nat} {poison : Bool} {s v u : State} (hv : v = wordsRead f { s with flow := { s.flow with fetch := tset [] s.flow.fetch f [] } })
  (hu : u = memUncorr 8 (badCtxWord f v).1 rdPort0 (badCtxWord f v).2)
include hv hu

theorem seenSec_badRemembered : u.seenSec = s.seenSec := by
  rw [hu, keep_memUncorr _ _ _ _ .seenSec rfl, keep_badCtxWord f v .seenSec rfl, hv]
  exact keep_wordsRead f _ .seenSec rfl

variable (bad : (poison || ctxPoisoned s f) = true)
include bad

theorem contextArrives_marks : contextArrives f poison s = forAll (tget [] s.flow.fetch f) (fun p => dropPoison f p.1) (markPoisoned f u) := by
  rw [contextArrives_poisoned bad hv, hu]

theorem flow_contextArrives : (contextArrives f poison s).flow =
    { s.flow with fetch := tset [] s.flow.fetch f [], ctx := tset {} s.flow.ctx f { getFlow s f with poison := true } } := by
  have word : (badCtxWord f v).2.flow = v.flow := keep_badCtxWord f v .flow rfl
  have words : v.flow = { s.flow with fetch := tset [] s.flow.fetch f [] } := by
    rw [hv]
    exact keep_wordsRead f _ .flow rfl
  have uncorr : u.flow = { s.flow with fetch := tset [] s.flow.fetch f [] } := by
    rw [hu, memUncorr_flow]
    exact word.trans words
  rw [contextArrives_marks hv hu bad, keep_dropsPoison f _ _ .flow rfl]
  simp only [markPoisoned, modFlow, setFlow, getFlow, uncorr]

theorem mem_contextArrives : (contextArrives f poison s).mem = u.mem := by
  rw [contextArrives_marks hv hu bad]
  exact keep_dropsPoison f _ _ .mem rfl

theorem logged_contextArrives : logged .dmem 0x0C02 (memObj 8 (badCtxWord f v).1) (packData [(8, 0)]) v (contextArrives f poison s) := by
  have word := keep_badCtxWord f v
  have isl : getIsl (badCtxWord f v).2 .dmem = getIsl v .dmem := getIsl_congr (word .isls rfl) .dmem
  have clk : (badCtxWord f v).2.clk = v.clk := word .clk rfl
  have record := memUncorr_logged (badCtxWord f v).1 (badCtxWord f v).2
  unfold logged at record ⊢
  rw [isl, clk, ← hu] at record
  rwa [contextArrives_marks hv hu bad, getIsl_dropsPoison f (by decide), show getIsl (markPoisoned f u) .dmem = getIsl u .dmem from rfl]

/-- The only packet that waited for a poisoned context. -/
theorem contextArrives_one {k : FlowPkt} {n : Nat} (one : tget [] s.flow.fetch f = [(k, n)]) :
    flagged .flowFlags .A 2 u (contextArrives f poison s) ∧
      ((0x0903, f) ∉ u.seenSec → recorded .flow 0x0903 f 0 u (contextArrives f poison s)) ∧
      (contextArrives f poison s).tally = (poisonCount k u).tally := by
  have marked : Same 4194304 u (markPoisoned f u) := keep_modFlow _ _ _
  rw [contextArrives_marks hv hu bad, one]
  refine ⟨dropPoison_flagged marked f k, dropPoison_recorded marked f k, (dropPoison_tally f k _).trans ?_⟩
  cases k with
  | ds p b => exact count_tally (marked .tally rfl) _ _ _ _
  | us e c b => exact countCtr_tally (marked .tally rfl) (marked .boot rfl) (marked .aps rfl) _ _ _ _ _

end

/-! ## A downstream packet is looked up (R344, R361, R365) -/

/-- The lookup of a packet that left the ingress queue. -/
def lookupPacket (k : InPkt) (s : State) : State :=
  if k.bytes.length + 4 < 64 then count 14 k.port 1 1 s
  else if beAt k.bytes 12 2 = ptpType then
    if s.tod.ptpOn && s.tod.ptpPort = k.port then s else count 14 k.port 2 1 s
  else
    let w := getReg s .flowPort .A k.port
    let kt := fld w 3 0
    let def? := if w.getLsbD 31 && flowValid (getFlow s (fld w 27 8)) then some (fld w 27 8) else none
    let hit := findFlow kt (dsKey kt k.port k.bytes) s
    match hit.1.orElse (fun _ => def?) with
    | some f => visit maxVisits f (.ds k.port k.bytes) 0 hit.2
    | none => noFlow k.port (count 14 k.port 0 1) hit.2

/-- The ingress queue without its head. -/
def tookIngress (rest : List InPkt) (s : State) : State := { s with flow := { s.flow with ingress := rest } }

/-- The next packet is taken and looked up. -/
def takePacket (s : State) : State :=
  match s.flow.ingress with
  | [] => s
  | k :: rest => lookupPacket k (tookIngress rest s)

theorem execDsPacketLookup_eq (s : State) : execDsPacketLookup s =
    act (flowTakes s && s.flow.ingress ≠ [] && s.flow.fetch.length < maxMisses) takePacket s := rfl

section
variable {k : InPkt} {s : State}

theorem lookupPacket_runt (h : k.bytes.length < 60) : lookupPacket k s = count 14 k.port 1 1 s := if_pos (by omega)

theorem lookupPacket_ptp (len : 60 ≤ k.bytes.length) (type : beAt k.bytes 12 2 = 0x88F7) :
    lookupPacket k s = if s.tod.ptpOn && s.tod.ptpPort = k.port then s else count 14 k.port 2 1 s := by
  unfold lookupPacket
  rw [if_neg (by omega), if_pos (by exact type)]

/-- What the key of a packet finds. -/
def packetHit (k : InPkt) (s : State) : Option Nat × State :=
  findFlow (fld (getReg s .flowPort .A k.port) 3 0) (dsKey (fld (getReg s .flowPort .A k.port) 3 0) k.port k.bytes) s

theorem lookupPacket_noFlow (len : 60 ≤ k.bytes.length) (type : beAt k.bytes 12 2 ≠ 0x88F7) (miss : (packetHit k s).1 = none)
    (noDefault : (getReg s .flowPort .A k.port).getLsbD 31 = false) :
    lookupPacket k s = noFlow k.port (count 14 k.port 0 1) (packetHit k s).2 := by
  unfold packetHit at miss ⊢
  rw [BitVec.getLsbD_eq_getElem (by decide)] at noDefault
  simp [lookupPacket, if_neg (by omega : ¬ k.bytes.length + 4 < 64), ptpType, type, miss, noDefault]

theorem lookupPacket_hit {f : Nat} (len : 60 ≤ k.bytes.length) (type : beAt k.bytes 12 2 ≠ 0x88F7) (hit : (packetHit k s).1 = some f) :
    lookupPacket k s = visit maxVisits f (.ds k.port k.bytes) 0 (packetHit k s).2 := by
  unfold packetHit at hit ⊢
  simp [lookupPacket, if_neg (by omega : ¬ k.bytes.length + 4 < 64), ptpType, type, hit]

end

theorem takePacket_cons {k : InPkt} {rest : List InPkt} {s : State} (h : s.flow.ingress = k :: rest) :
    takePacket s = lookupPacket k (tookIngress rest s) := by
  simp only [takePacket, h]

/-! ## An upstream unit is looked up (R31, R344, R365) -/

/-- What the keys of a unit find: CID_V where the packet has an outer tag, and then CID. -/
def unitHit (e : Eng) (c : Nat) (u : UsUnit) (s : State) : Option Nat × State :=
  let v := if outerTag u.body then findFlow 9 (usKeyV e c u.body) s else (none, s)
  if v.1.isSome then v else findFlow 8 (usKey e c) v.2

theorem flowRead_unitHit (e : Eng) (c : Nat) (u : UsUnit) (s : State) : FlowRead s (unitHit e c u s).2 := by
  unfold unitHit
  extract_lets v
  have first : FlowRead s v.2 := by
    unfold v
    split
    · exact flowRead_findFlow _ _ s
    · exact ⟨s.flow.badBuckets, rfl⟩
  clear_value v
  split
  · exact first
  · exact first.trans (flowRead_findFlow _ _ _)

/-- The lookup of a unit that left the queue of units in clear. -/
def lookupUnit (u : UsUnit) (s : State) : State :=
  let w := fld u.header 95 64
  let c := unitCid w
  let e := treeOf s u.eng
  if unitKind w = 1 then s
  else if overRate s then countCtr 15 u.eng c 3 1 s
  else if u.body.length < 60 || 9596 < u.body.length then countCtr 15 u.eng c 1 1 (takePkt s)
  else
    let hit := unitHit e c u (takePkt s)
    match hit.1 with
    | some f => visit maxVisits f (.us u.eng c u.body) 0 hit.2
    | none => noFlow (noFlowCtr e c) (countCtr 15 u.eng c 0 1) hit.2

/-- The queue of units in clear without its head. -/
def tookUnit (rest : List UsUnit) (s : State) : State := { s with flow := { s.flow with usClear := rest } }

/-- The next unit is taken and looked up. -/
def takeUnit (s : State) : State :=
  match s.flow.usClear with
  | [] => s
  | u :: rest => lookupUnit u (tookUnit rest s)

theorem execUsUnitLookup_eq (s : State) : execUsUnitLookup s =
    act (flowTakes s && s.flow.usClear ≠ [] && s.flow.fetch.length < maxMisses) takeUnit s := rfl

section
variable {u : UsUnit} {s : State}

theorem lookupUnit_management (h : unitKind (fld u.header 95 64) = 1) : lookupUnit u s = s := if_pos h

theorem lookupUnit_overRate (kind : unitKind (fld u.header 95 64) ≠ 1) (rate : overRate s = true) :
    lookupUnit u s = countCtr 15 u.eng (unitCid (fld u.header 95 64)) 3 1 s := by
  simp [lookupUnit, kind, rate]

theorem lookupUnit_length (kind : unitKind (fld u.header 95 64) ≠ 1) (rate : overRate s = false) (h : u.body.length < 60 ∨ 9596 < u.body.length) :
    lookupUnit u s = countCtr 15 u.eng (unitCid (fld u.header 95 64)) 1 1 (takePkt s) := by
  rcases h with h | h <;> simp [lookupUnit, kind, rate, h]

section
variable (kind : unitKind (fld u.header 95 64) ≠ 1) (rate : overRate s = false) (short : 60 ≤ u.body.length) (long : u.body.length ≤ 9596)
include kind rate short long

theorem lookupUnit_noFlow (miss : (unitHit (treeOf s u.eng) (unitCid (fld u.header 95 64)) u (takePkt s)).1 = none) :
    lookupUnit u s = noFlow (noFlowCtr (treeOf s u.eng) (unitCid (fld u.header 95 64))) (countCtr 15 u.eng (unitCid (fld u.header 95 64)) 0 1)
      (unitHit (treeOf s u.eng) (unitCid (fld u.header 95 64)) u (takePkt s)).2 := by
  simp [lookupUnit, kind, rate, Nat.not_lt.mpr short, Nat.not_lt.mpr long, miss]

theorem lookupUnit_hit {f : Nat} (hit : (unitHit (treeOf s u.eng) (unitCid (fld u.header 95 64)) u (takePkt s)).1 = some f) :
    lookupUnit u s = visit maxVisits f (.us u.eng (unitCid (fld u.header 95 64)) u.body) 0
      (unitHit (treeOf s u.eng) (unitCid (fld u.header 95 64)) u (takePkt s)).2 := by
  simp [lookupUnit, kind, rate, Nat.not_lt.mpr short, Nat.not_lt.mpr long, hit]

end

end

theorem takeUnit_cons {u : UsUnit} {rest : List UsUnit} {s : State} (h : s.flow.usClear = u :: rest) :
    takeUnit s = lookupUnit u (tookUnit rest s) := by
  simp only [takeUnit, h]

/-! ## A frame at a client port (R31, R399, R402, R404, R406, R408) -/

/-- What follows once the lanes have received a frame: `was` is the state before it. -/
def frameTaken (p : Nat) (fr : RxFrame) (was s : State) : State :=
  if syncLost p was s then
    let t := count 17 p 5 1 s
    if (getPort t p).st = .up then retrain p (leaveUp p (some 2) t) else t
  else if fr.aborted then count 17 p 5 1 s
  else if portMtu s p < fr.bytes.length + 4 then count 17 p 3 1 s
  else if ! fr.crcOk || nrzErrors was p fr || (getPort s p).hiSer then count 17 p 2 1 s
  else if beAt fr.bytes 12 2 = macControl then count 17 p 4 1 s
  else
    match dpFence s .flow with
    | .run => passFrame p fr.bytes s
    | .quiesce =>
      let d := draw Config.freeBool s
      if d.1 then { d.2 with cln := { d.2.cln with buf := d.2.cln.buf ++ [⟨p, fr.bytes⟩] } } else count 17 p 6 1 d.2
    | .drain | .fenced | .reset | .resume => count 17 p 6 1 s

/-- A frame meets a looped lane, or is received. -/
def receiveFrame (p : Nat) (fr : RxFrame) (s : State) : State :=
  if loopLanes s p ≠ [] && ! fr.aborted then loopFrame p fr s else frameTaken p fr s (takeFrame p fr s)

theorem execClientFrameReceived_eq (p : PortIx) (fr : RxFrame) (s : State) : execClientFrameReceived p fr s =
    act (rxRuns s && ((getPort s p.val).st = .up || loopLanes s p.val ≠ [] || fr.aborted)) (receiveFrame p.val fr) s := rfl

/-! At a looped lane. -/

/-- One lane of `loopFrame`. -/
def loopLane (p : Nat) (fr : RxFrame) (s : State) (k : Nat) (t : State) : State :=
  if laneLoop t k ≠ 3 || elecIdle t k then t
  else if lanePam t k then
    modLane k (fun x => { x with out := (Config.pcsIndexes (portType s p) k fr.bytes s.free).map pam4Level }) t
  else modLane k (fun x => { x with test := fr.bits }) t

theorem loopFrame_eq (p : Nat) (fr : RxFrame) (s : State) :
    loopFrame p fr s = forAll (loopLanes s p) (loopLane p fr s) { s with free := s.free + 1 } := rfl

theorem ports_forAll {α : Type} {f : α → State → State} (hf : ∀ a u, (f a u).cln.ports = u.cln.ports) :
    ∀ (l : List α) (s : State), (forAll l f s).cln.ports = s.cln.ports
  | [], _ => rfl
  | a :: l, s => (ports_forAll hf l (f a s)).trans (hf a s)

theorem ports_modLanes {g : Nat → Nat} {f : Nat → LaneSt → LaneSt} (l : List Nat) (s : State) :
    (forAll l (fun k => modLane (g k) (f k)) s).cln.ports = s.cln.ports :=
  ports_forAll (f := fun k => modLane (g k) (f k)) (fun _ _ => rfl) l s

section
variable (p : Nat) (fr : RxFrame) (s : State)

theorem ports_loopLane (k : Nat) (t : State) : (loopLane p fr s k t).cln.ports = t.cln.ports := by
  unfold loopLane
  split
  · rfl
  · split <;> rfl

theorem regs_loopLane (k : Nat) (t : State) : (loopLane p fr s k t).regs = t.regs := by
  unfold loopLane
  split
  · rfl
  · split <;> rfl

theorem ports_loopFrame : (loopFrame p fr s).cln.ports = s.cln.ports := by
  rw [loopFrame_eq]
  exact ports_forAll (ports_loopLane p fr s) _ _

/-- A lane that is not in loop 3, and any lane but the one that meets the symbols. -/
theorem getLane_loopLane {j k : Nat} {t : State} (h : laneLoop t j ≠ 3 ∨ j ≠ k) : getLane (loopLane p fr s k t) j = getLane t j := by
  unfold loopLane
  split
  · rfl
  · next looped =>
    have other : j ≠ k := fun e => by
      subst e
      simp only [Bool.or_eq_true, decide_eq_true_eq, not_or, not_not] at looped
      rcases h with h | h
      · exact h looped.1
      · exact h rfl
    split <;> simp [other]

theorem getLane_loopLanes {j : Nat} : ∀ (l : List Nat) (t : State), (laneLoop t j ≠ 3 ∨ j ∉ l) →
    getLane (forAll l (loopLane p fr s) t) j = getLane t j
  | [], _, _ => rfl
  | k :: l, t, h => by
    have regs : laneLoop (loopLane p fr s k t) j = laneLoop t j := regF_congr (regs_loopLane p fr s k t) _ _ _ _ _
    have tail : laneLoop (loopLane p fr s k t) j ≠ 3 ∨ j ∉ l := by
      rw [regs]
      exact h.imp_right fun m n => m (List.mem_cons_of_mem k n)
    exact (getLane_loopLanes l _ tail).trans (getLane_loopLane p fr s (h.imp_right fun m e => m (e ▸ List.mem_cons_self ..)))

end

/-! In the lanes of a port. -/

section
variable (p : Nat) (fr : RxFrame) (s : State)

theorem ports_takeFrame : (takeFrame p fr s).cln.ports = s.cln.ports := by
  unfold takeFrame
  split
  · exact ports_modLanes (g := id) _ _
  · unfold takeNrz
    split
    · rfl
    · simp [modLane, setLane]

theorem getPort_takeFrame (k : Nat) : getPort (takeFrame p fr s) k = getPort s k := by
  rw [getPort, ports_takeFrame, ← getPort]

theorem portMtu_takeFrame : portMtu (takeFrame p fr s) p = portMtu s p := regF_congr (keep_takeFrame p fr s .regs rfl) _ _ _ _ _

theorem overRate_takeFrame : overRate (takeFrame p fr s) = overRate s := by
  rw [overRate, rateBound, getIsl_congr (keep_takeFrame p fr s .isls rfl), keep_takeFrame p fr s .flow rfl, ← rateBound, ← overRate]

theorem trains_congr {t : State} (regs : t.regs = s.regs) : trains t p = trains s p := by
  rw [trains, portPam4, grpMode, portReg, regF_congr regs, getReg_congr regs, ← portReg, ← grpMode, ← portPam4, ← trains]

/-- A port that lost its synchronisation trains again, or aligns. -/
theorem st_retrain : (getPort (retrain p s) p).st = if trains s p then .training else .align := by
  unfold retrain
  split
  · simp
  · dsimp only
    rw [getPort, ports_modLanes, ← getPort, enterAlign]
    simp

/-- A frame in which synchronisation is lost (R406). -/
theorem frameTaken_lost {v : State} (lost : syncLost p s v = true) : (frameTaken p fr s v).flow = v.flow ∧
    ((getPort v p).st = .up → (getPort (frameTaken p fr s v) p).st = if trains v p then .training else .align) ∧
    ((getPort v p).st ≠ .up → frameTaken p fr s v = count 17 p 5 1 v) := by
  have counting := keep_count 17 p 5 1 v
  have port : getPort (count 17 p 5 1 v) p = getPort v p := getPort_congr (counting .cln rfl) p
  unfold frameTaken
  rw [if_pos lost]
  dsimp only
  rw [port]
  refine ⟨?_, fun up => ?_, fun down => if_neg down⟩
  · split
    · exact (keep_retrain _ _ .flow rfl).trans ((keep_leaveUp _ _ _ .flow rfl).trans (counting .flow rfl))
    · exact counting .flow rfl
  · rw [if_pos up, st_retrain]
    rw [trains_congr p v ((keep_leaveUp _ _ _ .regs rfl).trans (counting .regs rfl))]

end

/-! A frame that keeps its synchronisation: the first case that applies. -/

section
variable {p : Nat} {fr : RxFrame} {s v : State} (kept : syncLost p s v = false)
include kept

theorem frameTaken_aborted (h : fr.aborted = true) : frameTaken p fr s v = count 17 p 5 1 v := by
  simp [frameTaken, kept, h]

section
variable (whole : fr.aborted = false)
include whole

theorem frameTaken_long (h : portMtu v p < fr.bytes.length + 4) : frameTaken p fr s v = count 17 p 3 1 v := by
  simp [frameTaken, kept, whole, h]

variable (fits : fr.bytes.length + 4 ≤ portMtu v p)
include fits

theorem frameTaken_bad (h : (! fr.crcOk || nrzErrors s p fr || (getPort v p).hiSer) = true) : frameTaken p fr s v = count 17 p 2 1 v := by
  simp only [frameTaken, kept, whole, Nat.not_lt.mpr fits, h, if_true, if_false, Bool.false_eq_true]

variable (good : (! fr.crcOk || nrzErrors s p fr || (getPort v p).hiSer) = false)
include good

theorem frameTaken_pause (h : beAt fr.bytes 12 2 = 0x8808) : frameTaken p fr s v = count 17 p 4 1 v := by
  simp only [frameTaken, kept, whole, Nat.not_lt.mpr fits, good, macControl, h, if_true, if_false, Bool.false_eq_true]

theorem frameTaken_passes (type : beAt fr.bytes 12 2 ≠ 0x8808) (run : dpFence v .flow = .run) : frameTaken p fr s v = passFrame p fr.bytes v := by
  simp only [frameTaken, kept, whole, Nat.not_lt.mpr fits, good, macControl, type, run, if_false, Bool.false_eq_true]

theorem frameTaken_fenced (type : beAt fr.bytes 12 2 ≠ 0x8808)
    (h : dpFence v .flow = .drain ∨ dpFence v .flow = .fenced ∨ dpFence v .flow = .reset ∨ dpFence v .flow = .resume) :
    frameTaken p fr s v = count 17 p 6 1 v := by
  rcases h with h | h | h | h <;>
    simp only [frameTaken, kept, whole, Nat.not_lt.mpr fits, good, macControl, type, h, if_false, Bool.false_eq_true]

end

end

/-- A frame above the packet rate, and one that enters FLOW. -/
theorem passFrame_overRate {p : Nat} {b : List Byte} {s : State} (h : overRate s = true) : passFrame p b s = count 17 p 7 1 s := if_pos h

theorem passFrame_enters {p : Nat} {b : List Byte} {s : State} (h : overRate s = false) :
    (passFrame p b s).flow = { s.flow with ingress := s.flow.ingress ++ [⟨p, b⟩], pktUsed := s.flow.pktUsed + pktCost } ∧
      (passFrame p b s).tally = (count 17 p 1 (b.length + 4) (count 17 p 0 1 s)).tally := by
  unfold passFrame
  rw [h]
  refine ⟨(keep_count _ _ _ _ _ .flow rfl).trans (keep_count _ _ _ _ _ .flow rfl), ?_⟩
  exact count_tally (count_tally (by exact rfl) _ _ _ _) _ _ _ _

/-! ## A queued frame leaves (R403, R407) -/

/-- A frame at the head of a port's egress queue, taken from it. -/
def sendFrame (p f : Nat) (b : List Byte) (s : State) : State :=
  if (getPort s p).st = .up && beAt b 12 2 = macControl then s
  else if (getPort s p).st = .up then
    let s := driveLanes p (wireBytes b) s
    let s := count 17 p 9 (b.length + 4) (count 17 p 8 1 s)
    let l := tget [] s.cln.sent p
    { s with cln := { s.cln with sent := tset [] s.cln.sent p (⟨wireBytes b, minGap⟩ :: l) } }
  else modFlow f (fun x => { x with dropQfull := satAdd x.dropQfull 1 }) s

/-- A port's egress queue without its head. -/
def tookEgress (p : Nat) (rest : List EgPkt) (s : State) : State := { s with flow := { s.flow with egress := tset [] s.flow.egress p rest } }

/-- The head of a port's egress queue leaves it. -/
def transmitFrame (p : Nat) (s : State) : State :=
  match tget [] s.flow.egress p with
  | [] => s
  | ⟨f, _, b⟩ :: rest => sendFrame p f b (tookEgress p rest s)

theorem execClientFrameTransmit_eq (p : PortIx) (s : State) : execClientFrameTransmit p s =
    act (inService s && dpTakes s .flow && dpTakes s .cltx && dpServes s .clrx && ! ((getPort s p.val).st = .up && sendsRf s p.val))
      (transmitFrame p.val) s := rfl

section
variable {p f : Nat} {b : List Byte} {s : State}

theorem transmitFrame_nil (h : tget [] s.flow.egress p = []) : transmitFrame p s = s := by
  simp only [transmitFrame, h]

theorem transmitFrame_cons {y : Bool} {rest : List EgPkt} (h : tget [] s.flow.egress p = ⟨f, y, b⟩ :: rest) :
    transmitFrame p s = sendFrame p f b (tookEgress p rest s) := by
  simp only [transmitFrame, h]

theorem sendFrame_control (up : (getPort s p).st = .up) (h : beAt b 12 2 = 0x8808) : sendFrame p f b s = s := by
  simp [sendFrame, up, macControl, h]

theorem sent_driveLanes (w : List Byte) (s : State) : (driveLanes p w s).cln.sent = s.cln.sent := by
  unfold driveLanes
  split
  · exact go (lanesOf p (portReg s p)) _
  · rfl
where
  go {f : Nat → LaneSt → LaneSt} : ∀ (l : List Nat) (s : State), (forAll l (fun k => modLane k (f k)) s).cln.sent = s.cln.sent
    | [], _ => rfl
    | k :: l, s => go l (modLane k (f k) s)

theorem sendFrame_sends (up : (getPort s p).st = .up) (h : beAt b 12 2 ≠ 0x8808) :
    (sendFrame p f b s).flow = s.flow ∧
    (sendFrame p f b s).tally = (count 17 p 9 (b.length + 4) (count 17 p 8 1 s)).tally ∧
      tget [] (sendFrame p f b s).cln.sent p = ⟨wireBytes b, 12⟩ :: tget [] s.cln.sent p := by
  have driven := keep_driveLanes p (wireBytes b) s
  refine ⟨?_, ?_, ?_⟩ <;> simp only [sendFrame, up, macControl, h, decide_true, decide_false, Bool.and_false, Bool.false_eq_true, if_true, if_false]
  · exact (keep_count _ _ _ _ _ .flow rfl).trans ((keep_count _ _ _ _ _ .flow rfl).trans (driven .flow rfl))
  · exact count_tally (count_tally (driven .tally rfl) _ _ _ _) _ _ _ _
  · have counted (u : State) : (count 17 p 9 (b.length + 4) (count 17 p 8 1 u)).cln = u.cln :=
      (keep_count _ _ _ _ _ .cln rfl).trans (keep_count _ _ _ _ _ .cln rfl)
    rw [tget_tset_self, counted, sent_driveLanes]
    rfl

theorem egress_sendFrame : (sendFrame p f b s).flow.egress = s.flow.egress := by
  by_cases up : (getPort s p).st = .up
  · by_cases type : beAt b 12 2 = 0x8808
    · rw [sendFrame_control up type]
    · rw [(sendFrame_sends up type).1]
  · simp [sendFrame, up, modFlow, setFlow]

theorem sendFrame_drops (down : (getPort s p).st ≠ .up) :
    sendFrame p f b s = modFlow f (fun x => { x with dropQfull := satAdd x.dropQfull 1 }) s := by
  simp [sendFrame, down]

end

/-! ## The obligation -/

/-- The state in which the words of a context are read: its reply is taken, and no packet waits for it any more. -/
theorem takeReply_words {f : Nat} {s : State} {r : BridgeReq} {rest : List BridgeReq} (hr : tget [] s.flow.reqs f = r :: rest) :
    { takeReply f s with flow := { (takeReply f s).flow with fetch := tset [] (takeReply f s).flow.fetch f [] } } =
      { s with flow := { s.flow with reqs := tset [] s.flow.reqs f rest, fetch := tset [] s.flow.fetch f [] } } := by
  simp only [takeReply, hr, List.drop_succ_cons, List.drop_zero]

/-- Settles O41: what each event takes from its queue, and the named step that follows. -/
theorem flowLookup : Obligations.FlowLookup := by
  refine ⟨fun p fr s => ?_, fun s => ?_, fun f poison s => ?_, fun s => ?_, fun p s => ?_⟩
  · refine actsIf_act (execClientFrameReceived_eq p fr s)
      (fun t h => keep_execClientFrameReceived p fr s ((execClientFrameReceived_eq p fr s).trans h)) (mask_sub rfl) fun _ => ?_
    have taken := keep_takeFrame p.val fr s
    refine ⟨fun echo => ?_, fun echo lost => ?_, fun echo kept => ?_⟩
    · rw [receiveFrame, if_pos echo]
      have looped := keep_loopFrame p.val fr s
      exact ⟨looped .flow rfl, looped .tally rfl, ports_loopFrame _ _ _, fun k h => getLane_loopLanes _ _ _ _ _ h⟩
    · rw [receiveFrame, if_neg (by rw [echo]; exact Bool.false_ne_true)]
      obtain ⟨flow, up, down⟩ := frameTaken_lost p.val fr s lost
      rw [getPort_takeFrame, trains_congr _ _ (taken .regs rfl)] at up
      rw [getPort_takeFrame] at down
      exact ⟨flow.trans (taken .flow rfl), up, fun h => congrArg State.tally (down h)⟩
    · rw [receiveFrame, if_neg (by rw [echo]; exact Bool.false_ne_true)]
      have counts (i : Nat) : counted 17 p.val i 1 (takeFrame p.val fr s) (count 17 p.val i 1 (takeFrame p.val fr s)) ∧
          (count 17 p.val i 1 (takeFrame p.val fr s)).flow = s.flow :=
        ⟨rfl, (keep_count _ _ _ _ _ .flow rfl).trans (taken .flow rfl)⟩
      have port := getPort_takeFrame p.val fr s p.val
      have mtu := portMtu_takeFrame p.val fr s
      have fence : dpFence (takeFrame p.val fr s) .flow = dpFence s .flow := dpFence_congr (taken .isls rfl) .flow
      have rate := overRate_takeFrame p.val fr s
      rw [← port, ← mtu, ← fence, ← rate]
      refine ⟨fun aborted => ?_, fun whole long => ?_, fun whole bad => ?_, fun whole good pause => ?_, fun whole good type run rate => ?_,
        fun whole good type run rate => ?_, fun whole good type fenced => ?_⟩
      · rw [frameTaken_aborted kept aborted]
        exact counts 5
      · rw [frameTaken_long kept whole long]
        exact counts 3
      all_goals
        simp only [Bool.and_eq_true, Bool.not_eq_true', decide_eq_true_eq] at whole
        obtain ⟨whole, fits⟩ := whole
      · rw [frameTaken_bad kept whole fits bad]
        exact counts 2
      · rw [frameTaken_pause kept whole fits good pause]
        exact counts 4
      · rw [frameTaken_passes kept whole fits good type run, ← taken .flow rfl]
        exact passFrame_enters rate
      · rw [frameTaken_passes kept whole fits good type run, passFrame_overRate rate]
        exact counts 7
      · rw [frameTaken_fenced kept whole fits good type fenced]
        exact counts 6
  · refine actsIf_act (execDsPacketLookup_eq s) (fun t h => keep_execDsPacketLookup s ((execDsPacketLookup_eq s).trans h)) (mask_sub rfl)
      fun _ k rest hk => ?_
    rw [takePacket_cons hk]
    have counts (i : Nat) : counted 14 k.port i 1 s (count 14 k.port i 1 (tookIngress rest s)) ∧
        (count 14 k.port i 1 (tookIngress rest s)).flow = { s.flow with ingress := rest } :=
      ⟨count_tally (by rfl) _ _ _ _, keep_count _ _ _ _ _ .flow rfl⟩
    refine ⟨fun runt => ?_, fun len type on port => ?_, fun len type other => ?_, fun len type miss noDefault => ?_,
      fun len type f hit fetch valid poison uncached => ?_⟩
    · rw [lookupPacket_runt runt]
      exact counts 1
    · rw [lookupPacket_ptp len type, if_pos (by simp [tookIngress, on, port])]
      exact ⟨rfl, rfl⟩
    · rw [lookupPacket_ptp len type, if_neg (by rcases other with h | h <;> simp [tookIngress, h])]
      exact counts 2
    · rw [lookupPacket_noFlow (s := tookIngress rest s) len type miss noDefault]
      exact noFlow_counts (obj := k.port) (packetHit k (tookIngress rest s)).2 (keep_count 14 k.port 0 1 _)
    · rw [lookupPacket_hit (s := tookIngress rest s) len type hit]
      obtain ⟨waits, misses, ingress, -, ctx⟩ := visit_asks (k := .ds k.port k.bytes) (s := tookIngress rest s)
        (flowRead_findFlow _ _ _) fetch valid poison uncached
      exact ⟨waits, misses, ingress, ctx⟩
  · refine actsIf_act (execContextFetchDone_eq f poison s) (fun t h => keep_execContextFetchDone f poison s ((execContextFetchDone_eq f poison s).trans h))
      (mask_sub rfl) fun _ r rest hr => ⟨fun stale => ?_, fun runs fresh bad => ?_⟩
    · rw [contextReply_stale hr stale]
      exact staleContext_fields f (takeReply f s)
    · rw [contextReply_arrives hr runs fresh]
      have bad' : (poison || ctxPoisoned (takeReply f s) f) = true := bad
      have flow := flow_contextArrives rfl rfl bad'
      refine ⟨?_, ?_, ?_, fun n other => ?_, ?_⟩
      · rw [getFlow, flow, tget_tset_self]
      · rw [flow]
        simp only [tget_tset_self]
      · rw [flow]
        simp only [takeReply, hr, List.drop_succ_cons, List.drop_zero, tget_tset_self]
      · rw [getFlow, flow]
        exact tget_tset_ne _ _ _ other
      · rw [← takeReply_words hr]
        intro v w u
        have mem : (contextArrives f poison (takeReply f s)).mem = u.mem := mem_contextArrives rfl rfl bad'
        rw [mem]
        refine ⟨memUncorr_knownBad _ _ _ _, congrArg MemSt.eccRegion (memUncorr_mem _ _ _ _), congrArg MemSt.eccAddr (memUncorr_mem _ _ _ _),
          badCtxWord_div _ _, logged_contextArrives rfl rfl bad', fun k n one => ?_⟩
        obtain ⟨flag, record, tally⟩ := contextArrives_one (u := u) rfl rfl bad' one
        have seen : u.seenSec = s.seenSec := seenSec_badRemembered (s := takeReply f s) (v := v) rfl rfl
        refine ⟨flag, fun new => record (by rwa [seen]), fun p b ds => ?_, fun e c b us => ?_⟩
        · rw [counted, tally, ds]
          rfl
        · rw [tally, us]
          rfl
  · refine actsIf_act (execUsUnitLookup_eq s) (fun t h => keep_execUsUnitLookup s ((execUsUnitLookup_eq s).trans h)) (mask_sub rfl)
      fun _ u rest hu => ?_
    rw [takeUnit_cons hu]
    have rates : overRate (tookUnit rest s) = overRate s := rfl
    refine ⟨fun kind => ?_, fun kind rate => ?_, fun kind rate len => ?_, fun kind rate short long => ⟨fun miss => ?_,
      fun f hit fetch valid poison uncached => ?_⟩⟩
    · rw [lookupUnit_management kind]
      exact ⟨rfl, rfl⟩
    · rw [lookupUnit_overRate kind (rates.trans rate)]
      exact ⟨countCtr_tally (by rfl) (by rfl) (by rfl) _ _ _ _ _, keep_countCtr _ _ _ _ _ _ .flow rfl⟩
    · rw [lookupUnit_length kind (rates.trans rate) len]
      exact ⟨countCtr_tally (by rfl) (by rfl) (by rfl) _ _ _ _ _, keep_countCtr _ _ _ _ _ _ .flow rfl⟩
    · rw [lookupUnit_noFlow (s := tookUnit rest s) kind (rates.trans rate) short long miss]
      exact noFlow_counts _ (keep_countCtr 15 u.eng (unitCid (fld u.header 95 64)) 0 1 _)
    · rw [lookupUnit_hit (s := tookUnit rest s) kind (rates.trans rate) short long hit]
      obtain ⟨waits, misses, -, units, ctx⟩ := visit_asks (k := .us u.eng (unitCid (fld u.header 95 64)) u.body)
        (s := takePkt (tookUnit rest s)) (flowRead_unitHit _ _ u _) fetch valid poison uncached
      exact ⟨waits, misses, units, ctx⟩
  · refine actsIf_act (execClientFrameTransmit_eq p s) (fun t h => keep_execClientFrameTransmit p s ((execClientFrameTransmit_eq p s).trans h))
      (mask_sub rfl) fun _ => ⟨fun empty => transmitFrame_nil empty, fun f y b rest hq => ?_⟩
    rw [transmitFrame_cons hq]
    refine ⟨?_, fun up control => ?_, fun up type => ?_, fun down => ?_⟩
    · rw [egress_sendFrame]
      exact tget_tset_self _ _ _ _
    · rw [sendFrame_control (s := tookEgress p.val rest s) up control]
      exact ⟨rfl, rfl⟩
    · obtain ⟨-, tally, sent⟩ := sendFrame_sends (f := f) (s := tookEgress p.val rest s) up type
      refine ⟨tally.trans (count_tally (count_tally (by rfl) _ _ _ _) _ _ _ _), sent⟩
    · rw [sendFrame_drops (s := tookEgress p.val rest s) down]
      exact ⟨by rw [getFlow_modFlow, if_pos rfl]; rfl, rfl, rfl⟩

end Sys2Proof.Machine

end

section
/-! Feeds (R37, R41 to R44): the record and the flag of an event made after the feed's own state changed, and each feed event. -/

namespace Sys2Proof.Machine

-- One theorem after another: each theorem that waits for another holds a thread with its stack, and many do not fit a check.
set_option Elab.async false

/-! ## The form of a command that acts under a condition -/

/-- A command whose answer is a known state where its condition holds, and the state before it elsewhere. -/
theorem actsIf_next {c : Instr} {s u : State} {g : Bool} {m : Nat} {ps : List Part} {post : State → Prop}
    (he : exec c s = .next (if g then u else s)) (hk : ∀ t, exec c s = .next t → Same m s t)
    (hm : (Part.all.all fun p => ps.contains p || ! m.testBit p.bit) = true) (hp : g = true → post u) : ActsIf g c s ps post := by
  constructor
  · intro hg
    rw [if_pos hg] at he
    exact acts_next he (hk u he) (mask_sub hm) (hp hg)
  · intro hg
    rw [he, hg]
    rfl

/-! ## Events raised after updates that leave the records and the flags alone -/

/-- The parts that an event's record and flag are read from. -/
def eventParts : List Part := [.clk, .boot, .flags, .rsc, .isls]

/-- The record of an event, made after such updates. -/
theorem recorded_raise_after {i : Isl} {code obj : Nat} {data : BitVec 80} {m : Nat} {s u : State} (k : Same m s u)
    (hm : (eventParts.all fun p => ! m.testBit p.bit) = true := by rfl) : recorded i code obj data s (raise i code obj data u) := by
  have kept (p : Part) (hp : p ∈ eventParts) : p.same s u := k p (by simpa using List.all_eq_true.mp hm p hp)
  refine recorded_raise (u := u) (fun j => ?_) (kept .clk (by decide)) fun j => ⟨rfl, rfl, rfl⟩
  rw [getIsl_congr (kept .isls (by decide)) j]
  exact ⟨rfl, rfl, rfl⟩

/-- The record and the flag of an event, made after such updates. -/
theorem reported_raiseF_after {i : Isl} {code obj : Nat} {data : BitVec 80} {r : Reg} {e : Eng} {b m : Nat} {s u : State} (k : Same m s u)
    (hb : b < 32) (hm : (eventParts.all fun p => ! m.testBit p.bit) = true := by rfl) :
    reported i code obj data r e b s (raiseF i code obj data r e b u) := by
  have kept (p : Part) (hp : p ∈ eventParts) : p.same s u := k p (by simpa using List.all_eq_true.mp hm p hp)
  refine ⟨?_, flagged_raiseF (congrArg Boot.paired (kept .boot (by decide))) (kept .flags (by decide)) (kept .rsc (by decide)) hb⟩
  simpa only [recorded, getIsl_raiseF] using recorded_raise_after k hm

/-! ## Feed events -/

/-- No update of a feed takes the logic power away: that is the run state's. -/
@[simp] theorem powered_modFeed (f : Feed) (g : FeedSt → FeedSt) (s : State) : powered (modFeed f g s) = powered s := by cases f <;> rfl

@[simp] theorem pwr_feedEvent (code : Nat) (f : Feed) (mv : Int) (s : State) : (feedEvent code f mv s).pwr = s.pwr :=
  keep_feedEvent code f mv s .pwr rfl

@[simp] theorem pwr_feedEventF (code : Nat) (f : Feed) (mv : Int) (b : Nat) (s : State) : (feedEventF code f mv b s).pwr = s.pwr :=
  keep_feedEventF code f mv b s .pwr rfl

/-- While AON has power, a feed event makes its record (R73). -/
theorem recorded_feedEvent {f : Feed} {g : FeedSt → FeedSt} {s : State} (on : powered s = true) (code : Nat) (mv : Int) :
    recorded .aon code f.num (packData [(16, mv)]) s (feedEvent code f mv (modFeed f g s)) := by
  rw [feedEvent, when, if_pos (by rwa [powered_modFeed])]
  exact recorded_raise_after (keep_modFeed f g s)

/-- While AON has power, a feed event makes its record and sets the feed's flag (R73, R75). -/
theorem reported_feedEventF {f : Feed} {g : FeedSt → FeedSt} {s : State} (on : powered s = true) (code : Nat) (mv : Int) (b : Nat)
    (hb : b < 30 := by decide) : reported .aon code f.num (packData [(16, mv)]) .pwrFlags .A (b + f.num) s (feedEventF code f mv b (modFeed f g s)) := by
  rw [feedEventF, when, if_pos (by rwa [powered_modFeed])]
  have := feed_lt f
  exact reported_raiseF_after (keep_modFeed f g s) (by omega)

/-- The mating of a feed writes that feed, the case temperature and the hold after a THERM_CRIT shutdown (R41, R72). -/
theorem feedMated_power (f : Feed) (mv ct : Int) (hold : Bool) (s : State) :
    let t := modFeed f (fun x => { x with mated := true, volt := mv, lost := x.lost && powered s }) s
    let u := { t with pwr := { t.pwr with critOff := t.pwr.critOff && hold, caseT := ct } }
    getFeed u f = { getFeed s f with mated := true, volt := mv, lost := (getFeed s f).lost && powered s } ∧
    getFeed u f.other = getFeed s f.other ∧ u.pwr.caseT = ct ∧ u.pwr.run = s.pwr.run ∧ u.pwr.critOff = (s.pwr.critOff && hold) := by
  cases f <;> exact ⟨rfl, rfl, rfl, rfl, rfl⟩

/-- Settles O19: each event writes its feed alone, and its record and flag follow while AON has power. -/
theorem powerFeeds : Obligations.PowerFeeds := by
  refine ⟨fun f mv ct s => ?_, fun f mv s => ?_, fun f mv s => ?_, fun f mv s => ?_, fun f mv s => ?_, fun f mv s => ?_, fun f mv s => ?_,
    fun f mv s => ?_⟩
  · exact actsIf_next rfl (fun t => keep_execFeedMated f mv ct s) rfl fun _ => feedMated_power f mv ct _ s
  · exact actsIf_next rfl (fun t => keep_execPwrLow f mv s) rfl fun _ =>
      ⟨pwr_feedEventF _ _ _ _ _, fun on => reported_feedEventF on 0x0201 mv 0⟩
  · exact actsIf_next rfl (fun t => keep_execPwrLowClear f mv s) rfl fun _ =>
      ⟨pwr_feedEvent _ _ _ _, fun on => recorded_feedEvent on 0x0202 mv⟩
  · exact actsIf_next rfl (fun t => keep_execPwrFeedLost f mv s) rfl fun _ =>
      ⟨pwr_feedEventF _ _ _ _ _, fun on => reported_feedEventF on 0x0203 mv 2⟩
  · exact actsIf_next rfl (fun t => keep_execPwrFeedHigh f mv s) rfl fun _ =>
      ⟨pwr_feedEventF _ _ _ _ _, fun on => reported_feedEventF on 0x0204 mv 4⟩
  · exact actsIf_next rfl (fun t => keep_execFeedOvervoltSwitchOpen f mv s) rfl fun _ => rfl
  · exact actsIf_next rfl (fun t => keep_execFeedSwitchReclose f mv s) rfl fun _ => rfl
  · exact actsIf_next rfl (fun t => keep_execFeedRestored f mv s) rfl fun _ => rfl

end Sys2Proof.Machine

end

section
/-! Droop (R54 to R65): what a change of an island's holds leaves, the words that a slip drops, and each droop event. -/

namespace Sys2Proof.Machine

-- One theorem after another: each theorem that waits for another holds a thread with its stack, and many do not fit a check.
set_option Elab.async false

/-! ## A change of an island's holds (R62, R65) -/

/-- The change writes its island alone, and the step it makes there has its record. -/
theorem stepIsl_moves {f : IslSt → IslSt} (i : Isl) (cause : Nat) (s : State)
    (h : (f (getIsl s i)).fifo = (getIsl s i).fifo ∧ (f (getIsl s i)).seq = (getIsl s i).seq ∧ (f (getIsl s i)).lost = (getIsl s i).lost) :
    (getIsl (stepIsl i cause f s) i).stepping = (f (getIsl s i)).stepping ∧
    (∀ j, j ≠ i → getIsl (stepIsl i cause f s) j = getIsl s j) ∧ stepped i cause s (stepIsl i cause f s) :=
  ⟨getIsl_stepIsl_stepping i cause f s, fun j hj => getIsl_stepIsl_ne i j cause f s hj, stepped_stepIsl h.1 h.2.1 h.2.2⟩

theorem reported_noteFault {i : Isl} {code obj : Nat} {data : BitVec 80} {r : Reg} {e : Eng} {b : Nat} {s t u : State}
    (h : reported i code obj data r e b s t) : reported i code obj data r e b s (noteFault u t) := by
  simpa [reported, recorded, flagged] using h

/-- Islands after an event of another island. -/
theorem getIsl_raiseF_ne {i j : Isl} (hj : j ≠ i) (c o : Nat) (d : BitVec 80) (r : Reg) (e : Eng) (b : Nat) (s : State) :
    getIsl (raiseF i c o d r e b s) j = getIsl s j := by
  rw [getIsl_raiseF, getIsl_raise, if_neg hj]

/-- An event leaves the holds of its island alone. -/
theorem stepping_raiseF (i j : Isl) (c o : Nat) (d : BitVec 80) (r : Reg) (e : Eng) (b : Nat) (s : State) :
    (getIsl (raiseF i c o d r e b s) j).stepping = (getIsl s j).stepping := by
  rw [getIsl_raiseF, getIsl_raise]
  split
  · next h => subst h; split <;> rfl
  · rfl

/-- The hold that a long sag leaves, one step below the step the island stretched at or its floor (R64). -/
def carrySag (new : Nat) (x : IslSt) : IslSt := { x with stretching := false, carried := true, sagStep := max x.sagStep new }

/-- The hold one step back, once the sag has been clear for HOLD_TIME; its fault at the floor is over (R65). -/
def releaseSag (x : IslSt) : IslSt := { x with sagStep := x.sagStep - 1, floorFault := false }

/-- The fault of an island whose sag has lasted 1 ms at the floor (R64). -/
def atFloor (x : IslSt) : IslSt := { x with floorFault := true, floorDone := true }

theorem carrySag_stepping {x y : IslSt} (h : x.stepping = y.stepping) (new : Nat) : (carrySag new x).stepping = (carrySag new y).stepping := by
  simp only [IslSt.stepping, Prod.mk.injEq] at h
  simp only [carrySag, IslSt.stepping, h]

/-- After a long sag: the hold and its island, the record and the flag of the sag, and the step with its record. -/
theorem droopLong_carries (i : Isl) (new : Nat) (d : BitVec 80) (s : State) :
    let u := raiseF i 0x0206 0 d .pwrFlags .A 6 s
    let t := stepIsl i 1 (carrySag new) (count 1 i.row 1 1 u)
    (getIsl t i).stepping = (carrySag new (getIsl s i)).stepping ∧ (∀ j, j ≠ i → getIsl t j = getIsl s j) ∧
    logged i 0x0206 0 d s t ∧ flagged .pwrFlags .A 6 s t ∧ stepped i 1 u t := by
  intro u t
  have counted (j : Isl) : getIsl (count 1 i.row 1 1 u) j = getIsl u j := by simp
  refine ⟨?_, fun j hj => ?_, logged_stepIsl (fun _ => rfl) fun room => ?_, ?_, stepped_take counted (by simp) rfl rfl rfl⟩
  · rw [getIsl_stepIsl_stepping, counted]
    exact carrySag_stepping (stepping_raiseF ..) new
  · rw [getIsl_stepIsl_ne _ _ _ _ _ hj, counted, getIsl_raiseF_ne hj]
  · rw [counted, getIsl_raiseF, getIsl_raise, if_pos rfl, if_pos room]
  · rw [flagged_congr (t := u) (by simp [t]) (by simp [t])]
    exact flagged_raiseF rfl rfl rfl (by decide)

/-- After 1 ms at the floor: the fault on its island alone, FAULT_N low, and the record and the flag of the floor (R64). -/
theorem droopFloor_faults (i : Isl) (d : BitVec 80) (s : State) :
    let x := atFloor (getIsl s i)
    let t := noteFault s (raiseF i 0x0208 0 d .pwrFlags .A 7 (modIsl i atFloor s))
    (getIsl t i).stepping = x.stepping ∧ (∀ j, j ≠ i → getIsl t j = getIsl s j) ∧ (powered s = true → faultLow t = true) ∧
    reported i 0x0208 0 d .pwrFlags .A 7 s t := by
  intro x t
  have isl (j : Isl) : getIsl (modIsl i atFloor s) j = if j = i then x else getIsl s j :=
    getIsl_modIsl ..
  have stepping : (getIsl t i).stepping = x.stepping := by
    rw [getIsl_congr (noteFault_fields2 _ _).2.1, stepping_raiseF, isl, if_pos rfl]
  refine ⟨stepping, fun j hj => ?_, fun on => ?_, ?_⟩
  · rw [getIsl_congr (noteFault_fields2 _ _).2.1, getIsl_raiseF_ne hj, isl, if_neg hj]
  · have fault : (getIsl t i).floorFault = x.floorFault := by
      simp only [IslSt.stepping, Prod.mk.injEq] at stepping
      exact stepping.2.2.2.2.2.1
    exact faultLow_floor i fault (by simpa [t] using on)
  · refine reported_noteFault ⟨?_, flagged_raiseF rfl rfl rfl (by decide)⟩
    refine recorded_raise (u := modIsl i atFloor s) (fun j => ?_) rfl fun j => ?_
    · rw [isl]
      split
      · next h => subst h; exact ⟨rfl, rfl, rfl⟩
      · exact ⟨rfl, rfl, rfl⟩
    · rw [getIsl_raiseF]
      exact ⟨rfl, rfl, rfl⟩

/-! ## Slips (R60) -/

/-- What every operation of a list leaves alone, the list leaves alone. -/
theorem forAll_unchanged {α β : Type} {f : α → State → State} (g : State → β) (hf : ∀ a u, g (f a u) = g u) :
    ∀ (l : List α) (s : State), g (forAll l f s) = g s
  | [], _ => rfl
  | a :: l, s => (forAll_unchanged g hf l (f a s)).trans (hf a s)

theorem other_ne (e : Eng) : e.other ≠ e := by cases e <;> decide

/-- A word that passes is counted, and the other engine does not see it. -/
theorem getEng_passWord (e : Eng) (w : RxWord) (s : State) :
    (getEng (passWord e w s) e).inp.n = (getEng s e).inp.n + 1 ∧ getEng (passWord e w s) e.other = getEng s e.other := by
  refine ⟨?_, ?_⟩
  · rw [passWord, getEng_modEng, if_pos rfl]
  · rw [passWord, getEng_modEng, if_neg (other_ne e)]
    refine forAll_unchanged (fun u => getEng u e.other) (fun n u => ?_) _ s
    simp only [noteSyms, modBrx, setBrx, getEng_modEng, if_neg (other_ne e)]

/-- As many words as a slip drops are counted, passed by the filters or missed by receivers that do not run. -/
theorem getEng_dropWords (e : Eng) (k : Nat) (s : State) :
    (getEng (dropWords e k s) e).inp.n = (getEng s e).inp.n + k ∧ getEng (dropWords e k s) e.other = getEng s e.other := by
  unfold dropWords
  split
  · have passed (l : List Nat) : ∀ u, (getEng (forAll l (fun _ => passWord e noWord) u) e).inp.n = (getEng u e).inp.n + l.length := by
      induction l with
      | nil => exact fun _ => rfl
      | cons a l ih =>
        intro u
        have := (ih (passWord e noWord u)).trans (congrArg (· + l.length) (getEng_passWord e noWord u).1)
        rw [List.length_cons]
        exact this.trans (by omega)
    refine ⟨(passed _ s).trans (by rw [List.length_range]), ?_⟩
    exact forAll_unchanged (fun u => getEng u e.other) (fun _ u => (getEng_passWord e noWord u).2) _ s
  · simp only [missWords, getEng_modEng, if_neg (other_ne e), if_true, and_self]

/-- Zero words of a slip go out on the engine's line; the received words are not touched. -/
theorem getEng_zeroWords (e : Eng) (k : Nat) (s : State) :
    (getEng (zeroWords e k s) e).inp.n = (getEng s e).inp.n ∧ getEng (zeroWords e k s) e.other = getEng s e.other := by
  unfold zeroWords
  have drawn (x : Eng) : getEng (draw Config.freeNat s).2 x = getEng s x := getEng_congr rfl rfl x
  simp only [getEng_modDown, if_neg (other_ne e), if_true, drawn, and_self]

/-- What a slip does to the words, in either direction. -/
theorem getEng_slip (e : Eng) (rx : Bool) (k : Nat) (s : State) :
    let u := if rx then dropWords e k s else zeroWords e k s
    getEng u e.other = getEng s e.other ∧ (getEng u e).inp.n = (getEng s e).inp.n + (if rx then k else 0) := by
  cases rx with
  | true => exact ⟨(getEng_dropWords e k s).2, (getEng_dropWords e k s).1⟩
  | false => exact ⟨(getEng_zeroWords e k s).2, (getEng_zeroWords e k s).1⟩

theorem keep_slip (e : Eng) (rx : Bool) (k : Nat) (s : State) : Same 196610 s (if rx then dropWords e k s else zeroWords e k s) := by
  cases rx with
  | true => exact (keep_dropWords e k s).mono rfl
  | false => exact keep_zeroWords e k s

/-- After a slip: its record, flag and count, and the words of the engine it names. -/
theorem slip_reports (e : Eng) (rx : Bool) (i : Isl) (d : BitVec 80) (k : Nat) (s : State) :
    let u := if rx then dropWords e k s else zeroWords e k s
    let t := count 2 e.num 0 1 (raiseF i 0x020A e.num d .pwrFlags .A 10 u)
    reported i 0x020A e.num d .pwrFlags .A 10 s t ∧ counted 2 e.num 0 1 u t ∧ getEng t e = getEng u e ∧
    getEng t e.other = getEng s e.other ∧ (getEng u e).inp.n = (getEng s e).inp.n + (if rx then k else 0) := by
  intro u t
  obtain ⟨other, words⟩ := getEng_slip e rx k s
  obtain ⟨record, flag⟩ : reported i 0x020A e.num d .pwrFlags .A 10 s (raiseF i 0x020A e.num d .pwrFlags .A 10 u) :=
    reported_raiseF_after (keep_slip e rx k s) (by decide)
  have engine (x : Eng) : getEng t x = getEng u x := by simp [t]
  refine ⟨⟨?_, ?_⟩, count_tally (by simp) _ _ _ _, engine e, (engine _).trans other, words⟩
  · simpa only [recorded, t, count_gets] using record
  · rwa [flagged_congr (t := raiseF i 0x020A e.num d .pwrFlags .A 10 u) (by simp [t]) (by simp [t])]

/-- Settles O20: an event of a sag changes the holds of its island, and the step it makes is `stepIsl`'s. -/
theorem droopSteps : Obligations.DroopSteps := by
  refine ⟨fun q s => ?_, fun i s => ?_, fun i s => ?_, fun i s => ?_, fun i s => ?_, fun i s => ?_, fun e rx words s => ?_⟩
  · refine actsIf_next rfl (fun t => keep_execSagStart q s) rfl fun _ => ⟨?_, fun j hj => ?_, ?_⟩
    · simp
    · simp [hj]
    · exact countCond_tally (by rfl) _ _ _ _ _
  · refine actsIf_next rfl (fun t => keep_execSagClear i s) rfl fun _ => ⟨?_, fun j hj => ?_⟩
    · simp
    · simp [hj]
  · refine actsIf_next rfl (fun t => keep_execPwrDroopLong i s) rfl fun _ => ?_
    have same : ((min (floorStep i) (heldStep (getIsl s i) + 1) : Nat) : Int) = min (floorStep i : Int) (heldStep (getIsl s i) + 1) := by
      push_cast; rfl
    rw [← same]
    exact droopLong_carries i _ _ s
  · exact actsIf_next rfl (fun t => keep_execDroopStepDown i s) rfl fun _ => stepIsl_moves i 1 s ⟨rfl, rfl, rfl⟩
  · exact actsIf_next rfl (fun t => keep_execPwrDroopFloor i s) rfl fun _ => droopFloor_faults i _ s
  · refine actsIf_next rfl (fun t => keep_execDroopStepUp i s) rfl fun _ => ?_
    obtain ⟨hold, others, step⟩ := stepIsl_moves (f := releaseSag) i 1 s ⟨rfl, rfl, rfl⟩
    have isl := getIsl_congr (noteFault_fields2 s (stepIsl i 1 releaseSag s)).2.1
    exact ⟨(congrArg IslSt.stepping (isl i)).trans hold, fun j hj => (isl j).trans (others j hj), stepped_noteFault step⟩
  · exact actsIf_next rfl (fun t => keep_execPwrElasticSlip e rx words s) rfl fun _ => slip_reports e rx _ _ words s

end Sys2Proof.Machine

end

section
/-! The power cap and the temperatures (R66 to R73), and how an emergency shutdown begins (R47, R51): the step of one island or of the
four DSP islands, what a cap step leaves, and each event. -/

namespace Sys2Proof.Machine

-- One theorem after another: each theorem that waits for another holds a thread with its stack, and many do not fit a check.
set_option Elab.async false

/-! ## Steps of the cap (R66, R67) -/

/-- The cap's hold of an island one step down, and one step up. -/
def capDeeper (x : IslSt) : IslSt := { x with capStep := x.capStep + 1 }
def capLighter (x : IslSt) : IslSt := { x with capStep := x.capStep - 1 }

/-- A change of an island's holds that leaves its records alone. -/
def KeepsLog (f : IslSt → IslSt) : Prop := ∀ x, (f x).fifo = x.fifo ∧ (f x).seq = x.seq ∧ (f x).lost = x.lost

theorem keepsLog_capDeeper : KeepsLog capDeeper := fun _ => ⟨rfl, rfl, rfl⟩
theorem keepsLog_capLighter : KeepsLog capLighter := fun _ => ⟨rfl, rfl, rfl⟩

/-- Between `s` and `t` the cap's hold of one island alone became `n`, with the record of its step. -/
def CapAlone (i : Isl) (n : Nat) (s t : State) : Prop :=
  (getIsl t i).capStep = n ∧ stepped i 2 s t ∧ ∀ j, j ≠ i → getIsl t j = getIsl s j

/-- Between `s` and `t` the cap's holds of the DSP islands alone changed by `g`, each with the record of its step. -/
def CapTogether (g : Nat → Nat) (s t : State) : Prop :=
  (∀ j, j ∈ dspIsls → (getIsl t j).capStep = g (getIsl s j).capStep ∧ steppedAmong j 2 s t) ∧ ∀ j, j ∉ dspIsls → getIsl t j = getIsl s j

theorem recorded_isls {i : Isl} {code obj : Nat} {data : BitVec 80} {s t u : State} (h : u.isls = t.isls) :
    recorded i code obj data s u = recorded i code obj data s t := by
  simp only [recorded, getIsl_congr h]

theorem stepped_isls {i : Isl} {cause : Nat} {s t u : State} (h : u.isls = t.isls) : stepped i cause s u = stepped i cause s t := by
  simp only [stepped, recorded_isls h, getIsl_congr h]

theorem CapAlone.isls {i : Isl} {n : Nat} {s t u : State} (h : CapAlone i n s t) (k : u.isls = t.isls) : CapAlone i n s u := by
  simpa only [CapAlone, stepped_isls k, getIsl_congr k] using h

theorem CapTogether.isls {g : Nat → Nat} {s t u : State} (h : CapTogether g s t) (k : u.isls = t.isls) : CapTogether g s u := by
  simpa only [CapTogether, steppedAmong, logged, getIsl_congr k] using h

/-- A step of one island, after updates of other parts. -/
theorem capAlone_stepIsl {f : IslSt → IslSt} (hf : KeepsLog f) (i : Isl) {s u : State} (isls : u.isls = s.isls) (clk : u.clk = s.clk) :
    CapAlone i (f (getIsl s i)).capStep s (stepIsl i 2 f u) := by
  have same := getIsl_congr isls
  obtain ⟨fifo, seq, lost⟩ := hf (getIsl u i)
  exact ⟨capStep_stepIsl i 2 f s u same, stepped_take same clk fifo seq lost, fun j hj => (getIsl_stepIsl_ne i j 2 f u hj).trans (same j)⟩

theorem getIsl_forAll_stepIsl_ne (cause : Nat) (f : IslSt → IslSt) (j : Isl) : ∀ (l : List Isl) (u : State), j ∉ l →
    getIsl (forAll l (fun i => stepIsl i cause f) u) j = getIsl u j
  | [], _, _ => rfl
  | i :: l, u, h => by
    obtain ⟨ne, rest⟩ := not_or.mp (List.mem_cons.not.mp h)
    exact (getIsl_forAll_stepIsl_ne cause f j l _ rest).trans (getIsl_stepIsl_ne i j cause f u ne)

/-- Among steps of several islands each island makes its own, from the entry it had before them. -/
theorem getIsl_forAll_stepIsl (cause : Nat) (f : IslSt → IslSt) (j : Isl) (l : List Isl) (u : State) (once : l.Nodup) (h : j ∈ l) :
    ∃ v, getIsl v j = getIsl u j ∧ v.clk = u.clk ∧ getIsl (forAll l (fun i => stepIsl i cause f) u) j = getIsl (stepIsl j cause f v) j := by
  induction l generalizing u with
  | nil => exact absurd h List.not_mem_nil
  | cons i l ih =>
    obtain ⟨fresh, rest⟩ := List.nodup_cons.mp once
    by_cases e : j = i
    · subst e
      exact ⟨u, rfl, rfl, getIsl_forAll_stepIsl_ne cause f j l _ fresh⟩
    · obtain ⟨v, entry, clk, after⟩ := ih (stepIsl i cause f u) rest ((List.mem_cons.mp h).resolve_left e)
      exact ⟨v, entry.trans (getIsl_stepIsl_ne i j cause f u e), clk.trans (by simp), after⟩

/-- The record of a step that an island makes among others. -/
theorem steppedAmong_of_stepIsl {j : Isl} {cause : Nat} {f : IslSt → IslSt} (hf : KeepsLog f) {s t v : State} (entry : getIsl v j = getIsl s j)
    (clk : v.clk = s.clk) (after : getIsl t j = getIsl (stepIsl j cause f v) j) : steppedAmong j cause s t := by
  intro moved room
  rw [after, ← entry] at moved
  obtain ⟨fifo, seq, lost⟩ := hf (getIsl v j)
  obtain ⟨-, queue, -⟩ := stepped_stepIsl fifo seq lost moved
  rw [entry, if_pos room, clk, ← after] at queue
  exact ⟨[], queue⟩

/-- A step of the four DSP islands, after updates of other parts. -/
theorem capTogether_forAll {f : IslSt → IslSt} {g : Nat → Nat} (hf : KeepsLog f) (hg : ∀ x, (f x).capStep = g x.capStep) {s u : State}
    (isls : u.isls = s.isls) (clk : u.clk = s.clk) : CapTogether g s (forAll dspIsls (fun i => stepIsl i 2 f) u) := by
  refine ⟨fun j hj => ?_, fun j hj => (getIsl_forAll_stepIsl_ne 2 f j _ u hj).trans (getIsl_congr isls j)⟩
  obtain ⟨v, entry, time, after⟩ := getIsl_forAll_stepIsl 2 f j dspIsls u (by decide) hj
  have entry' : getIsl v j = getIsl s j := entry.trans (getIsl_congr isls j)
  refine ⟨?_, steppedAmong_of_stepIsl hf entry' (time.trans clk) after⟩
  rw [after, capStep_of (getIsl_stepIsl_stepping j 2 f v), hg, entry']

/-! ### Which island a step of the cap takes -/

theorem capDown_cryp {s : State} (h : (getIsl s .cryp).capStep < 4) : capDown s = stepIsl .cryp 2 capDeeper s := if_pos h

theorem capDown_flow {s : State} (c : 4 ≤ (getIsl s .cryp).capStep) (h : (getIsl s .flow).capStep < 4) :
    capDown s = stepIsl .flow 2 capDeeper s := (if_neg c.not_gt).trans (if_pos h)

theorem capDown_dsp {s : State} (c : 4 ≤ (getIsl s .cryp).capStep) (f : 4 ≤ (getIsl s .flow).capStep) (h : (getIsl s .aTxd).capStep = 0) :
    capDown s = forAll dspIsls (fun i => stepIsl i 2 capDeeper) s :=
  (if_neg c.not_gt).trans ((if_neg f.not_gt).trans (if_pos (by rw [h]; decide)))

theorem isls_capUp_dsp {s : State} (h : 0 < (getIsl s .aTxd).capStep) :
    (capUp s).isls = (forAll dspIsls (fun i => stepIsl i 2 capLighter) s).isls := by
  simp only [capUp, if_pos h]
  rfl

theorem isls_capUp_flow {s : State} (d : (getIsl s .aTxd).capStep = 0) (h : 0 < (getIsl s .flow).capStep) :
    (capUp s).isls = (stepIsl .flow 2 capLighter s).isls := by
  simp only [capUp, d, if_pos h, Nat.lt_irrefl, if_false]
  rfl

theorem isls_capUp_cryp {s : State} (d : (getIsl s .aTxd).capStep = 0) (f : (getIsl s .flow).capStep = 0) (h : 0 < (getIsl s .cryp).capStep) :
    (capUp s).isls = (stepIsl .cryp 2 capLighter s).isls := by
  simp only [capUp, d, f, if_pos h, Nat.lt_irrefl, if_false]
  rfl

/-- The next step down, after updates of other parts. -/
theorem capDown_steps {s u : State} (isls : u.isls = s.isls) (clk : u.clk = s.clk) :
    ((getIsl s .cryp).capStep < 4 → CapAlone .cryp ((getIsl s .cryp).capStep + 1) s (capDown u)) ∧
    (4 ≤ (getIsl s .cryp).capStep → (getIsl s .flow).capStep < 4 → CapAlone .flow ((getIsl s .flow).capStep + 1) s (capDown u)) ∧
    (4 ≤ (getIsl s .cryp).capStep → 4 ≤ (getIsl s .flow).capStep → (getIsl s .aTxd).capStep = 0 → CapTogether (· + 1) s (capDown u)) := by
  have same := getIsl_congr isls
  refine ⟨fun c => ?_, fun c f => ?_, fun c f d => ?_⟩
  · rw [← same] at c
    rw [capDown_cryp c]
    exact capAlone_stepIsl keepsLog_capDeeper .cryp isls clk
  · rw [← same] at c f
    rw [capDown_flow c f]
    exact capAlone_stepIsl keepsLog_capDeeper .flow isls clk
  · rw [← same] at c f d
    rw [capDown_dsp c f d]
    exact capTogether_forAll keepsLog_capDeeper (fun _ => rfl) isls clk

/-- The next step up, after updates of other parts. -/
theorem capUp_steps {s u : State} (isls : u.isls = s.isls) (clk : u.clk = s.clk) :
    (0 < (getIsl s .aTxd).capStep → CapTogether (· - 1) s (capUp u)) ∧
    ((getIsl s .aTxd).capStep = 0 → 0 < (getIsl s .flow).capStep → CapAlone .flow ((getIsl s .flow).capStep - 1) s (capUp u)) ∧
    ((getIsl s .aTxd).capStep = 0 → (getIsl s .flow).capStep = 0 → 0 < (getIsl s .cryp).capStep →
      CapAlone .cryp ((getIsl s .cryp).capStep - 1) s (capUp u)) := by
  have same := getIsl_congr isls
  refine ⟨fun d => ?_, fun d f => ?_, fun d f c => ?_⟩
  · rw [← same] at d
    exact (capTogether_forAll keepsLog_capLighter (fun _ => rfl) isls clk).isls (isls_capUp_dsp d)
  · rw [← same] at d f
    exact (capAlone_stepIsl keepsLog_capLighter .flow isls clk).isls (isls_capUp_flow d f)
  · rw [← same] at d f c
    exact (capAlone_stepIsl keepsLog_capLighter .cryp isls clk).isls (isls_capUp_cryp d f c)

/-! ### The three events of the cap -/

/-- What CAP_STEP_DOWN makes of the state: a step while the power exceeds the limit, and the end of stepping otherwise. -/
def capStepped (power : Nat) (s : State) : State :=
  let t := takePower power s
  if capLimit s < power then capDown t else { t with pwr := { t.pwr with capStepping := false, capActive := capHolds t } }

theorem capStepped_over {power : Nat} {s : State} (h : capLimit s < power) : capStepped power s = capDown (takePower power s) := if_pos h

theorem keep_setPwr (x : Power) (s : State) : Same 16 s { s with pwr := x } := (same_up_pwr rfl).mpr ((same_refl _ s).mpr trivial)

/-- PWR_CAP_HIT: the cap is active and steps, every island holds what it held, and the event has its record and flag (R66). -/
theorem capHit_reports (power : Nat) (d : BitVec 80) (s : State) :
    let x := { s.pwr with capActive := true, capStepping := true }
    let t := raiseF .pwr 0x0209 0 d .pwrFlags .A 8 { takePower power s with pwr := x }
    t.pwr = x ∧ (∀ j, (getIsl t j).stepping = (getIsl s j).stepping) ∧ reported .pwr 0x0209 0 d .pwrFlags .A 8 s t := by
  intro x t
  refine ⟨by simp [t], fun j => stepping_raiseF .., reported_raiseF_after (m := 1073741840) ?_ (by decide)⟩
  exact ((keep_takePower power s).mono rfl).trans ((keep_setPwr x _).mono rfl)

/-! ## The temperatures (R70, R71) -/

/-- An event of the case sensor: its record and flag, over the power state it leaves. -/
theorem caseHot_reports (x : Power) (code : Nat) (d : BitVec 80) (b : Nat) (hb : b < 32) (s : State) :
    let t := raiseF .aon code 0x40 d .pwrFlags .A b { s with pwr := x }
    t.pwr = x ∧ reported .aon code 0x40 d .pwrFlags .A b s t :=
  ⟨by simp, reported_raiseF_after (keep_setPwr x s) hb⟩

/-! ## An emergency shutdown begins (R47, R51, R569) -/

/-- A suite that runs is cut. -/
def suiteCut (s : State) : State := when (s.bist.st = 2) closeSuite s

theorem keep_suiteCut (s : State) : Same 1073741826 s (suiteCut s) := (same_when keep_closeSuite).mpr ((same_refl _ s).mpr trivial)

/-- Cutting a suite does not move an orderly shutdown. -/
theorem darkAlready_suiteCut (s : State) : darkAlready (suiteCut s) = darkAlready s := by
  unfold suiteCut when
  split <;> rfl

/-- The schedulers stop and the lasers begin their fall. -/
def emergStart (k : Emerg) (s : State) : State :=
  dimLasers (stopSchedulers { suiteCut s with pwr := { s.pwr with emerg := k, emergStep := 0 } })

theorem beginEmerg_eq (k : Emerg) (s : State) : beginEmerg k s = if darkAlready s then emergDark (emergStart k s) else emergStart k s := by
  have pwr : (suiteCut s).pwr = s.pwr := keep_suiteCut s .pwr rfl
  unfold beginEmerg emergStart
  rw [← darkAlready_suiteCut, ← pwr]
  rfl

theorem pwr_emergStart (k : Emerg) (s : State) : (emergStart k s).pwr = { s.pwr with emerg := k, emergStep := 0 } :=
  (keep_dimLasers _ .pwr rfl).trans (keep_stopSchedulers _ .pwr rfl)

theorem isls_emergStart (k : Emerg) (s : State) : (emergStart k s).isls = s.isls :=
  (keep_dimLasers _ .isls rfl).trans ((keep_stopSchedulers _ .isls rfl).trans (keep_suiteCut s .isls rfl))

/-- The lasers' fall leaves the schedulers as they are. -/
theorem mapsStopped_dimLasers (e : Eng) (s : State) : (getEng (dimLasers s) e).mapsStopped = (getEng s e).mapsStopped := by
  cases e <;> simp [dimLasers, forAll, engines]

theorem mapsStopped_emergStart (k : Emerg) (s : State) (e : Eng) : (getEng (emergStart k s) e).mapsStopped = true := by
  rw [emergStart, mapsStopped_dimLasers]
  cases e <;> simp [stopSchedulers, forAll, engines]

/-- The lasers are without power; the schedulers are as they were. -/
theorem getEng_darken (e : Eng) (s : State) :
    (getEng (darken s) e).down.laser = .dark ∧ (getEng (darken s) e).mapsStopped = (getEng s e).mapsStopped := by
  cases e <;> simp [darken, forAll, engines]

/-- The dark step up to its mark: where flash is written, the last records go there, and then the DRAM is off. -/
def emergSaved (s : State) : State :=
  let t := darken s
  dramOff (if flashWrites t && ! recordDone t then saveRecords (appendAll t) else t)

theorem emergDark_eq (s : State) : emergDark s = { emergSaved s with pwr := { (emergSaved s).pwr with emergStep := 1 } } := rfl

/-- After the lasers' power is off, the dark step changes neither an engine nor the power state. -/
theorem keep_emergSaved (s : State) : Same 18192833282 (darken s) (emergSaved s) := by
  refine Same.trans ?_ ((keep_dramOff _).mono rfl)
  split
  · exact ((keep_appendAll _).mono rfl).trans ((keep_saveRecords _).mono rfl)
  · exact (same_refl _ _).mpr trivial

theorem pwr_emergDark (s : State) : (emergDark s).pwr = { s.pwr with emergStep := 1 } := by
  rw [emergDark_eq, keep_emergSaved s .pwr rfl, keep_darken s .pwr rfl]

theorem getEng_emergDark (e : Eng) (s : State) : getEng (emergDark s) e = getEng (darken s) e := by
  have k := keep_emergSaved s
  rw [emergDark_eq]
  exact getEng_congr (k .engA rfl) (k .engB rfl) e

/-- An emergency shutdown has begun: its schedulers have stopped, and it stands at the lasers' fall or, where the outputs were dark already,
behind it (R47, R51). -/
theorem beginEmerg_stops (k : Emerg) (s : State) :
    let t := beginEmerg k s
    (∀ e, (getEng t e).mapsStopped = true) ∧
    (darkAlready s = false → t.pwr = { s.pwr with emerg := k, emergStep := 0 } ∧ t.isls = s.isls) ∧
    (darkAlready s = true → t.pwr = { s.pwr with emerg := k, emergStep := 1 } ∧ ∀ e, (getEng t e).down.laser = .dark) := by
  intro t
  have lit (h : darkAlready s = false) : t = emergStart k s := by simp only [t, beginEmerg_eq, h, Bool.false_eq_true, if_false]
  have dark (h : darkAlready s = true) : t = emergDark (emergStart k s) := by simp only [t, beginEmerg_eq, h, if_true]
  refine ⟨fun e => ?_, fun h => ?_, fun h => ?_⟩
  · cases h : darkAlready s with
    | false => rw [lit h, mapsStopped_emergStart]
    | true => rw [dark h, getEng_emergDark, (getEng_darken e _).2, mapsStopped_emergStart]
  · rw [lit h]
    exact ⟨pwr_emergStart k s, isls_emergStart k s⟩
  · rw [dark h, pwr_emergDark, pwr_emergStart]
    exact ⟨rfl, fun e => by rw [getEng_emergDark, (getEng_darken e _).1]⟩

/-- What THERM_CRIT makes of the state: the record, and a shutdown where none runs (R71, R72). -/
def critStopped (sensor : Nat) (temp : Int) (s : State) : State :=
  let t := raise .aon 0x020D sensor (packData [(16, temp)]) (setSensor sensor temp s)
  if s.pwr.emerg = .powerFail then t else beginEmerg .thermCrit t

theorem critStopped_inShutdown {sensor : Nat} {temp : Int} {s : State} (h : s.pwr.emerg = .powerFail) :
    critStopped sensor temp s = raise .aon 0x020D sensor (packData [(16, temp)]) (setSensor sensor temp s) := if_pos h

theorem critStopped_begins {sensor : Nat} {temp : Int} {s : State} (h : s.pwr.emerg = .none) :
    critStopped sensor temp s = beginEmerg .thermCrit (raise .aon 0x020D sensor (packData [(16, temp)]) (setSensor sensor temp s)) :=
  if_neg (by rw [h]; decide)

/-- A sensor's temperature moves no shutdown. -/
theorem setSensor_pwr (sensor : Nat) (temp : Int) (s : State) : (setSensor sensor temp s).pwr.run = s.pwr.run ∧
    (setSensor sensor temp s).pwr.emerg = s.pwr.emerg ∧ (setSensor sensor temp s).pwr.emergStep = s.pwr.emergStep := by
  unfold setSensor setCase
  split <;> exact ⟨rfl, rfl, rfl⟩

/-- The record of THERM_CRIT, while no later step moves the FIFOs. -/
theorem recorded_crit {sensor : Nat} {temp : Int} {s t : State}
    (h : t.isls = (raise .aon 0x020D sensor (packData [(16, temp)]) (setSensor sensor temp s)).isls) :
    recorded .aon 0x020D sensor (packData [(16, temp)]) s t := by
  rw [recorded_isls h]
  exact recorded_raise_after (keep_setSensor sensor temp s)

/-- THERM_CRIT during a feed-loss shutdown makes its record, and that shutdown goes on. -/
theorem thermCrit_inShutdown (sensor : Nat) (temp : Int) {s : State} (h : s.pwr.emerg = .powerFail) :
    let t := noteFault s (critStopped sensor temp s)
    t.pwr.emerg = .powerFail ∧ t.pwr.emergStep = s.pwr.emergStep ∧ recorded .aon 0x020D sensor (packData [(16, temp)]) s t := by
  intro t
  obtain ⟨-, emerg, step⟩ := setSensor_pwr sensor temp s
  have pwr : t.pwr = (setSensor sensor temp s).pwr := by simp [t, critStopped_inShutdown h]
  have isls : t.isls = (raise .aon 0x020D sensor (packData [(16, temp)]) (setSensor sensor temp s)).isls := by simp [t, critStopped_inShutdown h]
  rw [pwr]
  exact ⟨emerg.trans h, step, recorded_crit isls⟩

/-- THERM_CRIT where no shutdown runs begins one on the steps of R47. -/
theorem thermCrit_begins (sensor : Nat) (temp : Int) {s : State} (h : s.pwr.emerg = .none) :
    let t := noteFault s (critStopped sensor temp s)
    t.pwr.emerg = .thermCrit ∧ (getEng t .A).mapsStopped = true ∧ (getEng t .B).mapsStopped = true ∧
    (darkAlready s = false → t.pwr.emergStep = 0 ∧ recorded .aon 0x020D sensor (packData [(16, temp)]) s t) ∧
    (darkAlready s = true → t.pwr.emergStep = 1 ∧ ∀ e, (getEng t e).down.laser = .dark) := by
  intro t
  let r := raise .aon 0x020D sensor (packData [(16, temp)]) (setSensor sensor temp s)
  have begun : critStopped sensor temp s = beginEmerg .thermCrit r := critStopped_begins h
  have pwr : t.pwr = (beginEmerg .thermCrit r).pwr := by simp only [t, begun, noteFault_fields2]
  have isls : t.isls = (beginEmerg .thermCrit r).isls := by simp only [t, begun, noteFault_fields2]
  have engine (e : Eng) : getEng t e = getEng (beginEmerg .thermCrit r) e := by simp only [t, begun, noteFault_gets2]
  have same : darkAlready r = darkAlready s := by
    have bist : (setSensor sensor temp s).bist = s.bist := keep_setSensor sensor temp s .bist rfl
    simp [r, darkAlready, (setSensor_pwr sensor temp s).1, bist]
  obtain ⟨stopped, lit, dark⟩ := beginEmerg_stops .thermCrit r
  rw [same] at lit dark
  refine ⟨?_, (congrArg EngSt.mapsStopped (engine .A)).trans (stopped .A), (congrArg EngSt.mapsStopped (engine .B)).trans (stopped .B),
    fun d => ?_, fun d => ?_⟩
  · rw [pwr]
    cases d : darkAlready s with
    | false => rw [(lit d).1]
    | true => rw [(dark d).1]
  · obtain ⟨begins, records⟩ := lit d
    exact ⟨by rw [pwr, begins], recorded_crit (isls.trans records)⟩
  · obtain ⟨begins, lasers⟩ := dark d
    exact ⟨by rw [pwr, begins], fun e => (congrArg (fun x => x.down.laser) (engine e)).trans (lasers e)⟩

/-- Settles O21: a step of the cap is one island's or the four DSP islands', and THERM_CRIT's shutdown begins as PWR_FAIL's does. -/
theorem powerCapAndHeat : Obligations.PowerCapAndHeat := by
  refine ⟨fun power s => ?_, fun power s => ?_, fun power s => ?_, fun temp s => ?_, fun temp s => ?_, fun sensor temp s => ?_⟩
  · exact actsIf_next rfl (fun t => keep_execPwrCapHit power s) rfl fun _ => capHit_reports power _ s
  · obtain ⟨cryp, flow, dsp⟩ := capDown_steps (s := s) (u := takePower power s) rfl rfl
    refine actsIf_next (u := capStepped power s) rfl (fun t => keep_execCapStepDown power s) rfl fun g => ⟨fun low => ?_, fun above => ?_,
      fun above => ?_, fun above => ?_, fun above => ?_⟩
    · rw [capStepped, if_neg low.not_gt]
      exact ⟨rfl, rfl, rfl⟩
    · simp only [Bool.and_eq_true] at g
      rw [capStepped_over above, keep_capDown (takePower power s) .pwr rfl]
      exact ⟨g.2, rfl⟩
    all_goals rw [capStepped_over above]
    · exact cryp
    · exact flow
    · exact dsp
  · obtain ⟨dsp, flow, cryp⟩ := capUp_steps (s := s) (u := takePower power s) rfl rfl
    exact actsIf_next (u := capUp (takePower power s)) rfl (fun t => keep_execCapStepUp power s) rfl fun _ => ⟨rfl, rfl, dsp, flow, cryp⟩
  · exact actsIf_next rfl (fun t => keep_execThermHigh temp s) rfl fun _ => caseHot_reports _ 0x020B _ 9 (by decide) s
  · exact actsIf_next rfl (fun t => keep_execThermHighClear temp s) rfl fun _ => ⟨rfl, recorded_raise_after (keep_setPwr _ s)⟩
  · exact actsIf_next (u := noteFault s (critStopped sensor temp s)) rfl (fun t => keep_execThermCrit sensor temp s) rfl fun _ =>
      ⟨thermCrit_inShutdown sensor temp, thermCrit_begins sensor temp⟩

end Sys2Proof.Machine

end

section
/-! The model's count of the noise source's blocks (R426, R427) outlives every stop (`keep`), so that no stop of a module whose Shaker has run
leaves every volatile part as reset has it: the refutations of O22 and O23 (R47, R77). -/

namespace Sys2Proof.Machine

-- One theorem after another: each theorem that waits for another holds a thread with its stack, and many do not fit a check.
set_option Elab.async false

/-! ## What a stop leaves of KEY and CRYP -/

/-- Of KEY and CRYP the count of blocks drawn remains, and all else is as reset has it. -/
def shakerLeft (s : State) : SecSt := { State.reset.sec with draws := s.sec.draws }

theorem sec_keepPowered (run : RunState) (s : State) : (keepPowered run s).sec = shakerLeft s := rfl

theorem sec_powerOff (s : State) : (powerOff s).sec = shakerLeft s := rfl

/-- A state with blocks drawn is not as reset has it. -/
theorem not_cleared_of_draws {t : State} (h : t.sec.draws ≠ 0) : ¬ cleared t := fun clear => h (congrArg SecSt.draws (clear .sec (by decide)))

/-- RESET_N keeps the count, whether it stops the module or not. -/
theorem draws_resetNAsserted {s t : State} (h : exec .resetNAsserted s = .next t) : t.sec.draws = s.sec.draws := by
  let u := { s with pins := { s.pins with resetN := false } }
  have he : exec .resetNAsserted s =
      .next (noteFault s (if u.pwr.emerg ≠ .none || u.pwr.run = .off then u else keepPowered .held u)) := rfl
  cases he.symm.trans h
  simp only [noteFault_fields2]
  split
  · rfl
  · rw [sec_keepPowered]
    rfl

/-- The end of an emergency shutdown keeps the count: its records go to flash, and then the rails go off. -/
theorem draws_emergencyShutdownEnd {n : Nat} {ok : Bool} {s t : State} (h : exec (.emergencyShutdownEnd n ok) s = .next t) :
    t.sec.draws = s.sec.draws := by
  have he : exec (.emergencyShutdownEnd n ok) s = actF (s.pwr.emerg ≠ .none && s.pwr.emergStep = 1) (fun s =>
      let u := powerOff (if flashWrites s && ! recordDone s then emergRecord n ok s else s)
      { u with pwr := { u.pwr with critOff := s.pwr.emerg = .thermCrit, lossOff := s.pwr.emerg = .powerFail } }) s := rfl
  have written : (emergRecord n ok s).sec = s.sec := keep_emergRecord n ok s .sec rfl
  cases he.symm.trans h
  split
  · simp only [noteFault_fields2, sec_powerOff, shakerLeft]
    split
    · rw [written]
    · rfl
  · rfl

/-! ## The counterexamples -/

/-- In service, after the noise source has given one block. -/
def drawnOnce : State := { State.reset with pwr := { run := .ready }, sec := { draws := 1 } }

/-- The same, at the last step of a feed-loss shutdown. -/
def drawnInShutdown : State := { drawnOnce with pwr := { run := .ready, emerg := .powerFail, emergStep := 1 } }

/-- Refutes O22: RESET_N stops a module in service and leaves it held, but the count of the noise source's blocks is still 1 then, where the
statement has all of KEY and CRYP as it is after reset. -/
theorem not_powerCycles : ¬ Obligations.PowerCycles := by
  intro h
  obtain ⟨-, -, -, asserted, -⟩ := h
  obtain ⟨t, he, -, -, -, -, stops, -⟩ := (asserted drawnOnce).1 rfl
  obtain ⟨-, clear, -⟩ := stops rfl (by decide)
  exact not_cleared_of_draws (by rw [draws_resetNAsserted he]; decide) clear

/-- Refutes O23: the emergency shutdown ends without power, but the count of the noise source's blocks is still 1 then, where the statement
has all of KEY and CRYP as it is after reset. -/
theorem not_emergencyShutdown : ¬ Obligations.EmergencyShutdown := by
  intro h
  obtain ⟨-, -, ends⟩ := h
  obtain ⟨t, he, -, -, clear, -⟩ := (ends 0 true drawnInShutdown).1 (by decide)
  exact not_cleared_of_draws (by rw [draws_emergencyShutdownEnd he]; decide) clear

end Sys2Proof.Machine

end

section
/-! What protection, the fences, the transmitters and the Banker leave of an engine's record (R109, R283 to R286, R535, R536): what the image and
the self-test said of it, whether its records are read again, its framer, and the step of a command. -/

namespace Sys2Proof.Machine

-- One theorem after another: each theorem that waits for another holds a thread with its stack, and many do not fit a check.
set_option Elab.async false

/-! ## What the record of a fault leaves -/

section
variable (s t : State)

theorem boot_noteFault : (noteFault s t).boot = t.boot := keep_noteFault s t .boot rfl

theorem pwr_noteFault : (noteFault s t).pwr = t.pwr := keep_noteFault s t .pwr rfl

theorem getEng_noteFault (k : Eng) : getEng (noteFault s t) k = getEng t k := (noteFault_gets2 s t).2.1 k

theorem getIsl_noteFault (i : Isl) : getIsl (noteFault s t) i = getIsl t i := (noteFault_gets2 s t).1 i

end

/-! ## A view of one engine that two states share -/

/-- What `g` shows of an engine is the same in both states. -/
def EngKept {β : Type} (g : EngSt → β) (k : Eng) (s t : State) : Prop := g (getEng t k) = g (getEng s k)

section
variable {β : Type} {g : EngSt → β} {k : Eng}

theorem EngKept.refl (s : State) : EngKept g k s s := rfl

theorem EngKept.trans {s t u : State} (h : EngKept g k s t) (h' : EngKept g k t u) : EngKept g k s u := Eq.trans h' h

theorem EngKept.of_same {m : Nat} {s t : State} (h : Same m s t) (a : m.testBit 16 = false := by rfl) (b : m.testBit 17 = false := by rfl) :
    EngKept g k s t := congrArg g (h.getEng k a b)

theorem EngKept.keep {m : Nat} {s t u : State} (h : EngKept g k s t) (h' : Same m t u) (a : m.testBit 16 = false := by rfl)
    (b : m.testBit 17 = false := by rfl) : EngKept g k s u := h.trans (.of_same h' a b)

theorem EngKept.ite {c : Prop} [Decidable c] {s t u : State} (h : EngKept g k s t) (h' : EngKept g k s u) :
    EngKept g k s (if c then t else u) := by
  split
  · exact h
  · exact h'

theorem EngKept.when {c : Bool} {f : State → State} {s t : State} (hf : ∀ u, EngKept g k u (f u)) (h : EngKept g k s t) :
    EngKept g k s (when c f t) := .ite (h.trans (hf t)) h

theorem EngKept.forAll {α : Type} {f : α → State → State} (hf : ∀ a u, EngKept g k u (f a u)) :
    ∀ (l : List α) {s t : State}, EngKept g k s t → EngKept g k s (forAll l f t)
  | [], _, _, h => h
  | a :: l, _, t, h => EngKept.forAll hf l (h.trans (hf a t))

/-- A write of a record that the view does not show. -/
theorem engKept_modEng (e : Eng) {f : EngSt → EngSt} (s : State) (hf : ∀ x, g (f x) = g x := by intro x; rfl) :
    EngKept g k s (modEng e f s) := by
  unfold EngKept
  rw [getEng_modEng]
  split
  · next h => rw [h]; exact hf _
  · rfl

/-- A write of the other engine's record. -/
theorem engKept_modOther {e : Eng} (h : k ≠ e) (f : EngSt → EngSt) (s : State) : EngKept g k s (modEng e f s) := by
  unfold EngKept
  rw [getEng_modEng, if_neg h]

theorem engKept_modDown (e : Eng) {f : Down → Down} (s : State) (hf : ∀ x : EngSt, g { x with down := f x.down } = g x := by intro x; rfl) :
    EngKept g k s (modDown e f s) := engKept_modEng e s hf

end

/-- What the image and the self-test said of an engine, whether its records are to be read again, and its framer. -/
def EngSt.standing (x : EngSt) : Bool × Bool × Bool × Bool × Bool := (x.enable, x.selfFail, x.illegal, x.reread, x.down.framer)

/-- These, and the command that runs at the engine with its step. -/
def EngSt.course (x : EngSt) : (Bool × Bool × Bool × Bool × Bool) × Nat × Nat × Bool := (x.standing, x.updStep, x.updCmd, x.updForce)

theorem EngKept.standing {k : Eng} {s t : State} (h : EngKept EngSt.course k s t) : EngKept EngSt.standing k s t :=
  congrArg Prod.fst h

section
variable (k : Eng)

/-! ## Control messages and the Banker -/

theorem courseKept_sendMsg (e : Eng) (m : Msg) (s : State) : EngKept EngSt.course k s (sendMsg e m s) :=
  .ite (engKept_modDown _ s) (engKept_modDown _ s)

theorem courseKept_sendRec (e : Eng) (l : LeafId) (n : Nat) (b : List Byte) (s : State) : EngKept EngSt.course k s (sendRec e l n b s) := by
  unfold sendRec
  exact .trans (.of_same (keep_modLeaf _ _ _ s)) (courseKept_sendMsg k _ _ _)

theorem courseKept_startExchange (e : Eng) (l : LeafId) (s : State) : EngKept EngSt.course k s (startExchange e l s) := by
  unfold startExchange
  split
  · exact .refl s
  · split
    · exact .keep (.of_same (keep_modLeaf _ _ _ s)) (keep_addWait _ _)
    · dsimp only
      refine .trans ?_ (courseKept_sendRec k _ _ _ _ _)
      have drawn : EngKept EngSt.course k s (shake true 64 (shake true 32 (shake false 32 s).2).2).2 :=
        .keep (.keep (.of_same (keep_shake _ _ s)) (keep_shake _ _ _)) (keep_shake _ _ _)
      exact drawn.keep (keep_modLeaf _ _ _ _)

theorem courseKept_deliverGroup (e : Eng) (l : LeafId) (g : Nat) (s : State) : EngKept EngSt.course k s (deliverGroup e l g s) := by
  unfold deliverGroup
  dsimp only
  refine .trans ?_ (courseKept_sendRec k _ _ _ _ _)
  exact .keep (.of_same (keep_makeGen _ _ s)) (keep_modLeaf _ _ _ _)

theorem courseKept_pumpLeaf (e : Eng) (l : LeafId) (s : State) : EngKept EngSt.course k s (pumpLeaf e l s) := by
  unfold pumpLeaf
  dsimp only
  split
  · exact .refl s
  · refine .ite (.refl s) (.ite ?_ (.of_same (keep_addWait _ s)))
    exact .trans (.of_same (keep_firstKey _ _ s)) (courseKept_deliverGroup k _ _ _ _)

theorem courseKept_startGroup (e : Eng) (g : Nat) (s : State) : EngKept EngSt.course k s (startGroup e g s) := by
  unfold startGroup
  dsimp only
  refine .ite (.refl s) ?_
  refine EngKept.when (fun u => .of_same (keep_closeGroup _ _ u)) ?_
  refine EngKept.forAll (fun l u => ?_) _ ?_
  · exact .trans (.of_same (keep_modLeaf _ _ _ u)) (courseKept_pumpLeaf k _ _ _)
  · exact .keep (.of_same (keep_shake _ _ s)) (keep_modGk _ _ _ _)

theorem courseKept_startRekey (n : Nat) (s : State) : EngKept EngSt.course k s (startRekey n s) := by
  unfold startRekey
  dsimp only
  split
  · exact .refl s
  · refine .ite (.refl s) (.trans ?_ (courseKept_sendRec k _ _ _ _ _))
    refine .keep (.ite ?_ (.refl s)) (keep_modLeaf _ _ _ _)
    exact .keep (.of_same (keep_rewriteSlot _ _ _ _ s)) (keep_modLeaf _ _ _ _)

theorem courseKept_serveWait (w : KeyWait) (s : State) : EngKept EngSt.course k s (serveWait w s) := by
  cases w with
  | exchange e l => exact .ite (courseKept_startExchange k _ _ s) (.refl s)
  | deliver e l => exact courseKept_pumpLeaf k _ _ s
  | erase n => exact .of_same (keep_eraseSlot n s)
  | rekey n =>
    refine .ite (.of_same (keep_addWait _ s)) ?_
    split
    · exact courseKept_startGroup k _ _ s
    · exact courseKept_startRekey k n s
  | finish e g => exact .ite (.of_same (keep_addWait _ s)) (.when (fun u => .of_same (keep_closeGroup _ _ u)) (.refl s))
  | hashKey => exact .of_same (keep_drawHashKey s)

theorem courseKept_serveDeferred (s : State) : EngKept EngSt.course k s (serveDeferred s) := by
  have once (u : State) : EngKept EngSt.course k u (serveOnce u) :=
    EngKept.forAll (courseKept_serveWait k) _ (show EngKept EngSt.course k u { u with sec := _ } from rfl)
  exact (once s).trans (once _)

/-! ## Leaves that depart (R331, R537) -/

theorem courseKept_strike (e : Eng) (p : Grant → Bool) (s : State) : EngKept EngSt.course k s (strike e p s) := by
  unfold strike
  refine .keep ?_ (keep_count _ _ _ _ _)
  exact (engKept_modEng e s).trans (engKept_modEng e _)

theorem courseKept_idleWindows (e : Eng) (p : Nat → Grant → Bool) (s : State) : EngKept EngSt.course k s (idleWindows e p s) := by
  unfold idleWindows
  exact EngKept.forAll (fun _ u => .of_same (keep_countSched _ _ _ _ _ u)) _ (engKept_modEng e s)

theorem courseKept_resetLeafRx (e : Eng) (l : Nat) (s : State) : EngKept EngSt.course k s (resetLeafRx e l s) :=
  EngKept.forAll (fun x u => engKept_modEng x u) _ (.refl s)

theorem courseKept_leave (e : Eng) (l cause : Nat) (toFree : Bool) (s : State) : EngKept EngSt.course k s (leave e l cause toFree s) := by
  unfold leave
  extract_lets x w s1 s2 s3 s4 s5 s6
  have h1 : EngKept EngSt.course k s s1 := .ite (.of_same (keep_rerangeEvent _ _ _ _ _ s)) (.refl s)
  have h2 : EngKept EngSt.course k s s2 :=
    .keep (.trans (h1.keep (keep_eraseLeafKeys e l s1)) (courseKept_resetLeafRx k e l _)) (keep_dropForLeaf _ _ _)
  have h3 : EngKept EngSt.course k s s3 := h2.keep (keep_setLeaf _ _ _ _)
  have h4 : EngKept EngSt.course k s s4 := h3.trans (courseKept_strike k _ _ _)
  have h5 : EngKept EngSt.course k s s5 := h4.trans (courseKept_idleWindows k _ _ _)
  have h6 : EngKept EngSt.course k s s6 := h5.trans (EngKept.forAll (fun _ u => .of_same (keep_groupLeft _ _ u)) _ (.refl _))
  exact (h6.keep (keep_count _ _ _ _ _)).keep (keep_schedEvent _ _ _ _ _ _)

theorem courseKept_leavesGone (e : Eng) (s : State) : EngKept EngSt.course k s (leavesGone e s) := by
  unfold leavesGone
  refine .trans (EngKept.forAll (fun l u => ?_) _ (.refl s)) (courseKept_serveDeferred k _)
  exact .ite (courseKept_leave k _ _ _ _ u) (.ite (.of_same (keep_setLeaf _ _ _ u)) (.refl u))

/-! ## Protection (R283 to R286) -/

theorem courseKept_startSf (e : Eng) (s : State) : EngKept EngSt.course k s (startSf e s) := by
  exact .ite (.trans (engKept_modEng e s) (engKept_modEng _ _)) (engKept_modEng e s)

theorem courseKept_followCauses (e : Eng) (s : State) : EngKept EngSt.course k s (followCauses e s) := by
  unfold followCauses
  extract_lets x s1
  have h1 : EngKept EngSt.course k s s1 :=
    .ite (engKept_modEng e s) (.ite (.refl s) (.ite (courseKept_startSf k e s) (engKept_modEng e s)))
  clear_value s1
  have set {f : EngSt → EngSt} (hf : ∀ x, (f x).course = x.course) : EngKept EngSt.course k s (modEng e f s1) := h1.trans (engKept_modEng e s1 hf)
  exact .ite (set fun _ => rfl) (.ite h1 (.ite (set fun _ => rfl) (set fun _ => rfl)))

theorem courseKept_switchRampOff (w : Eng) (s : State) : EngKept EngSt.course k s (switchRampOff w s) :=
  engKept_modDown w s fun x => by
    unfold EngSt.course EngSt.standing
    dsimp only
    split <;> rfl

theorem courseKept_startSwitch (w : Eng) (r : ApsReq) (planned own : Bool) (s : State) :
    EngKept EngSt.course k s (startSwitch w r planned own s) := by
  unfold startSwitch
  extract_lets o s1 s2 s3 s4 a s5 s6
  have h1 : EngKept EngSt.course k s s1 := .of_same (keep_noteReq _ s)
  have h2 : EngKept EngSt.course k s s2 := (h1.trans (courseKept_strike k w _ s1)).trans (courseKept_idleWindows k w _ _)
  have h3 : EngKept EngSt.course k s s3 := by
    have dropped : EngKept EngSt.course k s2 (dropMaps w (fun _ => true) s2) :=
      .keep (engKept_modEng w s2) (keep_count _ _ _ _ _)
    exact (h2.trans dropped).trans (engKept_modEng w _)
  have h4 : EngKept EngSt.course k s s4 := h3.keep (keep_losePipeline w s3)
  have h6 : EngKept EngSt.course k s s6 := .keep (show EngKept EngSt.course k s s5 from h4) (keep_apsEvent _ _ _ s5)
  clear_value s6
  exact h6.ite (h6.trans (courseKept_switchRampOff k w s6))

theorem courseKept_of_eng {s t : State} (a : t.engA = s.engA) (b : t.engB = s.engB) : EngKept EngSt.course k s t :=
  congrArg EngSt.course (getEng_congr a b k)

theorem courseKept_apsEval (s : State) : EngKept EngSt.course k s (apsEval s) := by
  unfold apsEval
  split
  · exact .refl s
  · split
    · exact .refl s
    · next w _ =>
      extract_lets bad src1 s1 above src2 s2 r s3 src4 s4
      have h1 : EngKept EngSt.course k s s1 := by
        unfold s1
        split
        · exact .ite (courseKept_of_eng k rfl rfl) (.refl s)
        · exact .refl s
      clear_value s1
      have h2 : EngKept EngSt.course k s s2 := .ite h1 h1
      clear_value s2
      have h3 : EngKept EngSt.course k s s3 := h2.keep (keep_noteReq r s2)
      clear_value s3
      refine EngKept.ite h3 ?_
      have h4 : EngKept EngSt.course k s s4 := by
        unfold s4
        split
        · exact h3
        · exact h3
      clear_value s4
      have switched (q : ApsReq) (planned own : Bool) : EngKept EngSt.course k s (startSwitch w q planned own s4) :=
        h4.trans (courseKept_startSwitch k _ _ _ _ s4)
      have noted (u : State) (a : u.engA = s4.engA) (b : u.engB = s4.engB) : EngKept EngSt.course k s (noteReq (apsRequest u w) u) :=
        (h4.trans (courseKept_of_eng k a b)).keep (keep_noteReq _ u)
      split
      · exact switched _ _ _
      · split
        · exact switched _ _ _
        · split
          · split
            · exact noted _ rfl rfl
            · exact noted _ rfl rfl
          · exact h4

theorem courseKept_apsUpdate (s : State) : EngKept EngSt.course k s (apsUpdate s) := by
  unfold apsUpdate
  exact ((courseKept_followCauses k .A s).trans (courseKept_followCauses k .B _)).trans (courseKept_apsEval k _)

/-! ## Transmitters that go dark, and fences (R145, R237, R528) -/

theorem courseKept_rampGrp (e : Eng) (n : Nat) (st : GrpState) (v : Env) (s : State) : EngKept EngSt.course k s (rampGrp e n st v s) :=
  engKept_modDown e s

theorem courseKept_grpDim (e : Eng) (n dur : Nat) (s : State) : EngKept EngSt.course k s (grpDim e n dur s) := by
  unfold grpDim
  split
  · exact courseKept_rampGrp k _ _ _ _ s
  · exact courseKept_rampGrp k _ _ _ _ s
  · exact courseKept_rampGrp k _ _ _ _ s
  · exact courseKept_rampGrp k _ _ _ _ s
  · exact engKept_modDown e s
  · exact .refl s

theorem courseKept_rampTxOff (e : Eng) (s : State) : EngKept EngSt.course k s (rampTxOff e s) := by
  unfold rampTxOff
  extract_lets t
  have h : EngKept EngSt.course k s t := EngKept.forAll (fun n u => .when (fun v => courseKept_grpDim k e n _ v) (.refl u)) _ (.refl s)
  clear_value t
  have off : EngKept EngSt.course k t (laserOff e t) :=
    .trans (EngKept.forAll (fun n u => courseKept_grpDim k e n _ u) _ (.refl t)) (engKept_modDown e _)
  exact .ite h (.ite (h.trans off) (h.trans (engKept_modDown e t)))

theorem courseKept_calAbandon (e : Eng) (rx : Bool) (s : State) : EngKept EngSt.course k s (calAbandon e rx s) := by
  unfold calAbandon
  extract_lets c s1
  have h1 : EngKept EngSt.course k s s1 := by
    refine .ite (.refl s) (.keep (engKept_modEng e s fun x => ?_) (keep_count _ _ _ _ _))
    cases rx <;> rfl
  exact .ite h1 (h1.trans (engKept_modEng e _))

theorem courseKept_enterQuiesce (i : Isl) (hard : Bool) (cause : FenceCause) (s : State) :
    EngKept EngSt.course k s (enterQuiesce i hard cause s) := by
  unfold enterQuiesce
  extract_lets s1
  have h1 : EngKept EngSt.course k s (count 24 i.row (b01 hard) 1 s1) := .keep (.of_same (keep_modIsl i _ s)) (keep_count _ _ _ _ _)
  refine h1.trans ?_
  unfold onQuiesce
  split
  any_goals exact courseKept_calAbandon k _ _ _
  · exact rfl
  · exact .refl _

end

end Sys2Proof.Machine

end

section
/-! An engine on its way to traffic (R109 to R111, R234): the states it takes, and what brings TRAFFIC_READY up to date. -/

namespace Sys2Proof.Machine

-- One theorem after another: each theorem that waits for another holds a thread with its stack, and many do not fit a check.
set_option Elab.async false

/-! ## The states of R109 -/

/-- What leaves the states of R109 alone leaves that of each engine. -/
theorem Same.engineSt {m : Nat} {s t : State} (h : Same m s t) (k : Eng) (hm : m.testBit 33 = false := by rfl) :
    (Machine.getEng t k).st = (Machine.getEng s k).st := st_of (h .engSt hm) k

theorem st_engChanged (k : Eng) (s : State) : (getEng (engChanged s) k).st = (getEng s k).st := (keep_engChanged s).engineSt k

theorem st_engFail (e k : Eng) (code : Nat) (s : State) :
    (getEng (engFail e code s) k).st = if k = e then .failed else (getEng s k).st := by
  have dark : (getEng (opticsOff e (rampTxOff e (calAbandon e true (calAbandon e false
      (engFailEvent e (engStateCode (getEng s e).st) code (setEngErr e code s)))))) k).st = (getEng s k).st :=
    ((keep_opticsOff e _).engineSt k).trans (((keep_rampTxOff e _).engineSt k).trans (((keep_calAbandon e true _).engineSt k).trans
      (((keep_calAbandon e false _).engineSt k).trans (((keep_engFailEvent e _ code _).engineSt k).trans ((keep_setEngErr e code s).engineSt k)))))
  unfold engFail
  dsimp only
  rw [st_engChanged, getEng_modEng]
  split
  · rfl
  · exact dark

theorem st_engTune (e k : Eng) (s : State) : (getEng (engTune e s) k).st = if k = e then .tuning else (getEng s k).st := by
  unfold engTune
  rw [getEng_modEng]
  split <;> rfl

/-- A calibrated engine waits behind the other one of a pair, which serves the tree, or ramps (R109, R110). -/
theorem st_engCalibrated (e k : Eng) (s : State) : (getEng (engCalibrated e s) k).st =
    if k = e then (if s.boot.paired && s.aps.work = some e.other && engServes s e.other then .standby else .ramping) else (getEng s k).st := by
  unfold engCalibrated
  split
  · rw [st_engChanged, getEng_modEng]
    split <;> rfl
  · have took : (getEng (if s.boot.paired then takeMsgs e.other e { s with aps := { s.aps with work := some e } } else s) k).st =
        (getEng s k).st := by
      split
      · exact (keep_takeMsgs e.other e _).engineSt k
      · rfl
    dsimp only
    rw [st_engChanged, (keep_beginPhase 13 _).engineSt k, getEng_modEng]
    split
    · rfl
    · exact took

/-! ## TRAFFIC_READY (R111) -/

theorem trafficNow_congr {s t : State} (h : ∀ k, getEng t k = getEng s k) : trafficNow t = trafficNow s := by simp only [trafficNow, h]

/-- TRAFFIC_READY follows the engines, and the flash interface keeps its state. -/
theorem boot_trafficRise (ok : Bool) (s : State) :
    (trafficRise ok s).boot.traffic = trafficNow s ∧ (trafficRise ok s).boot.nvmBusy = s.boot.nvmBusy := by
  unfold trafficRise
  dsimp only
  split
  · exact ⟨rfl, rfl⟩
  · split
    · exact ⟨rfl, rfl⟩
    · rw [keep_arbCommit ok _ .boot rfl, keep_lcDeploy ok _ .boot rfl]
      exact ⟨rfl, rfl⟩

theorem traffic_trafficRise (ok : Bool) (s : State) : (trafficRise ok s).boot.traffic = trafficNow (trafficRise ok s) :=
  (boot_trafficRise ok s).1.trans (trafficNow_congr fun k => (keep_trafficRise ok s).getEng k).symm

/-! ## The events of an engine -/

/-- The ramp of an engine is complete: it serves traffic, the causes of SF and SD and the commands that waited are judged (R109, R111). -/
def rampCompleted (e : Eng) (s : State) : State :=
  let t := modEng e (fun x => { x with st := .trafficReady }) s
  forAll engines engTry (apsUpdate (raise .mgt 0x0306 e.num (packData [(32, now t / 1000000)]) t))

theorem st_rampCompleted (e k : Eng) (s : State) :
    (getEng (rampCompleted e s) k).st = if k = e then .trafficReady else (getEng s k).st := by
  have tried (u : State) : Same 544716800 u (forAll engines engTry u) := same_forAll.go keep_engTry engines u
  unfold rampCompleted
  dsimp only
  rw [(tried _).engineSt k, (keep_apsUpdate _).engineSt k, (keep_raise _ _ _ _ _).engineSt k, getEng_modEng]
  split <;> rfl

/-- An engine whose time runs out fails, where no update is on trial (R109, R545). -/
theorem st_watchedFail {e : Eng} {code : Nat} {s : State} (h : updOnTrial s = false) :
    (getEng (noteFault s (watchFail (engFail e code) s)) e).st = .failed := by
  have idle : updOnTrial (engFail e code s) = false := (updOnTrial_congr (keep_engFail e code s .upd rfl)).trans h
  rw [watchFail_idle idle, getEng_noteFault, st_engFail, if_pos rfl]

/-- The lasers of an engine have locked: its transmit run is due, and the other engine is as it was (R109, R234). -/
theorem lasersLocked_due (e : Eng) (s : State) :
    let t := modCal e false (fun c => { c with st := .due, trigger := 2, again := false })
      (modEng e (fun x => { x with st := .calibrating }) (modDown e (fun d => { d with sigLock := true, loLock := true }) s))
    (getEng t e).st = .calibrating ∧ (getEng t e).down = { (getEng s e).down with sigLock := true, loLock := true } ∧
      (getCal t e false).st = .due ∧ (getCal t e false).trigger = 2 ∧ getEng t e.other = getEng s e.other := by
  simp [modCal, getCal, other_ne]

/-- Settles O26: each event gives its engine the next state, and what follows a change of state leaves the states alone. -/
theorem engineStart : Obligations.EngineStart := by
  refine ⟨fun e s => ?_, fun e s => ?_, fun e s => ?_, fun e fuseOk s => ?_, fun e s => ?_⟩
  · exact actsIf_act rfl (fun t => keep_execEngineLasersLocked e s) (mask_sub rfl) fun _ => lasersLocked_due e s
  · exact actsIf_actF rfl (fun t => keep_execEngineTuneTimeout e s) (mask_sub rfl) fun _ => st_watchedFail
  · refine actsIf_act rfl (fun t => keep_execCalibrationDone e s) (mask_sub rfl) fun _ => ⟨?_, ?_⟩
    · rw [st_engCalibrated, if_pos rfl]
    · rw [st_engCalibrated, if_neg (other_ne e)]
  · refine actsIf_act (f := fun s => trafficRise fuseOk (rampCompleted e s)) rfl (fun t => keep_execEngineRampComplete e fuseOk s) (mask_sub rfl)
      fun _ => ⟨?_, ?_, traffic_trafficRise fuseOk _⟩
    · rw [(keep_trafficRise fuseOk _).engineSt e, st_rampCompleted, if_pos rfl]
    · rw [(keep_trafficRise fuseOk _).engineSt e.other, st_rampCompleted, if_neg (other_ne e)]
  · exact actsIf_actF rfl (fun t => keep_execEngineStartTimeout e s) (mask_sub rfl) fun _ => st_watchedFail

end Sys2Proof.Machine

end

section
/-! The image at a start and READY (R77, R88 to R109, R576 to R579): the read of a copy, the end of the quick suite, and what the records of the
image leave of an engine until READY takes it out of WAITING. -/

namespace Sys2Proof.Machine

-- One theorem after another: each theorem that waits for another holds a thread with its stack, and many do not fit a check.
set_option Elab.async false

/-! ## The read of a copy (R88, R103) -/

/-- What the search for an image keeps of the boot state while a copy is read: its progress, apart from the registers of the read. -/
def Boot.search (x : Boot) : Nat × Bool × Nat × Bool := (x.reads, x.magic, x.imgState, x.imgDone)

theorem search_noteMode (again : Bool) (b : List Byte) (rd : FlashRead) (bad : Bool) (s : State) :
    (noteMode again b rd bad s).boot.search = s.boot.search := by
  unfold noteMode
  split
  · rfl
  · dsimp only
    unfold when
    split
    · rw [keep_setFlag _ _ _ _ .boot rfl]
      rfl
    · rfl

theorem search_readCopy (again second : Bool) (n : Nat) (b : List Byte) (rd : FlashRead) (s : State) :
    (readCopy again second n b rd s).2.2.boot.search = s.boot.search := by
  unfold readCopy
  extract_lets r bad src s1 put
  have h1 : s1.boot.search = s.boot.search := search_noteMode again b rd bad _
  clear_value s1
  have stored (c i : Nat) (t : State) : (put c i t).boot.search = t.boot.search := by
    unfold put
    split <;> rfl
  clear_value r
  cases r with
  | ok m => exact (stored _ _ _).trans h1
  | error f =>
    dsimp only
    rw [keep_raise _ _ _ _ _ .boot rfl, stored, keep_failIndex f s1 .boot rfl]
    exact h1

/-- The next read of a copy at a start, with what it found. -/
def startRead (copy : List Byte) (rd : FlashRead) (s : State) : Option Image × Option Nat × State :=
  let p := copyPos s.boot.attempt
  readCopy p.again p.second (s.boot.reads + 1) copy rd
    { s with boot := { s.boot with reads := s.boot.reads + 1, magic := s.boot.magic || decide (beAt copy 0 4 = imgMagic) } }

theorem search_startRead (copy : List Byte) (rd : FlashRead) (s : State) : (startRead copy rd s).2.2.boot.search =
    (s.boot.reads + 1, (s.boot.magic || decide (beAt copy 0 4 = imgMagic)), s.boot.imgState, s.boot.imgDone) :=
  search_readCopy _ _ _ _ _ _

/-- A copy that the start read is taken, or the search goes on, or it ends. -/
def copyChecked (copy : List Byte) (rd : FlashRead) (s : State) : State :=
  let p := copyPos s.boot.attempt
  let r := startRead copy rd s
  match r.1 with
  | some m => acceptImage p m (s.boot.reads + 1) r.2.2
  | none => match nextCopy p rd (r.2.1.getD 0) with
    | none => rejectImages r.2.2
    | some q =>
      let t := when q.again (setFlag .bootFlags .A 1) r.2.2
      { t with boot := { t.boot with attempt := q.num } }

section
variable {copy : List Byte} {rd : FlashRead} {s : State}

theorem copyChecked_accepted {m : Image} (h : (startRead copy rd s).1 = some m) :
    copyChecked copy rd s = acceptImage (copyPos s.boot.attempt) m (s.boot.reads + 1) (startRead copy rd s).2.2 := by
  unfold copyChecked
  dsimp only
  rw [h]

theorem copyChecked_ended (h : (startRead copy rd s).1 = none)
    (last : nextCopy (copyPos s.boot.attempt) rd ((startRead copy rd s).2.1.getD 0) = none) :
    copyChecked copy rd s = rejectImages (startRead copy rd s).2.2 := by
  unfold copyChecked
  dsimp only
  rw [h]
  dsimp only
  rw [last]

theorem copyChecked_goesOn {q : CopyPos} (h : (startRead copy rd s).1 = none)
    (next : nextCopy (copyPos s.boot.attempt) rd ((startRead copy rd s).2.1.getD 0) = some q) :
    (copyChecked copy rd s).boot = { (startRead copy rd s).2.2.boot with attempt := q.num } := by
  unfold copyChecked
  dsimp only
  rw [h]
  dsimp only
  rw [next]
  dsimp only
  unfold when
  split
  · rw [keep_setFlag _ _ _ _ .boot rfl]
  · rfl

end

/-- Step 11 of R77 may begin; nothing else of the boot state moves. -/
theorem boot_step11 (s : State) :
    (step11 s).boot = { s.boot with phase := max s.boot.phase (if s.boot.imgDone && s.boot.cal && s.boot.ctx then 11 else 0) } := by
  unfold step11
  split
  · rfl
  · simp

/-- The engines as an accepted image enables them. -/
def enginesWait (m : Image) (s : State) : State :=
  forAll engines (fun e => modEng e (fun x => { x with
    enable := imgEnable m.recs e, st := if imgEnable m.recs e then .waiting else .disabled })) s

theorem getEng_enginesWait (m : Image) (e : Eng) (s : State) : getEng (enginesWait m s) e =
    { getEng s e with enable := imgEnable m.recs e, st := if imgEnable m.recs e then .waiting else .disabled } := by
  cases e <;> rfl

/-- An accepted image is in force, and its engines wait (R98, R102, R109). -/
theorem acceptImage_inForce (p : CopyPos) (m : Image) (n : Nat) (s : State) :
    let t := acceptImage p m n s
    (t.boot.img = some m ∧ t.boot.imgState = (if p.second then 3 else 2) ∧ t.boot.imgDone = true ∧ t.boot.nvmBusy = false ∧
      t.boot.paired = imgPaired m.recs ∧ t.boot.skipped = m.skipped ∧
      ∀ e, (getEng t e).enable = imgEnable m.recs e ∧ (getEng t e).st = (if imgEnable m.recs e then .waiting else .disabled)) ∧
    t.boot.reads = s.boot.reads ∧ t.boot.magic = s.boot.magic := by
  have boot : (acceptedEvent p m n s).boot = s.boot := keep_acceptedEvent p m n s .boot rfl
  have waits (u : State) (e : Eng) : (getEng (step11 (enginesWait m u)) e).enable = imgEnable m.recs e ∧
      (getEng (step11 (enginesWait m u)) e).st = if imgEnable m.recs e then .waiting else .disabled := by
    rw [(keep_step11 _).getEng e, getEng_enginesWait]
    exact ⟨rfl, rfl⟩
  have kept : (acceptImage p m n s).boot.reads = (acceptedEvent p m n s).boot.reads ∧
      (acceptImage p m n s).boot.magic = (acceptedEvent p m n s).boot.magic := by
    unfold acceptImage
    dsimp only
    rw [boot_step11]
    exact ⟨rfl, rfl⟩
  rw [boot] at kept
  obtain ⟨reads, magic⟩ := kept
  refine ⟨⟨?_, ?_, ?_, ?_, ?_, ?_, fun e => waits _ e⟩, reads, magic⟩
  all_goals
    unfold acceptImage
    dsimp only
    rw [boot_step11]
    rfl

/-- No copy is accepted: whether one showed MAGIC tells the state (R105). -/
theorem boot_rejectImages (s : State) : ∃ n, (rejectImages s).boot =
    { s.boot with imgState := if s.boot.magic then 4 else 5, imgDone := true, nvmBusy := false, phase := n } :=
  ⟨_, boot_step11 _⟩

/-- What one read of a copy does to the search (R88, R90, R98, R102, R103, R105, R109). -/
theorem startImage_copyChecked (copy : List Byte) (rd : FlashRead) {s : State} (asked : s.boot.imgState = 1) :
    let p := copyPos s.boot.attempt
    let r := startRead copy rd s
    let t := copyChecked copy rd s
    t.boot.reads = s.boot.reads + 1 ∧ t.boot.magic = (s.boot.magic || decide (beAt copy 0 4 = imgMagic)) ∧
    (∀ m, r.1 = some m → t.boot.img = some m ∧ t.boot.imgState = (if p.second then 3 else 2) ∧ t.boot.imgDone = true ∧ t.boot.nvmBusy = false ∧
      t.boot.paired = imgPaired m.recs ∧ t.boot.skipped = m.skipped ∧
      ∀ e, (getEng t e).enable = imgEnable m.recs e ∧ (getEng t e).st = (if imgEnable m.recs e then .waiting else .disabled)) ∧
    (r.1 = none → nextCopy p rd (r.2.1.getD 0) = none →
      t.boot.imgState = (if s.boot.magic || decide (beAt copy 0 4 = imgMagic) then 4 else 5) ∧ t.boot.imgDone = true ∧ t.boot.nvmBusy = false) ∧
    (r.1 = none → ∀ q, nextCopy p rd (r.2.1.getD 0) = some q → t.boot.attempt = q.num ∧ t.boot.imgState = 1 ∧ t.boot.imgDone = s.boot.imgDone) := by
  have read := search_startRead copy rd s
  simp only [Boot.search, Prod.mk.injEq] at read
  obtain ⟨reads, magic, state, done⟩ := read
  dsimp only
  cases found : (startRead copy rd s).1 with
  | some m =>
    obtain ⟨inForce, r, g⟩ := acceptImage_inForce (copyPos s.boot.attempt) m (s.boot.reads + 1) (startRead copy rd s).2.2
    rw [copyChecked_accepted found]
    refine ⟨r.trans reads, g.trans magic, fun m' h => ?_, nofun, nofun⟩
    cases h
    exact inForce
  | none =>
    cases next : nextCopy (copyPos s.boot.attempt) rd ((startRead copy rd s).2.1.getD 0) with
    | none =>
      obtain ⟨n, h⟩ := boot_rejectImages (startRead copy rd s).2.2
      rw [copyChecked_ended found next, h]
      exact ⟨reads, magic, nofun, fun _ _ => ⟨by rw [magic], rfl, rfl⟩, fun _ _ => nofun⟩
    | some q =>
      rw [copyChecked_goesOn found next]
      refine ⟨reads, magic, nofun, fun _ => nofun, fun _ q' h => ?_⟩
      cases h
      exact ⟨rfl, state.trans asked, done⟩

/-! ## The record ring (R577) -/

/-- A record takes the next slot of the ring, and the oldest of eight falls out. -/
theorem recs_writeRec (kind suite overall : Nat) (entries : List TestEntry) (dur peak : Nat) (s : State) :
    ((writeRec kind suite overall entries dur peak s).flash.recs.head?.map fun r => (r.kind, r.suite, r.overall, r.entries)) =
      some (kind, suite, overall, entries) ∧
    (writeRec kind suite overall entries dur peak s).flash.recs.tail = s.flash.recs.take 7 := ⟨rfl, rfl⟩

/-! ## The quick suite ends (R576 to R579) -/

/-- The suite's record is written, and what it found of each engine and of the module is kept for READY. -/
def quickNoted (s : State) : State :=
  let es := s.bist.entries
  let all := overallOf es (fun _ => false)
  let u := closeSuite s
  let v := forAll engines (fun e => modEng e (fun x => { x with
    selfFail := es.any (fun y => testEng y.id = some e && y.result = resFail) })) (writeRec kindQuick suiteQuick all es u.bist.durMs u.bist.peak u)
  { v with
    boot := { v.boot with quickRun := false, quickDone := true, quickRan := true }
    bist := { v.bist with quick := false, quickFailed := failedGroups es, quickOverall := all, quickRec := v.flash.recs.head? } }

/-- The flag and the event of the suite's end follow, and step 9 of R77 begins. -/
def quickEnded (s : State) : State :=
  let es := s.bist.entries
  beginPhase 9 (raise .mgt 0x0F03 0 (packData [(8, overallOf es (fun _ => false)), (8, failedGroups es)])
    (when (failedGroups es ≠ 0) (setFlag .bistFlags .A 1) (quickNoted s)))

theorem keep_quickEnded (s : State) : Same 39424 (quickNoted s) (quickEnded s) := by
  unfold quickEnded
  dsimp only
  refine (same_beginPhase rfl).mpr ((same_raise rfl).mpr ((same_when fun u => ?_).mpr ((same_refl _ _).mpr trivial)))
  exact (same_setFlag rfl).mpr ((same_refl _ u).mpr trivial)

theorem boot_quickEnded (s : State) : (quickEnded s).boot =
    { s.boot with quickRun := false, quickDone := true, quickRan := true, phase := max s.boot.phase 9 } := by
  have noted : (when (failedGroups s.bist.entries ≠ 0) (setFlag .bistFlags .A 1) (quickNoted s)).boot = (quickNoted s).boot := by
    unfold when
    split
    · exact keep_setFlag _ _ _ _ .boot rfl
    · rfl
  unfold quickEnded beginPhase
  dsimp only
  rw [keep_raise _ _ _ _ _ .boot rfl, noted]
  rfl

theorem getEng_quickNoted (e : Eng) (s : State) : (getEng (quickNoted s) e).selfFail =
    s.bist.entries.any (fun y => testEng y.id = some e && y.result = resFail) := by
  cases e <;> rfl

/-- What the end of the quick suite leaves. -/
theorem startImage_quickEnded (s : State) :
    let t := quickEnded s
    t.boot.quickRun = false ∧ t.boot.quickDone = true ∧ t.boot.quickRan = true ∧ t.boot.phase = max s.boot.phase 9 ∧
    t.bist.quick = false ∧ t.bist.quickOverall = overallOf s.bist.entries (fun _ => false) ∧ t.bist.quickRec = t.flash.recs.head? ∧
    t.flash.recs.head?.map (fun r => (r.kind, r.suite, r.overall, r.entries)) =
      some (7, 3, overallOf s.bist.entries (fun _ => false), s.bist.entries) ∧
    t.flash.recs.tail = s.flash.recs.take 7 ∧
    ∀ e, (getEng t e).selfFail = s.bist.entries.any (fun y => testEng y.id = some e && y.result = resFail) := by
  have kept := keep_quickEnded s
  dsimp only
  rw [boot_quickEnded, kept .bist rfl, kept .flash rfl]
  refine ⟨rfl, rfl, rfl, rfl, rfl, rfl, rfl, rfl, rfl, fun e => ?_⟩
  rw [kept.getEng e]
  exact getEng_quickNoted e s

/-! ## The records of the image and the self-test of an engine -/

section
variable {k : Eng}

theorem selfFailKept_loadList (e : Eng) (p : List Byte) (s : State) : EngKept EngSt.selfFail k s (loadList e p s) := by
  refine EngKept.forAll (fun x u => ?_) _ (.refl s)
  have listed : EngKept EngSt.selfFail k u (modEng e (fun y => { y with
      list := y.list ++ [(x.1, if x.2.1 ≤ 4095 then some x.2.1 else none, decide (x.2.2 % 2 = 1))] }) u) := engKept_modEng e u
  dsimp only
  split
  · exact listed.keep (keep_loadPin _ _ _ _)
  · exact listed

theorem selfFailKept_loadEngineRec (e : Eng) (whole : Bool) (r : ImgRec) (s : State) :
    EngKept EngSt.selfFail k s (loadEngineRec e whole r s) := by
  unfold loadEngineRec
  refine .ite (.refl s) (.ite (.ite (.of_same (keep_loadPairs _ s)) ?_) (.ite (.of_same (keep_loadTree e _ s)) (.ite (.refl s)
    (.ite (.of_same (keep_loadCtrs e _ s)) (.ite ?_ (.ite (selfFailKept_loadList e _ s) (.refl s)))))))
  · exact EngKept.forAll (fun _ u => .of_same (keep_loadRestart _ _ u)) _ (.refl s)
  · exact EngKept.forAll (fun _ u => EngKept.forAll (fun _ v => .of_same (keep_storeSetting _ _ v)) _ (.refl u)) _ (.refl s)

theorem selfFailKept_loadEngine (e : Eng) (whole : Bool) (rs : List ImgRec) (s : State) : EngKept EngSt.selfFail k s (loadEngine e whole rs s) :=
  EngKept.forAll (selfFailKept_loadEngineRec e whole) rs (.refl s)

theorem selfFailKept_loadShared (p : Nat → Bool) (profiles : Bool) (rs : List ImgRec) (s : State) :
    EngKept EngSt.selfFail k s (loadShared p profiles rs s) := by
  refine .ite (EngKept.forAll (fun r u => ?_) rs (.refl s)) (.refl s)
  refine EngKept.forAll (fun e t => ?_) _ (.refl u)
  exact .ite (.refl t) (.ite (.of_same (keep_loadPairs _ t)) (.ite (selfFailKept_loadEngineRec e true r t) (.refl t)))

theorem selfFailKept_takeRecs (es : List Eng) (whole : Bool) {shared : State → State} (hs : ∀ u, EngKept EngSt.selfFail k u (shared u))
    (rs : List ImgRec) (s : State) : EngKept EngSt.selfFail k s (takeRecs es whole shared rs s) := by
  refine .trans (EngKept.forAll (fun e t => ?_) es (.refl s)) (hs _)
  exact .ite (.refl t) (.ite ((engKept_modEng e t).trans (selfFailKept_loadEngine e whole rs _)) (engKept_modEng e t))

theorem selfFailKept_judgeAgain (es : List Eng) (rs : List ImgRec) (s : State) : EngKept EngSt.selfFail k s (judgeAgain es rs s) :=
  .ite (.refl s) (EngKept.forAll (fun e t => .ite (engKept_modEng e t) (.refl t)) es (.refl s))

theorem selfFailKept_loadModule (rs : List ImgRec) (s : State) : EngKept EngSt.selfFail k s (loadModule rs s) := by
  refine EngKept.forAll (fun r u => .of_same (keep_loadModuleRec r u)) rs ?_
  refine EngKept.forAll (fun e u => engKept_modEng e u) _ ?_
  exact .trans (show EngKept EngSt.selfFail k s { s with boot := { s.boot with paired := imgPaired rs } } from rfl) (.of_same (keep_setBanks _ _))

theorem selfFailKept_applyImage (s : State) : EngKept EngSt.selfFail k s (applyImage s) := by
  unfold applyImage
  split
  · exact .of_same (keep_setBanks _ s)
  · exact ((selfFailKept_loadModule _ s).trans (selfFailKept_takeRecs _ _ (selfFailKept_loadShared _ _ _) _ _)).trans (selfFailKept_judgeAgain _ _ _)

end

/-! ## READY (R77, R109, R577) -/

/-- READY is asserted, and the time of it kept. -/
def readyNoted (s : State) : State := { s with
  pwr := { s.pwr with run := .ready }
  pins := { s.pins with ready := true }
  boot := { s.boot with readyUs := now s / 1000 % 2 ^ 32, imgRejected := readsImage s && s.boot.img = none } }

/-- The module has become READY: the records are applied and STARTED is written; the engines are still to leave WAITING. -/
def readied (s : State) : State :=
  let u := writeRec kindStarted 0 resNotRun [] 0 0 (makeDrk (applyImage s))
  let w := portsAtReady (raise .mgt 0x0307 0 (packData [(32, now u / 1000)]) (readyNoted u))
  if w.boot.img.isSome then beginPhase 12 w else w

/-- Each engine leaves WAITING by what the self-test and the records then say of it. -/
def engsAtReady (s : State) : State := forAll engines (fun e => engAtReady e (getEng s e)) s

theorem getEng_readied (e : Eng) (s : State) : getEng (readied s) e = getEng (applyImage s) e := by
  unfold readied
  dsimp only
  rw [apply_ite (getEng · e), (keep_beginPhase 12 _).getEng e, ite_self, (keep_portsAtReady _).getEng e, (keep_raise _ _ _ _ _).getEng e]
  exact (keep_makeDrk (applyImage s)).getEng e

theorem readied_ready (s : State) : (readied s).pwr.run = .ready ∧ (readied s).pins.ready = true ∧
    (readied s).flash = (writeRec kindStarted 0 resNotRun [] 0 0 (makeDrk (applyImage s))).flash := by
  unfold readied
  extract_lets u w
  have kept : Same 16810496 (readyNoted u) (if w.boot.img.isSome then beginPhase 12 w else w) := by
    have h : Same 16810496 (readyNoted u) w := (same_portsAtReady rfl).mpr ((same_raise rfl).mpr ((same_refl _ _).mpr trivial))
    split
    · exact (same_beginPhase rfl).mpr h
    · exact h
  rw [kept .pwr rfl, kept .pins rfl, kept .flash rfl]
  exact ⟨rfl, rfl, rfl⟩

theorem st_engAtReady (e k : Eng) (x : EngSt) (s : State) : (getEng (engAtReady e x s) k).st =
    if k = e ∧ x.st = .waiting then (if x.selfFail || x.illegal then .failed else .tuning) else (getEng s k).st := by
  unfold engAtReady
  by_cases w : x.st = .waiting
  · by_cases f : x.selfFail
    · rw [if_neg (not_not.mpr w), if_pos f]
      dsimp only
      rw [apply_ite (getEng · k), apply_ite EngSt.st, (keep_engFailEvent _ _ _ _).engineSt k, ite_self, st_engFail]
      simp [w, f]
    · rw [if_neg (not_not.mpr w), if_neg f, apply_ite (getEng · k), apply_ite EngSt.st, st_engFail, st_engTune]
      by_cases k = e <;> simp_all
  · rw [if_pos w, if_neg fun h => w h.2]

/-- Each engine that waited has failed or tunes; no other one moves (R109, R579). -/
theorem st_engsAtReady (k : Eng) (s : State) : (getEng (engsAtReady s) k).st =
    if (getEng s k).st = .waiting then (if (getEng s k).selfFail || (getEng s k).illegal then .failed else .tuning) else (getEng s k).st := by
  have both : engsAtReady s = engAtReady .B (getEng s .B) (engAtReady .A (getEng s .A) s) := rfl
  rw [both, st_engAtReady, st_engAtReady]
  cases k <;> simp

/-- Settles O25: a copy is taken or the search goes on or ends, the quick suite leaves its record, and READY follows the records. -/
theorem startImage : Obligations.StartImage := by
  refine ⟨fun copy rd s => ?_, fun s => ?_, fun s => ?_⟩
  · refine actsIf_act (f := copyChecked copy rd) rfl (fun t => keep_execImageCopyChecked copy rd s) (mask_sub rfl) fun g => ?_
    simp only [Bool.and_eq_true, decide_eq_true_eq] at g
    exact startImage_copyChecked copy rd g.2
  · exact actsIf_act (f := quickEnded) rfl (fun t => keep_execQuickSuiteDone s) (mask_sub rfl) fun _ => startImage_quickEnded s
  · refine actsIf_actF (f := fun s => engsAtReady (readied s)) rfl (fun t => keep_execModuleReady s) (mask_sub rfl) fun _ => ?_
    obtain ⟨run, pin, flash⟩ := readied_ready s
    have kept : Same 9134668418 (readied s) (engsAtReady (readied s)) := same_forAll.go (fun e u => keep_engAtReady e _ u) engines _
    have prior : (makeDrk (applyImage s)).flash = s.flash := (keep_makeDrk (applyImage s) .flash rfl).trans (keep_applyImage s .flash rfl)
    obtain ⟨-, tail⟩ := recs_writeRec kindStarted 0 resNotRun [] 0 0 (makeDrk (applyImage s))
    simp only [noteFault_fields2, getEng_noteFault]
    rw [kept .pwr rfl, kept .pins rfl, kept .flash rfl, flash]
    refine ⟨run, pin, fun e => ?_, rfl, tail.trans (by rw [prior])⟩
    have self : (getEng (applyImage s) e).selfFail = (getEng s e).selfFail := selfFailKept_applyImage s
    rw [st_engsAtReady, getEng_readied, self, (keep_applyImage s).engineSt e]
    by_cases (getEng s e).st = .waiting <;> simp [*]

end Sys2Proof.Machine

end

section
/-! The steps of a start from the fuses to the DRAM contexts (R77, R82 to R86, R113, R243, R578). -/

namespace Sys2Proof.Machine

-- One theorem after another: each theorem that waits for another holds a thread with its stack, and many do not fit a check.
set_option Elab.async false

/-! ## The noise source and the keys that firmware starts with (R427 to R429) -/

theorem shakerOk_setDrbg (d : Drbg) (s : State) : (setDrbg d s).sec.shakerOk = s.sec.shakerOk := rfl

theorem shakerOk_rawBlocks (n : Nat) (s : State) : (rawBlocks n s).2.sec.shakerOk = s.sec.shakerOk := rfl

theorem shakerOk_reseedCentral (s : State) : (reseedCentral s).sec.shakerOk = s.sec.shakerOk := by
  unfold reseedCentral entropy
  dsimp only
  rw [shakerOk_setDrbg, shakerOk_rawBlocks]

theorem shakerOk_seedCentral (s : State) : (seedCentral s).sec.shakerOk = s.sec.shakerOk := by
  unfold seedCentral entropy
  dsimp only
  rw [shakerOk_setDrbg, shakerOk_rawBlocks]

theorem shakerOk_shake (fresh : Bool) (n : Nat) (s : State) : (shake fresh n s).2.sec.shakerOk = s.sec.shakerOk := by
  unfold shake
  dsimp only
  rw [shakerOk_setDrbg]
  split
  · exact shakerOk_reseedCentral s
  · rfl

theorem shakerOk_lanes (l : Table Drbg) (s : State) : ({ s with sec := { s.sec with lanes := l } } : State).sec.shakerOk = s.sec.shakerOk := rfl

theorem shakerOk_seedLane (k : Nat) (s : State) : (seedLane k s).sec.shakerOk = s.sec.shakerOk := by
  unfold seedLane laneBits
  rw [shakerOk_lanes]
  exact shakerOk_shake false 48 s

theorem shakerOk_seedLanes (s : State) : (seedLanes s).sec.shakerOk = s.sec.shakerOk :=
  forAll_unchanged (fun s => s.sec.shakerOk) shakerOk_seedLane _ s

theorem shakerOk_drawHashKey (s : State) : (drawHashKey s).sec.shakerOk = s.sec.shakerOk := by
  unfold drawHashKey addWait
  split
  · dsimp only
    exact shakerOk_shake true 16 s
  · split <;> rfl

/-- What the start-up tests did to the flags and the event FIFOs: nothing while they pass in the end, and otherwise the Shaker's flag. -/
def ShakerTested (s t : State) : Prop :=
  let a := Reg.addr .secFlags .A 0 0
  getIsl t .aon = getIsl s .aon ∧ (t.sec.shakerOk = true → t.flags = s.flags ∧ t.rsc = s.rsc ∧ t.isls = s.isls) ∧
  (t.sec.shakerOk = false → t.flags = flagSet a 0 s.flags ∧ t.rsc = rscSet a 0 s.flags s.rsc)

theorem ShakerTested.of_parts {s t : State} (ok : t.sec.shakerOk = true) (flags : t.flags = s.flags) (rsc : t.rsc = s.rsc)
    (isls : t.isls = s.isls) : ShakerTested s t :=
  ⟨getIsl_congr isls .aon, fun _ => ⟨flags, rsc, isls⟩, fun bad => absurd (ok.symm.trans bad) nofun⟩

theorem shakerTested_rawBlocks (n : Nat) {s : State} (ok : s.sec.shakerOk = true) : ShakerTested s (rawBlocks n s).2 :=
  .of_parts ok rfl rfl rfl

/-- What follows the tests and moves no flag, no event and no state of the Shaker. -/
theorem ShakerTested.keep {m : Nat} {s t u : State} (h : ShakerTested s t) (k : Same m t u) (ok : u.sec.shakerOk = t.sec.shakerOk)
    (hf : m.testBit 11 = false := by rfl) (hr : m.testBit 12 = false := by rfl) (hi : m.testBit 15 = false := by rfl) : ShakerTested s u := by
  unfold ShakerTested
  rw [ok, k .flags hf, k .rsc hr, k .isls hi, getIsl_congr (k .isls hi)]
  exact h

theorem ShakerTested.noteFault {s t : State} (w : State) (h : ShakerTested s t) : ShakerTested s (noteFault w t) := by
  simpa [ShakerTested] using h

/-- A test while the Shaker is good, and then another one. -/
theorem ShakerTested.trans {s t u : State} (h : ShakerTested s t) (k : ShakerTested t u) (ok : t.sec.shakerOk = true) : ShakerTested s u := by
  obtain ⟨aon, good, -⟩ := h
  obtain ⟨aon', good', bad'⟩ := k
  obtain ⟨flags, rsc, isls⟩ := good ok
  refine ⟨aon'.trans aon, fun g => ?_, fun b => ?_⟩
  · rw [← flags, ← rsc, ← isls]; exact good' g
  · rw [← flags, ← rsc]; exact bad' b

theorem getIsl_secEvent_ne {i j : Isl} (h : j ≠ i) (code obj : Nat) (data : BitVec 80) (s : State) :
    getIsl (secEvent i code obj data s) j = getIsl s j := by
  unfold secEvent oncePerSec
  split
  · rfl
  · rw [getIsl_raise, if_neg h]
    rfl

/-- The Shaker has failed: SHAKER_OK is 0, with its event and its flag. -/
def shakerFailed (test n : Nat) (s : State) : State :=
  setFlag .secFlags .A 0 (secEvent .key 0x0B09 0 (packData [(8, test), (32, n)]) { s with sec := { s.sec with shakerOk := false } })

theorem shakerTested_shakerFailed (test n : Nat) (s : State) : ShakerTested s (shakerFailed test n s) := by
  unfold shakerFailed
  generalize hu : ({ s with sec := { s.sec with shakerOk := false } } : State) = u
  have noted : u.sec.shakerOk = false ∧ u.flags = s.flags ∧ u.rsc = s.rsc ∧ u.isls = s.isls := by rw [← hu]; exact ⟨rfl, rfl, rfl, rfl⟩
  clear hu
  obtain ⟨bad, flags, rsc, isls⟩ := noted
  have event := keep_secEvent .key 0x0B09 0 (packData [(8, test), (32, n)]) u
  have aon := getIsl_secEvent_ne (i := .key) (j := .aon) (by decide) 0x0B09 0 (packData [(8, test), (32, n)]) u
  generalize secEvent .key 0x0B09 0 (packData [(8, test), (32, n)]) u = v at event aon ⊢
  have flag := keep_setFlag .secFlags .A 0 v
  obtain ⟨fl, rs⟩ := setFlag_fl .secFlags .A 0 v
  refine ⟨?_, fun good => ?_, fun _ => ?_⟩
  · rw [getIsl_congr (flag .isls rfl), aon, getIsl_congr isls]
  · exact absurd ((congrArg SecSt.shakerOk ((flag .sec rfl).trans (event .sec rfl))).trans bad |>.symm.trans good) nofun
  · rw [fl, rs, event .flags rfl, event .rsc rfl, flags, rsc]
    exact ⟨rfl, rfl⟩

theorem shakerTested_failsNoted (recent : List Nat) (n : Nat) {s : State} (ok : s.sec.shakerOk = true) :
    let u : State := { s with sec := { s.sec with fails := recent, restarts := n } }
    u.sec.shakerOk = true ∧ ShakerTested s u := ⟨ok, .of_parts ok rfl rfl rfl⟩

theorem shakerTested_healthFailed (test : Nat) {s : State} (ok : s.sec.shakerOk = true) : ShakerTested s (healthFailed test s) := by
  unfold healthFailed
  extract_lets recent n src u
  obtain ⟨ok', noted⟩ : u.sec.shakerOk = true ∧ ShakerTested s u := shakerTested_failsNoted recent n ok
  clear_value u
  split
  · exact noted.trans (shakerTested_shakerFailed test n u) ok'
  · exact noted

theorem startSource_bad (n : Nat) {s : State} (bad : s.sec.shakerOk = false) : startSource n s = s := by
  cases n with
  | zero => rfl
  | succ n =>
    unfold startSource
    rw [if_pos (by simp [bad])]

theorem shakerTested_startSource : ∀ (n : Nat) {s : State}, s.sec.shakerOk = true → ShakerTested s (startSource n s)
  | 0, _, ok => .of_parts ok rfl rfl rfl
  | n + 1, s, ok => by
    have drawn := shakerTested_rawBlocks (aptWindow / 128) ok
    have ok' := (shakerOk_rawBlocks (aptWindow / 128) s).trans ok
    unfold startSource
    rw [if_neg (by simp [ok])]
    generalize rawBlocks (aptWindow / 128) s = p at drawn ok' ⊢
    have tested := drawn.trans (shakerTested_healthFailed 2 ok') ok'
    dsimp only
    split
    · cases good : (healthFailed 2 p.2).sec.shakerOk with
      | true => exact tested.trans (shakerTested_startSource n good) good
      | false => rwa [startSource_bad n good]
    · exact drawn

/-! ## Firmware runs (R84, R113) -/

/-- Firmware runs from a bank: nothing of the module's power moved, and the Shaker was tested. -/
theorem firmwareUp_tested (bank : Nat) (s : State) :
    (firmwareUp bank s).boot = { s.boot with fw := true, bank := bank } ∧ (firmwareUp bank s).pwr = s.pwr ∧ ShakerTested s (firmwareUp bank s) := by
  unfold firmwareUp
  generalize hb : ({ s with boot := { s.boot with fw := true, bank := bank }, sec := { s.sec with shakerOk := true } } : State) = b
  have begun : b.boot = { s.boot with fw := true, bank := bank } ∧ b.pwr = s.pwr ∧ b.sec.shakerOk = true ∧ ShakerTested s b := by
    rw [← hb]
    exact ⟨rfl, rfl, rfl, .of_parts rfl rfl rfl rfl⟩
  obtain ⟨boot, pwr, ok, tested⟩ := begun
  have source := keep_startSource 3 b
  have run := tested.trans (shakerTested_startSource 3 ok) ok
  dsimp only
  generalize startSource 3 b = u at source run ⊢
  have central := keep_seedCentral u
  have lanes := keep_seedLanes (seedCentral u)
  have key := keep_drawHashKey (seedLanes (seedCentral u))
  refine ⟨?_, ?_, ?_⟩
  · rw [key .boot rfl, lanes .boot rfl, central .boot rfl, source .boot rfl, boot]
  · rw [key .pwr rfl, lanes .pwr rfl, central .pwr rfl, source .pwr rfl, pwr]
  · exact ((run.keep central (shakerOk_seedCentral _)).keep lanes (shakerOk_seedLanes _)).keep key (shakerOk_drawHashKey _)

/-- What the tests say of the flags. -/
theorem ShakerTested.flagged {s t : State} (h : ShakerTested s t) :
    (t.sec.shakerOk = true → t.flags = s.flags) ∧ (t.sec.shakerOk = false → Machine.flagged .secFlags .A 0 s t) := by
  obtain ⟨-, good, bad⟩ := h
  exact ⟨fun g => (good g).1, fun b => flagged_of (bad b).1 (bad b).2 (by decide)⟩

/-- An event on the always-on island, with its flag, before the tests: both stand after them. -/
theorem ShakerTested.after_reported {s u t : State} {code obj b : Nat} {data : BitVec 80}
    (event : reported .aon code obj data .bootFlags .A b s u) (h : ShakerTested u t) :
    logged .aon code obj data s t ∧ (t.sec.shakerOk = true → reported .aon code obj data .bootFlags .A b s t) ∧
    (t.sec.shakerOk = false → (getFlags t (Reg.addr .bootFlags .A 0 0)).getLsbD b = true ∧
      (getFlags t (Reg.addr .secFlags .A 0 0)).getLsbD 0 = true) := by
  have flags := h.flagged
  obtain ⟨aon, good, bad⟩ := h
  obtain ⟨⟨seq, fifo, rest⟩, flag⟩ := event
  refine ⟨fun room => ⟨[], ?_⟩, fun g => ?_, fun b => ⟨?_, (flags.2 b).1⟩⟩
  · rw [aon, fifo, if_pos room]
  · obtain ⟨fl, rs, il⟩ := good g
    exact ⟨by rw [recorded_isls il]; exact ⟨seq, fifo, rest⟩, by rw [flagged_congr fl rs]; exact flag⟩
  · have rise : FlagsRise u t := (FlagsRise.setFlag (.refl u) .secFlags .A 0).trans
      (.of_flags ((bad b).1.trans (setFlag_fl .secFlags .A 0 u).1.symm))
    exact rise _ _ flag.1

/-- The active bank does not pass, and the other one runs: the event and the flag of R113. -/
def fellBack (s : State) : State :=
  raiseF .aon 0x0301 (1 - s.flash.active) (packData [(8, Config.freeNat s.free)]) .bootFlags .A 6 (draw Config.freeNat s).2

/-- The boot ROM has judged the two banks. -/
def firmwareChosen (ok0 ok1 : Bool) (s : State) : State :=
  let a := s.flash.active
  if bankAuthentic s a (if a = 0 then ok0 else ok1) then firmwareUp a s
  else if bankAuthentic s (1 - a) (if 1 - a = 0 then ok0 else ok1) then firmwareUp (1 - a) (fellBack s)
  else stopInRom { s with boot := { s.boot with bootRomFault := true } }

theorem startSteps_firmware (ok0 ok1 : Bool) {s : State} (down : s.boot.fw = false) :
    let t := noteFault s (firmwareChosen ok0 ok1 s)
    (bankAuthentic s s.flash.active (if s.flash.active = 0 then ok0 else ok1) = true → t.boot.fw = true ∧ t.boot.bank = s.flash.active ∧ t.pwr = s.pwr ∧
      (t.sec.shakerOk = true → t.flags = s.flags) ∧ (t.sec.shakerOk = false → flagged .secFlags .A 0 s t)) ∧
    (bankAuthentic s s.flash.active (if s.flash.active = 0 then ok0 else ok1) = false → bankAuthentic s (1 - s.flash.active) (if 1 - s.flash.active = 0 then ok0 else ok1) = true →
      t.boot.fw = true ∧ t.boot.bank = 1 - s.flash.active ∧ t.pwr = s.pwr ∧ logged .aon 0x0301 (1 - s.flash.active) (packData [(8, Config.freeNat s.free)]) s t ∧
      (t.sec.shakerOk = true → reported .aon 0x0301 (1 - s.flash.active) (packData [(8, Config.freeNat s.free)]) .bootFlags .A 6 s t) ∧
      (t.sec.shakerOk = false → (getFlags t (Reg.addr .bootFlags .A 0 0)).getLsbD 6 = true ∧ (getFlags t (Reg.addr .secFlags .A 0 0)).getLsbD 0 = true)) ∧
    (bankAuthentic s s.flash.active (if s.flash.active = 0 then ok0 else ok1) = false → bankAuthentic s (1 - s.flash.active) (if 1 - s.flash.active = 0 then ok0 else ok1) = false →
      t.boot.fw = false ∧ t.pwr.run = .bootRom ∧ t.boot.bootRomFault = true) := by
  intro t
  refine ⟨fun own => ?_, fun bad other => ?_, fun bad none => ?_⟩
  · obtain ⟨boot, pwr, tested⟩ := firmwareUp_tested s.flash.active s
    have chosen : t = noteFault s (firmwareUp s.flash.active s) := by
      unfold t firmwareChosen
      rw [if_pos own]
    rw [chosen, boot_noteFault, pwr_noteFault, boot]
    exact ⟨rfl, rfl, pwr, (tested.noteFault s).flagged⟩
  · obtain ⟨boot, pwr, tested⟩ := firmwareUp_tested (1 - s.flash.active) (fellBack s)
    have chosen : t = noteFault s (firmwareUp (1 - s.flash.active) (fellBack s)) := by
      unfold t firmwareChosen
      dsimp only
      rw [if_neg (by simp [bad]), if_pos other]
    have event : reported .aon 0x0301 (1 - s.flash.active) (packData [(8, Config.freeNat s.free)]) .bootFlags .A 6 s (fellBack s) :=
      reported_raiseF_after (keep_draw Config.freeNat s) (by decide)
    rw [chosen, boot_noteFault, pwr_noteFault, boot]
    exact ⟨rfl, rfl, pwr.trans (keep_raiseF _ _ _ _ _ _ _ _ .pwr rfl), ShakerTested.after_reported event (tested.noteFault s)⟩
  · have chosen : t = noteFault s (stopInRom { s with boot := { s.boot with bootRomFault := true } }) := by
      unfold t firmwareChosen
      dsimp only
      rw [if_neg (by simp [bad]), if_neg (by simp [none])]
    rw [chosen, boot_noteFault, pwr_noteFault]
    exact ⟨down, rfl, rfl⟩

/-! ## The fuses are read (R77, R86) -/

/-- The latest record of the self-test is judged, with its flag where it did not pass. -/
def prevJudged (s : State) : State := if prevPassed s then s else setFlag .bistFlags .A 0 s

theorem keep_prevJudged (s : State) : Same 6144 s (prevJudged s) := by
  unfold prevJudged
  split
  · exact (same_refl _ _).mpr trivial
  · exact keep_setFlag _ _ _ s

theorem prevJudged_passed {s : State} (h : prevPassed s = true) : prevJudged s = s := if_pos h

theorem prevJudged_notPassed {s : State} (h : prevPassed s = false) : prevJudged s = setFlag .bistFlags .A 0 s :=
  if_neg (ne_true_of_eq_false h)

/-- The fuses are known, and with them what access the maker has. -/
def fusesKnown (s : State) : State := makerModes { s with boot := { s.boot with fuses := true } }

/-- The life cycle tells what the start loads. -/
def fusesUsed (s : State) : State :=
  let u := fusesKnown s
  if ! loadsFirmware u then stopInRom u
  else
    let v := beginPhase 7 (prevJudged u)
    if readsImage v then { v with boot := { v.boot with imgState := 1 } }
    else { v with boot := { v.boot with imgDone := true, nvmBusy := false } }

theorem readsImage_congr {s t : State} (h : t.fuse = s.fuse) : readsImage t = readsImage s := by simp only [readsImage, lcState_congr h]

theorem fusesUsed_rom {s : State} (rom : loadsFirmware s = false) :
    fusesUsed s = stopInRom (fusesKnown s) := by
  have lc : loadsFirmware (fusesKnown s) = loadsFirmware s := rfl
  unfold fusesUsed
  dsimp only
  rw [lc, rom]
  rfl

/-- Firmware is loaded: the image is asked for where the life cycle reads one, and the self-test's last record is judged. -/
theorem fusesUsed_loads {s : State} (loads : loadsFirmware s = true) :
    let u := fusesKnown s
    let t := fusesUsed s
    t.boot.fuses = true ∧ t.pwr = s.pwr ∧ t.boot.phase = max s.boot.phase 7 ∧ (readsImage s = true → t.boot.imgState = 1) ∧
    (readsImage s = false → t.boot.imgDone = true ∧ t.boot.nvmBusy = false) ∧
    t.flags = (prevJudged u).flags ∧ t.rsc = (prevJudged u).rsc := by
  intro u t
  have lc : loadsFirmware u = loadsFirmware s := rfl
  have judged := keep_prevJudged u
  have img : readsImage (beginPhase 7 (prevJudged u)) = readsImage s := readsImage_congr (judged .fuse rfl)
  have boot : (prevJudged u).boot = u.boot := judged .boot rfl
  have pwr : (prevJudged u).pwr = s.pwr := judged .pwr rfl
  have used : t = if readsImage s then { beginPhase 7 (prevJudged u) with boot := { (beginPhase 7 (prevJudged u)).boot with imgState := 1 } }
      else { beginPhase 7 (prevJudged u) with boot := { (beginPhase 7 (prevJudged u)).boot with imgDone := true, nvmBusy := false } } := by
    unfold t fusesUsed
    dsimp only
    rw [lc, loads, img]
    rfl
  have phase : (beginPhase 7 (prevJudged u)).boot.phase = max s.boot.phase 7 := congrArg (max ·.phase 7) boot
  have fuses : (beginPhase 7 (prevJudged u)).boot.fuses = true := congrArg Boot.fuses boot
  rw [used]
  cases readsImage s
  · exact ⟨fuses, pwr, phase, nofun, fun _ => ⟨rfl, rfl⟩, rfl, rfl⟩
  · exact ⟨fuses, pwr, phase, fun _ => rfl, nofun, rfl, rfl⟩

theorem startSteps_fuses (s : State) :
    let t := noteFault s (fusesUsed s)
    t.boot.fuses = true ∧
    (loadsFirmware s = false → t.pwr.run = .bootRom ∧ t.boot.phase = 0xF ∧ t.boot.nvmBusy = false) ∧
    (loadsFirmware s = true → t.pwr = s.pwr ∧ t.boot.phase = max s.boot.phase 7 ∧ (readsImage s = true → t.boot.imgState = 1) ∧
      (readsImage s = false → t.boot.imgDone = true ∧ t.boot.nvmBusy = false) ∧
      (prevPassed s = true → t.flags = s.flags) ∧ (prevPassed s = false → flagged .bistFlags .A 0 s t)) := by
  simp only [noteFault_fields2]
  cases loads : loadsFirmware s with
  | false =>
    rw [fusesUsed_rom loads]
    exact ⟨rfl, fun _ => ⟨rfl, rfl, rfl⟩, nofun⟩
  | true =>
    obtain ⟨fuses, pwr, phase, asked, none, fl, rs⟩ := fusesUsed_loads loads
    refine ⟨fuses, nofun, fun _ => ⟨pwr, phase, asked, none, fun passed => ?_, fun bad => ?_⟩⟩
    · rw [fl, prevJudged_passed (show prevPassed (fusesKnown s) = true from passed)]
      rfl
    · rw [prevJudged_notPassed (show prevPassed (fusesKnown s) = false from bad)] at fl rs
      rw [flagged_congr (t := fusesUsed s) (by simp) (by simp)]
      exact flagged_setFlag (u := fusesKnown s) rfl rfl rfl (by decide) fl rs

/-! ## The calibration records (R85, R243) -/

/-- What a converter island's calibration takes from flash: the latest good record, or its factory record with a run due. -/
def calLoaded (s : State) (e : Eng) (rx : Bool) (c : CalSt) : CalSt :=
  match latestCal s (calIsl e rx) with
  | some r => { c with coef := recTable rx r, tLast := recTLast r }
  | none => { c with coef := [], again := true, trigger := 2 }

section
variable {s : State} {e : Eng} {rx : Bool}

theorem calLoaded_some {r : List Byte} (h : latestCal s (calIsl e rx) = some r) :
    calLoaded s e rx = fun c => { c with coef := recTable rx r, tLast := recTLast r } := by
  funext c
  rw [calLoaded, h]

theorem calLoaded_none (h : latestCal s (calIsl e rx) = none) :
    calLoaded s e rx = fun c => { c with coef := [], again := true, trigger := 2 } := by
  funext c
  rw [calLoaded, h]

end

theorem getCal_raiseF (i : Isl) (code obj : Nat) (data : BitVec 80) (r : Reg) (e k : Eng) (b : Nat) (rx : Bool) (s : State) :
    getCal (raiseF i code obj data r e b s) k rx = getCal s k rx := by
  unfold getCal
  rw [(keep_raiseF i code obj data r e b s).getEng k]

theorem getCal_modCal (e k : Eng) (rx rk : Bool) (f : CalSt → CalSt) (s : State) :
    getCal (modCal e rx f s) k rk = if k = e ∧ rk = rx then f (getCal s k rk) else getCal s k rk := by
  cases e <;> cases k <;> cases rx <;> cases rk <;> rfl

theorem getCal_loadCal (e k : Eng) (rx rk : Bool) (s : State) :
    getCal (loadCal e rx s) k rk = if k = e ∧ rk = rx then calLoaded s e rx (getCal s k rk) else getCal s k rk := by
  unfold loadCal
  dsimp only
  cases found : latestCal s (calIsl e rx) with
  | some r =>
    rw [calLoaded_some found]
    exact getCal_modCal _ _ _ _ _ _
  | none =>
    rw [calLoaded_none found, getCal_raiseF]
    exact getCal_modCal _ _ _ _ _ _

theorem calLoaded_congr {s t : State} (h : t.flash = s.flash) : calLoaded t = calLoaded s := by
  funext e rx c
  simp only [calLoaded, latestCal, calRecs, h]

theorem calLoaded_loadCal (e : Eng) (rx : Bool) (s : State) : calLoaded (loadCal e rx s) = calLoaded s :=
  calLoaded_congr (keep_loadCal e rx s .flash rfl)

/-- The four converter islands have their records. -/
def calsLoaded (s : State) : State := forAll engines (fun e t => loadCal e true (loadCal e false t)) s

theorem getCal_calsLoaded (e : Eng) (rx : Bool) (s : State) : getCal (calsLoaded s) e rx = calLoaded s e rx (getCal s e rx) := by
  unfold calsLoaded
  cases e <;> cases rx <;> simp [engines, forAll, getCal_loadCal, calLoaded_loadCal]

theorem boot_calsLoaded (s : State) : (calsLoaded s).boot = s.boot :=
  forAll_unchanged State.boot (fun e u => (keep_loadCal e true _ .boot rfl).trans (keep_loadCal e false u .boot rfl)) engines s

/-- Step 6 of R77 is done. -/
def calsChecked (s : State) : State :=
  let u := calsLoaded (beginPhase 6 s)
  step11 { u with boot := { u.boot with cal := true } }

theorem execCalRecordsChecked_eq (s : State) :
    execCalRecordsChecked s = act (starting s && s.boot.fw && ! s.boot.cal) calsChecked s := by
  unfold execCalRecordsChecked calsChecked calsLoaded
  rfl

theorem getCal_calsChecked (e : Eng) (rx : Bool) (s : State) : getCal (calsChecked s) e rx = calLoaded s e rx (getCal s e rx) := by
  have flash : calLoaded (beginPhase 6 s) = calLoaded s := calLoaded_congr rfl
  have checked : getEng (calsChecked s) e = getEng (calsLoaded (beginPhase 6 s)) e := by
    unfold calsChecked
    generalize calsLoaded (beginPhase 6 s) = u
    exact ((keep_step11 _).getEng e).trans rfl
  have loaded := getCal_calsLoaded e rx (beginPhase 6 s)
  rw [flash] at loaded
  unfold getCal at loaded ⊢
  rw [checked]
  exact loaded

theorem boot_calsChecked (s : State) : (calsChecked s).boot.cal = true ∧ 6 ≤ (calsChecked s).boot.phase := by
  unfold calsChecked
  dsimp only
  rw [boot_step11]
  dsimp only
  rw [boot_calsLoaded]
  exact ⟨rfl, le_max_of_le_left (le_max_right _ _)⟩

theorem startSteps_cals (s : State) :
    let t := calsChecked s
    t.boot.cal = true ∧ 6 ≤ t.boot.phase ∧
    ∀ e rx, (∀ r, latestCal s (calIsl e rx) = some r → (getCal t e rx).coef = recTable rx r ∧ (getCal t e rx).tLast = recTLast r) ∧
      (latestCal s (calIsl e rx) = none → (getCal t e rx).coef = [] ∧ (getCal t e rx).again = true ∧ (getCal t e rx).trigger = 2) := by
  dsimp only
  refine ⟨(boot_calsChecked s).1, (boot_calsChecked s).2, fun e rx => ⟨fun r found => ?_, fun none => ?_⟩⟩
  · rw [getCal_calsChecked, calLoaded_some found]
    exact ⟨rfl, rfl⟩
  · rw [getCal_calsChecked, calLoaded_none none]
    exact ⟨rfl, rfl, rfl⟩

/-! ## Memories (R83, R578) -/

/-- The DRAM is ready: the quick suite runs first where it is due. -/
def dramUp (s : State) : State :=
  let u : State := { s with boot := { s.boot with dram := true } }
  if quickDue u then beginSuite suiteQuick (fun _ => false) (beginPhase 8 { u with boot := { u.boot with quickRun := true } })
  else beginPhase 9 u

theorem dramUp_quick {s : State} (due : quickDue s = true) : dramUp s = beginSuite suiteQuick (fun _ => false)
    (beginPhase 8 { s with boot := { s.boot with dram := true, quickRun := true } }) :=
  if_pos (show quickDue { s with boot := { s.boot with dram := true } } = true from due)

theorem dramUp_plain {s : State} (due : quickDue s = false) : dramUp s = beginPhase 9 { s with boot := { s.boot with dram := true } } :=
  if_neg (show ¬ quickDue { s with boot := { s.boot with dram := true } } = true from ne_true_of_eq_false due)

theorem startSteps_dram (s : State) :
    let t := dramUp s
    t.boot.dram = true ∧ (quickDue s = false → t.boot.phase = max s.boot.phase 9 ∧ t.bist = s.bist) ∧
    (quickDue s = true → t.boot.phase = max s.boot.phase 8 ∧ t.boot.quickRun = true ∧ t.bist.suite = 3 ∧ t.bist.quick = true ∧
      t.bist.suiteAt = s.clk.now ∧ t.bist.entries = [] ∧ t.bist.todo = testGroups.flatten) := by
  intro t
  unfold t
  cases due : quickDue s with
  | false =>
    rw [dramUp_plain due]
    exact ⟨rfl, fun _ => ⟨rfl, rfl⟩, nofun⟩
  | true =>
    rw [dramUp_quick due]
    exact ⟨rfl, nofun, fun _ => ⟨rfl, rfl, rfl, rfl, rfl, rfl, List.filter_true _⟩⟩

theorem startSteps_contexts (s : State) :
    let t := step11 (beginPhase 10 { s with boot := { s.boot with ctx := true } })
    t.boot.ctx = true ∧ t.boot.phase = max (max s.boot.phase 10) (if s.boot.imgDone && s.boot.cal then 11 else 0) ∧
    t.boot.imgDone = s.boot.imgDone ∧ t.boot.img = s.boot.img := by
  dsimp only
  rw [boot_step11]
  simp [beginPhase]

/-- Settles O24: each step by what its command does, the tests of the Shaker and the records of calibration by their own lemmas. -/
theorem startSteps : Obligations.StartSteps := by
  refine ⟨fun s => ?_, fun s => ?_, fun ok0 ok1 s => ?_, fun s => ?_, fun s => ?_, fun s => ?_, fun s => ?_⟩
  · exact actsIf_actF (f := fusesUsed) rfl (fun t => keep_execFusesRead s) (mask_sub rfl) fun _ => startSteps_fuses s
  · refine actsIf_act rfl (fun t => keep_execSramInitDone s) (mask_sub rfl) fun _ => ⟨rfl, rfl, fun p => ?_, rfl⟩
    simp [zeroBanks]
  · refine actsIf_actF (f := firmwareChosen ok0 ok1) rfl (fun t => keep_execFirmwareAuthDone ok0 ok1 s) (mask_sub rfl) fun g => ?_
    simp only [Bool.and_eq_true, Bool.not_eq_true'] at g
    exact startSteps_firmware ok0 ok1 g.2
  · exact actsIf_act (f := calsChecked) (execCalRecordsChecked_eq s) (fun t h => keep_execCalRecordsChecked s ((execCalRecordsChecked_eq s).trans h)) (mask_sub rfl) fun _ => startSteps_cals s
  · exact actsIf_act (f := dramUp) rfl (fun t => keep_execDramReady s) (mask_sub rfl) fun _ => startSteps_dram s
  · exact actsIf_act rfl (fun t => keep_execContextInitDone s) (mask_sub rfl) fun _ => startSteps_contexts s
  · exact actsIf_act rfl (fun t => keep_execDramInitDone s) (mask_sub rfl) fun _ => rfl

end Sys2Proof.Machine

end

section
/-! The commands RESTART and STOP of an engine (R108, R109, R535, R536): its steps, the fences of its islands, and the re-read that ends a
restart. -/

namespace Sys2Proof.Machine

-- One theorem after another: each theorem that waits for another holds a thread with its stack, and many do not fit a check.
set_option Elab.async false

/-! ## What the steps of a command leave of an engine's record -/

/-- A view that the course determines. -/
theorem EngKept.of_course {β : Type} {g : EngSt → β} {k : Eng} {s t : State} (hg : ∀ x y : EngSt, x.course = y.course → g x = g y)
    (h : EngKept EngSt.course k s t) : EngKept g k s t := hg _ _ h

section
variable {β : Type} {g : EngSt → β} {k e : Eng} (hg : ∀ x y : EngSt, x.course = y.course → g x = g y)
  (h : k ≠ e ∨ ∀ x y : EngSt, x.standing = y.standing → g x = g y)

include h in
/-- A write of the command or its step: the view is of the other engine, or does not show them. -/
theorem engKept_modCommand {f : EngSt → EngSt} (s : State) (hf : ∀ x, (f x).standing = x.standing) : EngKept g k s (modEng e f s) := by
  rcases h with other | blind
  · exact engKept_modOther other f s
  · exact engKept_modEng e s fun x => blind _ _ (hf x)

include h in
theorem engKept_engMark (step refused : Nat) (s : State) : EngKept g k s (engMark e step refused s) := by
  have stepped : EngKept g k s (modEng e (fun x => { x with updStep := step }) s) := engKept_modCommand h s fun _ => rfl
  exact stepped.keep (keep_raiseF _ _ _ _ _ _ _ _)

include h in
theorem engKept_engCmdEnd (s : State) : EngKept g k s (engCmdEnd e s) := engKept_modCommand h s fun _ => rfl

include hg h in
theorem engKept_engDark (s : State) : EngKept g k s (engDark e s) := by
  unfold engDark
  have ramped : EngKept g k s (rampTxOff e (engMark e 2 0 s)) :=
    (engKept_engMark h 2 0 s).trans (.of_course hg (courseKept_rampTxOff k e _))
  have stopped : EngKept g k s (modEng e (fun x => { x with mapsStopped := true }) (rampTxOff e (engMark e 2 0 s))) :=
    ramped.trans (engKept_modCommand h _ fun _ => rfl)
  exact .ite stopped (stopped.keep (keep_dropEngineQueues e _))

include hg h in
theorem engKept_engTry (s : State) : EngKept g k s (engTry e s) := by
  unfold engTry
  refine .ite (.refl s) (.ite (engKept_engDark hg h s) (.ite (.ite ?_ (.refl s)) (.ite (engKept_engDark hg h s) (.ite (.refl s) ?_))))
  · have noted (a : Aps) : EngKept g k s { s with aps := a } := rfl
    exact (noted _).trans (.of_course hg (courseKept_startSwitch k e _ _ _ _))
  · exact (engKept_engMark h 1 1 s).trans (engKept_engCmdEnd h _)

end

/-- An engine that does not wait in step 1 keeps its step. -/
theorem engTry_idle {e : Eng} {s : State} (h : (getEng s e).updStep ≠ 1) : engTry e s = s := by
  unfold engTry
  dsimp only
  rw [if_pos (by simp [h])]

theorem courseKept_engTry {k : Eng} (e : Eng) {s : State} (h : (getEng s k).updStep ≠ 1) : EngKept EngSt.course k s (engTry e s) := by
  by_cases same : k = e
  · rw [engTry_idle (same ▸ h)]
    exact .refl s
  · exact engKept_engTry (fun _ _ h => h) (.inl same) s

theorem EngKept.updStep {k : Eng} {s t : State} (h : EngKept EngSt.course k s t) : (getEng t k).updStep = (getEng s k).updStep :=
  congrArg (·.2.1) h

theorem engChanged_eq (s : State) : engChanged s = trafficUpdate (engTry .B (engTry .A (apsUpdate s))) := by
  simp only [engChanged, engines, forAll, List.foldl]

theorem courseKept_engChanged {k : Eng} {s : State} (h : (getEng s k).updStep ≠ 1) : EngKept EngSt.course k s (engChanged s) := by
  have judged := courseKept_apsUpdate k s
  have first := judged.trans (courseKept_engTry .A (judged.updStep ▸ h))
  have second := first.trans (courseKept_engTry .B (first.updStep ▸ h))
  rw [engChanged_eq]
  exact second.keep (keep_trafficUpdate _)

/-! ## A command begins (R535, R536) -/

/-- The command is noted. -/
def engCmdNoted (e : Eng) (cmd : Nat) (force byUpd : Bool) (s : State) : State :=
  modEng e (fun x => { x with updCmd := cmd, updForce := force, updBy := byUpd }) s

theorem keep_engCmdNoted (e : Eng) (cmd : Nat) (force byUpd : Bool) (s : State) : Same 196608 s (engCmdNoted e cmd force byUpd s) :=
  keep_modEng_st e _ s fun _ => rfl

theorem getEng_engCmdNoted (e : Eng) (cmd : Nat) (force byUpd : Bool) (s : State) :
    getEng (engCmdNoted e cmd force byUpd s) e = { getEng s e with updCmd := cmd, updForce := force, updBy := byUpd } := by
  simp [engCmdNoted]

section
variable {e : Eng} {cmd : Nat} {force byUpd : Bool} {s : State}

theorem engCmdBegin_eq : engCmdBegin e cmd force byUpd s =
    if cmd = 1 && (getEng s e).stopped then moveFence .resume e.txc (engMark e 3 0 (engCmdNoted e cmd force byUpd s))
    else if s.boot.paired && s.aps.work = some e then engTry e (engMark e 1 0 (engCmdNoted e cmd force byUpd s))
    else engDark e (engCmdNoted e cmd force byUpd s) := by
  have unfolds : engCmdBegin e cmd force byUpd s =
      let u := engCmdNoted e cmd force byUpd s
      if cmd = 1 && (getEng u e).stopped then moveFence .resume e.txc (engMark e 3 0 u)
      else if u.boot.paired && u.aps.work = some e then engTry e (engMark e 1 0 u) else engDark e u := by
    unfold engCmdBegin engCmdNoted
    rfl
  have kept := keep_engCmdNoted e cmd force byUpd s
  rw [unfolds]
  dsimp only
  rw [getEng_engCmdNoted, kept .boot rfl, kept .aps rfl]

theorem engCmdBegin_resume (restart : cmd = 1) (stopped : (getEng s e).stopped = true) :
    engCmdBegin e cmd force byUpd s = moveFence .resume e.txc (engMark e 3 0 (engCmdNoted e cmd force byUpd s)) := by
  rw [engCmdBegin_eq, if_pos (by simp [restart, stopped])]

theorem engCmdBegin_runs (runs : (cmd = 1 && (getEng s e).stopped) = false) : engCmdBegin e cmd force byUpd s =
    if s.boot.paired && s.aps.work = some e then engTry e (engMark e 1 0 (engCmdNoted e cmd force byUpd s))
    else engDark e (engCmdNoted e cmd force byUpd s) := by
  rw [engCmdBegin_eq, if_neg (ne_true_of_eq_false runs)]

theorem engCmdBegin_dark (runs : (cmd = 1 && (getEng s e).stopped) = false) (alone : (s.boot.paired && s.aps.work = some e) = false) :
    engCmdBegin e cmd force byUpd s = engDark e (engCmdNoted e cmd force byUpd s) := by
  rw [engCmdBegin_runs runs, if_neg (ne_true_of_eq_false alone)]

/-- A command on an engine that is not stopped moves no fence yet. -/
theorem fence_engCmdBegin (runs : (cmd = 1 && (getEng s e).stopped) = false) (j : Isl) :
    (getIsl (engCmdBegin e cmd force byUpd s) j).fence = (getIsl s j).fence := by
  have noted : (getIsl (engCmdNoted e cmd force byUpd s) j).fence = (getIsl s j).fence := (keep_modEng e _ s).fence rfl j
  rw [engCmdBegin_runs runs]
  split
  · exact ((keep_engTry e _).fence rfl j).trans (((keep_engMark e 1 0 _).fence rfl j).trans noted)
  · exact ((keep_engDark e _).fence rfl j).trans noted

end

theorem getEng_engMark (e : Eng) (step refused : Nat) (s : State) :
    getEng (engMark e step refused s) e = { getEng s e with updStep := step } := by
  unfold engMark
  rw [(keep_raiseF _ _ _ _ _ _ _ _).getEng e, getEng_modEng, if_pos rfl]

/-- Step 2 has begun: the command is the same, and the engine takes no more maps. -/
theorem getEng_engDark (e : Eng) (s : State) :
    (getEng (engDark e s) e).course = ((getEng s e).standing, 2, (getEng s e).updCmd, (getEng s e).updForce) ∧
    (getEng (engDark e s) e).mapsStopped = true := by
  have marked : (getEng (engMark e 2 0 s) e).course = ((getEng s e).standing, 2, (getEng s e).updCmd, (getEng s e).updForce) := by
    rw [getEng_engMark]
    rfl
  have ramped : EngKept EngSt.course e (engMark e 2 0 s) (rampTxOff e (engMark e 2 0 s)) := courseKept_rampTxOff e e _
  unfold engDark
  dsimp only
  generalize rampTxOff e (engMark e 2 0 s) = u at ramped ⊢
  have stopped : (getEng (modEng e (fun x => { x with mapsStopped := true }) u) e).course =
        ((getEng s e).standing, 2, (getEng s e).updCmd, (getEng s e).updForce) ∧
      (getEng (modEng e (fun x => { x with mapsStopped := true }) u) e).mapsStopped = true := by
    rw [getEng_modEng, if_pos rfl]
    exact ⟨Eq.trans ramped marked, rfl⟩
  split
  · exact stopped
  · rw [(keep_dropEngineQueues e _).getEng e]
    exact stopped

/-- An accepted command on an engine that serves no pair goes to step 2. -/
theorem engCmdBegin_step2 {e : Eng} {cmd : Nat} {force byUpd : Bool} {s : State} (runs : (cmd = 1 && (getEng s e).stopped) = false)
    (alone : (s.boot.paired && s.aps.work = some e) = false) :
    let x := getEng (engCmdBegin e cmd force byUpd s) e
    x.updStep = 2 ∧ x.updCmd = cmd ∧ x.updForce = force ∧ x.mapsStopped = true := by
  obtain ⟨course, maps⟩ := getEng_engDark e (engCmdNoted e cmd force byUpd s)
  rw [getEng_engCmdNoted] at course
  simp only [EngSt.course, Prod.mk.injEq] at course
  obtain ⟨-, step, cmd', force'⟩ := course
  rw [engCmdBegin_dark runs alone]
  exact ⟨step, cmd', force', maps⟩

/-! ## A stopped engine resumes (R536) -/

theorem fenceGroup_congr {s t : State} (h : ∀ j, (getIsl t j).fencing = (getIsl s j).fencing) (i : Isl) : fenceGroup t i = fenceGroup s i := by
  unfold fenceGroup
  rw [(fen_of h).2.1]

theorem courseKept_moveResume (k : Eng) (i : Isl) (s : State) : EngKept EngSt.course k s (moveFence .resume i s) := by
  have entered : EngKept EngSt.course k s (forAll (fenceGroup s i) (enterFence .resume) s) :=
    EngKept.forAll (fun j u => .of_same (m := 40802222080) (keep_modIsl j (fun x => { x with fence := .resume }) u)) _ (.refl s)
  exact .ite (entered.trans (courseKept_apsUpdate k _)) entered

theorem engCmdBegin_step3 {e : Eng} {force byUpd : Bool} {s : State} (stopped : (getEng s e).stopped = true) :
    (getEng (engCmdBegin e 1 force byUpd s) e).updStep = 3 ∧
    ∀ j, j ∈ fenceGroup s e.txc → (getIsl (engCmdBegin e 1 force byUpd s) j).fence = .resume := by
  rw [engCmdBegin_resume rfl stopped]
  have marked : Same 235520 s (engMark e 3 0 (engCmdNoted e 1 force byUpd s)) :=
    (same_engMark rfl).mpr ((keep_engCmdNoted e 1 force byUpd s).mono rfl)
  have group : fenceGroup (engMark e 3 0 (engCmdNoted e 1 force byUpd s)) e.txc = fenceGroup s e.txc :=
    fenceGroup_congr (marked .fences rfl) e.txc
  constructor
  · rw [(courseKept_moveResume e e.txc _).updStep, getEng_engMark]
  · rw [← group]
    exact (fencesMoved_moveFence .resume e.txc _).1

/-! ## The words of UPD_ENG_CTL -/

theorem engCtlWord_fields (e : Eng) (cmd : Fin 4) (force : Bool) : (if (engCtlWord e cmd force).getLsbD 0 then Eng.B else .A) = e ∧
    fld (engCtlWord e cmd force) 5 4 = cmd ∧ (engCtlWord e cmd force).getLsbD 8 = force := by
  revert cmd force
  cases e <;> decide

theorem writeEngCtl_word (e : Eng) (cmd : Fin 4) (force : Bool) (s : State) : writeEngCtl (engCtlWord e cmd force) s =
    refuseOr ((writeGate s .mgt).worse (if engCmdRefused s e cmd force then .errState else .ok)) (engCmdBegin e cmd force false) s := by
  obtain ⟨eng, code, forced⟩ := engCtlWord_fields e cmd force
  unfold writeEngCtl
  dsimp only
  rw [eng, code, forced]

theorem execEngineCmdRestart_eq (e : Eng) (force : Bool) (s : State) : execEngineCmdRestart e force s =
    .next (setStatus (refuseOr ((writeGate s .mgt).worse (if engCmdRefused s e 1 force then .errState else .ok)) (engCmdBegin e 1 force false) s)) := by
  unfold execEngineCmdRestart
  exact congrArg _ (congrArg setStatus (writeEngCtl_word e 1 force s))

theorem execEngineCmdStop_eq (e : Eng) (force : Bool) (s : State) : execEngineCmdStop e force s =
    .next (setStatus (refuseOr ((writeGate s .mgt).worse (if engCmdRefused s e 2 force then .errState else .ok)) (engCmdBegin e 2 force false) s)) := by
  unfold execEngineCmdStop
  exact congrArg _ (congrArg setStatus (writeEngCtl_word e 2 force s))

/-! ## The transmitter is dark: the four islands enter QUIESCE (R536) -/

theorem hard_enterQuiesce (i j : Isl) (hard : Bool) (cause : FenceCause) (s : State) :
    (getIsl (enterQuiesce i hard cause s) j).hard = if j = i then hard else (getIsl s j).hard := by
  rw [(fen_of fun j => fencing_enterQuiesce i j hard cause s).2.1, getIsl_modIsl]
  split <;> rfl

theorem fence_enterQuiesce (i j : Isl) (hard : Bool) (cause : FenceCause) (s : State) :
    (getIsl (enterQuiesce i hard cause s) j).fence = if j = i then .quiesce else (getIsl s j).fence := by
  rw [(fen_of fun j => fencing_enterQuiesce i j hard cause s).1, getIsl_modIsl]
  split <;> rfl

theorem hard_quiesceAll (hard : Bool) (cause : FenceCause) (j : Isl) : ∀ (g : List Isl) (s : State),
    (getIsl (forAll g (fun i => enterQuiesce i hard cause) s) j).hard = if j ∈ g then hard else (getIsl s j).hard
  | [], _ => by simp [forAll]
  | i :: g, s => by
    have rest := hard_quiesceAll hard cause j g (enterQuiesce i hard cause s)
    refine rest.trans ?_
    rw [hard_enterQuiesce]
    by_cases j ∈ g <;> by_cases j = i <;> simp [*]

theorem getEng_opticsOff_dark {e : Eng} {s : State} (dark : (getEng s e).down.laser = .dark) :
    (getEng (opticsOff e s) e).down.framer = false := by
  simp [opticsOff, modDown, dark]

/-- The engine is taken out of its state with its optics off (R536 step 3). -/
def engDarkened (e : Eng) (s : State) : State :=
  modEng e (fun x => { x with st := if x.enable then .waiting else .disabled, sfHold := true }) (opticsOff e (engMark e 3 0 s))

theorem getEng_engDarkened {e : Eng} {s : State} (dark : (getEng s e).down.laser = .dark) :
    let x := getEng (engDarkened e s) e
    x.st = (if (getEng s e).enable then .waiting else .disabled) ∧ x.updStep = 3 ∧ x.down.framer = false := by
  have marked := getEng_engMark e 3 0 s
  have off : (getEng (opticsOff e (engMark e 3 0 s)) e).down.framer = false := getEng_opticsOff_dark (by rw [marked]; exact dark)
  have rest : (getEng (opticsOff e (engMark e 3 0 s)) e).enable = (getEng s e).enable ∧ (getEng (opticsOff e (engMark e 3 0 s)) e).updStep = 3 := by
    simp [opticsOff, modDown, marked]
  unfold engDarkened
  rw [getEng_modEng, if_pos rfl]
  dsimp only
  rw [rest.1]
  exact ⟨rfl, rest.2, off⟩

/-- Its islands are fenced and, without a pair, its leaves depart; what follows the change of state follows (R536, R537). -/
def engFenced (e : Eng) (s : State) : State :=
  let cause : FenceCause := if (getEng (opticsOff e (engMark e 3 0 s)) e).updBy then .update else .engine
  let u := forAll e.isls (fun i => enterQuiesce i true cause) (engDarkened e s)
  engChanged (if u.boot.paired then u else leavesGone e u)

theorem engFenced_islands (e : Eng) (s : State) :
    (∀ j, j ∈ e.isls → (getIsl (engFenced e s) j).fence = .quiesce ∧ (getIsl (engFenced e s) j).hard = true) ∧
    (∀ j, j ∉ e.isls → (getIsl (engFenced e s) j).fence = (getIsl s j).fence) := by
  unfold engFenced
  extract_lets cause u
  have before : Same 8590170112 s (engDarkened e s) :=
    (keep_engMark e 3 0 s).mono rfl |>.trans (((keep_opticsOff e _).mono rfl).trans ((keep_modEng e _ _).mono rfl))
  obtain ⟨quiesced, others⟩ := fencesMoved_forAll (fun i s j => fence_enterQuiesce i j true cause s) e.isls (engDarkened e s)
  have after : Same 577501184 u (if u.boot.paired then u else leavesGone e u) := by
    split
    · exact (same_refl _ _).mpr trivial
    · exact keep_leavesGone e u
  have both : Same 578812546 u (engChanged (if u.boot.paired then u else leavesGone e u)) := (after.mono rfl).trans ((keep_engChanged _).mono rfl)
  obtain ⟨fence, hard, -⟩ := fen_of (both .fences rfl)
  refine ⟨fun j hj => ⟨(fence j).trans (quiesced j hj), ?_⟩, fun j hj => (fence j).trans ((others j hj).trans (before.fence rfl j))⟩
  rw [hard, show (getIsl u j).hard = _ from hard_quiesceAll true cause j e.isls (engDarkened e s), if_pos hj]

theorem engFenced_engine {e : Eng} {s : State} (dark : (getEng s e).down.laser = .dark) :
    let x := getEng (engFenced e s) e
    x.st = (if (getEng s e).enable then .waiting else .disabled) ∧ x.updStep = 3 ∧ x.down.framer = false := by
  obtain ⟨st, step, framer⟩ := getEng_engDarkened dark
  unfold engFenced
  extract_lets cause u
  have fenced : EngKept EngSt.course e (engDarkened e s) u := EngKept.forAll (fun i v => courseKept_enterQuiesce e i true cause v) _ (.refl _)
  have stFenced : (getEng u e).st = (getEng (engDarkened e s) e).st :=
    (same_forAll.go (fun i v => keep_enterQuiesce i true cause v) e.isls (engDarkened e s)).engineSt e
  have left : EngKept EngSt.course e u (if u.boot.paired then u else leavesGone e u) := .ite (.refl u) (courseKept_leavesGone e e u)
  have stLeft : (getEng (if u.boot.paired then u else leavesGone e u) e).st = (getEng u e).st := by
    split
    · rfl
    · exact (keep_leavesGone e u).engineSt e
  have quiet := fenced.trans left
  have changed := quiet.trans (courseKept_engChanged (by rw [quiet.updStep, step]; decide))
  refine ⟨?_, changed.updStep.trans step, ?_⟩
  · rw [st_engChanged, stLeft, stFenced, st]
  · exact (congrArg (·.1.2.2.2.2) changed).trans framer

/-! ## The re-read ends a restart (R108, R109, R536) -/

section
variable {k : Eng}

theorem reread_of_standing (x y : EngSt) (h : x.standing = y.standing) : x.reread = y.reread := congrArg (·.2.2.2.1) h

theorem reread_of_course (x y : EngSt) (h : x.course = y.course) : x.reread = y.reread := reread_of_standing x y (congrArg Prod.fst h)

theorem EngKept.reread {s t : State} (h : EngKept EngSt.course k s t) : EngKept EngSt.reread k s t := reread_of_standing _ _ h.standing

theorem rereadKept_engTry (e : Eng) (s : State) : EngKept EngSt.reread k s (engTry e s) :=
  engKept_engTry reread_of_course (.inr reread_of_standing) s

theorem rereadKept_engChanged (s : State) : EngKept EngSt.reread k s (engChanged s) := by
  rw [engChanged_eq]
  exact (((courseKept_apsUpdate k s).reread.trans (rereadKept_engTry .A _)).trans (rereadKept_engTry .B _)).keep (keep_trafficUpdate _)

theorem rereadKept_opticsOff (e : Eng) (s : State) : EngKept EngSt.reread k s (opticsOff e s) := engKept_modDown e s

theorem rereadKept_engFail (e : Eng) (code : Nat) (s : State) : EngKept EngSt.reread k s (engFail e code s) := by
  have told : EngKept EngSt.reread k s (engFailEvent e (engStateCode (getEng s e).st) code (setEngErr e code s)) :=
    .keep (.of_same (keep_setEngErr e code s)) (keep_engFailEvent _ _ _ _)
  have dark := ((told.trans (courseKept_calAbandon k e false _).reread).trans (courseKept_calAbandon k e true _).reread).trans
    (courseKept_rampTxOff k e _).reread
  have off := dark.trans (rereadKept_opticsOff e _)
  unfold engFail
  exact (off.trans (engKept_modEng e _)).trans (rereadKept_engChanged _)

theorem rereadKept_engCmdBegin (e : Eng) (cmd : Nat) (force byUpd : Bool) (s : State) :
    EngKept EngSt.reread k s (engCmdBegin e cmd force byUpd s) := by
  have noted : EngKept EngSt.reread k s (engCmdNoted e cmd force byUpd s) := engKept_modEng e s
  have marked (n : Nat) : EngKept EngSt.reread k s (engMark e n 0 (engCmdNoted e cmd force byUpd s)) :=
    noted.trans (engKept_engMark (.inr reread_of_standing) n 0 _)
  rw [engCmdBegin_eq]
  refine .ite ((marked 3).trans (courseKept_moveResume k _ _).reread) (.ite ((marked 1).trans (rereadKept_engTry e _)) ?_)
  exact noted.trans (engKept_engDark reread_of_course (.inr reread_of_standing) _)

theorem rereadKept_updFence (i : Isl) (s : State) : EngKept EngSt.reread k s (updFence i s) := by
  have aimed : EngKept EngSt.reread k s { s with upd := { s.upd with isl := i.id } } := rfl
  unfold updFence
  dsimp only
  split
  · refine .ite (aimed.trans (rereadKept_engCmdBegin _ _ _ _ _)) (aimed.trans ?_)
    exact ((courseKept_enterQuiesce k _ _ _ _).trans (courseKept_apsUpdate k _)).reread
  · exact aimed.trans (courseKept_enterQuiesce k _ _ _ _).reread

theorem rereadKept_updGo : ∀ (l : List Isl) (s : State), EngKept EngSt.reread k s (updGo l s)
  | [], s => (show EngKept EngSt.reread k s { s with upd := { s.upd with todo := [] } } from rfl).keep (keep_updFinish _)
  | i :: rest, s => by
    unfold updGo
    refine .ite ?_ (.ite ?_ (.ite rfl ?_))
    · have told : EngKept EngSt.reread k s (if s.upd.st = .applying then updIslEvent i 2 s else s) :=
        .ite (.of_same (keep_updIslEvent i 2 s)) (.refl s)
      exact told.trans (rereadKept_updGo rest _)
    · exact .trans (.of_same (keep_updTaken i s)) (rereadKept_updGo rest _)
    · dsimp only
      exact .trans rfl (rereadKept_updFence i _)

theorem rereadKept_updKick (s : State) : EngKept EngSt.reread k s (updKick s) := .ite (rereadKept_updGo _ s) (.refl s)

end

/-- What the watch over a trial leaves: the engines' states and what they re-read, and the boot state. -/
def TrialKept (s t : State) : Prop :=
  (∀ k, (getEng t k).st = (getEng s k).st ∧ (getEng t k).reread = (getEng s k).reread) ∧ t.boot = s.boot

theorem TrialKept.trans {s t u : State} (h : TrialKept s t) (h' : TrialKept t u) : TrialKept s u :=
  ⟨fun k => ⟨(h'.1 k).1.trans (h.1 k).1, (h'.1 k).2.trans (h.1 k).2⟩, h'.2.trans h.2⟩

theorem TrialKept.refl (s : State) : TrialKept s s := ⟨fun _ => ⟨rfl, rfl⟩, rfl⟩

theorem trialKept_updKick (s : State) : TrialKept s (updKick s) :=
  ⟨fun k => ⟨(keep_updKick s).engineSt k, rereadKept_updKick s⟩, keep_updKick s .boot rfl⟩

theorem trialKept_watchFail (f : State → State) (s : State) : TrialKept (f s) (watchFail f s) := by
  have rolled (cause isl : Nat) (u : State) : TrialKept u (updFailed cause isl u) := by
    unfold updFailed
    split
    · exact TrialKept.trans (t := { u with upd := _ }) ⟨fun _ => ⟨rfl, rfl⟩, rfl⟩ (trialKept_updKick _)
    · exact .refl u
  unfold watchFail
  dsimp only
  split
  · exact rolled _ _ _
  · exact .refl _

/-! ## The flash interface over the end of a re-read -/

theorem nvmBusy_engChanged (s : State) : (engChanged s).boot.nvmBusy = s.boot.nvmBusy := by
  have before : (engTry .B (engTry .A (apsUpdate s))).boot = s.boot :=
    (keep_engTry .B _ .boot rfl).trans ((keep_engTry .A _ .boot rfl).trans (keep_apsUpdate s .boot rfl))
  rw [engChanged_eq, ← before]
  unfold trafficUpdate
  split
  · exact (boot_trafficRise _ _).2.trans (congrArg Boot.nvmBusy (keep_draw Config.freeBool _ .boot rfl))
  · exact (boot_trafficRise true _).2

theorem nvmBusy_setEngErr (e : Eng) (code : Nat) (s : State) : (setEngErr e code s).boot.nvmBusy = s.boot.nvmBusy := by
  cases e <;> rfl

theorem nvmBusy_engFail (e : Eng) (code : Nat) (s : State) : (engFail e code s).boot.nvmBusy = s.boot.nvmBusy := by
  unfold engFail
  dsimp only
  rw [nvmBusy_engChanged, keep_modEng e _ _ .boot rfl, keep_opticsOff e _ .boot rfl, keep_rampTxOff e _ .boot rfl,
    keep_calAbandon e true _ .boot rfl, keep_calAbandon e false _ .boot rfl, keep_engFailEvent e _ code _ .boot rfl, nvmBusy_setEngErr]

/-- The records of an engine that is read again go in, and leave the boot state alone. -/
theorem boot_recordsReread (e : Eng) (whole : Bool) (recs : List ImgRec) (s : State) :
    (judgeAgain [e] recs (takeRecs [e] whole (loadPairRestart e recs) recs (clearEngine e s))).boot = s.boot :=
  (keep_judgeAgain _ _ _ .boot rfl).trans ((keep_takeRecs _ _ _ _ _ (m := 540738560) rfl (keep_loadPairRestart e recs) .boot rfl).trans
    (keep_clearEngine e s .boot rfl))

theorem nvmBusy_rereadJudged (e : Eng) (reads : List (List Byte × FlashRead)) (s : State) : (rereadJudged e reads s).boot.nvmBusy = false := by
  unfold rereadJudged
  extract_lets r s1 old src1 s2 recs filt cd src2 s3 s4
  have free : s4.boot.nvmBusy = false := congrArg Boot.nvmBusy (boot_recordsReread e _ recs s3)
  clear_value s4
  split
  · exact free
  · exact (congrArg Boot.nvmBusy (keep_dropSeeds e s4 .boot rfl)).trans free

/-- The re-read has been judged, and the command of the engine ends. -/
def rereadEnded (e : Eng) (reads : List (List Byte × FlashRead)) (s : State) : State :=
  engCmdEnd e (modEng e (fun x => { x with reread := false }) (rereadJudged e reads s))

theorem getEng_rereadEnded (e : Eng) (reads : List (List Byte × FlashRead)) (s : State) : (getEng (rereadEnded e reads s) e).reread = false ∧
    (getEng (rereadEnded e reads s) e).illegal = (getEng (rereadJudged e reads s) e).illegal ∧ (rereadEnded e reads s).boot.nvmBusy = false := by
  refine ⟨by simp [rereadEnded, engCmdEnd], by simp [rereadEnded, engCmdEnd], ?_⟩
  unfold rereadEnded
  rw [keep_engCmdEnd e _ .boot rfl, keep_modEng e _ _ .boot rfl, nvmBusy_rereadJudged]

/-- The engine tunes again, or has failed; in a pair on one tree engine B fails where the trees then differ (R109, R200). -/
def rereadSettled (e : Eng) (s : State) : State :=
  if (getEng s e).illegal then engFail e engineValue s
  else engChanged (engTune e (if e = .A && treesDiffer s then engFail .B engineValue s else s))

theorem rereadDone_eq (e : Eng) (reads : List (List Byte × FlashRead)) (s : State) :
    rereadDone e reads s = rereadSettled e (rereadEnded e reads s) := by
  unfold rereadDone rereadSettled rereadEnded
  rfl

theorem rereadSettled_engine (e : Eng) (s : State) :
    (getEng (rereadSettled e s) e).reread = (getEng s e).reread ∧ (rereadSettled e s).boot.nvmBusy = s.boot.nvmBusy ∧
    (getEng (rereadSettled e s) e).st = if (getEng s e).illegal then .failed else .tuning := by
  unfold rereadSettled
  split
  · exact ⟨rereadKept_engFail e engineValue s, nvmBusy_engFail e engineValue s, by rw [st_engFail, if_pos rfl]⟩
  · have other : EngKept EngSt.reread e s (if e = .A && treesDiffer s then engFail .B engineValue s else s) :=
      .ite (rereadKept_engFail .B engineValue s) (.refl s)
    have free : (if e = .A && treesDiffer s then engFail .B engineValue s else s).boot.nvmBusy = s.boot.nvmBusy := by
      split
      · exact nvmBusy_engFail .B engineValue s
      · rfl
    generalize (if e = .A && treesDiffer s then engFail .B engineValue s else s) = u at other free ⊢
    have tuned : EngKept EngSt.reread e u (engTune e u) := engKept_modEng e u
    refine ⟨other.trans (tuned.trans (rereadKept_engChanged _)), ?_, by rw [st_engChanged, st_engTune, if_pos rfl]⟩
    rw [nvmBusy_engChanged, keep_engTune e u .boot rfl, free]

theorem rereadDone_engine (e : Eng) (reads : List (List Byte × FlashRead)) (s : State) :
    let t := rereadDone e reads s
    (getEng t e).reread = false ∧ t.boot.nvmBusy = false ∧
      (getEng t e).st = (if (getEng (rereadJudged e reads s) e).illegal then .failed else .tuning) := by
  obtain ⟨read, judged, free⟩ := getEng_rereadEnded e reads s
  obtain ⟨read', free', st⟩ := rereadSettled_engine e (rereadEnded e reads s)
  dsimp only
  rw [rereadDone_eq, ← judged]
  exact ⟨read'.trans read, free'.trans free, st⟩

/-- Settles O58: a command goes to its step, its fences follow once the transmitter is dark, and the end of the re-read judges the engine. -/
theorem engineCommands : Obligations.EngineCommands := by
  refine ⟨fun e force s => ?_, fun e force s => ?_, fun e s => ?_, fun e reads s => ?_⟩
  · refine writes_refuseOr (execEngineCmdRestart_eq e force s) (fun t => keep_execEngineCmdRestart e force s) (mask_sub rfl)
      fun _ => ⟨fun alone runs => ?_, fun stopped => ?_, fun j runs => ?_⟩
    · exact engCmdBegin_step2 (by simp [runs]) alone
    · exact engCmdBegin_step3 stopped
    · exact fence_engCmdBegin (by simp [runs]) j
  · refine writes_refuseOr (execEngineCmdStop_eq e force s) (fun t => keep_execEngineCmdStop e force s) (mask_sub rfl)
      fun _ => ⟨fun alone => ?_, fun j => ?_⟩
    · exact engCmdBegin_step2 rfl alone
    · exact fence_engCmdBegin rfl j
  · refine actsIf_actF (f := engFenced e) rfl (fun t => keep_execEngineCmdTxDark e s) (mask_sub rfl) fun g => ?_
    simp only [Bool.and_eq_true, decide_eq_true_eq] at g
    obtain ⟨st, step, framer⟩ := engFenced_engine g.2
    simp only [getIsl_noteFault, getEng_noteFault]
    exact ⟨st, step, framer, engFenced_islands e s⟩
  · refine actsIf_actF (f := fun s => updKick (watchFail (rereadDone e reads) s)) rfl (fun t => keep_execEngineImageRereadDone e reads s)
      (mask_sub rfl) fun _ => ?_
    obtain ⟨engines, boot⟩ := (trialKept_watchFail (rereadDone e reads) s).trans (trialKept_updKick _)
    obtain ⟨read, free, st⟩ := rereadDone_engine e reads s
    rw [getEng_noteFault, boot_noteFault, (engines e).1, (engines e).2, boot]
    exact ⟨read, free, st⟩

end Sys2Proof.Machine

end

section
/-! A shutdown command before READY (R81, R567): the start that it abandons leaves the count of the noise source's blocks (R426, R427), as every
stop does (`keep`), and so not all of the volatile state is as after reset. -/

namespace Sys2Proof.Machine

-- One theorem after another: each theorem that waits for another holds a thread with its stack, and many do not fit a check.
set_option Elab.async false

/-- Before READY the command abandons the start and is answered with ERR_STATE (R80, R81). -/
theorem execBistCtlShutdownTest_beforeReady {s : State} (h : beforeReady s = true) : exec .bistCtlShutdownTest s =
    .next (noteFault s { abortStart s with pwr := { (abortStart s).pwr with cmdOff := true }, status := .errState }) := by
  have command : (fld (0x5D01 : W32) 15 0 = 0x5D01) := by decide
  show Host.Outcome.next (noteFault s (setStatus (writeBistCtl 0x5D01 s))) = _
  unfold writeBistCtl
  dsimp only
  rw [command, h]
  rfl

/-- The abandoned start keeps the count of blocks drawn. -/
theorem draws_shutdownBeforeReady {s t : State} (h : beforeReady s = true) (he : exec .bistCtlShutdownTest s = .next t) :
    t.sec.draws = s.sec.draws := by
  cases (execBistCtlShutdownTest_beforeReady h).symm.trans he
  rw [keep_noteFault _ _ .sec rfl]
  rfl

/-- A start whose noise source has given one block. -/
def drawnInStart : State := { State.reset with pwr := { run := .starting }, sec := { draws := 1 } }

/-- Refutes O60: a shutdown command before READY abandons the start, but the count of the noise source's blocks is still 1 then, where the
statement has all of KEY and CRYP as it is after reset. -/
theorem not_orderlyShutdown : ¬ Obligations.OrderlyShutdown := by
  intro h
  obtain ⟨command, -⟩ := h
  obtain ⟨t, he, -, -, -, -, clear, -⟩ := (command drawnInStart).1 rfl
  exact not_cleared_of_draws (by rw [draws_shutdownBeforeReady rfl he]; decide) clear

end Sys2Proof.Machine

end

section
/-! The ramps of an engine's subcarrier groups (R142 to R145): each operation writes the groups and the streams of its engine and nothing else,
and gives the group that it names a state that is a function of the one before. -/

namespace Sys2Proof.Machine

-- One theorem after another: each theorem that waits for another holds a thread with its stack, and many do not fit a check.
set_option Elab.async false

/-! ## What an operation on a group leaves -/

/-- An engine's record without its groups and their streams. -/
def EngSt.bare (x : EngSt) : EngSt := { x with down := { x.down with grp := [], scs := [] } }

/-- Group `n` of an engine's record. -/
def EngSt.group (n : Nat) (x : EngSt) : GrpSt := tget {} x.down.grp n

theorem getGrp_eq (s : State) (e : Eng) (n : Nat) : getGrp s e n = (getEng s e).group n := rfl

/-- Between `s` and `t` nothing changed but groups and streams of engine `e`. -/
structure GroupsOnly (e : Eng) (s t : State) : Prop where
  other : ∀ k, k ≠ e → getEng t k = getEng s k
  bare : (getEng t e).bare = (getEng s e).bare
  rest : Same 196608 s t

section
variable {e : Eng} {s t : State}

theorem GroupsOnly.refl (e : Eng) (s : State) : GroupsOnly e s s := ⟨fun _ _ => rfl, rfl, (same_refl _ s).mpr trivial⟩

theorem GroupsOnly.trans {u : State} (h : GroupsOnly e s t) (h' : GroupsOnly e t u) : GroupsOnly e s u :=
  ⟨fun k hk => (h'.other k hk).trans (h.other k hk), h'.bare.trans h.bare, h.rest.trans h'.rest⟩

theorem GroupsOnly.when {c : Bool} {f : State → State} (h : GroupsOnly e s (f s)) : GroupsOnly e s (when c f s) := by
  unfold Machine.when
  split
  · exact h
  · exact .refl e s

theorem GroupsOnly.forAll {α : Type} {f : α → State → State} (hf : ∀ a u, GroupsOnly e u (f a u)) :
    ∀ (l : List α) (s : State), GroupsOnly e s (forAll l f s)
  | [], s => .refl e s
  | a :: l, s => (hf a s).trans (GroupsOnly.forAll hf l (f a s))

theorem GroupsOnly.down (h : GroupsOnly e s t) {β : Type} (g : Down → β) (hg : ∀ d : Down, g { d with grp := [], scs := [] } = g d := by intro d; rfl) :
    g (getEng t e).down = g (getEng s e).down := by
  rw [← hg (getEng t e).down, ← hg (getEng s e).down]
  exact congrArg (fun x => g x.down) h.bare

theorem GroupsOnly.clk (h : GroupsOnly e s t) : t.clk = s.clk := h.rest .clk rfl

theorem GroupsOnly.pwr (h : GroupsOnly e s t) : t.pwr = s.pwr := h.rest .pwr rfl

theorem GroupsOnly.regs (h : GroupsOnly e s t) (r : Reg) (k : Eng) (i : Nat) : getReg t r k i = getReg s r k i := getReg_congr (h.rest .regs rfl) r k i

theorem GroupsOnly.lit (h : GroupsOnly e s t) : lit t e = lit s e := by
  unfold Machine.lit
  rw [h.down fun d => d.laser]

theorem GroupsOnly.grpNs (h : GroupsOnly e s t) : grpNs t e = grpNs s e := by simp only [Machine.grpNs, regF, h.regs]

theorem GroupsOnly.laserNs (h : GroupsOnly e s t) : laserNs t e = laserNs s e := by simp only [Machine.laserNs, laserMs, regF, h.regs]

theorem GroupsOnly.grpEn (h : GroupsOnly e s t) (n : Nat) : grpEn t e n = grpEn s e n := by simp only [Machine.grpEn, h.regs]

end

/-- A write of the groups and the streams. -/
theorem groupsOnly_modDown (e : Eng) (f : Down → Down) (s : State)
    (hf : ∀ d : Down, { f d with grp := [], scs := [] } = { d with grp := [], scs := [] } := by intro d; rfl) : GroupsOnly e s (modDown e f s) where
  other k hk := by rw [getEng_modDown, if_neg hk]
  bare := by
    rw [getEng_modDown, if_pos rfl]
    exact congrArg (fun d => { getEng s e with down := d }) (hf _)
  rest := keep_modDown e f s

section
variable (e : Eng) (g : Nat) (s : State)

theorem groupsOnly_setGrp (x : GrpSt) : GroupsOnly e s (setGrp e g x s) := groupsOnly_modDown e _ s

theorem groupsOnly_rampGrp (st : GrpState) (v : Env) : GroupsOnly e s (rampGrp e g st v s) := groupsOnly_setGrp e g s _

theorem groupsOnly_setStream (x : Nat → ScSt) : GroupsOnly e s (setStream e g x s) := groupsOnly_modDown e _ s

theorem groupsOnly_startStream : GroupsOnly e s (startStream e g s) := groupsOnly_setStream e g s _

theorem groupsOnly_endStream : GroupsOnly e s (endStream e g s) := groupsOnly_setStream e g s _

theorem groupsOnly_grpOn : GroupsOnly e s (grpOn e g s) := by
  unfold grpOn
  dsimp only
  split
  · exact .when (groupsOnly_rampGrp e g s _ _)
  · exact .when (groupsOnly_rampGrp e g s _ _)
  all_goals exact .refl e s

theorem groupsOnly_grpDim (dur : Nat) : GroupsOnly e s (grpDim e g dur s) := by
  unfold grpDim
  split
  · exact groupsOnly_rampGrp e g s _ _
  · exact groupsOnly_rampGrp e g s _ _
  · exact groupsOnly_rampGrp e g s _ _
  · exact groupsOnly_rampGrp e g s _ _
  · exact groupsOnly_endStream e g s
  · exact .refl e s

theorem groupsOnly_grpOff : GroupsOnly e s (grpOff e g s) := .when (groupsOnly_grpDim e g s _)

/-! ## The group that an operation names -/

/-- The streams are not the groups' states. -/
@[simp] theorem getGrp_setStream (x : Nat → ScSt) (n : Nat) : getGrp (setStream e g x s) e n = getGrp s e n := by simp [setStream, getGrp]

@[simp] theorem getGrp_startStream (n : Nat) : getGrp (startStream e g s) e n = getGrp s e n := getGrp_setStream e g s _ n

@[simp] theorem getGrp_endStream (n : Nat) : getGrp (endStream e g s) e n = getGrp s e n := getGrp_setStream e g s _ n

@[simp] theorem getGrp_rampGrp (st : GrpState) (v : Env) (n : Nat) :
    getGrp (rampGrp e g st v s) e n = if n = g then { getGrp s e n with st := st, env := v } else getGrp s e n := by
  rw [rampGrp, getGrp_setGrp]
  split
  · next h => rw [h]
  · rfl

end

/-- A group whose EN bit is written to 1, with the laser lit or not, and with ramps free to begin or not (R143, R145, R146). -/
def GrpSt.begun (x : GrpSt) (lit free : Bool) (now : Nat) : GrpSt :=
  match x.st with
  | .off => if lit && free then { x with st := .waiting, env := {} } else x
  | .rampOff => if free then { x with st := .rampOn, env := x.env.reverse now } else x
  | .waiting | .rampOn | .settling | .on => x

/-- A group that goes dark over `dur` ns, or back from where its ramp stands (R143, R144). -/
def GrpSt.dimmed (x : GrpSt) (now dur : Nat) : GrpSt :=
  match x.st with
  | .waiting => { x with st := .off, env := {} }
  | .rampOn => { x with st := .rampOff, env := x.env.reverse now }
  | .settling | .on => { x with st := .rampOff, env := .down now dur }
  | .off | .rampOff => x

/-- The ramps of an engine's groups may begin: it is not being taken dark, and no emergency shutdown runs (R145, R146). -/
def rampsFree (s : State) (e : Eng) : Bool := ! (getEng s e).down.offing && s.pwr.emerg = .none

theorem GroupsOnly.free {e : Eng} {s t : State} (h : GroupsOnly e s t) : rampsFree t e = rampsFree s e := by
  unfold rampsFree
  rw [h.down fun d => d.offing, h.pwr]

theorem getGrp_grpOn (e : Eng) (g n : Nat) (s : State) : getGrp (grpOn e g s) e n =
    if n = g then (getGrp s e n).begun (lit s e) (rampsFree s e) s.clk.now else getGrp s e n := by
  have waits : getGrp (when (lit s e && rampsFree s e) (setGrpSt e g .waiting) s) e n =
      if n = g ∧ (lit s e && rampsFree s e) = true then { getGrp s e n with st := .waiting, env := {} } else getGrp s e n := by
    unfold when
    by_cases n = g <;> split <;> simp [setGrpSt, *]
  have reverses (v : Env) : getGrp (when (rampsFree s e) (rampGrp e g .rampOn v) s) e n =
      if n = g ∧ rampsFree s e = true then { getGrp s e n with st := .rampOn, env := v } else getGrp s e n := by
    unfold when
    by_cases n = g <;> split <;> simp [*]
  unfold grpOn GrpSt.begun
  by_cases named : n = g
  · subst named
    cases st : (getGrp s e n).st <;> simp only [true_and, if_true] at waits reverses ⊢
    · exact waits
    · exact reverses _
  · simp only [named, false_and, if_false] at waits reverses ⊢
    split
    · exact waits
    · exact reverses _
    all_goals rfl

theorem getGrp_grpDim (e : Eng) (g n dur : Nat) (s : State) : getGrp (grpDim e g dur s) e n =
    if n = g then (getGrp s e n).dimmed s.clk.now dur else getGrp s e n := by
  by_cases named : n = g
  · subst named
    rw [if_pos rfl]
    unfold grpDim GrpSt.dimmed
    split <;> simp [setGrpSt, *]
  · rw [if_neg named]
    unfold grpDim
    split <;> simp [setGrpSt, named]

theorem getGrp_grpOff (e : Eng) (g n : Nat) (s : State) : getGrp (grpOff e g s) e n =
    if n = g ∧ s.pwr.emerg = .none then (getGrp s e n).dimmed s.clk.now (grpNs s e) else getGrp s e n := by
  unfold grpOff when
  by_cases calm : s.pwr.emerg = .none
  · simp only [calm, decide_true, if_true, and_true]
    exact getGrp_grpDim e g n _ s
  · simp [calm]

/-- An operation on each group of a list that gives group `n` the value that `F` makes of it, and no other group's operation touches it. -/
theorem getGrp_forAll {f : Nat → State → State} {F : GrpSt → GrpSt} {e : Eng} {n : Nat} (own : ∀ g u, GroupsOnly e u (f g u)) :
    ∀ (l : List Nat) (s : State), l.Nodup →
      (∀ g u, GroupsOnly e s u → getGrp (f g u) e n = if n = g then F (getGrp u e n) else getGrp u e n) →
      getGrp (forAll l f s) e n = if n ∈ l then F (getGrp s e n) else getGrp s e n
  | [], _, _, _ => rfl
  | g :: l, s, once, named => by
    obtain ⟨fresh, once⟩ := List.nodup_cons.mp once
    have rest := getGrp_forAll own l (f g s) once fun g' u h => named g' u ((own g s).trans h)
    refine rest.trans ?_
    rw [named g s (.refl e s)]
    by_cases h : n = g
    · subst h
      simp [fresh]
    · simp [h]

end Sys2Proof.Machine

end

section
/-! The events of a subcarrier group and the writes of DS_GRP_EN (R142 to R147, R153). -/

namespace Sys2Proof.Machine

-- One theorem after another: each theorem that waits for another holds a thread with its stack, and many do not fit a check.
set_option Elab.async false

/-! ## A setting after a write -/

theorem getReg_setReg_same (r : Reg) (e : Eng) (i : Nat) (v : W32) (s : State) : getReg (setReg r e i v s) r e i = v :=
  tget_tset_self _ _ _ _

theorem getReg_setReg_ne {r q : Reg} {e k : Eng} {i j : Nat} (v : W32) (s : State) (h : q.addr k j 0 ≠ r.addr e i 0) :
    getReg (setReg r e i v s) q k j = getReg s q k j := by
  unfold getReg setReg tset
  dsimp only
  split
  · exact tget_tdel_ne _ _ h
  · exact tget_tput_ne _ _ _ h

/-- A write of DS_GRP_EN leaves DS_RAMP, and the word of the other engine. -/
theorem getReg_setGrpEn_ramp (e k : Eng) (v : W32) (s : State) : getReg (setReg .dsGrpEn e 0 v s) .dsRamp k 0 = getReg s .dsRamp k 0 :=
  getReg_setReg_ne v s (by cases e <;> cases k <;> decide)

theorem getReg_setGrpEn_other {e k : Eng} (h : k ≠ e) (v : W32) (s : State) :
    getReg (setReg .dsGrpEn e 0 v s) .dsGrpEn k 0 = getReg s .dsGrpEn k 0 :=
  getReg_setReg_ne v s (by revert h; cases e <;> cases k <;> decide)

/-! ## A write of DS_GRP_EN (R143, R147) -/

/-- Group `g`, which was `x`, after DS_GRP_EN takes the value `v` (R143, R146). -/
def grpWritten (s : State) (e : Eng) (v : W32) (g : Nat) (x : GrpSt) : GrpSt :=
  if grpEn s e g && ! v.getLsbD g then (if s.pwr.emerg = .none then x.dimmed s.clk.now (grpNs s e) else x)
  else if ! grpEn s e g && v.getLsbD g then x.begun (lit s e) (rampsFree s e) s.clk.now
  else x

/-- The value is the engine's own: another engine's write does not move it. -/
theorem grpWritten_congr {s t : State} {e : Eng} (eng : getEng t e = getEng s e) (pwr : t.pwr = s.pwr) (clk : t.clk = s.clk)
    (en : getReg t .dsGrpEn e 0 = getReg s .dsGrpEn e 0) (ramp : getReg t .dsRamp e 0 = getReg s .dsRamp e 0) : grpWritten t e = grpWritten s e := by
  funext v g x
  have bit : grpEn t e g = grpEn s e g := by rw [grpEn, en, grpEn]
  have dur : grpNs t e = grpNs s e := by rw [grpNs, regF, ramp, grpNs, regF]
  have lamp : lit t e = lit s e := by rw [lit, eng, lit]
  have free : rampsFree t e = rampsFree s e := by rw [rampsFree, eng, pwr, rampsFree]
  rw [grpWritten, bit, pwr, clk, dur, lamp, free, grpWritten]

/-- What DS_GRP_EN does to its groups is all it does behind the write of the word. -/
theorem groupsOnly_grpEnApply (e : Eng) (v : W32) (s : State) : GroupsOnly e (setReg .dsGrpEn e 0 (v &&& 0xFF) s) (grpEnApply e v s) := by
  unfold grpEnApply
  refine GroupsOnly.forAll (fun g u => ?_) _ _
  split
  · exact groupsOnly_grpOff e g u
  · split
    · exact groupsOnly_grpOn e g u
    · exact .refl e u

theorem getReg_grpEnApply (e : Eng) (v : W32) (s : State) : getReg (grpEnApply e v s) .dsGrpEn e 0 = v &&& 0xFF := by
  rw [(groupsOnly_grpEnApply e v s).regs, getReg_setReg_same]

theorem getGrp_grpEnApply (e : Eng) (v : W32) (s : State) (n : Nat) : getGrp (grpEnApply e v s) e n =
    if n < 8 then grpWritten s e v n (getGrp s e n) else getGrp s e n := by
  have ramp : grpNs (setReg .dsGrpEn e 0 (v &&& 0xFF) s) e = grpNs s e := by simp only [grpNs, regF, getReg_setGrpEn_ramp]
  have lamp : lit (setReg .dsGrpEn e 0 (v &&& 0xFF) s) e = lit s e ∧ rampsFree (setReg .dsGrpEn e 0 (v &&& 0xFF) s) e = rampsFree s e := ⟨rfl, rfl⟩
  have groups : getGrp (setReg .dsGrpEn e 0 (v &&& 0xFF) s) e n = getGrp s e n := rfl
  unfold grpEnApply
  rw [getGrp_forAll (F := grpWritten s e v n) (fun g u => ?own) _ _ List.nodup_range fun g u h => ?named, groups]
  · simp only [List.mem_range]
  case own =>
    split
    · exact groupsOnly_grpOff e g u
    · split
      · exact groupsOnly_grpOn e g u
      · exact .refl e u
  case named =>
    have pwr : u.pwr = s.pwr := h.pwr
    have clk : u.clk = s.clk := h.clk
    by_cases named : n = g
    · subst named
      rw [if_pos rfl, grpWritten]
      split
      · rw [getGrp_grpOff, pwr, clk, h.grpNs, ramp]
        simp only [true_and]
      · split
        · rw [getGrp_grpOn, if_pos rfl, clk, h.lit, h.free, lamp.1, lamp.2]
        · rfl
    · rw [if_neg named]
      split
      · rw [getGrp_grpOff, if_neg fun both => named both.1]
      · split
        · rw [getGrp_grpOn, if_neg named]
        · rfl

/-- The write as its host sees it: both engines of a pair take it (R287). -/
theorem grpEn_written (e : Eng) (v : W32) (s : State) :
    let t := forAll (writeTargets s e) (fun k => grpEnApply k v) s
    getReg t .dsGrpEn e 0 = v &&& 0xFF ∧
    ∀ n, getGrp t e n = if n < 8 then grpWritten s e v n (getGrp s e n) else getGrp s e n := by
  intro t
  cases paired : s.boot.paired with
  | false =>
    have alone : t = grpEnApply e v s := by simp only [t, writeTargets, paired]; rfl
    rw [alone]
    exact ⟨getReg_grpEnApply e v s, getGrp_grpEnApply e v s⟩
  | true =>
    have both : t = grpEnApply .B v (grpEnApply .A v s) := by simp only [t, writeTargets, paired]; rfl
    have first := groupsOnly_grpEnApply .A v s
    have second := groupsOnly_grpEnApply .B v (grpEnApply .A v s)
    rw [both]
    cases e with
    | A =>
      have eng : getEng (grpEnApply .B v (grpEnApply .A v s)) .A = getEng (grpEnApply .A v s) .A := second.other .A (by decide)
      refine ⟨?_, fun n => ?_⟩
      · rw [second.regs, getReg_setGrpEn_other (by decide), getReg_grpEnApply]
      · rw [getGrp_eq, eng, ← getGrp_eq, getGrp_grpEnApply]
    | B =>
      have eng : getEng (grpEnApply .A v s) .B = getEng s .B := first.other .B (by decide)
      have en : getReg (grpEnApply .A v s) .dsGrpEn .B 0 = getReg s .dsGrpEn .B 0 := by rw [first.regs, getReg_setGrpEn_other (by decide)]
      have ramp : getReg (grpEnApply .A v s) .dsRamp .B 0 = getReg s .dsRamp .B 0 := by rw [first.regs, getReg_setGrpEn_ramp]
      refine ⟨getReg_grpEnApply .B v _, fun n => ?_⟩
      rw [getGrp_grpEnApply, grpWritten_congr eng first.pwr first.clk en ramp, getGrp_eq (grpEnApply .A v s), eng, ← getGrp_eq]

section
variable {s : State} {e : Eng} {v : W32} {g : Nat} {x : GrpSt}

/-- A bit that keeps its value leaves its group. -/
theorem grpWritten_same (h : grpEn s e g = v.getLsbD g) : grpWritten s e v g x = x := by
  unfold grpWritten
  rw [h]
  cases v.getLsbD g <;> rfl

theorem grpWritten_cleared (was : grpEn s e g = true) (now : v.getLsbD g = false) (calm : s.pwr.emerg = .none) :
    grpWritten s e v g x = x.dimmed s.clk.now (grpNs s e) := by simp [grpWritten, was, now, calm]

theorem grpWritten_set (was : grpEn s e g = false) (now : v.getLsbD g = true) :
    grpWritten s e v g x = x.begun (lit s e) (rampsFree s e) s.clk.now := by simp [grpWritten, was, now]

/-- In an emergency shutdown no group ramp runs (R146). -/
theorem begun_notFree (lit : Bool) (now : Nat) : x.begun lit false now = x := by
  unfold GrpSt.begun
  split <;> simp

theorem grpWritten_emergency (h : s.pwr.emerg ≠ .none) : grpWritten s e v g x = x := by
  simp [grpWritten, rampsFree, h, begun_notFree]

/-! The state that a group takes, by the state that it leaves. -/

theorem dimmed_dark {now dur : Nat} (h : x.st = .off ∨ x.st = .waiting) : (x.dimmed now dur).st = .off := by
  rcases h with h | h <;> simp [GrpSt.dimmed, h]

theorem dimmed_rising {now dur : Nat} (h : x.st = .rampOn) : x.dimmed now dur = { x with st := .rampOff, env := x.env.reverse now } := by
  simp [GrpSt.dimmed, h]

theorem dimmed_full {now dur : Nat} (h : x.st = .settling ∨ x.st = .on) : x.dimmed now dur = { x with st := .rampOff, env := .down now dur } := by
  rcases h with h | h <;> simp [GrpSt.dimmed, h]

theorem begun_off {lit free : Bool} {now : Nat} (h : x.st = .off) : (x.begun lit free now).st = if lit && free then .waiting else .off := by
  unfold GrpSt.begun
  rw [h]
  dsimp only
  split
  · rfl
  · exact h

theorem begun_falling {lit : Bool} {now : Nat} (h : x.st = .rampOff) :
    x.begun lit true now = { x with st := .rampOn, env := x.env.reverse now } := by simp [GrpSt.begun, h]

theorem rampsFree_calm (calm : s.pwr.emerg = .none) : rampsFree s e = ! (getEng s e).down.offing := by simp [rampsFree, calm]

end

/-! ## The events of a group (R143, R153) -/

theorem getScSt_startStream (e : Eng) (g k : Nat) (s : State) (h : k < 4) :
    getScSt (startStream e g s) e (4 * g + k) = { live := true, scr := scrambleInit (4 * g + k) } := by
  have four : k = 0 ∨ k = 1 ∨ k = 2 ∨ k = 3 := by omega
  rcases four with rfl | rfl | rfl | rfl <;> simp [getScSt, startStream, setStream, tget_tset]

/-- The state after DS_GROUP_ON: the group has settled, with its event. -/
def grpSettled (e : Eng) (g : Nat) (s : State) : State :=
  raiseF e.txd 0x0401 (dsObj e (4 * g)) (packData [(8, grpFmt s e g), (16, fnOf s e)]) .dsFlags e 0 (setGrpSt e g .on s)

/-- A report made before updates that leave the records and the flags alone. -/
theorem reported_before {i : Isl} {code obj : Nat} {data : BitVec 80} {r : Reg} {e : Eng} {b m : Nat} {s t u : State} (k : Same m t u)
    (h : reported i code obj data r e b s t) (hm : (eventParts.all fun p => ! m.testBit p.bit) = true := by rfl) :
    reported i code obj data r e b s u := by
  have kept (p : Part) (hp : p ∈ eventParts) : p.same t u := k p (by simpa using List.all_eq_true.mp hm p hp)
  unfold reported
  rw [recorded_isls (kept .isls (by decide)), flagged_congr (kept .flags (by decide)) (kept .rsc (by decide))]
  exact h

/-- A group is dark: its state and its streams end, and the event is raised behind that. -/
def grpEnded (e : Eng) (g : Nat) (s : State) : State := endStream e g (setGrp e g {} s)

theorem groupsOnly_grpEnded (e : Eng) (g : Nat) (s : State) : GroupsOnly e s (grpEnded e g s) :=
  (groupsOnly_setGrp e g s {}).trans (groupsOnly_endStream e g _)

theorem getEng_grpDark (e k : Eng) (g : Nat) (s : State) : getEng (grpDark e g s) k = getEng (grpEnded e g s) k :=
  (keep_raiseF _ _ _ _ _ _ _ _).getEng k

theorem getGrp_grpDark (e : Eng) (g n : Nat) (s : State) : getGrp (grpDark e g s) e n = if n = g then {} else getGrp s e n := by
  rw [getGrp_eq, getEng_grpDark, ← getGrp_eq, grpEnded, getGrp_endStream, getGrp_setGrp]

theorem reported_grpDark (e : Eng) (g : Nat) (s : State) :
    reported e.txd 0x0402 (256 * e.num + 4 * g) (packData [(16, (getEng s e).down.frames % 65536)]) .dsFlags e 1 s (grpDark e g s) :=
  reported_raiseF_after (groupsOnly_grpEnded e g s).rest (by decide)

/-- Groups 0 and 4, which carry the control slots, are not among the others (R145). -/
theorem dataGroups_notControl : ∀ n, n ∈ dataGroups → n ∉ [0, 4] := by decide

/-- The laser begins to go dark with groups 0 and 4. -/
theorem laserOff_effect (e : Eng) (s : State) : let t := laserOff e s
    (∀ k, k ≠ e → getEng t k = getEng s k) ∧
    (∀ n, getGrp t e n = if n ∈ [0, 4] then (getGrp s e n).dimmed s.clk.now (laserNs s e) else getGrp s e n) ∧
    (getEng t e).down.laser = (if (getEng s e).down.laser = .dark && (getEng s e).st ≠ .standby then .dark else .rampingOff) ∧
    (getEng t e).down.offing = false := by
  intro t
  let u := forAll [0, 4] (fun g u => grpDim e g (laserNs u e) u) s
  have dimmed : GroupsOnly e s u := GroupsOnly.forAll (fun g u => groupsOnly_grpDim e g u _) _ s
  have groups (n : Nat) : getGrp u e n = if n ∈ [0, 4] then (getGrp s e n).dimmed s.clk.now (laserNs s e) else getGrp s e n :=
    getGrp_forAll (F := fun x => x.dimmed s.clk.now (laserNs s e)) (fun g u => groupsOnly_grpDim e g u _) _ s (by decide)
      fun g u h => by rw [getGrp_grpDim, h.clk, h.laserNs]
  have lamp : (getEng t e).down = { (getEng u e).down with
      laser := if (getEng u e).down.laser = .dark && (getEng s e).st ≠ .standby then .dark else .rampingOff, offing := false } := by
    simp only [t, laserOff]
    rw [getEng_modDown, if_pos rfl]
  refine ⟨fun k hk => ?_, fun n => ?_, ?_, ?_⟩
  · rw [← dimmed.other k hk]
    exact getEng_modDown e k _ u |>.trans (if_neg hk)
  · rw [← groups n, getGrp, lamp]
    rfl
  · rw [lamp, ← dimmed.down fun d => d.laser]
  · rw [lamp]

/-- The state after DS_GROUP_OFF: the laser follows the last of the other groups of an engine that is taken dark (R145). -/
def grpOffEnd (e : Eng) (g : Nat) (s : State) : State :=
  let t := grpDark e g s
  if (getEng t e).down.offing && dataGroupsDark t e then laserOff e t else t

section
variable (e : Eng) (g : Nat) (s : State)

theorem laser_grpDark : (getEng (grpDark e g s) e).down.laser = (getEng s e).down.laser := by
  rw [getEng_grpDark, (groupsOnly_grpEnded e g s).down fun d => d.laser]

theorem offing_grpDark : (getEng (grpDark e g s) e).down.offing = (getEng s e).down.offing := by
  rw [getEng_grpDark, (groupsOnly_grpEnded e g s).down fun d => d.offing]

theorem grpOffEnd_cases : grpOffEnd e g s = grpDark e g s ∨ grpOffEnd e g s = laserOff e (grpDark e g s) := by
  unfold grpOffEnd
  dsimp only
  split
  · exact .inr rfl
  · exact .inl rfl

theorem grpOffEnd_stays (h : (getEng s e).down.offing = false) : grpOffEnd e g s = grpDark e g s := by
  simp [grpOffEnd, offing_grpDark, h]

theorem grpOffEnd_follows (h : (getEng s e).down.offing = true) (dark : ∀ n, n ∈ dataGroups → n ≠ g → (getGrp s e n).st = .off) :
    grpOffEnd e g s = laserOff e (grpDark e g s) := by
  have all : dataGroupsDark (grpDark e g s) e = true := by
    refine List.all_eq_true.mpr fun n hn => ?_
    rw [getGrp_grpDark]
    by_cases named : n = g
    · simp [named]
    · simp [named, dark n hn named]
  simp [grpOffEnd, offing_grpDark, h, all]

theorem other_grpOffEnd : getEng (grpOffEnd e g s) e.other = getEng s e.other := by
  have dark : getEng (grpDark e g s) e.other = getEng s e.other := by rw [getEng_grpDark, (groupsOnly_grpEnded e g s).other _ (other_ne e)]
  rcases grpOffEnd_cases e g s with h | h <;> rw [h]
  · exact dark
  · rw [(laserOff_effect e _).1 _ (other_ne e), dark]

/-- The group that has ended stays so: the laser's fall does not touch a group in OFF. -/
theorem getGrp_grpOffEnd_self : getGrp (grpOffEnd e g s) e g = {} := by
  have ended : getGrp (grpDark e g s) e g = {} := by rw [getGrp_grpDark, if_pos rfl]
  rcases grpOffEnd_cases e g s with h | h <;> rw [h]
  · exact ended
  · rw [(laserOff_effect e _).2.1, ended]
    exact ite_id _

theorem getGrp_grpOffEnd_data {n : Nat} (h : n ≠ g) (data : n ∈ dataGroups) : getGrp (grpOffEnd e g s) e n = getGrp s e n := by
  have kept : getGrp (grpDark e g s) e n = getGrp s e n := by rw [getGrp_grpDark, if_neg h]
  rcases grpOffEnd_cases e g s with h | h <;> rw [h]
  · exact kept
  · rw [(laserOff_effect e _).2.1, if_neg (dataGroups_notControl n data), kept]

theorem reported_grpOffEnd :
    reported e.txd 0x0402 (256 * e.num + 4 * g) (packData [(16, (getEng s e).down.frames % 65536)]) .dsFlags e 1 s (grpOffEnd e g s) := by
  rcases grpOffEnd_cases e g s with h | h <;> rw [h]
  · exact reported_grpDark e g s
  · exact reported_before (keep_laserOff e _) (reported_grpDark e g s)

end

/-- Settles O27: DS_GRP_EN gives each group a state that is a function of the one before, and each event writes its own group; the laser follows
the last group of an engine that is taken dark. -/
theorem downGroupStates : Obligations.DownGroupStates := by
  refine ⟨fun e v s => ?_, fun e g s => ?_, fun e g s => ?_, fun e g s => ?_, fun e g s => ?_⟩
  · refine writes_refuseOr rfl (fun t => keep_execDsGrpEnWrite e v s) (mask_sub rfl) fun _ => ?_
    obtain ⟨word, groups⟩ := grpEn_written e v s
    have group {g : Nat} (h : g < 8) : getGrp _ e g = grpWritten s e v g (getGrp s e g) := (groups g).trans (if_pos h)
    refine ⟨word, fun g low same => ?_, fun emergency g => ?_, fun calm g low was now => ?_, fun calm g low was now => ?_⟩
    · exact (group low).trans (grpWritten_same same)
    · exact (groups g).trans (by rw [grpWritten_emergency emergency, ite_self])
    · have after := (group low).trans (grpWritten_cleared was now calm)
      exact ⟨fun dark => (congrArg _ after).trans (dimmed_dark dark), fun rising => after.trans (dimmed_rising rising),
        fun full => after.trans (dimmed_full full)⟩
    · have after := (group low).trans (grpWritten_set was now)
      rw [rampsFree_calm calm] at after
      refine ⟨fun off => (congrArg _ after).trans (begun_off off), fun falling stays => after.trans ?_⟩
      rw [stays]
      exact begun_falling falling
  · have only : GroupsOnly e s (startStream e g (rampGrp e g .rampOn (.up s.clk.now (grpNs s e)) s)) :=
      (groupsOnly_rampGrp e g s _ _).trans (groupsOnly_startStream e g _)
    refine actsIf_act rfl (fun t => keep_execGroupRampOnStart e g s) (mask_sub rfl) fun _ => ⟨?_, fun k hk => ?_, fun n hn => ?_, ?_⟩
    · simp
    · exact getScSt_startStream e g k _ hk
    · simp [hn]
    · exact only.other _ (other_ne e)
  · refine actsIf_act rfl (fun t => keep_execGroupEnvelopeFull e g s) (mask_sub rfl) fun _ => ⟨?_, fun n hn => ?_, ?_⟩
    · simp
    · simp [hn]
    · exact (groupsOnly_setGrp e g s _).other _ (other_ne e)
  · have only : GroupsOnly e s (setGrpSt e g .on s) := groupsOnly_rampGrp e g s _ _
    refine actsIf_act (f := grpSettled e g) rfl (fun t => keep_execDsGroupOn e g s) (mask_sub rfl) fun _ => ⟨?_, fun n hn => ?_, ?_, ?_⟩
    · simp [grpSettled, setGrpSt]
    · simp [grpSettled, setGrpSt, hn]
    · exact ((keep_raiseF _ _ _ _ _ _ _ _).getEng _).trans (only.other _ (other_ne e))
    · exact reported_raiseF_after only.rest (by decide)
  · refine actsIf_act (f := grpOffEnd e g) rfl (fun t => keep_execDsGroupOff e g s) (mask_sub rfl) fun _ =>
      ⟨getGrp_grpOffEnd_self e g s, fun n => getGrp_grpOffEnd_data e g s, other_grpOffEnd e g s, fun stays => ?_, fun follows dark lamp => ?_,
        reported_grpOffEnd e g s⟩
    · rw [grpOffEnd_stays e g s stays]
      exact ⟨laser_grpDark e g s, fun n hn => by rw [getGrp_grpDark, if_neg hn]⟩
    · obtain ⟨-, -, laser, offing⟩ := laserOff_effect e (grpDark e g s)
      rw [grpOffEnd_follows e g s follows dark]
      refine ⟨laser.trans ?_, offing⟩
      rw [laser_grpDark]
      simp [lamp]

end Sys2Proof.Machine

end

section
/-! The laser of an engine (R143, R145, R146, R153): it ramps on with groups 0 and 4, lights the other groups, and goes dark. -/

namespace Sys2Proof.Machine

-- One theorem after another: each theorem that waits for another holds a thread with its stack, and many do not fit a check.
set_option Elab.async false

theorem mem_control {n : Nat} : n ∈ [0, 4] ↔ n = 0 ∨ n = 4 := by simp

/-! ## The laser ramps on (R145) -/

/-- A control group ramps on with the laser, and its streams start. -/
def controlRamped (e : Eng) (v : Env) (g : Nat) (s : State) : State := startStream e g (rampGrp e g .rampOn v s)

theorem groupsOnly_controlRamped (e : Eng) (v : Env) (g : Nat) (s : State) : GroupsOnly e s (controlRamped e v g s) :=
  (groupsOnly_rampGrp e g s _ _).trans (groupsOnly_startStream e g _)

/-- The laser ramps on, and groups 0 and 4 with it. -/
def laserRamped (e : Eng) (s : State) : State :=
  forAll [0, 4] (controlRamped e (.up s.clk.now (laserNs s e))) (modDown e (fun d => { d with laser := .rampingOn, seen := true }) s)

theorem groupsOnly_laserRamped (e : Eng) (s : State) :
    GroupsOnly e (modDown e (fun d => { d with laser := .rampingOn, seen := true }) s) (laserRamped e s) :=
  GroupsOnly.forAll (fun g u => groupsOnly_controlRamped e _ g u) _ _

theorem getGrp_laserRamped (e : Eng) (s : State) (n : Nat) : getGrp (laserRamped e s) e n =
    if n ∈ [0, 4] then { getGrp s e n with st := .rampOn, env := .up s.clk.now (laserNs s e) } else getGrp s e n := by
  have before : getGrp (modDown e (fun d => { d with laser := .rampingOn, seen := true }) s) e n = getGrp s e n := by simp [getGrp]
  rw [← before]
  refine getGrp_forAll (F := fun x => { x with st := .rampOn, env := .up s.clk.now (laserNs s e) })
    (fun g u => groupsOnly_controlRamped e _ g u) _ _ (by decide) fun g u _ => ?_
  rw [controlRamped, getGrp_startStream, getGrp_rampGrp]

/-! ## The laser is lit (R143, R145) -/

/-- A control group whose ramp ends with the laser's settles. -/
def controlSettles (e : Eng) (g : Nat) (s : State) : State :=
  if (getGrp s e g).st = .rampOn then setGrp e g { st := .settling, fullAt := (getEng s e).down.frames } s else s

theorem groupsOnly_controlSettles (e : Eng) (g : Nat) (s : State) : GroupsOnly e s (controlSettles e g s) := by
  unfold controlSettles
  split
  · exact groupsOnly_setGrp e g s _
  · exact .refl e s

/-- The laser is lit, and groups 0 and 4 settle. -/
def controlLit (e : Eng) (s : State) : State := forAll [0, 4] (controlSettles e) (modDown e (fun d => { d with laser := .lit }) s)

/-- Then the other groups that are enabled begin. -/
def groupsLit (e : Eng) (s : State) : State := forAll dataGroups (fun g u => when (grpEn u e g) (grpOn e g) u) (controlLit e s)

theorem groupsOnly_controlLit (e : Eng) (s : State) : GroupsOnly e (modDown e (fun d => { d with laser := .lit }) s) (controlLit e s) :=
  GroupsOnly.forAll (groupsOnly_controlSettles e) _ _

theorem groupsOnly_groupsLit (e : Eng) (s : State) : GroupsOnly e (modDown e (fun d => { d with laser := .lit }) s) (groupsLit e s) :=
  (groupsOnly_controlLit e s).trans (GroupsOnly.forAll (fun g u => .when (groupsOnly_grpOn e g u)) _ _)

theorem getGrp_controlLit (e : Eng) (s : State) (n : Nat) : getGrp (controlLit e s) e n =
    if n ∈ [0, 4] ∧ (getGrp s e n).st = .rampOn then { st := .settling, fullAt := (getEng s e).down.frames } else getGrp s e n := by
  have before : getGrp (modDown e (fun d => { d with laser := .lit }) s) e n = getGrp s e n ∧
      (getEng (modDown e (fun d => { d with laser := .lit }) s) e).down.frames = (getEng s e).down.frames := by simp [getGrp]
  have settled := getGrp_forAll (f := controlSettles e) (n := n)
    (F := fun x => if x.st = .rampOn then { st := .settling, fullAt := (getEng s e).down.frames } else x)
    (groupsOnly_controlSettles e) [0, 4] (modDown e (fun d => { d with laser := .lit }) s) (by decide) fun g u h => by
      unfold controlSettles
      rw [h.down fun d => d.frames, before.2]
      by_cases named : n = g
      · subst named
        split <;> simp
      · split <;> simp [named]
  rw [controlLit, settled, before.1]
  by_cases n ∈ [0, 4] <;> simp [*]

theorem getGrp_groupsLit (e : Eng) (s : State) (n : Nat) : getGrp (groupsLit e s) e n =
    if n ∈ dataGroups ∧ grpEn s e n = true then (getGrp s e n).begun true (rampsFree s e) s.clk.now else getGrp (controlLit e s) e n := by
  have control := groupsOnly_controlLit e s
  have lamp : lit (controlLit e s) e = true := by rw [control.lit]; simp [lit]
  have free : rampsFree (controlLit e s) e = rampsFree s e := by rw [control.free]; simp [rampsFree]
  have en : grpEn (controlLit e s) e n = grpEn s e n := by rw [control.grpEn]; simp [grpEn]
  have lights := getGrp_forAll (f := fun g u => when (grpEn u e g) (grpOn e g) u) (n := n)
    (F := fun x => if grpEn s e n then x.begun true (rampsFree s e) s.clk.now else x)
    (fun g u => .when (groupsOnly_grpOn e g u)) dataGroups (controlLit e s) (by decide) fun g u h => by
      have clk : u.clk = s.clk := h.clk.trans (control.clk.trans (keep_modDown e _ s .clk rfl))
      unfold when
      by_cases named : n = g
      · subst named
        rw [h.grpEn, en]
        split
        · rw [getGrp_grpOn, h.lit, h.free, lamp, free, clk]
        · rw [if_pos rfl]
      · rw [if_neg named]
        split
        · rw [getGrp_grpOn, if_neg named]
        · rfl
  rw [groupsLit, lights]
  by_cases data : n ∈ dataGroups
  · have untouched : getGrp (controlLit e s) e n = getGrp s e n := by
      rw [getGrp_controlLit, if_neg fun both => dataGroups_notControl n data both.1]
    rw [untouched]
    by_cases grpEn s e n <;> simp [*]
  · simp [data]

/-- The state after DS_LASER_ON. -/
def laserLit (e : Eng) (s : State) : State := raiseF e.txd 0x0403 (dsObj e 0) (packData [(8, laserMs s e)]) .dsFlags e 2 (groupsLit e s)

theorem getEng_laserLit (e k : Eng) (s : State) : getEng (laserLit e s) k = getEng (groupsLit e s) k := (keep_raiseF _ _ _ _ _ _ _ _).getEng k

theorem getGrp_laserLit (e : Eng) (s : State) (n : Nat) : getGrp (laserLit e s) e n = getGrp (groupsLit e s) e n := by
  rw [getGrp_eq, getEng_laserLit, ← getGrp_eq]

theorem reported_laserLit (e : Eng) (s : State) :
    reported e.txd 0x0403 (256 * e.num) (packData [(8, laserMs s e)]) .dsFlags e 2 s (laserLit e s) :=
  reported_raiseF_after ((keep_modDown e _ s).trans (groupsOnly_groupsLit e s).rest) (by decide)

/-! ## The laser is dark (R145, R146, R153) -/

/-- Where no emergency shutdown runs, groups 0 and 4 end their fall with the laser. -/
def controlDark (e : Eng) (s : State) : State :=
  if s.pwr.emerg = .none then forAll [0, 4] (fun g u => if (getGrp u e g).st = .rampOff then grpDark e g u else u) s else s

/-- The transmitter sends nothing and its groups are dark. -/
def txDark (e : Eng) (st : EngState) (s : State) : State :=
  modDown e (fun d => { d.silent with laser := .dark, grp := [], env := {}, framer := d.framer && framesOn st }) s

/-- The ramp time that DS_LASER_OFF gives: in an emergency shutdown it reads 1 (R153). -/
def darkMs (s : State) (e : Eng) : Nat := if s.pwr.emerg = .none then laserMs s e else 1

/-- The state after DS_LASER_OFF. -/
def laserDark (e : Eng) (s : State) : State :=
  raiseF e.txd 0x0404 (dsObj e 0) (packData [(8, darkMs s e)]) .dsFlags e 3
    (txDark e (getEng s e).st (controlDark e s))

section
variable (e : Eng) (s : State)

/-- The fall of its groups moves neither the engine's state nor its frame count nor the other engine. -/
theorem controlDark_engine : (getEng (controlDark e s) e).down.frames = (getEng s e).down.frames ∧ (getEng (controlDark e s) e).st = (getEng s e).st ∧
    getEng (controlDark e s) e.other = getEng s e.other := by
  have once (g : Nat) (u : State) : EngKept EngSt.bare e u (grpDark e g u) := by
    unfold EngKept
    rw [getEng_grpDark, (groupsOnly_grpEnded e g u).bare]
  have others (g : Nat) (u : State) : EngKept id e.other u (grpDark e g u) :=
    (getEng_grpDark e _ g u).trans ((groupsOnly_grpEnded e g u).other _ (other_ne e))
  have bare : EngKept EngSt.bare e s (controlDark e s) := .ite (.forAll (fun g u => .ite (once g u) (.refl u)) _ (.refl s)) (.refl s)
  have other : EngKept id e.other s (controlDark e s) := .ite (.forAll (fun g u => .ite (others g u) (.refl u)) _ (.refl s)) (.refl s)
  exact ⟨congrArg (fun x => x.down.frames) bare, congrArg (fun x => x.st) bare, other⟩

/-- Where neither control group falls, or in an emergency shutdown, the laser's event is the only one. -/
theorem controlDark_none (h : s.pwr.emerg ≠ .none ∨ ((getGrp s e 0).st ≠ .rampOff ∧ (getGrp s e 4).st ≠ .rampOff)) : controlDark e s = s := by
  unfold controlDark
  rcases h with emergency | ⟨first, second⟩
  · rw [if_neg emergency]
  · simp [forAll, first, second]

theorem getEng_laserDark (k : Eng) : getEng (laserDark e s) k = getEng (txDark e (getEng s e).st (controlDark e s)) k :=
  (keep_raiseF _ _ _ _ _ _ _ _).getEng k

theorem down_laserDark : (getEng (laserDark e s) e).down = { (getEng (controlDark e s) e).down.silent with
    laser := .dark, grp := [], env := {}, framer := (getEng (controlDark e s) e).down.framer && framesOn (getEng s e).st } := by
  rw [getEng_laserDark, txDark, getEng_modDown, if_pos rfl]

theorem flag_laserDark : (getFlags (laserDark e s) (Reg.addr .dsFlags e 0 0)).getLsbD 3 = true := by
  have set : flagged .dsFlags e 3 (txDark e (getEng s e).st (controlDark e s)) (laserDark e s) := flagged_raiseF rfl rfl rfl (by decide)
  exact set.1

theorem reported_laserDark (h : s.pwr.emerg ≠ .none ∨ ((getGrp s e 0).st ≠ .rampOff ∧ (getGrp s e 4).st ≠ .rampOff)) :
    reported e.txd 0x0404 (256 * e.num) (packData [(8, if s.pwr.emerg = .none then laserMs s e else 1)]) .dsFlags e 3 s (laserDark e s) := by
  have ms : (if s.pwr.emerg = .none then (laserMs s e : Int) else 1) = darkMs s e := (apply_ite Nat.cast _ (laserMs s e) 1).symm
  rw [ms, laserDark, controlDark_none e s h]
  exact reported_raiseF_after (keep_modDown e _ s) (by decide)

end

end Sys2Proof.Machine

end

section
/-! FRAME_LAUNCH (R116, R118, R123, R124, R296): what prepares a frame leaves the framer and its count alone, and the line then holds one frame
for each subcarrier that sends. -/

namespace Sys2Proof.Machine

-- One theorem after another: each theorem that waits for another holds a thread with its stack, and many do not fit a check.
set_option Elab.async false

/-! ## The symbols of a frame (R123, R124) -/

theorem length_groupsFrom (b : Nat) : ∀ (k : Nat) (l : List Bool), (groupsFrom b k l).length = k
  | 0, _ => rfl
  | k + 1, l => congrArg (· + 1) (length_groupsFrom b k (l.drop b))

/-- Each block of a pilot has 63 data symbols while data symbols are left. -/
theorem length_dataSyms (n : Nat) : ∀ (k : Nat) (l : List Sym), 63 * k ≤ l.length → (dataSyms n k l).length = 64 * k
  | 0, _, _ => rfl
  | k + 1, l, h => by
    have rest := length_dataSyms n k (l.drop 63) (by rw [List.length_drop]; omega)
    simp only [dataSyms, List.cons_append, List.length_cons, List.length_append, List.length_take, rest]
    omega

/-- 96 marker symbols, 32 of the header, and 128 blocks (R123). -/
theorem length_frameSymbols (n fmt : Nat) (hdr : BitVec 128) (rows : List (List Bool)) : (frameSymbols n fmt hdr rows).length = 8320 := by
  have blocks := length_dataSyms n 128 ((groupsFrom (bitsPerSymbol fmt) 8064 rows.flatten).map (symOf fmt))
    (by rw [List.length_map, length_groupsFrom])
  simp only [frameSymbols, List.length_append, List.length_map, List.length_range, length_groupsFrom, blocks]

/-- A frame begins with its subcarrier's marker (R124). -/
theorem take_frameSymbols (n fmt : Nat) (hdr : BitVec 128) (rows : List (List Bool)) :
    (frameSymbols n fmt hdr rows).take 96 = (List.range 96).map (fun k => symOf 0 (markerSymbol n k)) := by
  rw [frameSymbols, List.append_assoc]
  exact List.take_left' (by rw [List.length_map, List.length_range])

/-! ## The framer and its count -/

/-- The framer of an engine, and its count of frames. -/
def EngSt.framing (x : EngSt) : Bool × Nat := (x.down.framer, x.down.frames)

/-- A framer that starts counts from 0, or from the other framer's count in Paired mode (R118, R296). -/
def firstFrame (e : Eng) (s : State) : Nat := if s.boot.paired && (getEng s e.other).down.framer then (getEng s e.other).down.frames else 0

theorem framing_startFramer (e : Eng) (s : State) : (getEng (startFramer e s) e).framing =
    (true, if (getEng s e).down.framer then (getEng s e).down.frames else firstFrame e s) := by
  unfold startFramer
  split
  · next runs => simp [EngSt.framing, runs]
  · simp [EngSt.framing, tieUsc, firstFrame]

theorem groupsOnly_startLockstep (e : Eng) (s : State) : GroupsOnly e s (startLockstep e s) := by
  unfold startLockstep
  split
  · exact .refl e s
  · exact GroupsOnly.forAll (fun g u => .when (groupsOnly_startStream e g u)) _ s

/-- The engine as its next frame finds it. -/
def frameBegun (e : Eng) (s : State) : State := startLockstep e (startFramer e s)

theorem framing_frameBegun (e : Eng) (s : State) : (getEng (frameBegun e s) e).framing =
    (true, if (getEng s e).down.framer then (getEng s e).down.frames else firstFrame e s) := by
  rw [← framing_startFramer]
  exact (groupsOnly_startLockstep e _).down fun d => (d.framer, d.frames)

/-! ## What the control streams and the cells leave of the framer -/

theorem fillControl_framing (stamp : Msg → Msg) (k room0 room16 : Nat) : ∀ (fuel : Nat) (d : Down),
    (fillControl stamp k room0 room16 fuel d).framer = d.framer ∧ (fillControl stamp k room0 room16 fuel d).frames = d.frames
  | 0, _ => ⟨rfl, rfl⟩
  | fuel + 1, d => by
    unfold fillControl
    split
    · exact ⟨rfl, rfl⟩
    · dsimp only
      split
      · exact ⟨rfl, rfl⟩
      · split
        · exact ⟨rfl, rfl⟩
        · exact fillControl_framing stamp k room0 room16 fuel _

section
variable (k e : Eng) (s : State)

theorem framingKept_dropMaps (p : MapSt → Bool) : EngKept EngSt.framing k s (dropMaps e p s) := by
  unfold dropMaps
  exact .keep (engKept_modEng e s) (keep_count _ _ _ _ _)

theorem framingKept_idleWindows (p : Nat → Grant → Bool) : EngKept EngSt.framing k s (idleWindows e p s) := by
  unfold idleWindows
  exact EngKept.forAll (fun _ u => .of_same (keep_countSched _ _ _ _ _ u)) _ (engKept_modEng e s)

theorem framingKept_holdLeft (n : Nat) (h : HoldOut) : EngKept EngSt.framing k s (holdLeft e n h s) :=
  .ite (framingKept_idleWindows k e s _) (.refl s)

theorem framingKept_commitSquare (tn : Nat) (q : Square) : EngKept EngSt.framing k s (commitSquare e tn q s) := by
  refine .ite ?_ ?_
  · exact .keep (.of_same (keep_countSched _ _ _ _ _ s)) (keep_modLeaf _ _ _ _)
  · exact .trans (.of_same (keep_count _ _ _ _ s)) (engKept_modEng e _)

theorem framingKept_commitMap (m : MapSt) : EngKept EngSt.framing k s (commitMap e m s) := by
  unfold commitMap
  refine EngKept.forAll (fun q u => framingKept_commitSquare k e u _ q) _ (EngKept.forAll (fun g u => .of_same (keep_commitGrant _ _ _ _ u)) _ ?_)
  exact .keep (.trans (engKept_modDown e s) (engKept_modEng e _)) (keep_count _ _ _ _ _)

theorem framingKept_prepareControl (n : Nat) : EngKept EngSt.framing k s (prepareControl e n s) := by
  unfold prepareControl
  extract_lets f s1 s2 room d d'
  have dropped : EngKept EngSt.framing k s s1 := framingKept_dropMaps k e s _
  have committed : EngKept EngSt.framing k s s2 := by
    unfold s2
    split
    · exact .ite (dropped.trans (framingKept_commitMap k e s1 _)) dropped
    · exact dropped
  have filled : EngKept EngSt.framing k s2 (modDown e (fun _ => d') s2) := by
    obtain ⟨framer, frames⟩ := fillControl_framing (Msg.stamp s2 e) n (room 0) (room 16) (d.ctl.length + 1) d
    unfold EngKept
    rw [getEng_modDown]
    split
    · next named =>
      rw [named]
      exact Prod.ext framer frames
    · rfl
  exact .ite (.refl s) (EngKept.forAll (fun m u => .of_same (keep_noteSentRange e m u)) _ (committed.trans filled))

theorem framingKept_sendCell (c : Cell) : EngKept EngSt.framing k s (sendCell e c s) := engKept_modDown e s

theorem framingKept_containerCell (n slot i : Nat) : EngKept EngSt.framing k s (containerCell e n slot i s) := by
  unfold containerCell
  extract_lets s1 x pay r cell y s2 s3
  have filled : EngKept EngSt.framing k s s1 := .of_same (keep_fillStream e i _ s)
  have eaten : EngKept EngSt.framing k s s2 := (filled.keep (keep_setSset e i y s1)).keep (keep_count _ _ _ _ _)
  have counted : EngKept EngSt.framing k s s3 :=
    EngKept.forAll (fun c u => .keep (.of_same (keep_count _ _ _ _ u)) (keep_count _ _ _ _ _)) _ eaten
  exact .ite (filled.trans (framingKept_sendCell k e s1 _)) (counted.trans (framingKept_sendCell k e s3 _))

theorem framingKept_takeHolds (n : Nat) : EngKept EngSt.framing k s (takeHolds e n s) := by
  unfold takeHolds
  exact EngKept.forAll (fun h u => framingKept_holdLeft k e u _ h) _ (engKept_modDown e s)

theorem framingKept_controlCell (n : Nat) : EngKept EngSt.framing k s (controlCell e n s) := by
  unfold controlCell
  extract_lets d bytes starts pay b q cell rest next
  refine .ite (framingKept_sendCell k e s _) (.trans ?_ (framingKept_sendCell k e _ _))
  refine (framingKept_takeHolds k e s n).trans (engKept_modDown e _ fun x => ?_)
  unfold EngSt.framing
  dsimp only
  split <;> rfl

theorem framingKept_oneCell (ais : Bool) (n slot : Nat) : EngKept EngSt.framing k s (oneCell e ais n slot s) := by
  refine .ite (framingKept_sendCell k e s _) (.ite (framingKept_controlCell k e s n) (.ite (framingKept_sendCell k e s _) ?_))
  split
  · exact framingKept_containerCell k e s n slot _
  · exact framingKept_sendCell k e s _

end

/-! ## The line -/

section
variable (e : Eng) (fc : Nat) (starts : List (Nat × ScSt)) (hs : Table (BitVec 128)) (s : State)

/-- The line takes one frame for each header, which leaves now at its subcarrier's centre frequency. -/
theorem line_launchLine {t : State} (h : launchLine e fc starts hs s = t) :
    (getEng t e).down.line.map (fun p => p.1) = hs.map (fun p => p.1) ∧
    ∀ p, p ∈ (getEng t e).down.line → p.2.centre2 = centre2 (getReg s .usTreeDs e 0).toNat p.1 ∧ p.2.start = s.clk.now ∧
      ∃ fmt hdr rows, p.2.syms = frameSymbols p.1 fmt hdr rows := by
  unfold launchLine at h
  extract_lets r s1 centre out lines z dac s2 at h
  have kept := keep_aprOf e s
  have line : (getEng t e).down.line = lines := by simp [← h, modCal, s2]
  rw [line]
  refine ⟨by simp [lines], fun p hp => ?_⟩
  obtain ⟨h, -, rfl⟩ := List.mem_map.mp hp
  refine ⟨?_, ?_, _, _, _, rfl⟩
  · exact congrArg (fun w => centre2 (BitVec.toNat w) h.1) (getReg_congr (kept .regs rfl) _ _ _)
  · exact congrArg Clock.now (kept .clk rfl)

theorem framingKept_launchLine : EngKept EngSt.framing e s (launchLine e fc starts hs s) := by
  unfold launchLine
  extract_lets r s1 centre out lines z dac s2
  have drawn : EngKept EngSt.framing e s s1 := .of_same (keep_aprOf e s)
  exact (drawn.trans (engKept_modDown e s1)).trans (engKept_modEng e s2)

end

/-! ## The frame leaves -/

/-- A launched frame is counted, and the line holds it as it left (R116, R118, R123, R124). -/
theorem frameLaunch_engine {e : Eng} {s t : State} (may : mayLaunch s e = true) (h : execFrameLaunch e s = .next t) :
    (getEng t e).framing = (true, (getEng (frameBegun e s) e).down.frames + 1) ∧
    (getEng t e).down.line.map (fun p => p.1) =
      (List.range 32).filter (fun n => scRuns (frameBegun e s) e n && grpSends (frameBegun e s) e (n / 4)) ∧
    ∀ p, p ∈ (getEng t e).down.line → p.2.centre2 = centre2 (getReg s .usTreeDs e 0).toNat p.1 ∧ p.2.start = s.clk.now ∧
      ∃ fmt hdr rows, p.2.syms = frameSymbols p.1 fmt hdr rows := by
  have h := (if_pos may).symm.trans (Host.Outcome.next.inj h)
  beta_reduce at h
  extract_lets u fc scs starts ctl order ais sent hs rdi was live u1 u2 u3 all new u4 turn at h
  have begun : u = frameBegun e s := rfl
  have framer : (getEng u e).framing = (true, (getEng u e).down.frames) :=
    Prod.ext ((congrArg Prod.fst (framing_frameBegun e s)).trans rfl) rfl
  clear_value u
  have headed : EngKept EngSt.framing e u u1 := engKept_modDown e u
  have celled : EngKept EngSt.framing e u u2 :=
    headed.trans (EngKept.forAll (fun c v => framingKept_oneCell e e v _ _ _) _ (.when (fun v => framingKept_prepareControl e e v _) (.refl u1)))
  have launched : EngKept EngSt.framing e u u3 := celled.trans (framingKept_launchLine e _ _ _ u2)
  have counted : Same 536870912 u3 u4 := by
    unfold u4
    split
    · exact ((keep_countCond 10 e.num 1 _ _ u3).trans (keep_countCond 10 e.num 2 _ _ _)).trans (keep_countCond 10 e.num 3 _ _ _)
    · exact (same_refl _ u3).mpr trivial
  have ended : (getEng t e).framing = ((getEng u3 e).down.framer, (getEng u3 e).down.frames + 1) ∧ (getEng t e).down.line = (getEng u3 e).down.line := by
    rw [← h, (keep_pairFrame e turn _).getEng, getEng_modDown, if_pos rfl, counted.getEng]
    exact ⟨rfl, rfl⟩
  have before : Same 544931840 s u2 := by
    have prepared : Same 537591808 u1 (when (decide live) (prepareControl e (ctl.foldl max 0)) u1) :=
      (same_when (keep_prepareControl e _)).mpr ((same_refl _ u1).mpr trivial)
    have cells := same_forAll.go (fun c v => keep_oneCell e ais c.2.1 c.2.2 v) order (when (decide live) (prepareControl e (ctl.foldl max 0)) u1)
    have begins : Same 196608 s u := begun ▸ (keep_startFramer e s).trans (keep_startLockstep e _)
    exact ((begins.trans (keep_modDown e _ u)).mono rfl).trans ((prepared.mono rfl).trans (cells.mono rfl))
  obtain ⟨keys, frames⟩ := line_launchLine e fc _ hs u2 (t := u3) rfl
  rw [getReg_congr (before .regs rfl), before .clk rfl] at frames
  rw [ended.1, ended.2, ← begun]
  refine ⟨?_, ?_, frames⟩
  · obtain ⟨on, count⟩ := Prod.mk.inj (Eq.trans launched framer)
    rw [on, count]
  · rw [keys, List.map_map]
    exact (List.map_id _).trans (List.filter_filter.trans (List.filter_congr fun n _ => Bool.and_comm _ _))

/-- No emergency shutdown runs in service. -/
theorem calm_of_inService {s : State} (h : inService s = true) : s.pwr.emerg = .none := by
  simp only [inService, Bool.and_eq_true, decide_eq_true_eq] at h
  exact h.1.2

/-- Settles O28: the laser takes its groups with it at each event, and a launched frame is counted from where its framer stands and stands on
the line as `frameSymbols` forms it. -/
theorem downLaser : Obligations.DownLaser := by
  refine ⟨fun e s => ?_, fun e s => ?_, fun e s => ?_, fun e s => ?_⟩
  · have only := groupsOnly_laserRamped e s
    refine actsIf_act (f := laserRamped e) rfl (fun t => keep_execLaserRampOnStart e s) (mask_sub rfl) fun _ =>
      ⟨?_, fun g control => ?_, fun g first second => ?_, ?_⟩
    · rw [only.down fun d => d.laser]
      simp
    · rw [getGrp_laserRamped, if_pos (mem_control.mpr control)]
    · rw [getGrp_laserRamped, if_neg (mt mem_control.mp (not_or.mpr ⟨first, second⟩))]
    · rw [only.other _ (other_ne e), getEng_modDown, if_neg (other_ne e)]
  · have only := groupsOnly_groupsLit e s
    refine actsIf_act (f := laserLit e) rfl (fun t => keep_execDsLaserOn e s) (mask_sub rfl) fun acts =>
      ⟨?_, ?_, fun g control rising => ?_, fun stays g data en off => ?_, fun g data disabled => ?_, reported_laserLit e s⟩
    · rw [getEng_laserLit, only.down fun d => d.laser]
      simp
    · rw [getEng_laserLit, only.other _ (other_ne e), getEng_modDown, if_neg (other_ne e)]
    · have notData : ¬ (g ∈ dataGroups ∧ grpEn s e g = true) := fun both => dataGroups_notControl g both.1 (mem_control.mpr control)
      rw [getGrp_laserLit, getGrp_groupsLit, if_neg notData, getGrp_controlLit, if_pos ⟨mem_control.mpr control, rising⟩]
    · have calm : s.pwr.emerg = .none := by
        simp only [Bool.and_eq_true] at acts
        exact calm_of_inService acts.1.1
      rw [getGrp_laserLit, getGrp_groupsLit, if_pos ⟨data, en⟩, begun_off off, rampsFree_calm calm, stays]
      rfl
    · rw [getGrp_laserLit, getGrp_groupsLit, if_neg (by simp [disabled]), getGrp_controlLit,
        if_neg fun both => dataGroups_notControl g data both.1]
  · obtain ⟨frames, st, other⟩ := controlDark_engine e s
    have down := down_laserDark e s
    refine actsIf_act (f := laserDark e) rfl (fun t => keep_execDsLaserOff e s) (mask_sub rfl) fun _ =>
      ⟨?_, fun g => ?_, ?_, ?_, ?_, ?_, ?_, ?_, ?_, flag_laserDark e s, reported_laserDark e s⟩
    · rw [down]
    · rw [getGrp, down]
      rfl
    · rw [down]; rfl
    · rw [down]; rfl
    · rw [down]; rfl
    · rw [down]; rfl
    · rw [down]; exact frames
    · rw [getEng_laserDark, txDark, getEng_modDown, if_pos rfl]
      exact st
    · rw [getEng_laserDark, txDark, getEng_modDown, if_neg (other_ne e), other]
  · refine actsIf_act rfl (fun t => keep_execFrameLaunch e s) (mask_sub rfl) fun may => ?_
    obtain ⟨framing, keys, frames⟩ := frameLaunch_engine may (congrArg Host.Outcome.next (if_pos may))
    obtain ⟨on, count⟩ := Prod.mk.inj framing
    have start : (getEng (frameBegun e s) e).down.frames = _ := congrArg Prod.snd (framing_frameBegun e s)
    refine ⟨on, fun runs => ?_, fun rests => ?_, keys, fun p hp => ?_⟩
    · rw [count, start, if_pos runs]
    · rw [count, start, rests, Nat.add_comm]
      rfl
    · obtain ⟨centre, now, fmt, hdr, rows, syms⟩ := frames p hp
      rw [syms]
      exact ⟨centre, now, length_frameSymbols .., take_frameSymbols ..⟩

end Sys2Proof.Machine

end

section
/-! Reads that latch or collect (R193, R457, R494, R505, R508, R521): the answer of a read of one word, and each of the five reads. -/

namespace Sys2Proof.Machine

-- One theorem after another: each theorem that waits for another holds a thread with its stack, and many do not fit a check.
set_option Elab.async false

/-- A read of one word acts where it is answered OK, on the state that the fetch of the word leaves. -/
theorem actsIf_readOne {p : Place} {c : Instr} {s : State} {post : State → Prop} (he : exec c s = readOne p s)
    (hp : post { (fetchPlace p s).2 with got := (fetchPlace p s).1 }) :
    ActsIf (readsOk s p) c s [.free, .got, .tod, .sec, .mgt, .bus] post :=
  actsIf_act he (fun _ => keep_readOne p s) (mask_sub rfl) fun _ => hp

/-- The state of a fetch: what it reads is drawn afresh. -/
def fetching (s : State) : State := { s with free := s.free + 4 }

theorem fetchPlace_muted {p : Place} {s : State} (h : muted s p = true) : fetchPlace p s = (0, fetching s) := if_pos h

theorem fetchPlace_reg {a : RegAt} {s : State} (h : muted s (.reg a) = false) : fetchPlace (.reg a) s = fetchReg a (fetching s) :=
  if_neg (by rw [Bool.not_eq_true]; exact h)

/-- A register outside the engines' windows is never muted (R498). -/
theorem muted_module {a : RegAt} (s : State) (h : a.reg.row.scope = .module) : muted s (.reg a) = false := by
  simp only [muted, Place.engine, h]

theorem fetchPlace_module {a : RegAt} {s : State} (h : a.reg.row.scope = .module) : fetchPlace (.reg a) s = fetchReg a (fetching s) :=
  fetchPlace_reg (muted_module s h)

/-- The first word of a burst record latches the record, and its other seven words are to be read from the latch. -/
theorem readLast_latches (e : Eng) (i : Nat) (s : State) :
    tget none (readLast e i 0 s).2.mgt.brxLat (32 * e.num + i) = some ((getBrx s e i).last, [1, 2, 3, 4, 5, 6, 7]) := by
  simp [readLast]

/-- The high word of a slot's IC latches the low one. -/
theorem readIc_latches (k : Nat) (s : State) : tget none (readIc k 0 s).2.sec.icLat k = some (slotIc s k % 2 ^ 62 % 2 ^ 32) := by
  simp [readIc]

/-- EVT_HEAD_LO answers the latched low word, or the head's where none is latched. -/
theorem readHead_lo_word (s : State) : (readHead false s).1 = BitVec.ofNat 32 (s.mgt.headLat.getD s.mgt.head) := by
  unfold readHead
  cases h : s.mgt.headLat <;> rfl

/-- Settles O55: each read is the fetch of its register, and what that register's own read sets is read off it. -/
theorem latchedReads : Obligations.LatchedReads := by
  refine ⟨fun e sc s => ?_, fun k s => ?_, fun s => ?_, fun s => ?_, fun s => ?_⟩
  · refine actsIf_readOne rfl ⟨fun h => ?_, fun h => ?_⟩
    · rw [fetchPlace_reg h]
      exact ⟨rfl, readLast_latches e sc.val (fetching s)⟩
    · rw [fetchPlace_muted h]
      exact ⟨rfl, rfl⟩
  · refine actsIf_readOne rfl ?_
    rw [fetchPlace_module rfl]
    exact ⟨rfl, readIc_latches k.val (fetching s), rfl⟩
  · refine actsIf_readOne rfl ?_
    rw [fetchPlace_module rfl]
    exact ⟨rfl, rfl⟩
  · refine actsIf_readOne rfl ?_
    rw [fetchPlace_module rfl]
    have word := readHead_lo_word (fetching s)
    refine ⟨fun v h => word.trans ?_, fun h => word.trans ?_, rfl, rfl, rfl⟩
    · simp [fetching, h]
    · simp [fetching, h]
  · refine actsIf_readOne rfl ?_
    rw [fetchPlace_module rfl]
    exact ⟨rfl, rfl, rfl, rfl⟩

end Sys2Proof.Machine

end

section
/-! What events, counts, re-ranging and protection leave of the burst receivers of an engine (R169 to R197, R283 to R286, R320). -/

namespace Sys2Proof.Machine

-- One theorem after another: each theorem that waits for another holds a thread with its stack, and many do not fit a check.
set_option Elab.async false

/-! ## The form of a command that brings words -/

/-- A command that brings words: they are taken, and what it does under its condition it does on the state that has them (R12). -/
theorem hears_act {e : Eng} {ws : List RxWord} {g : State → Bool} {c : Instr} {s : State} {f : State → State} {m : Nat} {ps : List Part}
    {post : State → State → Prop} (he : exec c s = act (g (takeWords e ws s)) f (takeWords e ws s))
    (hk : ∀ t, exec c s = .next t → Same m s t) (hm : (Part.all.all fun p => ps.contains p || ! m.testBit p.bit) = true)
    (hp : g (takeWords e ws s) = true → post (takeWords e ws s) (f (takeWords e ws s))) : Hears e ws g c s ps post := by
  constructor
  · intro hg
    rw [act, if_pos hg] at he
    exact acts_next he (hk _ he) (mask_sub hm) (hp hg)
  · intro hg
    rw [he, hg]
    rfl

/-! ## The protection's evaluation -/

/-- What holds of a state and outlives a change of the protection's own record, a noted request and the begin of a switch holds after the
controller's evaluation (R284, R285). -/
theorem apsEval_keeps {P : State → Prop} (aps : ∀ a u, P u → P { u with aps := a }) (noted : ∀ r u, P u → P (noteReq r u))
    (switched : ∀ w r planned own u, P u → P (startSwitch w r planned own u)) {s : State} (h : P s) : P (apsEval s) := by
  have ite {c : Prop} [Decidable c] {t u : State} (ht : P t) (hu : P u) : P (if c then t else u) := by
    split
    · exact ht
    · exact hu
  unfold apsEval
  refine ite h ?_
  split
  · exact h
  · extract_lets bad ms s1 above wtr s2 r s3 back s4
    have h1 : P s1 := by
      unfold s1
      split
      · exact ite (aps _ _ h) h
      · exact h
    clear_value s1
    have h3 : P s3 := noted _ _ (ite (aps _ _ h1) h1)
    clear_value s3
    have h4 : P s4 := ite (aps _ _ h3) h3
    clear_value s4
    exact ite h3 (ite (switched _ _ _ _ _ h4) (ite (switched _ _ _ _ _ h4)
      (ite (ite (noted _ _ (aps _ _ h4)) (noted _ _ (aps _ _ h4))) h4)))

section
variable {k : Eng}

theorem rxKept_strike (e : Eng) (p : Grant → Bool) (s : State) : EngKept EngSt.rx k s (strike e p s) := by
  unfold strike
  exact .keep ((engKept_modEng e s).trans (engKept_modEng e _)) (keep_count _ _ _ _ _)

theorem rxKept_idleWindows (e : Eng) (p : Nat → Grant → Bool) (s : State) : EngKept EngSt.rx k s (idleWindows e p s) := by
  unfold idleWindows
  exact EngKept.forAll (fun _ u => .of_same (keep_countSched _ _ _ _ _ u)) _ (engKept_modEng e s)

theorem rxKept_sendMsg (e : Eng) (m : Msg) (s : State) : EngKept EngSt.rx k s (sendMsg e m s) :=
  .ite (engKept_modDown _ s) (engKept_modDown _ s)

theorem rxKept_startRerange (e : Eng) (l row : Nat) (s : State) : EngKept EngSt.rx k s (startRerange e l row s) := by
  refine .ite (.refl s) (.ite (.of_same (keep_setLeaf _ _ _ s)) ?_)
  refine .keep (.keep ?_ (keep_countSched _ _ _ _ _ _)) (keep_rerangeEvent _ _ _ _ _ _)
  exact .trans (.trans (.of_same (keep_setLeaf _ _ _ s)) (rxKept_sendMsg _ _ _)) (rxKept_strike _ _ _)

theorem rxKept_startSf (e : Eng) (s : State) : EngKept EngSt.rx k s (startSf e s) :=
  .ite (.trans (engKept_modEng e s) (engKept_modEng _ _)) (engKept_modEng e s)

theorem rxKept_followCauses (e : Eng) (s : State) : EngKept EngSt.rx k s (followCauses e s) := by
  unfold followCauses
  extract_lets x s1
  have h1 : EngKept EngSt.rx k s s1 := .ite (engKept_modEng e s) (.ite (.refl s) (.ite (rxKept_startSf e s) (engKept_modEng e s)))
  clear_value s1
  exact h1.trans (.ite (engKept_modEng e s1) (.ite (.refl s1) (.ite (engKept_modEng e s1) (engKept_modEng e s1))))

theorem rxKept_startSwitch (w : Eng) (r : ApsReq) (planned own : Bool) (s : State) : EngKept EngSt.rx k s (startSwitch w r planned own s) := by
  unfold startSwitch
  extract_lets o s1 s2 s3 s4 a s5 s6
  have h2 : EngKept EngSt.rx k s s2 := .trans (.trans (.of_same (keep_noteReq _ s)) (rxKept_strike w _ s1)) (rxKept_idleWindows w _ _)
  have h3 : EngKept EngSt.rx k s2 s3 := .trans (.keep (engKept_modEng w s2) (keep_count _ _ _ _ _)) (engKept_modEng w _)
  have h4 : EngKept EngSt.rx k s s4 := (h2.trans h3).keep (keep_losePipeline w s3)
  have h6 : EngKept EngSt.rx k s s6 := .keep (show EngKept EngSt.rx k s s5 from h4) (keep_apsEvent _ _ _ s5)
  exact h6.ite (h6.trans (engKept_modDown w s6))

theorem rxKept_apsUpdate (s : State) : EngKept EngSt.rx k s (apsUpdate s) := by
  unfold apsUpdate
  refine apsEval_keeps (fun a u h => h) (fun r u h => h.keep (keep_noteReq r u))
    (fun w r planned own u h => h.trans (rxKept_startSwitch w r planned own u)) ?_
  exact (rxKept_followCauses .A s).trans (rxKept_followCauses .B _)

end

/-! ## One receiver -/

theorem EngKept.getBrx {e : Eng} {s t : State} (h : EngKept EngSt.rx e s t) (n : Nat) : getBrx t e n = Machine.getBrx s e n := getBrx_congr_rx h n

theorem Same.getBrx {m : Nat} {s t : State} (h : Same m s t) (e : Eng) (n : Nat) (a : m.testBit 16 = false := by rfl)
    (b : m.testBit 17 = false := by rfl) : getBrx t e n = Machine.getBrx s e n := EngKept.getBrx (.of_same h a b) n

section
variable (e : Eng) (n : Nat) (s : State)

@[simp] theorem getBrx_countSc (i j k : Nat) : getBrx (countSc e n i j s) e k = getBrx s e k := (keep_countSc e n i j s).getBrx e k

@[simp] theorem getBrx_countScLeaf (i : Nat) (l : Option Nat) (j c k : Nat) : getBrx (countScLeaf e n i l j c s) e k = getBrx s e k :=
  (keep_countScLeaf e n i l j c s).getBrx e k

@[simp] theorem getBrx_brxEvent (code : Nat) (data : BitVec 80) (k : Nat) : getBrx (brxEvent e n code data s) e k = getBrx s e k :=
  (keep_brxEvent e n code data s).getBrx e k

@[simp] theorem getBrx_modTurn (w : Window) (f : TurnStat → TurnStat) (k : Nat) : getBrx (modTurn e w f s) e k = getBrx s e k :=
  getBrx_congr_rx (getEng_modTurn_rx e e w f s) k

@[simp] theorem getBrx_startRerange (l row k : Nat) : getBrx (startRerange e l row s) e k = getBrx s e k :=
  (rxKept_startRerange e l row s).getBrx k

@[simp] theorem getBrx_apsUpdate (k : Nat) : getBrx (apsUpdate s) e k = getBrx s e k := (rxKept_apsUpdate s).getBrx k

@[simp] theorem getBrx_seedMiss (l cause k : Nat) : getBrx (seedMiss e n l cause s) e k = getBrx s e k := (keep_seedMiss e n l cause s).getBrx e k

end

/-! ## Doubles and captures (R187 to R190) -/

@[simp] theorem getBrx_doubles (e : Eng) (n : Nat) (earlier later : Option Nat) (runOn : Bool) (kind : GateKind) (s : State) (k : Nat) :
    getBrx (doubles e n earlier later runOn kind s) e k = getBrx s e k := by
  unfold doubles
  dsimp only
  split
  · simp
  · split
    · split <;> simp
    · simp

/-- A capture that is settled is forgotten, and of the receiver that is all. -/
@[simp] theorem getBrx_resolveCap (e : Eng) (n : Nat) (named : Option Nat) (s : State) :
    getBrx (resolveCap e n named s) e n = { getBrx s e n with cap := none } := by
  unfold resolveCap
  dsimp only
  split
  · next h => rw [← h]
  · simp

theorem getBrx_lapseCap (e : Eng) (n : Nat) (s : State) : ∃ c, getBrx (lapseCap e n s) e n = { getBrx s e n with cap := c } := by
  unfold lapseCap
  dsimp only
  split
  · exact ⟨_, rfl⟩
  · split
    · exact ⟨_, rfl⟩
    · exact ⟨none, getBrx_resolveCap e n none s⟩

theorem lapseCap_idle {e : Eng} {n : Nat} {s : State} (h : receiving (getBrx s e n) = true ∨ (getBrx s e n).cap = none) : lapseCap e n s = s := by
  unfold lapseCap
  dsimp only
  split
  · rfl
  · next c hc =>
    rcases h with h | h
    · simp [h]
    · exact absurd (hc.symm.trans h) (by simp)

/-! ## A receiver that looks for bursts again (R171, R185 to R187) -/

/-- What `rearm` leaves alone, the gates and the state apart. -/
@[simp] theorem rearm_fields (x : BrxSt) : (rearm x).pos = x.pos ∧ (rearm x).noise = x.noise ∧ (rearm x).last = x.last := by
  unfold rearm
  dsimp only
  split
  · split <;> exact ⟨rfl, rfl, rfl⟩
  · split <;> split <;> exact ⟨rfl, rfl, rfl⟩

theorem rearm_replay (x : BrxSt) : (rearm x).replay = if replayOpen x then x.replay else none := by
  unfold rearm
  dsimp only
  split <;> split <;> (try split) <;> rfl

/-- It is CLOSED or ARMED. -/
theorem rearm_idle (x : BrxSt) : (rearm x).st = .closed ∨ (rearm x).st = .armed := by
  rw [rearm_st]
  split
  · exact .inr rfl
  · exact .inl rfl

theorem replayOpen_none {x : BrxSt} (h : x.replay = none) : replayOpen x = false := by
  unfold replayOpen
  rw [h]

theorem gateOf_none {x : BrxSt} (h : openGates x = []) (p : Int) : gateOf x p = none := by
  unfold gateOf
  rw [h]
  rfl

/-- With no gate open and no replay it is CLOSED. -/
theorem rearm_closed {x : BrxSt} (gates : openGates x = []) (replay : x.replay = none) : (rearm x).st = .closed := by
  rw [rearm_st, gateOf_none gates, replayOpen_none replay]
  rfl

end Sys2Proof.Machine

end

section
/-! The gates of a burst receiver (R170, R171, R186): what settling a capture leaves of what a gate takes at its opening, and what an opening
makes of the receiver. -/

namespace Sys2Proof.Machine

-- One theorem after another: each theorem that waits for another holds a thread with its stack, and many do not fit a check.
set_option Elab.async false

/-! ## What a gate takes at its opening (R170, R171, R318) -/

/-- What an engine's record gives a gate: the coefficients of its receive side, and the maps that it has sent. -/
def EngSt.granting (x : EngSt) : CalSt × List MapSt := (x.calRx, x.maps.filter (fun m => m.committed))

theorem windowOf_granting (s : State) (e : Eng) (n : Nat) (w : Window) :
    windowOf s e n w = (((getEng s (treeEng s e)).granting.2.flatMap (mapWindows n)).find? (fun p => p.1 = w)).map (fun p => p.2) := rfl

theorem find_sent (x : EngSt) (n : Nat) :
    x.maps.find? (fun m => m.committed && decide (m.tn = n)) = x.granting.2.find? (fun m => decide (m.tn = n)) := by
  simp [EngSt.granting, List.find?_filter]

/-- The gate for a window at an engine is the same in both states. -/
def GateKept (e : Eng) (s t : State) : Prop := ∀ n w, gateFor t e n w = gateFor s e n w

theorem gateKept_of {e : Eng} {s t : State} (boot : t.boot = s.boot) (regs : t.regs = s.regs) (aps : t.aps = s.aps) (clk : t.clk = s.clk)
    (eng : ∀ k, EngKept EngSt.granting k s t) (seed : ∀ l, (getLeaf t e l).seed = (getLeaf s e l).seed) : GateKept e s t := by
  intro n w
  have shift : windowShift t e = windowShift s e := by rw [windowShift, offsetHere_congr boot aps, windowShift]
  have settles : switchSettles t e = switchSettles s e := by simp only [switchSettles, boot, aps]
  have bounds : gateBounds t e w = gateBounds s e w := by simp only [gateBounds, shift, settles]
  have sent : (getEng t (treeEng t e)).granting = (getEng s (treeEng s e)).granting := by rw [treeEng_congr boot aps]; exact eng _
  have margin : marginOf t e w = marginOf s e w := by simp only [marginOf, find_sent, sent]
  have window : windowOf t e n w = windowOf s e n w := by rw [windowOf_granting, windowOf_granting, sent]
  have valid (l : Nat) : validSeed t e l = validSeed s e l := by simp only [validSeed, seed, now_congr clk, regF_congr regs]
  have nominal : nominalGain t e n = nominalGain s e n := by
    have cal : getCal t e true = getCal s e true := congrArg Prod.fst (eng e)
    simp only [nominalGain, coefNow, cal]
  have presets : presetsFor t e n w = presetsFor s e n w := by simp only [presetsFor, valid, nominal]
  simp only [gateFor, bounds, shift, window, margin, presets, getReg_congr regs]

theorem GateKept.refl (e : Eng) (s : State) : GateKept e s s := fun _ _ => rfl

theorem GateKept.trans {e : Eng} {s t u : State} (h : GateKept e s t) (k : GateKept e t u) : GateKept e s u := fun n w => (k n w).trans (h n w)

/-- The parts that a gate is made from. -/
def gateParts : List Part := [.clk, .boot, .regs, .engA, .engB, .aps, .leaves]

theorem GateKept.of_same {m : Nat} {e : Eng} {s t : State} (h : Same m s t) (hm : (gateParts.all fun p => ! m.testBit p.bit) = true := by rfl) :
    GateKept e s t := by
  have kept (p : Part) (hp : p ∈ gateParts) : p.same s t := h p (by simpa using List.all_eq_true.mp hm p hp)
  refine gateKept_of (kept .boot (by decide)) (kept .regs (by decide)) (kept .aps (by decide)) (kept .clk (by decide)) (fun k => ?_) fun l => ?_
  · exact congrArg _ (getEng_congr (kept .engA (by decide)) (kept .engB (by decide)) k)
  · rw [getLeaf_congr (kept .leaves (by decide)) (kept .boot (by decide))]

theorem gateKept_setBrx (e : Eng) (n : Nat) (x : BrxSt) (s : State) : GateKept e s (setBrx e n x s) := by
  have k := keep_setBrx e n x s
  exact gateKept_of (k .boot rfl) (k .regs rfl) (k .aps rfl) (k .clk rfl) (fun _ => engKept_modEng e s) fun l => by rw [k.getLeaf]

/-! ## Re-ranging and doubles leave it alone (R189, R320) -/

/-- A change of maps that leaves the sent ones alone. -/
theorem filter_committed_map {f : MapSt → MapSt} (sent : ∀ m, m.committed = true → f m = m) (rest : ∀ m, (f m).committed = m.committed) :
    ∀ l : List MapSt, (l.map f).filter (fun m => m.committed) = l.filter (fun m => m.committed)
  | [] => rfl
  | m :: l => by
    rw [List.map_cons, List.filter_cons, List.filter_cons, filter_committed_map sent rest l, rest]
    split
    · next h => rw [sent m h]
    · rfl

theorem strikeMap_committed (p : Grant → Bool) (m : MapSt) : (strikeMap p m).committed = m.committed := by
  unfold strikeMap
  split
  · rfl
  · dsimp only
    split <;> rfl

theorem rebase_committed (s : State) (e : Eng) (p : Grant → Bool) (m : MapSt) : (rebase s e p m).committed = m.committed := by
  unfold rebase
  split
  · rfl
  · exact strikeMap_committed p m

theorem rebase_sent {s : State} {e : Eng} {p : Grant → Bool} {m : MapSt} (h : m.committed = true) : rebase s e p m = m := by
  unfold rebase
  rw [h]
  rfl

/-- Only speculative maps are struck (R328). -/
theorem grantingKept_strike (e k : Eng) (p : Grant → Bool) (s : State) : EngKept EngSt.granting k s (strike e p s) := by
  unfold strike
  refine .keep ?_ (keep_count _ _ _ _ _)
  unfold EngKept
  rw [getEng_modEng]
  split
  · next h =>
    subst h
    rw [getEng_modEng, if_pos rfl]
    exact congrArg (Prod.mk _) (filter_committed_map (fun m => rebase_sent) (rebase_committed _ _ _) _)
  · next h => rw [getEng_modEng, if_neg h]

theorem grantingKept_sendMsg (e k : Eng) (m : Msg) (s : State) : EngKept EngSt.granting k s (sendMsg e m s) :=
  .ite (engKept_modDown _ s) (engKept_modDown _ s)

theorem grantingKept_startRerange (e k : Eng) (l row : Nat) (s : State) : EngKept EngSt.granting k s (startRerange e l row s) := by
  refine .ite (.refl s) (.ite (.of_same (keep_setLeaf _ _ _ s)) ?_)
  refine .keep (.keep ?_ (keep_countSched _ _ _ _ _ _)) (keep_rerangeEvent _ _ _ _ _ _)
  exact .trans (.trans (.of_same (keep_setLeaf _ _ _ s)) (grantingKept_sendMsg _ _ _ _)) (grantingKept_strike _ _ _ _)

/-- A leaf that is re-ranged keeps its seed. -/
theorem seed_startRerange (e : Eng) (l row n : Nat) (s : State) : (getLeaf (startRerange e l row s) e n).seed = (getLeaf s e n).seed := by
  dsimp only [startRerange]
  split
  · rfl
  · split
    · rw [getLeaf_setLeaf]
      split
      · next h => rw [h]
      · rfl
    · rw [getLeaf_rerangeEvent, (keep_countSched _ _ _ _ _ _).getLeaf, getLeaf_strike, getLeaf_sendMsg, getLeaf_setLeaf]
      split
      · next h => rw [h]
      · rfl

theorem gateKept_startRerange (e : Eng) (l row : Nat) (s : State) : GateKept e s (startRerange e l row s) := by
  have k := keep_startRerange e l row s
  exact gateKept_of (k .boot rfl) (k .regs rfl) (k .aps rfl) (k .clk rfl) (fun _ => grantingKept_startRerange ..) fun _ => seed_startRerange ..

theorem gateKept_doubles (e : Eng) (n : Nat) (earlier later : Option Nat) (runOn : Bool) (kind : GateKind) (s : State) :
    GateKept e s (doubles e n earlier later runOn kind s) := by
  have flag : GateKept e s (setFlag .brxFlags e 1 (countScLeaf e n 9 later 6 1 s)) :=
    .trans (.of_same (keep_countScLeaf e n 9 later 6 1 s)) (.of_same (keep_setFlag _ _ _ _))
  unfold doubles
  dsimp only
  split
  · exact flag
  · have event (d : BitVec 80) := flag.trans (.of_same (keep_brxEvent e n 0x0502 d _))
    split
    · split
      · exact event _
      · exact (event _).trans (gateKept_startRerange _ _ _ _)
    · exact event _

theorem gateKept_lapseCap (e : Eng) (n : Nat) (s : State) : GateKept e s (lapseCap e n s) := by
  have resolved : GateKept e s (resolveCap e n none s) := by
    unfold resolveCap
    dsimp only
    split
    · exact .refl e s
    · exact (gateKept_setBrx _ _ _ _).trans (gateKept_doubles _ _ _ _ _ _ _)
  unfold lapseCap
  dsimp only
  split
  · exact .refl e s
  · split
    · exact .refl e s
    · exact resolved

end Sys2Proof.Machine

end

section
/-! A gate of a burst receiver opens (R170, R171, R173, R186): the receiver that it leaves, in terms of the one before. -/

namespace Sys2Proof.Machine

-- One theorem after another: each theorem that waits for another holds a thread with its stack, and many do not fit a check.
set_option Elab.async false

/-! ## A gate opens (R170, R171, R173, R186) -/

/-- The receiver with a gate noted: the one it has of that window, or a new one before which the noise floor was read. -/
def gateNoted (g : Gate) (x : BrxSt) : BrxSt :=
  if noted x g.w then x
  else { x with gates := x.gates ++ [g], noise := if openGates x = [] then inputReading (rmsMean x.rms) else x.noise }

/-- A receiver that was in state `st` takes a gate that it has noted. -/
def gateTaken (st : BrxState) (g : Gate) (y : BrxSt) : BrxSt :=
  match st with
  | .closed => rearm (if y.pos < g.lo then catchUp y g.lo else y)
  | .armed => if y.pos ≤ g.lo then { y with falseRun := 0 } else loadPresets g y
  | .waitFall => loadPresets g y
  | .spec | .header | .payload => y

/-- What BRX_GATE_OPEN makes of the state. -/
def gateOpened (e : Eng) (n : Nat) (w : Window) (s : State) : State :=
  let t := lapseCap e n s
  let x := getBrx t e n
  let g := gateFor t e n w
  setBrx e n (gateTaken x.st g (gateNoted g x)) t

theorem execBrxGateOpen_eq (e : Eng) (sc : Sc) (w : Window) (ws : List RxWord) (s : State) : execBrxGateOpen e sc w ws s =
    let u := takeWords e ws s
    act (rxUp u e && (windowOf u e sc w).isSome && (! (getBrx u e sc).gates.any (fun g => g.w = w) || ((getBrx u e sc).st = .closed && noted (getBrx u e sc) w)))
      (gateOpened e sc w) u := by
  unfold execBrxGateOpen heard act gateOpened gateTaken gateNoted
  dsimp only
  generalize (getBrx (lapseCap e sc (takeWords e ws s)) e sc).st = st
  cases st <;> rfl

theorem gateNoted_new {g : Gate} {x : BrxSt} (h : noted x g.w = false) : gateNoted g x =
    { x with gates := x.gates ++ [g], noise := if openGates x = [] then inputReading (rmsMean x.rms) else x.noise } :=
  if_neg (by rw [h]; exact Bool.false_ne_true)

theorem gateNoted_old {g : Gate} {x : BrxSt} (h : noted x g.w = true) : gateNoted g x = x := if_pos h

theorem gateNoted_st (g : Gate) (x : BrxSt) : (gateNoted g x).st = x.st := by
  unfold gateNoted
  split <;> rfl

theorem gateTaken_fields (st : BrxState) (g : Gate) (y : BrxSt) : (gateTaken st g y).gates = y.gates ∧ (gateTaken st g y).noise = y.noise := by
  unfold gateTaken
  split
  · simp only [rearm_gates, rearm_fields]
    split <;> exact ⟨rfl, rfl⟩
  · split <;> exact ⟨rfl, rfl⟩
  all_goals exact ⟨rfl, rfl⟩

/-- Only a CLOSED receiver changes its state. -/
theorem gateTaken_st {st : BrxState} (h : st ≠ .closed) (g : Gate) (y : BrxSt) : (gateTaken st g y).st = y.st := by
  unfold gateTaken
  split
  · exact absurd rfl h
  · split <;> rfl
  all_goals rfl

/-- A CLOSED receiver is ARMED from the gate's first symbol on, or from where it stands in the gate. -/
theorem gateTaken_closed {g : Gate} {y : BrxSt} (mem : g ∈ openGates y) (holds : max y.pos g.lo < g.hi) :
    (gateTaken .closed g y).st = .armed ∧ (gateTaken .closed g y).pos = max y.pos g.lo := by
  let z := if y.pos < g.lo then catchUp y g.lo else y
  have pos : z.pos = max y.pos g.lo := by
    unfold z
    split
    · next h => exact (max_eq_right h.le).symm
    · next h => exact (max_eq_left (not_lt.mp h)).symm
  have gates : openGates z = openGates y := by
    unfold z
    split <;> rfl
  have inside : (gateOf z z.pos).isSome = true := by
    rw [gateOf, gates, pos, List.getLast?_isSome]
    exact List.ne_nil_of_mem (List.mem_filter.mpr ⟨mem, by simp [holds]⟩)
  rw [show gateTaken .closed g y = rearm z from rfl, rearm_st, inside, (rearm_fields z).1]
  exact ⟨rfl, pos⟩

/-- The receiver after its gate opened, in terms of the receiver before. -/
theorem getBrx_gateOpened (e : Eng) (n : Nat) (w : Window) (s : State) : ∃ c,
    getBrx (gateOpened e n w s) e n = gateTaken (getBrx s e n).st (gateFor s e n w) (gateNoted (gateFor s e n w) { getBrx s e n with cap := c }) := by
  obtain ⟨c, lapsed⟩ := getBrx_lapseCap e n s
  refine ⟨c, ?_⟩
  unfold gateOpened
  dsimp only
  rw [getBrx_setBrx, if_pos rfl, gateKept_lapseCap e n s, lapsed]

end Sys2Proof.Machine

end

section
/-! A gate of a burst receiver closes (R170, R185, R187): the receiver that it leaves, in terms of the one before. -/

namespace Sys2Proof.Machine

-- One theorem after another: each theorem that waits for another holds a thread with its stack, and many do not fit a check.
set_option Elab.async false

/-! ## A gate closes (R170, R185, R187) -/

/-- The receiver with the gate of a window closed. -/
def gateShut (g : Gate) (x : BrxSt) : BrxSt :=
  let y := modGate g.w (fun g => { g with closed := true }) x
  { y with openTo := max y.openTo g.hi }

/-- The receiver behind a gate that closed: ARMED, it looks for bursts again where no gate is open at its read position. -/
def gateLeft (g : Gate) (x : BrxSt) : BrxSt :=
  let y := gateShut g x
  if x.st = .armed && ! gateNow y then rearm (catchUp y (posNow y)) else y

theorem mem_gateShut {g h : Gate} {x : BrxSt} (mem : h ∈ (gateShut g x).gates) (same : h.w = g.w) : h.closed = true := by
  obtain ⟨k, -, rfl⟩ := List.mem_map.mp mem
  by_cases hk : k.w = g.w
  · rw [if_pos hk]
  · rw [if_neg hk] at same
    exact absurd same hk

/-- The open gate was the only one. -/
theorem openGates_gateShut {g : Gate} {x : BrxSt} (only : openGates x = [g]) : openGates (gateShut g x) = [] := by
  refine List.filter_eq_nil_iff.mpr fun h mem => ?_
  by_cases same : h.w = g.w
  · rw [mem_gateShut mem same]
    decide
  · obtain ⟨k, hk, rfl⟩ := List.mem_map.mp mem
    have other : k.w ≠ g.w := fun hw => same (by rw [if_pos hw]; exact hw)
    rw [if_neg other]
    intro opens
    have : k ∈ openGates x := List.mem_filter.mpr ⟨hk, opens⟩
    rw [only, List.mem_singleton] at this
    exact other (congrArg Gate.w this)

theorem gateLeft_gates (g : Gate) (x : BrxSt) : (gateLeft g x).gates = (gateShut g x).gates := by
  unfold gateLeft
  dsimp only
  split
  · rw [rearm_gates]; rfl
  · rfl

theorem gateLeft_st {g : Gate} {x : BrxSt} (h : x.st ≠ .armed) : (gateLeft g x).st = x.st := by
  unfold gateLeft
  simp only [h, decide_false, Bool.false_and, Bool.false_eq_true, if_false]
  rfl

theorem gateLeft_last {g : Gate} {x : BrxSt} (armed : x.st = .armed) (only : openGates x = [g]) (replay : x.replay = none) :
    (gateLeft g x).st = .closed := by
  have none := openGates_gateShut only
  have now : gateNow (gateShut g x) = false := by rw [gateNow, gateOf_none none]; rfl
  unfold gateLeft
  simp only [armed, now, decide_true, Bool.not_false, Bool.and_self, if_true]
  exact rearm_closed none replay

/-- What BRX_GATE_CLOSE makes of the state. -/
def gateClosed (e : Eng) (n : Nat) (s : State) : State :=
  match openGates (getBrx s e n) with
  | [] => settle e n (modBrx e n (fun x => rearm { x with replay := none }) (resolveCap e n none s))
  | g :: _ =>
    let t := lapseCap e n s
    settle e n (setBrx e n (gateLeft g (getBrx t e n)) t)

theorem execBrxGateClose_eq (e : Eng) (sc : Sc) (s : State) : execBrxGateClose e sc s =
    act (rxUp s e && (openGates (getBrx s e sc) ≠ [] || ((getBrx s e sc).st = .armed && (getBrx s e sc).replay.isSome))) (gateClosed e sc) s := by
  obtain ⟨c, lapsed⟩ := getBrx_lapseCap e sc s
  unfold execBrxGateClose act gateClosed gateLeft gateShut
  dsimp only
  rw [lapsed] <;> rfl

theorem getBrx_gateClosed_none {e : Eng} {n : Nat} {s : State} (h : openGates (getBrx s e n) = []) :
    (getBrx (gateClosed e n s) e n).st = .closed ∧ (getBrx (gateClosed e n s) e n).replay = none := by
  unfold gateClosed
  rw [h]
  simp only [getBrx_settle, getBrx_modBrx, if_true, getBrx_resolveCap]
  exact ⟨rearm_closed h rfl, by rw [rearm_replay, replayOpen_none rfl]; rfl⟩

theorem getBrx_gateClosed {e : Eng} {n : Nat} {s : State} {g : Gate} {l : List Gate} (h : openGates (getBrx s e n) = g :: l) :
    ∃ c, let y := gateLeft g { getBrx s e n with cap := c }
      getBrx (gateClosed e n s) e n = { y with gates := settledGates y } := by
  obtain ⟨c, lapsed⟩ := getBrx_lapseCap e n s
  refine ⟨c, ?_⟩
  unfold gateClosed
  rw [h]
  simp only [getBrx_settle, getBrx_setBrx, if_true, lapsed]

/-- The gates that stay after a settling were there before. -/
theorem mem_settledGates {g : Gate} {x : BrxSt} (h : g ∈ settledGates x) : g ∈ x.gates := (List.mem_filter.mp h).1

end Sys2Proof.Machine

end

section
/-! The events of a burst receiver up to its sync word (R170 to R177, R185, R186, R230), and O29. -/

namespace Sys2Proof.Machine

-- One theorem after another: each theorem that waits for another holds a thread with its stack, and many do not fit a check.
set_option Elab.async false

/-! ## A gate opens and closes -/

/-- A gate that the receiver has not noted stands last among its gates. -/
theorem gateOpened_new {e : Eng} {n : Nat} {w : Window} {s : State} (h : noted (getBrx s e n) w = false) :
    (getBrx (gateOpened e n w s) e n).gates = (getBrx s e n).gates ++ [gateFor s e n w] ∧
    (getBrx (gateOpened e n w s) e n).noise =
      if openGates (getBrx s e n) = [] then inputReading (rmsMean (getBrx s e n).rms) else (getBrx s e n).noise := by
  obtain ⟨c, opened⟩ := getBrx_gateOpened e n w s
  have new := gateNoted_new (g := gateFor s e n w) (x := { getBrx s e n with cap := c }) h
  rw [opened, (gateTaken_fields _ _ _).1, (gateTaken_fields _ _ _).2, new]
  exact ⟨rfl, rfl⟩

theorem gateOpened_noted {e : Eng} {n : Nat} {w : Window} {s : State} (h : noted (getBrx s e n) w = true) :
    (getBrx (gateOpened e n w s) e n).gates = (getBrx s e n).gates := by
  obtain ⟨c, opened⟩ := getBrx_gateOpened e n w s
  have old := gateNoted_old (g := gateFor s e n w) (x := { getBrx s e n with cap := c }) h
  rw [opened, (gateTaken_fields _ _ _).1, old]

theorem gateOpened_closed {e : Eng} {n : Nat} {w : Window} {s : State} (closed : (getBrx s e n).st = .closed)
    (h : noted (getBrx s e n) w = false) (holds : max (getBrx s e n).pos (gateBounds s e w).1 < (gateBounds s e w).2) :
    (getBrx (gateOpened e n w s) e n).st = .armed ∧
    (getBrx (gateOpened e n w s) e n).pos = max (getBrx s e n).pos (gateBounds s e w).1 := by
  obtain ⟨c, opened⟩ := getBrx_gateOpened e n w s
  have new := gateNoted_new (g := gateFor s e n w) (x := { getBrx s e n with cap := c }) h
  have mem : gateFor s e n w ∈ openGates (gateNoted (gateFor s e n w) { getBrx s e n with cap := c }) := by
    rw [new]
    exact List.mem_filter.mpr ⟨List.mem_append_right _ (List.mem_singleton.mpr rfl), rfl⟩
  have pos : (gateNoted (gateFor s e n w) { getBrx s e n with cap := c }).pos = (getBrx s e n).pos := by rw [new]
  have taken := gateTaken_closed mem (by rw [pos]; exact holds)
  rw [opened, closed]
  rw [pos] at taken
  exact taken

theorem gateOpened_busy {e : Eng} {n : Nat} {w : Window} {s : State} (h : (getBrx s e n).st ≠ .closed) :
    (getBrx (gateOpened e n w s) e n).st = (getBrx s e n).st := by
  obtain ⟨c, opened⟩ := getBrx_gateOpened e n w s
  rw [opened, gateTaken_st h, gateNoted_st]

theorem gateOpened_other {e : Eng} {n : Nat} {w : Window} {s : State} (h : receiving (getBrx s e n) = true ∨ (getBrx s e n).cap = none) :
    getEng (gateOpened e n w s) e.other = getEng s e.other := by
  unfold gateOpened
  rw [lapseCap_idle h]
  exact (getEng_modEng _ _ _ _).trans (if_neg (other_ne e))

/-- The oldest open gate closes. -/
theorem gateClosed_oldest {e : Eng} {n : Nat} {s : State} {g : Gate} (mem : g ∈ (getBrx (gateClosed e n s) e n).gates)
    (oldest : (openGates (getBrx s e n)).head?.map (fun g => g.w) = some g.w) : g.closed = true := by
  cases h : openGates (getBrx s e n) with
  | nil => rw [h] at oldest; exact absurd oldest (by simp)
  | cons f l =>
    obtain ⟨c, closed⟩ := getBrx_gateClosed h
    rw [h] at oldest
    rw [closed] at mem
    have shut := mem_settledGates mem
    rw [gateLeft_gates] at shut
    exact mem_gateShut shut (Option.some.inj oldest).symm

theorem gateClosed_last {e : Eng} {n : Nat} {s : State} (armed : (getBrx s e n).st = .armed) (only : (openGates (getBrx s e n)).length = 1)
    (replay : (getBrx s e n).replay = none) : (getBrx (gateClosed e n s) e n).st = .closed := by
  obtain ⟨g, h⟩ := List.length_eq_one_iff.mp only
  obtain ⟨c, closed⟩ := getBrx_gateClosed h
  rw [closed]
  exact gateLeft_last (x := { getBrx s e n with cap := c }) armed h replay

/-- A reception goes on. -/
theorem gateClosed_receiving {e : Eng} {n : Nat} {s : State} (h : receiving (getBrx s e n) = true)
    (opens : openGates (getBrx s e n) ≠ []) : (getBrx (gateClosed e n s) e n).st = (getBrx s e n).st := by
  obtain ⟨g, l, cons⟩ := List.exists_cons_of_ne_nil opens
  obtain ⟨c, closed⟩ := getBrx_gateClosed cons
  have busy : (getBrx s e n).st ≠ .armed := fun a => by simp [receiving, a] at h
  rw [closed]
  exact gateLeft_st (x := { getBrx s e n with cap := c }) busy

/-- A gate that closes during a reception is open: only an ARMED receiver has its replay ended. -/
theorem gateOpen_receiving {e : Eng} {n : Nat} {s : State}
    (h : (rxUp s e && (openGates (getBrx s e n) ≠ [] || ((getBrx s e n).st = .armed && (getBrx s e n).replay.isSome))) = true)
    (busy : receiving (getBrx s e n) = true) : openGates (getBrx s e n) ≠ [] := by
  have other : (getBrx s e n).st ≠ .armed := fun a => by simp [receiving, a] at busy
  simp only [other, decide_false, Bool.false_and, Bool.or_false, Bool.and_eq_true, decide_eq_true_eq] at h
  exact h.2

/-! ## Detection, sync and fall -/

/-- Settling a capture whose burst can no longer come changes nothing else of the receiver. -/
theorem getBrx_capPassed (e : Eng) (n : Nat) (p : Bool) (s : State) :
    ∃ c, getBrx (if p then resolveCap e n none s else s) e n = { getBrx s e n with cap := c } := by
  split
  · exact ⟨none, getBrx_resolveCap e n none s⟩
  · exact ⟨_, rfl⟩

/-- The receiver that a detection under a gate leaves, its capture apart. -/
def detectedAt (d : Int) (g : Gate) (x : BrxSt) : BrxSt :=
  let z := if (loopTo x (d + 1)).gate.map (fun g => g.w) = some g.w then x else loadPresets g x
  let y := catchUp (modGate g.w (fun g => { g with detected := true }) z) d
  { y with
    st := .spec, d := d, win := some g.w, cfgW := g.cfgW
    loaded := some g, falseRun := if z.pos < g.lo then 0 else z.falseRun
    snapGain := (loopTo z (d - 15)).gain, snapFofs := g.pre.fofs, fofs := g.pre.fofs, gain := (loopTo z (d + 1)).gain
    level := (z.sym d).env, eq := g.pre.taps
    cur := {}, bytes := [], blk := 0, blks := [], tail := [], anyGood := false, rises := [], charged := [] }

/-- What BURST_DETECTED makes of the state. -/
def burstDetected (e : Eng) (n : Nat) (s : State) : State :=
  let x := getBrx s e n
  let d := (detectAt x).getD 0
  match gateAt x d with
  | none => s
  | some g =>
    let t := if x.cap.any (fun c => decide (c.till < d)) then resolveCap e n none s else s
    setBrx e n (detectedAt d g (getBrx t e n)) t

theorem execBurstDetected_eq (e : Eng) (sc : Sc) (ws : List RxWord) (s : State) : execBurstDetected e sc ws s =
    let u := takeWords e ws s
    act (rxUp u e && (getBrx u e sc).st = .armed && (detectAt (getBrx u e sc)).isSome) (burstDetected e sc) u := by
  unfold execBurstDetected heard act burstDetected detectedAt
  rfl

theorem getBrx_burstDetected {e : Eng} {n : Nat} {s : State} {d : Int} {g : Gate} (found : detectAt (getBrx s e n) = some d)
    (gate : gateAt (getBrx s e n) d = some g) :
    ∃ c, getBrx (burstDetected e n s) e n = detectedAt d g { getBrx s e n with cap := c } := by
  obtain ⟨c, passed⟩ := getBrx_capPassed e n ((getBrx s e n).cap.any (fun c => decide (c.till < d))) s
  refine ⟨c, ?_⟩
  unfold burstDetected
  simp only [found, Option.getD_some, gate]
  rw [getBrx_setBrx, if_pos rfl, passed]

/-- What the receiver takes from the loops up to a detection. -/
theorem detectedAt_loops (d : Int) (g : Gate) (x : BrxSt) (c : Option CapWait) :
    let z := if (loopTo x (d + 1)).gate.map (fun g => g.w) = some g.w then x else loadPresets g x
    let y := detectedAt d g { x with cap := c }
    y.level = (x.sym d).env ∧ y.snapGain = (loopTo z (d - 15)).gain ∧ y.gain = (loopTo z (d + 1)).gain := by
  have loop : loopTo { x with cap := c } (d + 1) = loopTo x (d + 1) := rfl
  unfold detectedAt
  rw [loop]
  split <;> exact ⟨rfl, rfl, rfl⟩

/-- The first two candidates in a row go back to 16 symbols behind the detection. -/
def missedAgain (x : BrxSt) : BrxSt :=
  let y := rewind { x with falseRun := x.falseRun + 1 } (x.d + 16)
  let back := fun (g : Gate) => decide (g.lo ≤ x.d + 16) && decide (x.d + 16 < g.hi)
  let y := modWin (fun g => { g with closed := g.closed && ! back g }) y
  { y with cap := y.cap.map (fun c => { c with till := max c.till (x.d + 80) }) }

/-- What a missed sync deadline makes of the state. -/
def deadlineMissed (e : Eng) (n : Nat) (s : State) : State :=
  let x := catchUp (getBrx s e n) ((getBrx s e n).d + syncReach)
  if x.falseRun < 2 then settle e n (setBrx e n (rearm (missedAgain x)) (countSc e n 5 1 s))
  else
    let s := countSc e n 5 1 (resolveCap e n none s)
    let w := ((curGate x).map (fun g => g.w.kind)).getD .granted
    let y := modWin (fun g => { g with closed := true }) { x with falseRun := 3, cap := none, replay := none }
    let s := setFlag .brxFlags e 0 (countSc e n 6 1 (setBrx e n (rearm y) s))
    settle e n (brxEvent e n 0x0501 (packData [(16, fnOf s e), (8, caseCode w)]) s)

theorem execSyncDeadlineMiss_eq (e : Eng) (sc : Sc) (ws : List RxWord) (s : State) : execSyncDeadlineMiss e sc ws s =
    let u := takeWords e ws s
    act (rxUp u e && (getBrx u e sc).st = .spec && decide ((getBrx u e sc).d + syncReach + 4 < topSym (getBrx u e sc)) &&
      syncFind (getBrx u e sc) = none) (deadlineMissed e sc) u := by
  unfold execSyncDeadlineMiss heard act deadlineMissed missedAgain
  rfl

theorem deadlineMissed_st (e : Eng) (n : Nat) (s : State) :
    (getBrx (deadlineMissed e n s) e n).st = .closed ∨ (getBrx (deadlineMissed e n s) e n).st = .armed := by
  unfold deadlineMissed
  dsimp only
  split
  · rw [getBrx_settle, getBrx_setBrx, if_pos rfl]
    exact rearm_idle _
  · rw [getBrx_settle, getBrx_brxEvent, (keep_setFlag _ _ _ _).getBrx, getBrx_countSc, getBrx_setBrx, if_pos rfl]
    exact rearm_idle _

theorem deadlineMissed_pos {e : Eng} {n : Nat} {s : State} (h : (getBrx s e n).falseRun < 2) :
    (getBrx (deadlineMissed e n s) e n).pos = (getBrx s e n).d + 16 := by
  have early : (catchUp (getBrx s e n) ((getBrx s e n).d + syncReach)).falseRun < 2 := h
  unfold deadlineMissed
  dsimp only
  rw [if_pos early, getBrx_settle, getBrx_setBrx, if_pos rfl]
  dsimp only
  rw [(rearm_fields _).1]
  exact (modWin_fields _ _).2.2.2.2.2.1

/-! ### Flags of the third false candidate -/

theorem flagsRise_seedMiss (e : Eng) (n l cause : Nat) (s : State) : FlagsRise s (seedMiss e n l cause s) := by
  unfold seedMiss
  extract_lets t
  have counted : FlagsRise s (countScLeaf e n 14 (some l) 9 1 t) :=
    ((FlagsRise.refl s).keep (keep_modLeaf e l _ s)).keep (keep_countScLeaf e n 14 (some l) 9 1 t)
  exact (counted.setFlag .brxFlags e 3).keep (keep_brxEvent _ _ _ _ _)

theorem flagsRise_leafDefEvent (e : Eng) (l d entry : Nat) (s : State) : FlagsRise s (leafDefEvent e l d entry s) :=
  (FlagsRise.refl s).oncePerTurn fun u => (FlagsRise.refl u).raiseF _ _ _ _ _ _ _

theorem flagsRise_followLost (e : Eng) (l : Nat) (s : State) : FlagsRise s (followLost e l s) := by
  have moved (x : Leaf) : FlagsRise s (setLeaf e l x s) := (FlagsRise.refl s).keep (keep_setLeaf e l x s)
  unfold followLost
  dsimp only
  split
  · exact ((moved _).trans (flagsRise_schedEvent _ _ _ _ _ _)).ite ((moved _).ite (.refl s))
  · exact (moved _).ite (.refl s)

theorem flagsRise_leafReports (e : Eng) (l : Nat) (was : Option Nat) (s : State) : FlagsRise s (leafReports e l was s) := by
  unfold leafReports
  refine FlagsRise.trans (FlagsRise.ite (.refl s) ?_) (flagsRise_followLost e l _)
  extract_lets v
  have left : FlagsRise s v := by
    unfold v
    split
    · exact (FlagsRise.refl s).when (flagsRise_leafDefEvent e l _ 0)
    · exact .refl s
  clear_value v
  split
  · exact (left.trans (flagsRise_leafDefEvent e l _ 1 v)).keep (keep_markCount _ _ _ _ _)
  · exact left

theorem flagsRise_modDefs (e : Eng) (l : Nat) (f : LeafRx → LeafRx) (s : State) : FlagsRise s (modDefs e l f s) :=
  ((FlagsRise.refl s).keep (keep_modRx e l f s)).trans (flagsRise_leafReports e l _ _)

theorem flagsRise_judge (e : Eng) (n : Nat) (g : Gate) (s : State) : FlagsRise s (judge e n g s) := by
  unfold judge
  split
  · exact .refl s
  all_goals
    extract_lets l t t1 t2 t3 t4
    refine FlagsRise.ite (.refl s) ?_
    have h2 : FlagsRise s t2 := (((FlagsRise.refl s).keep (keep_modTurn _ _ _ _)).keep (keep_countLeaf _ _ _ _ _ _)).keep (keep_countLeaf _ _ _ _ _ _)
    have h3 : FlagsRise s t3 := (h2.trans (flagsRise_seedMiss _ _ _ _ _)).ite h2
    have h4 : FlagsRise s t4 := (h3.keep (keep_modEng _ _ _)).ite h3
    exact h4.trans (flagsRise_modDefs _ _ _ _)

theorem flagsRise_settle (e : Eng) (n : Nat) (s : State) : FlagsRise s (settle e n s) :=
  FlagsRise.forAll (flagsRise_judge e n) _ ((FlagsRise.refl s).keep (keep_setBrx e n _ s))

theorem setFlag_brxFlags {e : Eng} {b : Nat} {s : State} (h : b < 32) :
    (getFlags (setFlag .brxFlags e b s) (Reg.addr .brxFlags e 0 0)).getLsbD b = true := by
  have here : flagAddr s .brxFlags e = Reg.addr .brxFlags e 0 0 := rfl
  rw [setFlag, here, getFlags_setFlagAt, if_pos rfl, BitVec.getLsbD_or, getLsbD_pow b b h, decide_eq_true rfl, Bool.or_true]

theorem deadlineMissed_flag {e : Eng} {n : Nat} {s : State} (h : 2 ≤ (getBrx s e n).falseRun) :
    (getFlags (deadlineMissed e n s) (Reg.addr .brxFlags e 0 0)).getLsbD 0 = true := by
  have third : ¬ (catchUp (getBrx s e n) ((getBrx s e n).d + syncReach)).falseRun < 2 := Nat.not_lt.mpr h
  unfold deadlineMissed
  extract_lets x t w y u
  rw [if_neg third]
  have raised (d : BitVec 80) : FlagsRise u (brxEvent e n 0x0501 d u) := (FlagsRise.refl u).keep (keep_brxEvent e n 0x0501 d u)
  exact flagsRise_settle e n _ _ _ (raised _ _ _ (setFlag_brxFlags (by decide)))

/-! ### The sync word -/

/-- The record of a reception at its sync match. -/
def syncRecord (s : State) (e : Eng) (n : Nat) (x : BrxSt) (m : SyncAt) : BurstRec :=
  let t := arrivalTime s e n m.k
  let ns := t / 65536
  let pre := ((curGate x).map (fun g => g.pre)).getD {}
  { sc := n, eng := e.num, falseRun := x.falseRun, power := syncPower x m.k, fofs := if freqEnd x < m.k then (tuned x).fofs else x.snapFofs
    short := shortNow x, seeded := pre.seeded
    syncErrs := syncErrs (syncSeen m.syms), arrSec := ns / 1000000000 % 2 ^ 32, arrNs := ns % 1000000000
    arrFrac := t % 65536 }

/-- What SYNC_MATCH makes of the state. -/
def syncMatched (e : Eng) (n : Nat) (s : State) : State :=
  let x := getBrx s e n
  match syncFind x, x.win with
  | some m, some w =>
    let y := modWin (fun g => { g with synced := true }) (catchUp x m.k)
    modTurn e w (fun z => { z with sync := true })
      (setBrx e n { y with st := .header, k := m.k, falseRun := 0, cur := syncRecord s e n x m
                           fofs := if freqEnd x < m.k then (tuned x).fofs else x.snapFofs
                           eq := m.taps, tail := m.syms, replay := none, arr := arrivalSymbol s e n m.k } s)
  | _, _ => s

theorem execSyncMatch_eq (e : Eng) (sc : Sc) (ws : List RxWord) (s : State) : execSyncMatch e sc ws s =
    let u := takeWords e ws s
    act (rxUp u e && (getBrx u e sc).st = .spec && (syncFind (getBrx u e sc)).isSome) (syncMatched e sc) u := by
  unfold execSyncMatch heard act syncMatched syncRecord
  rfl

/-- A turn shows what a window of it showed. -/
theorem turn_modTurn (e : Eng) (w : Window) (f : TurnStat → TurnStat) (s : State) :
    tget {} (getEng (modTurn e w f s) e).turns (turnNo w) = f (tget {} (getEng s e).turns (turnNo w)) := by
  rw [modTurn, getEng_modEng, if_pos rfl]
  dsimp only
  rw [tget_tset, if_pos rfl]

theorem getBrx_syncMatched {e : Eng} {n : Nat} {s : State} {m : SyncAt} {w : Window} (found : syncFind (getBrx s e n) = some m)
    (win : (getBrx s e n).win = some w) :
    let x := getBrx s e n
    let y := modWin (fun g => { g with synced := true }) (catchUp x m.k)
    getBrx (syncMatched e n s) e n = { y with
      st := .header, k := m.k, falseRun := 0, cur := syncRecord s e n x m
      fofs := if freqEnd x < m.k then (tuned x).fofs else x.snapFofs
      eq := m.taps, tail := m.syms, replay := none, arr := arrivalSymbol s e n m.k } := by
  unfold syncMatched
  simp only [found, win, getBrx_modTurn, getBrx_setBrx, if_true]

theorem turns_syncMatched {e : Eng} {n : Nat} {s : State} {m : SyncAt} {w : Window} (found : syncFind (getBrx s e n) = some m)
    (win : (getBrx s e n).win = some w) :
    (tget {} (getEng (syncMatched e n s) e).turns (turnNo w)).sync = true ∧ getEng (syncMatched e n s) e.other = getEng s e.other := by
  unfold syncMatched
  simp only [found, win]
  refine ⟨by rw [turn_modTurn], ?_⟩
  rw [modTurn, getEng_modEng, if_neg (other_ne e)]
  exact (getEng_modEng _ _ _ _).trans (if_neg (other_ne e))

/-! ### The fall of a burst -/

/-- What BURST_FALL makes of the state. -/
def burstFallen (e : Eng) (n : Nat) (s : State) : State :=
  let x := getBrx s e n
  settle e n (setBrx e n (rearm (catchUp x ((fallAt x).getD 0 + 1))) s)

theorem execBurstFall_eq (e : Eng) (sc : Sc) (ws : List RxWord) (s : State) : execBurstFall e sc ws s =
    let u := takeWords e ws s
    act (rxUp u e && (getBrx u e sc).st = .waitFall && (fallAt (getBrx u e sc)).isSome) (burstFallen e sc) u := by
  unfold execBurstFall heard act burstFallen
  rfl

theorem burstFallen_st (e : Eng) (n : Nat) (s : State) :
    (getBrx (burstFallen e n s) e n).st = (rearm (catchUp (getBrx s e n) ((fallAt (getBrx s e n)).getD 0 + 1))).st := by
  unfold burstFallen
  dsimp only
  rw [getBrx_settle, getBrx_setBrx, if_pos rfl]

/-! ## The obligation -/

/-- Settles O29: for each event what it makes of the state has a name, and the lemmas above say what its receiver then is. -/
theorem burstReception : Obligations.BurstReception := by
  unfold Obligations.BurstReception
  refine ⟨fun e sc w ws s => ?_, fun e sc s => ?_, fun e sc ws s => ?_, fun e sc ws s => ?_, fun e sc ws s => ?_, fun e sc ws s => ?_⟩
  · refine hears_act (execBrxGateOpen_eq e sc w ws s) (fun t => keep_execBrxGateOpen e sc w ws s) rfl fun _ => ?_
    exact ⟨gateOpened_closed, gateOpened_busy, gateOpened_noted, gateOpened_new, gateOpened_other⟩
  · refine actsIf_act (execBrxGateClose_eq e sc s) (fun t h => keep_execBrxGateClose e sc s ((execBrxGateClose_eq e sc s).trans h)) (mask_sub rfl) fun acts => ?_
    exact ⟨fun g => gateClosed_oldest, gateClosed_last, getBrx_gateClosed_none, fun busy => gateClosed_receiving busy (gateOpen_receiving acts busy)⟩
  · refine hears_act (execBurstDetected_eq e sc ws s) (fun t => keep_execBurstDetected e sc ws s) rfl fun _ d g found gate => ?_
    obtain ⟨c, detected⟩ := getBrx_burstDetected found gate
    have loops := detectedAt_loops d g (getBrx (takeWords e ws s) e sc) c
    rw [detected]
    exact ⟨rfl, rfl, rfl, rfl, rfl, rfl, rfl, rfl, rfl, rfl, loops⟩
  · refine hears_act (execSyncMatch_eq e sc ws s) (fun t => keep_execSyncMatch e sc ws s) rfl fun _ m w found win => ?_
    rw [getBrx_syncMatched found win]
    exact ⟨rfl, rfl, rfl, rfl, rfl, rfl, rfl, rfl, rfl, rfl, rfl, rfl, turns_syncMatched found win⟩
  · refine hears_act (execSyncDeadlineMiss_eq e sc ws s) (fun t => keep_execSyncDeadlineMiss e sc ws s) rfl fun _ => ?_
    exact ⟨deadlineMissed_st e sc _, deadlineMissed_pos, deadlineMissed_flag⟩
  · refine hears_act (execBurstFall_eq e sc ws s) (fun t => keep_execBurstFall e sc ws s) rfl fun _ => ?_
    rw [burstFallen_st]
    exact ⟨rearm_idle _, fun gates replay => rearm_closed gates replay⟩

end Sys2Proof.Machine

end

section
/-! The header of a burst and the record of its end (R161, R167, R183, R191, R192). -/

namespace Sys2Proof.Machine

-- One theorem after another: each theorem that waits for another holds a thread with its stack, and many do not fit a check.
set_option Elab.async false

/-! ## What a header and a record leave of the receivers -/

theorem rxKept_modTurn (e k : Eng) (w : Window) (f : TurnStat → TurnStat) (s : State) : EngKept EngSt.rx k s (modTurn e w f s) :=
  getEng_modTurn_rx e k w f s

theorem rxKept_noteHeader (e k : Eng) (g : Gate) (h : BitVec 128) (s : State) : EngKept EngSt.rx k s (noteHeader e g h s) := by
  unfold noteHeader
  extract_lets l t seen n req turn known noted ais shown
  have h1 : EngKept EngSt.rx k s t := rxKept_modTurn e k g.w _ s
  have h2 : EngKept EngSt.rx k s seen := (h1.keep (keep_modLeaf _ _ _ t)).ite h1
  have h3 : EngKept EngSt.rx k s noted := h2.trans (getEng_modRx_rx e k l _ seen)
  have h4 : EngKept EngSt.rx k s shown := h3.trans (rxKept_modTurn e k g.w _ noted)
  exact h1.ite (h4.trans (getEng_modDefs_rx e k l _ shown))

/-- A burst record is the subcarrier's latest. -/
@[simp] theorem getBrx_writeBurst (e : Eng) (n : Nat) (r : BurstRec) (s : State) :
    getBrx (writeBurst e n r s) e n = { getBrx s e n with last := r } := by
  have set : getBrx (setBrx e n { getBrx s e n with last := r } s) e n = { getBrx s e n with last := r } := by
    rw [getBrx_setBrx, if_pos rfl]
  unfold writeBurst
  dsimp only
  split
  · exact set
  · split
    · exact set
    · rw [EngKept.getBrx (engKept_modEng e _)]
      exact set

@[simp] theorem getBrx_setFlag (r : Reg) (b : Nat) (e : Eng) (n : Nat) (s : State) : getBrx (setFlag r e b s) e n = getBrx s e n :=
  (keep_setFlag r e b s).getBrx e n

/-! ## The header -/

/-- The receiver behind a header. -/
def behindHeader (x : BrxSt) : BrxSt :=
  let r := readHeader x
  catchUp { x with hdr := r.hdr, phase := r.phase, eq := r.taps, tail := [] } (x.k + 64)

theorem getBrx_headerRead (e : Eng) (sc : Sc) (s : State) :
    getBrx (headerRead e sc s) e sc = { behindHeader (getBrx s e sc) with cap := none } := by
  unfold headerRead
  dsimp only
  rw [getBrx_resolveCap, getBrx_setBrx, if_pos rfl]
  rfl

/-- The receiver in the payload of a burst whose header passed its checks in the window of gate `g`. -/
def inPayload (g : Gate) (r : HeaderRead) (y : BrxSt) : BrxSt :=
  let wrong := hdrKind r.hdr = 0 && hdrLeaf r.hdr ≠ g.w.leaf.val
  let cur := { withHeader r.hdr r.snr y.cur with wrongWindow := wrong, hdrValid := true }
  let mine := windowLeaf g.w = some (hdrLeaf r.hdr)
  modWin (fun g => { g with header := g.header || mine })
    { y with st := .payload, cur := cur, scr := burstSeed (hdrLeaf r.hdr) (hdrSsn r.hdr) }

/-- A header that passes its checks. -/
def headerPassed (e : Eng) (n : Nat) (g : Gate) (r : HeaderRead) (s : State) : State :=
  let s := apsUpdate (noteHeader e g r.hdr (setBrx e n (inPayload g r (getBrx s e n)) s))
  if hdrKind r.hdr = 0 && hdrLeaf r.hdr ≠ g.w.leaf.val then
    let s := setFlag .brxFlags e 2 (countScLeaf e n 13 (some (hdrLeaf r.hdr)) 8 1 s)
    let s := brxEvent e n 0x0503 (packData [(16, g.w.leaf.val), (16, hdrLeaf r.hdr)]) s
    startRerange e (hdrLeaf r.hdr) 2 s
  else s

/-- A header that fails them. -/
def headerFailed (e : Eng) (n : Nat) (r : HeaderRead) (s : State) : State :=
  let y := getBrx s e n
  let crc := hdrCrcOk r.hdr
  let cur := { withHeader r.hdr r.snr y.cur with outcome := if crc then outMalformed else outHdrBad }
  let s := writeBurst e n cur (setBrx e n { y with st := .waitFall, cur := cur } s)
  let s := if crc then setFlag .brxFlags e 5 (countSc e n 12 1 s) else setFlag .brxFlags e 4 (countSc e n 11 1 s)
  settle e n s

/-- What HEADER_CHECKED makes of the state. -/
def headerChecked (e : Eng) (sc : Sc) (s : State) : State :=
  match curGate (getBrx s e sc) with
  | none => s
  | some g =>
    let r := readHeader (getBrx s e sc)
    let v := headerRead e sc s
    if hdrCrcOk r.hdr && headerOk v e (getBrx v e sc) g r.hdr then headerPassed e sc g r v else headerFailed e sc r v

theorem execHeaderChecked_eq (e : Eng) (sc : Sc) (ws : List RxWord) (s : State) : execHeaderChecked e sc ws s =
    let u := takeWords e ws s
    act (rxUp u e && (getBrx u e sc).st = .header && (curGate (getBrx u e sc)).isSome && decide ((getBrx u e sc).k + 68 < topSym (getBrx u e sc)))
      (headerChecked e sc) u := by
  unfold execHeaderChecked heard act headerChecked headerPassed headerFailed inPayload
  rfl

theorem headerFailed_st (e : Eng) (n : Nat) (r : HeaderRead) (s : State) :
    (getBrx (headerFailed e n r s) e n).st = .waitFall ∧
    (getBrx (headerFailed e n r s) e n).last.outcome = if hdrCrcOk r.hdr then outMalformed else outHdrBad := by
  unfold headerFailed
  extract_lets y crc held cur t u
  have recorded : getBrx t e n = { y with st := .waitFall, cur := cur, last := cur } := by
    unfold t
    rw [getBrx_writeBurst, getBrx_setBrx, if_pos rfl]
  have flagged : getBrx u e n = getBrx t e n := by
    unfold u
    split <;> simp
  rw [getBrx_settle, flagged, recorded]
  exact ⟨rfl, rfl⟩

theorem getBrx_headerPassed (e : Eng) (n : Nat) (g : Gate) (r : HeaderRead) (s : State) :
    getBrx (headerPassed e n g r s) e n = inPayload g r (getBrx s e n) := by
  have passed (y : BrxSt) : getBrx (apsUpdate (noteHeader e g r.hdr (setBrx e n y s))) e n = y := by
    rw [getBrx_apsUpdate, EngKept.getBrx (rxKept_noteHeader ..), getBrx_setBrx, if_pos rfl]
  unfold headerPassed
  dsimp only
  split
  · rw [getBrx_startRerange, getBrx_brxEvent, getBrx_setFlag, getBrx_countScLeaf, passed]
  · rw [passed]

/-- The header's fields stand in the record, and its seed in the scrambler. -/
theorem inPayload_fields (g : Gate) (r : HeaderRead) (x : BrxSt) :
    let y := inPayload g r x
    y.st = .payload ∧ y.cur.leaf = hdrLeaf r.hdr ∧ y.cur.kind = hdrKind r.hdr ∧ y.cur.fmt = hdrFmt r.hdr ∧ y.cur.ssn = hdrSsn r.hdr ∧
    y.cur.blocks = hdrBlocks r.hdr ∧ y.cur.snr = r.snr ∧ y.scr = burstSeed (hdrLeaf r.hdr) (hdrSsn r.hdr) ∧ y.phase = x.phase ∧ y.eq = x.eq := by
  unfold inPayload modWin
  dsimp only
  split <;> exact ⟨rfl, rfl, rfl, rfl, rfl, rfl, rfl, rfl, rfl, rfl⟩

/-! ## The record at the end of a burst -/

/-- The receiver behind a burst that ended. -/
def burstLeft (x : BrxSt) : BrxSt :=
  rearm { catchUp x (x.pos + 1) with cur := {}, bytes := [], tail := [], rises := [], charged := [] }

/-- What BURST_END makes of the state. -/
def burstEnded (e : Eng) (n : Nat) (s : State) : State :=
  let x := getBrx s e n
  let bad := x.cur.failed ≠ 0
  let r : BurstRec := { x.cur with outcome := if bad then outPartial else outGood }
  let l := if r.kind = 1 then none else some r.leaf
  let s := writeBurst e n r s
  let s := countBurst e n r (countScLeaf e n (b01 bad) l (b01 bad) 1 s)
  let s := notePower e n r.power s
  let s := if bad || r.kind = 1 then s
    else
      let seed : Seed := { taps := x.eq, fofs := r.fofs, power := r.power, sc := n, time := now s }
      modLeaf e r.leaf (fun y => { y with seed := some seed }) s
  settle e n (modBrx e n burstLeft s)

theorem execBurstEnd_eq (e : Eng) (sc : Sc) (s : State) : execBurstEnd e sc s =
    act (rxUp s e && (getBrx s e sc).st = .payload && (getBrx s e sc).blk = hdrBlocks (getBrx s e sc).hdr) (burstEnded e sc) s := by
  unfold execBurstEnd act burstEnded burstLeft
  rfl

@[simp] theorem getBrx_countBurst (e : Eng) (n : Nat) (r : BurstRec) (s : State) : getBrx (countBurst e n r s) e n = getBrx s e n := by
  unfold countBurst
  simp

@[simp] theorem getBrx_notePower (e : Eng) (n : Nat) (p : Int) (s : State) : getBrx (notePower e n p s) e n = getBrx s e n :=
  EngKept.getBrx (engKept_modEng e s) n

@[simp] theorem getBrx_modLeaf (e k : Eng) (l n : Nat) (f : Leaf → Leaf) (s : State) : getBrx (modLeaf e l f s) k n = getBrx s k n :=
  (keep_modLeaf e l f s).getBrx k n

/-- The record of a burst is PARTIAL where a block of it failed, and else GOOD. -/
def endRecord (x : BrxSt) : BurstRec := { x.cur with outcome := if x.cur.failed ≠ 0 then outPartial else outGood }

theorem getBrx_burstEnded (e : Eng) (n : Nat) (s : State) :
    let y := burstLeft { getBrx s e n with last := endRecord (getBrx s e n) }
    getBrx (burstEnded e n s) e n = { y with gates := settledGates y } := by
  intro y
  unfold burstEnded
  extract_lets x bad held r l t u v seed w
  have recorded : getBrx w e n = { x with last := r } := by
    unfold w
    split <;> simp [v, u, t, x]
  rw [getBrx_settle, getBrx_modBrx, if_pos rfl, recorded]
  rfl

theorem burstEnded_st (e : Eng) (n : Nat) (s : State) :
    (getBrx (burstEnded e n s) e n).last = endRecord (getBrx s e n) ∧
    ((getBrx (burstEnded e n s) e n).st = .closed ∨ (getBrx (burstEnded e n s) e n).st = .armed) := by
  rw [getBrx_burstEnded]
  exact ⟨(rearm_fields _).2.2, rearm_idle _⟩

end Sys2Proof.Machine

end

section
/-! The burst receivers of an engine keep their records through reassembly (R263 to R272), and a block is taken (R166, R167, R180, R187). -/

namespace Sys2Proof.Machine

-- One theorem after another: each theorem that waits for another holds a thread with its stack, and many do not fit a check.
set_option Elab.async false

/-! ## Reassembly leaves the receivers alone -/

section
variable {k : Eng}

theorem rxKept_modRx (e : Eng) (l : Nat) (f : LeafRx → LeafRx) (s : State) : EngKept EngSt.rx k s (modRx e l f s) := getEng_modRx_rx e k l f s

/-- Of what reassembly reports, only a hit changes an engine's record: the leaf's AIS (R275). -/
theorem engKept_applyOut (e : Eng) (l : LeafId) {o : RxOut} (h : ∀ ais, o ≠ .caw ais) (s : State) : EngKept id k s (applyOut e l o s) := by
  cases o with
  | caw ais => exact absurd rfl (h ais)
  | missed => exact .of_same (keep_countLeaf 9 e l.val 8 1 s)
  | alignLost c => exact (EngKept.of_same (keep_countLeaf 9 e l.val 9 1 s)).keep (keep_rxEvent e l _ _ _ _)
  | realigned => exact .of_same (keep_countLeaf 9 e l.val 10 1 s)
  | unaligned n => exact .of_same (keep_countLeaf 9 e l.val 11 n s)
  | unitLost cid why =>
    have whole : EngKept id k s (applyOut e l (.unitLost none why) s) := by
      cases why with
      | poison r => exact .of_same (keep_count 23 r 4 1 s)
      | block => exact .of_same (keep_countLeaf 9 e l.val 0 1 s)
      | meter => exact .of_same (keep_countLeaf 9 e l.val 0 1 s)
    have named (c : Nat) (b : Bool) : EngKept id k s (when b (noteRefused e c) (countCtr 7 e c 5 1 s)) :=
      .when (fun u => .of_same (keep_noteRefused e c u)) (.of_same (keep_countCtr 7 e c 5 1 s))
    cases cid with
    | none => exact whole
    | some c =>
      cases why with
      | poison r => exact .of_same (keep_count 23 r 4 1 s)
      | block => exact named c _
      | meter => exact named c _
  | malformed => exact .when (fun u => .of_same (keep_setFlag _ _ _ u)) (.of_same (keep_countLeaf 9 e l.val 1 1 s))
  | unit u => exact .of_same (keep_deliverUnit e l u s)

theorem rxKept_applyOut (e : Eng) (l : LeafId) (o : RxOut) (s : State) : EngKept EngSt.rx k s (applyOut e l o s) := by
  by_cases h : ∃ ais, o = .caw ais
  · obtain ⟨ais, rfl⟩ := h
    exact getEng_modDefs_rx e k l.val _ s
  · exact congrArg EngSt.rx (engKept_applyOut e l (fun ais eq => h ⟨ais, eq⟩) s)

theorem rxKept_streamDo (e : Eng) (l : LeafId) (f : LeafRx → LeafRx × List RxOut) (s : State) : EngKept EngSt.rx k s (streamDo e l f s) :=
  EngKept.forAll (rxKept_applyOut e l) _ (rxKept_modRx e l.val _ s)

theorem rxKept_streamBytes (e : Eng) (l : LeafId) (f : LeafRx → LeafRx × List RxOut) (s : State) : EngKept EngSt.rx k s (streamBytes e l f s) :=
  (rxKept_streamDo e l f s).trans (rxKept_streamDo e l _ _)

theorem rxKept_releaseSeg (e : Eng) (l : LeafId) (g : Seg) (s : State) : EngKept EngSt.rx k s (releaseSeg e l g s) :=
  ((EngKept.of_same (keep_fromDram e g s)).trans (rxKept_streamBytes e l _ _)).trans (rxKept_modRx e l.val _ _)

theorem rxKept_unhold (e : Eng) (l : LeafId) (ssn : Nat) (s : State) : EngKept EngSt.rx k s (unhold e l ssn s) := rxKept_modRx e l.val _ s

theorem rxKept_loseUpTo (e : Eng) (l : LeafId) (ssn : Nat) : ∀ (n : Nat) (s : State), EngKept EngSt.rx k s (loseUpTo e l ssn n s)
  | 0, s => .refl s
  | n + 1, s => by
    unfold loseUpTo
    dsimp only
    split
    · exact .refl s
    · refine .ite (.refl s) ?_
      split
      · exact ((rxKept_unhold e l _ s).trans (rxKept_releaseSeg e l _ _)).trans (rxKept_loseUpTo e l ssn n _)
      · refine .trans (.trans ?_ (rxKept_modRx e l.val _ _)) (rxKept_loseUpTo e l ssn n _)
        exact (EngKept.of_same (keep_countLeaf _ _ _ _ _ s)).trans (rxKept_streamDo e l _ _)

theorem rxKept_beginLoss (e : Eng) (l : LeafId) (ssn : Nat) (before : Option Nat) (s : State) : EngKept EngSt.rx k s (beginLoss e l ssn before s) :=
  .when (rxKept_modRx e l.val _) (rxKept_loseUpTo e l ssn lossFuel s)

theorem rxKept_landJump (e : Eng) (l : LeafId) (n : Nat) (g : Seg) (s : State) : EngKept EngSt.rx k s (landJump e l n g s) :=
  ((EngKept.of_same (keep_countLeaf _ _ _ _ _ s)).keep (keep_rxEvent _ _ _ _ _ _)).trans (rxKept_releaseSeg e l g _)

theorem rxKept_keepSeg (e : Eng) (l : LeafId) {keep : LeafId → Seg → State → State} (hk : ∀ g u, EngKept EngSt.rx k u (keep l g u)) (g : Seg)
    (s : State) : EngKept EngSt.rx k s (keepSeg e l keep g s) :=
  (EngKept.of_same (keep_keepBytes e l g.bytes s)).trans (hk _ _)

/-- A burst is judged, where what keeps it leaves the receivers alone. -/
theorem rxKept_judgeSeg (e : Eng) (l : LeafId) {keep : (LeafId → Seg → State → State) → Seg → State → State}
    (hk : ∀ f : LeafId → Seg → State → State, (∀ g u, EngKept EngSt.rx k u (f l g u)) → ∀ g u, EngKept EngSt.rx k u (keep f g u)) (g : Seg)
    (s : State) : EngKept EngSt.rx k s (judgeSeg e l keep g s) := by
  unfold judgeSeg
  split
  · exact rxKept_releaseSeg e l g s
  · refine .ite (rxKept_releaseSeg e l g s) (.ite (hk _ (fun g => rxKept_modRx e l.val _) g s) (.ite ?_ (.of_same (keep_countLeaf _ _ _ _ _ s))))
    have lost := rxKept_beginLoss (k := k) e l g.ssn (some ‹Nat›) s
    exact .ite (lost.trans (hk _ (fun g => rxKept_modRx e l.val _) g _)) (lost.trans (rxKept_landJump e l _ g _))

theorem rxKept_resumeLoss (e : Eng) (l : LeafId) (ssn : Nat) (before : Option Nat) (s : State) : EngKept EngSt.rx k s (resumeLoss e l ssn before s) := by
  have lost := (rxKept_modRx (k := k) e l.val (fun y => { y with lose := none }) s).trans (rxKept_beginLoss e l ssn before _)
  refine .ite lost ?_
  split
  · exact (lost.trans (rxKept_modRx e l.val _ _)).trans (rxKept_landJump e l _ _ _)
  · exact lost

theorem rxKept_progress (e : Eng) (l : LeafId) : ∀ (n : Nat) (s : State), EngKept EngSt.rx k s (progress e l n s)
  | 0, s => .refl s
  | n + 1, s => by
    unfold progress
    refine .ite (.refl s) ?_
    split
    · exact (rxKept_resumeLoss e l _ _ s).trans (rxKept_progress e l n _)
    · split
      · exact ((rxKept_unhold e l _ s).trans (rxKept_releaseSeg e l _ _)).trans (rxKept_progress e l n _)
      · split
        · exact .refl s
        · exact ((rxKept_modRx e l.val _ s).trans (rxKept_judgeSeg e l (fun f hf => hf) _ _)).trans (rxKept_progress e l n _)

theorem rxKept_enterBlock (e : Eng) (l : LeafId) (first : Bool) (g : Seg) (s : State) : EngKept EngSt.rx k s (enterBlock e l first g s) := by
  unfold enterBlock
  extract_lets u x
  have written : EngKept EngSt.rx k s u := .of_same (keep_bufWritten 3 _ s)
  clear_value u
  refine written.trans ?_
  have kept : EngKept EngSt.rx k u (keepBytes e l g.bytes u).2 := .of_same (keep_keepBytes e l g.bytes u)
  refine .ite (.ite (rxKept_keepSeg e l (fun g => rxKept_modRx e l.val _) g u) ?_) (.ite ?_ ?_)
  · exact (rxKept_judgeSeg e l (fun f hf => rxKept_keepSeg e l hf) g u).trans (rxKept_progress e l _ _)
  · exact ((rxKept_streamBytes e l _ u).trans (rxKept_modRx e l.val _ _)).trans (rxKept_progress e l _ _)
  · split
    · exact kept.trans (rxKept_modRx e l.val _ _)
    · exact .ite (kept.trans (rxKept_modRx e l.val _ _)) (.refl u)

theorem rxKept_handOver (e : Eng) (x : BrxSt) (b : Nat) (done : Bool) (bytes : List SByte) (s : State) :
    EngKept EngSt.rx k s (handOver e x b done bytes s) := .ite (.refl s) (rxKept_enterBlock e _ _ _ s)

end

/-! ## A block is taken -/

/-- The rises in a block that failed whose collisions have not been charged (R187). -/
def riseHits (q : Decoded) (x : BrxSt) : List (Int × Option Nat) :=
  if q.good then [] else x.rises.filter (fun c => decide (c.1 ≤ blockEnd x x.blk) && ! (c.1 ∈ x.charged))

/-- The bytes of a decoded block, and the scrambler behind it (R166, R167). -/
def blockPayload (q : Decoded) (x : BrxSt) : Nat × List SByte :=
  let p := if q.good then scrambleBytes x.scr q.data else (scrambleSkip blockBytes x.scr, [])
  (p.1, if q.good then p.2.map .got else List.replicate blockBytes (.lost .block))

/-- The receiver behind a block. -/
def blockTaken (q : Decoded) (x : BrxSt) : BrxSt :=
  let r := { x.cur with corrected := x.cur.corrected + (if q.good then q.corrected else 0)
                        failed := x.cur.failed + b01 (! q.good) }
  let y := { catchUp x (blockEnd x x.blk) with
    blk := x.blk + 1, blks := x.blks ++ [(q.good, q.corrected)], cur := r, scr := (blockPayload q x).1, anyGood := x.anyGood || q.good
    charged := x.charged ++ (riseHits q x).map (fun c => c.1), phase := q.phase, eq := q.taps, tail := q.tail
    bytes := x.bytes ++ (blockPayload q x).2 }
  if q.good && windowLeafIs y (hdrLeaf x.hdr) then modWin (fun g => { g with goodBlk := true }) y else y

theorem getBrx_takeBlock (e : Eng) (n : Nat) (q : Decoded) (s : State) : getBrx (takeBlock e n q s) e n = blockTaken q (getBrx s e n) := by
  unfold takeBlock
  extract_lets x l p last bytes hit was r caught y z s1 s2 s3 s4
  have set : getBrx s1 e n = blockTaken q x := (getBrx_setBrx ..).trans (if_pos rfl)
  have turn : getBrx s2 e n = getBrx s1 e n := by
    unfold s2
    split
    · exact getBrx_modTurn ..
    · rfl
  have charged : getBrx s3 e n = getBrx s2 e n :=
    EngKept.getBrx (EngKept.forAll (fun c u => .of_same (keep_chargeCollision e n x c u)) hit (.refl s2)) n
  have judged : getBrx s4 e n = getBrx s3 e n := by
    unfold s4
    split
    · exact getBrx_seedMiss ..
    · rfl
  rw [EngKept.getBrx (rxKept_handOver ..), judged, charged, turn, set]

theorem blockTaken_fields (q : Decoded) (x : BrxSt) :
    let y := blockTaken q x
    y.blk = x.blk + 1 ∧ y.cur.failed = x.cur.failed + b01 (! q.good) ∧ y.cur.corrected = x.cur.corrected + (if q.good then q.corrected else 0) ∧
    y.st = x.st ∧ y.phase = q.phase ∧ y.eq = q.taps ∧ y.tail = q.tail ∧ y.bytes = x.bytes ++ (blockPayload q x).2 := by
  have kept (b : Bool) (f : Gate → Gate) (y : BrxSt) : let z := if b then modWin f y else y
      (z.blk, z.cur, z.st, z.phase, z.eq, z.tail, z.bytes) = (y.blk, y.cur, y.st, y.phase, y.eq, y.tail, y.bytes) := by
    unfold modWin
    cases b <;> cases y.win <;> rfl
  unfold blockTaken
  simp only [Prod.mk.injEq] at kept
  obtain ⟨hblk, hcur, hst, hphase, heq, htail, hbytes⟩ := kept _ _ _
  exact ⟨hblk, congrArg BurstRec.failed hcur, congrArg BurstRec.corrected hcur, hst, hphase, heq, htail, hbytes⟩

/-- What BLOCK_DECODED makes of the state. -/
def blockDecoded (e : Eng) (n : Nat) (s : State) : State := takeBlock e n (decodeNext (getBrx s e n)) s

theorem execBlockDecoded_eq (e : Eng) (sc : Sc) (ws : List RxWord) (s : State) : execBlockDecoded e sc ws s =
    let u := takeWords e ws s
    let x := getBrx u e sc
    act (rxUp u e && x.st = .payload && x.blk < hdrBlocks x.hdr && decide (blockEnd x x.blk + 31 < topSym x) &&
      ! risePending x (blockEnd x x.blk)) (blockDecoded e sc) u := by
  unfold execBlockDecoded heard act blockDecoded
  rfl

/-! ## A rise (R187, R188) -/

/-- A rise of less than the capture threshold is noted. -/
def riseNoted (e : Eng) (n : Nat) (c0 : Int) (g : Gate) (s : State) : State :=
  let x := getBrx s e n
  let earlier := earlierLeaf x g.w
  doubles e n earlier (windowLater x c0 earlier) true g.w.kind (setBrx e n { x with rises := x.rises ++ [(c0, windowLeafAt x c0)] } s)

/-- The receiver that goes back to the onset of a capture. -/
def backToRise (c0 : Int) (g : Gate) (c : CapWait) (x : BrxSt) : BrxSt :=
  let y := rewind (catchUp x (c0 + 31)) c0
  let y := modWin (fun g => { g with closed := g.closed && ! (decide (g.lo ≤ c0) && decide (c0 < g.hi)) }) y
  { y with replay := some (c0, g.w), cap := some c, cur := {}, bytes := [], tail := [], rises := [], charged := [], st := .armed, win := none }

/-- A rise of the capture threshold or more abandons the reception. -/
def riseCaptured (e : Eng) (n : Nat) (c0 : Int) (g : Gate) (s : State) : State :=
  let x := getBrx s e n
  let earlier := earlierLeaf x g.w
  let t := countSc e n 7 1 (countScLeaf e n 8 earlier 5 1 (resolveCap e n none s))
  let u := endByCapture e n c0 t
  settle e n (modBrx e n (backToRise c0 g ⟨earlier, windowLater x c0 earlier, g.w.kind, c0 + 63⟩) u)

/-- What CAPTURE_RISE makes of the state. -/
def captureRisen (e : Eng) (n : Nat) (c0 : Int) (s : State) : State :=
  match curGate (getBrx s e n) with
  | none => s
  | some g => if ! captures (getBrx s e n) c0 then riseNoted e n c0 g s else riseCaptured e n c0 g s

theorem execCaptureRise_eq (e : Eng) (sc : Sc) (c0 : Int) (ws : List RxWord) (s : State) : execCaptureRise e sc c0 ws s =
    let u := takeWords e ws s
    let x := getBrx u e sc
    act (rxUp u e && receiving x && (curGate x).isSome && riseOnset x c0) (captureRisen e sc c0) u := by
  unfold execCaptureRise heard act captureRisen riseNoted riseCaptured backToRise
  rfl

theorem getBrx_riseNoted (e : Eng) (n : Nat) (c0 : Int) (g : Gate) (s : State) :
    getBrx (riseNoted e n c0 g s) e n = { getBrx s e n with rises := (getBrx s e n).rises ++ [(c0, windowLeafAt (getBrx s e n) c0)] } := by
  unfold riseNoted
  dsimp only
  rw [getBrx_doubles, getBrx_setBrx, if_pos rfl]

theorem backToRise_pos (c0 : Int) (g : Gate) (c : CapWait) (x : BrxSt) : (backToRise c0 g c x).pos = c0 := by
  unfold backToRise modWin
  dsimp only
  split <;> rfl

theorem getBrx_settle_modBrx (e : Eng) (n : Nat) (f : BrxSt → BrxSt) (s : State) : let y := f (getBrx s e n)
    getBrx (settle e n (modBrx e n f s)) e n = { y with gates := settledGates y } := by
  rw [getBrx_settle, getBrx_modBrx, if_pos rfl]

theorem getBrx_riseCaptured (e : Eng) (n : Nat) (c0 : Int) (g : Gate) (s : State) : ∃ c x, let y := backToRise c0 g c x
    getBrx (riseCaptured e n c0 g s) e n = { y with gates := settledGates y } :=
  ⟨_, _, getBrx_settle_modBrx e n (backToRise c0 g _) _⟩

/-- It is ARMED for the replay from the onset on. -/
theorem riseCaptured_st (e : Eng) (n : Nat) (c0 : Int) (g : Gate) (s : State) :
    let y := getBrx (riseCaptured e n c0 g s) e n
    y.st = .armed ∧ y.replay = some (c0, g.w) ∧ y.win = none ∧ y.pos = c0 := by
  obtain ⟨c, x, back⟩ := getBrx_riseCaptured e n c0 g s
  rw [back]
  exact ⟨rfl, rfl, rfl, backToRise_pos c0 g c x⟩

end Sys2Proof.Machine

end

section
/-! The bursts that a leaf's reassembly holds (R263 to R266): what the stream leaves of them, and the end of a hold. -/

namespace Sys2Proof.Machine

-- One theorem after another: each theorem that waits for another holds a thread with its stack, and many do not fit a check.
set_option Elab.async false

/-! ## The stream leaves the queue alone (R253 to R255, R272) -/

/-- What orders the bursts of a leaf: NEXT_SSN, the released burst with blocks to come, a loss that waits, and the bursts held and waiting. -/
def LeafRx.queue (x : LeafRx) : Option Nat × Option Nat × Option (Nat × Option Nat) × List Seg × List Seg :=
  (x.next, x.cur, x.lose, x.held, x.wait)

theorem queue_takeUnits : ∀ (n : Nat) (x : LeafRx), (takeUnits n x).1.queue = x.queue
  | 0, _ => rfl
  | n + 1, x => by
    unfold takeUnits
    split
    · rfl
    · split
      · rfl
      · exact queue_takeUnits n _
      · split
        · rfl
        · split
          · rfl
          · exact queue_takeUnits n _

theorem queue_usePayload (p : List SByte) (x : LeafRx) : (usePayload p x).1.queue = x.queue := by
  unfold usePayload
  extract_lets y
  have gathered : y.queue = x.queue := by
    unfold y
    split
    · rfl
    · split
      · rfl
      · split <;> rfl
  split
  · rw [queue_takeUnits, gathered]
  · exact gathered

theorem queue_confirm {x : LeafRx} {next : Caw → LeafRx × List RxOut} (hn : ∀ c, (next c).1.queue = x.queue) :
    ∀ {p}, alignStep.confirm x next = some p → p.1.queue = x.queue := by
  intro p h
  unfold alignStep.confirm at h
  dsimp only at h
  split at h
  · exact absurd h (by simp)
  · split at h
    · cases h; rfl
    · split at h
      · cases h; exact hn _
      · cases h; rfl
    · cases h; rfl

theorem queue_missCaw {x : LeafRx} {p : LeafRx × List RxOut} (h : alignStep.missCaw x = some p) : p.1.queue = x.queue := by
  unfold alignStep.missCaw at h
  split at h <;> cases h <;> rfl

theorem queue_alignStep {x : LeafRx} {p : LeafRx × List RxOut} (h : alignStep x = some p) : p.1.queue = x.queue := by
  unfold alignStep at h
  split at h
  case h_1 =>
    split at h
    · cases h
    · cases h; rfl
  case h_2 =>
    split at h
    · cases h; rfl
    · dsimp only at h
      split at h
      · cases h
      · cases h; rfl
  case h_3 =>
    refine queue_confirm (fun c => ?_) h
    rfl
  case h_4 =>
    refine queue_confirm (fun c => ?_) h
    rfl
  case h_5 =>
    split at h
    · split at h
      · cases h
      · cases h
        rw [queue_usePayload]
        rfl
    · split at h
      · cases h
      · split at h
        · cases h; rfl
        · split at h
          · cases h; rfl
          · exact queue_missCaw h
        · exact queue_missCaw h

theorem queue_alignRun : ∀ (n : Nat) (x : LeafRx), (alignRun n x).1.queue = x.queue
  | 0, _ => rfl
  | n + 1, x => by
    unfold alignRun
    split
    · rfl
    · next h => exact (queue_alignRun n _).trans (queue_alignStep h)

theorem queue_joinBurst (g : Seg) (x : LeafRx) : (joinBurst g x).1.queue = x.queue := by
  unfold joinBurst
  split
  · rfl
  · split
    case h_3 => split <;> rfl
    all_goals rfl

/-! ## A leaf's queue in the state -/

@[simp] theorem getRx_modRx (e : Eng) (l : Nat) (f : LeafRx → LeafRx) (s : State) : getRx (modRx e l f s) e l = f (getRx s e l) := by
  simp [modRx, getRx]

/-- The record of a leaf's reassembly is part of its engine's. -/
theorem EngKept.getRx {e : Eng} {s t : State} (h : EngKept id e s t) (l : Nat) : getRx t e l = Machine.getRx s e l :=
  congrArg (fun x : EngSt => tget ({} : LeafRx) x.lrx l) h

/-- What reassembly reports leaves the queue alone. -/
theorem queue_applyOut (e : Eng) (l : LeafId) (o : RxOut) (s : State) : (getRx (applyOut e l o s) e l).queue = (getRx s e l).queue := by
  by_cases h : ∃ ais, o = .caw ais
  · obtain ⟨ais, rfl⟩ := h
    have reports (u : State) : getRx (leafReports e l (leafRep s e l) u) e l = getRx u e l := EngKept.getRx (.of_same (keep_leafReports e l _ u)) l
    unfold applyOut modDefs
    dsimp only
    rw [reports, getRx_modRx]
    rfl
  · rw [EngKept.getRx (engKept_applyOut e l (fun ais eq => h ⟨ais, eq⟩) s)]

theorem queue_forAll_applyOut (e : Eng) (l : LeafId) : ∀ (os : List RxOut) (s : State),
    (getRx (forAll os (applyOut e l) s) e l).queue = (getRx s e l).queue
  | [], _ => rfl
  | o :: os, s => (queue_forAll_applyOut e l os (applyOut e l o s)).trans (queue_applyOut e l o s)

theorem queue_streamDo (e : Eng) (l : LeafId) {f : LeafRx → LeafRx × List RxOut} (hf : ∀ x, (f x).1.queue = x.queue) (s : State) :
    (getRx (streamDo e l f s) e l).queue = (getRx s e l).queue := by
  unfold streamDo
  dsimp only
  rw [queue_forAll_applyOut, getRx_modRx, hf]

theorem queue_streamBytes (e : Eng) (l : LeafId) {f : LeafRx → LeafRx × List RxOut} (hf : ∀ x, (f x).1.queue = x.queue) (s : State) :
    (getRx (streamBytes e l f s) e l).queue = (getRx s e l).queue :=
  (queue_streamDo e l (fun x => queue_alignRun _ x) _).trans (queue_streamDo e l hf s)

/-- A burst is released: NEXT_SSN moves past it, and those held and waiting stay (R264). -/
theorem queue_releaseSeg (e : Eng) (l : LeafId) (g : Seg) (s : State) :
    let x := getRx s e l
    (getRx (releaseSeg e l g s) e l).queue = (some ((g.ssn + 1) % 65536), if g.done then none else some g.ssn, x.lose, x.held, x.wait) := by
  have streamed := queue_streamBytes e l (queue_joinBurst (fromDram e g s).1) (fromDram e g s).2
  rw [EngKept.getRx (.of_same (keep_fromDram e g s))] at streamed
  obtain ⟨-, -, lose, held, wait⟩ := by simpa only [LeafRx.queue, Prod.mk.injEq] using streamed
  unfold releaseSeg
  dsimp only
  rw [getRx_modRx]
  simp only [LeafRx.queue, lose, held, wait]

/-! ## The end of a hold (R264, R265) -/

/-- The queue with one whole burst held and nothing else under way. -/
def holdsOne (n : Nat) (g : Seg) (x : LeafRx) : Prop := x.queue = (some n, none, none, [g], [])

theorem loseUpTo_here {e : Eng} {l : LeafId} {ssn : Nat} {s : State} (h : (getRx s e l).next = some ssn) : ∀ n, loseUpTo e l ssn n s = s
  | 0 => rfl
  | n + 1 => by
    unfold loseUpTo
    simp only [h]
    rfl

/-- The missing SSNs end where the burst begins. -/
theorem ssnAhead_reaches {n m : Nat} (hn : n < 65536) (hm : m < 65536) : (n + ssnAhead n m) % 65536 = m := by
  unfold ssnAhead
  omega

/-- The SSNs below a held burst are lost, in one run, and NEXT_SSN is its own. -/
theorem holdsOne_loseUpTo {e : Eng} {l : LeafId} {n : Nat} {g : Seg} {s : State} (h : holdsOne n g (getRx s e l)) (hn : n < 65536)
    (hg : g.ssn < 65536) (fuel : Nat) : holdsOne g.ssn g (getRx (loseUpTo e l g.ssn (fuel + 1) s) e l) := by
  by_cases here : n = g.ssn
  · subst here
    rwa [loseUpTo_here (congrArg Prod.fst h)]
  · obtain ⟨next, cur, lose, held, wait⟩ := by simpa only [holdsOne, LeafRx.queue, Prod.mk.injEq] using h
    have stop : (([g].map (fun g => ssnAhead n g.ssn)).foldl min (ssnAhead n g.ssn)) = ssnAhead n g.ssn := min_self _
    have later : [g].find? (fun g => decide (g.ssn = n)) = none := by simp [Ne.symm here]
    have lost := queue_streamDo e l (f := unknownLoss) (fun _ => rfl) (countLeaf 9 e l.val 5 (ssnAhead n g.ssn) s)
    rw [EngKept.getRx (.of_same (keep_countLeaf _ _ _ _ _ _)), h] at lost
    obtain ⟨-, lcur, llose, lheld, lwait⟩ := by simpa only [LeafRx.queue, Prod.mk.injEq] using lost
    unfold loseUpTo
    simp only [next, cur, held, here, later, stop, decide_false, Option.isSome_none, Bool.or_self, Bool.false_eq_true, if_false,
      ssnAhead_reaches hn hg]
    rw [loseUpTo_here (by rw [getRx_modRx])]
    rw [getRx_modRx]
    simp only [holdsOne, LeafRx.queue, lcur, llose, lheld, lwait]

theorem holdsOne_beginLoss {e : Eng} {l : LeafId} {n : Nat} {g : Seg} {s : State} (h : holdsOne n g (getRx s e l)) (hn : n < 65536)
    (hg : g.ssn < 65536) : holdsOne g.ssn g (getRx (beginLoss e l g.ssn none s) e l) := by
  have lost := holdsOne_loseUpTo h hn hg 159
  have idle : (getRx (loseUpTo e l g.ssn lossFuel s) e l).cur = none := congrArg (fun q => q.2.1) lost
  unfold beginLoss
  simp only [idle, Option.isSome_none, when, Bool.false_eq_true, if_false]
  exact lost

/-- With nothing held and nothing that waits, nothing goes on. -/
theorem progress_empty {e : Eng} {l : LeafId} {s : State} {n : Option Nat} (h : (getRx s e l).queue = (n, none, none, [], [])) :
    ∀ fuel, progress e l fuel s = s
  | 0 => rfl
  | fuel + 1 => by
    obtain ⟨next, cur, lose, held, wait⟩ := by simpa only [LeafRx.queue, Prod.mk.injEq] using h
    unfold progress
    simp only [cur, lose, held, wait]
    rfl

/-- A whole burst that is next in sequence is released, and the queue is empty behind it. -/
theorem progress_releases {e : Eng} {l : LeafId} {g : Seg} {s : State} (h : holdsOne g.ssn g (getRx s e l)) (whole : g.done = true) (fuel : Nat) :
    (getRx (progress e l (fuel + 1) s) e l).queue = (some ((g.ssn + 1) % 65536), none, none, [], []) := by
  obtain ⟨next, cur, lose, held, wait⟩ := by simpa only [holdsOne, LeafRx.queue, Prod.mk.injEq] using h
  have released := queue_releaseSeg e l g (unhold e l g.ssn s)
  have alone : getRx (unhold e l g.ssn s) e l = { getRx s e l with held := [] } := by
    unfold unhold
    rw [getRx_modRx, held]
    simp
  simp only [alone, whole, lose, wait, if_true] at released
  unfold progress
  simp only [cur, lose, held, next, List.find?_cons, decide_true, Option.isSome_none, Bool.false_eq_true, if_false]
  rw [progress_empty released, released]

end Sys2Proof.Machine

end

section
/-! The commands of a burst from its header on (R161 to R192, R264, R265), and O30. -/

namespace Sys2Proof.Machine

-- One theorem after another: each theorem that waits for another holds a thread with its stack, and many do not fit a check.
set_option Elab.async false

/-! ## The end of a hold -/

/-- What SSN_HOLD_TIMEOUT makes of the state. -/
def holdEnded (e : Eng) (l : LeafId) (s : State) : State :=
  match (getRx s e l).held.find? (fun g => g.done) with
  | none => s
  | some g => progress e l progressFuel (beginLoss e l g.ssn none s)

theorem execSsnHoldTimeout_eq (e : Eng) (l : LeafId) (s : State) : execSsnHoldTimeout e l s =
    act (inService s && (getRx s e l).cur = none && ((getRx s e l).held.find? (fun g => g.done)).isSome) (holdEnded e l) s := by
  unfold execSsnHoldTimeout act holdEnded
  rfl

/-- The only burst held is released, and NEXT_SSN moves past it. -/
theorem holdEnded_releases {e : Eng} {l : LeafId} {n : Nat} {g : Seg} {s : State} (h : holdsOne n g (getRx s e l)) (whole : g.done = true)
    (hn : n < 65536) (hg : g.ssn < 65536) :
    (getRx (holdEnded e l s) e l).queue = (some ((g.ssn + 1) % 65536), none, none, [], []) := by
  have held : (getRx s e l).held = [g] := congrArg (fun q => q.2.2.2.1) h
  have first : (getRx s e l).held.find? (fun g => g.done) = some g := by rw [held, List.find?_cons, whole]
  unfold holdEnded
  simp only [first]
  exact progress_releases (holdsOne_beginLoss h hn hg) whole 159

/-- A held burst that the hold's end finds has its last block. -/
theorem done_of_find {g : Seg} (h : ([g].find? (fun g => g.done)).isSome = true) : g.done = true := by
  rw [List.find?_isSome] at h
  obtain ⟨f, mem, whole⟩ := h
  rwa [List.mem_singleton.mp mem] at whole

/-! ## The header in one gate -/

section
variable {e : Eng} {sc : Sc} {s : State} {g : Gate} (gate : curGate (getBrx s e sc) = some g)
include gate

theorem headerChecked_some : headerChecked e sc s =
    let r := readHeader (getBrx s e sc)
    let v := headerRead e sc s
    if hdrCrcOk r.hdr && headerOk v e (getBrx v e sc) g r.hdr then headerPassed e sc g r v else headerFailed e sc r v := by
  unfold headerChecked
  rw [gate]

theorem headerChecked_bad (crc : hdrCrcOk (readHeader (getBrx s e sc)).hdr = false) :
    (getBrx (headerChecked e sc s) e sc).st = .waitFall ∧ (getBrx (headerChecked e sc s) e sc).last.outcome = outHdrBad := by
  have failed := headerFailed_st e sc (readHeader (getBrx s e sc)) (headerRead e sc s)
  rw [headerChecked_some gate]
  simp only [crc, Bool.false_and, Bool.false_eq_true, if_false] at failed ⊢
  exact failed

theorem headerChecked_malformed (crc : hdrCrcOk (readHeader (getBrx s e sc)).hdr = true)
    (bad : headerOk (headerRead e sc s) e (getBrx (headerRead e sc s) e sc) g (readHeader (getBrx s e sc)).hdr = false) :
    (getBrx (headerChecked e sc s) e sc).st = .waitFall ∧ (getBrx (headerChecked e sc s) e sc).last.outcome = outMalformed := by
  have failed := headerFailed_st e sc (readHeader (getBrx s e sc)) (headerRead e sc s)
  rw [headerChecked_some gate]
  simp only [crc, bad, Bool.and_false, Bool.false_eq_true, if_false, if_true] at failed ⊢
  exact failed

theorem headerChecked_good (crc : hdrCrcOk (readHeader (getBrx s e sc)).hdr = true)
    (good : headerOk (headerRead e sc s) e (getBrx (headerRead e sc s) e sc) g (readHeader (getBrx s e sc)).hdr = true) :
    getBrx (headerChecked e sc s) e sc = inPayload g (readHeader (getBrx s e sc)) { behindHeader (getBrx s e sc) with cap := none } := by
  rw [headerChecked_some gate]
  simp only [crc, good, Bool.and_self, if_true]
  rw [getBrx_headerPassed, getBrx_headerRead]

end

/-! ## A rise in one gate -/

theorem captureRisen_some {e : Eng} {n : Nat} {c0 : Int} {s : State} {g : Gate} (h : curGate (getBrx s e n) = some g) :
    captureRisen e n c0 s = if ! captures (getBrx s e n) c0 then riseNoted e n c0 g s else riseCaptured e n c0 g s := by
  unfold captureRisen
  rw [h]

/-! ## The obligation -/

/-- Settles O30: for each command what it makes of the state has a name, and the lemmas above say what its receiver, or its leaf's queue, then is. -/
theorem burstPayload : Obligations.BurstPayload := by
  unfold Obligations.BurstPayload
  refine ⟨fun e sc ws s => ?_, fun e sc ws s => ?_, fun e sc s => ?_, fun e sc c0 ws s => ?_, fun e l s => ?_⟩
  · refine hears_act (execHeaderChecked_eq e sc ws s) (fun t => keep_execHeaderChecked e sc ws s) rfl fun acts => ?_
    simp only [Bool.and_eq_true] at acts
    obtain ⟨⟨-, gated⟩, -⟩ := acts
    obtain ⟨g, gate⟩ := Option.isSome_iff_exists.mp gated
    refine ⟨headerChecked_bad gate, fun f gate crc bad => headerChecked_malformed gate crc bad, fun f gate crc good => ?_⟩
    rw [headerChecked_good gate crc good]
    exact inPayload_fields ..
  · refine hears_act (execBlockDecoded_eq e sc ws s) (fun t => keep_execBlockDecoded e sc ws s) rfl fun acts => ?_
    generalize takeWords e ws s = u at acts ⊢
    simp only [Bool.and_eq_true, decide_eq_true_eq] at acts
    obtain ⟨⟨⟨⟨-, payload⟩, -⟩, -⟩, -⟩ := acts
    obtain ⟨hblk, hfailed, hcorrected, hst, hphase, heq, htail, hbytes⟩ := blockTaken_fields (decodeNext (getBrx u e sc)) (getBrx u e sc)
    simp only [blockDecoded, getBrx_takeBlock]
    refine ⟨hblk, hfailed, hcorrected, hst.trans payload, hphase, heq, htail, fun good => ?_, fun bad => ?_⟩
    · rw [hbytes, blockPayload, good]
      rfl
    · rw [hbytes, blockPayload, bad]
      rfl
  · exact actsIf_act (execBurstEnd_eq e sc s) (fun t h => keep_execBurstEnd e sc s ((execBurstEnd_eq e sc s).trans h)) (mask_sub rfl)
      fun _ => burstEnded_st e sc s
  · refine hears_act (execCaptureRise_eq e sc c0 ws s) (fun t => keep_execCaptureRise e sc c0 ws s) rfl fun _ g gate => ?_
    rw [captureRisen_some gate]
    refine ⟨fun low => ?_, fun high => ?_⟩
    · have small : captures (getBrx (takeWords e ws s) e sc) c0 = false := decide_eq_false (not_le.mpr low)
      rw [small, Bool.not_false, if_pos rfl, getBrx_riseNoted]
      exact ⟨rfl, rfl⟩
    · have large : captures (getBrx (takeWords e ws s) e sc) c0 = true := decide_eq_true high
      rw [large, Bool.not_true, if_neg Bool.false_ne_true]
      exact riseCaptured_st ..
  · refine actsIf_act (execSsnHoldTimeout_eq e l s) (fun t h => keep_execSsnHoldTimeout e l s ((execSsnHoldTimeout_eq e l s).trans h))
      (mask_sub rfl) fun acts g n held wait lose next hn hg => ?_
    simp only [Bool.and_eq_true, decide_eq_true_eq] at acts
    obtain ⟨⟨-, cur⟩, whole⟩ := acts
    have one : holdsOne n g (getRx s e l) := by simp only [holdsOne, LeafRx.queue, next, cur, lose, held, wait]
    have released := holdEnded_releases one (done_of_find (held ▸ whole)) hn hg
    exact ⟨congrArg (fun q => q.2.2.2.1) released, congrArg Prod.fst released⟩

end Sys2Proof.Machine

end

section
/-! Blind calibration (R236 to R248): what an update of one side's calibration leaves of the engines, and each event of a run. -/

namespace Sys2Proof.Machine

-- One theorem after another: each theorem that waits for another holds a thread with its stack, and many do not fit a check.
set_option Elab.async false

/-! ## An update of one side's calibration -/

section
variable (e : Eng) (rx : Bool) (f : CalSt → CalSt) (s : State)

theorem getCal_modCal_self : getCal (modCal e rx f s) e rx = f (getCal s e rx) := by rw [getCal_modCal, if_pos ⟨rfl, rfl⟩]

theorem getCal_modCal_side {rk : Bool} (h : rk ≠ rx) : getCal (modCal e rx f s) e rk = getCal s e rk := by
  rw [getCal_modCal, if_neg fun both => h both.2]

theorem getEng_modCal_other : getEng (modCal e rx f s) e.other = getEng s e.other :=
  (getEng_modEng _ _ _ _).trans (if_neg (other_ne e))

/-- The statistic sums and the downstream side are the engine's, not its calibration's. -/
theorem getEng_modCal_line : (getEng (modCal e rx f s) e).sums = (getEng s e).sums ∧ (getEng (modCal e rx f s) e).down = (getEng s e).down := by
  unfold modCal
  rw [getEng_modEng, if_pos rfl]
  cases rx <;> exact ⟨rfl, rfl⟩

end

theorem Same.getCal {m : Nat} {s t : State} (h : Same m s t) (e : Eng) (rx : Bool) (a : m.testBit 16 = false := by rfl)
    (b : m.testBit 17 = false := by rfl) : getCal t e rx = Machine.getCal s e rx := by
  unfold Machine.getCal
  rw [h.getEng e a b]

/-! ## A run becomes due (R236, R237) -/

/-- What CAL_TEMP_CHECK makes of the state. -/
def tempChecked (e : Eng) (rx : Bool) (temp : Int) (s : State) : State :=
  let c := getCal s e rx
  let apart := 16 * (regF s .calCfg e 0 4 0 : Int) < (temp - c.tLast).natAbs
  if c.st = .idle && c.holdTo ≤ now s && (apart || c.again) then
    modCal e rx (fun c => { c with st := .due, trigger := if c.again then c.trigger else 0, again := false }) s
  else s

theorem execCalTempCheck_eq (e : Eng) (rx : Bool) (temp : Int) (s : State) :
    execCalTempCheck e rx temp s = act (inService s) (tempChecked e rx temp) s := rfl

theorem getCal_tempChecked (e : Eng) (rx : Bool) (temp : Int) (s : State) : getCal (tempChecked e rx temp s) e rx =
    if (getCal s e rx).st = .idle ∧ (getCal s e rx).holdTo ≤ s.clk.now ∧
        ((getCal s e rx).again = true ∨ 16 * (regF s .calCfg e 0 4 0 : Int) < (temp - (getCal s e rx).tLast).natAbs) then
      { getCal s e rx with st := .due, trigger := if (getCal s e rx).again then (getCal s e rx).trigger else 0, again := false }
    else getCal s e rx := by
  unfold tempChecked
  rw [apply_ite (fun t => getCal t e rx), getCal_modCal_self]
  refine if_congr ?_ rfl rfl
  simp only [Bool.and_eq_true, Bool.or_eq_true, decide_eq_true_eq, and_assoc]
  rw [or_comm, now]

theorem getEng_tempChecked_other (e : Eng) (rx : Bool) (temp : Int) (s : State) :
    getEng (tempChecked e rx temp s) e.other = getEng s e.other := by
  unfold tempChecked
  dsimp only
  split
  · exact getEng_modCal_other e rx _ s
  · rfl

/-! ## A run collects (R232, R237, R246, R247) -/

/-- The calibration of a side as its COLLECT begins: with the settings in force, the sums so far and the samples on the line. -/
def CalSt.collecting (s : State) (e : Eng) (c : CalSt) : CalSt :=
  { c with st := .collect, iter := c.iter + 1, snap := (getEng s e).sums, runMs := regF s .calCfg e 0 17 8
           minLvl := regF s .calCfg e 0 28 24, sent := (getEng s e).down.dac }

theorem getCal_beginCollect (e : Eng) (rx : Bool) (s : State) : getCal (beginCollect e rx s) e rx = (getCal s e rx).collecting s e :=
  getCal_modCal_self e rx _ s

theorem getEng_beginCollect_other (e : Eng) (rx : Bool) (s : State) : getEng (beginCollect e rx s) e.other = getEng s e.other :=
  getEng_modCal_other e rx _ s

/-- A new run: it counts its iterations from 0 and is whole. -/
def newRun (e : Eng) (rx : Bool) (temp : Int) (s : State) : State :=
  modCal e rx (fun c => { c with iter := 0, tRun := temp, partialRun := false }) s

/-- What CAL_RUN_START makes of the state. -/
def runStarted (e : Eng) (rx : Bool) (temp : Int) (s : State) : State :=
  raise (calIsl e rx) 0x0601 (engObjId e) (packData [(8, (getCal s e rx).trigger), (16, temp)]) (beginCollect e rx (newRun e rx temp s))

theorem execCalRunStart_eq (e : Eng) (rx : Bool) (temp : Int) (s : State) :
    execCalRunStart e rx temp s = act (inService s && (getCal s e rx).st = .due && calEligible s e rx) (runStarted e rx temp) s := rfl

theorem getCal_runStarted (e : Eng) (rx : Bool) (temp : Int) (s : State) : getCal (runStarted e rx temp s) e rx =
    { getCal s e rx with
      st := .collect, iter := 1, tRun := temp, partialRun := false, snap := (getEng s e).sums, runMs := regF s .calCfg e 0 17 8
      minLvl := regF s .calCfg e 0 28 24, sent := (getEng s e).down.dac } := by
  obtain ⟨sums, down⟩ := getEng_modCal_line e rx (fun c => { c with iter := 0, tRun := temp, partialRun := false }) s
  have regs := (keep_modCal e rx (fun c => { c with iter := 0, tRun := temp, partialRun := false }) s) .regs rfl
  unfold runStarted newRun
  rw [(keep_raise _ _ _ _ _).getCal, getCal_beginCollect, getCal_modCal_self, CalSt.collecting, sums, down, regF_congr regs, regF_congr regs]

theorem getEng_runStarted_other (e : Eng) (rx : Bool) (temp : Int) (s : State) :
    getEng (runStarted e rx temp s) e.other = getEng s e.other :=
  ((keep_raise _ _ _ _ _).getEng _).trans ((getEng_beginCollect_other e rx _).trans (getEng_modCal_other e rx _ s))

theorem recorded_runStarted (e : Eng) (rx : Bool) (temp : Int) (s : State) :
    recorded (calIsl e rx) 0x0601 (engObjId e) (packData [(8, (getCal s e rx).trigger), (16, temp)]) s (runStarted e rx temp s) :=
  recorded_raise_after ((keep_modCal e rx _ s).trans (keep_beginCollect e rx _))

/-! ## A run steps (R208 to R211, R237) -/

/-- How far a run is: its state, its iteration and the temperature of the last one. -/
def CalSt.progress (c : CalSt) : CalState × Nat × Int := (c.st, c.iter, c.tLast)

/-- The state of an engine and how far its two runs are. -/
def EngSt.runs (x : EngSt) : EngState × (CalState × Nat × Int) × (CalState × Nat × Int) := (x.st, x.calRx.progress, x.calTx.progress)

theorem EngKept.runs {e : Eng} {s t : State} (h : EngKept EngSt.runs e s t) (rx : Bool) :
    (getCal t e rx).progress = (getCal s e rx).progress ∧ (getEng t e).st = (getEng s e).st := by
  refine ⟨?_, congrArg Prod.fst h⟩
  cases rx
  · exact congrArg (fun x => x.2.2) h
  · exact congrArg (fun x => x.2.1) h

/-- An update that leaves a run where it is. -/
theorem runsKept_modCal {k : Eng} (e : Eng) (rx : Bool) {f : CalSt → CalSt} (s : State) (hf : ∀ c, (f c).progress = c.progress := by intro c; rfl) :
    EngKept EngSt.runs k s (modCal e rx f s) := by
  refine engKept_modEng e s fun x => ?_
  cases rx
  · exact congrArg (fun p => (x.st, x.calRx.progress, p)) (hf x.calTx)
  · exact congrArg (fun p => (x.st, p, x.calTx.progress)) (hf x.calRx)

theorem runsKept_takeEstimate {k : Eng} (e : Eng) (rx : Bool) (i : Nat) (v : Int) (s : State) : EngKept EngSt.runs k s (takeEstimate e rx i v s) := by
  unfold takeEstimate
  exact .ite (runsKept_modCal e rx s) (.keep (runsKept_modCal e rx s) (keep_coefClamped e rx i _))

theorem otherKept_takeEstimate (e : Eng) (rx : Bool) (i : Nat) (v : Int) (s : State) : EngKept id e.other s (takeEstimate e rx i v s) := by
  unfold takeEstimate
  exact .ite (getEng_modCal_other e rx _ s) (.keep (getEng_modCal_other e rx _ s) (keep_coefClamped e rx i _))

/-- A side enters STEP, before its estimates are taken. -/
def stepBegun (e : Eng) (rx : Bool) (s : State) : State :=
  modCal e rx (fun c => { c with st := .step, target := [], converged := true, sent := [] }) s

section
variable (e : Eng) (rx : Bool) (est : Nat → Option Int) (s : State)

/-- What estimates enter the step, and whether they take effect at once, moves the run no further. -/
theorem runsKept_enterStep : EngKept EngSt.runs e (stepBegun e rx s) (enterStep e rx est s) := by
  unfold enterStep
  extract_lets s1 s2
  have taken : EngKept EngSt.runs e s1 s2 := by
    refine EngKept.forAll (fun i u => ?_) _ (.refl s1)
    split
    · exact runsKept_takeEstimate e rx i _ u
    · exact .refl u
  exact .ite (taken.trans (runsKept_modCal e rx s2)) taken

theorem getEng_enterStep_other : getEng (enterStep e rx est s) e.other = getEng s e.other := by
  unfold enterStep
  extract_lets s1 s2
  have taken : EngKept id e.other s s2 := by
    refine EngKept.forAll (fun i u => ?_) _ (getEng_modCal_other e rx _ s)
    split
    · exact otherKept_takeEstimate e rx i _ u
    · exact .refl u
  have moved : EngKept id e.other s2 (modCal e rx (fun c => { c with coef := c.target.foldl (fun t p => tset none t p.1 p.2) c.coef }) s2) :=
    getEng_modCal_other e rx _ s2
  exact EngKept.ite (taken.trans moved) taken

theorem enterStep_run : (getCal (enterStep e rx est s) e rx).st = .step ∧ (getCal (enterStep e rx est s) e rx).iter = (getCal s e rx).iter ∧
    (getCal (enterStep e rx est s) e rx).tLast = (getCal s e rx).tLast ∧ (getEng (enterStep e rx est s) e).st = (getEng s e).st := by
  obtain ⟨run, engine⟩ := (runsKept_enterStep e rx est s).runs rx
  have begun : (getEng (stepBegun e rx s) e).st = (getEng s e).st := by
    rw [stepBegun, modCal, getEng_modEng, if_pos rfl]
    cases rx <;> rfl
  rw [stepBegun, getCal_modCal_self] at run
  simp only [CalSt.progress, Prod.mk.injEq] at run
  obtain ⟨st, iter, tLast⟩ := run
  exact ⟨st, iter, tLast, engine.trans begun⟩

end

theorem execCalCollectDone_eq (e : Eng) (rx : Bool) (ws : List RxWord) (mon : List MonWord) (s : State) : execCalCollectDone e rx ws mon s =
    let u := takeWords e ws s
    act (inService u && (getCal u e rx).st = .collect && (getCal u e rx).runMs * wordsPerMs ≤ qualifiedWords u e rx mon)
      (fun u => enterStep e rx (estimate u e rx mon) u) u := rfl

/-- The estimates of a run that was starved: offsets and gains of the sub-converters. -/
def starvedEstimate (s : State) (e : Eng) (i : Nat) : Option Int := if i < 768 && i % 3 < 2 then estimate s e true [] i else none

/-- A starved run steps on what it has, is PARTIAL, and the next waits a minute. -/
def starvedRun (e : Eng) (s : State) : State :=
  modCal e true (fun c => { c with partialRun := true, holdTo := s.clk.now + 60000000000 }) (enterStep e true (starvedEstimate s e) s)

/-- What CAL_STARVED makes of the state. -/
def runStarved (e : Eng) (s : State) : State :=
  raiseF e.rxc 0x0603 (engObjId e) (packData [(16, (qualifiedWords s e true [] / wordsPerMs : Nat))]) .calFlags e 1 (starvedRun e s)

theorem execCalStarved_eq (e : Eng) (ws : List RxWord) (s : State) : execCalStarved e ws s =
    let u := takeWords e ws s
    act (inService u && (getCal u e true).st = .collect && qualifiedWords u e true [] < (getCal u e true).runMs * wordsPerMs) (runStarved e) u := by
  have clk (u : State) : now (enterStep e true (starvedEstimate u e) u) = u.clk.now := now_congr (keep_enterStep e true _ u .clk rfl)
  unfold execCalStarved heard act runStarved starvedRun
  simp only [← clk]
  rfl

theorem runStarved_run (e : Eng) (s : State) : (getCal (runStarved e s) e true).st = .step ∧ (getCal (runStarved e s) e true).partialRun = true ∧
    (getCal (runStarved e s) e true).holdTo = s.clk.now + 60000000000 := by
  rw [runStarved, getCal_raiseF, starvedRun, getCal_modCal_self]
  exact ⟨(enterStep_run e true _ s).1, rfl, rfl⟩

theorem flag_runStarved (e : Eng) (s : State) : (getFlags (runStarved e s) (Reg.addr .calFlags e 0 0)).getLsbD 1 = true := by
  have set : flagged .calFlags e 1 (starvedRun e s) (runStarved e s) := flagged_raiseF rfl rfl rfl (by decide)
  exact set.1

theorem getEng_runStarved_other (e : Eng) (s : State) : getEng (runStarved e s) e.other = getEng s e.other :=
  ((keep_raiseF _ _ _ _ _ _ _ _).getEng _).trans ((getEng_modCal_other e true _ _).trans (getEng_enterStep_other e true _ s))

/-! ## An iteration and a run end (R237, R242, R247, R248) -/

/-- The temperature that a run leaves as the last one: a PARTIAL run keeps the one before (R237). -/
def CalSt.lastT (c : CalSt) : Int := if c.partialRun then c.tLast else c.tRun

/-- The calibration of a side whose run ended: its result waits for storage. -/
def CalSt.ended (c : CalSt) : CalSt :=
  { c with st := if c.noted then .due else .idle, trigger := if c.noted then 1 else c.trigger, noted := false
           iter := 0, tLast := c.lastT, pend := true, res := c.coef, target := [] }

/-- A run ended and is counted, whole or PARTIAL (R248). -/
def runCounted (e : Eng) (rx : Bool) (s : State) : State :=
  count 6 (calTally e rx) (if (getCal s e rx).partialRun then 1 else 0) 1 (modCal e rx CalSt.ended s)

/-- The state after a run ended. -/
def runEnded (e : Eng) (rx : Bool) (s : State) : State :=
  let c := getCal s e rx
  raiseF (calIsl e rx) 0x0602 (engObjId e) (packData [(8, c.iter), (16, c.lastT), (8, b01 c.partialRun)]) .calFlags e 0 (runCounted e rx s)

/-- What CAL_STEP_DONE makes of the state. -/
def stepFinished (e : Eng) (rx : Bool) (s : State) : State :=
  if (getCal s e rx).converged || 8 ≤ (getCal s e rx).iter then runEnded e rx s else beginCollect e rx s

theorem modCal_congr {e : Eng} {rx : Bool} {f g : CalSt → CalSt} {s : State} (h : f (getCal s e rx) = g (getCal s e rx)) :
    modCal e rx f s = modCal e rx g s := by
  cases rx <;> simp only [getCal, if_true, Bool.false_eq_true, if_false] at h <;>
    simp only [modCal, modEng, if_true, Bool.false_eq_true, if_false, h]

theorem execCalStepDone_eq (e : Eng) (rx : Bool) (s : State) :
    execCalStepDone e rx s = act (inService s && (getCal s e rx).st = .step && stepReached s e rx) (stepFinished e rx) s := by
  have ended : modCal e rx CalSt.ended s = modCal e rx (fun c => { c with
      st := if c.noted then .due else .idle, trigger := if c.noted then 1 else c.trigger, noted := false
      iter := 0, tLast := (getCal s e rx).lastT, pend := true, res := c.coef, target := [] }) s := modCal_congr rfl
  unfold execCalStepDone act stepFinished runEnded runCounted
  rw [ended]
  rfl

section
variable (e : Eng) (rx : Bool) (s : State)

theorem keep_runCounted : Same 537067520 s (runCounted e rx s) := by
  unfold runCounted
  exact (same_count (by decide)).mpr ((same_modCal (by decide)).mpr ((same_refl _ _).mpr trivial))

theorem getCal_runEnded : getCal (runEnded e rx s) e rx = (getCal s e rx).ended := by
  unfold runEnded runCounted
  dsimp only
  rw [getCal_raiseF, (keep_count _ _ _ _ _).getCal, getCal_modCal_self]

theorem getEng_runEnded_other : getEng (runEnded e rx s) e.other = getEng s e.other :=
  ((keep_raiseF _ _ _ _ _ _ _ _).getEng _).trans (((keep_count _ _ _ _ _).getEng _).trans (getEng_modCal_other e rx _ s))

theorem reported_runEnded : reported (calIsl e rx) 0x0602 (engObjId e)
    (packData [(8, (getCal s e rx).iter), (16, (getCal s e rx).lastT), (8, b01 (getCal s e rx).partialRun)]) .calFlags e 0 s (runEnded e rx s) :=
  reported_raiseF_after (keep_runCounted e rx s) (by decide)

theorem counted_runEnded : counted 6 (calTally e rx) (if (getCal s e rx).partialRun then 1 else 0) 1 s (runEnded e rx s) :=
  (keep_raiseF _ _ _ _ _ _ _ _ .tally rfl).trans (count_tally (keep_modCal e rx _ s .tally rfl) _ _ _ _)

theorem getEng_stepFinished_other : getEng (stepFinished e rx s) e.other = getEng s e.other := by
  unfold stepFinished
  split
  · exact getEng_runEnded_other e rx s
  · exact getEng_beginCollect_other e rx s

end

section
variable {e : Eng} {rx : Bool} {s : State}

theorem stepFinished_again (apart : (getCal s e rx).converged = false) (early : (getCal s e rx).iter < 8) :
    stepFinished e rx s = beginCollect e rx s := by
  unfold stepFinished
  rw [if_neg (by simp [apart, early])]

theorem stepFinished_ends (h : (getCal s e rx).converged = true ∨ 8 ≤ (getCal s e rx).iter) : stepFinished e rx s = runEnded e rx s := by
  unfold stepFinished
  rw [if_pos (by simpa using h)]

end

/-! ## A result is stored (R240 to R242) -/

/-- The number of the next record in an island's ring: one more than that of the newest. -/
def nextSeq (s : State) (i : Isl) : Nat := match calRecs s i with | [] => 0 | r :: _ => (recSeq r + 1) % 2 ^ 32

/-- The record of the result that waits. -/
def resultRec (s : State) (e : Eng) (rx : Bool) : CalRec where
  seq := nextSeq s (calIsl e rx)
  tLast := (getCal s e rx).tLast
  sec := s.clk.sec % 2 ^ 32
  coef := fun n => (tget none (getCal s e rx).res n).getD (coefFactory e rx n)

/-- The flash after a write to an island's ring at this time. -/
def flashTimed (s : State) (i : Isl) : Flash := { s.flash with calWr := tset none s.flash.calWr i.row (some (s.clk.now : Int)) }

/-- The result waits no longer, and the write is the ring's latest. -/
def writeBegun (e : Eng) (rx : Bool) (s : State) : State :=
  modCal e rx (fun c => { c with pend := false }) { s with flash := flashTimed s (calIsl e rx) }

/-- The record stands first in its ring of 64. -/
def ringWritten (e : Eng) (rx : Bool) (s : State) : State :=
  let i := calIsl e rx
  let t := writeBegun e rx s
  { t with flash := { t.flash with cal := tset [] t.flash.cal i.row (((resultRec s e rx).bytes i rx :: calRecs t i).take calSlots) } }

theorem storeCalRec_ok (e : Eng) (rx : Bool) (s : State) :
    storeCalRec e rx true s = modCal e rx (fun c => { c with writes := min 65535 (c.writes + 1) }) (ringWritten e rx s) := by
  cases e <;> rfl

theorem storeCalRec_failed (e : Eng) (rx : Bool) (s : State) : storeCalRec e rx false s =
    raiseF (calIsl e rx) 0x0605 (engObjId e) (packData [(8, (nextSeq s (calIsl e rx) % calSlots : Nat))]) .calFlags e 3 (writeBegun e rx s) := rfl

section
variable (e : Eng) (rx : Bool) (s : State)

theorem flash_writeBegun : (writeBegun e rx s).flash = flashTimed s (calIsl e rx) := keep_modCal e rx _ _ .flash rfl

theorem flash_ringWritten : (storeCalRec e rx true s).flash = { flashTimed s (calIsl e rx) with
    cal := tset [] s.flash.cal (calIsl e rx).row (((resultRec s e rx).bytes (calIsl e rx) rx :: calRecs s (calIsl e rx)).take 64) } := by
  have stored : (storeCalRec e rx true s).flash = (ringWritten e rx s).flash := by
    rw [storeCalRec_ok]
    exact keep_modCal e rx _ _ .flash rfl
  rw [stored, ringWritten, calRecs]
  dsimp only
  rw [flash_writeBegun]
  rfl

theorem flash_storeFailed : (storeCalRec e rx false s).flash = flashTimed s (calIsl e rx) :=
  (keep_raiseF _ _ _ _ _ _ _ _ .flash rfl).trans (flash_writeBegun e rx s)

/-- Whether the write succeeds or not, the result waits no longer and the coefficients in force are as they were. -/
theorem getCal_storeCalRec (ok : Bool) : (getCal (storeCalRec e rx ok s) e rx).pend = false ∧
    (getCal (storeCalRec e rx ok s) e rx).coef = (getCal s e rx).coef := by
  have begun : getCal (writeBegun e rx s) e rx = { getCal s e rx with pend := false } := getCal_modCal_self e rx _ _
  cases ok
  · rw [storeCalRec_failed, getCal_raiseF, begun]
    exact ⟨rfl, rfl⟩
  · have ring : getCal (ringWritten e rx s) e rx = getCal (writeBegun e rx s) e rx := rfl
    rw [storeCalRec_ok, getCal_modCal_self, ring, begun]
    exact ⟨rfl, rfl⟩

theorem getEng_storeCalRec_other (ok : Bool) : getEng (storeCalRec e rx ok s) e.other = getEng s e.other := by
  have begun : getEng (writeBegun e rx s) e.other = getEng s e.other := getEng_modCal_other e rx _ _
  cases ok
  · exact ((keep_raiseF _ _ _ _ _ _ _ _).getEng _).trans begun
  · rw [storeCalRec_ok]
    exact (getEng_modCal_other e rx _ _).trans begun

/-- A failed write counts as the ring's latest as well (R242). -/
theorem calWr_storeCalRec (ok : Bool) : tget none (storeCalRec e rx ok s).flash.calWr (calIsl e rx).row = some (s.clk.now : Int) := by
  have timed : tget none (flashTimed s (calIsl e rx)).calWr (calIsl e rx).row = some (s.clk.now : Int) := by
    rw [flashTimed, tget_tset_self]
  cases ok
  · rw [flash_storeFailed, timed]
  · rw [flash_ringWritten]
    exact timed

theorem flags_storeCalRec : (storeCalRec e rx true s).flags = s.flags := by
  rw [storeCalRec_ok]
  exact (keep_modCal e rx _ (ringWritten e rx s) .flags rfl).trans (keep_modCal e rx _ _ .flags rfl)

theorem calRecs_storeCalRec : calRecs (storeCalRec e rx true s) (calIsl e rx) =
    ((resultRec s e rx).bytes (calIsl e rx) rx :: calRecs s (calIsl e rx)).take 64 := by
  rw [calRecs, flash_ringWritten, tget_tset_self]

theorem flagged_storeFailed : flagged .calFlags e 3 s (storeCalRec e rx false s) := by
  have kept := keep_modCal e rx (fun c => { c with pend := false }) { s with flash := flashTimed s (calIsl e rx) }
  rw [storeCalRec_failed]
  exact flagged_raiseF (congrArg Boot.paired (kept .boot rfl)) (kept .flags rfl) (kept .rsc rfl) (by decide)

end

/-! ## The obligation -/

/-- Settles O31: each event's outcome has a name, and the lemmas above say what the run, its record, its flag and its count then are. -/
theorem calibrationRuns : Obligations.CalibrationRuns := by
  unfold Obligations.CalibrationRuns
  refine ⟨fun e rx temp s => ?_, fun e rx temp s => ?_, fun e rx ws mon s => ?_, fun e ws s => ?_, fun e rx s => ?_, fun e rx ok s => ?_⟩
  · exact actsIf_next (execCalTempCheck_eq e rx temp s) (fun t => keep_execCalTempCheck e rx temp s) rfl fun _ =>
      ⟨getEng_tempChecked_other e rx temp s, getCal_tempChecked e rx temp s⟩
  · exact actsIf_next (execCalRunStart_eq e rx temp s) (fun t => keep_execCalRunStart e rx temp s) rfl fun _ =>
      ⟨getCal_runStarted e rx temp s, getEng_runStarted_other e rx temp s, recorded_runStarted e rx temp s⟩
  · refine hears_act (execCalCollectDone_eq e rx ws mon s) (fun t => keep_execCalCollectDone e rx ws mon s) rfl fun _ => ?_
    obtain ⟨st, iter, tLast, engine⟩ := enterStep_run e rx (estimate (takeWords e ws s) e rx mon) (takeWords e ws s)
    exact ⟨st, engine, iter, tLast, getEng_enterStep_other e rx _ _⟩
  · refine hears_act (execCalStarved_eq e ws s) (fun t => keep_execCalStarved e ws s) rfl fun _ => ?_
    obtain ⟨st, part, hold⟩ := runStarved_run e (takeWords e ws s)
    have clk : (takeWords e ws s).clk = s.clk := keep_takeWords e ws s .clk rfl
    exact ⟨st, part, by rw [hold, clk], flag_runStarved e _, getEng_runStarved_other e _⟩
  · refine actsIf_next (execCalStepDone_eq e rx s) (fun t => keep_execCalStepDone e rx s) rfl fun _ =>
      ⟨⟨fun apart early => ?_, fun ends => ?_⟩, getEng_stepFinished_other e rx s⟩
    · rw [stepFinished_again apart early]
      exact ⟨getCal_beginCollect e rx s, keep_beginCollect e rx s .flags rfl⟩
    · rw [stepFinished_ends ends, getCal_runEnded]
      exact ⟨rfl, rfl, rfl, rfl, rfl, rfl, reported_runEnded e rx s, counted_runEnded e rx s⟩
  · refine actsIf_next rfl (fun t => keep_execCalRecordWrite e rx ok s) rfl fun _ => ?_
    obtain ⟨pend, coef⟩ := getCal_storeCalRec e rx s ok
    refine ⟨pend, calWr_storeCalRec e rx s ok, coef, getEng_storeCalRec_other e rx s ok, ?_, ?_⟩
    · rintro rfl
      exact ⟨flags_storeCalRec e rx s, calRecs_storeCalRec e rx s⟩
    · rintro rfl
      exact ⟨flash_storeFailed e rx s, flagged_storeFailed e rx s⟩

end Sys2Proof.Machine

end

section
/-! The commands of CAL_CTL, the run of one subcarrier and the front-end gain (R204, R205, R235, R237, R245 to R248, R548). -/

namespace Sys2Proof.Machine

-- One theorem after another: each theorem that waits for another holds a thread with its stack, and many do not fit a check.
set_option Elab.async false

/-! ## Requests by CAL_CTL (R235, R237, R245, R246) -/

/-- Nothing is worse than a refusal but another one. -/
theorem worse_ok (a : Status) : a.worse .ok = a := by cases a <;> rfl

theorem ok_worse (a : Status) : Status.ok.worse a = a := by cases a <;> rfl

theorem writeCalCtl_rx (e : Eng) (s : State) : writeCalCtl e 1 s = refuseOr (engWriteGate s e e.rxc) (requestRun e true) s := by
  have gates : writeCalCtl e 1 s = refuseOr ((engWriteGate s e e.rxc).worse .ok) (requestRun e true) s := rfl
  rw [gates, worse_ok]

theorem writeCalCtl_tx (e : Eng) (s : State) : writeCalCtl e 2 s = refuseOr (engWriteGate s e e.txc) (requestRun e false) s := by
  have gates : writeCalCtl e 2 s = refuseOr (Status.ok.worse ((engWriteGate s e e.txc).worse .ok)) (requestRun e false) s := rfl
  rw [gates, ok_worse, worse_ok]

/-- The word of CAL_CTL that asks for the run of a subcarrier. -/
def scGoWord (sc : Sc) : W32 := BitVec.ofNat 32 (0x8000 + 256 * sc.val)

theorem scGoWord_fields : ∀ sc : Sc, (scGoWord sc).getLsbD 0 = false ∧ (scGoWord sc).getLsbD 1 = false ∧ (scGoWord sc).getLsbD 15 = true ∧
    fld (scGoWord sc) 12 8 = sc.val := by decide

/-- The run of a subcarrier is requested. -/
def scRequested (e : Eng) (sc : Sc) (s : State) : State := modEng e (fun x => { x with scReq := sc.val, scBusy := true, scRun := false }) s

theorem writeCalCtl_sc (e : Eng) (sc : Sc) (s : State) : writeCalCtl e (scGoWord sc) s =
    refuseOr ((engWriteGate s e e.txc).worse (if scGoRefused s e then .errState else .ok)) (scRequested e sc) s := by
  obtain ⟨rx, tx, go, field⟩ := scGoWord_fields sc
  unfold writeCalCtl scRequested
  simp only [rx, tx, go, field, Bool.false_or, Bool.or_true, Bool.not_true, Bool.false_eq_true, if_false, if_true, Bool.true_and, ok_worse, when]

theorem execCalRunRx_eq (e : Eng) (s : State) :
    execCalRunRx e s = .next (setStatus (refuseOr (engWriteGate s e e.rxc) (requestRun e true) s)) := by
  rw [execCalRunRx, writeCalCtl_rx]

theorem execCalRunTx_eq (e : Eng) (s : State) :
    execCalRunTx e s = .next (setStatus (refuseOr (engWriteGate s e e.txc) (requestRun e false) s)) := by
  rw [execCalRunTx, writeCalCtl_tx]

theorem execCalScGo_eq (e : Eng) (sc : Sc) (s : State) : execCalScGo e sc s = .next (setStatus
    (refuseOr ((engWriteGate s e e.txc).worse (if scGoRefused s e then .errState else .ok)) (scRequested e sc) s)) := by
  rw [execCalScGo, ← scGoWord, writeCalCtl_sc]

/-- A request that the engine accepts concerns one side. -/
theorem requestRun_other (e : Eng) (rx : Bool) (s : State) : getCal (requestRun e rx s) e (! rx) = getCal s e (! rx) ∧
    getEng (requestRun e rx s) e.other = getEng s e.other :=
  ⟨getCal_modCal_side e rx _ s (Bool.not_ne_self rx), getEng_modCal_other e rx _ s⟩

/-! ## The run of one subcarrier (R235, R247, R248, R548) -/

/-- The preset of subcarrier `n` after its run: the mean of the powers noted on it, or the one in force where there are none. -/
def presetMean (s : State) (e : Eng) (n : Nat) : Int :=
  if tget [] (getEng s e).pwrs n = [] then coefNow s e true (774 + n) else meanOf (tget [] (getEng s e).pwrs n)

/-- The run of subcarrier `n` replaces its preset, where powers were noted. -/
def presetSet (e : Eng) (n : Nat) (v : Int) (s : State) : State :=
  if tget [] (getEng s e).pwrs n = [] then s else modCal e true (fun c => { c with coef := tset none c.coef (774 + n) (some v) }) s

/-- The run of subcarrier `n` replaces its pre-emphasis. -/
def emphasisSet (e : Eng) (n : Nat) (v : Int) (s : State) : State :=
  modCal e false (fun c => { c with coef := tset none c.coef (txPre n) (some v) }) s

/-- Both presets are replaced, and no run of a subcarrier is requested. -/
def scStored (e : Eng) (pre : Int) (s : State) : State :=
  let n := (getEng s e).scReq
  modEng e (fun x => { x with scBusy := false, scRun := false }) (presetSet e n (presetMean s e n) (emphasisSet e n (clamp (-600) 600 pre) s))

/-- A pre-emphasis at its limit is said. -/
def scLimited (e : Eng) (pre : Int) (s : State) : State :=
  if clamp (-600) 600 pre = pre then scStored e pre s else coefClamped e false (txPre (getEng s e).scReq) (scStored e pre s)

/-- What CAL_SC_DONE makes of the state. -/
def scDone (e : Eng) (pre : Int) (s : State) : State :=
  let n := (getEng s e).scReq
  raiseF e.txc 0x0606 (256 * e.num + n)
    (packData [(16, clamp (-600) 600 pre - coefNow s e false (txPre n)), (16, presetMean s e n - coefNow s e true (774 + n))]) .calFlags e 4
    (scLimited e pre s)

theorem pwrs_emphasisSet (e : Eng) (n : Nat) (v : Int) (s : State) : (getEng (emphasisSet e n v s) e).pwrs = (getEng s e).pwrs := by
  rw [emphasisSet, modCal, getEng_modEng, if_pos rfl]
  rfl

theorem execCalScDone_eq (e : Eng) (pre : Int) (s : State) :
    execCalScDone e pre s = act (inService s && (getEng s e).scRun) (scDone e pre) s := by
  unfold execCalScDone scDone scLimited scStored presetSet
  simp only [pwrs_emphasisSet]
  rfl

section
variable (e : Eng) (pre : Int) (s : State)

theorem keep_presetSet (n : Nat) (v : Int) (u : State) : Same 196608 u (presetSet e n v u) := by
  unfold presetSet
  split
  · exact (same_refl _ _).mpr trivial
  · exact keep_modCal e true _ u

theorem keep_scStored : Same 8590131200 s (scStored e pre s) :=
  (((keep_modCal e false _ s).trans (keep_presetSet e _ _ _)).mono (by decide)).trans (keep_modEng e _ _)

theorem getEng_scStored_other : getEng (scStored e pre s) e.other = getEng s e.other := by
  unfold scStored presetSet emphasisSet
  dsimp only
  rw [getEng_modEng, if_neg (other_ne e)]
  split
  · exact getEng_modCal_other e false _ s
  · exact (getEng_modCal_other e true _ _).trans (getEng_modCal_other e false _ s)

theorem scStored_idle : (getEng (scStored e pre s) e).scBusy = false ∧ (getEng (scStored e pre s) e).scRun = false := by
  rw [scStored, getEng_modEng, if_pos rfl]
  exact ⟨rfl, rfl⟩

theorem getCal_scStored (rx : Bool) : getCal (scStored e pre s) e rx =
    getCal (presetSet e (getEng s e).scReq (presetMean s e (getEng s e).scReq) (emphasisSet e (getEng s e).scReq (clamp (-600) 600 pre) s)) e rx := by
  rw [scStored, getCal, getEng_modEng, if_pos rfl]
  cases rx <;> rfl

theorem getCal_presetSet_tx (n : Nat) (v : Int) (u : State) : getCal (presetSet e n v u) e false = getCal u e false := by
  unfold presetSet
  split
  · rfl
  · exact getCal_modCal_side e true _ u (by decide)

theorem emphasis_scStored : coefNow (scStored e pre s) e false (txPre (getEng s e).scReq) = clamp (-600) 600 pre := by
  rw [coefNow, getCal_scStored, getCal_presetSet_tx, emphasisSet, getCal_modCal_self, tget_tset_self]
  rfl

theorem preset_scStored : coefNow (scStored e pre s) e true (774 + (getEng s e).scReq) = presetMean s e (getEng s e).scReq := by
  have receive : getCal (emphasisSet e (getEng s e).scReq (clamp (-600) 600 pre) s) e true = getCal s e true :=
    getCal_modCal_side e false _ s (by decide)
  rw [coefNow, getCal_scStored, presetSet, pwrs_emphasisSet]
  split
  · next none => rw [receive, presetMean, if_pos none, coefNow]
  · rw [getCal_modCal_self, tget_tset_self]
    rfl

end

/-- The event of a coefficient at its limit: record, flag and count (R247, R248). -/
theorem reported_coefClamped {e : Eng} {rx : Bool} {i : Nat} {m : Nat} {s u : State} (k : Same m s u)
    (hm : (eventParts.all fun p => ! m.testBit p.bit) = true := by rfl) : reported (calIsl e rx) 0x0604 (engObjId e)
      (packData [(8, (coefKind rx i).kind), (8, (coefPlace rx i).1), (8, (coefPlace rx i).2)]) .calFlags e 2 s (coefClamped e rx i u) :=
  reported_before (keep_count _ _ _ _ _) (reported_raiseF_after k (by decide) hm)

theorem counted_coefClamped {e : Eng} {rx : Bool} {i : Nat} {s u : State} (k : u.tally = s.tally) :
    counted 6 (calTally e rx) 3 1 s (coefClamped e rx i u) :=
  count_tally ((keep_raiseF _ _ _ _ _ _ _ _ .tally rfl).trans k) _ _ _ _

/-- A record that is followed by another of its island stands in the FIFO before it. -/
theorem logged_raiseF {i : Isl} {code obj c o : Nat} {data d : BitVec 80} {r : Reg} {e : Eng} {b : Nat} {s t : State}
    (h : recorded i code obj data s t) : logged i code obj data s (raiseF i c o d r e b t) := by
  intro room
  obtain ⟨l, behind⟩ := raise_fifo i c o d t
  obtain ⟨-, fifo, -, -⟩ := h
  rw [if_pos room] at fifo
  refine ⟨l, ?_⟩
  rw [getIsl_raiseF, behind, fifo, List.append_assoc]
  rfl

section
variable {e : Eng} {pre : Int} {s : State}

theorem scLimited_within (h : clamp (-600) 600 pre = pre) : scLimited e pre s = scStored e pre s := if_pos h

theorem scLimited_beyond (h : clamp (-600) 600 pre ≠ pre) :
    scLimited e pre s = coefClamped e false (txPre (getEng s e).scReq) (scStored e pre s) := if_neg h

/-- The events of the end leave the engines alone. -/
theorem getEng_scDone (k : Eng) : getEng (scDone e pre s) k = getEng (scStored e pre s) k := by
  refine ((keep_raiseF _ _ _ _ _ _ _ _).getEng k).trans ?_
  unfold scLimited
  split
  · rfl
  · exact (keep_coefClamped e false _ _).getEng k

theorem coefNow_scDone (rx : Bool) (i : Nat) : coefNow (scDone e pre s) e rx i = coefNow (scStored e pre s) e rx i := by
  rw [coefNow, getCal, getEng_scDone, ← getCal, ← coefNow]

theorem scDone_within (h : clamp (-600) 600 pre = pre) : flagged .calFlags e 4 s (scDone e pre s) ∧ (scDone e pre s).tally = s.tally := by
  have stored := keep_scStored e pre s
  rw [scDone, scLimited_within h]
  exact ⟨(reported_raiseF_after stored (by decide)).2, (keep_raiseF _ _ _ _ _ _ _ _ .tally rfl).trans (stored .tally rfl)⟩

theorem scDone_beyond (h : clamp (-600) 600 pre ≠ pre) :
    let n := 8 + (getEng s e).scReq
    (getFlags (scDone e pre s) (Reg.addr .calFlags e 0 0)).getLsbD 4 = true ∧
    (getFlags (scDone e pre s) (Reg.addr .calFlags e 0 0)).getLsbD 2 = true ∧ counted 6 (calTally e false) 3 1 s (scDone e pre s) ∧
    logged e.txc 0x0604 (engObjId e) (packData [(8, (coefKind false n).kind), (8, (coefPlace false n).1), (8, (coefPlace false n).2)]) s
      (scDone e pre s) := by
  obtain ⟨record, limit⟩ : reported e.txc _ _ _ _ _ _ s (coefClamped e false (txPre (getEng s e).scReq) (scStored e pre s)) :=
    reported_coefClamped (keep_scStored e pre s)
  have count := counted_coefClamped (e := e) (rx := false) (i := txPre (getEng s e).scReq) (keep_scStored e pre s .tally rfl)
  rw [scDone, scLimited_beyond h]
  have last (d : BitVec 80) : flagged .calFlags e 4 _ (raiseF e.txc 0x0606 (256 * e.num + (getEng s e).scReq) d .calFlags e 4
      (coefClamped e false (txPre (getEng s e).scReq) (scStored e pre s))) := flagged_raiseF rfl rfl rfl (by decide)
  refine ⟨(last _).1, (FlagsRise.refl _).raiseF _ _ _ _ _ _ _ _ _ limit.1, ?_, logged_raiseF record⟩
  exact (keep_raiseF _ _ _ _ _ _ _ _ .tally rfl).trans count

end

/-! ## The front-end gain (R204, R205, R239) -/

/-- What an ADC's gain is after a turn: the loop rests while its island's fence pauses it. -/
def turnGain (s : State) (e : Eng) (a : Nat) : Int :=
  let old := tget 0 (getEng s e).feGain a
  if ctlRuns s e.rxc then nextGain s e (tget {} (getEng s e).inp.adc a) old else old

/-- The gain is set, and the ADC's next turn begins. -/
def turnTaken (e : Eng) (a : Nat) (s : State) : State :=
  modEng e (fun y => { y with feGain := tset 0 y.feGain a (turnGain s e a), inp := { y.inp with adc := tset {} y.inp.adc a {} } }) s

/-- A gain that reached an end of its range is said. -/
def gainLimitSaid (e : Eng) (a : Nat) (s u : State) : State :=
  if turnGain s e a ≠ tget 0 (getEng s e).feGain a && (turnGain s e a = gainMin || turnGain s e a = gainMax) then
    raiseF e.rxc 0x0608 (engObjId e) (packData [(8, a), (8, b01 (turnGain s e a = gainMax))]) .usFlags e 1 u
  else u

/-- Many clips are said once a second. -/
def clipsSaid (e : Eng) (a : Nat) (x : AdcAcc) (u : State) : State :=
  if x.n < x.clips * 100000 then
    oncePerSec 0x0607 (4 * engObjId e + a) (raiseF e.rxc 0x0607 (engObjId e) (packData [(8, a), (32, x.clips)]) .usFlags e 0) u
  else u

/-- The calibrations' moves of the turn, which the first ADC begins. -/
def turnMoved (e : Eng) (a : Nat) (u : State) : State := if a = 0 then stepCoefs e true (stepCoefs e false u) else u

/-- What FE_GAIN_TURN_UPDATE makes of the state. -/
def gainUpdated (e : Eng) (a : Nat) (s : State) : State :=
  let x := tget {} (getEng s e).inp.adc a
  turnMoved e a (clipsSaid e a x (count 5 (4 * e.num + a) 0 x.clips (gainLimitSaid e a s (turnTaken e a s))))

theorem execFeGainTurnUpdate_eq (e : Eng) (adc : Fin 4) (ws : List RxWord) (s : State) : execFeGainTurnUpdate e adc ws s =
    let u := takeWords e ws s
    act (inService u && ((getEng u e).st = .trafficReady || (getEng u e).st = .standby)) (gainUpdated e adc.val) u := rfl

/-- The front-end gains of an engine, and what its ADCs gave in the turn. -/
def EngSt.frontEnd (x : EngSt) : Table Int × Table AdcAcc := (x.feGain, x.inp.adc)

section
variable (e : Eng) (a : Nat) (s u : State)

theorem keep_gainLimitSaid : Same 38912 u (gainLimitSaid e a s u) := by
  unfold gainLimitSaid
  exact same_ite.mpr (by split; exacts [keep_raiseF _ _ _ _ _ _ _ _, (same_refl _ _).mpr trivial])

theorem keep_clipsSaid (x : AdcAcc) : Same 55296 u (clipsSaid e a x u) := by
  unfold clipsSaid
  split
  · exact (same_oncePerSec (by decide) fun v => (keep_raiseF _ _ _ _ _ _ _ v).mono (by decide)).mpr ((same_refl _ _).mpr trivial)
  · exact (same_refl _ _).mpr trivial

theorem frontEndKept_stepCoefs (rx : Bool) : EngKept EngSt.frontEnd e u (stepCoefs e rx u) := by
  unfold stepCoefs
  refine .ite (EngKept.forAll (fun p v => ?_) _ (.refl u)) (.refl u)
  split
  · refine engKept_modEng e v fun x => ?_
    cases rx <;> rfl
  · exact .refl v

theorem frontEndKept_turnMoved : EngKept EngSt.frontEnd e u (turnMoved e a u) :=
  .ite ((frontEndKept_stepCoefs e u false).trans (frontEndKept_stepCoefs e _ true)) (.refl u)

theorem keep_turnMoved : Same 196608 u (turnMoved e a u) := by
  unfold turnMoved
  split
  · exact (keep_stepCoefs e false u).trans (keep_stepCoefs e true _)
  · exact (same_refl _ _).mpr trivial

/-- Events, counts and the calibrations' moves leave the gains as the turn set them. -/
theorem frontEnd_gainUpdated : (getEng (gainUpdated e a s) e).frontEnd =
    (tset 0 (getEng s e).feGain a (turnGain s e a), tset {} (getEng s e).inp.adc a {}) := by
  have taken : (getEng (turnTaken e a s) e).frontEnd = (tset 0 (getEng s e).feGain a (turnGain s e a), tset {} (getEng s e).inp.adc a {}) := by
    rw [turnTaken, getEng_modEng, if_pos rfl]
    rfl
  have said : EngKept EngSt.frontEnd e (turnTaken e a s) (gainUpdated e a s) :=
    ((EngKept.of_same (keep_gainLimitSaid e a s _)).keep (keep_count _ _ _ _ _)).keep (keep_clipsSaid e a _ _)
      |>.trans (frontEndKept_turnMoved e a _)
  exact Eq.trans said taken

theorem counted_gainUpdated : counted 5 (4 * e.num + a) 0 (tget {} (getEng s e).inp.adc a).clips s (gainUpdated e a s) := by
  have before : (gainLimitSaid e a s (turnTaken e a s)).tally = s.tally :=
    (keep_gainLimitSaid e a s _ .tally rfl).trans (keep_modEng e _ s .tally rfl)
  exact (keep_turnMoved e a _ .tally rfl).trans ((keep_clipsSaid e a _ _ .tally rfl).trans (count_tally before _ _ _ _))

end

section
variable {s : State} {e : Eng} {a : Nat}

theorem turnGain_noSample (h : (tget {} (getEng s e).inp.adc a).n = 0) : turnGain s e a = tget 0 (getEng s e).feGain a := by
  unfold turnGain nextGain
  simp only [h, if_true, ite_self]

theorem turnGain_paused (h : ctlRuns s e.rxc = false) : turnGain s e a = tget 0 (getEng s e).feGain a := by
  unfold turnGain
  rw [h]
  rfl

theorem turnGain_moves (runs : ctlRuns s e.rxc = true) (h : (tget {} (getEng s e).inp.adc a).n ≠ 0) : turnGain s e a =
    clamp 0 3000 (tget 0 (getEng s e).feGain a +
      clamp (-5) 5 (-(100 * (regF s .usFeCfg e 0 12 8 : Int)) - (tget {} (getEng s e).inp.adc a).rms)) := by
  unfold turnGain nextGain
  dsimp only
  rw [if_pos runs, if_neg h]
  rfl

end

/-! ## The obligation -/

/-- Settles O32: each accepted request, the end of a subcarrier run and the turn's gain have names, and the lemmas above say what they leave. -/
theorem calibrationCommands : Obligations.CalibrationCommands := by
  unfold Obligations.CalibrationCommands
  refine ⟨fun e s => ?_, fun e s => ?_, fun e sc s => ?_, fun e s => ?_, fun e pre s => ?_, fun e adc ws s => ?_⟩
  · exact writes_refuseOr (execCalRunRx_eq e s) (fun t => keep_execCalRunRx e s) (mask_sub rfl) fun _ =>
      ⟨getCal_modCal_self e true _ s, requestRun_other e true s⟩
  · exact writes_refuseOr (execCalRunTx_eq e s) (fun t => keep_execCalRunTx e s) (mask_sub rfl) fun _ =>
      ⟨getCal_modCal_self e false _ s, requestRun_other e false s⟩
  · refine writes_refuseOr (execCalScGo_eq e sc s) (fun t => keep_execCalScGo e sc s) (mask_sub rfl)
      fun _ => ?_
    have own : getEng (scRequested e sc s) e = { getEng s e with scReq := sc.val, scBusy := true, scRun := false } :=
      (getEng_modEng _ _ _ _).trans (if_pos rfl)
    have other : getEng (scRequested e sc s) e.other = getEng s e.other := (getEng_modEng _ _ _ _).trans (if_neg (other_ne e))
    exact ⟨congrArg (fun x => x.scReq) own, congrArg (fun x => x.scBusy) own, congrArg (fun x => x.scRun) own, other⟩
  · exact actsIf_next rfl (fun t => keep_execCalScRunStart e s) rfl fun _ =>
      ⟨(getEng_modEng _ _ _ _).trans (if_pos rfl), (getEng_modEng _ _ _ _).trans (if_neg (other_ne e))⟩
  · refine actsIf_next (execCalScDone_eq e pre s) (fun t => keep_execCalScDone e pre s) rfl fun _ => ?_
    obtain ⟨busy, run⟩ := scStored_idle e pre s
    have preset := preset_scStored e pre s
    rw [getEng_scDone, getEng_scDone, coefNow_scDone, coefNow_scDone]
    exact ⟨busy, run, emphasis_scStored e pre s, fun noted => preset.trans (if_neg noted), fun none => preset.trans (if_pos none),
      getEng_scStored_other e pre s, scDone_within, scDone_beyond⟩
  · refine hears_act (execFeGainTurnUpdate_eq e adc ws s) (fun t => keep_execFeGainTurnUpdate e adc ws s) rfl fun _ => ?_
    generalize takeWords e ws s = u
    have front := frontEnd_gainUpdated e adc.val u
    have gains : (getEng (gainUpdated e adc.val u) e).feGain = tset 0 (getEng u e).feGain adc.val (turnGain u e adc.val) := congrArg Prod.fst front
    have adcs : (getEng (gainUpdated e adc.val u) e).inp.adc = tset {} (getEng u e).inp.adc adc.val {} := congrArg Prod.snd front
    simp only [gains, adcs, tget_tset_self]
    exact ⟨turnGain_noSample, turnGain_paused, turnGain_moves, trivial, fun k apart => tget_tset_ne _ _ _ apart, counted_gainUpdated e adc.val u⟩

end Sys2Proof.Machine

end

section
/-! The timebase (R368, R369, R372, R382): what a change of the servo's state leaves, the servo's table, a step, and the loss of the source. -/

namespace Sys2Proof.Machine

-- One theorem after another: each theorem that waits for another holds a thread with its stack, and many do not fit a check.
set_option Elab.async false

/-! ## A change of the servo's state (R368, R383) -/

/-- A record that an event makes at most once a second. -/
theorem keep_rareRecord (code obj : Nat) (i : Isl) (c o : Nat) (d : BitVec 80) (s : State) : Same 49152 s (oncePerSec code obj (raise i c o d) s) :=
  (same_oncePerSec (by decide) fun u => (keep_raise i c o d u).mono (by decide)).mpr ((same_refl _ _).mpr trivial)

/-- The servo in a new state. -/
def TodSt.moved (new : Nat) (t : TodSt) : TodSt := { t with st := new, run := 0, badFrom := none, holdExpired := false }

/-- The servo has its new state, and the record is made. -/
def moveRecorded (new : Nat) (s : State) : State :=
  oncePerSec 0x0906 0 (raise .tod 0x0906 0 (packData [(8, s.tod.st), (8, new), (8, s.tod.source)])) { s with tod := s.tod.moved new }

theorem todMove_eq (new : Nat) (s : State) : todMove new s =
    if new = 2 then setFlag .todFlags .A 1 (moveRecorded new s)
    else if new = 3 then setFlag .todFlags .A 2 (moveRecorded new s) else moveRecorded new s := rfl

theorem tod_todMove (new : Nat) (s : State) : (todMove new s).tod = s.tod.moved new := by
  have moved : (moveRecorded new s).tod = s.tod.moved new := keep_rareRecord _ _ _ _ _ _ _ .tod rfl
  have flagged (b : Nat) : (setFlag .todFlags .A b (moveRecorded new s)).tod = s.tod.moved new := (keep_setFlag _ _ _ _ .tod rfl).trans moved
  rw [todMove_eq]
  split
  · exact flagged 1
  · split
    · exact flagged 2
    · exact moved

/-! ## A step of the time (R369) -/

/-- The Tally latched, and then the time stepped. -/
def timeStepped (ofs : Int) (s : State) : State :=
  let u := latch s.clk.sec true s
  { u with clk := { u.clk with sec := (steppedTime u ofs).1, ns := (steppedTime u ofs).2, epoch := (u.clk.epoch + 1) % 256 }
           tod := { u.tod with t1 := none, t2 := none, t3 := none, t4 := none, ppsOfs := none } }

/-- The receive side latched, and the record made. -/
def stepRecorded (ofs : Int) (s : State) : State :=
  oncePerSec 0x0905 0 (raise .tod 0x0905 0 (packData [(32, s.clk.ns), (48, s.clk.sec)])) (raiseSat (latchReceive (timeStepped ofs s)))

theorem todStep_eq (ofs : Int) (s : State) : todStep ofs s = setFlag .todFlags .A 0 (stepRecorded ofs s) := rfl

section
variable (ofs : Int) (s : State)

/-- What follows the step moves neither the time nor the timebase. -/
theorem keep_stepRecorded : Same 251904 (timeStepped ofs s) (todStep ofs s) := by
  have latched := (keep_latchReceive (timeStepped ofs s)).mono (m := 251904) (by decide)
  have said := (keep_raiseSat (latchReceive (timeStepped ofs s))).mono (m := 251904) (by decide)
  have recorded := (keep_rareRecord 0x0905 0 .tod 0x0905 0 (packData [(32, s.clk.ns), (48, s.clk.sec)])
    (raiseSat (latchReceive (timeStepped ofs s)))).mono (m := 251904) (by decide)
  have flagged := (keep_setFlag .todFlags .A 0 (stepRecorded ofs s)).mono (m := 251904) (by decide)
  exact ((latched.trans said).trans recorded).trans flagged

theorem clk_todStep : (todStep ofs s).clk = { s.clk with sec := (steppedTime s ofs).1, ns := (steppedTime s ofs).2, epoch := (s.clk.epoch + 1) % 256 } := by
  have latched : (latch s.clk.sec true s).clk = s.clk := keep_latch _ _ _ .clk rfl
  have time : steppedTime (latch s.clk.sec true s) ofs = steppedTime s ofs := by unfold steppedTime; rw [latched]
  have kept : (todStep ofs s).clk = (timeStepped ofs s).clk := keep_stepRecorded ofs s .clk rfl
  rw [kept, timeStepped]
  dsimp only
  rw [time, latched]

theorem tod_todStep : (todStep ofs s).tod = { s.tod with t1 := none, t2 := none, t3 := none, t4 := none, ppsOfs := none } := by
  have latched : (latch s.clk.sec true s).tod = s.tod := keep_latch _ _ _ .tod rfl
  have kept : (todStep ofs s).tod = (timeStepped ofs s).tod := keep_stepRecorded ofs s .tod rfl
  rw [kept, timeStepped]
  dsimp only
  rw [latched]

theorem flag_todStep : (getFlags (todStep ofs s) (Reg.addr .todFlags .A 0 0)).getLsbD 0 = true := by
  have set (u : State) : flagged .todFlags .A 0 u (setFlag .todFlags .A 0 u) := flagged_setFlag' rfl rfl rfl (by decide)
  rw [todStep_eq]
  exact (set _).1

end

/-! ## The servo's table (R368) -/

/-- The offset measured is the source's that TOD takes time from. -/
def offsetTaken (ofs : Int) (s : State) : State := { s with tod := { s.tod with ofs := ofs, source := todSourceOf s, ppsOfs := none } }

/-- What a LOCKED servo makes of an offset: more than 10 µs for 10 s make it lose its lock. -/
def steered (ofs : Int) (s : State) : State :=
  if ofs.natAbs ≤ 160000 then { s with tod := { s.tod with badFrom := none } }
  else match s.tod.badFrom with
    | none => { s with tod := { s.tod with badFrom := some (now s) } }
    | some t => if t + 10000000000 ≤ now s then todMove 1 s else s

/-- What the servo makes of an offset, by its state. -/
def servo (ofs : Int) (s : State) : State :=
  match s.tod.st with
  | 0 => { s with tod := { s.tod with st := 1, run := 0 } }
  | 1 =>
    if stepLimit s < ofs.natAbs then todStep ofs { s with tod := { s.tod with run := 0 } }
    else if ofs.natAbs < 1600 then
      if 16 ≤ s.tod.run + 1 then todMove 2 s else { s with tod := { s.tod with run := s.tod.run + 1 } }
    else { s with tod := { s.tod with run := 0 } }
  | 2 => steered ofs s
  | _ => todMove 1 s

/-- What TOD_OFFSET_MEASURED makes of the state. -/
def offsetServed (pps : Int) (s : State) : State := servo ((offsetOf s pps).getD 0) (offsetTaken ((offsetOf s pps).getD 0) s)

theorem execTodOffsetMeasured_eq (pps : Int) (s : State) :
    execTodOffsetMeasured pps s = act (servoRuns s && todSourceOf s ≠ 0 && (offsetOf s pps).isSome) (offsetServed pps) s := rfl

section
variable {ofs : Int} {s : State}

theorem servo_free (h : s.tod.st = 0) : servo ofs s = { s with tod := { s.tod with st := 1, run := 0 } } := by
  unfold servo
  rw [h]
  rfl

theorem servo_steps (h : s.tod.st = 1) (far : stepLimit s < ofs.natAbs) : servo ofs s = todStep ofs { s with tod := { s.tod with run := 0 } } := by
  unfold servo
  rw [h]
  exact if_pos far

theorem servo_near (h : s.tod.st = 1) (near : ofs.natAbs ≤ stepLimit s) (good : ofs.natAbs < 1600) :
    servo ofs s = if 16 ≤ s.tod.run + 1 then todMove 2 s else { s with tod := { s.tod with run := s.tod.run + 1 } } := by
  unfold servo
  rw [h]
  exact (if_neg (Nat.not_lt.mpr near)).trans (if_pos good)

theorem servo_locked (h : s.tod.st = 2) : servo ofs s = steered ofs s := by
  unfold servo
  rw [h]
  rfl

theorem servo_holdover (h : s.tod.st = 3) : servo ofs s = todMove 1 s := by
  unfold servo
  rw [h]
  rfl

/-- A LOCKED servo steers the time and does not step it, and keeps its offset and its source. -/
theorem steered_fields (ofs : Int) (s : State) : (steered ofs s).clk = s.clk ∧ (steered ofs s).tod.ofs = s.tod.ofs ∧
    (steered ofs s).tod.source = s.tod.source ∧ (steered ofs s).tod.ppsOfs = s.tod.ppsOfs := by
  unfold steered
  split
  · exact ⟨rfl, rfl, rfl, rfl⟩
  · split
    · exact ⟨rfl, rfl, rfl, rfl⟩
    · split
      · rw [tod_todMove]
        exact ⟨keep_todMove 1 s .clk rfl, rfl, rfl, rfl⟩
      · exact ⟨rfl, rfl, rfl, rfl⟩

/-- The offset and the source that were taken stand whatever the servo does. -/
theorem servo_offset (h : s.tod.ppsOfs = none) : (servo ofs s).tod.ofs = s.tod.ofs ∧ (servo ofs s).tod.source = s.tod.source ∧
    (servo ofs s).tod.ppsOfs = none := by
  have moved (n : Nat) : (todMove n s).tod.ofs = s.tod.ofs ∧ (todMove n s).tod.source = s.tod.source ∧ (todMove n s).tod.ppsOfs = none := by
    rw [tod_todMove]
    exact ⟨rfl, rfl, h⟩
  unfold servo
  split
  · exact ⟨rfl, rfl, h⟩
  · split
    · rw [tod_todStep]
      exact ⟨rfl, rfl, rfl⟩
    · split
      · split
        · exact moved 2
        · exact ⟨rfl, rfl, h⟩
      · exact ⟨rfl, rfl, h⟩
  · obtain ⟨-, taken, source, edge⟩ := steered_fields ofs s
    exact ⟨taken, source, edge.trans h⟩
  · exact moved 1

end

section
variable {pps ofs : Int} {s : State}

theorem offsetServed_some (h : offsetOf s pps = some ofs) : offsetServed pps s = servo ofs (offsetTaken ofs s) := by
  rw [offsetServed, h]
  rfl

theorem offsetServed_steps (h : offsetOf s pps = some ofs) (acq : s.tod.st = 1) (far : stepLimit s < ofs.natAbs) :
    (offsetServed pps s).tod.st = 1 ∧ (offsetServed pps s).clk.epoch = (s.clk.epoch + 1) % 256 ∧
    ((offsetServed pps s).clk.sec, (offsetServed pps s).clk.ns) = steppedTime s ofs ∧ (offsetServed pps s).clk.now = s.clk.now ∧
    (getFlags (offsetServed pps s) (Reg.addr .todFlags .A 0 0)).getLsbD 0 = true := by
  rw [offsetServed_some h, servo_steps (s := offsetTaken ofs s) acq far]
  refine ⟨?_, ?_, ?_, ?_, flag_todStep _ _⟩
  · rw [tod_todStep]
    exact acq
  all_goals
    rw [clk_todStep]
    rfl

theorem offsetServed_near (h : offsetOf s pps = some ofs) (acq : s.tod.st = 1) (near : ofs.natAbs ≤ stepLimit s) (good : ofs.natAbs < 1600) :
    (offsetServed pps s).clk = s.clk ∧ (offsetServed pps s).tod.st = if 16 ≤ s.tod.run + 1 then 2 else 1 := by
  rw [offsetServed_some h, servo_near (s := offsetTaken ofs s) acq near good, show (offsetTaken ofs s).tod.run = s.tod.run from rfl]
  split
  · rw [tod_todMove]
    exact ⟨keep_todMove 2 _ .clk rfl, rfl⟩
  · exact ⟨rfl, acq⟩

theorem offsetServed_locked (h : offsetOf s pps = some ofs) (locked : s.tod.st = 2) :
    (offsetServed pps s).clk = s.clk ∧ (ofs.natAbs ≤ 160000 → (offsetServed pps s).tod.st = 2) := by
  rw [offsetServed_some h, servo_locked (s := offsetTaken ofs s) locked]
  refine ⟨(steered_fields ofs _).1, fun good => ?_⟩
  rw [steered, if_pos good]
  exact locked

theorem offsetServed_holdover (h : offsetOf s pps = some ofs) (hold : s.tod.st = 3) :
    (offsetServed pps s).clk = s.clk ∧ (offsetServed pps s).tod.st = 1 := by
  rw [offsetServed_some h, servo_holdover (s := offsetTaken ofs s) hold, tod_todMove]
  exact ⟨keep_todMove 1 _ .clk rfl, rfl⟩

end

/-! ## The source is lost (R368) -/

/-- The timebase without its source: LOCKED goes to HOLDOVER. -/
def TodSt.gone (t : TodSt) : TodSt :=
  let u := { t with source := 0, ppsOfs := none }
  if t.st = 2 then u.moved 3 else u

/-- The port without a master. -/
def TodSt.masterless (t : TodSt) : TodSt :=
  { t with master := none, rank := [], annAge := 0, t1 := none, t2 := none, t3 := none, t4 := none }

theorem gone_fields (t : TodSt) : t.gone.source = 0 ∧ t.gone.ppsOfs = none ∧ t.gone.st = (if t.st = 2 then 3 else t.st) ∧
    t.gone.ppsSec = t.ppsSec ∧ t.gone.portState = t.portState ∧ t.gone.ptpPort = t.ptpPort ∧ t.gone.parent = t.parent := by
  unfold TodSt.gone
  split
  · exact ⟨rfl, rfl, rfl, rfl, rfl, rfl, rfl⟩
  · exact ⟨rfl, rfl, rfl, rfl, rfl, rfl, rfl⟩

/-- The servo has lost its source. -/
def sourceLeft (s : State) : State :=
  let u := { s with tod := { s.tod with source := 0, ppsOfs := none } }
  if u.tod.st = 2 then todMove 3 u else u

theorem sourceGone_eq (s : State) : sourceGone s = setFlag .todFlags .A 3 (sourceLeft s) := rfl

theorem tod_sourceGone (s : State) : (sourceGone s).tod = s.tod.gone := by
  have left : (sourceLeft s).tod = s.tod.gone := by
    unfold sourceLeft TodSt.gone
    rw [apply_ite State.tod, tod_todMove]
  have flagged : (setFlag .todFlags .A 3 (sourceLeft s)).tod = (sourceLeft s).tod := keep_setFlag .todFlags .A 3 (sourceLeft s) .tod rfl
  rw [sourceGone_eq, flagged, left]

theorem tod_setPtpState (new : Nat) (s : State) : (setPtpState new s).tod = { s.tod with portState := new } := by
  unfold setPtpState
  split
  · next same => rw [← same]
  · exact keep_rareRecord _ _ _ _ _ _ _ .tod rfl

theorem tod_dropMaster (s : State) : (dropMaster s).tod = { s.tod.masterless with portState := 4 } := tod_setPtpState _ _

theorem tod_loseSource (s : State) :
    (loseSource s).tod = if s.tod.source = 1 then { s.tod.gone.masterless with portState := 4 } else s.tod.gone := by
  unfold loseSource
  rw [apply_ite State.tod, tod_dropMaster, tod_sourceGone]

theorem flag_loseSource (s : State) : (getFlags (loseSource s) (Reg.addr .todFlags .A 0 0)).getLsbD 3 = true := by
  have set (u : State) : flagged .todFlags .A 3 u (setFlag .todFlags .A 3 u) := flagged_setFlag' rfl rfl rfl (by decide)
  unfold loseSource
  split
  · rw [getFlags_congr (keep_dropMaster (sourceGone s) .flags rfl)]
    exact (set _).1
  · exact (set _).1

theorem loseSource_fields (s : State) : (loseSource s).tod.source = 0 ∧ (loseSource s).tod.st = (if s.tod.st = 2 then 3 else s.tod.st) ∧
    (loseSource s).tod.ppsSec = s.tod.ppsSec ∧ (loseSource s).tod.ppsOfs = none := by
  obtain ⟨source, ppsOfs, st, ppsSec, -, -, -⟩ := gone_fields s.tod
  rw [tod_loseSource]
  split
  · exact ⟨source, st, ppsSec, ppsOfs⟩
  · exact ⟨source, st, ppsSec, ppsOfs⟩

theorem loseSource_port {s : State} (h : s.tod.source ≠ 1) : (loseSource s).tod.portState = s.tod.portState := by
  obtain ⟨-, -, -, -, port, -, -⟩ := gone_fields s.tod
  rw [tod_loseSource, if_neg h, port]

/-- A port that listens gives no time: PPS_IN does where it has its seconds. -/
theorem todSourceOf_listening {s : State} (h : s.tod.portState = 4) : todSourceOf s = if s.tod.ppsSec.isSome then 2 else 0 := by
  unfold todSourceOf
  rw [h]
  simp [ptpSlave]

theorem loseSource_ptp {s : State} (h : s.tod.source = 1) : (loseSource s).tod.portState = 4 ∧ (loseSource s).tod.master = none ∧
    todSourceOf (loseSource s) = if s.tod.ppsSec.isSome then 2 else 0 := by
  obtain ⟨-, -, ppsSec, -⟩ := loseSource_fields s
  have lost := tod_loseSource s
  rw [if_pos h] at lost
  have port : (loseSource s).tod.portState = 4 := by rw [lost]
  refine ⟨port, by rw [lost]; rfl, ?_⟩
  rw [todSourceOf_listening port, ppsSec]

/-! ## The clock class (R372) and PPS_IN (R382) -/

theorem clockClass_free {s : State} (h : s.tod.st < 2) : clockClass s = 248 := by
  unfold clockClass
  rw [if_neg (by omega), if_neg (by omega)]

theorem clockClass_locked {s : State} (h : s.tod.st = 2) :
    clockClass s = if s.tod.source = 1 then s.tod.parent else regF s .todCfg .A 0 31 24 := if_pos h

theorem clockClass_holdover {s : State} (h : s.tod.st = 3) : clockClass s = if s.tod.holdExpired then 165 else 135 := by
  unfold clockClass
  rw [if_neg (by omega), if_pos h]

/-- The offset that an edge of PPS_IN with the seconds `n` shows, in 1/16 ns. -/
def edgeOffset (s : State) (n : Nat) : Int := 16 * (((s.clk.sec * 1000000000 + s.clk.ns : Nat) : Int) - 1000000000 * (n : Int))

/-- What PPS_IN_EDGE makes of the state. -/
def edgeTaken (s : State) : State :=
  let n := ppsNext s.tod
  let ofs := n.map (fun k => 16 * (((s.clk.sec * 1000000000 + s.clk.ns : Nat) : Int) - 1000000000 * (k : Int)))
  { s with tod := { s.tod with ppsSec := n, armed := false, ppsOfs := ofs } }

theorem execPpsInEdge_eq (s : State) : execPpsInEdge s = act (todRuns s) edgeTaken s := rfl

theorem ppsNext_armed {t : TodSt} (h : t.armed = true) : ppsNext t = some (t.setHi * 2 ^ 32 + t.setLo) := if_pos h

theorem ppsNext_counts {t : TodSt} (h : t.armed = false) : ppsNext t = t.ppsSec.map (fun n => (n + 1) % 2 ^ 48) :=
  if_neg (by rw [h]; exact Bool.false_ne_true)

theorem edgeTaken_offset (s : State) : ((edgeTaken s).tod.ppsSec = none → (edgeTaken s).tod.ppsOfs = none) ∧
    ∀ n, (edgeTaken s).tod.ppsSec = some n → (edgeTaken s).tod.ppsOfs = some (edgeOffset s n) := by
  have shown : (edgeTaken s).tod.ppsOfs = (edgeTaken s).tod.ppsSec.map (edgeOffset s) := by
    unfold edgeTaken
    cases ppsNext s.tod <;> rfl
  rw [shown]
  exact ⟨fun none => by rw [none]; rfl, fun n some => by rw [some]; rfl⟩

end Sys2Proof.Machine

end

section
/-! The PTP port (R370, R371, R373, R383): what an Announce makes of the port, the other messages, and what the port sends. -/

namespace Sys2Proof.Machine

-- One theorem after another: each theorem that waits for another holds a thread with its stack, and many do not fit a check.
set_option Elab.async false

/-! ## An Announce (R371) -/

/-- A port in this state follows a master. -/
def follows (new : Nat) : Bool := new = 8 || new = 9

/-- The master that the port followed is left where the port follows none, or another. -/
def masterLeft (src : BitVec 80) (new : Nat) (s : State) : State :=
  when (s.tod.master.isSome && (! follows new || s.tod.master ≠ some src)) leaveMaster s

/-- What the port holds of an Announce: of its master, whom it follows; and that one came. -/
def TodSt.heard (src : BitVec 80) (cls : Nat) (rank : List Nat) (new : Nat) (t : TodSt) : TodSt :=
  if follows new then { t with parent := cls % 256, master := some src, rank := rank, annAge := 0 } else { t with annAge := 0 }

/-- The port has left what it leaves, and holds the Announce. -/
def announceHeld (src : BitVec 80) (cls : Nat) (rank : List Nat) (s : State) : State :=
  let u := masterLeft src (bestState s src rank) s
  { u with tod := u.tod.heard src cls rank (bestState s src rank) }

theorem takeAnnounce_outranked {src : BitVec 80} {cls : Nat} {rank : List Nat} {s : State} (h : outranked s src rank = true) :
    takeAnnounce src cls rank s = s := if_pos h

theorem takeAnnounce_counts {src : BitVec 80} {cls : Nat} {rank : List Nat} {s : State} (h : outranked s src rank = false) :
    takeAnnounce src cls rank s = setPtpState (bestState s src rank) (announceHeld src cls rank s) :=
  if_neg (by rw [h]; exact Bool.false_ne_true)

theorem heard_follows {src : BitVec 80} {cls : Nat} {rank : List Nat} {new : Nat} (h : follows new = true) (t : TodSt) :
    t.heard src cls rank new = { t with parent := cls % 256, master := some src, rank := rank, annAge := 0 } := if_pos h

theorem heard_alone {src : BitVec 80} {cls : Nat} {rank : List Nat} {new : Nat} (h : follows new = false) (t : TodSt) :
    t.heard src cls rank new = { t with annAge := 0 } := if_neg (by rw [h]; exact Bool.false_ne_true)

/-- The state of the port, its lane and the servo are not the Announce's. -/
theorem heard_fields (src : BitVec 80) (cls : Nat) (rank : List Nat) (new : Nat) (t : TodSt) :
    (t.heard src cls rank new).annAge = 0 ∧ (t.heard src cls rank new).portState = t.portState ∧ (t.heard src cls rank new).ptpPort = t.ptpPort ∧
    (t.heard src cls rank new).source = t.source ∧ (t.heard src cls rank new).st = t.st := by
  unfold TodSt.heard
  split
  · exact ⟨rfl, rfl, rfl, rfl, rfl⟩
  · exact ⟨rfl, rfl, rfl, rfl, rfl⟩

theorem tod_leaveMaster (s : State) : (leaveMaster s).tod = (if s.tod.source = 1 then s.tod.gone else s.tod).masterless := by
  have left : (leaveMaster s).tod = (if s.tod.source = 1 then sourceGone s else s).tod.masterless := rfl
  rw [left, apply_ite State.tod, tod_sourceGone]

section
variable {src : BitVec 80} {cls : Nat} {rank : List Nat} {new : Nat} {s : State}

theorem masterLeft_leaves (had : s.tod.master.isSome = true) (h : follows new = false ∨ s.tod.master ≠ some src) :
    masterLeft src new s = leaveMaster s := by
  refine if_pos ?_
  rw [had, Bool.true_and]
  rcases h with alone | other
  · rw [alone]
    rfl
  · rw [decide_eq_true other, Bool.or_true]

/-- Leaving a master changes neither the state of the port nor its lane nor the parent's class. -/
theorem masterLeft_fields (src : BitVec 80) (new : Nat) (s : State) : (masterLeft src new s).tod.portState = s.tod.portState ∧
    (masterLeft src new s).tod.ptpPort = s.tod.ptpPort ∧ (masterLeft src new s).tod.parent = s.tod.parent := by
  obtain ⟨-, -, -, -, port, lane, parent⟩ := gone_fields s.tod
  unfold masterLeft when
  split
  · rw [tod_leaveMaster]
    split
    · exact ⟨port, lane, parent⟩
    · exact ⟨rfl, rfl, rfl⟩
  · exact ⟨rfl, rfl, rfl⟩

/-- A port that follows no clock has no master. -/
theorem masterLeft_alone (h : follows new = false) : (masterLeft src new s).tod.master = none := by
  cases had : s.tod.master.isSome
  · unfold masterLeft
    rw [had]
    exact Option.not_isSome_iff_eq_none.mp (by rw [show (when _ leaveMaster s) = s from rfl, had]; exact Bool.false_ne_true)
  · rw [masterLeft_leaves had (.inl h), tod_leaveMaster]
    rfl

theorem masterLeft_source (had : s.tod.master.isSome = true) (h : follows new = false ∨ s.tod.master ≠ some src) (ptp : s.tod.source = 1) :
    (masterLeft src new s).tod.source = 0 ∧ (masterLeft src new s).tod.st = if s.tod.st = 2 then 3 else s.tod.st := by
  obtain ⟨source, -, st, -⟩ := gone_fields s.tod
  rw [masterLeft_leaves had h, tod_leaveMaster, if_pos ptp]
  exact ⟨source, st⟩

/-- A change of the port's state makes its record (R383). -/
theorem recorded_setPtpState {u : State} (isls : u.isls = s.isls) (clk : u.clk = s.clk) (changes : u.tod.portState ≠ new)
    (first : (0x0907, u.tod.ptpPort) ∉ u.seenSec) :
    recorded .tod 0x0907 u.tod.ptpPort (packData [(8, new)]) s (setPtpState new u) := by
  unfold setPtpState
  rw [if_neg changes, oncePerSec_new (s := { u with tod := { u.tod with portState := new } }) first]
  exact recorded_raise (fun j => by rw [getIsl_congr (t := u) isls]; exact ⟨rfl, rfl, rfl⟩) clk fun j => ⟨rfl, rfl, rfl⟩

end

/-- The state after an Announce that counts: the port's, its master's, and the source's where the master is left. -/
theorem announce_counts {src : BitVec 80} {cls : Nat} {rank : List Nat} {s : State} (h : outranked s src rank = false) :
    let t := takeAnnounce src cls rank s
    let new := bestState s src rank
    let u := masterLeft src new s
    t.tod.portState = new ∧ t.tod.annAge = 0 ∧
    (follows new = true → t.tod.parent = cls % 256 ∧ t.tod.master = some src ∧ t.tod.rank = rank) ∧
    (follows new = false → t.tod.parent = s.tod.parent ∧ t.tod.master = none) ∧
    (s.tod.master.isSome = true → (follows new = false ∨ s.tod.master ≠ some src) → s.tod.source = 1 →
      t.tod.source = 0 ∧ t.tod.st = if s.tod.st = 2 then 3 else s.tod.st) ∧
    (s.tod.portState ≠ new → (0x0907, s.tod.ptpPort) ∉ u.seenSec → recorded .tod 0x0907 s.tod.ptpPort (packData [(8, new)]) u t) := by
  intro t new u
  obtain ⟨age, portHeard, laneHeard, sourceHeard, stHeard⟩ := heard_fields src cls rank new u.tod
  obtain ⟨portLeft, laneLeft, parentLeft⟩ := masterLeft_fields src new s
  have after : t = setPtpState new (announceHeld src cls rank s) := takeAnnounce_counts h
  have tod : t.tod = { u.tod.heard src cls rank new with portState := new } := by rw [after, tod_setPtpState]; rfl
  rw [tod]
  refine ⟨rfl, age, fun leads => ?_, fun alone => ?_, fun had leaves ptp => ?_, fun changes first => ?_⟩
  · rw [heard_follows leads]
    exact ⟨rfl, rfl, rfl⟩
  · rw [heard_alone alone]
    exact ⟨parentLeft, masterLeft_alone alone⟩
  · obtain ⟨source, st⟩ := masterLeft_source had leaves ptp
    exact ⟨sourceHeard.trans source, stHeard.trans st⟩
  · have lane : (announceHeld src cls rank s).tod.ptpPort = s.tod.ptpPort := laneHeard.trans laneLeft
    have port : (announceHeld src cls rank s).tod.portState = s.tod.portState := portHeard.trans portLeft
    have record := recorded_setPtpState (s := u) (u := announceHeld src cls rank s) (new := new) rfl rfl (by rwa [port]) (by rwa [lane])
    rwa [lane, ← after] at record

/-! ## The messages (R371, R373) -/

/-- What a message makes of the state. -/
def messageTaken (src : BitVec 80) (m : PtpMsg) (s : State) : State :=
  let mine : Bool := s.tod.master = some src
  match m with
  | .announce cls acc var pri2 gm steps => takeAnnounce src cls (clockRank cls acc var pri2 (ptpLocal s) gm steps) s
  | .unsupported => count 16 0 1 1 s
  | .sync t => if mine then { s with tod := { s.tod with t1 := t, t2 := some (rxStamp s) } } else s
  | .followUp t => if mine then { s with tod := { s.tod with t1 := some t } } else s
  | .delayReq => if s.tod.portState = ptpMaster then ptpSend (.delayResp (rxStamp s) src) s else s
  | .delayResp t asker => if mine && asker = portId s then { s with tod := { s.tod with t4 := some t } } else s

theorem execPtpMessageReceived_eq (d : Nat) (src : BitVec 80) (m : PtpMsg) (s : State) :
    execPtpMessageReceived d src m s = act (ptpUp s && d = ptpDomain s) (messageTaken src m) s := rfl

/-- A message that writes the timebase, under a condition, counts nothing. -/
theorem todWrite_ite {c : Bool} {p : Prop} [Decidable p] (h : c = true ↔ p) (t : TodSt) (s : State) :
    (if c then { s with tod := t } else s : State).tally = s.tally ∧
    (if c then { s with tod := t } else s : State).tod = if p then t else s.tod := by
  by_cases hp : p
  · rw [if_pos (h.mpr hp), if_pos hp]
    exact ⟨rfl, rfl⟩
  · rw [if_neg (fun k => hp (h.mp k)), if_neg hp]
    exact ⟨rfl, rfl⟩

section
variable (src : BitVec 80) (s : State)

theorem sync_taken (t : Option Int) : (messageTaken src (.sync t) s).tally = s.tally ∧ (messageTaken src (.sync t) s).tod =
    if s.tod.master = some src then { s.tod with t1 := t, t2 := some (rxStamp s) } else s.tod :=
  todWrite_ite decide_eq_true_iff _ s

theorem followUp_taken (t : Int) : (messageTaken src (.followUp t) s).tally = s.tally ∧ (messageTaken src (.followUp t) s).tod =
    if s.tod.master = some src then { s.tod with t1 := some t } else s.tod :=
  todWrite_ite decide_eq_true_iff _ s

theorem delayResp_taken (t : Int) (asker : BitVec 80) : (messageTaken src (.delayResp t asker) s).tally = s.tally ∧
    (messageTaken src (.delayResp t asker) s).tod =
      if s.tod.master = some src ∧ asker = portId s then { s.tod with t4 := some t } else s.tod :=
  todWrite_ite (by simp only [Bool.and_eq_true, decide_eq_true_eq]) _ s

theorem delayReq_taken : (messageTaken src .delayReq s).tally = s.tally ∧ (messageTaken src .delayReq s).tod =
    if s.tod.portState = 6 then { s.tod with ptpTx := ⟨ptpDst s, ptpDomain s, portId s, .delayResp (rxStamp s) src⟩ :: s.tod.ptpTx } else s.tod := by
  have taken : messageTaken src .delayReq s = if s.tod.portState = 6 then ptpSend (.delayResp (rxStamp s) src) s else s := rfl
  rw [taken]
  split
  · exact ⟨rfl, rfl⟩
  · exact ⟨rfl, rfl⟩

end

/-! ## What the port sends (R371, R372) -/

/-- One more interval without an Announce. -/
def intervalPassed (s : State) : State := { s with tod := { s.tod with annAge := s.tod.annAge + 1 } }

/-- What PTP_ANNOUNCE_TX makes of the state. -/
def announceDue (s : State) : State :=
  if s.tod.portState = ptpMaster then ptpSend (.announce (clockClass s) (ptpPri2 s)) s
  else
    let u := intervalPassed s
    if u.tod.annAge < 3 || (u.tod.portState = ptpSlave && u.tod.source = 1) then u
    else if u.tod.ptpRole = 2 then when u.tod.master.isSome dropMaster u
    else setPtpState ptpMaster (noMaster u)

theorem execPtpAnnounceTx_eq (s : State) : execPtpAnnounceTx s = act (ptpUp s) announceDue s := rfl

theorem tod_announceDue_master {s : State} (h : s.tod.portState = 6) : (announceDue s).tod =
    { s.tod with ptpTx := ⟨ptpDst s, ptpDomain s, portId s, .announce (clockClass s) (ptpPri2 s)⟩ :: s.tod.ptpTx } := by
  unfold announceDue
  rw [if_pos (show s.tod.portState = ptpMaster from h)]
  rfl

/-- Three intervals passed without an Announce, and TOD does not take its time from the port. -/
def portQuiet (s : State) : Bool := 3 ≤ s.tod.annAge + 1 && ! (s.tod.portState = 9 && s.tod.source = 1)

/-- The port drops what it follows: a port that may be MASTER also where it followed no master. -/
def portDrops (s : State) : Bool := portQuiet s && (s.tod.ptpRole ≠ 2 || s.tod.master.isSome)

theorem tod_announceDue_silent {s : State} (h : s.tod.portState ≠ 6) : (announceDue s).tod =
    if portDrops s then { (intervalPassed s).tod.masterless with portState := if s.tod.ptpRole = 2 then 4 else 6 } else (intervalPassed s).tod := by
  have quiet : ((intervalPassed s).tod.annAge < 3 || ((intervalPassed s).tod.portState = ptpSlave && (intervalPassed s).tod.source = 1) : Bool) = ! portQuiet s := by
    rw [portQuiet, Bool.not_and, Bool.not_not, ← decide_not, decide_eq_decide.mpr Nat.not_le]
    rfl
  unfold announceDue
  rw [if_neg (show ¬ s.tod.portState = ptpMaster from h)]
  dsimp only
  rw [quiet, portDrops]
  cases portQuiet s
  · rfl
  · rw [if_neg (by decide), Bool.true_and]
    by_cases slave : s.tod.ptpRole = 2
    · rw [if_pos (show (intervalPassed s).tod.ptpRole = 2 from slave), if_pos slave, decide_eq_false (not_not.mpr slave), Bool.false_or, when,
        apply_ite State.tod, tod_dropMaster]
      rfl
    · rw [if_neg (show ¬ (intervalPassed s).tod.ptpRole = 2 from slave), if_neg slave, decide_eq_true slave, Bool.true_or, if_pos rfl, tod_setPtpState]
      rfl

theorem announceDue_silent {s : State} (h : s.tod.portState ≠ 6) : (announceDue s).tod.ptpTx = s.tod.ptpTx ∧
    (announceDue s).tod.portState = (if ! portDrops s then s.tod.portState else if s.tod.ptpRole = 2 then 4 else 6) ∧
    (announceDue s).tod.master = (if portDrops s then none else s.tod.master) ∧
    (announceDue s).tod.annAge = if portDrops s then 0 else s.tod.annAge + 1 := by
  rw [tod_announceDue_silent h]
  cases portDrops s
  · exact ⟨rfl, rfl, rfl, rfl⟩
  · exact ⟨rfl, rfl, rfl, rfl⟩

/-- What PTP_SYNC_DELAY_TX makes of the state. -/
def syncDue (s : State) : State :=
  let t := txStamp s
  if s.tod.portState = ptpMaster then
    if ptpOneStep s then ptpSend (.sync (some t)) s else ptpSend (.followUp t) (ptpSend (.sync none) s)
  else ptpSend .delayReq { s with tod := { s.tod with t3 := some t, t4 := none } }

section
variable {s : State}

theorem syncDue_oneStep (h : s.tod.portState = 6) (one : ptpOneStep s = true) : syncDue s = ptpSend (.sync (some (txStamp s))) s :=
  (if_pos h).trans (if_pos one)

theorem syncDue_twoSteps (h : s.tod.portState = 6) (two : ptpOneStep s = false) :
    syncDue s = ptpSend (.followUp (txStamp s)) (ptpSend (.sync none) s) :=
  (if_pos h).trans (if_neg (by rw [two]; exact Bool.false_ne_true))

theorem syncDue_follower (h : s.tod.portState ≠ 6) :
    syncDue s = ptpSend .delayReq { s with tod := { s.tod with t3 := some (txStamp s), t4 := none } } := if_neg h

end

end Sys2Proof.Machine

end

section
/-! The second boundary (R203, R412, R503, R516, R552, R563) and O43: what the lines' counts, the latch and the events of the second leave of the Tally, and
what the boundary leaves of the rest. -/

namespace Sys2Proof.Machine

-- One theorem after another: each theorem that waits for another holds a thread with its stack, and many do not fit a check.
set_option Elab.async false

/-! ## The counts of the lanes (R416) and the reference (R412) -/

/-- The Tally but for its accumulators. -/
def TallySt.behind (y : TallySt) : TallySt := { y with acc := [] }

/-- Tallies alike but for their accumulators. -/
theorem fields_of_behind {y z : TallySt} (h : y.behind = z.behind) : y.latched = z.latched ∧ y.totals = z.totals ∧ y.second = z.second ∧
    y.mode = z.mode ∧ y.modeReg = z.modeReg := by
  have field {α : Type} (f : TallySt → α) : f y.behind = f z.behind := congrArg f h
  exact ⟨field TallySt.latched, field TallySt.totals, field TallySt.second, field TallySt.mode, field TallySt.modeReg⟩

theorem behind_addCount (k o : Nat) : ∀ (fuel i n : Nat) (s : State), (addCount k o fuel i n s).tally.behind = s.tally.behind
  | 0, _, _, _ => rfl
  | fuel + 1, i, n, s => by
    unfold addCount
    dsimp only
    split
    · exact behind_addCount k o fuel (i + 1) _ _
    · rfl

theorem behind_count (k o i n : Nat) (s : State) : (count k o i n s).tally.behind = s.tally.behind := by
  unfold count
  split
  · rfl
  · exact behind_addCount ..

/-- What the counts of the second are made beside: the Tally but for its accumulators, and whether there is a good reference. -/
def State.beside (s : State) : TallySt × Bool := (s.tally.behind, s.cln.refOk)

theorem beside_countFree (k o i : Nat) (hi : Option Nat) (s : State) : (countFree k o i hi s).2.beside = s.beside := by
  have cln : (countFree k o i hi s).2.cln = s.cln := keep_countFree k o i hi s .cln rfl
  have tally : (countFree k o i hi s).2.tally.behind = s.tally.behind := behind_count ..
  rw [State.beside, cln, tally, State.beside]

theorem beside_modPort (p : Nat) (f : PortSt → PortSt) (s : State) : (modPort p f s).beside = s.beside := rfl

theorem beside_modLane (k : Nat) (f : LaneSt → LaneSt) (s : State) : (modLane k f s).beside = s.beside := rfl

/-- The counts of the lanes, before a good reference is read. -/
def lanesCounted (s : State) : State :=
  let s := forAll (s.cln.ports.filter (fun p => 0 < p.2.rxPam)) (fun p t =>
    let a := countFree 17 p.1 10 none t
    let b := countFree 17 p.1 11 (some a.1) a.2
    let c := countFree 17 p.1 12 (some (a.1 - b.1)) b.2
    forAll (List.range p.2.rxPam) (fun j u => (countFree 18 (p.1 + j) 0 none u).2) c.2) s
  let s := forAll (s.cln.ports.filter (fun p => p.2.rxNrz)) (fun p t => (countFree 18 p.1 1 none t).2) s
  let s := forAll (s.cln.lanes.filter (fun p => p.2.prbsSec)) (fun p t => (countFree 18 p.1 2 none t).2) s
  let s := forAll s.cln.ports (fun p t => modPort p.1 (fun x =>
    let y := { x with rxPam := 0, rxNrz := false }
    if x.st = .align || x.st = .up then y.received (portPam4 t p.1) (portLanes (portReg t p.1)) else y) t) s
  forAll s.cln.lanes (fun p => modLane p.1 (fun x => { x with prbsSec := x.prbs })) s

theorem beside_lanesCounted (s : State) : (lanesCounted s).beside = s.beside := by
  unfold lanesCounted
  extract_lets s1 s2 s3 s4
  have h1 : s1.beside = s.beside := forAll_unchanged State.beside (fun p u => by
    dsimp only
    rw [forAll_unchanged State.beside fun j v => beside_countFree _ _ _ _ v, beside_countFree, beside_countFree, beside_countFree]) _ s
  have h2 : s2.beside = s1.beside := forAll_unchanged State.beside (fun p u => beside_countFree _ _ _ _ u) _ s1
  have h3 : s3.beside = s2.beside := forAll_unchanged State.beside (fun p u => beside_countFree _ _ _ _ u) _ s2
  have h4 : s4.beside = s3.beside := forAll_unchanged State.beside (fun _ u => beside_modPort _ _ u) _ s3
  exact (forAll_unchanged State.beside (fun _ u => beside_modLane _ _ u) _ s4).trans (h4.trans (h3.trans (h2.trans h1)))

/-- The frequency of a good reference is read. -/
def refRead (u : State) : State :=
  if u.cln.refOk then
    let d := draw Config.freeNat u
    { d.2 with cln := { d.2.cln with ppm := (d.1 % 5601 : Nat) - 5300 } }
  else u

theorem lineCounts_eq (s : State) : lineCounts s = refRead (lanesCounted s) := rfl

theorem tally_refRead (u : State) : (refRead u).tally = u.tally := by
  unfold refRead
  split
  · rfl
  · rfl

theorem ppm_refRead {u : State} (good : u.cln.refOk = true) : -5300 ≤ (refRead u).cln.ppm ∧ (refRead u).cln.ppm ≤ 300 := by
  unfold refRead
  rw [if_pos good]
  dsimp only
  omega

theorem behind_lineCounts (s : State) : (lineCounts s).tally.behind = s.tally.behind := by
  have counted : (lanesCounted s).tally.behind = s.tally.behind := congrArg Prod.fst (beside_lanesCounted s)
  rw [lineCounts_eq, tally_refRead, counted]

/-- The frequency of a good reference lies within its range. -/
theorem ppm_lineCounts {s : State} (h : s.cln.refOk = true) : -5300 ≤ (lineCounts s).cln.ppm ∧ (lineCounts s).cln.ppm ≤ 300 := by
  have good : (lanesCounted s).cln.refOk = s.cln.refOk := congrArg Prod.snd (beside_lanesCounted s)
  rw [lineCounts_eq]
  exact ppm_refRead (good.trans h)

/-! ## The latch (R552, R555, R557, R563) -/

/-- The accumulators become the latched values, and the next second begins at zero. -/
def cellsLatched (sec : Nat) (step : Bool) (u : State) : State :=
  { u with tally := { u.tally with
    latched := u.tally.acc, acc := [], second := sec % 2 ^ 32, latStep := step || u.tally.stepNext, stepNext := step
    latFenced := u.tally.fenced, fenced := fencedNow u, latChain := u.tally.chain } }

/-- The flags of the latch. -/
def latchFlagged (st : Bool) (s : State) : State :=
  let s := when (satCells s ≠ []) (setFlag .tallyFlags .A 0) s
  let s := when st (setFlag .tallyFlags .A 1) s
  when (Isl.all.any (fun i => i.row ∈ s.tally.latFenced && holdsCells s i)) (setFlag .tallyFlags .A 2) s

/-- The modes and chains as written come in force. -/
def masksTaken (s : State) : State :=
  let chain := (List.range 24).foldl (fun (t : Table Nat) j => tset 0 t (j + 1) (getReg s .tallyChain .A j).toNat) ([] : Table Nat)
  { s with tally := { s.tally with chain := chain, mode := s.tally.modeReg } }

theorem keep_latchFlagged (st : Bool) (s : State) : Same 6144 s (latchFlagged st s) := by
  unfold latchFlagged
  exact (same_when fun u => keep_setFlag _ _ _ u).mpr ((same_when fun u => keep_setFlag _ _ _ u).mpr
    ((same_when fun u => keep_setFlag _ _ _ u).mpr ((same_refl _ _).mpr trivial)))

/-- The Tally but for its totals. -/
def TallySt.untotalled (y : TallySt) : TallySt := { y with totals := [] }

/-- Tallies alike but for their totals. -/
theorem fields_of_untotalled {y z : TallySt} (h : y.untotalled = z.untotalled) : y.latched = z.latched ∧ y.acc = z.acc ∧ y.second = z.second ∧
    y.modeReg = z.modeReg := by
  have field {α : Type} (f : TallySt → α) : f y.untotalled = f z.untotalled := congrArg f h
  exact ⟨field TallySt.latched, field TallySt.acc, field TallySt.second, field TallySt.modeReg⟩

theorem untotalled_addTotals (s : State) : (addTotals s).tally.untotalled = s.tally.untotalled := by
  unfold addTotals
  refine forAll_unchanged (fun u => u.tally.untotalled) (fun _ _ => ?_) _ s
  rfl

theorem behind_remark (s : State) : (remark s).tally.behind = s.tally.behind := by
  unfold remark
  refine forAll_unchanged (fun u => u.tally.behind) (fun e u => ?_) _ s
  refine (forAll_unchanged (fun v => v.tally.behind) (fun l v => ?_) _ _).trans ?_
  · split
    · rfl
    · rfl
  · split
    · rfl
    · rfl

/-- A defect still reported marks its second's cell and no other (R279). -/
theorem acc_markCount {a k o i m : Nat} (h : a ≠ cellAddr k o i) (s : State) : tget 0 (markCount k o i m s).tally.acc a = tget 0 s.tally.acc a :=
  tget_tset_ne _ _ _ h

theorem acc_remark {a : Nat} (engine : ∀ e : Eng, a ≠ cellAddr 10 e.num 0) (leaf : ∀ o, a ≠ cellAddr 9 o 12) (s : State) :
    tget 0 (remark s).tally.acc a = tget 0 s.tally.acc a := by
  unfold remark
  refine forAll_unchanged (fun u => tget 0 u.tally.acc a) (fun e u => ?_) _ s
  refine (forAll_unchanged (fun v => tget 0 v.tally.acc a) (fun l v => ?_) _ _).trans ?_
  · split
    · exact acc_markCount (leaf _) v
    · rfl
  · split
    · exact acc_markCount (engine e) u
    · rfl

section
variable (sec : Nat) (step : Bool) (s : State)

/-- The state latched, before the defects still reported mark the new second. -/
def latchedUnmarked : State :=
  masksTaken (latchFlagged (step || (lineCounts s).tally.stepNext) (addTotals (cellsLatched sec step (lineCounts s))))

theorem latch_eq : latch sec step s = remark (latchedUnmarked sec step s) := rfl

/-- The Tally with the chains and modes as written in force. -/
theorem tally_masksTaken (u : State) : (masksTaken u).tally = { u.tally with chain := (masksTaken u).tally.chain, mode := u.tally.modeReg } := rfl

theorem tally_latchedUnmarked : (latchedUnmarked sec step s).tally =
    { (addTotals (cellsLatched sec step (lineCounts s))).tally with
      chain := (latchedUnmarked sec step s).tally.chain, mode := (addTotals (cellsLatched sec step (lineCounts s))).tally.modeReg } := by
  have flags : (latchFlagged (step || (lineCounts s).tally.stepNext) (addTotals (cellsLatched sec step (lineCounts s)))).tally =
      (addTotals (cellsLatched sec step (lineCounts s))).tally :=
    keep_latchFlagged (step || (lineCounts s).tally.stepNext) (addTotals (cellsLatched sec step (lineCounts s))) .tally rfl
  have taken := tally_masksTaken (latchFlagged (step || (lineCounts s).tally.stepNext) (addTotals (cellsLatched sec step (lineCounts s))))
  rwa [flags] at taken

theorem tally_cellsLatched (u : State) : (cellsLatched sec step u).tally.latched = u.tally.acc ∧ (cellsLatched sec step u).tally.acc = [] ∧
    (cellsLatched sec step u).tally.second = sec % 2 ^ 32 ∧ (cellsLatched sec step u).tally.modeReg = u.tally.modeReg := ⟨rfl, rfl, rfl, rfl⟩

/-- The totals are added beside the latched values, the cleared accumulators, the second and the modes as written. -/
theorem addTotals_cellsLatched (u : State) : (addTotals (cellsLatched sec step u)).tally.latched = u.tally.acc ∧
    (addTotals (cellsLatched sec step u)).tally.acc = [] ∧ (addTotals (cellsLatched sec step u)).tally.second = sec % 2 ^ 32 ∧
    (addTotals (cellsLatched sec step u)).tally.modeReg = u.tally.modeReg := by
  obtain ⟨latched, acc, second, modes⟩ := fields_of_untotalled (untotalled_addTotals (cellsLatched sec step u))
  obtain ⟨taken, empty, count, written⟩ := tally_cellsLatched sec step u
  exact ⟨latched.trans taken, acc.trans empty, second.trans count, modes.trans written⟩

theorem latch_tally : (latch sec step s).tally.latched = (lineCounts s).tally.acc ∧
    (latch sec step s).tally.totals = (addTotals (cellsLatched sec step (lineCounts s))).tally.totals ∧
    (latch sec step s).tally.second = sec % 2 ^ 32 ∧ (latch sec step s).tally.mode = s.tally.modeReg := by
  obtain ⟨-, -, -, -, written⟩ := fields_of_behind (behind_lineCounts s)
  obtain ⟨taken, -, count, modes⟩ := addTotals_cellsLatched sec step (lineCounts s)
  obtain ⟨latched, totals, second, mode, -⟩ := fields_of_behind (behind_remark (latchedUnmarked sec step s))
  rw [latch_eq, latched, totals, second, mode, tally_latchedUnmarked]
  dsimp only
  rw [taken, count, modes, written]
  exact ⟨rfl, rfl, rfl, rfl⟩

/-- The next second begins at zero but for the defects still reported. -/
theorem acc_latch {a : Nat} (engine : ∀ e : Eng, a ≠ cellAddr 10 e.num 0) (leaf : ∀ o, a ≠ cellAddr 9 o 12) :
    tget 0 (latch sec step s).tally.acc a = 0 := by
  obtain ⟨-, empty, -, -⟩ := addTotals_cellsLatched sec step (lineCounts s)
  have cleared : (latchedUnmarked sec step s).tally.acc = [] := by
    rw [tally_latchedUnmarked]
    dsimp only
    exact empty
  rw [latch_eq, acc_remark engine leaf, cleared]
  rfl

theorem ppm_latch (h : s.cln.refOk = true) : -5300 ≤ (latch sec step s).cln.ppm ∧ (latch sec step s).cln.ppm ≤ 300 := by
  have marked : (remark (latchedUnmarked sec step s)).cln = (latchedUnmarked sec step s).cln := keep_remark (latchedUnmarked sec step s) .cln rfl
  have taken (u : State) : (masksTaken u).cln = u.cln := rfl
  have flags (st : Bool) (u : State) : (latchFlagged st u).cln = u.cln := keep_latchFlagged st u .cln rfl
  have totals (u : State) : (addTotals u).cln = u.cln := keep_addTotals u .cln rfl
  have cells (u : State) : (cellsLatched sec step u).cln = u.cln := rfl
  rw [latch_eq, marked, latchedUnmarked, taken, flags, totals, cells]
  exact ppm_lineCounts h

end

/-! ## The second (R203, R382, R503, R516, R552) -/

/-- The word count of a receive converter island tied to the time (R203). -/
def WordTie.tied (s : State) (w : WordTie) : WordTie :=
  { w with count := (now s - w.origin) * 3 / 2, tod := s.clk.sec * 1000000000 + s.clk.ns }

theorem words_latchReceive (e : Eng) (s : State) : (getEng (latchReceive s) e).words = (getEng s e).words.tied s := by
  cases e <;> rfl

/-- The time counts on to the second `n`, and PPS_OUT rises. -/
def countedOn (n : Nat) (u : State) : State :=
  { u with clk := { u.clk with sec := n, ns := 0 }
           pins := { u.pins with ppsEdges := u.pins.ppsEdges + b01 (! ppsSquelched u) }
           seenSec := [] }

theorem countedOn_fields (n : Nat) (u : State) : (countedOn n u).clk = { u.clk with sec := n, ns := 0 } ∧
    (countedOn n u).pins.ppsEdges = u.pins.ppsEdges + b01 (! ppsSquelched u) ∧ (countedOn n u).seenSec = [] ∧
    (countedOn n u).tally = u.tally ∧ (countedOn n u).cln = u.cln := ⟨rfl, rfl, rfl, rfl, rfl⟩

theorem getEng_countedOn (n : Nat) (u : State) (e : Eng) : getEng (countedOn n u) e = getEng u e := by
  cases e
  · rfl
  · rfl

/-- The Tally latched and the second counted, before the events of the second. -/
def secondTurned (s : State) : State := countedOn ((s.clk.sec + 1) % 2 ^ 48) (latch s.clk.sec false s)

/-- What SECOND_BOUNDARY makes of the state. -/
def secondEnded (s : State) : State := latchMiss (raiseSums (reportLost (raiseSat (latchReceive (secondTurned s)))))

theorem execSecondBoundary_eq (s : State) :
    execSecondBoundary s = act (powered s && s.pwr.run ≠ .standby && s.pwr.run ≠ .held) secondEnded s := rfl

section
variable (s : State)

theorem secondTurned_fields : (secondTurned s).clk = { s.clk with sec := (s.clk.sec + 1) % 2 ^ 48, ns := 0 } ∧
    (secondTurned s).pins.ppsEdges = s.pins.ppsEdges + b01 (! ppsSquelched s) ∧ (secondTurned s).seenSec = [] ∧
    (secondTurned s).tally = (latch s.clk.sec false s).tally ∧ (secondTurned s).cln = (latch s.clk.sec false s).cln := by
  have clk : (latch s.clk.sec false s).clk = s.clk := keep_latch s.clk.sec false s .clk rfl
  have pins : (latch s.clk.sec false s).pins = s.pins := keep_latch s.clk.sec false s .pins rfl
  have tod : (latch s.clk.sec false s).tod = s.tod := keep_latch s.clk.sec false s .tod rfl
  have regs : (latch s.clk.sec false s).regs = s.regs := keep_latch s.clk.sec false s .regs rfl
  have held : ppsSquelched (latch s.clk.sec false s) = ppsSquelched s := by
    unfold ppsSquelched
    rw [tod, getReg_congr regs]
  have turned := countedOn_fields ((s.clk.sec + 1) % 2 ^ 48) (latch s.clk.sec false s)
  rwa [clk, pins, held] at turned

theorem getEng_secondTurned (e : Eng) : getEng (secondTurned s) e = getEng s e := by
  have latched : getEng (latch s.clk.sec false s) e = getEng s e := (keep_latch s.clk.sec false s).getEng e
  rw [secondTurned, getEng_countedOn, latched]

/-- The events of the second leave the receive side as it was tied. -/
theorem keep_secondEvents : Same 541104128 (latchReceive (secondTurned s)) (secondEnded s) :=
  (same_latchMiss (by decide)).mpr ((same_raiseSums (by decide)).mpr ((same_reportLost (by decide)).mpr ((same_raiseSat (by decide)).mpr
    ((same_refl _ _).mpr trivial))))

theorem keep_secondEnded : Same 541300736 (secondTurned s) (secondEnded s) :=
  ((keep_latchReceive (secondTurned s)).mono (by decide)).trans ((keep_secondEvents s).mono (by decide))

theorem tally_raiseSums : (raiseSums s).tally = { s.tally with sums := [] } := by
  unfold raiseSums
  exact forAll_unchanged State.tally (fun _ v => keep_raise _ _ _ _ v .tally rfl) _ _

/-- Beside the occurrences that it raises the events, nothing of the Tally changes after the latch. -/
theorem tally_secondEnded : (secondEnded s).tally = { (latch s.clk.sec false s).tally with sums := [] } := by
  have received (u : State) : (latchReceive u).tally = u.tally := keep_latchReceive u .tally rfl
  have saturated (u : State) : (raiseSat u).tally = u.tally := keep_raiseSat u .tally rfl
  have lost (u : State) : (reportLost u).tally = u.tally := keep_reportLost u .tally rfl
  have missed (u : State) : (latchMiss u).tally = u.tally := keep_latchMiss u .tally rfl
  obtain ⟨-, -, -, turned, -⟩ := secondTurned_fields s
  rw [secondEnded, missed, tally_raiseSums, lost, saturated, received, turned]

theorem secondEnded_fields : (secondEnded s).clk = { s.clk with sec := (s.clk.sec + 1) % 2 ^ 48, ns := 0 } ∧
    (secondEnded s).pins.ppsEdges = s.pins.ppsEdges + b01 (! ppsSquelched s) ∧ (secondEnded s).seenSec = [] ∧
    (secondEnded s).cln = (latch s.clk.sec false s).cln := by
  have kept := keep_secondEnded s
  have clk : (secondEnded s).clk = (secondTurned s).clk := kept .clk rfl
  have pins : (secondEnded s).pins = (secondTurned s).pins := kept .pins rfl
  have seen : (secondEnded s).seenSec = (secondTurned s).seenSec := kept .seenSec rfl
  have cln : (secondEnded s).cln = (secondTurned s).cln := kept .cln rfl
  obtain ⟨turned, edges, empty, -, lanes⟩ := secondTurned_fields s
  rw [clk, pins, seen, cln]
  exact ⟨turned, edges, empty, lanes⟩

theorem words_secondEnded (e : Eng) : (getEng (secondEnded s) e).words = { (getEng s e).words with
    count := (s.clk.now - (getEng s e).words.origin) * 3 / 2, tod := ((s.clk.sec + 1) % 2 ^ 48) * 1000000000 } := by
  have kept : getEng (secondEnded s) e = getEng (latchReceive (secondTurned s)) e := (keep_secondEvents s).getEng e
  obtain ⟨turned, -⟩ := secondTurned_fields s
  rw [kept, words_latchReceive, getEng_secondTurned, WordTie.tied, now, turned]
  dsimp only
  rw [Nat.add_zero]

theorem flow_secondEnded : (secondEnded s).flow.hits = 0 ∧ (secondEnded s).flow.misses = 0 := ⟨rfl, rfl⟩

end

/-! ## The obligation -/

/-- Engine A's leaves number the leaf objects of the Tally, whatever the mode. -/
theorem leafObj_A (s : State) (o : Nat) : leafObj s .A o = o := by
  unfold leafObj leafKey treeOf
  simp [Eng.num]

/-- Settles O43: the servo, the port and the second each have what they make of the state in a name, with its lemmas above. -/
theorem timebase : Obligations.Timebase := by
  unfold Obligations.Timebase
  refine ⟨fun pps s => ?_, fun s => ?_, fun s => ?_, fun s => ?_, fun v s => ?_, fun s => ?_, fun d src m s => ?_, fun s => ?_, fun s => ?_,
    fun s => ?_, fun s => ?_⟩
  · refine actsIf_next (execTodOffsetMeasured_eq pps s) (fun t => keep_execTodOffsetMeasured pps s) rfl fun _ ofs measured => ?_
    obtain ⟨taken, source, edge⟩ := servo_offset (ofs := ofs) (s := offsetTaken ofs s) rfl
    rw [← offsetServed_some measured] at taken source edge
    refine ⟨taken, source, edge, fun free => ?_, offsetServed_steps measured, fun acq near good => offsetServed_near measured acq near good,
      offsetServed_locked measured, offsetServed_holdover measured⟩
    rw [offsetServed_some measured, servo_free (s := offsetTaken ofs s) free]
    exact ⟨rfl, rfl⟩
  · refine actsIf_next rfl (fun t => keep_execTodSourceLost s) rfl fun _ => ?_
    obtain ⟨source, st, ppsSec, ppsOfs⟩ := loseSource_fields s
    exact ⟨source, st, keep_loseSource s .clk rfl, flag_loseSource s, ppsSec, ppsOfs, loseSource_port, loseSource_ptp⟩
  · refine actsIf_next rfl (fun t => keep_execTodHoldoverExpiry s) rfl fun acts => ⟨rfl, ?_⟩
    simp only [Bool.and_eq_true, decide_eq_true_eq] at acts
    exact clockClass_holdover acts.2
  · exact actsIf_next (execPpsInEdge_eq s) (fun t => keep_execPpsInEdge s) rfl fun _ =>
      ⟨rfl, rfl, rfl, rfl, ppsNext_armed, ppsNext_counts, edgeTaken_offset s⟩
  · exact writes_refuseOr rfl (fun t => keep_execTodSetLoWrite v s) (mask_sub rfl) fun _ => rfl
  · exact actsIf_next rfl (fun t => keep_execTodNowHiRead s) rfl fun _ => ⟨rfl, rfl⟩
  · refine actsIf_next (execPtpMessageReceived_eq d src m s) (fun t => keep_execPtpMessageReceived d src m s) rfl fun _ => ?_
    refine ⟨?_, ?_, ?_, ?_, ?_, ?_⟩
    · rintro cls acc var pri gm steps rfl
      refine ⟨keep_takeAnnounce src cls _ s .tally rfl, fun beaten => ?_, announce_counts⟩
      exact congrArg State.tod (takeAnnounce_outranked beaten)
    · rintro rfl
      exact ⟨rfl, keep_count 16 0 1 1 s .tod rfl⟩
    · rintro t rfl
      exact sync_taken src s t
    · rintro t rfl
      exact followUp_taken src s t
    · rintro t asker rfl
      exact delayResp_taken src s t asker
    · rintro rfl
      exact delayReq_taken src s
  · exact actsIf_next (execPtpAnnounceTx_eq s) (fun t => keep_execPtpAnnounceTx s) rfl fun _ => ⟨tod_announceDue_master, announceDue_silent⟩
  · refine actsIf_next (u := syncDue s) rfl (fun t => keep_execPtpSyncDelayTx s) rfl fun _ => ⟨fun master one => ?_, fun master two => ?_, fun follower => ?_⟩
    · rw [syncDue_oneStep master one]
      rfl
    · rw [syncDue_twoSteps master two]
      rfl
    · rw [syncDue_follower follower]
      rfl
  · refine actsIf_next (execSecondBoundary_eq s) (fun t => keep_execSecondBoundary s) rfl fun _ => ?_
    obtain ⟨latched, totals, second, mode⟩ := latch_tally s.clk.sec false s
    obtain ⟨clk, edges, seen, cln⟩ := secondEnded_fields s
    obtain ⟨hits, misses⟩ := flow_secondEnded s
    rw [clk, tally_secondEnded, cln]
    dsimp only
    refine ⟨rfl, rfl, rfl, rfl, seen, ⟨latched, totals, fun a other => ?_⟩, second, mode, rfl, edges, hits, misses, ppm_latch _ _ s, words_secondEnded s⟩
    refine acc_latch _ _ s (fun e => (other e 0).1) fun o => ?_
    have leaf := (other .A o).2
    rwa [leafObj_A] at leaf
  · exact ⟨clockClass_free, fun locked ptp => (clockClass_locked locked).trans (if_pos ptp),
      fun locked pps => (clockClass_locked locked).trans (if_neg pps), clockClass_holdover⟩

end Sys2Proof.Machine

end

section
/-! The record of the protection controller (R284 to R286, R291): what a noted request, the begin of a switch and an evaluation write of it, and
the commands of FRM_APS_CMD. -/

namespace Sys2Proof.Machine

-- One theorem after another: each theorem that waits for another holds a thread with its stack, and many do not fit a check.
set_option Elab.async false

/-! ## A request is noted, and a switch begins (R284, R286) -/

theorem aps_noteReq (r : ApsReq) (s : State) :
    (noteReq r s).aps = { s.aps with req := r.req, source := r.source, reqEng := some r.eng } := by
  unfold noteReq
  dsimp only
  split
  · next same =>
    simp only [Bool.and_eq_true, decide_eq_true_eq] at same
    obtain ⟨⟨req, source⟩, eng⟩ := same
    rw [← req, ← source, ← eng]
  · exact keep_apsEvent _ _ _ _ .aps rfl

/-- The controller's record once a switch from `w` has begun in `s`. -/
def switchBegun (w : Eng) (r : ApsReq) (planned own : Bool) (s : State) : Aps :=
  { s.aps with
    req := r.req, source := r.source, reqEng := some w.other
    st := 2, target := some w.other, planned := planned, notice := planned, rampOn := false, since := s.clk.now, errs := []
    own := if own then some (r.req, r.source) else none, back := false, rampNs := 1000 * regF s .apsRamp .A 0 13 0
    moved := if w = homeEng then (r.req = 11 || r.req = 9) else s.aps.moved
    dnr := false }

/-- The grants struck, the windows gone idle, the maps dropped and the units lost as a switch begins (R286, R288). -/
theorem keep_switchClears (w : Eng) (p : Nat → Grant → Bool) (s : State) : Same 9128050688 s (losePipeline w
    (modEng w (fun x => { x with mapsStopped := true }) (dropMaps w (fun _ => true) (idleWindows w p (strike w (fun _ => true) s))))) := by
  have struck := (keep_strike w (fun _ => true) s).mono (m := 9128050688) (by decide)
  have idle := struck.trans ((keep_idleWindows w p _).mono (by decide))
  have dropped := idle.trans ((keep_dropMaps w (fun _ => true) _).mono (by decide))
  exact (dropped.trans ((keep_modEng w _ _).mono (by decide))).trans ((keep_losePipeline w _).mono (by decide))

theorem aps_startSwitch (w : Eng) (r : ApsReq) (planned own : Bool) (s : State) :
    (startSwitch w r planned own s).aps = switchBegun w r planned own s := by
  unfold startSwitch
  extract_lets o s1 s2 s3 s4 a s5 s6
  have noted : s1.aps = _ := aps_noteReq ⟨r.req, r.source, o⟩ s
  have request : Same 303104 s s1 := keep_noteReq _ s
  have cleared : Same 9128050688 s1 s4 := keep_switchClears w (fun tn g => ahead s1 w tn g) s1
  have begun : s5.aps = switchBegun w r planned own s := by
    have clk : s4.clk = s.clk := (cleared .clk rfl).trans (request .clk rfl)
    have regs : s4.regs = s.regs := (cleared .regs rfl).trans (request .regs rfl)
    have aps : a = _ := (cleared .aps rfl).trans noted
    unfold s5 switchBegun
    dsimp only
    rw [aps, now, clk, regF_congr regs]
  have said : s6.aps = s5.aps := keep_apsEvent _ _ _ s5 .aps rfl
  split
  · exact said.trans begun
  · exact (keep_switchRampOff w s6 .aps rfl).trans (said.trans begun)

/-! ## The controller evaluates (R284, R285) -/

/-- What judging requests leaves of the controller's record: who works, the host's requests, the common offset and the duration of the last
switch; and no landing error is noted. -/
structure Judged (a b : Aps) : Prop where
  work : b.work = a.work
  lo : b.lo = a.lo
  fs : b.fs = a.fs
  ms : b.ms = a.ms
  ofs : b.ofs = a.ofs
  lastUs : b.lastUs = a.lastUs
  errs : a.errs = [] → b.errs = []

theorem Judged.refl (a : Aps) : Judged a a := ⟨rfl, rfl, rfl, rfl, rfl, rfl, id⟩

theorem Judged.trans {a b c : Aps} (h : Judged a b) (k : Judged b c) : Judged a c :=
  ⟨k.work.trans h.work, k.lo.trans h.lo, k.fs.trans h.fs, k.ms.trans h.ms, k.ofs.trans h.ofs, k.lastUs.trans h.lastUs, fun e => k.errs (h.errs e)⟩

theorem Judged.ite {c : Prop} [Decidable c] {a : Aps} {t u : State} (h : Judged a t.aps) (k : Judged a u.aps) :
    Judged a (if c then t else u).aps := by
  split
  · exact h
  · exact k

theorem judged_noteReq (r : ApsReq) (s : State) : Judged s.aps (noteReq r s).aps := by
  rw [aps_noteReq]
  exact ⟨rfl, rfl, rfl, rfl, rfl, rfl, id⟩

theorem judged_startSwitch (w : Eng) (r : ApsReq) (planned own : Bool) (s : State) : Judged s.aps (startSwitch w r planned own s).aps := by
  rw [aps_startSwitch]
  exact ⟨rfl, rfl, rfl, rfl, rfl, rfl, fun _ => rfl⟩

/-- A manual switch to an engine with SF or SD is cancelled (R284). -/
def msCancelled (s : State) : State :=
  match s.aps.ms with
  | some x => if (getEng s x).sfHeld || (getEng s x).sdHeld then { s with aps := { s.aps with ms := none } } else s
  | none => s

theorem ms_msCancelled {s : State} {w : Eng} (working : s.aps.work = some w) : (msCancelled s).aps.ms = msLeft s := by
  have works : s.aps.work.isSome = true := by rw [working, Option.isSome_some]
  unfold msCancelled msLeft
  rw [works, Bool.true_and]
  cases named : s.aps.ms with
  | none => exact named
  | some x =>
    dsimp only [Option.any_some]
    split
    · rfl
    · exact named

theorem aps_msCancelled {s : State} {w : Eng} (working : s.aps.work = some w) : (msCancelled s).aps = { s.aps with ms := msLeft s } := by
  rw [← ms_msCancelled working, msCancelled]
  split
  · split
    · rfl
    · rfl
  · rfl

/-- The controller of a pair cancels a manual switch as `msLeft` says, and then judges. -/
theorem judged_apsEval {s : State} (paired : s.boot.paired = true) : Judged { s.aps with ms := msLeft s } (apsEval s).aps := by
  unfold apsEval
  rw [if_neg (by simp [paired])]
  split
  · next idle =>
    have left : msLeft s = s.aps.ms := by simp [msLeft, idle]
    rw [left]
    exact .refl _
  · next w working =>
    extract_lets aps bad s1 above aps1 s2 r s3 aps3 s4
    have h1 : s1.aps = { s.aps with ms := msLeft s } := aps_msCancelled working
    generalize ({ s.aps with ms := msLeft s } : Aps) = a at h1 ⊢
    have same : Judged a s1.aps := h1 ▸ .refl _
    clear_value s1
    have h2 : Judged a s2.aps := .ite (same.trans ⟨rfl, rfl, rfl, rfl, rfl, rfl, id⟩) same
    clear_value s2
    have h3 : Judged a s3.aps := h2.trans (judged_noteReq r s2)
    clear_value s3
    have h4 : Judged a s4.aps := .ite (h3.trans ⟨rfl, rfl, rfl, rfl, rfl, rfl, id⟩) h3
    clear_value s4
    have switched (q : ApsReq) (planned own : Bool) : Judged a (startSwitch w q planned own s4).aps :=
      h4.trans (judged_startSwitch w q planned own s4)
    have noted (u : State) (h : Judged s4.aps u.aps) : Judged a (noteReq (apsRequest u w) u).aps :=
      (h4.trans h).trans (judged_noteReq _ u)
    exact .ite h3 (.ite (switched _ _ _) (.ite (switched _ _ _)
      (.ite (.ite (noted _ ⟨rfl, rfl, rfl, rfl, rfl, rfl, id⟩) (noted _ ⟨rfl, rfl, rfl, rfl, rfl, rfl, id⟩)) h4)))

/-! ## The host's commands (R291) -/

/-- A write that its gate and its own refusal let through is not refused. -/
theorem not_refused {a : Status} {b : Bool} (h : a.worse (if b then .errState else .ok) = .ok) : b = false := by
  cases b
  · rfl
  · cases a <;> exact absurd h (by decide)

/-- No command is accepted outside a pair. -/
theorem paired_of_accepted {s : State} {c : Nat} (h : apsCmdRefused s c = false) : s.boot.paired = true := by
  unfold apsCmdRefused at h
  simp only [Bool.or_eq_false_iff, Bool.not_eq_false'] at h
  exact h.1

section
variable {s : State}

/-- A command of the host sets `f` in the controller's record, and the controller evaluates: the requests of the host are as `f` set them, but
for a manual switch that is cancelled. -/
theorem writes_request {c : Instr} {n : Nat} (f : Aps → Aps) {post : State → Prop}
    (he : exec c s = .next (setStatus (refuseOr ((engWriteGate s .A .aTxd).worse (if apsCmdRefused s n then .errState else .ok))
      (fun u => apsEval { u with aps := f u.aps }) s)))
    (hk : ∀ t, exec c s = .next t → Same 538419204 s t)
    (hp : apsCmdRefused s n = false → ∀ t : State, t.aps.lo = (f s.aps).lo → t.aps.fs = (f s.aps).fs →
      t.aps.ms = msLeft { s with aps := f s.aps } → post t) :
    Writes ((engWriteGate s .A .aTxd).worse (if apsCmdRefused s n then .errState else .ok)) c s
      [.status, .seenTurn, .isls, .engA, .engB, .aps, .ssets, .tally] post := by
  refine writes_refuseOr he hk (mask_sub rfl) fun ok => ?_
  have accepted := not_refused ok
  have paired : s.boot.paired = true := paired_of_accepted accepted
  have judged := judged_apsEval (s := { s with aps := f s.aps }) paired
  exact hp accepted _ judged.lo judged.fs judged.ms

/-- CLEAR removes the host's requests, and notes whether one held traffic away from the home engine (R285). -/
def hostCleared (a : Aps) : Aps :=
  { a with lo := false, fs := none, ms := none, back := (a.fs = some homeEng.other || a.ms = some homeEng.other) || a.back }

/-- A manual switch to an engine without SF and SD stands. -/
theorem msLeft_good {x : Eng} (named : s.aps.ms = some x) (sf : (getEng s x).sfHeld = false) (sd : (getEng s x).sdHeld = false) :
    msLeft s = some x := by
  simp [msLeft, named, sf, sd]

theorem msLeft_none (h : s.aps.ms = none) : msLeft s = none := by simp [msLeft, h]

theorem msA_accepted (h : apsCmdRefused s 4 = false) : (getEng s .A).sfHeld = false ∧ (getEng s .A).sdHeld = false := by
  simp [apsCmdRefused] at h
  exact h.2.1

theorem msB_accepted (h : apsCmdRefused s 5 = false) : (getEng s .B).sfHeld = false ∧ (getEng s .B).sdHeld = false := by
  simp [apsCmdRefused] at h
  exact h.2.1

end

/-- Settles O36: a command sets its request, and the controller then cancels a manual switch alone. -/
theorem protectionCommands : Obligations.ProtectionCommands := by
  unfold Obligations.ProtectionCommands
  refine ⟨fun s => ?_, fun s => ?_, fun s => ?_, fun s => ?_, fun s => ?_, fun s => ?_⟩
  · exact writes_request hostCleared rfl (fun t => keep_execApsCmdClear s) fun _ t lo fs ms => ⟨lo, fs, ms.trans (msLeft_none rfl)⟩
  · exact writes_request (fun a => { a with lo := true }) rfl (fun t => keep_execApsCmdLo s) fun _ t lo fs ms => ⟨lo, fs, ms⟩
  · exact writes_request (fun a => { a with fs := some .A }) rfl (fun t => keep_execApsCmdFsA s) fun _ t lo fs ms => ⟨fs, lo, ms⟩
  · exact writes_request (fun a => { a with fs := some .B }) rfl (fun t => keep_execApsCmdFsB s) fun _ t lo fs ms => ⟨fs, lo, ms⟩
  · refine writes_request (fun a => { a with ms := some .A }) rfl (fun t => keep_execApsCmdMsA s) fun accepted t lo fs ms => ?_
    obtain ⟨sf, sd⟩ := msA_accepted accepted
    exact ⟨ms.trans (msLeft_good rfl sf sd), lo, fs⟩
  · refine writes_request (fun a => { a with ms := some .B }) rfl (fun t => keep_execApsCmdMsB s) fun accepted t lo fs ms => ?_
    obtain ⟨sf, sd⟩ := msB_accepted accepted
    exact ⟨ms.trans (msLeft_good rfl sf sd), lo, fs⟩

end Sys2Proof.Machine

end

section
/-! Slot sets and containers (R258 to R260, R292, R295, R465): what an accepted write of each word and each boundary makes of its entry, and O34. -/

namespace Sys2Proof.Machine

-- One theorem after another: each theorem that waits for another holds a thread with its stack, and many do not fit a check.
set_option Elab.async false

theorem Same.getSset {m : Nat} {s t : State} (h : Same m s t) (e : Eng) (n : Nat) (ssets : m.testBit 20 = false := by rfl)
    (boot : m.testBit 9 = false := by rfl) : getSset t e n = Machine.getSset s e n := getSset_congr (h .ssets ssets) (h .boot boot) e n

theorem Same.getCtr {m : Nat} {s t : State} (h : Same m s t) (e : Eng) (n : Nat) (ctrs : m.testBit 21 = false := by rfl)
    (boot : m.testBit 9 = false := by rfl) : getCtr t e n = Machine.getCtr s e n := getCtr_congr (h .ctrs ctrs) (h .boot boot) e n

/-! ## Slot sets (R258, R260) -/

/-- New words of a slot set are announced for a boundary. -/
def ssetAnnounced (e : Eng) (i : Nat) (new : Table W32) (s : State) : State :=
  let b := boundaryAfter (treeFrames s e)
  sendMsg e (.sset i (b % 65536) (wordList new))
    (setSset e i { getSset s e i with newWords := new, pend := true, effFn := b % 65536, effFrame := b } s)

/-- New words of a slot set are in force at once. -/
def ssetAtOnce (e : Eng) (i : Nat) (new : Table W32) (s : State) : State :=
  setSset e i { getSset s e i with words := new, newWords := new } s

/-- An accepted write of a word of a slot set. -/
def ssetWritten (e : Eng) (i w : Nat) (v : W32) (s : State) : State :=
  let new := tset 0 (getSset s e i).words w v
  if framerRuns s e then ssetAnnounced e i new s else ssetAtOnce e i new s

section
variable {e : Eng} {i w : Nat} {v : W32} {s : State}

theorem ssetWritten_running (h : framerRuns s e = true) : ssetWritten e i w v s = ssetAnnounced e i (tset 0 (getSset s e i).words w v) s := if_pos h

theorem ssetWritten_stopped (h : framerRuns s e = false) : ssetWritten e i w v s = ssetAtOnce e i (tset 0 (getSset s e i).words w v) s :=
  if_neg (by rw [h]; exact Bool.false_ne_true)

end

theorem execFrmSsetWrite_eq (e : Eng) (ss : SsetIx) (w : Fin 8) (v : W32) (s : State) : execFrmSsetWrite e ss w v s = .next (setStatus
    (refuseOr ((engWriteGate s e e.txd).worse (if ssetRefused s e ss w (v &&& 0x801FFFFF) then .errState else .ok))
      (ssetWritten e ss w (v &&& 0x801FFFFF)) s)) := rfl

section
variable (e : Eng) (i n : Nat) (new : Table W32) (s : State)

theorem getSset_ssetAnnounced : getSset (ssetAnnounced e i new s) e n = if n = i then { getSset s e i with
    newWords := new, pend := true, effFn := boundaryAfter (treeFrames s e) % 65536, effFrame := boundaryAfter (treeFrames s e) }
      else getSset s e n :=
  ((keep_sendMsg _ _ _).getSset e n).trans (getSset_setSset e i n _ s)

theorem getSset_ssetAtOnce : getSset (ssetAtOnce e i new s) e n =
    if n = i then { getSset s e i with words := new, newWords := new } else getSset s e n := getSset_setSset e i n _ s

end

theorem getSset_ssetWritten_other {e : Eng} {i w n : Nat} {v : W32} {s : State} (apart : n ≠ i) :
    getSset (ssetWritten e i w v s) e n = getSset s e n := by
  unfold ssetWritten
  dsimp only
  split
  · exact (getSset_ssetAnnounced e i n _ s).trans (if_neg apart)
  · exact (getSset_ssetAtOnce e i n _ s).trans (if_neg apart)

/-- The words written take effect. -/
def ssetInForce (e : Eng) (i : Nat) (s : State) : State :=
  setSset e i { getSset s e i with words := (getSset s e i).newWords, pend := false, effFn := 0, effFrame := 0 } s

/-- FRM_SSET_DONE at the engine that serves the tree. -/
def ssetDone (e : Eng) (i : Nat) (s : State) : State :=
  let te := treeEng s e
  oncePerTurn 0x0705 (ssetObjId te i) (turnKey s te)
    (raiseF te.txd 0x0705 (ssetObjId te i) (packData [(16, (getSset s e i).effFn)]) .frmFlags te 8) (ssetInForce e i s)

theorem execFrmSsetDone_eq (e : Eng) (ss : SsetIx) (s : State) : execFrmSsetDone e ss s =
    act (inService s && (getSset s e ss).pend && (getSset s e ss).effFrame ≤ treeFrames s e) (ssetDone e ss) s := rfl

theorem getSset_ssetDone (e : Eng) (i n : Nat) (s : State) : getSset (ssetDone e i s) e n =
    if n = i then { getSset s e i with words := (getSset s e i).newWords, pend := false, effFn := 0, effFrame := 0 } else getSset s e n := by
  have said : Same 47104 (ssetInForce e i s) (ssetDone e i s) :=
    (same_oncePerTurn (by decide) fun u => (keep_raiseF _ _ _ _ _ _ _ u).mono (by decide)).mpr ((same_refl _ _).mpr trivial)
  exact (said.getSset e n).trans (getSset_setSset e i n _ s)

theorem reported_ssetDone {e : Eng} {i : Nat} {s : State}
    (fresh : (0x0705, ssetObjId (treeEng s e) i, turnKey s (treeEng s e)) ∉ s.seenTurn) :
    reported (treeEng s e).txd 0x0705 (ssetObjId (treeEng s e) i) (packData [(16, (getSset s e i).effFn)]) .frmFlags (treeEng s e) 8 s
      (ssetDone e i s) := by
  have inForce : Same 1056768 s (ssetInForce e i s) := (keep_setSset e i _ s).mono (by decide)
  unfold ssetDone
  dsimp only
  rw [oncePerTurn, if_neg (show _ ∉ (ssetInForce e i s).seenTurn from fresh)]
  exact reported_raiseF_after ((same_up_seenTurn (by decide)).mpr inForce) (by decide)

/-! ## Containers (R259, R260, R465) -/

/-- The words of a container and whether it holds a share. -/
def Ctr.terms (x : Ctr) : W32 × W32 × Bool := (x.w0, x.profile, x.share)

/-- Between `s` and `t` container `c` kept its words and its share, and the other containers of the tree are as they were. -/
structure TermsKept (e : Eng) (c : Nat) (s t : State) : Prop where
  own : (getCtr t e c).terms = (getCtr s e c).terms
  others : ∀ n, n ≠ c → getCtr t e n = getCtr s e n

section
variable {e : Eng} {c : Nat} {s t u : State}

theorem TermsKept.trans (h : TermsKept e c s t) (k : TermsKept e c t u) : TermsKept e c s u :=
  ⟨k.own.trans h.own, fun n apart => (k.others n apart).trans (h.others n apart)⟩

theorem TermsKept.of_same {m : Nat} (h : Same m s t) (ctrs : m.testBit 21 = false := by rfl) (boot : m.testBit 9 = false := by rfl) :
    TermsKept e c s t := ⟨by rw [h.getCtr e c ctrs boot], fun n _ => h.getCtr e n ctrs boot⟩

theorem TermsKept.refl (s : State) : TermsKept e c s s := ⟨rfl, fun _ _ => rfl⟩

theorem TermsKept.ite {p : Prop} [Decidable p] (h : TermsKept e c s t) (k : TermsKept e c s u) : TermsKept e c s (if p then t else u) := by
  split
  · exact h
  · exact k

end

section
variable (e : Eng) (c n : Nat) (s : State)

theorem getCtr_rideNow : getCtr (rideNow e c s) e n =
    if n = c then { getCtr s e c with pend := false, effFn := 0, effFrame := 0, ssetNow := ctrSset (getCtr s e c).w0 } else getCtr s e n := by
  unfold rideNow
  extract_lets x s1
  have left : Same 1048576 s s1 := by
    unfold s1
    split
    · exact (same_refl _ _).mpr trivial
    · exact keep_modSset _ _ _ _
  rw [(keep_joinRr e c _).getCtr e n, getCtr_setCtr, left.getCtr e n]

theorem termsKept_rideNow : TermsKept e c s (rideNow e c s) where
  own := by
    rw [getCtr_rideNow, if_pos rfl]
    rfl
  others n apart := by rw [getCtr_rideNow, if_neg apart]

theorem termsKept_dropQueued : TermsKept e c s (dropQueued e c s) := by
  unfold dropQueued
  extract_lets x fs s1
  have held : Same 4194304 s s1 := (same_forAll fun p u => (same_up_flow (by decide)).mpr ((same_refl _ u).mpr trivial)).mpr ((same_refl _ s).mpr trivial)
  have counted : Same 4194304 (setCtr e c { x with queue := [], out := [] } s1)
      (forAll fs (fun f t => modFlow f (fun y => { y with dropCtr := satAdd y.dropCtr 1 }) t) (setCtr e c { x with queue := [], out := [] } s1)) :=
    (same_forAll fun f u => keep_modFlow f _ u).mpr ((same_refl _ _).mpr trivial)
  refine TermsKept.trans ⟨?_, fun n apart => ?_⟩ (.of_same counted)
  · rw [getCtr_setCtr, if_pos rfl]
    rfl
  · rw [getCtr_setCtr, if_neg apart, held.getCtr e n]

theorem getCtr_shareAfter_other {n : Nat} (apart : n ≠ c) (old : W32) : getCtr (shareAfter e c old s) e n = getCtr s e n := by
  unfold shareAfter
  dsimp only
  split
  · rfl
  · split
    · rw [getCtr_modCtr, if_neg apart, getCtr_modCtr, if_neg apart]
    · rw [getCtr_modCtr, if_neg apart]

/-- The words of a container stand whatever share it gets. -/
theorem words_shareAfter (old : W32) : (getCtr (shareAfter e c old s) e c).w0 = (getCtr s e c).w0 ∧
    (getCtr (shareAfter e c old s) e c).profile = (getCtr s e c).profile := by
  unfold shareAfter
  dsimp only
  split
  · exact ⟨rfl, rfl⟩
  · split
    · rw [getCtr_modCtr, if_pos rfl, getCtr_modCtr, if_pos rfl]
      exact ⟨rfl, rfl⟩
    · rw [getCtr_modCtr, if_pos rfl]
      exact ⟨rfl, rfl⟩

variable {e c s}

theorem share_shareAfter_none {old : W32} (h : mcastOn (getCtr s e c).w0 = false) : (getCtr (shareAfter e c old s) e c).share = false := by
  unfold shareAfter
  simp only [h, Bool.false_and, Bool.false_eq_true, if_false]
  rw [getCtr_modCtr, if_pos rfl]

theorem share_shareAfter_kept {old : W32} (h : mcastOn (getCtr s e c).w0 = true) (before : mcastOn old = true) :
    (getCtr (shareAfter e c old s) e c).share = (getCtr s e c).share := by
  unfold shareAfter
  simp only [h, before, Bool.and_self, if_true]

end

/-- The entry of a container as an accepted write of word 0 puts it: while the framer runs, a change of its slot set waits for a boundary. -/
def ctr0Put (e : Eng) (c : Nat) (v : W32) (s : State) : Ctr :=
  let x := getCtr s e c
  let b := boundaryAfter (treeFrames s e)
  if ctrEn v && ctrEn x.w0 && ctrSset v ≠ ctrSset x.w0 && framerRuns s e then { x with w0 := v, pend := true, effFn := b % 65536, effFrame := b }
  else if ctrEn v && x.pend then { x with w0 := v }
  else { x with w0 := v, pend := false, effFn := 0, effFrame := 0 }

theorem terms_ctr0Put (e : Eng) (c : Nat) (v : W32) (s : State) :
    (ctr0Put e c v s).terms = (v, (getCtr s e c).profile, (getCtr s e c).share) := by
  unfold ctr0Put
  dsimp only
  split
  · rfl
  · split <;> rfl

/-- An accepted write of word 0 puts it into the container's entry and judges its share; the boundary, the queue and the messages that follow
leave both. -/
theorem writeCtr0_accepted (e : Eng) (c : Nat) (v : W32) (s : State) : ∃ f : State → State,
    writeCtr0 e c v s = refuseOr ((engWriteGate s e e.txd).worse (if ctrRefused s e c (v &&& 0xFFFF01FF) then .errState else .ok)) f s ∧
    TermsKept e c (shareAfter e c (getCtr s e c).w0 (setCtr e c (ctr0Put e c (v &&& 0xFFFF01FF) s) s)) (f s) := by
  unfold writeCtr0
  extract_lets v'
  refine ⟨_, rfl, ?_⟩
  extract_lets x moves b y s1 s2 s3 fn hear quiet
  have rides : TermsKept e c s1 s2 := .ite (.refl s1) (termsKept_rideNow e c s1)
  have drops : TermsKept e c s1 s3 := .ite (rides.trans (termsKept_dropQueued e c s2)) rides
  refine .ite drops (drops.trans (.of_same (m := 196608) ?_))
  exact (same_forAll fun l u => keep_sendMsg _ _ u).mpr ((same_refl _ _).mpr trivial)

/-- Word 0 and word 1 of a container after an accepted write, and its share. -/
structure CtrWord0 (e : Eng) (c : Nat) (v : W32) (s t : State) : Prop where
  w0 : (getCtr t e c).w0 = v
  profile : (getCtr t e c).profile = (getCtr s e c).profile
  none : mcastOn v = false → (getCtr t e c).share = false
  kept : mcastOn v = true → mcastOn (getCtr s e c).w0 = true → (getCtr t e c).share = (getCtr s e c).share
  others : ∀ n, n ≠ c → getCtr t e n = getCtr s e n

theorem ctrWord0_of_share {e : Eng} {c : Nat} {v : W32} {y : Ctr} {s t : State}
    (put : y.terms = (v, (getCtr s e c).profile, (getCtr s e c).share))
    (kept : TermsKept e c (shareAfter e c (getCtr s e c).w0 (setCtr e c y s)) t) : CtrWord0 e c v s t := by
  have entry : getCtr (setCtr e c y s) e c = y := by rw [getCtr_setCtr, if_pos rfl]
  obtain ⟨w0, profile⟩ := words_shareAfter e c (setCtr e c y s) (getCtr s e c).w0
  simp only [Ctr.terms, Prod.mk.injEq] at put
  obtain ⟨put0, putProfile, putShare⟩ := put
  have own := kept.own
  simp only [Ctr.terms, Prod.mk.injEq] at own
  obtain ⟨own0, ownProfile, ownShare⟩ := own
  rw [entry] at w0 profile
  exact {
    w0 := own0.trans (w0.trans put0)
    profile := ownProfile.trans (profile.trans putProfile)
    none := fun off => ownShare.trans (share_shareAfter_none (by rw [entry, put0, off]))
    kept := fun on before => (ownShare.trans (share_shareAfter_kept (by rw [entry, put0, on]) before)).trans (by rw [entry, putShare])
    others := fun n apart => by
      rw [kept.others n apart, getCtr_shareAfter_other e c _ apart, getCtr_setCtr, if_neg apart] }

/-- An accepted write of word 1. -/
def profileSet (e : Eng) (c : Nat) (v : W32) (s : State) : State := modCtr e c (fun x => { x with profile := v &&& 0xFFFF }) s

theorem getCtr_profileSet (e : Eng) (c n : Nat) (v : W32) (s : State) : getCtr (profileSet e c v s) e n =
    if n = c then { getCtr s e c with profile := v &&& 0xFFFF } else getCtr s e n := getCtr_modCtr e c n _ s

/-! ## The obligation -/

/-- Settles O34: each accepted write and each boundary writes one entry, and the messages and events behind it leave the entries alone. -/
theorem slotSetsAndContainers : Obligations.SlotSetsAndContainers := by
  unfold Obligations.SlotSetsAndContainers
  refine ⟨fun e ss w v s => ?_, fun e ss s => ?_, fun e c w v s => ?_, fun e c s => ?_⟩
  · refine writes_refuseOr (execFrmSsetWrite_eq e ss w v s) (fun t => keep_execFrmSsetWrite e ss w v s) (mask_sub rfl) fun _ => ?_
    refine ⟨fun runs => ?_, fun stopped => ?_, fun n apart => getSset_ssetWritten_other apart⟩
    · rw [ssetWritten_running runs]
      exact (getSset_ssetAnnounced e ss ss _ s).trans (if_pos rfl)
    · rw [ssetWritten_stopped stopped]
      exact ⟨(getSset_ssetAtOnce e ss ss _ s).trans (if_pos rfl), rfl, rfl⟩
  · exact actsIf_next (execFrmSsetDone_eq e ss s) (fun t => keep_execFrmSsetDone e ss s) rfl fun _ =>
      ⟨(getSset_ssetDone e ss ss s).trans (if_pos rfl), fun n apart => (getSset_ssetDone e ss n s).trans (if_neg apart), reported_ssetDone⟩
  · by_cases word : w.val = 0
    · obtain ⟨f, write, kept⟩ := writeCtr0_accepted e c v s
      obtain ⟨w0, profile, none, share, others⟩ := ctrWord0_of_share (terms_ctr0Put e c _ s) kept
      rw [if_pos word]
      refine writes_refuseOr (f := f) ?_ (fun t => keep_execFrmCtrWrite e c w v s) (mask_sub rfl) fun _ => ?_
      · rw [exec, execFrmCtrWrite, if_pos word, write]
      · exact ⟨fun _ => ⟨w0, profile, none, share⟩, fun other => absurd word other, others⟩
    · rw [if_neg word]
      refine writes_refuseOr (f := profileSet e c v) ?_ (fun t => keep_execFrmCtrWrite e c w v s) (mask_sub rfl) fun _ => ?_
      · rw [exec, execFrmCtrWrite, if_neg word]
        rfl
      · exact ⟨fun first => absurd first word, fun _ => (getCtr_profileSet e c c v s).trans (if_pos rfl),
          fun n apart => (getCtr_profileSet e c n v s).trans (if_neg apart)⟩
  · exact actsIf_next rfl (fun t => keep_execContainerChangeEffective e c s) rfl fun _ =>
      ⟨(getCtr_rideNow e c c s).trans (if_pos rfl), fun n apart => (getCtr_rideNow e c n s).trans (if_neg apart)⟩

end Sys2Proof.Machine

end

section
/-! What protection writes of an engine's record (R274, R283 to R286): views that a switch, the causes of SF and SD, and the defects leave alone. -/

namespace Sys2Proof.Machine

-- One theorem after another: each theorem that waits for another holds a thread with its stack, and many do not fit a check.
set_option Elab.async false

/-! ## Views of an engine -/

/-- A view that shows neither the maps of an engine nor how its laser ramps. -/
structure OffSwitch {β : Type} (g : EngSt → β) : Prop where
  maps : ∀ x ms, g { x with maps := ms } = g x
  stopped : ∀ x b, g { x with mapsStopped := b } = g x
  ramp : ∀ (x : EngSt) l v, g { x with down := { x.down with laser := l, env := v } } = g x

/-- A view that does not show what stands of SF and SD. -/
def OffCauses {β : Type} (g : EngSt → β) : Prop :=
  ∀ (x : EngSt) sf symp wait since sd sdWait,
    g { x with sfHeld := sf, sfSymp := symp, sfWait := wait, sfAt := since, sdHeld := sd, sdWait := sdWait } = g x

/-- A view that does not show the defects. -/
def OffDefects {β : Type} (g : EngSt → β) : Prop := ∀ (x : EngSt) d, g { x with defs := d } = g x

/-- What an engine's turns have shown (R274, R283). -/
def EngSt.turnBook (x : EngSt) : List (Nat × TurnStat) × TurnStat × Nat := (x.turns, x.turnPrev, x.ratioTurns)

/-- What stands of SF and SD at an engine (R283). -/
def EngSt.signal (x : EngSt) : Bool × Bool × Nat × Bool × Bool := (x.sfHeld, x.sfWait, x.sfAt, x.sdHeld, x.sdWait)

/-- The transmit faults of an engine (R283). -/
def EngSt.faults (x : EngSt) : Bool × Bool × Bool × Bool := (x.down.laserFault, x.down.boosterFault, x.down.sigLock, x.down.loLock)

theorem offSwitch_turnBook : OffSwitch EngSt.turnBook := ⟨fun _ _ => rfl, fun _ _ => rfl, fun _ _ _ => rfl⟩

theorem offSwitch_signal : OffSwitch EngSt.signal := ⟨fun _ _ => rfl, fun _ _ => rfl, fun _ _ _ => rfl⟩

theorem offSwitch_faults : OffSwitch EngSt.faults := ⟨fun _ _ => rfl, fun _ _ => rfl, fun _ _ _ => rfl⟩

section
variable {β : Type} {g : EngSt → β} {k : Eng}

theorem engKept_strike (hg : OffSwitch g) (e : Eng) (p : Grant → Bool) (s : State) : EngKept g k s (strike e p s) := by
  unfold strike
  exact .keep ((engKept_modEng e s fun x => hg.maps x _).trans (engKept_modEng e _ fun x => hg.maps x _)) (keep_count _ _ _ _ _)

theorem engKept_idleWindows (hg : OffSwitch g) (e : Eng) (p : Nat → Grant → Bool) (s : State) : EngKept g k s (idleWindows e p s) := by
  unfold idleWindows
  exact EngKept.forAll (fun _ u => .of_same (keep_countSched _ _ _ _ _ u)) _ (engKept_modEng e s fun x => hg.maps x _)

/-- A switch that begins writes the maps of the working engine and, unplanned, its laser (R286). -/
theorem engKept_startSwitch (hg : OffSwitch g) (w : Eng) (r : ApsReq) (planned own : Bool) (s : State) :
    EngKept g k s (startSwitch w r planned own s) := by
  unfold startSwitch
  extract_lets o s1 s2 s3 s4 a s5 s6
  have h1 : EngKept g k s s1 := .of_same (keep_noteReq _ s)
  have h2 : EngKept g k s1 s2 := (engKept_strike hg w _ s1).trans (engKept_idleWindows hg w _ _)
  have h3 : EngKept g k s2 s3 :=
    .trans (.keep (engKept_modEng w s2 fun x => hg.maps x _) (keep_count _ _ _ _ _)) (engKept_modEng w _ fun x => hg.stopped x true)
  have h4 : EngKept g k s s4 := ((h1.trans h2).trans h3).keep (keep_losePipeline w s3)
  have h6 : EngKept g k s s6 := .keep (show EngKept g k s s5 from h4) (keep_apsEvent _ _ _ s5)
  refine h6.ite (h6.trans (engKept_modDown w s6 fun x => ?_))
  split
  · rfl
  · exact hg.ramp x _ _

theorem engKept_apsEval (hg : OffSwitch g) (s : State) : EngKept g k s (apsEval s) :=
  apsEval_keeps (fun _ _ h => h) (fun r u h => h.keep (keep_noteReq r u))
    (fun w r planned own u h => h.trans (engKept_startSwitch hg w r planned own u)) (.refl s)

theorem engKept_startSf (hc : OffCauses g) (e : Eng) (s : State) : EngKept g k s (startSf e s) := by
  unfold startSf
  extract_lets o close s1
  have held : EngKept g k s s1 := engKept_modEng e s fun x => hc x _ _ _ _ _ _
  exact .ite (held.trans (engKept_modEng _ _ fun x => hc x _ _ _ _ _ _)) held

theorem engKept_followCauses (hc : OffCauses g) (e : Eng) (s : State) : EngKept g k s (followCauses e s) := by
  unfold followCauses
  extract_lets x s1
  have sf : EngKept g k s s1 :=
    .ite (engKept_modEng e s fun x => hc x _ _ _ _ _ _)
      (.ite (.refl s) (.ite (engKept_startSf hc e s) (engKept_modEng e s fun x => hc x _ _ _ _ _ _)))
  clear_value s1
  exact sf.trans (.ite (engKept_modEng e s1 fun x => hc x _ _ _ _ _ _)
    (.ite (.refl s1) (.ite (engKept_modEng e s1 fun x => hc x _ _ _ _ _ _) (engKept_modEng e s1 fun x => hc x _ _ _ _ _ _))))

theorem engKept_apsUpdate (hg : OffSwitch g) (hc : OffCauses g) (s : State) : EngKept g k s (apsUpdate s) := by
  unfold apsUpdate
  exact ((engKept_followCauses hc .A s).trans (engKept_followCauses hc .B _)).trans (engKept_apsEval hg _)

/-- A change of an engine's defects makes events, and counts seconds (R273, R295). -/
theorem engKept_modEngDefs (hd : OffDefects g) (e : Eng) (f : Defects → Defects) (s : State) : EngKept g k s (modEngDefs e f s) := by
  unfold modEngDefs
  extract_lets was leaves s1 is ev left s2
  have h1 : EngKept g k s s1 := engKept_modEng e s fun x => hd x _
  clear_value was is s1
  have event (d entry : Nat) (u : State) : EngKept g k u (ev d entry u) := by
    refine .of_same (m := 47104) ?_
    exact (same_oncePerTurn (by decide) fun v => (keep_raiseF _ _ _ _ _ _ _ v).mono (by decide)).mpr ((same_refl _ _).mpr trivial)
  have hleft : EngKept g k s left := by
    unfold left
    split
    · exact .when (event _ 0) h1
    · exact h1
  have h2 : EngKept g k s s2 := by
    refine .ite h1 ?_
    split
    · exact (hleft.trans (event _ 1 _)).keep (keep_markCount _ _ _ _ _)
    · exact hleft
  exact EngKept.forAll (fun p u => .of_same (keep_leafReports _ _ _ u)) _ h2

end

/-! ## A turn is evaluated (R274, R283) -/

/-- The defects of an engine once the turn that is due was observed. -/
def turnObserved (e : Eng) (input : Int) (s : State) : State :=
  let t := (turnDue (getEng s e)).2
  let th := 100 * asSigned 8 (regF s .frmDefCfg e 0 7 0)
  if ! t.expected then s
  else modEngDefs e (fun d => { d with
    los := d.los.observe 8 2 (decide (input < th) && ! t.sync) (decide (th + 200 ≤ input) || t.sync)
    lof := d.lof.observe 8 2 (t.sync && ! t.good) t.good
    ais := d.ais.observe 8 2 (t.leafGood && ! t.notAis) t.notAis
    rdi := d.rdi.observe 8 2 (t.leafGood && ! t.anyRdi0) t.anyRdi0 }) s

/-- The turn is put away, and counts for the failed-block ratio where the other engine's was clean. -/
def turnClosed (e : Eng) (input : Int) (s : State) : State :=
  let due := turnDue (getEng s e)
  let u := turnObserved e input s
  let cleaner := u.boot.paired && ratioLow (turnSeen (getEng u e.other) due.1)
  modEng e (fun x => { x with
    turns := x.turns.tail, turnPrev := { due.2 with no := due.1 + 1 }
    ratioTurns := if ratioHigh due.2 && cleaner then x.ratioTurns + 1 else 0 }) u

theorem execEngineDefectTurnEval_eq (e : Eng) (input : Int) (s : State) : execEngineDefectTurnEval e input s =
    actF (inService s && ((getEng s e).st = .trafficReady || (getEng s e).st = .standby) && ! turnOpen (getEng s e) (turnDue (getEng s e)).1)
      (fun s => apsUpdate (turnClosed e input s)) s := rfl

section
variable (e : Eng) (input : Int) (s : State)

theorem turnBook_turnObserved (k : Eng) : EngKept EngSt.turnBook k s (turnObserved e input s) :=
  .ite (.refl s) (engKept_modEngDefs (fun _ _ => rfl) e _ s)

theorem boot_turnObserved : (turnObserved e input s).boot = s.boot := by
  unfold turnObserved
  dsimp only
  split
  · rfl
  · exact keep_modEngDefs e _ s .boot rfl

theorem turnSeen_of_turnBook {x y : EngSt} (h : y.turnBook = x.turnBook) (n : Nat) : turnSeen y n = turnSeen x n := by
  simp only [EngSt.turnBook, Prod.mk.injEq] at h
  obtain ⟨turns, prev, -⟩ := h
  rw [turnSeen, turns, prev, ← turnSeen]

theorem turnBook_turnClosed : (getEng (turnClosed e input s) e).turnBook =
    let d := turnDue (getEng s e)
    ((getEng s e).turns.tail, { d.2 with no := d.1 + 1 },
      if d.2.blocks < 1000 * d.2.failedBlocks ∧ s.boot.paired = true ∧ ratioLow (turnSeen (getEng s e.other) d.1) = true then
        (getEng s e).ratioTurns + 1 else 0) := by
  have own := turnBook_turnObserved e input s e
  simp only [EngKept, EngSt.turnBook, Prod.mk.injEq] at own
  obtain ⟨turns, -, ratio⟩ := own
  unfold turnClosed EngSt.turnBook
  dsimp only
  rw [getEng_modEng, if_pos rfl, boot_turnObserved, turnSeen_of_turnBook (turnBook_turnObserved e input s e.other)]
  dsimp only
  rw [turns, ratio]
  simp only [ratioHigh, Bool.and_eq_true, decide_eq_true_eq]

theorem turnBook_evaluated : (getEng (noteFault s (apsUpdate (turnClosed e input s))) e).turnBook = (getEng (turnClosed e input s) e).turnBook := by
  rw [getEng_noteFault]
  exact engKept_apsUpdate offSwitch_turnBook (fun _ _ _ _ _ _ _ => rfl) _

end

/-! ## SF, SD and transmit faults (R283) -/

/-- The hold-off of a cause ends. -/
def signalHeld (e : Eng) (sd : Bool) (s : State) : State :=
  if sd then modEng e (fun x => { x with sdHeld := true, sdWait := false }) s else startSf e s

theorem getEng_startSf (e : Eng) (s : State) : (getEng (startSf e s) e).sfHeld = true ∧ (getEng (startSf e s) e).sfWait = false ∧
    (getEng (startSf e s) e).sfAt = s.clk.now := by
  unfold startSf
  extract_lets o close s1
  have held : (getEng s1 e).sfHeld = true ∧ (getEng s1 e).sfWait = false ∧ (getEng s1 e).sfAt = s.clk.now := by
    unfold s1
    rw [getEng_modEng, if_pos rfl]
    exact ⟨rfl, rfl, rfl⟩
  split
  · rw [getEng_modEng, if_neg (other_ne e).symm]
    exact held
  · exact held

theorem signal_evaluated (e : Eng) (sd : Bool) (s : State) : let x := getEng (apsEval (signalHeld e sd s)) e
    (sd = true → x.sdHeld = true ∧ x.sdWait = false) ∧ (sd = false → x.sfHeld = true ∧ x.sfAt = s.clk.now ∧ x.sfWait = false) := by
  have kept : EngKept EngSt.signal e (signalHeld e sd s) (apsEval (signalHeld e sd s)) := engKept_apsEval offSwitch_signal _
  simp only [EngKept, EngSt.signal, Prod.mk.injEq] at kept
  obtain ⟨sfHeld, sfWait, sfAt, sdHeld, sdWait⟩ := kept
  dsimp only
  rw [sfHeld, sfWait, sfAt, sdHeld, sdWait]
  constructor
  · rintro rfl
    rw [signalHeld, if_pos rfl, getEng_modEng, if_pos rfl]
    exact ⟨rfl, rfl⟩
  · rintro rfl
    obtain ⟨held, wait, since⟩ := getEng_startSf e s
    exact ⟨held, since, wait⟩

theorem laser_laserLocks (k : Nat) (fault : Bool) (st : EngState) (d : Down) : (laserLocks k fault st d).laserFault = d.laserFault := by
  cases fault <;> rfl

/-- A laser fault leaves one of the two locks at most. -/
theorem locks_laserLocks (k : Nat) (st : EngState) (d : Down) :
    ((laserLocks k true st d).sigLock && (laserLocks k true st d).loLock) = false := by
  have apart : ¬ (k % 3 = 1 ∧ k % 3 = 2) := by omega
  simp only [laserLocks, if_true]
  rw [Bool.eq_false_iff]
  intro both
  simp only [Bool.and_eq_true, decide_eq_true_eq] at both
  exact apart ⟨both.1.2, both.2.2⟩

theorem down_setTxFault_laser (e : Eng) (b : Bool) (s : State) : ∃ k, (getEng (setTxFault e .laser b s) e).down =
    laserLocks k b (getEng s e).st { (getEng s e).down with laserFault := b } := by
  refine ⟨Config.freeNat s.free, ?_⟩
  unfold setTxFault
  dsimp only
  rw [getEng_modDown, if_pos rfl]
  rfl

theorem booster_setTxFault (e : Eng) (b : Bool) (s : State) : (getEng (setTxFault e .booster b s) e).down.boosterFault = b := by
  unfold setTxFault
  dsimp only
  rw [getEng_modDown, if_pos rfl]

/-- A fault as the evaluation leaves it. -/
theorem faults_evaluated (e : Eng) (c : TxCause) (b : Bool) (s : State) : let d := (getEng (apsUpdate (setTxFault e c b s)) e).down
    (c = .laser → d.laserFault = b ∧ (b = true → (d.sigLock && d.loLock) = false)) ∧ (c = .booster → d.boosterFault = b) := by
  have kept : EngKept EngSt.faults e (setTxFault e c b s) (apsUpdate (setTxFault e c b s)) :=
    engKept_apsUpdate offSwitch_faults (fun _ _ _ _ _ _ _ => rfl) _
  simp only [EngKept, EngSt.faults, Prod.mk.injEq] at kept
  obtain ⟨laser, booster, sig, lo⟩ := kept
  dsimp only
  rw [laser, booster, sig, lo]
  constructor
  · rintro rfl
    obtain ⟨k, down⟩ := down_setTxFault_laser e b s
    rw [down]
    refine ⟨laser_laserLocks _ _ _ _, ?_⟩
    rintro rfl
    exact locks_laserLocks _ _ _
  · rintro rfl
    exact booster_setTxFault e b s

end Sys2Proof.Machine

end

section
/-! The steps of a switch between engines (R285, R286, R290), and O35. -/

namespace Sys2Proof.Machine

-- One theorem after another: each theorem that waits for another holds a thread with its stack, and many do not fit a check.
set_option Elab.async false

/-! ## The old engine goes dark (R286) -/

/-- The notice of a planned switch ends. -/
def noticeEnded (s : State) : State :=
  match s.aps.work with
  | none => s
  | some w => switchRampOff w { s with aps := { s.aps with notice := false } }

theorem noticeEnded_working {s : State} {w : Eng} (working : s.aps.work = some w) :
    noticeEnded s = switchRampOff w { s with aps := { s.aps with notice := false } } := by
  simp only [noticeEnded, working]

theorem getEng_switchRampOff_other (w : Eng) (s : State) : getEng (switchRampOff w s) w.other = getEng s w.other :=
  (getEng_modDown _ _ _ _).trans (if_neg (other_ne w))

/-- Outside an emergency shutdown a lit output begins to ramp off. -/
theorem laser_switchRampOff (w : Eng) {s : State} (calm : s.pwr.emerg = .none) :
    (getEng (switchRampOff w s) w).down.laser = if (getEng s w).down.laser = .dark then .dark else .rampingOff := by
  rw [switchRampOff, getEng_modDown, if_pos rfl]
  by_cases dark : (getEng s w).down.laser = .dark
  · simp [dark]
  · simp [dark, calm]

/-- The old output is dark, and the new booster ramps on. -/
def outputsChanged (s : State) : State :=
  match s.aps.work, s.aps.target with
  | some w, some o =>
    let s := switchRampOn o (switchDark w s)
    { s with aps := { s.aps with rampOn := true } }
  | _, _ => s

theorem outputsChanged_working {s : State} {w : Eng} (working : s.aps.work = some w) (target : s.aps.target = some w.other) :
    outputsChanged s = { switchRampOn w.other (switchDark w s) with
      aps := { (switchRampOn w.other (switchDark w s)).aps with rampOn := true } } := by
  simp only [outputsChanged, working, target]

/-- The booster of an engine ramps on; its groups follow. -/
def boosterRises (o : Eng) (s : State) : State :=
  modDown o (fun d => { d with laser := .rampingOn, seen := true, env := .up s.clk.now (switchNs s) }) s

/-- An enabled group ramps on. -/
def groupRises (o : Eng) (g : Nat) (s : State) : State := when (grpEn s o g) (setGrpSt o g .rampOn) s

theorem switchRampOn_eq (o : Eng) (s : State) : switchRampOn o s = forAll (List.range 8) (groupRises o) (boosterRises o s) := rfl

section
variable (o : Eng) (s : State)

theorem groupsOnly_groupRises (g : Nat) : GroupsOnly o s (groupRises o g s) := .when (groupsOnly_rampGrp o g s _ _)

theorem getGrp_groupRises (g n : Nat) : getGrp (groupRises o g s) o n =
    if n = g then (if grpEn s o n then { getGrp s o n with st := .rampOn, env := {} } else getGrp s o n) else getGrp s o n := by
  unfold groupRises when
  by_cases named : n = g
  · subst named
    rw [if_pos rfl]
    split
    · rw [setGrpSt, getGrp_rampGrp, if_pos rfl]
    · rfl
  · rw [if_neg named]
    split
    · rw [setGrpSt, getGrp_rampGrp, if_neg named]
    · rfl

theorem groupsOnly_switchRampOn : GroupsOnly o (boosterRises o s) (switchRampOn o s) :=
  GroupsOnly.forAll (fun g u => groupsOnly_groupRises o u g) _ _

theorem getEng_switchRampOn_other {k : Eng} (apart : k ≠ o) : getEng (switchRampOn o s) k = getEng s k :=
  ((groupsOnly_switchRampOn o s).other k apart).trans ((getEng_modDown _ _ _ _).trans (if_neg apart))

theorem booster_switchRampOn : (getEng (switchRampOn o s) o).down.laser = .rampingOn ∧
    (getEng (switchRampOn o s) o).down.env = .up s.clk.now (switchNs s) := by
  rw [(groupsOnly_switchRampOn o s).down fun d => d.laser, (groupsOnly_switchRampOn o s).down fun d => d.env, boosterRises, getEng_modDown, if_pos rfl]
  exact ⟨rfl, rfl⟩

/-- Every enabled group ramps on at once (R286 step 4). -/
theorem getGrp_switchRampOn {n : Nat} (h : n < 8) :
    (getGrp (switchRampOn o s) o n).st = if grpEn s o n then .rampOn else (getGrp s o n).st := by
  have group : getGrp (boosterRises o s) o n = getGrp s o n := by
    rw [getGrp, boosterRises, getEng_modDown, if_pos rfl]
    rfl
  have enabled : grpEn (boosterRises o s) o n = grpEn s o n := by
    rw [grpEn, getReg_congr (show (boosterRises o s).regs = s.regs from keep_modDown o _ s .regs rfl), ← grpEn]
  have rises (g : Nat) (u : State) (only : GroupsOnly o (boosterRises o s) u) : getGrp (groupRises o g u) o n =
      if n = g then (if grpEn s o n then { getGrp u o n with st := .rampOn, env := {} } else getGrp u o n) else getGrp u o n := by
    rw [getGrp_groupRises, only.grpEn n, enabled]
  rw [switchRampOn_eq, getGrp_forAll (F := fun x => if grpEn s o n then { x with st := .rampOn, env := {} } else x)
    (fun g u => groupsOnly_groupRises o u g) _ _ List.nodup_range rises, if_pos (List.mem_range.mpr h), group]
  split <;> rfl

theorem getEng_switchDark_other (w : Eng) : getEng (switchDark w s) w.other = getEng s w.other :=
  (getEng_modDown _ _ _ _).trans (if_neg (other_ne w))

end

/-- The old engine sends nothing, and the new one's output and groups ramp on. -/
theorem outputs_exchanged (w : Eng) (s : State) : let t := switchRampOn w.other (switchDark w s)
    t.aps = s.aps ∧
    (getEng t w).down =
      { (getEng s w).down with laser := .dark, grp := [], env := {}, hdr := [], line := [], dac := [], zeros := 0, aisWas := false, rdiAllWas := false, rdiWas := [] } ∧
    (getEng t w.other).down.laser = .rampingOn ∧ (getEng t w.other).down.env = .up s.clk.now (switchNs s) ∧
    ∀ g, g < 8 → (getGrp t w.other g).st = if grpEn s w.other g then .rampOn else (getGrp s w.other g).st := by
  have dark := keep_switchDark w s
  obtain ⟨laser, env⟩ := booster_switchRampOn w.other (switchDark w s)
  refine ⟨(dark.trans (keep_switchRampOn _ _)) .aps rfl, ?_, laser, ?_, fun g h => ?_⟩
  · have old : getEng (switchRampOn w.other (switchDark w s)) w = getEng (switchDark w s) w := getEng_switchRampOn_other _ _ (other_ne w).symm
    rw [old, switchDark, getEng_modDown, if_pos rfl]
    rfl
  · rw [env, switchNs, dark .clk rfl, dark .aps rfl, ← switchNs]
  · have group : getGrp (switchDark w s) w.other g = getGrp s w.other g := congrArg (EngSt.group g) (getEng_switchDark_other s w)
    have enabled : grpEn (switchDark w s) w.other g = grpEn s w.other g := by rw [grpEn, getReg_congr (dark .regs rfl), ← grpEn]
    rw [getGrp_switchRampOn w.other (switchDark w s) h, group, enabled]

/-! ## The new engine works (R286 steps 4 and 5) -/

/-- The tree's messages pass to the new engine, whose output has full power; the engines change their places. -/
def enginesChanged (w o : Eng) (s : State) : State :=
  let s := modEng w (fun x => { x with st := if x.st = .trafficReady then .standby else x.st }) (takeMsgs w o s)
  let s := modEng o (fun x => { x with
    st := if x.st = .standby then .trafficReady else x.st, mapsStopped := false
    down := { x.down with laser := .lit, env := {} } }) s
  forAll (List.range 8) (fun g t => if grpEn t o g then setGrp o g { st := .on } t else t) s

/-- The new engine works under the predicted offset, TRAFFIC_READY is brought up to date, and the causes of SF and SD move with it. -/
def fullPower (w o : Eng) (s : State) : State :=
  let s := enginesChanged w o s
  let s := trafficUpdate { s with aps := { s.aps with work := some o, st := 3, rampOn := false, ofs := s.aps.ofs + 2 * s.aps.dup, errs := [] } }
  followCauses .B (followCauses .A s)

/-- APS_NEW_ENGINE_FULL_POWER. -/
def newEngineWorks (s : State) : State :=
  match s.aps.work, s.aps.target with
  | some w, some o => fullPower w o s
  | _, _ => s

theorem newEngineWorks_working {s : State} {w : Eng} (working : s.aps.work = some w) (target : s.aps.target = some w.other) :
    newEngineWorks s = fullPower w w.other s := by
  simp only [newEngineWorks, working, target]

theorem keep_enginesChanged (w o : Eng) (s : State) : Same 8590131200 s (enginesChanged w o s) := by
  have messages := (keep_takeMsgs w o s).mono (m := 8590131200) (by decide)
  refine Same.trans ((messages.trans (keep_modEng w _ _)).trans (keep_modEng o _ _))
    ((same_forAll fun g u => ?_).mpr ((same_refl _ _).mpr trivial))
  split
  · exact (keep_setGrp o g _ u).mono (by decide)
  · exact (same_refl _ u).mpr trivial

theorem st_takeMsgs (w o k : Eng) (s : State) : (getEng (takeMsgs w o s) k).st = (getEng s k).st := (keep_takeMsgs w o s).engineSt k

theorem st_enginesChanged (w : Eng) (s : State) :
    (getEng (enginesChanged w w.other s) w.other).st = (if (getEng s w.other).st = .standby then .trafficReady else (getEng s w.other).st) ∧
    (getEng (enginesChanged w w.other s) w).st = (if (getEng s w).st = .trafficReady then .standby else (getEng s w).st) := by
  have groups (u : State) : Same 196608 u (forAll (List.range 8) (fun g t => if grpEn t w.other g then setGrp w.other g { st := .on } t else t) u) := by
    refine (same_forAll fun g v => ?_).mpr ((same_refl _ _).mpr trivial)
    split
    · exact keep_setGrp _ g _ v
    · exact (same_refl _ v).mpr trivial
  unfold enginesChanged
  dsimp only
  rw [(groups _).engineSt, (groups _).engineSt, getEng_modEng, if_pos rfl, getEng_modEng, if_neg (other_ne w), getEng_modEng,
    if_neg (other_ne w).symm, getEng_modEng, if_pos rfl]
  dsimp only
  rw [st_takeMsgs, st_takeMsgs]
  exact ⟨rfl, rfl⟩

theorem fullPower_fields (w o : Eng) (s : State) : (fullPower w o s).aps =
      { s.aps with work := some o, st := 3, rampOn := false, ofs := s.aps.ofs + 2 * s.aps.dup, errs := [] } ∧
    ∀ k, (getEng (fullPower w o s) k).st = (getEng (enginesChanged w o s) k).st := by
  rw [← show (enginesChanged w o s).aps = s.aps from keep_enginesChanged w o s .aps rfl]
  unfold fullPower
  extract_lets u _ v
  have rest : Same 252546 _ (followCauses .B (followCauses .A v)) :=
    (((keep_trafficUpdate _).mono (by decide)).trans ((keep_followCauses .A v).mono (by decide))).trans ((keep_followCauses .B _).mono (by decide))
  exact ⟨rest .aps rfl, fun k => rest.engineSt k⟩

/-! ## The switch ends (R285, R286 step 6, R290) -/

/-- The record of a switch that has ended: who works, the common offset, the duration, and no landing error. -/
structure Settled (w : Eng) (ofs : Int) (us : Nat) (a : Aps) : Prop where
  work : a.work = some w
  ofs : a.ofs = ofs
  lastUs : a.lastUs = us
  errs : a.errs = []

section
variable {w : Eng} {ofs : Int} {us : Nat} {s : State}

theorem Settled.judged {a b : Aps} (h : Settled w ofs us a) (m : Option Eng) (k : Judged { a with ms := m } b) : Settled w ofs us b :=
  ⟨k.work.trans h.work, k.ofs.trans h.ofs, k.lastUs.trans h.lastUs, k.errs h.errs⟩

theorem Settled.apsEval (h : Settled w ofs us s.aps) : Settled w ofs us (apsEval s).aps := by
  by_cases paired : s.boot.paired = true
  · exact h.judged _ (judged_apsEval paired)
  · rw [Machine.apsEval, if_pos (by simpa using paired)]
    exact h

theorem Settled.apsUpdate (h : Settled w ofs us s.aps) : Settled w ofs us (apsUpdate s).aps := by
  have causes : (followCauses .B (followCauses .A s)).aps = s.aps := ((keep_followCauses .A s).trans (keep_followCauses .B _)) .aps rfl
  exact Settled.apsEval (causes ▸ h)

theorem Settled.engTry (e : Eng) (h : Settled w ofs us s.aps) : Settled w ofs us (engTry e s).aps := by
  have of_same {m : Nat} {t : State} (k : Same m s t) (hm : m.testBit 18 = false) : Settled w ofs us t.aps := k .aps hm ▸ h
  have dark := of_same (keep_engDark e s) rfl
  unfold Machine.engTry
  dsimp only
  split
  · exact h
  · split
    · exact dark
    · split
      · split
        · rw [aps_startSwitch]
          exact ⟨h.work, h.ofs, h.lastUs, rfl⟩
        · exact h
      · split
        · exact dark
        · split
          · exact h
          · exact of_same ((keep_engMark e 1 1 s).trans ((keep_engCmdEnd e _).mono (by decide))) rfl

end

/-- The end of a switch fixes the offset and the duration; what is judged behind it leaves them. -/
theorem settled_finishSwitch {s : State} {w : Eng} (working : s.aps.work = some w) (ofs : Int) (only : Bool) :
    Settled w ofs ((s.clk.now - s.aps.since) / 1000) (finishSwitch ofs only s).aps := by
  unfold finishSwitch
  split
  · next none => simp [none] at working
  · next w' working' =>
    obtain rfl : w' = w := Option.some.inj (working'.symm.trans working)
    extract_lets us off aps s1 s2 s3 s4
    have h1 : Settled w' ofs us s1.aps := ⟨working, rfl, rfl, rfl⟩
    have rest : s4.aps = s1.aps := by
      have symp : Same 8590131200 s1 s2 := (same_forAll fun e u => keep_modEng e _ u).mpr ((same_refl _ _).mpr trivial)
      have landed : Same 537638912 s2 s3 :=
        (same_forAll fun l u => keep_startRerange _ l 3 u).mpr ((keep_count _ _ _ _ s2).mono (by decide))
      exact ((keep_apsEvent _ _ _ s3 .aps rfl).trans (landed .aps rfl)).trans (symp .aps rfl)
    have h4 : Settled w' ofs us s4.aps := rest ▸ h1
    clear_value s4
    have back : Settled w' ofs us
        (if w' = homeEng then { s4 with aps := { s4.aps with moved := false, back := false } } else s4).aps := by
      split
      · exact ⟨h4.work, h4.ofs, h4.lastUs, h4.errs⟩
      · exact h4
    exact (back.apsUpdate.engTry .A).engTry .B

/-! ## The end of WTR (R285) -/

/-- A planned switch to the home engine begins. -/
def homeSwitch (s : State) : State :=
  match s.aps.work with
  | none => s
  | some w => startSwitch w ⟨5, 4, homeEng⟩ true true { s with aps := { s.aps with moved := false } }

theorem homeSwitch_working {s : State} {w : Eng} (working : s.aps.work = some w) :
    homeSwitch s = startSwitch w ⟨5, 4, homeEng⟩ true true { s with aps := { s.aps with moved := false } } := by
  simp only [homeSwitch, working]

/-- From the begin of a switch on no further map is sent (R286 step 1). -/
theorem mapsStopped_startSwitch (w : Eng) (r : ApsReq) (planned own : Bool) (s : State) :
    (getEng (startSwitch w r planned own s) w).mapsStopped = true := by
  unfold startSwitch
  extract_lets o s1 s2 s3 s4 a s5 s6
  have stopped : (getEng s3 w).mapsStopped = true := by
    unfold s3
    rw [getEng_modEng, if_pos rfl]
  have lost : getEng s4 w = getEng s3 w := (keep_losePipeline w s3).getEng w
  have said : getEng s6 w = getEng s4 w := (keep_apsEvent _ _ _ s5).getEng w
  have kept : (getEng s6 w).mapsStopped = true := by rw [said, lost, stopped]
  split
  · exact kept
  · rw [switchRampOff, getEng_modDown, if_pos rfl]
    exact kept

/-! ## The obligation -/

/-- Settles O35: every event writes its fields, and the evaluation that follows it leaves them. -/
theorem protectionSwitch : Obligations.ProtectionSwitch := by
  unfold Obligations.ProtectionSwitch
  refine ⟨fun e input s => ?_, fun e sd s => ?_, fun e cause s => ?_, fun e cause s => ?_, fun s => ?_, fun s => ?_, fun s => ?_, fun s => ?_,
    fun s => ?_, fun s => ?_⟩
  · refine actsIf_actF (execEngineDefectTurnEval_eq e input s) (fun t => keep_execEngineDefectTurnEval e input s) (mask_sub rfl) fun _ => ?_
    have book := (turnBook_evaluated e input s).trans (turnBook_turnClosed e input s)
    simp only [EngSt.turnBook, Prod.mk.injEq] at book
    exact book
  · exact actsIf_next (u := apsEval (signalHeld e sd s)) rfl (fun t => keep_execSfSdHoldoffExpiry e sd s) rfl fun _ => signal_evaluated e sd s
  · refine actsIf_next (u := apsUpdate (setTxFault e cause true s)) rfl (fun t => keep_execTransmitFault e cause s) rfl fun _ => ?_
    obtain ⟨laser, booster⟩ := faults_evaluated e cause true s
    exact ⟨fun l => ⟨(laser l).1, (laser l).2 rfl⟩, booster⟩
  · refine actsIf_next (u := apsUpdate (setTxFault e cause false s)) rfl (fun t => keep_execTransmitFaultClear e cause s) rfl fun _ => ?_
    obtain ⟨laser, booster⟩ := faults_evaluated e cause false s
    exact ⟨fun l => (laser l).1, booster⟩
  · refine actsIf_next (u := noticeEnded s) rfl (fun t => keep_execApsPlannedNoticeDone s) rfl fun acts w working => ?_
    simp only [Bool.and_eq_true] at acts
    obtain ⟨⟨service, -⟩, -⟩ := acts
    rw [noticeEnded_working working]
    exact ⟨keep_switchRampOff w _ .aps rfl, getEng_switchRampOff_other w _, laser_switchRampOff w (calm_of_inService service)⟩
  · refine actsIf_next (u := outputsChanged s) rfl (fun t => keep_execApsRampOffDone s) rfl fun _ w working target => ?_
    obtain ⟨aps, old, laser, env, groups⟩ := outputs_exchanged w s
    rw [outputsChanged_working working target, aps]
    exact ⟨rfl, old, laser, env, groups⟩
  · refine actsIf_next (u := newEngineWorks s) rfl (fun t => keep_execApsNewEngineFullPower s) rfl fun _ w working target => ?_
    obtain ⟨aps, states⟩ := fullPower_fields w w.other s
    obtain ⟨new, old⟩ := st_enginesChanged w s
    rw [newEngineWorks_working working target]
    exact ⟨aps, (states w.other).trans new, (states w).trans old⟩
  · refine actsIf_next rfl (fun t => keep_execApsCommonOffsetApplied s) rfl fun _ w working => ?_
    obtain ⟨work, ofs, us, errs⟩ := settled_finishSwitch working (medianOf ((s.aps.errs.reverse.take 64).map fun p => p.2)) false
    exact ⟨work, ofs, us, errs⟩
  · refine actsIf_next rfl (fun t => keep_execApsSettleTimeout s) rfl fun _ w working => ?_
    obtain ⟨work, ofs, us, errs⟩ := settled_finishSwitch working s.aps.ofs true
    exact ⟨work, ofs, us, errs⟩
  · refine actsIf_next (u := homeSwitch s) rfl (fun t => keep_execApsWtrExpiry s) rfl fun _ w working => ?_
    rw [homeSwitch_working working, aps_startSwitch]
    refine ⟨rfl, rfl, rfl, rfl, rfl, rfl, ?_, rfl, rfl, mapsStopped_startSwitch w _ _ _ _⟩
    unfold switchBegun
    dsimp only
    split <;> rfl

end Sys2Proof.Machine

end

section
/-! The scheduler's own events (R306, R319, R325 to R328, R374, R606): what a map leaves of the engines, the control queue, and O37. -/

namespace Sys2Proof.Machine

-- One theorem after another: each theorem that waits for another holds a thread with its stack, and many do not fit a check.
set_option Elab.async false

/-! ## Maps (R325 to R328) -/

/-- The maps of an engine are replaced, and a turn that its new map scales is reported. -/
def mapsNoted (e : Eng) (k : Overbook) (counted : Bool) (ms : List MapSt) (s : State) : State :=
  noteOverbook e k counted (modEng e (fun x => { x with maps := ms }) s)

section
variable (e : Eng) (k : Overbook) (counted : Bool) (ms : List MapSt) (s : State)

theorem getEng_mapsNoted (j : Eng) : getEng (mapsNoted e k counted ms s) j = if j = e then { getEng s e with maps := ms } else getEng s j :=
  ((keep_noteOverbook e k counted _).getEng j).trans (getEng_modEng e j _ s)

theorem maps_mapsNoted : (getEng (mapsNoted e k counted ms s) e).maps = ms := by rw [getEng_mapsNoted, if_pos rfl]

theorem getEng_mapsNoted_other : getEng (mapsNoted e k counted ms s) e.other = getEng s e.other := by
  rw [getEng_mapsNoted, if_neg (other_ne e)]

end

/-- The map for the turn three ahead stands behind the maps that are kept. -/
def mapAdded (e : Eng) (squares : List Square) (grants : List Grant) (s : State) : State :=
  let tn := turnOf s e + 3
  let b := basisOf s e tn
  mapsNoted e (overbook s e b tn squares grants) false
    (keepMaps s e (getEng s e).maps ++ [computed s e b tn squares grants false]) s

/-- The map of turn `tn`, struck before, has new grants. -/
def mapReplaced (e : Eng) (tn : Nat) (m : MapSt) (grants : List Grant) (s : State) : State :=
  mapsNoted e (overbook s e (nextBasis m) tn m.squares grants) m.scaled
    ((getEng s e).maps.map (fun y => if y.tn = tn then computed s e (nextBasis m) tn m.squares grants m.scaled else y)) s

/-- Where a recomputation of the turn's map runs, its end puts the new grants into that map. -/
theorem execMapRecomputeDone_running {e : Eng} {tn : Nat} {m : MapSt} {grants : List Grant} {s : State} (runs : recomputing s e tn = some m) :
    execMapRecomputeDone e tn grants s =
      .next (if schedRuns s e && legalMap s e (nextBasis m) tn m.squares grants then mapReplaced e tn m grants s else s) := by
  simp only [execMapRecomputeDone, act, runs]
  rfl

/-- Where none runs, nothing changes. -/
theorem execMapRecomputeDone_idle {e : Eng} {tn : Nat} {grants : List Grant} {s : State} (idle : recomputing s e tn = none) :
    execMapRecomputeDone e tn grants s = .next s := by
  simp [execMapRecomputeDone, idle, act]

/-! ## The control queue (R303, R319, R374, R606) -/

/-- The held messages join the queue. -/
def heldSent (e : Eng) (s : State) : State := modDown e (fun d => { d with ctl := d.ctl ++ d.held, held := [] }) s

theorem getEng_heldSent (e j : Eng) (s : State) : getEng (heldSent e s) j = if j = e then { getEng s e with
    down := { (getEng s e).down with ctl := queued s e, held := [] } } else getEng s j := getEng_modDown e j _ s

theorem queued_heldSent (e : Eng) (s : State) : queued (heldSent e s) e = queued s e := by
  rw [queued, getEng_heldSent, if_pos rfl, List.append_nil]

section
variable {e : Eng} {s : State} (serves : treeEng s e = e) (m : Msg)

include serves

/-- A message that arises stands last, whether it may be sent now or is held. -/
theorem queued_sendMsg : queued (sendMsg e m s) e = queued s e ++ [m] := by
  simp only [sendMsg, serves]
  split
  · next free =>
    have none : (getEng s e).down.held = [] := by simpa using (Bool.and_eq_true_iff.mp free).2
    simp only [queued, getEng_modDown, if_true, none, List.append_nil]
  · simp only [queued, getEng_modDown, if_true, List.append_assoc]

theorem getEng_sendMsg_other : getEng (sendMsg e m s) e.other = getEng s e.other := by
  simp only [sendMsg, serves]
  split <;> rw [getEng_modDown, if_neg (other_ne e)]

end

/-! ## The obligation -/

/-- Settles O37: a map is written into the list of its engine's maps, a message stands last in the queue, and TIME and RANGE are stamped as they
are sent. -/
theorem scheduler : Obligations.Scheduler := by
  unfold Obligations.Scheduler
  refine ⟨fun e squares grants s => ?_, fun e tn grants s => ?_, fun e s => ?_, fun e s => ?_, fun e s z asym => rfl, fun e s l eqd n => rfl⟩
  · exact actsIf_next (u := mapAdded e squares grants s) rfl (fun t => keep_execMapCompute e squares grants s) rfl fun _ =>
      ⟨maps_mapsNoted e _ _ _ s, getEng_mapsNoted_other e _ _ _ s⟩
  · cases runs : recomputing s e tn with
    | none =>
      exact ⟨fun acts => absurd acts (by simp), fun _ => execMapRecomputeDone_idle runs⟩
    | some m =>
      refine actsIf_next (u := mapReplaced e tn m grants s) (execMapRecomputeDone_running runs)
        (fun t => keep_execMapRecomputeDone e tn grants s) rfl fun _ => ⟨fun m' same => ?_, getEng_mapsNoted_other e _ _ _ s⟩
      obtain rfl := Option.some.inj same
      exact maps_mapsNoted e _ _ _ s
  · exact actsIf_next (u := heldSent e s) rfl (fun t => keep_execHeldMessagesSend e s) rfl fun _ =>
      ⟨queued_heldSent e s, by rw [getEng_heldSent, if_pos rfl], by rw [getEng_heldSent, if_neg (other_ne e)]⟩
  · refine actsIf_next rfl (fun t => keep_execTimeMessageSend e s) rfl fun acts => ?_
    simp only [Bool.and_eq_true, decide_eq_true_eq] at acts
    obtain ⟨⟨-, serves⟩, -⟩ := acts
    exact ⟨queued_sendMsg serves _, getEng_sendMsg_other serves _⟩

end Sys2Proof.Machine

end

section
/-! How a leaf enters and leaves the table (R311, R323, R331, R332): its entry after a registration, a departure and STICKY_H, and O39. -/

namespace Sys2Proof.Machine

-- One theorem after another: each theorem that waits for another holds a thread with its stack, and many do not fit a check.
set_option Elab.async false

/-! ## A registration succeeds (R311, R323) -/

theorem entriesKept_sendMsgs {α : Type} (l : List α) (e : Eng) (m : α → State → Msg) (s : State) :
    EntriesKept s (forAll l (fun a t => sendMsg e (m a t) t) s) :=
  .forAll (fun _ u => .of_same (keep_sendMsg e _ u)) l (.refl s)

/-- The entry of a leaf that becomes ACTIVE. -/
def activated (s : State) (e : Eng) (l : Nat) : Leaf :=
  { getLeaf s e l with st := .active, grpNow := (getLeaf s e l).grps, exch := { (getLeaf s e l).exch with running := false }, lastGrant := turnOf s e }

/-- The leaf becomes ACTIVE, and what it is told and the keys it is given leave its entry, the exchange apart. -/
theorem execBankerRegSuccess_activates (e : Eng) (l : LeafId) (s : State) : ∃ f : State → State,
    execBankerRegSuccess e l s = act (inService s && treeEng s e = e && ctlRuns s e.txd && (getLeaf s e l).st = .registering &&
      (getLeaf s e l).exch.reg = 3) f s ∧ EntriesKept (setLeaf e l (activated s e l) s) (f s) := by
  unfold execBankerRegSuccess
  refine ⟨_, rfl, ?_⟩
  extract_lets gs exch s1 s2 cs fn s3 s4 s5 s6
  have told : EntriesKept s1 s5 := by
    have containers : EntriesKept s1 s3 := .trans (.of_same (keep_sendMsg e _ s1)) (entriesKept_sendMsgs cs e _ s2)
    exact (containers.trans (entriesKept_sendMsgs _ e _ s3)).trans (.of_same (keep_sendMsg e _ s4))
  have keyed : EntriesKept s1 s6 := .forAll (fun g u => entriesKept_wantGroup e l g u) gs told
  exact keyed.keep (keep_schedEvent _ _ _ _ _ s6)

/-! ## A leaf departs (R311, R331) -/

/-- The entry that a departure leaves. -/
theorem getLeaf_depart (e : Eng) (l cause hold : Nat) (toFree : Bool) (s : State) : getLeaf (depart e l cause hold toFree s) e l =
    departedEntry (getLeaf s e l) (toFree || stickyH s e = 0) cause s.clk.now := by
  have sent (m : Msg) : Same 196608 s (sendMsg e m s) := keep_sendMsg e m s
  rw [depart, getLeaf_leave, getLeaf_sendMsg, stickyH, regF_congr (sent _ .regs rfl), now, sent _ .clk rfl]
  rfl

/-- The entry once the waiting requests were served after a departure. -/
theorem departed_served (e : Eng) (l cause hold : Nat) (toFree : Bool) (s : State) :
    let y := getLeaf (serveDeferred (depart e l cause hold toFree s)) e l
    y.st = (if toFree || stickyH s e = 0 then .free else .gone) ∧ y.cause = cause ∧ y.goneAt = s.clk.now := by
  have bare := getLeaf_serveDeferred e l (depart e l cause hold toFree s)
  rw [getLeaf_depart] at bare
  exact ⟨congrArg Leaf.st bare, congrArg Leaf.cause bare, congrArg Leaf.goneAt bare⟩

/-- A registration that ends without success frees the entry (R311). -/
theorem registrationEnded_served (e : Eng) (l : LeafId) (cause : Nat) (s : State) :
    let y := getLeaf (serveDeferred (endRegistration e l cause s)) e l
    y.st = .free ∧ y.cause = cause := by
  have bare := getLeaf_serveDeferred e l (endRegistration e l cause s)
  rw [endRegistration, (keep_holdSerial e _ _).getLeaf] at bare
  obtain ⟨free, why⟩ := getLeaf_depart_free e l cause (holdSecs s e) s
  exact ⟨(congrArg Leaf.st bare).trans free, (congrArg Leaf.cause bare).trans why⟩

/-! ## The obligation -/

/-- Settles O39: the entry is written when the leaf becomes ACTIVE or departs, and what is sent, erased and served afterwards leaves it. -/
theorem registration : Obligations.Registration := by
  unfold Obligations.Registration
  refine ⟨fun e l s => ?_, fun e l s => ?_, fun e l s => ?_, fun e l s => ?_, fun e l s => ?_⟩
  · obtain ⟨f, success, kept⟩ := execBankerRegSuccess_activates e l s
    have keeps (t : State) := keep_execBankerRegSuccess e l s (t' := t)
    refine actsIf_next success keeps rfl fun acts => ?_
    have boot : (f s).boot = s.boot := keeps (f s) (by rw [success, act, if_pos acts]) .boot rfl
    have entry := kept.getLeaf boot e l
    rw [getLeaf_setLeaf, if_pos rfl] at entry
    exact ⟨(congrArg Leaf.st entry :), (congrArg Leaf.serial entry :), (congrArg Leaf.grpNow entry :), (congrArg Leaf.lastGrant entry :)⟩
  · exact actsIf_next rfl (fun t => keep_execBankerRegFailure e l s) rfl fun _ => registrationEnded_served e l causeAuthFail s
  · exact actsIf_next rfl (fun t => keep_execRegTimeout e l s) rfl fun _ => registrationEnded_served e l causeTimeout s
  · refine actsIf_next rfl (fun t => keep_execLeafDepartTimeout e l s) rfl fun _ => ?_
    simpa only [Bool.false_or, decide_eq_true_eq] using departed_served e l causeDeparted 0 false s
  · exact actsIf_next rfl (fun t => keep_execLeafStickyExpiry e l s) rfl fun _ =>
      ⟨(getLeaf_setLeaf e l l _ s).trans (if_pos rfl), fun n apart => (getLeaf_setLeaf e l n _ s).trans (if_neg apart)⟩

end Sys2Proof.Machine

end

section
/-! The host's writes of the leaf table (R311, R320, R323, R331, R338, R339, R431): what an accepted write makes of the leaf's entry, and O40. -/

namespace Sys2Proof.Machine

-- One theorem after another: each theorem that waits for another holds a thread with its stack, and many do not fit a check.
set_option Elab.async false

/-! ## LEAF_CTL (R311, R320, R338) -/

section
variable (e : Eng) (l : LeafId) (s : State)

theorem writeLeafCtl_dereg (release : Bool) : writeLeafCtl e l (if release then 5 else 1) s =
    refuseOr ((writeGate s e.txd).worse (if (getLeaf s e l).st = .free || (getLeaf s e l).st = .gone then .errState else .ok))
      (fun u => serveDeferred (depart e l causeHost 0 release u)) s := by
  cases release <;> simp [writeLeafCtl]

theorem writeLeafCtl_rerange : writeLeafCtl e l 2 s =
    refuseOr ((writeGate s e.txd).worse (if (getLeaf s e l).st = .free || (getLeaf s e l).st = .gone || (getLeaf s e l).st = .assigned ||
      (getLeaf s e l).st = .registering then .errState else .ok)) (fun u => startRerange (treeEng u e) l 4 u) s := by
  simp [writeLeafCtl]

end

/-! ## Re-ranging begins (R320, R534) -/

/-- The engine that serves a tree holds its leaves. -/
theorem treeOf_treeEng (s : State) (e : Eng) : treeOf s (treeEng s e) = treeOf s e := by
  unfold treeOf treeEng
  split <;> rfl

/-- The entry of a leaf is one for the engines of its tree. -/
theorem getLeaf_treeEng {s t : State} (boot : t.boot = s.boot) (e : Eng) (l : Nat) : getLeaf t (treeEng s e) l = getLeaf t e l := by
  simp only [getLeaf, leafKey, treeOf_congr boot, treeOf_treeEng]

section
variable {e : Eng} {l row : Nat} {s : State}

/-- A leaf that is re-ranging already goes on. -/
theorem startRerange_running (runs : (getLeaf s e l).rerange = true) : startRerange e l row s = s := by
  simp [startRerange, runs]

/-- The trigger waits while the control functions of TXD pause. -/
theorem startRerange_paused (listed : (getLeaf s e l).st = .active ∨ (getLeaf s e l).st = .lost) (idle : (getLeaf s e l).rerange = false)
    (counts : countsTree s e = true) (paused : ctlRuns s e.txd = false) :
    startRerange e l row s = setLeaf e l { getLeaf s e l with rerangeDue := row } s := by
  rcases listed with st | st <;> simp [startRerange, st, idle, counts, paused]

/-- The entry of a leaf whose re-ranging begins. -/
theorem getLeaf_startRerange (listed : (getLeaf s e l).st = .active ∨ (getLeaf s e l).st = .lost) (idle : (getLeaf s e l).rerange = false)
    (counts : countsTree s e = true) (runs : ctlRuns s e.txd = true) :
    getLeaf (startRerange e l row s) e l = { getLeaf s e l with
      rerange := true, trig := row, wideMiss := 0, dedOnly := false, oldEqd := (getLeaf s e l).eqd, lastDed := none, rerangeDue := 0 } := by
  rcases listed with st | st <;> simp [startRerange, st, idle, counts, runs, (keep_countSched _ _ _ _ _ _).getLeaf]

end

/-- The state of R311 stands. -/
theorem st_startRerange (e : Eng) (l row : Nat) (s : State) : (getLeaf (startRerange e l row s) e l).st = (getLeaf s e l).st := by
  dsimp only [startRerange]
  split
  · rfl
  · split
    · simp
    · simp [(keep_countSched _ _ _ _ _ _).getLeaf]

/-- A write of RERANGE that is accepted finds the leaf ACTIVE or LOST. -/
theorem listed_of_accepted {st : LeafState} (h : (st = .free || st = .gone || st = .assigned || st = .registering) = false) :
    st = .active ∨ st = .lost := by
  cases st <;> simp at h ⊢

/-! ## Groups (R323, R431) -/

/-- The state, the serial number and the memberships of an entry. -/
def Leaf.listing (x : Leaf) : LeafState × BitVec 128 × Table W32 := (x.st, x.serial, x.grps)

/-- Announcing memberships leaves the listing. -/
theorem listing_scheduleMembership (e : Eng) (l : LeafId) (s : State) :
    (getLeaf (scheduleMembership e l s) e l).listing = (getLeaf s e l).listing := by
  unfold scheduleMembership
  extract_lets x old b joined cs sets s1 s2 s3
  split
  · rfl
  · have told : Same 196608 s1 s3 :=
      (same_forAll.go (fun _ u => keep_sendMsg e _ u) cs s2).symm.trans (keep_sendMsg e _ s1).symm |>.symm
    rw [(same_forAll.go (fun _ u => keep_sendMsg e _ u) sets s3).getLeaf, told.getLeaf, getLeaf_setLeaf, if_pos rfl]
    rfl

/-- An accepted write of a membership word puts it into the leaf's entry, where the keys and the messages that follow leave it; where the leaf is
neither ACTIVE nor LOST nothing follows. -/
theorem writeLeafGrp_accepted (e : Eng) (l : LeafId) (g : Nat) (v : W32) (s : State) : ∃ f : State → State,
    writeLeafGrp e l g v s = refuseOr ((writeGate s e.txd).worse (if (wordGroups (v &&& 0x8FFF8FFF)).any (fun x => 2047 < x) then
      .errState else .ok)) f s ∧
    (getLeaf (f s) e l).listing = ((getLeaf s e l).st, (getLeaf s e l).serial, tset 0 (getLeaf s e l).grps g (v &&& 0x8FFF8FFF)) ∧
    ((getLeaf s e l).st ≠ .active → (getLeaf s e l).st ≠ .lost → ∃ y, f s = setLeaf e l y s) := by
  unfold writeLeafGrp
  extract_lets word
  refine ⟨_, rfl, ?_⟩
  extract_lets x new left joined exch s1 s2 s3
  have written : (getLeaf s1 e l).listing = (x.st, x.serial, new) := by rw [getLeaf_setLeaf, if_pos rfl]; rfl
  have keyed : (getLeaf s3 e l).listing = (getLeaf s1 e l).listing := by
    have kept : EntriesKept s2 s3 := .forAll (fun h u => entriesKept_wantGroup e l h u) joined (.refl s2)
    have boot : s3.boot = s2.boot := same_forAll.go (fun h u => keep_wantGroup e l h u) joined s2 .boot rfl
    have bare := kept.getLeaf boot e l
    rw [getLeaf_groupsLeft] at bare
    exact (congrArg Leaf.listing bare :)
  refine ⟨?_, fun active lost => ⟨_, if_neg (by simp [x, active, lost])⟩⟩
  rw [← written]
  split
  · split
    · exact (listing_scheduleMembership e l s3).trans keyed
    · exact keyed
  · rfl

/-- Nothing is announced: nothing changes. -/
theorem membershipEffective_none {e : Eng} {l : LeafId} {s : State} (none : (getLeaf s e l).grpEff = []) :
    execGroupMembershipEffective e l s = .next s := by
  simp [execGroupMembershipEffective, none, act]

/-- The oldest announced membership comes into force at its boundary. -/
theorem membershipEffective_first {e : Eng} {l : LeafId} {s : State} {p : Nat × Table W32} {rest : List (Nat × Table W32)}
    (first : (getLeaf s e l).grpEff = p :: rest) : execGroupMembershipEffective e l s =
    .next (if inService s && decide (p.1 ≤ treeFrames s e) then setLeaf e l { getLeaf s e l with grpNow := p.2, grpEff := rest } s else s) := by
  simp [execGroupMembershipEffective, first, act]

/-! ## The obligation -/

/-- Settles O40: an accepted write is one update of the leaf's entry, and what it starts leaves that entry. -/
theorem leafCommands : Obligations.LeafCommands := by
  unfold Obligations.LeafCommands
  refine ⟨fun e l release s => ?_, fun e l s => ?_, fun e l i v s => ?_, fun e l g v s => ?_, fun e l s => ?_⟩
  · refine writes_refuseOr (by rw [exec, execLeafCtlDereg, writeLeafCtl_dereg]) (fun t => keep_execLeafCtlDereg e l release s)
      (mask_sub rfl) fun _ => ?_
    obtain ⟨st, cause, -⟩ := departed_served e l causeHost 0 release s
    exact ⟨st, cause⟩
  · refine writes_refuseOr (by rw [exec, execLeafCtlRerange, writeLeafCtl_rerange]) (fun t => keep_execLeafCtlRerange e l s)
      (mask_sub rfl) fun ok => ?_
    have listed := listed_of_accepted (not_refused ok)
    have tree : getLeaf s (treeEng s e) l = getLeaf s e l := getLeaf_treeEng rfl e l
    have boot : (startRerange (treeEng s e) l 4 s).boot = s.boot := keep_startRerange _ _ _ s .boot rfl
    simp only [setStatus_gets, ← getLeaf_treeEng boot e l]
    rw [← tree] at listed ⊢
    refine ⟨fun idle counts paused => ?_, fun idle counts runs => ?_, fun runs => ?_, st_startRerange _ _ _ s⟩
    · rw [startRerange_paused listed idle counts paused, getLeaf_setLeaf, if_pos rfl]
    · rw [getLeaf_startRerange listed idle counts runs]
      exact ⟨rfl, rfl, rfl⟩
    · rw [startRerange_running runs]
      rfl
  · refine writes_refuseOr rfl (fun t => keep_execLeafSerialWrite e l i v s) (mask_sub rfl) fun _ => ?_
    simp only [setStatus_gets, getLeaf_setLeaf, if_true]
    refine ⟨fun free => ?_, fun gone => if_pos gone, fun n apart => if_neg apart⟩
    rw [if_neg (by rw [free]; decide)]
  · obtain ⟨f, write, listing, alone⟩ := writeLeafGrp_accepted e l g v s
    refine writes_refuseOr (f := f) (by rw [exec, execLeafGrpWrite, write]) (fun t => keep_execLeafGrpWrite e l g v s)
      (mask_sub rfl) fun _ => ?_
    simp only [Leaf.listing, Prod.mk.injEq] at listing
    obtain ⟨st, serial, grps⟩ := listing
    refine ⟨grps, st, serial, fun active lost => ?_⟩
    obtain ⟨y, only⟩ := alone active lost
    rw [only]
    exact ⟨rfl, rfl, fun n apart => (getLeaf_setLeaf e l n y s).trans (if_neg apart)⟩
  · cases announced : (getLeaf s e l).grpEff with
    | nil => exact ⟨fun acts => absurd acts (by simp), fun _ => membershipEffective_none announced⟩
    | cons p rest =>
      refine actsIf_next (membershipEffective_first announced) (fun t => keep_execGroupMembershipEffective e l s) rfl fun _ =>
        ⟨fun p' rest' same => ?_, fun n apart => (getLeaf_setLeaf e l n _ s).trans (if_neg apart)⟩
      obtain ⟨rfl, rfl⟩ := List.cons.inj same
      exact (getLeaf_setLeaf e l l _ s).trans (if_pos rfl)

end Sys2Proof.Machine

end

section
/-! The policers (R355, R356): when their settings are legal, and which buckets a packet takes its bytes from. O12 and O13. -/

namespace Sys2Proof.Machine

-- One theorem after another: each theorem that waits for another holds a thread with its stack, and many do not fit a check.
set_option Elab.async false

/-! ## The settings in each MODE (R356) -/

/-- MODE has two bits. -/
theorem flowMode_lt (x : Flow) : flowMode x < 4 := Nat.mod_lt _ (by decide)

theorem policerOk_off {x : Flow} (mode : flowMode x = 0) : policerOk x = true := by simp [policerOk, mode]

theorem policerOk_one {x : Flow} (mode : flowMode x = 1) : policerOk x = true ↔ 64 ≤ x.cir.toNat ∧ 9600 ≤ flowCbs x := by
  simp [policerOk, mode]

theorem policerOk_two {x : Flow} (mode : flowMode x = 2) : policerOk x = true ↔
    64 ≤ x.cir.toNat ∧ 9600 ≤ flowCbs x ∧ x.cir.toNat ≤ x.pir.toNat ∧ 9600 ≤ flowPbs x := by
  simp [policerOk, mode, and_assoc]

theorem policerOk_three {x : Flow} (mode : flowMode x = 3) : policerOk x = false := by simp [policerOk, mode]

/-- Settles O12: MODE has four values, and each of them asks for its own limits. -/
theorem policerSettings : Obligations.PolicerSettings := by
  unfold Obligations.PolicerSettings
  intro x
  obtain mode | mode | mode | mode : flowMode x = 0 ∨ flowMode x = 1 ∨ flowMode x = 2 ∨ flowMode x = 3 := by
    have := flowMode_lt x
    omega
  · simp [policerOk_off mode, mode]
  · rw [policerOk_one mode]
    simp [mode, flowCbs]
  · rw [policerOk_two mode]
    simp [mode, flowCbs, flowPbs]
  · simp [policerOk_three mode, mode]

/-! ## The buckets (R354, R355) -/

/-- A bucket holds no more than its size after a refill. -/
theorem fillBucket_le (v : Int) (rem d rate size : Nat) : (fillBucket v rem d rate size).1 ≤ size := by
  unfold fillBucket
  dsimp only
  split
  · exact Int.le_refl _
  · next room => exact Int.le_of_lt (Int.not_le.mp room)

/-- MODE 0 polices nothing. -/
theorem police_off {x : Flow} (mode : flowMode x = 0) (s : State) (n : Nat) : police s n x = (.green, x) := by
  simp [police, mode]

/-- MODE 1: what fits the bucket is green. -/
theorem police_one {x : Flow} (mode : flowMode x = 1) (s : State) (n : Nat) : police s n x =
    if (n : Int) ≤ (refill s x).tc then (.green, { refill s x with tc := (refill s x).tc - n }) else (.red, refill s x) := by
  simp [police, mode]

/-- MODE 2: what exceeds the peak bucket is red, and what exceeds the committed bucket alone is yellow. -/
theorem police_two {x : Flow} (mode : flowMode x = 2) (s : State) (n : Nat) : police s n x =
    if (refill s x).tp < n then (.red, refill s x)
    else if (refill s x).tc < n then (.yellow, { refill s x with tp := (refill s x).tp - n })
    else (.green, { refill s x with tp := (refill s x).tp - n, tc := (refill s x).tc - n }) := by
  simp [police, mode]

/-- Settles O13: in each mode the packet's length against the refilled buckets picks the colour, and with it the buckets that pay. -/
theorem policerColours : Obligations.PolicerColours := by
  unfold Obligations.PolicerColours
  intro s n x y r
  refine ⟨fun mode fits => ?_, fun mode beyond => ?_, fun mode beyond => ?_, fun mode fits beyond => ?_, fun mode peak fits => ?_,
    fun mode => police_off mode s n, fillBucket_le _ _ _ _ _, fillBucket_le _ _ _ _ _⟩
  · have green : r = (.green, { y with tc := y.tc - n }) := (police_one mode s n).trans (if_pos fits)
    simp [green]
  · have red : r = (.red, y) := (police_one mode s n).trans (if_neg (Int.not_le.mpr beyond))
    simp [red]
  · have red : r = (.red, y) := (police_two mode s n).trans (if_pos beyond)
    simp [red]
  · have yellow : r = (.yellow, { y with tp := y.tp - n }) :=
      ((police_two mode s n).trans (if_neg (Int.not_lt.mpr fits))).trans (if_pos beyond)
    simp [yellow]
  · have green : r = (.green, { y with tp := y.tp - n, tc := y.tc - n }) :=
      ((police_two mode s n).trans (if_neg (Int.not_lt.mpr peak))).trans (if_neg (Int.not_lt.mpr fits))
    simp [green]

end Sys2Proof.Machine

end

section
/-! Flow contexts outside the packet path (R32, R345 to R348, R353, R354, R364, R376 to R378, R471): the sweep, the end of a move, the host's
writes, and the rebuild of a bucket. -/

namespace Sys2Proof.Machine

-- One theorem after another: each theorem that waits for another holds a thread with its stack, and many do not fit a check.
set_option Elab.async false

/-! ## What reading a context's words leaves of FLOW (R350, R470) -/

theorem FlowRead.refl (s : State) : FlowRead s s := ⟨s.flow.badBuckets, rfl⟩

theorem FlowRead.forAll {α : Type} {f : α → State → State} (hf : ∀ a u, FlowRead u (f a u)) : ∀ (l : List α) (s : State), FlowRead s (forAll l f s)
  | [], s => .refl s
  | a :: l, s => (hf a s).trans (FlowRead.forAll hf l (f a s))

theorem flowRead_draw {α : Type} (f : Nat → α) (s : State) : FlowRead s (draw f s).2 := .of_same (keep_draw f s)

theorem flowRead_memAccess (r word reader : Nat) (s : State) : FlowRead s (memAccess r word reader s) :=
  .of_same ((keep_memAccess r word reader s).mono rfl : Same 603985922 _ _)

theorem flowRead_memScan (r reader lo n : Nat) (p : Nat → Bool) (s : State) : FlowRead s (memScan r reader lo n p s) := by
  unfold memScan
  extract_lets known s1 k
  have reported : FlowRead s s1 := FlowRead.forAll
    (f := fun (q : Nat × Nat) t => memUncorr q.1 q.2 reader (memAccess q.1 q.2 reader t))
    (fun q u => (flowRead_memAccess q.1 q.2 reader u).trans (flowRead_memUncorr q.1 q.2 reader _)) known s
  refine (reported.trans (flowRead_draw _ s1)).trans (.forAll (fun _ u => ?_) _ _)
  dsimp only
  split
  · exact flowRead_draw _ u
  · exact (flowRead_draw _ u).trans (flowRead_memRead _ _ _ _)

theorem flowRead_readContext (reader f : Nat) (s : State) : FlowRead s (readContext reader f s) := by
  unfold readContext
  split
  · exact .refl s
  · exact flowRead_memScan _ _ _ _ _ s

theorem flowRead_sweepReads (s : State) : FlowRead s (sweepReads s) := flowRead_memScan _ _ _ _ _ s

theorem FlowRead.getFlow {s t : State} (h : FlowRead s t) (n : Nat) : getFlow t n = getFlow s n := by
  rw [Machine.getFlow, h.fields.1, ← Machine.getFlow]

/-! ## The sweep (R32, R354) -/

/-- An index that is not listed has the default. -/
theorem tget_not_listed {α : Type} (d : α) : ∀ (t : Table α) (k : Nat), k ∉ t.map (fun p => p.1) → tget d t k = d
  | [], _, _ => rfl
  | p :: t, k, h => by
    obtain ⟨other, rest⟩ := not_or.mp (mt List.mem_cons.mpr h)
    rw [tget, if_neg fun same => other same.symm, tget_not_listed d t k rest]

/-- Contexts written one after another, some of them left out: each ends as its own write says. -/
theorem getFlow_forAll_setFlow (skip : Nat → Bool) (g : Nat → Flow) (n : Nat) : ∀ (l : List Nat) (s : State),
    getFlow (forAll l (fun f t => if skip f then t else setFlow f (g f) t) s) n = if n ∈ l ∧ skip n = false then g n else getFlow s n
  | [], s => by simp [forAll]
  | a :: l, s => by
    refine (getFlow_forAll_setFlow skip g n l _).trans ?_
    by_cases same : n = a
    · subst same
      cases h : skip n <;> simp [h]
    · cases h : skip a <;> simp [same, h]

/-- A context that reads as POISON, which the sweep leaves (R353). -/
def sweepSkips (s : State) (f : Nat) : Bool := (getFlow s f).poison || ctxPoisoned s f

/-- A context as the sweep leaves it. -/
def sweptFlow (s : State) (x : Flow) : Flow := { refill s x with tUpd := none }
def agedFlow (s : State) (x : Flow) : Flow := { sweptFlow s x with ctl := (sweptFlow s x).ctl &&& 0x7FFFFFFF }

/-- The contexts with contents, and those of them that age. -/
def listedFlows (s : State) : List Nat := s.flow.ctx.map (fun p => p.1)
def agedFlows (s : State) : List Nat := (listedFlows s).filter (fun f => ! sweepSkips s f && agedOut s (getFlow s f))

/-- Every context is swept. -/
def sweepFlows (s : State) : State :=
  forAll (listedFlows s) (fun f t => if sweepSkips s f then t
    else setFlow f (if f ∈ agedFlows s then agedFlow s (getFlow s f) else sweptFlow s (getFlow s f)) t) s

/-- The sweep takes its time over. -/
def sweptAt (time : Nat) (s : State) : State := { s with flow := { s.flow with swept := time } }
def sweptNow (s : State) : State := sweptAt (todNs32 s) (sweepFlows s)

/-- The sweep once it has read the contexts: flows that age are counted, and raised when the second ends. -/
def sweepEnds (s : State) : State :=
  if agedFlows s = [] then sweptNow s
  else setFlag .flowFlags .A 1 (perSecond .flow 0x0902 0 (agedFlows s).length (count 16 0 0 (agedFlows s).length (sweptNow s)))

theorem execContextSweep_eq (s : State) : execContextSweep s = act (flowAccepts s) (fun s => sweepEnds (sweepReads s)) s := rfl

section
variable {s : State} {f : Nat}

theorem sweptFlow_default (s : State) : sweptFlow s {} = {} := by
  simp [sweptFlow, refill, fillBucket, flowCbs, flowPbs, fld]

/-- A context without contents is swept as every other: nothing of it changes. -/
theorem getFlow_not_listed (h : f ∉ listedFlows s) : getFlow s f = {} := tget_not_listed _ _ _ h

theorem mem_agedFlows : f ∈ agedFlows s ↔ f ∈ listedFlows s ∧ sweepSkips s f = false ∧ agedOut s (getFlow s f) = true := by
  simp [agedFlows]

/-- Only a valid flow ages, and a valid flow is no empty context. -/
theorem listed_of_aged (h : agedOut s (getFlow s f) = true) : f ∈ listedFlows s := by
  by_contra none
  rw [getFlow_not_listed none] at h
  simp [agedOut, flowValid] at h

theorem keep_sweptNow (s : State) : Same 4194304 s (sweptNow s) := by
  have flows : Same 4194304 s (sweepFlows s) := same_forAll.go (fun f u => by
    split
    · exact (same_refl _ u).mpr trivial
    · exact keep_setFlow _ _ u) _ s
  exact (same_up_flow rfl).mpr flows

theorem getFlow_sweptAt (time n : Nat) (s : State) : getFlow (sweptAt time s) n = getFlow s n := rfl

theorem getFlow_sweptNow (s : State) (f : Nat) : getFlow (sweptNow s) f = getFlow (sweepFlows s) f := by
  rw [sweptNow, getFlow_sweptAt]

theorem flow_sweepEnds (s : State) : (sweepEnds s).flow = (sweptNow s).flow := by
  unfold sweepEnds
  split
  · rfl
  · rw [keep_setFlag _ _ _ _ .flow rfl, keep_perSecond _ _ _ _ _ .flow rfl, keep_count _ _ _ _ _ .flow rfl]

theorem getFlow_sweepEnds (s : State) (f : Nat) : getFlow (sweepEnds s) f = if sweepSkips s f then getFlow s f
    else if agedOut s (getFlow s f) then agedFlow s (getFlow s f) else sweptFlow s (getFlow s f) := by
  rw [getFlow_congr (flow_sweepEnds s) f, getFlow_sweptNow, sweepFlows, getFlow_forAll_setFlow]
  cases skipped : sweepSkips s f
  · by_cases listed : f ∈ listedFlows s
    · simp [mem_agedFlows, listed, skipped]
    · have fresh : agedOut s (getFlow s f) = false := eq_false_of_ne_true (mt listed_of_aged listed)
      rw [getFlow_not_listed listed] at fresh ⊢
      simp only [listed, false_and, if_false, fresh, sweptFlow_default, Bool.false_eq_true]
  · simp

theorem flagged_sweepEnds (skipped : sweepSkips s f = false) (old : agedOut s (getFlow s f) = true) : flagged .flowFlags .A 1 s (sweepEnds s) := by
  have some : agedFlows s ≠ [] := List.ne_nil_of_mem (mem_agedFlows.mpr ⟨listed_of_aged old, skipped, old⟩)
  rw [sweepEnds, if_neg some]
  have before : Same 541065216 s (perSecond .flow 0x0902 0 (agedFlows s).length (count 16 0 0 (agedFlows s).length (sweptNow s))) :=
    (((keep_sweptNow s).mono rfl).trans ((keep_count _ _ _ _ _).mono rfl)).trans ((keep_perSecond _ _ _ _ _).mono rfl)
  exact flagged_setFlag' (congrArg Boot.paired (before .boot rfl)) (before .flags rfl) (before .rsc rfl) (by decide)

end

/-! ## The end of a move (R364) -/

theorem getFlow_endMove (f n : Nat) (s : State) : getFlow (endMove f s) n = if n = f then { getFlow s f with moveActive := false } else getFlow s n := by
  have bare : getFlow (endMove f s) n = getFlow (setFlow f { getFlow s f with moveActive := false } s) n := by
    unfold endMove
    extract_lets x e c held s1 fl s2
    exact getFlow_congr (keep_modCtr e c _ s2 .flow rfl) n
  rw [bare, getFlow_setFlow]

theorem movePend_endMove (f : Nat) (s : State) : tget [] (endMove f s).flow.movePend f = [] := by
  simp [endMove]

/-- The record and the flag of a move that its time ended. -/
def reportMove (f : Nat) (data : BitVec 80) (s : State) : State :=
  setFlag .flowFlags .A 3 (oncePerSec 0x0904 f (raise .flow 0x0904 f data) s)

theorem flow_reportMove (f : Nat) (data : BitVec 80) (s : State) : (reportMove f data s).flow = s.flow :=
  (keep_setFlag _ _ _ _ .flow rfl).trans (keep_rareRecord _ _ _ _ _ _ s .flow rfl)

theorem flagged_reportMove {f : Nat} {data : BitVec 80} {s u : State} (h : Same 6291456 s u) : flagged .flowFlags .A 3 s (reportMove f data u) := by
  have before := (h.mono rfl : Same 6340608 s u).trans ((keep_rareRecord 0x0904 f .flow 0x0904 f data u).mono rfl)
  exact flagged_setFlag' (congrArg Boot.paired (before .boot rfl)) (before .flags rfl) (before .rsc rfl) (by decide)

/-! ## Entries of the key index move between their buckets (R345) -/

/-- The contexts are as before, but for the buckets that their entries lie in. -/
def EntriesMove (s t : State) : Prop := ∀ n, getFlow t n = { getFlow s n with second := (getFlow t n).second }

theorem EntriesMove.refl (s : State) : EntriesMove s s := fun _ => rfl

theorem EntriesMove.of_flow {s t : State} (h : t.flow = s.flow) : EntriesMove s t := fun n => by rw [getFlow_congr h]

theorem EntriesMove.trans {s t u : State} (h : EntriesMove s t) (k : EntriesMove t u) : EntriesMove s u := fun n => by
  rw [k n, h n]

theorem entriesMove_moveEntry (f : Nat) (s : State) : EntriesMove s (moveEntry f s) := fun n => by
  rw [moveEntry, getFlow_modFlow]
  split
  · next same => rw [same]
  · rfl

theorem entriesMove_displace : ∀ (n b last : Nat) (s t : State), displace n b last s = some t → EntriesMove s t
  | 0, _, _, _, _, h => by simp [displace] at h
  | n + 1, b, last, s, t, h => by
    have drawn (v : Nat) : EntriesMove s (moveEntry v (draw Config.freeNat s).2) :=
      (EntriesMove.of_flow (keep_draw _ s .flow rfl)).trans (entriesMove_moveEntry v _)
    unfold displace at h
    dsimp only at h
    split at h
    · cases h
      exact drawn _
    · exact (drawn _).trans (entriesMove_displace n _ _ _ _ h)

theorem entriesMove_insertKey {f : Nat} {s t : State} (h : insertKey f s = some t) : EntriesMove s t := by
  unfold insertKey at h
  dsimp only at h
  split at h
  · cases h
    exact .refl s
  · split at h
    · cases h
      exact entriesMove_moveEntry f s
    · exact entriesMove_displace _ _ _ _ _ h

/-- A context made valid is fresh, and no other changes but for its bucket (R348). -/
theorem getFlow_makeValid {f : Nat} {y : Flow} {s t : State} (h : makeValid f y s = some t) (n : Nat) :
    getFlow t n = { (if n = f then freshFlow y else getFlow s n) with second := (getFlow t n).second } := by
  rw [entriesMove_insertKey h n, getFlow_setFlow]
  by_cases same : n = f
  · simp [same]
  · simp only [same, if_false]
    split
    · rw [getFlow_endMove, if_neg same]
    · rfl

/-! ## The host's writes (R353, R376 to R378) -/

theorem flow_writeBacks (l : List Nat) (s : State) : (forAll l writeBack s).flow = s.flow :=
  forAll_unchanged (f := writeBack) (fun u => u.flow) (fun _ _ => rfl) l s

/-- A host access leaves the contexts, but that one which reads as POISON is marked so. -/
theorem getFlow_hostTouch (f n : Nat) (s : State) : getFlow (hostTouch f s) n =
    if n = f ∧ ((getFlow s f).poison || ctxPoisoned s f) = true then { getFlow s f with poison := true } else getFlow s n := by
  unfold hostTouch
  dsimp only
  split
  · next bad =>
    rw [getFlow_modFlow]
    simp only [bad, and_true]
    rfl
  · next good =>
    rw [if_neg fun h => good h.2]
    have flow := flow_writeBacks
    simp only [touch, getFlow, flow]
    rfl

theorem getFlow_setStatus (p : State × Status) (n : Nat) : getFlow (setStatus p) n = getFlow p.1 n := getFlow_congr rfl n

/-- A context written back is good in DRAM. -/
theorem ctxPoisoned_writtenBack {f : Nat} {s t : State} (h : t.mem = (writeBack f s).mem) : ctxPoisoned t f = false := by
  have good : (t.mem.poisoned.any fun p => decide (p.1 = 8) && decide (p.2 / 4 = f)) = false := by
    rw [h, List.any_eq_false]
    intro p listed
    have other := (List.mem_filter.mp listed).2
    rwa [Bool.not_eq_true, ← Bool.not_eq_true']
  rw [ctxPoisoned, good, Bool.and_false]

/-- What an accepted write of a word does. -/
def wroteWord (f w : Nat) (v : W32) (s : State) : State :=
  let r := readContext rdHost f s
  let y := flowWith (getFlow r f) w v
  if w = 3 && flowValid y && ! liveFlow (getFlow r f) then hostTouch f ((makeValid f y (writeBack f r)).getD (writeBack f r))
  else hostTouch f (setFlow f (if w = 4 then startMove r f (getFlow r f) y else y) r)

/-- The answer to a write. -/
def windowAnswer (s : State) (f w : Nat) (v : W32) : Status := (writeGate s .flow).worse (if flowRefused s f w v then .errState else .ok)

theorem execFlowContextWrite_eq (f : FlowIx) (w : Fin 12) (v : W32) (s : State) : execFlowContextWrite f w v s =
    .next (setStatus (refuseOr (windowAnswer s f.val w.val v) (wroteWord f.val w.val v) s)) := rfl

theorem execFlowContextWrite_accepted {f : FlowIx} {w : Fin 12} {v : W32} {s : State} (ok : windowAnswer s f.val w.val v = .ok) :
    execFlowContextWrite f w v s = .next (setStatus (wroteWord f.val w.val v s, .ok)) := by
  rw [execFlowContextWrite_eq, refuseOr, if_pos ok]

/-- No written word is the outcome of a context's reading. -/
theorem poison_flowWith (x : Flow) (w : Nat) (v : W32) : (flowWith x w v).poison = x.poison := by
  unfold flowWith
  split <;> rfl

/-- VALID of a written CTL is the bit written. -/
theorem flowValid_flowWith (x : Flow) (v : W32) : flowValid (flowWith x 3 v) = v.getLsbD 31 := by
  simp [flowWith, flowValid]

/-- A move that begins leaves the written word, the sequence and the outcome of the context's reading. -/
theorem startMove_keeps (s : State) (f : Nat) (x y : Flow) :
    (startMove s f x y).map = y.map ∧ (startMove s f x y).fsn = y.fsn ∧ (startMove s f x y).poison = y.poison := by
  unfold startMove
  dsimp only
  split <;> exact ⟨rfl, rfl, rfl⟩

section
variable {f w : Nat} {v : W32} {s : State}

/-- Whether the write makes the context valid. -/
def setsValid (s : State) (f w : Nat) (v : W32) : Prop := w = 3 ∧ v.getLsbD 31 = true ∧ liveFlow (getFlow s f) = false

/-- The context with the written word, and with the move that MAP begins. -/
def withWord (s : State) (f w : Nat) (v : W32) : Flow :=
  if w = 4 then startMove (readContext rdHost f s) f (getFlow s f) (flowWith (getFlow s f) w v) else flowWith (getFlow s f) w v

theorem poison_withWord : (withWord s f w v).poison = (getFlow s f).poison := by
  unfold withWord
  split
  · exact (startMove_keeps ..).2.2.trans (poison_flowWith _ w v)
  · exact poison_flowWith _ w v

theorem wroteWord_fresh (sets : setsValid s f w v) : wroteWord f w v s =
    hostTouch f ((makeValid f (flowWith (getFlow s f) 3 v) (writeBack f (readContext rdHost f s))).getD (writeBack f (readContext rdHost f s))) := by
  obtain ⟨rfl, valid, dead⟩ := sets
  have same := (flowRead_readContext rdHost f s).getFlow f
  unfold wroteWord
  dsimp only
  rw [same, if_pos (by simp [flowValid_flowWith, valid, dead])]

theorem wroteWord_field (sets : ¬ setsValid s f w v) : wroteWord f w v s = hostTouch f (setFlow f (withWord s f w v) (readContext rdHost f s)) := by
  have same := (flowRead_readContext rdHost f s).getFlow f
  unfold wroteWord withWord
  dsimp only
  rw [same, if_neg fun h => ?_]
  simp only [Bool.and_eq_true, decide_eq_true_eq, Bool.not_eq_true'] at h
  obtain ⟨⟨rfl, valid⟩, dead⟩ := h
  exact sets ⟨rfl, (flowValid_flowWith _ v).symm.trans valid, dead⟩

/-- The context after a write that does not make it valid. -/
theorem getFlow_wroteField (sets : ¬ setsValid s f w v) (n : Nat) : getFlow (wroteWord f w v s) n =
    if n = f then { withWord s f w v with poison := (getFlow s f).poison || ctxPoisoned (readContext rdHost f s) f } else getFlow s n := by
  have reading : ctxPoisoned (setFlow f (withWord s f w v) (readContext rdHost f s)) f = ctxPoisoned (readContext rdHost f s) f := rfl
  rw [wroteWord_field sets, getFlow_hostTouch, reading]
  simp only [getFlow_setFlow, if_true, poison_withWord, (flowRead_readContext rdHost f s).getFlow n]
  by_cases same : n = f
  · simp only [same, true_and, if_true]
    split
    · next bad => rw [bad]
    · next good =>
      have clean : (withWord s f w v).poison = false := poison_withWord.trans (Bool.or_eq_false_iff.mp (eq_false_of_ne_true good)).1
      rw [eq_false_of_ne_true good, ← clean]
  · simp [same]

/-- Where the context's words are good, it stands as written. -/
theorem getFlow_wroteField_good (sets : ¬ setsValid s f w v) (good : ctxPoisoned (readContext rdHost f s) f = false) :
    getFlow (wroteWord f w v s) f = withWord s f w v := by
  rw [getFlow_wroteField sets f, if_pos rfl, good, Bool.or_false, ← poison_withWord]

/-- The contexts after a write that makes one valid and finds its key a place. -/
theorem getFlow_wroteFresh {t : State} (sets : setsValid s f w v)
    (placed : makeValid f (flowWith (getFlow s f) 3 v) (writeBack f (readContext rdHost f s)) = some t) (n : Nat) :
    getFlow (wroteWord f w v s) n =
      { (if n = f then freshFlow (flowWith (getFlow s f) 3 v) else getFlow s n) with second := (getFlow (wroteWord f w v s) n).second } := by
  have entry := getFlow_makeValid placed
  have good : ((getFlow t f).poison || ctxPoisoned t f) = false := by
    rw [entry f, if_pos rfl, ctxPoisoned_writtenBack (keep_makeValid placed .mem rfl)]
    rfl
  have touched : getFlow (wroteWord f w v s) n = getFlow t n := by
    rw [wroteWord_fresh sets, placed, Option.getD_some, getFlow_hostTouch, good, if_neg (by simp)]
  have before : getFlow (writeBack f (readContext rdHost f s)) n = getFlow s n := (flowRead_readContext rdHost f s).getFlow n
  rw [touched, entry n, before]

/-- Where the key finds no place, the context is no valid flow after the write either. -/
theorem liveFlow_wroteWord_unplaced (sets : setsValid s f w v)
    (unplaced : makeValid f (flowWith (getFlow s f) 3 v) (writeBack f (readContext rdHost f s)) = none) :
    liveFlow (getFlow (wroteWord f w v s) f) = false := by
  have before : getFlow (writeBack f (readContext rdHost f s)) f = getFlow s f := (flowRead_readContext rdHost f s).getFlow f
  rw [wroteWord_fresh sets, unplaced, Option.getD_none, getFlow_hostTouch, before]
  split
  · simp [liveFlow]
  · exact sets.2.2

end

/-! ## What the statement about flow contexts rests on -/

/-- Every accepted write that sets VALID finds its key a place. The model tries the key index twice: for the answer, and again once the
context's words were read. Those reads draw free values, so the displacements of the second trial draw others than those of the first, and
nothing is known of the values of `Config.freeNat`. -/
def InsertionsRepeat : Prop :=
  ∀ (f : FlowIx) (v : W32) (s : State), windowAnswer s f.val 3 v = .ok → setsValid s f.val 3 v →
    (makeValid f.val (flowWith (getFlow s f.val) 3 v) (writeBack f.val (readContext rdHost f.val s))).isSome = true

theorem insertionsRepeat_of_flowContexts (h : Obligations.FlowContexts) : InsertionsRepeat := by
  intro f v s ok sets
  obtain ⟨-, -, writes, -⟩ := h
  obtain ⟨t, ran, -, -, -, -, -, -, -, fresh, -⟩ := (writes f 3 v s).1 ok
  have wrote : t = setStatus (wroteWord f.val 3 v s, .ok) := (Host.Outcome.next.inj ((execFlowContextWrite_accepted ok).symm.trans ran)).symm
  have live : liveFlow (getFlow t f.val) = true := by
    rw [fresh rfl sets.2.2 sets.2.1]
    simpa [liveFlow, freshFlow, flowValid] using (flowValid_flowWith (getFlow s f.val) v).trans sets.2.1
  cases placed : makeValid f.val (flowWith (getFlow s f.val) 3 v) (writeBack f.val (readContext rdHost f.val s)) with
  | some _ => rfl
  | none =>
    rw [wrote, getFlow_setStatus, liveFlow_wroteWord_unplaced sets placed] at live
    exact absurd live Bool.false_ne_true

theorem InsertionsRepeat.getFlow_wroteWord (repeats : InsertionsRepeat) {f : FlowIx} {w : Nat} {v : W32} {s : State}
    (ok : windowAnswer s f.val w v = .ok) (sets : setsValid s f.val w v) (n : Nat) : getFlow (wroteWord f.val w v s) n =
      { (if n = f.val then freshFlow (flowWith (getFlow s f.val) 3 v) else getFlow s n) with second := (getFlow (wroteWord f.val w v s) n).second } := by
  obtain ⟨t, placed⟩ := Option.isSome_iff_exists.mp (repeats f v s (sets.1 ▸ ok) (sets.1 ▸ sets))
  exact getFlow_wroteFresh sets placed n

theorem flowContexts_of_insertionsRepeat (repeats : InsertionsRepeat) : Obligations.FlowContexts := by
  unfold Obligations.FlowContexts
  refine ⟨fun s => ?_, fun f s => ?_, fun f w v s => ?_, fun bucket s => ?_⟩
  · refine actsIf_next (u := sweepEnds (sweepReads s)) rfl (fun t => keep_execContextSweep s) rfl fun _ => ?_
    have clk : (sweepReads s).clk = s.clk := keep_sweepReads s .clk rfl
    refine ⟨by rw [flow_sweepEnds]; exact congrArg (fun c : Clock => (c.sec * 1000000000 + c.ns) % 2 ^ 32) clk, fun f => ?_⟩
    intro u x y old
    have context : getFlow u f = x := (flowRead_sweepReads s).getFlow f
    have ages : agedOut u x = old := by rw [agedOut, clk]
    have entry := getFlow_sweepEnds u f
    rw [sweepSkips, context, ages] at entry
    refine ⟨fun bad => ?_, fun good young => ?_, fun good aged => ⟨?_, ?_⟩⟩
    · rw [entry, if_pos bad]
    · rw [entry, good, young]
      rfl
    · rw [entry, good, aged]
      rfl
    · exact flagged_sweepEnds (by rw [sweepSkips, context, good]) (by rw [context, ages, aged])
  · refine actsIf_next rfl (fun t => keep_execFlowMoveTimeout f s) rfl fun _ => ?_
    have contexts (data : BitVec 80) (n : Nat) := (getFlow_congr (flow_reportMove f.val data (endMove f.val s)) n).trans (getFlow_endMove f.val n s)
    refine ⟨(contexts _ f.val).trans (if_pos rfl), ?_, flagged_reportMove (keep_endMove f.val s), fun n apart => (contexts _ n).trans (if_neg apart)⟩
    exact (congrArg (fun x : FlowSt => tget [] x.movePend f.val) (flow_reportMove f.val _ (endMove f.val s))).trans (movePend_endMove f.val s)
  · refine writes_refuseOr (f := wroteWord f.val w.val v) rfl (fun t => keep_execFlowContextWrite f w v s) (mask_sub rfl) fun ok => ?_
    simp only [getFlow_setStatus]
    have field (sets : ¬ setsValid s f.val w.val v) := getFlow_wroteField sets
    have fresh (sets : setsValid s f.val w.val v) := repeats.getFlow_wroteWord ok sets
    refine ⟨fun n apart => ?_, fun other n apart => (field (fun sets => other sets.1) n).trans (if_neg apart), fun other bad => ?_,
      fun other noMap good => ?_, fun ctl stays good => ?_, fun ctl dead valid => ?_, fun map => ?_⟩
    · by_cases sets : setsValid s f.val w.val v
      · rw [fresh sets n, if_neg apart]
      · rw [field sets n, if_neg apart]
    · rw [field (fun sets => other sets.1) f.val, if_pos rfl, bad]
      exact Bool.or_true _
    · exact (getFlow_wroteField_good (fun sets => other sets.1) good).trans (if_neg noMap)
    · have still : ¬ setsValid s f.val w.val v := fun ⟨_, valid, dead⟩ => by
        rw [valid, dead] at stays
        exact absurd stays (by decide)
      rw [getFlow_wroteField_good still good, ctl]
      rfl
    · rw [fresh ⟨ctl, valid, dead⟩ f.val, if_pos rfl]
    · rw [field (fun sets => absurd (map.symm.trans sets.1) (by decide)) f.val, if_pos rfl, map]
      obtain ⟨word, fsn, -⟩ := startMove_keeps (readContext rdHost f.val s) f.val (getFlow s f.val) (flowWith (getFlow s f.val) 4 v)
      exact ⟨word, fsn⟩
  · refine actsIf_next rfl (fun t => keep_execKeyIndexRebuild bucket s) rfl fun _ => ⟨fun b => ?_, rfl⟩
    simp

/-- What the statement rests on: all it says holds, but for the second insertion of an accepted write, which it takes to succeed: it
stands or falls with values that nothing fixes. -/
theorem flowContexts_iff : Obligations.FlowContexts ↔ InsertionsRepeat :=
  ⟨insertionsRepeat_of_flowContexts, flowContexts_of_insertionsRepeat⟩

end Sys2Proof.Machine

end

section
/-! The loss of a client link and of the reference (R392, R395, R398, R406, R417), with what the operations of the port state machine leave of
a port and of a lane. -/

namespace Sys2Proof.Machine

-- One theorem after another: each theorem that waits for another holds a thread with its stack, and many do not fit a check.
set_option Elab.async false

/-! ## Operations on the entries of a list -/

section
variable {β : Type} {read : State → Nat → β} {g : Nat → Nat} {f : Nat → State → State}
  (other : ∀ a u n, n ≠ g a → read (f a u) n = read u n)
include other

/-- Operations, each on its own entry, leave an entry that none of them owns. -/
theorem forAll_entry_other {n : Nat} :
    ∀ (l : List Nat) (s : State), (∀ a, a ∈ l → n ≠ g a) → read (forAll l f s) n = read s n
  | [], _, _ => rfl
  | a :: l, s, h => (forAll_entry_other l (f a s) fun b m => h b (List.mem_cons_of_mem a m)).trans (other a s n (h a List.mem_cons_self))

/-- Among operations, each on its own entry, one finds its entry as it was before them all, and leaves it as it is after them all. -/
theorem forAll_entry_own {m : Nat} (keep : ∀ a u, Same m u (f a u)) (inj : g.Injective) {b : Nat} :
    ∀ (l : List Nat) (s : State), l.Nodup → b ∈ l →
      ∃ u, Same m s u ∧ read u (g b) = read s (g b) ∧ read (forAll l f s) (g b) = read (f b u) (g b) := by
  intro l
  induction l with
  | nil => exact fun _ _ mem => absurd mem List.not_mem_nil
  | cons a l ih =>
    intro s once mem
    obtain ⟨fresh, once⟩ := List.nodup_cons.mp once
    rcases List.mem_cons.mp mem with rfl | mem
    · exact ⟨s, (same_refl m s).mpr trivial, rfl, forAll_entry_other other l (f b s) fun c h e => fresh (inj e ▸ h)⟩
    · obtain ⟨u, same, entry, after⟩ := ih (f a s) once mem
      have apart : g b ≠ g a := fun e => fresh (inj e ▸ mem)
      exact ⟨u, (keep a s).trans same, entry.trans (other a s _ apart), after⟩

end

/-- What holds before operations that each keep it holds after them. -/
theorem forAll_keeps {α : Type} {P : State → Prop} {f : α → State → State} (hf : ∀ a u, P u → P (f a u)) :
    ∀ (l : List α) (s : State), P s → P (forAll l f s)
  | [], _, h => h
  | a :: l, s, h => forAll_keeps hf l (f a s) (hf a s h)

theorem getPort_forAll {α : Type} {f : α → State → State} (hf : ∀ a u, (f a u).cln.ports = u.cln.ports) (l : List α) (s : State) (q : Nat) :
    getPort (forAll l f s) q = getPort s q := by
  rw [getPort, ports_forAll hf, ← getPort]

theorem nodup_lanesOf (p : Nat) (w : W32) : (lanesOf p w).Nodup := List.nodup_range.map fun _ _ h => Nat.add_left_cancel h

/-! ## Client events (R412, R417) -/

theorem recorded_oncePerSec {i : Isl} {code obj : Nat} {data : BitVec 80} {s u : State} (isls : u.isls = s.isls) (clk : u.clk = s.clk)
    (new : (code, obj) ∉ u.seenSec) : recorded i code obj data s (oncePerSec code obj (raise i code obj data) u) := by
  rw [oncePerSec_new new]
  refine recorded_raise (u := { u with seenSec := (code, obj) :: u.seenSec }) (fun j => ?_) clk fun j => ⟨rfl, rfl, rfl⟩
  have isl : getIsl u j = getIsl s j := getIsl_congr isls j
  exact ⟨congrArg IslSt.fifo isl, congrArg IslSt.seq isl, congrArg IslSt.lost isl⟩

section
variable {code p b : Nat} {data : BitVec 80} {m : Nat} {s u t : State} (k : Same m s u)
include k

/-- The flag of a client event, raised after updates that leave the flags alone and before others that do. -/
theorem flagged_clnEvent (hb : b < 32) (flags : t.flags = (clnEvent code p data b u).flags := by rfl)
    (rsc : t.rsc = (clnEvent code p data b u).rsc := by rfl) (hm : (eventParts.all fun p => ! m.testBit p.bit) = true := by rfl) :
    flagged .clnFlags .A b s t := by
  have kept (q : Part) (hq : q ∈ eventParts) : q.same s u := k q (by simpa using List.all_eq_true.mp hm q hq)
  have once : Same 49152 u (oncePerSec code p (raise .clrx code p data) u) :=
    (same_oncePerSec rfl fun v => (keep_raise .clrx code p data v).mono rfl).mpr ((same_refl _ u).mpr trivial)
  exact flagged_setFlag (congrArg Boot.paired ((once .boot rfl).trans (kept .boot (by decide))))
    ((once .flags rfl).trans (kept .flags (by decide))) ((once .rsc rfl).trans (kept .rsc (by decide))) hb flags rsc

/-- The record of a client event, made after and before updates that leave the records alone. -/
theorem recorded_clnEvent (new : (code, p) ∉ s.seenSec) (isls : t.isls = (clnEvent code p data b u).isls := by rfl)
    (hm : ((.seenSec :: eventParts).all fun p => ! m.testBit p.bit) = true := by rfl) : recorded .clrx code p data s t := by
  have kept (q : Part) (hq : q ∈ .seenSec :: eventParts) : q.same s u := k q (by simpa using List.all_eq_true.mp hm q hq)
  rw [recorded_isls (isls.trans (keep_setFlag _ _ _ _ .isls rfl))]
  exact recorded_oncePerSec (kept .isls (by decide)) (kept .clk (by decide)) (by rw [kept .seenSec (by decide)]; exact new)

end

/-! ## The operations of the port state machine (R406) -/

theorem portReg_congr {s t : State} (regs : t.regs = s.regs) (p : Nat) : portReg t p = portReg s p := getReg_congr regs _ _ _

theorem portPam4_congr {s t : State} (regs : t.regs = s.regs) (p : Nat) : portPam4 t p = portPam4 s p := by
  rw [portPam4, grpMode, regF_congr regs, ← grpMode, ← portPam4]

/-- A port has left UP, before the event of its cause. -/
def leftUp (p : Nat) (s : State) : State := countCond 17 p 13 1 0 (modPort p (fun x => { x with hiSer := false, anDone := false }) s)

theorem keep_leftUp (p : Nat) (s : State) : Same 553648128 s (leftUp p s) :=
  ((keep_modPort p _ s).mono rfl : Same 553648128 s _).trans ((keep_countCond 17 p 13 1 0 _).mono rfl)

theorem leaveUp_up {p c : Nat} {s : State} (up : (getPort s p).st = .up) :
    leaveUp p (some c) s = clnEvent 0x0A02 p (packData [(8, c)]) 1 (leftUp p s) := if_pos up

theorem leaveUp_down {p : Nat} {c : Option Nat} {s : State} (down : (getPort s p).st ≠ .up) : leaveUp p c s = s := if_neg down

/-- The end of UP touches the port alone. -/
theorem cln_leaveUp (p : Nat) (c : Option Nat) (s : State) (up : (getPort s p).st = .up) :
    (leaveUp p c s).cln = (modPort p (fun x => { x with hiSer := false, anDone := false }) s).cln := by
  unfold leaveUp
  rw [if_pos up]
  cases c with
  | none => exact keep_countCond _ _ _ _ _ _ .cln rfl
  | some c => exact (keep_clnEvent _ _ _ _ _ .cln rfl).trans (keep_countCond _ _ _ _ _ _ .cln rfl)

@[simp] theorem getLane_leaveUp (p : Nat) (c : Option Nat) (s : State) (k : Nat) : getLane (leaveUp p c s) k = getLane s k := by
  by_cases up : (getPort s p).st = .up
  · rw [getLane_congr (cln_leaveUp p c s up)]
    rfl
  · rw [leaveUp_down up]

theorem getPort_leaveUp_other {p q : Nat} (c : Option Nat) (s : State) (h : q ≠ p) : getPort (leaveUp p c s) q = getPort s q := by
  by_cases up : (getPort s p).st = .up
  · rw [getPort_congr (cln_leaveUp p c s up), getPort_modPort, if_neg h]
  · rw [leaveUp_down up]

theorem getPort_leaveUp_own {p : Nat} (c : Option Nat) {s : State} (up : (getPort s p).st = .up) :
    getPort (leaveUp p c s) p = { getPort s p with hiSer := false, anDone := false } := by
  rw [getPort_congr (cln_leaveUp p c s up), getPort_modPort, if_pos rfl]

@[simp] theorem getPort_toWaitRef (p q : Nat) (s : State) :
    getPort (toWaitRef p s) q = if q = p then { getPort s p with st := .waitRef } else getPort s q := by
  unfold toWaitRef
  dsimp only
  rw [getPort_forAll (fun _ _ => by rfl), getPort_modPort]

/-- The lane settings taken at WAIT_REF leave the checkers alone. -/
@[simp] theorem prbs_toWaitRef (p k : Nat) (s : State) : (getLane (toWaitRef p s) k).prbs = (getLane s k).prbs := by
  refine forAll_unchanged (fun t => (getLane t k).prbs) (fun j u => ?_) _ (modPort p _ s)
  rw [getLane_modLane]
  split
  · next same => rw [same]
  · rfl

/-- A port that goes down to training or alignment, and no other. -/
theorem getPort_retrain_other {p q : Nat} (s : State) (h : q ≠ p) : getPort (retrain p s) q = getPort s q := by
  unfold retrain
  split
  · rw [getPort_modPort, if_neg h]
  · refine (getPort_forAll (fun _ _ => by rfl) _ _ q).trans ?_
    rw [enterAlign, getPort_modPort, if_neg h]

theorem hiSer_received (x : PortSt) (pam : Bool) (n : Nat) : (x.received pam n).hiSer = x.hiSer := by
  unfold PortSt.received
  split <;> rfl

theorem hiSer_retrain (p : Nat) (s : State) : (getPort (retrain p s) p).hiSer = (getPort s p).hiSer := by
  unfold retrain
  split
  · rw [getPort_modPort, if_pos rfl]
  · refine (congrArg PortSt.hiSer (getPort_forAll (fun _ _ => by rfl) _ _ p)).trans ?_
    rw [enterAlign, getPort_modPort, if_pos rfl]
    exact hiSer_received _ _ _

/-- A lane of a port that goes down: without training its precoding begins anew (R395). -/
theorem getLane_retrain (p k : Nat) (s : State) : getLane (retrain p s) k =
    if trains s p = false ∧ p ≤ k ∧ k < p + portLanes (portReg s p) then { getLane s k with pTx := 0, pRx := 0 } else getLane s k := by
  unfold retrain
  cases train : trains s p with
  | true => rfl
  | false =>
    have lanes : portReg (enterAlign p s) p = portReg s p := rfl
    have touch (a : Nat) (u : State) (n : Nat) (h : n ≠ p + a) :
        getLane (modLane (p + a) (fun x => { x with pTx := 0, pRx := 0 }) u) n = getLane u n := by
      rw [getLane_modLane, if_neg h]
    simp only [Bool.false_eq_true, if_false, true_and, lanes]
    split
    · next inside =>
      obtain ⟨j, rfl⟩ := Nat.exists_eq_add_of_le inside.1
      obtain ⟨u, -, before, after⟩ := forAll_entry_own touch (fun a u => keep_modLane _ _ u) (fun _ _ => Nat.add_left_cancel)
        (List.range (portLanes (portReg s p))) (enterAlign p s) List.nodup_range (List.mem_range.mpr (by omega : j < _))
      rw [after, getLane_modLane, if_pos rfl, before]
      rfl
    · next outside => exact forAll_entry_other touch _ (enterAlign p s) fun a m e => outside (by have := List.mem_range.mp m; omega)

/-! ## The bits of an NRZ lane (R399) -/

section
variable (p : Nat) (bits : List Bool) (s : State)

theorem ports_takeNrz : (takeNrz p bits s).cln.ports = s.cln.ports := by
  unfold takeNrz
  split
  · rfl
  · dsimp only
    rw [keep_count _ _ _ _ _ .cln rfl]
    rfl

@[simp] theorem getPort_takeNrz (q : Nat) : getPort (takeNrz p bits s) q = getPort s q := by
  rw [getPort, ports_takeNrz, ← getPort]

end

/-! ## The loss of a link (R399, R400, R404, R406, R417) -/

/-- A loss of `f` on the lanes of a port: of several lanes it is open which it hits. -/
def hurtLanes (p : Nat) (f : LaneSt → LaneSt) (s : State) : State :=
  if portLanes (portReg s p) = 1 then modLane p f s
  else forAll (lanesOf p (portReg s p)) (fun k t =>
    let d := draw Config.freeBool t
    if d.1 then modLane k f d.2 else d.2) s

/-- What the cause of a loss leaves of the lanes. -/
def lanesLost (p : Nat) (cause : LinkLoss) (s : State) : State :=
  match cause with
  | .signal => hurtLanes p (fun x => { x with signal := false, cdr := false, nrz := {} }) s
  | .cdr => hurtLanes p (fun x => { x with cdr := false }) s
  | .align _ | .autoneg => s

/-- A link goes down, after its lane has taken the bits of the loss. -/
def linkLost (p : Nat) (cause : LinkLoss) (s : State) : State :=
  if lossCode cause = 2 && ! portPam4 s p && nrzSynced (getLane s p).nrz then s
  else retrain p (leaveUp p (some (lossCode cause)) (lanesLost p cause s))

theorem execClnLinkDown_eq (p : PortIx) (cause : LinkLoss) (s : State) : execClnLinkDown p cause s =
    act (rxRuns s && (getPort s p.val).st = .up && (cause ≠ .autoneg || runsAn s p.val))
      (fun s => linkLost p.val cause (takeNrz p.val (lossBits cause) s)) s := by
  cases cause <;> rfl

section
variable (p : Nat) (cause : LinkLoss) (s : State)

theorem keep_hurtLanes (f : LaneSt → LaneSt) : Same 16777218 s (hurtLanes p f s) := by
  unfold hurtLanes
  split
  · exact (keep_modLane p f s).mono rfl
  · refine same_forAll.go (fun k u => ?_) _ s
    have drawn : Same 16777218 u (draw Config.freeBool u).2 := (keep_draw _ u).mono rfl
    dsimp only
    split
    · exact drawn.trans ((keep_modLane k f _).mono rfl)
    · exact drawn

theorem ports_hurtLanes (f : LaneSt → LaneSt) : (hurtLanes p f s).cln.ports = s.cln.ports := by
  unfold hurtLanes
  split
  · rfl
  · refine ports_forAll (fun k u => ?_) _ s
    dsimp only
    split <;> rfl

theorem keep_lanesLost : Same 16777218 s (lanesLost p cause s) := by
  cases cause with
  | signal | cdr => exact keep_hurtLanes p s _
  | align _ | autoneg => exact (same_refl _ s).mpr trivial

@[simp] theorem getPort_lanesLost (q : Nat) : getPort (lanesLost p cause s) q = getPort s q := by
  have ports : (lanesLost p cause s).cln.ports = s.cln.ports := by
    cases cause with
    | signal | cdr => exact ports_hurtLanes p s _
    | align _ | autoneg => rfl
  rw [getPort, ports, ← getPort]

/-- Without a loss of signal or clock the lanes stay as they are. -/
theorem lanesLost_other (h : 2 ≤ lossCode cause) : lanesLost p cause s = s := by
  cases cause with
  | signal | cdr => exact absurd h (by decide)
  | align _ | autoneg => rfl

end

/-- The signal of the one lane of a port is lost. -/
theorem lanesLost_signal {p : Nat} {s : State} (one : portLanes (portReg s p) = 1) :
    lanesLost p .signal s = modLane p (fun x => { x with signal := false, cdr := false, nrz := {} }) s := if_pos one

section
variable {p : Nat} {cause : LinkLoss} {s : State}
  (keeps : (lossCode cause = 2 && ! portPam4 s p && nrzSynced (getLane s p).nrz) = false)
include keeps

theorem linkLost_down : linkLost p cause s = retrain p (leaveUp p (some (lossCode cause)) (lanesLost p cause s)) :=
  if_neg (by rw [keeps]; exact Bool.false_ne_true)

theorem getPort_linkLost_other {q : Nat} (h : q ≠ p) : getPort (linkLost p cause s) q = getPort s q := by
  rw [linkLost_down keeps, getPort_retrain_other _ h, getPort_leaveUp_other _ _ h, getPort_lanesLost]

theorem st_linkLost : (getPort (linkLost p cause s) p).st = if trains s p then .training else .align := by
  rw [linkLost_down keeps, st_retrain,
    trains_congr p (lanesLost p cause s) (keep_leaveUp _ _ _ .regs rfl), trains_congr p s (keep_lanesLost p cause s .regs rfl)]

theorem getLane_linkLost (k : Nat) : getLane (linkLost p cause s) k =
    if trains s p = false ∧ p ≤ k ∧ k < p + portLanes (portReg s p) then { getLane (lanesLost p cause s) k with pTx := 0, pRx := 0 }
    else getLane (lanesLost p cause s) k := by
  have regs : (leaveUp p (some (lossCode cause)) (lanesLost p cause s)).regs = s.regs :=
    (keep_leaveUp _ _ _ .regs rfl).trans (keep_lanesLost p cause s .regs rfl)
  rw [linkLost_down keeps, getLane_retrain, trains_congr p s regs, portReg_congr regs, getLane_leaveUp]

variable (up : (getPort s p).st = .up)
include up

/-- The departure, its event and the port's way down, one after another. -/
theorem linkLost_up : linkLost p cause s =
    retrain p (clnEvent 0x0A02 p (packData [(8, lossCode cause)]) 1 (leftUp p (lanesLost p cause s))) := by
  rw [linkLost_down keeps, leaveUp_up (by rw [getPort_lanesLost]; exact up)]

theorem hiSer_linkLost : (getPort (linkLost p cause s) p).hiSer = false := by
  rw [linkLost_down keeps, hiSer_retrain, getPort_leaveUp_own _ (by rw [getPort_lanesLost]; exact up)]

/-- The flag and the record of the loss, seen from a state with the same flags and records. -/
theorem linkLost_reports {r : State} (k : Same 553648128 r s) : flagged .clnFlags .A 1 r (linkLost p cause s) ∧
    ((0x0A02, p) ∉ r.seenSec → recorded .clrx 0x0A02 p (packData [(8, lossCode cause)]) r (linkLost p cause s)) := by
  have lost : Same 553648130 r (leftUp p (lanesLost p cause s)) :=
    ((k.mono rfl).trans ((keep_lanesLost p cause s).mono rfl)).trans ((keep_leftUp p _).mono rfl)
  rw [linkLost_up keeps up]
  exact ⟨flagged_clnEvent lost (by decide) (keep_retrain _ _ .flags rfl) (keep_retrain _ _ .rsc rfl),
    fun new => recorded_clnEvent lost new (keep_retrain _ _ .isls rfl)⟩

end

/-! ## The reference (R392) -/

/-- A reference event, once a second. -/
theorem recorded_refEvent {code : Nat} {ppm : Int} {s u : State} (isls : u.isls = s.isls) (clk : u.clk = s.clk) (new : (code, 0) ∉ u.seenSec) :
    recorded .cltx code 0 (packData [(16, ppm)]) s (refEvent code ppm u) := recorded_oncePerSec isls clk new

/-- Without the reference an enabled port waits for it. -/
def portLosesRef (p : Nat) (s : State) : State :=
  if (getPort s p).st = .disabled then s else toWaitRef p (leaveUp p (some 4) s)

/-- The reference is gone, with its event and flag. -/
def refGone (ppm : Int) (s : State) : State :=
  setFlag .clnFlags .A 2 (refEvent 0x0A06 ppm { s with cln := { s.cln with refOk := false, ppm := ppm } })

/-- No checker keeps its lock. -/
def checkersStopped (s : State) : State := forAll (List.range 32) (fun k => modLane k (fun x => { x with prbs := false })) s

theorem execClnRefclkLost_eq (ppm : Int) (s : State) : execClnRefclkLost ppm s =
    act (alive s && s.cln.refOk) (fun s => forAll (List.range 32) portLosesRef (checkersStopped (refGone ppm s))) s := rfl

section
variable (p : Nat) (s : State)

theorem keep_portLosesRef : Same 553703424 s (portLosesRef p s) := by
  unfold portLosesRef
  split
  · exact (same_refl _ s).mpr trivial
  · exact (keep_leaveUp p (some 4) s).trans ((keep_toWaitRef p _).mono rfl)

theorem flagsRise_portLosesRef : FlagsRise s (portLosesRef p s) :=
  FlagsRise.ite (.refl s) ((flagsRise_leaveUp p (some 4) s).keep (keep_toWaitRef p _))

theorem getPort_portLosesRef_other {q : Nat} (h : q ≠ p) : getPort (portLosesRef p s) q = getPort s q := by
  unfold portLosesRef
  split
  · rfl
  · rw [getPort_toWaitRef, if_neg h, getPort_leaveUp_other _ _ h]

theorem st_portLosesRef : (getPort (portLosesRef p s) p).st = if (getPort s p).st = .disabled then .disabled else .waitRef := by
  unfold portLosesRef
  split
  · assumption
  · rw [getPort_toWaitRef, if_pos rfl]

theorem prbs_portLosesRef (k : Nat) : (getLane (portLosesRef p s) k).prbs = (getLane s k).prbs := by
  unfold portLosesRef
  split
  · rfl
  · rw [prbs_toWaitRef, getLane_leaveUp]

end

/-- What the ports' way to WAIT_REF leaves alone: the offset of the reference, and that it is gone. -/
theorem ref_leaveUp (p : Nat) (c : Option Nat) (s : State) :
    (leaveUp p c s).cln.refOk = s.cln.refOk ∧ (leaveUp p c s).cln.ppm = s.cln.ppm := by
  by_cases up : (getPort s p).st = .up
  · rw [cln_leaveUp p c s up]
    exact ⟨rfl, rfl⟩
  · rw [leaveUp_down up]
    exact ⟨rfl, rfl⟩

theorem ref_toWaitRef (p : Nat) (s : State) : (toWaitRef p s).cln.refOk = s.cln.refOk ∧ (toWaitRef p s).cln.ppm = s.cln.ppm :=
  ⟨forAll_unchanged (fun t => t.cln.refOk) (fun _ _ => by rfl) _ (modPort p _ s),
    forAll_unchanged (fun t => t.cln.ppm) (fun _ _ => by rfl) _ (modPort p _ s)⟩

theorem ref_portLosesRef (p : Nat) (s : State) :
    (portLosesRef p s).cln.refOk = s.cln.refOk ∧ (portLosesRef p s).cln.ppm = s.cln.ppm := by
  unfold portLosesRef
  split
  · exact ⟨rfl, rfl⟩
  · obtain ⟨ok, ppm⟩ := ref_leaveUp p (some 4) s
    obtain ⟨ok', ppm'⟩ := ref_toWaitRef p (leaveUp p (some 4) s)
    exact ⟨ok'.trans ok, ppm'.trans ppm⟩

section
variable (ppm : Int) (s : State)

theorem cln_refGone : (refGone ppm s).cln = { s.cln with refOk := false, ppm := ppm } :=
  (keep_setFlag _ _ _ _ .cln rfl).trans (keep_refEvent _ _ _ .cln rfl)

theorem flag_refGone : (getFlags (refGone ppm s) (Reg.addr .clnFlags .A 0 0)).getLsbD 2 = true :=
  (flagged_setFlag' (u := refEvent 0x0A06 ppm { s with cln := { s.cln with refOk := false, ppm := ppm } }) rfl rfl rfl (by decide)).1

theorem ref_checkersStopped : (checkersStopped s).cln.refOk = s.cln.refOk ∧ (checkersStopped s).cln.ppm = s.cln.ppm :=
  ⟨forAll_unchanged (fun t => t.cln.refOk) (fun _ _ => by rfl) _ s, forAll_unchanged (fun t => t.cln.ppm) (fun _ _ => by rfl) _ s⟩

theorem keep_checkersStopped : Same 16777216 s (checkersStopped s) := same_forAll.go (fun k u => keep_modLane k _ u) _ s

theorem getPort_checkersStopped (p : Nat) : getPort (checkersStopped s) p = getPort s p := by
  unfold checkersStopped
  exact getPort_forAll (fun _ _ => by rfl) _ s p

theorem prbs_checkersStopped {k : Nat} (h : k < 32) : (getLane (checkersStopped s) k).prbs = false := by
  obtain ⟨u, -, -, after⟩ := forAll_entry_own (read := getLane) (g := id) (f := fun k => modLane k (fun x => { x with prbs := false }))
    (fun a u n (other : n ≠ a) => by rw [getLane_modLane, if_neg other]) (fun a u => keep_modLane a _ u) Function.injective_id
    (List.range 32) s List.nodup_range (List.mem_range.mpr h)
  refine (congrArg LaneSt.prbs after).trans ?_
  rw [id, getLane_modLane, if_pos rfl]

end

/-! ## The statement -/

/-- Settles O45: each event is followed through the operations it is made of. -/
theorem clientLinkLoss : Obligations.ClientLinkLoss := by
  unfold Obligations.ClientLinkLoss
  refine ⟨fun p cause s => ?_, fun ppm s => ?_, fun ppm s => ?_, fun p symCorr s => ?_, fun p s => ?_⟩
  · refine actsIf_act (execClnLinkDown_eq p cause s) (fun t h => keep_execClnLinkDown p cause s (execClnLinkDown_eq p cause s ▸ h)) (mask_sub rfl)
      fun on => ?_
    simp only [Bool.and_eq_true, decide_eq_true_eq] at on
    obtain ⟨⟨-, up⟩, -⟩ := on
    have taken := keep_takeNrz p.val (lossBits cause) s
    have pam := portPam4_congr (taken .regs rfl) p.val
    have port (q : Nat) := getPort_takeNrz p.val (lossBits cause) s q
    intro u keeps
    refine ⟨fun stays => if_pos (by rw [pam]; exact stays), fun down => ?_⟩
    have down' : (lossCode cause = 2 && ! portPam4 u p.val && nrzSynced (getLane u p.val).nrz) = false := by rw [pam]; exact down
    have up' : (getPort u p.val).st = .up := by rw [port]; exact up
    obtain ⟨flag, record⟩ := linkLost_reports down' up' taken
    refine ⟨?_, hiSer_linkLost down' up', fun q other => (getPort_linkLost_other down' other).trans (port q), flag, record, fun late k => ?_,
      fun signal one => ?_⟩
    · rw [st_linkLost down', trains_congr p.val s (taken .regs rfl)]
    · rw [getLane_linkLost down', lanesLost_other p.val cause u late, trains_congr p.val s (taken .regs rfl), portReg_congr (taken .regs rfl)]
    · subst signal
      rw [getLane_linkLost down', lanesLost_signal (by rw [portReg_congr (taken .regs rfl)]; exact one)]
      split <;> simp
  · refine actsIf_act (execClnRefclkLost_eq ppm s) (fun t => keep_execClnRefclkLost ppm s) (mask_sub rfl) fun _ => ?_
    have rises := FlagsRise.forAll flagsRise_portLosesRef (List.range 32)
      ((FlagsRise.refl (refGone ppm s)).keep (keep_checkersStopped (refGone ppm s)))
    refine ⟨?_, ?_, rises _ _ (flag_refGone ppm s), fun k small => ?_, fun p small => ?_⟩
    · rw [forAll_unchanged (fun t => t.cln.refOk) (fun p u => (ref_portLosesRef p u).1), (ref_checkersStopped _).1, cln_refGone]
    · rw [forAll_unchanged (fun t => t.cln.ppm) (fun p u => (ref_portLosesRef p u).2), (ref_checkersStopped _).2, cln_refGone]
    · rw [forAll_unchanged (fun t => (getLane t k).prbs) (fun p u => prbs_portLosesRef p u k)]
      exact prbs_checkersStopped _ small
    · obtain ⟨u, -, before, after⟩ := forAll_entry_own (read := getPort) (g := id) (fun a u n other => getPort_portLosesRef_other a u other)
        keep_portLosesRef Function.injective_id (List.range 32) (checkersStopped (refGone ppm s)) List.nodup_range (List.mem_range.mpr small)
      have start : getPort (checkersStopped (refGone ppm s)) p = getPort s p := by
        rw [getPort_checkersStopped, getPort, cln_refGone]
        rfl
      refine (congrArg PortSt.st after).trans ?_
      rw [id, st_portLosesRef, show getPort u p = getPort s p from before.trans start]
  · refine actsIf_act rfl (fun t => keep_execClnRefclkOk ppm s) (mask_sub rfl) fun _ => ?_
    exact ⟨keep_refEvent _ _ _ .cln rfl, fun new => recorded_refEvent rfl rfl new⟩
  · refine actsIf_act rfl (fun t => keep_execClnHiSer p symCorr s) (mask_sub rfl) fun _ => ?_
    have marked := keep_modPort p.val (fun x => { x with hiSer := true }) s
    have port (q : Nat) := (getPort_congr (keep_clnEvent 0x0A05 p.val (packData [(32, symCorr)]) 4 _ .cln rfl) q).trans
      (getPort_modPort p.val q (fun x => { x with hiSer := true }) s)
    exact ⟨(port _).trans (if_pos rfl), fun q other => (port q).trans (if_neg other), flagged_clnEvent marked (by decide),
      fun new => recorded_clnEvent marked new⟩
  · refine actsIf_act rfl (fun t => keep_execHiSerClear p s) (mask_sub rfl) fun _ => ?_
    exact ⟨(getPort_modPort ..).trans (if_pos rfl), fun q other => (getPort_modPort ..).trans (if_neg other)⟩

end Sys2Proof.Machine
end

section
/-! The bring-up of a client port and the host's writes to it (R392, R396, R397, R399, R400, R405, R406, R408, R409, R412, R413). -/

namespace Sys2Proof.Machine

-- One theorem after another: each theorem that waits for another holds a thread with its stack, and many do not fit a check.
set_option Elab.async false

/-! ## A host write of a port (R406, R413) -/

theorem st_disablePort (p : Nat) (s : State) : (getPort (disablePort p s) p).st = .disabled := by
  have off (u : State) (l : List Nat) : getPort (forAll l (fun k => modLane k (fun x =>
      { x with signal := false, cdr := false, preTx := false, preRx := false, snr := 0 }))
      (modPort p (fun x => { rxPam := x.rxPam, rxNrz := x.rxNrz }) u)) p = { rxPam := (getPort u p).rxPam, rxNrz := (getPort u p).rxNrz } := by
    rw [getPort_forAll (fun _ _ => by rfl), getPort_modPort, if_pos rfl]
  unfold disablePort
  dsimp only
  split
  · split
    · rw [getPort_congr (keep_loseSource _ .cln rfl), off]
    · rw [getPort_congr (keep_dropMaster _ .cln rfl), off]
  · rw [off]

/-- A host write of a port that is accepted. -/
def portWritten (p : Nat) (v : W32) (s : State) : State :=
  let u := setReg .clnPort .A p v (if portEn (portReg s p) && ! portEn v then disablePort p s else s)
  if ! portEn (portReg s p) && portEn v then toWaitRef p u else u

section
variable (p : Nat) (v : W32) (s : State)

theorem getReg_portWritten : getReg (portWritten p v s) .clnPort .A p = v := by
  unfold portWritten
  dsimp only
  split
  · rw [getReg_congr (keep_toWaitRef p _ .regs rfl), getReg_setReg_same]
  · rw [getReg_setReg_same]

/-- EN moves the port, and nothing else of its word does. -/
theorem st_portWritten : (getPort (portWritten p v s) p).st =
    if portEn (portReg s p) = portEn v then (getPort s p).st else if portEn v then .waitRef else .disabled := by
  have stored (u : State) : getPort (setReg .clnPort .A p v u) p = getPort u p := rfl
  unfold portWritten
  dsimp only
  cases was : portEn (portReg s p) <;> cases now : portEn v
  · rfl
  · exact congrArg PortSt.st ((getPort_toWaitRef p p _).trans (if_pos rfl))
  · exact (congrArg PortSt.st (stored _)).trans (st_disablePort p s)
  · rfl

end

theorem portEn_masked (v : W32) : portEn (v &&& Reg.clnPort.row.wmask) = v.getLsbD 0 := by
  rw [portEn, BitVec.getLsbD_and]
  exact Bool.and_true _

/-! ## A host write of a lane (R408, R409, R413) -/

/-! The words of lanes and ports. -/

theorem addr_clnLane (k : Nat) : Reg.addr .clnLane .A k 0 = 0x50000300 + 4 * k := by
  simp only [Reg.addr, Reg.row]
  omega

theorem addr_clnPort (p : Nat) : Reg.addr .clnPort .A p 0 = 0x50000100 + 4 * p := by
  simp only [Reg.addr, Reg.row]
  omega

section
variable (k : Nat) (v : W32) (s : State)

theorem laneLoop_setLane : laneLoop (setReg .clnLane .A k v s) k = fld v 9 8 := by
  rw [laneLoop, regF, getReg_setReg_same]

theorem lanePat_setLane : lanePat (setReg .clnLane .A k v s) k = fld v 12 12 := by
  rw [lanePat, regF, getReg_setReg_same]

theorem laneLoop_setLane_other {j : Nat} (h : j ≠ k) : laneLoop (setReg .clnLane .A k v s) j = laneLoop s j := by
  rw [laneLoop, regF, getReg_setReg_ne v s (by rw [addr_clnLane, addr_clnLane]; omega), ← regF, ← laneLoop]

theorem portReg_setLane {p : Nat} (h : p < 32) : portReg (setReg .clnLane .A k v s) p = portReg s p :=
  getReg_setReg_ne v s (by rw [addr_clnLane, addr_clnPort]; omega)

theorem portOfLane_setLane (j : Nat) : portOfLane (setReg .clnLane .A k v s) j = portOfLane s j := by
  unfold portOfLane lowest
  exact List.find?_congr fun p mem => by rw [portReg_setLane k v s (List.mem_range.mp mem)]

end

theorem portOfLane_congr {s t : State} (regs : t.regs = s.regs) (k : Nat) : portOfLane t k = portOfLane s k := by
  unfold portOfLane
  simp only [portReg_congr regs]

theorem laneLoop_congr {s t : State} (regs : t.regs = s.regs) (k : Nat) : laneLoop t k = laneLoop s k := regF_congr regs _ _ _ _ _

/-- The port of a lane is one of 32, and the lane is one of its own. -/
theorem portOfLane_some {s : State} {k p : Nat} (h : portOfLane s k = some p) : p < 32 ∧ k ∈ lanesOf p (portReg s p) := by
  unfold portOfLane lowest at h
  have holds := List.find?_some h
  simp only [Bool.and_eq_true, decide_eq_true_eq] at holds
  exact ⟨List.mem_range.mp (List.mem_of_find?_eq_some h), holds.2⟩

/-! The start of the patterns. -/

theorem ports_startPattern (k : Nat) (s : State) : (startPattern k s).cln.ports = s.cln.ports := by
  unfold startPattern
  split <;> rfl

theorem prbs_startPattern_own (k : Nat) (s : State) : (getLane (startPattern k s) k).prbs = false := by
  unfold startPattern
  split
  · dsimp only
    rw [getLane_modLane, if_pos rfl]
  · rw [getLane_modLane, if_pos rfl]

theorem getLane_startPattern_other {k j : Nat} (s : State) (h : j ≠ k) : getLane (startPattern k s) j = getLane s j := by
  unfold startPattern
  split
  · dsimp only
    rw [getLane_modLane, if_neg h]
    rfl
  · rw [getLane_modLane, if_neg h]

/-- A checker without lock has none after the patterns start. -/
theorem prbs_startPattern {j : Nat} (k : Nat) (s : State) (h : (getLane s j).prbs = false) : (getLane (startPattern k s) j).prbs = false := by
  by_cases same : j = k
  · rw [same, prbs_startPattern_own]
  · rw [getLane_startPattern_other s same, h]

@[simp] theorem getPort_enterTest (p q : Nat) (s : State) :
    getPort (enterTest p s) q = if q = p then { getPort s p with st := .test } else getPort s q := by
  unfold enterTest
  rw [getPort_forAll ports_startPattern, getPort_modPort]

theorem prbs_enterTest {j : Nat} (p : Nat) (s : State) (h : (getLane s j).prbs = false) : (getLane (enterTest p s) j).prbs = false :=
  forAll_keeps (P := fun t => (getLane t j).prbs = false) prbs_startPattern _ (modPort p _ s) h

/-! The port of a lane. -/

section
variable {k p : Nat} {v : W32} {s : State} (here : portOfLane s k = some p)
include here

theorem portFollowsLoop_eq : portFollowsLoop k v s =
    if fld v 9 8 ≠ 0 && (getPort s p).st ≠ .disabled && (getPort s p).st ≠ .test then enterTest p (leaveUp p (some 5) s)
    else if (getPort s p).st = .test && (lanesOf p (portReg s p)).all (fun j => laneLoop s j = 0) then toWaitRef p s
    else s := by
  unfold portFollowsLoop
  rw [here]

/-- A loop of a lane has its port in TEST. -/
theorem st_portFollowsLoop_looped (looped : fld v 9 8 ≠ 0) (written : laneLoop s k = fld v 9 8) (enabled : (getPort s p).st ≠ .disabled) :
    (getPort (portFollowsLoop k v s) p).st = .test := by
  rw [portFollowsLoop_eq here]
  by_cases test : (getPort s p).st = .test
  · have still : (lanesOf p (portReg s p)).all (fun j => laneLoop s j = 0) = false := by
      rw [List.all_eq_false]
      exact ⟨k, (portOfLane_some here).2, by rw [written]; simpa using looped⟩
    simp [test, still]
  · simp [looped, enabled, test]

/-- The end of the last loop sends its port to WAIT_REF. -/
theorem st_portFollowsLoop_ended (ended : fld v 9 8 = 0) (test : (getPort s p).st = .test)
    (last : ∀ j, j ∈ lanesOf p (portReg s p) → laneLoop s j = 0) : (getPort (portFollowsLoop k v s) p).st = .waitRef := by
  have none : (lanesOf p (portReg s p)).all (fun j => laneLoop s j = 0) = true :=
    List.all_eq_true.mpr fun j mem => decide_eq_true (last j mem)
  rw [portFollowsLoop_eq here]
  simp [ended, test, none]

end

theorem prbs_portFollowsLoop {k : Nat} (v : W32) {s : State} (h : (getLane s k).prbs = false) :
    (getLane (portFollowsLoop k v s) k).prbs = false := by
  cases here : portOfLane s k with
  | none =>
    unfold portFollowsLoop
    rw [here]
    exact h
  | some p =>
    rw [portFollowsLoop_eq here]
    split
    · exact prbs_enterTest p _ (by rw [getLane_leaveUp]; exact h)
    · split
      · rw [prbs_toWaitRef, h]
      · exact h

/-- A lane's word is stored; where LOOP or PATTERN changed its pattern starts. -/
def laneStored (k : Nat) (v : W32) (s : State) : State :=
  let u := setReg .clnLane .A k v s
  if fld v 9 8 = laneLoop s k && lanePat u k = lanePat s k then u else startPattern k u

/-- A host write of a lane that is accepted. -/
def laneWritten (k : Nat) (v : W32) (s : State) : State := portFollowsLoop k v (laneStored k v s)

section
variable (k : Nat) (v : W32) (s : State)

theorem regs_laneStored : (laneStored k v s).regs = (setReg .clnLane .A k v s).regs := by
  unfold laneStored
  dsimp only
  split
  · rfl
  · exact keep_startPattern k _ .regs rfl

theorem getPort_laneStored (p : Nat) : getPort (laneStored k v s) p = getPort s p := by
  unfold laneStored
  dsimp only
  split
  · rfl
  · rw [getPort, ports_startPattern]
    rfl

theorem portOfLane_laneStored (j : Nat) : portOfLane (laneStored k v s) j = portOfLane s j :=
  (portOfLane_congr (regs_laneStored k v s) j).trans (portOfLane_setLane k v s j)

theorem getReg_laneWritten : getReg (laneWritten k v s) .clnLane .A k = v := by
  rw [laneWritten, getReg_congr (keep_portFollowsLoop k v _ .regs rfl), getReg_congr (regs_laneStored k v s), getReg_setReg_same]

end

/-- A change of LOOP or PATTERN ends the lock of the lane's checker. -/
theorem prbs_laneWritten {k : Nat} {v : W32} {s : State} (changed : fld v 9 8 ≠ laneLoop s k ∨ fld v 12 12 ≠ lanePat s k) :
    (getLane (laneWritten k v s) k).prbs = false := by
  refine prbs_portFollowsLoop v ?_
  unfold laneStored
  dsimp only
  have starts : ¬ (fld v 9 8 = laneLoop s k && lanePat (setReg .clnLane .A k v s) k = lanePat s k) = true := by
    simp only [lanePat_setLane, Bool.and_eq_true, decide_eq_true_eq, not_and_or]
    exact changed
  rw [if_neg starts]
  exact prbs_startPattern_own k _

/-! ## A port begins to signal (R399, R400, R406) -/

theorem runsAn_congr {s t : State} (regs : t.regs = s.regs) (p : Nat) : runsAn t p = runsAn s p := by
  have type : portType t p = portType s p := by
    unfold portType
    rw [portReg_congr regs, grpMode, regF_congr regs, ← grpMode]
  rw [runsAn, portReg_congr regs, type, ← runsAn]

/-- A port in ALIGN, as it was before it entered. -/
def alignedPort (s : State) (p : Nat) (x : PortSt) : PortSt :=
  { x.received (portPam4 s p) (portLanes (portReg s p)) with st := .align, page := if runsAn s p then anAbility else 0 }

theorem alignedPort_congr {s t : State} (regs : t.regs = s.regs) (p : Nat) (x : PortSt) : alignedPort t p x = alignedPort s p x := by
  rw [alignedPort, portPam4_congr regs, portReg_congr regs, runsAn_congr regs, ← alignedPort]

theorem getPort_enterAlign (p q : Nat) (s : State) :
    getPort (enterAlign p s) q = if q = p then alignedPort s p (getPort s p) else getPort s q := getPort_modPort ..

theorem getPort_setPrecoding (p tx rx : Nat) (s : State) (q : Nat) : getPort (setPrecoding p tx rx s) q = getPort s q :=
  getPort_forAll (fun _ _ => by rfl) _ s q

/-- A port that begins to signal, and no other. -/
theorem getPort_toSignal (p q : Nat) (s : State) : getPort (toSignal p s) q =
    if q = p then if trains s p then { getPort s p with st := .training } else alignedPort s p (getPort s p) else getPort s q := by
  have first := getPort_forAll (f := fun k => modLane k (fun x => { x with txPos := false, nrz := {} })) (fun _ _ => by rfl)
    (lanesOf p (portReg s p)) s
  have same : (forAll (lanesOf p (portReg s p)) (fun k => modLane k (fun x => { x with txPos := false, nrz := {} })) s).regs = s.regs :=
    same_forAll.go (fun k u => keep_modLane k _ u) _ s .regs rfl
  unfold toSignal
  dsimp only
  rw [trains_congr p s same]
  by_cases train : trains s p = true
  · rw [if_pos train, if_pos train, getPort_modPort, first, first]
  · rw [if_neg train, if_neg train, getPort_setPrecoding, getPort_enterAlign, getPort_forAll (fun _ _ => by rfl), first,
      getPort_forAll (fun _ _ => by rfl), first,
      alignedPort_congr ((same_forAll.go (fun k u => keep_modLane k _ u) _ _ .regs rfl).trans same)]

/-! ## Training (R396, R397) -/

/-- The bits of a number folded from a list. -/
theorem testBit_foldr_bits {α : Type} (f : α → Bool) (l : List α) (j : Nat) :
    (l.foldr (fun x a => 2 * a + b01 (f x)) 0).testBit j = (l.map f).getD j false := by
  induction l generalizing j with
  | nil => simp
  | cons x l ih =>
    have low : b01 (f x) < 2 := by unfold b01; split <;> decide
    rw [List.foldr_cons, List.map_cons]
    cases j with
    | zero =>
      rw [Nat.testBit_zero, List.getD_cons_zero]
      cases f x <;> simp [b01]
    | succ j =>
      rw [Nat.testBit_succ, List.getD_cons_succ, ← ih]
      congr 1
      omega

theorem testBit_lowSnr {snr : List Nat} {n j : Nat} (h : j < n) : (lowSnr snr n).testBit j = decide (snr.getD j 0 % 65536 < 1700) := by
  unfold lowSnr
  rw [testBit_foldr_bits (fun j => decide (snr.getD j 0 % 65536 < 1700)), List.getD_eq_getElem?_getD, List.getElem?_map, List.getElem?_range h]
  rfl

/-- The precoding of lane `j` of a port. -/
def precoded (pam : Bool) (tx rx j : Nat) (x : LaneSt) : LaneSt :=
  { x with
    preTx := pam && (fld x.cfg 1 0 = 2 || (fld x.cfg 1 0 = 0 && tx.testBit j))
    preRx := pam && (fld x.cfg 3 2 = 2 || (fld x.cfg 3 2 = 0 && rx.testBit j))
    pTx := 0, pRx := 0 }

theorem getLane_setPrecoding {p tx rx j : Nat} {s : State} (h : j < portLanes (portReg s p)) :
    getLane (setPrecoding p tx rx s) (p + j) = precoded (portPam4 s p) tx rx j (getLane s (p + j)) := by
  unfold setPrecoding
  obtain ⟨u, same, before, after⟩ := forAll_entry_own (read := getLane) (g := fun j => p + j)
    (f := fun j t => modLane (p + j) (precoded (portPam4 t p) tx rx j) t) (fun a u n other => by rw [getLane_modLane, if_neg other])
    (fun a u => keep_modLane _ _ u) (fun _ _ => Nat.add_left_cancel) (List.range (portLanes (portReg s p))) s List.nodup_range
    (List.mem_range.mpr h)
  refine after.trans ?_
  rw [getLane_modLane, if_pos rfl, before, portPam4_congr (same .regs rfl)]

/-- A lane of the port whose training is done, before its precoding. -/
def laneTrained (p : Nat) (snr : List Nat) (eq : List (List Int)) (j : Nat) (t : State) : State :=
  let d := draw Config.freeNat t
  modLane (p + j) (fun x => { x with signal := true, cdr := true, snr := snr.getD j 0 % 65536, eq := eq.getD j [], hostReq := d.1 }) d.2

def lanesTrained (p : Nat) (snr : List Nat) (eq : List (List Int)) (s : State) : State :=
  forAll (List.range (portLanes (portReg s p))) (laneTrained p snr eq) s

/-- Training of a port is done. -/
def portTrained (p reqTx : Nat) (snr : List Nat) (eq : List (List Int)) (s : State) : State :=
  setPrecoding p reqTx (lowSnr snr (portLanes (portReg s p))) (enterAlign p (lanesTrained p snr eq s))

theorem execClnTrainingDone_eq (p : PortIx) (reqTx : Nat) (snr : List Nat) (eq : List (List Int)) (s : State) :
    execClnTrainingDone p reqTx snr eq s =
      act (clnTrains s && (getPort s p.val).st = .training) (portTrained p.val reqTx snr eq) s := rfl

section
variable (p : Nat) (snr : List Nat) (eq : List (List Int)) (s : State)

theorem keep_laneTrained (j : Nat) : Same 16777218 s (laneTrained p snr eq j s) :=
  ((keep_draw Config.freeNat s).mono rfl).trans ((keep_modLane _ _ _).mono rfl)

theorem regs_lanesTrained : (lanesTrained p snr eq s).regs = s.regs :=
  same_forAll.go (fun j u => keep_laneTrained p snr eq u j) _ s .regs rfl

theorem getPort_lanesTrained (q : Nat) : getPort (lanesTrained p snr eq s) q = getPort s q :=
  getPort_forAll (f := laneTrained p snr eq) (fun _ _ => rfl) _ s q

theorem getPort_portTrained (reqTx q : Nat) :
    getPort (portTrained p reqTx snr eq s) q = if q = p then alignedPort s p (getPort s p) else getPort s q := by
  rw [portTrained, getPort_setPrecoding, getPort_enterAlign, getPort_lanesTrained, getPort_lanesTrained,
    alignedPort_congr (regs_lanesTrained p snr eq s)]

/-- A lane whose training is done: what the training found of it, on the lane as it was. -/
theorem getLane_lanesTrained {j : Nat} (h : j < portLanes (portReg s p)) : ∃ n, getLane (lanesTrained p snr eq s) (p + j) =
    { getLane s (p + j) with signal := true, cdr := true, snr := snr.getD j 0 % 65536, eq := eq.getD j [], hostReq := n } := by
  obtain ⟨u, -, before, after⟩ := forAll_entry_own (read := getLane) (g := fun j => p + j) (f := laneTrained p snr eq)
    (fun a u n other => (getLane_modLane ..).trans (if_neg other)) (fun a u => keep_laneTrained p snr eq u a)
    (fun _ _ => Nat.add_left_cancel) (List.range (portLanes (portReg s p))) s List.nodup_range (List.mem_range.mpr h)
  refine ⟨Config.freeNat u.free, after.trans ?_⟩
  rw [← before, laneTrained, getLane_modLane, if_pos rfl]
  rfl

theorem getLane_portTrained (reqTx : Nat) {j : Nat} (h : j < portLanes (portReg s p)) : getLane (portTrained p reqTx snr eq s) (p + j) =
    precoded (portPam4 s p) reqTx (lowSnr snr (portLanes (portReg s p))) j (getLane (lanesTrained p snr eq s) (p + j)) := by
  have regs : (enterAlign p (lanesTrained p snr eq s)).regs = s.regs := regs_lanesTrained p snr eq s
  rw [portTrained, getLane_setPrecoding (by rw [portReg_congr regs]; exact h), portPam4_congr regs]
  rfl

end

/-! ## Alignment (R399, R400) -/

/-- What an NRZ lane makes of bits: its receiver, and the code violations among them. -/
def laneReceives (x : LaneSt) (bits : List Bool) : NrzRx × Nat := nrzReceive x.nrz (if polRx x then bits.map (fun b => ! b) else bits)

section
variable {p : Nat} (bits : List Bool) {s : State}

theorem takeNrz_pam4 (h : portPam4 s p = true) : takeNrz p bits s = s := if_pos h

theorem takeNrz_nrz (h : portPam4 s p = false) : takeNrz p bits s =
    count 18 p 1 (laneReceives (getLane s p) bits).2 (modLane p (fun x => { x with nrz := (laneReceives (getLane s p) bits).1 }) s) :=
  if_neg (by rw [h]; exact Bool.false_ne_true)

theorem nrz_takeNrz (h : portPam4 s p = false) : (getLane (takeNrz p bits s) p).nrz = (laneReceives (getLane s p) bits).1 := by
  rw [takeNrz_nrz bits h, getLane_congr (keep_count _ _ _ _ _ .cln rfl), getLane_modLane, if_pos rfl]

theorem counted_takeNrz (h : portPam4 s p = false) : counted 18 p 1 (laneReceives (getLane s p) bits).2 s (takeNrz p bits s) := by
  rw [takeNrz_nrz bits h]
  exact count_tally (by rfl) _ _ _ _

end

/-- A lane of a port that comes up. -/
def laneUp (p k : Nat) (t : State) : State :=
  let d := draw Config.freeNat t
  modLane k (fun x => { x with
    signal := true, cdr := true
    snr := if trains t p then x.snr else if portPam4 t p then d.1 % 65536 else 0 }) d.2

/-- An aligned port comes up, before the event. -/
def portComesUp (p : Nat) (s : State) : State :=
  let t := forAll (lanesOf p (portReg s p)) (laneUp p) s
  modPort p (fun x => { x with st := .up, anDone := runsAn t p }) t

/-- The event of a port that has come up. -/
def upData (p : Nat) (s : State) : BitVec 80 :=
  packData [(8, portType s p), (8, laneMask s p (fun x => x.preTx)), (8, laneMask s p (fun x => x.preRx))]

/-- The port comes up where its receive side is aligned. -/
def upIfAligned (p : Nat) (partner : BitVec 16) (s : State) : State :=
  if ! rxAligned s p partner then s else clnEvent 0x0A01 p (upData p (portComesUp p s)) 0 (portComesUp p s)

theorem execClnLinkUp_eq (p : PortIx) (bits : List Bool) (partner : BitVec 16) (s : State) : execClnLinkUp p bits partner s =
    act (clnRuns s && (getPort s p.val).st = .align && (! runsAn s p.val || clnTrains s))
      (fun s => upIfAligned p.val partner (takeNrz p.val bits s)) s := rfl

section
variable (p : Nat) (s : State)

theorem keep_laneUp (k : Nat) : Same 16777218 s (laneUp p k s) :=
  ((keep_draw Config.freeNat s).mono rfl).trans ((keep_modLane _ _ _).mono rfl)

theorem keep_lanesUp (l : List Nat) : Same 16777218 s (forAll l (laneUp p) s) := same_forAll.go (fun k u => keep_laneUp p u k) l s

theorem keep_portComesUp : Same 16777218 s (portComesUp p s) := (keep_lanesUp p s _).trans ((keep_modPort p _ _).mono rfl)

theorem getLane_laneUp_other {k n : Nat} (h : n ≠ k) : getLane (laneUp p k s) n = getLane s n := (getLane_modLane ..).trans (if_neg h)

theorem lit_laneUp (k : Nat) : (getLane (laneUp p k s) k).signal = true ∧ (getLane (laneUp p k s) k).cdr = true := by
  rw [laneUp, getLane_modLane, if_pos rfl]
  exact ⟨rfl, rfl⟩

theorem nrz_laneUp (k n : Nat) : (getLane (laneUp p k s) n).nrz = (getLane s n).nrz := by
  by_cases same : n = k
  · rw [same, laneUp, getLane_modLane, if_pos rfl]
    rfl
  · rw [getLane_laneUp_other p s same]

theorem nrz_portComesUp (n : Nat) : (getLane (portComesUp p s) n).nrz = (getLane s n).nrz :=
  forAll_unchanged (fun t => (getLane t n).nrz) (fun k u => nrz_laneUp p u k n) _ s

theorem lit_portComesUp {k : Nat} (h : k ∈ lanesOf p (portReg s p)) :
    (getLane (portComesUp p s) k).signal = true ∧ (getLane (portComesUp p s) k).cdr = true := by
  obtain ⟨u, -, -, after⟩ := forAll_entry_own (read := getLane) (g := id) (f := laneUp p) (fun a u n other => getLane_laneUp_other p u other)
    (fun a u => keep_laneUp p u a) Function.injective_id _ s (nodup_lanesOf p (portReg s p)) h
  have lane : getLane (portComesUp p s) k = getLane (laneUp p k u) k := after
  rw [lane]
  exact lit_laneUp p u k

theorem getPort_portComesUp (q : Nat) :
    getPort (portComesUp p s) q = if q = p then { getPort s p with st := .up, anDone := runsAn s p } else getPort s q := by
  have port := getPort_forAll (f := laneUp p) (fun _ _ => by rfl) (lanesOf p (portReg s p)) s
  rw [portComesUp, getPort_modPort, port, port, runsAn_congr (keep_lanesUp p s _ .regs rfl)]

end

section
variable {p : Nat} {partner : BitVec 16} {s : State}

theorem upIfAligned_stays (h : rxAligned s p partner = false) : upIfAligned p partner s = s := if_pos (by rw [h]; rfl)

theorem upIfAligned_up (h : rxAligned s p partner = true) :
    upIfAligned p partner s = clnEvent 0x0A01 p (upData p (portComesUp p s)) 0 (portComesUp p s) := if_neg (by rw [h]; exact Bool.false_ne_true)

theorem getLane_upIfAligned_up (h : rxAligned s p partner = true) (k : Nat) : getLane (upIfAligned p partner s) k = getLane (portComesUp p s) k := by
  rw [upIfAligned_up h, getLane_congr (keep_clnEvent _ _ _ _ _ .cln rfl)]

theorem getPort_upIfAligned_up (h : rxAligned s p partner = true) (q : Nat) : getPort (upIfAligned p partner s) q =
    if q = p then { getPort s p with st := .up, anDone := runsAn s p } else getPort s q := by
  rw [upIfAligned_up h, getPort_congr (keep_clnEvent _ _ _ _ _ .cln rfl), getPort_portComesUp]

theorem nrz_upIfAligned (k : Nat) : (getLane (upIfAligned p partner s) k).nrz = (getLane s k).nrz := by
  cases h : rxAligned s p partner
  · rw [upIfAligned_stays h]
  · rw [getLane_upIfAligned_up h, nrz_portComesUp]

theorem tally_upIfAligned : (upIfAligned p partner s).tally = s.tally := by
  cases h : rxAligned s p partner
  · rw [upIfAligned_stays h]
  · rw [upIfAligned_up h, keep_clnEvent _ _ _ _ _ .tally rfl]
    exact keep_portComesUp p s .tally rfl

theorem getPort_upIfAligned_other {q : Nat} (other : q ≠ p) : getPort (upIfAligned p partner s) q = getPort s q := by
  cases h : rxAligned s p partner
  · rw [upIfAligned_stays h]
  · rw [getPort_upIfAligned_up h, if_neg other]

end

/-- Alignment in the words of the receiver: what it depends on before the bits were taken. -/
theorem rxAligned_takeNrz (p : Nat) (bits : List Bool) (partner : BitVec 16) (s : State) : rxAligned (takeNrz p bits s) p partner =
    (portPam4 s p || (nrzSynced (laneReceives (getLane s p) bits).1 && (! runsAn s p || fullDuplex partner))) := by
  have regs := keep_takeNrz p bits s .regs rfl
  rw [rxAligned, portPam4_congr regs, runsAn_congr regs]
  cases pam : portPam4 s p
  · rw [nrz_takeNrz bits pam]
  · rfl

/-! ## The checkers (R408, R409) -/

section
variable (k n : Nat) (s : State)

theorem getLane_drivePattern_other {j : Nat} (h : j ≠ k) : getLane (drivePattern k n s) j = getLane s j := (getLane_modLane ..).trans (if_neg h)

theorem gen_drivePattern : (getLane (drivePattern k n s) k).gen = (prbsRun (lanePam s k) (lanePat s k) n (getLane s k).gen).2 := by
  unfold drivePattern
  dsimp only
  rw [getLane_modLane, if_pos rfl]
  split <;> rfl

end

/-- A checker finds its lock, or loses it: the lane's pattern runs on over the bits. -/
def lockAcquired (x : LaneRx) (s : State) : State :=
  modLane x.lane.val (fun y => { y with prbs := true, prbsSec := true }) (drivePattern x.lane.val x.bits.length s)
def lockLost (x : LaneRx) (s : State) : State :=
  let k := x.lane.val
  count 18 k 2 (prbsErrors (lanePam s k) (lanePat s k) x.reg x.bits)
    (modLane k (fun y => { y with prbs := false }) (drivePattern k x.bits.length s))

section
variable (x : LaneRx) (s : State)

theorem execPrbsLockAcquired_eq : execPrbsLockAcquired x s =
    act (checks s x.lane.val && ! (getLane s x.lane.val).prbs && prbsLocks (lanePam s x.lane.val) (lanePat s x.lane.val) x.bits)
      (lockAcquired x) s := rfl

theorem execPrbsLockLost_eq : execPrbsLockLost x s =
    act (checks s x.lane.val && (getLane s x.lane.val).prbs && prbsLoses (lanePam s x.lane.val) (lanePat s x.lane.val) x.reg x.bits)
      (lockLost x) s := rfl

theorem getLane_lockAcquired (j : Nat) : getLane (lockAcquired x s) j =
    if j = x.lane.val then { getLane (drivePattern x.lane.val x.bits.length s) x.lane.val with prbs := true, prbsSec := true }
    else getLane s j := by
  rw [lockAcquired, getLane_modLane]
  split
  · rfl
  · next other => exact getLane_drivePattern_other _ _ _ other

theorem getLane_lockLost (j : Nat) : getLane (lockLost x s) j =
    if j = x.lane.val then { getLane (drivePattern x.lane.val x.bits.length s) x.lane.val with prbs := false } else getLane s j := by
  rw [lockLost, getLane_congr (keep_count _ _ _ _ _ .cln rfl), getLane_modLane]
  split
  · rfl
  · next other => exact getLane_drivePattern_other _ _ _ other

theorem counted_lockLost :
    counted 18 x.lane.val 2 (prbsErrors (lanePam s x.lane.val) (lanePat s x.lane.val) x.reg x.bits) s (lockLost x s) := by
  have driven := (keep_drivePattern x.lane.val x.bits.length s).trans (keep_modLane x.lane.val (fun y => { y with prbs := false }) _)
  exact count_tally (driven .tally rfl) _ _ _ _

end

/-! ## The statement -/

/-- Settles O44: the writes by the parts they are made of, the events of the bring-up by what each leaves of the port and its lanes. -/
theorem clientPorts : Obligations.ClientPorts := by
  unfold Obligations.ClientPorts
  refine ⟨fun p v s => ?_, fun k v s => ?_, fun p s => ?_, fun p reqTx snr eq s => ?_, fun p mask s => ?_, fun p bits partner s => ?_,
    fun p mask s => ?_, fun x s => ?_, fun x s => ?_⟩
  · refine writes_refuseOr (f := portWritten p.val (v &&& Reg.clnPort.row.wmask)) rfl (fun t => keep_execClnPortWrite p v s) (mask_sub rfl)
      fun _ => ?_
    simp only [setStatus_gets]
    have st := st_portWritten p.val (v &&& Reg.clnPort.row.wmask) s
    rw [portEn_masked] at st
    refine ⟨getReg_portWritten .., fun on off => ?_, fun off on => ?_, fun same => ?_⟩
    · rw [st, on, off]
      rfl
    · rw [st, on, off]
      rfl
    · rw [st, if_pos same]
  · refine writes_refuseOr (f := laneWritten k.val (v &&& Reg.clnLane.row.wmask)) rfl (fun t => keep_execClnLaneWrite k v s) (mask_sub rfl)
      fun _ => ?_
    simp only [setStatus_gets]
    generalize v &&& Reg.clnLane.row.wmask = w
    have regs := regs_laneStored k.val w s
    have written : laneLoop (laneStored k.val w s) k.val = fld w 9 8 := (laneLoop_congr regs _).trans (laneLoop_setLane ..)
    have port := getPort_laneStored k.val w s
    refine ⟨getReg_laneWritten .., prbs_laneWritten, fun p here ended test last => ?_, fun p here looped enabled => ?_⟩
    · refine st_portFollowsLoop_ended ((portOfLane_laneStored ..).trans here) ended (by rw [port]; exact test) fun j mem => ?_
      rw [portReg_congr regs, portReg_setLane _ _ _ (portOfLane_some here).1] at mem
      by_cases same : j = k.val
      · rw [same, written, ended]
      · rw [laneLoop_congr regs, laneLoop_setLane_other _ _ _ same, last j mem same]
    · exact st_portFollowsLoop_looped ((portOfLane_laneStored ..).trans here) looped written (by rw [port]; exact enabled)
  · refine actsIf_act rfl (fun t => keep_execClnPortRefReady p s) (mask_sub rfl) fun _ => ?_
    split
    · refine ⟨by rw [getPort_enterTest, if_pos rfl], fun align => ?_, fun q other => by rw [getPort_enterTest, if_neg other]⟩
      rw [getPort_enterTest, if_pos rfl] at align
      cases align
    · have port := getPort_toSignal p.val p.val s
      rw [if_pos rfl] at port
      rw [port]
      refine ⟨by split <;> rfl, fun align => ?_, fun q other => by rw [getPort_toSignal, if_neg other]⟩
      split at align
      · cases align
      · next still =>
        rw [if_neg still]
        rfl
  · refine actsIf_act (execClnTrainingDone_eq p reqTx snr eq s) (fun t => keep_execClnTrainingDone p reqTx snr eq s) (mask_sub rfl) fun _ => ?_
    refine ⟨by rw [getPort_portTrained, if_pos rfl]; rfl, fun q other => by rw [getPort_portTrained, if_neg other], fun j small => ?_⟩
    obtain ⟨n, lane⟩ := getLane_lanesTrained p.val snr eq s small
    rw [getLane_portTrained p.val snr eq s reqTx small, lane, ← testBit_lowSnr small]
    exact ⟨rfl, rfl, rfl, rfl, rfl, rfl⟩
  · refine actsIf_act rfl (fun t => keep_execClnTrainFail p mask s) (mask_sub rfl) fun _ => ?_
    have counts := keep_count 17 p.val 14 1 s
    exact ⟨(keep_clnEvent _ _ _ _ _ .cln rfl).trans (counts .cln rfl), keep_clnEvent _ _ _ _ _ .tally rfl,
      flagged_clnEvent counts (by decide), recorded_clnEvent counts⟩
  · refine actsIf_act (execClnLinkUp_eq p bits partner s) (fun t => keep_execClnLinkUp p bits partner s) (mask_sub rfl) fun _ => ?_
    have taken := keep_takeNrz p.val bits s
    have aligned := rxAligned_takeNrz p.val bits partner s
    have port (q : Nat) := getPort_takeNrz p.val bits s q
    intro r fit
    refine ⟨fun nrz => ⟨tally_upIfAligned.trans (counted_takeNrz bits nrz), (nrz_upIfAligned _).trans (nrz_takeNrz bits nrz)⟩, fun pam => ?_,
      fun q other => (getPort_upIfAligned_other other).trans (port q), fun stays => ?_, fun up => ?_⟩
    · rw [tally_upIfAligned, takeNrz_pam4 bits pam]
    · rw [upIfAligned_stays (aligned.trans stays)]
      exact ⟨ports_takeNrz .., taken .flags rfl, taken .isls rfl⟩
    · have rises := aligned.trans up
      rw [getPort_upIfAligned_up rises, if_pos rfl, port]
      refine ⟨rfl, rfl, runsAn_congr (taken .regs rfl) _, ?_, fun k mem => ?_⟩
      · rw [upIfAligned_up rises]
        exact flagged_clnEvent ((taken.mono rfl : Same 553648130 s _).trans ((keep_portComesUp p.val _).mono rfl)) (by decide)
      · rw [getLane_upIfAligned_up rises]
        exact lit_portComesUp p.val _ (by rw [portReg_congr (taken .regs rfl)]; exact mem)
  · refine actsIf_act rfl (fun t => keep_execClnAlignFail p mask s) (mask_sub rfl) fun _ => ?_
    have down := keep_retrain p.val s
    have cln := keep_clnEvent 0x0A04 p.val (packData [(8, mask)]) 5 (retrain p.val s) .cln rfl
    refine ⟨fun k => ?_, ?_, flagged_clnEvent down (by decide), recorded_clnEvent down⟩
    · rw [getLane_congr cln, getLane_retrain]
      split <;> rfl
    · rw [getPort_congr cln, st_retrain]
  · intro k
    refine actsIf_act (execPrbsLockAcquired_eq x s) (fun t => keep_execPrbsLockAcquired x s) (mask_sub rfl) fun _ => ?_
    rw [getLane_lockAcquired, if_pos rfl]
    exact ⟨rfl, rfl, gen_drivePattern .., fun j other => (getLane_lockAcquired x s j).trans (if_neg other)⟩
  · intro k
    refine actsIf_act (execPrbsLockLost_eq x s) (fun t => keep_execPrbsLockLost x s) (mask_sub rfl) fun _ => ?_
    rw [getLane_lockLost, if_pos rfl]
    exact ⟨rfl, counted_lockLost x s, gen_drivePattern .., fun j other => (getLane_lockLost x s j).trans (if_neg other)⟩

end Sys2Proof.Machine
end
